-- ==== Sys2Proof/Word.lean ====
section
/-! DEFINITION. The plain word types of the module and their little-endian byte order (R8). -/

namespace Sys2Proof

/-- One byte of memory, a packet or a record. -/
abbrev Byte := BitVec 8

/-- A lane word of the vector engine (Table 6.1). -/
abbrev Word32 := BitVec 32

/-- A scalar register, a tray address or a 64-bit field. -/
abbrev Word64 := BitVec 64

/-- The value of a list of bytes, byte 0 at the lowest address (R8). -/
def leNat : List Byte → Nat
  | [] => 0
  | b :: bs => b.toNat + 256 * leNat bs

/-- The `n` little-endian bytes of a value (R8). -/
def leBytes : Nat → Nat → List Byte
  | 0, _ => []
  | n + 1, v => BitVec.ofNat 8 v :: leBytes n (v / 256)

/-- Bits `[lsb + width - 1 : lsb]` of a number. -/
def bits (v lsb width : Nat) : Nat := (v >>> lsb) % 2 ^ width

/-- One bit of a number. -/
def bit (v n : Nat) : Bool := v.testBit n

/-- A truth value as a number. -/
def b2n (b : Bool) : Nat := if b then 1 else 0

end Sys2Proof
end

