-- ==== Sys2Proof/Formats.lean ====
section
/-! DEFINITION. The operand groups of the commands: instruction formats (Tables 6.4 and 5.6), the reference of a packet's command,
and the messages that reach the module over its links. Every field keeps the width the spec gives it. -/

namespace Sys2Proof

/-- Format S (Table 6.4): scalar arithmetic with register operands. -/
structure FmtS where
  sd : BitVec 5
  sa : BitVec 5
  sb : BitVec 5
  rsv : BitVec 37
deriving DecidableEq, Repr

/-- Format SI (Table 6.4): scalar arithmetic with an immediate, and SYS. -/
structure FmtSI where
  sd : BitVec 5
  sa : BitVec 5
  rsv : BitVec 10
  imm : BitVec 32
deriving DecidableEq, Repr

/-- Format SM (Table 6.4): scalar loads and stores. -/
structure FmtSM where
  sd : BitVec 5
  sa : BitVec 5
  space : BitVec 2
  rsv : BitVec 8
  imm : BitVec 32
deriving DecidableEq, Repr

/-- Format B (Table 6.4): branches. -/
structure FmtB where
  sa : BitVec 5
  sb : BitVec 5
  rsv : BitVec 10
  imm : BitVec 32
deriving DecidableEq, Repr

/-- Format V (Table 6.4): the vector classes. -/
structure FmtV where
  type : BitVec 3
  mkb : BitVec 1
  mr : BitVec 3
  rnd : BitVec 2
  sat : BitVec 1
  d : BitVec 5
  a : BitVec 5
  b : BitVec 5
  c : BitVec 5
  ss : BitVec 5
  bs : BitVec 1
  imm : BitVec 16
deriving DecidableEq, Repr

/-- Format C (Table 6.4): conversions. -/
structure FmtC where
  fmtSrc : BitVec 4
  fmtDst : BitVec 4
  mkb : BitVec 1
  mr : BitVec 3
  rnd : BitVec 2
  sat : BitVec 1
  vd : BitVec 5
  va : BitVec 5
  vs : BitVec 5
  sk : BitVec 5
  sf : BitVec 5
  spart : BitVec 3
  dpart : BitVec 3
  rsv : BitVec 6
deriving DecidableEq, Repr

/-- Format X (Table 6.4): bulk transfers, streams and routing. -/
structure FmtX where
  sd : BitVec 5
  sa : BitVec 5
  sb : BitVec 5
  sc : BitVec 5
  rsv : BitVec 24
  imm : BitVec 8
deriving DecidableEq, Repr

/-- The MTX format (Table 5.6), less its class and op. -/
structure FmtM where
  sa : BitVec 5
  sb : BitVec 5
  all : BitVec 1
  acc : BitVec 1
  accum : BitVec 1
  rsv : BitVec 10
  imm : BitVec 32
deriving DecidableEq, Repr

/-- A vector engine: the one of the logical cluster `cl` (64 y + x) of physical C-die `die`, or the Octave shadow of its instance (R152). -/
structure Eng where
  die : Nat
  cl : Nat
  shadow : Bool
deriving DecidableEq, Repr

/-- The packet that a queue's command came from (R60): its queue, sequence number, context and header flags. -/
structure CmdRef where
  q : Nat
  seq : BitVec 32
  ctx : Nat
  flags : BitVec 12
deriving DecidableEq, Repr

/-- A wrong value made inside a core during one tile operation, for the checks of R114 and R115 to see: a change `s * 2^e` of the
accumulator of output `(i, j)` in accumulation block `block`. -/
structure AccFault where
  i : Nat
  j : Nat
  block : Nat
  s : Int
  e : Int
deriving DecidableEq, Repr

/-- A wrong value made in a stage after the window: the array's copy of output `(i, j)` is changed by `xor`. `cls` says that the stage is
class logic (R119, checks bit 2). -/
structure DupFault where
  i : Nat
  j : Nat
  xor : BitVec 32
  cls : Bool
deriving DecidableEq, Repr

/-- Readings latched at a detection (R487): junction temperature in 1/8 degree, supply in mV, set frequency in MHz. -/
structure Cond where
  tj : BitVec 16
  mv : BitVec 16
  mhz : BitVec 16
deriving DecidableEq, Repr

/-- The route header of a packet on a link (Table 11.8). -/
structure RouteHdr where
  dest : Nat
  src : Nat
  slice : Nat
  ctx : Nat
  gen : Nat
  epoch : Nat
  flits : Nat
  kind : Nat
  hops : Nat
deriving DecidableEq, Repr

/-- The body of an identity beacon (Table 11.4). -/
structure Beacon where
  port : Nat
  numericsGen : Nat
  epochMin : Nat
  epochMax : Nat
  serialDigest : BitVec 64
  trayId : BitVec 32
  straps : BitVec 8
  mtch : BitVec 8
  roster : BitVec 16
  planDigest : BitVec 64
  planGen : BitVec 32
deriving DecidableEq, Repr

/-- The body of a liveness token (Table 12.2). -/
structure LiveToken where
  flags : BitVec 8
  cohort : Nat
  roster : BitVec 16
  health : Nat
  epoch : Nat
  seq : BitVec 32
deriving DecidableEq, Repr

/-- A roster message (R290): each change is a roster index and its new entry. `full` marks the full roster a steward sends after a gap. -/
structure RosterMsg where
  epoch : Nat
  prev : Nat
  primary : Nat
  cohort : Nat
  decision : Nat
  changes : List (Nat × BitVec 32)
  full : Bool
  /-- The primary's thresholds, quota and hold bound, which every roster carries (R308): evict, floor, per_interval, interval_min, hold_ms. -/
  force : Nat × Nat × Nat × Nat × Nat
deriving DecidableEq, Repr

/-- A seal record (R246). -/
structure SealMsg where
  roster : Nat
  ctx : Nat
  step : Nat
  attempt : Nat
  digest : BitVec 64
  flags : Nat
deriving DecidableEq, Repr

/-- A COMMIT (R247), with its harvest mark (R310), and what the steward reports of the member: its lateness in thousandths, its run of
straggling steps, whether a backup of it is active (Table 10.8). -/
structure CommitMsg where
  step : Nat
  attempt : Nat
  seq : Nat
  epoch : Nat
  mark : Bool
  late : Option (Int × Nat × Bool)
deriving DecidableEq, Repr

/-- A contribution chunk of an exchange (R217). `values` are the encoded payload bytes. -/
structure ChunkMsg where
  ctx : Nat
  gen : Nat
  slice : Nat
  step : Nat
  attempt : Nat
  epoch : Nat
  bucket : Nat
  part : Nat
  source : Nat
  index : Nat
  sender : Nat
  payload : List Byte
  digest : BitVec 64
deriving DecidableEq, Repr

/-- What the closing round of a bucket combined over the members (R223). -/
structure CloseMsg where
  members : Nat
  fault : Bool
  minDigest : BitVec 64
  maxDigest : BitVec 64
deriving DecidableEq, Repr

/-- A lateness report (Table 9.3). -/
structure LateMsg where
  roster : Nat
  flags : Nat
  ctx : Nat
  step : Nat
  attempt : Nat
  w : Nat
  wait : Nat
deriving DecidableEq, Repr

/-- A shard report: the fields of one manifest entry (R320). -/
structure ShardMsg where
  roster : Nat
  member : Nat
  flags : Nat
  targets : Nat
  writer : Nat
  bytes : Nat
  digest : List Byte
deriving DecidableEq, Repr

/-- A remote tray load or store (R167, R392). -/
structure RemoteReq where
  slot : Nat
  slice : Nat
  ctx : Nat
  gen : Nat
  tag : Nat
  addr : BitVec 64
  write : Bool
  data : List Byte
  len : Nat
deriving DecidableEq, Repr

/-- What one side of a mirrored pair sends to the other over the mirror engines (R233 to R235, R239, R244). The spec gives the contents of
these transfers and not their layout (DESIGN CHOICE, log entry 13). -/
inductive MKind where
  /-- The partner has issued MIRROR_BIND: `arg` packs its die count and journal MiB, `addr` its bank bytes, `len` its gradient bytes. -/
  | bind
  /-- A part of the standing bank of logical die `arg`, at bank offset `addr`. -/
  | bank
  /-- A journal record that is not yet freed. -/
  | journal
  /-- Everything that a bind copies has been sent; `arg` is the sender's standing index. -/
  | copied
  /-- A retained input; `addr` is its address at the owner. -/
  | input
  /-- The twin holds the retained input at the owner's address `addr`. -/
  | inputAck
  /-- The owner's part of an agreed bucket, or a gradient range outside every bucket; `addr` is its address at the owner. -/
  | grad
  /-- Header, tensor table and hyperparameter table of the update descriptor. -/
  | tables
  /-- The scale-slot values of a STEP_UPDATE, with which the mirror pass begins: `arg` packs watch enable, quiet_n and floor, `addr` is 0. -/
  | slots
  /-- The partner discards its pending bank and the mirror of it, and runs its pass again (R244). -/
  | again
  /-- The partner has released the binding. -/
  | release
  /-- To a spare that takes a lost member's position (R253): the twin begins; `addr` is the last committed step, `len` its commit sequence
  number, `arg` the standing index, bit 1 whether a step is open. -/
  | take
  /-- A part of the lost member's own standing bank, as `bank`. -/
  | ownBank
  /-- A journal record of the lost member, as `journal`. -/
  | ownJournal
  /-- A retained input (`arg` its micro-batch) or an agreed result of the lost member, at its own address. -/
  | ownInput
  | ownGrad
deriving DecidableEq, Repr

/-- A transfer of the mirror engine. -/
structure MirrorMsg where
  kind : MKind
  sender : Nat
  addr : Nat
  len : Nat
  arg : Nat
  step : Nat
  attempt : Nat
  data : List Byte
  digest : Nat
deriving DecidableEq, Repr

/-- What the tests of a start or an Ember test find: failing clusters and channels (die, physical number), blocks failed and spared in all, and a
failure that no pool, trim or fence covers (R421, R427). -/
structure TestFound where
  clusters : List (Nat × Nat)
  channels : List (Nat × Nat)
  failed : Nat
  spared : Nat
  uncovered : Bool
deriving DecidableEq, Repr

end Sys2Proof
end

