-- ==== Sys2Proof/Syntax.lean ====
section
/-! DEFINITION. The commands of the module: one constructor for each row of spec/opcode_table.json, in the table's order. What comes from
outside the module with a command (the host's own stores before a doorbell, a message's fields, a meter's reading) is an operand of it. -/

namespace Sys2Proof

inductive Instr where
  -- opcodes of Table 3.6 (R62, R72): the packet's reference, then its parameters
  | nop (h : CmdRef)
  | ctxCreate (h : CmdRef) (ctx function partition : BitVec 8) (queueQuota journalMib : BitVec 16)
  | ctxDestroy (h : CmdRef) (ctx : BitVec 8)
  | ctxReset (h : CmdRef) (ctx : BitVec 8)
  | queueCreate (h : CmdRef) (queue : BitVec 16) (ctx qflags : BitVec 8) (sqBase cqBase : Word64) (sqLog2 cqLog2 : BitVec 8)
      (msix : BitVec 16) (startSeq cqConsumed : BitVec 32)
  | queueDestroy (h : CmdRef) (queue : BitVec 16)
  | geometryRead (h : CmdRef) (dest : Word64)
  | memCopy (h : CmdRef) (dst src bytes : Word64)
  | memFill (h : CmdRef) (dst bytes pattern : Word64)
  | memDigest (h : CmdRef) (addr bytes : Word64)
  | windowSet (h : CmdRef) (ctx : BitVec 8) (entries : BitVec 16) (table : Word64)
  | cxlMap (h : CmdRef) (port : BitVec 8) (base bytes : Word64)
  | graphLoad (h : CmdRef) (object bytes : Word64)
  | graphUnload (h : CmdRef) (graph : BitVec 16)
  | graphRun (h : CmdRef) (graph microbatch : BitVec 16) (runArg : Word64)
  | eventSignal (h : CmdRef) (event : BitVec 16) (value : Word64)
  | eventWait (h : CmdRef) (event : BitVec 16) (value : Word64)
  | eventRing (h : CmdRef) (log2 : BitVec 8) (msix : BitVec 16) (ring : Word64)
  | stepOpen (h : CmdRef) (step : Word64) (microbatches : BitVec 16)
  | inputRetain (h : CmdRef) (addr bytes : Word64) (microbatch : BitVec 16)
  | microbatchEnd (h : CmdRef) (microbatch : BitVec 16)
  | stepUpdate (h : CmdRef) (optimiser : Word64)
  | stepSeal (h : CmdRef) (step : Word64)
  | stepCommitWait (h : CmdRef) (step : Word64)
  | stepAbort (h : CmdRef) (step : Word64)
  | exchange (h : CmdRef) (buckets : Word64) (count : BitVec 32) (op : BitVec 8)
  | mirrorBind (h : CmdRef) (twin journalMib : BitVec 16)
  | mirrorRelease (h : CmdRef)
  | stragglerSet (h : CmdRef) (thresholdPct : BitVec 8) (runSteps : BitVec 16)
  | harvestTarget (h : CmdRef) (target kind : BitVec 8) (base bytes : Word64)
  | harvestPolicy (h : CmdRef) (everySteps timerS : BitVec 32)
  | harvestNow (h : CmdRef)
  | restore (h : CmdRef) (manifest : Word64) (rflags : BitVec 8)
  | importA2 (h : CmdRef) (manifest : Word64)
  | powerPeakSet (h : CmdRef) (peakW : BitVec 32)
  | powerState (h : CmdRef) (state : BitVec 8)
  | energyMode (h : CmdRef) (mode : BitVec 8)
  | energyRead (h : CmdRef) (dest : Word64) (ctx : BitVec 8)
  | almanacRead (h : CmdRef) (first count : BitVec 32) (dest : Word64)
  | attest (h : CmdRef) (dest : Word64) (nonce : BitVec 256)
  | diagRun (h : CmdRef) (test target : BitVec 16)
  | troubleRead (h : CmdRef) (dest : Word64)
  | almanacNote (h : CmdRef) (record : Word64)
  | partitionSet (h : CmdRef) (partition dieMask : BitVec 8)
  | sliceDefine (h : CmdRef) (slice : BitVec 16) (definition : Word64)
  | routeWrite (h : CmdRef) (entries : BitVec 32) (table : Word64)
  | planLoad (h : CmdRef) (bytes : BitVec 32) (plan : Word64)
  | rosterJoin (h : CmdRef) (roster : BitVec 16) (cohort role : BitVec 8)
  | fwStage (h : CmdRef) (image bytes : Word64)
  | fwActivate (h : CmdRef)
  | shutdown (h : CmdRef)
  -- queues, journal and controller
  | queueDbSqTail (fn q : Nat) (tail : BitVec 16) (host : List (Nat × Byte))
  | packetAccept (q : Nat)
  | commandIssue (q : Nat)
  | replyWrite (q : Nat)
  | queueDbCqHead (fn q : Nat) (seq : BitVec 32)
  | queueAdminCfg (fn : Nat) (value : BitVec 32)
  | twinJournalAck (q : Nat) (seq : BitVec 32)
  | holdReleased (ctx : Nat)
  | controllerHeartbeat
  | mcTakeover (selfReported : Bool)
  -- graph dispatch and streams
  | taskStart (ctx run task : Nat)
  | taskCompletion (ctx run task : Nat)
  | tileArrival (ctx run tile : Nat)
  | creditGrant (ctx run edge consumer : Nat)
  -- matrix class
  | mtxMma (e : Eng) (f : FmtM)
  | mtxStore (e : Eng) (f : FmtM)
  | mtxLoad (e : Eng) (f : FmtM)
  | mtxCsload (e : Eng) (f : FmtM)
  | mtxWait (e : Eng) (f : FmtM)
  | mmaComplete (e : Eng) (core : Nat) (acc : List AccFault) (dup : List DupFault) (parity : List (Nat × Word32)) (cond : Cond)
  | cdieMtxCheckCtl (fn die : Nat) (value : BitVec 32)
  -- SYS and scalar classes
  | sysNop (e : Eng) (f : FmtSI)
  | endKernel (e : Eng) (f : FmtSI)
  | csrr (e : Eng) (f : FmtSI)
  | csrw (e : Eng) (f : FmtSI)
  | add (e : Eng) (f : FmtS)
  | sub (e : Eng) (f : FmtS)
  | mul (e : Eng) (f : FmtS)
  | and (e : Eng) (f : FmtS)
  | or (e : Eng) (f : FmtS)
  | xor (e : Eng) (f : FmtS)
  | shl (e : Eng) (f : FmtS)
  | shr (e : Eng) (f : FmtS)
  | sar (e : Eng) (f : FmtS)
  | slt (e : Eng) (f : FmtS)
  | sltu (e : Eng) (f : FmtS)
  | min (e : Eng) (f : FmtS)
  | max (e : Eng) (f : FmtS)
  | minu (e : Eng) (f : FmtS)
  | maxu (e : Eng) (f : FmtS)
  | addi (e : Eng) (f : FmtSI)
  | muli (e : Eng) (f : FmtSI)
  | andi (e : Eng) (f : FmtSI)
  | ori (e : Eng) (f : FmtSI)
  | xori (e : Eng) (f : FmtSI)
  | shli (e : Eng) (f : FmtSI)
  | shri (e : Eng) (f : FmtSI)
  | sari (e : Eng) (f : FmtSI)
  | slti (e : Eng) (f : FmtSI)
  | sltui (e : Eng) (f : FmtSI)
  | li (e : Eng) (f : FmtSI)
  | lui (e : Eng) (f : FmtSI)
  | sld (e : Eng) (f : FmtSM)
  | sst (e : Eng) (f : FmtSM)
  | beq (e : Eng) (f : FmtB)
  | bne (e : Eng) (f : FmtB)
  | blt (e : Eng) (f : FmtB)
  | bge (e : Eng) (f : FmtB)
  | bltu (e : Eng) (f : FmtB)
  | bgeu (e : Eng) (f : FmtB)
  | jmp (e : Eng) (f : FmtB)
  -- vector classes
  | vadd (e : Eng) (f : FmtV)
  | vsub (e : Eng) (f : FmtV)
  | vmul (e : Eng) (f : FmtV)
  | vfma (e : Eng) (f : FmtV)
  | vfms (e : Eng) (f : FmtV)
  | vmin (e : Eng) (f : FmtV)
  | vmax (e : Eng) (f : FmtV)
  | vabs (e : Eng) (f : FmtV)
  | vneg (e : Eng) (f : FmtV)
  | vand (e : Eng) (f : FmtV)
  | vor (e : Eng) (f : FmtV)
  | vxor (e : Eng) (f : FmtV)
  | vshl (e : Eng) (f : FmtV)
  | vshr (e : Eng) (f : FmtV)
  | vsar (e : Eng) (f : FmtV)
  | vsel (e : Eng) (f : FmtV)
  | vmov (e : Eng) (f : FmtV)
  | vlane (e : Eng) (f : FmtV)
  | vperm (e : Eng) (f : FmtV)
  | vbcast (e : Eng) (f : FmtV)
  | vget (e : Eng) (f : FmtV)
  | vput (e : Eng) (f : FmtV)
  | eq (e : Eng) (f : FmtV)
  | ne (e : Eng) (f : FmtV)
  | lt (e : Eng) (f : FmtV)
  | le (e : Eng) (f : FmtV)
  | gt (e : Eng) (f : FmtV)
  | ge (e : Eng) (f : FmtV)
  | un (e : Eng) (f : FmtV)
  | mand (e : Eng) (f : FmtV)
  | mor (e : Eng) (f : FmtV)
  | mxor (e : Eng) (f : FmtV)
  | mnot (e : Eng) (f : FmtV)
  | mfroms (e : Eng) (f : FmtV)
  | mtos (e : Eng) (f : FmtV)
  | vld (e : Eng) (f : FmtV)
  | vst (e : Eng) (f : FmtV)
  | vlds (e : Eng) (f : FmtV)
  | vsts (e : Eng) (f : FmtV)
  | vgath (e : Eng) (f : FmtV)
  | vscat (e : Eng) (f : FmtV)
  | vexp (e : Eng) (f : FmtV)
  | vlog (e : Eng) (f : FmtV)
  | vrsq (e : Eng) (f : FmtV)
  | vdiv (e : Eng) (f : FmtV)
  | vrcp (e : Eng) (f : FmtV)
  | vredSum (e : Eng) (f : FmtV)
  | vredMax (e : Eng) (f : FmtV)
  | vredMin (e : Eng) (f : FmtV)
  | argmax (e : Eng) (f : FmtV)
  | argmin (e : Eng) (f : FmtV)
  | wset (e : Eng) (f : FmtV)
  | wadd (e : Eng) (f : FmtV)
  | wmax (e : Eng) (f : FmtV)
  | wmul (e : Eng) (f : FmtV)
  | wexpadd (e : Eng) (f : FmtV)
  | wfma (e : Eng) (f : FmtV)
  | wget (e : Eng) (f : FmtV)
  | wred (e : Eng) (f : FmtV)
  | cvt (e : Eng) (f : FmtC)
  | cvtTs (e : Eng) (f : FmtC)
  | cvtBp (e : Eng) (f : FmtC)
  | cvtBu (e : Eng) (f : FmtC)
  -- bulk transfers and streams
  | xin (e : Eng) (f : FmtX)
  | xout (e : Eng) (f : FmtX)
  | xwait (e : Eng) (f : FmtX)
  | transferComplete (e : Eng) (n : Nat)
  | trecv (e : Eng) (f : FmtX)
  | trecva (e : Eng) (f : FmtX)
  | trel (e : Eng) (f : FmtX)
  | tsend (e : Eng) (f : FmtX)
  | trsend (e : Eng) (f : FmtX)
  | tclose (e : Eng) (f : FmtX)
  -- Octave check
  | octaveCompare (e : Eng) (cond shadowCond : Cond)
  | shadowTimeout (e : Eng)
  | cdieVecOctaveCtl (fn die : Nat) (value : BitVec 32)
  -- memory tiers
  | patrolRead (die channel line : Nat) (data check : List Byte)
  | cdieMemMigrate (fn die : Nat) (value : BitVec 32)
  | memMigrationDone (die : Nat)
  | channelStopsAnswering (die copied : Nat)
  | remoteTrayRequest (r : RemoteReq)
  | remoteTrayResponse (tag : Nat) (data : List Byte) (gen : Nat) (poison : Bool)
  | bar4Access (fn off size : Nat) (write : Bool) (data : List Byte)
  -- update unit and numerics watch
  | updatePassEnd (ctx : Nat) (mirror : Bool)
  | mirrorPassReport (ctx : Nat) (digest : Word64) (checksOk : Bool)
  | numwCtl (fn ctx : Nat) (value : BitVec 32)
  -- collective engine
  | exchangeChunk (m : ChunkMsg) (adderFault : Bool)
  | openingRound (ctx bucket : Nat) (minDigest maxDigest : Word64) (differing : Nat)
  | closingRound (ctx bucket : Nat) (m : CloseMsg)
  | latenessReport (m : LateMsg)
  -- mirror engine, seal and commit
  | mirrorTransfer (ctx : Nat) (m : MirrorMsg)
  | mirrorRepair (ctx : Nat) (addr : Word64) (data : Option (List Byte))
  | mirrorBindTimeout (ctx : Nat)
  | sealRecord (slice : Nat) (m : SealMsg)
  | commit (ctx : Nat) (m : CommitMsg)
  -- links, discovery, routing
  | linkTrained (port width : Nat)
  | identityBeacon (port : Nat) (b : Beacon)
  | beaconSend (port : Nat)
  | portMissing (port : Nat)
  | flitReceive (port : Nat) (flit : List Byte) (corrected : Nat) (uncorr : Bool)
  | linkDown (port cause : Nat)
  | laneFailing (port lane cause : Nat)
  | spare (port lane : Nat)
  | width (port width : Nat)
  | laneRetrain (port lane : Nat) (clean : Bool)
  | packetForward (port vc : Nat) (h : RouteHdr) (payload : List Byte)
  | linkPortCtl (fn port : Nat) (value : BitVec 32)
  | bridgeLaneSpare (bridge lane : Nat)
  | bridgeLaneRetrain (bridge lane : Nat) (clean : Bool)
  -- cohorts and stewards
  | livenessTokenSend (port : Nat)
  | livenessToken (port : Nat) (t : LiveToken)
  | tokenSilence (port : Nat)
  | suspicionReport (reporter suspect port cause epoch : Nat)
  | stewardDecision (suspect cause : Nat)
  | roster (m : RosterMsg)
  | joinAnnouncement (index cohort role : Nat)
  | epochOneIssue
  | resetNotice (index epoch boundMs : Nat)
  | resetNoticeExpiry (index : Nat)
  | departureNotice (index epoch : Nat)
  | primaryTakeover (reachable : Nat)
  | healthScore
  | fabricManagerDelivery (kind : Nat) (data : List Byte) (arg : Nat)
  | rosterNotice (hang : Bool) (index epoch : Nat)
  -- Harvest
  | harvestMark (ctx : Nat) (m : CommitMsg) (generation : Nat)
  | chunkWriteDone (ctx : Nat) (twin : Bool) (chunk : Nat) (ok : Bool)
  | shardReport (ctx : Nat) (m : ShardMsg)
  | harvestWritten (ctx : Nat)
  | manifestCopy (ctx : Nat) (data : List Byte)
  | restoreVote (ctx roster generation : Nat) (hash : List Byte) (pass : Bool)
  | restoreCommit (ctx : Nat)
  | restoreVoteTimeout (ctx : Nat)
  -- spares, ageing, Almanac
  | setAsideTest (die cluster : Nat) (core : Option Nat) (pass : Bool)
  | pathDelayReading (die cluster : Nat) (delay : Int)
  | replanHoldEnd (die cluster : Nat)
  | powerStageFault (rail stage : Nat)
  | almanacCtl (fn : Nat) (value : BitVec 32)
  | blockSealed (programmed : Bool)
  | powerRecord (bands : List Nat)
  -- supply, power and temperature
  | overVoltage
  | highInput (above : Bool) (voltage : Nat)
  | supplyWarning (voltage : Nat)
  | supplyWarningRelease (voltage : Nat)
  | throttleN (low : Bool) (voltage : Nat)
  | supplyReset (voltage : Nat)
  | lossOfInput
  | peakLimiter (sample projected mean voltage power : Nat) (windowEnd : Bool)
  | dieCapUpdate (other : Int) (base draw : List Nat)
  | pwrTray (fn : Nat) (value : BitVec 32)
  | equinoxShare (share : Int)
  | energySplit (die : Nat) (energy : Nat) (cycles : List (Nat × Nat))
  | droop (die cluster : Nat)
  | droopClear (die cluster : Nat)
  | frequencyChange (die cluster : Nat)
  | droopLowering (die cluster : Nat) (raise : Bool)
  | thermalReading (die cluster : Nat) (tj : Int) (inlet : Int) (flow hotMs : Nat)
  | thermalTrip (die : Nat)
  | idleEntry
  | fallowExit (cause : Nat)
  | fallowExitDone
  | pwrCtl (fn : Nat) (value : BitVec 32)
  -- Vigil, resets, teardown
  | vigilHang (kind unit die ctx run : Nat) (tasks : List Nat) (clusters : List Nat)
  | resetEscalated (level unit : Nat)
  | resetDone (level unit us : Nat)
  | remoteRequestResend (tag : Nat)
  | vigilRemoteTimeout (tag : Nat)
  | teardownAck (ctx engine : Nat)
  | sweepToken (source ctx gen : Nat)
  | sweepTokenReturn (peer ctx gen : Nat)
  | sweepTokenTimeout (peer ctx : Nat)
  | vigilFence (fn : Nat) (value : BitVec 32)
  -- start, shutdown, pins
  | powerGood (straps : List (BitVec 2)) (otpOk fdieOk : Bool)
  | startComplete (seconds : Nat) (fdieOk block0Ok : Bool) (lastValid : Option Nat) (found : TestFound)
  | shutdownReqN
  | emberDone (ms : Nat) (found : TestFound)
  | emberTimeout
  | heartbeat
  -- host interface
  | hotReset
  | pcieLinkDown
  | functionLevelReset (fn : Nat)
  | busMasterEnableClear (fn : Nat)
  | d3hot (fn : Nat)
  | vfEnableClear
  | msixUnmask (fn vector : Nat)
  -- management interface
  | traySet (pcie : Bool) (grant peak : BitVec 16)
  | trayIdSet (pcie : Bool) (trayId : BitVec 32)
  | almanacGet (pcie : Bool) (seq : Word64) (offset : BitVec 32) (length : BitVec 16)
  | unlockNonce (pcie : Bool)
  | unlock (pcie : Bool) (ed mldsa : List Byte)
  | statusGet (pcie : Bool)
  | setEndpointId (pcie : Bool) (eid : BitVec 8)
  | setdasa (static dynamic : BitVec 7)
  | getVersion (pcie : Bool)
  | getCapabilities (pcie : Bool)
  | negotiateAlgorithms (pcie : Bool) (ed25519 sha256 : Bool)
  | getDigests (pcie : Bool)
  | getCertificate (pcie : Bool) (slot : BitVec 8) (offset length : BitVec 16)
  | challenge (pcie : Bool) (slot : BitVec 8) (nonce : List Byte)
  | getMeasurements (pcie : Bool) (index : BitVec 8) (sign : Bool) (nonce : List Byte)
  | chunkGet (pcie : Bool) (handle : BitVec 8) (index : BitVec 16)
  | getPqSignature (pcie : Bool)
  | getPqKey (pcie : Bool)
  | getSensorReading (pcie : Bool) (sensor : BitVec 16)
  | getStateSensorReadings (pcie : Bool) (sensor : BitVec 16)
  | setEventReceiver (pcie : Bool) (receiver : BitVec 8)
  | pldmSensorUpdate
  | cxlPortChanged (port : Nat) (up present : Bool) (width rate : Nat) (serial : Word64) (capacity : Word64)
  -- register access (R477 to R480)
  | satClear (fn off size : Nat) (value : Word64)
  | stClear (fn off size : Nat) (value : Word64)
  | halfReadLatch (fn off : Nat)
  | registerWrite (fn off size : Nat) (value : Word64)
  -- the ends of what earlier rows begin
  | supplyResetRelease
  | quiesceTimeout
  | fallowEntryDone
  | pcieLinkUp (width rate : Nat) (flit : Bool)
  | busMasterEnableSet (fn : Nat)
  | d0Entry (fn : Nat)
  | vfEnableSet (numVfs : Nat)
  | functionLevelResetDone (fn : Nat)
  | bar4Resize (fn sizeLog2 : Nat)
  | twinJournalRecord (peer ctx : Nat) (q : Nat) (seq : BitVec 32) (data : List Byte)
  | probe (index : Nat)
  | probeAnswer (index : Nat)
  | fullRosterRequest (index : Nat)
  | commitRecordRequest (index ctx step attempt : Nat)
  | epochRequest (cohort decision : Nat) (suspects : List Nat) (wantSpare : Bool)
  | harvestRequest (slice : Nat) (member : Nat) (policy : Option (Nat × Nat)) (closedEverywhere : Bool)
  | hardFaultReport (index ctx cause : Nat)
  | chunkResendRequest (ctx bucket part source index : Nat)
  | commandProcessorHeartbeat (die : Nat)
  | illegalInstruction (e : Eng) (word : Word64)
deriving DecidableEq, Repr

end Sys2Proof
end

