-- ==== Sys2Proof/Config.lean ====
section
/-! DEFINITION. What the spec leaves open, as constants without a body: no proof can see a value of them. The first argument of a free
value is the model's own counter `State.free` where the value may differ each time. -/

namespace Sys2Proof.Config

/-- Whether the event ring of a context is full when a record is written (R76 gives no consumer index). -/
opaque ringFull : Nat → Nat → Bool

/-- Whether a tray slot other than the module's own holds a module at the time of an access (R162). -/
opaque slotOccupied : Nat → Nat → Bool

/-- A byte that another module of the tray answers to a command's read (R167). -/
opaque remoteByte : Nat → Nat → Byte

/-- A byte of a line delivered as poison (R160, R172). -/
opaque poisonByte : Nat → Byte

/-- A byte of region 10: the spec gives the records' sizes and not their places (R65, R165). -/
opaque journalByte : Nat → Nat → Byte

/-- How far a block's local count has moved between two of its records, beyond one (R178). -/
opaque countAdvance : Nat → Nat

/-- The serial's 16 bytes (Table 17.2). -/
opaque serialByte : Nat → Byte

/-- MC_ID.stepping (Table 20.3). -/
opaque stepping : Nat

/-- Rosley's PCI-SIG vendor identifier (R438). -/
opaque vendor : Nat

/-- A byte of the header of the image that the module was delivered with (Table 17.3). -/
opaque factoryByte : Nat → Byte

/-- The root slots of the OTP: slot, byte (Table 17.2). -/
opaque rootHash : Nat → Nat → Byte

/-- The revoke fuses (Table 17.2). -/
opaque revoked : Nat → Bool

/-- The service key hash of the OTP (Table 17.2). -/
opaque serviceHash : Nat → Byte

/-- The device secret of the OTP (Table 17.2). -/
opaque secretByte : Nat → Byte

/-- Ed25519 of RFC 8032: a byte of the public key of a private key. -/
opaque edPublic : List Byte → Nat → Byte

/-- Ed25519 of RFC 8032, pure mode: key, message, byte of the signature. -/
opaque edSign : List Byte → List Byte → Nat → Byte

/-- Ed25519 verification: public key, message, signature. -/
opaque edVerify : List Byte → List Byte → List Byte → Bool

/-- ML-DSA-65 of FIPS 204: a byte of the public key of a seed. -/
opaque mlPublic : List Byte → Nat → Byte

/-- ML-DSA-65 signing in pure mode: seed, context string, message, byte of the signature. -/
opaque mlSign : List Byte → List Byte → List Byte → Nat → Byte

/-- ML-DSA-65 verification: public key, context string, message, signature. -/
opaque mlVerify : List Byte → List Byte → List Byte → List Byte → Bool

/-- A byte of a nonce that the module issues (R432): number of the nonce, byte. -/
opaque nonceByte : Nat → Nat → Byte

/-- A byte of Almanac block 0 as written at manufacture (R414). -/
opaque block0Byte : Nat → Byte

/-- The certificate chain of SPDM slot 0 (R449). -/
opaque certChain : Nat → Byte

/-- Its length. -/
opaque certLen : Nat

/-- A byte of the responder's nonce in CHALLENGE_AUTH and MEASUREMENTS. -/
opaque spdmNonce : Nat → Nat → Byte

/-- The result code of a diagnostic test, which the spec does not define (Table 3.6): free counter, test, target. -/
opaque diagResult : Nat → Nat → Nat → Nat

/-- The response of an SPDM request beyond what the spec states: request, free counter, byte. -/
opaque spdmByte : Nat → Nat → Nat → Byte

/-- A junction temperature, in 1/8 degree, read for a record where the command carries none (Table 7.10). -/
opaque tjNow : Nat → Nat

/-- The cause field of STEP_REPLAY, whose coding the spec does not give (Table 10.9): free counter. -/
opaque replayCause : Nat → Nat

/-- The index of a rejected load where the check names several objects (R41): free counter, check code. -/
opaque rejectIndex : Nat → Nat → Nat

/-- The C-die whose block reports a JOIN task's completion (R488): free counter. -/
opaque joinDie : Nat → Nat

/-- A word of an accumulator tile when a task starts (R124 does not list it): the number of the start, the word. -/
opaque tileWord : Nat → Nat → Word32

/-- A byte of core store when a task starts: the number of the start, the byte. -/
opaque coreByte : Nat → Nat → Byte

/-- Which idle leap cluster runs an Octave shadow (R152): free counter, how many there are. -/
opaque shadowPick : Nat → Nat → Nat

/-- Which way an exponential or a logarithm rounds that the evaluation of R148 does not decide: function, operand. -/
opaque wideUp : Nat → Nat → Int → Bool

/-- Whether a fused multiply and add of zero, infinity and a quiet NaN signals invalid: IEEE 754-2019 leaves it to the implementation. -/
opaque fmaInvalid : Bool

/-- A code that the spec names without its numbers: a SUBSTITUTION record's kind and reason, the kinds of MARGIN and THERMAL records
(Table 14.6). The argument says which field and which case. -/
opaque openCode : String → Nat → Nat

/-- The supply, in mV, and the frequency, in MHz, latched for a detection whose command carries no readings (R487): free counter. -/
opaque mvNow : Nat → Nat
opaque mhzNow : Nat → Nat

/-- Which free slot of a ring a granted credit stands for (R49 names no order): free counter, how many there are. -/
opaque slotPick : Nat → Nat → Nat

/-- Which idle leap unit takes an old one's place: free counter, how many there are. -/
opaque leapPick : Nat → Nat → Nat

/-- The delay of an island's slowest path at 100 °C as fused at manufacture, in 0.25 ps: island, voltage in mV (R344). -/
opaque fusedDelay : Nat → Nat → Nat

/-- The converted reading of an island's path-delay monitor at manufacture, in 0.25 ps (R342). -/
opaque delayMade : Nat → Int

/-- Rosley's service keys, whose hash the OTP holds (R358). -/
opaque serviceEd : List Byte
opaque serviceMl : List Byte

/-- A byte of a pending bank whose pass was stopped (Table 8.6): free counter, byte. -/
opaque pendingByte : Nat → Nat → Byte

/-- Which in-service update unit of a die wrote a chunk that differs: free counter, how many there are (R335). -/
opaque unitPick : Nat → Nat → Nat

/-- Which F-die of a partition handles a part of an exchange: free counter, how many there are (ch. 9). -/
opaque fdiePick : Nat → Nat → Nat

/-- The ready time and the wait time of a lateness report, in ns (R225): free counter. -/
opaque readyNs : Nat → Nat
opaque waitNs : Nat → Nat

/-- The junction temperature of an F-die, in 1/8 degree, and the supply of its engine, in mV, at a fault (Table 9.5): free counter. -/
opaque fdieTj : Nat → Nat
opaque fdieMv : Nat → Nat

/-- Why the other end of a link declared a lane failing (Table 11.12, cause 1 or 2): free counter. -/
opaque laneCause : Nat → Nat

/-- What a steward knows of a member that no message of the spec carries to it: its twin, its tray, its grant in W and whether it has
set equinox_off (R256, R300, R371). The last two: free counter, member. -/
opaque memberTwin : Nat → Nat
opaque memberTray : Nat → Nat
opaque memberGrant : Nat → Nat → Nat
opaque memberEqOff : Nat → Nat → Bool

/-- Energy of a byte of GDDR7 or CXL and of a link byte, in 1/16 pJ (PWR_COEF, per module). -/
opaque coefMem : BitVec 16
opaque coefLink : BitVec 16

/-- The level that a pin shows while nothing drives it to a level (Table 19.4): free counter, pin. -/
opaque pinLevel : Nat → Nat → Bool

/-- A member's contexts are not mirrored, as the lead of a generation would know it (R323). -/
opaque memberUnmirrored : Nat → Bool

/-- The lateness of a member where the median ready time is 0: R226 divides by it. -/
opaque lateZero : Nat → Int

end Sys2Proof.Config
end

