-- ==== Sys2Proof/Machine/Digest.lean ====
section
/-! DEFINITION. The running digest of R220, the CRC-32 and CRC-32C of the link and flash layers, SHA-256, and HKDF-SHA-256 (R413). -/

namespace Sys2Proof.Machine

/-- One bit of a reflected CRC. -/
def crcBit {w : Nat} (poly : BitVec w) (r : BitVec w) : BitVec w := if r.getLsbD 0 then (r >>> 1) ^^^ poly else r >>> 1

/-- One byte of a reflected CRC. -/
def crcByte {w : Nat} (poly : BitVec w) (r : BitVec w) (b : Byte) : BitVec w :=
  (List.range 8).foldl (fun r _ => crcBit poly r) (r ^^^ b.zeroExtend w)

/-- The running digest: CRC-64 of ECMA-182, reflected, all ones at the start and at the end (R220). 0xC96C... is 0x42F0... reflected. -/
def runDigest (bs : List Byte) : Nat :=
  ((bs.foldl (crcByte 0xC96C5795D7870F42#64) (BitVec.allOnes 64)) ^^^ BitVec.allOnes 64).toNat

/-- CRC-32C (Castagnoli), reflected. -/
def crc32c (bs : List Byte) : Nat := ((bs.foldl (crcByte 0x82F63B78#32) (BitVec.allOnes 32)) ^^^ BitVec.allOnes 32).toNat

/-- The round constants of SHA-256 (PRESUMED, FIPS 180-4: log entry 5). -/
def shaK : List (BitVec 32) :=
  [0x428a2f98#32, 0x71374491#32, 0xb5c0fbcf#32, 0xe9b5dba5#32, 0x3956c25b#32, 0x59f111f1#32, 0x923f82a4#32, 0xab1c5ed5#32] ++
  [0xd807aa98#32, 0x12835b01#32, 0x243185be#32, 0x550c7dc3#32, 0x72be5d74#32, 0x80deb1fe#32, 0x9bdc06a7#32, 0xc19bf174#32] ++
  [0xe49b69c1#32, 0xefbe4786#32, 0x0fc19dc6#32, 0x240ca1cc#32, 0x2de92c6f#32, 0x4a7484aa#32, 0x5cb0a9dc#32, 0x76f988da#32] ++
  [0x983e5152#32, 0xa831c66d#32, 0xb00327c8#32, 0xbf597fc7#32, 0xc6e00bf3#32, 0xd5a79147#32, 0x06ca6351#32, 0x14292967#32] ++
  [0x27b70a85#32, 0x2e1b2138#32, 0x4d2c6dfc#32, 0x53380d13#32, 0x650a7354#32, 0x766a0abb#32, 0x81c2c92e#32, 0x92722c85#32] ++
  [0xa2bfe8a1#32, 0xa81a664b#32, 0xc24b8b70#32, 0xc76c51a3#32, 0xd192e819#32, 0xd6990624#32, 0xf40e3585#32, 0x106aa070#32] ++
  [0x19a4c116#32, 0x1e376c08#32, 0x2748774c#32, 0x34b0bcb5#32, 0x391c0cb3#32, 0x4ed8aa4a#32, 0x5b9cca4f#32, 0x682e6ff3#32] ++
  [0x748f82ee#32, 0x78a5636f#32, 0x84c87814#32, 0x8cc70208#32, 0x90befffa#32, 0xa4506ceb#32, 0xbef9a3f7#32, 0xc67178f2#32]

/-- The initial hash value of SHA-256. -/
def shaH0 : List (BitVec 32) :=
  [0x6a09e667#32, 0xbb67ae85#32, 0x3c6ef372#32, 0xa54ff53a#32, 0x510e527f#32, 0x9b05688c#32, 0x1f83d9ab#32, 0x5be0cd19#32]

/-- The message padded to whole blocks of 64 bytes. -/
def shaPad (m : List Byte) : List Byte :=
  m ++ [0x80#8] ++ List.replicate ((119 - m.length % 64) % 64) 0 ++ (leBytes 8 (8 * m.length)).reverse

/-- A big-endian word of four bytes. -/
def be32 (b : List Byte) : BitVec 32 := BitVec.ofNat 32 (leNat (b.take 4).reverse)

/-- The words of a block. -/
def shaWords : Nat → List Byte → List (BitVec 32)
  | 0, _ => []
  | n + 1, b => be32 b :: shaWords n (b.drop 4)

/-- The message schedule, latest word first. -/
def shaSched : Nat → List (BitVec 32) → List (BitVec 32)
  | 0, w => w
  | n + 1, w =>
    let a := w.getD 14 0
    let b := w.getD 1 0
    let s0 := (a.rotateRight 7) ^^^ (a.rotateRight 18) ^^^ (a >>> 3)
    let s1 := (b.rotateRight 17) ^^^ (b.rotateRight 19) ^^^ (b >>> 10)
    shaSched n ((w.getD 15 0 + s0 + w.getD 6 0 + s1) :: w)

/-- One round: the eight working words, a constant and a schedule word. -/
def shaRound (v : List (BitVec 32)) (kw : BitVec 32 × BitVec 32) : List (BitVec 32) :=
  let g := fun (i : Nat) => v.getD i 0
  let s1 := ((g 4).rotateRight 6) ^^^ ((g 4).rotateRight 11) ^^^ ((g 4).rotateRight 25)
  let ch := ((g 4) &&& (g 5)) ^^^ ((~~~(g 4)) &&& (g 6))
  let t1 := g 7 + s1 + ch + kw.1 + kw.2
  let s0 := ((g 0).rotateRight 2) ^^^ ((g 0).rotateRight 13) ^^^ ((g 0).rotateRight 22)
  let mj := ((g 0) &&& (g 1)) ^^^ ((g 0) &&& (g 2)) ^^^ ((g 1) &&& (g 2))
  [t1 + s0 + mj, g 0, g 1, g 2, g 3 + t1, g 4, g 5, g 6]

/-- One block. -/
def shaBlock (h : List (BitVec 32)) (b : List Byte) : List (BitVec 32) :=
  let w := (shaSched 48 (shaWords 16 b).reverse).reverse
  ((shaK.zip w).foldl shaRound h |>.zip h).map (fun x => x.1 + x.2)

/-- Every block of a padded message; `n` blocks. -/
def shaBlocks : Nat → List (BitVec 32) → List Byte → List (BitVec 32)
  | 0, h, _ => h
  | n + 1, h, b => shaBlocks n (shaBlock h (b.take 64)) (b.drop 64)

/-- SHA-256 (FIPS 180-4): 32 bytes. -/
def sha256 (m : List Byte) : List Byte :=
  let p := shaPad m
  (shaBlocks (p.length / 64) shaH0 p).flatMap (fun w => (leBytes 4 w.toNat).reverse)

/-- HMAC-SHA-256 (RFC 2104). -/
def hmac (key m : List Byte) : List Byte :=
  let k := (if 64 < key.length then sha256 key else key)
  let k := k ++ List.replicate (64 - k.length) 0
  sha256 (k.map (fun b => b ^^^ 0x5C#8) ++ sha256 (k.map (fun b => b ^^^ 0x36#8) ++ m))

/-- The first 32 bytes of HKDF-SHA-256 (RFC 5869): key material, salt, info. -/
def hkdf (ikm salt info : List Byte) : List Byte := hmac (hmac salt ikm) (info ++ [1#8])

/-- The bytes of an ASCII text. -/
def ascii (t : String) : List Byte := t.toList.map (fun c => BitVec.ofNat 8 c.toNat)

/-! ### Per-module constants -/

/-- The serial's 16 bytes. -/
def serial : List Byte := (List.range 16).map Config.serialByte

/-- The serial digest (R272). -/
def serialDigest : Nat := runDigest (serial.takeWhile (fun b => b != 0))

/-- The device secret. -/
def deviceSecret : List Byte := (List.range 32).map Config.secretByte

/-- The private key or seed of a role and algorithm (R413). -/
def roleKey (role alg : String) : List Byte := hkdf deviceSecret serial (ascii (role ++ "/" ++ alg))

/-- Ed25519 public key of a role. -/
def edKey (role : String) : List Byte := (List.range 32).map (Config.edPublic (roleKey role "ed25519"))

/-- ML-DSA-65 public key of a role. -/
def mlKey (role : String) : List Byte := (List.range 1952).map (Config.mlPublic (roleKey role "ml-dsa-65"))

/-- A role's signer hash (R413). -/
def signerHash (role : String) : List Byte := sha256 (edKey role ++ mlKey role)

/-- The Ed25519 signature of a role. -/
def signEd (role : String) (m : List Byte) : List Byte :=
  (List.range 64).map (Config.edSign (roleKey role "ed25519") m)

/-- The ML-DSA-65 signature of a role under a context string. -/
def signMl (role ctx : String) (m : List Byte) : List Byte :=
  (List.range 3309).map (Config.mlSign (roleKey role "ml-dsa-65") (ascii ctx) m)

end Sys2Proof.Machine
end

