-- ==== Sys2Proof/Machine/RegTable.lean ====
section
/-! DEFINITION. The register fields of BAR 0 (Table 20.1), one constructor of `Fld` for each field that a register table of the spec
lists, with the field's first BAR 0 offset, its array shape, its bits, its access code (Table 0.4) and its reset value. -/

namespace Sys2Proof.Machine

/-- The access codes of Table 0.4; RSV bits have no field. -/
inductive Acc where
  | ro | rw | wo | st | sat
deriving DecidableEq, Repr

/-- The register fields of the spec's tables. -/
inductive Fld where
  | mcStatus_takeoverCount
  | mcStatus_cpPresent
  | mcStatus_phase
  | mcStatus_controller
  | mcStatus_ready
  | queueAdminSqBase_addr
  | queueAdminCqBase_addr
  | queueAdminCfg_msix
  | queueAdminCfg_cqLog2
  | queueAdminCfg_sqLog2
  | queueAdminCfg_enable
  | cdieMtxCheckCtl_lanesOff
  | cdieMtxStatus_offSeen
  | cdieMtxStatus_detectSeen
  | cdieMtxStatus_saturated
  | cdieMtxDetectCount_count
  | cdieVecOctaveCtl_rateLog2
  | cdieVecStatus_offSeen
  | cdieVecStatus_failSeen
  | cdieVecStatus_saturated
  | cdieVecOctaveSampled_count
  | cdieVecOctaveFailCount_count
  | cdieVecOctaveSkipCount_count
  | cdieVecTrapCount_count
  | mcWinStatus_saturated
  | mcWinRemoteViol_count
  | mcWinViol_count
  | cdieMemMigrate_channel
  | cdieMemMigrate_go
  | cdieMemStatus_leapTarget
  | cdieMemStatus_migrating
  | cdieMemStatus_uncorrSeen
  | cdieMemStatus_migrated
  | cdieMemStatus_saturated
  | cdieMemMigrateThresh_edc
  | cdieMemMigrateThresh_corr
  | cdieMemCopyPtr_line
  | cdieMemSramCorrCount_count
  | cdieMemSramUncorrCount_count
  | cdieMemCorrCount_count
  | cdieMemUncorrCount_count
  | cdieMemEdcCount_count
  | numwCtl_quietN
  | numwCtl_enable
  | numwFloor_floor
  | numwQuiet_seen
  | numwQuiet_firstGroup
  | numwQuiet_reports
  | numwStatus_offSeen
  | numwStatus_quietSeen
  | numwStatus_saturated
  | numwNonfiniteCount_count
  | numwPassCount_count
  | fdieCollStatus_faultSeen
  | fdieCollStatus_retrySeen
  | fdieCollStatus_nonfiniteSeen
  | fdieCollStatus_saturated
  | fdieCollHopRetryCount_count
  | fdieCollFaultCount_count
  | fdieCollDupDiscardCount_count
  | fdieCollStaleDiscardCount_count
  | fdieCollNonfiniteCount_count
  | fdieCollBytes_units
  | stepStatus_unmirroredSeen
  | stepStatus_saturated
  | stepCtxState_level
  | stepCtxState_sameTray
  | stepCtxState_mirrored
  | stepCtxState_agreed
  | stepCtxState_rot
  | stepCtxState_state
  | stepCtxStep_step
  | stepCommitSeq_seq
  | stepCtxCommitted_step
  | stepCtxAttempt_attempt
  | stepCtxReplays_stepLevel
  | stepCtxReplays_mbLevel
  | stepCtxPlan_addr
  | stepCtxStraggle_lateness
  | stepCtxStraggle_run
  | stepCtxStraggle_backup
  | linkStatus_mismatchSeen
  | linkStatus_dropSeen
  | linkStatus_spareSeen
  | linkStatus_saturated
  | linkEpoch_max
  | linkEpoch_min
  | linkPlan_generation
  | linkPlan_acceptDiscovered
  | linkPlanDigest_digest
  | linkLaneThresh_serLog
  | linkVcWeight_weights
  | linkPortState_epoch
  | linkPortState_outcome
  | linkPortState_state
  | linkPortState_width
  | linkPortState_spared
  | linkPortPeerSerial_digest
  | linkPortPeer_trayId
  | linkPortPeer_roster
  | linkPortPeer_port
  | linkPortPeer_straps
  | linkPortCtl_holdDown
  | linkPortCorrCount_count
  | linkPortUncorrCount_count
  | linkPortRetryCount_count
  | linkPortSliceDropCount_count
  | linkPortOtherDropCount_count
  | linkPortFlits_units
  | cohortStatus_primaryLostSeen
  | cohortStatus_noQuorumSeen
  | cohortStatus_probationSeen
  | cohortStatus_suspectSeen
  | cohortStatus_saturated
  | cohortSelf_role
  | cohortSelf_steward
  | cohortSelf_deputy
  | cohortSelf_primary
  | cohortSelf_cohort
  | cohortSelf_roster
  | cohortEpoch_epoch
  | cohortHealth_hard
  | cohortHealth_score
  | cohortPenalty_pMargin
  | cohortPenalty_pSpare
  | cohortPenalty_pRep
  | cohortPenalty_pPool
  | cohortPenalty_pDet
  | cohortPenalty_pErr
  | cohortThresh_floor
  | cohortThresh_evict
  | cohortQuota_intervalMin
  | cohortQuota_perInterval
  | cohortHold_holdMs
  | cohortSuspectCount_count
  | cohortDecisionCount_count
  | cohortEvictCount_count
  | cohortDeferCount_count
  | cohortRoster_entry
  | harvestStatus_refusedSeen
  | harvestStatus_failedSeen
  | harvestStatus_saturated
  | harvestTrust_addr
  | harvestTrustCount_count
  | harvestSigner_hash
  | harvestFailCount_count
  | harvestSkipCount_count
  | harvestBytes_units
  | harvestCtxState_restoring
  | harvestCtxState_busy
  | harvestCtxGen_generation
  | harvestCtxStep_step
  | harvestCtxCtl_noScale
  | almanacStatus_tail
  | almanacStatus_skipSeen
  | almanacStatus_retireSeen
  | almanacStatus_replanSeen
  | almanacStatus_saturated
  | almanacSeq_seq
  | almanacGrade_leaseTerm
  | almanacGrade_yTenths
  | almanacGrade_trimmed
  | almanacGrade_grade
  | almanacPool_cores
  | almanacPool_clusters
  | almanacPool_minIdle
  | almanacPool_channels
  | almanacPool_linkLanes
  | almanacPool_bridgeLanes
  | almanacPool_setAside
  | almanacCtl_flush
  | almanacSubstCount_count
  | almanacReplanCount_count
  | almanacRetireCount_count
  | almanacUsed_blocks
  | pwrStatus_throttleSeen
  | pwrStatus_limitMissed
  | pwrStatus_warnSeen
  | pwrStatus_resetSeen
  | pwrStatus_pauseSeen
  | pwrStatus_saturated
  | pwrState_state
  | pwrState_target
  | pwrPeakLimit_windowUs
  | pwrPeakLimit_peakW
  | pwrTray_trayPeakW
  | pwrTray_grantW
  | pwrBudget_shareW
  | pwrBudget_budgetW
  | pwrThrottle_levelW
  | pwrCtl_wake
  | pwrCtl_energyMode
  | pwrCtl_equinoxOff
  | pwrCtl_idleMs
  | pwrInput_voltage
  | pwrInput_powerW
  | pwrEnergy_mj
  | pwrLimitCount_count
  | pwrWarnCount_count
  | pwrFallowCount_count
  | pwrCoef_link
  | pwrCoef_mem
  | pwrDieCap_capW
  | pwrDieCap_drawW
  | pwrDieDroopCount_count
  | pwrDiePauseCount_count
  | pwrClassEnergy_e
  | thermStatus_trip
  | thermStatus_coolantSeen
  | thermStatus_alarmSeen
  | thermStatus_throttleSeen
  | thermStatus_saturated
  | thermTripDie_dies
  | thermCoolant_inlet
  | thermCoolant_flow
  | thermThrottleCount_count
  | thermExcursionCount_count
  | thermDie_tjMax
  | thermDie_throttled
  | vigilStatus_quarantineSeen
  | vigilStatus_escalationSeen
  | vigilStatus_hangSeen
  | vigilStatus_saturated
  | vigilCtl_hangMs
  | vigilHangCount_count
  | vigilResetCount_count
  | vigilStaleDropCount_count
  | vigilRemoteTimeoutCount_count
  | vigilFence_go
  | vigilFence_kind
  | vigilFence_index
  | vigilFenced_engines
  | vigilQuarantine_ctx
  | troubleLog_supplyReset
  | troubleLog_repeatHang
  | troubleLog_remoteTimeout
  | troubleLog_disableInflight
  | troubleLog_flr
  | troubleLog_sweepLate
  | troubleLog_quarantine
  | troubleLog_takeover
  | troubleLog_esc
  | troubleLog_cycleReq
  | troubleLog_reset
  | troubleLog_vigilHang
  | troubleLog_saturated
  | troubleFirst_lcount
  | troubleLast_lcount
  | troubleLastUnit_level
  | troubleLastUnit_kind
  | troubleLastUnit_index
  | troubleModuleResets_count
  | troubleCycles_count
  | mcBootStatus_heldReason
  | mcBootStatus_emberCode
  | mcBootStatus_slot
  | mcBootStatus_fallback
  | mcBootStatus_cold
  | mcBootStatus_unsealedSeen
  | mcBootStatus_startS
  | mcBootCtl_forceCold
  | mcFwVersion_running
  | mcFwSvn_counter
  | mcFwSvn_image
  | mcFwStaged_version
  | hostifStatus_linkDownSeen
  | hostifStatus_flrSeen
  | hostifStatus_saturated
  | hostifId_device
  | hostifId_vendor
  | hostifLink_width
  | hostifLink_rate
  | hostifLink_flit
  | hostifLink_up
  | hostifVf_numVfs
  | hostifVf_enable
  | hostifUrgent_enable
  | hostifUrgent_vector
  | hostifFnBar4_base
  | hostifFnBar4_ctx
  | hostifFnDbViol_count
  | hostifFnState_state
  | fdieCxlStatus_poisonSeen
  | fdieCxlStatus_downSeen
  | fdieCxlStatus_saturated
  | fdieCxlPort_width
  | fdieCxlPort_rate
  | fdieCxlPort_present
  | fdieCxlPort_up
  | fdieCxlCapacity_bytes
  | fdieCxlMapBase_offset
  | fdieCxlMapBytes_bytes
  | fdieCxlPoisonCount_count
  | fdieCxlBytes_units
  | mcStraps_assigned
  | mcStraps_planClass
  | mcStraps_trayType
  | mcStraps_slot
  | mcStraps_levels
  | mcSideband_driven
  | mcSideband_level
  | mcId_numericsGen
  | mcId_stepping
  | mcId_part
  | mcFlags_takeoverSeen
  | mcFlags_saturated
  | mcSerialLo_bytes
  | mcSerialHi_bytes
  | mcSerialDigest_digest
  | mcLcount_count
  | queueStatus_saturated
  | queueEvtDrop_count
  | queueQState_nextSeq
  | queueQState_ctx
  | queueQState_heldReason
  | queueQState_state
  | fdieMirrorStatus_repairSeen
  | fdieMirrorStatus_overflowSeen
  | fdieMirrorStatus_saturated
  | fdieMirrorBytes_units
  | fdieMirrorRepairCount_count
  | fdieMirrorCheckFailCount_count
deriving DecidableEq, Repr

/-- One row of a register table: element `(i, j)` of the array, with index `i * n2 + j`, lies at `off + s1 * i + s2 * j`. -/
structure FldInfo where
  off : Nat
  n1 : Nat
  s1 : Nat
  n2 : Nat
  s2 : Nat
  lsb : Nat
  width : Nat
  acc : Acc
  reset : Nat
deriving DecidableEq, Repr

/-- The register tables, field by field. -/
def fldInfo : Fld → FldInfo
  | .mcStatus_takeoverCount => ⟨0x00000010, 1, 0x0, 1, 0x0, 16, 8, .sat, 0⟩
  | .mcStatus_cpPresent => ⟨0x00000010, 1, 0x0, 1, 0x0, 8, 8, .ro, 0⟩
  | .mcStatus_phase => ⟨0x00000010, 1, 0x0, 1, 0x0, 2, 2, .ro, 0⟩
  | .mcStatus_controller => ⟨0x00000010, 1, 0x0, 1, 0x0, 1, 1, .ro, 0⟩
  | .mcStatus_ready => ⟨0x00000010, 1, 0x0, 1, 0x0, 0, 1, .ro, 0⟩
  | .queueAdminSqBase_addr => ⟨0x00200000, 1, 0x0, 1, 0x0, 6, 58, .rw, 0⟩
  | .queueAdminCqBase_addr => ⟨0x00200008, 1, 0x0, 1, 0x0, 5, 59, .rw, 0⟩
  | .queueAdminCfg_msix => ⟨0x00200010, 1, 0x0, 1, 0x0, 16, 16, .rw, 0⟩
  | .queueAdminCfg_cqLog2 => ⟨0x00200010, 1, 0x0, 1, 0x0, 12, 4, .rw, 6⟩
  | .queueAdminCfg_sqLog2 => ⟨0x00200010, 1, 0x0, 1, 0x0, 8, 4, .rw, 6⟩
  | .queueAdminCfg_enable => ⟨0x00200010, 1, 0x0, 1, 0x0, 0, 1, .rw, 0⟩
  | .cdieMtxCheckCtl_lanesOff => ⟨0x01200000, 8, 0x1000000, 1, 0x0, 0, 1, .rw, 0⟩
  | .cdieMtxStatus_offSeen => ⟨0x01200008, 8, 0x1000000, 1, 0x0, 2, 1, .st, 0⟩
  | .cdieMtxStatus_detectSeen => ⟨0x01200008, 8, 0x1000000, 1, 0x0, 1, 1, .st, 0⟩
  | .cdieMtxStatus_saturated => ⟨0x01200008, 8, 0x1000000, 1, 0x0, 0, 1, .st, 0⟩
  | .cdieMtxDetectCount_count => ⟨0x01200010, 8, 0x1000000, 1, 0x0, 0, 32, .sat, 0⟩
  | .cdieVecOctaveCtl_rateLog2 => ⟨0x01300000, 8, 0x1000000, 1, 0x0, 0, 4, .rw, 6⟩
  | .cdieVecStatus_offSeen => ⟨0x01300008, 8, 0x1000000, 1, 0x0, 2, 1, .st, 0⟩
  | .cdieVecStatus_failSeen => ⟨0x01300008, 8, 0x1000000, 1, 0x0, 1, 1, .st, 0⟩
  | .cdieVecStatus_saturated => ⟨0x01300008, 8, 0x1000000, 1, 0x0, 0, 1, .st, 0⟩
  | .cdieVecOctaveSampled_count => ⟨0x01300010, 8, 0x1000000, 1, 0x0, 0, 32, .sat, 0⟩
  | .cdieVecOctaveFailCount_count => ⟨0x01300018, 8, 0x1000000, 1, 0x0, 0, 32, .sat, 0⟩
  | .cdieVecOctaveSkipCount_count => ⟨0x01300020, 8, 0x1000000, 1, 0x0, 0, 32, .sat, 0⟩
  | .cdieVecTrapCount_count => ⟨0x01300028, 8, 0x1000000, 1, 0x0, 0, 32, .sat, 0⟩
  | .mcWinStatus_saturated => ⟨0x00000020, 1, 0x0, 1, 0x0, 0, 1, .st, 0⟩
  | .mcWinRemoteViol_count => ⟨0x00000028, 1, 0x0, 1, 0x0, 0, 32, .sat, 0⟩
  | .mcWinViol_count => ⟨0x00010000, 256, 0x8, 1, 0x0, 0, 32, .sat, 0⟩
  | .cdieMemMigrate_channel => ⟨0x01400000, 8, 0x1000000, 1, 0x0, 1, 4, .wo, 0⟩
  | .cdieMemMigrate_go => ⟨0x01400000, 8, 0x1000000, 1, 0x0, 0, 1, .wo, 0⟩
  | .cdieMemStatus_leapTarget => ⟨0x01400008, 8, 0x1000000, 1, 0x0, 20, 4, .ro, 15⟩
  | .cdieMemStatus_migrating => ⟨0x01400008, 8, 0x1000000, 1, 0x0, 16, 4, .ro, 15⟩
  | .cdieMemStatus_uncorrSeen => ⟨0x01400008, 8, 0x1000000, 1, 0x0, 2, 1, .st, 0⟩
  | .cdieMemStatus_migrated => ⟨0x01400008, 8, 0x1000000, 1, 0x0, 1, 1, .st, 0⟩
  | .cdieMemStatus_saturated => ⟨0x01400008, 8, 0x1000000, 1, 0x0, 0, 1, .st, 0⟩
  | .cdieMemMigrateThresh_edc => ⟨0x01400010, 8, 0x1000000, 1, 0x0, 16, 16, .rw, 256⟩
  | .cdieMemMigrateThresh_corr => ⟨0x01400010, 8, 0x1000000, 1, 0x0, 0, 16, .rw, 65535⟩
  | .cdieMemCopyPtr_line => ⟨0x01400018, 8, 0x1000000, 1, 0x0, 0, 32, .ro, 0⟩
  | .cdieMemSramCorrCount_count => ⟨0x01400020, 8, 0x1000000, 1, 0x0, 0, 32, .sat, 0⟩
  | .cdieMemSramUncorrCount_count => ⟨0x01400028, 8, 0x1000000, 1, 0x0, 0, 32, .sat, 0⟩
  | .cdieMemCorrCount_count => ⟨0x01400100, 8, 0x1000000, 14, 0x8, 0, 32, .sat, 0⟩
  | .cdieMemUncorrCount_count => ⟨0x01400180, 8, 0x1000000, 14, 0x8, 0, 32, .sat, 0⟩
  | .cdieMemEdcCount_count => ⟨0x01400200, 8, 0x1000000, 14, 0x8, 0, 32, .sat, 0⟩
  | .numwCtl_quietN => ⟨0x00B00000, 256, 0x10, 1, 0x0, 16, 16, .rw, 64⟩
  | .numwCtl_enable => ⟨0x00B00000, 256, 0x10, 1, 0x0, 0, 1, .rw, 1⟩
  | .numwFloor_floor => ⟨0x00B00008, 256, 0x10, 1, 0x0, 0, 32, .rw, 814313567⟩
  | .numwQuiet_seen => ⟨0x00B01000, 256, 0x8, 1, 0x0, 31, 1, .st, 0⟩
  | .numwQuiet_firstGroup => ⟨0x00B01000, 256, 0x8, 1, 0x0, 16, 12, .ro, 0⟩
  | .numwQuiet_reports => ⟨0x00B01000, 256, 0x8, 1, 0x0, 0, 16, .sat, 0⟩
  | .numwStatus_offSeen => ⟨0x00B01800, 1, 0x0, 1, 0x0, 2, 1, .st, 0⟩
  | .numwStatus_quietSeen => ⟨0x00B01800, 1, 0x0, 1, 0x0, 1, 1, .st, 0⟩
  | .numwStatus_saturated => ⟨0x00B01800, 1, 0x0, 1, 0x0, 0, 1, .st, 0⟩
  | .numwNonfiniteCount_count => ⟨0x00B01808, 1, 0x0, 1, 0x0, 0, 32, .sat, 0⟩
  | .numwPassCount_count => ⟨0x00B01810, 1, 0x0, 1, 0x0, 0, 32, .sat, 0⟩
  | .fdieCollStatus_faultSeen => ⟨0x09100000, 4, 0x1000000, 1, 0x0, 3, 1, .st, 0⟩
  | .fdieCollStatus_retrySeen => ⟨0x09100000, 4, 0x1000000, 1, 0x0, 2, 1, .st, 0⟩
  | .fdieCollStatus_nonfiniteSeen => ⟨0x09100000, 4, 0x1000000, 1, 0x0, 1, 1, .st, 0⟩
  | .fdieCollStatus_saturated => ⟨0x09100000, 4, 0x1000000, 1, 0x0, 0, 1, .st, 0⟩
  | .fdieCollHopRetryCount_count => ⟨0x09100008, 4, 0x1000000, 1, 0x0, 0, 32, .sat, 0⟩
  | .fdieCollFaultCount_count => ⟨0x09100010, 4, 0x1000000, 1, 0x0, 0, 32, .sat, 0⟩
  | .fdieCollDupDiscardCount_count => ⟨0x09100018, 4, 0x1000000, 1, 0x0, 0, 32, .sat, 0⟩
  | .fdieCollStaleDiscardCount_count => ⟨0x09100020, 4, 0x1000000, 1, 0x0, 0, 32, .sat, 0⟩
  | .fdieCollNonfiniteCount_count => ⟨0x09100028, 4, 0x1000000, 1, 0x0, 0, 32, .sat, 0⟩
  | .fdieCollBytes_units => ⟨0x09100030, 4, 0x1000000, 1, 0x0, 0, 64, .sat, 0⟩
  | .stepStatus_unmirroredSeen => ⟨0x00900000, 1, 0x0, 1, 0x0, 1, 1, .st, 0⟩
  | .stepStatus_saturated => ⟨0x00900000, 1, 0x0, 1, 0x0, 0, 1, .st, 0⟩
  | .stepCtxState_level => ⟨0x00901000, 256, 0x40, 1, 0x0, 20, 4, .ro, 0⟩
  | .stepCtxState_sameTray => ⟨0x00901000, 256, 0x40, 1, 0x0, 19, 1, .ro, 0⟩
  | .stepCtxState_mirrored => ⟨0x00901000, 256, 0x40, 1, 0x0, 18, 1, .ro, 0⟩
  | .stepCtxState_agreed => ⟨0x00901000, 256, 0x40, 1, 0x0, 17, 1, .ro, 0⟩
  | .stepCtxState_rot => ⟨0x00901000, 256, 0x40, 1, 0x0, 16, 1, .ro, 0⟩
  | .stepCtxState_state => ⟨0x00901000, 256, 0x40, 1, 0x0, 0, 4, .ro, 0⟩
  | .stepCtxStep_step => ⟨0x00901008, 256, 0x40, 1, 0x0, 0, 64, .ro, 0⟩
  | .stepCommitSeq_seq => ⟨0x00901010, 256, 0x40, 1, 0x0, 0, 64, .ro, 0⟩
  | .stepCtxCommitted_step => ⟨0x00901018, 256, 0x40, 1, 0x0, 0, 64, .ro, 0⟩
  | .stepCtxAttempt_attempt => ⟨0x00901020, 256, 0x40, 1, 0x0, 0, 32, .ro, 0⟩
  | .stepCtxReplays_stepLevel => ⟨0x00901028, 256, 0x40, 1, 0x0, 16, 16, .sat, 0⟩
  | .stepCtxReplays_mbLevel => ⟨0x00901028, 256, 0x40, 1, 0x0, 0, 16, .sat, 0⟩
  | .stepCtxPlan_addr => ⟨0x00901030, 256, 0x40, 1, 0x0, 6, 58, .rw, 0⟩
  | .stepCtxStraggle_lateness => ⟨0x00901038, 256, 0x40, 1, 0x0, 16, 16, .ro, 0⟩
  | .stepCtxStraggle_run => ⟨0x00901038, 256, 0x40, 1, 0x0, 8, 8, .ro, 0⟩
  | .stepCtxStraggle_backup => ⟨0x00901038, 256, 0x40, 1, 0x0, 0, 1, .ro, 0⟩
  | .linkStatus_mismatchSeen => ⟨0x00600000, 1, 0x0, 1, 0x0, 3, 1, .st, 0⟩
  | .linkStatus_dropSeen => ⟨0x00600000, 1, 0x0, 1, 0x0, 2, 1, .st, 0⟩
  | .linkStatus_spareSeen => ⟨0x00600000, 1, 0x0, 1, 0x0, 1, 1, .st, 0⟩
  | .linkStatus_saturated => ⟨0x00600000, 1, 0x0, 1, 0x0, 0, 1, .st, 0⟩
  | .linkEpoch_max => ⟨0x00600008, 1, 0x0, 1, 0x0, 16, 16, .ro, 5⟩
  | .linkEpoch_min => ⟨0x00600008, 1, 0x0, 1, 0x0, 0, 16, .ro, 3⟩
  | .linkPlan_generation => ⟨0x00600010, 1, 0x0, 1, 0x0, 32, 32, .ro, 0⟩
  | .linkPlan_acceptDiscovered => ⟨0x00600010, 1, 0x0, 1, 0x0, 0, 1, .ro, 0⟩
  | .linkPlanDigest_digest => ⟨0x00600018, 1, 0x0, 1, 0x0, 0, 64, .ro, 0⟩
  | .linkLaneThresh_serLog => ⟨0x00600020, 1, 0x0, 1, 0x0, 0, 5, .rw, 17⟩
  | .linkVcWeight_weights => ⟨0x00600028, 1, 0x0, 1, 0x0, 0, 28, .rw, 1131592⟩
  | .linkPortState_epoch => ⟨0x00601000, 32, 0x100, 1, 0x0, 48, 16, .ro, 0⟩
  | .linkPortState_outcome => ⟨0x00601000, 32, 0x100, 1, 0x0, 44, 4, .ro, 0⟩
  | .linkPortState_state => ⟨0x00601000, 32, 0x100, 1, 0x0, 40, 4, .ro, 0⟩
  | .linkPortState_width => ⟨0x00601000, 32, 0x100, 1, 0x0, 36, 4, .ro, 0⟩
  | .linkPortState_spared => ⟨0x00601000, 32, 0x100, 1, 0x0, 32, 4, .ro, 15⟩
  | .linkPortPeerSerial_digest => ⟨0x00601008, 32, 0x100, 1, 0x0, 0, 64, .ro, 0⟩
  | .linkPortPeer_trayId => ⟨0x00601010, 32, 0x100, 1, 0x0, 32, 32, .ro, 0⟩
  | .linkPortPeer_roster => ⟨0x00601010, 32, 0x100, 1, 0x0, 16, 16, .ro, 65535⟩
  | .linkPortPeer_port => ⟨0x00601010, 32, 0x100, 1, 0x0, 8, 8, .ro, 0⟩
  | .linkPortPeer_straps => ⟨0x00601010, 32, 0x100, 1, 0x0, 0, 8, .ro, 0⟩
  | .linkPortCtl_holdDown => ⟨0x00601018, 32, 0x100, 1, 0x0, 0, 1, .rw, 0⟩
  | .linkPortCorrCount_count => ⟨0x00601020, 32, 0x100, 1, 0x0, 0, 64, .sat, 0⟩
  | .linkPortUncorrCount_count => ⟨0x00601028, 32, 0x100, 1, 0x0, 0, 32, .sat, 0⟩
  | .linkPortRetryCount_count => ⟨0x00601030, 32, 0x100, 1, 0x0, 0, 32, .sat, 0⟩
  | .linkPortSliceDropCount_count => ⟨0x00601038, 32, 0x100, 1, 0x0, 0, 32, .sat, 0⟩
  | .linkPortOtherDropCount_count => ⟨0x00601040, 32, 0x100, 1, 0x0, 0, 32, .sat, 0⟩
  | .linkPortFlits_units => ⟨0x00601048, 32, 0x100, 1, 0x0, 0, 64, .sat, 0⟩
  | .cohortStatus_primaryLostSeen => ⟨0x00800000, 1, 0x0, 1, 0x0, 4, 1, .st, 0⟩
  | .cohortStatus_noQuorumSeen => ⟨0x00800000, 1, 0x0, 1, 0x0, 3, 1, .st, 0⟩
  | .cohortStatus_probationSeen => ⟨0x00800000, 1, 0x0, 1, 0x0, 2, 1, .st, 0⟩
  | .cohortStatus_suspectSeen => ⟨0x00800000, 1, 0x0, 1, 0x0, 1, 1, .st, 0⟩
  | .cohortStatus_saturated => ⟨0x00800000, 1, 0x0, 1, 0x0, 0, 1, .st, 0⟩
  | .cohortSelf_role => ⟨0x00800008, 1, 0x0, 1, 0x0, 30, 2, .ro, 0⟩
  | .cohortSelf_steward => ⟨0x00800008, 1, 0x0, 1, 0x0, 29, 1, .ro, 0⟩
  | .cohortSelf_deputy => ⟨0x00800008, 1, 0x0, 1, 0x0, 28, 1, .ro, 0⟩
  | .cohortSelf_primary => ⟨0x00800008, 1, 0x0, 1, 0x0, 27, 1, .ro, 0⟩
  | .cohortSelf_cohort => ⟨0x00800008, 1, 0x0, 1, 0x0, 16, 8, .ro, 0⟩
  | .cohortSelf_roster => ⟨0x00800008, 1, 0x0, 1, 0x0, 0, 14, .ro, 16383⟩
  | .cohortEpoch_epoch => ⟨0x00800010, 1, 0x0, 1, 0x0, 0, 64, .ro, 0⟩
  | .cohortHealth_hard => ⟨0x00800018, 1, 0x0, 1, 0x0, 10, 1, .ro, 0⟩
  | .cohortHealth_score => ⟨0x00800018, 1, 0x0, 1, 0x0, 0, 10, .ro, 1000⟩
  | .cohortPenalty_pMargin => ⟨0x00800020, 1, 0x0, 1, 0x0, 56, 8, .ro, 0⟩
  | .cohortPenalty_pSpare => ⟨0x00800020, 1, 0x0, 1, 0x0, 48, 8, .ro, 0⟩
  | .cohortPenalty_pRep => ⟨0x00800020, 1, 0x0, 1, 0x0, 40, 8, .ro, 0⟩
  | .cohortPenalty_pPool => ⟨0x00800020, 1, 0x0, 1, 0x0, 31, 9, .ro, 0⟩
  | .cohortPenalty_pDet => ⟨0x00800020, 1, 0x0, 1, 0x0, 22, 9, .ro, 0⟩
  | .cohortPenalty_pErr => ⟨0x00800020, 1, 0x0, 1, 0x0, 14, 8, .ro, 0⟩
  | .cohortThresh_floor => ⟨0x00800028, 1, 0x0, 1, 0x0, 16, 10, .rw, 150⟩
  | .cohortThresh_evict => ⟨0x00800028, 1, 0x0, 1, 0x0, 0, 10, .rw, 300⟩
  | .cohortQuota_intervalMin => ⟨0x00800030, 1, 0x0, 1, 0x0, 16, 16, .rw, 10⟩
  | .cohortQuota_perInterval => ⟨0x00800030, 1, 0x0, 1, 0x0, 0, 8, .rw, 1⟩
  | .cohortHold_holdMs => ⟨0x00800038, 1, 0x0, 1, 0x0, 0, 16, .rw, 2500⟩
  | .cohortSuspectCount_count => ⟨0x00800040, 1, 0x0, 1, 0x0, 0, 32, .sat, 0⟩
  | .cohortDecisionCount_count => ⟨0x00800048, 1, 0x0, 1, 0x0, 0, 32, .sat, 0⟩
  | .cohortEvictCount_count => ⟨0x00800050, 1, 0x0, 1, 0x0, 0, 32, .sat, 0⟩
  | .cohortDeferCount_count => ⟨0x00800058, 1, 0x0, 1, 0x0, 0, 32, .sat, 0⟩
  | .cohortRoster_entry => ⟨0x00810000, 16384, 0x8, 1, 0x0, 0, 32, .ro, 0⟩
  | .harvestStatus_refusedSeen => ⟨0x00A00000, 1, 0x0, 1, 0x0, 2, 1, .st, 0⟩
  | .harvestStatus_failedSeen => ⟨0x00A00000, 1, 0x0, 1, 0x0, 1, 1, .st, 0⟩
  | .harvestStatus_saturated => ⟨0x00A00000, 1, 0x0, 1, 0x0, 0, 1, .st, 0⟩
  | .harvestTrust_addr => ⟨0x00A00008, 1, 0x0, 1, 0x0, 6, 58, .rw, 0⟩
  | .harvestTrustCount_count => ⟨0x00A00010, 1, 0x0, 1, 0x0, 0, 16, .rw, 0⟩
  | .harvestSigner_hash => ⟨0x00A00020, 4, 0x8, 1, 0x0, 0, 64, .ro, 0⟩
  | .harvestFailCount_count => ⟨0x00A00040, 1, 0x0, 1, 0x0, 0, 32, .sat, 0⟩
  | .harvestSkipCount_count => ⟨0x00A00048, 1, 0x0, 1, 0x0, 0, 32, .sat, 0⟩
  | .harvestBytes_units => ⟨0x00A00050, 1, 0x0, 1, 0x0, 0, 64, .sat, 0⟩
  | .harvestCtxState_restoring => ⟨0x00A01000, 256, 0x40, 1, 0x0, 1, 1, .ro, 0⟩
  | .harvestCtxState_busy => ⟨0x00A01000, 256, 0x40, 1, 0x0, 0, 1, .ro, 0⟩
  | .harvestCtxGen_generation => ⟨0x00A01008, 256, 0x40, 1, 0x0, 0, 64, .ro, 0⟩
  | .harvestCtxStep_step => ⟨0x00A01010, 256, 0x40, 1, 0x0, 0, 64, .ro, 0⟩
  | .harvestCtxCtl_noScale => ⟨0x00A01018, 256, 0x40, 1, 0x0, 0, 1, .rw, 0⟩
  | .almanacStatus_tail => ⟨0x00C00000, 1, 0x0, 1, 0x0, 4, 1, .ro, 0⟩
  | .almanacStatus_skipSeen => ⟨0x00C00000, 1, 0x0, 1, 0x0, 3, 1, .st, 0⟩
  | .almanacStatus_retireSeen => ⟨0x00C00000, 1, 0x0, 1, 0x0, 2, 1, .st, 0⟩
  | .almanacStatus_replanSeen => ⟨0x00C00000, 1, 0x0, 1, 0x0, 1, 1, .st, 0⟩
  | .almanacStatus_saturated => ⟨0x00C00000, 1, 0x0, 1, 0x0, 0, 1, .st, 0⟩
  | .almanacSeq_seq => ⟨0x00C00008, 1, 0x0, 1, 0x0, 0, 64, .ro, 0⟩
  | .almanacGrade_leaseTerm => ⟨0x00C00010, 1, 0x0, 1, 0x0, 16, 8, .ro, 0⟩
  | .almanacGrade_yTenths => ⟨0x00C00010, 1, 0x0, 1, 0x0, 8, 8, .ro, 255⟩
  | .almanacGrade_trimmed => ⟨0x00C00010, 1, 0x0, 1, 0x0, 2, 1, .ro, 0⟩
  | .almanacGrade_grade => ⟨0x00C00010, 1, 0x0, 1, 0x0, 0, 2, .ro, 0⟩
  | .almanacPool_cores => ⟨0x00C00018, 1, 0x0, 1, 0x0, 44, 20, .ro, 0⟩
  | .almanacPool_clusters => ⟨0x00C00018, 1, 0x0, 1, 0x0, 34, 10, .ro, 0⟩
  | .almanacPool_minIdle => ⟨0x00C00018, 1, 0x0, 1, 0x0, 31, 3, .ro, 4⟩
  | .almanacPool_channels => ⟨0x00C00018, 1, 0x0, 1, 0x0, 27, 4, .ro, 0⟩
  | .almanacPool_linkLanes => ⟨0x00C00018, 1, 0x0, 1, 0x0, 21, 6, .ro, 0⟩
  | .almanacPool_bridgeLanes => ⟨0x00C00018, 1, 0x0, 1, 0x0, 12, 9, .ro, 0⟩
  | .almanacPool_setAside => ⟨0x00C00018, 1, 0x0, 1, 0x0, 6, 6, .ro, 0⟩
  | .almanacCtl_flush => ⟨0x00C00020, 1, 0x0, 1, 0x0, 0, 1, .wo, 0⟩
  | .almanacSubstCount_count => ⟨0x00C00028, 1, 0x0, 1, 0x0, 0, 32, .sat, 0⟩
  | .almanacReplanCount_count => ⟨0x00C00030, 1, 0x0, 1, 0x0, 0, 32, .sat, 0⟩
  | .almanacRetireCount_count => ⟨0x00C00038, 1, 0x0, 1, 0x0, 0, 32, .sat, 0⟩
  | .almanacUsed_blocks => ⟨0x00C00040, 1, 0x0, 1, 0x0, 0, 32, .ro, 1⟩
  | .pwrStatus_throttleSeen => ⟨0x00400000, 1, 0x0, 1, 0x0, 5, 1, .st, 0⟩
  | .pwrStatus_limitMissed => ⟨0x00400000, 1, 0x0, 1, 0x0, 4, 1, .st, 0⟩
  | .pwrStatus_warnSeen => ⟨0x00400000, 1, 0x0, 1, 0x0, 3, 1, .st, 0⟩
  | .pwrStatus_resetSeen => ⟨0x00400000, 1, 0x0, 1, 0x0, 2, 1, .st, 0⟩
  | .pwrStatus_pauseSeen => ⟨0x00400000, 1, 0x0, 1, 0x0, 1, 1, .st, 0⟩
  | .pwrStatus_saturated => ⟨0x00400000, 1, 0x0, 1, 0x0, 0, 1, .st, 0⟩
  | .pwrState_state => ⟨0x00400008, 1, 0x0, 1, 0x0, 4, 4, .ro, 0⟩
  | .pwrState_target => ⟨0x00400008, 1, 0x0, 1, 0x0, 0, 2, .ro, 1⟩
  | .pwrPeakLimit_windowUs => ⟨0x00400010, 1, 0x0, 1, 0x0, 16, 16, .rw, 1000⟩
  | .pwrPeakLimit_peakW => ⟨0x00400010, 1, 0x0, 1, 0x0, 0, 16, .rw, 8000⟩
  | .pwrTray_trayPeakW => ⟨0x00400018, 1, 0x0, 1, 0x0, 16, 16, .rw, 8000⟩
  | .pwrTray_grantW => ⟨0x00400018, 1, 0x0, 1, 0x0, 0, 16, .rw, 7200⟩
  | .pwrBudget_shareW => ⟨0x00400020, 1, 0x0, 1, 0x0, 16, 16, .ro, 0⟩
  | .pwrBudget_budgetW => ⟨0x00400020, 1, 0x0, 1, 0x0, 0, 16, .ro, 7200⟩
  | .pwrThrottle_levelW => ⟨0x00400028, 1, 0x0, 1, 0x0, 0, 16, .rw, 4320⟩
  | .pwrCtl_wake => ⟨0x00400030, 1, 0x0, 1, 0x0, 18, 1, .wo, 0⟩
  | .pwrCtl_energyMode => ⟨0x00400030, 1, 0x0, 1, 0x0, 17, 1, .ro, 0⟩
  | .pwrCtl_equinoxOff => ⟨0x00400030, 1, 0x0, 1, 0x0, 16, 1, .rw, 0⟩
  | .pwrCtl_idleMs => ⟨0x00400030, 1, 0x0, 1, 0x0, 0, 16, .rw, 50⟩
  | .pwrInput_voltage => ⟨0x00400038, 1, 0x0, 1, 0x0, 32, 16, .ro, 0⟩
  | .pwrInput_powerW => ⟨0x00400038, 1, 0x0, 1, 0x0, 0, 16, .ro, 0⟩
  | .pwrEnergy_mj => ⟨0x00400040, 1, 0x0, 1, 0x0, 0, 64, .sat, 0⟩
  | .pwrLimitCount_count => ⟨0x00400048, 1, 0x0, 1, 0x0, 0, 32, .sat, 0⟩
  | .pwrWarnCount_count => ⟨0x00400050, 1, 0x0, 1, 0x0, 0, 32, .sat, 0⟩
  | .pwrFallowCount_count => ⟨0x00400058, 1, 0x0, 1, 0x0, 0, 32, .sat, 0⟩
  | .pwrCoef_link => ⟨0x00400060, 1, 0x0, 1, 0x0, 16, 16, .ro, 0⟩
  | .pwrCoef_mem => ⟨0x00400060, 1, 0x0, 1, 0x0, 0, 16, .ro, 0⟩
  | .pwrDieCap_capW => ⟨0x00400100, 8, 0x8, 1, 0x0, 16, 16, .ro, 0⟩
  | .pwrDieCap_drawW => ⟨0x00400100, 8, 0x8, 1, 0x0, 0, 16, .ro, 0⟩
  | .pwrDieDroopCount_count => ⟨0x00400180, 8, 0x8, 1, 0x0, 0, 32, .sat, 0⟩
  | .pwrDiePauseCount_count => ⟨0x00400200, 8, 0x8, 1, 0x0, 0, 32, .sat, 0⟩
  | .pwrClassEnergy_e => ⟨0x00401000, 2048, 0x8, 1, 0x0, 0, 16, .ro, 2400⟩
  | .thermStatus_trip => ⟨0x00500000, 1, 0x0, 1, 0x0, 4, 1, .st, 0⟩
  | .thermStatus_coolantSeen => ⟨0x00500000, 1, 0x0, 1, 0x0, 3, 1, .st, 0⟩
  | .thermStatus_alarmSeen => ⟨0x00500000, 1, 0x0, 1, 0x0, 2, 1, .st, 0⟩
  | .thermStatus_throttleSeen => ⟨0x00500000, 1, 0x0, 1, 0x0, 1, 1, .st, 0⟩
  | .thermStatus_saturated => ⟨0x00500000, 1, 0x0, 1, 0x0, 0, 1, .st, 0⟩
  | .thermTripDie_dies => ⟨0x00500008, 1, 0x0, 1, 0x0, 0, 12, .st, 0⟩
  | .thermCoolant_inlet => ⟨0x00500010, 1, 0x0, 1, 0x0, 16, 16, .ro, 0⟩
  | .thermCoolant_flow => ⟨0x00500010, 1, 0x0, 1, 0x0, 0, 16, .ro, 0⟩
  | .thermThrottleCount_count => ⟨0x00500040, 1, 0x0, 1, 0x0, 0, 32, .sat, 0⟩
  | .thermExcursionCount_count => ⟨0x00500048, 1, 0x0, 1, 0x0, 0, 32, .sat, 0⟩
  | .thermDie_tjMax => ⟨0x00500100, 12, 0x8, 1, 0x0, 16, 16, .ro, 0⟩
  | .thermDie_throttled => ⟨0x00500100, 12, 0x8, 1, 0x0, 0, 16, .ro, 0⟩
  | .vigilStatus_quarantineSeen => ⟨0x00D00000, 1, 0x0, 1, 0x0, 3, 1, .st, 0⟩
  | .vigilStatus_escalationSeen => ⟨0x00D00000, 1, 0x0, 1, 0x0, 2, 1, .st, 0⟩
  | .vigilStatus_hangSeen => ⟨0x00D00000, 1, 0x0, 1, 0x0, 1, 1, .st, 0⟩
  | .vigilStatus_saturated => ⟨0x00D00000, 1, 0x0, 1, 0x0, 0, 1, .st, 0⟩
  | .vigilCtl_hangMs => ⟨0x00D00008, 1, 0x0, 1, 0x0, 0, 16, .rw, 250⟩
  | .vigilHangCount_count => ⟨0x00D00010, 1, 0x0, 1, 0x0, 0, 32, .sat, 0⟩
  | .vigilResetCount_count => ⟨0x00D00018, 6, 0x8, 1, 0x0, 0, 32, .sat, 0⟩
  | .vigilStaleDropCount_count => ⟨0x00D00048, 1, 0x0, 1, 0x0, 0, 32, .sat, 0⟩
  | .vigilRemoteTimeoutCount_count => ⟨0x00D00050, 1, 0x0, 1, 0x0, 0, 32, .sat, 0⟩
  | .vigilFence_go => ⟨0x00D00058, 1, 0x0, 1, 0x0, 31, 1, .wo, 0⟩
  | .vigilFence_kind => ⟨0x00D00058, 1, 0x0, 1, 0x0, 28, 3, .wo, 0⟩
  | .vigilFence_index => ⟨0x00D00058, 1, 0x0, 1, 0x0, 0, 8, .wo, 0⟩
  | .vigilFenced_engines => ⟨0x00D00060, 1, 0x0, 1, 0x0, 0, 12, .ro, 0⟩
  | .vigilQuarantine_ctx => ⟨0x00D00100, 4, 0x8, 1, 0x0, 0, 64, .ro, 0⟩
  | .troubleLog_supplyReset => ⟨0x00E00000, 1, 0x0, 1, 0x0, 21, 1, .st, 0⟩
  | .troubleLog_repeatHang => ⟨0x00E00000, 1, 0x0, 1, 0x0, 20, 1, .st, 0⟩
  | .troubleLog_remoteTimeout => ⟨0x00E00000, 1, 0x0, 1, 0x0, 19, 1, .st, 0⟩
  | .troubleLog_disableInflight => ⟨0x00E00000, 1, 0x0, 1, 0x0, 18, 1, .st, 0⟩
  | .troubleLog_flr => ⟨0x00E00000, 1, 0x0, 1, 0x0, 17, 1, .st, 0⟩
  | .troubleLog_sweepLate => ⟨0x00E00000, 1, 0x0, 1, 0x0, 16, 1, .st, 0⟩
  | .troubleLog_quarantine => ⟨0x00E00000, 1, 0x0, 1, 0x0, 15, 1, .st, 0⟩
  | .troubleLog_takeover => ⟨0x00E00000, 1, 0x0, 1, 0x0, 14, 1, .st, 0⟩
  | .troubleLog_esc => ⟨0x00E00000, 1, 0x0, 1, 0x0, 9, 5, .st, 0⟩
  | .troubleLog_cycleReq => ⟨0x00E00000, 1, 0x0, 1, 0x0, 8, 1, .st, 0⟩
  | .troubleLog_reset => ⟨0x00E00000, 1, 0x0, 1, 0x0, 3, 5, .st, 0⟩
  | .troubleLog_vigilHang => ⟨0x00E00000, 1, 0x0, 1, 0x0, 2, 1, .st, 0⟩
  | .troubleLog_saturated => ⟨0x00E00000, 1, 0x0, 1, 0x0, 0, 1, .st, 0⟩
  | .troubleFirst_lcount => ⟨0x00E00008, 1, 0x0, 1, 0x0, 0, 64, .ro, 0⟩
  | .troubleLast_lcount => ⟨0x00E00010, 1, 0x0, 1, 0x0, 0, 64, .ro, 0⟩
  | .troubleLastUnit_level => ⟨0x00E00018, 1, 0x0, 1, 0x0, 20, 4, .ro, 0⟩
  | .troubleLastUnit_kind => ⟨0x00E00018, 1, 0x0, 1, 0x0, 16, 4, .ro, 0⟩
  | .troubleLastUnit_index => ⟨0x00E00018, 1, 0x0, 1, 0x0, 0, 16, .ro, 0⟩
  | .troubleModuleResets_count => ⟨0x00E00020, 1, 0x0, 1, 0x0, 0, 32, .sat, 0⟩
  | .troubleCycles_count => ⟨0x00E00028, 1, 0x0, 1, 0x0, 0, 32, .sat, 0⟩
  | .mcBootStatus_heldReason => ⟨0x00000040, 1, 0x0, 1, 0x0, 28, 4, .ro, 0⟩
  | .mcBootStatus_emberCode => ⟨0x00000040, 1, 0x0, 1, 0x0, 24, 4, .ro, 15⟩
  | .mcBootStatus_slot => ⟨0x00000040, 1, 0x0, 1, 0x0, 19, 1, .ro, 0⟩
  | .mcBootStatus_fallback => ⟨0x00000040, 1, 0x0, 1, 0x0, 18, 1, .st, 0⟩
  | .mcBootStatus_cold => ⟨0x00000040, 1, 0x0, 1, 0x0, 17, 1, .ro, 0⟩
  | .mcBootStatus_unsealedSeen => ⟨0x00000040, 1, 0x0, 1, 0x0, 16, 1, .st, 0⟩
  | .mcBootStatus_startS => ⟨0x00000040, 1, 0x0, 1, 0x0, 8, 8, .ro, 0⟩
  | .mcBootCtl_forceCold => ⟨0x00000048, 1, 0x0, 1, 0x0, 0, 1, .rw, 0⟩
  | .mcFwVersion_running => ⟨0x00000050, 1, 0x0, 1, 0x0, 0, 64, .ro, 0⟩
  | .mcFwSvn_counter => ⟨0x00000058, 1, 0x0, 1, 0x0, 16, 16, .ro, 0⟩
  | .mcFwSvn_image => ⟨0x00000058, 1, 0x0, 1, 0x0, 0, 16, .ro, 0⟩
  | .mcFwStaged_version => ⟨0x00000060, 1, 0x0, 1, 0x0, 0, 64, .ro, 0⟩
  | .hostifStatus_linkDownSeen => ⟨0x00100000, 1, 0x0, 1, 0x0, 2, 1, .st, 0⟩
  | .hostifStatus_flrSeen => ⟨0x00100000, 1, 0x0, 1, 0x0, 1, 1, .st, 0⟩
  | .hostifStatus_saturated => ⟨0x00100000, 1, 0x0, 1, 0x0, 0, 1, .st, 0⟩
  | .hostifId_device => ⟨0x00100008, 1, 0x0, 1, 0x0, 16, 16, .ro, 53256⟩
  | .hostifId_vendor => ⟨0x00100008, 1, 0x0, 1, 0x0, 0, 16, .ro, 0⟩
  | .hostifLink_width => ⟨0x00100010, 1, 0x0, 1, 0x0, 8, 5, .ro, 0⟩
  | .hostifLink_rate => ⟨0x00100010, 1, 0x0, 1, 0x0, 4, 3, .ro, 0⟩
  | .hostifLink_flit => ⟨0x00100010, 1, 0x0, 1, 0x0, 3, 1, .ro, 0⟩
  | .hostifLink_up => ⟨0x00100010, 1, 0x0, 1, 0x0, 0, 1, .ro, 0⟩
  | .hostifVf_numVfs => ⟨0x00100018, 1, 0x0, 1, 0x0, 1, 8, .ro, 0⟩
  | .hostifVf_enable => ⟨0x00100018, 1, 0x0, 1, 0x0, 0, 1, .ro, 0⟩
  | .hostifUrgent_enable => ⟨0x00100020, 1, 0x0, 1, 0x0, 15, 1, .rw, 0⟩
  | .hostifUrgent_vector => ⟨0x00100020, 1, 0x0, 1, 0x0, 0, 11, .rw, 0⟩
  | .hostifFnBar4_base => ⟨0x00101000, 64, 0x8, 1, 0x0, 12, 52, .rw, 0⟩
  | .hostifFnBar4_ctx => ⟨0x00101000, 64, 0x8, 1, 0x0, 0, 8, .rw, 255⟩
  | .hostifFnDbViol_count => ⟨0x00102000, 64, 0x8, 1, 0x0, 0, 32, .sat, 0⟩
  | .hostifFnState_state => ⟨0x00103000, 64, 0x8, 1, 0x0, 0, 2, .ro, 0⟩
  | .fdieCxlStatus_poisonSeen => ⟨0x09300000, 4, 0x1000000, 1, 0x0, 2, 1, .st, 0⟩
  | .fdieCxlStatus_downSeen => ⟨0x09300000, 4, 0x1000000, 1, 0x0, 1, 1, .st, 0⟩
  | .fdieCxlStatus_saturated => ⟨0x09300000, 4, 0x1000000, 1, 0x0, 0, 1, .st, 0⟩
  | .fdieCxlPort_width => ⟨0x09300008, 4, 0x1000000, 1, 0x0, 8, 5, .ro, 0⟩
  | .fdieCxlPort_rate => ⟨0x09300008, 4, 0x1000000, 1, 0x0, 4, 3, .ro, 0⟩
  | .fdieCxlPort_present => ⟨0x09300008, 4, 0x1000000, 1, 0x0, 1, 1, .ro, 0⟩
  | .fdieCxlPort_up => ⟨0x09300008, 4, 0x1000000, 1, 0x0, 0, 1, .ro, 0⟩
  | .fdieCxlCapacity_bytes => ⟨0x09300010, 4, 0x1000000, 1, 0x0, 0, 64, .ro, 0⟩
  | .fdieCxlMapBase_offset => ⟨0x09300018, 4, 0x1000000, 1, 0x0, 0, 64, .ro, 0⟩
  | .fdieCxlMapBytes_bytes => ⟨0x09300020, 4, 0x1000000, 1, 0x0, 0, 64, .ro, 0⟩
  | .fdieCxlPoisonCount_count => ⟨0x09300028, 4, 0x1000000, 1, 0x0, 0, 32, .sat, 0⟩
  | .fdieCxlBytes_units => ⟨0x09300030, 4, 0x1000000, 1, 0x0, 0, 64, .sat, 0⟩
  | .mcStraps_assigned => ⟨0x00000070, 1, 0x0, 1, 0x0, 31, 1, .ro, 0⟩
  | .mcStraps_planClass => ⟨0x00000070, 1, 0x0, 1, 0x0, 23, 2, .ro, 0⟩
  | .mcStraps_trayType => ⟨0x00000070, 1, 0x0, 1, 0x0, 21, 2, .ro, 0⟩
  | .mcStraps_slot => ⟨0x00000070, 1, 0x0, 1, 0x0, 18, 3, .ro, 0⟩
  | .mcStraps_levels => ⟨0x00000070, 1, 0x0, 1, 0x0, 0, 16, .ro, 0⟩
  | .mcSideband_driven => ⟨0x00000078, 1, 0x0, 1, 0x0, 8, 8, .ro, 0⟩
  | .mcSideband_level => ⟨0x00000078, 1, 0x0, 1, 0x0, 0, 8, .ro, 0⟩
  | .mcId_numericsGen => ⟨0x00000000, 1, 0x0, 1, 0x0, 16, 8, .ro, 2⟩
  | .mcId_stepping => ⟨0x00000000, 1, 0x0, 1, 0x0, 8, 8, .ro, 0⟩
  | .mcId_part => ⟨0x00000000, 1, 0x0, 1, 0x0, 0, 8, .ro, 216⟩
  | .mcFlags_takeoverSeen => ⟨0x00000018, 1, 0x0, 1, 0x0, 1, 1, .st, 0⟩
  | .mcFlags_saturated => ⟨0x00000018, 1, 0x0, 1, 0x0, 0, 1, .st, 0⟩
  | .mcSerialLo_bytes => ⟨0x00000080, 1, 0x0, 1, 0x0, 0, 64, .ro, 0⟩
  | .mcSerialHi_bytes => ⟨0x00000088, 1, 0x0, 1, 0x0, 0, 64, .ro, 0⟩
  | .mcSerialDigest_digest => ⟨0x00000090, 1, 0x0, 1, 0x0, 0, 64, .ro, 0⟩
  | .mcLcount_count => ⟨0x00000098, 1, 0x0, 1, 0x0, 0, 64, .ro, 0⟩
  | .queueStatus_saturated => ⟨0x00200018, 1, 0x0, 1, 0x0, 0, 1, .st, 0⟩
  | .queueEvtDrop_count => ⟨0x00210000, 256, 0x8, 1, 0x0, 0, 32, .sat, 0⟩
  | .queueQState_nextSeq => ⟨0x00300000, 4096, 0x8, 1, 0x0, 32, 32, .ro, 0⟩
  | .queueQState_ctx => ⟨0x00300000, 4096, 0x8, 1, 0x0, 24, 8, .ro, 0⟩
  | .queueQState_heldReason => ⟨0x00300000, 4096, 0x8, 1, 0x0, 4, 4, .ro, 0⟩
  | .queueQState_state => ⟨0x00300000, 4096, 0x8, 1, 0x0, 0, 4, .ro, 0⟩
  | .fdieMirrorStatus_repairSeen => ⟨0x09200000, 4, 0x1000000, 1, 0x0, 2, 1, .st, 0⟩
  | .fdieMirrorStatus_overflowSeen => ⟨0x09200000, 4, 0x1000000, 1, 0x0, 1, 1, .st, 0⟩
  | .fdieMirrorStatus_saturated => ⟨0x09200000, 4, 0x1000000, 1, 0x0, 0, 1, .st, 0⟩
  | .fdieMirrorBytes_units => ⟨0x09200008, 4, 0x1000000, 1, 0x0, 0, 64, .sat, 0⟩
  | .fdieMirrorRepairCount_count => ⟨0x09200010, 4, 0x1000000, 1, 0x0, 0, 32, .sat, 0⟩
  | .fdieMirrorCheckFailCount_count => ⟨0x09200018, 4, 0x1000000, 1, 0x0, 0, 32, .sat, 0⟩

/-- Every field of one chapter's tables. -/
def fldsOf01 : List Fld :=
  [.mcStatus_takeoverCount,
   .mcStatus_cpPresent,
   .mcStatus_phase,
   .mcStatus_controller,
   .mcStatus_ready]

def fldsOf03 : List Fld :=
  [.queueAdminSqBase_addr,
   .queueAdminCqBase_addr,
   .queueAdminCfg_msix,
   .queueAdminCfg_cqLog2,
   .queueAdminCfg_sqLog2,
   .queueAdminCfg_enable]

def fldsOf05 : List Fld :=
  [.cdieMtxCheckCtl_lanesOff,
   .cdieMtxStatus_offSeen,
   .cdieMtxStatus_detectSeen,
   .cdieMtxStatus_saturated,
   .cdieMtxDetectCount_count]

def fldsOf06 : List Fld :=
  [.cdieVecOctaveCtl_rateLog2,
   .cdieVecStatus_offSeen,
   .cdieVecStatus_failSeen,
   .cdieVecStatus_saturated,
   .cdieVecOctaveSampled_count,
   .cdieVecOctaveFailCount_count,
   .cdieVecOctaveSkipCount_count,
   .cdieVecTrapCount_count]

def fldsOf07 : List Fld :=
  [.mcWinStatus_saturated,
   .mcWinRemoteViol_count,
   .mcWinViol_count,
   .cdieMemMigrate_channel,
   .cdieMemMigrate_go,
   .cdieMemStatus_leapTarget,
   .cdieMemStatus_migrating,
   .cdieMemStatus_uncorrSeen,
   .cdieMemStatus_migrated,
   .cdieMemStatus_saturated,
   .cdieMemMigrateThresh_edc,
   .cdieMemMigrateThresh_corr,
   .cdieMemCopyPtr_line,
   .cdieMemSramCorrCount_count,
   .cdieMemSramUncorrCount_count,
   .cdieMemCorrCount_count,
   .cdieMemUncorrCount_count,
   .cdieMemEdcCount_count]

def fldsOf08 : List Fld :=
  [.numwCtl_quietN,
   .numwCtl_enable,
   .numwFloor_floor,
   .numwQuiet_seen,
   .numwQuiet_firstGroup,
   .numwQuiet_reports,
   .numwStatus_offSeen,
   .numwStatus_quietSeen,
   .numwStatus_saturated,
   .numwNonfiniteCount_count,
   .numwPassCount_count]

def fldsOf09 : List Fld :=
  [.fdieCollStatus_faultSeen,
   .fdieCollStatus_retrySeen,
   .fdieCollStatus_nonfiniteSeen,
   .fdieCollStatus_saturated,
   .fdieCollHopRetryCount_count,
   .fdieCollFaultCount_count,
   .fdieCollDupDiscardCount_count,
   .fdieCollStaleDiscardCount_count,
   .fdieCollNonfiniteCount_count,
   .fdieCollBytes_units]

def fldsOf10 : List Fld :=
  [.stepStatus_unmirroredSeen,
   .stepStatus_saturated,
   .stepCtxState_level,
   .stepCtxState_sameTray,
   .stepCtxState_mirrored,
   .stepCtxState_agreed,
   .stepCtxState_rot,
   .stepCtxState_state,
   .stepCtxStep_step,
   .stepCommitSeq_seq,
   .stepCtxCommitted_step,
   .stepCtxAttempt_attempt,
   .stepCtxReplays_stepLevel,
   .stepCtxReplays_mbLevel,
   .stepCtxPlan_addr,
   .stepCtxStraggle_lateness,
   .stepCtxStraggle_run,
   .stepCtxStraggle_backup]

def fldsOf11 : List Fld :=
  [.linkStatus_mismatchSeen,
   .linkStatus_dropSeen,
   .linkStatus_spareSeen,
   .linkStatus_saturated,
   .linkEpoch_max,
   .linkEpoch_min,
   .linkPlan_generation,
   .linkPlan_acceptDiscovered,
   .linkPlanDigest_digest,
   .linkLaneThresh_serLog,
   .linkVcWeight_weights,
   .linkPortState_epoch,
   .linkPortState_outcome,
   .linkPortState_state,
   .linkPortState_width,
   .linkPortState_spared,
   .linkPortPeerSerial_digest,
   .linkPortPeer_trayId,
   .linkPortPeer_roster,
   .linkPortPeer_port,
   .linkPortPeer_straps,
   .linkPortCtl_holdDown,
   .linkPortCorrCount_count,
   .linkPortUncorrCount_count,
   .linkPortRetryCount_count,
   .linkPortSliceDropCount_count,
   .linkPortOtherDropCount_count,
   .linkPortFlits_units]

def fldsOf12 : List Fld :=
  [.cohortStatus_primaryLostSeen,
   .cohortStatus_noQuorumSeen,
   .cohortStatus_probationSeen,
   .cohortStatus_suspectSeen,
   .cohortStatus_saturated,
   .cohortSelf_role,
   .cohortSelf_steward,
   .cohortSelf_deputy,
   .cohortSelf_primary,
   .cohortSelf_cohort,
   .cohortSelf_roster,
   .cohortEpoch_epoch,
   .cohortHealth_hard,
   .cohortHealth_score,
   .cohortPenalty_pMargin,
   .cohortPenalty_pSpare,
   .cohortPenalty_pRep,
   .cohortPenalty_pPool,
   .cohortPenalty_pDet,
   .cohortPenalty_pErr,
   .cohortThresh_floor,
   .cohortThresh_evict,
   .cohortQuota_intervalMin,
   .cohortQuota_perInterval,
   .cohortHold_holdMs,
   .cohortSuspectCount_count,
   .cohortDecisionCount_count,
   .cohortEvictCount_count,
   .cohortDeferCount_count,
   .cohortRoster_entry]

def fldsOf13 : List Fld :=
  [.harvestStatus_refusedSeen,
   .harvestStatus_failedSeen,
   .harvestStatus_saturated,
   .harvestTrust_addr,
   .harvestTrustCount_count,
   .harvestSigner_hash,
   .harvestFailCount_count,
   .harvestSkipCount_count,
   .harvestBytes_units,
   .harvestCtxState_restoring,
   .harvestCtxState_busy,
   .harvestCtxGen_generation,
   .harvestCtxStep_step,
   .harvestCtxCtl_noScale]

def fldsOf14 : List Fld :=
  [.almanacStatus_tail,
   .almanacStatus_skipSeen,
   .almanacStatus_retireSeen,
   .almanacStatus_replanSeen,
   .almanacStatus_saturated,
   .almanacSeq_seq,
   .almanacGrade_leaseTerm,
   .almanacGrade_yTenths,
   .almanacGrade_trimmed,
   .almanacGrade_grade,
   .almanacPool_cores,
   .almanacPool_clusters,
   .almanacPool_minIdle,
   .almanacPool_channels,
   .almanacPool_linkLanes,
   .almanacPool_bridgeLanes,
   .almanacPool_setAside,
   .almanacCtl_flush,
   .almanacSubstCount_count,
   .almanacReplanCount_count,
   .almanacRetireCount_count,
   .almanacUsed_blocks]

def fldsOf15 : List Fld :=
  [.pwrStatus_throttleSeen,
   .pwrStatus_limitMissed,
   .pwrStatus_warnSeen,
   .pwrStatus_resetSeen,
   .pwrStatus_pauseSeen,
   .pwrStatus_saturated,
   .pwrState_state,
   .pwrState_target,
   .pwrPeakLimit_windowUs,
   .pwrPeakLimit_peakW,
   .pwrTray_trayPeakW,
   .pwrTray_grantW,
   .pwrBudget_shareW,
   .pwrBudget_budgetW,
   .pwrThrottle_levelW,
   .pwrCtl_wake,
   .pwrCtl_energyMode,
   .pwrCtl_equinoxOff,
   .pwrCtl_idleMs,
   .pwrInput_voltage,
   .pwrInput_powerW,
   .pwrEnergy_mj,
   .pwrLimitCount_count,
   .pwrWarnCount_count,
   .pwrFallowCount_count,
   .pwrCoef_link,
   .pwrCoef_mem,
   .pwrDieCap_capW,
   .pwrDieCap_drawW,
   .pwrDieDroopCount_count,
   .pwrDiePauseCount_count,
   .pwrClassEnergy_e,
   .thermStatus_trip,
   .thermStatus_coolantSeen,
   .thermStatus_alarmSeen,
   .thermStatus_throttleSeen,
   .thermStatus_saturated,
   .thermTripDie_dies,
   .thermCoolant_inlet,
   .thermCoolant_flow,
   .thermThrottleCount_count,
   .thermExcursionCount_count,
   .thermDie_tjMax,
   .thermDie_throttled]

def fldsOf16 : List Fld :=
  [.vigilStatus_quarantineSeen,
   .vigilStatus_escalationSeen,
   .vigilStatus_hangSeen,
   .vigilStatus_saturated,
   .vigilCtl_hangMs,
   .vigilHangCount_count,
   .vigilResetCount_count,
   .vigilStaleDropCount_count,
   .vigilRemoteTimeoutCount_count,
   .vigilFence_go,
   .vigilFence_kind,
   .vigilFence_index,
   .vigilFenced_engines,
   .vigilQuarantine_ctx,
   .troubleLog_supplyReset,
   .troubleLog_repeatHang,
   .troubleLog_remoteTimeout,
   .troubleLog_disableInflight,
   .troubleLog_flr,
   .troubleLog_sweepLate,
   .troubleLog_quarantine,
   .troubleLog_takeover,
   .troubleLog_esc,
   .troubleLog_cycleReq,
   .troubleLog_reset,
   .troubleLog_vigilHang,
   .troubleLog_saturated,
   .troubleFirst_lcount,
   .troubleLast_lcount,
   .troubleLastUnit_level,
   .troubleLastUnit_kind,
   .troubleLastUnit_index,
   .troubleModuleResets_count,
   .troubleCycles_count]

def fldsOf17 : List Fld :=
  [.mcBootStatus_heldReason,
   .mcBootStatus_emberCode,
   .mcBootStatus_slot,
   .mcBootStatus_fallback,
   .mcBootStatus_cold,
   .mcBootStatus_unsealedSeen,
   .mcBootStatus_startS,
   .mcBootCtl_forceCold,
   .mcFwVersion_running,
   .mcFwSvn_counter,
   .mcFwSvn_image,
   .mcFwStaged_version]

def fldsOf18 : List Fld :=
  [.hostifStatus_linkDownSeen,
   .hostifStatus_flrSeen,
   .hostifStatus_saturated,
   .hostifId_device,
   .hostifId_vendor,
   .hostifLink_width,
   .hostifLink_rate,
   .hostifLink_flit,
   .hostifLink_up,
   .hostifVf_numVfs,
   .hostifVf_enable,
   .hostifUrgent_enable,
   .hostifUrgent_vector,
   .hostifFnBar4_base,
   .hostifFnBar4_ctx,
   .hostifFnDbViol_count,
   .hostifFnState_state,
   .fdieCxlStatus_poisonSeen,
   .fdieCxlStatus_downSeen,
   .fdieCxlStatus_saturated,
   .fdieCxlPort_width,
   .fdieCxlPort_rate,
   .fdieCxlPort_present,
   .fdieCxlPort_up,
   .fdieCxlCapacity_bytes,
   .fdieCxlMapBase_offset,
   .fdieCxlMapBytes_bytes,
   .fdieCxlPoisonCount_count,
   .fdieCxlBytes_units]

def fldsOf19 : List Fld :=
  [.mcStraps_assigned,
   .mcStraps_planClass,
   .mcStraps_trayType,
   .mcStraps_slot,
   .mcStraps_levels,
   .mcSideband_driven,
   .mcSideband_level]

def fldsOf20 : List Fld :=
  [.mcId_numericsGen,
   .mcId_stepping,
   .mcId_part,
   .mcFlags_takeoverSeen,
   .mcFlags_saturated,
   .mcSerialLo_bytes,
   .mcSerialHi_bytes,
   .mcSerialDigest_digest,
   .mcLcount_count,
   .queueStatus_saturated,
   .queueEvtDrop_count,
   .queueQState_nextSeq,
   .queueQState_ctx,
   .queueQState_heldReason,
   .queueQState_state,
   .fdieMirrorStatus_repairSeen,
   .fdieMirrorStatus_overflowSeen,
   .fdieMirrorStatus_saturated,
   .fdieMirrorBytes_units,
   .fdieMirrorRepairCount_count,
   .fdieMirrorCheckFailCount_count]

/-- Every register field. -/
def allFlds : List Fld :=
  fldsOf01 ++ fldsOf03 ++ fldsOf05 ++ fldsOf06 ++ fldsOf07 ++ fldsOf08 ++ fldsOf09 ++ fldsOf10 ++ fldsOf11 ++ fldsOf12 ++ fldsOf13 ++ fldsOf14 ++ fldsOf15 ++ fldsOf16 ++ fldsOf17 ++ fldsOf18 ++ fldsOf19 ++ fldsOf20

end Sys2Proof.Machine
end

