-- ==== Sys2Proof/Machine/SMap.lean ====
section
/-! DEFINITION. The one sparse map of the model: a list of (key, value) pairs in canonical form, keys strictly rising and no
entry equal to what an unlisted key reads as. Memory, register fields and the tables of the module are all held in it. -/

namespace Sys2Proof.Machine

/-- A sparse map, plain data. The default value is given at each use. -/
abbrev SMap (α : Type) := List (Nat × α)

/-- What key `k` holds; `d` where nothing is listed. -/
def sget {α : Type} (d : α) : SMap α → Nat → α
  | [], _ => d
  | (k', v) :: m, k => if k' = k then v else sget d m k

/-- The entry of key `k`, if one is listed. -/
def sget? {α : Type} : SMap α → Nat → Option α
  | [], _ => none
  | (k', v) :: m, k => if k' = k then some v else sget? m k

/-- The map without key `k`. -/
def sdel {α : Type} : SMap α → Nat → SMap α
  | [], _ => []
  | (k', v) :: m, k => if k' = k then sdel m k else (k', v) :: sdel m k

/-- A pair put in before the first larger key. -/
def sins {α : Type} (k : Nat) (v : α) : SMap α → SMap α
  | [] => [(k, v)]
  | (k', v') :: m => if k < k' then (k, v) :: (k', v') :: m else (k', v') :: sins k v m

/-- The map in which key `k` reads as `v`: writing the default removes the entry. -/
def sset {α : Type} [DecidableEq α] (d : α) (m : SMap α) (k : Nat) (v : α) : SMap α :=
  if v = d then sdel m k else sins k v (sdel m k)

/-- The map in which key `k` is listed with `v`, for maps with no default value. -/
def sput {α : Type} (m : SMap α) (k : Nat) (v : α) : SMap α := sins k v (sdel m k)

/-- Every key is above `lo`, in strictly rising order, and no value is the default. -/
def swfFrom {α : Type} [DecidableEq α] (d : α) : Nat → SMap α → Bool
  | _, [] => true
  | lo, (k, v) :: m => decide (lo ≤ k) && decide (v ≠ d) && swfFrom d (k + 1) m

/-- The canonical form. -/
def swf {α : Type} [DecidableEq α] (d : α) (m : SMap α) : Bool := swfFrom d 0 m

/-- Keys in strictly rising order, for maps with no default value. -/
def sordFrom {α : Type} : Nat → SMap α → Bool
  | _, [] => true
  | lo, (k, _) :: m => decide (lo ≤ k) && sordFrom (k + 1) m

/-- `n` values from key `k` upwards. -/
def sgetN {α : Type} (d : α) (m : SMap α) (k : Nat) : Nat → List α
  | 0 => []
  | n + 1 => sget d m k :: sgetN d m (k + 1) n

/-- A list of values written from key `k` upwards. -/
def ssetN {α : Type} [DecidableEq α] (d : α) (m : SMap α) (k : Nat) : List α → SMap α
  | [] => m
  | v :: vs => ssetN d (sset d m k v) (k + 1) vs

/-- The entries whose keys lie in `[k, k + n)`. -/
def srange {α : Type} (m : SMap α) (k n : Nat) : SMap α := m.filter (fun x => decide (k ≤ x.1) && decide (x.1 < k + n))

/-- The map without the entries whose keys lie in `[k, k + n)`: they read as the default. -/
def sclear {α : Type} (m : SMap α) (k n : Nat) : SMap α := m.filter (fun x => !(decide (k ≤ x.1) && decide (x.1 < k + n)))

/-- The `n` entries from key `src` copied to key `dst`. -/
def scopy {α : Type} (m : SMap α) (dst src n : Nat) : SMap α :=
  (srange m src n).foldl (fun m x => sins (x.1 - src + dst) x.2 m) (sclear m dst n)

/-- The listed values, in key order. -/
def svals {α : Type} (m : SMap α) : List α := m.map Prod.snd

end Sys2Proof.Machine
end

