-- ==== Sys2Proof/Machine/State.lean ====
section
/-! DEFINITION. The state of the module as plain data, the reasons for a stop, and the state right after power is applied. -/

namespace Sys2Proof.Machine

/-- An exact value: a NaN (signalling or not), an infinity, or `(-1)^neg * m * 2^e`; a zero has `m = 0` and keeps its sign. A wide
accumulator lane (R141) holds one whose `m` has 48 bits, or zero. -/
inductive FVal where
  | nan (sig : Bool)
  | inf (neg : Bool)
  | fin (neg : Bool) (m : Nat) (e : Int)
deriving DecidableEq, Repr

/-- An event record of Table 3.9 as it went to the ring of context `ring`. `detail` is the 32-byte detail, little-endian. -/
structure Event where
  ring : Nat
  code : Nat
  src : Nat
  ctx : Nat
  gen : Nat
  queue : Nat
  lcount : Nat
  step : Nat
  commit : Nat
  detail : Nat
deriving DecidableEq, Repr

/-- What leaves the module other than a write of host memory. -/
inductive OutMsg where
  /-- An MSI-X message of a function's vector (R443). -/
  | msix (fn vector : Nat)
  /-- A management message to another module over VC7 or a notice to the fabric manager: its kind, its destination and its fields. -/
  | vc7 (kind : String) (dest : Nat) (fields : List Nat)
  /-- Bytes that an engine sends to another module: its kind, its destination, its fields and its data. -/
  | data (kind : String) (dest : Nat) (fields : List Nat) (bytes : List Byte)
  /-- A control item on one link port. -/
  | link (port : Nat) (kind : String) (fields : List Nat)
  /-- A reply or an event message of the management interface. -/
  | mctp (kind : String) (fields : List Nat) (bytes : List Byte)
  /-- A host access completed with a status that the bus defines: `ur` is Unsupported Request. -/
  | pcie (fn : Nat) (ur : Bool) (data : List Byte)
deriving DecidableEq, Repr

/-- An entry of a window table (Table 7.4). -/
structure WinEntry where
  base : Nat
  bytes : Nat
  rights : Nat
  slice : Nat
deriving DecidableEq, Repr

/-- The states of a queue that exists (Table 3.2). -/
inductive QSt where
  | active | held | draining | disabled | quarantined
deriving DecidableEq, Repr

/-- A fetched submission: its bytes with the extensions, the slots it takes, the command it spells, and the status of the first
failed check of R63 (0: none). -/
structure Fetched where
  bytes : List Byte
  slots : Nat
  cmd : Option Instr
  status : Nat
  twinAck : Bool
deriving DecidableEq, Repr

/-- A queue (R54 to R59). -/
structure Queue where
  ctx : Nat
  sqBase : Nat
  cqBase : Nat
  sqMod : Bool
  cqMod : Bool
  sqLog2 : Nat
  cqLog2 : Nat
  msix : Nat
  startSeq : Nat
  tail : Nat
  acceptSlot : Nat
  nextSeq : Nat
  cqHead : Nat
  state : QSt
  heldReason : Nat
  /-- QUEUE_DESTROY was accepted: nothing more is accepted (R72). -/
  destroying : Bool
  /-- A write of 1 to enable waits for state 4 (R56). -/
  restart : Bool
  /-- Packets fetched and not yet accepted, oldest first. -/
  fetched : List Fetched
deriving DecidableEq, Repr

/-- The journal record states of Table 3.5. -/
inductive RecSt where
  | accepted | issued | replyPending | completed
deriving DecidableEq, Repr

/-- A status reply (Table 3.7), less its sequence number and phase. -/
structure Reply where
  status : Nat
  replayed : Nat
  step : Nat
  detail : Nat
  commit : Nat
deriving DecidableEq, Repr

/-- What an ISSUED command waits for before it completes. -/
inductive Wait where
  | none
  | event (ev value : Nat)
  | queueDrain (queue : Nat)
  | windowDrain (ctx : Nat)
  /-- Stores to other slots of the tray that have not been acknowledged. -/
  | stores (tags : List Nat)
  | unload (graph : Nat)
  | runEnd (run : Nat)
  | retain (addr digest : Nat)
  | microbatch (mb : Nat)
  | update
  | sealing
  | commitWait (step : Nat)
  | exchange (id : Nat)
  | bind
  | release
  | teardown (ctx : Nat)
  | slice (id : Nat)
  | epoch (n : Nat)
  | joined
  | harvest (gen : Nat)
  | vote
  | fallow
  | quiesce
deriving DecidableEq, Repr

/-- A record of the command journal (R65, R66), in acceptance order in `Ctl.journal`. -/
structure Rec where
  q : Nat
  seq : Nat
  ctx : Nat
  opcode : Nat
  flags : Nat
  /-- The packet and its extensions. -/
  bytes : List Byte
  state : RecSt
  wait : Wait
  /-- The step the record carries (R71). -/
  step : Nat
  replayed : Nat
  reply : Option Reply
  /-- A re-run of a command whose reply is already prepared or delivered: the state to return to (R79). -/
  again : Option RecSt
deriving DecidableEq, Repr

/-- The kinds of teardown (R402 to R405). -/
inductive TearKind where
  | destroy | reset | recovery | disable
deriving DecidableEq, Repr

/-- A teardown in progress (Table 16.3). -/
structure Teardown where
  kind : TearKind
  /-- Status given to commands that are not completed (Table 3.8); 0 where they are kept. -/
  status : Nat
  /-- Engines that have still to acknowledge the removal. -/
  acks : List Nat
  /-- Peers whose sweep token has not come back. -/
  peers : List Nat
deriving DecidableEq, Repr

/-- A context (R54). -/
structure Ctx where
  gen : Nat
  fn : Nat
  part : Nat
  quota : Nat
  journalMib : Nat
  window : List WinEntry
  /-- The table of a WINDOW_SET that waits for the remote accesses issued before it, by their tags (R171). -/
  newWin : Option (List WinEntry × List Nat)
  /-- The event counters of R73. -/
  counters : SMap Nat
  /-- The event ring of R76: log2 of its records, vector, base; not set before EVENT_RING. -/
  ring : Option (Nat × Nat × Nat)
  ringIdx : Nat
  /-- Held for isolation (R80). -/
  held : Bool
  twinLost : Bool
  teardown : Option Teardown
deriving DecidableEq, Repr

/-- The command side of the module: contexts, queues, journal and the module controllers (ch. 1, 3). -/
structure Ctl where
  ctxs : SMap Ctx
  /-- The generation of each context number, kept while the number is free. -/
  gens : SMap Nat
  queues : SMap Queue
  journal : List Rec
  /-- Journal records held for partners: peer, peer's context, queue, sequence number, bytes (R64, R233). -/
  partner : List (Nat × Nat × Nat × Nat × List Byte)
  /-- Doorbell writes kept while nothing is accepted (R20). -/
  doorbells : List (Nat × Nat × Nat)
  /-- Heartbeats missed in a row when F1 took over; 0 after one that arrived (R19). -/
  missed : Nat
  /-- F0's management processor is fenced (R19). -/
  f0Fenced : Bool
  /-- The partitions' die masks (R22). -/
  partitions : SMap Nat
deriving DecidableEq, Repr

/-- Memory (ch. 7). Keys are those of `Ops.memKey`. -/
structure Mem where
  bytes : SMap Byte
  /-- Lines that do not read back: 1 poison pattern, 2 uncorrectable, 3 address error. Keyed by memory key / 64. -/
  bad : SMap Nat
  /-- Leap map of the channels: key die * 13 + logical channel, the physical channel; default the logical number. -/
  chanMap : SMap Nat
  /-- The old physical channel of a migration in progress, by die (R176). -/
  migOld : SMap Nat
deriving DecidableEq, Repr

/-- Everything outside the module that it can write, and what it has sent. -/
structure Io where
  hostMem : SMap Byte
  outbox : List OutMsg
  /-- Every event record written to a ring or kept for one, newest first. -/
  events : List Event
  /-- Event records waiting for the ring of context 0 (R435). -/
  waiting : List Event
  /-- The 4-byte read latch of each function: the register's offset and the high half (R477). -/
  latch : SMap (Nat × Nat)
  /-- What the last host read returned. -/
  readData : List Byte
deriving DecidableEq, Repr


/-- A region descriptor (Table 2.3). -/
structure Region where
  dieFirst : Nat
  dieCount : Nat
  x0 : Nat
  y0 : Nat
  w : Nat
  h : Nat
deriving DecidableEq, Repr

/-- A task descriptor (Table 2.4). -/
structure Task where
  kind : Nat
  cls : Nat
  region : Nat
  kernel : Nat
  inCount : Nat
  outCount : Nat
  outFirst : Nat
  argAddr : Nat
  argBytes : Nat
  routeCount : Nat
  notify : Bool
deriving DecidableEq, Repr

/-- An edge descriptor (Table 2.5). -/
structure Edge where
  src : Nat
  dst : Nat
  kind : Nat
  mode : Nat
  route : Nat
  srcPort : Nat
  dstPort : Nat
  credits : Nat
  slotBytes : Nat
  bufOff : Nat
deriving DecidableEq, Repr

/-- A kernel table entry (R40). -/
structure Kernel where
  code : Nat
  bytes : Nat
  entry : Nat
deriving DecidableEq, Repr

/-- A graph as the loader copied it (R35). -/
structure Graph where
  digest : Nat
  regions : List Region
  tasks : List Task
  edges : List Edge
  kernels : List Kernel
deriving DecidableEq, Repr

/-- The states of a task in a run (R42); `stopped` is a task that a fault, a reset or a teardown stopped. -/
inductive TaskSt where
  | waiting | running | completed | skipped | stopped
deriving DecidableEq, Repr

/-- A tile on its way or in a slot: producer's region index, sequence number, valid bytes (R50). -/
structure Tile where
  p : Nat
  s : Nat
  data : List Byte
deriving DecidableEq, Repr

/-- The slots of one consumer cluster's ring: what each holds. -/
inductive Slot where
  | free
  /-- Its credit is granted to a request that still waits for others. -/
  | granted
  /-- A tile is on its way. -/
  | coming (t : Tile)
  /-- Arrived, at a place in the arrival order; `got` and `rel` say who has received and released it: bit 0 the task's own engine,
  bit 1 its Octave shadow. -/
  | full (t : Tile) (order got rel : Nat)
deriving DecidableEq, Repr

/-- A send that waits for credits (R49): its producer cluster, the consumer clusters it needs, the slots granted so far. -/
structure SendReq where
  p : Nat
  dests : List Nat
  granted : List (Nat × Nat)
deriving DecidableEq, Repr

/-- A STREAM or ROUTED edge in a run. -/
structure Stream where
  /-- Key: consumer cluster * 256 + slot. -/
  slots : SMap Slot
  /-- Waiting sends in arrival order. -/
  waiting : List SendReq
  /-- Producer clusters that have closed their side (R51, R53). -/
  closedBy : List Nat
  /-- A tile was sent on the edge. -/
  used : Bool
  /-- The edge has decremented its consumer's tally (R42). -/
  counted : Bool
  /-- Tiles in flight: consumer cluster, slot, in the order sent. -/
  flying : List (Nat × Nat)
deriving DecidableEq, Repr

/-- A stream that nothing has used. -/
def Stream.empty : Stream := ⟨[], [], [], false, false, []⟩

/-- A tile operation as its descriptor gave it at issue, with the core's strides applied (Table 5.2, R103, R104). -/
structure Mma where
  m : Nat
  n : Nat
  k : Nat
  fa : Nat
  fb : Nat
  sca : Nat
  scb : Nat
  space : Nat
  aOff : Nat
  aScale : Nat
  bOff : Nat
  bScale : Nat
  aLd : Nat
  bLd : Nat
  sigA : Nat
  sigB : Nat
  acc : Bool
  accum : Bool
  /-- lanes_off in force at issue (R117). -/
  off : Bool
deriving DecidableEq, Repr

/-- An operation in a core's MTX queue. -/
inductive CoreOp where
  | mma (d : Mma)
  | store (acc : Bool) (addr : Nat)
  | load (acc : Bool) (addr : Nat)
  | csload (addr len dst : Nat)
deriving DecidableEq, Repr

/-- A core of a running cluster (Table 5.1). What core store and tiles hold when a task starts is not stated: where nothing is listed they
read as free values of the number in `fresh`, or as zero after a reset. -/
structure Core where
  queue : List CoreOp
  tile : SMap Word32
  store : SMap Byte
  fresh : Option Nat
  bad0 : Bool
  bad1 : Bool
  /-- Words of the tiles whose parity is wrong. -/
  parity : List Nat
deriving DecidableEq, Repr

/-- A bulk transfer that is not complete (R133). -/
structure Xfer where
  out : Bool
  loc : Nat
  tray : Nat
  len : Nat
deriving DecidableEq, Repr

/-- A vector engine that runs a task's kernel (R123, R124). -/
structure Engine where
  ctx : Nat
  run : Nat
  task : Nat
  /-- Region index. -/
  k : Nat
  ldie : Nat
  /-- Physical mesh index of its cluster, or of the shadow's leap cluster. -/
  phys : Nat
  codeBytes : Nat
  args : List Byte
  pc : Nat
  v : SMap Word32
  m : SMap (BitVec 64)
  wa : SMap FVal
  sr : SMap Word64
  ftz : Bool
  vflags : BitVec 5
  xfers : List Xfer
  /-- Tiles sent on each edge. -/
  sent : SMap Nat
  /-- Slots received and not released: edge, slot. -/
  held : List (Nat × Nat)
  closedPorts : List Nat
  closedRoutes : List Nat
  /-- The instruction that is stalled. -/
  stall : Option Instr
  /-- Answers of remote reads that have come: address, bytes (R167). -/
  answers : List (Nat × List Byte)
  /-- The instance is sampled: its shadow runs, or its comparison is still to be made. -/
  sampled : Bool
  digest : BitVec 64
  recs : Nat
  /-- Its result is marked bad. -/
  bad : Bool
  ended : Bool
  /-- The trap that ended it: fault code, instruction offset. -/
  trap : Option (Nat × Nat)
deriving DecidableEq, Repr

/-- An admitted graph run (R46). -/
structure Run where
  ctx : Nat
  graph : Nat
  mb : Nat
  arg : Nat
  q : Nat
  seq : Nat
  /-- The step named in the record, 0 without the step flag. -/
  step : Nat
  stepFlag : Bool
  attempt : Nat
  part : Nat
  tasks : SMap TaskSt
  tally : SMap Nat
  streams : SMap Stream
  /-- Tiles dropped by routing tags. -/
  dropped : Nat
  /-- Tiles discarded because the consumer was skipped or had ended (R44, R47). -/
  discarded : Nat
  order : Nat
  /-- The run has stopped with a run fault (R48). -/
  fault : Option (Nat × Nat)
  /-- Every task has completed or been skipped. -/
  done : Bool
  /-- Its command has completed; an Octave comparison of it has still to be made. -/
  replied : Bool
deriving DecidableEq, Repr

/-- Task graphs (ch. 2). -/
structure Graphs where
  /-- Loaded graphs: key ctx * 65536 + graph_id. -/
  graphs : SMap Graph
  runs : SMap Run
  nextRun : Nat
  /-- Arrival order of tiles. -/
  arrivals : Nat
deriving DecidableEq, Repr

/-- A record of the Almanac with its header fields (Table 14.5). -/
structure AlmRec where
  typ : Nat
  src : Nat
  lcount : Nat
  step : Nat
  commit : Nat
  body : List Byte
deriving DecidableEq, Repr

/-- A detection kept in an island's correlation set (R346). -/
structure CorrRec where
  cls : Nat
  tj : Int
  mv : Nat
  mhz : Nat
  /-- Powered hour at which it was made. -/
  hour : Nat
deriving DecidableEq, Repr

/-- What an island's table was planned with (R344, R347): the increase of delay in 0.25 ps, the ceiling's lowering in MHz, the voltage
raise in mV, the re-plans done since the set was last cleared. -/
structure IslPlan where
  d : Int
  down : Nat
  up : Nat
  replans : Nat
deriving DecidableEq, Repr

/-- A substitution that waits for its cluster to be free (R31, R335): die, physical cluster, core or none, reason, retired. -/
structure Subst where
  die : Nat
  phys : Nat
  core : Option Nat
  reason : Nat
  /-- State that the old unit takes: 1 set aside, 2 retired, 4 retired for lost margin or exhausted rows. -/
  goes : Nat
deriving DecidableEq, Repr

/-- Spares, ageing and the Almanac (ch. 14). Clusters are keyed die * 2112 + physical index (48 y + x) of the mesh. -/
structure Spares where
  /-- Logical cluster to physical: key die * 2048 + logical index; unlisted: the map as manufactured. -/
  clMap : SMap Nat
  /-- Logical core to physical: key (die * 2112 + physical cluster) * 64 + core. -/
  coreMap : SMap Nat
  /-- 1 set aside, 2 retired, 3 fenced, 4 retired for lost margin or exhausted rows; 0 in service or idle. -/
  clState : SMap Nat
  /-- The same of cores: key (die * 2112 + cluster) * 68 + core. -/
  coreState : SMap Nat
  /-- Spare rows used: clusters (48 each), then cores (2 each; key as coreState, plus 2^24). -/
  rowsUsed : SMap Nat
  /-- Corrected words by row since start-up, for R335: key unit * 1024 + row. -/
  rowHits : SMap Nat
  corr : SMap (List CorrRec)
  /-- The plan of each island; unlisted: as manufactured. -/
  plans : SMap IslPlan
  /-- Detections on an island since its last re-plan (R119). -/
  dets : SMap Nat
  /-- Islands held for a re-plan (R347). -/
  held : List Nat
  /-- Substitutions that wait. -/
  waiting : List Subst
  /-- Powered hour, kind (0 errors, 1 detections, 2 aborts) and number, for the penalties of R302. -/
  health : List (Nat × Nat × Nat)
  /-- Shape of each die (R356): 0 full, 1 trimmed to 28 rows, 2 trimmed to 12 channels, 3 both, 4 fenced. -/
  dieTrim : SMap Nat
  /-- Bridge leap lanes in service: key bridge * 8 + group, the lane spared; and groups disabled. -/
  bridgeLanes : SMap Nat
  bridgeOff : List Nat
  /-- Power stages fenced: key rail * 64 + stage. -/
  stagesOff : List Nat
  /-- Update units fenced: 14 * die + channel. -/
  unitsOff : List Nat
  /-- Charges of each update unit are stamped with the powered hour: (unit, hour), newest first. -/
  chargeLog : List (Nat × Nat)
  /-- Ageing: key cluster, the latest delta and the fit sums of R343, in units of 2^-32. -/
  delta : SMap Int
  fitNum : SMap Int
  fitDen : SMap Int
deriving DecidableEq, Repr

/-- Spares as they were manufactured. -/
def Spares.made : Spares := ⟨[], [], [], [], [], [], [], [], [], [], [], [], [], [], [], [], [], [], [], [], []⟩

/-- What the next start takes from the Almanac, as of a sealed block (R353): the leap maps, tables and counts, the channels, the powered hours,
an accepted refurbishment note and its channels, the lease term. -/
structure AlmSnap where
  sp : Spares
  chanMap : SMap Nat
  hours : Nat
  refurb : Bool
  note : List Byte
  lease : Nat
deriving DecidableEq, Repr

/-- The Almanac as it was delivered. -/
def AlmSnap.made : AlmSnap := ⟨Spares.made, [], 0, false, [], 0⟩

/-- An island's clock (R367, R375 to R378). -/
structure Isl where
  /-- The oscillator's point in MHz, and the voltage in mV where it stands still. -/
  mhz : Nat
  mv : Nat
  /-- The change in progress: the new point, and whether its first part is done. -/
  chg : Option (Nat × Bool)
  /-- A target that came during the change. -/
  next : Option Nat
  paused : Bool
  droop : Bool
  /-- Points lowered for droop (R377). -/
  low : Nat
  /-- The thermal limit in MHz; 2,600 where nothing limits. -/
  thermal : Nat
  /-- The latest reading of its sensor, in 1/8 degree. -/
  tj : Option Int
  /-- THERM_ALARM stands; the THERMAL record of a second above 100 °C is written. -/
  alarm : Bool
  hot : Bool
deriving DecidableEq, Repr

/-- An island as it is parked. -/
def Isl.parked : Isl := ⟨1200, 650, none, none, false, false, 0, 2600, none, false, false⟩

/-- A stage that runs on a die: what the phase-learning controller keeps of it (R373, R374). -/
structure Stage where
  run : Nat
  task : Nat
  cls : Nat
  preset : Nat
  /-- Energy in 1/16 pJ at 0.80 V, times 640,000, and cluster-cycles. -/
  energy : Nat
  cycles : Nat
deriving DecidableEq, Repr

/-- Power and temperature (ch. 15). -/
structure Pow where
  /-- Key die * 2112 + physical cluster. -/
  isl : SMap Isl
  /-- The two causes of the clamp: supply warning, THROTTLE_N. -/
  warn : Bool
  throttle : Bool
  /-- s_limiter. -/
  stretch : Nat
  /-- Samples in a row whose projection stayed below 0.97 of the target, modulo 20 (R368). -/
  calm : Nat
  /-- High input has been reported. -/
  high : Bool
  /-- Running stages in start order: key (number of the start) * 8 + die. -/
  stages : SMap Stage
  /-- Energy charged to each context, in 1/16 pJ times 640,000; and to contexts that no longer exist (R385). -/
  charge : SMap Nat
  gone : Nat
  /-- Input energy in uJ: all of it, and that at the last ENERGY_MODE. -/
  uj : Nat
  ujBase : Nat
  /-- The Equinox share in force; committed steps since one came. -/
  share : Int
  shareAge : Nat
  /-- The coolant is outside its limits. -/
  coolBad : Bool
  /-- base_n of each die in W. -/
  base : SMap Nat
  nextStage : Nat
  /-- A supply reset holds the module in reset; its PWR_SUPPLY record is still to be raised (R365). -/
  under : Bool
  told : Bool
deriving DecidableEq, Repr

/-- The Almanac (R348 to R354). -/
structure Alm where
  /-- Records of the open block, oldest first. -/
  staged : List AlmRec
  /-- The block that is being sealed: its records, its flags. -/
  sealing : Option (List AlmRec × Nat)
  /-- A seal record came while another block was being sealed. -/
  sealNext : Bool
  /-- Sealed blocks after block 0, by sequence number. -/
  blocks : SMap (List Byte)
  /-- A skipped position precedes the next block. -/
  skipped : Bool
  fullRaised : Bool
  /-- A refurbishment note was accepted since the last cold test (R359). -/
  refurb : Bool
  /-- The channels that the note names as replaced (Table 14.8). -/
  note : List Byte
  /-- Powered hours (R343, R352). -/
  hours : Nat
  /-- Result, kind of the EMBER record when it is the last one sealed. -/
  lastEmber : Option (Nat × Nat)
  lastFw : Nat
  /-- Last sealed Ember result (Table 17.11). -/
  emberCode : Nat
  /-- What the block that is being sealed will leave to a start, and what each sealed block leaves. -/
  taking : Option AlmSnap
  saves : SMap AlmSnap
deriving DecidableEq, Repr

/-- A step plan (Table 10.1). -/
structure Plan where
  flags : Nat
  bankBytes : Nat
  gradBytes : Nat
  mirrorIn : Nat
  mirrorInBytes : Nat
  mirrorGrad : Nat
  mirrorGradBytes : Nat
  mirrorDesc : Nat
  mirrorDescBytes : Nat
  backupArgs : Nat
  backupBuckets : Nat
  bank0 : List Nat
  bank1 : List Nat
  mbank0 : List Nat
  mbank1 : List Nat
  gradA : List Nat
  gradB : List Nat
  snap : List Nat
deriving DecidableEq, Repr

/-- A tensor entry of an update descriptor (Table 8.2). -/
structure TEnt where
  elems : Nat
  tid : Nat
  group : Nat
  hyper : Nat
  die : Nat
  /-- 0 BF16 with FP32 master, 1 BF16 alone, 2 FP32 alone. -/
  wform : Nat
  /-- 0 FP32, 1 BF16, 2 A2. -/
  mform : Nat
  rows : Nat
  grad : Nat
  wOff : Nat
  pOff : Nat
  mOff : Nat
  vOff : Nat
deriving DecidableEq, Repr

/-- A hyperparameter set (Table 8.3); the values are FP32 words. -/
structure Hyper where
  kind : Nat
  flags : Nat
  lr : Nat
  b1 : Nat
  omb1 : Nat
  b2 : Nat
  omb2 : Nat
  eps : Nat
  wd : Nat
  c1 : Nat
  c2 : Nat
  gscale : Nat
  eps2 : Nat
deriving DecidableEq, Repr

/-- An update descriptor as it was read at issue (Table 8.1). -/
structure UDesc where
  tensors : List TEnt
  hypers : List Hyper
  groups : Nat
  watchOff : Nat
  scaleOff : Nat
  scales : Nat
  bank0 : List Nat
  bank1 : List Nat
deriving DecidableEq, Repr

/-- The numerics-watch settings in force at issue (R188). -/
structure Watch where
  on : Bool
  n : Nat
  floor : Nat
deriving DecidableEq, Repr

/-- An update pass of a context (R183, R187). -/
structure Pass where
  desc : UDesc
  watch : Watch
  step : Nat
  /-- The bank that it writes. -/
  bank : Nat
  /-- What it left: the state digest, the elements kept and the groups that they are in. -/
  digest : Nat
  kept : Nat
  groups : Nat
  ended : Bool
deriving DecidableEq, Repr

/-- A bucket of an EXCHANGE (Table 9.2). -/
structure Bucket where
  id : Nat
  inFmt : Nat
  outFmt : Nat
  accum : Nat
  comp : Nat
  ratio : Nat
  resid32 : Bool
  elems : Nat
  group : List Nat
  src : Nat
  dst : Nat
  residIn : Nat
  residOut : Nat
  /-- Address of its descriptor. -/
  desc : Nat
  shape : Nat
  /-- The opening round has found equal shapes. -/
  opened : Bool
  /-- Chunks in place: part, source, chunk index, bytes. -/
  got : List (Nat × Nat × Nat × List Byte)
  /-- Keys of chunks whose digest failed once: part, source, chunk index. -/
  failed : List (Nat × Nat × Nat)
  /-- Its own part has been summed. -/
  summed : Bool
  /-- Its result is in place and its closing round runs. -/
  closing : Bool
  agreed : Bool
  /-- Its result digest. -/
  digest : Nat
deriving DecidableEq, Repr

/-- An EXCHANGE command that runs (R207). -/
structure Xch where
  q : Nat
  seq : Nat
  op : Nat
  buckets : List Bucket
  retries : Nat
  dups : Nat
  zeroed : Nat
  /-- An exchange fault has stopped it. -/
  faulted : Bool
deriving DecidableEq, Repr

/-- The step machinery of one context (ch. 10), other than what Table 10.8 reports. -/
structure StepCtx where
  plan : Option Plan
  /-- Micro-batches of the open step. -/
  mbs : Nat
  /-- Runs of each micro-batch within the step, over all attempts (R238). -/
  mbRuns : SMap Nat
  /-- Micro-batches whose MICROBATCH_END has completed in the attempt. -/
  mbDone : List Nat
  /-- Step faults pending: micro-batches to be replayed. -/
  mbFault : List Nat
  /-- Retained inputs: address, bytes, micro-batch, held at the twin. -/
  retained : List (Nat × Nat × Nat × Bool)
  /-- The seal: step, attempt, digest, flags. -/
  sealed : Option (Nat × Nat × Nat × Nat)
  /-- Standing index of the own banks and of the mirror banks (R181). -/
  standOwn : Nat
  standMir : Nat
  own : Option Pass
  mir : Option Pass
  /-- The twin's report: digest, checks passed. -/
  report : Option (Nat × Bool)
  /-- Update-level faults of the step (R244). -/
  updFaults : Nat
  /-- Level-3 aborts of the step. -/
  aborts : Nat
  twin : Option Nat
  /-- A bind in progress: the twin named, its journal MiB. -/
  bind : Option (Nat × Nat)
  /-- The partner's bind has come: its die count, journal MiB, bank bytes, gradient bytes. -/
  peerBind : Option (Nat × Nat × Nat × Nat × Nat)
  /-- The partner's standing bank is held here; everything has been sent to the partner. -/
  bankHeld : Bool
  bankSent : Bool
  /-- Next free offsets of mirror_in and mirror_grad. -/
  inOff : Nat
  gradOff : Nat
  /-- Gradient ranges mapped into mirror_grad: owner's address, bytes, offset. -/
  gradMap : List (Nat × Nat × Nat)
  /-- Retained inputs of the partner held in mirror_in: owner's address, bytes, offset, micro-batch. -/
  inMap : List (Nat × Nat × Nat × Nat)
  /-- Gradient ranges already sent to the twin in the attempt: address, bytes. -/
  gradSent : List (Nat × Nat)
  /-- Digest of the tables last sent to the twin; the received tables. -/
  descSent : Option Nat
  descGot : Option UDesc
  /-- Bytes of the received tables in mirror_desc, after which the slot values lie. -/
  descLen : Nat
  /-- A received copy failed its digest in the attempt, or did not fit (R235, R244). -/
  mirBad : Bool
  /-- Offset in the bank and number of the scale records of the last committed STEP_UPDATE (R313). -/
  lastScale : Nat × Nat
  /-- Elements of the scale table of the last STEP_UPDATE (R197): scratch address, slots. -/
  scaleTab : List (Nat × Nat)
  /-- Nothing has been committed since a restore or an import (R199). -/
  fresh : Bool
  /-- The snapshot is held. -/
  snapOk : Bool
  /-- Returned from a reset in SEALED: waiting for the commit record (R248). -/
  askCommit : Bool
  /-- STRAGGLER_SET. -/
  pct : Nat
  runSteps : Nat
  /-- An adopted shard (R254). -/
  adopted : Option Nat
  xch : Option Xch
  /-- Buckets that were agreed in the open step, over its attempts. -/
  agreed : List Bucket
  /-- Chunks that wait for their attempt or for their bucket (R219). -/
  staged : List ChunkMsg
  /-- Standing lines that are being repaired from the partner (R245). -/
  repairs : List Nat
  /-- The group of the last EXCHANGE. -/
  group : List Nat
deriving DecidableEq, Repr

/-- A context that has never opened a step. -/
def StepCtx.empty : StepCtx where
  plan := none
  mbs := 0
  mbRuns := []
  mbDone := []
  mbFault := []
  retained := []
  sealed := none
  standOwn := 0
  standMir := 0
  own := none
  mir := none
  report := none
  updFaults := 0
  aborts := 0
  twin := none
  bind := none
  peerBind := none
  bankHeld := false
  bankSent := false
  inOff := 0
  gradOff := 0
  gradMap := []
  inMap := []
  gradSent := []
  descSent := none
  descGot := none
  descLen := 0
  mirBad := false
  lastScale := (0, 0)
  scaleTab := []
  fresh := false
  snapOk := false
  askCommit := false
  pct := 15
  runSteps := 3
  adopted := none
  xch := none
  agreed := []
  staged := []
  repairs := []
  group := []

/-- A packet queued on a port: what it is, and its flits that have not been sent. -/
structure OutPkt where
  vc : Nat
  hdr : RouteHdr
  payload : List Byte
  left : Nat
deriving DecidableEq, Repr

/-- A link port, beside what Table 11.11 reports. -/
structure Port where
  /-- The plan's entry: planned, peer's port, slot, tray and serial digest (Table 11.5). -/
  planned : Bool
  peerPort : Nat
  peerSlot : Nat
  peerTray : Nat
  peerSerial : Nat
  /-- The last beacon received since the link trained. -/
  beacon : Option Beacon
  /-- Flits taken in order, sent, and acknowledged since the link came up; sequence numbers are these modulo 4,096 (R266). -/
  rx : Nat
  tx : Nat
  acked : Nat
  /-- A nak is out and everything is discarded until its flit comes; times in a row that one of ours was nakked. -/
  nakOut : Bool
  naks : Nat
  /-- Credits held for VC 0 to 7. -/
  credits : List Nat
  /-- Lanes out of service, 8 the leap lane; those of them that have trained again and must stay clean. -/
  badLanes : List Nat
  trying : List Nat
  /-- The peer's last token number, and whether the peer is suspect. -/
  token : Nat
  suspect : Bool
  /-- Tokens sent. -/
  sent : Nat
  /-- Packets queued on the port, in order. -/
  out : List OutPkt
  /-- Packets sent and not acknowledged: the number after the last flit, VC, destination. -/
  unack : List (Nat × Nat × Nat)
  /-- Cause of the last lane that this end declared failing: 1 lock lost, 2 error ratio; 0 none. -/
  why : Nat
deriving DecidableEq, Repr

/-- A port that has never trained. -/
def Port.down : Port := ⟨false, 0, 0, 0, 0, none, 0, 0, 0, false, 0, [], [], [], 0, false, 0, [], [], 0⟩

/-- A slice definition (Table 11.7). -/
structure SliceDef where
  numerics : Nat
  minEpoch : Nat
  minMembers : Nat
  members : List Nat
  formed : Bool
deriving DecidableEq, Repr

/-- A ROUTE_WRITE whose grants wait for its epoch (R284). -/
structure RouteWait where
  q : Nat
  seq : Nat
  epoch : Nat
  /-- Permissions granted: port, slice. -/
  grants : List (Nat × Nat)
  /-- Routes: destination, egress mask, flags. -/
  routes : List (Nat × Nat × Nat)
deriving DecidableEq, Repr

/-- A suspicion that a steward gathers (R296). -/
structure Suspicion where
  suspect : Nat
  cause : Nat
  /-- Reporters and their ports. -/
  reports : List (Nat × Nat)
  answered : Bool
deriving DecidableEq, Repr

/-- A straggler's backup (R255 to R258): context, member, module that runs it. -/
structure Backup where
  ctx : Nat
  member : Nat
  module : Nat
deriving DecidableEq, Repr

/-- Links, discovery, routing and membership (ch. 11, 12). -/
structure Fabric where
  ports : SMap Port
  /-- A plan is loaded. -/
  planned : Bool
  slices : SMap SliceDef
  /-- Routing table: roster index to flags (bit 0 valid, bit 1 local) + 4 * egress mask. -/
  routes : SMap Nat
  /-- Permission maps: key port * 4096 + slice. -/
  perms : SMap Bool
  waiting : List RouteWait
  /-- This module's own ROSTER_JOIN that no roster lists yet: index, cohort, role. -/
  joining : Option (Nat × Nat × Nat)
  /-- Join announcements received. -/
  announced : List (Nat × Nat × Nat)
  /-- Reset notices in force. -/
  notices : List (Nat × Nat)
  suspicions : List Suspicion
  /-- Seals gathered: slice and message. -/
  seals : List (Nat × SealMsg)
  /-- Last commit sequence number assigned, by slice (primary). -/
  sliceSeq : SMap Nat
  /-- Commit records: context, step, attempt, number. -/
  commits : List (Nat × Nat × Nat × Nat)
  late : List LateMsg
  /-- Consecutive straggling steps of a member, and of steps back within the threshold: key ctx * 16384 + member. -/
  straggle : SMap (Nat × Nat)
  backups : List Backup
  /-- Members for which a backup starts at each STEP_OPEN (R258): context, member; and the lateness of each in its last committed step. -/
  wanted : List (Nat × Nat)
  lastLate : SMap Int
  /-- Evictions of the quota's interval: cohort, local count (R304). -/
  evictions : List (Nat × Nat)
  deferred : List Nat
  /-- Equinox shares at a steward: member, share in W, the group's members when it was computed. -/
  shares : List (Nat × Int × List Nat)
  /-- Slices whose next COMMIT is to be marked for Harvest, at the primary. -/
  markNext : List Nat
  /-- Slices with a generation in progress, at the primary. -/
  genBusy : List Nat
  /-- Harvest policy of a slice at the primary: every_steps, timer_s, local count of the policy's arrival. -/
  policy : SMap (Nat × Nat × Nat)
  /-- Local count of the last marked COMMIT of a slice at the primary. -/
  markedAt : SMap Nat
  /-- A later roster is missing: the full roster was asked for. -/
  gap : Bool
  /-- This module is out of the roster (R301). -/
  out : Bool
  /-- A reset notice of this module is in force. -/
  notice : Bool
  /-- Packets of ordered VCs that wait for a change of their port (R282): ingress port, VC, header, payload. -/
  ordered : List (Nat × Nat × RouteHdr × List Byte)
  /-- Health scores that tokens have carried, by roster index. -/
  scores : SMap Nat
  /-- The tray identifier of R448. -/
  trayId : Nat
  /-- The primary's thresholds in force (R308): evict, floor, per_interval, interval_min, hold_ms. -/
  force : Option (Nat × Nat × Nat × Nat × Nat)
deriving DecidableEq, Repr

/-- A shard that a member writes, its own or its lost partner's (R316, R323). -/
structure HShard where
  owner : Nat
  member : Nat
  /-- Its journal mark: queue, next_seq, first later-step sequence number. -/
  queues : List (Nat × Nat × Nat)
  chunks : Nat
  /-- Digests of the durable chunks. -/
  wrote : SMap (List Byte)
  fails : SMap Nat
deriving DecidableEq, Repr

/-- A generation that a member takes part in (R319 to R322). -/
structure HGen where
  gen : Nat
  step : Nat
  commit : Nat
  epoch : Nat
  /-- Members of the slice at COMMIT(n). -/
  members : List Nat
  /-- Targets in use: kind, base, bytes. -/
  targets : List (Nat × Nat × Nat)
  noScale : Bool
  own : HShard
  twin : Option HShard
  /-- At the lead: the shard reports, and the manifest once it is built. -/
  reports : List ShardMsg
  manifest : List Byte
deriving DecidableEq, Repr

/-- A RESTORE or IMPORT_A2 in progress (R325, R326, R330). -/
structure HRest where
  q : Nat
  seq : Nat
  imp : Bool
  rflags : Nat
  fallback : Bool
  gen : Nat
  step : Nat
  commit : Nat
  hash : List Byte
  /-- The member's own refusal: its detail; none where it passed. -/
  refusal : Option Nat
  /-- At the restore lead: roster index, generation, hash, passed. -/
  votes : List (Nat × Nat × List Byte × Bool)
deriving DecidableEq, Repr

/-- Harvest in one context (ch. 13). -/
structure Harv where
  /-- Registered targets: kind, base, bytes. -/
  targets : SMap (Nat × Nat × Nat)
  gen : Option HGen
  rest : Option HRest
  /-- The next generation is the first after an import. -/
  imported : Bool
deriving DecidableEq, Repr

/-- A context that has registered nothing. -/
def Harv.empty : Harv := ⟨[], none, none, false⟩

/-- A reset in progress (Table 16.2). -/
structure ResetInfo where
  level : Nat
  /-- Unit kind of R410. -/
  kind : Nat
  die : Nat
  /-- Unit index as RESET_DONE reports it. -/
  unit : Nat
  ctx : Option Nat
  part : Option Nat
  clusters : List Nat
  /-- Contexts whose work it removed (R394). -/
  ctxs : List Nat
deriving DecidableEq, Repr

/-- Who waits for the answer of a remote request: an engine by its key, or a command. -/
inductive RemoteUse where
  | engine (key : Nat)
  | other
deriving DecidableEq, Repr

/-- A remote tray request that has no answer yet (R167, R392). -/
structure Remote where
  ctx : Nat
  gen : Nat
  slot : Nat
  addr : Nat
  write : Bool
  data : List Byte
  len : Nat
  resent : Bool
  use : RemoteUse
deriving DecidableEq, Repr

/-- Hangs, resets, generations (ch. 16). -/
structure Vig where
  resets : List ResetInfo
  remote : SMap Remote
  nextTag : Nat
  /-- Tags of the last 64 writes applied: key (slot * 256 + ctx) * 256 + gen. -/
  applied : SMap (List Nat)
  /-- Received generations (R400): key source * 256 + ctx. -/
  recvGen : SMap Nat
  /-- Touch sets (R401): roster indices by context. -/
  touch : SMap (List Nat)
  /-- Sweep tokens sent and not returned: (peer, context, generation, quarantine). -/
  tokens : List (Nat × Nat × Nat × Bool)
  /-- Tasks that have hung: queue and sequence number of the run's command, task (R399). -/
  hung : List (Nat × Nat × Nat)
deriving DecidableEq, Repr

/-- A firmware slot of the flash (R415). -/
structure FwSlot where
  header : List Byte
  body : List Byte
  sig : List Byte
deriving DecidableEq, Repr

/-- Start-up, trust and shutdown (ch. 17), pins (ch. 19). -/
structure Boot where
  /-- Slot A; none: the image that the module was delivered with. Slot B; none: no valid image. -/
  slotA : Option FwSlot
  slotB : Option FwSlot
  /-- The preferred slot is B. -/
  prefB : Bool
  /-- An image was staged in the inactive slot since start. -/
  staged : Bool
  /-- Fuses blown of the security version counter. -/
  counter : Nat
  /-- The counter before it advanced, until FW_COUNTER_ADVANCED is raised. -/
  counterWas : Option Nat
  powered : Bool
  cold : Bool
  /-- The shutdown trigger: 0 none, 1 SHUTDOWN, 2 SHUTDOWN_REQ_N, 3 both; and the SHUTDOWN command. -/
  trigger : Nat
  shutCmd : Option (Nat × Nat)
  emberDone : Bool
  /-- The unlock nonce in force (R432), and how many were issued. -/
  nonce : Option (List Byte)
  nonceNo : Nat
  tapOpen : Bool
  /-- The local count of the last attempt that was accepted. -/
  unlockAt : Option Nat
  heartbeat : Bool
  alertN : Bool
  warnN : Bool
  cycleReq : Bool
  /-- Nothing runs until the input is removed. -/
  off : Bool
  /-- A start is in progress (R418). -/
  starting : Bool
  /-- The result driven in EMBER; 15 while there is none. -/
  result : Nat
deriving DecidableEq, Repr

/-- Host functions and the management interface (ch. 18). -/
structure HostIf where
  /-- Bus Master Enable clear or D3hot, by function: 1, 2 or 3 (both); 1 where nothing is listed. -/
  noDma : SMap Nat
  /-- A function-level reset is in progress. -/
  flr : List Nat
  /-- Disables of functions that are still to be reported: function, and the commands completed; none where the contexts' work has still
  to be removed, after a module reset (R445). -/
  disabling : List (Nat × Option Nat)
  /-- Vectors whose messages may be sent: key fn * 2048 + vector. -/
  msixOpen : SMap Bool
  msixPend : SMap Bool
  /-- Words of the MSI-X tables other than vector control: key (fn * 2048 + vector) * 4 + word. -/
  msixTab : SMap Nat
  /-- log2 of BAR 4's size: PF 0 and the VFs. -/
  bar4Pf : Nat
  bar4Vf : Nat
  dynAddr : Nat
  eid : Nat
  /-- The data covered by the last SPDM signature when the next request may ask for its other half (R450). -/
  spdmLast : Option (List Byte)
  /-- Requests and responses since the last signature, for measurements. -/
  transcript : List Byte
  negotiated : Bool
  /-- The response held for CHUNK_GET, and its handle. -/
  chunk : List Byte
  chunkNo : Nat
  eventReceiver : Option Nat
  /-- Last reported threshold state of each PLDM sensor. -/
  sensors : SMap Nat
  /-- The device behind each CXL port: serial number; and the one mapped. -/
  cxlDev : SMap Nat
  cxlMapped : SMap Nat
deriving DecidableEq, Repr

/-- The state of the module. -/
structure State where
  pending : List Instr
  /-- Register fields: key `Fld.ctorIdx * 2^20 + index`. -/
  regs : SMap Nat
  /-- Local counts by block index (R178). -/
  lcount : SMap Nat
  /-- The model's own counter of free values. -/
  free : Nat
  /-- SAT fields that have lost an increment since they were last cleared (R480), keyed as `regs`. -/
  lost : SMap Nat
  /-- Remainders of the activity counters (R481), keyed as `regs`. -/
  remain : SMap Nat
  io : Io
  ctl : Ctl
  mem : Mem
  gr : Graphs
  /-- Engines that run a kernel: key (die * 2048 + logical cluster) * 2 + shadow. -/
  eng : SMap Engine
  /-- Their cores: key of the engine * 64 + core. -/
  core : SMap Core
  /-- Sampled engines whose task has completed and whose comparison has still to be made. -/
  oct : SMap Engine
  st : SMap StepCtx
  har : SMap Harv
  fab : Fabric
  sp : Spares
  pow : Pow
  alm : Alm
  vig : Vig
  boot : Boot
  host : HostIf
deriving DecidableEq, Repr

/-- The reasons for which a step stops with a fault. -/
inductive Fault where
  /-- Raised by nothing in this model; the spec names no stop of the block. -/
  | none
deriving DecidableEq, Repr

/-- The reasons for which a command is refused. -/
inductive Refusal where
  /-- An arm of `exec` that has no meaning yet. Safe. -/
  | notModelled (mnemonic : String)
deriving DecidableEq, Repr

/-- Context 0, the privileged context of PF 0 (R54). -/
def Ctx.zero : Ctx := ⟨0, 0, 0, 4096, 64, [], none, [], none, 0, false, false, none⟩

/-- The module right after the input is applied, before power-good (R418, R420): every register at its reset value, memory cleared, the
journal empty, no context but context 0, no queue of waiting commands. -/
def State.reset : State where
  pending := []
  regs := []
  lcount := []
  free := 0
  lost := []
  remain := []
  io := ⟨[], [], [], [], [], []⟩
  ctl := ⟨[(0, Ctx.zero)], [], [], [], [], [], 0, false, []⟩
  mem := ⟨[], [], [], []⟩
  gr := ⟨[], [], 0, 0⟩
  eng := []
  core := []
  oct := []
  st := []
  har := []
  fab := {
    ports := []
    planned := false
    slices := []
    routes := []
    perms := []
    waiting := []
    joining := none
    announced := []
    notices := []
    suspicions := []
    seals := []
    sliceSeq := []
    commits := []
    late := []
    straggle := []
    backups := []
    wanted := []
    lastLate := []
    evictions := []
    deferred := []
    shares := []
    markNext := []
    genBusy := []
    policy := []
    markedAt := []
    gap := false
    out := false
    notice := false
    ordered := []
    scores := []
    trayId := 0
    force := none }
  sp := Spares.made
  pow := ⟨[], false, false, 0, 0, false, [], [], 0, 0, 0, 0, 0, false, [], 0, false, false⟩
  alm := ⟨[], none, false, [], false, false, false, [], 0, none, 0, 15, none, []⟩
  vig := ⟨[], [], 0, [], [], [], [], []⟩
  boot := ⟨none, none, false, false, 0, none, false, false, 0, none, false, none, 0, false, none, false, true, true, false, false, false, 15⟩
  host := ⟨[], [], [], [], [], [], 34, 34, 0, 0, none, [], false, [], 0, none, [], [], []⟩

end Sys2Proof.Machine
end

