-- ==== Sys2Proof/Machine/Ops.lean ====
section
/-! DEFINITION. The named operations over the state that every family uses: register fields, free values, local counts, events and
MSI-X, saturating counters, memory under a context's window, the command journal. -/

namespace Sys2Proof.Machine

/-- What a meaning answers. -/
abbrev Out := Host.Outcome State Fault Refusal

/-! ### Packing -/

/-- A field of a packed value: the low `w` bits of `v` at bit `lsb`. -/
def pf (lsb w v : Nat) : Nat := (v % 2 ^ w) * 2 ^ lsb

/-- Sum of packed fields: (lsb, width, value). -/
def pack (l : List (Nat × Nat × Nat)) : Nat := (l.map (fun x => pf x.1 x.2.1 x.2.2)).sum

/-- A value stopped at the maximum of its width (R482). -/
def satTo (w v : Nat) : Nat := Nat.min v (2 ^ w - 1)

/-! ### Register fields -/

/-- Number of elements of a field's array. -/
def fldCount (f : Fld) : Nat := (fldInfo f).n1 * (fldInfo f).n2

/-- Key of element `i` of a field in `State.regs`. -/
def fldKey (f : Fld) (i : Nat) : Nat := f.ctorIdx * 2 ^ 20 + i

/-- Reset value of element `i`: that of the table, but that HOSTIF_FN_BAR4.ctx resets to 0 for PF 0 (Table 18.11). -/
def fldReset (f : Fld) (i : Nat) : Nat := if f = .hostifFnBar4_ctx && i == 0 then 0 else (fldInfo f).reset

/-- The stored value of element `i` of a field; an element that does not exist reads its field's reset value. -/
def rget (s : State) (f : Fld) (i : Nat) : Nat :=
  if i < fldCount f then sget (fldReset f i) s.regs (fldKey f i) else fldReset f i

/-- Element `i` of a field set, cut to the field's width; an element that does not exist is not stored. -/
def rset (f : Fld) (i v : Nat) (s : State) : State :=
  if i < fldCount f then { s with regs := sset (fldReset f i) s.regs (fldKey f i) (v % 2 ^ (fldInfo f).width) } else s

/-- A sticky or status bit set by hardware. -/
def rflag (f : Fld) (i : Nat) (s : State) : State := rset f i 1 s

/-- Bits of a sticky field set by hardware. -/
def ror (f : Fld) (i m : Nat) (s : State) : State := rset f i (rget s f i ||| m) s

/-- BAR 0 offset of element `i` of a field's register. -/
def fldOff (f : Fld) (i : Nat) : Nat :=
  (fldInfo f).off + (fldInfo f).s1 * (i / (fldInfo f).n2) + (fldInfo f).s2 * (i % (fldInfo f).n2)

/-- Index of the block that holds a BAR 0 offset (Table 20.1). -/
def blockOf (off : Nat) : Nat :=
  if off < 0x1000000 then
    if 0x200000 ≤ off && off < 0x400000 then 2 else if 0x600000 ≤ off && off < 0x800000 then 6 else off / 2 ^ 20
  else 0x10 + (off / 2 ^ 24 - 1)

/-! ### Free values and local counts -/

/-- The counter of free values moved on. -/
def useFree (s : State) : State := { s with free := s.free + 1 }

/-- A block's local count moved on by a free amount, at least one (R178). -/
def tickCount (blk : Nat) (s : State) : State :=
  { s with lcount := sset 0 s.lcount blk (sget 0 s.lcount blk + 1 + Config.countAdvance s.free), free := s.free + 1 }

/-- A block's local count. -/
def lcountOf (s : State) (blk : Nat) : Nat := sget 0 s.lcount blk % 2 ^ 64

/-! ### Contexts and queues -/

/-- A context that exists. -/
def ctx? (s : State) (c : Nat) : Option Ctx := sget? s.ctl.ctxs c

/-- A context's record replaced. -/
def setCtx (c : Nat) (x : Ctx) (s : State) : State := { s with ctl := { s.ctl with ctxs := sput s.ctl.ctxs c x } }

/-- A change of a context that exists. -/
def modCtx (c : Nat) (f : Ctx → Ctx) (s : State) : State :=
  match ctx? s c with
  | some x => setCtx c (f x) s
  | none => s

/-- A queue that exists. -/
def queue? (s : State) (q : Nat) : Option Queue := sget? s.ctl.queues q

/-- A queue's record replaced. -/
def setQueue (q : Nat) (x : Queue) (s : State) : State := { s with ctl := { s.ctl with queues := sput s.ctl.queues q x } }

/-- A change of a queue that exists. -/
def modQueue (q : Nat) (f : Queue → Queue) (s : State) : State :=
  match queue? s q with
  | some x => setQueue q (f x) s
  | none => s

/-- The generation of a context number. -/
def genOf (s : State) (c : Nat) : Nat := sget 0 s.ctl.gens c

/-- The function that owns a context. -/
def fnOf (s : State) (c : Nat) : Nat := (ctx? s c).elim 0 (·.fn)

/-- The open step's state of a context: STEP_CTX_STATE.state. -/
def stepSt (s : State) (c : Nat) : Nat := rget s .stepCtxState_state c

/-- The step last opened in a context: STEP_CTX_STEP.step. -/
def stepNo (s : State) (c : Nat) : Nat := rget s .stepCtxStep_step c

/-- The commit sequence number. -/
def commitSeq (s : State) (c : Nat) : Nat := rget s .stepCommitSeq_seq c

/-! ### Host memory and messages -/

/-- A message put out. -/
def emit (m : OutMsg) (s : State) : State := { s with io := { s.io with outbox := s.io.outbox ++ [m] } }

/-- Bytes of host memory read. -/
def hostRead (s : State) (a n : Nat) : List Byte := sgetN 0 s.io.hostMem a n

/-- Bytes of host memory written by DMA. -/
def hostWrite (a : Nat) (b : List Byte) (s : State) : State := { s with io := { s.io with hostMem := ssetN 0 s.io.hostMem a b } }

/-- A function answers memory requests: it is PF 0 or an enabled VF, and no function-level reset of it is in progress (R438, R444). -/
def fnUp (s : State) (fn : Nat) : Bool :=
  (fn == 0 || (rget s .hostifVf_enable 0 == 1 && decide (fn ≤ rget s .hostifVf_numVfs 0))) && !s.host.flr.contains fn

/-- DMA and MSI-X of a function are stopped: Bus Master Enable is clear, as it is at reset, or the function is in D3hot, the link is down, or
it does not answer (Table 18.4, R437). -/
def noDma (s : State) (fn : Nat) : Bool := sget 1 s.host.noDma fn != 0 || rget s .hostifLink_up 0 == 0 || !fnUp s fn

/-- A register write of a block other than MC and HOSTIF is dropped: it is not PF 0's, a module reset is in progress (R478, R479), or PF 0 does
not answer. -/
def notServed (s : State) (fn : Nat) : Bool := fn != 0 || rget s .mcStatus_ready 0 == 0 || !fnUp s fn

/-- Any access of a function other than the read of the high half releases its latch (R477). -/
def dropLatch (fn : Nat) (s : State) : State := { s with io := { s.io with latch := sdel s.io.latch fn } }

/-- An MSI-X cause: the message, or the pending bit where the vector is masked (R443). -/
def msix (fn vec : Nat) (s : State) : State :=
  if sget false s.host.msixOpen (fn * 2048 + vec) && !noDma s fn then emit (.msix fn vec) s
  else { s with host := { s.host with msixPend := sset false s.host.msixPend (fn * 2048 + vec) true } }

/-- An urgent cause of Table 18.3. -/
def urgent (s : State) : State :=
  if rget s .hostifUrgent_enable 0 = 1 then msix 0 (rget s .hostifUrgent_vector 0) s else s

/-! ### Events -/

/-- The 64 bytes of an event record (Table 3.9). -/
def eventBytes (e : Event) : List Byte :=
  leBytes 2 e.code ++ leBytes 2 e.src ++ leBytes 1 e.ctx ++ leBytes 1 e.gen ++ leBytes 2 e.queue ++ leBytes 8 e.lcount ++
  leBytes 8 e.step ++ leBytes 8 e.commit ++ leBytes 32 e.detail

/-- A record written to the ring of its context; the answer says whether it was dropped (R76). -/
def ringWrite (e : Event) (s : State) : State × Bool :=
  match ctx? s e.ring with
  | none => (s, true)
  | some x =>
    match x.ring with
    | none => (s, true)
    | some (lg, vec, base) =>
      if noDma s x.fn || Config.ringFull s.free e.ring then (useFree s, true)
      else
        (msix x.fn vec (setCtx e.ring { x with ringIdx := x.ringIdx + 1 }
          (hostWrite (base + 64 * (x.ringIdx % 2 ^ lg)) (eventBytes e) (useFree s))), false)

/-- Every record that was formed, newest first. -/
def logEvent (e : Event) (s : State) : State := { s with io := { s.io with events := e :: s.io.events } }

/-- An event record with the numbers current in its block (R18). -/
def mkEvent (s : State) (ring code src ctx queue detail : Nat) : Event :=
  ⟨ring, code, src, ctx, genOf s ctx, queue, lcountOf s src, stepNo s ctx, commitSeq s ctx, detail % 2 ^ 256⟩

/-- A dropped record counted in QUEUE_EVT_DROP, with QUEUE_COUNT_SATURATED at the increment past the maximum (R76, R480, R484). -/
def countDrop (c : Nat) (s : State) : State :=
  if rget s .queueEvtDrop_count c < 2 ^ 32 - 1 then rset .queueEvtDrop_count c (rget s .queueEvtDrop_count c + 1) s
  else if sget 0 s.lost (fldKey .queueEvtDrop_count c) = 1 then s
  else
    let s1 := rflag .queueStatus_saturated 0 { s with lost := sset 0 s.lost (fldKey .queueEvtDrop_count c) 1 }
    let e := mkEvent s1 0 0x0304 2 0 0xFFFF (pf 0 8 c)
    (ringWrite e (logEvent e s1)).1

/-- Start-up events, which wait for the ring of context 0 (R435). -/
def isStartEvent (code : Nat) : Bool := code / 256 == 0x11

/-- One event record to one ring. -/
def raiseTo (ring code src ctx queue detail : Nat) (s : State) : State :=
  let s1 := tickCount src s
  let e := mkEvent s1 ring code src ctx queue detail
  let s2 := logEvent e s1
  if isStartEvent code && (ctx? s2 0).elim true (fun x => x.ring.isNone) then
    if s2.io.waiting.length < 16 then { s2 with io := { s2.io with waiting := s2.io.waiting ++ [e] } } else countDrop 0 s2
  else
    let r := ringWrite e s2
    if r.2 then countDrop ring r.1 else r.1

/-- An event concerning the module, to context 0's ring only. -/
def raise0 (code src detail : Nat) (s : State) : State := raiseTo 0 code src 0 0xFFFF detail s

/-- An event to a context's ring only. -/
def raiseC (code src ctx detail : Nat) (s : State) : State := raiseTo ctx code src ctx 0xFFFF detail s

/-- An event to a context's ring and to context 0's ring. -/
def raiseBoth (code src ctx detail : Nat) (s : State) : State :=
  if ctx = 0 then raiseC code src ctx detail s
  else raiseTo 0 code src ctx 0xFFFF detail (raiseC code src ctx detail s)

/-! ### Counters (R480, R481) -/

/-- The saturation bit, its index, the event and its detail for element `i` of a SAT field (Table 20.6). -/
def satInfo (f : Fld) (i : Nat) : Option (Fld × Nat × Nat × Nat) :=
  let off := fldOff f i
  let blk := blockOf off
  let reg := off % 2 ^ 20
  if f = .queueEvtDrop_count then some (.queueStatus_saturated, 0, 0x0304, i)
  else if f = .mcStatus_takeoverCount then some (.mcFlags_saturated, 0, 0x0102, reg)
  else if f = .mcWinViol_count then some (.mcWinStatus_saturated, 0, 0x0706, i)
  else if f = .mcWinRemoteViol_count then some (.mcWinStatus_saturated, 0, 0x0706, 0xFF)
  else match blk with
  | 0x01 => some (.hostifStatus_saturated, 0, 0x1203, pack [(0, 16, reg), (16, 8, i)])
  | 0x04 => some (.pwrStatus_saturated, 0, 0x0F07, pf 0 16 reg)
  | 0x05 => some (.thermStatus_saturated, 0, 0x0F07, pf 0 16 reg + pf 16 1 1)
  | 0x06 => some (.linkStatus_saturated, 0, 0x0B05,
      if 0x601000 ≤ off && off < 0x603000 then pack [(0, 8, (off - 0x601000) / 0x100), (8, 8, off % 0x100)]
      else pack [(0, 8, 0xFF), (8, 8, reg)])
  | 0x08 => some (.cohortStatus_saturated, 0, 0x0C07, pf 0 16 reg)
  | 0x09 => some (.stepStatus_saturated, 0, 0x0A08, pack [(0, 8, i), (8, 8, (off - 0x901000) % 0x40)])
  | 0x0A => some (.harvestStatus_saturated, 0, 0x0D05, pf 0 16 reg)
  | 0x0B => some (.numwStatus_saturated, 0, 0x0805, pf 0 16 reg)
  | 0x0C => some (.almanacStatus_saturated, 0, 0x0E06, pf 0 16 reg)
  | 0x0D => some (.vigilStatus_saturated, 0, 0x1008, pf 0 16 reg)
  | 0x0E => some (.troubleLog_saturated, 0, 0x1008, pf 0 16 reg + pf 16 1 1)
  | _ =>
    let sub := off % 2 ^ 24 / 2 ^ 20
    if 0x10 ≤ blk && blk < 0x18 then
      let d := blk - 0x10
      if sub = 2 then some (.cdieMtxStatus_saturated, d, 0x0503, d)
      else if sub = 3 then some (.cdieVecStatus_saturated, d, 0x0603, pack [(0, 8, d), (8, 8, reg)])
      else some (.cdieMemStatus_saturated, d, 0x0705, pack [(0, 8, d), (8, 12, reg)])
    else if 0x18 ≤ blk && blk < 0x1C then
      let m := blk - 0x18
      if sub = 1 then some (.fdieCollStatus_saturated, m, 0x0903, pack [(0, 8, m), (8, 8, reg)])
      else if sub = 2 then some (.fdieMirrorStatus_saturated, m, 0x1402, pack [(0, 8, m), (8, 8, reg)])
      else some (.fdieCxlStatus_saturated, m, 0x1203, pack [(0, 16, reg), (16, 8, m)])
    else none

/-- `n` increments of a SAT field in one instant (R480). -/
def count (f : Fld) (i n : Nat) (s : State) : State :=
  let cur := rget s f i
  let mx := 2 ^ (fldInfo f).width - 1
  if cur + n ≤ mx then rset f i (cur + n) s
  else
    let s1 := rset f i mx s
    if sget 0 s1.lost (fldKey f i) = 1 then s1
    else
      let s2 := { s1 with lost := sset 0 s1.lost (fldKey f i) 1 }
      match satInfo f i with
      | none => s2
      | some (g, gi, code, detail) => raise0 code (blockOf (fldOff f i)) detail (rflag g gi s2)

/-- One increment. -/
def count1 (f : Fld) (i : Nat) (s : State) : State := count f i 1 s

/-- `n` operations counted in an activity counter, in units of 2^20 (R12, R481). -/
def activity (f : Fld) (i n : Nat) (s : State) : State :=
  let t := sget 0 s.remain (fldKey f i) + n
  let s1 := { s with remain := sset 0 s.remain (fldKey f i) (t % 2 ^ 20) }
  if t / 2 ^ 20 = 0 then s1 else count f i (t / 2 ^ 20) s1

/-- A bit of the trouble log set, with the local counts of the first and the latest (R406, Table 16.11). -/
def trouble (f : Fld) (m : Nat) (s : State) : State :=
  let c := lcountOf s 0
  let clear := [Fld.troubleLog_saturated, .troubleLog_supplyReset, .troubleLog_repeatHang, .troubleLog_remoteTimeout,
    .troubleLog_disableInflight, .troubleLog_flr, .troubleLog_sweepLate, .troubleLog_quarantine, .troubleLog_takeover,
    .troubleLog_esc, .troubleLog_cycleReq, .troubleLog_reset, .troubleLog_vigilHang].all (fun g => rget s g 0 == 0)
  rset .troubleLast_lcount 0 c (ror f 0 m (if clear then rset .troubleFirst_lcount 0 c s else s))

/-! ### The Almanac's staging buffer (R351 to R353) -/

/-- Bytes of a record with its header; the length is a multiple of 8. -/
def recBytes (r : AlmRec) : Nat := 32 + (r.body.length + 7) / 8 * 8

/-- Bytes of a list of records. -/
def recsBytes (l : List AlmRec) : Nat := (l.map recBytes).sum

/-- Record types that the tail takes (R348). -/
def tailType (t : Nat) : Bool := [0x1, 0x3, 0x6, 0x7, 0x9, 0xA, 0xB, 0xC].contains t

/-- What a start takes from the Almanac, as of now. -/
def almSnap (s : State) : AlmSnap := ⟨s.sp, s.mem.chanMap, s.alm.hours, s.alm.refurb, s.alm.note, rget s .almanacGrade_leaseTerm 0⟩

/-- Records start to be sealed, and others follow them in the open block. -/
def startSealing (l next : List AlmRec) (flags : Nat) (s : State) : State :=
  { s with alm := { s.alm with sealing := some (l, flags), staged := next, taking := some (almSnap s) } }

/-- The records that fit the room of a block, and those that follow (R351). -/
def blockPart : List AlmRec → Nat → List AlmRec × List AlmRec
  | [], _ => ([], [])
  | r :: rs, room =>
    if recBytes r ≤ room then (r :: (blockPart rs (room - recBytes r)).1, (blockPart rs (room - recBytes r)).2) else ([], r :: rs)

/-- The open block starts to be sealed; if one is being sealed already, the open block follows it (R353). A block that is full is not
sealed early, and what does not fit it is sealed after it. -/
def almSeal (flags : Nat) (s : State) : State :=
  if s.alm.sealing.isSome then { s with alm := { s.alm with sealNext := true } }
  else
    let x := blockPart s.alm.staged 61952
    if x.2.isEmpty then startSealing s.alm.staged [] flags s
    else startSealing x.1 x.2 0 { s with alm := { s.alm with sealNext := true } }

/-- A record staged; it starts the next block where it does not fit (R351); in the tail only the types of R348 are kept. -/
def almStage (r : AlmRec) (s : State) : State :=
  if rget s .almanacStatus_tail 0 = 1 && !tailType r.typ then s
  else if 61952 < recsBytes s.alm.staged + recBytes r then
    (if s.alm.sealing.isNone then startSealing s.alm.staged [r] 0 s
     else { s with alm := { s.alm with staged := s.alm.staged ++ [r], sealNext := true } })
  else { s with alm := { s.alm with staged := s.alm.staged ++ [r] } }

/-- The context whose commit sequence number is highest, for module records (Table 14.5). -/
def topCtx (s : State) : Nat :=
  (s.ctl.ctxs.map Prod.fst).foldl (fun b c => if commitSeq s b < commitSeq s c then c else b) 0

/-- A record of a context, staged. -/
def almCtx (typ src c : Nat) (body : List Byte) (s : State) : State :=
  almStage ⟨typ, src, lcountOf s src, stepNo s c, commitSeq s c, body⟩ s

/-- A module record, staged. -/
def almMod (typ src : Nat) (body : List Byte) (s : State) : State :=
  almStage ⟨typ, src, lcountOf s src, rget s .stepCtxCommitted_step (topCtx s), commitSeq s (topCtx s), body⟩ s

/-- A DETECTION record (Table 14.6): the event's code and its 32-byte fault record. -/
def almDetection (code src c detail : Nat) (s : State) : State :=
  almCtx 0x5 src c (leBytes 2 code ++ leBytes 6 0 ++ leBytes 32 detail) s

/-! ### The command journal -/

/-- Status codes (Table 3.8). -/
def stOk : Nat := 0x0000
def stBadVersion : Nat := 0x0010
def stReserved : Nat := 0x0011
def stCtxMismatch : Nat := 0x0012
def stSeqMismatch : Nat := 0x0013
def stNotPriv : Nat := 0x0014
def stBadOpcode : Nat := 0x0015
def stBadParam : Nat := 0x0016
def stGraphRejected : Nat := 0x0020
def stGraphFault : Nat := 0x0021
def stStepSequence : Nat := 0x0030
def stStepNotOpen : Nat := 0x0031
def stStepAbandoned : Nat := 0x0032
def stAbortDisable : Nat := 0x0040
def stAbortTeardown : Nat := 0x0041
def stRestoreRefused : Nat := 0x0050
def stHarvestFailed : Nat := 0x0051
def stPowerRefused : Nat := 0x0060
def stFwRejected : Nat := 0x0070
def stWorkLost : Nat := 0x00E0

/-- The record of a command that has not been delivered. -/
def isRec (q seq : Nat) (r : Rec) : Bool := r.q == q && r.seq == seq && r.state != .completed

/-- The undelivered record of a queue's sequence number. -/
def findRec (s : State) (q seq : Nat) : Option Rec := s.ctl.journal.find? (isRec q seq)

/-- The journal replaced. -/
def setJournal (l : List Rec) (s : State) : State := { s with ctl := { s.ctl with journal := l } }

/-- Every record for which `p` holds changed by `f`. -/
def mapRecs (p : Rec → Bool) (f : Rec → Rec) (s : State) : State :=
  setJournal (s.ctl.journal.map (fun r => if p r then f r else r)) s

/-- A record's reply prepared: REPLY_PENDING (Table 3.5). A record whose reply is prepared or delivered is left as it is. -/
def replyOf (s : State) (st det : Nat) (r : Rec) : Rec :=
  if r.state = .accepted || r.state = .issued then
    match r.again with
    | some st => { r with state := st, wait := .none, again := none }
    | none => { r with state := .replyPending, wait := .none, reply := some ⟨st, r.replayed, if r.step = 0 then stepNo s r.ctx else r.step, det % 2 ^ 64, 0⟩ }
  else r

/-- The command of a queue's sequence number completes with a status and a detail. -/
def finishAt (q seq st det : Nat) (s : State) : State := mapRecs (isRec q seq) (replyOf s st det) s

/-- The command completes with a status and a detail (R75). -/
def finish (h : CmdRef) (st det : Nat) (s : State) : State := finishAt h.q h.seq.toNat st det s

/-- The command completes with OK and a zero detail (R72). -/
def finishOk (h : CmdRef) (s : State) : State := finish h stOk 0 s

/-- A parameter is out of its range (R72). -/
def badParam (h : CmdRef) (det : Nat) (s : State) : State := finish h stBadParam det s

/-- The command stays ISSUED and waits. -/
def waitFor (h : CmdRef) (w : Wait) (s : State) : State :=
  mapRecs (isRec h.q h.seq.toNat) (fun r => if r.state = .issued then { r with wait := w } else r) s

/-- A record for a command that runs without having been fetched through its queue. -/
def directRec (s : State) (op : Nat) (h : CmdRef) : Rec :=
  ⟨h.q, h.seq.toNat, h.ctx, op, h.flags.toNat, [], .issued, .none,
    if h.flags.toNat.testBit 2 then stepNo s h.ctx else 0, 0, none, none⟩

/-- A command of a packet runs when its record is ISSUED and it does not wait already; a command that was never fetched runs as if
issued, with a record of its own. -/
def runCmd (op : Nat) (h : CmdRef) (body : State → State) (s : State) : State :=
  match findRec s h.q h.seq.toNat with
  | some r => if r.state = .issued && r.wait = .none then body s else s
  | none => body (setJournal (s.ctl.journal ++ [directRec s op h]) s)

/-- The same for an opcode marked P in Table 3.6 (R72). -/
def runPriv (op : Nat) (h : CmdRef) (body : State → State) (s : State) : State :=
  runCmd op h (fun s => if h.ctx = 0 then body s else finish h stNotPriv 0 s) s

/-- A record to be run again: an issued one from its start, one whose reply exists without a second reply (R79). -/
def reIssue (r : Rec) : Rec :=
  match r.state with
  | .accepted => r
  | .issued => { r with state := .accepted, wait := .none, replayed := r.replayed + 1 }
  | st => { r with state := .accepted, wait := .none, again := some st }

/-- Every record that waits in a given way completes. -/
def finishWaits (p : Rec → Bool) (st : Nat) (det : Rec → Nat) (s : State) : State :=
  setJournal (s.ctl.journal.map (fun r => if r.state = .issued && p r then replyOf s st (det r) r else r)) s

/-! ### Idle, Fallow and charges (R382 to R385) -/

/-- PWR_STATE.state set, with its event: cause 0 command, 1 automatic idle, 2 doorbell, 3 twin or link packet, 4 shutdown, 5 wake. -/
def setPwrState (n cause : Nat) (s : State) : State :=
  let old := rget s .pwrState_state 0
  if old = n then s
  else raise0 0x0F03 4 (pack [(0, 4, n), (4, 4, old), (8, 8, cause)]) (rset .pwrState_state 0 n s)

/-- The module leaves Idle at the first work (R382). -/
def leaveIdle (s : State) : State := if rget s .pwrState_state 0 = 1 then setPwrState 0 0 s else s

/-- R384: a wake trigger. In Fallow the exit starts; while it is being entered, the entry is abandoned: the reply carries detail 1 and the
module is in Idle (R383). -/
def wakeUp (cause : Nat) (s : State) : State :=
  if rget s .pwrState_state 0 = 2 then count1 .pwrFallowCount_count 0 (setPwrState 4 cause s)
  else if rget s .pwrState_state 0 = 3 then finishWaits (fun r => r.wait == .fallow) stOk (fun _ => 1) (rset .pwrState_target 0 1 (setPwrState 1 cause s))
  else s

/-- Energy charged to a context in MODEL mode, in 1/16 pJ times 640,000; a twin's mirror pass and updates are charged to their context. -/
def charge (c n : Nat) (s : State) : State :=
  if rget s .pwrCtl_energyMode 0 = 1 && (ctx? s c).isSome then
    { s with pow := { s.pow with charge := sset 0 s.pow.charge c (sget 0 s.pow.charge c + n) } }
  else s

/-- Bytes moved by GDDR7 or the CXL tier for a context. -/
def chargeMem (c n : Nat) (s : State) : State := charge c (n * Config.coefMem.toNat * 640000) s

/-- Bytes moved over links for a context. -/
def chargeLink (c n : Nat) (s : State) : State := charge c (n * Config.coefLink.toNat * 640000) s

/-- The accepted and uncompleted commands of a context (ACCEPTED or ISSUED). -/
def openRec (r : Rec) : Bool := r.state == .accepted || r.state == .issued

end Sys2Proof.Machine
end

