-- ==== Sys2Proof/Machine/MemOps.lean ====
section
/-! DEFINITION. Tray addresses, address windows, reads and writes on behalf of a context, poison and its reports, the inline code of
the channels, and leap-channel migration (ch. 7). -/

namespace Sys2Proof.Machine

/-! ### Tray addresses (R161 to R166) -/

/-- Bytes of a GDDR7 region: 99,528 MiB, or 12 channels of 7,656 MiB on a die trimmed in its channels (R163, R356). -/
def gddrBytes (s : State) (d : Nat) : Nat :=
  if (sget 0 s.sp.dieTrim d).testBit 1 then 12 * 7656 * 2 ^ 20 else 104362672128

/-- Logical channels that a die interleaves over. -/
def chanCount (s : State) (d : Nat) : Nat := if (sget 0 s.sp.dieTrim d).testBit 1 then 12 else 13

/-- Key of a byte of region n in `Mem.bytes`. -/
def gddrKey (d off : Nat) : Nat := d * 2 ^ 50 + off

/-- Key of a byte of a CXL device's memory. -/
def cxlKey (port a : Nat) : Nat := (16 + port) * 2 ^ 50 + a

/-- Key of a byte of cluster memory; an Octave shadow has its own. -/
def clKey (d cl : Nat) (shadow : Bool) (b : Nat) : Nat := ((if shadow then 40 else 32) + d) * 2 ^ 50 + cl * 2 ^ 18 + b

/-- Rows of a die's logical grid: 28 on a die trimmed in its rows (R356). -/
def gridRows (s : State) (d : Nat) : Nat := if (sget 0 s.sp.dieTrim d).testBit 0 then 28 else 32

/-- Mesh index of a logical cluster as manufactured: sector by sector (DESIGN CHOICE, log entry 8: the map itself is not given). -/
def clDefault (rows cl : Nat) : Nat :=
  let x := cl % 64
  let y := cl / 64
  let h := rows / 4
  let i := (y % h) * 16 + x % 16
  (11 * (y / h) + i / 12) * 48 + 12 * (x / 16) + i % 12

/-- Physical mesh index of a logical cluster of a die. -/
def physCl (s : State) (d cl : Nat) : Nat := sget (clDefault (gridRows s d) cl) s.sp.clMap (d * 2048 + cl)

/-- The slot of the tray that the straps gave (R161). -/
def ownSlot (s : State) : Nat := rget s .mcStraps_slot 0

/-- The port whose range holds a region-8 offset (R166). -/
def cxlPortOf (s : State) (off : Nat) : Option Nat :=
  (List.range 4).find? (fun m => rget s .fdieCxlMapBase_offset m ≤ off &&
    off < rget s .fdieCxlMapBase_offset m + rget s .fdieCxlMapBytes_bytes m)

/-- Where a tray address leads. -/
inductive Loc where
  | mem (key : Nat)
  | cxl (port key : Nat)
  | journal (off : Nat)
  | remote (slot : Nat)
  | unmapped
deriving DecidableEq, Repr

/-- Slot field of an address. -/
def slotOf (a : Nat) : Nat := bits a 54 3
/-- Region field. -/
def regionOf (a : Nat) : Nat := bits a 50 4
/-- Offset field. -/
def offsetOf (a : Nat) : Nat := bits a 0 50

/-- A range of a region lies within the region's extent (R163 to R166, R356); for region 8 any offset of the 4 TiB may be named. -/
def inExtent (s : State) (region off : Nat) : Bool :=
  if region < 8 then off < gddrBytes s region
  else if region = 8 then off < 2 ^ 42
  else if region = 9 then off < 2 ^ 32 && bits off 0 18 < 196608 && bits off 24 5 < gridRows s (bits off 29 3)
  else if region = 10 then off < 2 ^ 30
  else false

/-- Where an address leads (R161, R162). -/
def locate (s : State) (a : Nat) : Loc :=
  if 2 ^ 57 ≤ a then .unmapped
  else if slotOf a ≠ ownSlot s then
    if Config.slotOccupied s.free (slotOf a) && regionOf a < 11 then .remote (slotOf a) else .unmapped
  else
    let r := regionOf a
    let o := offsetOf a
    if !inExtent s r o then .unmapped
    else if r < 8 then .mem (gddrKey r o)
    else if r = 8 then
      match cxlPortOf s o with
      | some m => .cxl m (cxlKey m (o - rget s .fdieCxlMapBase_offset m))
      | none => .unmapped
    else if r = 9 then .mem (clKey (bits o 29 3) (bits o 18 11) false (bits o 0 18))
    else .journal o

/-! ### Windows (R168 to R170) -/

/-- An entry holds an address and carries a right: bit 0 read, bit 1 write. -/
def entryOk (wr : Bool) (a : Nat) (e : WinEntry) : Bool :=
  e.base ≤ a && a < e.base + e.bytes && e.rights.testBit (if wr then 1 else 0)

/-- An address lies inside the window of a context for a read or a write. Context 0 has its implicit window besides. -/
def inWindow (s : State) (c : Nat) (wr : Bool) (a : Nat) : Bool :=
  ((ctx? s c).elim false (fun x => x.window.any (entryOk wr a))) ||
  (c == 0 && a < 2 ^ 57 && slotOf a == ownSlot s && (regionOf a < 10 || (regionOf a == 10 && !wr)))

/-- The 64-byte lines that a range touches, as (address, bytes). `fuel` bounds their number. -/
def pieces : Nat → Nat → Nat → List (Nat × Nat)
  | 0, _, _ => []
  | fuel + 1, a, n =>
    if n = 0 then []
    else
      let m := Nat.min n (64 - a % 64)
      (a, m) :: pieces fuel (a + m) (n - m)

/-- The lines of a range. -/
def linesOf (a n : Nat) : List (Nat × Nat) := pieces (n / 64 + 2) a n

/-- What a read of a range gave: its bytes, the addresses of its poisoned lines, the lines outside the window. -/
structure Rd where
  bytes : List Byte
  bad : List Nat
  viol : Nat
deriving DecidableEq, Repr

/-- A CXL port that answers: up, with the device that was mapped (R454). -/
def cxlUp (s : State) (m : Nat) : Bool :=
  rget s .fdieCxlPort_up m == 1 && rget s .fdieCxlPort_present m == 1 && sget 0 s.host.cxlDev m == sget 0 s.host.cxlMapped m

/-- Bytes of a local key, with poison where the line is bad. -/
def keyRead (s : State) (k n a : Nat) : Rd :=
  if sget 0 s.mem.bad (k / 64) = 0 then ⟨sgetN 0 s.mem.bytes k n, [], 0⟩
  else ⟨(List.range n).map (fun i => Config.poisonByte (a + i)), [a], 0⟩

/-- One line, or part of one, read for a context. -/
def readPiece (s : State) (c a n : Nat) : Rd :=
  if !inWindow s c false a then ⟨List.replicate n 0, [], 1⟩
  else
    match locate s a with
    | .unmapped => ⟨List.replicate n 0, [], 1⟩
    | .mem k => keyRead s k n a
    | .cxl m k => if cxlUp s m then keyRead s k n a else ⟨(List.range n).map (fun i => Config.poisonByte (a + i)), [a], 0⟩
    | .journal o => ⟨(List.range n).map (fun i => Config.journalByte s.free (o + i)), [], 0⟩
    | .remote _ => ⟨(List.range n).map (fun i => Config.remoteByte s.free (a + i)), [], 0⟩

/-- Two reads joined. -/
def Rd.append (x y : Rd) : Rd := ⟨x.bytes ++ y.bytes, x.bad ++ y.bad, x.viol + y.viol⟩

/-- A range read for a context, without its count of violations. -/
def peek (s : State) (c a n : Nat) : Rd :=
  (linesOf a n).foldl (fun r p => r.append (readPiece s c p.1 p.2)) ⟨[], [], 0⟩

/-- Violations counted in MC_WIN_VIOL (R170). -/
def countViol (c n : Nat) (s : State) : State := if n = 0 then s else count .mcWinViol_count c n s

/-- Poison counted for a CXL port (R454). -/
def cxlPoison (s : State) (a : Nat) : State :=
  match locate s a with
  | .cxl m _ => rflag .fdieCxlStatus_poisonSeen m (count1 .fdieCxlPoisonCount_count m s)
  | _ => s

/-- Bytes of a range that GDDR7 or the CXL tier moves. -/
def tierBytes (a n : Nat) : Nat := if regionOf a < 9 then n else 0

/-- A range read for a context: what was read, and the state with the violations counted and the free values used. -/
def ctxRead (c a n : Nat) (s : State) : Rd × State :=
  let r := peek s c a n
  (r, useFree (chargeMem c (tierBytes a n) (countViol c r.viol s)))

/-- Bytes of a local key written; a write of part of a bad line is lost with the line, a write of the whole line cleans it (R172). -/
def keyWrite (k : Nat) (b : List Byte) (s : State) : State :=
  if sget 0 s.mem.bad (k / 64) = 0 then { s with mem := { s.mem with bytes := ssetN 0 s.mem.bytes k b } }
  else if b.length = 64 then
    { s with mem := { s.mem with bytes := ssetN 0 s.mem.bytes k b, bad := sset 0 s.mem.bad (k / 64) 0 } }
  else { s with mem := { s.mem with bad := sset 0 s.mem.bad (k / 64) 1 } }

/-- The roster index of the module in another slot of the tray: that of the port whose peer names the slot in its straps. -/
def slotRoster (s : State) (slot : Nat) : Nat :=
  match (List.range 32).find? (fun p => bits (rget s .linkPortPeer_straps p) 0 3 == slot && rget s .linkPortPeer_trayId p == s.fab.trayId) with
  | some p => rget s .linkPortPeer_roster p
  | none => 0x3FFF

/-- A module is added to the touch set of a context (R401). -/
def touch (c roster : Nat) (s : State) : State :=
  let l := sget [] s.vig.touch c
  if l.contains roster then s else { s with vig := { s.vig with touch := sset [] s.vig.touch c (l ++ [roster]) } }

/-- A request to another slot of the tray, with its tag (R167, R392). -/
def sendRemote (c slot a : Nat) (write : Bool) (b : List Byte) (len : Nat) (use : RemoteUse) (s : State) : State :=
  let tag := s.vig.nextTag % 65536
  touch c (slotRoster s slot) (emit (.data (if write then "STORE" else "LOAD") slot [c, genOf s c, tag, a, len] b)
    { s with vig := { s.vig with nextTag := (tag + 1) % 65536,
                                 remote := sput s.vig.remote tag ⟨c, genOf s c, slot, a, write, b, len, false, use⟩ } })

/-- One line, or part of one, written for a context. -/
def writePiece (c a : Nat) (b : List Byte) (s : State) : State :=
  if !inWindow s c true a then countViol c 1 s
  else
    match locate s a with
    | .unmapped => countViol c 1 s
    | .mem k => keyWrite k b s
    | .cxl m k => if cxlUp s m then activity .fdieCxlBytes_units m b.length (keyWrite k b s) else s
    | .journal _ => countViol c 1 s
    | .remote slot => sendRemote c slot a true b b.length .other s

/-- Lines of bytes written in order. -/
def writePieces (c : Nat) : List (Nat × Nat) → List Byte → State → State
  | [], _, s => s
  | (a, n) :: ps, b, s => writePieces c ps (b.drop n) (writePiece c a (b.take n) s)

/-- A range written for a context. -/
def ctxWrite (c a : Nat) (b : List Byte) (s : State) : State :=
  chargeMem c (tierBytes a b.length) (writePieces c (linesOf a b.length) b s)

/-- A line written as poison for a context (R172). -/
def poisonLine (c a : Nat) (s : State) : State :=
  if !inWindow s c true a then s
  else
    match locate s a with
    | .mem k => { s with mem := { s.mem with bad := sset 0 s.mem.bad (k / 64) 1 } }
    | .cxl _ k => { s with mem := { s.mem with bad := sset 0 s.mem.bad (k / 64) 1 } }
    | _ => s

/-- Every line of a range lies inside the window. -/
def rangeIn (s : State) (c : Nat) (wr : Bool) (a n : Nat) : Bool :=
  (linesOf a n).all (fun p => inWindow s c wr p.1 && locate s p.1 != .unmapped)

/-- A little-endian number read from memory for a context. -/
def ctxNat (s : State) (c a n : Nat) : Nat := leNat (peek s c a n).bytes

/-! ### Channels and migration (R163, R175 to R177) -/

/-- Logical channel of a region offset. -/
def chanOf (s : State) (d off : Nat) : Nat := off / 4096 % chanCount s d

/-- Channel byte address of a region offset. -/
def chanByte (s : State) (d off : Nat) : Nat := off / 4096 / chanCount s d * 4096 + off % 4096

/-- Physical channel of a logical channel. -/
def physChan (s : State) (d ch : Nat) : Nat := sget ch s.mem.chanMap (d * 13 + ch)

/-- A migration trigger (R175): it starts where the leap channel is idle, else MEM_LEAP_EXHAUSTED. -/
def migTrigger (d ch : Nat) (s : State) : State :=
  if rget s .cdieMemStatus_migrating d = 15 && rget s .cdieMemStatus_leapTarget d = 15 then
    let old := physChan s d ch
    raise0 0x0702 (0x10 + d) (pack [(0, 8, d), (8, 8, ch), (16, 8, old)])
      (rset .cdieMemCopyPtr_line d 0 (rset .cdieMemStatus_migrating d ch
        { s with mem := { s.mem with migOld := sset 0 s.mem.migOld d old } }))
  else raise0 0x0704 (0x10 + d) (pack [(0, 8, d), (8, 8, ch)]) s

/-! ### Poison received (R160, R172) -/

/-- Detail of MEM_UNCORRECTABLE (Table 7.10). -/
def uncorrDetail (tier kind die chan cluster core reader addr task mb tj : Nat) : Nat :=
  pack [(0, 8, tier), (8, 8, kind), (16, 8, die), (24, 8, chan), (32, 16, cluster), (48, 8, core), (56, 8, reader),
    (64, 64, addr), (128, 16, task), (144, 16, mb), (160, 16, tj)]

/-- A reader of a context received a bad line at a tray address: the event to the context and to context 0, the count, the Almanac
record, and the migration trigger where the error is not a stored poison pattern (R172, R175). -/
def reportBad (reader c task mb a : Nat) (s : State) : State :=
  match locate s a with
  | .mem k =>
    let kind := sget 0 s.mem.bad (k / 64)
    let kd := if kind = 3 then 1 else 0
    if regionOf a < 8 then
      let d := regionOf a
      let ch := chanOf s d (offsetOf a)
      let p := physChan s d ch
      let det := uncorrDetail 2 kd d p 0xFFFF 0xFF reader a task mb (Config.tjNow s.free)
      let s1 := almDetection 0x0701 (0x10 + d) c det (raiseBoth 0x0701 (0x10 + d) c det (useFree s))
      let s2 := rflag .cdieMemStatus_uncorrSeen d (count1 .cdieMemUncorrCount_count (d * 14 + p) s1)
      if kind = 1 then s2 else migTrigger d ch s2
    else
      let d := bits a 29 3
      let det := uncorrDetail 1 kd d 0xFF (physCl s d (bits a 18 11)) 0xFF reader a task mb (Config.tjNow s.free)
      count1 .cdieMemSramUncorrCount_count d
        (almDetection 0x0701 (0x10 + d) c det (raiseBoth 0x0701 (0x10 + d) c det (useFree s)))
  | .cxl m _ =>
    let det := uncorrDetail 3 3 m m 0xFFFF 0xFF reader a task mb (Config.tjNow s.free)
    cxlPoison (almDetection 0x0701 (0x18 + m) c det (raiseBoth 0x0701 (0x18 + m) c det (useFree s))) a
  | _ => s

/-- Every bad line of a read reported. -/
def reportAll (reader c task mb : Nat) (l : List Nat) (s : State) : State :=
  l.foldl (fun s a => reportBad reader c task mb a s) s

/-- A range read by a command (reader 6): what was read, and the state with violations counted and poison reported. -/
def cmdRead (c a n : Nat) (s : State) : Rd × State :=
  let r := ctxRead c a n s
  (r.1, reportAll 6 c 0xFFFF 0xFFFF r.1.bad r.2)

/-! ### The inline code of a line (R172) -/

/-- Multiplication by alpha in GF(2^8) with x^8 + x^4 + x^3 + x^2 + 1. -/
def gfx (a : BitVec 8) : BitVec 8 := if a.msb then (a <<< 1) ^^^ 0x1D#8 else a <<< 1

/-- Product in GF(2^8), by the bits of the second factor. -/
def gfMul (a b : BitVec 8) : BitVec 8 :=
  ((List.range 8).foldl (fun (p : BitVec 8 × BitVec 8) i => (if b.getLsbD i then p.1 ^^^ p.2 else p.1, gfx p.2)) (0, a)).1

/-- Powers of alpha. -/
def gfPow : Nat → BitVec 8
  | 0 => 1
  | n + 1 => gfx (gfPow n)

/-- The four check symbols after one more message symbol: division by g(x), whose coefficients are those of the product of the four
factors, highest first. -/
def eccStep (g : List (BitVec 8)) (r : List (BitVec 8)) (m : BitVec 8) : List (BitVec 8) :=
  let q := m ^^^ r.headD 0
  ((r.drop 1 ++ [0]).zip g).map (fun (x : Byte × Byte) => x.1 ^^^ gfMul q x.2)

/-- The coefficients of g(x) below x^4, highest first. -/
def eccGen : List (BitVec 8) :=
  let mulF := fun (p : List (BitVec 8)) (r : BitVec 8) => ((p ++ [0]).zip (0 :: p)).map (fun (x : Byte × Byte) => x.1 ^^^ gfMul r x.2)
  (mulF (mulF (mulF (mulF [1] (gfPow 0)) (gfPow 1)) (gfPow 2)) (gfPow 3)).drop 1

/-- The check bytes of a line of data with line index `l`: byte j is the coefficient of x^(3 - j). -/
def eccBytes (l : Nat) (data : List Byte) : List Byte :=
  (data ++ leBytes 4 l).foldl (eccStep eccGen) [0, 0, 0, 0]

/-- Syndrome j of the 72 symbols: the codeword evaluated at alpha^j. -/
def eccSyn (j : Nat) (word : List Byte) : BitVec 8 := word.foldl (fun a b => gfMul a (gfPow j) ^^^ b) 0

/-- What the decoder finds in a stored line. -/
inductive EccRes where
  | clean
  | corrected (data : List Byte)
  | poison
  | addrErr
  | uncorr
deriving DecidableEq, Repr

/-- A single error with value e at power p: every syndrome is e times a power of alpha^p. -/
def eccSingle (s : List (BitVec 8)) (p : Nat) : Bool :=
  let e := s.headD 0
  e != 0 && (List.range 4).all (fun j => s.getD j 0 == gfMul e (gfPow (p * j)))

/-- The decoder of R172: poison pattern first, then no error, one symbol, an address symbol, or uncorrectable. -/
def eccDecode (l : Nat) (data check : List Byte) : EccRes :=
  if check = (eccBytes l data).map (fun b => b ^^^ 0xA5#8) then .poison
  else
    let w := data ++ leBytes 4 l ++ check
    let s := (List.range 4).map (fun j => eccSyn j w)
    if s.all (fun x => x == 0) then .clean
    else
      match (List.range 72).find? (fun i => eccSingle s (71 - i)) with
      | none => .uncorr
      | some i =>
        if i < 64 then .corrected (data.set i ((data.getD i 0) ^^^ s.headD 0))
        else if i < 68 then .addrErr
        else .corrected data

end Sys2Proof.Machine
end

