-- ==== Sys2Proof/Machine/Journal.lean ====
section
/-! DEFINITION. Command packets and queues: the spelling of a packet, fetching, acceptance, issue, replies, the completion head and the
admin queue (ch. 3). -/

namespace Sys2Proof.Machine

/-! ### Packets (R60 to R62, R72) -/

/-- An opcode of Table 3.6: privileged, step flag permitted, parameters as (bytes, reserved). -/
structure OpRow where
  priv : Bool
  step : Bool
  params : List (Nat × Bool)
deriving DecidableEq, Repr

/-- Named parameters. -/
def pr (l : List Nat) : List (Nat × Bool) := l.map (fun n => (n, false))

/-- The opcodes of Table 3.6. -/
def opRow : Nat → Option OpRow
  | 0x00 => some ⟨false, false, []⟩
  | 0x01 => some ⟨true, false, pr [1, 1, 1] ++ [(1, true)] ++ pr [2, 2]⟩
  | 0x02 => some ⟨true, false, pr [1]⟩
  | 0x03 => some ⟨true, false, pr [1]⟩
  | 0x04 => some ⟨false, false, pr [2, 1, 1, 8, 8, 1, 1, 2, 4, 4]⟩
  | 0x05 => some ⟨false, false, pr [2]⟩
  | 0x06 => some ⟨false, false, pr [8]⟩
  | 0x10 => some ⟨false, true, pr [8, 8, 8]⟩
  | 0x11 => some ⟨false, true, pr [8, 8, 8]⟩
  | 0x12 => some ⟨false, true, pr [8, 8]⟩
  | 0x13 => some ⟨true, false, pr [1] ++ [(1, true)] ++ pr [2] ++ [(4, true)] ++ pr [8]⟩
  | 0x14 => some ⟨true, false, pr [1] ++ List.replicate 7 (1, true) ++ pr [8, 8]⟩
  | 0x20 => some ⟨false, false, pr [8, 8]⟩
  | 0x21 => some ⟨false, false, pr [2]⟩
  | 0x22 => some ⟨false, true, pr [2, 2] ++ [(4, true)] ++ pr [8]⟩
  | 0x23 => some ⟨false, true, pr [2] ++ List.replicate 3 (2, true) ++ pr [8]⟩
  | 0x24 => some ⟨false, true, pr [2] ++ List.replicate 3 (2, true) ++ pr [8]⟩
  | 0x25 => some ⟨false, false, pr [1] ++ [(1, true)] ++ pr [2] ++ [(4, true)] ++ pr [8]⟩
  | 0x30 => some ⟨false, false, pr [8, 2]⟩
  | 0x31 => some ⟨false, true, pr [8, 8, 2]⟩
  | 0x32 => some ⟨false, true, pr [2]⟩
  | 0x33 => some ⟨false, true, pr [8]⟩
  | 0x34 => some ⟨false, false, pr [8]⟩
  | 0x35 => some ⟨false, false, pr [8]⟩
  | 0x36 => some ⟨false, false, pr [8]⟩
  | 0x40 => some ⟨false, true, pr [8, 4, 1]⟩
  | 0x41 => some ⟨false, false, pr [2, 2]⟩
  | 0x42 => some ⟨false, false, []⟩
  | 0x43 => some ⟨false, false, pr [1] ++ [(1, true)] ++ pr [2]⟩
  | 0x50 => some ⟨false, false, pr [1, 1] ++ List.replicate 6 (1, true) ++ pr [8, 8]⟩
  | 0x51 => some ⟨false, false, pr [4, 4]⟩
  | 0x52 => some ⟨false, false, []⟩
  | 0x53 => some ⟨false, false, pr [8, 1]⟩
  | 0x54 => some ⟨false, false, pr [8]⟩
  | 0x60 => some ⟨true, false, pr [4]⟩
  | 0x61 => some ⟨true, false, pr [1]⟩
  | 0x62 => some ⟨true, false, pr [1]⟩
  | 0x63 => some ⟨false, false, pr [8, 1]⟩
  | 0x70 => some ⟨true, false, pr [4, 4, 8]⟩
  | 0x71 => some ⟨false, false, pr [8, 32]⟩
  | 0x72 => some ⟨true, false, pr [2, 2]⟩
  | 0x73 => some ⟨true, false, pr [8]⟩
  | 0x74 => some ⟨true, false, pr [8]⟩
  | 0x80 => some ⟨true, false, pr [1, 1]⟩
  | 0x81 => some ⟨true, false, pr [2] ++ List.replicate 3 (2, true) ++ pr [8]⟩
  | 0x82 => some ⟨true, false, pr [4] ++ [(4, true)] ++ pr [8]⟩
  | 0x83 => some ⟨true, false, pr [4] ++ [(4, true)] ++ pr [8]⟩
  | 0x84 => some ⟨true, false, pr [2, 1, 1]⟩
  | 0xF0 => some ⟨true, false, pr [8, 8]⟩
  | 0xF1 => some ⟨true, false, []⟩
  | 0xFE => some ⟨true, false, []⟩
  | _ => none

/-- Offsets of the parameters: each starts at the next multiple of its own size (R62). -/
def paramOffs : Nat → List (Nat × Bool) → List (Nat × Nat × Bool)
  | _, [] => []
  | cur, (n, r) :: ps =>
    let o := (cur + n - 1) / n * n
    (o, n, r) :: paramOffs (o + n) ps

/-- A little-endian field of a packet. -/
def pktNat (b : List Byte) (off n : Nat) : Nat := leNat ((b.drop off).take n)

/-- The values of the named parameters. -/
def paramVals (row : OpRow) (b : List Byte) : List Nat :=
  ((paramOffs 16 row.params).filter (fun x => !x.2.2)).map (fun x => pktNat b x.1 x.2.1)

/-- Every parameter byte that names nothing is zero (R11, R62). -/
def reservedZero (row : OpRow) (b : List Byte) : Bool :=
  (List.range 48).all (fun i =>
    (paramOffs 16 row.params).any (fun x => !x.2.2 && x.1 ≤ 16 + i && 16 + i < x.1 + x.2.1) || (b.getD (16 + i) 0) == 0)

/-- The command that an opcode and its parameter values spell. -/
def mkCmd (h : CmdRef) (op : Nat) (p : List Nat) : Option Instr :=
  let a := fun (i : Nat) => p.getD i 0
  let w := fun (i : Nat) => BitVec.ofNat 64 (a i)
  let d := fun (i : Nat) => BitVec.ofNat 32 (a i)
  let k := fun (i : Nat) => BitVec.ofNat 16 (a i)
  let b := fun (i : Nat) => BitVec.ofNat 8 (a i)
  match op with
  | 0x00 => some (.nop h)
  | 0x01 => some (.ctxCreate h (b 0) (b 1) (b 2) (k 3) (k 4))
  | 0x02 => some (.ctxDestroy h (b 0))
  | 0x03 => some (.ctxReset h (b 0))
  | 0x04 => some (.queueCreate h (k 0) (b 1) (b 2) (w 3) (w 4) (b 5) (b 6) (k 7) (d 8) (d 9))
  | 0x05 => some (.queueDestroy h (k 0))
  | 0x06 => some (.geometryRead h (w 0))
  | 0x10 => some (.memCopy h (w 0) (w 1) (w 2))
  | 0x11 => some (.memFill h (w 0) (w 1) (w 2))
  | 0x12 => some (.memDigest h (w 0) (w 1))
  | 0x13 => some (.windowSet h (b 0) (k 1) (w 2))
  | 0x14 => some (.cxlMap h (b 0) (w 1) (w 2))
  | 0x20 => some (.graphLoad h (w 0) (w 1))
  | 0x21 => some (.graphUnload h (k 0))
  | 0x22 => some (.graphRun h (k 0) (k 1) (w 2))
  | 0x23 => some (.eventSignal h (k 0) (w 1))
  | 0x24 => some (.eventWait h (k 0) (w 1))
  | 0x25 => some (.eventRing h (b 0) (k 1) (w 2))
  | 0x30 => some (.stepOpen h (w 0) (k 1))
  | 0x31 => some (.inputRetain h (w 0) (w 1) (k 2))
  | 0x32 => some (.microbatchEnd h (k 0))
  | 0x33 => some (.stepUpdate h (w 0))
  | 0x34 => some (.stepSeal h (w 0))
  | 0x35 => some (.stepCommitWait h (w 0))
  | 0x36 => some (.stepAbort h (w 0))
  | 0x40 => some (.exchange h (w 0) (d 1) (b 2))
  | 0x41 => some (.mirrorBind h (k 0) (k 1))
  | 0x42 => some (.mirrorRelease h)
  | 0x43 => some (.stragglerSet h (b 0) (k 1))
  | 0x50 => some (.harvestTarget h (b 0) (b 1) (w 2) (w 3))
  | 0x51 => some (.harvestPolicy h (d 0) (d 1))
  | 0x52 => some (.harvestNow h)
  | 0x53 => some (.restore h (w 0) (b 1))
  | 0x54 => some (.importA2 h (w 0))
  | 0x60 => some (.powerPeakSet h (d 0))
  | 0x61 => some (.powerState h (b 0))
  | 0x62 => some (.energyMode h (b 0))
  | 0x63 => some (.energyRead h (w 0) (b 1))
  | 0x70 => some (.almanacRead h (d 0) (d 1) (w 2))
  | 0x71 => some (.attest h (w 0) (BitVec.ofNat 256 (a 1)))
  | 0x72 => some (.diagRun h (k 0) (k 1))
  | 0x73 => some (.troubleRead h (w 0))
  | 0x74 => some (.almanacNote h (w 0))
  | 0x80 => some (.partitionSet h (b 0) (b 1))
  | 0x81 => some (.sliceDefine h (k 0) (w 1))
  | 0x82 => some (.routeWrite h (d 0) (w 1))
  | 0x83 => some (.planLoad h (d 0) (w 1))
  | 0x84 => some (.rosterJoin h (k 0) (b 1) (b 2))
  | 0xF0 => some (.fwStage h (w 0) (w 1))
  | 0xF1 => some (.fwActivate h)
  | 0xFE => some (.shutdown h)
  | _ => none

/-- The status of the first check of R63 that a packet fails; 0 where none does. `exp` is the expected sequence number. -/
def packetCheck (c exp : Nat) (b : List Byte) : Nat :=
  let hdr := pktNat b 0 4
  let op := bits hdr 0 8
  let flags := bits hdr 16 12
  if bits hdr 8 4 ≠ 1 then stBadVersion
  else if bits hdr 28 4 ≠ 0 || flags / 8 ≠ 0 || pktNat b 5 3 ≠ 0 || pktNat b 12 4 ≠ 0 ||
      !((opRow op).elim true (fun r => reservedZero r b)) then stReserved
  else if pktNat b 4 1 ≠ c then stCtxMismatch
  else if pktNat b 8 4 ≠ exp then stSeqMismatch
  else if ((opRow op).elim false (·.priv)) && c ≠ 0 then stNotPriv
  else if (opRow op).isNone then stBadOpcode
  else if flags.testBit 2 && !((opRow op).elim false (·.step)) then stBadParam
  else 0

/-- The command of a packet of queue `q` that passed every check. -/
def packetInstr (q exp : Nat) (b : List Byte) : Option Instr :=
  let op := pktNat b 0 1
  (opRow op).bind (fun r =>
    mkCmd ⟨q, BitVec.ofNat 32 exp, pktNat b 4 1, BitVec.ofNat 12 (bits (pktNat b 0 4) 16 12)⟩ op (paramVals r b))

/-! ### Fetching (R61, R63) -/

/-- The module accepts packets: MC_STATUS.ready, no quiescing, neither in Fallow nor on the way into it or out of it (R384). -/
def accepting (s : State) : Bool := rget s .mcStatus_ready 0 == 1 && s.boot.trigger == 0 && decide (rget s .pwrState_state 0 < 2)

/-- Slots of a ring read: bytes, and whether a line of module memory was bad. -/
def slotsRead (x : Queue) (from_ n : Nat) (s : State) : List Byte × List Nat :=
  (List.range n).foldl (fun (r : List Byte × List Nat) i =>
    let a := x.sqBase + 64 * ((from_ + i) % 2 ^ x.sqLog2)
    if x.sqMod then let p := peek s x.ctx a 64; (r.1 ++ p.bytes, r.2 ++ p.bad) else (r.1 ++ hostRead s a 64, r.2)) ([], [])

/-- Slots fetched and not yet accepted. -/
def fetchedSlots (x : Queue) : Nat := (x.fetched.map (·.slots)).sum

/-- A queue fetches: it exists, is active or held, and its ring can be reached. -/
def canFetch (s : State) (x : Queue) : Bool :=
  accepting s && (x.state == .active || x.state == .held) && !x.destroying &&
  (x.sqMod || !noDma s (fnOf s x.ctx)) && (ctx? s x.ctx).elim false (fun c => c.teardown.isNone)

/-- A queue that is active, or held for another reason than its context's hold, held for a reason (Table 3.2). -/
def holdQueue (q reason : Nat) (s : State) : State :=
  modQueue q (fun x => if x.state = .active || (x.state = .held && x.heldReason ≠ 1) then { x with state := .held, heldReason := reason } else x) s

/-- A queue's hold for a reason ends. -/
def unholdQueue (q reason : Nat) (s : State) : State :=
  modQueue q (fun x => if x.heldReason = reason && x.state = .held then { x with state := .active, heldReason := 0 } else x) s

/-- Packets fetched in slot order while the tail covers all of their slots; each is checked in the order of R63. In a mirrored context
its journal record goes to the twin (R64). -/
def fetchLoop (q : Nat) : Nat → State → State
  | 0, s => s
  | fuel + 1, s =>
    match queue? s q with
    | none => s
    | some x =>
      let pos := x.acceptSlot + fetchedSlots x
      let avail := (x.tail + 2 ^ 16 - pos % 2 ^ 16) % 2 ^ 16
      if avail = 0 || !canFetch s x then s
      else
        let first := slotsRead x pos 1 s
        let e := bits (pktNat first.1 0 4) 12 4
        if avail < 1 + e then s
        else
          let all := slotsRead x pos (1 + e) s
          match all.2 with
          | a :: _ => holdQueue q 5 (reportBad 6 x.ctx 0xFFFF 0xFFFF a s)
          | [] =>
            let exp := (x.nextSeq + x.fetched.length) % 2 ^ 32
            let st := packetCheck x.ctx exp all.1
            let f : Fetched := ⟨all.1, 1 + e, if st = 0 then packetInstr q exp all.1 else none, st, false⟩
            let s1 := setQueue q { x with fetched := x.fetched ++ [f] } s
            let s2 := if rget s .stepCtxState_mirrored x.ctx = 1 then
                emit (.data "JOURNAL" ((sget StepCtx.empty s.st x.ctx).twin.getD 0) [x.ctx, q, exp] all.1) s1 else s1
            fetchLoop q fuel s2

/-- The host's own stores made before the doorbell. -/
def hostStores (l : List (Nat × Byte)) (s : State) : State := l.foldl (fun s x => hostWrite x.1 [x.2] s) s

/-- A doorbell write acted on. -/
def doorbell (q tail : Nat) (s : State) : State :=
  fetchLoop q 32768 (unholdQueue q 5 (modQueue q (fun x => { x with tail := tail }) s))

/-- A function owns the queue's context (R440). -/
def ownsQueue (s : State) (fn q : Nat) : Bool :=
  (queue? s q).elim false (fun x => (ctx? s x.ctx).elim false (fun c => c.fn == fn))

/-- R63, R440: a doorbell write of the tail. It is dropped and counted where the function does not own the queue, and kept while the
module accepts no packet (R20, R78). -/
def execQueueDbSqTail (fn q : Nat) (tail : BitVec 16) (host : List (Nat × Byte)) (s : State) : Out :=
  let s := dropLatch fn (hostStores host s)
  if s.host.flr.contains fn then .next s
  else if !ownsQueue s fn q then .next (count1 .hostifFnDbViol_count fn s)
  else
    let s := wakeUp 2 s
    if !accepting s then .next { s with ctl := { s.ctl with doorbells := s.ctl.doorbells ++ [(fn, q, tail.toNat)] } }
    else .next (doorbell q tail.toNat s)

/-- The doorbell writes that were kept are acted on in order, once the module accepts packets again. -/
def keptDoorbells (s : State) : State :=
  if !accepting s then s
  else
    s.ctl.doorbells.foldl (fun s d => if ownsQueue s d.1 d.2.1 then doorbell d.2.1 d.2.2 s else s)
      { s with ctl := { s.ctl with doorbells := [] } }

/-! ### Acceptance (R59, R63 to R68) -/

/-- Bytes of journal that a context's records take (R65). -/
def journalUsed (s : State) (c : Nat) : Nat :=
  ((s.ctl.journal.filter (fun r => r.ctx == c)).map (fun r => 64 + r.bytes.length)).sum

/-- A context's share of the journal in bytes; context 0 has the 64 MiB reserved to the module controller (R65). -/
def journalShare (s : State) (c : Nat) : Nat :=
  if c = 0 then 64 * 2 ^ 20 else (ctx? s c).elim 0 (fun x => x.journalMib * 2 ^ 20)

/-- Opcode of a fetched packet. -/
def fetchedOp (f : Fetched) : Nat := pktNat f.bytes 0 1

/-- R59: the completion ring has room for one more reply. -/
def cqRoom (x : Queue) : Bool := (x.nextSeq + 2 ^ 32 - x.cqHead) % 2 ^ 32 < 2 ^ x.cqLog2

/-- The record of an accepted packet: REPLY_PENDING at once where a check failed, so that nothing of it is executed (R63). -/
def acceptedRec (s : State) (q : Nat) (x : Queue) (f : Fetched) : Rec :=
  let flags := bits (pktNat f.bytes 0 4) 16 12
  let step := if flags.testBit 2 then stepNo s x.ctx else 0
  ⟨q, x.nextSeq, x.ctx, fetchedOp f, flags, f.bytes, if f.status = 0 then .accepted else .replyPending, .none, step, 0,
    if f.status = 0 then none else some ⟨f.status, 0, if step = 0 then stepNo s x.ctx else step, 0, 0⟩, none⟩

/-- TWIN_UNREACHABLE raised once, and every queue of the context held with reason 2 (R68). -/
def twinLost (c : Nat) (s : State) : State :=
  if (ctx? s c).elim true (·.twinLost) then s
  else
    let s1 := modCtx c (fun x => { x with twinLost := true }) (raiseBoth 0x0303 2 c 0 s)
    (s1.ctl.queues.filter (fun kq => kq.2.ctx == c)).foldl (fun s kq => holdQueue kq.1 2 s) s1

/-- The twin acknowledges again, or the context is no longer mirrored. -/
def twinBack (c : Nat) (s : State) : State :=
  let s1 := modCtx c (fun x => { x with twinLost := false }) s
  (s1.ctl.queues.filter (fun kq => kq.2.ctx == c)).foldl (fun s kq => unholdQueue kq.1 2 s) s1

/-- The oldest fetched packet of a queue accepted, where R64 allows it. -/
def acceptOne (q : Nat) (s : State) : State :=
  match queue? s q with
  | none => s
  | some x =>
    match x.fetched with
    | [] => s
    | f :: fs =>
      if !canFetch s x then s
      else if !cqRoom x then holdQueue q 4 s
      else if journalShare s x.ctx < journalUsed s x.ctx + 64 + f.bytes.length then holdQueue q 3 s
      else if (ctx? s x.ctx).elim false (·.twinLost) && !f.twinAck && !(f.status == 0 && fetchedOp f == 0x42) then holdQueue q 2 s
      else if rget s .stepCtxState_mirrored x.ctx = 1 && !f.twinAck && !(f.status == 0 && fetchedOp f == 0x42) then s
      else
        let r := acceptedRec s q x f
        let dst := f.status == 0 && fetchedOp f == 0x05 && pktNat f.bytes 16 2 == q
        let held := x.state == .held && x.heldReason ≠ 1
        setQueue q { x with fetched := if dst then [] else fs, acceptSlot := (x.acceptSlot + f.slots) % 2 ^ 16,
                            nextSeq := (x.nextSeq + 1) % 2 ^ 32, destroying := x.destroying || dst,
                            state := if held then .active else x.state, heldReason := if held then 0 else x.heldReason }
          (setJournal (s.ctl.journal ++ [r]) s)

/-- R64: acceptance of the next packet of a queue. -/
def execPacketAccept (q : Nat) (s : State) : Out := .next (acceptOne q s)

/-- The packets of a queue's fetched list acknowledged up to a sequence number. -/
def ackFetched (x : Queue) (seq : Nat) : Queue :=
  { x with fetched := x.fetched.mapIdx (fun i f => if (x.nextSeq + i) % 2 ^ 32 = seq then { f with twinAck := true } else f) }

/-- R64: the twin's acknowledgement of a record arrives, and the packet may be accepted. -/
def execTwinJournalAck (q : Nat) (seq : BitVec 32) (s : State) : Out :=
  .next (acceptOne q (modQueue q (fun x => ackFetched x seq.toNat) s))

/-! ### Issue (R69 to R71, R80, R237, R251) -/

/-- The step machinery of a context. -/
def stepOf (s : State) (c : Nat) : StepCtx := sget StepCtx.empty s.st c

/-- A change of a context's step machinery. -/
def modStep (c : Nat) (f : StepCtx → StepCtx) (s : State) : State :=
  { s with st := sset StepCtx.empty s.st c (f (stepOf s c)) }

/-- A record's work is done: REPLY_PENDING or COMPLETED (Table 3.5). -/
def workDone (r : Rec) : Bool := r.state == .replyPending || r.state == .completed

/-- Records of the journal accepted before the first one for which `p` holds. -/
def earlier (s : State) (p : Rec → Bool) : List Rec := s.ctl.journal.takeWhile (fun r => !p r)

/-- The record carries the step flag. -/
def stepFlag (r : Rec) : Bool := r.flags.testBit 2

/-- A parameter of a record's packet. -/
def recParam (r : Rec) (i : Nat) : Nat := (opRow r.opcode).elim 0 (fun row => (paramVals row r.bytes).getD i 0)

/-- The order of R237 within the open step. -/
def stepOrderOk (s : State) (r : Rec) : Bool :=
  let x := stepOf s r.ctx
  if !stepFlag r then true
  else if r.opcode = 0x22 then recParam r 1 = 0 || x.mbDone.contains (recParam r 1 - 1)
  else if r.opcode = 0x32 then recParam r 0 = 0 || x.mbDone.contains (recParam r 0 - 1)
  else if r.opcode = 0x40 then x.mbs ≤ 1 && x.mbDone.contains 0 || x.mbDone.contains (x.mbs - 1)
  else true

/-- Graph runs of a context that are admitted and not done. -/
def activeRuns (s : State) (c : Nat) : Nat := ((svals s.gr.runs).filter (fun r => r.ctx == c && !r.done && r.fault.isNone)).length

/-- What R69 to R71, R80, R237 and R251 ask of a record before it may be issued. -/
def issuable (s : State) (r : Rec) : Bool :=
  let before := earlier s (fun x => x == r)
  let mine := before.filter (fun x => x.q == r.q)
  (ctx? s r.ctx).elim false (fun c => !c.held && c.teardown.isNone) &&
  mine.all (fun x => x.state != .accepted) &&
  (!r.flags.testBit 1 || mine.all workDone) &&
  mine.all (fun x => workDone x || x.opcode != 0x24) &&
  (r.opcode != 0x34 || (before.filter (fun x => x.ctx == r.ctx && stepFlag x)).all workDone) &&
  (r.opcode != 0x30 || [0, 5].contains (stepSt s r.ctx)) &&
  (!stepFlag r || (stepSt s r.ctx != 5 && !(stepOf s r.ctx).askCommit && !s.fab.out)) &&
  (stepSt s r.ctx == 0 || stepOrderOk s r)

/-- R46: a graph run is admitted while fewer than four of its context are, in acceptance order among those that could be. -/
def runTurn (s : State) (r : Rec) : Bool :=
  decide (activeRuns s r.ctx < 4) &&
  s.ctl.journal.all (fun x => !(x.ctx == r.ctx && x.opcode == 0x22 && x.state == .issued && x.wait == .none)) &&
  (earlier s (fun x => x == r)).all (fun x => !(x.ctx == r.ctx && x.opcode == 0x22 && x.state == .accepted && issuable s x))

/-- Whether the first ACCEPTED record of a queue may be issued. -/
def mayIssue (s : State) (r : Rec) : Bool := issuable s r && (r.opcode != 0x22 || runTurn s r)

/-- R69: the next accepted command of a queue issues. A step-flagged command with no open step completes with STEP_NOT_OPEN, and one
whose step was superseded with STEP_ABANDONED (R71, R77); a record that issues carries the open step's number. -/
def issueOne (q : Nat) (s : State) : State :=
  match s.ctl.journal.find? (fun r => r.q == q && r.state == .accepted) with
  | none => s
  | some r =>
    if !mayIssue s r || rget s .mcStatus_ready 0 = 0 then s
    else if stepFlag r && stepSt s r.ctx = 0 then finishAt q r.seq stStepNotOpen 0 s
    else
      mapRecs (isRec q r.seq) (fun r => { r with state := .issued, step := if stepFlag r then stepNo s r.ctx else r.step })
        (if stepFlag r && stepSt s r.ctx = 4 then rset .stepCtxState_state r.ctx 1 s else s)

/-- R69: an accepted command issues. -/
def execCommandIssue (q : Nat) (s : State) : Out := .next (issueOne q s)

/-! ### Replies (R59, R66, R69, R75) -/

/-- The phase bit of a sequence number (R59). -/
def phaseOf (seq lg : Nat) : Nat := (seq / 2 ^ lg + 1) % 2

/-- The 32 bytes of a status reply (Table 3.7). -/
def replyBytes (seq lg : Nat) (p : Reply) : List Byte :=
  leBytes 4 seq ++ leBytes 2 p.status ++ leBytes 1 (Nat.min p.replayed 255) ++ leBytes 1 (phaseOf seq lg) ++
  leBytes 8 p.step ++ leBytes 8 p.detail ++ leBytes 8 p.commit

/-- A record is freed (R67). -/
def freeable (s : State) (r : Rec) : Bool :=
  r.state == .completed &&
  (queue? s r.q).elim true (fun x => decide (((x.cqHead + 2 ^ 32 - r.seq) % 2 ^ 32) < 2 ^ 31 && x.cqHead ≠ r.seq)) &&
  (!stepFlag r || decide (r.step ≤ rget s .stepCtxCommitted_step r.ctx) || decide (r.step < stepNo s r.ctx))

/-- Records freed as R67 gives. -/
def freeRecs (s : State) : State := setJournal (s.ctl.journal.filter (fun r => !freeable s r)) s

/-- Records of a queue whose work is not done, other than one of them. -/
def busyQueue (s : State) (q : Nat) (but : Rec → Bool) : Bool :=
  s.ctl.journal.any (fun r => r.q == q && r.state != .completed && !but r)

/-- QUEUE_DESTROY completes once its queue is drained, and a drained queue is removed (R72). -/
def drainQueues (s : State) : State :=
  let s1 := setJournal (s.ctl.journal.map (fun r =>
    match r.wait with
    | .queueDrain q => if r.state = .issued && !busyQueue s q (fun x => x == r) then replyOf s stOk 0 r else r
    | _ => r)) s
  { s1 with ctl := { s1.ctl with queues := s1.ctl.queues.filter (fun kq => !(kq.2.destroying && !busyQueue s1 kq.1 (fun _ => false))) } }

/-- Whether a queue's replies can be written now; those to a ring in host memory wait while the queue is disabled (R405). -/
def canReply (s : State) (x : Queue) : Bool := x.cqMod || (!noDma s (fnOf s x.ctx) && x.state != .disabled)

/-- The oldest undelivered reply of a queue written, its MSI-X raised, its record COMPLETED. -/
def replyOne (q : Nat) (s : State) : State :=
  match queue? s q, s.ctl.journal.find? (fun r => r.q == q && r.state != .completed && r.again.isNone) with
  | some x, some r =>
    match r.state, r.reply with
    | .replyPending, some p =>
      if !canReply s x then s
      else
        let b := replyBytes r.seq x.cqLog2 { p with commit := commitSeq s r.ctx }
        let a := x.cqBase + 32 * (r.seq % 2 ^ x.cqLog2)
        let s1 := if x.cqMod then ctxWrite x.ctx a b s else hostWrite a b s
        let s2 := mapRecs (isRec q r.seq) (fun r => { r with state := .completed, reply := some { p with commit := commitSeq s r.ctx } }) s1
        let s3 := if r.flags.testBit 0 then msix (fnOf s x.ctx) x.msix s2 else s2
        drainQueues (freeRecs s3)
    | _, _ => s
  | _, _ => s

/-- R66: a pending reply is written. -/
def execReplyWrite (q : Nat) (s : State) : Out :=
  let s1 := replyOne q s
  match queue? s1 q with
  | some x =>
    if q = 0 && x.state = .draining && !busyQueue s1 0 (fun _ => false) then
      if x.restart then
        .next (setQueue 0 { x with state := .active, heldReason := 0, restart := false, acceptSlot := 0, nextSeq := 0, cqHead := 0,
                                   tail := 0, fetched := [] } s1)
      else .next (setQueue 0 { x with state := .disabled } s1)
    else .next s1
  | none => .next s1

/-- R59, R67: the host moves the completion head on, which frees reply slots and records. -/
def execQueueDbCqHead (fn q : Nat) (seq : BitVec 32) (s : State) : Out :=
  let s := dropLatch fn s
  if !fnUp s fn then .next s
  else if !ownsQueue s fn q then .next (count1 .hostifFnDbViol_count fn s)
  else .next (unholdQueue q 3 (unholdQueue q 4 (freeRecs (modQueue q (fun x => { x with cqHead := seq.toNat }) s))))

/-! ### The admin queue (R56) -/

/-- The admin queue as the registers of Table 3.1 configure it. -/
def adminQueue (s : State) : Queue :=
  ⟨0, rget s .queueAdminSqBase_addr 0 * 64, rget s .queueAdminCqBase_addr 0 * 32, false, false,
    rget s .queueAdminCfg_sqLog2 0, rget s .queueAdminCfg_cqLog2 0, rget s .queueAdminCfg_msix 0, 0, 0, 0, 0, 0, .active, 0, false,
    false, []⟩

/-- A ring size is in its range (R55). -/
def logOk (n : Nat) : Bool := 6 ≤ n && n ≤ 15

/-- The fields of QUEUE_ADMIN_CFG written (Table 3.1). -/
def adminCfgFields (v : Nat) (s : State) : State :=
  let s1 := rset .queueAdminCfg_msix 0 (bits v 16 16) s
  let s2 := if logOk (bits v 12 4) then rset .queueAdminCfg_cqLog2 0 (bits v 12 4) s1 else s1
  let s3 := if logOk (bits v 8 4) then rset .queueAdminCfg_sqLog2 0 (bits v 8 4) s2 else s2
  rset .queueAdminCfg_enable 0 (bits v 0 1) s3

/-- The admin queue started, stopped or restarted by its enable bit. A restart begins at sequence number 0: replies that a function-level
reset left behind are gone with the old ring. -/
def adminSwitch (on : Bool) (s : State) : State :=
  match queue? s 0 with
  | none => if on then setQueue 0 (adminQueue s) s else s
  | some x =>
    if x.state = .disabled then (if on then setQueue 0 (adminQueue s) (setJournal (s.ctl.journal.filter (fun r => r.q != 0)) s) else s)
    else if x.state = .draining then setQueue 0 { x with restart := on } s
    else if on then s
    else setQueue 0 { x with state := if busyQueue s 0 (fun _ => false) then .draining else .disabled, heldReason := 0,
                             fetched := [] } s

/-- R56: a write of QUEUE_ADMIN_CFG by PF 0 starts, stops or restarts the admin queue. During a module reset it is dropped (R479). -/
def execQueueAdminCfg (fn : Nat) (value : BitVec 32) (s : State) : Out :=
  let s := dropLatch fn s
  if notServed s fn then .next s
  else .next (adminSwitch (value.toNat.testBit 0) (adminCfgFields value.toNat s))

/-! ### The module controllers (R19, R20) -/

/-- R19: a heartbeat reaches F1. -/
def execControllerHeartbeat (s : State) : Out :=
  if s.ctl.f0Fenced then .next s else .next { s with ctl := { s.ctl with missed := 0 } }

/-- R66: the pending replies of a queue rewritten after a reset or a takeover, in order. -/
def rewriteReplies (s : State) : State :=
  (s.ctl.journal.filter (fun r => r.state == .replyPending)).foldl (fun s r => replyOne r.q s) s

/-- R19, R20, R483: F1 takes the role over, rebuilds the queues from the journal and acts on the doorbells that were kept. -/
def execMcTakeover (selfReported : Bool) (s : State) : Out :=
  if rget s .mcStatus_controller 0 = 1 then .next s
  else
    let s1 := rset .mcStatus_controller 0 1 (rflag .mcFlags_takeoverSeen 0 s)
    let s2 := count1 .mcStatus_takeoverCount 0 { s1 with ctl := { s1.ctl with f0Fenced := true, missed := if selfReported then s1.ctl.missed else 5 },
                                                          io := { s1.io with latch := [] } }
    let s3 := trouble .troubleLog_takeover 1 s2
    let s4 := raise0 0x0101 0 (pf 0 1 1 + pf 8 8 (rget s3 .mcStatus_takeoverCount 0)) s3
    .next (keptDoorbells (rewriteReplies (urgent s4)))

end Sys2Proof.Machine
end

