-- ==== Sys2Proof/Machine/StepBase.lean ====
section
/-! DEFINITION. What every part of a step shares: the areas of the step plan, snapshots, the end of a micro-batch, the abort event
(ch. 10). -/

namespace Sys2Proof.Machine

/-! ### Areas (R231, R232) -/

/-- Memory key of a GDDR7 tray address. -/
def areaKey (a : Nat) : Nat := gddrKey (regionOf a) (offsetOf a)

/-- Bytes of GDDR7 copied, poison with them. -/
def areaCopy (dst src n : Nat) (s : State) : State :=
  { s with mem := { s.mem with bytes := scopy s.mem.bytes (areaKey dst) (areaKey src) n,
                               bad := scopy s.mem.bad (areaKey dst / 64) (areaKey src / 64) (n / 64) } }

/-- Bytes of GDDR7 filled with +0. -/
def areaZero (dst n : Nat) (s : State) : State :=
  { s with mem := { s.mem with bytes := sclear s.mem.bytes (areaKey dst) n, bad := sclear s.mem.bad (areaKey dst / 64) (n / 64) } }

/-- The same on every die of a plan's field; 0 names no area. -/
def areasCopy (dst src : List Nat) (n : Nat) (s : State) : State :=
  (dst.zip src).foldl (fun s p => if p.1 = 0 || p.2 = 0 then s else areaCopy p.1 p.2 n s) s

/-- +0 on every die. -/
def areasZero (dst : List Nat) (n : Nat) (s : State) : State := dst.foldl (fun s a => if a = 0 then s else areaZero a n s) s

/-- The bytes of a field's areas, die by die. -/
def areasBytes (s : State) (l : List Nat) (n : Nat) : List Byte :=
  (l.filter (fun a => a != 0)).flatMap (fun a => sgetN 0 s.mem.bytes (areaKey a) n)

/-- The accumulation area of a step: grad_a, or grad_b when rot is 1 (R232). -/
def accumArea (s : State) (c : Nat) (p : Plan) : List Nat := if rget s .stepCtxState_rot c = 0 then p.gradA else p.gradB

/-- The accumulation area filled with +0 (R241). -/
def clearAccum (c : Nat) (s : State) : State :=
  match (stepOf s c).plan with
  | some p => areasZero (accumArea s c p) p.gradBytes s
  | none => s

/-- The verified snapshot taken (R241). -/
def takeSnap (c : Nat) (s : State) : State :=
  match (stepOf s c).plan with
  | some p => modStep c (fun x => { x with snapOk := true }) (areasCopy p.snap (accumArea s c p) p.gradBytes s)
  | none => s

/-- The accumulation area put back to the last snapshot (R242). -/
def backToSnap (c m : Nat) (s : State) : State :=
  if m = 0 then clearAccum c s
  else
    match (stepOf s c).plan with
    | some p => areasCopy (accumArea s c p) p.snap p.gradBytes s
    | none => s

/-- Running digest of the snapshot, die by die in logical order. -/
def snapDigest (s : State) (c : Nat) : Nat :=
  match (stepOf s c).plan with
  | some p => runDigest (areasBytes s p.snap p.gradBytes)
  | none => runDigest []

/-! ### Micro-batches (R237, R238, R241) -/

/-- Micro-batch attempt: earlier runs of m within the step. -/
def mbAttempt (s : State) (c m : Nat) : Nat := sget 0 (stepOf s c).mbRuns m - 1

/-- A run of a micro-batch begins. -/
def beginMb (c m : Nat) (s : State) : State :=
  modStep c (fun x => { x with mbRuns := sset 0 x.mbRuns m (sget 0 x.mbRuns m + 1) }) s

/-- A graph run of micro-batch m of the open step is still to complete. -/
def mbBusy (s : State) (c m : Nat) : Bool :=
  (svals s.gr.runs).any (fun r => r.ctx == c && r.stepFlag && r.mb == m) ||
  s.ctl.journal.any (fun r => r.ctx == c && r.opcode == 0x22 && stepFlag r && openRec r && recParam r 1 == m && !r.bytes.isEmpty)

/-- R241: the waiting MICROBATCH_END of m completes once its runs are complete and no step fault is pending. -/
def mbCheck (c m : Nat) (s : State) : State :=
  if mbBusy s c m || (stepOf s c).mbFault.contains m ||
      !s.ctl.journal.any (fun r => r.ctx == c && r.state == .issued && r.wait == .microbatch m) then s
  else
    let s1 := modStep c (fun x => { x with mbDone := if x.mbDone.contains m then x.mbDone else x.mbDone ++ [m] }) (takeSnap c s)
    let d := snapDigest s1 c
    finishWaits (fun r => r.ctx == c && r.wait == .microbatch m) stOk (fun _ => d) s1

/-- Every waiting MICROBATCH_END of a context. -/
def mbCheckAll (c : Nat) (s : State) : State :=
  (s.ctl.journal.filterMap (fun r => match r.wait with | .microbatch m => if r.ctx = c then some m else none | _ => none)).foldl
    (fun s m => mbCheck c m s) s

/-- The module's own roster index. -/
def ownRoster (s : State) : Nat := rget s .cohortSelf_roster 0

/-! ### Aborts (R249, R262) -/

/-- STEP_REPLAY, and the level reported in STEP_CTX_STATE. -/
def replayEvent (level c mb origin : Nat) (s : State) : State :=
  raiseBoth 0x0A01 9 c
    (pack [(0, 4, level), (8, 8, Config.replayCause s.free), (16, 16, mb), (32, 32, rget s .stepCtxAttempt_attempt c), (64, 14, origin)])
    (rset .stepCtxState_level c level (useFree s))

/-- A step is open: RUN, UPDATE, SEALED or REPLAY. -/
def stepOpenSt (s : State) (c : Nat) : Bool := [1, 2, 3, 4].contains (stepSt s c)

/-! ### Roster and slice -/

/-- A roster entry (Table 12.1). -/
def rosterEntry (s : State) (i : Nat) : Nat := rget s .cohortRoster_entry i

/-- State of a roster entry. -/
def entrySt (e : Nat) : Nat := bits e 28 4

/-- An index is in the current roster. -/
def inRoster (s : State) (i : Nat) : Bool := decide (1 ≤ entrySt (rosterEntry s i)) && decide (entrySt (rosterEntry s i) ≤ 5)

/-- The roster epoch in force. -/
def rosterEpoch (s : State) : Nat := rget s .cohortEpoch_epoch 0

/-- This module holds a roster position. -/
def hasPosition (s : State) : Bool := rget s .cohortSelf_role 0 != 0

/-- Listed roster entries: index and entry. -/
def rosterList (s : State) : List (Nat × Nat) :=
  (s.regs.filter (fun x => x.1 / 2 ^ 20 == Fld.cohortRoster_entry.ctorIdx)).map (fun x => (x.1 % 2 ^ 20, x.2))

/-- The slice of the module's contexts: the lowest-numbered formed slice that lists the module (DESIGN CHOICE, log entry 15). -/
def mySlice (s : State) : Option (Nat × SliceDef) :=
  s.fab.slices.find? (fun x => x.2.formed && x.2.numerics == 2 && decide (x.2.minEpoch ≤ 5) && x.2.members.contains (ownRoster s) && hasPosition s)

/-- Its identifier; 0 where there is none. -/
def sliceId (s : State) : Nat := (mySlice s).elim 0 Prod.fst

/-- An index lies in the slice; where no slice is formed there is nothing to check it against. -/
def inSlice (s : State) (i : Nat) : Bool := (mySlice s).elim true (fun x => x.2.members.contains i)

/-- The primary steward. -/
def primaryOf (s : State) : Nat := ((rosterList s).find? (fun x => x.2.testBit 3)).elim 0x3FFF Prod.fst

/-- The deputy of a cohort. -/
def deputyOf (s : State) (cohort : Nat) : Nat :=
  ((rosterList s).find? (fun x => bits x.2 20 8 == cohort && x.2.testBit 2)).elim 0x3FFF Prod.fst

/-- The steward of a cohort; the primary where the cohort has none of its own (R292). -/
def stewardOf (s : State) (cohort : Nat) : Nat :=
  ((rosterList s).find? (fun x => bits x.2 20 8 == cohort && x.2.testBit 1)).elim (primaryOf s) Prod.fst

/-- The steward of the module's own cohort. -/
def mySteward (s : State) : Nat := stewardOf s (rget s .cohortSelf_cohort 0)

/-- A hard fault reported to the steward (R242, R244): cause 1 a fourth run of a micro-batch, 2 a third update-level fault, 3 a COMMIT that
does not match the seal. -/
def hardFault (c cause : Nat) (s : State) : State := emit (.vc7 "HARD_FAULT" (mySteward s) [ownRoster s, c, stepNo s c, cause]) s

end Sys2Proof.Machine
end

