-- ==== Sys2Proof/Machine/Spares.lean ====
section
/-! DEFINITION. Leap pools and substitution, ageing, correlation sets and the re-plan, the service grade, the Almanac's blocks (ch. 14). -/

namespace Sys2Proof.Machine

/-! ### Where the units are (R29, R333) -/

/-- Key of an island. -/
def islKey (d p : Nat) : Nat := d * 2112 + p

/-- Physical sector of a mesh index. -/
def sectorOf (p : Nat) : Nat := 4 * (p / 48 / 11) + p % 48 / 12

/-- The logical cluster whose home a mesh index is as manufactured; the leap clusters have none (log entry 8). -/
def homeOf (rows p : Nat) : Option Nat :=
  let h := rows / 4
  let i := 12 * (p / 48 % 11) + p % 12
  if i < 16 * h then some (64 * (h * (p / 48 / 11) + i / 16) + 16 * (p % 48 / 12) + i % 16) else none

/-- The logical cluster that a physical cluster serves. -/
def clAt (s : State) (d p : Nat) : Option Nat :=
  match s.sp.clMap.find? (fun x => x.1 / 2048 == d && x.2 == p) with
  | some x => some (x.1 % 2048)
  | none =>
    match homeOf (gridRows s d) p with
    | some cl => if (sget? s.sp.clMap (d * 2048 + cl)).isSome then none else some cl
    | none => none

/-- Physical clusters of a sector that run the Octave shadow of some task copy. -/
def shadowPhys (s : State) (d : Nat) : List Nat :=
  (s.eng.filter (fun x => x.1 / 4096 == d && x.1 % 2 == 1)).map (fun x => x.2.phys)

/-- Idle leap clusters of a die's sector, those that run a shadow last (R156). -/
def idleIn (s : State) (d sec : Nat) : List Nat :=
  let l := (List.range 2112).filter (fun p => sectorOf p == sec && sget 0 s.sp.clState (islKey d p) == 0 && (clAt s d p).isNone)
  let free := l.filter (fun p => !(shadowPhys s d).contains p)
  if free.isEmpty then l else free

/-- Number of idle leap clusters of a sector, from the units that are out of service. -/
def idleCount (s : State) (d sec : Nat) : Nat :=
  Nat.min 4 (132 - 4 * gridRows s d - (s.sp.clState.filter (fun x => x.1 / 2112 == d && sectorOf (x.1 % 2112) == sec)).length)

/-- Physical core of a logical core. -/
def physCore (s : State) (d p c : Nat) : Nat := sget c s.sp.coreMap (islKey d p * 64 + c)

/-- Idle leap cores of a cluster. -/
def idleCores (s : State) (d p : Nat) : List Nat :=
  (List.range 68).filter (fun q =>
    sget 0 s.sp.coreState (islKey d p * 68 + q) == 0 && (List.range 64).all (fun c => physCore s d p c != q))

/-! ### Ageing and the island tables (R342 to R345) -/

/-- The fourth root of the powered hours, and the square root, in units of 2^-32. -/
def root4 (t : Nat) : Nat := Nat.sqrt (Nat.sqrt (t * 2 ^ 128))
def root2 (t : Nat) : Nat := Nat.sqrt (t * 2 ^ 64)

/-- The plan that an island's table was made with. -/
def planOf (s : State) (i : Nat) : IslPlan := sget ⟨0, 0, 0, 0⟩ s.sp.plans i

/-- A plan replaced. -/
def setPlan (i : Nat) (p : IslPlan) (s : State) : State := { s with sp := { s.sp with plans := sset ⟨0, 0, 0, 0⟩ s.sp.plans i p } }

/-- Frequency of a table point. -/
def pointMhz (k : Nat) : Nat := 1200 + 25 * k

/-- R344: the voltage in mV that an island's plan gives a frequency, with the raise kept under R347; none where no step of 0.65 V to
0.90 V holds it. The guardband is 5 % of the cycle. -/
def voltAt (s : State) (i f : Nat) : Option Nat :=
  let p := planOf s i
  match (List.range 51).find? (fun n => decide (((Config.fusedDelay i (650 + 5 * n) : Int) + p.d) * f ≤ 3800000)) with
  | some n => if 650 + 5 * n + p.up ≤ 900 then some (650 + 5 * n + p.up) else none
  | none => none

/-- The highest point for which the table has a voltage without the raise, lowered under R347, and never above what the raise leaves. -/
def ceilIdx (s : State) (i : Nat) : Option Nat :=
  let p := planOf s i
  let base := { s with sp := { s.sp with plans := sset ⟨0, 0, 0, 0⟩ s.sp.plans i { p with up := 0 } } }
  match ((List.range 57).filter (fun k => (voltAt base i (pointMhz k)).isSome)).getLast? with
  | none => none
  | some k => ((List.range 57).filter (fun j => decide (pointMhz j + p.down ≤ pointMhz k) && (voltAt s i (pointMhz j)).isSome)).getLast?

/-- An island's ceiling in MHz. -/
def ceiling (s : State) (i : Nat) : Nat := (ceilIdx s i).elim 1200 pointMhz

/-- R345: the 57 entries of an island's table, in mV; 0 where the table has none. -/
def islTable (s : State) (i : Nat) : List Nat := (List.range 57).map (fun k => (voltAt s i (pointMhz k)).getD 0)

/-- The increase of delay, in 0.25 ps times 2,400, at which 0.90 V no longer holds 2.4 GHz (R343). -/
def deltaLim (i : Nat) : Int := 3800000 - 2400 * (Config.fusedDelay i 900 : Int)

/-- R343: powered years left of an island in tenths, rounded down; none where Y is infinite. -/
def yearsLeft (s : State) (i : Nat) : Option Nat :=
  let num := sget 0 s.sp.fitNum i
  let den := sget 0 s.sp.fitDen i
  if num ≤ 0 then none
  else
    let l := (max (deltaLim i) 0 * den) ^ 4
    let t : Int := l / (2400 * num) ^ 4
    some ((max (t - (s.alm.hours : Int)) 0 * 10 / 8766).toNat)

/-- An active island. -/
def islActive (s : State) (i : Nat) : Bool := (clAt s (i / 2112) (i % 2112)).isSome && sget 0 s.sp.clState i == 0

/-- R343: the module's Y in tenths of a year; none where it is infinite. -/
def moduleYears (s : State) : Option Nat :=
  ((s.sp.fitNum.map Prod.fst).filter (islActive s)).foldl (fun m i =>
    match m, yearsLeft s i with
    | some a, some b => some (Nat.min a b)
    | none, y => y
    | m, none => m) none

/-- One reading of an island's path-delay monitor, converted (R342, R343). -/
def delayReading (i : Nat) (delay : Int) (s : State) : State :=
  let d := delay - Config.delayMade i
  let t := s.alm.hours
  { s with sp := { s.sp with delta := sset 0 s.sp.delta i d,
                             fitNum := sset 0 s.sp.fitNum i (sget 0 s.sp.fitNum i + d * root4 t),
                             fitDen := sset 0 s.sp.fitDen i (sget 0 s.sp.fitDen i + root2 t) } }

/-- R344: the increase a table is planned for: the larger of what was measured and what the trend gives, rounded up. -/
def planDelta (s : State) (i : Nat) : Int :=
  let num := sget 0 s.sp.fitNum i
  let den := sget 0 s.sp.fitDen i
  let trend := if den = 0 then 0 else -((-(num * root4 s.alm.hours)) / (den * 2 ^ 32))
  max (sget 0 s.sp.delta i) trend

/-! ### Grade and pools (R355, R356, Table 14.7) -/

/-- Failed stages of a rail. -/
def failedStages (s : State) (rail : Nat) : Nat := (s.sp.stagesOff.filter (fun x => x / 64 == rail)).length

/-- Dies that present clusters. -/
def liveDies (s : State) : List Nat := (List.range 8).filter (fun d => sget 0 s.sp.dieTrim d != 4)

/-- Fewest idle leap clusters in any sector. -/
def minIdle (s : State) : Nat := (liveDies s).foldl (fun m d => (List.range 16).foldl (fun m x => Nat.min m (idleCount s d x)) m) 4

/-- Leap channels in service. -/
def leapChannels (s : State) : Nat := (s.mem.chanMap.filter (fun x => x.2 == 13)).length

/-- A die is trimmed or fenced. -/
def anyTrim (s : State) : Bool := !(s.sp.dieTrim.isEmpty)

/-- The grade of Table 14.7. -/
def gradeOf (s : State) : Nat :=
  let y := moduleYears s
  if anyTrim s then 2
  else if decide (3 ≤ minIdle s) && decide (leapChannels s ≤ 1) && y.elim true (fun n => decide (50 ≤ n)) &&
      (s.sp.stagesOff.all (fun x => decide (failedStages s (x / 64) ≤ 1))) then 0
  else if decide (1 ≤ minIdle s) && y.elim true (fun n => decide (20 ≤ n)) then 1
  else 2

/-- Links whose leap lane is in service: a lane is named in LINK_PORT_STATE.spared. -/
def leapLanes (s : State) : Nat := ((List.range 32).filter (fun p => rget s .linkPortState_spared p != 15)).length

/-- The ALMANAC_POOL register as it reads. -/
def poolValue (s : State) : Nat :=
  pack [(44, 20, rget s .almanacPool_cores 0), (34, 10, rget s .almanacPool_clusters 0), (31, 3, rget s .almanacPool_minIdle 0),
    (27, 4, rget s .almanacPool_channels 0), (21, 6, rget s .almanacPool_linkLanes 0), (12, 9, rget s .almanacPool_bridgeLanes 0),
    (6, 6, rget s .almanacPool_setAside 0)]

/-- A GRADE record (Table 14.6), which seals. -/
def gradeRecord (s : State) : State :=
  let y := (moduleYears s).elim 65535 (fun n => Nat.min n 65535)
  almSeal 2 (almMod 0xA 0xC (leBytes 1 (rget s .almanacGrade_grade 0) ++ leBytes 1 (rget s .almanacGrade_trimmed 0) ++
    leBytes 1 (rget s .almanacGrade_leaseTerm 0) ++ [0] ++ leBytes 2 y ++ [0, 0] ++ leBytes 8 (poolValue s)) s)

/-- The pools counted and the grade decided (R355); a changed grade is recorded and raised. -/
def refreshPools (s : State) : State :=
  let aside := (svals s.sp.clState).count 1 + (svals s.sp.coreState).count 1
  let s1 := rset .almanacPool_cores 0 ((svals s.sp.coreMap).filter (fun q => decide (64 ≤ q))).length
    (rset .almanacPool_clusters 0 (s.sp.clMap.length)
    (rset .almanacPool_minIdle 0 (minIdle s) (rset .almanacPool_channels 0 (leapChannels s)
    (rset .almanacPool_linkLanes 0 (leapLanes s) (rset .almanacPool_bridgeLanes 0 (s.sp.bridgeLanes.length)
    (rset .almanacPool_setAside 0 (Nat.min 63 aside) s))))))
  let g := gradeOf s1
  let t := b2n (anyTrim s1)
  let s2 := rset .almanacGrade_yTenths 0 ((moduleYears s1).elim 255 (Nat.min 255)) s1
  if g = rget s .almanacGrade_grade 0 && t = rget s .almanacGrade_trimmed 0 then s2
  else
    let s3 := rset .almanacGrade_grade 0 g (rset .almanacGrade_trimmed 0 t s2)
    raise0 0x0E04 0xC (pack [(0, 2, g), (2, 1, t), (8, 8, rget s3 .almanacGrade_leaseTerm 0)]) (gradeRecord s3)

/-! ### Holding and the hard flag (R80, R302, R341) -/

/-- R302: the hard flag, with which the health score is 0. -/
def setHard (s : State) : State := rset .cohortHealth_score 0 0 (rflag .cohortHealth_hard 0 s)

/-- R80: a context is held for isolation. -/
def holdCtx (c : Nat) (s : State) : State :=
  if (ctx? s c).elim true (·.held) then s
  else
    let s1 := modCtx c (fun x => { x with held := true }) s
    raiseC 0x0301 2 c 0 ((s1.ctl.queues.filter (fun kq => kq.2.ctx == c)).foldl (fun s kq => holdQueue kq.1 1 s) s1)

/-- The resources have returned: HOLD_RELEASED. -/
def releaseCtx (c : Nat) (s : State) : State :=
  if (ctx? s c).elim false (·.held) then
    let s1 := modCtx c (fun x => { x with held := false }) s
    raiseC 0x0302 2 c 0 ((s1.ctl.queues.filter (fun kq => kq.2.ctx == c)).foldl (fun s kq => unholdQueue kq.1 1 s) s1)
  else s

/-- Contexts whose partition has a die. -/
def dieCtxs (s : State) (d : Nat) : List Nat :=
  (s.ctl.ctxs.filter (fun x => x.1 != 0 && (sget 0 s.ctl.partitions x.2.part).testBit d)).map Prod.fst

/-! ### Substitution (R335 to R341, Table 14.2) -/

/-- Kinds of unit, in the order of Table 14.2, as cases of the record's kind. -/
def kCore : Nat := 0
def kCluster : Nat := 1
def kRow : Nat := 2
def kChannel : Nat := 3
def kUnit : Nat := 4
def kLinkLane : Nat := 5
def kBridgeLane : Nat := 6
def kStage : Nat := 7

/-- The 16 bytes of a SUBSTITUTION record. The numbers of kinds and reasons are not given (Table 14.6). -/
def substBody (kind die reason outcome logical old new : Nat) : List Byte :=
  leBytes 1 (Config.openCode "kind" kind) ++ leBytes 1 die ++ leBytes 1 (Config.openCode "reason" reason) ++ leBytes 1 outcome ++
  leBytes 4 logical ++ leBytes 2 old ++ leBytes 2 new ++ leBytes 4 0

/-- ALMANAC_RETIRED. -/
def retireEvent (body : List Byte) (s : State) : State :=
  raise0 0x0E03 0xC (leNat body) (count1 .almanacRetireCount_count 0 (rflag .almanacStatus_retireSeen 0 s))

/-- A SUBSTITUTION record and its event; outcome 0 in service, 1 set aside, 2 retired, 3 restored to the pool. -/
def substRec (kind die reason outcome logical old new : Nat) (s : State) : State :=
  let body := substBody kind die reason outcome logical old new
  let s1 := raise0 0x0E01 0xC (leNat body) (almMod 0x6 0xC body s)
  let s2 := if outcome = 2 then retireEvent body s1 else s1
  if kind = kCluster || kind = kChannel || kind = kStage then almSeal 2 s2 else s2

/-- The same, counted as a substitution. -/
def substDone (kind die reason outcome logical old new : Nat) (s : State) : State :=
  refreshPools (count1 .almanacSubstCount_count 0 (substRec kind die reason outcome logical old new s))

/-- Outcome of an old unit that takes a state of `clState`. -/
def outcomeOf (goes : Nat) : Nat := if goes = 1 then 1 else 2

/-- The logical number recorded for a unit that serves none. -/
def noUnit : Nat := 0xFFFFFFFF

/-- Marks and wrong parity of accumulator tiles belong to the old units: those of the cores for which `p` holds go with them. -/
def clearMarks (p : Nat → Bool) (s : State) : State :=
  { s with core := s.core.map (fun x => if p x.1 then (x.1, { x.2 with bad0 := false, bad1 := false, parity := [] }) else x) }

/-- A cluster's state set. -/
def setClState (d p goes : Nat) (s : State) : State := { s with sp := { s.sp with clState := sset 0 s.sp.clState (islKey d p) goes } }

/-- A core's state set: physical core q of physical cluster p. -/
def setCoreState (d p q goes : Nat) (s : State) : State :=
  { s with sp := { s.sp with coreState := sset 0 s.sp.coreState (islKey d p * 68 + q) goes } }

/-- R156: the shadow on a leap cluster that a substitution needs is stopped, without a comparison. -/
def stopShadowOn (d p : Nat) (s : State) : State :=
  match s.eng.find? (fun x => x.1 / 4096 == d && x.1 % 2 == 1 && x.2.phys == p) with
  | none => s
  | some (k, _) =>
    let owner := k - 1
    let eng := (s.eng.filter (fun x => x.1 != k)).map (fun x => if x.1 = owner then (x.1, { x.2 with sampled := false }) else x)
    count1 .cdieVecOctaveSkipCount_count d
      { s with eng := eng, oct := s.oct.filter (fun x => x.1 != owner), core := s.core.filter (fun x => x.1 / 64 != k) }

/-- A cluster substituted now (R337, R338, R341). Contents move with the logical cluster, whose number keys them. -/
def substCluster (d p reason goes : Nat) (s : State) : State :=
  match clAt s d p with
  | none => substRec kCluster d reason (outcomeOf goes) noUnit p p (setClState d p goes s) |> refreshPools
  | some cl =>
    let idle := idleIn s d (sectorOf p)
    if idle.isEmpty then
      setHard ((dieCtxs s d).foldl (fun s c => holdCtx c s) (refreshPools (setClState d p 3 s)))
    else
      let n := idle.getD (Config.leapPick s.free idle.length % idle.length) 0
      let s1 := stopShadowOn d n (useFree s)
      substDone kCluster d reason (outcomeOf goes) cl p n (clearMarks (fun k => k / 128 == d * 2048 + cl)
        (setClState d p goes { s1 with sp := { s1.sp with clMap := sset (clDefault (gridRows s d) cl) s1.sp.clMap (d * 2048 + cl) n } }))

/-- A core substituted now; with no idle leap core its cluster is substituted. -/
def substCore (d p c reason goes : Nat) (s : State) : State :=
  let idle := idleCores s d p
  if idle.isEmpty then substCluster d p reason goes s
  else
    let n := idle.getD (Config.leapPick s.free idle.length % idle.length) 0
    let old := physCore s d p c
    substDone kCore d reason (outcomeOf goes) ((clAt s d p).elim noUnit (fun cl => cl * 64 + c)) old n
      (clearMarks (fun k => (clAt s d p).elim false (fun cl => k == (d * 2048 + cl) * 128 + c)) (setCoreState d p old goes { s with free := s.free + 1, sp := { s.sp with coreMap := sset c s.sp.coreMap (islKey d p * 64 + c) n } }))

/-- A task runs on a physical cluster. -/
def clBusy (s : State) (d p : Nat) : Bool :=
  (clAt s d p).elim false (fun cl => (sget? s.eng ((d * 2048 + cl) * 2)).isSome)

/-- Waiting substitutions whose cluster is free take effect, in order (R31, R335). -/
def applySubs (s : State) : State :=
  s.sp.waiting.foldl (fun s x =>
    if clBusy s x.die x.phys then s
    else
      let s1 := { s with sp := { s.sp with waiting := s.sp.waiting.erase x } }
      if sget 0 s.sp.clState (islKey x.die x.phys) ≠ 0 then s1
      else
      match x.core with
      | none => substCluster x.die x.phys x.reason x.goes s1
      | some c => substCore x.die x.phys c x.reason x.goes s1) s

/-- A substitution asked for. -/
def askSubst (x : Subst) (s : State) : State :=
  if s.sp.waiting.contains x || sget 0 s.sp.clState (islKey x.die x.phys) != 0 then s
  else applySubs { s with sp := { s.sp with waiting := s.sp.waiting ++ [x] } }

/-- A memory row spared (R335, R338): row spares of the cluster; the last one used substitutes the cluster. -/
def spareRow (d p row reason : Nat) (s : State) : State :=
  let used := sget 0 s.sp.rowsUsed (islKey d p)
  if 48 ≤ used then askSubst ⟨d, p, none, 3, 4⟩ s
  else
    let s1 := substDone kRow d reason 0 row row used { s with sp := { s.sp with rowsUsed := sset 0 s.sp.rowsUsed (islKey d p) (used + 1) } }
    if used = 47 then askSubst ⟨d, p, none, 3, 4⟩ s1 else s1

/-! ### Correlation sets and the re-plan (R346, R347) -/

/-- Two numbers within a distance. -/
def within (n : Nat) (a b : Int) : Bool := decide ((a - b).natAbs ≤ n)

/-- R346: two records correlate. -/
def correlates (a b : CorrRec) : Bool :=
  a.cls == b.cls || within 32 a.tj b.tj || (within 10 a.mv b.mv && a.mhz == b.mhz)

/-- The records of an island's set from the last 720 powered hours. -/
def corrSet (s : State) (i : Nat) : List CorrRec :=
  (sget [] s.sp.corr i).filter (fun r => decide (s.alm.hours ≤ r.hour + 720))

/-- A new record's correlated count. -/
def corrCount (s : State) (i : Nat) (r : CorrRec) : Nat := 1 + ((corrSet s i).filter (correlates r)).length

/-- The island's clock stands where it is: a change in progress completes first (R360), and the island is held. -/
def holdIsland (i : Nat) (s : State) : State :=
  let x := sget Isl.parked s.pow.isl i
  let y := match x.chg with
    | some (f, _) => { x with mhz := f, mv := (voltAt s i f).getD x.mv, chg := none, paused := false, droop := false }
    | none => { x with droop := false }
  { s with pow := { s.pow with isl := sset Isl.parked s.pow.isl i y },
           sp := { s.sp with held := if s.sp.held.contains i then s.sp.held else s.sp.held ++ [i] } }

/-- R347: the margin of an island is re-planned, or the island is retired where the ceiling would fall below 2,400 MHz. -/
def replan (i cnt : Nat) (s : State) : State :=
  let p := planOf s i
  let d := i / 2112
  let s1 := setPlan i { p with down := p.down + 100, up := p.up + 10, replans := p.replans + 1 } (holdIsland i s)
  let c := ceiling s1 i
  if c < 2400 || ceiling s i < 2500 then askSubst ⟨d, i % 2112, none, 5, 2⟩ s
  else
    let s2 := count1 .almanacReplanCount_count 0 (rflag .almanacStatus_replanSeen 0
      { s1 with sp := { s1.sp with dets := sset 0 s1.sp.dets i 0 } })
    almSeal 2 (almMod 0x7 0xC (leBytes 1 d ++ [0] ++ leBytes 2 (i % 2112) ++ leBytes 1 (satTo 8 cnt) ++ [0] ++ leBytes 2 c)
      (raise0 0x0E02 0xC (pack [(0, 8, d), (8, 16, i % 2112), (24, 16, c), (40, 8, satTo 8 cnt)]) s2))

/-- A detection enters the set of its island; the third correlated one re-plans the margin, and a correlated one after a re-plan
retires the island. A count of 2 or more is a correlated record. -/
def corrDetect (i : Nat) (r : CorrRec) (s : State) : State :=
  let n := corrCount s i r
  let s1 := { s with sp := { s.sp with corr := sset [] s.sp.corr i (corrSet s i ++ [r]) } }
  if 1 ≤ (planOf s i).replans then (if 2 ≤ n then askSubst ⟨i / 2112, i % 2112, none, 4, 2⟩ s1 else s1)
  else if 3 ≤ n then replan i n s1
  else s1

/-- A detection counted on its island; the number since the last re-plan, for the record. -/
def bumpDets (i : Nat) (s : State) : State := { s with sp := { s.sp with dets := sset 0 s.sp.dets i (sget 0 s.sp.dets i + 1) } }

/-- A number entered in the 24-hour counts of R302. -/
def healthLog (kind n : Nat) (s : State) : State :=
  { s with sp := { s.sp with health := s.sp.health.filter (fun x => decide (s.alm.hours < x.1 + 24)) ++ [(s.alm.hours, kind, n)] } }

/-- R347: the hold ends, and the island resumes at the lower of its previous point and the new ceiling. -/
def execReplanHoldEnd (die cluster : Nat) (s : State) : Out :=
  .next (
    let i := islKey die cluster
    if !s.sp.held.contains i then s
    else
      let x := sget Isl.parked s.pow.isl i
      let f := Nat.min x.mhz (ceiling s i)
      { s with sp := { s.sp with held := s.sp.held.erase i },
               pow := { s.pow with isl := sset Isl.parked s.pow.isl i { x with mhz := f, mv := (voltAt s i f).getD x.mv } } })

/-! ### Tests, readings and stages -/

/-- R336: the test of a unit that is set aside ends. A cluster or core that passes returns to its pool; one that fails is retired. -/
def execSetAsideTest (die cluster : Nat) (core : Option Nat) (pass : Bool) (s : State) : Out :=
  .next (match core with
    | none =>
      if sget 0 s.sp.clState (islKey die cluster) ≠ 1 then s
      else if pass then refreshPools (substRec kCluster die 8 3 noUnit cluster cluster (setClState die cluster 0 s))
      else refreshPools (substRec kCluster die 6 2 noUnit cluster cluster (setClState die cluster 2 s))
    | some c =>
      if sget 0 s.sp.coreState (islKey die cluster * 68 + c) ≠ 1 || 68 ≤ c || clBusy s die cluster then s
      else if pass then refreshPools (substRec kCore die 8 3 noUnit c c (setCoreState die cluster c 0 s))
      else refreshPools (substRec kCore die 6 2 noUnit c c (setCoreState die cluster c 2 s)))

/-- R342: a reading of an island's path-delay monitor, converted to the reference conditions. -/
def execPathDelayReading (die cluster : Nat) (delay : Int) (s : State) : Out :=
  .next (if die < 8 && cluster < 2112 then refreshPools (delayReading (islKey die cluster) delay s) else s)

/-- R335, R340: a power stage is fenced, recorded, and the record sealed at once. -/
def execPowerStageFault (rail stage : Nat) (s : State) : Out :=
  .next (if s.sp.stagesOff.contains (rail * 64 + stage) || 64 ≤ stage then s
    else
      let s1 := substDone kStage 0xFF 7 2 rail stage stage { s with sp := { s.sp with stagesOff := s.sp.stagesOff ++ [rail * 64 + stage] } }
      if decide (2 < failedStages s1 rail) then setHard s1 else s1)

/-! ### Blocks (R348 to R350, R353, R354) -/

/-- The 32-byte header and the body of a record, padded to a multiple of 8 bytes. -/
def recWire (r : AlmRec) : List Byte :=
  leBytes 2 r.typ ++ leBytes 2 (recBytes r) ++ leBytes 2 r.src ++ [0, 0] ++ leBytes 8 r.lcount ++ leBytes 8 r.step ++ leBytes 8 r.commit ++
  r.body ++ List.replicate (recBytes r - 32 - r.body.length) 0

/-- A sealed block as it reads; block 0 was written at manufacture. -/
def blockBytes (s : State) (n : Nat) : List Byte :=
  if n = 0 then (List.range 65536).map Config.block0Byte else sget [] s.alm.blocks n

/-- Bytes padded to a length. -/
def padTo (n : Nat) (b : Byte) (l : List Byte) : List Byte := l ++ List.replicate (n - l.length) b

/-- The hash of the Almanac's public keys (R349). -/
def almKeyHash : List Byte := signerHash "almanac"

/-- Bytes 0x0000 to 0xF27F of a block (Table 14.4). -/
def blockHead (flags seq : Nat) (prev : List Byte) (l : List AlmRec) : List Byte :=
  let recs := l.flatMap recWire
  leBytes 4 0x4B4C4241 ++ leBytes 2 1 ++ leBytes 2 flags ++ leBytes 8 seq ++ prev ++ almKeyHash ++ leBytes 4 recs.length ++
  List.replicate 44 0 ++ padTo 61952 0xFF recs

/-- A block signed (R350). -/
def blockSigned (head : List Byte) : List Byte :=
  padTo 65536 0 (head ++ padTo 64 0 (signEd "almanac" head) ++ padTo 3309 0 (signMl "almanac" "Almanac block v1" head))

/-- What the records of a sealed block say to the next start: the last record where it is an EMBER record, the Ember result, the firmware
version of the last START record (R419). -/
def sealedFacts (l : List AlmRec) (a : Alm) : Alm :=
  let ember := fun (r : AlmRec) => (pktNat r.body 0 1, pktNat r.body 1 1)
  { a with lastEmber := match l.getLast? with
             | some r => if r.typ = 9 then some (ember r) else none
             | none => a.lastEmber,
           emberCode := (l.reverse.find? (fun r => r.typ == 9)).elim a.emberCode (fun r => (ember r).1),
           lastFw := (l.reverse.find? (fun r => r.typ == 1)).elim a.lastFw (fun r => pktNat r.body 8 8) }

/-- A block of records signed, programmed and chained as block n. -/
def programBlock (n : Nat) (l : List AlmRec) (tail : Bool) (flags : Nat) (s : State) : State :=
  let fl := pack [(0, 1, b2n tail), (1, 1, flags / 2), (2, 1, b2n s.alm.skipped)]
  let b := blockSigned (blockHead fl n (sha256 (blockBytes s (n - 1))) l)
  let s1 := rset .almanacSeq_seq 0 n { s with alm := sealedFacts l { s.alm with blocks := sput s.alm.blocks n b, skipped := false, sealing := none,
                                                                                 saves := sput s.alm.saves n (s.alm.taking.getD AlmSnap.made), taking := none } }
  if s1.alm.sealNext then almSeal 2 { s1 with alm := { s1.alm with sealNext := false } } else s1

/-- R348: one more block position is used; with the last outside the tail ALMANAC_FULL is raised. -/
def usePosition (programmed : Bool) (s : State) : State :=
  let used := rget s .almanacUsed_blocks 0 + 1
  let s1 := rset .almanacUsed_blocks 0 used s
  if 3840 ≤ used && !s.alm.fullRaised then
    raise0 0x0E05 0xC (rget s .almanacSeq_seq 0 + b2n programmed) (rset .almanacStatus_tail 0 1 { s1 with alm := { s1.alm with fullRaised := true } })
  else s1

/-- R348, R353: the block that is being sealed is programmed, or its position fails and is skipped. With no position left nothing is sealed. -/
def blockDone (programmed : Bool) (s : State) : State :=
  match s.alm.sealing with
  | none => s
  | some (l, flags) =>
    let used := rget s .almanacUsed_blocks 0
    if 4096 ≤ used then { s with alm := { s.alm with sealing := none, sealNext := false, taking := none } }
    else
      let s1 := usePosition programmed s
      if !programmed then rflag .almanacStatus_skipSeen 0 { s1 with alm := { s1.alm with skipped := true } }
      else programBlock (rget s .almanacSeq_seq 0 + 1) l (decide (3840 ≤ used)) flags s1

/-- R353: a block is sealed. -/
def execBlockSealed (programmed : Bool) (s : State) : Out := .next (blockDone programmed s)

/-- The blocks that are being sealed or are to be sealed next are programmed, at most `n`. -/
def sealRun : Nat → State → State
  | 0, s => s
  | n + 1, s => if s.alm.sealing.isSome then sealRun n (blockDone true s) else s

/-- Everything staged is sealed, as a start and a shutdown do before they go on. -/
def sealAll (s : State) : State :=
  let n := s.alm.staged.length + 2
  let s1 := sealRun n s
  if s1.alm.staged.isEmpty then s1 else sealRun n (almSeal 2 s1)

/-- R353: a write of one to ALMANAC_CTL.flush by context 0 seals the open block. -/
def execAlmanacCtl (fn : Nat) (value : BitVec 32) (s : State) : Out :=
  let s := dropLatch fn s
  .next (if !notServed s fn && value.toNat.testBit 0 && !s.alm.staged.isEmpty then almSeal 2 s else s)

/-- R354: ALMANAC_READ copies sealed blocks to the context-0 window; its detail is their number. -/
def execAlmanacRead (h : CmdRef) (first cnt : BitVec 32) (dest : Word64) (s : State) : Out :=
  .next (runPriv 0x70 h (fun s =>
    let last := rget s .almanacSeq_seq 0
    let n := Nat.min cnt.toNat (last + 1 - first.toNat)
    finish h stOk n ((List.range n).foldl (fun s i => ctxWrite 0 (dest.toNat + 65536 * i) (blockBytes s (first.toNat + i)) s) s)) s)

/-- A note's refurbishment conditions (R358). -/
def noteOk (s : State) (b : List Byte) : Bool :=
  let m := b.take 512
  Config.edVerify Config.serviceEd m ((b.drop 0x200).take 64) &&
  Config.mlVerify Config.serviceMl (ascii "Almanac note v1") m ((b.drop 0x240).take 3309) &&
  (b.drop 0x28).take 32 == (List.range 32).map Config.serviceHash &&
  pktNat b 8 8 == serialDigest && decide (rget s .almanacSeq_seq 0 ≤ pktNat b 0x10 8 + 64) &&
  decide (pktNat b 0x10 8 ≤ rget s .almanacSeq_seq 0)

/-- R358: ALMANAC_NOTE appends a service note, or a refurbishment note that meets the conditions. -/
def execAlmanacNote (h : CmdRef) (record : Word64) (s : State) : Out :=
  .next (runPriv 0x74 h (fun s =>
    let r := cmdRead h.ctx record.toNat 4096 s
    let b := r.1.bytes
    let kind := pktNat b 6 1
    if pktNat b 0 4 ≠ 0x45544F4E || pktNat b 4 2 ≠ 1 || !(kind == 1 || (kind == 2 && noteOk r.2 b)) then badParam h 0x50 r.2
    else
      let s1 := if kind = 2 then { r.2 with alm := { r.2.alm with refurb := true, note := (b.drop 0x18).take 16 } } else r.2
      finishOk h (almSeal 2 (almMod 0xB 0xC b s1))) s)

/-! ### POWER and MARGIN records (R352) -/

/-- A MARGIN record of a die. -/
def marginRecord (kind d : Nat) (s : State) : State :=
  almMod 0x8 0xC (leBytes 1 d ++ leBytes 1 (Config.openCode "margin" kind) ++ List.replicate 6 0 ++
    (List.range 2112).flatMap (fun p =>
      let i := islKey d p
      let st := sget 0 s.sp.clState i
      let state := if st = 1 then 2 else if st ≠ 0 then 3 else if (clAt s d p).isSome then 0 else 1
      leBytes 2 (BitVec.ofInt 16 (sget 0 s.sp.delta i)).toNat ++ leBytes 1 ((ceilIdx s i).getD 0) ++ leBytes 1 state)) s

/-- R352: the hourly POWER record, from the meters' seconds and energy, and every 168 powered hours the MARGIN records. -/
def execPowerRecord (bands : List Nat) (s : State) : Out :=
  .next (
    let s1 := { s with alm := { s.alm with hours := s.alm.hours + 1 } }
    let s2 := almMod 0x2 0xC ((List.range 9).flatMap (fun i => leBytes 4 (satTo 32 (bands.getD i 0))) ++
      leBytes 8 (satTo 64 (bands.getD 9 0))) s1
    if s2.alm.hours % 168 = 0 then (List.range 8).foldl (fun s d => marginRecord 0 d s) s2 else s2)

end Sys2Proof.Machine
end

