-- ==== Sys2Proof/Machine/Clocks.lean ====
section
/-! DEFINITION. Island clocks: frequency changes, presets of stages, the learned energy of task classes, the energy charged to contexts
(R367, R373 to R377, R385). -/

namespace Sys2Proof.Machine

/-! ### Islands -/

/-- An island's clock. -/
def islOf (s : State) (i : Nat) : Isl := sget Isl.parked s.pow.isl i

/-- An island's clock replaced. -/
def setIsl (i : Nat) (x : Isl) (s : State) : State := { s with pow := { s.pow with isl := sset Isl.parked s.pow.isl i x } }

/-- The thermal limit of an island, never above its ceiling. -/
def thermLimit (s : State) (i : Nat) : Nat := Nat.min (islOf s i).thermal (ceiling s i)

/-- The voltage at which an island runs a point: that of its table, else the highest step. -/
def islVolt (s : State) (i f : Nat) : Nat := (voltAt s i f).getD 900

/-- The highest table point of an island at or below a frequency; 1,200 MHz where there is none. -/
def pointBelow (s : State) (i f : Nat) : Nat :=
  (((List.range 57).filter (fun k => decide (pointMhz k ≤ f) && (voltAt s i (pointMhz k)).isSome)).getLast?).elim 1200 pointMhz

/-- The preset of the stage that an island runs; 1,200 with no task. -/
def presetOf (s : State) (i : Nat) : Nat :=
  match s.eng.find? (fun x => x.1 / 4096 == i / 2112 && x.2.phys == i % 2112) with
  | none => 1200
  | some (_, x) => ((svals s.pow.stages).find? (fun g => g.run == x.run && g.task == x.task)).elim 1200 (·.preset)

/-- f_set of R367, with the points that R377 has taken off. -/
def targetOf (s : State) (i : Nat) : Nat :=
  Nat.max 1200 (pointBelow s i (Nat.min (presetOf s i - 25 * (islOf s i).low) (Nat.min (ceiling s i) (thermLimit s i))))

/-- R376: a new target begins a change, or is taken up after the one in progress. A held island keeps its point. -/
def aim (i : Nat) (s : State) : State :=
  let x := islOf s i
  let f := targetOf s i
  if s.sp.held.contains i then s
  else
    match x.chg with
    | some (g, _) => setIsl i { x with next := if g = f then none else some f } s
    | none => if x.mhz = f then s else setIsl i { x with chg := some (f, false) } s

/-- R376: one part of a change completes: to raise, the voltage and then the oscillator; to lower, the oscillator and then the voltage. -/
def changePart (i : Nat) (s : State) : State :=
  let x := islOf s i
  match x.chg with
  | none => s
  | some (f, second) =>
    if x.paused || s.sp.held.contains i then s
    else
      let up := decide (x.mhz < f) || (second && x.mhz != f)
      if !second then
        setIsl i { x with chg := some (f, true), mv := if up then islVolt s i f else x.mv, mhz := if up then x.mhz else f } s
      else
        let y := { x with chg := none, mhz := f, mv := islVolt s i f, next := none }
        match x.next with
        | some g => setIsl i (if g = f then y else { y with chg := some (g, false) }) s
        | none => setIsl i y s

/-- R376: a part of an island's frequency change completes. -/
def execFrequencyChange (die cluster : Nat) (s : State) : Out := .next (changePart (islKey die cluster) s)

/-- R375, R376: a droop; a change in progress pauses where it stands. During a hold nothing happens (R360). -/
def execDroop (die cluster : Nat) (s : State) : Out :=
  .next (
    let i := islKey die cluster
    let x := islOf s i
    if s.sp.held.contains i || x.droop || 8 ≤ die || 2112 ≤ cluster then s
    else
      let s1 := setIsl i { x with droop := true, paused := x.chg.isSome } (count1 .pwrDieDroopCount_count die s)
      if x.chg.isSome then rflag .pwrStatus_pauseSeen 0 (count1 .pwrDiePauseCount_count die s1) else s1)

/-- R375: the droop clears, and a paused change resumes. -/
def execDroopClear (die cluster : Nat) (s : State) : Out :=
  .next (
    let i := islKey die cluster
    let x := islOf s i
    if s.sp.held.contains i || !x.droop then s else setIsl i { x with droop := false, paused := false } s)

/-- R377: an island's stage is lowered by one point on it, or raised back. -/
def execDroopLowering (die cluster : Nat) (up : Bool) (s : State) : Out :=
  .next (
    let i := islKey die cluster
    let x := islOf s i
    if 8 ≤ die || 2112 ≤ cluster then s
    else aim i (setIsl i { x with low := if up then x.low - 1 else x.low + 1 } s))

/-! ### Stages (R373, R374) -/

/-- Islands of a stage on a die, shadows with them. -/
def stageIsls (s : State) (d : Nat) (g : Stage) : List Nat :=
  (s.eng.filter (fun x => x.1 / 4096 == d && x.2.run == g.run && x.2.task == g.task)).map (fun x => islKey d x.2.phys)

/-- e_c of a class on a die. -/
def classE (s : State) (d c : Nat) : Nat := rget s .pwrClassEnergy_e (256 * d + c % 256)

/-- Sum of v^2 over the islands of a stage at a point, v in mV. -/
def sumV2 (s : State) (l : List Nat) (f : Nat) : Nat := (l.map (fun i => islVolt s i f * islVolt s i f)).sum

/-- Predicted power of a stage at a point, in units of 1 W / 1.024e13. -/
def stagePower (s : State) (d : Nat) (g : Stage) (f : Nat) : Nat := classE s d g.cls * sumV2 s (stageIsls s d g) f * f

/-- Running stages of a die in start order. -/
def dieStages (s : State) (d : Nat) : List (Nat × Stage) := s.pow.stages.filter (fun x => x.1 % 8 == d)

/-- R374: the best point of a stage on a die; 1,200 MHz where none fits. -/
def bestPoint (s : State) (d key : Nat) (g : Stage) : Nat :=
  let isls := stageIsls s d g
  let top := isls.foldl (fun m i => Nat.min m (Nat.min (ceiling s i) (thermLimit s i))) 2600
  let others := (((dieStages s d).filter (fun x => x.1 != key)).map (fun x => stagePower s d x.2 x.2.preset)).sum
  let room : Int := (95 * (rget s .pwrDieCap_capW d : Int) - 100 * ((sget 0 s.pow.base d : Nat) : Int)) * 102400000000 - others
  (((List.range 57).filter (fun k => decide (pointMhz k ≤ top) && isls.all (fun i => (voltAt s i (pointMhz k)).isSome) &&
    decide ((stagePower s d g (pointMhz k) : Int) ≤ room))).getLast?).elim 1200 pointMhz

/-- A stage set to its best point, and its islands with it. -/
def presetStage (d key : Nat) (s : State) : State :=
  match sget? s.pow.stages key with
  | none => s
  | some g =>
    let s1 := { s with pow := { s.pow with stages := sput s.pow.stages key { g with preset := bestPoint s d key g } } }
    (stageIsls s1 d g).foldl (fun s i => aim i s) s1

/-- R374: the running stages of a die are evaluated again in start order. -/
def evalDie (d : Nat) (s : State) : State := (dieStages s d).foldl (fun s x => presetStage d x.1 s) s

/-- R374: a stage starts on every die on which its task has clusters. -/
def stageStart (n t cls : Nat) (s : State) : State :=
  let ds := (List.range 8).filter (fun d => s.eng.any (fun x => x.1 / 4096 == d && x.2.run == n && x.2.task == t))
  let k := s.pow.nextStage
  ds.foldl (fun s d => presetStage d (k * 8 + d) { s with pow := { s.pow with stages := sput s.pow.stages (k * 8 + d) ⟨n, t, cls, 1200, 0, 0⟩ } })
    { s with pow := { s.pow with nextStage := k + 1 } }

/-- R373: the entry of a class learns from a stage that completed: an eighth of the difference, rounded toward zero. -/
def learn (d : Nat) (g : Stage) (s : State) : State :=
  if g.cycles = 0 then s
  else
    let e : Int := classE s d g.cls
    rset .pwrClassEnergy_e (256 * d + g.cls % 256) (satTo 16 (e + ((g.energy / (640000 * g.cycles) : Nat) - e).tdiv 8).toNat) s

/-- A task that completed: its stages end and are learned from. -/
def stageDone (n t : Nat) (s : State) : State :=
  let mine := s.pow.stages.filter (fun x => x.2.run == n && x.2.task == t)
  mine.foldl (fun s x => learn (x.1 % 8) x.2 s) { s with pow := { s.pow with stages := s.pow.stages.filter (fun x => !(x.2.run == n && x.2.task == t)) } }

/-- Stages without an engine on their die are gone; the islands given go to their new targets, and the dies are evaluated again. -/
def cleanStages (isls : List Nat) (s : State) : State :=
  let live := fun (x : Nat × Stage) => s.eng.any (fun y => y.1 / 4096 == x.1 % 8 && y.2.run == x.2.run && y.2.task == x.2.task)
  let s1 := isls.foldl (fun s i => aim i s) { s with pow := { s.pow with stages := s.pow.stages.filter live } }
  ((isls.map (fun i => i / 2112)).eraseDups).foldl (fun s d => evalDie d s) s1

/-! ### Energy (R373, R385) -/

/-- Cluster-cycles of a stage in one split. -/
def cyclesOf (cycles : List (Nat × Nat)) (g : Stage) : Nat :=
  ((cycles.filter (fun c => c.1 == g.run * 65536 + g.task)).map Prod.snd).sum

/-- Weight of a stage in a split: cluster-cycles, e_c and the mean of v^2 over its islands. -/
def splitWeight (s : State) (d : Nat) (cycles : List (Nat × Nat)) (g : Stage) : Nat :=
  let l := stageIsls s d g
  cyclesOf cycles g * classE s d g.cls * (sumV2 s l g.preset / Nat.max 1 l.length)

/-- R373: the rail energy of a die above its base, in 1/16 pJ, split among its running stages; each context is charged by the model (R385). -/
def execEnergySplit (die energy : Nat) (cycles : List (Nat × Nat)) (s : State) : Out :=
  .next (
    let l := dieStages s die
    let total := (l.map (fun x => splitWeight s die cycles x.2)).sum
    l.foldl (fun s x =>
      let g := x.2
      let w := splitWeight s die cycles g
      let isls := stageIsls s die g
      let v2 := Nat.max 1 (sumV2 s isls g.preset / Nat.max 1 isls.length)
      let share := if total = 0 then 0 else energy * w / total
      let g1 : Stage := { g with energy := g.energy + share * 640000 * 640000 / v2, cycles := g.cycles + cyclesOf cycles g }
      let s1 := { s with pow := { s.pow with stages := sput s.pow.stages x.1 g1 } }
      charge ((sget? s.gr.runs g.run).elim 0xFFFF (·.ctx)) w s1) s)

/-! ### Budget (R364, R368, R370) -/

/-- The effective peak in W. -/
def effPeak (s : State) : Nat := Nat.min (rget s .pwrPeakLimit_peakW 0) (rget s .pwrTray_trayPeakW 0)

/-- The warning clamp is in force, for the supply or for THROTTLE_N. -/
def clamped (s : State) : Bool := s.pow.warn || s.pow.throttle

/-- The module budget B in W. -/
def budgetOf (s : State) : Int :=
  let b := min ((rget s .pwrTray_grantW 0 : Int) + s.pow.share) (effPeak s)
  if clamped s then min b (min (effPeak s) (rget s .pwrThrottle_levelW 0) : Nat) else b

/-- PWR_BUDGET.budget_w follows its inputs. -/
def setBudget (s : State) : State := rset .pwrBudget_budgetW 0 (budgetOf s).toNat s

end Sys2Proof.Machine
end

