-- ==== Sys2Proof/Machine/Flags.lean ====
section
/-! DEFINITION. Number formats, exact values, rounding, overflow and the exception flags (ch. 4; R136, R141 to R149). -/

namespace Sys2Proof.Machine

/-- The canonical zero of a wide accumulator. -/
def FVal.zero : FVal := .fin false 0 0

/-! ### Exception flags (Table 6.2) -/

/-- Invalid. -/
def fNV : BitVec 5 := 1#5
/-- Divide by zero. -/
def fDZ : BitVec 5 := 2#5
/-- Overflow. -/
def fOF : BitVec 5 := 4#5
/-- Underflow. -/
def fUF : BitVec 5 := 8#5
/-- Inexact. -/
def fNX : BitVec 5 := 16#5

/-- A result and the flags it raises. -/
abbrev Fl (α : Type) := α × BitVec 5

/-! ### Formats (Tables 4.1, 4.2, 5.3; R143) -/

/-- What kind of special encodings a format has. -/
inductive Special where
  | ieee | e4m3 | none | int
deriving DecidableEq, Repr

/-- A format: bits, fraction bits, bias, special encodings, canonical NaN, emax of R95, exponent of the fixed factor of R84. -/
structure Fmt where
  bits : Nat
  frac : Nat
  bias : Nat
  special : Special
  nan : Nat
  emax : Nat
  fixed : Nat
deriving DecidableEq, Repr

/-- The formats by code (Table 5.3, R143). -/
def fmtOf : Nat → Option Fmt
  | 0x0 => some ⟨4, 1, 1, .none, 0, 2, 0⟩
  | 0x1 => some ⟨4, 0, 0, .int, 0, 0, 2⟩
  | 0x2 => some ⟨6, 3, 1, .none, 0, 2, 0⟩
  | 0x3 => some ⟨6, 2, 3, .none, 0, 4, 0⟩
  | 0x4 => some ⟨8, 3, 7, .e4m3, 0x7F, 8, 0⟩
  | 0x5 => some ⟨8, 2, 15, .ieee, 0x7E, 15, 0⟩
  | 0x6 => some ⟨8, 0, 0, .int, 0, 0, 6⟩
  | 0x7 => some ⟨16, 7, 127, .ieee, 0x7FC0, 127, 0⟩
  | 0x8 => some ⟨16, 10, 15, .ieee, 0x7E00, 15, 0⟩
  | 0x9 => some ⟨32, 23, 127, .ieee, 0x7FC00000, 127, 0⟩
  | 0xA => some ⟨32, 0, 0, .int, 0, 0, 0⟩
  | _ => none

/-- FP32. -/
def fp32 : Fmt := ⟨32, 23, 127, .ieee, 0x7FC00000, 127, 0⟩
/-- BF16. -/
def bf16 : Fmt := ⟨16, 7, 127, .ieee, 0x7FC0, 127, 0⟩
/-- FP16. -/
def fp16 : Fmt := ⟨16, 10, 15, .ieee, 0x7E00, 15, 0⟩

/-- Exponent bits of a floating-point format. -/
def Fmt.ebits (f : Fmt) : Nat := f.bits - 1 - f.frac

/-- Weight of the last bit of a subnormal. -/
def Fmt.minE (f : Fmt) : Int := if f.special = .int then 0 else 1 - (f.bias : Int) - f.frac

/-- The largest finite magnitude as (significand, exponent). -/
def Fmt.maxFin (f : Fmt) : Nat × Int :=
  let top := 2 ^ f.ebits - 1
  match f.special with
  | .ieee => (2 ^ (f.frac + 1) - 1, (top : Int) - 1 - f.bias - f.frac)
  | .e4m3 => (14, 5)
  | .none => (2 ^ (f.frac + 1) - 1, (top : Int) - f.bias - f.frac)
  | .int => (2 ^ (f.bits - 1) - 1, 0)

/-- A two's-complement value as an exact one. -/
def intVal (z : Int) : FVal := .fin (decide (z < 0)) z.natAbs 0

/-- R82, R94: the value that an element decodes to, without scale. -/
def decodeFmt (f : Fmt) (v : Nat) : FVal :=
  let v := v % 2 ^ f.bits
  match f.special with
  | .int => intVal (BitVec.ofNat f.bits v).toInt
  | _ =>
    let neg := v.testBit (f.bits - 1)
    let e := bits v f.frac f.ebits
    let m := v % 2 ^ f.frac
    if f.special = .ieee && e == 2 ^ f.ebits - 1 then
      if m = 0 then .inf neg else .nan (!m.testBit (f.frac - 1))
    else if f.special = .e4m3 && e == 15 && m == 7 then .nan false
    else if e = 0 then .fin neg m f.minE
    else .fin neg (2 ^ f.frac + m) ((e : Int) - f.bias - f.frac)

/-! ### Exact arithmetic -/

/-- Number of significant bits. -/
def nbits (m : Nat) : Nat := if m = 0 then 0 else Nat.log2 m + 1

/-- An exact value as a signed integer at exponent `e0`, for `e0` at most its own exponent. -/
def atExp (neg : Bool) (m : Nat) (e e0 : Int) : Int :=
  let v : Int := (m * 2 ^ (e - e0).toNat : Nat)
  if neg then -v else v

/-- An exact sum; both zeros keep a common sign, an exact cancellation is +0. -/
def addX (a b : FVal) : FVal :=
  match a, b with
  | .nan x, .nan y => .nan (x || y)
  | .nan x, _ => .nan x
  | _, .nan y => .nan y
  | .inf x, .inf y => if x = y then .inf x else .nan true
  | .inf x, _ => .inf x
  | _, .inf y => .inf y
  | .fin n1 m1 e1, .fin n2 m2 e2 =>
    if m1 = 0 && m2 = 0 then .fin (n1 && n2) 0 0
    else
      let e0 := min e1 e2
      let z := atExp n1 m1 e1 e0 + atExp n2 m2 e2 e0
      .fin (decide (z < 0)) z.natAbs e0

/-- An exact product. -/
def mulX (a b : FVal) : FVal :=
  match a, b with
  | .nan x, .nan y => .nan (x || y)
  | .nan x, _ => .nan x
  | _, .nan y => .nan y
  | .inf x, .inf y => .inf (x != y)
  | .inf x, .fin y m _ => if m = 0 then .nan true else .inf (x != y)
  | .fin x m _, .inf y => if m = 0 then .nan true else .inf (x != y)
  | .fin n1 m1 e1, .fin n2 m2 e2 => .fin (n1 != n2) (m1 * m2) (e1 + e2)

/-- The negated value. -/
def negX : FVal → FVal
  | .nan x => .nan x
  | .inf n => .inf (!n)
  | .fin n m e => .fin (!n) m e

/-- A NaN operand. -/
def isNaN : FVal → Bool
  | .nan _ => true
  | _ => false

/-- A signalling NaN (as an operand). -/
def isSig : FVal → Bool
  | .nan x => x
  | _ => false

/-- A NaN read as quiet (R94). -/
def quiet : FVal → FVal
  | .nan _ => .nan false
  | x => x

/-- The order of two values that are no NaN: less, with -0 equal to +0. -/
def ltX (a b : FVal) : Bool :=
  match a, b with
  | .nan _, _ => false
  | _, .nan _ => false
  | .inf x, .inf y => x && !y
  | .inf x, _ => x
  | _, .inf y => !y
  | .fin n1 m1 e1, .fin n2 m2 e2 => let e0 := min e1 e2; decide (atExp n1 m1 e1 e0 < atExp n2 m2 e2 e0)

/-- Equal values, -0 and +0 among them; a NaN equals nothing. -/
def eqX (a b : FVal) : Bool := !isNaN a && !isNaN b && !ltX a b && !ltX b a

/-- Sign of a value. -/
def signX : FVal → Bool
  | .nan _ => false
  | .inf n => n
  | .fin n _ _ => n

/-- Whether a value is -0. -/
def FVal.isNegZero : FVal → Bool
  | .fin true 0 _ => true
  | _ => false

/-- The order of MAX and MIN, in which -0 ranks below +0 (Table 6.6, R139). -/
def ltZ (a b : FVal) : Bool := ltX a b || (eqX a b && signX a && !signX b)

/-! ### Rounding (R91, R93, R146, R147) -/

/-- Rounding directions: to nearest even, toward zero, stochastic with 16 random bits. -/
inductive Rnd where
  | near
  | zero
  | stoch (r : Nat)
deriving DecidableEq, Repr

/-- Whether a magnitude with remainder `rem` of `2^sh` below `lo` rounds up. -/
def roundUp (rnd : Rnd) (lo rem sh : Nat) : Bool :=
  match rnd with
  | .zero => false
  | .near => decide (2 ^ sh < 2 * rem) || (2 * rem == 2 ^ sh && lo % 2 == 1)
  | .stoch r => rem != 0 && decide (2 ^ 16 ≤ rem * 2 ^ 16 / 2 ^ sh + r)

/-- A magnitude rounded to exponent `q`: the new significand and whether it is inexact. -/
def roundAt (rnd : Rnd) (m : Nat) (e q : Int) : Nat × Bool :=
  if q ≤ e then (m * 2 ^ (e - q).toNat, false)
  else
    let sh := (q - e).toNat
    let lo := m / 2 ^ sh
    let rem := m % 2 ^ sh
    (if roundUp rnd lo rem sh then lo + 1 else lo, rem != 0)

/-- Exponent of the last of `p` significant bits. -/
def lastE (p m : Nat) (e : Int) : Int := e + nbits m - p

/-- A magnitude is at or above another. -/
def magLe (m1 : Nat) (e1 : Int) (m2 : Nat) (e2 : Int) : Bool :=
  let e0 := min e1 e2
  decide (m1 * 2 ^ (e1 - e0).toNat ≤ m2 * 2 ^ (e2 - e0).toNat)

/-- Bits of a finite magnitude `m * 2^e` that a floating-point format holds exactly. -/
def encodeMag (f : Fmt) (m : Nat) (e : Int) : Nat :=
  if m = 0 then 0
  else
    let q := max (lastE (f.frac + 1) m e) f.minE
    let s := if q ≤ e then m * 2 ^ (e - q).toNat else m / 2 ^ (q - e).toNat
    if s < 2 ^ f.frac then s else (q - f.minE + 1).toNat * 2 ^ f.frac + (s - 2 ^ f.frac)

/-- Sign bit of a format. -/
def signBit (f : Fmt) (neg : Bool) : Nat := if neg then 2 ^ (f.bits - 1) else 0

/-- The encoding of the largest finite value. -/
def maxEnc (f : Fmt) : Nat := encodeMag f f.maxFin.1 f.maxFin.2

/-- Tininess after rounding (R93, R136): rounded with an unbounded exponent range, non-zero and below the smallest normal. -/
def isTiny (f : Fmt) (rnd : Rnd) (m : Nat) (e : Int) : Bool :=
  let q := lastE (f.frac + 1) m e
  let r := (roundAt rnd m e q).1
  m != 0 && !magLe 1 (f.minE + f.frac) r q

/-- Result of an overflowing finite value in a floating-point format (Table 4.6, R95). -/
def overflowRes (f : Fmt) (rnd : Rnd) (sat neg : Bool) : Nat :=
  if sat || rnd = .zero then signBit f neg + maxEnc f
  else
    match f.special with
    | .ieee => signBit f neg + (2 ^ f.ebits - 1) * 2 ^ f.frac
    | .e4m3 => f.nan
    | _ => signBit f neg + maxEnc f

/-- A finite value rounded once to a floating-point format. `ftz` flushes FP32 results. -/
def roundFloat (f : Fmt) (rnd : Rnd) (sat ftz : Bool) (neg : Bool) (m : Nat) (e : Int) : Fl Nat :=
  if m = 0 then (signBit f neg, 0)
  else
    let tiny := isTiny f rnd m e
    if tiny && ftz && f.bits == 32 then (signBit f neg, fUF ||| fNX)
    else
      let q := max (lastE (f.frac + 1) m e) f.minE
      let r := roundAt rnd m e q
      if !magLe r.1 q f.maxFin.1 f.maxFin.2 then (overflowRes f rnd sat neg, fOF ||| fNX)
      else (signBit f neg + encodeMag f r.1 q, if r.2 then (if tiny then fUF ||| fNX else fNX) else 0)

/-- A finite value rounded once to an integer format, which saturates (Table 4.6). -/
def roundInt (f : Fmt) (rnd : Rnd) (neg : Bool) (m : Nat) (e : Int) : Fl Nat :=
  let r := roundAt rnd m e 0
  let lim := if neg then 2 ^ (f.bits - 1) else 2 ^ (f.bits - 1) - 1
  let ovf := decide (lim < r.1)
  let v : Int := if neg then -((min r.1 lim : Nat) : Int) else ((min r.1 lim : Nat) : Int)
  ((BitVec.ofInt f.bits v).toNat, if ovf then fOF ||| fNX else if r.2 then fNX else 0)

/-- A value resolved in a format (R94, R95, R144): NaN, infinity, or rounded. `conv` says that this is a conversion, in which an infinite
input takes the column that the instruction selects; elsewhere an infinite result stays one. -/
def resolve (f : Fmt) (rnd : Rnd) (sat ftz conv : Bool) (x : FVal) : Fl Nat :=
  match x with
  | .nan sig =>
    if f.special = .none || f.special = .int then (0, fNV) else (f.nan, if sig then fNV else 0)
  | .inf neg =>
    match f.special with
    | .ieee => if sat && conv then (signBit f neg + maxEnc f, fNV) else (signBit f neg + (2 ^ f.ebits - 1) * 2 ^ f.frac, 0)
    | .e4m3 => (if sat then signBit f neg + maxEnc f else f.nan, fNV)
    | .none => (signBit f neg + maxEnc f, fNV)
    | .int => (if neg then 2 ^ (f.bits - 1) else 2 ^ (f.bits - 1) - 1, fNV)
  | .fin neg m e => if f.special = .int then roundInt f rnd neg m e else roundFloat f rnd sat ftz neg m e

/-! ### FP32 on the matrix path (R90 to R93) -/

/-- An FP32 result to nearest even, flushed, without flags. -/
def toF32 (x : FVal) : Nat := (resolve fp32 .near false true false x).1

/-- The value of an FP32 word. -/
def ofF32 (v : Nat) : FVal := decodeFmt fp32 v

/-- add_rne_ftz of R106. -/
def addF (a b : Nat) : Nat := toF32 (addX (ofF32 a) (ofF32 b))

/-- mul_rne_ftz of R106. -/
def mulF (a b : Nat) : Nat := toF32 (mulX (ofF32 a) (ofF32 b))

/-! ### The wide form (R141) -/

/-- round48, with whether the exact value was kept. -/
def round48x (x : FVal) : FVal × Bool :=
  match x with
  | .nan _ => (.nan false, true)
  | .inf n => (.inf n, true)
  | .fin n m e =>
    if m = 0 then (.fin n 0 0, true)
    else
      let q := lastE 48 m e
      let r := roundAt .near m e q
      let s := if r.1 = 2 ^ 48 then 2 ^ 47 else r.1
      let q' := if r.1 = 2 ^ 48 then q + 1 else q
      if 512 ≤ q' + 47 then (.inf n, false)
      else if q' + 47 < -510 then (.fin n 0 0, false)
      else (.fin n s q', !r.2)

/-- round48. -/
def round48 (x : FVal) : FVal := (round48x x).1

/-- A wide value rounded to FP32, with flags (R150). -/
def wideToF32 (ftz : Bool) (x : FVal) : Fl Nat := resolve fp32 .near false ftz false (quiet x)

/-! ### mix64 (R146) -/

/-- mix64. -/
def mix64 (x : BitVec 64) : BitVec 64 :=
  let x := x ^^^ (x >>> 33)
  let x := x * 0x9B1C52F4A7E36D0B#64
  let x := x ^^^ (x >>> 29)
  let x := x * 0x5F2D8C613B97E4A5#64
  x ^^^ (x >>> 32)

/-- The 16 random bits of an element: tensor identifier, element index, step number (R146). -/
def stochBits (tensor index step : Nat) : Nat :=
  let key : BitVec 64 := (BitVec.ofNat 64 tensor <<< 48) ||| BitVec.ofNat 64 (index % 2 ^ 48)
  (mix64 (mix64 key ^^^ BitVec.ofNat 64 step) >>> 48).toNat

/-! ### Square roots, exponentials, logarithms (R148) -/

/-- The integer square root, bit by bit from bit `k - 1` down. -/
def isqrtFrom (n : Nat) : Nat → Nat → Nat
  | 0, r => r
  | k + 1, r => if (r + 2 ^ k) * (r + 2 ^ k) ≤ n then isqrtFrom n k (r + 2 ^ k) else isqrtFrom n k r

/-- Integer square root. -/
def isqrt (n : Nat) : Nat := isqrtFrom n (nbits n / 2 + 1) 0

/-- A value cut to many bits, with a last bit that says whether anything was cut. -/
def stickyFin (neg : Bool) (m : Nat) (e : Int) (more : Bool) : FVal := .fin neg (2 * m + b2n more) (e - 1)

/-- 1 / sqrt(m * 2^e) for m > 0. -/
def rsqrtX (m : Nat) (e : Int) : FVal :=
  let m' := if e % 2 = 0 then m else 2 * m
  let e' := if e % 2 = 0 then e else e - 1
  let k := 2 * (nbits m' + 80)
  let r := isqrt (2 ^ k / m')
  stickyFin false r (-(e' / 2) - (k / 2 : Nat)) (r * r * m' != 2 ^ k)

/-- a / b for finite non-zero operands. -/
def divX (n1 : Bool) (m1 : Nat) (e1 : Int) (n2 : Bool) (m2 : Nat) (e2 : Int) : FVal :=
  let k := nbits m2 + 80
  let q := m1 * 2 ^ k / m2
  stickyFin (n1 != n2) q (e1 - e2 - k) (q * m2 != m1 * 2 ^ k)

/-- Fixed-point bits of the series below. -/
def serP : Nat := 288

/-- ln 2 in fixed point, by the sum of 1 / (k 2^k). -/
def ln2Fix : Int := ((List.range 300).map (fun i => ((2 ^ serP / ((i + 1) * 2 ^ (i + 1)) : Nat) : Int))).sum

/-- The exponential series in fixed point: sum of r^k / k!. `t` is the current term. -/
def expSer (r : Int) : Nat → Nat → Int → Int → Int
  | 0, _, _, acc => acc
  | n + 1, k, t, acc => let t' := t * r / (2 ^ serP * (k : Int)); expSer r n (k + 1) t' (acc + t')

/-- e^x within (significand, exponent, error in units of the last bit) for x = z / 2^serP. -/
def expFix (z : Int) : Int × Int :=
  let n := (2 * z + ln2Fix) / (2 * ln2Fix)
  let r := z - n * ln2Fix
  (expSer r 80 1 (2 ^ serP) (2 ^ serP), n)

/-- The series of 2 atanh(y) in fixed point. -/
def atanhSer (y2 : Int) : Nat → Nat → Int → Int → Int
  | 0, _, _, acc => acc
  | n + 1, k, t, acc => let t' := t * y2 / 2 ^ serP; atanhSer y2 n (k + 2) t' (acc + t' / (k : Int))

/-- ln(m * 2^e) in fixed point, for m > 0. -/
def logFix (m : Nat) (e : Int) : Int :=
  let nb := nbits m
  let big := decide (2 ^ nb * 3 < m * 4)
  let k : Int := e + nb - (if big then 0 else 1)
  let f : Int := if big then m * 2 ^ serP / 2 ^ nb else m * 2 ^ (serP + 1) / 2 ^ nb
  let y := (f - 2 ^ serP) * 2 ^ serP / (f + 2 ^ serP)
  let a := atanhSer (y * y / 2 ^ serP) 120 3 y y
  k * ln2Fix + 2 * a

/-- A fixed-point value known to lie in `z ± err` at weight `2^e`, rounded by round48. Where the two ends round differently the choice
between them is a free value (log entry 10). -/
def round48Iv (up : Bool) (z err e : Int) : FVal :=
  let y := if up then z + err else z - err
  round48 (.fin (decide (y < 0)) (2 * y.natAbs + 1) (e - 1))

/-- round48 of e^x for a finite x other than 0 (R148). Far outside the range of the wide form the result is an infinity or +0. -/
def exp48 (neg : Bool) (m : Nat) (e : Int) : FVal :=
  if !magLe m e 400 0 then (if neg then .fin false 0 0 else .inf false)
  else
    let r := expFix (atExp neg m (e + serP) 0)
    round48Iv (Config.wideUp 0 m e) r.1 (2 ^ 100) (r.2 - serP)

/-- round48 of ln(x) for a finite positive x other than 1. -/
def log48 (m : Nat) (e : Int) : FVal := round48Iv (Config.wideUp 1 m e) (logFix m e) (2 ^ 100) (-(serP : Int))

end Sys2Proof.Machine
end

