-- ==== Sys2Proof/Machine/Graph.lean ====
section
/-! DEFINITION. Geometry, graph objects, dispatching, runs and streams (ch. 2). -/

namespace Sys2Proof.Machine

/-! ### Partitions and the geometry table (R28, R32 to R34) -/

/-- The physical C-dies of a partition, in logical order. -/
def partDies (s : State) (p : Nat) : List Nat := (List.range 8).filter (fun d => (sget 0 s.ctl.partitions p).testBit d)

/-- Physical C-dies of a context. -/
def ctxDies (s : State) (c : Nat) : List Nat := partDies s ((ctx? s c).elim 0 (·.part))

/-- Rows that every die of a list has. -/
def gridY (s : State) (ds : List Nat) : Nat := ds.foldl (fun m d => Nat.min m (gridRows s d)) 32

/-- The F-dies that serve a list of C-dies. -/
def fDies (ds : List Nat) : List Nat := (List.range 4).filter (fun m => ds.contains (2 * m) || ds.contains (2 * m + 1))

/-- A trimmed partition (R34). -/
def partTrimmed (s : State) (ds : List Nat) : Bool := ds.any (fun d => sget 0 s.sp.dieTrim d != 0)

/-- The fields of the geometry table before geometry_digest: size, part of the shape, value. -/
def geoFields (s : State) (ds : List Nat) : List (Nat × Bool × Nat) :=
  let n := ds.length
  let cl := n * 64 * gridY s ds
  let ch := (ds.map (chanCount s)).sum
  let fs := fDies ds
  let peak := fun (mac : Nat) => cl * 64 * mac * 2 * 2400 / 1000000
  [(2, true, 1), (1, true, 2), (1, false, b2n (partTrimmed s ds)), (1, true, n), (1, true, 64), (1, true, gridY s ds), (1, true, 64)] ++
  [(4, true, cl), (4, true, cl * 64), (4, true, 8192), (4, true, 196608), (2, true, ch)] ++
  [(1, false, fs.length), (1, false, 8 * fs.length), (1, false, fs.length), (1, true, 16), (1, true, 8), (1, true, 4)] ++
  [(1, true, 64), (1, true, 32), (1, true, 64), (1, false, 0), (4, true, 65536), (4, false, 2400)] ++
  [(4, false, peak 16), (4, false, peak 8), (4, false, peak 4), (4, false, ch * 192), (4, false, 1600 * fs.length)] ++
  [(8, false, (ds.map (gddrBytes s)).sum), (8, false, (fs.map (fun m => rget s .fdieCxlMapBytes_bytes m)).sum)]

/-- geometry_digest (R33). -/
def geoDigest (s : State) (ds : List Nat) : Nat :=
  runDigest (((geoFields s ds).filter (·.2.1)).flatMap (fun f => leBytes f.1 f.2.2))

/-- The 128 bytes of the geometry table. -/
def geoBytes (s : State) (ds : List Nat) : List Byte :=
  (geoFields s ds).flatMap (fun f => leBytes f.1 f.2.2) ++ leBytes 8 (geoDigest s ds) ++ List.replicate 40 0

/-- R32: GEOMETRY_READ writes the table of the caller's partition. -/
def execGeometryRead (h : CmdRef) (dest : Word64) (s : State) : Out :=
  .next (runCmd 0x06 h (fun s =>
    let ds := ctxDies s h.ctx
    finish h stOk (geoDigest s ds) (ctxWrite h.ctx dest.toNat (geoBytes s ds) s)) s)

/-! ### Regions (R29, R37) -/

/-- Clusters of a region. -/
def regionSize (r : Region) : Nat := r.dieCount * (r.w * r.h)

/-- Logical die and logical cluster of a region index (R37). -/
def regionAt (r : Region) (k : Nat) : Nat × Nat :=
  let j := k % (r.w * r.h)
  (r.dieFirst + k / (r.w * r.h), 64 * (r.y0 + j / r.w) + r.x0 + j % r.w)

/-- Every cluster of a region: region index, logical die, logical cluster. -/
def regionAll (r : Region) : List (Nat × Nat × Nat) := (List.range (regionSize r)).map (fun k => (k, regionAt r k))

/-- Two ranges share a point. -/
def rangesMeet (a n b m : Nat) : Bool := decide (a < b + m) && decide (b < a + n)

/-- Two regions share a cluster. -/
def regionsMeet (r q : Region) : Bool :=
  rangesMeet r.dieFirst r.dieCount q.dieFirst q.dieCount && rangesMeet r.x0 r.w q.x0 q.w && rangesMeet r.y0 r.h q.y0 q.h

/-! ### Graph objects (R35 to R41) -/

/-- Little-endian fields at fixed places of an entry. -/
def fld (b : List Byte) (o n : Nat) : Nat := pktNat b o n

/-- `n` entries of `sz` bytes from an offset. -/
def entries (sz : Nat) : Nat → List Byte → List (List Byte)
  | 0, _ => []
  | n + 1, b => b.take sz :: entries sz n (b.drop sz)

/-- A region descriptor. -/
def mkRegion (b : List Byte) : Region := ⟨fld b 0 1, fld b 1 1, fld b 2 1, fld b 3 1, fld b 4 1, fld b 5 1⟩

/-- A task descriptor. -/
def mkTask (b : List Byte) : Task :=
  ⟨fld b 2 1, fld b 3 1, fld b 4 2, fld b 6 2, fld b 8 2, fld b 10 2, fld b 12 4, fld b 16 8, fld b 24 4, fld b 28 1, (fld b 29 1).testBit 0⟩

/-- An edge descriptor. -/
def mkEdge (b : List Byte) : Edge :=
  ⟨fld b 0 2, fld b 2 2, fld b 4 1, fld b 5 1, fld b 6 1, fld b 7 1, fld b 8 1, fld b 9 1, fld b 12 4, fld b 16 4⟩

/-- A kernel table entry. -/
def mkKernel (b : List Byte) : Kernel := ⟨fld b 0 8, fld b 8 4, fld b 12 4⟩

/-- The object with its own digest field read as zero. -/
def objZeroed (b : List Byte) : List Byte := b.take 0x78 ++ List.replicate 8 0 ++ b.drop 0x80

/-- A table lies in the object. -/
def tableOk (total off n sz : Nat) : Bool := off % 64 == 0 && decide (off + n * sz ≤ total)

/-- Check 0x01: the header and the object's digest. -/
def headerOk (limit : Nat) (b : List Byte) : Bool :=
  let t := fld b 0x0C 4
  let e := fld b 0x10 4
  let r := fld b 0x14 4
  let k := fld b 0x18 4
  let total := fld b 0x40 8
  decide (128 ≤ limit) && fld b 0 4 == 0x48504746 && fld b 4 2 == 1 && fld b 6 2 == 0 && fld b 0x0B 1 == 0 && fld b 0x1C 4 == 0 &&
  ((b.drop 0x50).take 40).all (fun x => x == 0) &&
  decide (1 ≤ t) && decide (t ≤ 65536) && decide (e ≤ 1048576) && decide (r ≤ 65535) && decide (k ≤ 65536) &&
  tableOk total (fld b 0x20 8) r 8 && tableOk total (fld b 0x28 8) t 32 && tableOk total (fld b 0x30 8) e 32 &&
  tableOk total (fld b 0x38 8) k 16 && decide (128 ≤ total) && decide (total ≤ limit) &&
  fld b 0x78 8 == runDigest (objZeroed (b.take total))

/-- The first index at which a check fails. -/
def firstBad {α : Type} (ok : Nat → α → Bool) (l : List α) : Option Nat := (l.zipIdx.find? (fun x => !ok x.2 x.1)).map Prod.snd

/-- Check 0x06. -/
def regionOk (s : State) (ds : List Nat) (raw : List Byte) : Bool :=
  let r := mkRegion raw
  decide (r.dieFirst < ds.length) && decide (1 ≤ r.dieCount) && decide (r.dieFirst + r.dieCount ≤ ds.length) &&
  decide (1 ≤ r.w) && decide (r.x0 + r.w ≤ 64) && decide (1 ≤ r.h) && decide (r.y0 + r.h ≤ gridY s ds) && fld raw 6 2 == 0

/-- A kernel table entry is valid. -/
def kernelOk (k : Kernel) : Bool :=
  k.code % 64 == 0 && k.bytes != 0 && k.bytes % 8 == 0 && k.entry % 8 == 0 && decide (k.entry < k.bytes)

/-- Check 0x07. -/
def taskOk (regions : Nat) (ks : List Kernel) (n : Nat) (raw : List Byte) : Bool :=
  let t := mkTask raw
  fld raw 0 2 == n && decide (t.kind ≤ 2) && decide (fld raw 29 1 ≤ 1) && fld raw 30 2 == 0 &&
  (if t.kind = 2 then t.region == 0xFFFF else decide (t.region < regions) && (ks[t.kernel]?).elim false kernelOk) &&
  (if t.kind = 1 then decide (1 ≤ t.routeCount) && decide (t.routeCount ≤ 64) else t.routeCount == 0) &&
  t.argAddr % 64 == 0 && decide (t.argBytes ≤ 16384) && ((t.argAddr == 0) == (t.argBytes == 0))

/-- A data edge: STREAM or ROUTED. -/
def Edge.data (e : Edge) : Bool := e.kind != 0

/-- Fields of an edge for its kind (check 0x08, first part). -/
def edgeOk (ts : List Task) (es : List Edge) (n : Nat) (raw : List Byte) : Bool :=
  let e := mkEdge raw
  match ts[e.src]?, ts[e.dst]? with
  | some a, some b =>
    decide (e.kind ≤ 2) && fld raw 10 2 == 0 && (raw.drop 20).all (fun x => x == 0) &&
    (if e.kind = 0 then e.mode == 0 && e.route == 0 && e.srcPort == 0 && e.dstPort == 0 && e.credits == 0 && e.slotBytes == 0 && e.bufOff == 0
     else
      decide (e.mode ≤ 3) && decide (1 ≤ e.credits) && decide (64 ≤ e.slotBytes) && decide (e.slotBytes ≤ 65536) && e.slotBytes % 64 == 0 &&
      e.bufOff % 64 == 0 && decide (e.dstPort ≤ 15) && a.kind != 2 && b.kind != 2 &&
      (es.zipIdx.all (fun x => x.2 == n || !(x.1.data && x.1.dst == e.dst && x.1.dstPort == e.dstPort) || decide (n < x.2))) &&
      (if e.kind = 1 then e.route == 0 && decide (e.srcPort ≤ 15) &&
         (es.zipIdx.all (fun x => x.2 == n || !(x.1.kind == 1 && x.1.src == e.src && x.1.srcPort == e.srcPort) || decide (n < x.2)))
       else e.srcPort == 0 && (a.kind != 1 || decide (e.route < a.routeCount))))
  | _, _ => false

/-- Counts of a task's edges (check 0x08, second part). -/
def countsOk (es : List Edge) (n : Nat) (t : Task) : Bool :=
  t.inCount == (es.filter (fun e => e.dst == n)).length && t.outCount == (es.filter (fun e => e.src == n)).length &&
  (t.outCount == 0 || ((es.drop t.outFirst).take t.outCount).all (fun e => e.src == n) &&
    decide (t.outFirst + t.outCount ≤ es.length))

/-- Tasks that remain after the tasks with no incoming edge from a remaining one are taken away again and again. -/
def cycleLeft (es : List Edge) : Nat → List Nat → List Nat
  | 0, l => l
  | n + 1, l =>
    let l' := l.filter (fun t => es.any (fun e => e.dst == t && l.contains e.src))
    if l'.length = l.length then l else cycleLeft es n l'

/-- Check 0x0A. -/
def routesOk (es : List Edge) (n : Nat) (t : Task) : Bool :=
  let out := es.filter (fun e => e.src == n)
  let ro := (out.filter (fun e => e.kind == 2)).map (·.route)
  if t.kind = 1 then (List.range t.routeCount).all (fun r => ro.count r == 1) && ro.length == t.routeCount && out.all (fun e => e.kind != 1)
  else ro.isEmpty

/-- Clusters of a task's region; a JOIN has none. -/
def taskSize (g : Graph) (t : Nat) : Nat :=
  (g.tasks[t]?).elim 0 (fun x => (g.regions[x.region]?).elim 0 regionSize)

/-- Check 0x0B. -/
def pairedOk (g : Graph) (_ : Nat) (e : Edge) : Bool := !(e.data && e.mode == 0) || taskSize g e.src == taskSize g e.dst

/-- Check 0x0C of one edge against all. -/
def ringOk (g : Graph) (n : Nat) (e : Edge) : Bool :=
  !e.data || (decide (e.bufOff + e.credits * e.slotBytes ≤ 196608) &&
    g.edges.zipIdx.all (fun x => x.2 == n || !x.1.data || x.1.dst != e.dst ||
      !rangesMeet e.bufOff (e.credits * e.slotBytes) x.1.bufOff (x.1.credits * x.1.slotBytes)))

/-- Tasks reached from a list over ORDER edges. -/
def orderReach (es : List Edge) : Nat → List Nat → List Nat
  | 0, l => l
  | n + 1, l =>
    let more := (es.filter (fun e => e.kind == 0 && l.contains e.src && !l.contains e.dst)).map (·.dst)
    if more.isEmpty then l else orderReach es n (l ++ more.eraseDups)

/-- Check 0x0D of one task against the later ones. -/
def overlapOk (g : Graph) (n : Nat) (t : Task) : Bool :=
  match g.regions[t.region]? with
  | none => true
  | some r =>
    if t.kind = 2 then true
    else
      let from_ := orderReach g.edges g.tasks.length [n]
      g.tasks.zipIdx.all (fun x =>
        x.2 ≤ n || x.1.kind == 2 || !((g.regions[x.1.region]?).elim false (regionsMeet r)) ||
        ((from_.contains x.2 || (orderReach g.edges g.tasks.length [x.2]).contains n) &&
          g.edges.all (fun e => !(e.data && ((e.src == n && e.dst == x.2) || (e.src == x.2 && e.dst == n))))))

/-- The graph that an object holds. -/
def mkGraph (b : List Byte) : Graph where
  digest := fld b 0x78 8
  regions := (entries 8 (fld b 0x14 4) (b.drop (fld b 0x20 8))).map mkRegion
  tasks := (entries 32 (fld b 0x0C 4) (b.drop (fld b 0x28 8))).map mkTask
  edges := (entries 32 (fld b 0x10 4) (b.drop (fld b 0x30 8))).map mkEdge
  kernels := (entries 16 (fld b 0x18 4) (b.drop (fld b 0x38 8))).map mkKernel

/-- The argument block of a task lies in the window. -/
def argsOk (s : State) (c : Nat) (_ : Nat) (t : Task) : Bool := t.argBytes == 0 || rangeIn s c false t.argAddr t.argBytes

/-- The load checks of Table 2.8 in order: the first that fails and its index, if any (R41). An index that the rule does not settle is
a free value. -/
def loadCheck (s : State) (c limit : Nat) (b : List Byte) : Option (Nat × Nat) :=
  let ds := ctxDies s c
  let g := mkGraph b
  let rawR := entries 8 (fld b 0x14 4) (b.drop (fld b 0x20 8))
  let rawT := entries 32 (fld b 0x0C 4) (b.drop (fld b 0x28 8))
  let rawE := entries 32 (fld b 0x10 4) (b.drop (fld b 0x30 8))
  let free := fun (code : Nat) => Config.rejectIndex s.free code % 2 ^ 24
  if !headerOk limit b then some (0x01, 0xFFFFFF)
  else if fld b 0x0A 1 ≠ 2 then some (0x02, 0xFFFFFF)
  else if fld b 0x48 8 ≠ geoDigest s ds then some (0x03, 0xFFFFFF)
  else if (sget? s.gr.graphs (c * 65536 + fld b 8 2)).isSome then some (0x04, 0xFFFFFF)
  else
    match firstBad (argsOk s c) g.tasks with
    | some n => some (0x05, n)
    | none =>
    match firstBad (fun _ r => regionOk s ds r) rawR with
    | some n => some (0x06, n)
    | none =>
    match firstBad (taskOk g.regions.length g.kernels) rawT with
    | some n => some (0x07, n)
    | none =>
    match firstBad (edgeOk g.tasks g.edges) rawE with
    | some n => some (0x08, n)
    | none =>
    match firstBad (countsOk g.edges) g.tasks with
    | some _ => some (0x08, free 0x08)
    | none =>
    if !(cycleLeft g.edges g.tasks.length (List.range g.tasks.length)).isEmpty then some (0x09, free 0x09)
    else
    match firstBad (routesOk g.edges) g.tasks with
    | some n => some (0x0A, n)
    | none =>
    match firstBad (pairedOk g) g.edges with
    | some n => some (0x0B, n)
    | none =>
    if !(g.edges.zipIdx.all (fun x => ringOk g x.2 x.1)) then some (0x0C, free 0x0C)
    else if !(g.tasks.zipIdx.all (fun x => overlapOk g x.2 x.1)) then some (0x0D, free 0x0D)
    else none

/-- R41: GRAPH_LOAD. -/
def execGraphLoad (h : CmdRef) (object bytes : Word64) (s : State) : Out :=
  .next (runCmd 0x20 h (fun s =>
    let c := h.ctx
    if !rangeIn s c false object.toNat bytes.toNat then finish h stGraphRejected (0x05 + 0xFFFFFF * 256) s
    else
      let rd := cmdRead c object.toNat bytes.toNat s
      let b := rd.1.bytes
      match loadCheck rd.2 c bytes.toNat b with
      | some (code, i) => finish h stGraphRejected (code + i * 256) (useFree rd.2)
      | none =>
        finish h stOk (fld b 8 2) { rd.2 with gr := { rd.2.gr with graphs := sput rd.2.gr.graphs (c * 65536 + fld b 8 2) (mkGraph b) } }) s)

/-! ### Runs -/

/-- A loaded graph of a context. -/
def graph? (s : State) (c g : Nat) : Option Graph := sget? s.gr.graphs (c * 65536 + g)

/-- The graph of a run. -/
def runGraph (s : State) (r : Run) : Graph := (graph? s r.ctx r.graph).getD ⟨0, [], [], [], []⟩

/-- An admitted run. -/
def run? (s : State) (n : Nat) : Option Run := sget? s.gr.runs n

/-- A run replaced. -/
def setRun (n : Nat) (r : Run) (s : State) : State := { s with gr := { s.gr with runs := sput s.gr.runs n r } }

/-- A change of a run. -/
def modRun (n : Nat) (f : Run → Run) (s : State) : State :=
  match run? s n with
  | some r => setRun n (f r) s
  | none => s

/-- State of a task in a run. -/
def taskSt (r : Run) (t : Nat) : TaskSt := sget .waiting r.tasks t

/-- A task's state set. -/
def Run.setTask (r : Run) (t : Nat) (x : TaskSt) : Run := { r with tasks := sset .waiting r.tasks t x }

/-- A stream of a run. -/
def streamOf (r : Run) (e : Nat) : Stream := sget Stream.empty r.streams e

/-- A stream replaced. -/
def Run.setStream (r : Run) (e : Nat) (x : Stream) : Run := { r with streams := sset Stream.empty r.streams e x }

/-- Tally of a task (R42). -/
def tallyOf (g : Graph) (r : Run) (t : Nat) : Nat := sget ((g.tasks[t]?).elim 0 (·.inCount)) r.tally t

/-- A task's tally falls by one. -/
def Run.decTally (g : Graph) (r : Run) (t : Nat) : Run :=
  { r with tally := sset ((g.tasks[t]?).elim 0 (·.inCount)) r.tally t (tallyOf g r t - 1) }

/-- Outgoing edges of a task with their indices. -/
def outEdges (g : Graph) (t : Nat) : List (Edge × Nat) := g.edges.zipIdx.filter (fun x => x.1.src == t)

/-- Incoming edges. -/
def inEdges (g : Graph) (t : Nat) : List (Edge × Nat) := g.edges.zipIdx.filter (fun x => x.1.dst == t)

/-- Every producer cluster has closed its side of an edge (R51, R53). -/
def edgeClosed (g : Graph) (r : Run) (e : Edge) (n : Nat) : Bool :=
  taskSt r e.src == .skipped || (List.range (taskSize g e.src)).all (fun k => (streamOf r n).closedBy.contains k)

/-- A data edge decrements its consumer's tally once. -/
def countEdge (g : Graph) (r : Run) (e : Edge) (n : Nat) : Run :=
  if (streamOf r n).counted then r
  else Run.decTally g (r.setStream n { streamOf r n with counted := true }) e.dst

/-- Every outgoing edge of a finished or skipped task takes effect on its consumer: ORDER edges, and for a skipped task its streams, which
close without a tile. -/
def endEdges (g : Graph) (r : Run) (t : Nat) (skipped : Bool) : Run :=
  (outEdges g t).foldl (fun r x =>
    if x.1.kind = 0 then Run.decTally g r x.1.dst
    else if skipped then countEdge g r x.1 x.2
    else if x.1.kind = 2 then countEdge g r x.1 x.2
    else r) r

/-- A task that has ended one way or the other. -/
def taskEnded (r : Run) (t : Nat) : Bool := taskSt r t == .completed || taskSt r t == .skipped

/-- R44: every incoming ROUTED edge has closed without a tile, and there is one. -/
def skippable (g : Graph) (r : Run) (t : Nat) : Bool :=
  let ro := (inEdges g t).filter (fun x => x.1.kind == 2)
  !ro.isEmpty && ro.all (fun x => edgeClosed g r x.1 x.2 && !(streamOf r x.2).used)

/-- The C-die block that reports for a task: the owner of its region (R488). -/
def taskDie (s : State) (g : Graph) (c t : Nat) : Nat :=
  let ds := ctxDies s c
  match (g.tasks[t]?).bind (fun x => g.regions[x.region]?) with
  | some r => ds.getD r.dieFirst 0
  | none => ds.getD (Config.joinDie s.free % Nat.max 1 ds.length) 0

/-- TASK_COMPLETED for a task whose flag asks for it (R488). -/
def notifyTask (r : Run) (t : Nat) (skipped : Bool) (s : State) : State :=
  let g := runGraph s r
  if !((g.tasks[t]?).elim false (·.notify)) then s
  else
    let att := if r.stepFlag then Nat.min 255 r.attempt else 0
    raiseC 0x0201 (0x10 + taskDie s g r.ctx t) r.ctx
      (pack [(0, 16, r.graph), (16, 16, t), (32, 16, r.mb), (48, 8, att), (56, 1, b2n skipped)]) (useFree s)

/-- One task of a run that ends by itself: a JOIN whose tally is zero, or a task that is skipped. A task is skipped when its tally has
come to zero (DEDUCED, log entry 9). -/
def nextAuto (g : Graph) (r : Run) : Option (Nat × Bool) :=
  ((g.tasks.zipIdx.filter (fun x => taskSt r x.2 == .waiting && tallyOf g r x.2 == 0)).findSome? (fun x =>
    if x.1.kind = 2 then some (x.2, false) else if skippable g r x.2 then some (x.2, true) else none))

/-- Tasks that end by themselves, one after the other. -/
def settle (n : Nat) : Nat → State → State
  | 0, s => s
  | fuel + 1, s =>
    match run? s n with
    | none => s
    | some r =>
      let g := runGraph s r
      match nextAuto g r with
      | none => s
      | some (t, sk) =>
        let r' := endEdges g (r.setTask t (if sk then .skipped else .completed)) t sk
        settle n fuel (notifyTask r' t sk (setRun n r' s))

/-! ### Engines of a run -/

/-- Key of an engine. -/
def engKey (e : Eng) : Nat := (e.die * 2048 + e.cl) * 2 + b2n e.shadow

/-- An engine that runs a kernel. -/
def eng? (s : State) (e : Eng) : Option Engine := sget? s.eng (engKey e)

/-- An engine replaced. -/
def setEng (e : Eng) (x : Engine) (s : State) : State := { s with eng := sput s.eng (engKey e) x }

/-- The engine of a key. -/
def engOfKey (k : Nat) : Eng := ⟨k / 4096, k / 2 % 2048, k % 2 == 1⟩

/-- The instance behind an engine, with the shadow bit changed. -/
def twinEng (e : Eng) : Eng := { e with shadow := !e.shadow }

/-- Engines for which `p` holds taken away, and what their cores had queued. -/
def dropEngines (p : Nat → Engine → Bool) (s : State) : State :=
  let gone := (s.eng.filter (fun x => p x.1 x.2)).map Prod.fst
  let isls := (s.eng.filter (fun x => p x.1 x.2)).map (fun x => islKey (x.1 / 4096) x.2.phys)
  let core := s.core.map (fun x => if gone.contains (x.1 / 64) then (x.1, { x.2 with queue := [] }) else x)
  applySubs (cleanStages isls { s with eng := s.eng.filter (fun x => !p x.1 x.2), core := core })

/-- An Octave comparison of the run is still to be made. -/
def octBusy (s : State) (n : Nat) : Bool :=
  (svals s.eng).any (fun x => x.run == n && x.sampled) || (svals s.oct).any (fun x => x.run == n)

/-! ### The end of a run (R46, R48) -/

/-- A run has no more to do: it is done or it has faulted, and where it belongs to a step, or it faulted, its comparisons are made. -/
def runOver (s : State) (n : Nat) (r : Run) : Bool :=
  (r.done && (!r.stepFlag || !octBusy s n)) || (r.fault.isSome && !octBusy s n)

/-- GRAPH_UNLOAD completes when no run of its graph is left (R72). -/
def unloadCheck (s : State) : State :=
  let over_ := fun (r : Rec) => match r.wait with
    | .unload g => r.state == .issued && !(svals s.gr.runs).any (fun x => x.ctx == r.ctx && x.graph == g)
    | _ => false
  let done := (s.ctl.journal.filter over_).filterMap (fun r => match r.wait with | .unload g => some (r.ctx * 65536 + g) | _ => none)
  finishWaits over_ stOk (fun _ => 0) { s with gr := { s.gr with graphs := s.gr.graphs.filter (fun x => !done.contains x.1) } }

/-- A finished run's command completes. -/
def replyRun (r : Run) (s : State) : State :=
  match r.fault with
  | some (code, t) => finishAt r.q r.seq stGraphFault (pack [(0, 8, code), (8, 16, t)]) s
  | none => finishAt r.q r.seq stOk (pack [(0, 16, satTo 16 ((svals r.tasks).count .skipped)), (16, 32, satTo 32 r.dropped)]) s

/-- A finished run's command completes and the run is gone, once no comparison of it has to be made. -/
def endRun (n : Nat) (r : Run) (s : State) : State :=
  let s1 := if r.replied then s else replyRun r s
  if octBusy s n then setRun n { r with replied := true } s1
  else
    mbCheckAll r.ctx (unloadCheck (dropEngines (fun _ x => x.run == n) { s1 with gr := { s1.gr with runs := sdel s1.gr.runs n } }))

/-- A run whose command can complete, in acceptance order within its queue (R46), or one that is left for a comparison no longer. -/
def sweepable (s : State) (x : Nat × Run) : Bool :=
  if x.2.replied then !octBusy s x.1
  else runOver s x.1 x.2 && !(s.gr.runs.any (fun y => decide (y.1 < x.1) && y.2.q == x.2.q && y.2.ctx == x.2.ctx && !y.2.replied))

/-- Runs that are over complete. -/
def sweepRuns : Nat → State → State
  | 0, s => s
  | fuel + 1, s =>
    match s.gr.runs.find? (sweepable s) with
    | none => s
    | some (n, r) => sweepRuns fuel (endRun n r s)

/-- A run is done when every task has completed or been skipped. -/
def runDoneCheck (n : Nat) (s : State) : State :=
  match run? s n with
  | none => s
  | some r =>
    let g := runGraph s r
    if r.fault.isNone && (List.range g.tasks.length).all (fun t => taskEnded r t) then sweepRuns 64 (setRun n { r with done := true } s) else s

/-- What follows a change of a run. -/
def progress (n : Nat) (s : State) : State :=
  runDoneCheck n (settle n (((run? s n).elim 0 (fun r => (runGraph s r).tasks.length)) + 1) s)

/-- R48: a run fault stops the run. The engine that faulted and its shadow stay for the Octave comparison where the instance is sampled. -/
def runFault (n code t : Nat) (s : State) : State :=
  match run? s n with
  | none => s
  | some r =>
    if r.fault.isSome || r.done then s
    else
      let r' := { r with fault := some (code, t), tasks := r.tasks.map (fun x => (x.1, if x.2 = .running then .stopped else x.2)), streams := [] }
      let keep := fun (k : Nat) (x : Engine) =>
        x.sampled && (x.trap.isSome || ((sget? s.eng (k / 2 * 2)).elim false (fun y => y.trap.isSome)) || (sget? s.oct (k / 2 * 2)).isSome)
      sweepRuns 64 (dropEngines (fun k x => x.run == n && !keep k x) (setRun n r' s))

/-- A run taken back without a reply: its command is to be issued again, unless its work has been removed. -/
def removeRun (n : Nat) (s : State) : State :=
  mapRecs (fun r => r.state == .issued && r.wait == .runEnd n) reIssue (dropEngines (fun _ x => x.run == n)
    { s with gr := { s.gr with runs := sdel s.gr.runs n }, oct := s.oct.filter (fun x => x.2.run != n) })

/-- Every run for which `p` holds taken back. -/
def removeRuns (p : Run → Bool) (s : State) : State :=
  ((s.gr.runs.filter (fun x => p x.2)).map Prod.fst).foldl (fun s n => removeRun n s) s

/-! ### Step faults (R242) -/

/-- R242: a step fault of micro-batch m: its runs stop, the accumulation area goes back to the last snapshot, and its graph runs are to
be issued again. The fourth failure is a hard fault. Outside a step nothing follows. -/
def stepFault (c m : Nat) (s : State) : State :=
  if !stepOpenSt s c then s
  else if (ctx? s c).elim false (·.held) then modStep c (fun x => { x with mbFault := if x.mbFault.contains m then x.mbFault else x.mbFault ++ [m] }) s
  else
    let s1 := removeRuns (fun r => r.ctx == c && r.stepFlag && r.mb == m) s
    if 4 ≤ sget 0 (stepOf s1 c).mbRuns m then
      hardFault c 1 (setHard (modStep c (fun x => { x with mbFault := if x.mbFault.contains m then x.mbFault else x.mbFault ++ [m] }) s1))
    else
      let mine := fun (r : Rec) => r.ctx == c && stepFlag r && r.opcode == 0x22 && recParam r 1 == m && r.step == stepNo s1 c
      let extra := (s1.ctl.journal.filter (fun r => mine r && !openRec r)).length
      let s2 := replayEvent 1 c m (ownRoster s1) (count1 .stepCtxReplays_mbLevel c (beginMb c m (backToSnap c m s1)))
      mapRecs (fun r => r.ctx == c && r.opcode == 0x32 && recParam r 0 == m && openRec r) (fun r => { r with replayed := r.replayed + extra })
        (mapRecs mine reIssue s2)

/-- A run's task instance is bad: the step fault of its micro-batch, once per attempt (R118, R160). -/
def markBad (e : Eng) (s : State) : State :=
  match eng? s e with
  | none => s
  | some x =>
    let s1 := setEng e { x with bad := true } s
    match run? s1 x.run with
    | none => s1
    | some r => if r.stepFlag && r.fault.isNone && !e.shadow then stepFault x.ctx r.mb s1 else s1

/-! ### GRAPH_RUN and GRAPH_UNLOAD -/

/-- Table 10.2: a step in REPLAY is in RUN again once work of its micro-batches or of its exchange runs. -/
def leaveReplay (c : Nat) (s : State) : State := if stepSt s c = 4 then rset .stepCtxState_state c 1 s else s

/-- A run of a queue's command, admitted (R46). -/
def admitRun (c g mb arg : Nat) (h : CmdRef) (s : State) : State :=
  let flag := h.flags.toNat.testBit 2
  let s := if flag && sget 0 (stepOf s c).mbRuns mb = 0 then beginMb c mb s else s
  let s := if flag then leaveReplay c s else s
  let n := s.gr.nextRun
  let r : Run := ⟨c, g, mb, arg, h.q, h.seq.toNat, if flag then stepNo s c else 0, flag, if flag then mbAttempt s c mb else 0,
    (ctx? s c).elim 0 (·.part), [], [], [], 0, 0, n, none, false, false⟩
  progress n (waitFor h (.runEnd n) (setRun n r { s with gr := { s.gr with nextRun := n + 1 } }))

/-- R46: GRAPH_RUN. A graph that is not loaded, or a micro-batch that the open step does not have (R237), is out of range. -/
def execGraphRun (h : CmdRef) (graph microbatch : BitVec 16) (runArg : Word64) (s : State) : Out :=
  .next (runCmd 0x22 h (fun s =>
    if (graph? s h.ctx graph.toNat).isNone then badParam h 0 s
    else if h.flags.toNat.testBit 2 && decide ((stepOf s h.ctx).mbs ≤ microbatch.toNat) then badParam h 0 s
    else admitRun h.ctx graph.toNat microbatch.toNat runArg.toNat h s) s)

/-- R72: GRAPH_UNLOAD, after every admitted run of the graph. -/
def execGraphUnload (h : CmdRef) (graph : BitVec 16) (s : State) : Out :=
  .next (runCmd 0x21 h (fun s =>
    if (graph? s h.ctx graph.toNat).isNone then badParam h 0 s else unloadCheck (waitFor h (.unload graph.toNat) s)) s)

/-! ### Starting tasks (R42, R43, R124, R151, R152) -/

/-- Physical dies and logical clusters of a task's region. -/
def taskClusters (s : State) (r : Run) (t : Nat) : List (Nat × Nat × Nat × Nat) :=
  let g := runGraph s r
  let ds := partDies s r.part
  match (g.tasks[t]?).bind (fun x => g.regions[x.region]?) with
  | some rg => (regionAll rg).map (fun x => (x.1, x.2.1, ds.getD x.2.1 0, x.2.2))
  | none => []

/-- A task of a run includes a cluster that another task's region includes: the logical dies of two partitions are compared physically. -/
def tasksMeet (s : State) (r : Run) (t : Nat) (q : Run) (u : Nat) : Bool :=
  let a := (taskClusters s r t).map (fun x => (x.2.2.1, x.2.2.2))
  (taskClusters s q u).any (fun x => a.contains (x.2.2.1, x.2.2.2))

/-- R43: every cluster of the region is free. -/
def regionFree (s : State) (n : Nat) (r : Run) (t : Nat) : Bool :=
  s.gr.runs.all (fun x => decide (n ≤ x.1) || x.2.fault.isSome || x.2.part != r.part ||
    (List.range (runGraph s x.2).tasks.length).all (fun u => taskEnded x.2 u || !tasksMeet s r t x.2 u))

/-- Idle leap clusters of a die: healthy, in no map, in no shadow. -/
def idleLeaps (s : State) (d : Nat) : List Nat :=
  (List.range 2112).filter (fun p => sget 0 s.sp.clState (islKey d p) == 0 && (clAt s d p).isNone && !(shadowPhys s d).contains p)

/-- R151: the sampling hash of an instance. -/
def octaveHash (r : Run) (t k : Nat) : BitVec 64 :=
  let key := BitVec.ofNat 64 (pack [(48, 16, r.graph), (32, 16, t), (16, 16, r.mb), (0, 16, k)])
  mix64 (mix64 (mix64 key ^^^ BitVec.ofNat 64 r.step) ^^^ BitVec.ofNat 64 r.attempt)

/-- R151: the instance is selected. -/
def octaveSelected (s : State) (d : Nat) (r : Run) (t k : Nat) : Bool :=
  let lg := rget s .cdieVecOctaveCtl_rateLog2 d
  lg != 0 && (octaveHash r t k >>> (64 - lg)) == 0

/-- R124: an engine at the start of a task instance. -/
def freshEngine (r : Run) (n t k ld phys codeBytes entry : Nat) (args : List Byte) (sampled : Bool) : Engine :=
  ⟨r.ctx, n, t, k, ld, phys, codeBytes, args, entry, [], [], [], [], true, 0, [], [], [], [], [], none, [], sampled, 0, 0, false, false, none⟩

/-- The cores of an engine at a start: what their stores and tiles hold is a free value of the start's number; a bad mark stays (R118). -/
def freshCores (e : Eng) (num : Nat) (s : State) : State :=
  { s with core := (List.range 64).foldl (fun m c =>
      let k := engKey e * 64 + c
      let old := (sget? m k).getD ⟨[], [], [], none, false, false, []⟩
      sput m k ⟨[], [], [], some (num * 64 + c), !e.shadow && old.bad0, !e.shadow && old.bad1, []⟩) s.core }

/-- The shadow's cluster memory reads as the instance's does at the start (R152). -/
def copyCluster (e : Eng) (s : State) : State :=
  let a := clKey e.die e.cl false 0
  let b := clKey e.die e.cl true 0
  { s with mem := { s.mem with bytes := scopy s.mem.bytes b a 196608, bad := scopy s.mem.bad (b / 64) (a / 64) 3072 } }

/-- The instance of region index k starts on its cluster, with its shadow where it is selected and a leap cluster is idle (R152). -/
def startInstance (n : Nat) (r : Run) (t : Nat) (kn : Kernel) (args : List Byte) (s : State) (x : Nat × Nat × Nat × Nat) : State :=
  let (k, ld, d, cl) := x
  let e : Eng := ⟨d, cl, false⟩
  let sel := octaveSelected s d r t k
  let idle := idleLeaps s d
  let sh := sel && !idle.isEmpty && (eng? s (twinEng e)).isNone && (sget? s.oct (engKey e)).isNone
  let s1 := freshCores e s.free (setEng e (freshEngine r n t k ld (physCl s d cl) kn.bytes kn.entry args sh) (useFree s))
  if sh then
    let p := idle.getD (Config.shadowPick s1.free idle.length % idle.length) 0
    let s1 := copyCluster e s1
    count1 .cdieVecOctaveSampled_count d (freshCores (twinEng e) s1.free (setEng (twinEng e) (freshEngine r n t k ld p kn.bytes kn.entry args true) (useFree s1)))
  else if sel then count1 .cdieVecOctaveSkipCount_count d s1
  else s1

/-- The task can start now (R43). -/
def startable (s : State) (n : Nat) (r : Run) (t : Nat) : Bool :=
  let g := runGraph s r
  r.fault.isNone && taskSt r t == .waiting && tallyOf g r t == 0 && !skippable g r t && regionFree s n r t &&
  (g.tasks[t]?).elim false (fun x => x.kind != 2) && (ctx? s r.ctx).elim false (fun c => !c.held && c.teardown.isNone)

/-- A task starts: code and arguments are read under the context's window (R35, R169), every cluster begins in the state of R124, and the
STREAM edges of the task count (R42). -/
def startTask (n t : Nat) (s : State) : State :=
  match run? s n with
  | none => s
  | some r =>
    if !startable s n r t then s
    else
      let g := runGraph s r
      match g.tasks[t]? with
      | none => s
      | some tk =>
        let kn := (g.kernels[tk.kernel]?).getD ⟨0, 0, 0⟩
        let code := ctxRead r.ctx kn.code kn.bytes s
        let args := ctxRead r.ctx tk.argAddr tk.argBytes code.2
        let s1 := reportAll 1 r.ctx t r.mb (code.1.bad ++ args.1.bad) args.2
        let r' := (outEdges g t).foldl (fun r x => if x.1.kind = 1 then countEdge g r x.1 x.2 else r) (r.setTask t .running)
        let s2 := progress n (stageStart n t tk.cls (leaveIdle ((taskClusters s r t).foldl (startInstance n r t kn args.1.bytes) (setRun n r' s1))))
        if (code.1.bad ++ args.1.bad).isEmpty || !r.stepFlag then s2 else stepFault r.ctx r.mb s2

/-- The admitted run of a context with a number. -/
def runIs (s : State) (c n : Nat) : Bool := (run? s n).elim false (fun r => r.ctx == c)

/-! ### Completing tasks (R45) -/

/-- The engines of a task, with their keys. -/
def taskEngines (s : State) (n t : Nat) : List (Nat × Engine) :=
  s.eng.filter (fun x => x.2.run == n && x.2.task == t && x.1 % 2 == 0)

/-- A slot holds nothing that the instance has still to release. -/
def slotFree : Slot → Bool
  | .free => true
  | .full _ _ _ rel => rel.testBit 0
  | _ => false

/-- R45: the three conditions of completion. -/
def taskFinished (s : State) (n : Nat) (r : Run) (t : Nat) : Bool :=
  let g := runGraph s r
  taskSt r t == .running && r.fault.isNone && (taskEngines s n t).all (fun x => x.2.ended) &&
  (outEdges g t).all (fun x => !x.1.data || (edgeClosed g r x.1 x.2 && (streamOf r x.2).flying.isEmpty && (streamOf r x.2).waiting.isEmpty)) &&
  (inEdges g t).all (fun x => !x.1.data || (edgeClosed g r x.1 x.2 && (svals (streamOf r x.2).slots).all slotFree))

/-- R45: a task completes; its clusters are free again, and a sampled instance stays only for its comparison. -/
def completeTask (n t : Nat) (s : State) : State :=
  match run? s n with
  | none => s
  | some r =>
    if !taskFinished s n r t then s
    else
      let g := runGraph s r
      let keep := (taskEngines s n t).filter (fun x => x.2.sampled)
      let s := stageDone n t s
      let s1 := dropEngines (fun k x => x.run == n && x.task == t && k % 2 == 0)
        { s with oct := keep.foldl (fun m x => sput m x.1 x.2) s.oct }
      let r' := endEdges g (r.setTask t .completed) t false
      progress n (notifyTask r' t false (setRun n r' s1))

end Sys2Proof.Machine
end

