-- ==== Sys2Proof/Machine/Operands.lean ====
section
/-! DEFINITION. Operand forms of the vector engine and of the MTX class: registers, masks, unused fields, traps, and how an instruction
leaves its engine (R123 to R127, R135). -/

namespace Sys2Proof.Machine

/-! ### Registers (R123) -/

/-- A scalar register; s0 reads zero. -/
def Engine.s (x : Engine) (r : BitVec 5) : Word64 := if r = 0 then 0 else sget 0 x.sr r.toNat

/-- A scalar register written; a write of s0 is discarded. -/
def Engine.setS (x : Engine) (r : BitVec 5) (v : Word64) : Engine := if r = 0 then x else { x with sr := sset 0 x.sr r.toNat v }

/-- A lane of a vector register. -/
def Engine.lane (x : Engine) (r : BitVec 5) (i : Nat) : Word32 := sget 0 x.v (r.toNat * 64 + i)

/-- The lanes of a vector register for which there is a new word, written. -/
def Engine.setLanes (x : Engine) (r : BitVec 5) (f : Nat → Option Word32) : Engine :=
  { x with v := (List.range 64).foldl (fun m i => match f i with | some w => sset 0 m (r.toNat * 64 + i) w | none => m) x.v }

/-- A mask register. -/
def Engine.mask (x : Engine) (r : Nat) : BitVec 64 := sget (BitVec.allOnes 64) x.m r

/-- A mask register written. -/
def Engine.setMask (x : Engine) (r : Nat) (v : BitVec 64) : Engine := { x with m := sset (BitVec.allOnes 64) x.m r v }

/-- A lane of a wide accumulator. -/
def Engine.wide (x : Engine) (r i : Nat) : FVal := sget FVal.zero x.wa (r * 64 + i)

/-- Lanes of a wide accumulator written. -/
def Engine.setWide (x : Engine) (r : Nat) (f : Nat → Option FVal) : Engine :=
  { x with wa := (List.range 64).foldl (fun m i => match f i with | some w => sset FVal.zero m (r * 64 + i) w | none => m) x.wa }

/-- Flags set, where they stay (R136). -/
def Engine.flag (x : Engine) (f : BitVec 5) : Engine := { x with vflags := x.vflags ||| f }

/-! ### Unused fields and traps (R127, R135) -/

/-- The fields of format V that an operation uses: rounding, saturation, d, a, c, s[ss], imm, the mask, operand b as a vector with
broadcast, and b as a plain field. -/
structure UseV where
  rnd : Bool := false
  sat : Bool := false
  type : Bool := false
  d : Bool := false
  a : Bool := false
  bv : Bool := false
  b : Bool := false
  c : Bool := false
  ss : Bool := false
  imm : Bool := false
  mkb : Bool := false
  mr : Bool := false
deriving DecidableEq, Repr

/-- Every unused field of format V is zero, and the type and rounding codes exist. -/
def vOk (f : FmtV) (u : UseV) : Bool :=
  decide (f.type.toNat ≤ 5) && decide (f.rnd.toNat ≤ 1) && (u.rnd || f.rnd == 0) && (u.sat || f.sat == 0) && (u.type || f.type == 0) &&
  (u.d || f.d == 0) && (u.a || f.a == 0) && (u.c || f.c == 0) && (u.imm || f.imm == 0) && (u.mkb || f.mkb == 0) &&
  (u.mr || (u.mkb && f.mkb == 1) || f.mr == 0) && (u.bv || f.bs == 0) && (u.b || (u.bv && f.bs == 0) || f.b == 0) &&
  (u.ss || (u.bv && f.bs == 1) || f.ss == 0)

/-- A field that names one of eight registers has no higher bit set. -/
def low8 (r : BitVec 5) : Bool := decide (r.toNat < 8)

/-- A lane is active (R127). -/
def Engine.active (x : Engine) (f : FmtV) (i : Nat) : Bool := f.mkb == 0 || (x.mask f.mr.toNat).getLsbD i

/-- Operand b of a lane: the vector register, or s[ss] in every lane (R127). -/
def Engine.opB (x : Engine) (f : FmtV) (i : Nat) : Word32 := if f.bs = 1 then (x.s f.ss).truncate 32 else x.lane f.b i

/-! ### How an instruction ends -/

/-- What an instruction does to its engine: it goes on with the next one, jumps, stalls, or traps with a fault code. The second part is
its effect on everything else. -/
inductive EStep where
  | next (x : Engine) (post : State → State)
  | jump (x : Engine) (pc : Nat)
  | stall (x : Engine) (post : State → State)
  | trap (code : Nat)

/-- R135, R48, R156: an instruction faults. The instance's run stops; a shadow's fault only enters the comparison. -/
def trapEng (e : Eng) (code : Nat) (s : State) : State :=
  match eng? s e with
  | none => s
  | some x =>
    let s1 := setEng e { x with trap := some (code, x.pc), ended := true, stall := none } s
    let s2 := if code = 0x25 then count1 .cdieVecTrapCount_count e.die s1 else s1
    if e.shadow then s2 else runFault x.run code x.task s2

/-- An engine executes an instruction: it must run a kernel and not be stalled by another instruction; a fetch at or beyond the end of the
code traps (R135). -/
def engRunAs (i : Option Instr) (e : Eng) (body : Engine → State → EStep) (s : State) : State :=
  match eng? s e with
  | none => s
  | some x =>
    if x.ended || (x.stall.isSome && x.stall != i) then s
    else if x.codeBytes < x.pc + 8 then trapEng e 0x25 s
    else
      match body { x with stall := none } s with
      | .next y post => post (setEng e { y with pc := y.pc + 8 } s)
      | .jump y pc => setEng e { y with pc := pc } s
      | .stall y post => post (setEng e { y with stall := i } s)
      | .trap code => trapEng e code s

/-- The same for an instruction that may stall. -/
def engRun (i : Instr) (e : Eng) (body : Engine → State → EStep) (s : State) : State := engRunAs (some i) e body s

/-- An instruction that changes its engine's registers only; `none` is a trap with fault code 0x25. -/
def engPure (i : Instr) (e : Eng) (body : Engine → Option Engine) (s : State) : State :=
  engRun i e (fun x _ => match body x with | some y => .next y id | none => .trap 0x25) s

/-- A condition of execution. -/
def need (b : Bool) (x : Engine) : Option Engine := if b then some x else none

/-! ### What a kernel learns of its task -/

/-- The run of an engine. -/
def Engine.runOf (x : Engine) (s : State) : Option Run := run? s x.run

/-- The graph of an engine. -/
def Engine.graphOf (x : Engine) (s : State) : Graph := (x.runOf s).elim ⟨0, [], [], [], []⟩ (runGraph s)

/-- The task descriptor of an engine. -/
def Engine.taskOf (x : Engine) (s : State) : Option Task := (x.graphOf s).tasks[x.task]?

/-- The STREAM edge of an output port. -/
def Engine.outPort (x : Engine) (s : State) (p : Nat) : Option (Edge × Nat) :=
  (outEdges (x.graphOf s) x.task).find? (fun y => y.1.kind == 1 && y.1.srcPort == p)

/-- The ROUTED edge of a route. -/
def Engine.routeEdge (x : Engine) (s : State) (r : Nat) : Option (Edge × Nat) :=
  (outEdges (x.graphOf s) x.task).find? (fun y => y.1.kind == 2 && y.1.route == r)

/-- The incoming data edge of an input port. -/
def Engine.inPort (x : Engine) (s : State) (p : Nat) : Option (Edge × Nat) :=
  (inEdges (x.graphOf s) x.task).find? (fun y => y.1.data && y.1.dstPort == p)

/-- STEP: the step number of the run's record, 0 without the step flag. -/
def Engine.step (x : Engine) (s : State) : Nat := (x.runOf s).elim 0 (·.step)

/-- The element index and the logical position of an engine's cluster (Table 6.2). -/
def Engine.logCl (x : Engine) (s : State) : Nat :=
  ((x.taskOf s).bind (fun t => (x.graphOf s).regions[t.region]?)).elim 0 (fun r => (regionAt r x.k).2)

/-! ### Cluster memory -/

/-- Bytes of an engine's cluster memory. -/
def clRead (s : State) (e : Eng) (a n : Nat) : List Byte := sgetN 0 s.mem.bytes (clKey e.die e.cl e.shadow a) n

/-- Lines of a range of cluster memory that do not read back. -/
def clBad (s : State) (e : Eng) (a n : Nat) : Bool :=
  (linesOf a n).any (fun p => sget 0 s.mem.bad (clKey e.die e.cl e.shadow p.1 / 64) != 0)

/-- Bytes of an engine's cluster memory as they reach a reader: a bad line is poison (R160). -/
def clPeek (s : State) (e : Eng) (a n : Nat) : List Byte :=
  (linesOf a n).flatMap (fun p => (keyRead s (clKey e.die e.cl e.shadow p.1) p.2 p.1).bytes)

/-- R335: the rows of a range with an uncorrectable word are copied into spare rows, the word as poison. -/
def spareRows (e : Eng) (phys a n : Nat) (s : State) : State :=
  (linesOf a n).foldl (fun s p =>
    let k := clKey e.die e.cl e.shadow p.1 / 64
    if sget 0 s.mem.bad k = 2 then
      spareRow e.die phys (p.1 / 256) 2 { s with mem := { s.mem with bad := sset 0 s.mem.bad k 1 } }
    else s) s

/-- An uncorrectable word of cluster memory reached a reader: the events, the count, the record, the spare row, and the step fault
(R160, R335). -/
def clReport (reader : Nat) (e : Eng) (a n : Nat) (s : State) : State :=
  if !clBad s e a n then s
  else
    match eng? s e with
    | none => s
    | some x =>
      let mb := (run? s x.run).elim 0xFFFF (·.mb)
      let det := uncorrDetail 1 0 e.die 0xFF x.phys 0xFF reader a x.task mb (Config.tjNow s.free)
      markBad e (spareRows e x.phys a n (count1 .cdieMemSramUncorrCount_count e.die
        (almDetection 0x0701 (0x10 + e.die) x.ctx det (raiseBoth 0x0701 (0x10 + e.die) x.ctx det (useFree s)))))

/-- What a tray read of an engine leaves behind: violations counted, poison reported and the step fault raised (R160, R170, R172). -/
def trayReport (reader : Nat) (e : Eng) (r : Rd) (s : State) : State :=
  match eng? s e with
  | none => s
  | some x =>
    let mb := (run? s x.run).elim 0xFFFF (·.mb)
    let s1 := reportAll reader x.ctx x.task mb r.bad (countViol x.ctx r.viol s)
    if r.bad.isEmpty then s1 else markBad e s1

/-- Bytes of an engine's cluster memory written. -/
def clWrite (e : Eng) (a : Nat) (b : List Byte) (s : State) : State :=
  (linesOf a b.length).foldl (fun s p => keyWrite (clKey e.die e.cl e.shadow p.1) ((b.drop (p.1 - a)).take p.2) s) s

/-- Size of cluster memory. -/
def clSize : Nat := 196608

end Sys2Proof.Machine
end

