-- ==== Sys2Proof/Machine/Vector.lean ====
section
/-! DEFINITION. Vector arithmetic, comparisons, masks and vector memory (R130 to R132). -/

namespace Sys2Proof.Machine

/-! ### Elements (R127) -/

/-- The element types: FP32, packed BF16, packed FP16, INT32, packed INT16, UINT32. -/
inductive ElTy where
  | f32 | bf | hf | i32 | i16 | u32
deriving DecidableEq, Repr

/-- The type of a type field; 6 and 7 trap. -/
def elTy : Nat → Option ElTy
  | 0 => some .f32
  | 1 => some .bf
  | 2 => some .hf
  | 3 => some .i32
  | 4 => some .i16
  | 5 => some .u32
  | _ => none

/-- A floating-point type. -/
def ElTy.float : ElTy → Bool
  | .f32 | .bf | .hf => true
  | _ => false

/-- The two halves of a lane put through an operation on 16-bit elements, with the flags of both. -/
def halves (op : Nat → Fl Nat) : Fl Word32 :=
  let lo := op 0
  let hi := op 16
  (BitVec.ofNat 32 (lo.1 % 65536 + 65536 * (hi.1 % 65536)), lo.2 ||| hi.2)

/-- A floating-point element read: FP32 subnormals read as zero of their sign when ftz is set (R93). -/
def readF (f : Fmt) (ftz : Bool) (v : Nat) : FVal :=
  match decodeFmt f v with
  | .fin n m e => if ftz && f.bits == 32 && f.special == .ieee && decide (m < 2 ^ 23) then .fin n 0 0 else .fin n m e
  | x => x

/-- What an operation needs besides its operands. -/
structure VMode where
  rnd : Rnd
  sat : Bool
  ftz : Bool
deriving DecidableEq, Repr

/-- The format of a floating-point type. -/
def ElTy.fmt : ElTy → Fmt
  | .bf => bf16
  | .hf => fp16
  | _ => fp32

/-- A floating-point result of a type: FP32 flushes with ftz, the packed types keep gradual underflow (R130). -/
def outF (t : ElTy) (md : VMode) (x : FVal) : Fl Nat := resolve t.fmt md.rnd md.sat md.ftz false x

/-- An integer result of `w` bits: wrapped, or saturated (R127). -/
def outI (w : Nat) (signed : Bool) (sat : Bool) (z : Int) : Nat :=
  let lo : Int := if signed then -(2 ^ (w - 1) : Nat) else 0
  let hi : Int := if signed then (2 ^ (w - 1) : Nat) - 1 else (2 ^ w : Nat) - 1
  (BitVec.ofInt w (if sat then max lo (min hi z) else z)).toNat

/-- An integer element. -/
def readI (w : Nat) (signed : Bool) (v : Nat) : Int := if signed then (BitVec.ofNat w v).toInt else ((v % 2 ^ w : Nat) : Int)

/-- An elementwise operation on up to three operands: on exact values for the floating-point types, on integers for the others. -/
structure ElOp where
  f : FVal → FVal → FVal → FVal
  i : Int → Int → Int → Int

/-- One element at bit `o` of the operand lanes. -/
def elOp (op : ElOp) (t : ElTy) (md : VMode) (a b c : Word32) (o : Nat) : Fl Nat :=
  let p := fun (w : Word32) => w.toNat / 2 ^ o
  if t.float then outF t md (op.f (readF t.fmt md.ftz (p a)) (readF t.fmt md.ftz (p b)) (readF t.fmt md.ftz (p c)))
  else
    let w := if t = .i16 then 16 else 32
    let sg := t != .u32
    (outI w sg md.sat (op.i (readI w sg (p a)) (readI w sg (p b)) (readI w sg (p c))), 0)

/-- One lane. -/
def laneOp (op : ElOp) (t : ElTy) (md : VMode) (a b c : Word32) : Fl Word32 :=
  match t with
  | .bf | .hf | .i16 => halves (elOp op t md a b c)
  | _ => let r := elOp op t md a b c 0; (BitVec.ofNat 32 r.1, r.2)

/-- The rounding direction of a rnd field outside VCVT. -/
def vRnd (f : FmtV) : Rnd := if f.rnd = 1 then .zero else .near

/-! ### Values of the operations (Table 6.6) -/

/-- A product and a sum; whether zero times infinity plus a quiet NaN is invalid is the implementation's (log entry 12). -/
def fmaX (a b c : FVal) : FVal :=
  match mulX a b, c with
  | .nan true, .nan false => if isSig a || isSig b || Config.fmaInvalid then .nan true else .nan false
  | p, c => addX p c

/-- The smaller of two values; a NaN operand gives a NaN. -/
def minX (a b : FVal) : FVal := if isNaN a || isNaN b then .nan (isSig a || isSig b) else if ltZ b a then b else a

/-- The larger of two values. -/
def maxX (a b : FVal) : FVal := if isNaN a || isNaN b then .nan (isSig a || isSig b) else if ltZ a b then b else a

/-- The magnitude. -/
def absX : FVal → FVal
  | .nan x => .nan x
  | .inf _ => .inf false
  | .fin _ m e => .fin false m e

/-! ### Running over the lanes -/

/-- New words and flags for the active lanes of destination d (R127). -/
def lanesTo (x : Engine) (f : FmtV) (g : Nat → Fl Word32) : Engine :=
  let r := (List.range 64).map (fun i => (g i, x.active f i))
  let fl := r.foldl (fun a y => if y.2 then a ||| y.1.2 else a) 0
  (x.setLanes f.d (fun i => match r[i]? with | some y => if y.2 then some y.1.1 else none | none => none)).flag fl

/-- Whether rnd and sat are used by the arithmetic operations on a type: rnd only on floating point (R130). -/
def arithUse (t : ElTy) : UseV := { rnd := t.float, sat := true, type := true, d := true, a := true, bv := true, mkb := true }

/-- An arithmetic operation of two operands. -/
def vArith2 (i : Instr) (e : Eng) (f : FmtV) (op : ElOp) (s : State) : State :=
  engPure i e (fun x => (elTy f.type.toNat).bind (fun t =>
    if vOk f (arithUse t) then some (lanesTo x f (fun k => laneOp op t ⟨vRnd f, f.sat = 1, x.ftz⟩ (x.lane f.a k) (x.opB f k) 0)) else none)) s

/-- An arithmetic operation of three operands. -/
def vArith3 (i : Instr) (e : Eng) (f : FmtV) (op : ElOp) (s : State) : State :=
  engPure i e (fun x => (elTy f.type.toNat).bind (fun t =>
    if vOk f { arithUse t with c := true } then
      some (lanesTo x f (fun k => laneOp op t ⟨vRnd f, f.sat = 1, x.ftz⟩ (x.lane f.a k) (x.opB f k) (x.lane f.c k)))
    else none)) s

/-- VMIN and VMAX: rounding and saturation are unused. -/
def vPick (i : Instr) (e : Eng) (f : FmtV) (op : ElOp) (s : State) : State :=
  engPure i e (fun x => (elTy f.type.toNat).bind (fun t =>
    if vOk f { type := true, d := true, a := true, bv := true, mkb := true } then
      some (lanesTo x f (fun k => laneOp op t ⟨.near, false, x.ftz⟩ (x.lane f.a k) (x.opB f k) 0))
    else none)) s

/-- VABS and VNEG: sat is used on the integer types. -/
def vUnary (i : Instr) (e : Eng) (f : FmtV) (op : ElOp) (s : State) : State :=
  engPure i e (fun x => (elTy f.type.toNat).bind (fun t =>
    if vOk f { sat := !t.float, type := true, d := true, a := true, mkb := true } then
      some (lanesTo x f (fun k => laneOp op t ⟨.near, f.sat = 1, x.ftz⟩ (x.lane f.a k) 0 0))
    else none)) s

/-- An operation on whole 32-bit lanes, on the types for which `ty` holds. -/
def vBits (i : Instr) (e : Eng) (f : FmtV) (ty : Nat → Bool) (op : Word32 → Word32 → Word32) (s : State) : State :=
  engPure i e (fun x =>
    if ty f.type.toNat && vOk f { type := true, d := true, a := true, bv := true, mkb := true } then
      some (lanesTo x f (fun k => (op (x.lane f.a k) (x.opB f k), 0)))
    else none) s

/-- The types of the shifts. -/
def shiftTy (t : Nat) : Bool := t == 3 || t == 5

/-- R130: VADD. -/
def execVadd (e : Eng) (f : FmtV) (s : State) : Out :=
  .next (vArith2 (.vadd e f) e f ⟨fun a b _ => addX a b, fun a b _ => a + b⟩ s)

/-- R130: VSUB. -/
def execVsub (e : Eng) (f : FmtV) (s : State) : Out :=
  .next (vArith2 (.vsub e f) e f ⟨fun a b _ => addX a (negX b), fun a b _ => a - b⟩ s)

/-- R130: VMUL. -/
def execVmul (e : Eng) (f : FmtV) (s : State) : Out :=
  .next (vArith2 (.vmul e f) e f ⟨fun a b _ => mulX a b, fun a b _ => a * b⟩ s)

/-- R130: VFMA rounds once. -/
def execVfma (e : Eng) (f : FmtV) (s : State) : Out :=
  .next (vArith3 (.vfma e f) e f ⟨fun a b c => fmaX a b c, fun a b c => a * b + c⟩ s)

/-- R130: VFMS rounds once. -/
def execVfms (e : Eng) (f : FmtV) (s : State) : Out :=
  .next (vArith3 (.vfms e f) e f ⟨fun a b c => fmaX a b (negX c), fun a b c => a * b - c⟩ s)

/-- R130: VMIN. -/
def execVmin (e : Eng) (f : FmtV) (s : State) : Out :=
  .next (vPick (.vmin e f) e f ⟨fun a b _ => minX a b, fun a b _ => min a b⟩ s)

/-- R130: VMAX. -/
def execVmax (e : Eng) (f : FmtV) (s : State) : Out :=
  .next (vPick (.vmax e f) e f ⟨fun a b _ => maxX a b, fun a b _ => max a b⟩ s)

/-- R130: VABS. -/
def execVabs (e : Eng) (f : FmtV) (s : State) : Out :=
  .next (vUnary (.vabs e f) e f ⟨fun a _ _ => absX a, fun a _ _ => (a.natAbs : Int)⟩ s)

/-- R130: VNEG. -/
def execVneg (e : Eng) (f : FmtV) (s : State) : Out :=
  .next (vUnary (.vneg e f) e f ⟨fun a _ _ => negX a, fun a _ _ => -a⟩ s)

/-- R130: VAND, on whole lanes. -/
def execVand (e : Eng) (f : FmtV) (s : State) : Out :=
  .next (vBits (.vand e f) e f (fun _ => true) (fun a b => a &&& b) s)

/-- R130: VOR, on whole lanes. -/
def execVor (e : Eng) (f : FmtV) (s : State) : Out :=
  .next (vBits (.vor e f) e f (fun _ => true) (fun a b => a ||| b) s)

/-- R130: VXOR, on whole lanes. -/
def execVxor (e : Eng) (f : FmtV) (s : State) : Out :=
  .next (vBits (.vxor e f) e f (fun _ => true) (fun a b => a ^^^ b) s)

/-- R130: VSHL. -/
def execVshl (e : Eng) (f : FmtV) (s : State) : Out :=
  .next (vBits (.vshl e f) e f shiftTy (fun a b => a <<< (b.toNat % 32)) s)

/-- R130: VSHR. -/
def execVshr (e : Eng) (f : FmtV) (s : State) : Out :=
  .next (vBits (.vshr e f) e f shiftTy (fun a b => a >>> (b.toNat % 32)) s)

/-- R130: VSAR. -/
def execVsar (e : Eng) (f : FmtV) (s : State) : Out :=
  .next (vBits (.vsar e f) e f shiftTy (fun a b => a.sshiftRight (b.toNat % 32)) s)

/-- R130: VSEL takes a where the mask bit is 1, else b, in every lane; mk is ignored. -/
def execVsel (e : Eng) (f : FmtV) (s : State) : Out :=
  .next (engPure (.vsel e f) e (fun x =>
    if vOk f { type := true, d := true, a := true, bv := true, mkb := true, mr := true } then
      some (x.setLanes f.d (fun k => some (if (x.mask f.mr.toNat).getLsbD k then x.lane f.a k else x.opB f k)))
    else none) s)

/-- R130: VMOV. -/
def execVmov (e : Eng) (f : FmtV) (s : State) : Out :=
  .next (engPure (.vmov e f) e (fun x =>
    if vOk f { type := true, d := true, a := true, mkb := true } then some (lanesTo x f (fun k => (x.lane f.a k, 0))) else none) s)

/-- R130: VLANE, on INT32. -/
def execVlane (e : Eng) (f : FmtV) (s : State) : Out :=
  .next (engPure (.vlane e f) e (fun x =>
    if f.type = 3 && vOk f { type := true, d := true, mkb := true } then some (lanesTo x f (fun k => (BitVec.ofNat 32 k, 0))) else none) s)

/-- R130: VPERM. -/
def execVperm (e : Eng) (f : FmtV) (s : State) : Out :=
  .next (engPure (.vperm e f) e (fun x =>
    if vOk f { type := true, d := true, a := true, bv := true, mkb := true } then
      some (lanesTo x f (fun k => (x.lane f.a ((x.opB f k).toNat % 64), 0)))
    else none) s)

/-- R130: VBCAST. -/
def execVbcast (e : Eng) (f : FmtV) (s : State) : Out :=
  .next (engPure (.vbcast e f) e (fun x =>
    if vOk f { type := true, d := true, ss := true, mkb := true } then some (lanesTo x f (fun _ => ((x.s f.ss).truncate 32, 0))) else none) s)

/-- R130: VGET writes a scalar register, so it uses no mask; the bits of imm above the lane number must be zero. -/
def execVget (e : Eng) (f : FmtV) (s : State) : Out :=
  .next (engPure (.vget e f) e (fun x =>
    if vOk f { type := true, d := true, a := true, imm := true } && decide (f.imm.toNat < 64) then
      some (x.setS f.d ((x.lane f.a f.imm.toNat).zeroExtend 64))
    else none) s)

/-- R130: VPUT; a masked-off lane is not written. -/
def execVput (e : Eng) (f : FmtV) (s : State) : Out :=
  .next (engPure (.vput e f) e (fun x =>
    if vOk f { type := true, d := true, ss := true, imm := true, mkb := true } && decide (f.imm.toNat < 64) then
      some (x.setLanes f.d (fun k => if k = f.imm.toNat && x.active f k then some ((x.s f.ss).truncate 32) else none))
    else none) s)

/-! ### Comparisons and masks (R131) -/

/-- A comparison of two values: its truth, and whether it is an ordered one, which a NaN makes invalid. -/
structure CmpOp where
  f : FVal → FVal → Bool
  i : Int → Int → Bool
  ordered : Bool

/-- One lane of a comparison. -/
def cmpLane (op : CmpOp) (t : ElTy) (ftz : Bool) (a b : Word32) : Bool × BitVec 5 :=
  if t.float then
    let p := readF fp32 ftz a.toNat
    let q := readF fp32 ftz b.toNat
    (op.f p q, if isSig p || isSig q || (op.ordered && (isNaN p || isNaN q)) then fNV else 0)
  else
    let sg := t != .u32
    (op.i (readI 32 sg a.toNat) (readI 32 sg b.toNat), 0)

/-- A 64-bit mask from its bits. -/
def maskOf (f : Nat → Bool) : BitVec 64 := BitVec.ofNat 64 (((List.range 64).map (fun i => if f i then 2 ^ i else 0)).sum)

/-- A comparison writes m[d]; a masked-off lane writes 0 and raises no flag. -/
def vCmp (i : Instr) (e : Eng) (f : FmtV) (op : CmpOp) (s : State) : State :=
  engPure i e (fun x => (elTy f.type.toNat).bind (fun t =>
    if [0, 3, 5].contains f.type.toNat && vOk f { type := true, d := true, a := true, bv := true, mkb := true } && low8 f.d then
      let r := (List.range 64).map (fun k => (cmpLane op t x.ftz (x.lane f.a k) (x.opB f k), x.active f k))
      some ((x.setMask f.d.toNat (maskOf (fun k => (r[k]?).elim false (fun y => y.2 && y.1.1)))).flag
        (r.foldl (fun a y => if y.2 then a ||| y.1.2 else a) 0))
    else none)) s

/-- R131: EQ. -/
def execEq (e : Eng) (f : FmtV) (s : State) : Out :=
  .next (vCmp (.eq e f) e f ⟨fun a b => eqX a b, fun a b => a == b, false⟩ s)

/-- R131: NE. -/
def execNe (e : Eng) (f : FmtV) (s : State) : Out :=
  .next (vCmp (.ne e f) e f ⟨fun a b => !eqX a b, fun a b => a != b, false⟩ s)

/-- R131: LT. -/
def execLt (e : Eng) (f : FmtV) (s : State) : Out :=
  .next (vCmp (.lt e f) e f ⟨fun a b => ltX a b, fun a b => decide (a < b), true⟩ s)

/-- R131: LE. -/
def execLe (e : Eng) (f : FmtV) (s : State) : Out :=
  .next (vCmp (.le e f) e f ⟨fun a b => !isNaN a && !isNaN b && !ltX b a, fun a b => decide (a ≤ b), true⟩ s)

/-- R131: GT. -/
def execGt (e : Eng) (f : FmtV) (s : State) : Out :=
  .next (vCmp (.gt e f) e f ⟨fun a b => ltX b a, fun a b => decide (b < a), true⟩ s)

/-- R131: GE. -/
def execGe (e : Eng) (f : FmtV) (s : State) : Out :=
  .next (vCmp (.ge e f) e f ⟨fun a b => !isNaN a && !isNaN b && !ltX a b, fun a b => decide (b ≤ a), true⟩ s)

/-- R131: UN: either operand is a NaN. -/
def execUn (e : Eng) (f : FmtV) (s : State) : Out :=
  .next (vCmp (.un e f) e f ⟨fun a b => isNaN a || isNaN b, fun _ _ => false, false⟩ s)

/-- A mask operation: masked-off lanes keep their bit of m[d]. -/
def vMask (i : Instr) (e : Eng) (f : FmtV) (u : UseV) (op : Engine → BitVec 64) (s : State) : State :=
  engPure i e (fun x =>
    if vOk f { u with d := true, mkb := true } && low8 f.d && low8 f.a && low8 f.b then
      some (x.setMask f.d.toNat (maskOf (fun k => if x.active f k then (op x).getLsbD k else (x.mask f.d.toNat).getLsbD k)))
    else none) s

/-- R131: MAND. -/
def execMand (e : Eng) (f : FmtV) (s : State) : Out :=
  .next (vMask (.mand e f) e f { a := true, b := true } (fun x => x.mask f.a.toNat &&& x.mask f.b.toNat) s)

/-- R131: MOR. -/
def execMor (e : Eng) (f : FmtV) (s : State) : Out :=
  .next (vMask (.mor e f) e f { a := true, b := true } (fun x => x.mask f.a.toNat ||| x.mask f.b.toNat) s)

/-- R131: MXOR. -/
def execMxor (e : Eng) (f : FmtV) (s : State) : Out :=
  .next (vMask (.mxor e f) e f { a := true, b := true } (fun x => x.mask f.a.toNat ^^^ x.mask f.b.toNat) s)

/-- R131: MNOT. -/
def execMnot (e : Eng) (f : FmtV) (s : State) : Out :=
  .next (vMask (.mnot e f) e f { a := true } (fun x => ~~~ x.mask f.a.toNat) s)

/-- R131: MFROMS. -/
def execMfroms (e : Eng) (f : FmtV) (s : State) : Out :=
  .next (vMask (.mfroms e f) e f { ss := true } (fun x => x.s f.ss) s)

/-- R131: MTOS writes a scalar and does not use mk. -/
def execMtos (e : Eng) (f : FmtV) (s : State) : Out :=
  .next (engPure (.mtos e f) e (fun x =>
    if vOk f { d := true, a := true } && low8 f.a then some (x.setS f.d (x.mask f.a.toNat)) else none) s)

/-! ### Vector memory (R132) -/

/-- The base of a vector access. -/
def vmBase (x : Engine) (f : FmtV) : Word64 := x.s f.ss + f.imm.zeroExtend 64

/-- The addresses of the active lanes; none where one is misaligned or outside cluster memory. -/
def vmAddrs (x : Engine) (f : FmtV) (off : Nat → Word64) : Option (List (Nat × Nat)) :=
  let l := ((List.range 64).filter (x.active f)).map (fun k => (k, (vmBase x f + off k).toNat))
  if l.all (fun y => y.2 % 4 == 0 && decide (y.2 + 4 ≤ clSize)) then some l else none

/-- A vector load. Words of bad lines are reported (R160). -/
def vLoad (i : Instr) (e : Eng) (f : FmtV) (u : UseV) (off : Engine → Nat → Word64) (s : State) : State :=
  engRun i e (fun x s =>
    match vmAddrs x f (off x) with
    | none => .trap 0x25
    | some l =>
      if vOk f { u with d := true, ss := true, imm := true, mkb := true } then
        .next (x.setLanes f.d (fun k => (l.find? (fun y => y.1 == k)).map (fun y => BitVec.ofNat 32 (leNat (clPeek s e y.2 4)))))
          (fun s => match l.find? (fun y => clBad s e y.2 4) with | some y => clReport 1 e y.2 4 s | none => s)
      else .trap 0x25) s

/-- A vector store, in lane order: of several lanes that name one address, the highest writes last. -/
def vStore (i : Instr) (e : Eng) (f : FmtV) (u : UseV) (off : Engine → Nat → Word64) (s : State) : State :=
  engRun i e (fun x _ =>
    match vmAddrs x f (off x) with
    | none => .trap 0x25
    | some l =>
      if vOk f { u with d := true, ss := true, imm := true, mkb := true } then
        .next x (fun s => l.foldl (fun s y => clWrite e y.2 (leBytes 4 (x.lane f.d y.1).toNat) s) s)
      else .trap 0x25) s

/-- Lane offset of VLD and VST. -/
def offUnit (_ : Engine) (k : Nat) : Word64 := BitVec.ofNat 64 (4 * k)

/-- Lane offset of VLDS and VSTS: i times s[b]. -/
def offStride (f : FmtV) (x : Engine) (k : Nat) : Word64 := BitVec.ofNat 64 k * x.s f.b

/-- Lane offset of VGATH and VSCAT: a[i]. -/
def offLane (f : FmtV) (x : Engine) (k : Nat) : Word64 := (x.lane f.a k).zeroExtend 64

/-- R132: VLD. -/
def execVld (e : Eng) (f : FmtV) (s : State) : Out :=
  .next (vLoad (.vld e f) e f {} offUnit s)

/-- R132: VST. -/
def execVst (e : Eng) (f : FmtV) (s : State) : Out :=
  .next (vStore (.vst e f) e f {} offUnit s)

/-- R132: VLDS. -/
def execVlds (e : Eng) (f : FmtV) (s : State) : Out :=
  .next (vLoad (.vlds e f) e f { b := true } (offStride f) s)

/-- R132: VSTS. -/
def execVsts (e : Eng) (f : FmtV) (s : State) : Out :=
  .next (vStore (.vsts e f) e f { b := true } (offStride f) s)

/-- R132: VGATH. -/
def execVgath (e : Eng) (f : FmtV) (s : State) : Out :=
  .next (vLoad (.vgath e f) e f { a := true } (offLane f) s)

/-- R132: VSCAT. -/
def execVscat (e : Eng) (f : FmtV) (s : State) : Out :=
  .next (vStore (.vscat e f) e f { a := true } (offLane f) s)

end Sys2Proof.Machine
end

