-- ==== Sys2Proof/Machine/Wide.lean ====
section
/-! DEFINITION. Wide-precision functions, the reduction tree and the wide accumulators (R138 to R141, R148 to R150). -/

namespace Sys2Proof.Machine

/-! ### Wide-precision functions (R148, R149) -/

/-- A function result: an exact or edge value with its flags, or a value that round48 has rounded. -/
inductive FunRes where
  | edge (x : FVal) (fl : BitVec 5)
  /-- round48 of the exact value, and whether it is that value. -/
  | wide (x : FVal) (exact : Bool)
  /-- The exact value is finite and beyond the wide form: too large or too small, with its sign. -/
  | huge (neg : Bool)
  | tiny (neg : Bool)
deriving DecidableEq, Repr

/-- round48 of an exact value as a function result. -/
def funOf (x : FVal) : FunRes :=
  match x, round48x x with
  | .fin n m _, (.inf _, _) => if m = 0 then .wide (.fin n 0 0) true else .huge n
  | .fin n m _, (.fin _ 0 _, _) => if m = 0 then .wide (.fin n 0 0) true else .tiny n
  | _, (y, ex) => .wide y ex

/-- The FP32 result: inexact unless it equals the exact value, underflow where it is tiny and inexact (R136, R148). -/
def funOut (ftz : Bool) : FunRes → Fl Nat
  | .edge x fl => let r := resolve fp32 .near false ftz false x; (r.1, r.2 ||| fl)
  | .huge n => (overflowRes fp32 .near false n, fOF ||| fNX)
  | .tiny n => (signBit fp32 n, fUF ||| fNX)
  | .wide (.fin n m e) exact =>
    let r := roundFloat fp32 .near false ftz n m e
    (r.1, r.2 ||| (if exact then 0 else if isTiny fp32 .near m e then fUF ||| fNX else fNX))
  | .wide x _ => resolve fp32 .near false ftz false x

/-- One. -/
def oneX : FVal := .fin false 1 0

/-- e^x. -/
def expFn : FVal → FunRes
  | .nan g => .edge (.nan g) 0
  | .inf n => .edge (if n then .fin false 0 0 else .inf false) 0
  | .fin n m e =>
    if m = 0 then .edge oneX 0
    else
      match exp48 n m e with
      | .inf _ => .huge false
      | .fin _ 0 _ => .tiny false
      | y => .wide y false

/-- ln x. -/
def logFn : FVal → FunRes
  | .nan g => .edge (.nan g) 0
  | .inf n => if n then .edge (.nan true) 0 else .edge (.inf false) 0
  | .fin n m e =>
    if m = 0 then .edge (.inf true) fDZ
    else if n then .edge (.nan true) 0
    else if eqX (.fin false m e) oneX then .edge (.fin false 0 0) 0
    else .wide (log48 m e) false

/-- 1 / sqrt x. -/
def rsqFn : FVal → FunRes
  | .nan g => .edge (.nan g) 0
  | .inf n => if n then .edge (.nan true) 0 else .edge (.fin false 0 0) 0
  | .fin n m e => if m = 0 then .edge (.inf n) fDZ else if n then .edge (.nan true) 0 else funOf (rsqrtX m e)

/-- a / b. -/
def divFn (a b : FVal) : FunRes :=
  match a, b with
  | .nan x, y => .edge (.nan (x || isSig y)) 0
  | x, .nan y => .edge (.nan (isSig x || y)) 0
  | .inf _, .inf _ => .edge (.nan true) 0
  | .inf x, .fin y _ _ => .edge (.inf (x != y)) 0
  | .fin x _ _, .inf y => .edge (.fin (x != y) 0 0) 0
  | .fin n1 m1 e1, .fin n2 m2 e2 =>
    if m2 = 0 then (if m1 = 0 then .edge (.nan true) 0 else .edge (.inf (n1 != n2)) fDZ)
    else if m1 = 0 then .edge (.fin (n1 != n2) 0 0) 0
    else funOf (divX n1 m1 e1 n2 m2 e2)

/-- A VFUN operation: type 0 with rnd 0. -/
def vFun (i : Instr) (e : Eng) (f : FmtV) (two : Bool) (fn : FVal → FVal → FunRes) (s : State) : State :=
  engPure i e (fun x =>
    if vOk f { d := true, a := true, bv := two, mkb := true } then
      some (lanesTo x f (fun k =>
        let r := funOut x.ftz (fn (readF fp32 x.ftz (x.lane f.a k).toNat) (readF fp32 x.ftz (if two then (x.opB f k).toNat else 0)))
        (BitVec.ofNat 32 r.1, r.2)))
    else none) s

/-- R148: VEXP. -/
def execVexp (e : Eng) (f : FmtV) (s : State) : Out :=
  .next (vFun (.vexp e f) e f false (fun a _ => expFn a) s)

/-- R148: VLOG. -/
def execVlog (e : Eng) (f : FmtV) (s : State) : Out :=
  .next (vFun (.vlog e f) e f false (fun a _ => logFn a) s)

/-- R148: VRSQ. -/
def execVrsq (e : Eng) (f : FmtV) (s : State) : Out :=
  .next (vFun (.vrsq e f) e f false (fun a _ => rsqFn a) s)

/-- R148: VDIV. -/
def execVdiv (e : Eng) (f : FmtV) (s : State) : Out :=
  .next (vFun (.vdiv e f) e f true divFn s)

/-- R148: VRCP. -/
def execVrcp (e : Eng) (f : FmtV) (s : State) : Out :=
  .next (vFun (.vrcp e f) e f false (fun a _ => divFn oneX a) s)

/-! ### The reduction tree (R138 to R140) -/

/-- A node of the tree: value and lane index; 64 marks a masked lane. -/
abbrev Node (α : Type) := α × Nat

/-- One level of the tree: neighbours combined, lower lanes on the left. -/
def treeLevel {α : Type} (comb : α → α → α) : List α → List α
  | a :: b :: l => comb a b :: treeLevel comb l
  | l => l

/-- `w` levels of the tree. -/
def tree {α : Type} (comb : α → α → α) : Nat → List α → List α
  | 0, l => l
  | w + 1, l => tree comb w (treeLevel comb l)

/-- The winner of MAX or MIN (R139): `lt a b` says that b beats a. -/
def pickNode (lt : FVal → FVal → Bool) (a b : Node FVal) : Node FVal :=
  if isNaN a.1 then (FVal.nan false, a.2)
  else if isNaN b.1 then (FVal.nan false, b.2)
  else if lt a.1 b.1 then b
  else if lt b.1 a.1 then a
  else if a.2 = 64 then b else a

/-- The winner on integers. -/
def pickInt (lt : Int → Int → Bool) (a b : Node Int) : Node Int :=
  if lt a.1 b.1 then b else if lt b.1 a.1 then a else if a.2 = 64 then b else a

/-- An FP32 addition of the tree with its flags: nodes hold an encoded word. -/
def sumNode (ftz : Bool) (a b : Fl Nat) : Fl Nat :=
  let r := resolve fp32 .near false ftz false (addX (readF fp32 ftz a.1) (readF fp32 ftz b.1))
  (r.1, r.2 ||| a.2 ||| b.2)

/-- A result of VRED: the value word, the lane index, the flags. -/
structure RedRes where
  val : Nat
  idx : Nat
  fl : BitVec 5
deriving DecidableEq, Repr

/-- Kinds of reduction. -/
inductive RedOp where
  | sum | max | min
deriving DecidableEq, Repr

/-- Lanes of an FP32 operand with their activity. -/
def redLanes (x : Engine) (f : FmtV) : List (Nat × Bool × Nat) :=
  (List.range 64).map (fun k => ((x.lane f.a k).toNat, x.active f k, k))

/-- Invalid for an active lane that holds a signalling NaN (R139). -/
def sigFlags (x : Engine) (f : FmtV) : BitVec 5 :=
  if (redLanes x f).any (fun l => l.2.1 && isSig (decodeFmt fp32 l.1)) then fNV else 0

/-- FP32 SUM, normal mode. -/
def redSumF (x : Engine) (f : FmtV) (w : Nat) : List RedRes :=
  (tree (sumNode x.ftz) w ((redLanes x f).map (fun l =>
    if l.2.1 then ((resolve fp32 .near false x.ftz false (quiet (readF fp32 x.ftz l.1))).1, 0) else (0x80000000, 0)))).map
    (fun r => ⟨r.1, 0, r.2⟩)

/-- FP32 SUM, wide mode. -/
def redSumW (x : Engine) (f : FmtV) (w : Nat) : List RedRes :=
  (tree (fun a b => round48 (addX a b)) w ((redLanes x f).map (fun l =>
    if l.2.1 then quiet (readF fp32 x.ftz l.1) else .fin true 0 0))).map
    (fun v => let r := wideToF32 x.ftz v; ⟨r.1, 0, r.2⟩)

/-- FP32 MAX or MIN. -/
def redPickF (x : Engine) (f : FmtV) (w : Nat) (mx : Bool) : List RedRes :=
  let lt := fun a b => if mx then ltZ a b else ltZ b a
  (tree (pickNode lt) w ((redLanes x f).map (fun l =>
    if l.2.1 then (quiet (readF fp32 x.ftz l.1), l.2.2) else (.inf mx, 64)))).map
    (fun n => ⟨(resolve fp32 .near false x.ftz false n.1).1, n.2, 0⟩)

/-- INT32 SUM: exact, saturated once at the end. -/
def redSumI (x : Engine) (f : FmtV) (w : Nat) : List RedRes :=
  (tree (fun (a b : Int) => a + b) w ((redLanes x f).map (fun l => if l.2.1 then readI 32 true l.1 else 0))).map
    (fun z => ⟨outI 32 true true z, 0, 0⟩)

/-- INT32 MAX or MIN. -/
def redPickI (x : Engine) (f : FmtV) (w : Nat) (mx : Bool) : List RedRes :=
  let lt := fun (a b : Int) => if mx then decide (a < b) else decide (b < a)
  (tree (pickInt lt) w ((redLanes x f).map (fun l =>
    if l.2.1 then (readI 32 true l.1, l.2.2) else (if mx then -2147483648 else 2147483647, 64)))).map
    (fun n => ⟨outI 32 true true n.1, n.2, 0⟩)

/-- The results of a reduction, one for each group. -/
def redAll (x : Engine) (f : FmtV) (op : RedOp) (w : Nat) (wide : Bool) : List RedRes :=
  match op, f.type == 0 with
  | .sum, true => if wide then redSumW x f w else redSumF x f w
  | .sum, false => redSumI x f w
  | .max, true => redPickF x f w true
  | .min, true => redPickF x f w false
  | .max, false => redPickI x f w true
  | .min, false => redPickI x f w false

/-- Layout of a scalar result (R140). -/
def redScalar (r : RedRes) : Word64 := BitVec.ofNat 64 (pack [(0, 32, r.val), (32, 7, r.idx)])

/-- R138 to R140: a VRED operation; `arg` says that a vector destination takes lane indices. -/
def vRed (i : Instr) (e : Eng) (f : FmtV) (op : RedOp) (arg : Bool) (s : State) : State :=
  engPure i e (fun x =>
    let w := bits f.imm.toNat 0 3
    let wide := f.imm.toNat.testBit 3
    let dv := f.imm.toNat.testBit 4
    if !vOk f { type := true, d := true, a := true, imm := true, mkb := true } || !(f.type == 0 || f.type == 3) ||
        decide (32 ≤ f.imm.toNat) || w == 0 || w == 7 || (!dv && w != 6) then none
    else
      let rs := redAll x f op w wide
      let fl := rs.foldl (fun a r => a ||| r.fl) (if f.type = 0 then sigFlags x f else 0)
      if dv then some ((x.setLanes f.d (fun q => (rs[q]?).map (fun r => BitVec.ofNat 32 (if arg then r.idx else r.val)))).flag fl)
      else some ((x.setS f.d (redScalar (rs.getD 0 ⟨0, 0, 0⟩))).flag fl)) s

/-- R139: SUM. -/
def execVredSum (e : Eng) (f : FmtV) (s : State) : Out :=
  .next (vRed (.vredSum e f) e f .sum false s)

/-- R139: MAX. -/
def execVredMax (e : Eng) (f : FmtV) (s : State) : Out :=
  .next (vRed (.vredMax e f) e f .max false s)

/-- R139: MIN. -/
def execVredMin (e : Eng) (f : FmtV) (s : State) : Out :=
  .next (vRed (.vredMin e f) e f .min false s)

/-- R139: ARGMAX. -/
def execArgmax (e : Eng) (f : FmtV) (s : State) : Out :=
  .next (vRed (.argmax e f) e f .max true s)

/-- R139: ARGMIN. -/
def execArgmin (e : Eng) (f : FmtV) (s : State) : Out :=
  .next (vRed (.argmin e f) e f .min true s)

/-! ### Wide accumulators (R150) -/

/-- An accumulating operation on the active lanes of wa[d]. -/
def vWide (i : Instr) (e : Eng) (f : FmtV) (u : UseV) (g : Engine → Nat → FVal → FVal) (s : State) : State :=
  engPure i e (fun x =>
    if vOk f { u with d := true, mkb := true } && low8 f.d then
      some (x.setWide f.d.toNat (fun k => if x.active f k then some (quiet (g x k (x.wide f.d.toNat k))) else none))
    else none) s

/-- Operand a of a lane as a value. -/
def wA (x : Engine) (f : FmtV) (k : Nat) : FVal := quiet (readF fp32 x.ftz (x.lane f.a k).toNat)

/-- round48 of e^x. -/
def exp48Of (x : FVal) : FVal :=
  match expFn x with
  | .edge y _ => y
  | .wide y _ => y
  | .huge n => .inf n
  | .tiny n => .fin n 0 0

/-- R150: WSET. -/
def execWset (e : Eng) (f : FmtV) (s : State) : Out :=
  .next (vWide (.wset e f) e f { ss := true } (fun x _ _ => round48 (readF fp32 x.ftz ((x.s f.ss).truncate 32).toNat)) s)

/-- R150: WADD. -/
def execWadd (e : Eng) (f : FmtV) (s : State) : Out :=
  .next (vWide (.wadd e f) e f { a := true } (fun x k w => round48 (addX w (wA x f k))) s)

/-- R150: WMAX. -/
def execWmax (e : Eng) (f : FmtV) (s : State) : Out :=
  .next (vWide (.wmax e f) e f { a := true } (fun x k w => round48 (maxX w (wA x f k))) s)

/-- R150: WMUL. -/
def execWmul (e : Eng) (f : FmtV) (s : State) : Out :=
  .next (vWide (.wmul e f) e f { a := true } (fun x k w => round48 (mulX w (wA x f k))) s)

/-- R150: WEXPADD. -/
def execWexpadd (e : Eng) (f : FmtV) (s : State) : Out :=
  .next (vWide (.wexpadd e f) e f { a := true } (fun x k w => round48 (addX w (round48 (exp48Of (wA x f k))))) s)

/-- R150: WFMA, with an exact product. -/
def execWfma (e : Eng) (f : FmtV) (s : State) : Out :=
  .next (vWide (.wfma e f) e f { a := true, bv := true }
    (fun x k w => round48 (addX w (mulX (wA x f k) (quiet (readF fp32 x.ftz (x.opB f k).toNat))))) s)

/-- R150: WGET rounds once to FP32, with flags. -/
def execWget (e : Eng) (f : FmtV) (s : State) : Out :=
  .next (engPure (.wget e f) e (fun x =>
    if vOk f { d := true, a := true, mkb := true } && low8 f.a then
      some (lanesTo x f (fun k => let r := wideToF32 x.ftz (x.wide f.a.toNat k); (BitVec.ofNat 32 r.1, r.2)))
    else none) s)

/-- R150: WRED: the tree over wa[a], sum or maximum, with one final rounding. -/
def execWred (e : Eng) (f : FmtV) (s : State) : Out :=
  .next (engPure (.wred e f) e (fun x =>
    if vOk f { d := true, a := true, imm := true, mkb := true } && low8 f.a && decide (f.imm.toNat ≤ 1) then
      let n : Node FVal :=
        if f.imm = 0 then
          ((tree (fun a b => round48 (addX a b)) 6 ((List.range 64).map (fun k =>
            if x.active f k then x.wide f.a.toNat k else .fin true 0 0))).getD 0 FVal.zero, 0)
        else
          (tree (pickNode ltZ) 6 ((List.range 64).map (fun k =>
            if x.active f k then (x.wide f.a.toNat k, k) else (FVal.inf true, 64)))).getD 0 (FVal.zero, 0)
      let r := wideToF32 x.ftz n.1
      some ((x.setS f.d (redScalar ⟨r.1, n.2, 0⟩)).flag r.2)
    else none) s)

end Sys2Proof.Machine
end

