-- ==== Sys2Proof/Machine/Optimiser.lean ====
section
/-! DEFINITION. The arithmetic of the update unit: FP32 and wide primitives, ordered wide sums, the optimiser kinds, moment forms, scale
records and watch records (R189 to R199). An FP32 value is its word, as a number. -/

namespace Sys2Proof.Machine

/-! ### Primitives (R189) -/

/-- An FP32 operand: a subnormal reads as zero of its sign. -/
def updRd (w : Nat) : FVal := readF fp32 true w

/-- mul. -/
def updMul (a b : Nat) : Nat := toF32 (mulX (updRd a) (updRd b))

/-- fma, rounded once. -/
def updFma (a b c : Nat) : Nat := toF32 (fmaX (updRd a) (updRd b) (updRd c))

/-- neg, exact. -/
def updNeg (a : Nat) : Nat := (a ^^^ 2 ^ 31) % 2 ^ 32

/-- A NaN or an infinity. -/
def nonFinite (w : Nat) : Bool := w / 2 ^ 23 % 256 == 255

/-- Plus or minus zero. -/
def isZero32 (w : Nat) : Bool := w % 2 ^ 31 == 0

/-- A wide addition. -/
def wadd (a b : FVal) : FVal := round48 (addX a b)

/-- A wide product of two values. -/
def wmul (a b : FVal) : FVal := round48 (mulX a b)

/-- A wide quotient. -/
def wdiv (a b : FVal) : FVal :=
  match a, b with
  | .nan _, _ => .nan false
  | _, .nan _ => .nan false
  | .inf _, .inf _ => .nan false
  | .inf x, .fin y _ _ => .inf (x != y)
  | .fin x _ _, .inf y => .fin (x != y) 0 0
  | .fin n1 m1 e1, .fin n2 m2 e2 =>
    if m2 = 0 then (if m1 = 0 then .nan false else .inf (n1 != n2))
    else if m1 = 0 then .fin (n1 != n2) 0 0
    else round48 (divX n1 m1 e1 n2 m2 e2)

/-- A wide square root. -/
def wsqrt : FVal → FVal
  | .nan _ => .nan false
  | .inf n => if n then .nan false else .inf false
  | .fin n m e =>
    if m = 0 then .fin n 0 0
    else if n then .nan false
    else
      let e' := (e - 128) / 2 * 2
      let x := m * 2 ^ (e - e').toNat
      let r := isqrt x
      round48 (stickyFin false r (e' / 2) (r * r != x))

/-- qsq(a, b, e). -/
def qsq (a b e : Nat) : Nat := toF32 (wdiv (ofF32 a) (wadd (wsqrt (ofF32 b)) (ofF32 e)))

/-- A sequence cut into runs of `n`; the first argument bounds their number. -/
def chunksOf {α : Type} (n : Nat) : Nat → List α → List (List α)
  | 0, _ => []
  | k + 1, l => if l.isEmpty then [] else l.take n :: chunksOf n k (l.drop n)

/-- One chunk summed from its first term. -/
def chunkSum : List FVal → FVal
  | [] => FVal.zero
  | x :: l => l.foldl wadd x

/-- The tree of R106 over a list, in order; an odd last node passes up unchanged. -/
def treeAll {α : Type} (comb : α → α → α) (l : List α) : Option α := (tree comb (Nat.log2 l.length + 1) l).head?

/-- An ordered wide sum of sequences, each of which starts a new chunk; +0 where there is no term. -/
def osum (ls : List (List FVal)) : FVal :=
  (treeAll wadd (ls.flatMap (fun l => (chunksOf 1024 (l.length / 1024 + 1) l).map chunkSum))).getD FVal.zero

/-- An FP32 word rounded to BF16, or stochastically under a key. -/
def toBf16 (stoch : Option (Nat × Nat × Nat)) (w : Nat) : Nat :=
  (resolve bf16 (match stoch with | some (t, i, st) => .stoch (stochBits t i st) | none => .near) false false false (ofF32 w)).1

/-- A BF16 word as an FP32 word, exact. -/
def ofBf16 (w : Nat) : Nat := w * 65536

/-! ### Moment forms (R192) -/

/-- The A2 block scale: the largest magnitude among the new values. -/
def a2Scale (l : List Nat) : Nat := l.foldl (fun m w => Nat.max m (w % 2 ^ 31)) 0

/-- The quotient of two numbers rounded to nearest, ties to even. -/
def divEven (n d : Nat) : Nat :=
  let q := n / d
  let r := n % d
  if d < 2 * r || (2 * r == d && q % 2 == 1) then q + 1 else q

/-- Significand and exponent of a finite word. -/
def finParts (w : Nat) : Nat × Int :=
  match ofF32 w with
  | .fin _ m e => (m, e)
  | _ => (0, 0)

/-- The A2 code of a value: x * lim / s rounded, in 8 bits, two's complement. -/
def a2Code (lim s w : Nat) : Nat :=
  let (m, e) := finParts w
  let (ms, es) := finParts s
  if ms = 0 then 0
  else
    let q := divEven (m * lim * 2 ^ (e - es).toNat) (ms * 2 ^ (es - e).toNat)
    if w < 2 ^ 31 then q % 256 else (256 - q % 256) % 256

/-- The value of an A2 code, rounded once to FP32. -/
def a2Val (signed : Bool) (lim s code : Nat) : Nat :=
  let (ms, es) := finParts s
  let low := signed && decide (128 ≤ code)
  let q := if low then 256 - code else code
  let neg := low != decide (2 ^ 31 ≤ s)
  if nonFinite s then (if q = 0 || s % 2 ^ 23 != 0 then 0x7FC00000 else if neg then 0xFF800000 else 0x7F800000)
  else if q = 0 || ms = 0 then 0
  else (resolve fp32 .near false false false (divX neg (q * ms) es false lim 0)).1

/-- A moment field: codes, and the scales of its blocks in the A2 form. -/
structure MField where
  codes : List Nat
  scales : List Nat
deriving DecidableEq, Repr

/-- Bytes of one code of a moment form. -/
def momSize (form : Nat) : Nat := if form = 0 then 4 else if form = 1 then 2 else 1

/-- The values of a stored moment field. `v` says that it is the unsigned second moment. -/
def momRead (form : Nat) (v : Bool) (f : MField) : List Nat :=
  if form = 0 then f.codes
  else if form = 1 then f.codes.map ofBf16
  else f.codes.mapIdx (fun i c => a2Val (!v) (if v then 255 else 127) (f.scales.getD (i / 32) 0) c)

/-- New values stored in a moment form; `key` gives the stochastic key of element e where BF16 is rounded so. -/
def momWrite (form : Nat) (v : Bool) (key : Nat → Option (Nat × Nat × Nat)) (l : List Nat) : MField :=
  if form = 0 then ⟨l, []⟩
  else if form = 1 then ⟨l.mapIdx (fun i w => toBf16 (key i) w), []⟩
  else
    let bs := chunksOf 32 (l.length / 32 + 1) l
    ⟨bs.flatMap (fun b => b.map (fun w => a2Code (if v then 255 else 127) (a2Scale b) w)), bs.map a2Scale⟩

/-! ### The elements of a tensor -/

/-- What a pass reads of a tensor: decoded gradients and weights' raw codes, masters, moments, row and column values. -/
structure TIn where
  g : List Nat
  w : List Nat
  p : List Nat
  m : MField
  v : MField
  rc : List Nat
deriving DecidableEq, Repr

/-- What a pass makes of a tensor before anything is kept: new FP32 values, and whether a value of the whole tensor is not finite. -/
structure TNew where
  p : List Nat
  m : List Nat
  v : List Nat
  rc : List Nat
  whole : Bool
deriving DecidableEq, Repr

/-- The first moment is kept for this kind. -/
def Hyper.hasM (h : Hyper) : Bool := h.kind == 1 || h.kind == 2 || h.kind == 3 || (h.kind == 4 && h.flags.testBit 1)

/-- A second moment is kept element by element. FACTORED with R = 0 keeps it in FP32 (R190; DEDUCED, log entry 14). -/
def Hyper.hasV (h : Hyper) (t : TEnt) : Bool := h.kind == 1 || h.kind == 2 || (h.kind == 4 && t.rows == 0)

/-- The form in which the second moment is stored. -/
def vForm (h : Hyper) (t : TEnt) : Nat := if h.kind = 4 then 0 else t.mform

/-- Standing values of p. -/
def standP (t : TEnt) (x : TIn) : List Nat := if t.wform = 0 then x.p else if t.wform = 1 then x.w.map ofBf16 else x.w

/-- Scaled gradients. -/
def scaledG (h : Hyper) (x : TIn) : List Nat := x.g.map (fun g => updMul g h.gscale)

/-- The new first moment of ADAMW. -/
def newM (h : Hyper) (m g : Nat) : Nat := updFma h.b1 m (updMul h.omb1 g)

/-- The new second moment of ADAMW. -/
def newV (h : Hyper) (v g : Nat) : Nat := updFma h.b2 v (updMul h.omb2 (updMul g g))

/-- The Adam direction. -/
def dirOf (h : Hyper) (m v : Nat) : Nat := qsq (updMul m h.c1) (updMul v h.c2) h.eps

/-- p' = fma(nl, fma(wd, p, u), p). -/
def decayed (h : Hyper) (p u : Nat) : Nat := updFma (updNeg h.lr) (updFma h.wd p u) p

/-- A list by three lists. -/
def zip3 {α β γ δ : Type} (f : α → β → γ → δ) (a : List α) (b : List β) (c : List γ) : List δ :=
  (a.zip (b.zip c)).map (fun x => f x.1 x.2.1 x.2.2)

/-- An exact product of two FP32 words, as a wide value. -/
def prod32 (a b : Nat) : FVal := mulX (ofF32 a) (ofF32 b)

/-- LAMB's second pass and trust ratio, from the pending moments. -/
def lambNew (h : Hyper) (t : TEnt) (key : Nat → Nat → Option (Nat × Nat × Nat)) (x : TIn) : TNew :=
  let g := scaledG h x
  let p := standP t x
  let m := (momRead t.mform false x.m).zipWith (newM h) g
  let v := (momRead t.mform true x.v).zipWith (newV h) g
  let r := zip3 (fun p m v => updFma h.wd p (dirOf h m v)) p m v
  let sp := osum [p.map (fun a => prod32 a a)]
  let sq := osum [r.map (fun a => prod32 a a)]
  let zero := fun (x : FVal) => match x with | .fin _ 0 _ => true | _ => false
  let tau := if zero sp || zero sq then 0x3F800000 else toF32 (wdiv (wsqrt sp) (wsqrt sq))
  let m2 := momRead t.mform false (momWrite t.mform false (key 1) m)
  let v2 := momRead t.mform true (momWrite t.mform true (key 2) v)
  let r2 := zip3 (fun p m v => updFma h.wd p (dirOf h m v)) p m2 v2
  ⟨r2.zipWith (fun r p => updFma (updNeg (updMul h.lr tau)) r p) p, m, v, [], nonFinite tau⟩

/-- SGDM. -/
def sgdmNew (h : Hyper) (t : TEnt) (x : TIn) : TNew :=
  let d := (standP t x).zipWith (fun p g => updFma h.wd p g) (scaledG h x)
  let m := (momRead t.mform false x.m).zipWith (fun m d => updFma h.b1 m d) d
  let u := if h.flags.testBit 0 then m.zipWith (fun m d => updFma h.b1 m d) d else m
  ⟨u.zipWith (fun u p => updFma (updNeg h.lr) u p) (standP t x), m, [], [], false⟩

/-- FACTORED (R189, R190). -/
def factoredNew (h : Hyper) (t : TEnt) (x : TIn) : TNew :=
  let g := scaledG h x
  let q := g.map (fun g => updFma g g h.eps2)
  let rows := t.rows
  let cols := if rows = 0 then 0 else t.elems / rows
  let mean := fun (l : List Nat) (n : Nat) => toF32 (wdiv (osum [l.map ofF32]) (.fin false n 0))
  let row := (List.range rows).map (fun i => updFma h.b2 (x.rc.getD i 0) (updMul h.omb2 (mean ((q.drop (i * cols)).take cols) cols)))
  let col := (List.range cols).map (fun j =>
    updFma h.b2 (x.rc.getD (rows + j) 0) (updMul h.omb2 (mean ((List.range rows).map (fun i => q.getD (i * cols + j) 0)) rows)))
  let s := osum [row.map ofF32]
  let v := if rows = 0 then x.v.codes.zipWith (fun v q => updFma h.b2 v (updMul h.omb2 q)) q else []
  let vh := if rows = 0 then v
    else (List.range t.elems).map (fun e => toF32 (wdiv (prod32 (row.getD (e / cols) 0) (col.getD (e % cols) 0)) s))
  let u := vh.zipWith (fun vh g => if isZero32 vh then 0 else toF32 (wdiv (ofF32 g) (wsqrt (ofF32 vh)))) g
  let m := if h.flags.testBit 1 then (momRead t.mform false x.m).zipWith (newM h) u else []
  let u2 := if h.flags.testBit 1 then m else u
  ⟨(standP t x).zipWith (decayed h) u2, m, v, row ++ col,
    row.any nonFinite || col.any nonFinite || (rows != 0 && (match s with | .fin _ _ _ => false | _ => true))⟩

/-- What a pass makes of a tensor. `key f e` is the stochastic key of field f of element e for the moments. -/
def tensorNew (h : Hyper) (t : TEnt) (key : Nat → Nat → Option (Nat × Nat × Nat)) (x : TIn) : TNew :=
  if h.kind = 0 then ⟨standP t x, [], [], [], false⟩
  else if h.kind = 1 then
    let g := scaledG h x
    let m := (momRead t.mform false x.m).zipWith (newM h) g
    let v := (momRead t.mform true x.v).zipWith (newV h) g
    ⟨zip3 (fun p m v => decayed h p (dirOf h m v)) (standP t x) m v, m, v, [], false⟩
  else if h.kind = 2 then lambNew h t key x
  else if h.kind = 3 then sgdmNew h t x
  else factoredNew h t x

/-! ### What is kept (R191) -/

/-- A list of truths grown to whole blocks of 32. -/
def growBlocks (l : List Bool) : List Bool :=
  (chunksOf 32 (l.length / 32 + 1) l).flatMap (fun b => List.replicate b.length (b.any id))

/-- New codes where nothing is kept, standing codes elsewhere. -/
def keepCodes (keep : List Bool) (new std : List Nat) : List Nat := zip3 (fun k n s => if k then s else n) keep new std

/-- A moment field with the kept blocks or elements standing. -/
def keepField (keep : List Bool) (new std : MField) : MField :=
  ⟨keepCodes keep new.codes std.codes,
    new.scales.mapIdx (fun b s => if keep.getD (32 * b) false then std.scales.getD b 0 else s)⟩

/-- The outcome of a tensor: what is stored, which elements were counted and kept, and the terms of the watch. -/
structure TRes where
  w : List Nat
  p : List Nat
  m : MField
  v : MField
  rc : List Nat
  keep : List Bool
  nfGrad : Nat
  nfRes : Nat
  zeroG : Nat
  under : Nat
  g2 : List FVal
  p2 : List FVal
  u2 : List FVal
deriving DecidableEq, Repr

/-- Values that a conversion made zero, among elements that are not kept. -/
def underflows (keep : List Bool) (new : List Nat) (back : List Nat) : Nat :=
  (zip3 (fun k n b => !k && !isZero32 n && isZero32 b) keep new back).count true

/-- A tensor updated: R189, then R191, then the moment forms. -/
def tensorRes (h : Hyper) (t : TEnt) (step : Nat) (x : TIn) : TRes :=
  let key := fun (bit f e : Nat) => if h.flags.testBit bit then some (t.tid, f * 2 ^ 46 ||| e, step) else none
  let g := scaledG h x
  let p := standP t x
  let n := tensorNew h t (key 3) x
  let w' := if h.kind = 0 then x.w else if t.wform = 2 then n.p else n.p.mapIdx (fun e v => toBf16 (key 2 0 e) v)
  let wv := if t.wform = 2 then w' else w'.map ofBf16
  let badG := g.map nonFinite
  let badR := (List.range t.elems).map (fun e => h.kind != 0 && (
    nonFinite (n.p.getD e 0) || nonFinite (n.m.getD e 0) || nonFinite (n.v.getD e 0) || nonFinite (wv.getD e 0) ||
    (t.mform == 2 && vForm h t == 2 && decide (2 ^ 31 < n.v.getD e 0))))
  let keep0 := badG.zipWith (fun a b => a || b) badR
  let keep := if n.whole then keep0.map (fun _ => true) else if t.mform = 2 && h.hasM then growBlocks keep0 else keep0
  let m' := if h.hasM then momWrite t.mform false (key 3 1) n.m else ⟨[], []⟩
  let v' := if h.hasV t then momWrite (vForm h t) true (key 3 2) n.v else ⟨[], []⟩
  let mk := keepField keep m' x.m
  let vk := keepField keep v' x.v
  { w := keepCodes keep w' x.w
    p := if t.wform = 0 then keepCodes keep n.p x.p else []
    m := mk
    v := vk
    rc := if n.whole then x.rc else n.rc
    keep := keep
    nfGrad := badG.count true
    nfRes := if n.whole then t.elems else (badG.zipWith (fun a b => !a && b) badR).count true
    zeroG := (x.g.map isZero32).count true
    under := (x.g.zipWith (fun a b => !isZero32 a && isZero32 b) g).count true +
      (if h.kind = 0 then 0 else underflows keep n.p wv) +
      (if h.hasM then underflows keep n.m (momRead t.mform false m') else 0) +
      (if h.hasV t then underflows keep n.v (momRead (vForm h t) true v') else 0)
    g2 := (g.filter (fun a => !nonFinite a)).map (fun a => prod32 a a)
    p2 := p.map (fun a => prod32 a a)
    u2 := zip3 (fun k a b => if k then FVal.zero
      else (let d := round48 (addX (ofF32 a) (negX (ofF32 b))); wmul d d)) keep n.p p }

/-! ### Watch records (R193, R194) -/

/-- What a group's tensors gave together. -/
structure GroupSum where
  elems : Nat
  zeroG : Nat
  nfGrad : Nat
  nfRes : Nat
  under : Nat
  g2 : List (List FVal)
  p2 : List (List FVal)
  u2 : List (List FVal)
  /-- A scale record of the group is in current mode. -/
  current : Bool
deriving DecidableEq, Repr

/-- The ratio of Table 8.4. -/
def watchRatio (u w : FVal) : Nat :=
  match u, w with
  | .fin _ 0 _, .fin _ 0 _ => 0
  | .nan _, .fin _ 0 _ => 0x7FC00000
  | _, .fin _ 0 _ => 0x7F800000
  | u, w => toF32 (wdiv u w)

/-- A watch record: the sums of the group, the standing record, the settings. -/
def watchRecord (s : GroupSum) (std : List Byte) (wt : Watch) : List Byte :=
  let gn := wsqrt (osum s.g2)
  let wn := wsqrt (osum s.p2)
  let un := wsqrt (osum s.u2)
  let ratio := watchRatio un wn
  let run0 := leNat ((std.drop 0x38).take 2)
  let quiet := s.zeroG == s.elems || ltX (ofF32 ratio) (ofF32 wt.floor)
  let run := if !wt.on then 0 else if s.elems = 0 then run0 else if quiet then Nat.min (run0 + 1) 65535 else 0
  let q := if !wt.on then false else if s.elems = 0 then (std.getD 0x3A 0).getLsbD 0 else decide (wt.n ≤ run)
  leBytes 4 (toF32 gn) ++ leBytes 4 (toF32 wn) ++ leBytes 4 (toF32 un) ++ leBytes 4 ratio ++ leBytes 8 s.elems ++ leBytes 8 s.zeroG ++
  leBytes 8 s.nfGrad ++ leBytes 8 s.nfRes ++ leBytes 8 s.under ++ leBytes 2 run ++
  leBytes 1 (pack [(0, 1, b2n q), (1, 1, b2n s.current), (2, 1, b2n (!wt.on))]) ++ leBytes 5 0

/-! ### Scale records (R196, R198) -/

/-- fmax of a format code: significand and exponent. -/
def fmaxOf (f : Nat) : Nat × Int :=
  if f = 0 then (6, 0) else if f = 1 then (7, 0) else if f = 2 then (15, -1) else if f = 3 then (28, 0)
  else if f = 4 then (448, 0) else if f = 5 then (57344, 0) else (127, 0)

/-- The smallest e with amax at most fmax * 2^e, for a positive finite amax. -/
def scaleExp (f amax : Nat) : Int :=
  let (m, e) := finParts amax
  let (fm, fe) := fmaxOf f
  let e0 := (e + nbits m) - (fe + nbits fm) - 1
  if magLe m e fm (fe + e0) then e0 else if magLe m e fm (fe + e0 + 1) then e0 + 1 else e0 + 2

/-- The FP32 word of 2^k, -126 ≤ k ≤ 127. -/
def pow2Word (k : Int) : Nat := (k + 127).toNat * 2 ^ 23

/-- The larger of two non-negative words; -0 lies below +0. -/
def maxSlot (a b : Nat) : Nat := if a = 2 ^ 31 then b else if b = 2 ^ 31 then a else Nat.max a b

/-- sigma of R198 from an absolute maximum. -/
def sigmaOf (f margin amax : Nat) : Nat :=
  if isZero32 amax then 0x3F800000 else pow2Word (min (max (scaleExp f amax + margin) (-126)) 127)

/-- R198: the new record, whether a slot was unusable, whether the record is in current mode. -/
def scaleStep (std : List Byte) (slots : List Nat) : List Byte × Bool × Bool :=
  let at' := fun (o n : Nat) => leNat ((std.drop o).take n)
  let bad := slots.any (fun w => nonFinite w || decide (2 ^ 31 < w))
  let hist := (List.range 16).map (fun i => at' (4 * i) 4)
  let a := slots.foldl maxSlot (2 ^ 31)
  let head := at' 0x44 1
  let filled := at' 0x45 1
  let hist' := if bad then hist else hist.set head a
  let head' := if bad then head else (head + 1) % 16
  let filled' := if bad then filled else Nat.min (filled + 1) 16
  let mode := if at' 0x46 1 = 1 && filled' = 16 then 0 else at' 0x46 1
  let amax := (List.range filled').foldl (fun m j => maxSlot m (hist'.getD ((head' + 16 - (j + 1)) % 16) 0)) (2 ^ 31)
  let sigma := if mode = 1 then 0 else sigmaOf (at' 0x47 1) (at' 0x4C 1) amax
  (hist'.flatMap (leBytes 4) ++ leBytes 4 sigma ++ leBytes 1 head' ++ leBytes 1 filled' ++ leBytes 1 mode ++ std.drop 0x47, bad, mode == 1)

end Sys2Proof.Machine
end

