-- ==== Sys2Proof/Machine/Update.lean ====
section
/-! DEFINITION. Update descriptors and their checks, the own pass and the mirror pass, the state digest (R181 to R200, R243). -/

namespace Sys2Proof.Machine

/-! ### The descriptor (R184 to R187) -/

/-- A tensor entry. -/
def mkTEnt (b : List Byte) : TEnt :=
  ⟨fld b 0 8, fld b 8 2, fld b 10 2, fld b 12 1, fld b 13 1, fld b 14 1 % 4, fld b 14 1 / 4 % 4, fld b 16 4, fld b 24 8, fld b 32 8,
    fld b 40 8, fld b 48 8, fld b 56 8⟩

/-- A hyperparameter set. -/
def mkHyper (b : List Byte) : Hyper :=
  ⟨fld b 0 1, fld b 1 1, fld b 4 4, fld b 8 4, fld b 12 4, fld b 16 4, fld b 20 4, fld b 24 4, fld b 28 4, fld b 32 4, fld b 36 4,
    fld b 40 4, fld b 44 4⟩

/-- Eight tray addresses. -/
def eightAddrs (b : List Byte) (o : Nat) : List Nat := (List.range 8).map (fun i => fld b (o + 8 * i) 8)

/-- A descriptor from its header and its two tables. -/
def mkDesc (h tt ht : List Byte) : UDesc where
  tensors := (entries 64 (fld h 0x08 4) tt).map mkTEnt
  hypers := (entries 64 (fld h 0x0C 2) ht).map mkHyper
  groups := fld h 0x0E 2
  watchOff := fld h 0x20 8
  scaleOff := fld h 0x28 8
  scales := fld h 0x30 4
  bank0 := eightAddrs h 0x40
  bank1 := eightAddrs h 0x80

/-- Every byte of a range is zero. -/
def zeros (b : List Byte) (o n : Nat) : Bool := ((b.drop o).take n).all (fun x => x == 0)

/-- A bank base lies 4 KiB aligned in the region of its die; beyond the partition it is zero (R184, R231). -/
def dieAddrOk (s : State) (ds : List Nat) (i a : Nat) : Bool :=
  match ds[i]? with
  | some d => a % 4096 == 0 && decide (a < 2 ^ 57) && slotOf a == ownSlot s && regionOf a == d && inExtent s d (offsetOf a)
  | none => a == 0

/-- A list of per-die addresses. -/
def dieAddrsOk (s : State) (ds : List Nat) (l : List Nat) : Bool := (l.zipIdx).all (fun x => dieAddrOk s ds x.2 x.1)

/-- Table 8.1. -/
def updHeaderOk (s : State) (ds : List Nat) (h : List Byte) : Bool :=
  fld h 0 4 == 0x50554446 && fld h 4 2 == 1 && fld h 6 2 == 0 && decide (1 ≤ fld h 8 4) && decide (fld h 8 4 ≤ 2 ^ 20) &&
  decide (1 ≤ fld h 0x0C 2) && decide (fld h 0x0C 2 ≤ 256) && decide (1 ≤ fld h 0x0E 2) && decide (fld h 0x0E 2 ≤ 4096) &&
  fld h 0x10 8 % 64 == 0 && fld h 0x18 8 % 64 == 0 && fld h 0x20 8 % 64 == 0 && fld h 0x28 8 % 64 == 0 &&
  decide (fld h 0x30 4 ≤ 65536) && zeros h 0x34 12 && zeros h 0xC0 64 &&
  dieAddrsOk s ds (eightAddrs h 0x40) && dieAddrsOk s ds (eightAddrs h 0x80)

/-- Table 8.3. -/
def hyperOk (_ : Nat) (b : List Byte) : Bool :=
  decide (fld b 0 1 ≤ 4) && decide (fld b 1 1 < 32) && zeros b 2 2 && zeros b 0x30 16

/-- Bytes of a moment field of a tensor. -/
def momBytes (form elems : Nat) : Nat := momSize form * elems + (if form = 2 then 4 * (elems / 32) else 0)

/-- The bank fields of a tensor for its kind: offset and bytes. -/
def bankFields (h : Hyper) (t : TEnt) : List (Nat × Nat) :=
  [(t.wOff, t.elems * if t.wform = 2 then 4 else 2)] ++ (if t.wform = 0 then [(t.pOff, 4 * t.elems)] else []) ++
  (if h.hasM then [(t.mOff, momBytes t.mform t.elems)] else []) ++
  (if h.hasV t then [(t.vOff, momBytes (vForm h t) t.elems)] else []) ++
  (if h.kind = 4 && t.rows != 0 then [(t.vOff, 4 * (t.rows + t.elems / t.rows))] else [])

/-- A field of a bank lies in the region of its die, in both banks. -/
def fieldIn (s : State) (ds : List Nat) (d : UDesc) (die off n : Nat) : Bool :=
  [d.bank0, d.bank1].all (fun b =>
    let a := b.getD die 0
    decide (offsetOf a + off + n ≤ gddrBytes s (ds.getD die 0)))

/-- Table 8.2. -/
def tensorOk (s : State) (ds : List Nat) (d : UDesc) (_ : Nat) (b : List Byte) : Bool :=
  let t := mkTEnt b
  let h := (d.hypers[t.hyper]?).getD ⟨5, 0, 0, 0, 0, 0, 0, 0, 0, 0, 0, 0, 0⟩
  decide (1 ≤ t.elems) && decide (t.elems ≤ 2 ^ 40) && (t.mform != 2 || t.elems % 64 == 0) && decide (t.group < d.groups) &&
  decide (h.kind ≤ 4) && decide (t.die < ds.length) && decide (t.wform ≤ 2) && decide (t.mform ≤ 2) && decide (fld b 14 1 < 16) &&
  fld b 15 1 == 0 && zeros b 0x14 4 && (if h.kind = 4 then t.rows == 0 || t.elems % t.rows == 0 else t.rows == 0) &&
  t.grad % 64 == 0 && [t.wOff, t.pOff, t.mOff, t.vOff].all (fun o => o % 64 == 0) && (t.wform == 0 || t.pOff == 0) &&
  (bankFields h t).all (fun x => fieldIn s ds d t.die x.1 x.2)

/-- Table 8.5. -/
def scaleOk (groups : Nat) (_ : Nat) (b : List Byte) : Bool :=
  decide (fld b 0x48 2 < groups) && decide (fld b 0x47 1 ≤ 6) && decide (1 ≤ fld b 0x4A 2) && decide (fld b 0x4A 2 ≤ 4096) &&
  decide (fld b 0x4C 1 ≤ 7) && decide (fld b 0x44 1 ≤ 15) && decide (fld b 0x45 1 ≤ 16) && decide (fld b 0x46 1 ≤ 1) &&
  fld b 0x50 8 % 64 == 0 && zeros b 0x4D 3 && zeros b 0x58 40

/-- The scale records of a bank. -/
def scaleRecs (s : State) (c : Nat) (d : UDesc) (base : Nat) : List (List Byte) :=
  (List.range d.scales).map (fun i => (peek s c (base + d.scaleOff + 128 * i) 128).bytes)

/-- Bank bases of a descriptor. -/
def UDesc.bank (d : UDesc) (b : Nat) : List Nat := if b = 0 then d.bank0 else d.bank1

/-- What a descriptor read at issue gave: a fault as detail, or the descriptor, its tables' bytes and the bad lines met. -/
structure DescRead where
  detail : Nat
  desc : UDesc
  raw : List Byte
  bad : List Nat
deriving DecidableEq, Repr

/-- R187: header and tables read and checked, in the order 0x01, 0x02, 0x03, 0x04. -/
def readDesc (s : State) (c addr : Nat) : DescRead :=
  let ds := ctxDies s c
  let h := peek s c addr 256
  let none_ : UDesc := ⟨[], [], 0, 0, 0, 0, [], []⟩
  if addr % 64 != 0 || !updHeaderOk s ds h.bytes then ⟨0x01, none_, [], h.bad⟩
  else
    let tt := peek s c (fld h.bytes 0x10 8) (64 * fld h.bytes 8 4)
    let ht := peek s c (fld h.bytes 0x18 8) (64 * fld h.bytes 0x0C 2)
    let d := mkDesc h.bytes tt.bytes ht.bytes
    let bad := h.bad ++ tt.bad ++ ht.bad
    let out := fun (n : Nat) => (⟨n, d, h.bytes ++ tt.bytes ++ ht.bytes, bad⟩ : DescRead)
    match firstBad hyperOk (entries 64 (fld h.bytes 0x0C 2) ht.bytes) with
    | some i => out (0x02 + 256 * i)
    | none =>
    match firstBad (tensorOk s ds d) (entries 64 (fld h.bytes 8 4) tt.bytes) with
    | some i => out (0x03 + 256 * i)
    | none =>
    match firstBad (scaleOk d.groups) (scaleRecs s c d ((d.bank (stepOf s c).standOwn).getD 0 0)) with
    | some i => out (0x04 + 256 * i)
    | none => out 0

/-! ### One pass -/

/-- Where a pass reads and writes: bank bases by logical die, where a gradient address is read, and the slots of scale record i. -/
structure PassEnv where
  ctx : Nat
  std : List Nat
  pend : List Nat
  gradAt : Nat → Nat
  slots : Nat → Rd

/-- Little-endian values of `n` bytes. -/
def vals (n : Nat) (b : List Byte) : List Nat := (entries n (b.length / n) b).map leNat

/-- A field of a bank read as values, with the addresses of its bad lines. -/
def readVals (s : State) (c a size n : Nat) : List Nat × List Nat :=
  let r := peek s c a (size * n)
  (vals size r.bytes, r.bad)

/-- What a tensor reads, the bad lines of its standing fields, and those of its gradient. -/
def readTensor (s : State) (v : PassEnv) (h : Hyper) (t : TEnt) : TIn × List Nat × List Nat :=
  let b := v.std.getD t.die 0
  let gs := if h.flags.testBit 4 then 4 else 2
  let g := readVals s v.ctx (v.gradAt t.grad) gs t.elems
  let rd := fun (on : Bool) (off size n : Nat) => if on then readVals s v.ctx (b + off) size n else ([], [])
  let w := rd true t.wOff (if t.wform = 2 then 4 else 2) t.elems
  let p := rd (t.wform == 0) t.pOff 4 t.elems
  let m := rd h.hasM t.mOff (momSize t.mform) t.elems
  let ms := rd (h.hasM && t.mform == 2) (t.mOff + t.elems) 4 (t.elems / 32)
  let q := rd (h.hasV t) t.vOff (momSize (vForm h t)) t.elems
  let qs := rd (h.hasV t && vForm h t == 2) (t.vOff + t.elems) 4 (t.elems / 32)
  let rc := rd (h.kind == 4 && t.rows != 0) t.vOff 4 (t.rows + t.elems / Nat.max 1 t.rows)
  (⟨if gs = 2 then g.1.map ofBf16 else g.1, w.1, p.1, ⟨m.1, ms.1⟩, ⟨q.1, qs.1⟩, rc.1⟩,
    w.2 ++ p.2 ++ m.2 ++ ms.2 ++ q.2 ++ qs.2 ++ rc.2, g.2)

/-- The ranges of the pending bank that hold element e: offset and bytes; in the A2 form the codes and scales of its block. -/
def elemSpans (h : Hyper) (t : TEnt) (e : Nat) : List (Nat × Nat) :=
  let mom := fun (off form : Nat) =>
    if form = 2 then [(off + e / 32 * 32, 32), (off + t.elems + 4 * (e / 32), 4)] else [(off + momSize form * e, momSize form)]
  let ws := if t.wform = 2 then 4 else 2
  [(t.wOff + ws * e, ws)] ++ (if t.wform = 0 then [(t.pOff + 4 * e, 4)] else []) ++ (if h.hasM then mom t.mOff t.mform else []) ++
  (if h.hasV t then mom t.vOff (vForm h t) else [])

/-- A range of addresses shares a line with one of a list of line addresses. -/
def touchesLine (l : List Nat) (a n : Nat) : Bool := l.any (fun x => decide (x / 64 * 64 < a + n) && decide (a < x / 64 * 64 + 64))

/-- The addresses in the pending bank that a tensor's bad lines make poison (R200). -/
def poisonSpans (v : PassEnv) (h : Hyper) (t : TEnt) (bad gbad : List Nat) : List (Nat × Nat) :=
  let sb := v.std.getD t.die 0
  let pb := v.pend.getD t.die 0
  let gs := if h.flags.testBit 4 then 4 else 2
  if (bad ++ gbad).isEmpty then []
  else if h.kind = 2 || (h.kind = 4 && t.rows != 0) then (bankFields h t).map (fun x => (pb + x.1, x.2))
  else
    ((List.range t.elems).filter (fun e =>
      (elemSpans h t e).any (fun x => touchesLine bad (sb + x.1) x.2) || touchesLine gbad (v.gradAt t.grad + gs * e) gs)).flatMap
      (fun e => (elemSpans h t e).map (fun x => (pb + x.1, x.2)))

/-- The bytes of a range whose write is not dropped (R170, R243). -/
def written (s : State) (c a : Nat) (b : List Byte) : List Byte :=
  (b.zipIdx.filter (fun x => inWindow s c true (a + x.2) && locate s (a + x.2) != .unmapped)).map Prod.fst

/-- One record of the state digest (R243). -/
def digestRec (tensor chunk : Nat) (b : List Byte) : Nat := runDigest (leBytes 4 tensor ++ leBytes 4 chunk ++ b)

/-- What a pass leaves behind: writes, ranges made poison, bad lines of standing fields and of the rest, digest, kept elements by group. -/
structure PassOut where
  writes : List (Nat × List Byte)
  poison : List (Nat × Nat)
  badStd : List Nat
  badOther : List Nat
  digest : Nat
  kept : List (Nat × Nat)
  sums : List (Nat × GroupSum)
deriving DecidableEq, Repr

/-- Values as bytes. -/
def valBytes (size : Nat) (l : List Nat) : List Byte := l.flatMap (leBytes size)

/-- What tensor number `i` adds to a pass. -/
def passTensor (s : State) (v : PassEnv) (d : UDesc) (step : Nat) (o : PassOut) (x : TEnt × Nat) : PassOut :=
  let (t, i) := x
  let h := d.hypers.getD t.hyper ⟨0, 0, 0, 0, 0, 0, 0, 0, 0, 0, 0, 0, 0⟩
  let (inp, bad, gbad) := readTensor s v h t
  let r := tensorRes h t step inp
  let pb := v.pend.getD t.die 0
  let ws := if t.wform = 2 then 4 else 2
  let ms := momSize t.mform
  let vs := momSize (vForm h t)
  let chunk := fun (k : Nat) =>
    let part := fun (off size : Nat) (l : List Nat) (n : Nat) =>
      written s v.ctx (pb + off + size * (n * k)) (valBytes size ((l.drop (n * k)).take n))
    digestRec i k (part t.wOff ws r.w 1024 ++ part t.pOff 4 r.p 1024 ++ part t.mOff ms r.m.codes 1024 ++ part t.vOff vs r.v.codes 1024 ++
      part (t.mOff + t.elems) 4 r.m.scales 32 ++ part (t.vOff + t.elems) 4 r.v.scales 32)
  let rcDig := if r.rc.isEmpty then 0 else digestRec i 0xFFFFFFFF (written s v.ctx (pb + t.vOff) (valBytes 4 r.rc))
  let old := sget ⟨0, 0, 0, 0, 0, [], [], [], false⟩ o.sums t.group
  { writes := o.writes ++ ([(t.wOff, valBytes ws r.w), (t.pOff, valBytes 4 r.p), (t.mOff, valBytes ms r.m.codes),
      (t.mOff + t.elems, valBytes 4 r.m.scales), (t.vOff, valBytes vs r.v.codes), (t.vOff + t.elems, valBytes 4 r.v.scales),
      (t.vOff, valBytes 4 r.rc)].filter (fun w => !w.2.isEmpty)).map (fun w => (pb + w.1, w.2))
    poison := o.poison ++ poisonSpans v h t bad gbad
    badStd := o.badStd ++ bad
    badOther := o.badOther ++ gbad
    digest := (o.digest + ((List.range ((t.elems + 1023) / 1024)).map chunk).sum + rcDig) % 2 ^ 64
    kept := sset 0 o.kept t.group (sget 0 o.kept t.group + r.keep.count true)
    sums := sput o.sums t.group ⟨old.elems + t.elems, old.zeroG + r.zeroG, old.nfGrad + r.nfGrad, old.nfRes + r.nfRes,
      old.under + r.under, old.g2 ++ [r.g2], old.p2 ++ [r.p2], old.u2 ++ [r.u2], old.current⟩ }

/-- What scale record `i` adds. -/
def passScale (s : State) (v : PassEnv) (d : UDesc) (o : PassOut) (i : Nat) : PassOut :=
  let a := v.std.getD 0 0 + d.scaleOff + 128 * i
  let p := v.pend.getD 0 0 + d.scaleOff + 128 * i
  let std := peek s v.ctx a 128
  let sl := v.slots i
  let (nw, bad, cur) := scaleStep std.bytes (vals 4 sl.bytes)
  let g := fld std.bytes 0x48 2
  let old := sget ⟨0, 0, 0, 0, 0, [], [], [], false⟩ o.sums g
  { o with
    writes := o.writes ++ [(p, nw)]
    poison := o.poison ++ (if (std.bad ++ sl.bad).isEmpty then [] else [(p, 128)])
    badStd := o.badStd ++ std.bad
    badOther := o.badOther ++ sl.bad
    digest := (o.digest + digestRec 0xFFFFFFFD i (written s v.ctx p nw)) % 2 ^ 64
    sums := sput o.sums g { old with nfGrad := old.nfGrad + b2n bad, current := old.current || cur } }

/-- What the watch record of group `g` adds. -/
def passWatch (s : State) (v : PassEnv) (d : UDesc) (w : Watch) (o : PassOut) (g : Nat) : PassOut :=
  let a := v.std.getD 0 0 + d.watchOff + 64 * g
  let p := v.pend.getD 0 0 + d.watchOff + 64 * g
  let std := peek s v.ctx a 64
  let nw := watchRecord (sget ⟨0, 0, 0, 0, 0, [], [], [], false⟩ o.sums g) std.bytes w
  { o with
    writes := o.writes ++ [(p, nw)]
    poison := o.poison ++ (if std.bad.isEmpty then [] else [(p, 64)])
    badStd := o.badStd ++ std.bad
    digest := (o.digest + digestRec 0xFFFFFFFE g (written s v.ctx p nw)) % 2 ^ 64 }

/-- A whole pass (R183, R189 to R199). -/
def passRun (s : State) (v : PassEnv) (d : UDesc) (w : Watch) (step : Nat) : PassOut :=
  let o := d.tensors.zipIdx.foldl (passTensor s v d step) ⟨[], [], [], [], 0, [], []⟩
  let o := (List.range d.scales).foldl (passScale s v d) o
  (List.range d.groups).foldl (passWatch s v d w) o

/-- The environment of the own pass: the banks of the descriptor, gradients in place, slots at their scratch addresses. -/
def ownEnv (s : State) (c : Nat) (p : Pass) : PassEnv where
  ctx := c
  std := p.desc.bank (1 - p.bank)
  pend := p.desc.bank p.bank
  gradAt := id
  slots := fun i =>
    let r := (peek s c ((p.desc.bank (1 - p.bank)).getD 0 0 + p.desc.scaleOff + 128 * i) 128).bytes
    peek s c (fld r 0x50 8) (4 * fld r 0x4A 2)

/-- Where an owner's gradient address lies in the mirror (R235). -/
def mirGrad (x : StepCtx) (p : Plan) (a : Nat) : Nat :=
  match x.gradMap.find? (fun r => decide (r.1 ≤ a) && decide (a < r.1 + r.2.1)) with
  | some r => p.mirrorGrad + r.2.2 + (a - r.1)
  | none => 2 ^ 60

/-- The environment of the mirror pass (R188, R235). -/
def mirEnv (s : State) (c : Nat) (p : Pass) : PassEnv :=
  let x := stepOf s c
  let pl := x.plan.getD ⟨0, 0, 0, 0, 0, 0, 0, 0, 0, 0, 0, [], [], [], [], [], [], []⟩
  let b := fun (i : Nat) => if i = 0 then pl.mbank0 else pl.mbank1
  let recs := scaleRecs s c p.desc ((b (1 - p.bank)).getD 0 0)
  { ctx := c
    std := b (1 - p.bank)
    pend := b p.bank
    gradAt := mirGrad x pl
    slots := fun i =>
      peek s c (pl.mirrorDesc + x.descLen + 4 * ((recs.take i).map (fun r => fld r 0x4A 2)).sum) (4 * fld (recs.getD i []) 0x4A 2) }

/-- Ranges written as poison, line by line. -/
def poisonRanges (c : Nat) (l : List (Nat × Nat)) (s : State) : State :=
  l.foldl (fun s x => (linesOf x.1 x.2).foldl (fun s y => poisonLine c y.1 s) s) s

/-- The effect of a pass on memory: its writes, then the poison, and every bad line it read reported with reader 2. -/
def passApply (c : Nat) (o : PassOut) (s : State) : State :=
  let s1 := poisonRanges c o.poison (o.writes.foldl (fun s w => ctxWrite c w.1 w.2 s) s)
  reportAll 2 c 0xFFFF 0xFFFF (o.badStd ++ o.badOther).eraseDups s1

/-- A pass with what it left filled in. -/
def Pass.done (p : Pass) (o : PassOut) : Pass :=
  { p with digest := o.digest, kept := (svals o.kept).sum, groups := o.kept.length, ended := true }

/-- The watch settings in force for a context (R188, R194). -/
def watchNow (s : State) (c : Nat) : Watch :=
  ⟨rget s .numwCtl_enable c == 1, rget s .numwCtl_quietN c, rget s .numwFloor_floor c⟩

end Sys2Proof.Machine
end

