-- ==== Sys2Proof/Machine/Aborts.lean ====
section
/-! DEFINITION. The pending bank and its passes, and aborts of levels 2 to 4 (R244, R249 to R252). -/

namespace Sys2Proof.Machine

/-! ### Generations on arrival (R400) -/

/-- Key of a pair of source module and context. -/
def genKey (src c : Nat) : Nat := src * 256 + c

/-- An arrival carries a stale generation. -/
def genStale (s : State) (src c gen : Nat) : Bool := (sget? s.vig.recvGen (genKey src c)).elim false (fun g => g != gen)

/-- The first arrival of a pair sets its generation; a stale one is counted. -/
def noteGen (src c gen : Nat) (s : State) : State :=
  match sget? s.vig.recvGen (genKey src c) with
  | none => { s with vig := { s.vig with recvGen := sput s.vig.recvGen (genKey src c) gen } }
  | some g => if g = gen then s else count1 .vigilStaleDropCount_count 0 s

/-! ### Passes and the pending bank -/

/-- A transfer of the mirror engine to the twin. -/
def toTwin (c : Nat) (k : MKind) (addr len arg : Nat) (b : List Byte) (dig : Nat) (s : State) : State :=
  match (stepOf s c).twin with
  | some t =>
    chargeLink c b.length (emit (.data "MIRROR" t [c, k.ctorIdx, ownRoster s, addr, len, arg, stepNo s c, rget s .stepCtxAttempt_attempt c, dig] b)
      (activity .fdieMirrorBytes_units ((ctxDies s c).headD 0 / 2) b.length s))
  | none => s

/-- A context is mirrored. -/
def mirrored (s : State) (c : Nat) : Bool := rget s .stepCtxState_mirrored c == 1

/-- The pending ranges of a pass that was stopped before its end are undefined (Table 8.6). -/
def smearPass (v : PassEnv) (p : Pass) (s : State) : State :=
  if p.ended then s
  else
    p.desc.tensors.foldl (fun s t =>
      match p.desc.hypers[t.hyper]? with
      | none => s
      | some h => (bankFields h t).foldl (fun s x =>
          let b := (List.range x.2).map (fun i => Config.pendingByte s.free i)
          useFree { s with mem := { s.mem with bytes := ssetN 0 s.mem.bytes (areaKey (v.pend.getD t.die 0 + x.1)) b } }) s) s

/-- The own pass, its pending bank and the seal discarded. -/
def discardOwn (c : Nat) (s : State) : State :=
  let s1 := match (stepOf s c).own with | some p => smearPass (ownEnv s c p) p s | none => s
  modStep c (fun x => { x with own := none, report := none, sealed := none }) s1

/-- The mirror pass and the mirror pending bank discarded. -/
def discardMir (c : Nat) (s : State) : State :=
  let s1 := match (stepOf s c).mir with | some p => smearPass (mirEnv s c p) p s | none => s
  modStep c (fun x => { x with mir := none }) s1

/-- A pass to be run again from its beginning. -/
def Pass.restart (p : Pass) : Pass := { p with digest := 0, kept := 0, groups := 0, ended := false }

/-! ### Level 2 (R244, R245) -/

/-- A record of the open step of a context. -/
def ofStep (s : State) (c : Nat) (r : Rec) : Bool :=
  r.ctx == c && ((stepFlag r && r.step == stepNo s c) || (r.opcode == 0x34 && (r.step == stepNo s c || r.step == 0) && r.state != .accepted))

/-- The STEP_UPDATE of a pass that runs again: counted while it waits, issued again where its reply exists; a seal goes with it. -/
def redoUpdate (c : Nat) (s : State) : State :=
  mapRecs (fun r => ofStep s c r && (r.opcode == 0x33 || r.opcode == 0x34) && r.state != .accepted)
    (fun r => if r.opcode = 0x33 && r.state = .issued then { r with replayed := r.replayed + 1 } else reIssue r) s

/-- An update-level fault: both sides discard and run again; the third in a step is a hard fault. -/
def updFault (c cause : Nat) (s : State) : State :=
  if !(stepSt s c == 2 || stepSt s c == 3) then s
  else
    let n := (stepOf s c).updFaults + 1
    let s1 := modStep c (fun x => { x with own := x.own.map Pass.restart, report := none, sealed := none, updFaults := n })
      (match (stepOf s c).own with | some p => smearPass (ownEnv s c p) p s | none => s)
    let s2 := rset .stepCtxState_state c 2 (redoUpdate c (toTwin c .again 0 0 cause [] 0 s1))
    let s3 := healthLog 2 1 (replayEvent 2 c 0xFFFF (ownRoster s) (count1 .stepCtxReplays_mbLevel c s2))
    if n = 3 then hardFault c 2 s3 else s3

/-! ### Level 3 (R249, R250) -/

/-- Buckets of an EXCHANGE that runs are stopped; what was agreed stays retained. -/
def stopExchange (c : Nat) (s : State) : State :=
  modStep c (fun x =>
    { x with xch := none, agreed := x.agreed ++ (x.xch.elim [] (fun e => e.buckets.filter (fun b => b.agreed && !x.agreed.any (fun a => a.desc == b.desc)))) }) s

/-- A step-flagged record is run again after an abort: graph runs and ends of micro-batches that are not done, and all that follows the
resumption point but what is agreed. -/
def reruns (x : StepCtx) (r : Rec) : Bool :=
  if r.opcode = 0x22 then !x.mbDone.contains (recParam r 1)
  else if r.opcode = 0x32 then !x.mbDone.contains (recParam r 0)
  else if r.opcode = 0x40 then r.state == .issued || r.state == .accepted
  else r.opcode == 0x33 || r.opcode == 0x34

/-- The records of the step from the resumption point on are issued again, in acceptance order. -/
def resumeRecs (c : Nat) (s : State) : State :=
  let x := stepOf s c
  mapRecs (fun r => ofStep s c r && reruns x r) reIssue s

/-- R250: the micro-batches run again where the snapshot is missing and a bucket has still to be exchanged; a micro-batch that was
interrupted runs again from its snapshot. -/
def backToMbs (c : Nat) (s : State) : State :=
  let x := stepOf s c
  let exchanging := s.ctl.journal.any (fun r => ofStep s c r && r.opcode == 0x40 && openRec r)
  if !x.snapOk && exchanging then clearAccum c (modStep c (fun x => { x with mbDone := [], mbFault := [] }) s)
  else if x.mbs ≤ x.mbDone.length then modStep c (fun x => { x with mbFault := [] }) s
  else backToSnap c x.mbDone.length (modStep c (fun x => { x with mbFault := [] }) s)

/-- Micro-batches whose runs are taken back count a run when they begin again (R238). -/
def countMbs (c : Nat) (s : State) : State :=
  let x := stepOf s c
  (x.mbRuns.filter (fun m => !x.mbDone.contains m.1)).foldl (fun s m => beginMb c m.1 s) s

/-- R249, R250: a step-attempt abort on this member. `origin` is the roster index of the module that caused it. -/
def abort3 (c origin : Nat) (s : State) : State :=
  if !stepOpenSt s c then s
  else
    let s1 := removeRuns (fun r => r.ctx == c && r.stepFlag) s
    let s2 := stopExchange c (discardMir c (discardOwn c s1))
    let s3 := countMbs c (backToMbs c s2)
    let s4 := resumeRecs c (modStep c (fun x => { x with aborts := x.aborts + 1, repairs := [], mirBad := false }) s3)
    let s5 := mapRecs (fun r => r.ctx == c && r.opcode == 0x35 && openRec r && r.wait == .commitWait (stepNo s c))
      (fun r => { r with replayed := r.replayed + 1 }) s4
    let s6 := rset .stepCtxState_agreed c 0 (rset .stepCtxAttempt_attempt c (rget s5 .stepCtxAttempt_attempt c + 1) (rset .stepCtxState_state c 4 s5))
    let s7 := replayEvent 3 c 0xFFFF origin (count1 .stepCtxReplays_stepLevel c s6)
    if origin = ownRoster s then healthLog 2 1 s7 else s7

/-! ### Level 4 (R249, R251) -/

/-- R251: the step is aborted on this member; commands that were issued wait for the step to be opened again. -/
def abort4 (c origin : Nat) (s : State) : State :=
  if !stepOpenSt s c then s
  else
    let s1 := removeRuns (fun r => r.ctx == c && r.stepFlag) s
    let s2 := stopExchange c (discardMir c (discardOwn c s1))
    let s3 := modStep c (fun x => { x with mbFault := [], repairs := [], mirBad := false }) s2
    let s4 := mapRecs (fun r => ofStep s c r && r.state == .issued && r.opcode != 0x36) reIssue s3
    replayEvent 4 c 0xFFFF origin (rset .stepCtxState_agreed c 0 (rset .stepCtxState_state c 5 s4))

/-- Every open step of the slice takes an abort. -/
def allSteps (f : Nat → State → State) (s : State) : State :=
  ((s.ctl.ctxs.map Prod.fst).filter (fun c => stepOpenSt s c)).foldl (fun s c => f c s) s

end Sys2Proof.Machine
end

