-- ==== Sys2Proof/Machine/Exchange.lean ====
section
/-! DEFINITION. Gradient exchange: buckets, compression, the reduction tree, chunks, the two rounds and exchange faults (ch. 9). Every part
is summed by its owner: where an addition is placed affects timing only (R209). -/

namespace Sys2Proof.Machine

/-! ### Buckets (R203 to R207) -/

/-- The operations. -/
def opReduceScatter : Nat := 0
def opAllGather : Nat := 1
def opAllReduce : Nat := 2

/-- Bytes of an element of a format: 0 BF16, 1 FP32. -/
def fmtBytes (f : Nat) : Nat := if f = 1 then 4 else 2

/-- A group table: its members, and its bytes with the padding; none where it breaks R204. -/
def readGroup (s : State) (c a : Nat) : Option (List Nat × List Byte) :=
  let n := fld (peek s c a 16).bytes 0 2
  let len := (16 + 2 * n + 63) / 64 * 64
  let b := (peek s c a len).bytes
  let l := vals 2 ((b.drop 16).take (2 * n))
  if a % 64 = 0 && 2 ≤ n && n ≤ 16384 && zeros b 2 14 && (b.drop (16 + 2 * n)).all (fun x => x == 0) &&
      l.all (fun i => decide (i < 16384) && inRoster s i && inSlice s i) && decide l.Nodup && l.contains (ownRoster s) then some (l, b)
  else none

/-- A descriptor's fields with its group, from its bytes. -/
def mkBucket (b : List Byte) (a : Nat) (g : List Nat) (gb : List Byte) : Bucket where
  id := fld b 0 2
  inFmt := fld b 2 1
  outFmt := fld b 3 1
  accum := fld b 4 1
  comp := fld b 5 1
  ratio := fld b 6 1
  resid32 := fld b 7 1 == 1
  elems := fld b 8 8
  group := g
  src := fld b 0x18 8
  dst := fld b 0x20 8
  residIn := fld b 0x28 8
  residOut := fld b 0x30 8
  desc := a
  shape := runDigest (b.take 16 ++ gb)
  opened := false
  got := []
  failed := []
  summed := false
  closing := false
  agreed := false
  digest := 0

/-- Table 9.2 and R205 for a descriptor. -/
def bucketOk (op : Nat) (b : List Byte) (n : Nat) : Bool :=
  let comp := fld b 5 1
  decide (fld b 2 1 ≤ 1) && decide (fld b 3 1 ≤ 1) && decide (fld b 4 1 ≤ 1) && decide (comp ≤ 2) && (comp == 0 || op != opAllGather) &&
  (if comp = 1 then decide (6 ≤ fld b 6 1) && decide (fld b 6 1 ≤ 10) else fld b 6 1 == 0) && decide (fld b 7 1 ≤ 1) &&
  decide (fld b 8 8 ≤ 2 ^ 30) && fld b 8 8 % (n * if comp = 1 then 4096 else 64) == 0 &&
  [0x10, 0x18, 0x20, 0x28, 0x30].all (fun o => fld b o 8 % 64 == 0) && (comp != 0 || (fld b 0x28 8 == 0 && fld b 0x30 8 == 0))

/-- The buckets of a table, or the detail of the first fault (R207). -/
def readBuckets (s : State) (c op a : Nat) : Nat → Nat → List Bucket → Except Nat (List Bucket)
  | 0, _, acc => .ok acc
  | k + 1, i, acc =>
    let b := (peek s c (a + 64 * i) 64).bytes
    let n := fld (peek s c (fld b 0x10 8) 16).bytes 0 2
    if !bucketOk op b (Nat.max n 1) then .error (0x01 + 256 * i)
    else
      match readGroup s c (fld b 0x10 8) with
      | none => .error (0x02 + 256 * i)
      | some g =>
        if acc.any (fun x => x.id == fld b 0 2) then .error (0x01 + 256 * i)
        else readBuckets s c op a k (i + 1) (acc ++ [mkBucket b (a + 64 * i) g.1 g.2])

/-- The module's member index. -/
def Bucket.me (b : Bucket) (s : State) : Nat := b.group.idxOf (ownRoster s)

/-- Elements of a part. -/
def Bucket.part (b : Bucket) : Nat := b.elems / Nat.max 1 b.group.length

/-! ### Compression (R212 to R215) -/

/-- FP32 addition with ftz on its operands and its result. -/
def ftzAdd (a b : Nat) : Nat := toF32 (addX (updRd a) (updRd b))

/-- Elements of a format as FP32 words, exact. -/
def wordsOf (f : Nat) (b : List Byte) : List Nat := if f = 1 then vals 4 b else (vals 2 b).map ofBf16

/-- FP32 words in a format, to nearest even; the identity for FP32. -/
def wordsTo (f : Nat) (l : List Nat) : List Byte := if f = 1 then valBytes 4 l else valBytes 2 (l.map (toBf16 none))

/-- Rank of a value for top-k: non-finite first, then by magnitude. -/
def rankOf (w : Nat) : Nat := if nonFinite w then 2 ^ 32 else w % 2 ^ 31

/-- Indices of the `k` elements kept of a chunk, rising: the largest, and among equals the lowest index. -/
def topKeep (k : Nat) (l : List Nat) : List Nat :=
  ((l.zipIdx.insertionSort (fun a b => (decide (rankOf b.1 < rankOf a.1) || (rankOf a.1 == rankOf b.1 && decide (a.2 ≤ b.2))) = true)).take k).map Prod.snd
    |>.insertionSort (· ≤ ·)

/-- A chunk of 4,096 under top-k: encoded bytes. -/
def topEncode (f k : Nat) (l : List Nat) : List Byte :=
  let ix := topKeep k l
  ix.flatMap (leBytes 2) ++ wordsTo f (ix.map (fun i => l.getD i 0))

/-- A chunk of top-k decoded; what was not sent is +0. -/
def topDecode (f k n : Nat) (b : List Byte) : List Nat :=
  let ix := vals 2 (b.take (2 * k))
  let vs := wordsOf f (b.drop (2 * k))
  (List.range n).map (fun i => if ix.contains i then vs.getD (ix.idxOf i) 0 else 0)

/-- The scale of a sign block (R213, R214). -/
def signScale (l : List Nat) : Nat :=
  if l.any nonFinite then 0x7FC00000
  else toF32 (wdiv (chunkSum (l.map (fun w => ofF32 (w % 2 ^ 31)))) (.fin false 64 0))

/-- A block of 64 under sign compression. -/
def signEncode (l : List Nat) : List Byte :=
  leBytes 8 ((l.zipIdx.map (fun x => b2n (decide (2 ^ 31 ≤ x.1)) * 2 ^ x.2)).sum) ++ leBytes 4 (signScale l)

/-- A block of sign compression decoded. -/
def signDecode (b : List Byte) : List Nat :=
  let m := leNat (b.take 8)
  let s := leNat ((b.drop 8).take 4)
  (List.range 64).map (fun i => if m.testBit i && s != 0x7FC00000 then updNeg s else s)

/-- Kept elements of a top-k chunk. -/
def Bucket.k (b : Bucket) : Nat := 4096 >>> b.ratio

/-- A part of what is offered, encoded. -/
def Bucket.encode (b : Bucket) (l : List Nat) : List Byte :=
  if b.comp = 1 then (chunksOf 4096 (l.length / 4096 + 1) l).flatMap (topEncode b.inFmt b.k)
  else if b.comp = 2 then (chunksOf 64 (l.length / 64 + 1) l).flatMap signEncode
  else wordsTo b.inFmt l

/-- Bytes that an encoded part takes. -/
def Bucket.encBytes (b : Bucket) : Nat :=
  if b.comp = 1 then b.part / 4096 * (b.k * (2 + fmtBytes b.inFmt)) else if b.comp = 2 then b.part / 64 * 12 else b.part * fmtBytes b.inFmt

/-- An encoded part decoded. -/
def Bucket.decode (b : Bucket) (x : List Byte) : List Nat :=
  if b.comp = 1 then (entries (b.k * (2 + fmtBytes b.inFmt)) (b.part / 4096) x).flatMap (topDecode b.inFmt b.k 4096)
  else if b.comp = 2 then (entries 12 (b.part / 64) x).flatMap signDecode
  else wordsOf b.inFmt x

/-- What a bucket offers: src, with the residual where it is compressed (R215). -/
def Bucket.offer (b : Bucket) (s : State) (c : Nat) : List Nat :=
  let n := b.elems
  let x := wordsOf b.inFmt (peek s c b.src (n * fmtBytes b.inFmt)).bytes
  if b.comp = 0 then x
  else x.zipWith ftzAdd (wordsOf (b2n b.resid32) (peek s c b.residIn (n * fmtBytes (b2n b.resid32))).bytes)

/-- The parts of a list of elements. -/
def Bucket.parts (b : Bucket) (l : List Nat) : List (List Nat) := (List.range b.group.length).map (fun j => (l.drop (j * b.part)).take b.part)

/-- New residuals, and how many were zeroed (R214, R215). -/
def Bucket.residual (b : Bucket) (y : List Nat) : List Nat × Nat :=
  let d := (b.parts y).flatMap (fun p => b.decode (b.encode p))
  let bad := y.zipWith (fun a x => nonFinite a || nonFinite x) d
  (zip3 (fun k a x => if k then 0 else ftzAdd a (updNeg x)) bad y d, bad.count true)

/-- The bad lines of what a bucket reads. -/
def Bucket.badLines (b : Bucket) (s : State) (c op : Nat) : List Nat :=
  let n := if op = opAllGather then b.part else b.elems
  (peek s c b.src (n * fmtBytes b.inFmt)).bad ++
    (if b.comp = 0 then [] else (peek s c b.residIn (n * fmtBytes (b2n b.resid32))).bad)

/-! ### The reduction tree (R209, R210) -/

/-- One level of the tree above level `lv`: `comb` gets the number of the node it produces. -/
def nodeLevel {α : Type} (comb : Nat → α → α → α) (lv : Nat) : Nat → List α → List α
  | t, a :: b :: l => comb ((lv + 1) * 16384 + t) a b :: nodeLevel comb lv (t + 1) l
  | _, l => l

/-- The root of the tree; `fuel` bounds its levels. -/
def nodeTree {α : Type} (comb : Nat → α → α → α) : Nat → Nat → List α → List α
  | 0, _, l => l
  | fuel + 1, lv, l => if l.length ≤ 1 then l else nodeTree comb fuel (lv + 1) (nodeLevel comb lv 0 l)

/-- An FP32 word rounded stochastically to BF16 under a node number, as an FP32 word. -/
def stochNode (id step e node : Nat) (w : FVal) : Nat :=
  ofBf16 (resolve bf16 (.stoch (stochBits id (node * 2 ^ 30 ||| e) step)) false false false w).1

/-- The sum of one element over the members: `e` is its index in the bucket. Under accum 1 each leaf is rounded to BF16 first, which leaves a
BF16 leaf as it is. -/
def Bucket.sum (b : Bucket) (step e : Nat) (leaves : List Nat) : Nat :=
  if b.accum = 0 then ((nodeTree (fun _ x y => ftzAdd x y) 15 0 leaves).headD 0)
  else
    let l := leaves.mapIdx (fun i w => stochNode b.id step e i (ofF32 w))
    (nodeTree (fun n x y => stochNode b.id step e n (addX (ofF32 x) (ofF32 y))) 15 0 l).headD 0

/-- A part summed: the members' decoded parts in member order. -/
def Bucket.sumPart (b : Bucket) (step j : Nat) (ps : List (List Nat)) : List Nat :=
  (List.range b.part).map (fun k => b.sum step (j * b.part + k) (ps.map (fun p => p.getD k 0)))

/-! ### Chunks (R217 to R219) -/

/-- A bucket of the EXCHANGE that runs, changed. -/
def modBucket (c id : Nat) (f : Bucket → Bucket) (s : State) : State :=
  modStep c (fun x => { x with xch := x.xch.map (fun e => { e with buckets := e.buckets.map (fun b => if b.id = id then f b else b) }) }) s

/-- A change of the EXCHANGE that runs. -/
def modXch (c : Nat) (f : Xch → Xch) (s : State) : State := modStep c (fun x => { x with xch := x.xch.map f }) s

/-- A bucket of the EXCHANGE that runs. -/
def bucket? (s : State) (c id : Nat) : Option Bucket := ((stepOf s c).xch).bind (fun e => e.buckets.find? (fun b => b.id == id))

/-- F-dies of a context whose engine of a kind (0 collective, 1 mirror, 2 Harvest) is not fenced (R405). -/
def openFdies (s : State) (c kind : Nat) : List Nat :=
  (fDies (ctxDies s c)).filter (fun m => !(rget s .vigilFenced_engines 0).testBit (4 * kind + m))

/-- The F-die whose collective engine handles something of a context. -/
def fdieOf (s : State) (c : Nat) : Nat :=
  let l := openFdies s c 0
  l.getD (Config.fdiePick s.free l.length % Nat.max 1 l.length) 0

/-- One chunk sent to a member. -/
def sendChunk (c : Nat) (b : Bucket) (to_ part source index : Nat) (payload : List Byte) (s : State) : State :=
  let r := b.group.getD to_ 0
  touch c r (chargeLink c payload.length (activity .fdieCollBytes_units (fdieOf s c) payload.length
    (emit (.data "CHUNK" r [c, genOf s c, sliceId s, stepNo s c, rget s .stepCtxAttempt_attempt c, rosterEpoch s, b.id, part, source, index,
      runDigest payload] payload) (useFree s))))

/-- An encoded part sent in chunks of at most 64 KiB. -/
def sendPart (c : Nat) (b : Bucket) (to_ part source : Nat) (x : List Byte) (s : State) : State :=
  ((chunksOf 65536 (x.length / 65536 + 1) x).zipIdx).foldl (fun s p => sendChunk c b to_ part source p.2 p.1 s) s

/-- Every other member. -/
def Bucket.others (b : Bucket) (s : State) : List Nat := (List.range b.group.length).filter (fun j => j != b.me s)

/-- The chunks of a part and source in place, joined; `n` bytes are awaited. -/
def Bucket.bytesOf (b : Bucket) (part source n : Nat) : Option (List Byte) :=
  let mine := b.got.filter (fun x => x.1 == part && x.2.1 == source)
  let joined := (List.range mine.length).flatMap (fun i => (mine.find? (fun x => x.2.2.1 == i)).elim [] (fun x => x.2.2.2))
  if joined.length = n then some joined else none

/-- The module's own contribution to its own part, as the others decode it. -/
def Bucket.ownLeaf (b : Bucket) (s : State) (c : Nat) : List Nat :=
  b.decode (b.encode (((b.parts (b.offer s c)).getD (b.me s) [])))

/-- The leaves of the own part in member order, once all of them are in place. -/
def Bucket.leaves (b : Bucket) (s : State) (c : Nat) : Option (List (List Nat)) :=
  (List.range b.group.length).mapM (fun i =>
    if i = b.me s then some (b.ownLeaf s c) else (b.bytesOf (b.me s) i b.encBytes).map b.decode)

/-- Bytes of a part as it is gathered: in in_fmt under ALL_GATHER, in out_fmt under ALL_REDUCE. -/
def Bucket.gatherFmt (b : Bucket) (op : Nat) : Nat := if op = opAllGather then b.inFmt else b.outFmt

/-- An FP32 word with a NaN made canonical (R94); nothing is flushed. -/
def canon32 (w : Nat) : Nat := (resolve fp32 .near false false false (ofF32 w)).1

/-- A gathered part in out_fmt; no payload of a NaN is kept (R94, R210). -/
def Bucket.gathered (b : Bucket) (op : Nat) (x : List Byte) : List Byte :=
  wordsTo b.outFmt ((wordsOf (b.gatherFmt op) x).map canon32)

/-! ### Faults (R224) -/

/-- A lateness report to the steward (R225). -/
def sendLate (c flags : Nat) (s : State) : State :=
  emit (.vc7 "LATENESS" (mySteward s) [ownRoster s, flags, c, stepNo s c, rget s .stepCtxAttempt_attempt c,
    Config.readyNs s.free % 2 ^ 48, Config.waitNs s.free % 2 ^ 48]) (useFree s)

/-- An exchange fault: its record, the Almanac, the steward, and the step-attempt abort. -/
def exchangeFault (c bkt part source cause peer : Nat) (s : State) : State :=
  if !stepOpenSt s c then s
  else
    let f := fdieOf s c
    let det := pack [(0, 16, bkt), (16, 16, part), (32, 16, source), (48, 8, f), (56, 8, cause), (64, 16, peer), (80, 16, Config.fdieTj s.free),
      (96, 16, Config.fdieMv s.free), (128, 64, rget s .stepCtxAttempt_attempt c), (192, 64, rosterEpoch s)]
    let s1 := almDetection 0x0901 (0x18 + f) c det (raiseBoth 0x0901 (0x18 + f) c det (useFree s))
    let s2 := count1 .fdieCollFaultCount_count f (rflag .fdieCollStatus_faultSeen f s1)
    let s3 := emit (.vc7 "EXCHANGE_FAULT" (mySteward s) [ownRoster s, c, stepNo s c, rget s .stepCtxAttempt_attempt c, bkt, cause]) s2
    abort3 c (ownRoster s) (sendLate c 2 (modXch c (fun e => { e with faulted := true }) s3))

/-! ### The two rounds (R223) -/

/-- Where the owner's part of a bucket lies, and its bytes. -/
def Bucket.ownDst (b : Bucket) (s : State) (op : Nat) : Nat × Nat :=
  if op = opReduceScatter then (b.dst, b.part * fmtBytes b.outFmt) else (b.dst + b.me s * b.part * fmtBytes b.outFmt, b.part * fmtBytes b.outFmt)

/-- Bytes of the whole result at dst. -/
def Bucket.dstBytes (b : Bucket) (op : Nat) : Nat := (if op = opReduceScatter then b.part else b.elems) * fmtBytes b.outFmt

/-- The closing round of a bucket begins. -/
def closeBucket (c op : Nat) (b : Bucket) (s : State) : State :=
  let d := runDigest (peek s c b.dst (b.dstBytes op)).bytes
  emit (.vc7 "CLOSING" 0x3FFF [c, stepNo s c, rget s .stepCtxAttempt_attempt c, b.id, ownRoster s, 0, d])
    (modBucket c b.id (fun b => { b with closing := true, digest := d }) s)

/-- The own part summed, written and, under ALL_REDUCE, sent to every other member. -/
def sumBucket (c op : Nat) (b : Bucket) (ps : List (List Nat)) (s : State) : State :=
  let r := wordsTo b.outFmt (b.sumPart (stepNo s c) (b.me s) ps)
  let s1 := modBucket c b.id (fun b => { b with summed := true }) (ctxWrite c (b.ownDst s op).1 r s)
  if op = opAllReduce then (b.others s).foldl (fun s j => sendPart c b j (b.me s) (b.me s) r s) s1 else s1

/-- Parts of the other members in place are written to dst. -/
def gatherBucket (c op : Nat) (b : Bucket) (s : State) : State :=
  (b.others s).foldl (fun s j =>
    match b.bytesOf j j (b.part * fmtBytes (b.gatherFmt op)) with
    | some x => ctxWrite c (b.dst + j * b.part * fmtBytes b.outFmt) (b.gathered op x) s
    | none => s) s

/-- Every part of the other members is in place. -/
def Bucket.gatherDone (b : Bucket) (s : State) (op : Nat) : Bool :=
  (b.others s).all (fun j => (b.bytesOf j j (b.part * fmtBytes (b.gatherFmt op))).isSome)

/-- What a bucket can do next: sum its part, and close once its result is in place. -/
def stepBucket (c op id : Nat) (s : State) : State :=
  match bucket? s c id with
  | none => s
  | some b =>
    if !b.opened || b.closing then s
    else
      let s1 := if op = opAllGather || b.summed then s else match b.leaves s c with | some ps => sumBucket c op b ps s | none => s
      match bucket? s1 c id with
      | none => s1
      | some b1 =>
        if op = opReduceScatter then (if b1.summed then closeBucket c op b1 s1 else s1)
        else if (op = opAllGather || b1.summed) && b1.gatherDone s1 op then closeBucket c op b1 (gatherBucket c op b1 s1)
        else s1

/-- A chunk taken at its node: the first for its key is used, later ones are discarded and counted (R218). -/
def takeChunk (c op : Nat) (m : ChunkMsg) (s : State) : State :=
  match bucket? s c m.bucket with
  | none => s
  | some b =>
    if b.got.any (fun x => x.1 == m.part && x.2.1 == m.source && x.2.2.1 == m.index) || b.agreed then
      modXch c (fun e => { e with dups := e.dups + 1 }) (count1 .fdieCollDupDiscardCount_count (fdieOf s c) (useFree s))
    else
      stepBucket c op m.bucket (modBucket c m.bucket (fun b => { b with got := b.got ++ [(m.part, m.source, m.index, m.payload)] }) s)

/-- Chunks that waited for a bucket of the current attempt. -/
def unstage (c op id : Nat) (s : State) : State :=
  let here := fun (m : ChunkMsg) => m.bucket == id && m.step == stepNo s c && m.attempt == rget s .stepCtxAttempt_attempt c
  let l := (stepOf s c).staged.filter here
  l.foldl (fun s m => takeChunk c op m s) (modStep c (fun x => { x with staged := x.staged.filter (fun m => !here m) }) s)

/-- R212 to R217: the contributions of a bucket whose shapes agree are compressed, its residuals written, and its parts sent. -/
def startBucket (c op id : Nat) (s : State) : State :=
  match bucket? s c id with
  | none => s
  | some b =>
    match b.badLines s c op with
    | _ :: _ => exchangeFault c id 0xFFFF 0xFFFF 8 0xFFFF (reportAll 3 c 0xFFFF 0xFFFF (b.badLines s c op) s)
    | [] =>
      let s1 := modBucket c id (fun b => { b with opened := true }) s
      let s2 :=
        if op = opAllGather then
          let x := (peek s c b.src (b.part * fmtBytes b.inFmt)).bytes
          (b.others s).foldl (fun s j => sendPart c b j (b.me s) (b.me s) x s)
            (ctxWrite c (b.ownDst s op).1 (b.gathered op x) s1)
        else
          let y := b.offer s c
          let s2 := (b.others s).foldl (fun s j => sendPart c b j j (b.me s) (b.encode ((b.parts y).getD j [])) s) s1
          if b.comp = 0 then s2
          else
            let r := b.residual y
            let s3 := ctxWrite c b.residOut (wordsTo (b2n b.resid32) r.1) s2
            if r.2 = 0 then s3
            else modXch c (fun e => { e with zeroed := e.zeroed + r.2 })
              (count .fdieCollNonfiniteCount_count (fdieOf s3 c) r.2 (rflag .fdieCollStatus_nonfiniteSeen (fdieOf s3 c) (useFree s3)))
      unstage c op id (stepBucket c op id s2)

/-- The operation of the EXCHANGE that runs. -/
def xchOp (s : State) (c : Nat) : Nat := ((stepOf s c).xch).elim 0 (·.op)

/-- R223, R224: the opening round's result. Unequal shapes end the command. -/
def execOpeningRound (ctx bucket : Nat) (minDigest maxDigest : Word64) (differing : Nat) (s : State) : Out :=
  match (stepOf s ctx).xch, bucket? s ctx bucket with
  | some e, some b =>
    if b.opened || b.agreed || e.faulted then .next s
    else if minDigest = maxDigest then .next (startBucket ctx e.op bucket s)
    else
      let s1 := raiseBoth 0x0902 (0x18 + fdieOf s ctx) ctx (pack [(0, 16, bucket), (16, 14, differing)]) (useFree s)
      .next (finishAt e.q e.seq stBadParam 0x05 (stopExchange ctx s1))
  | _, _ => .next s

/-- An EXCHANGE is over: every bucket is agreed (R207). -/
def endExchange (c : Nat) (s : State) : State :=
  match (stepOf s c).xch with
  | none => s
  | some e =>
    if e.faulted || !e.buckets.all (·.agreed) then s
    else
      finishAt e.q e.seq stOk (pack [(0, 16, satTo 16 e.retries), (16, 16, satTo 16 e.dups), (32, 32, satTo 32 e.zeroed)])
        (sendLate c 0 (rset .stepCtxState_agreed c 1 (stopExchange c s)))

/-- A bucket is agreed: its digest is written to the descriptor, and its part goes to the twin (R223, R235). -/
def agreeBucket (c op : Nat) (b : Bucket) (s : State) : State :=
  let s1 := modBucket c b.id (fun b => { b with agreed := true, got := [] }) (ctxWrite c (b.desc + 0x38) (leBytes 8 b.digest) s)
  let s2 :=
    if mirrored s1 c && op != opAllGather then
      let d := b.ownDst s1 op
      let x := (peek s1 c d.1 d.2).bytes
      modStep c (fun x => { x with gradSent := x.gradSent ++ [d] }) (toTwin c .grad d.1 d.2 0 x (runDigest x) s1)
    else s1
  endExchange c s2

/-- R223: the closing round's result. -/
def execClosingRound (ctx bucket : Nat) (m : CloseMsg) (s : State) : Out :=
  match (stepOf s ctx).xch, bucket? s ctx bucket with
  | some e, some b =>
    if b.agreed || e.faulted then .next s
    else if b.closing && m.members == b.group.length && !m.fault && (e.op == opReduceScatter || m.minDigest == m.maxDigest) then
      .next (agreeBucket ctx e.op b s)
    else if !b.closing && !m.fault then .next s
    else .next (exchangeFault ctx bucket 0xFFFF 0xFFFF 4 0xFFFF s)
  | _, _ => .next s

/-! ### Arrivals (R218, R219, R221, R222) -/

/-- A chunk whose payload does not match its digest: asked for once more, the second time an exchange fault. -/
def badHop (m : ChunkMsg) (s : State) : State :=
  let key := (m.part, m.source, m.index)
  if (bucket? s m.ctx m.bucket).elim false (fun b => b.failed.contains key) then exchangeFault m.ctx m.bucket m.part m.source 1 m.sender s
  else
    let f := fdieOf s m.ctx
    emit (.vc7 "CHUNK_RESEND" m.sender [m.ctx, m.bucket, m.part, m.source, m.index])
      (modXch m.ctx (fun e => { e with retries := e.retries + 1 })
        (modBucket m.ctx m.bucket (fun b => { b with failed := b.failed ++ [key] })
          (count1 .fdieCollHopRetryCount_count f (rflag .fdieCollStatus_retrySeen f (useFree s)))))

/-- R218: a contribution chunk arrives. -/
def execExchangeChunk (m : ChunkMsg) (adderFault : Bool) (s : State) : Out :=
  let c := m.ctx
  if genStale s m.sender c m.gen then .next (noteGen m.sender c m.gen s)
  else
    let s := noteGen m.sender c m.gen s
    let att := rget s .stepCtxAttempt_attempt c
    if BitVec.ofNat 64 (runDigest m.payload) ≠ m.digest then .next (badHop m s)
    else if m.epoch < rosterEpoch s || m.step < stepNo s c || (m.step == stepNo s c && decide (m.attempt < att)) then
      .next (count1 .fdieCollStaleDiscardCount_count (fdieOf s c) (useFree s))
    else if stepNo s c < m.step || att < m.attempt || !((bucket? s c m.bucket).elim false (·.opened)) then
      .next (modStep c (fun x => { x with staged := x.staged ++ [m] }) s)
    else if adderFault then .next (exchangeFault c m.bucket m.part m.source 2 0xFFFF s)
    else .next (takeChunk c (xchOp s c) m s)

/-- R221: a hop asks for a chunk of this module once more; it is sent again from the staging buffer. -/
def execChunkResendRequest (ctx bkt part source index : Nat) (s : State) : Out :=
  match (stepOf s ctx).xch, bucket? s ctx bkt with
  | some e, some b =>
    if !b.opened || source ≠ b.me s then .next s
    else
      let me := b.me s
      let gather := part == me
      let x := if e.op = opAllGather then (peek s ctx b.src (b.part * fmtBytes b.inFmt)).bytes
        else if gather then (peek s ctx (b.ownDst s e.op).1 (b.ownDst s e.op).2).bytes
        else b.encode ((b.parts (b.offer s ctx)).getD part [])
      let piece := (chunksOf 65536 (x.length / 65536 + 1) x).getD index []
      .next ((if gather then b.others s else [part]).foldl (fun s j => sendChunk ctx b j part source index piece s) s)
  | _, _ => .next s

/-! ### EXCHANGE (R203, R207) -/

/-- The bad lines of the bucket table and the group tables. -/
def tableBad (s : State) (c a n : Nat) : List Nat × List Nat :=
  let t := peek s c a (64 * n)
  (t.bad, (entries 64 n t.bytes).flatMap (fun b =>
    (peek s c (fld b 0x10 8) ((16 + 2 * fld (peek s c (fld b 0x10 8) 16).bytes 0 2 + 63) / 64 * 64)).bad))

/-- An EXCHANGE begins: the opening round of each bucket that is not agreed already runs first. -/
def startExchange (c op : Nat) (h : CmdRef) (bs : List Bucket) (s : State) : State :=
  let old := (stepOf s c).agreed
  let bs := bs.map (fun b => if old.any (fun a => a.desc == b.desc && a.shape == b.shape && a.id == b.id) then { b with opened := true, closing := true, agreed := true } else b)
  let s1 := modStep c (fun x => { x with xch := some ⟨h.q, h.seq.toNat, op, bs, 0, 0, 0, false⟩, group := (bs.head?).elim [] (·.group) }) (waitFor h (.exchange 0) s)
  let s2 := (bs.filter (fun b => !b.agreed)).foldl (fun s b =>
    emit (.vc7 "OPENING" 0x3FFF [c, stepNo s c, rget s .stepCtxAttempt_attempt c, b.id, ownRoster s, b.shape]) s) s1
  endExchange c s2

/-- R203 to R207, R222: EXCHANGE. One runs at a time in a context: a second one starts after the first has ended (log entry 16). -/
def execExchange (h : CmdRef) (buckets : Word64) (count : BitVec 32) (op : BitVec 8) (s : State) : Out :=
  .next (runCmd 0x40 h (fun s =>
    let c := h.ctx
    let a := buckets.toNat
    if !h.flags.toNat.testBit 2 || decide (2 < op.toNat) || count = 0 || decide (65536 < count.toNat) || a % 64 != 0 then badParam h 0x03 s
    else if !stepOpenSt s c then finish h stStepNotOpen 0 s
    else if (stepOf s c).xch.isSome then s
    else
      let bad := tableBad s c a count.toNat
      if !(bad.1 ++ bad.2).isEmpty then
        exchangeFault c (if bad.1.isEmpty then fld (peek s c a 2).bytes 0 2 else 0xFFFF) 0xFFFF 0xFFFF 8 0xFFFF
          (reportAll 3 c 0xFFFF 0xFFFF (bad.1 ++ bad.2) s)
      else
        match readBuckets s c op.toNat a count.toNat 0 [] with
        | .error d => badParam h d s
        | .ok bs => startExchange c op.toNat h bs (leaveReplay c (leaveIdle s))) s)

end Sys2Proof.Machine
end

