-- ==== Sys2Proof/Machine/Steps.lean ====
section
/-! DEFINITION. The step group: STEP_OPEN to STEP_ABORT, the step plan, the update phase, the seal, the flip, and the twin's side of a
mirrored pair (ch. 10). -/

namespace Sys2Proof.Machine

/-! ### The step plan (R230, R231) -/

/-- The step plan's fields. -/
def mkPlan (b : List Byte) : Plan where
  flags := fld b 6 2
  bankBytes := fld b 8 8
  gradBytes := fld b 0x10 8
  mirrorIn := fld b 0x18 8
  mirrorInBytes := fld b 0x20 8
  mirrorGrad := fld b 0x28 8
  mirrorGradBytes := fld b 0x30 8
  mirrorDesc := fld b 0x38 8
  mirrorDescBytes := fld b 0x40 8
  backupArgs := fld b 0x48 8
  backupBuckets := fld b 0x50 8
  bank0 := eightAddrs b 0x80
  bank1 := eightAddrs b 0xC0
  mbank0 := eightAddrs b 0x100
  mbank1 := eightAddrs b 0x140
  gradA := eightAddrs b 0x180
  gradB := eightAddrs b 0x1C0
  snap := eightAddrs b 0x200

/-- The areas of a plan: offset of the field, address, bytes. Mirror areas of no bytes are none. -/
def planAreas (p : Plan) (dies : Nat) : List (Nat × Nat × Nat) :=
  let per := fun (o n : Nat) (l : List Nat) => (l.take dies).mapIdx (fun i a => (o + 8 * i, a, n))
  [(0x18, p.mirrorIn, p.mirrorInBytes), (0x28, p.mirrorGrad, p.mirrorGradBytes), (0x38, p.mirrorDesc, p.mirrorDescBytes)].filter
    (fun x => x.2.2 != 0) ++
  per 0x80 p.bankBytes p.bank0 ++ per 0xC0 p.bankBytes p.bank1 ++ per 0x100 p.bankBytes p.mbank0 ++ per 0x140 p.bankBytes p.mbank1 ++
  per 0x180 p.gradBytes p.gradA ++ per 0x1C0 p.gradBytes p.gradB ++ per 0x200 p.gradBytes p.snap

/-- A range lies wholly within the context's window with both rights. -/
def rangeBoth (s : State) (c a n : Nat) : Bool := rangeIn s c false a n && rangeIn s c true a n

/-- Offsets of the fields of a plan that break Table 10.1 or R231; of two areas that overlap, the later one. -/
def planFaults (s : State) (c : Nat) (b : List Byte) : List Nat :=
  let ds := ctxDies s c
  let p := mkPlan b
  let areas := planAreas p ds.length
  let per := [(0x80, p.bank0), (0xC0, p.bank1), (0x100, p.mbank0), (0x140, p.mbank1), (0x180, p.gradA), (0x1C0, p.gradB), (0x200, p.snap)]
  (if fld b 0 4 == 0x4E414C50 then [] else [0]) ++ (if fld b 4 2 == 1 then [] else [4]) ++ (if p.flags ≤ 1 then [] else [6]) ++
  ([8, 0x10, 0x20, 0x30, 0x40].filter (fun o => fld b o 8 % 4096 != 0)) ++ ([0x18, 0x28, 0x38].filter (fun o => fld b o 8 % 4096 != 0)) ++
  (if p.flags = 0 && p.backupArgs != 0 then [0x48] else []) ++ (if p.flags = 0 && p.backupBuckets != 0 then [0x50] else []) ++
  (if zeros b 0x58 40 then [] else [0x58]) ++ (if zeros b 0x240 64 then [] else [0x240]) ++
  per.flatMap (fun x => (x.2.zipIdx.filter (fun y => !dieAddrOk s ds y.2 y.1)).map (fun y => x.1 + 8 * y.2)) ++
  ((areas.zipIdx).filter (fun x => !rangeBoth s c x.1.2.1 x.1.2.2 ||
    (areas.take x.2).any (fun y => rangesMeet x.1.2.1 x.1.2.2 y.2.1 y.2.2))).map (fun x => x.1.1)

/-- The plan at STEP_CTX_PLAN: the plan, or the detail of its first fault (R230). -/
def readPlan (s : State) (c : Nat) : Except Nat Plan :=
  let a := 64 * rget s .stepCtxPlan_addr c
  if a = 0 then .error 0x10
  else
    let b := (peek s c a 640).bytes
    match planFaults s c b with
    | [] => .ok (mkPlan b)
    | o :: l => .error (0x10 + 256 * l.foldl Nat.min o)

/-! ### STEP_OPEN (R77, R197, R236 to R241) -/

/-- Step-flagged commands of an abandoned step that are not issued, accepted before the STEP_OPEN, complete with STEP_ABANDONED; so do
waits for its COMMIT (R77, R251; the waits are DEDUCED, log entry 17). -/
def abandon (h : CmdRef) (s : State) : State :=
  let c := h.ctx
  let n := stepNo s c
  let before := s.ctl.journal.takeWhile (fun r => !isRec h.q h.seq.toNat r)
  let gone := fun (r : Rec) => r.ctx == c && ((stepFlag r && r.step == n && r.state == .accepted) || r.wait == .commitWait n)
  setJournal (before.map (fun r => if gone r then replyOf s stStepAbandoned 0 r else r) ++ s.ctl.journal.drop before.length) s

/-- The scratch slots of the kept scale table filled with +0 (R197). -/
def clearSlots (c : Nat) (s : State) : State :=
  (stepOf s c).scaleTab.foldl (fun s x => ctxWrite c x.1 (List.replicate (4 * x.2) 0) s) s

/-- The step machinery at the opening of a step; `again` where an aborted number is opened again. -/
def openCtx (p : Plan) (mbs : Nat) (again : Bool) (x : StepCtx) : StepCtx :=
  { x with plan := some p, mbs := mbs, mbRuns := if again then x.mbRuns else [], mbDone := [], mbFault := [], snapOk := false,
           retained := if again then x.retained else [], sealed := none, own := none, mir := none, report := none, updFaults := 0,
           aborts := if again then x.aborts else 0, inOff := if again then x.inOff else 0, inMap := if again then x.inMap else [], gradOff := 0, gradMap := [], gradSent := [],
           mirBad := false, xch := none, agreed := [], repairs := [] }

/-- A step opened. -/
def openStep (c n mbs : Nat) (p : Plan) (s : State) : State :=
  let again := n == stepNo s c
  let att := if again then rget s .stepCtxAttempt_attempt c + 1 else 0
  let s1 := if again then s else clearSlots c s
  let s2 := modStep c (openCtx p mbs again) s1
  clearAccum c (rset .stepCtxAttempt_attempt c att (rset .stepCtxState_agreed c 0 (rset .stepCtxState_state c 1 (rset .stepCtxStep_step c n s2))))

/-! ### INPUT_RETAIN, MICROBATCH_END (R237, R239, R241) -/

/-- R239: INPUT_RETAIN. Outside a step its range is digested and nothing is retained (DEDUCED, log entry 18). -/
def execInputRetain (h : CmdRef) (addr bytes : Word64) (microbatch : BitVec 16) (s : State) : Out :=
  .next (runCmd 0x31 h (fun s =>
    let c := h.ctx
    if stepOpenSt s c && decide ((stepOf s c).mbs ≤ microbatch.toNat) then badParam h 0 s
    else
      let r := cmdRead c addr.toNat bytes.toNat s
      let d := runDigest r.1.bytes
      if !stepOpenSt s c then finish h stOk d r.2
      else
        let s1 := modStep c (fun x => { x with retained := x.retained ++ [(addr.toNat, bytes.toNat, microbatch.toNat, false)] }) r.2
        if mirrored s c then waitFor h (.retain addr.toNat d) (toTwin c .input addr.toNat bytes.toNat microbatch.toNat r.1.bytes d s1)
        else finish h stOk d s1) s)

/-- R241: MICROBATCH_END, after MICROBATCH_END of the micro-batch before it (R237). -/
def execMicrobatchEnd (h : CmdRef) (microbatch : BitVec 16) (s : State) : Out :=
  .next (runCmd 0x32 h (fun s =>
    let c := h.ctx
    let m := microbatch.toNat
    if !stepOpenSt s c then finish h stStepNotOpen 0 s
    else if (stepOf s c).mbs ≤ m then badParam h 0 s
    else if m ≠ 0 && !(stepOf s c).mbDone.contains (m - 1) then s
    else mbCheck c m (waitFor h (.microbatch m) (leaveReplay c s))) s)

/-! ### The update phase (R187, R232, R235, R243 to R245) -/

/-- A range lies in one that was sent to the twin already. -/
def sentAlready (x : StepCtx) (a n : Nat) : Bool := x.gradSent.any (fun r => decide (r.1 ≤ a) && decide (a + n ≤ r.1 + r.2))

/-- Gradient ranges that lie in no bucket's dst go to the twin as segments of their own (R235). -/
def sendSegments (c : Nat) (d : UDesc) (s : State) : State :=
  d.tensors.foldl (fun s t =>
    let n := t.elems * if (d.hypers[t.hyper]?).elim false (fun h => h.flags.testBit 4) then 4 else 2
    if sentAlready (stepOf s c) t.grad n then s
    else
      let b := (peek s c t.grad n).bytes
      modStep c (fun x => { x with gradSent := x.gradSent ++ [(t.grad, n)] }) (toTwin c .grad t.grad n 0 b (runDigest b) s)) s

/-- The tables where they changed, then the slot values with the settings in force, to the twin (R188, R235). -/
def sendUpdate (c : Nat) (d : UDesc) (raw : List Byte) (p : Pass) (s : State) : State :=
  if !mirrored s c then s
  else
    let dig := runDigest raw
    let s1 := sendSegments c d s
    let s2 := if (stepOf s1 c).descSent = some dig then s1
      else modStep c (fun x => { x with descSent := some dig }) (toTwin c .tables 0 raw.length 0 raw dig s1)
    let sl := (List.range d.scales).flatMap (fun i => ((ownEnv s2 c p).slots i).bytes)
    toTwin c .slots 0 sl.length (pack [(0, 1, b2n p.watch.on), (1, 16, p.watch.n), (17, 32, p.watch.floor), (49, 1, p.bank)]) sl (runDigest sl) s2

/-- R187, R232: STEP_UPDATE. -/
def execStepUpdate (h : CmdRef) (optimiser : Word64) (s : State) : Out :=
  .next (runCmd 0x33 h (fun s =>
    let c := h.ctx
    if !h.flags.toNat.testBit 2 || stepSt s c == 3 then badParam h 0x01 s
    else if !stepOpenSt s c then finish h stStepNotOpen 0 s
    else
      let r := readDesc s c optimiser.toNat
      let s := reportAll 2 c 0xFFFF 0xFFFF r.bad s
      if !r.bad.isEmpty then updFault c 0 (rset .stepCtxState_state c 2 s)
      else if r.detail ≠ 0 then badParam h r.detail s
      else if (stepOf s c).plan.elim true (fun p => p.bank0 != r.desc.bank0 || p.bank1 != r.desc.bank1) then badParam h 0x01 s
      else
        let st := (stepOf s c).standOwn
        let p : Pass := ⟨r.desc, watchNow s c, stepNo s c, 1 - st, 0, 0, 0, false⟩
        let tab := (scaleRecs s c r.desc ((r.desc.bank st).getD 0 0)).map (fun b => (fld b 0x50 8, fld b 0x4A 2))
        let s1 := modStep c (fun x => { x with own := some p, report := none, scaleTab := tab }) s
        waitFor h .update (sendUpdate c r.desc r.raw p (rset .stepCtxState_state c 2 (leaveIdle s1)))) s)

/-- The state digest of the step: that of its own pass, 0 where it has no update. -/
def stateDigest (x : StepCtx) : Nat := x.own.elim 0 (·.digest)

/-- R246: the seal recorded, and sent to the cohort steward. -/
def sealNow (c : Nat) (s : State) : State :=
  let x := stepOf s c
  let d := stateDigest x
  let fl := b2n (!mirrored s c) + 2 * b2n x.own.isNone
  let s1 := modStep c (fun x => { x with sealed := some (stepNo s c, rget s .stepCtxAttempt_attempt c, d, fl) }) s
  let s2 := rset .stepCtxState_state c 3 (if mirrored s c then s1 else rflag .stepStatus_unmirroredSeen 0 s1)
  let s3 := emit (.vc7 "SEAL" (mySteward s) [sliceId s, ownRoster s, c, stepNo s c, rget s .stepCtxAttempt_attempt c, d, fl]) s2
  finishWaits (fun r => r.ctx == c && r.wait == .sealing) stOk (fun _ => d) s3

/-- The Harvest engines have still to read bytes of the shards that this context writes (R314). -/
def shardPending (s : State) (c : Nat) : Bool :=
  let left := fun (h : HShard) => decide (h.wrote.length < h.chunks)
  (sget Harv.empty s.har c).gen.elim false (fun g => left g.own || g.twin.elim false left)

/-- A waiting STEP_SEAL is recorded once the attempt's STEP_UPDATE has completed and no shard of the step before has still to be read
(R246, R314). -/
def sealCheck (c : Nat) (s : State) : State :=
  if s.ctl.journal.any (fun r => r.ctx == c && r.state == .issued && r.wait == .sealing) && (stepOf s c).own.elim true (·.ended) &&
      !s.ctl.journal.any (fun r => r.ctx == c && r.state == .issued && r.wait == .update) && !shardPending s c then sealNow c s
  else s

/-- R246: STEP_SEAL. The step must be the open one. -/
def execStepSeal (h : CmdRef) (step : Word64) (s : State) : Out :=
  .next (runCmd 0x34 h (fun s =>
    let c := h.ctx
    if !stepOpenSt s c || step.toNat ≠ stepNo s c || stepSt s c == 3 then badParam h 0 s
    else sealCheck c (mapRecs (isRec h.q h.seq.toNat) (fun r => { r with step := stepNo s c }) (waitFor h .sealing s))) s)

/-- STEP_UPDATE completes: the own pass has ended and, in a mirrored context, the twin's report agrees (R187, R244). -/
def updateDone (c : Nat) (s : State) : State :=
  match (stepOf s c).own with
  | none => s
  | some p =>
    let d := pack [(0, 1, p.bank), (1, 1, b2n (mirrored s c)), (16, 32, satTo 32 p.kept)]
    sealCheck c (finishWaits (fun r => r.ctx == c && r.wait == .update) stOk (fun _ => d) s)

/-- R335: after a digest mismatch the unit that wrote a differing chunk is charged; which one did is not stated. The third charge within
720 powered hours fences it. -/
def chargeUnit (c : Nat) (s : State) : State :=
  let ds := ctxDies s c
  let us := ds.flatMap (fun d => (List.range 14).map (fun k => 14 * d + k)) |>.filter (fun u => !s.sp.unitsOff.contains u && u % 14 != 13)
  let u := us.getD (Config.unitPick s.free us.length % Nat.max 1 us.length) 0
  let log := (u, s.alm.hours) :: s.sp.chargeLog.filter (fun x => decide (s.alm.hours < x.2 + 720))
  let s1 := useFree { s with sp := { s.sp with chargeLog := log } }
  if (log.filter (fun x => x.1 == u)).length < 3 then s1
  else
    substDone kUnit (u / 14) 0 2 (u % 14) (u % 14) 13 { s1 with sp := { s1.sp with unitsOff := s1.sp.unitsOff ++ [u] } }

/-- Both reports of a mirrored pass compared (R244). -/
def compareUpdate (c : Nat) (s : State) : State :=
  match (stepOf s c).own, (stepOf s c).report with
  | some p, some (d, ok) =>
    if !p.ended then s
    else if d = p.digest && ok then updateDone c s
    else
      let s1 := if d = p.digest then s
        else chargeUnit c (raiseBoth 0x0A03 9 c (pack [(0, 64, p.digest), (64, 64, d)]) s)
      updFault c 0 (healthLog 1 1 s1)
  | _, _ => s

/-- A bad standing line met by a pass is asked for from the partner (R245). -/
def askRepair (c : Nat) (mir : Bool) (l : List Nat) (s : State) : State :=
  l.foldl (fun s a =>
    match (stepOf s c).twin with
    | some t => emit (.data "REPAIR" t [c, ownRoster s, a, b2n mir] []) (modStep c (fun x => { x with repairs := x.repairs ++ [a] }) s)
    | none => s) s

/-- The own pass ends: it has written the pending bank (R183, R187, R200, R245). -/
def ownPassEnd (c : Nat) (p : Pass) (s : State) : State :=
  let o := passRun s (ownEnv s c p) p.desc p.watch p.step
  let s1 := modStep c (fun x => { x with own := some (p.done o) }) (passApply c o s)
  if !o.badStd.isEmpty && !mirrored s c then abort3 c (ownRoster s) s1
  else if !o.badStd.isEmpty then askRepair c false o.badStd.eraseDups (updFault c 0 s1)
  else if !o.badOther.isEmpty then updFault c 0 s1
  else if mirrored s c then compareUpdate c s1
  else updateDone c s1

/-- The mirror pass ends, and its report goes to the twin (R244). -/
def mirPassEnd (c : Nat) (p : Pass) (s : State) : State :=
  let o := passRun s (mirEnv s c p) p.desc p.watch p.step
  let s1 := modStep c (fun x => { x with mir := some (p.done o) }) (passApply c o s)
  if !o.badStd.isEmpty then
    askRepair c true o.badStd.eraseDups (modStep c (fun x => { x with mir := some p.restart }) s1)
  else
    emit (.vc7 "PASS_REPORT" ((stepOf s c).twin.getD 0x3FFF)
      [c, ownRoster s, p.step, o.digest, b2n (!(stepOf s c).mirBad && o.badOther.isEmpty)]) s1

/-- Bytes that an update pass moves: the standing bank, the gradients and the pending bank on every die of the plan. -/
def passBytes (x : StepCtx) : Nat :=
  x.plan.elim 0 (fun p => (p.bank0.filter (fun a => a != 0)).length * (2 * p.bankBytes + p.gradBytes))

/-- R187, R188: a pass of a context ends. -/
def execUpdatePassEnd (ctx : Nat) (mirror : Bool) (s : State) : Out :=
  let x := stepOf s ctx
  if !x.repairs.isEmpty then .next s
  else
    match if mirror then x.mir else x.own with
    | none => .next s
    | some p => if p.ended then .next s else .next (chargeMem ctx (passBytes x) (if mirror then mirPassEnd ctx p s else ownPassEnd ctx p s))

/-- R244: the twin's report of its mirror pass. -/
def execMirrorPassReport (ctx : Nat) (digest : Word64) (checksOk : Bool) (s : State) : Out :=
  if (stepOf s ctx).own.isNone || !mirrored s ctx then .next s
  else .next (compareUpdate ctx (modStep ctx (fun x => { x with report := some (digest.toNat, checksOk) }) s))

/-! ### STEP_COMMIT_WAIT, STEP_ABORT -/

/-- Table 3.6: STEP_COMMIT_WAIT. A step committed earlier answers at once (DEDUCED, log entry 17). -/
def execStepCommitWait (h : CmdRef) (step : Word64) (s : State) : Out :=
  .next (runCmd 0x35 h (fun s =>
    if step.toNat ≤ rget s .stepCtxCommitted_step h.ctx then finish h stOk (commitSeq s h.ctx) s
    else if step.toNat < stepNo s h.ctx then finish h stStepAbandoned 0 s
    else waitFor h (.commitWait step.toNat) s) s)

/-- R249, R251: STEP_ABORT of the open step; the other members hear of it through the steward. -/
def execStepAbort (h : CmdRef) (step : Word64) (s : State) : Out :=
  .next (runCmd 0x36 h (fun s =>
    if !stepOpenSt s h.ctx || step.toNat ≠ stepNo s h.ctx then badParam h 0 s
    else
      finishOk h (abort4 h.ctx (ownRoster s) (emit (.vc7 "STEP_ABORT" (mySteward s) [ownRoster s, h.ctx, step.toNat]) s))) s)

/-! ### The flip (R248, R194, R199) -/

/-- The watch record of a group in a bank. -/
def watchAt (s : State) (c : Nat) (d : UDesc) (bank g : Nat) : List Byte := (peek s c ((d.bank bank).getD 0 0 + d.watchOff + 64 * g) 64).bytes

/-- R194: a group that becomes quiet at this COMMIT. -/
def quietGroup (c : Nat) (p : Pass) (s : State) (g : Nat) : State :=
  let new := watchAt s c p.desc p.bank g
  let old := watchAt s c p.desc (1 - p.bank) g
  if (new.getD 0x3A 0).getLsbD 0 && !(old.getD 0x3A 0).getLsbD 0 then
    let s1 := if rget s .numwQuiet_seen c = 1 && rget s .numwQuiet_firstGroup c ≤ g then s else rset .numwQuiet_firstGroup c g s
    raiseBoth 0x0801 0xB c (pack [(0, 12, g), (16, 16, fld new 0x38 2), (32, 32, fld new 0x0C 4), (64, 64, fld new 0x18 8)])
      (count1 .numwQuiet_reports c (rflag .numwStatus_quietSeen 0 (rflag .numwQuiet_seen c s1)))
  else s

/-- R199: a scale record whose mode changes at this COMMIT. -/
def modeChange (c : Nat) (p : Pass) (fresh : Bool) (s : State) (i : Nat) : State :=
  let at' := fun (b : Nat) => (peek s c ((p.desc.bank b).getD 0 0 + p.desc.scaleOff + 128 * i) 128).bytes
  let new := at' p.bank
  let old := if fresh then 0 else fld (at' (1 - p.bank)) 0x46 1
  if fld new 0x46 1 ≠ old then raiseBoth 0x0803 0xB c (pack [(0, 16, i), (16, 8, fld new 0x46 1), (24, 16, fld new 0x48 2)]) s else s

/-- What the numerics watch reports of a committed own pass. -/
def commitWatch (c : Nat) (p : Pass) (fresh : Bool) (s : State) : State :=
  let s1 := (List.range p.desc.groups).foldl (quietGroup c p) s
  let s2 := (List.range p.desc.scales).foldl (modeChange c p fresh) s1
  let s3 := if p.watch.on then s2 else rflag .numwStatus_offSeen 0 s2
  if p.kept = 0 then s3
  else raiseBoth 0x0802 0xB c (pack [(0, 16, satTo 16 p.groups), (16, 48, satTo 48 p.kept)]) (count .numwNonfiniteCount_count 0 p.kept s3)

/-- The step machinery after a flip: the retained items are released. -/
def flipCtx (x : StepCtx) : StepCtx :=
  { x with standOwn := if x.own.elim false (·.ended) then 1 - x.standOwn else x.standOwn,
           standMir := if x.mir.elim false (·.ended) then 1 - x.standMir else x.standMir,
           lastScale := x.own.elim x.lastScale (fun p => if p.ended then (p.desc.scaleOff, p.desc.scales) else x.lastScale),
           own := none, mir := none, report := none, sealed := none, retained := [], snapOk := false, mbFault := [],
           inOff := 0, inMap := [], gradOff := 0, gradMap := [], gradSent := [], agreed := [], xch := none,
           fresh := x.fresh && !x.own.elim false (·.ended), askCommit := false, mirBad := false }

/-- The binding with the twin ends (R233, R254). -/
def unbind (c : Nat) (s : State) : State :=
  let x := stepOf s c
  let s1 := modStep c (fun x => { x with twin := none, peerBind := none, bankHeld := false, bankSent := false, mir := none, adopted := none,
                                         descSent := none, descGot := none, gradMap := [], gradOff := 0, inOff := 0, inMap := [], repairs := [] }) s
  let s2 := { s1 with ctl := { s1.ctl with partner := s1.ctl.partner.filter (fun r => !(r.2.1 == c && x.twin == some r.1)) } }
  if mirrored s c then
    twinBack c (raiseBoth 0x0A07 9 c (pack [(0, 1, 0), (16, 14, x.twin.getD 0)])
      (rset .stepCtxState_sameTray c 0 (rset .stepCtxState_mirrored c 0 s2)))
  else twinBack c s2

/-- A waiting MIRROR_RELEASE takes effect when no step is open (Table 3.6). -/
def releaseCheck (c : Nat) (s : State) : State :=
  if stepOpenSt s c || !s.ctl.journal.any (fun r => r.ctx == c && r.state == .issued && r.wait == .release) then s
  else finishWaits (fun r => r.ctx == c && r.wait == .release) stOk (fun _ => 0) (unbind c (toTwin c .release 0 0 0 [] 0 s))

/-- R248: the flip of a matching COMMIT. -/
def flip (c seq : Nat) (s : State) : State :=
  let x := stepOf s c
  let fl := x.sealed.elim 0 (·.2.2.2)
  let n := stepNo s c
  let passes := b2n (x.own.elim false (·.ended)) + b2n (x.mir.elim false (·.ended))
  let s1 := rset .stepCtxCommitted_step c n (rset .stepCommitSeq_seq c seq (rset .stepCtxState_rot c (1 - rget s .stepCtxState_rot c) (modStep c flipCtx s)))
  let s2 := rset .stepCtxState_state c 0 s1
  let s3 := if passes = 0 then s2 else count .numwPassCount_count 0 passes s2
  let s4 := match x.own with | some p => if p.ended then commitWatch c p x.fresh s3 else s3 | none => s3
  let s5 := raiseBoth 0x0A02 9 c (pack [(0, 32, rget s .stepCtxAttempt_attempt c), (32, 1, fl % 2), (33, 1, fl / 2)]) s4
  let s6 := finishWaits (fun r => r.ctx == c && r.wait == .commitWait n) stOk (fun _ => seq) s5
  freeRecs (releaseCheck c s6)

/-- A COMMIT matches the module's seal. -/
def commitMatches (s : State) (c : Nat) (m : CommitMsg) : Bool :=
  stepSt s c == 3 && (stepOf s c).sealed.elim false (fun x => x.1 == m.step && x.2.1 == m.attempt) && !s.fab.out

/-! ### The twin's side (R233 to R235, R239) -/

/-- R233: a bind completes when both sides hold the copies. -/
def bindCheck (c : Nat) (s : State) : State :=
  let x := stepOf s c
  match x.bind with
  | none => s
  | some (t, _) =>
    if x.bankHeld && x.bankSent then
      let same := (List.range 32).any (fun p => rget s .linkPortPeer_roster p == t && rget s .linkPortPeer_trayId p == s.fab.trayId)
      let s1 := modStep c (fun x => { x with bind := none }) s
      let s2 := rset .stepCtxState_sameTray c (b2n same) (rset .stepCtxState_mirrored c 1 s1)
      finishWaits (fun r => r.ctx == c && r.wait == .bind) stOk (fun _ => 0)
        (twinBack c (raiseBoth 0x0A07 9 c (pack [(0, 1, 1), (16, 14, t)]) s2))
    else s

/-- A bind that fails completes with BAD_PARAM; neither side is bound. -/
def bindFail (c det : Nat) (s : State) : State :=
  finishWaits (fun r => r.ctx == c && r.wait == .bind) stBadParam (fun _ => det)
    (modStep c (fun x => { x with bind := none, twin := none, peerBind := none, bankHeld := false, bankSent := false }) s)

/-- The standing bank, die by die, and the journal records that are not freed, sent to the twin. -/
def sendCopies (c : Nat) (p : Plan) (s : State) : State :=
  let st := (stepOf s c).standOwn
  let bank := if st = 0 then p.bank0 else p.bank1
  let s1 := ((bank.take (ctxDies s c).length).zipIdx).foldl (fun s x =>
    let b := (peek s c x.1 p.bankBytes).bytes
    toTwin c .bank 0 p.bankBytes (2 * x.2 + st) b (runDigest b) s) s
  let s2 := (s1.ctl.journal.filter (fun r => r.ctx == c)).foldl (fun s r => toTwin c .journal r.q r.seq r.opcode r.bytes 0 s) s1
  modStep c (fun x => { x with bankSent := true }) (toTwin c .copied 0 0 st [] 0 s2)

/-- Both binds are there: the two sides are compared, and each sends its copies (R233). -/
def bindMeet (c : Nat) (s : State) : State :=
  let x := stepOf s c
  match x.bind, x.peerBind, x.plan with
  | some (t, _), some (pt, dies, _, bank, grad), some p =>
    if pt ≠ t then s
    else if dies ≠ (ctxDies s c).length || bank ≠ p.bankBytes || grad ≠ p.gradBytes then bindFail c 0x03 s
    else bindCheck c (sendCopies c p s)
  | _, _, _ => s

/-- R233, R234: MIRROR_BIND. -/
def execMirrorBind (h : CmdRef) (twin journalMib : BitVec 16) (s : State) : Out :=
  .next (runCmd 0x41 h (fun s =>
    let c := h.ctx
    let t := twin.toNat
    if stepOpenSt s c then badParam h 0x01 s
    else
      match readPlan s c with
      | .error d => badParam h d s
      | .ok p =>
        if journalMib.toNat < (ctx? s c).elim 0 (·.journalMib) then badParam h 0x02 s
        else if !inRoster s t || t = ownRoster s then badParam h 0x05 s
        else if !inSlice s t then badParam h 0x04 s
        else
          let s1 := modStep c (fun x => { x with plan := some p, bind := some (t, journalMib.toNat), twin := some t, bankHeld := false, bankSent := false }) s
          bindMeet c (toTwin c .bind p.bankBytes p.gradBytes (pack [(0, 8, (ctxDies s c).length), (8, 16, journalMib.toNat)]) [] 0
            (waitFor h .bind s1))) s)

/-- R234: the twin's matching bind did not come within 10 s. -/
def execMirrorBindTimeout (ctx : Nat) (s : State) : Out :=
  if (stepOf s ctx).bind.isSome then .next (bindFail ctx 0x05 s) else .next s

/-- Table 3.6: MIRROR_RELEASE, after the open step commits. -/
def execMirrorRelease (h : CmdRef) (s : State) : Out :=
  .next (runCmd 0x42 h (fun s => releaseCheck h.ctx (waitFor h .release s)) s)

/-- R235: an area too small for what it must receive is an update-level fault of the pair, cause 0x08. -/
def mirOverflow (c : Nat) (s : State) : State :=
  modStep c (fun x => { x with mirBad := true }) (rflag .fdieMirrorStatus_overflowSeen ((ctxDies s c).headD 0 / 2) s)

/-- A received copy or segment whose digest fails (R244). -/
def mirCheckFail (c : Nat) (s : State) : State :=
  modStep c (fun x => { x with mirBad := true }) (count1 .fdieMirrorCheckFailCount_count ((ctxDies s c).headD 0 / 2) s)

/-- The plan in force. -/
def planOr (x : StepCtx) : Plan := x.plan.getD ⟨0, 0, 0, 0, 0, 0, 0, 0, 0, 0, 0, [], [], [], [], [], [], []⟩

/-- A retained input of the partner (R235). -/
def mirInput (c : Nat) (m : MirrorMsg) (s : State) : State :=
  let x := stepOf s c
  let p := planOr x
  if p.mirrorInBytes < x.inOff + m.data.length then mirOverflow c s
  else toTwin c .inputAck m.addr m.len 0 [] m.digest
    (modStep c (fun x => { x with inOff := (x.inOff + m.data.length + 63) / 64 * 64,
                                  inMap := x.inMap ++ [(m.addr, m.data.length, x.inOff, m.arg)] }) (ctxWrite c (p.mirrorIn + x.inOff) m.data s))

/-- A gradient part or segment of the partner (R235, R244). -/
def mirGradient (c : Nat) (m : MirrorMsg) (s : State) : State :=
  let x := stepOf s c
  let p := planOr x
  if runDigest m.data ≠ m.digest then mirCheckFail c s
  else if p.mirrorGradBytes < x.gradOff + m.data.length then mirOverflow c s
  else modStep c (fun x => { x with gradOff := (x.gradOff + m.data.length + 63) / 64 * 64,
                                    gradMap := (m.addr, m.data.length, x.gradOff) :: x.gradMap }) (ctxWrite c (p.mirrorGrad + x.gradOff) m.data s)

/-- The partner's descriptor and tables (R235). -/
def mirTables (c : Nat) (m : MirrorMsg) (s : State) : State :=
  let p := planOr (stepOf s c)
  let d := m.data
  let nt := 64 * fld d 8 4
  if p.mirrorDescBytes < d.length then mirOverflow c s
  else modStep c (fun x => { x with descGot := some (mkDesc d ((d.drop 256).take nt) (d.drop (256 + nt))), descLen := (d.length + 63) / 64 * 64 })
    (ctxWrite c p.mirrorDesc d s)

/-- The partner's slot values: the mirror pass begins (R188, R235). -/
def mirSlots (c : Nat) (m : MirrorMsg) (s : State) : State :=
  let x := stepOf s c
  let p := planOr x
  match x.descGot with
  | none => s
  | some d =>
    let s1 := if p.mirrorDescBytes < x.descLen + m.data.length then mirOverflow c s else ctxWrite c (p.mirrorDesc + x.descLen) m.data s
    modStep c (fun x => { x with mir := some ⟨d, ⟨m.arg.testBit 0, bits m.arg 1 16, bits m.arg 17 32⟩, m.step, 1 - x.standMir, 0, 0, 0, false⟩ }) s1

/-- R253, at the spare: the twin of the lost member begins to send what the spare needs; the spare becomes its twin. -/
def takeBegin (c : Nat) (m : MirrorMsg) (s : State) : State :=
  let s1 := modStep c (fun x => { x with twin := some m.sender, bind := some (m.sender, (ctx? s c).elim 0 (·.journalMib)), peerBind := none, bankHeld := false,
                                         bankSent := false, standOwn := m.arg % 2, plan := (readPlan s c).toOption, snapOk := false,
                                         retained := [], mbDone := [], mbRuns := [], own := none, mir := none, sealed := none }) s
  let s2 := rset .stepCommitSeq_seq c m.len (rset .stepCtxCommitted_step c m.addr (rset .stepCtxStep_step c m.step (rset .stepCtxAttempt_attempt c m.attempt s1)))
  rset .stepCtxState_state c (if m.arg / 2 % 2 = 1 then 4 else 0) s2

/-- A record of the lost member's journal, accepted here: it runs again from its start. STEP_OPEN of the open step gives its micro-batches. -/
def takeRec (c : Nat) (m : MirrorMsg) (s : State) : State :=
  let flags := bits (fld m.data 0 4) 16 12
  let r : Rec := ⟨m.addr, m.len, c, m.arg, flags, m.data, .accepted, .none, if flags.testBit 2 then m.step else 0, 0, none, none⟩
  let s1 := if r.opcode = 0x30 && recParam r 0 == m.step then modStep c (fun x => { x with mbs := recParam r 1 }) s else s
  setJournal (s1.ctl.journal ++ [if r.opcode = 0x30 && recParam r 0 ≤ m.step then replyOf s stOk m.addr r else r]) s1

/-- The spare holds everything: it answers its twin as a bind does. -/
def takeEnd (c : Nat) (s : State) : State :=
  if (stepOf s c).bind.isSome && (stepOf s c).peerBind.isNone && !(stepOf s c).bankSent then
    toTwin c .copied 0 0 (stepOf s c).standOwn [] 0 (modStep c (fun x => { x with bankSent := true }) s)
  else s

/-- R233 to R235, R239, R253: a transfer of the mirror engine arrives from the partner. -/
def execMirrorTransfer (ctx : Nat) (m : MirrorMsg) (s : State) : Out :=
  let c := ctx
  let x := stepOf s c
  if m.kind ≠ .bind && m.kind ≠ .take && x.twin ≠ some m.sender then .next s
  else
    match m.kind with
    | .bind => .next (bindMeet c (modStep c (fun x => { x with peerBind := some (m.sender, bits m.arg 0 8, bits m.arg 8 16, m.addr, m.len) }) s))
    | .bank =>
      let l := if m.arg % 2 = 0 then (planOr x).mbank0 else (planOr x).mbank1
      .next (ctxWrite c (l.getD (m.arg / 2) 0 + m.addr) m.data s)
    | .journal => .next { s with ctl := { s.ctl with partner := s.ctl.partner ++ [(m.sender, c, m.addr, m.len, m.data)] } }
    | .copied => .next (bindCheck c (takeEnd c (modStep c (fun x => { x with bankHeld := true, standMir := m.arg }) s)))
    | .input => .next (mirInput c m s)
    | .inputAck =>
      let s1 := modStep c (fun x => { x with retained := x.retained.map (fun r => if r.1 = m.addr then (r.1, r.2.1, r.2.2.1, true) else r) }) s
      .next (finishWaits (fun r => r.ctx == c && (match r.wait with | .retain a _ => a == m.addr | _ => false)) stOk
        (fun r => match r.wait with | .retain _ d => d | _ => 0) s1)
    | .grad => .next (mirGradient c m s)
    | .tables => .next (mirTables c m s)
    | .slots => .next (mirSlots c m s)
    | .again => .next (modStep c (fun x => { x with mir := x.mir.map Pass.restart, mirBad := false }) s)
    | .release => .next (unbind c s)
    | .take => .next (if (ctx? s c).isSome && rget s .cohortSelf_role 0 ≠ 0 then takeBegin c m s else s)
    | .ownBank =>
      let l := if m.arg % 2 = 0 then (planOr x).bank0 else (planOr x).bank1
      .next (ctxWrite c (l.getD (m.arg / 2) 0 + m.addr) m.data s)
    | .ownJournal => .next (takeRec c m s)
    | .ownInput =>
      .next (modStep c (fun x => { x with retained := x.retained ++ [(m.addr, m.len, m.arg, true)] }) (ctxWrite c m.addr m.data s))
    | .ownGrad => .next (ctxWrite c m.addr m.data s)

/-- R245: the partner's answer for a standing line: its bytes, or none where its copy is bad too, which is a second fault. -/
def execMirrorRepair (ctx : Nat) (addr : Word64) (data : Option (List Byte)) (s : State) : Out :=
  let c := ctx
  let a := addr.toNat
  if !(stepOf s c).repairs.contains a then .next s
  else
    let s1 := modStep c (fun x => { x with repairs := x.repairs.filter (fun y => y != a) }) s
    match data with
    | some b =>
      let m := (ctxDies s c).headD 0 / 2
      .next (ctxWrite c (a / 64 * 64) b (rflag .fdieMirrorStatus_repairSeen m (count1 .fdieMirrorRepairCount_count m s1)))
    | none => .next (finishWaits (fun r => r.ctx == c && r.wait == .update) stWorkLost (fun _ => 0) s1)

/-- R255: STRAGGLER_SET. -/
def execStragglerSet (h : CmdRef) (thresholdPct : BitVec 8) (runSteps : BitVec 16) (s : State) : Out :=
  .next (runCmd 0x43 h (fun s =>
    finishOk h (emit (.vc7 "STRAGGLER_SET" (mySteward s) [ownRoster s, h.ctx, thresholdPct.toNat, runSteps.toNat])
      (modStep h.ctx (fun x => { x with pct := thresholdPct.toNat, runSteps := runSteps.toNat }) s))) s)

end Sys2Proof.Machine
end

