-- ==== Sys2Proof/Machine/Links.lean ====
section
/-! DEFINITION. Ovuleb links, discovery, the wiring plan, slices and routing (ch. 11), with the suspicion that a lost link raises. -/

namespace Sys2Proof.Machine

/-! ### Ports -/

/-- A link port. -/
def portOf (s : State) (p : Nat) : Port := sget Port.down s.fab.ports p

/-- A change of a port. -/
def modPort (p : Nat) (f : Port → Port) (s : State) : State :=
  if p < 32 then { s with fab := { s.fab with ports := sset Port.down s.fab.ports p (f (portOf s p)) } } else s

/-- The port has trained. -/
def portUp (s : State) (p : Nat) : Bool := decide (p < 32) && rget s .linkPortState_state p == 2

/-- An outcome with which a link carries traffic (R276). -/
def goodOutcome (o : Nat) : Bool := o == 1 || o == 2 || o == 3

/-- R276: both ends' outcomes let the link carry traffic. -/
def carries (s : State) (p : Nat) : Bool :=
  portUp s p && goodOutcome (rget s .linkPortState_outcome p) && (portOf s p).beacon.elim false (fun b => goodOutcome b.mtch.toNat)

/-- LINK_STATE. -/
def linkState (p cause : Nat) (s : State) : State :=
  raise0 0x0B01 6 (pack [(0, 8, p), (8, 4, rget s .linkPortState_state p), (12, 4, rget s .linkPortState_width p),
    (16, 4, rget s .linkPortState_spared p), (20, 4, cause)]) s

/-! ### Suspicion (R293, R296) -/

/-- This module holds a module suspect. -/
def suspects (s : State) (i : Nat) : Bool :=
  (List.range 32).any (fun p => (portOf s p).suspect && rget s .linkPortPeer_roster p == i) || s.fab.suspicions.any (fun x => x.suspect == i)

/-- R293: the module to which a suspicion goes. -/
def suspicionTo (s : State) (i : Nat) : Nat :=
  let co := bits (rosterEntry s i) 20 8
  let st := stewardOf s co
  let de := deputyOf s co
  if st ≠ 0x3FFF && st ≠ i && !suspects s st then st
  else if de ≠ 0x3FFF && de ≠ i && !suspects s de then de
  else primaryOf s

/-- Ports of an egress mask. -/
def maskPorts (m : Nat) : List Nat := (List.range 32).filter (fun p => m.testBit p)

/-- A routing entry (R281): flags in bits [1:0], the egress mask above. -/
def routeOf (s : State) (i : Nat) : Nat := sget 0 s.fab.routes i

/-- R296: the deciding module takes a report: the first one of a suspect starts its gathering with a probe over every route. -/
def takeReport (reporter suspect port cause : Nat) (s : State) : State :=
  if s.fab.suspicions.any (fun x => x.suspect == suspect) then
    { s with fab := { s.fab with suspicions := s.fab.suspicions.map (fun x => if x.suspect = suspect then { x with reports := x.reports ++ [(reporter, port)] } else x) } }
  else
    (maskPorts (routeOf s suspect / 4)).foldl (fun s p => emit (.link p "PROBE" [suspect]) s)
      { s with fab := { s.fab with suspicions := s.fab.suspicions ++ [⟨suspect, cause, [(reporter, port)], false⟩] } }

/-- A port's peer becomes suspect: the report, its event and its count. -/
def suspectPeer (p cause : Nat) (s : State) : State :=
  let i := rget s .linkPortPeer_roster p
  if (portOf s p).suspect || !hasPosition s || !inRoster s i then s
  else
    let dest := suspicionTo s i
    let s1 := modPort p (fun x => { x with suspect := true }) s
    let s2 := raise0 0x0C01 8 (pack [(0, 14, i), (16, 8, p), (24, 4, cause)])
      (count1 .cohortSuspectCount_count 0 (rflag .cohortStatus_suspectSeen 0 s1))
    if dest = ownRoster s then takeReport (ownRoster s) i p cause s2
    else emit (.vc7 "SUSPICION" dest [ownRoster s, i, p, cause, rosterEpoch s]) s2

/-! ### Beacons and outcomes (R272 to R278) -/

/-- The straps byte of the module's beacon. -/
def ownStraps (s : State) : Nat :=
  pack [(0, 3, rget s .mcStraps_slot 0), (3, 2, rget s .mcStraps_trayType 0), (5, 2, rget s .mcStraps_planClass 0)]

/-- The roster field of the module's own messages. -/
def rosterField (s : State) : Nat := if hasPosition s then ownRoster s else 0xFFFF

/-- The outcome as a beacon reports it. -/
def matchField (s : State) (p : Nat) : Nat := if rget s .linkPortState_outcome p = 0 then 0xFF else rget s .linkPortState_outcome p

/-- R272: a beacon sent on a trained port. -/
def sendBeacon (p : Nat) (s : State) : State :=
  if portUp s p then
    emit (.link p "BEACON" [1, 1, p, 2, rget s .linkEpoch_min 0, rget s .linkEpoch_max 0, serialDigest, s.fab.trayId, ownStraps s,
      matchField s p, rosterField s, rget s .linkPlanDigest_digest 0, rget s .linkPlan_generation 0]) s
  else s

/-- A field of every beacon has changed. -/
def beaconAll (s : State) : State := (List.range 32).foldl (fun s p => sendBeacon p s) s

/-- R272. -/
def execBeaconSend (port : Nat) (s : State) : Out := .next (sendBeacon port s)

/-- A beacon matches an entry's peer (R275). -/
def peerMatches (x : Port) (b : Beacon) : Bool :=
  x.planned && b.trayId.toNat == x.peerTray && b.straps.toNat % 8 == x.peerSlot && (x.peerSerial == 0 || b.serialDigest.toNat == x.peerSerial)

/-- The epoch of a link (R273). -/
def linkEpoch (s : State) (b : Beacon) : Nat := Nat.min (rget s .linkEpoch_max 0) b.epochMax

/-- R275: the outcome of a trained port, the rules of Table 11.6 in order. -/
def outcomeFor (s : State) (p : Nat) (b : Beacon) : Nat :=
  let x := portOf s p
  let e := linkEpoch s b
  if e < rget s .linkEpoch_min 0 || e < b.epochMin then 7
  else if !s.fab.planned || !x.planned then 5
  else if peerMatches x b && b.port == x.peerPort then 1
  else if peerMatches x b && (List.range 32).any (fun q => q != p && peerMatches (portOf s q) b && (portOf s q).peerPort == b.port) then 2
  else if rget s .linkPlan_acceptDiscovered 0 = 1 then 3
  else 4

/-- An outcome decided or changed: LINK_DISCOVERY, and a new beacon, whose match field has changed. -/
def setOutcome (p o : Nat) (s : State) : State :=
  let old := rget s .linkPortState_outcome p
  if old = o then s
  else
    let s1 := rset .linkPortState_outcome p o s
    let s2 := if o = 3 || o = 4 || o = 7 then rflag .linkStatus_mismatchSeen 0 s1 else s1
    let b := (portOf s p).beacon
    let gen := b.elim 0 (fun b => b.planGen.toNat)
    let diff := b.elim false (fun b => b.planDigest.toNat != rget s .linkPlanDigest_digest 0)
    sendBeacon p (raise0 0x0B02 6 (pack [(0, 8, p), (8, 4, o), (12, 4, old), (16, 32, rget s .linkPortPeer_trayId p),
      (48, 8, rget s .linkPortPeer_straps p), (56, 8, rget s .linkPortPeer_port p), (64, 64, rget s .linkPortPeerSerial_digest p), (128, 32, gen),
      (160, 1, b2n diff)]) s2)

/-- A trained port matched against the plan. -/
def matchPort (p : Nat) (s : State) : State :=
  if !portUp s p then s
  else match (portOf s p).beacon with
    | some b => setOutcome p (outcomeFor s p b) s
    | none => s

/-- The registers that a beacon fills. -/
def peerRegs (p : Nat) (b : Beacon) (s : State) : State :=
  rset .linkPortState_epoch p (linkEpoch s b) (rset .linkPortPeerSerial_digest p b.serialDigest.toNat (rset .linkPortPeer_trayId p b.trayId.toNat
    (rset .linkPortPeer_roster p b.roster.toNat (rset .linkPortPeer_port p b.port (rset .linkPortPeer_straps p b.straps.toNat s)))))

/-- Two beacons of the same module's same port. -/
def sameIdentity (a b : Beacon) : Bool :=
  a.serialDigest == b.serialDigest && a.trayId == b.trayId && a.straps == b.straps && a.port == b.port

/-- R275, Table 11.10: a beacon arrives. A changed identity makes the peer suspect and the outcome undecided before it is matched again. -/
def execIdentityBeacon (port : Nat) (b : Beacon) (s : State) : Out :=
  if !portUp s port then .next s
  else
    let changed := (portOf s port).beacon.elim false (fun a => !sameIdentity a b)
    let s1 := if changed then rset .linkPortState_outcome port 0 (suspectPeer port 3 s) else s
    let s2 := modPort port (fun x => { x with beacon := some b, suspect := if changed then false else x.suspect }) (peerRegs port b s1)
    .next (matchPort port s2)

/-- R273: a port finishes training: it comes up and sends its beacon. The lanes that did not train are taken to be the highest-numbered. -/
def execLinkTrained (port w : Nat) (s : State) : Out :=
  if 32 ≤ port || rget s .mcStatus_phase 0 ≠ 1 || portUp s port || rget s .linkPortCtl_holdDown port = 1 || !(w == 8 || w == 4 || w == 2) then .next s
  else
    let bad := if w = 8 then [] else (List.range 9).drop w
    let s1 := modPort port (fun x => { x with beacon := none, rx := 0, tx := 0, acked := 0, nakOut := false, naks := 0,
                                              credits := List.replicate 8 1024, badLanes := bad, trying := [], token := 0, suspect := false,
                                              out := [], unack := [], why := 0 }) s
    let s2 := rset .linkPortState_state port 2 (rset .linkPortState_width port w (rset .linkPortState_spared port 15
      (rset .linkPortState_outcome port 0 (rset .linkPortState_epoch port 0 s1))))
    .next (sendBeacon port (linkState port 0 s2))

/-- A port goes down; it retrains at once unless it is held down. What is queued or unacknowledged on it is not delivered (R267). -/
def portDown (p cause : Nat) (s : State) : State :=
  if !portUp s p then s
  else
    let s1 := modPort p (fun x => { x with beacon := none, out := [], unack := [], credits := [], badLanes := [], trying := [], nakOut := false, naks := 0 }) s
    let s2 := rset .linkPortState_state p 0 (rset .linkPortState_width p 0 (rset .linkPortState_spared p 15 (rset .linkPortState_outcome p 8 s1)))
    let s3 := suspectPeer p 2 (linkState p cause s2)
    if rget s .linkPortCtl_holdDown p = 1 then s3 else rset .linkPortState_state p 1 s3

/-- R267: the link goes down. Causes 1 lock lost, 2 error ratio, 3 nak limit, 4 silence. -/
def execLinkDown (port cause : Nat) (s : State) : Out := if 1 ≤ cause && cause ≤ 4 then .next (portDown port cause s) else .next s

/-- R273: a planned port that has not trained within its time is missing. -/
def execPortMissing (port : Nat) (s : State) : Out :=
  if (portOf s port).planned && !portUp s port && decide (port < 32) then .next (setOutcome port 6 s) else .next s

/-- R286, R405: a write of LINK_PORT_CTL by PF 0 holds a port down or lets it train. -/
def execLinkPortCtl (fn port : Nat) (value : BitVec 32) (s : State) : Out :=
  let v := value.toNat % 2
  let s := dropLatch fn s
  if notServed s fn || 32 ≤ port || rget s .linkPortCtl_holdDown port = v then .next s
  else
    let s1 := rset .linkPortCtl_holdDown port v s
    if v = 0 then .next (rset .linkPortState_state port 1 s1)
    else if portUp s port then .next (portDown port 5 s1)
    else .next (linkState port 5 (rset .linkPortState_state port 0 s1))

/-! ### Lanes (R269 to R271) -/

/-- The largest width of 8, 4 or 2 that a number of good lanes allows; 0 where none. -/
def widthFor (good : Nat) : Nat := if 8 ≤ good then 8 else if 4 ≤ good then 4 else if 2 ≤ good then 2 else 0

/-- Good lanes of a port, the leap lane counted. -/
def goodLanes (x : Port) : Nat := 9 - x.badLanes.length

/-- The Almanac's record of a lane substitution or a change of width (R271). -/
def laneRecord (p outcome old new : Nat) (s : State) : State := substDone kLinkLane (p / 8) 9 outcome p old new s

/-- R269, R270: a lane of the link is declared failing by this end. -/
def execLaneFailing (port lane cause : Nat) (s : State) : Out :=
  let x := portOf s port
  if !portUp s port || 9 ≤ lane || x.badLanes.contains lane || !(cause == 1 || cause == 2) then .next s
  else
    let s1 := modPort port (fun x => { x with badLanes := x.badLanes ++ [lane], why := cause }) s
    let w := widthFor (goodLanes (portOf s1 port))
    if w = 0 then .next (portDown port cause s1)
    else if w = rget s .linkPortState_width port && w = 8 && lane < 8 then .next (emit (.link port "SPARE" [lane]) s1)
    else if w = rget s .linkPortState_width port then .next s1
    else .next (emit (.link port "WIDTH" [w]) s1)

/-- The cause of a lane's failure: the one this end found, else one that the other end knows. -/
def laneWhy (s : State) (p : Nat) : Nat := if (portOf s p).why = 0 then 1 + Config.laneCause s.free % 2 else (portOf s p).why

/-- R269: a SPARE flit maps a failing data lane onto the leap lane, which serves one lane at a time. -/
def execSpare (port lane : Nat) (s : State) : Out :=
  let x := portOf s port
  if !portUp s port || 8 ≤ lane || rget s .linkPortState_spared port ≠ 15 || x.badLanes.contains 8 then .next s
  else
    let w := laneWhy s port
    let s1 := modPort port (fun x => { x with badLanes := if x.badLanes.contains lane then x.badLanes else x.badLanes ++ [lane], why := 0 }) (useFree s)
    .next (laneRecord port 0 lane 8 (linkState port w (rset .linkPortState_spared port lane (rflag .linkStatus_spareSeen 0 s1))))

/-- R270: a WIDTH flit changes the link's width at a frame boundary. At width 8 the leap lane serves the one lane that is out. -/
def execWidth (port w : Nat) (s : State) : Out :=
  let x := portOf s port
  let old := rget s .linkPortState_width port
  if !portUp s port || w == old || !(w == 8 || w == 4 || w == 2) then .next s
  else
    let why := if w < old then laneWhy s port else 0
    let lane := if w = 8 then x.badLanes.headD 15 else 15
    let s1 := rset .linkPortState_width port w (rset .linkPortState_spared port (if lane = 8 then 15 else lane)
      (modPort port (fun x => { x with why := 0 }) (useFree s)))
    let s2 := if w < old then rflag .linkStatus_spareSeen 0 s1 else s1
    .next (laneRecord port (if w < old then 0 else 3) old w (linkState port why s2))

/-- R270: a lane that was taken out has trained again, and after 60 s clean it becomes good: the link returns to the greater width, or the
leap lane is free again. -/
def execLaneRetrain (port lane : Nat) (clean : Bool) (s : State) : Out :=
  let x := portOf s port
  if !portUp s port || !x.badLanes.contains lane then .next s
  else if !clean then .next (modPort port (fun x => { x with trying := if x.trying.contains lane then x.trying else x.trying ++ [lane] }) s)
  else if !x.trying.contains lane then .next s
  else
    let s1 := modPort port (fun x => { x with trying := x.trying.filter (fun l => l != lane), badLanes := x.badLanes.filter (fun l => l != lane) }) s
    let w := widthFor (goodLanes (portOf s1 port))
    if rget s .linkPortState_spared port = lane then
      .next (laneRecord port 3 lane 8 (linkState port 0 (rset .linkPortState_spared port 15 s1)))
    else if rget s .linkPortState_width port < w then .next (emit (.link port "WIDTH" [w]) s1)
    else .next s1

/-- Key of a bridge's group of 16 lanes (Table 14.1). -/
def groupKey (bridge lane : Nat) : Nat := bridge * 8 + lane / 16

/-- R335: a failing die-bridge lane is mapped onto the leap lane of its group; where that serves another lane the group is disabled. -/
def execBridgeLaneSpare (bridge lane : Nat) (s : State) : Out :=
  let k := groupKey bridge lane
  if 32 ≤ bridge || 128 ≤ lane || sget? s.sp.bridgeLanes k == some lane || s.sp.bridgeOff.contains (bridge * 128 + lane) then .next s
  else if (sget? s.sp.bridgeLanes k).isNone then
    .next (substDone kBridgeLane bridge 9 0 k lane 128 { s with sp := { s.sp with bridgeLanes := sput s.sp.bridgeLanes k lane } })
  else .next (substDone kBridgeLane bridge 9 1 k lane lane { s with sp := { s.sp with bridgeOff := s.sp.bridgeOff ++ [bridge * 128 + lane] } })

/-- R339: a bridge lane that was taken out has trained again and stayed clean: it returns to service. -/
def execBridgeLaneRetrain (bridge lane : Nat) (clean : Bool) (s : State) : Out :=
  let k := groupKey bridge lane
  if !clean || 128 ≤ lane then .next s
  else if sget? s.sp.bridgeLanes k = some lane then
    .next (refreshPools (substRec kBridgeLane bridge 9 3 k lane 128 { s with sp := { s.sp with bridgeLanes := sdel s.sp.bridgeLanes k } }))
  else if s.sp.bridgeOff.contains (bridge * 128 + lane) then
    .next (refreshPools (substRec kBridgeLane bridge 9 3 k lane lane
      { s with sp := { s.sp with bridgeOff := s.sp.bridgeOff.filter (fun x => x != bridge * 128 + lane) } }))
  else .next s

/-! ### Sending flits (R266, R268) -/

/-- Credits of a VC. -/
def creditOf (x : Port) (vc : Nat) : Nat := x.credits.getD vc 0

/-- Up to `n` flits of the first packet of a VC sent, while credits and the replay buffer allow. -/
def sendVc (p vc n : Nat) (s : State) : State :=
  let x := portOf s p
  match x.out.find? (fun k => k.vc == vc) with
  | none => s
  | some k =>
    let m := Nat.min n (Nat.min k.left (Nat.min (creditOf x vc) (4095 - (x.tx - x.acked))))
    if m = 0 then s
    else
      let done := m == k.left
      let rest := if done then x.out.erase k else x.out.map (fun y => if y = k then { y with left := y.left - m } else y)
      let s1 := modPort p (fun x => { x with credits := x.credits.set vc (creditOf x vc - m), tx := x.tx + m, out := rest,
                                             unack := if done then x.unack ++ [(x.tx + m, vc, k.hdr.dest)] else x.unack }) s
      let s2 := activity .linkPortFlits_units p m s1
      let h := k.hdr
      if done then emit (.data "PACKET" p [vc, h.dest, h.src, h.slice, h.ctx, h.gen, h.epoch, h.flits, h.kind, h.hops] k.payload) s2 else s2

/-- Flits queued on a port. -/
def queuedFlits (x : Port) : Nat := (x.out.map (·.left)).sum

/-- The weight of a VC in the round robin; 0 means 1. -/
def vcWeight (s : State) (vc : Nat) : Nat := Nat.max 1 (bits (rget s .linkVcWeight_weights 0) (4 * vc) 4)

/-- One round of the weighted round robin of VC 0 to 6. -/
def sendRound (p : Nat) (s : State) : State :=
  (List.range 7).foldl (fun s vc => (List.range (vcWeight s vc)).foldl (fun s _ => sendVc p vc 1 s) s) s

/-- What a port can send now: VC 7 first, then the others. -/
def drainPort (p : Nat) (s : State) : State :=
  let s1 := (portOf s p).out.foldl (fun s _ => sendVc p 7 270 s) s
  (List.range (queuedFlits (portOf s1 p))).foldl (fun s _ => sendRound p s) s1

/-! ### Routing (R281, R282) -/

/-- The permission of a slice on a port. -/
def permit (s : State) (p slice : Nat) : Bool := sget false s.fab.perms (p * 4096 + slice % 4096)

/-- R278: the lowest link epoch that a slice's links may run at. -/
def sliceEpoch (s : State) (slice : Nat) : Nat := (sget? s.fab.slices slice).elim 0 (·.minEpoch)

/-- R282 step 4: the candidate ports towards a destination. -/
def candidates (s : State) (dest slice : Nat) : List Nat :=
  (maskPorts (routeOf s dest / 4)).filter (fun p => carries s p && permit s p slice && decide (sliceEpoch s slice ≤ rget s .linkPortState_epoch p))

/-- An ordered VC (Table 11.3). -/
def orderedVc (vc : Nat) : Bool := vc == 1 || vc == 2 || vc == 3 || vc == 7

/-- R282 step 6: the candidate with the most credits; the lower port wins a tie. -/
def mostCredits (s : State) (vc : Nat) (l : List Nat) : Nat :=
  l.foldl (fun b p => if creditOf (portOf s b) vc < creditOf (portOf s p) vc then p else b) (l.headD 0)

/-- R282 step 6. -/
def choosePort (s : State) (ingress vc : Nat) (h : RouteHdr) (l : List Nat) : Nat :=
  let near := l.filter (fun p => p / 8 == ingress / 8)
  let c := if near.isEmpty then l else near
  if orderedVc vc then
    c.getD ((mix64 (BitVec.ofNat 64 ((h.src * 2 ^ 32) ||| (h.ctx * 2 ^ 24) ||| h.dest))).toNat % Nat.max 1 c.length) 0
  else mostCredits s vc c

/-- A packet of a VC to a destination is queued or not acknowledged on another port than `p`. -/
def onOther (s : State) (p vc dest : Nat) : Bool :=
  (List.range 32).any (fun q => q != p && ((portOf s q).out.any (fun k => k.vc == vc && k.hdr.dest == dest) ||
    (portOf s q).unack.any (fun u => u.2.1 == vc && u.2.2 == dest)))

/-- A drop counted on the ingress port; the module's own packets have none. -/
def dropOther (ingress : Nat) (s : State) : State := if ingress < 32 then count1 .linkPortOtherDropCount_count ingress s else s

/-- Slice drops of a port: the count, and at the first since it was cleared the event. -/
def sliceDrop (p slice src n : Nat) (s : State) : State :=
  let first := rget s .linkPortSliceDropCount_count p == 0
  let s1 := count .linkPortSliceDropCount_count p n (rflag .linkStatus_dropSeen 0 s)
  if first && n != 0 then raise0 0x0B04 6 (pack [(0, 8, p), (8, 12, slice), (20, 14, src)]) s1 else s1

/-- R282 steps 2 to 6 for a packet that entered at a port, or that the module sends itself (port 32 or above). -/
def routePacket (ingress vc : Nat) (h : RouteHdr) (payload : List Byte) (s : State) : State :=
  let r := routeOf s h.dest
  if r.testBit 1 then emit (.data "DELIVER" h.dest [vc, h.src, h.slice, h.ctx, h.gen, h.epoch, h.kind] payload) (if vc ≤ 6 then wakeUp 3 s else s)
  else if h.hops = 0 || !r.testBit 0 then dropOther ingress s
  else
    let c := candidates s h.dest h.slice
    if c.isEmpty then (if ingress < 32 then dropOther ingress s else holdCtx h.ctx s)
    else
      let e := choosePort s ingress vc h c
      let h' := if ingress < 32 then { h with hops := h.hops - 1 } else h
      if orderedVc vc && onOther s e vc h.dest then { s with fab := { s.fab with ordered := s.fab.ordered ++ [(ingress, vc, h, payload)] } }
      else drainPort e (modPort e (fun x => { x with out := x.out ++ [⟨vc, h', payload, h.flits⟩] }) s)

/-- Packets of ordered VCs that waited are tried again in order. -/
def retryOrdered (s : State) : State :=
  s.fab.ordered.foldl (fun s x => routePacket x.1 x.2.1 x.2.2.1 x.2.2.2 s) { s with fab := { s.fab with ordered := [] } }

/-- R268, R282: a packet is checked against the permission map and the routing table, then delivered, forwarded or dropped. -/
def execPacketForward (port vc : Nat) (h : RouteHdr) (payload : List Byte) (s : State) : Out :=
  if port < 32 then
    if !portUp s port then .next s
    else if vc = 5 || vc = 6 || 8 ≤ vc || !carries s port then .next (dropOther port s)
    else if !permit s port h.slice then .next (sliceDrop port h.slice h.src 1 s)
    else .next (routePacket port vc h payload s)
  else if vc = 5 || vc = 6 || 8 ≤ vc then .next s
  else .next (routePacket port vc h payload s)

/-! ### Receiving flits (R265, R266) -/

/-- A nak with the last good sequence number, once until its successor arrives. -/
def sendNak (p : Nat) (s : State) : State :=
  let x := portOf s p
  if x.nakOut then s
  else emit (.link p "NAK" [(x.rx + 4095) % 4096]) (modPort p (fun x => { x with nakOut := true }) s)

/-- The acknowledgement and nak of a flit: what is acknowledged leaves the replay buffer; a nak resends from its successor and counts as a
retry; the eighth in a row of one number takes the link down. -/
def takeAck (p : Nat) (hdr : Nat) (s : State) : State :=
  let x := portOf s p
  let n := x.acked + (bits hdr 31 12 + 1 + 4096 - x.acked % 4096) % 4096
  let x1 := if bit hdr 30 && n ≤ x.tx then n else x.acked
  let naks := if bit hdr 29 then (if x1 = x.acked then x.naks + 1 else 1) else if x1 = x.acked then x.naks else 0
  let s1 := modPort p (fun x => { x with acked := x1, naks := naks, unack := x.unack.filter (fun u => decide (x1 < u.1)) }) s
  let s2 := if bit hdr 29 then emit (.link p "RESEND" [x1 % 4096, x.tx % 4096]) (count1 .linkPortRetryCount_count p s1) else s1
  if 8 ≤ naks then portDown p 3 s2 else s2

/-- Credits that a flit returns. -/
def takeCredit (p : Nat) (hdr : Nat) (s : State) : State :=
  let vc := bits hdr 26 3
  modPort p (fun x => { x with credits := x.credits.set vc (Nat.min 1024 (creditOf x vc + bits hdr 16 10)) }) s

/-- R265: a flit's CRC is good and its type is one of Table 11.2. -/
def flitOk (flit : List Byte) : Bool :=
  flit.length == 256 && crc32c (flit.take 252) == leNat (flit.drop 252) && decide (bits (leNat (flit.take 8)) 60 4 ≤ 2)

/-- A good flit: only the next number in order is accepted, and its credit is returned. -/
def takeFlit (p hdr : Nat) (s : State) : State :=
  let s1 := takeCredit p hdr (takeAck p hdr s)
  if !portUp s1 p then s1
  else
    let s2 :=
      if bits hdr 60 4 = 0 then s1
      else if bits hdr 43 12 ≠ (portOf s1 p).rx % 4096 then sendNak p s1
      else
        let s3 := emit (.link p "ACK" [bits hdr 43 12, bits hdr 57 3, 1]) (modPort p (fun x => { x with rx := x.rx + 1, nakOut := false }) s1)
        if bits hdr 60 4 = 1 && (bits hdr 57 3 = 5 || bits hdr 57 3 = 6) then dropOther p s3 else s3
    retryOrdered (drainPort p s2)

/-- R265, R266: a flit arrives with its count of corrected codewords, or in a codeword that could not be corrected. -/
def execFlitReceive (port : Nat) (flit : List Byte) (corrected : Nat) (uncorr : Bool) (s : State) : Out :=
  if !portUp s port then .next s
  else
    let s1 := if corrected = 0 then s else count .linkPortCorrCount_count port corrected s
    if uncorr then .next (sendNak port (healthLog 0 1 (count1 .linkPortUncorrCount_count port s1)))
    else if !flitOk flit then .next (sendNak port s1)
    else .next (takeFlit port (leNat (flit.take 8)) s1)

/-! ### The wiring plan (R274) -/

/-- Offsets of a plan that break R274. -/
def planBad (s : State) (b : List Byte) : List Nat :=
  (if fld b 0 4 == 0x4E414C57 then [] else [0]) ++ (if fld b 4 2 == 1 then [] else [4]) ++ (if fld b 6 2 ≤ 1 then [] else [6]) ++
  (if fld b 8 4 ≤ rget s .linkPlan_generation 0 then [8] else []) ++ (if zeros b 0xC 4 then [] else [0xC]) ++
  (if fld b 0x18 8 == 0 || fld b 0x18 8 == serialDigest then [] else [0x18]) ++ (if zeros b 0x20 32 then [] else [0x20]) ++
  (List.range 32).flatMap (fun p => (if fld b (0x42 + 16 * p) 1 < 8 then [] else [0x42 + 16 * p]) ++
    if fld b (0x43 + 16 * p) 1 == 0 then [] else [0x43 + 16 * p])

/-- A plan's entry for a port. -/
def planPort (b : List Byte) (p : Nat) (x : Port) : Port :=
  let o := 0x40 + 16 * p
  { x with planned := fld b o 1 == 1, peerPort := fld b (o + 1) 1, peerSlot := fld b (o + 2) 1 % 8, peerTray := fld b (o + 4) 4,
           peerSerial := fld b (o + 8) 8 }

/-- A plan in force: every trained port is matched again at once. A port that is no longer planned is not missing. -/
def usePlan (b : List Byte) (s : State) : State :=
  let s1 := rset .linkPlan_generation 0 (fld b 8 4) (rset .linkPlan_acceptDiscovered 0 (fld b 6 2 % 2) (rset .linkPlanDigest_digest 0 (fld b 0x10 8) s))
  let s2 := (List.range 32).foldl (fun s p => modPort p (planPort b p) s) { s1 with fab := { s1.fab with planned := true } }
  beaconAll ((List.range 32).foldl (fun s p =>
    if portUp s p then matchPort p s
    else if rget s .linkPortState_outcome p = 6 && !(portOf s p).planned then rset .linkPortState_outcome p 8 s else s) s2)

/-- A plan checked and taken; the detail of its first fault. -/
def takePlan (b : List Byte) (s : State) : State × Option Nat :=
  if b.length ≠ 576 then (s, some 0x20)
  else match planBad s b with
    | [] => (usePlan b s, none)
    | o :: l => (s, some (0x20 + 256 * l.foldl Nat.min o))

/-- R274: PLAN_LOAD. -/
def execPlanLoad (h : CmdRef) (bytes : BitVec 32) (plan : Word64) (s : State) : Out :=
  .next (runPriv 0x83 h (fun s =>
    if bytes.toNat ≠ 576 then badParam h 0x20 s
    else
      let r := cmdRead 0 plan.toNat 576 s
      let t := takePlan r.1.bytes r.2
      match t.2 with
      | some d => badParam h d t.1
      | none => finishOk h t.1) s)

/-! ### Slices (R277 to R279) -/

/-- The identifier, the members and their count of a definition, where it obeys Table 11.7. -/
def sliceOk (b : List Byte) : Bool :=
  let n := fld b 8 2
  decide (fld b 0 2 < 4096) && decide (fld b 3 1 ≤ 1) && decide (3 ≤ fld b 4 2) && decide (fld b 4 2 ≤ 5) && decide (1 ≤ n) && decide (n ≤ 16384) &&
  decide (1 ≤ fld b 6 2) && decide (fld b 6 2 ≤ n) && zeros b 0xA 6 && b.length == (16 + 2 * n + 63) / 64 * 64 &&
  (b.drop (16 + 2 * n)).all (fun x => x == 0) && (vals 2 ((b.drop 16).take (2 * n))).all (fun i => decide (i < 16384))

/-- A definition. -/
def mkSlice (b : List Byte) : SliceDef := ⟨fld b 2 1, fld b 4 2, fld b 6 2, vals 2 ((b.drop 16).take (2 * fld b 8 2)), false⟩

/-- R278: this module may not be a member of a slice. -/
def sliceRefuses (d : SliceDef) : Bool := d.numerics != 2 || decide (5 < d.minEpoch)

/-- A member is ready and reachable as this module sees it: its entry says that it works, and a route of the slice leads to it. -/
def reachable (s : State) (slice : Nat) (d : SliceDef) (i : Nat) : Bool :=
  if hasPosition s && i == ownRoster s then !sliceRefuses d
  else [1, 2, 3, 4].contains (entrySt (rosterEntry s i)) && !(candidates s i slice).isEmpty

/-- Ports of the slice's routes that are missing or fallow. -/
def lostPorts (s : State) (d : SliceDef) : Nat :=
  let m := d.members.foldl (fun m i => m ||| (routeOf s i / 4)) 0
  ((maskPorts m).filter (fun p => !carries s p)).foldl (fun a p => a + 2 ^ p) 0

/-- R277: the slice forms, or refuses to with LINK_SLICE_REFUSED; the detail of R279. -/
def formSlice (id : Nat) (d : SliceDef) (s : State) : State × Nat :=
  let n := (d.members.filter (fun i => reachable s id d i)).length
  let formed := decide (d.minMembers ≤ n)
  let mask := lostPorts s d
  let s1 := { s with fab := { s.fab with slices := sput s.fab.slices id { d with formed := formed } } }
  let mine := hasPosition s && d.members.contains (ownRoster s)
  let det := pack [(0, 1, b2n formed), (1, 1, b2n (mine && !sliceRefuses d)), (2, 1, b2n (mine && sliceRefuses d)), (32, 32, mask)]
  (if formed then s1 else raise0 0x0B03 6 (pack [(0, 12, id), (16, 32, mask), (48, 16, n)]) s1, det)

/-- A definition taken, or a slice removed; none where it breaks Table 11.7 or the store is full. -/
def takeSlice (slice : Nat) (b : List Byte) (s : State) : State × Option Nat :=
  if !sliceOk b || fld b 0 2 ≠ slice then (s, none)
  else if fld b 3 1 = 1 then ({ s with fab := { s.fab with slices := sdel s.fab.slices slice } }, some 0)
  else if 64 ≤ s.fab.slices.length && (sget? s.fab.slices slice).isNone then (s, none)
  else
    let r := formSlice slice (mkSlice b) s
    (r.1, some r.2)

/-- R279: SLICE_DEFINE. -/
def execSliceDefine (h : CmdRef) (slice : BitVec 16) (definition : Word64) (s : State) : Out :=
  .next (runPriv 0x81 h (fun s =>
    let n := fld (peek s 0 definition.toNat 16).bytes 8 2
    let r := cmdRead 0 definition.toNat ((16 + 2 * n + 63) / 64 * 64) s
    let t := takeSlice slice.toNat r.1.bytes r.2
    match t.2 with
    | some d => finish h stOk d t.1
    | none => badParam h 0x21 t.1) s)

/-- Slices that had refused are tried again when a roster or a link has changed. -/
def reformSlices (s : State) : State :=
  (s.fab.slices.filter (fun x => !x.2.formed)).foldl (fun s x =>
    if decide (x.2.minMembers ≤ (x.2.members.filter (fun i => reachable s x.1 x.2 i)).length) then
      { s with fab := { s.fab with slices := sput s.fab.slices x.1 { x.2 with formed := true } } }
    else s) s

/-! ### ROUTE_WRITE (R283, R284) -/

/-- The bytes of an entry that its kind uses; every other byte is zero. -/
def routeUsed (kind : Nat) : List Nat :=
  match kind with
  | 0 => [0, 8, 9, 10, 11, 12, 13, 14, 15]
  | 1 => [0, 2, 3, 4, 5, 6, 7, 8]
  | 2 => [0, 1, 2, 3, 4]
  | _ => [0, 2, 3]

/-- R283 for entry `i`. -/
def routeOk (i : Nat) (b : List Byte) : Bool :=
  let k := fld b 0 1
  decide (k ≤ 3) && (k == 0) == (i == 0) && (List.range 16).all (fun j => (routeUsed k).contains j || b.getD j 0 == 0) &&
  (k != 1 || (decide (fld b 2 2 < 16384) && decide (fld b 8 1 ≤ 3))) &&
  (k != 2 || (decide (fld b 1 1 < 32) && decide (fld b 2 2 < 4096) && decide (fld b 4 1 ≤ 1))) && (k != 3 || decide (fld b 2 2 < 4096))

/-- A slice's bit cleared on a port: its packets queued there are discarded, and their flits counted as slice drops. -/
def revoke (p slice : Nat) (s : State) : State :=
  let gone := (portOf s p).out.filter (fun k => k.hdr.slice == slice)
  let s1 := { s with fab := { s.fab with perms := sset false s.fab.perms (p * 4096 + slice) false } }
  if gone.isEmpty then s1
  else sliceDrop p slice ((gone.head?).elim 0 (·.hdr.src)) ((gone.map (·.left)).sum) (modPort p (fun x => { x with out := x.out.filter (fun k => k.hdr.slice != slice) }) s1)

/-- The revocations of a table, at once. -/
def revokeAll (t : List (List Byte)) (s : State) : State :=
  t.foldl (fun s b =>
    if fld b 0 1 = 2 && fld b 4 1 = 0 then revoke (fld b 1 1) (fld b 2 2) s
    else if fld b 0 1 = 3 then (List.range 32).foldl (fun s p => revoke p (fld b 2 2) s) s
    else s) s

/-- The grants and routes of a table. -/
def mkGrants (q seq : Nat) (t : List (List Byte)) : RouteWait :=
  ⟨q, seq, fld (t.headD []) 8 8,
    (t.filter (fun b => fld b 0 1 == 2 && fld b 4 1 == 1)).map (fun b => (fld b 1 1, fld b 2 2)),
    (t.filter (fun b => fld b 0 1 == 1)).map (fun b => (fld b 2 2, fld b 4 4, fld b 8 1))⟩

/-- Grants and routes in force together; the command completes. -/
def grant (w : RouteWait) (s : State) : State :=
  let perms := w.grants.foldl (fun m g => sset false m (g.1 * 4096 + g.2) true) s.fab.perms
  let routes := w.routes.foldl (fun m r => sset 0 m r.1 (r.2.2 + 4 * r.2.1)) s.fab.routes
  finishAt w.q w.seq stOk 0 { s with fab := { s.fab with perms := perms, routes := routes } }

/-- Tables whose epoch has come, those of one queue in acceptance order. -/
def grantWaiting (s : State) : State :=
  let r := s.fab.waiting.foldl (fun (r : State × List RouteWait) w =>
    if w.epoch ≤ rosterEpoch s && !r.2.any (fun y => y.q == w.q) then (grant w r.1, r.2) else (r.1, r.2 ++ [w])) (s, [])
  { r.1 with fab := { r.1.fab with waiting := r.2 } }

/-- A table taken: revocations at once, grants and routes when the roster epoch is reached. -/
def takeRoutes (q seq : Nat) (t : List (List Byte)) (s : State) : State :=
  let s1 := revokeAll t s
  grantWaiting { s1 with fab := { s1.fab with waiting := s1.fab.waiting ++ [mkGrants q seq t] } }

/-- Index of the first entry that breaks R283. -/
def routeBad (t : List (List Byte)) : Option Nat := if t.isEmpty then some 0 else (t.zipIdx.find? (fun x => !routeOk x.2 x.1)).map Prod.snd

/-- R283, R284: ROUTE_WRITE. -/
def execRouteWrite (h : CmdRef) (count : BitVec 32) (table : Word64) (s : State) : Out :=
  .next (runPriv 0x82 h (fun s =>
    let n := count.toNat
    let r := cmdRead 0 table.toNat (16 * n) s
    let t := entries 16 n r.1.bytes
    match routeBad t with
    | some i => badParam h (0x22 + 256 * i) r.2
    | none => takeRoutes h.q h.seq.toNat t (waitFor h (.epoch (fld (t.headD []) 8 8)) r.2)) s)

end Sys2Proof.Machine
end

