-- ==== Sys2Proof/Machine/Convert.lean ====
section
/-! DEFINITION. Conversions, block packing and unpacking, stochastic rounding (R142 to R147). -/

namespace Sys2Proof.Machine

/-- The 2,048-bit value of a vector register, lane 0 lowest. -/
def vBig (x : Engine) (r : BitVec 5) : Nat := ((List.range 64).map (fun i => (x.lane r i).toNat * 2 ^ (32 * i))).sum

/-- A register written from its 2,048-bit value. -/
def setBig (x : Engine) (r : BitVec 5) (v : Nat) : Engine := x.setLanes r (fun i => some (BitVec.ofNat 32 (v / 2 ^ (32 * i))))

/-- Bits `[lsb + w - 1 : lsb]` of a number replaced. -/
def putBits (v lsb w n : Nat) : Nat := v - bits v lsb w * 2 ^ lsb + n % 2 ^ w * 2 ^ lsb

/-- A part number exists for a format of `b` bits (R142). -/
def partOk (b part : Nat) : Bool := decide ((part + 1) * 64 * b ≤ 2048)

/-- Source element i of a conversion. -/
def cvtElem (x : Engine) (f : FmtC) (b i : Nat) : Nat := bits (vBig x f.va) (b * (64 * f.spart.toNat + i)) b

/-- A lane is active. -/
def cActive (x : Engine) (f : FmtC) (i : Nat) : Bool := f.mkb == 0 || (x.mask f.mr.toNat).getLsbD i

/-- The rounding of element i (R146): the key is s[sk], the step number the STEP register. -/
def cRnd (x : Engine) (f : FmtC) (step i : Nat) : Rnd :=
  if f.rnd = 0 then .near
  else if f.rnd = 1 then .zero
  else
    let k := (x.s f.sk).toNat
    .stoch (stochBits (k / 2 ^ 48) ((k + i) % 2 ^ 48) step)

/-- A source element decoded; an FP32 subnormal reads as zero when ftz is set (R144). -/
def cDecode (x : Engine) (src : Fmt) (v : Nat) : FVal := readF src x.ftz v

/-- A value times a power of two. -/
def scaleX (k : Int) : FVal → FVal
  | .fin n m e => .fin n m (e + k)
  | y => y

/-- Fields that every conversion checks: codes, parts, reserved bits, sk only with stochastic rounding, mr only with mk. -/
def cOk (f : FmtC) (src dst : Fmt) : Bool :=
  partOk src.bits f.spart.toNat && partOk dst.bits f.dpart.toNat && decide (f.rnd.toNat ≤ 2) && f.rsv == 0 &&
  (f.rnd == 2 || f.sk == 0) && (f.mkb == 1 || f.mr == 0)

/-- New destination bits for the active elements, with the flags. -/
def cWrite (x : Engine) (f : FmtC) (dst : Fmt) (r : List (Fl Nat × Bool)) : Engine :=
  let v := (r.zipIdx).foldl (fun v y => if y.1.2 then putBits v (dst.bits * (64 * f.dpart.toNat + y.2)) dst.bits y.1.1.1 else v) (vBig x f.vd)
  (setBig x f.vd v).flag (r.foldl (fun a y => if y.2 then a ||| y.1.2 else a) 0)

/-- CVT and CVT.TS: a plain conversion of each element by a scaling. -/
def cvtRun (i : Instr) (e : Eng) (f : FmtC) (ts : Bool) (s : State) : State :=
  engRun i e (fun x s =>
    match fmtOf f.fmtSrc.toNat, fmtOf f.fmtDst.toNat with
    | some src, some dst =>
      if cOk f src dst && f.vs == 0 && (ts || f.sf == 0) then
        let g := readF fp32 x.ftz ((x.s f.sf).truncate 32).toNat
        let r := (List.range 64).map (fun k =>
          let v := cDecode x src (cvtElem x f src.bits k)
          (resolve dst (cRnd x f (x.step s) k) (f.sat = 1) x.ftz true (if ts then mulX v g else v), cActive x f k))
        .next (cWrite x f dst r) id
      else .trap 0x25
    | _, _ => .trap 0x25) s

/-- R143: CVT. -/
def execCvt (e : Eng) (f : FmtC) (s : State) : Out := .next (cvtRun (.cvt e f) e f false s)

/-- R143: CVT.TS multiplies by the FP32 factor in s[sf] before rounding. -/
def execCvtTs (e : Eng) (f : FmtC) (s : State) : Out := .next (cvtRun (.cvtTs e f) e f true s)

/-! ### Blocks (R95, R145) -/

/-- A block format: FP4, INT4, FP6, FP8 or INT8. -/
def blockFmt (code : Nat) : Bool := decide (code ≤ 6)

/-- A value is neither a NaN nor an infinity. -/
def isFin : FVal → Bool
  | .fin _ _ _ => true
  | _ => false

/-- floor(log2) of the largest magnitude of a block; none where every value is zero. -/
def blockTop (l : List FVal) : Option Int :=
  l.foldl (fun t v => match v with
    | .fin _ m e => if m = 0 then t else some (match t with | none => e + nbits m - 1 | some u => max u (e + nbits m - 1))
    | _ => t) none

/-- The scale of a block (R95, R145). -/
def blockScale (dst : Fmt) (l : List FVal) : Nat :=
  if !l.all isFin then 0xFF
  else
    match blockTop l with
    | none => 0
    | some t => (max 0 (min 0xFE (127 + t - dst.emax))).toNat

/-- Whether an input of a block sets invalid: a signalling NaN, or an infinity, whose scale becomes 0xFF (R94, R95). -/
def blockInvalid (l : List FVal) : BitVec 5 := if l.any (fun v => isSig v || v == .inf true || v == .inf false) then fNV else 0

/-- One element of a packed block. -/
def packElem (dst : Fmt) (rnd : Rnd) (ftz : Bool) (scale : Nat) (v : FVal) : Fl Nat :=
  if scale = 0xFF then (0, 0) else resolve dst rnd true ftz true (scaleX (127 - (scale : Int) + dst.fixed) v)

/-- R145: CVT.BP packs two blocks and writes their scales. -/
def execCvtBp (e : Eng) (f : FmtC) (s : State) : Out :=
  .next (engRun (.cvtBp e f) e (fun x s =>
    match fmtOf f.fmtSrc.toNat, fmtOf f.fmtDst.toNat with
    | some src, some dst =>
      if cOk f src dst && f.sf == 0 && f.mkb == 0 && blockFmt f.fmtDst.toNat then
        let vals := (List.range 64).map (fun k => cDecode x src (cvtElem x f src.bits k))
        let x0 := blockScale dst (vals.take 32)
        let x1 := blockScale dst (vals.drop 32)
        let r := vals.zipIdx.map (fun y =>
          (packElem dst (cRnd x f (x.step s) y.2) x.ftz (if y.2 < 32 then x0 else x1) y.1, true))
        let y := cWrite x f dst r
        let d := 8 * (2 * f.dpart.toNat)
        .next ((setBig y f.vs (putBits (putBits (vBig y f.vs) d 8 x0) (d + 8) 8 x1)).flag (blockInvalid vals)) id
      else .trap 0x25
    | _, _ => .trap 0x25) s)

/-- A block-scaled element with its fixed factor (R84); a scale of 0xFF makes it a NaN. -/
def unpackElem (src : Fmt) (scale v : Nat) : FVal :=
  if scale = 0xFF then .nan false else scaleX ((scale : Int) - 127 - src.fixed) (decodeFmt src v)

/-- R145: CVT.BU unpacks two blocks with their scales; overflow resolves as sat = 0. -/
def execCvtBu (e : Eng) (f : FmtC) (s : State) : Out :=
  .next (engRun (.cvtBu e f) e (fun x s =>
    match fmtOf f.fmtSrc.toNat, fmtOf f.fmtDst.toNat with
    | some src, some dst =>
      if cOk f src dst && f.sf == 0 && f.mkb == 0 && blockFmt f.fmtSrc.toNat then
        let sc := fun (k : Nat) => bits (vBig x f.vs) (8 * (2 * f.spart.toNat + k / 32)) 8
        let r := (List.range 64).map (fun k =>
          (resolve dst (cRnd x f (x.step s) k) false x.ftz true (unpackElem src (sc k) (cvtElem x f src.bits k)), true))
        .next (cWrite x f dst r) id
      else .trap 0x25
    | _, _ => .trap 0x25) s)

end Sys2Proof.Machine
end

