-- ==== Sys2Proof/Machine/Matrix.lean ====
section
/-! DEFINITION. Matrix cores: tile operations, block accumulation, the checks and what follows a detection, the MTX class (ch. 5). -/

namespace Sys2Proof.Machine

/-! ### Cores -/

/-- Key of a core. -/
def coreKey (e : Eng) (c : Nat) : Nat := engKey e * 64 + c

/-- A core of an engine. -/
def coreOf (s : State) (e : Eng) (c : Nat) : Core := (sget? s.core (coreKey e c)).getD ⟨[], [], [], none, false, false, []⟩

/-- A core replaced. -/
def setCore (e : Eng) (c : Nat) (x : Core) (s : State) : State := { s with core := sput s.core (coreKey e c) x }

/-- A word of the tiles: acc * 256 + 16 * i + j. -/
def Core.word (x : Core) (w : Nat) : Word32 :=
  match sget? x.tile w with
  | some v => v
  | none => x.fresh.elim 0 (fun n => Config.tileWord n w)

/-- A word written; its parity is right again. -/
def Core.setWord (x : Core) (w : Nat) (v : Word32) : Core := { x with tile := sput x.tile w v, parity := x.parity.filter (fun y => y != w) }

/-- A byte of core store. -/
def Core.byte (x : Core) (a : Nat) : Byte :=
  match sget? x.store a with
  | some v => v
  | none => x.fresh.elim 0 (fun n => Config.coreByte n a)

/-- Bytes of core store. -/
def Core.bytes (x : Core) (a n : Nat) : List Byte := (List.range n).map (fun i => x.byte (a + i))

/-- Bytes of core store written. -/
def Core.setBytes (x : Core) (a : Nat) (b : List Byte) : Core := { x with store := b.zipIdx.foldl (fun m y => sput m (a + y.2) y.1) x.store }

/-- The bad mark of a tile. -/
def Core.bad (x : Core) (acc : Bool) : Bool := if acc then x.bad1 else x.bad0

/-- The mark set. -/
def Core.setBad (x : Core) (acc bad : Bool) : Core := if acc then { x with bad1 := bad } else { x with bad0 := bad }

/-- An upset of a word: its bits change, and an odd number of flips makes its parity wrong. -/
def Core.upset (x : Core) (w : Nat) (m : Word32) : Core :=
  let odd := ((List.range 32).filter (fun i => m.getLsbD i)).length % 2 == 1
  let p := if odd then (if x.parity.contains w then x.parity.filter (fun y => y != w) else x.parity ++ [w]) else x.parity
  { x with tile := sput x.tile w (x.word w ^^^ m), parity := p }

/-! ### Tile descriptors (R103 to R105) -/

/-- The descriptor for logical core c, from its 64 bytes. -/
def mkMma (b : List Byte) (c : Nat) (acc accum off : Bool) : Mma where
  m := pktNat b 0 1
  n := pktNat b 1 1
  k := pktNat b 2 2
  fa := pktNat b 4 1
  fb := pktNat b 5 1
  sca := pktNat b 6 1
  scb := pktNat b 7 1
  space := pktNat b 8 1
  aOff := pktNat b 0x0C 4 + c * pktNat b 0x20 4
  aScale := pktNat b 0x10 4 + c * pktNat b 0x24 4
  bOff := pktNat b 0x14 4 + c * pktNat b 0x28 4
  bScale := pktNat b 0x18 4 + c * pktNat b 0x2C 4
  aLd := pktNat b 0x1C 2
  bLd := pktNat b 0x1E 2
  sigA := pktNat b 0x30 4
  sigB := pktNat b 0x34 4
  acc := acc
  accum := accum
  off := off

/-- Bits of an element of a format code. -/
def codeBits (f : Nat) : Nat := (fmtOf f).elim 0 (·.bits)

/-- Bytes of a row of k elements. -/
def rowBytes (f k : Nat) : Nat := k * codeBits f / 8

/-- Size of a space: core store or cluster memory. -/
def spaceSize (core : Bool) : Nat := if core then 8192 else clSize

/-- Every byte that one operand reads lies in its space. -/
def operandIn (space bit rows k f sc off scOff ld : Nat) : Bool :=
  decide (off + (rows - 1) * ld + rowBytes f k ≤ spaceSize (space.testBit bit)) &&
  (sc != 1 || decide (scOff + rows * (k / 32) ≤ spaceSize (space.testBit (bit + 2))))

/-- R105: what does not depend on the core. -/
def mmaFormOk (b : List Byte) : Bool :=
  let d := mkMma b 0 false false false
  decide (1 ≤ d.m) && decide (d.m ≤ 16) && decide (1 ≤ d.n) && decide (d.n ≤ 16) && decide (32 ≤ d.k) && decide (d.k ≤ 4096) && d.k % 32 == 0 &&
  decide (d.fa ≤ 8) && decide (d.fb ≤ 8) && decide (d.sca ≤ 2) && decide (d.scb ≤ 2) && decide (d.space < 16) && pktNat b 9 3 == 0 &&
  pktNat b 0x38 8 == 0 && d.aOff % 4 == 0 && d.bOff % 4 == 0 && d.aLd % 4 == 0 && d.bLd % 4 == 0 &&
  !(decide (7 ≤ d.fa) && d.sca == 1) && !(decide (7 ≤ d.fb) && d.scb == 1)

/-- R105: the bytes that the operation would read on one core. -/
def mmaRangeOk (d : Mma) : Bool :=
  operandIn d.space 0 d.m d.k d.fa d.sca d.aOff d.aScale d.aLd && operandIn d.space 1 d.n d.k d.fb d.scb d.bOff d.bScale d.bLd

/-! ### Operands (R84 to R87, R104) -/

/-- Bytes that a core reads from one of the two spaces. -/
def spaceRead (s : State) (e : Eng) (x : Core) (core : Bool) (a n : Nat) : List Byte := if core then x.bytes a n else clPeek s e a n

/-- The values of a row of A or a column of B, with block scales applied. -/
def operandRow (s : State) (e : Eng) (x : Core) (space bit k f sc off scOff : Nat) : List FVal :=
  match fmtOf f with
  | none => []
  | some fm =>
    let v := leNat (spaceRead s e x (space.testBit bit) off (rowBytes f k))
    let scales := if sc = 1 then spaceRead s e x (space.testBit (bit + 2)) scOff (k / 32) else []
    (List.range k).map (fun j =>
      let el := bits v (fm.bits * j) fm.bits
      if sc = 1 then unpackElem fm (scales.getD (j / 32) 0).toNat el else decodeFmt fm el)

/-- Rows of A. -/
def mmaA (s : State) (e : Eng) (x : Core) (d : Mma) : List (List FVal) :=
  (List.range d.m).map (fun i => operandRow s e x d.space 0 d.k d.fa d.sca (d.aOff + i * d.aLd) (d.aScale + i * (d.k / 32)))

/-- Columns of B. -/
def mmaB (s : State) (e : Eng) (x : Core) (d : Mma) : List (List FVal) :=
  (List.range d.n).map (fun j => operandRow s e x d.space 1 d.k d.fb d.scb (d.bOff + j * d.bLd) (d.bScale + j * (d.k / 32)))

/-- Ranges of cluster memory that an operation reads. -/
def mmaRanges (d : Mma) : List (Nat × Nat) :=
  (if d.space.testBit 0 then [] else (List.range d.m).map (fun i => (d.aOff + i * d.aLd, rowBytes d.fa d.k))) ++
  (if d.space.testBit 1 then [] else (List.range d.n).map (fun j => (d.bOff + j * d.bLd, rowBytes d.fb d.k))) ++
  (if d.sca = 1 && !d.space.testBit 2 then [(d.aScale, d.m * (d.k / 32))] else []) ++
  (if d.scb = 1 && !d.space.testBit 3 then [(d.bScale, d.n * (d.k / 32))] else [])

/-! ### Block accumulation (R90, R92, R108 to R110) -/

/-- Exponent of the leading bit of a finite non-zero value. -/
def leadExp : FVal → Option Int
  | .fin _ m e => if m = 0 then none else some (e + nbits m - 1)
  | _ => none

/-- The anchor of a block. -/
def anchor (l : List FVal) : Option Int :=
  l.foldl (fun a v => match a, leadExp v with
    | some x, some y => some (max x y)
    | none, y => y
    | a, none => a) none

/-- The part of a product inside the window, in units of `2^w`, and whether something was dropped. -/
def windowed (w : Int) : FVal → Int × Bool
  | .fin neg m e =>
    let q := if w ≤ e then m * 2 ^ (e - w).toNat else m / 2 ^ (w - e).toNat
    (if neg then -(q : Int) else (q : Int), decide (e < w) && m % 2 ^ (w - e).toNat != 0)
  | _ => (0, false)

/-- The value of an accumulator with the two sticky bits, rounded to FP32 (R110). -/
def roundAcc (z : Int) (w : Int) (pos neg : Bool) : Nat :=
  let own := if z < 0 then neg else pos
  let other := if z < 0 then pos else neg
  let m := z.natAbs * 2 ^ 64
  toF32 (.fin (decide (z < 0)) (if own && !other then m + 1 else if other && !own then m - 1 else m) (w - 64))

/-- A block sum. `flt` are changes `s * 2^e` that a fault makes to the accumulator. -/
def blockSum (l : List FVal) (flt : List (Int × Int)) : Nat :=
  if l.any isNaN || (l.contains (.inf false) && l.contains (.inf true)) then fp32.nan
  else if l.contains (.inf false) then toF32 (.inf false)
  else if l.contains (.inf true) then toF32 (.inf true)
  else
    let w0 : Int := (anchor l).elim 0 (fun a => a - 112)
    let w := flt.foldl (fun m f => min m f.2) w0
    let parts := l.map (windowed w0)
    let z := (parts.map Prod.fst).sum * 2 ^ (w0 - w).toNat + (flt.map (fun (f : Int × Int) => f.1 * 2 ^ (f.2 - w).toNat)).sum
    let st := l.zip parts
    if z = 0 then toF32 (.fin (l.all (fun v => v.isNegZero)) 0 0)
    else roundAcc z w (st.any (fun y => y.2.2 && !signX y.1)) (st.any (fun y => y.2.2 && signX y.1))

/-- One level of the combining tree. -/
def pairUp : List Nat → List Nat
  | a :: b :: l => addF a b :: pairUp l
  | l => l

/-- The combining tree of R106. -/
def treeSum : Nat → List Nat → Nat
  | 0, l => l.headD 0
  | n + 1, l => if l.length ≤ 1 then l.headD 0 else treeSum n (pairUp l)

/-- Products of accumulation block b. -/
def blockProds (a b : List FVal) (blk : Nat) : List FVal :=
  (((a.drop (64 * blk)).take 64).zip ((b.drop (64 * blk)).take 64)).map (fun p => mulX p.1 p.2)

/-- Number of accumulation blocks. -/
def Mma.blocks (d : Mma) : Nat := (d.k + 63) / 64

/-- One output before the accumulate (R106). -/
def tileOut (d : Mma) (a b : List FVal) (flt : Nat → List (Int × Int)) : Nat :=
  let sum := treeSum 8 ((List.range d.blocks).map (fun blk => blockSum (blockProds a b blk) (flt blk)))
  if d.sca = 2 || d.scb = 2 then
    mulF sum (mulF (if d.sca = 2 then d.sigA else 0x3F800000) (if d.scb = 2 then d.sigB else 0x3F800000))
  else sum

/-! ### The checks (R114 to R116) -/

/-- The prime of the lanes. -/
def laneM : Int := 2147483647

/-- r(s * 2^e). -/
def residue (s e : Int) : Int := (s % laneM) * (2 ^ (e % 31).toNat : Nat) % laneM

/-- A block of the tile with an operand that is not finite is not checked by residue. -/
def blockFinite (a b : List (List FVal)) (blk : Nat) : Bool :=
  (a ++ b).all (fun r => ((r.drop (64 * blk)).take 64).all isFin)

/-- The changes to one row or column of a block do not cancel. Without a change both sides of a lane's equation are the exact sums. -/
def laneBad (acc : List AccFault) (blk : Nat) (mine : AccFault → Bool) : Bool :=
  ((acc.filter (fun f => f.block == blk && mine f)).map (fun f => residue f.s f.e)).sum % laneM != 0

/-- The check bits 0 and 1 of a record, and the first block in which a lane fails. -/
def laneCheck (d : Mma) (a b : List (List FVal)) (acc : List AccFault) : Nat × Nat :=
  let l := (List.range d.blocks).filter (blockFinite a b)
  let row := l.find? (fun k => (List.range d.m).any (fun i => laneBad acc k (fun f => f.i == i)))
  let col := l.find? (fun k => (List.range d.n).any (fun j => laneBad acc k (fun f => f.j == j)))
  (b2n row.isSome + 2 * b2n col.isSome, Nat.min (row.getD 0xFF) (col.getD 0xFF))

/-! ### Detections (R118, R119, R120) -/

/-- The fault record of Table 5.9. -/
def mtxRecord (s : State) (e : Eng) (x : Engine) (c checks fmts block : Nat) (cond : Cond) : Nat :=
  let r := x.runOf s
  pack [(0, 16, r.elim 0 (·.graph)), (16, 16, x.task), (32, 8, (x.taskOf s).elim 0 (·.cls)), (40, 8, x.ldie), (48, 8, x.logCl s % 64),
    (56, 8, x.logCl s / 64), (64, 8, c), (72, 8, e.die), (80, 16, x.phys), (96, 8, physCore s e.die x.phys c), (104, 8, checks),
    (112, 8, fmts), (120, 8, block), (128, 16, cond.tj.toNat), (144, 16, cond.mv.toNat), (160, 16, cond.mhz.toNat),
    (176, 16, r.elim 0 (·.mb)), (192, 8, satTo 8 (sget 0 s.sp.dets (islKey e.die x.phys)))]

/-- The Octave comparison of an instance is not made: its shadow stops. -/
def dropShadow (e : Eng) (s : State) : State :=
  let own : Eng := { e with shadow := false }
  let s1 := match eng? s own with
    | some x => setEng own { x with sampled := false } s
    | none => s
  dropEngines (fun k _ => k == engKey own + 1) { s1 with oct := s1.oct.filter (fun y => y.1 != engKey own) }

/-- A detection on a core (R118): the record, its events and counts, the correlation set, the core's substitution, the step fault. On a
shadow only the record is made, and the comparison is not (R120, Table 6.14). -/
def detect (e : Eng) (c checks fmts block : Nat) (cond : Cond) (s : State) : State :=
  match eng? s e with
  | none => s
  | some x =>
    let i := islKey e.die x.phys
    let s1 := bumpDets i s
    let det := mtxRecord s1 e x c checks fmts block cond
    let s2 := almDetection 0x0501 (0x10 + e.die) x.ctx det (raiseBoth 0x0501 (0x10 + e.die) x.ctx det s1)
    let s3 := rflag .cdieMtxStatus_detectSeen e.die (count1 .cdieMtxDetectCount_count e.die s2)
    let s4 := corrDetect i ⟨(x.taskOf s).elim 0 (·.cls), cond.tj.toInt, cond.mv.toNat, cond.mhz.toNat, s.alm.hours⟩ s3
    if e.shadow then dropShadow e s4
    else
      let mine := (x.runOf s).elim false (fun r => r.stepFlag && r.fault.isNone)
      let s5 := if s4.sp.waiting.any (fun y => y.die == e.die && y.phys == x.phys && y.core.isNone) then s4
        else askSubst ⟨e.die, x.phys, some c, 0, 1⟩ s4
      markBad e (if mine then healthLog 1 1 s5 else s5)

/-! ### Running the queue of a core (R102, Table 5.7) -/

/-- Readings of a detection that carries none (R487). -/
def condNow (s : State) : Cond :=
  ⟨BitVec.ofNat 16 (Config.tjNow s.free), BitVec.ofNat 16 (Config.mvNow s.free), BitVec.ofNat 16 (Config.mhzNow s.free)⟩

/-- MTX.STORE on a core: the tile's words, row by row. A word of wrong parity is a detection, and a bad tile marks the instance. -/
def runStore (e : Eng) (c : Nat) (acc : Bool) (addr : Nat) (s : State) : State :=
  let x := coreOf s e c
  let base := 256 * b2n acc
  let b := (List.range 256).flatMap (fun w => leBytes 4 (x.word (base + w)).toNat)
  let wrong := x.parity.any (fun w => w / 256 == b2n acc)
  let s1 := clWrite e addr b s
  let s2 := if wrong then
      detect e c 16 (Config.openCode "storeFormats" s.free) 0xFF (condNow s) (useFree (setCore e c (x.setBad acc true) s1)) else s1
  if x.bad acc || wrong then markBad e s2 else s2

/-- MTX.LOAD: 1,024 bytes into a tile, which clears its mark. -/
def runLoad (e : Eng) (c : Nat) (acc : Bool) (addr : Nat) (s : State) : State :=
  let b := clPeek s e addr 1024
  let base := 256 * b2n acc
  let x := (List.range 256).foldl (fun x w => x.setWord (base + w) (BitVec.ofNat 32 (leNat ((b.drop (4 * w)).take 4)))) (coreOf s e c)
  clReport 0 e addr 1024 (setCore e c (x.setBad acc false) s)

/-- MTX.CSLOAD: bytes from cluster memory into core store. -/
def runCsload (e : Eng) (c addr len dst : Nat) (s : State) : State :=
  clReport 0 e addr len (setCore e c ((coreOf s e c).setBytes dst (clPeek s e addr len)) s)

/-- Operations at the head of a core's queue other than tile multiplies are executed. -/
def drainCore (e : Eng) (c : Nat) : Nat → State → State
  | 0, s => s
  | n + 1, s =>
    let x := coreOf s e c
    match x.queue with
    | .store acc addr :: q => drainCore e c n (runStore e c acc addr (setCore e c { x with queue := q } s))
    | .load acc addr :: q => drainCore e c n (runLoad e c acc addr (setCore e c { x with queue := q } s))
    | .csload addr len dst :: q => drainCore e c n (runCsload e c addr len dst (setCore e c { x with queue := q } s))
    | _ => s

/-! ### A tile multiply completes (R106, R114, R115, R118) -/

/-- The outputs of a tile multiply: tile word, its new value. -/
def mmaOuts (x : Core) (d : Mma) (a b : List (List FVal)) (acc : List AccFault) (dup : List DupFault) : List (Nat × Word32) :=
  (List.range d.m).flatMap (fun i => (List.range d.n).map (fun j =>
    let w := 256 * b2n d.acc + 16 * i + j
    let flt := fun (blk : Nat) => (acc.filter (fun f => f.block == blk && f.i == i && f.j == j)).map (fun f => (f.s, f.e))
    let v := tileOut d (a.getD i []) (b.getD j []) flt
    let r := if d.accum then addF (x.word w).toNat v else v
    (w, dup.foldl (fun y f => if f.i = i && f.j = j then y ^^^ f.xor else y) (BitVec.ofNat 32 r))))

/-- Accumulator faults and duplicate-unit faults that lie inside the tile. -/
def accIn (d : Mma) (f : AccFault) : Bool := decide (f.i < d.m) && decide (f.j < d.n) && decide (f.block < d.blocks)
def dupIn (d : Mma) (f : DupFault) : Bool := decide (f.i < d.m) && decide (f.j < d.n) && f.xor != 0

/-- The check bits of a completed multiply and the block they name. -/
def mmaChecks (x : Core) (d : Mma) (a b : List (List FVal)) (acc : List AccFault) (dup : List DupFault) : Nat × Nat :=
  let lanes := if d.off then (0, 0xFF) else laneCheck d a b acc
  let cls := !d.off && dup.any (fun f => f.cls)
  let oth := !d.off && dup.any (fun f => !f.cls)
  let par := d.accum && x.parity.any (fun w => w / 256 == b2n d.acc && decide (w % 256 / 16 < d.m) && decide (w % 16 < d.n))
  (lanes.1 + 4 * b2n cls + 8 * b2n oth + 16 * b2n par, lanes.2)

/-- The multiply at the head of a core's queue completes, with the wrong values that arose inside the core. -/
def mmaDone (e : Eng) (c : Nat) (d : Mma) (q : List CoreOp) (acc : List AccFault) (dup : List DupFault) (ups : List (Nat × Word32))
    (cond : Cond) (s : State) : State :=
  let x := ups.foldl (fun x u => if u.1 < 512 then x.upset u.1 u.2 else x) (coreOf s e c)
  let a := mmaA s e x d
  let b := mmaB s e x d
  let acc := acc.filter (accIn d)
  let dup := dup.filter (dupIn d)
  let chk := mmaChecks x d a b acc dup
  let y := (mmaOuts x d a b acc dup).foldl (fun y w => y.setWord w.1 w.2) x
  let keep := x.bad d.acc && (d.accum || decide (d.m < 16) || decide (d.n < 16))
  let s1 := setCore e c ({ y with queue := q }.setBad d.acc (keep || chk.1 != 0)) s
  let s2 := (mmaRanges d).foldl (fun s r => clReport 0 e r.1 r.2 s) s1
  let s3 := if chk.1 = 0 then s2 else detect e c chk.1 (d.fa * 16 + d.fb) chk.2 cond s2
  if (eng? s3 e).isSome then drainCore e c 8 s3 else s3

/-! ### The MTX class (R111, R112) -/

/-- The low 32 bits of the base register. -/
def mtxBase (x : Engine) (f : FmtM) : Nat := (x.s f.sa).toNat % 2 ^ 32

/-- The selected cores. -/
def mtxCores (x : Engine) (f : FmtM) : List Nat :=
  if f.all = 1 then List.range 64 else (List.range 64).filter (fun c => (x.s f.sb).getLsbD c)

/-- An operation for each selected core put into its queue, and executed as far as it can be. -/
def issueOps (e : Eng) (cs : List Nat) (op : Nat → CoreOp) (s : State) : State :=
  cs.foldl (fun s c =>
    let x := coreOf s e c
    drainCore e c 9 (setCore e c { x with queue := x.queue ++ [op c] } s)) s

/-- An MTX instruction whose operations passed every check: it issues where every selected core has room, else it stalls (R102). -/
def mtxIssue (x : Engine) (s : State) (e : Eng) (cs : List Nat) (op : Nat → CoreOp) : EStep :=
  if cs.all (fun c => decide ((coreOf s e c).queue.length < 8)) then .next x (issueOps e cs op) else .stall x id

/-- What every operation but MTX.WAIT asks of its base and mask. -/
def mtxOk (x : Engine) (f : FmtM) : Bool := f.rsv == 0 && mtxBase x f % 64 == 0 && !(mtxCores x f).isEmpty

/-- R106, R112: MTX.MMA. -/
def execMtxMma (e : Eng) (f : FmtM) (s : State) : Out :=
  .next (engRun (.mtxMma e f) e (fun x s =>
    let a := mtxBase x f + f.imm.toNat
    let cs := mtxCores x f
    if !mtxOk x f || f.imm.toNat % 64 ≠ 0 || clSize < a + 64 then .trap 0x25
    else
      let b := clPeek s e a 64
      let off := rget s .cdieMtxCheckCtl_lanesOff e.die == 1
      let d := fun (c : Nat) => mkMma b c (f.acc == 1) (f.accum == 1) off
      if !mmaFormOk b || !cs.all (fun c => mmaRangeOk (d c)) then .trap 0x25
      else
        match mtxIssue x s e cs (fun c => .mma (d c)) with
        | .next y post => .next y (fun s => clReport 0 e a 64 (post s))
        | r => r) s)

/-- Addresses of a store or load of a tile: base + 64 * (offset + c * stride). -/
def tileAddr (x : Engine) (f : FmtM) (c : Nat) : Nat :=
  mtxBase x f + 64 * (f.imm.toNat % 65536 + c * (f.imm.toNat / 65536))

/-- MTX.STORE and MTX.LOAD. -/
def mtxTile (i : Instr) (e : Eng) (f : FmtM) (op : Nat → CoreOp) (s : State) : State :=
  engRun i e (fun x s =>
    let cs := mtxCores x f
    if !mtxOk x f || f.accum ≠ 0 || (decide (1 < cs.length) && decide (f.imm.toNat / 65536 < 16)) ||
        !cs.all (fun c => decide (tileAddr x f c + 1024 ≤ clSize)) then .trap 0x25
    else mtxIssue x s e cs (fun c => op (tileAddr x f c))) s

/-- R112: MTX.STORE. -/
def execMtxStore (e : Eng) (f : FmtM) (s : State) : Out := .next (mtxTile (.mtxStore e f) e f (.store (f.acc == 1)) s)

/-- R112: MTX.LOAD. -/
def execMtxLoad (e : Eng) (f : FmtM) (s : State) : Out := .next (mtxTile (.mtxLoad e f) e f (.load (f.acc == 1)) s)

/-- R112: MTX.CSLOAD. -/
def execMtxCsload (e : Eng) (f : FmtM) (s : State) : Out :=
  .next (engRun (.mtxCsload e f) e (fun x s =>
    let cs := mtxCores x f
    let len := bits f.imm.toNat 8 8 + 1
    let dst := f.imm.toNat % 256
    let addr := fun (c : Nat) => mtxBase x f + 64 * (c * (f.imm.toNat / 65536))
    if !mtxOk x f || f.accum ≠ 0 || f.acc ≠ 0 || 128 < dst + len || !cs.all (fun c => decide (addr c + 64 * len ≤ clSize)) then .trap 0x25
    else mtxIssue x s e cs (fun c => .csload (addr c) (64 * len) (64 * dst))) s)

/-- R112, R113: MTX.WAIT stalls until nothing is queued on the selected cores. -/
def execMtxWait (e : Eng) (f : FmtM) (s : State) : Out :=
  .next (engRun (.mtxWait e f) e (fun x s =>
    let cs := mtxCores x f
    if f.rsv ≠ 0 || f.imm ≠ 0 || f.sa ≠ 0 || f.acc ≠ 0 || f.accum ≠ 0 || cs.isEmpty then .trap 0x25
    else if cs.all (fun c => (coreOf s e c).queue.isEmpty) then .next x id
    else .stall x id) s)

/-- R117, R121: a write of CDIE_MTX_CHECK_CTL by PF 0. -/
def execCdieMtxCheckCtl (fn die : Nat) (value : BitVec 32) (s : State) : Out :=
  .next (
    let v := value.toNat % 2
    let s := dropLatch fn s
    if notServed s fn || 8 ≤ die || rget s .cdieMtxCheckCtl_lanesOff die = v then s
    else
      let s1 := rset .cdieMtxCheckCtl_lanesOff die v s
      raise0 0x0502 (0x10 + die) (pack [(0, 8, die), (8, 8, v)]) (if v = 1 then rflag .cdieMtxStatus_offSeen die s1 else s1))

end Sys2Proof.Machine
end

