-- ==== Sys2Proof/Machine/Words.lean ====
section
/-! DEFINITION. The instruction that a 64-bit word of a kernel spells (R111, R126; Tables 5.6, 5.7, 6.3 to 6.13). -/

namespace Sys2Proof.Machine

/-- Format S of a word. -/
def wS (w : Word64) : FmtS := ⟨w.extractLsb' 47 5, w.extractLsb' 42 5, w.extractLsb' 37 5, w.extractLsb' 0 37⟩

/-- Format SI. -/
def wSI (w : Word64) : FmtSI := ⟨w.extractLsb' 47 5, w.extractLsb' 42 5, w.extractLsb' 32 10, w.extractLsb' 0 32⟩

/-- Format SM. -/
def wSM (w : Word64) : FmtSM := ⟨w.extractLsb' 47 5, w.extractLsb' 42 5, w.extractLsb' 40 2, w.extractLsb' 32 8, w.extractLsb' 0 32⟩

/-- Format B. -/
def wB (w : Word64) : FmtB := ⟨w.extractLsb' 47 5, w.extractLsb' 42 5, w.extractLsb' 32 10, w.extractLsb' 0 32⟩

/-- Format V. -/
def wV (w : Word64) : FmtV :=
  ⟨w.extractLsb' 49 3, w.extractLsb' 48 1, w.extractLsb' 45 3, w.extractLsb' 43 2, w.extractLsb' 42 1, w.extractLsb' 37 5, w.extractLsb' 32 5,
    w.extractLsb' 27 5, w.extractLsb' 22 5, w.extractLsb' 17 5, w.extractLsb' 16 1, w.extractLsb' 0 16⟩

/-- Format C. -/
def wC (w : Word64) : FmtC :=
  ⟨w.extractLsb' 48 4, w.extractLsb' 44 4, w.extractLsb' 43 1, w.extractLsb' 40 3, w.extractLsb' 38 2, w.extractLsb' 37 1, w.extractLsb' 32 5,
    w.extractLsb' 27 5, w.extractLsb' 22 5, w.extractLsb' 17 5, w.extractLsb' 12 5, w.extractLsb' 9 3, w.extractLsb' 6 3, w.extractLsb' 0 6⟩

/-- Format X. -/
def wX (w : Word64) : FmtX :=
  ⟨w.extractLsb' 47 5, w.extractLsb' 42 5, w.extractLsb' 37 5, w.extractLsb' 32 5, w.extractLsb' 8 24, w.extractLsb' 0 8⟩

/-- The MTX format, below its four-bit op. -/
def wM (w : Word64) : FmtM :=
  ⟨w.extractLsb' 50 5, w.extractLsb' 45 5, w.extractLsb' 44 1, w.extractLsb' 43 1, w.extractLsb' 42 1, w.extractLsb' 32 10, w.extractLsb' 0 32⟩

/-- SYS. -/
def sysInstr (e : Eng) (f : FmtSI) : Nat → Option Instr
  | 0x00 => some (.sysNop e f)
  | 0x01 => some (.endKernel e f)
  | 0x02 => some (.csrr e f)
  | 0x03 => some (.csrw e f)
  | _ => none

/-- SALU (Table 6.5). -/
def saluInstr (e : Eng) (f : FmtS) : Nat → Option Instr
  | 0x00 => some (.add e f)
  | 0x01 => some (.sub e f)
  | 0x02 => some (.mul e f)
  | 0x03 => some (.and e f)
  | 0x04 => some (.or e f)
  | 0x05 => some (.xor e f)
  | 0x06 => some (.shl e f)
  | 0x07 => some (.shr e f)
  | 0x08 => some (.sar e f)
  | 0x09 => some (.slt e f)
  | 0x0A => some (.sltu e f)
  | 0x0B => some (.min e f)
  | 0x0C => some (.max e f)
  | 0x0D => some (.minu e f)
  | 0x0E => some (.maxu e f)
  | _ => none

/-- SALUI (Table 6.5). -/
def saluiInstr (e : Eng) (f : FmtSI) : Nat → Option Instr
  | 0x00 => some (.addi e f)
  | 0x02 => some (.muli e f)
  | 0x03 => some (.andi e f)
  | 0x04 => some (.ori e f)
  | 0x05 => some (.xori e f)
  | 0x06 => some (.shli e f)
  | 0x07 => some (.shri e f)
  | 0x08 => some (.sari e f)
  | 0x09 => some (.slti e f)
  | 0x0A => some (.sltui e f)
  | 0x10 => some (.li e f)
  | 0x11 => some (.lui e f)
  | _ => none

/-- BR (R129). -/
def brInstr (e : Eng) (f : FmtB) : Nat → Option Instr
  | 0x00 => some (.beq e f)
  | 0x01 => some (.bne e f)
  | 0x02 => some (.blt e f)
  | 0x03 => some (.bge e f)
  | 0x04 => some (.bltu e f)
  | 0x05 => some (.bgeu e f)
  | 0x06 => some (.jmp e f)
  | _ => none

/-- VALU (Table 6.6). -/
def valuInstr (e : Eng) (f : FmtV) : Nat → Option Instr
  | 0x00 => some (.vadd e f)
  | 0x01 => some (.vsub e f)
  | 0x02 => some (.vmul e f)
  | 0x03 => some (.vfma e f)
  | 0x04 => some (.vfms e f)
  | 0x05 => some (.vmin e f)
  | 0x06 => some (.vmax e f)
  | 0x07 => some (.vabs e f)
  | 0x08 => some (.vneg e f)
  | 0x09 => some (.vand e f)
  | 0x0A => some (.vor e f)
  | 0x0B => some (.vxor e f)
  | 0x0C => some (.vshl e f)
  | 0x0D => some (.vshr e f)
  | 0x0E => some (.vsar e f)
  | 0x0F => some (.vsel e f)
  | 0x10 => some (.vmov e f)
  | 0x11 => some (.vlane e f)
  | 0x12 => some (.vperm e f)
  | 0x13 => some (.vbcast e f)
  | 0x14 => some (.vget e f)
  | 0x15 => some (.vput e f)
  | _ => none

/-- VCMP (Table 6.7). -/
def vcmpInstr (e : Eng) (f : FmtV) : Nat → Option Instr
  | 0x00 => some (.eq e f)
  | 0x01 => some (.ne e f)
  | 0x02 => some (.lt e f)
  | 0x03 => some (.le e f)
  | 0x04 => some (.gt e f)
  | 0x05 => some (.ge e f)
  | 0x06 => some (.un e f)
  | 0x10 => some (.mand e f)
  | 0x11 => some (.mor e f)
  | 0x12 => some (.mxor e f)
  | 0x13 => some (.mnot e f)
  | 0x14 => some (.mfroms e f)
  | 0x15 => some (.mtos e f)
  | _ => none

/-- VMEM (Table 6.8). -/
def vmemInstr (e : Eng) (f : FmtV) : Nat → Option Instr
  | 0x00 => some (.vld e f)
  | 0x01 => some (.vst e f)
  | 0x02 => some (.vlds e f)
  | 0x03 => some (.vsts e f)
  | 0x04 => some (.vgath e f)
  | 0x05 => some (.vscat e f)
  | _ => none

/-- VFUN (R148). -/
def vfunInstr (e : Eng) (f : FmtV) : Nat → Option Instr
  | 0x00 => some (.vexp e f)
  | 0x01 => some (.vlog e f)
  | 0x02 => some (.vrsq e f)
  | 0x03 => some (.vdiv e f)
  | 0x04 => some (.vrcp e f)
  | _ => none

/-- VRED (R138). -/
def vredInstr (e : Eng) (f : FmtV) : Nat → Option Instr
  | 0x00 => some (.vredSum e f)
  | 0x01 => some (.vredMax e f)
  | 0x02 => some (.vredMin e f)
  | 0x03 => some (.argmax e f)
  | 0x04 => some (.argmin e f)
  | _ => none

/-- VWIDE (Table 6.13). -/
def vwideInstr (e : Eng) (f : FmtV) : Nat → Option Instr
  | 0x00 => some (.wset e f)
  | 0x01 => some (.wadd e f)
  | 0x02 => some (.wmax e f)
  | 0x03 => some (.wmul e f)
  | 0x04 => some (.wexpadd e f)
  | 0x05 => some (.wfma e f)
  | 0x06 => some (.wget e f)
  | 0x07 => some (.wred e f)
  | _ => none

/-- VCVT (Table 6.12). -/
def vcvtInstr (e : Eng) (f : FmtC) : Nat → Option Instr
  | 0x00 => some (.cvt e f)
  | 0x01 => some (.cvtTs e f)
  | 0x02 => some (.cvtBp e f)
  | 0x03 => some (.cvtBu e f)
  | _ => none

/-- XFER (R133). -/
def xferInstr (e : Eng) (f : FmtX) : Nat → Option Instr
  | 0x00 => some (.xin e f)
  | 0x01 => some (.xout e f)
  | 0x02 => some (.xwait e f)
  | _ => none

/-- STRM (Table 6.9). -/
def strmInstr (e : Eng) (f : FmtX) : Nat → Option Instr
  | 0x00 => some (.trecv e f)
  | 0x01 => some (.trecva e f)
  | 0x02 => some (.trel e f)
  | 0x03 => some (.tsend e f)
  | 0x04 => some (.trsend e f)
  | 0x05 => some (.tclose e f)
  | _ => none

/-- MTX (Table 5.7). -/
def mtxInstr (e : Eng) (f : FmtM) : Nat → Option Instr
  | 0x0 => some (.mtxMma e f)
  | 0x1 => some (.mtxStore e f)
  | 0x2 => some (.mtxLoad e f)
  | 0x3 => some (.mtxCsload e f)
  | 0x4 => some (.mtxWait e f)
  | _ => none

/-- SMEM (R129). -/
def smemInstr (e : Eng) (f : FmtSM) : Nat → Option Instr
  | 0x00 => some (.sld e f)
  | 0x01 => some (.sst e f)
  | _ => none

/-- The instruction that a word spells on an engine; none where its class or op is not listed (R126, R135). -/
def wordInstr (e : Eng) (w : Word64) : Option Instr :=
  let op := (w.extractLsb' 52 7).toNat
  match (w.extractLsb' 59 5).toNat with
  | 0b00000 => sysInstr e (wSI w) op
  | 0b00001 => saluInstr e (wS w) op
  | 0b00010 => saluiInstr e (wSI w) op
  | 0b00011 => smemInstr e (wSM w) op
  | 0b00100 => brInstr e (wB w) op
  | 0b01000 => valuInstr e (wV w) op
  | 0b01001 => vcmpInstr e (wV w) op
  | 0b01010 => vmemInstr e (wV w) op
  | 0b01011 => vfunInstr e (wV w) op
  | 0b01100 => vredInstr e (wV w) op
  | 0b01101 => vwideInstr e (wV w) op
  | 0b01110 => vcvtInstr e (wC w) op
  | 0b10000 => xferInstr e (wX w) op
  | 0b10001 => strmInstr e (wX w) op
  | 0b11100 => mtxInstr e (wM w) (w.extractLsb' 55 4).toNat
  | _ => none

/-! ### The word of an instruction, from the same tables -/

/-- A class, an op and the 52 bits of a format. -/
def opWord (cls : BitVec 5) (op : BitVec 7) (body : BitVec 52) : Word64 := cls ++ op ++ body

/-- Format S. -/
def bS (f : FmtS) : BitVec 52 := f.sd ++ f.sa ++ f.sb ++ f.rsv

/-- Format SI. -/
def bSI (f : FmtSI) : BitVec 52 := f.sd ++ f.sa ++ f.rsv ++ f.imm

/-- Format SM. -/
def bSM (f : FmtSM) : BitVec 52 := f.sd ++ f.sa ++ f.space ++ f.rsv ++ f.imm

/-- Format B. -/
def bB (f : FmtB) : BitVec 52 := f.sa ++ f.sb ++ f.rsv ++ f.imm

/-- Format V. -/
def bV (f : FmtV) : BitVec 52 :=
  f.type ++ f.mkb ++ f.mr ++ f.rnd ++ f.sat ++ f.d ++ f.a ++ f.b ++ f.c ++ f.ss ++ f.bs ++ f.imm

/-- Format C. -/
def bC (f : FmtC) : BitVec 52 :=
  f.fmtSrc ++ f.fmtDst ++ f.mkb ++ f.mr ++ f.rnd ++ f.sat ++ f.vd ++ f.va ++ f.vs ++ f.sk ++ f.sf ++ f.spart ++ f.dpart ++ f.rsv

/-- Format X. -/
def bX (f : FmtX) : BitVec 52 := f.sd ++ f.sa ++ f.sb ++ f.sc ++ f.rsv ++ f.imm

/-- An MTX word: its op has four bits. -/
def mtxWord (op : BitVec 4) (f : FmtM) : Word64 :=
  (0b11100#5 ++ op ++ f.sa ++ f.sb ++ f.all ++ f.acc ++ f.accum ++ f.rsv ++ f.imm : BitVec 64)

/-- The engine and the word of an instruction of a kernel; none for any other command. -/
def instrWord : Instr → Option (Eng × Word64)
  | .sysNop e f => some (e, opWord 0b00000 0x00 (bSI f))
  | .endKernel e f => some (e, opWord 0b00000 0x01 (bSI f))
  | .csrr e f => some (e, opWord 0b00000 0x02 (bSI f))
  | .csrw e f => some (e, opWord 0b00000 0x03 (bSI f))
  | .add e f => some (e, opWord 0b00001 0x00 (bS f))
  | .sub e f => some (e, opWord 0b00001 0x01 (bS f))
  | .mul e f => some (e, opWord 0b00001 0x02 (bS f))
  | .and e f => some (e, opWord 0b00001 0x03 (bS f))
  | .or e f => some (e, opWord 0b00001 0x04 (bS f))
  | .xor e f => some (e, opWord 0b00001 0x05 (bS f))
  | .shl e f => some (e, opWord 0b00001 0x06 (bS f))
  | .shr e f => some (e, opWord 0b00001 0x07 (bS f))
  | .sar e f => some (e, opWord 0b00001 0x08 (bS f))
  | .slt e f => some (e, opWord 0b00001 0x09 (bS f))
  | .sltu e f => some (e, opWord 0b00001 0x0A (bS f))
  | .min e f => some (e, opWord 0b00001 0x0B (bS f))
  | .max e f => some (e, opWord 0b00001 0x0C (bS f))
  | .minu e f => some (e, opWord 0b00001 0x0D (bS f))
  | .maxu e f => some (e, opWord 0b00001 0x0E (bS f))
  | .addi e f => some (e, opWord 0b00010 0x00 (bSI f))
  | .muli e f => some (e, opWord 0b00010 0x02 (bSI f))
  | .andi e f => some (e, opWord 0b00010 0x03 (bSI f))
  | .ori e f => some (e, opWord 0b00010 0x04 (bSI f))
  | .xori e f => some (e, opWord 0b00010 0x05 (bSI f))
  | .shli e f => some (e, opWord 0b00010 0x06 (bSI f))
  | .shri e f => some (e, opWord 0b00010 0x07 (bSI f))
  | .sari e f => some (e, opWord 0b00010 0x08 (bSI f))
  | .slti e f => some (e, opWord 0b00010 0x09 (bSI f))
  | .sltui e f => some (e, opWord 0b00010 0x0A (bSI f))
  | .li e f => some (e, opWord 0b00010 0x10 (bSI f))
  | .lui e f => some (e, opWord 0b00010 0x11 (bSI f))
  | .beq e f => some (e, opWord 0b00100 0x00 (bB f))
  | .bne e f => some (e, opWord 0b00100 0x01 (bB f))
  | .blt e f => some (e, opWord 0b00100 0x02 (bB f))
  | .bge e f => some (e, opWord 0b00100 0x03 (bB f))
  | .bltu e f => some (e, opWord 0b00100 0x04 (bB f))
  | .bgeu e f => some (e, opWord 0b00100 0x05 (bB f))
  | .jmp e f => some (e, opWord 0b00100 0x06 (bB f))
  | .vadd e f => some (e, opWord 0b01000 0x00 (bV f))
  | .vsub e f => some (e, opWord 0b01000 0x01 (bV f))
  | .vmul e f => some (e, opWord 0b01000 0x02 (bV f))
  | .vfma e f => some (e, opWord 0b01000 0x03 (bV f))
  | .vfms e f => some (e, opWord 0b01000 0x04 (bV f))
  | .vmin e f => some (e, opWord 0b01000 0x05 (bV f))
  | .vmax e f => some (e, opWord 0b01000 0x06 (bV f))
  | .vabs e f => some (e, opWord 0b01000 0x07 (bV f))
  | .vneg e f => some (e, opWord 0b01000 0x08 (bV f))
  | .vand e f => some (e, opWord 0b01000 0x09 (bV f))
  | .vor e f => some (e, opWord 0b01000 0x0A (bV f))
  | .vxor e f => some (e, opWord 0b01000 0x0B (bV f))
  | .vshl e f => some (e, opWord 0b01000 0x0C (bV f))
  | .vshr e f => some (e, opWord 0b01000 0x0D (bV f))
  | .vsar e f => some (e, opWord 0b01000 0x0E (bV f))
  | .vsel e f => some (e, opWord 0b01000 0x0F (bV f))
  | .vmov e f => some (e, opWord 0b01000 0x10 (bV f))
  | .vlane e f => some (e, opWord 0b01000 0x11 (bV f))
  | .vperm e f => some (e, opWord 0b01000 0x12 (bV f))
  | .vbcast e f => some (e, opWord 0b01000 0x13 (bV f))
  | .vget e f => some (e, opWord 0b01000 0x14 (bV f))
  | .vput e f => some (e, opWord 0b01000 0x15 (bV f))
  | .eq e f => some (e, opWord 0b01001 0x00 (bV f))
  | .ne e f => some (e, opWord 0b01001 0x01 (bV f))
  | .lt e f => some (e, opWord 0b01001 0x02 (bV f))
  | .le e f => some (e, opWord 0b01001 0x03 (bV f))
  | .gt e f => some (e, opWord 0b01001 0x04 (bV f))
  | .ge e f => some (e, opWord 0b01001 0x05 (bV f))
  | .un e f => some (e, opWord 0b01001 0x06 (bV f))
  | .mand e f => some (e, opWord 0b01001 0x10 (bV f))
  | .mor e f => some (e, opWord 0b01001 0x11 (bV f))
  | .mxor e f => some (e, opWord 0b01001 0x12 (bV f))
  | .mnot e f => some (e, opWord 0b01001 0x13 (bV f))
  | .mfroms e f => some (e, opWord 0b01001 0x14 (bV f))
  | .mtos e f => some (e, opWord 0b01001 0x15 (bV f))
  | .vld e f => some (e, opWord 0b01010 0x00 (bV f))
  | .vst e f => some (e, opWord 0b01010 0x01 (bV f))
  | .vlds e f => some (e, opWord 0b01010 0x02 (bV f))
  | .vsts e f => some (e, opWord 0b01010 0x03 (bV f))
  | .vgath e f => some (e, opWord 0b01010 0x04 (bV f))
  | .vscat e f => some (e, opWord 0b01010 0x05 (bV f))
  | .vexp e f => some (e, opWord 0b01011 0x00 (bV f))
  | .vlog e f => some (e, opWord 0b01011 0x01 (bV f))
  | .vrsq e f => some (e, opWord 0b01011 0x02 (bV f))
  | .vdiv e f => some (e, opWord 0b01011 0x03 (bV f))
  | .vrcp e f => some (e, opWord 0b01011 0x04 (bV f))
  | .vredSum e f => some (e, opWord 0b01100 0x00 (bV f))
  | .vredMax e f => some (e, opWord 0b01100 0x01 (bV f))
  | .vredMin e f => some (e, opWord 0b01100 0x02 (bV f))
  | .argmax e f => some (e, opWord 0b01100 0x03 (bV f))
  | .argmin e f => some (e, opWord 0b01100 0x04 (bV f))
  | .wset e f => some (e, opWord 0b01101 0x00 (bV f))
  | .wadd e f => some (e, opWord 0b01101 0x01 (bV f))
  | .wmax e f => some (e, opWord 0b01101 0x02 (bV f))
  | .wmul e f => some (e, opWord 0b01101 0x03 (bV f))
  | .wexpadd e f => some (e, opWord 0b01101 0x04 (bV f))
  | .wfma e f => some (e, opWord 0b01101 0x05 (bV f))
  | .wget e f => some (e, opWord 0b01101 0x06 (bV f))
  | .wred e f => some (e, opWord 0b01101 0x07 (bV f))
  | .cvt e f => some (e, opWord 0b01110 0x00 (bC f))
  | .cvtTs e f => some (e, opWord 0b01110 0x01 (bC f))
  | .cvtBp e f => some (e, opWord 0b01110 0x02 (bC f))
  | .cvtBu e f => some (e, opWord 0b01110 0x03 (bC f))
  | .xin e f => some (e, opWord 0b10000 0x00 (bX f))
  | .xout e f => some (e, opWord 0b10000 0x01 (bX f))
  | .xwait e f => some (e, opWord 0b10000 0x02 (bX f))
  | .trecv e f => some (e, opWord 0b10001 0x00 (bX f))
  | .trecva e f => some (e, opWord 0b10001 0x01 (bX f))
  | .trel e f => some (e, opWord 0b10001 0x02 (bX f))
  | .tsend e f => some (e, opWord 0b10001 0x03 (bX f))
  | .trsend e f => some (e, opWord 0b10001 0x04 (bX f))
  | .tclose e f => some (e, opWord 0b10001 0x05 (bX f))
  | .mtxMma e f => some (e, mtxWord 0x0 f)
  | .mtxStore e f => some (e, mtxWord 0x1 f)
  | .mtxLoad e f => some (e, mtxWord 0x2 f)
  | .mtxCsload e f => some (e, mtxWord 0x3 f)
  | .mtxWait e f => some (e, mtxWord 0x4 f)
  | .sld e f => some (e, opWord 0b00011 0x00 (bSM f))
  | .sst e f => some (e, opWord 0b00011 0x01 (bSM f))
  | _ => none

end Sys2Proof.Machine
end

