-- ==== Sys2Proof/Machine/Scalar.lean ====
section
/-! DEFINITION. The scalar unit: SYS, SALU, SALUI, SMEM and BR (R125, R128, R129). END is with the streams, which it closes. -/

namespace Sys2Proof.Machine

/-! ### SALU (Table 6.5) -/

/-- A register operation on 64-bit values. -/
def saluRun (i : Instr) (e : Eng) (f : FmtS) (op : Word64 → Word64 → Word64) (s : State) : State :=
  engPure i e (fun x => need (f.rsv == 0) (x.setS f.sd (op (x.s f.sa) (x.s f.sb)))) s

/-- An operation with the sign-extended immediate. -/
def saluiRun (i : Instr) (e : Eng) (f : FmtSI) (op : Word64 → Word64 → Word64) (s : State) : State :=
  engPure i e (fun x => need (f.rsv == 0) (x.setS f.sd (op (x.s f.sa) (f.imm.signExtend 64)))) s

/-- R128: ADD. -/
def execAdd (e : Eng) (f : FmtS) (s : State) : Out := .next (saluRun (.add e f) e f (fun a b => a + b) s)

/-- R128: SUB. -/
def execSub (e : Eng) (f : FmtS) (s : State) : Out := .next (saluRun (.sub e f) e f (fun a b => a - b) s)

/-- R128: MUL. -/
def execMul (e : Eng) (f : FmtS) (s : State) : Out := .next (saluRun (.mul e f) e f (fun a b => a * b) s)

/-- R128: AND. -/
def execAnd (e : Eng) (f : FmtS) (s : State) : Out := .next (saluRun (.and e f) e f (fun a b => a &&& b) s)

/-- R128: OR. -/
def execOr (e : Eng) (f : FmtS) (s : State) : Out := .next (saluRun (.or e f) e f (fun a b => a ||| b) s)

/-- R128: XOR. -/
def execXor (e : Eng) (f : FmtS) (s : State) : Out := .next (saluRun (.xor e f) e f (fun a b => a ^^^ b) s)

/-- R128: SHL. -/
def execShl (e : Eng) (f : FmtS) (s : State) : Out := .next (saluRun (.shl e f) e f (fun a b => a <<< (b.toNat % 64)) s)

/-- R128: SHR. -/
def execShr (e : Eng) (f : FmtS) (s : State) : Out := .next (saluRun (.shr e f) e f (fun a b => a >>> (b.toNat % 64)) s)

/-- R128: SAR. -/
def execSar (e : Eng) (f : FmtS) (s : State) : Out := .next (saluRun (.sar e f) e f (fun a b => a.sshiftRight (b.toNat % 64)) s)

/-- R128: SLT. -/
def execSlt (e : Eng) (f : FmtS) (s : State) : Out := .next (saluRun (.slt e f) e f (fun a b => if a.slt b then 1 else 0) s)

/-- R128: SLTU. -/
def execSltu (e : Eng) (f : FmtS) (s : State) : Out := .next (saluRun (.sltu e f) e f (fun a b => if a.ult b then 1 else 0) s)

/-- R128: MIN. -/
def execMin (e : Eng) (f : FmtS) (s : State) : Out := .next (saluRun (.min e f) e f (fun a b => if a.slt b then a else b) s)

/-- R128: MAX. -/
def execMax (e : Eng) (f : FmtS) (s : State) : Out := .next (saluRun (.max e f) e f (fun a b => if a.slt b then b else a) s)

/-- R128: MINU. -/
def execMinu (e : Eng) (f : FmtS) (s : State) : Out := .next (saluRun (.minu e f) e f (fun a b => if a.ult b then a else b) s)

/-- R128: MAXU. -/
def execMaxu (e : Eng) (f : FmtS) (s : State) : Out := .next (saluRun (.maxu e f) e f (fun a b => if a.ult b then b else a) s)

/-- R128: ADDI. -/
def execAddi (e : Eng) (f : FmtSI) (s : State) : Out := .next (saluiRun (.addi e f) e f (fun a b => a + b) s)

/-- R128: MULI. -/
def execMuli (e : Eng) (f : FmtSI) (s : State) : Out := .next (saluiRun (.muli e f) e f (fun a b => a * b) s)

/-- R128: ANDI. -/
def execAndi (e : Eng) (f : FmtSI) (s : State) : Out := .next (saluiRun (.andi e f) e f (fun a b => a &&& b) s)

/-- R128: ORI. -/
def execOri (e : Eng) (f : FmtSI) (s : State) : Out := .next (saluiRun (.ori e f) e f (fun a b => a ||| b) s)

/-- R128: XORI. -/
def execXori (e : Eng) (f : FmtSI) (s : State) : Out := .next (saluiRun (.xori e f) e f (fun a b => a ^^^ b) s)

/-- R128: SHLI. -/
def execShli (e : Eng) (f : FmtSI) (s : State) : Out := .next (saluiRun (.shli e f) e f (fun a b => a <<< (b.toNat % 64)) s)

/-- R128: SHRI. -/
def execShri (e : Eng) (f : FmtSI) (s : State) : Out := .next (saluiRun (.shri e f) e f (fun a b => a >>> (b.toNat % 64)) s)

/-- R128: SARI. -/
def execSari (e : Eng) (f : FmtSI) (s : State) : Out := .next (saluiRun (.sari e f) e f (fun a b => a.sshiftRight (b.toNat % 64)) s)

/-- R128: SLTI. -/
def execSlti (e : Eng) (f : FmtSI) (s : State) : Out := .next (saluiRun (.slti e f) e f (fun a b => if a.slt b then 1 else 0) s)

/-- R128: SLTUI. -/
def execSltui (e : Eng) (f : FmtSI) (s : State) : Out := .next (saluiRun (.sltui e f) e f (fun a b => if a.ult b then 1 else 0) s)

/-- R128: LI loads the sign-extended immediate. -/
def execLi (e : Eng) (f : FmtSI) (s : State) : Out :=
  .next (engPure (.li e f) e (fun x => need (f.rsv == 0 && f.sa == 0) (x.setS f.sd (f.imm.signExtend 64))) s)

/-- R128: LUI puts the immediate into the upper half and keeps the lower. -/
def execLui (e : Eng) (f : FmtSI) (s : State) : Out :=
  .next (engPure (.lui e f) e
    (fun x => need (f.rsv == 0 && f.sa == 0) (x.setS f.sd ((f.imm.signExtend 64 <<< 32) ||| ((x.s f.sd).truncate 32).zeroExtend 64))) s)

/-! ### SYS (R125) -/

/-- R128: NOP. -/
def execSysNop (e : Eng) (f : FmtSI) (s : State) : Out :=
  .next (engPure (.sysNop e f) e (fun x => need (f.sd == 0 && f.sa == 0 && f.rsv == 0 && f.imm == 0) x) s)

/-- Block of a cluster's own local count: those of the registers' blocks lie below. -/
def clusterBlk (e : Eng) : Nat := 0x1000 + engKey e

/-- What a control and status register holds (Table 6.2); none where the number is not listed. -/
def csrVal (x : Engine) (e : Eng) (s : State) (n : Nat) : Option Nat :=
  let t := x.taskOf s
  let r := x.runOf s
  if n = 0x00 then some (b2n x.ftz)
  else if n = 0x01 then some x.vflags.toNat
  else if n = 0x02 then some x.k
  else if n = 0x03 then some (taskSize (x.graphOf s) x.task)
  else if n = 0x04 then some (pack [(0, 8, x.logCl s % 64), (8, 8, x.logCl s / 64), (16, 8, x.ldie)])
  else if n = 0x05 then some (pack [(0, 16, x.task), (16, 16, r.elim 0 (·.graph)), (32, 16, r.elim 0 (·.mb)), (48, 8, t.elim 0 (·.cls))])
  else if n = 0x06 then some (x.step s)
  else if n = 0x07 then some (r.elim 0 (·.arg))
  else if n = 0x08 then some (t.elim 0 (·.argBytes))
  else if n = 0x09 then some (lcountOf (tickCount (clusterBlk e) s) (clusterBlk e))
  else if 0x10 ≤ n && n ≤ 0x1F then some ((x.outPort s (n - 0x10)).elim 0 (fun y => taskSize (x.graphOf s) y.1.dst))
  else if 0x40 ≤ n && n ≤ 0x7F then some ((x.routeEdge s (n - 0x40)).elim 0 (fun y => taskSize (x.graphOf s) y.1.dst))
  else none

/-- R125: CSRR; a read of LCOUNT moves the count on. -/
def execCsrr (e : Eng) (f : FmtSI) (s : State) : Out :=
  .next (engRun (.csrr e f) e (fun x s =>
    match csrVal x e s f.imm.toNat with
    | some v =>
      if f.sa = 0 && f.rsv = 0 then
        .next (x.setS f.sd (BitVec.ofNat 64 v)) (if f.imm = 9 then tickCount (clusterBlk e) else id)
      else .trap 0x25
    | none => .trap 0x25) s)

/-- R125: CSRW of VCTL or VFLAGS; a write of any other register traps. -/
def execCsrw (e : Eng) (f : FmtSI) (s : State) : Out :=
  .next (engPure (.csrw e f) e (fun x =>
    if f.sd ≠ 0 || f.rsv ≠ 0 then none
    else if f.imm = 0 then some { x with ftz := (x.s f.sa).getLsbD 0 }
    else if f.imm = 1 then some { x with vflags := (x.s f.sa).truncate 5 }
    else none) s)

/-! ### SMEM (R129) -/

/-- An output record of the Octave check (R153): a running digest added to the sum. The bytes that stand for a record are the model's own
(DESIGN CHOICE, log entry 11). -/
def addRec (x : Engine) (kind : Nat) (fields : List Nat) (b : List Byte) : Engine :=
  if x.sampled then
    { x with digest := x.digest + BitVec.ofNat 64 (runDigest (leBytes 8 kind ++ fields.flatMap (leBytes 8) ++ b)), recs := x.recs + 1 }
  else x

/-- The address of a scalar load or store. -/
def smemAddr (x : Engine) (f : FmtSM) : Nat := (x.s f.sa + f.imm.signExtend 64).toNat

/-- R129: SLD. A load from another slot of the tray waits for its answer (R167). -/
def execSld (e : Eng) (f : FmtSM) (s : State) : Out :=
  .next (engRun (.sld e f) e (fun x s =>
    let a := smemAddr x f
    let put := fun (b : List Byte) => x.setS f.sd (BitVec.ofNat 64 (leNat b))
    if a % 8 ≠ 0 || f.rsv ≠ 0 then .trap 0x25
    else if f.space = 0 then
      if clSize < a + 8 then .trap 0x25 else .next (put (clPeek s e a 8)) (clReport 1 e a 8)
    else if f.space = 1 then
      if x.args.length < a + 8 then .trap 0x25 else .next (put ((x.args.drop a).take 8)) id
    else if f.space = 2 then
      if 2 ^ 57 ≤ a then .trap 0x25
      else
        match inWindow s x.ctx false a, locate s a with
        | true, .remote slot =>
          match x.answers.find? (fun y => y.1 == a) with
          | some y => .next { put y.2 with answers := x.answers.filter (fun z => z.1 != a) } id
          | none =>
            if (svals s.vig.remote).any (fun r => r.use == .engine (engKey e) && r.addr == a && !r.write) then .stall x id
            else .stall x (sendRemote x.ctx slot a false [] 8 (.engine (engKey e)))
        | _, _ => let r := peek s x.ctx a 8; .next (put r.bytes) (fun s => trayReport 1 e r (useFree s))
    else .trap 0x25) s)

/-- R129, R152: SST. A shadow's store to a tray address is not performed; it only enters the digest. -/
def execSst (e : Eng) (f : FmtSM) (s : State) : Out :=
  .next (engRun (.sst e f) e (fun x s =>
    let a := smemAddr x f
    let b := leBytes 8 (x.s f.sd).toNat
    if a % 8 ≠ 0 || f.rsv ≠ 0 then .trap 0x25
    else if f.space = 0 then
      if clSize < a + 8 then .trap 0x25 else .next x (clWrite e a b)
    else if f.space = 2 then
      if 2 ^ 57 ≤ a then .trap 0x25
      else
        .next (addRec x 5 [a] b)
          (if e.shadow then id
           else match inWindow s x.ctx true a, locate s a with
             | true, .remote slot => sendRemote x.ctx slot a true b 8 (.engine (engKey e))
             | _, _ => ctxWrite x.ctx a b)
    else .trap 0x25) s)

/-! ### Branches (R129, R135) -/

/-- The byte offset that a branch names, before the range check. -/
def brTarget (x : Engine) (imm : BitVec 32) : Int := (x.pc : Int) + 8 * imm.toInt

/-- A branch: its target must lie in the code whether or not it is taken (R135). -/
def brRun (i : Instr) (e : Eng) (f : FmtB) (cond : Word64 → Word64 → Bool) (s : State) : State :=
  engRun i e (fun x _ =>
    let t := brTarget x f.imm
    if f.rsv ≠ 0 || t < 0 || (x.codeBytes : Int) < t + 8 then .trap 0x25
    else if cond (x.s f.sa) (x.s f.sb) then .jump x t.toNat
    else .next x id) s

/-- R129: BEQ. -/
def execBeq (e : Eng) (f : FmtB) (s : State) : Out := .next (brRun (.beq e f) e f (fun a b => a == b) s)

/-- R129: BNE. -/
def execBne (e : Eng) (f : FmtB) (s : State) : Out := .next (brRun (.bne e f) e f (fun a b => a != b) s)

/-- R129: BLT. -/
def execBlt (e : Eng) (f : FmtB) (s : State) : Out := .next (brRun (.blt e f) e f (fun a b => a.slt b) s)

/-- R129: BGE. -/
def execBge (e : Eng) (f : FmtB) (s : State) : Out := .next (brRun (.bge e f) e f (fun a b => !a.slt b) s)

/-- R129: BLTU. -/
def execBltu (e : Eng) (f : FmtB) (s : State) : Out := .next (brRun (.bltu e f) e f (fun a b => a.ult b) s)

/-- R129: BGEU. -/
def execBgeu (e : Eng) (f : FmtB) (s : State) : Out := .next (brRun (.bgeu e f) e f (fun a b => !a.ult b) s)

/-- R129: JMP; its register fields are unused. -/
def execJmp (e : Eng) (f : FmtB) (s : State) : Out :=
  .next (if f.sa = 0 && f.sb = 0 then brRun (.jmp e f) e f (fun _ _ => true) s
    else engRun (.jmp e f) e (fun _ _ => .trap 0x25) s)

/-- R126, R135: a word that spells no instruction traps. A word that spells one is another command. -/
def execIllegalInstruction (e : Eng) (word : Word64) (s : State) : Out :=
  .next (if (wordInstr e word).isSome then s else engRunAs none e (fun _ _ => .trap 0x25) s)

end Sys2Proof.Machine
end

