-- ==== Sys2Proof/Machine/Streams.lean ====
section
/-! DEFINITION. Bulk transfers, streams, routing and the end of a kernel (R44, R45, R47 to R53, R133, R134). -/

namespace Sys2Proof.Machine

/-! ### Bulk transfers (R133) -/

/-- Lines of a tray range that another slot of the tray holds and the window admits. -/
def remoteLines (s : State) (c : Nat) (wr : Bool) (a n : Nat) : List (Nat × Nat × Nat) :=
  (linesOf a n).filterMap (fun p => match inWindow s c wr p.1, locate s p.1 with
    | true, .remote slot => some (p.1, p.2, slot)
    | _, _ => none)

/-- The checks of an XIN or XOUT: tray address, offset and length. -/
def xferOk (x : Engine) (f : FmtX) : Bool :=
  let tray := (x.s f.sa).toNat
  let off := (x.s f.sb).toNat
  let n := (x.s f.sc).toNat
  f.sd == 0 && f.rsv == 0 && f.imm == 0 && tray % 64 == 0 && off % 64 == 0 && n % 64 == 0 && decide (64 ≤ n) && decide (n ≤ clSize) &&
  decide (off + n ≤ clSize) && decide (tray < 2 ^ 57)

/-- The transfer that an instruction starts. -/
def xferOf (x : Engine) (f : FmtX) (out : Bool) : Xfer := ⟨out, (x.s f.sb).toNat, (x.s f.sa).toNat, (x.s f.sc).toNat⟩

/-- R133: XIN. What lies in another slot of the tray is asked for at once (R167). -/
def execXin (e : Eng) (f : FmtX) (s : State) : Out :=
  .next (engRun (.xin e f) e (fun x _ =>
    let t := xferOf x f false
    if !xferOk x f then .trap 0x25
    else if 8 ≤ x.xfers.length then .stall x id
    else
      .next { x with xfers := x.xfers ++ [t] }
        (fun s => (remoteLines s x.ctx false t.tray t.len).foldl (fun s l => sendRemote x.ctx l.2.2 l.1 false [] l.2.1 (.engine (engKey e)) s) s)) s)

/-- R133, R152: XOUT. A shadow's transfer is not performed; it only enters the digest. -/
def execXout (e : Eng) (f : FmtX) (s : State) : Out :=
  .next (engRun (.xout e f) e (fun x s =>
    let t := xferOf x f true
    if !xferOk x f then .trap 0x25
    else if 8 ≤ x.xfers.length then .stall x id
    else
      let y := addRec x 4 [t.tray, t.len] (clPeek s e t.loc t.len)
      .next (if e.shadow then y else { y with xfers := y.xfers ++ [t] }) id) s)

/-- R133: XWAIT stalls until no transfer is outstanding. -/
def execXwait (e : Eng) (f : FmtX) (s : State) : Out :=
  .next (engRun (.xwait e f) e (fun x _ =>
    if f.sd ≠ 0 || f.sa ≠ 0 || f.sb ≠ 0 || f.sc ≠ 0 || f.rsv ≠ 0 || f.imm ≠ 0 then .trap 0x25
    else if x.xfers.isEmpty then .next x id else .stall x id) s)

/-- Every line that an XIN asked another module for has been answered. -/
def xinReady (s : State) (x : Engine) (t : Xfer) : Bool :=
  (remoteLines s x.ctx false t.tray t.len).all (fun l => x.answers.any (fun y => y.1 == l.1))

/-- What an XIN reads: answers where another module holds the line. -/
def xinRead (s : State) (x : Engine) (t : Xfer) : Rd :=
  (linesOf t.tray t.len).foldl (fun r p => r.append (match x.answers.find? (fun y => y.1 == p.1) with
    | some y => ⟨y.2, [], 0⟩
    | none => readPiece s x.ctx p.1 p.2)) ⟨[], [], 0⟩

/-- One line of an XOUT: a line of cluster memory that does not read back is written as poison (R172). -/
def xoutLine (e : Eng) (c loc tray : Nat) (s : State) : State :=
  if clBad s e loc 64 then poisonLine c tray s else ctxWrite c tray (clRead s e loc 64) s

/-- A transfer performed. -/
def xferDone (e : Eng) (x : Engine) (t : Xfer) (s : State) : State :=
  if t.out then
    clReport 1 e t.loc t.len ((List.range (t.len / 64)).foldl (fun s i => xoutLine e x.ctx (t.loc + 64 * i) (t.tray + 64 * i) s) s)
  else
    let r := xinRead s x t
    trayReport 1 e r (useFree (clWrite e t.loc r.bytes s))

/-! ### Slots and credits (R49 to R51) -/

/-- A sampled instance's engine, wherever it is kept. -/
def copySampled (s : State) (n t k : Nat) : Bool :=
  s.eng.any (fun x => x.1 % 2 == 0 && x.2.run == n && x.2.task == t && x.2.k == k && x.2.sampled) ||
  s.oct.any (fun x => x.2.run == n && x.2.task == t && x.2.k == k)

/-- A slot's credit is with the ring: released by the instance, and by its shadow where it has one (R152). -/
def slotAvail (sampled : Bool) : Slot → Bool
  | .free => true
  | .full _ _ _ rel => rel.testBit 0 && (!sampled || rel.testBit 1)
  | _ => false

/-- Slots of a consumer cluster's ring whose credit can be granted. -/
def freeSlots (s : State) (n : Nat) (r : Run) (ed : Edge) (i c : Nat) : List Nat :=
  let sm := copySampled s n ed.dst c
  (List.range ed.credits).filter (fun j => slotAvail sm (sget .free (streamOf r i).slots (c * 256 + j)))

/-- A slot's content set. -/
def Stream.setSlot (x : Stream) (c j : Nat) (v : Slot) : Stream := { x with slots := sset .free x.slots (c * 256 + j) v }

/-- A waiting request still needs a credit of a consumer. -/
def needs (c : Nat) (q : SendReq) : Bool := q.dests.contains c && !q.granted.any (fun g => g.1 == c)

/-- A credit given to the first request that needs one; which slot it is, is a free value. -/
def giveCredit (c j : Nat) : List SendReq → List SendReq
  | [] => []
  | q :: l => if needs c q then { q with granted := q.granted ++ [(c, j)] } :: l else q :: giveCredit c j l

/-- R49: one credit of a consumer granted to the next waiting request in arrival order. -/
def grantOne (n i c : Nat) (s : State) : State :=
  match run? s n with
  | none => s
  | some r =>
    match (runGraph s r).edges[i]? with
    | none => s
    | some ed =>
      let st := streamOf r i
      let free := freeSlots s n r ed i c
      if free.isEmpty || !st.waiting.any (needs c) then s
      else
        let j := free.getD (Config.slotPick s.free free.length % free.length) 0
        useFree (setRun n (r.setStream i ({ st with waiting := giveCredit c j st.waiting }.setSlot c j .granted)) s)

/-- A request made, and the credits it can have at once. -/
def askCredits (n i p : Nat) (dests : List Nat) (s : State) : State :=
  dests.foldl (fun s c => grantOne n i c s)
    (modRun n (fun r => r.setStream i { streamOf r i with waiting := (streamOf r i).waiting ++ [⟨p, dests, []⟩] }) s)

/-- The waiting request of a producer cluster. -/
def myReq (s : State) (n i p : Nat) : Option SendReq := (run? s n).bind (fun r => (streamOf r i).waiting.find? (fun q => q.p == p))

/-- Every credit of a request is granted. -/
def allGranted (q : SendReq) : Bool := q.dests.all (fun c => q.granted.any (fun g => g.1 == c))

/-- R49, Table 2.10: the consumer clusters of a tile; none where SELECT names one that does not exist. -/
def destsOf (g : Graph) (ed : Edge) (p sn sel : Nat) : Option (List Nat) :=
  let n := taskSize g ed.dst
  if ed.mode = 0 then some [p]
  else if ed.mode = 1 then some [(p + sn) % n]
  else if ed.mode = 2 then some (List.range n)
  else if sel < n then some [sel] else none

/-- The tile of a request on its way: the slots it was granted. -/
def sendTile (n i p : Nat) (t : Tile) (s : State) : State :=
  match run? s n with
  | none => s
  | some r =>
    let g := runGraph s r
    let st := streamOf r i
    match st.waiting.find? (fun q => q.p == p), g.edges[i]? with
    | some q, some ed =>
      let st1 := q.granted.foldl (fun (st : Stream) gr => { st.setSlot gr.1 gr.2 (.coming t) with flying := st.flying ++ [gr] })
        { st with waiting := st.waiting.filter (fun y => y.p != p), used := true }
      let r1 := r.setStream i st1
      progress n (setRun n (if ed.kind = 2 then countEdge g r1 ed i else r1) s)
    | _, _ => s

/-! ### Receiving (R50, R51, R134) -/

/-- Bit of an engine in a slot's received and released sets. -/
def whoBit (e : Eng) : Nat := if e.shadow then 2 else 1

/-- Tiles that an engine may still receive on an edge: (arrival order, slot). -/
def readySlots (r : Run) (e : Eng) (k i : Nat) (credits : Nat) : List (Nat × Nat) :=
  (List.range credits).filterMap (fun j => match sget .free (streamOf r i).slots (k * 256 + j) with
    | .full _ o got _ => if got &&& whoBit e = 0 then some (o, j) else none
    | _ => none)

/-- A slot is reserved or a tile is on its way. -/
def comingSlot : Slot → Bool
  | .coming _ | .granted => true
  | _ => false

/-- R51: end of stream on an edge at a consumer cluster: every producer has closed and no tile is left for the engine. -/
def edgeEnded (g : Graph) (r : Run) (e : Eng) (k i : Nat) (ed : Edge) : Bool :=
  edgeClosed g r ed i && (readySlots r e k i ed.credits).isEmpty &&
  (List.range ed.credits).all (fun j => !comingSlot (sget .free (streamOf r i).slots (k * 256 + j)))

/-- The header of Table 6.10. -/
def tileHeader (port : Nat) (t : Tile) : Word64 :=
  BitVec.ofNat 64 (pack [(32, 32, t.s), (16, 16, t.p), (12, 4, port), (0, 12, t.data.length / 64)])

/-- Receiving on a set of edges: the earliest tile, end of stream, or a stall. -/
def recvRun (e : Eng) (x : Engine) (s : State) (sd : BitVec 5) (es : List (Edge × Nat)) : EStep :=
  match x.runOf s with
  | none => .stall x id
  | some r =>
    let g := runGraph s r
    let cand := es.flatMap (fun y => (readySlots r e x.k y.2 y.1.credits).map (fun z => (z.1, z.2, y)))
    let first := cand.foldl (fun (b : Option (Nat × Nat × Edge × Nat)) c => match b with
      | none => some c
      | some d => if c.1 < d.1 then some c else some d) none
    match first with
    | some (_, j, ed, i) =>
      match sget .free (streamOf r i).slots (x.k * 256 + j) with
      | .full t o got rel =>
        let y := (x.setS sd (BitVec.ofNat 64 (ed.bufOff + j * ed.slotBytes))).setS (sd + 1) (tileHeader ed.dstPort t)
        .next { y with held := y.held ++ [(i, j)] }
          (modRun x.run (fun r => r.setStream i ((streamOf r i).setSlot x.k j (.full t o (got ||| whoBit e) rel))))
      | _ => .stall x id
    | none =>
      if es.all (fun y => edgeEnded g r e x.k y.2 y.1) then
        .next ((x.setS sd (BitVec.allOnes 64)).setS (sd + 1) 0) id
      else .stall x id

/-- R134: TRECV. -/
def recvOne (e : Eng) (f : FmtX) (s : State) : State :=
  engRun (.trecv e f) e (fun x s =>
    if 30 < f.sd.toNat || 15 < f.imm.toNat || f.sa ≠ 0 || f.sb ≠ 0 || f.sc ≠ 0 || f.rsv ≠ 0 then .trap 0x25
    else
      match x.inPort s f.imm.toNat with
      | none => .trap 0x25
      | some y => recvRun e x s f.sd [y]) s

/-- R134: TRECVA. -/
def recvAny (e : Eng) (f : FmtX) (s : State) : State :=
  engRun (.trecva e f) e (fun x s =>
    let ports := (List.range 16).filter (fun p => (x.s f.sa).getLsbD p)
    let es := ports.filterMap (fun p => x.inPort s p)
    if 30 < f.sd.toNat || f.imm ≠ 0 || f.sb ≠ 0 || f.sc ≠ 0 || f.rsv ≠ 0 || ports.isEmpty || es.length ≠ ports.length then .trap 0x25
    else recvRun e x s f.sd es) s

/-- R134: TRECV waits for a tile on an input port. -/
def execTrecv (e : Eng) (f : FmtX) (s : State) : Out := .next (recvOne e f s)

/-- R134: TRECVA takes the earliest tile among the named ports. -/
def execTrecva (e : Eng) (f : FmtX) (s : State) : Out := .next (recvAny e f s)

/-- Engines of a run that are stalled in a receive try again. -/
def wakeRecv (n : Nat) (s : State) : State :=
  s.eng.foldl (fun s y => if y.2.run ≠ n then s else match y.2.stall with
    | some (.trecv e f) => recvOne e f s
    | some (.trecva e f) => recvAny e f s
    | _ => s) s

/-- R134, R152: TREL releases a slot that the engine holds; its credit returns when the instance and its shadow have both released it. -/
def execTrel (e : Eng) (f : FmtX) (s : State) : Out :=
  .next (engRun (.trel e f) e (fun x s =>
    let off := (x.s f.sa).toNat
    let hit := x.held.find? (fun h => ((x.graphOf s).edges[h.1]?).elim false (fun ed => ed.bufOff + h.2 * ed.slotBytes == off))
    if f.sd ≠ 0 || f.sb ≠ 0 || f.sc ≠ 0 || f.rsv ≠ 0 || f.imm ≠ 0 then .trap 0x25
    else
      match hit with
      | none => .trap 0x25
      | some h =>
        .next { x with held := x.held.erase h } (fun s =>
          modRun x.run (fun r =>
            let st := streamOf r h.1
            match sget .free st.slots (x.k * 256 + h.2) with
            | .full t o got rel =>
              let rel' := rel ||| whoBit e
              r.setStream h.1 (st.setSlot x.k h.2 (if rel' = 3 || !x.sampled then .free else .full t o got rel'))
            | _ => r) s)) s)

/-! ### Sending (R49, R52, R134) -/

/-- The record of a tile sent: port or route (with bit 8), consumer, sequence number, length and payload (R153). -/
def sendRec (x : Engine) (where_ : Nat) (ed : Edge) (dests : List Nat) (sn : Nat) (b : List Byte) : Engine :=
  addRec x 1 [where_, if ed.mode = 2 then 0xFFFF else dests.headD 0, sn, b.length] b

/-- A tile sent on an edge, from cluster memory: `close` is what follows it on the engine and in the run. -/
def sendRun (e : Eng) (x : Engine) (s : State) (where_ : Nat) (ed : Edge) (i src len sel : Nat) (close : Engine → Engine)
    (after : State → State) : EStep :=
  let sn := sget 0 x.sent i
  match destsOf (x.graphOf s) ed x.k sn sel with
  | none => .trap 0x23
  | some dests =>
    let b := clPeek s e src len
    let y := close { sendRec x where_ ed dests sn b with sent := sset 0 x.sent i (sn + 1) }
    let go := fun (s : State) => after (clReport 1 e src len (sendTile x.run i x.k ⟨x.k, sn, b⟩ s))
    if e.shadow then .next y (clReport 1 e src len)
    else
      match myReq s x.run i x.k with
      | some q => if allGranted q then .next y go else .stall x id
      | none =>
        let s1 := askCredits x.run i x.k dests s
        if (myReq s1 x.run i x.k).elim false allGranted then .next y (fun s => go (askCredits x.run i x.k dests s))
        else .stall x (askCredits x.run i x.k dests)

/-- A length that a send may have. -/
def lenOk (len slot : Nat) : Bool := len != 0 && len % 64 == 0 && decide (len ≤ slot)

/-- R134, R135: TSEND. -/
def execTsend (e : Eng) (f : FmtX) (s : State) : Out :=
  .next (engRun (.tsend e f) e (fun x s =>
    let src := (x.s f.sa).toNat
    let len := (x.s f.sb).toNat
    if f.sd ≠ 0 || f.rsv ≠ 0 || 15 < f.imm.toNat then .trap 0x25
    else
      match x.outPort s f.imm.toNat with
      | none => .trap 0x24
      | some (ed, i) =>
        if x.closedPorts.contains f.imm.toNat then .trap 0x24
        else if src % 64 ≠ 0 || !lenOk len ed.slotBytes || clSize < src + len then .trap 0x25
        else sendRun e x s f.imm.toNat ed i src len (x.s f.sc).toNat id id) s)

/-! ### Closing (R51, R53) -/

/-- A producer cluster's side of an edge closes; a route that has closed counts once (R42). -/
def closeEdge (n i k : Nat) (s : State) : State :=
  match run? s n with
  | none => s
  | some r =>
    let g := runGraph s r
    match g.edges[i]? with
    | none => s
    | some ed =>
      let st := streamOf r i
      let r1 := r.setStream i { st with closedBy := if st.closedBy.contains k then st.closedBy else st.closedBy ++ [k] }
      progress n (setRun n (if ed.kind = 2 && edgeClosed g r1 ed i then countEdge g r1 ed i else r1) s)

/-- The close of ports and routes on the engine: those not closed before enter the digest. Routes carry bit 8. -/
def noteClose (x : Engine) (l : List Nat) : Engine :=
  l.foldl (fun x w =>
    if w < 256 then (if x.closedPorts.contains w then x else addRec { x with closedPorts := x.closedPorts ++ [w] } 3 [w] [])
    else if x.closedRoutes.contains (w - 256) then x
    else addRec { x with closedRoutes := x.closedRoutes ++ [w - 256] } 3 [w] []) x

/-- The edge of a port or route. -/
def closeIdx (x : Engine) (s : State) (w : Nat) : Option Nat :=
  (if w < 256 then x.outPort s w else x.routeEdge s (w - 256)).map Prod.snd

/-- The same in the run; a shadow's closes are not performed. -/
def doClose (e : Eng) (x : Engine) (l : List Nat) (s : State) : State :=
  if e.shadow then s
  else wakeRecv x.run (l.foldl (fun s w => match closeIdx x s w with | some i => closeEdge x.run i x.k s | none => s) s)

/-- Every output port or route of an engine's task. -/
def allOuts (x : Engine) (s : State) : List Nat :=
  (outEdges (x.graphOf s) x.task).filterMap (fun y => if y.1.kind = 1 then some y.1.srcPort else if y.1.kind = 2 then some (256 + y.1.route) else none)

/-- What a routing tag closes after its tile. -/
def tagCloses (x : Engine) (s : State) (tag : Nat) : List Nat :=
  if tag.testBit 9 then (allOuts x s).filter (fun w => decide (256 ≤ w)) else if tag.testBit 8 then [256 + tag % 64] else []

/-- R52, R134, R135: TRSEND. -/
def execTrsend (e : Eng) (f : FmtX) (s : State) : Out :=
  .next (engRun (.trsend e f) e (fun x s =>
    let src := (x.s f.sa).toNat
    let tag := (x.s f.sb).toNat % 2 ^ 32
    if f.sd ≠ 0 || f.rsv ≠ 0 || f.imm ≠ 0 || bits tag 10 6 ≠ 0 || tag.testBit 6 then .trap 0x25
    else
      match x.routeEdge s (tag % 64) with
      | none => .trap 0x21
      | some (ed, i) =>
        let len := if tag / 65536 = 0 then ed.slotBytes else 64 * (tag / 65536)
        let cl := tagCloses x s tag
        if x.closedRoutes.contains (tag % 64) then .trap 0x24
        else if src % 64 ≠ 0 || !lenOk len ed.slotBytes || clSize < src + len then .trap 0x25
        else if tag.testBit 7 then
          .next (noteClose (addRec x 2 [tag] []) cl) (fun s =>
            doClose e x cl (if e.shadow then s else modRun x.run (fun r => { r with dropped := r.dropped + 1 }) s))
        else sendRun e x s (256 + tag % 64) ed i src len (x.s f.sc).toNat (fun y => noteClose y cl) (doClose e x cl)) s)

/-- R134, R135: TCLOSE. -/
def execTclose (e : Eng) (f : FmtX) (s : State) : Out :=
  .next (engRun (.tclose e f) e (fun x s =>
    let imm := f.imm.toNat
    let w := if imm.testBit 7 then 256 + imm % 64 else imm
    if f.sd ≠ 0 || f.sa ≠ 0 || f.sb ≠ 0 || f.sc ≠ 0 || f.rsv ≠ 0 || (if imm.testBit 7 then imm.testBit 6 else decide (15 < imm)) then .trap 0x25
    else if (closeIdx x s w).isNone then .trap (if imm.testBit 7 then 0x21 else 0x24)
    else .next (noteClose x [w]) (doClose e x [w])) s)

/-! ### END (R47, R113, R133) -/

/-- A slot at an ended kernel that its engine has not released. -/
def unreleased (e : Eng) : Slot → Bool
  | .full _ _ _ rel => rel &&& whoBit e == 0
  | _ => false

/-- R47: tiles unreleased, or a producer that has not closed. -/
def undrained (x : Engine) (e : Eng) (s : State) : Bool :=
  match x.runOf s with
  | none => false
  | some r =>
    let g := runGraph s r
    (inEdges g x.task).any (fun y => y.1.data && (!edgeClosed g r y.1 y.2 ||
      (List.range y.1.credits).any (fun j => unreleased e (sget .free (streamOf r y.2).slots (x.k * 256 + j)))))

/-- The end instruction: it waits for MTX operations and transfers, closes every output, and ends the kernel. -/
def endRun_ (e : Eng) (f : FmtSI) (s : State) : State :=
  engRun (.endKernel e f) e (fun x s =>
    if f.sd ≠ 0 || f.sa ≠ 0 || f.rsv ≠ 0 || f.imm ≠ 0 then .trap 0x25
    else if !x.xfers.isEmpty || (List.range 64).any (fun c => !(coreOf s e c).queue.isEmpty) then .stall x id
    else if undrained x e s then .trap 0x22
    else
      let outs := allOuts x s
      .jump { noteClose x outs with ended := true } x.pc) s

/-- R45, R47, R113, R133: END. -/
def endKernelRun (e : Eng) (f : FmtSI) (s : State) : State :=
  let s1 := endRun_ e f s
  match eng? s e, eng? s1 e with
  | some x, some y => if !x.ended && y.ended && y.trap.isNone then doClose e y (allOuts y s1) s1 else s1
  | _, _ => s1

/-- R125: END ends the kernel. -/
def execEndKernel (e : Eng) (f : FmtSI) (s : State) : Out := .next (endKernelRun e f s)

end Sys2Proof.Machine
end

