-- ==== Sys2Proof/Machine/Octave.lean ====
section
/-! DEFINITION. What an engine waits for: arrivals, credits, completions of transfers and tile multiplies; tasks that start and complete; the
Octave check (R43, R45, R47, R49, R151 to R157). -/

namespace Sys2Proof.Machine

/-! ### Stalled instructions -/

/-- The next state that a meaning answers. -/
def nextOf (s : State) : Out → State
  | .next t => t
  | _ => s

/-- An instruction that can stall, run again. -/
def runStalled (i : Instr) (s : State) : State :=
  match i with
  | .mtxMma e f => nextOf s (execMtxMma e f s)
  | .mtxStore e f => nextOf s (execMtxStore e f s)
  | .mtxLoad e f => nextOf s (execMtxLoad e f s)
  | .mtxCsload e f => nextOf s (execMtxCsload e f s)
  | .mtxWait e f => nextOf s (execMtxWait e f s)
  | .xin e f => nextOf s (execXin e f s)
  | .xout e f => nextOf s (execXout e f s)
  | .xwait e f => nextOf s (execXwait e f s)
  | .trecv e f => recvOne e f s
  | .trecva e f => recvAny e f s
  | .tsend e f => nextOf s (execTsend e f s)
  | .trsend e f => nextOf s (execTrsend e f s)
  | .endKernel e f => endKernelRun e f s
  | .sld e f => nextOf s (execSld e f s)
  | _ => s

/-- An engine tries its stalled instruction again. -/
def retry (e : Eng) (s : State) : State :=
  match (eng? s e).bind (·.stall) with
  | some i => runStalled i s
  | none => s

/-! ### Tasks -/

/-- R43: the dispatcher starts a task. -/
def execTaskStart (ctx run task : Nat) (s : State) : Out :=
  .next (if runIs s ctx run then wakeRecv run (startTask run task s) else s)

/-- R45: a task completes. -/
def execTaskCompletion (ctx run task : Nat) (s : State) : Out :=
  .next (if runIs s ctx run then wakeRecv run (completeTask run task s) else s)

/-! ### Arrivals and credits (R44, R47, R49, R50) -/

/-- The tiles of a run in flight: edge, consumer cluster, slot. -/
def inFlight (r : Run) : List (Nat × Nat × Nat) := r.streams.flatMap (fun x => x.2.flying.map (fun y => (x.1, y.1, y.2)))

/-- The tile in a slot. -/
def slotTile : Slot → Option Tile
  | .coming t => some t
  | .full t _ _ _ => some t
  | _ => none

/-- R50: tiles of one producer cluster on one edge arrive in the order sent: the one that arrives is the first of its producer's. -/
def arriving (r : Run) (tile : Nat) : Option (Nat × Nat × Nat × Tile) :=
  match (inFlight r)[tile]? with
  | none => none
  | some (i, c, j) =>
    let st := streamOf r i
    match slotTile (sget .free st.slots (c * 256 + j)) with
    | none => none
    | some t =>
      (st.flying.find? (fun y => (slotTile (sget .free st.slots (y.1 * 256 + y.2))).elim false (fun u => u.p == t.p))).bind (fun y =>
        (slotTile (sget .free st.slots (y.1 * 256 + y.2))).map (fun u => (i, y.1, y.2, u)))

/-- The engine of a running task's cluster, by region index. -/
def copyOf (s : State) (n t k : Nat) : Option (Nat × Engine) :=
  s.eng.find? (fun x => x.1 % 2 == 0 && x.2.run == n && x.2.task == t && x.2.k == k)

/-- A tile arrives at its consumer cluster: stored in its slot, and in the shadow's ring; or discarded where the consumer has ended or was
skipped. A tile whose consumer has not started stays on its way. -/
def tileIn (n tile : Nat) (s : State) : State :=
  match run? s n with
  | none => s
  | some r =>
    match arriving r tile with
    | none => s
    | some (i, c, j, t) =>
      let g := runGraph s r
      match g.edges[i]? with
      | none => s
      | some ed =>
        let st := streamOf r i
        let st1 := { st with flying := st.flying.erase (c, j) }
        match copyOf s n ed.dst c, taskSt r ed.dst with
        | some (k, x), _ =>
          if x.ended then setRun n ({ r with discarded := r.discarded + 1 }.setStream i (st1.setSlot c j .free)) s
          else
            let e := engOfKey k
            let off := ed.bufOff + j * ed.slotBytes
            let s1 := clWrite e off t.data s
            let s2 := if (eng? s (twinEng e)).isSome then clWrite (twinEng e) off t.data s1 else s1
            let s3 := setRun n (r.setStream i (st1.setSlot c j (.full t s.gr.arrivals 0 0)))
              { s2 with gr := { s2.gr with arrivals := s2.gr.arrivals + 1 } }
            retry (twinEng e) (retry e s3)
        | none, .waiting => s
        | none, _ => setRun n ({ r with discarded := r.discarded + 1 }.setStream i (st1.setSlot c j .free)) s

/-- R50: a tile in flight arrives. -/
def execTileArrival (ctx run tile : Nat) (s : State) : Out := .next (if runIs s ctx run then tileIn run tile s else s)

/-- A credit granted, and the sender that has all it asked for goes on. -/
def creditIn (n i c : Nat) (s : State) : State :=
  let s1 := grantOne n i c s
  match run? s1 n with
  | none => s1
  | some r =>
    match (streamOf r i).waiting.find? allGranted, (runGraph s1 r).edges[i]? with
    | some q, some ed => (copyOf s1 n ed.src q.p).elim s1 (fun x => retry (engOfKey x.1) s1)
    | _, _ => s1

/-- R49: a returned credit is granted to the next waiting request of a consumer's ring. -/
def execCreditGrant (ctx run edge consumer : Nat) (s : State) : Out :=
  .next (if runIs s ctx run then creditIn run edge consumer s else s)

/-! ### Completions -/

/-- R106: the tile multiply at the head of a core's queue completes. -/
def execMmaComplete (e : Eng) (core : Nat) (acc : List AccFault) (dup : List DupFault) (parity : List (Nat × Word32)) (cond : Cond)
    (s : State) : Out :=
  .next (if (eng? s e).isNone || 64 ≤ core then s
    else
      match (coreOf s e core).queue with
      | .mma d :: q => retry e (mmaDone e core d q acc dup parity cond s)
      | _ => s)

/-- R133: the n-th outstanding transfer of an engine completes. One that waits for another module's answer does not. -/
def execTransferComplete (e : Eng) (n : Nat) (s : State) : Out :=
  .next (match eng? s e with
    | none => s
    | some x =>
      match x.xfers[n]? with
      | none => s
      | some t =>
        if !t.out && !xinReady s x t then s
        else
          let used := if t.out then [] else (remoteLines s x.ctx false t.tray t.len).map (·.1)
          let y := { x with xfers := x.xfers.eraseIdx n, answers := x.answers.filter (fun a => !used.contains a.1) }
          retry e (xferDone e x t (setEng e y s)))

/-! ### The Octave comparison (R154, R156, Table 6.17) -/

/-- The sampled instance whose comparison is to be made: running, or kept after its task completed. -/
def sampledOf (s : State) (e : Eng) : Option Engine :=
  match eng? s e with
  | some x => if x.sampled then some x else sget? s.oct (engKey e)
  | none => sget? s.oct (engKey e)

/-- The comparison of an instance is over: its shadow is gone, and a run that waited for it may complete. -/
def octClose (e : Eng) (s : State) : State := sweepRuns 64 (dropShadow e s)

/-- The record of Table 6.17. -/
def octRecord (s : State) (e : Eng) (x y : Engine) (cause : Nat) (a b : Cond) : Nat :=
  let r := x.runOf s
  let dets := fun (p : Nat) => satTo 8 (sget 0 s.sp.dets (islKey e.die p))
  pack [(0, 16, r.elim 0 (·.graph)), (16, 16, x.task), (32, 8, (x.taskOf s).elim 0 (·.cls)), (40, 8, x.ldie), (48, 8, x.logCl s % 64),
    (56, 8, x.logCl s / 64), (64, 8, e.die), (72, 8, cause), (80, 16, x.phys), (96, 16, y.phys), (112, 16, r.elim 0 (·.mb)),
    (128, 16, a.tj.toNat), (144, 16, a.mv.toNat), (160, 16, a.mhz.toNat), (176, 16, b.tj.toNat), (192, 16, b.mv.toNat), (208, 16, b.mhz.toNat),
    (224, 8, dets x.phys), (232, 8, dets y.phys)]

/-- An Octave failure: events, counts and records as for a detection, both islands' sets, the instance's cluster to be substituted, and in a
step the step fault, before which a GRAPH_FAULT is withdrawn. -/
def octFail (e : Eng) (x y : Engine) (cause : Nat) (a b : Cond) (s : State) : State :=
  let cls := (x.taskOf s).elim 0 (·.cls)
  let i := islKey e.die x.phys
  let j := islKey e.die y.phys
  let s1 := bumpDets j (bumpDets i s)
  let det := octRecord s1 e x y cause a b
  let s2 := almDetection 0x0601 (0x10 + e.die) x.ctx det (raiseBoth 0x0601 (0x10 + e.die) x.ctx det s1)
  let s3 := healthLog 1 1 (rflag .cdieVecStatus_failSeen e.die (count1 .cdieVecOctaveFailCount_count e.die s2))
  let s4 := corrDetect j ⟨cls, b.tj.toInt, b.mv.toNat, b.mhz.toNat, s.alm.hours⟩
    (corrDetect i ⟨cls, a.tj.toInt, a.mv.toNat, a.mhz.toNat, s.alm.hours⟩ s3)
  let s5 := askSubst ⟨e.die, x.phys, none, 1, 1⟩ (dropShadow e s4)
  match run? s5 x.run with
  | some r =>
    if r.stepFlag && !r.replied then stepFault r.ctx r.mb (match eng? s5 e with | some z => setEng e { z with bad := true } s5 | none => s5)
    else sweepRuns 64 s5
  | none => s5

/-- R154: the comparison of a sampled instance with its shadow, when both runs have ended. -/
def execOctaveCompare (e : Eng) (cond shadowCond : Cond) (s : State) : Out :=
  .next (if e.shadow then s
    else
      match sampledOf s e, eng? s (twinEng e) with
      | some x, some y =>
        if !x.ended || !y.ended then s
        else
          let cause := pack [(0, 1, b2n (x.digest != y.digest)), (1, 1, b2n (x.recs != y.recs)), (2, 1, b2n (x.trap != y.trap))]
          if cause = 0 || (x.trap.isSome && x.trap == y.trap) then octClose e s
          else octFail e x y cause cond shadowCond s
      | _, _ => s)

/-- R154: the shadow has not ended 1 ms after its instance: it is stopped, no comparison is made, the skip count rises. -/
def execShadowTimeout (e : Eng) (s : State) : Out :=
  .next (if e.shadow then s
    else
      match sampledOf s e, eng? s (twinEng e) with
      | some x, some y => if x.ended && !y.ended then octClose e (count1 .cdieVecOctaveSkipCount_count e.die s) else s
      | _, _ => s)

/-- R157: a write of CDIE_VEC_OCTAVE_CTL by PF 0; values other than 0 and 3 to 6 are ignored. -/
def execCdieVecOctaveCtl (fn die : Nat) (value : BitVec 32) (s : State) : Out :=
  .next (
    let v := value.toNat % 16
    let s := dropLatch fn s
    if notServed s fn || 8 ≤ die || !([0, 3, 4, 5, 6].contains v) || rget s .cdieVecOctaveCtl_rateLog2 die = v then s
    else
      let s1 := rset .cdieVecOctaveCtl_rateLog2 die v s
      raise0 0x0602 (0x10 + die) (pack [(0, 8, die), (8, 8, v)]) (if v = 0 then rflag .cdieVecStatus_offSeen die s1 else s1))

end Sys2Proof.Machine
end

