-- ==== Sys2Proof/Machine/Teardown.lean ====
section
/-! DEFINITION. Removal of a context's work, teardown, sweep tokens, quarantine, disables, resets and the Vigil (ch. 16). -/

namespace Sys2Proof.Machine

/-! ### Accesses that a change of mapping waits for (R166, R171) -/

/-- The next transfer of an engine that can complete and for which `p` holds. -/
def readyXfer (s : State) (p : Xfer → Bool) (x : Engine) : Option Nat := x.xfers.findIdx? (fun t => p t && (t.out || xinReady s x t))

/-- Transfers of an engine that can complete, completed in order. -/
def drainEngine (p : Xfer → Bool) (k : Nat) : Nat → State → State
  | 0, s => s
  | n + 1, s =>
    match (sget? s.eng k).bind (readyXfer s p) with
    | some i => drainEngine p k n (nextOf s (execTransferComplete (engOfKey k) i s))
    | none => s

/-- Outstanding transfers of engines that can complete do so: those of a context, or all where none is given. -/
def drainXfers (c : Option Nat) (p : Xfer → Bool) (s : State) : State :=
  ((s.eng.filter (fun x => c.elim true (fun c => x.2.ctx == c))).map Prod.fst).foldl (fun s k => drainEngine p k 64 s) s

/-- R171: once every access issued before a WINDOW_SET has completed under the old window, the new one is in force. -/
def windowCheck (c : Nat) (s : State) : State :=
  match (ctx? s c).bind (·.newWin) with
  | none => s
  | some (w, tags) =>
    if tags.any (fun t => (sget? s.vig.remote t).isSome) then s
    else
      let s1 := drainXfers (some c) (fun _ => true) s
      finishWaits (fun r => r.wait == .windowDrain c) stOk (fun _ => 0) (modCtx c (fun x => { x with window := w, newWin := none }) s1)

/-- A store to another slot is acknowledged, or given up: a command that waited for the last of its own completes (R167). -/
def storeDone (tag : Nat) (s : State) : State :=
  setJournal (s.ctl.journal.map (fun r =>
    match r.wait with
    | .stores l =>
      let l' := l.filter (fun t => t != tag)
      if r.state ≠ .issued then r else if l'.isEmpty then replyOf s stOk 0 r else { r with wait := .stores l' }
    | _ => r)) s

/-- A record that waits for stores to other slots. -/
def waitsStores (r : Rec) : Bool := match r.wait with | .stores _ => true | _ => false

/-! ### Removal (R393, R394, R398) -/

/-- The generation of a context advances by one, modulo 256 (R402). -/
def bumpGen (c : Nat) (s : State) : State := { s with ctl := { s.ctl with gens := sset 0 s.ctl.gens c ((genOf s c + 1) % 256) } }

/-- A context's work leaves every engine: runs, transfers, remote requests, chunks, Harvest reads. A generation that it was writing is
written again from its start (Table 13.3). -/
def stopWork (c : Nat) (s : State) : State :=
  let s1 := removeRuns (fun r => r.ctx == c) s
  let again := fun (h : HShard) => { h with wrote := [], fails := [] }
  let har := s1.har.map (fun x => if x.1 = c then (x.1, { x.2 with gen := x.2.gen.map (fun g => { g with own := again g.own, twin := g.twin.map again }) }) else x)
  windowCheck c <| modStep c (fun x => { x with staged := [] })
    { s1 with har := har, vig := { s1.vig with remote := s1.vig.remote.filter (fun x => x.2.ctx != c) } }

/-- R400, R401: sweep tokens to the touch set of a context. -/
def sendTokens (c : Nat) (s : State) : State :=
  (sget [] s.vig.touch c).foldl (fun s p =>
    emit (.vc7 "SWEEP" p [ownRoster s, c, genOf s c])
      { s with vig := { s.vig with tokens := s.vig.tokens.filter (fun t => !(t.1 == p && t.2.1 == c)) ++ [(p, c, genOf s c, false)] } })
    { s with vig := { s.vig with touch := sset [] s.vig.touch c [] } }

/-- R398: what a recovery does for the commands of a context. `big` is a module reset: a sealed step asks for its commit record. -/
def recover (big : Bool) (c : Nat) (s : State) : State :=
  let s0 := mapRecs (fun r => r.ctx == c && r.state == .issued && waitsStores r) reIssue s
  let s1 := mapRecs (fun r => r.ctx == c && !stepFlag r && r.state == .issued && (r.opcode == 0x22 || (big && r.opcode == 0x41))) reIssue s0
  let x := stepOf s1 c
  if !stepOpenSt s1 c then s1
  else if x.xch.isSome then abort3 c (ownRoster s1) s1
  else if stepSt s1 c = 2 then updFault c 0 s1
  else if stepSt s1 c = 3 then
    (if big then emit (.vc7 "COMMIT_ASK" (mySteward s1) [ownRoster s1, c, stepNo s1 c, rget s1 .stepCtxAttempt_attempt c])
        (modStep c (fun x => { x with askCommit := true }) s1) else s1)
  else if sget 0 x.mbRuns x.mbDone.length = 0 then s1
  else stepFault c x.mbDone.length s1

/-! ### Teardown (R402 to R404) -/

/-- The engines that acknowledge a removal: dispatcher and command processor of C-die d (d), and the collective (16 + m), mirror (20 + m)
and Harvest (24 + m) engines of F-die m. -/
def enginesOf (s : State) (c : Nat) : List Nat :=
  let fs := fDies (ctxDies s c)
  ctxDies s c ++ fs.map (16 + ·) ++ fs.map (20 + ·) ++ fs.map (24 + ·)

/-- Queues of a context. -/
def ctxQueues (s : State) (c : Nat) : List Nat := (s.ctl.queues.filter (fun kq => kq.2.ctx == c)).map Prod.fst

/-- Every queue of a context changed. -/
def modQueues (c : Nat) (f : Queue → Queue) (s : State) : State := (ctxQueues s c).foldl (fun s q => modQueue q f s) s

/-- Replies of a context's queues written in order, as far as they can be. -/
def flushReplies (c : Nat) (s : State) : State :=
  (s.ctl.journal.filter (fun r => r.ctx == c)).foldl (fun s r => replyOne r.q s) s

/-- Every accepted, uncompleted command of a context for which `p` holds takes a status. -/
def abortRecs (c st : Nat) (p : Rec → Bool) (s : State) : State :=
  setJournal (s.ctl.journal.map (fun r => if r.ctx = c && p r then replyOf s st 0 r else r)) s

/-- The number of commands of a context that are accepted and not completed, but for those that are only run again. -/
def openCount (s : State) (c : Nat) (p : Rec → Bool) : Nat :=
  (s.ctl.journal.filter (fun r => r.ctx == c && openRec r && r.again.isNone && p r)).length

/-- An open step of a context takes a level-4 abort, as STEP_ABORT does. -/
def dropStep (c : Nat) (s : State) : State :=
  if !stepOpenSt s c then s
  else abort4 c (ownRoster s) (emit (.vc7 "STEP_ABORT" (mySteward s) [ownRoster s, c, stepNo s c]) s)

/-- Nothing remains of a context (Table 16.4). A number that is quarantined keeps its queues, in state 5. -/
def dropCtx (c : Nat) (quar : Bool) (s : State) : State :=
  let queues := if quar then s.ctl.queues.map (fun x => if x.2.ctx = c then (x.1, { x.2 with state := .quarantined, fetched := [] }) else x)
    else s.ctl.queues.filter (fun x => x.2.ctx != c)
  let regs := [Fld.stepCtxState_level, .stepCtxState_sameTray, .stepCtxState_mirrored, .stepCtxState_agreed, .stepCtxState_rot, .stepCtxState_state,
    .stepCtxStep_step, .stepCommitSeq_seq, .stepCtxCommitted_step, .stepCtxAttempt_attempt]
  let s1 := { s with ctl := { s.ctl with ctxs := sdel s.ctl.ctxs c, queues := queues, journal := s.ctl.journal.filter (fun r => r.ctx != c) },
                     gr := { s.gr with graphs := s.gr.graphs.filter (fun x => x.1 / 65536 != c) }, st := sdel s.st c, har := sdel s.har c,
                     pow := { s.pow with gone := s.pow.gone + sget 0 s.pow.charge c, charge := sdel s.pow.charge c } }
  regs.foldl (fun s f => rset f c 0 s) s1

/-- A bit of VIGIL_QUARANTINE set or cleared. -/
def setQuar (c : Nat) (on : Bool) (s : State) : State :=
  let v := rget s .vigilQuarantine_ctx (c / 64)
  rset .vigilQuarantine_ctx (c / 64) (if on then v ||| 2 ^ (c % 64) else v - (v &&& 2 ^ (c % 64))) s

/-- Tokens of a context that are out. -/
def tokensOf (s : State) (c : Nat) : List (Nat × Nat × Nat × Bool) := s.vig.tokens.filter (fun t => t.2.1 == c)

/-- Table 16.3, step 7. -/
def endTeardown (c : Nat) (quar : Bool) (s : State) : State :=
  match (ctx? s c).bind (·.teardown) with
  | none => s
  | some t =>
    let g := genOf s c
    if t.kind = .destroy then
      finishWaits (fun r => r.wait == .teardown c) stOk (fun _ => pack [(0, 8, g), (8, 1, b2n quar)]) (dropCtx c quar s)
    else
      finishWaits (fun r => r.wait == .teardown c) stOk (fun _ => 0)
        (modQueues c (fun x => { x with state := .active, heldReason := 0 }) (modCtx c (fun x => { x with teardown := none, held := false }) s))

/-- The teardown of a context ends once every token is back. -/
def tearCheck (c : Nat) (s : State) : State :=
  if (ctx? s c).elim false (fun x => x.teardown.elim false (fun t => t.acks.isEmpty)) && (tokensOf s c).isEmpty then endTeardown c false s else s

/-- Steps 4 to 6, once every engine has acknowledged: the replies, then the tokens. -/
def tearReplies (c : Nat) (s : State) : State :=
  match (ctx? s c).bind (·.teardown) with
  | none => s
  | some t =>
    if !t.acks.isEmpty then s
    else tearCheck c (sendTokens c (flushReplies c (abortRecs c t.status (fun _ => true) s)))

/-- Steps 1 to 3: acceptance stops, the generation advances, and every local engine removes the context's work. A recovery reset of the
context that runs is cancelled (Table 16.9). -/
def beginTeardown (c : Nat) (kind : TearKind) (status : Nat) (s : State) : State :=
  let s1 := dropStep c s
  let s2 := if kind = .destroy then unbind c (toTwin c .release 0 0 0 [] 0 s1) else s1
  let s3 := modQueues c (fun x => { x with state := .draining, heldReason := 0, fetched := [] }) s2
  let s4 := stopWork c (bumpGen c s3)
  let s5 := modCtx c (fun x => { x with teardown := some ⟨kind, status, enginesOf s c, []⟩ })
    { s4 with vig := { s4.vig with resets := s4.vig.resets.filter (fun r => !(r.level == 0 && r.ctx == some c)) } }
  tearReplies c s5

/-- R402 step 3: an engine acknowledges the removal of a context's work. -/
def execTeardownAck (ctx engine : Nat) (s : State) : Out :=
  if (ctx? s ctx).elim true (fun x => x.teardown.elim true (fun t => !t.acks.contains engine)) then .next s
  else
    .next (tearReplies ctx (modCtx ctx (fun x => { x with teardown := x.teardown.map (fun t => { t with acks := t.acks.filter (fun e => e != engine) }) }) s))

/-- CTX_DESTROY and CTX_RESET of a context. Context 0, and a number that holds no context or is being torn down, are out of range. -/
def tearCmd (h : CmdRef) (c : Nat) (kind : TearKind) (s : State) : State :=
  if c = 0 then badParam h 0x60 s
  else if (ctx? s c).elim true (fun x => x.teardown.isSome) then badParam h 0 s
  else beginTeardown c kind stAbortTeardown (waitFor h (.teardown c) s)

/-- R402, R403: CTX_DESTROY. -/
def execCtxDestroy (h : CmdRef) (ctx : BitVec 8) (s : State) : Out := .next (runPriv 0x02 h (tearCmd h ctx.toNat .destroy) s)

/-- R402, R403: CTX_RESET. -/
def execCtxReset (h : CmdRef) (ctx : BitVec 8) (s : State) : Out := .next (runPriv 0x03 h (tearCmd h ctx.toNat .reset) s)

/-! ### Tokens and quarantine (R402, R404) -/

/-- R402 step 6 at the receiver: the new generation is adopted, what is held of the old one is discarded, the token returned. -/
def execSweepToken (source ctx gen : Nat) (s : State) : Out :=
  let s1 := { s with vig := { s.vig with recvGen := sput s.vig.recvGen (genKey source ctx) gen } }
  let s2 := modStep ctx (fun x => { x with staged := x.staged.filter (fun m => m.sender != source) }) s1
  .next (emit (.vc7 "SWEEP_RETURN" source [ownRoster s, ctx, gen]) s2)

/-- A quarantine ends: cause 0 tokens returned, 1 the peer left the roster. -/
def endQuar (c cause : Nat) (s : State) : State :=
  if !(rget s .vigilQuarantine_ctx (c / 64)).testBit (c % 64) || !(tokensOf s c).isEmpty then s
  else
    raise0 0x1005 0xD (pack [(0, 8, c), (8, 8, cause)])
      (setQuar c false { s with ctl := { s.ctl with queues := s.ctl.queues.filter (fun x => !(x.2.ctx == c && x.2.state == .quarantined)) } })

/-- A token is out no longer. -/
def dropToken (peer c : Nat) (cause : Nat) (s : State) : State :=
  tearCheck c (endQuar c cause { s with vig := { s.vig with tokens := s.vig.tokens.filter (fun t => !(t.1 == peer && t.2.1 == c)) } })

/-- R402, R404: a token comes back. -/
def execSweepTokenReturn (peer ctx gen : Nat) (s : State) : Out :=
  if s.vig.tokens.any (fun t => t.1 == peer && t.2.1 == ctx && t.2.2.1 == gen) then .next (dropToken peer ctx 0 s) else .next s

/-- R404: a token has not come back within 2 ms. A number that is being destroyed is quarantined; otherwise the context continues, and
the token is sent again. -/
def execSweepTokenTimeout (peer ctx : Nat) (s : State) : Out :=
  if !s.vig.tokens.any (fun t => t.1 == peer && t.2.1 == ctx) then .next s
  else
    let s1 := trouble .troubleLog_sweepLate 1 s
    let t := (ctx? s ctx).bind (·.teardown)
    if t.elim false (fun t => t.kind == .destroy && t.acks.isEmpty) then
      let out := tokensOf s1 ctx
      let old := (genOf s1 ctx + 255) % 256
      let s2 := raise0 0x1004 0xD (pack [(0, 8, ctx), (8, 8, old), (16, 14, (out.head?).elim 0 (·.1)), (32, 16, out.length)])
        (trouble .troubleLog_quarantine 1 (rflag .vigilStatus_quarantineSeen 0 (setQuar ctx true s1)))
      .next (endTeardown ctx true { s2 with vig := { s2.vig with tokens := s2.vig.tokens.map (fun t => if t.2.1 = ctx then (t.1, t.2.1, t.2.2.1, true) else t) } })
    else
      let s2 := emit (.vc7 "SWEEP" peer [ownRoster s, ctx, genOf s ctx]) s1
      .next (if t.elim false (fun t => t.acks.isEmpty) then endTeardown ctx false s2 else s2)

/-- Tokens to a peer are sent again when its liveness tokens resume (R404). -/
def resendTokens (peer : Nat) (s : State) : State :=
  (s.vig.tokens.filter (fun t => t.1 == peer)).foldl (fun s t => emit (.vc7 "SWEEP" peer [ownRoster s, t.2.1, t.2.2.1]) s) s

/-- A silent peer leaves the roster: what waited for its tokens ends (R404). -/
def peerGone (peer : Nat) (s : State) : State :=
  ((s.vig.tokens.filter (fun t => t.1 == peer)).map (fun t => t.2.1)).foldl (fun s c => dropToken peer c 1 s) s

/-! ### Disables (R405) -/

/-- FUNCTION_DISABLED to each affected context and to context 0. -/
def disabledEvent (kind index n : Nat) (cs : List Nat) (s : State) : State :=
  let det := pack [(0, 8, kind), (8, 8, index), (16, 32, satTo 32 n)]
  raise0 0x1006 0xD det ((cs.filter (fun c => c != 0)).foldl (fun s c => raiseC 0x1006 0xD c det s) s)

/-- A context's work is removed by a disable: its commands complete, but for those of `keep`, and its queues read state 4. What was
accepted is counted. -/
def disableCtxBut (keep : Rec → Bool) (r : State × Nat) (c : Nat) : State × Nat :=
  let s := r.1
  let n := openCount s c (fun x => !keep x)
  let s1 := stopWork c (bumpGen c (dropStep c s))
  let s2 := flushReplies c (abortRecs c stAbortDisable (fun x => !keep x) s1)
  let s3 := sendTokens c (modQueues c (fun x => { x with state := .disabled, heldReason := 0, fetched := [] }) s2)
  (if n = 0 then s3 else trouble .troubleLog_disableInflight 1 s3, r.2 + n)

/-- A context disabled. -/
def disableCtx (r : State × Nat) (c : Nat) : State × Nat := disableCtxBut (fun _ => false) r c

/-- Contexts bound to a function. -/
def fnCtxs (s : State) (fn : Nat) : List Nat := (s.ctl.ctxs.filter (fun x => x.2.fn == fn)).map Prod.fst

/-- Commands of a context that an engine of a kind runs: 0 collective, 1 mirror, 2 Harvest, 3 update unit. -/
def needsEngine (kind : Nat) (r : Rec) : Bool :=
  if kind = 0 then r.opcode == 0x40
  else if kind = 1 then r.opcode == 0x41 || r.opcode == 0x42 || (r.opcode == 0x31 && (match r.wait with | .retain _ _ => true | _ => false))
  else if kind = 2 then r.opcode == 0x52 || r.opcode == 0x53 || r.opcode == 0x54
  else r.opcode == 0x33

/-- Contexts for whose partition no engine of the kind is left. -/
def unserved (s : State) (kind : Nat) : List Nat :=
  (s.ctl.ctxs.map Prod.fst).filter (fun c =>
    if kind < 3 then !(fDies (ctxDies s c)).isEmpty && (openFdies s c kind).isEmpty
    else !(ctxDies s c).isEmpty && (ctxDies s c).all (fun d => (List.range 14).all (fun k => s.sp.unitsOff.contains (14 * d + k))))

/-- An engine fenced: only commands that no other engine of the kind can take complete. -/
def fenceEngine (kind index : Nat) (s : State) : State :=
  let s1 := if kind < 3 then ror .vigilFenced_engines 0 (2 ^ (4 * kind + index)) s
    else { s with sp := { s.sp with unitsOff := if s.sp.unitsOff.contains index then s.sp.unitsOff else s.sp.unitsOff ++ [index] } }
  let cs := (unserved s1 kind).filter (fun c => decide (0 < openCount s1 c (needsEngine kind)))
  let n := (cs.map (fun c => openCount s1 c (needsEngine kind))).sum
  let s2 := cs.foldl (fun s c => flushReplies c (abortRecs c stAbortDisable (needsEngine kind) (if kind = 0 then stopExchange c s else s))) s1
  disabledEvent 2 (16 * kind + index) n cs (if n = 0 then s2 else trouble .troubleLog_disableInflight 1 s2)

/-- R405: a write of VIGIL_FENCE by PF 0 with go set disables an engine. -/
def execVigilFence (fn : Nat) (value : BitVec 32) (s : State) : Out :=
  let v := value.toNat
  let kind := bits v 28 3
  let index := bits v 0 8
  let s := dropLatch fn s
  if notServed s fn || !v.testBit 31 then .next s
  else if (kind < 3 && index < 4) || (kind = 3 && index < 112) then .next (fenceEngine kind index s)
  else .next s

/-! ### Resets (R393 to R397, R407) -/

/-- RW fields for which `p` holds at their reset value. -/
def resetRW (p : Fld → Nat → Bool) (s : State) : State :=
  { s with regs := s.regs.filter (fun x => !(allFlds.any (fun f => f.ctorIdx == x.1 / 2 ^ 20 && (fldInfo f).acc == .rw && p f (x.1 % 2 ^ 20)))) }

/-- RW fields that a chapter keeps through a module reset (R56, R261, R274, R286). -/
def keptRW (f : Fld) : Bool :=
  [Fld.queueAdminSqBase_addr, .queueAdminCqBase_addr, .queueAdminCfg_msix, .queueAdminCfg_cqLog2, .queueAdminCfg_sqLog2, .queueAdminCfg_enable,
   .stepCtxPlan_addr, .linkLaneThresh_serLog, .linkVcWeight_weights, .linkPortCtl_holdDown].contains f

/-- Cluster memory and core store of a logical cluster cleared. -/
def clearCluster (d cl : Nat) (s : State) : State :=
  let a := clKey d cl false 0
  { s with mem := { s.mem with bytes := sclear s.mem.bytes a 196608, bad := sclear s.mem.bad (a / 64) 3072 },
           core := s.core.filter (fun x => x.1 / 128 != d * 2048 + cl) }

/-- Everything on a C-die that a partition reset clears. -/
def clearDie (d : Nat) (s : State) : State :=
  { s with mem := { s.mem with bytes := sclear s.mem.bytes ((32 + d) * 2 ^ 50) (2 ^ 50), bad := sclear s.mem.bad ((32 + d) * 2 ^ 50 / 64) (2 ^ 50 / 64) },
           core := s.core.filter (fun x => x.1 / 64 / 4096 != d), eng := s.eng.filter (fun x => x.1 / 4096 != d),
           pow := { s.pow with isl := s.pow.isl.filter (fun x => x.1 / 2112 != d), stages := s.pow.stages.filter (fun x => x.1 % 8 != d) } }

/-- A reset that is in progress covers another one, which is absorbed (R393). -/
def covers (a b : ResetInfo) : Bool :=
  a.level == 4 || (a.level == 3 && decide (b.level ≤ 3) && a.part == b.part && b.part.isSome) ||
  (a.level == b.level && a.kind == b.kind && a.unit == b.unit && a.ctx == b.ctx && a.die == b.die)

/-- A port as a module reset leaves it: down, then training again unless it is held down. -/
def portReset (p : Nat) (s : State) : State :=
  let was := portUp s p
  let s1 := modPort p (fun x => { x with beacon := none, out := [], unack := [], credits := [], badLanes := [], trying := [], nakOut := false, naks := 0, suspect := false }) s
  let s2 := rset .linkPortState_state p 0 (rset .linkPortState_width p 0 (rset .linkPortState_spared p 15 (rset .linkPortState_outcome p 8 s1)))
  let s3 := if was then linkState p 0 s2 else s2
  if rget s3 .linkPortCtl_holdDown p = 1 then s3 else rset .linkPortState_state p 1 s3

/-- The configuration space, the BARs and the MSI-X logic at their reset values (R437). -/
def resetConfig (s : State) : State :=
  rset .hostifVf_enable 0 0 (rset .hostifVf_numVfs 0 0
    { s with host := { s.host with noDma := [], msixOpen := [], msixPend := [], msixTab := [], bar4Pf := 34, bar4Vf := 34 } })

/-- R297, R396: a module reset begins: the reset notice, then every die is re-initialised. -/
def moduleDown (s : State) : State :=
  let s1 := emit (.vc7 "RESET_NOTICE" (mySteward s) [ownRoster s, rosterEpoch s, rget s .cohortHold_holdMs 0]) s
  let s2 := rset .mcStatus_ready 0 0 { resetConfig s1 with fab := { s1.fab with notice := true } }
  let s3 := (List.range 8).foldl (fun s d => clearDie d s) { s2 with oct := [] }
  let s4 := (List.range 32).foldl (fun s p => portReset p s) (resetRW (fun f _ => !keptRW f) s3)
  { s4 with vig := { s4.vig with recvGen := [], applied := [], remote := [] }, io := { s4.io with latch := [] },
            fab := { s4.fab with suspicions := [], ordered := [] }, pow := { s4.pow with isl := [], stages := [] } }

/-- The removal and the clearing with which a reset of a level begins. -/
def startReset (r : ResetInfo) (s : State) : State :=
  let s1 := r.ctxs.foldl (fun s c => stopWork c (bumpGen c s)) s
  if r.level = 1 then
    r.clusters.foldl (fun s p => match clAt s r.die p with
      | some cl => substCluster r.die p 1 1 (clearCluster r.die cl s)
      | none => s) s1
  else if r.level = 3 then
    let ds := r.part.elim [r.die] (fun p => partDies s p)
    ds.foldl (fun s d => clearDie d (resetRW (fun f i => blockOf (fldOff f i) == 0x10 + d) s)) s1
  else if r.level = 4 then moduleDown s1
  else s1

/-- A reset begins, unless one that covers it is in progress; what it covers is absorbed. -/
def beginReset (r : ResetInfo) (s : State) : State :=
  if s.vig.resets.any (fun x => covers x r) then s
  else startReset r { s with vig := { s.vig with resets := s.vig.resets.filter (fun x => !covers r x) ++ [r] } }

/-- Contexts of a partition. -/
def partCtxs (s : State) (p : Nat) : List Nat := (s.ctl.ctxs.filter (fun x => x.1 != 0 && x.2.part == p)).map Prod.fst

/-- The partition that owns a die and holds contexts, or any that owns it. -/
def partOfDie (s : State) (d : Nat) : Option Nat := (s.ctl.partitions.find? (fun x => x.2.testBit d)).map Prod.fst

/-- Contexts whose work runs on clusters of a die. -/
def clusterCtxs (s : State) (d : Nat) (l : List Nat) : List Nat :=
  ((s.eng.filter (fun x => x.1 / 4096 == d && l.contains x.2.phys)).map (fun x => x.2.ctx)).eraseDups

/-- A partition reset of a die's partition. -/
def partReset (kind unit d : Nat) (s : State) : ResetInfo :=
  let p := partOfDie s d
  ⟨3, kind, d, unit, none, p, [], p.elim (dieCtxs s d) (partCtxs s)⟩

/-- A module reset. -/
def moduleReset (kind unit d : Nat) (s : State) : ResetInfo := ⟨4, kind, d, unit, none, none, [], s.ctl.ctxs.map Prod.fst⟩

/-- A context has work on engines of a unit kind: 2 update, 3 collective, 4 mirror, 5 Harvest. -/
def engineWork (s : State) (kind c : Nat) : Bool :=
  let x := stepOf s c
  if kind = 2 then x.own.elim false (fun p => !p.ended) || x.mir.elim false (fun p => !p.ended)
  else if kind = 3 then x.xch.isSome
  else if kind = 4 then x.bind.isSome || x.adopted.isSome
  else (sget Harv.empty s.har c).gen.isSome || (sget Harv.empty s.har c).rest.isSome

/-- Contexts whose work an engine reset removes: every context with work on the engine (Table 16.2). -/
def engineCtxs (s : State) (kind unit die : Nat) : List Nat :=
  (s.ctl.ctxs.map Prod.fst).filter (fun c => engineWork s kind c &&
    (if kind = 2 then (ctxDies s c).contains die else (fDies (ctxDies s c)).contains (unit % 4)))

/-- The level to which a reset that missed its deadline goes on (Table 16.2). -/
def nextReset (r : ResetInfo) (s : State) : ResetInfo :=
  if r.level = 0 then
    (if r.clusters.isEmpty then
       let k := if r.kind = 0 then 3 else r.kind
       { r with level := 2, kind := k, ctxs := (r.ctx.toList ++ engineCtxs s k r.unit r.die).eraseDups }
     else { r with level := 1, kind := 1, ctxs := (r.ctx.toList ++ clusterCtxs s r.die r.clusters).eraseDups })
  else if r.level = 1 || (r.level = 2 && r.kind = 2) then partReset r.kind r.unit r.die s
  else moduleReset r.kind r.unit r.die s

/-- R397: a module reset misses its deadline: the Almanac is sealed and CYCLE_REQ driven. -/
def cyclePower (s : State) : State :=
  let s1 := count1 .troubleCycles_count 0 (trouble .troubleLog_cycleReq 1 (almSeal 2 s))
  { s1 with boot := { s1.boot with cycleReq := true } }

/-- The reset of a level on a unit that is in progress. -/
def resetAt (s : State) (level unit : Nat) : Option ResetInfo := s.vig.resets.find? (fun r => r.level == level && r.unit == unit)

/-- Die field of a reset's events (R410). -/
def resetDie (r : ResetInfo) : Nat := if r.level = 0 || r.level = 4 then 0xFF else r.die

/-- R393: a reset is not complete by its deadline and goes on to the next level. -/
def execResetEscalated (level unit : Nat) (s : State) : Out :=
  match if s.pow.under then none else resetAt s level unit with
  | none => .next s
  | some r =>
    let n := if level = 4 then 5 else (nextReset r s).level
    let s1 := raise0 0x1003 0xD (pack [(0, 4, level), (4, 4, n), (8, 8, resetDie r), (16, 16, unit)])
      (trouble .troubleLog_esc (2 ^ level) (rflag .vigilStatus_escalationSeen 0 s))
    let s2 := { s1 with vig := { s1.vig with resets := s1.vig.resets.filter (fun x => x != r) } }
    let s2 := if n = 4 then urgent s2 else s2
    if level = 4 then .next (cyclePower { s2 with vig := { s2.vig with resets := s1.vig.resets } })
    else .next (beginReset (nextReset r s2) s2)

/-- A function's contexts are disabled, unless a module reset is in progress; the number of their commands is kept for the report. -/
def disableFn (fn : Nat) (s : State) : State :=
  let put := fun (n : Option Nat) (s : State) =>
    { s with host := { s.host with disabling := s.host.disabling.filter (fun x => x.1 != fn) ++ [(fn, n)] } }
  if rget s .mcStatus_ready 0 = 0 then put none s
  else
    let r := (fnCtxs s fn).foldl disableCtx (s, 0)
    put (some r.2) r.1

/-- The disable of a function is complete and reported, once its function-level reset is over too (R405, R444). -/
def reportDisable (fn : Nat) (s : State) : State :=
  match s.host.disabling.find? (fun x => x.1 == fn) with
  | some (_, some n) =>
    if s.host.flr.contains fn then s
    else disabledEvent 0 fn n (fnCtxs s fn) { s with host := { s.host with disabling := s.host.disabling.filter (fun x => x.1 != fn) } }
  | _ => s

/-- R445: disables that waited for the end of a module reset. -/
def lateDisables (s : State) : State :=
  (s.host.disabling.filter (fun x => x.2.isNone)).foldl (fun s x => reportDisable x.1 (disableFn x.1 s)) s

/-- R20, R396: after a module reset, which returns the role to F0, the module accepts again, rewrites the replies that were pending and acts on what was kept. -/
def moduleUp (s : State) : State :=
  let s1 := rset .mcStatus_controller 0 0 (rset .mcStatus_ready 0 1
    { s with fab := { s.fab with notice := false }, ctl := { s.ctl with f0Fenced := false, missed := 0 } })
  let s2 := keptDoorbells (rewriteReplies (lateDisables (count1 .troubleModuleResets_count 0 s1)))
  if s2.pow.told then raise0 0x0F01 4 (6 + pf 8 16 (rget s2 .pwrInput_voltage 0)) { s2 with pow := { s2.pow with told := false } } else s2

/-- Teardowns whose engines the reset covered are acknowledged. -/
def ackReset (c : Nat) (s : State) : State :=
  if (ctx? s c).elim false (fun x => x.teardown.elim false (fun t => !t.acks.isEmpty)) then
    tearReplies c (modCtx c (fun x => { x with teardown := x.teardown.map (fun t => { t with acks := [] }) }) s)
  else s

/-- R393, R394, R398: a level completes, and the interrupted commands resume. -/
def execResetDone (level unit us : Nat) (s : State) : Out :=
  match if s.pow.under then none else resetAt s level unit with
  | none => .next s
  | some r =>
    let s1 := { s with vig := { s.vig with resets := s.vig.resets.filter (fun x => x != r) } }
    let s2 := trouble .troubleLog_reset (2 ^ level) (count1 .vigilResetCount_count level s1)
    let s3 := rset .troubleLastUnit_level 0 level (rset .troubleLastUnit_kind 0 r.kind (rset .troubleLastUnit_index 0 unit s2))
    let det := pack [(0, 4, level), (8, 8, resetDie r), (16, 16, unit), (32, 8, if 3 ≤ level then 0xFF else r.ctx.getD 0xFF), (40, 24, satTo 24 us)]
    let s4 := if level = 0 then raiseBoth 0x1002 0xD (r.ctx.getD 0) det s3 else raise0 0x1002 0xD det s3
    let s5 := if level = 4 then moduleUp s4 else s4
    .next (r.ctxs.foldl (fun s c => ackReset c (recover (level == 4) c (sendTokens c s))) s5)

/-! ### The Vigil (R391, R392, R399) -/

/-- The first action on a hang (Table 16.1). -/
def firstReset (kind unit die ctx : Nat) (clusters : List Nat) (s : State) : ResetInfo :=
  if kind = 0 then
    (if (ctxDies s ctx).length = 8 && !clusters.isEmpty then ⟨1, 1, die, unit, some ctx, some ((ctx? s ctx).elim 0 (·.part)), clusters,
        ([ctx] ++ clusterCtxs s die clusters).eraseDups⟩
     else ⟨0, 0, die, unit, some ctx, some ((ctx? s ctx).elim 0 (·.part)), clusters, [ctx]⟩)
  else if kind = 6 || kind = 7 then partReset kind unit die s
  else ⟨0, kind, die, unit, some ctx, some ((ctx? s ctx).elim 0 (·.part)), [], [ctx]⟩

/-- Something on which no hang is declared: Fallow, a unit that a reset covers, a context that is held, an island held for a re-plan. -/
def notHung (kind die ctx run : Nat) (s : State) : Bool :=
  rget s .pwrState_state 0 == 2 || rget s .mcStatus_ready 0 == 0 ||
  s.vig.resets.any (fun r => r.level == 4 || (r.level == 3 && (r.part.elim [r.die] (partDies s)).contains die) || r.ctx == some ctx) ||
  (kind == 0 && ((run? s run).elim true (fun r => r.ctx != ctx || r.fault.isSome) || (ctx? s ctx).elim true (·.held) ||
    (svals s.eng).any (fun x => x.run == run && s.sp.held.any (fun i => i % 2112 == x.phys)))) ||
  (kind != 0 && decide (kind < 6) && (ctx? s ctx).isNone)

/-- Tasks of a run that had hung before: the same tasks of the same command. -/
def hungBefore (s : State) (run : Nat) (tasks : List Nat) : List Nat :=
  (run? s run).elim [] (fun r => tasks.filter (fun t => s.vig.hung.contains (r.q, r.seq, t)))

/-- R391, R399: a unit is declared hung. The second hang of a task is a fault of its graph. -/
def execVigilHang (kind unit die ctx run : Nat) (tasks clusters : List Nat) (s : State) : Out :=
  if notHung kind die ctx run s || 8 < kind then .next s
  else
    let again := if kind = 0 then hungBefore s run tasks else []
    let lowest := fun (l : List Nat) => l.foldl Nat.min (l.headD 0)
    let first := if kind = 8 then 0 else (firstReset kind unit die ctx clusters s).level
    let det := pack [(0, 4, kind), (4, 4, first), (8, 8, die), (16, 16, unit), (32, 16, (run? s run).elim 0 (·.graph)), (48, 16, lowest tasks)]
    let s1 := trouble .troubleLog_vigilHang 1 (count1 .vigilHangCount_count 0 (rflag .vigilStatus_hangSeen 0 s))
    let s2 := if kind < 6 then raiseBoth 0x1001 0xD ctx det s1 else raise0 0x1001 0xD det s1
    if !again.isEmpty then .next (runFault run 0x26 (lowest again) (trouble .troubleLog_repeatHang 1 s2))
    else if kind = 8 then execMcTakeover false s2
    else
      let marks := (run? s run).elim [] (fun r => tasks.map (fun t => (r.q, r.seq, t)))
      let s3 := if kind = 0 then { s2 with vig := { s2.vig with hung := s2.vig.hung ++ marks } } else s2
      .next (beginReset (firstReset kind unit die ctx clusters s) s3)

/-- R392: an unanswered remote request is sent once more with the same tag. -/
def execRemoteRequestResend (tag : Nat) (s : State) : Out :=
  match sget? s.vig.remote tag with
  | none => .next s
  | some r =>
    if r.resent then .next s
    else
      .next (emit (.data (if r.write then "STORE" else "LOAD") r.slot [r.ctx, r.gen, tag, r.addr, r.len] r.data)
        { s with vig := { s.vig with remote := sput s.vig.remote tag { r with resent := true } } })

/-- The instance behind a remote request has its result marked bad; a read is answered with poison (R160, R392). -/
def remotePoison (r : Remote) (s : State) : State :=
  match r.use with
  | .other => s
  | .engine k =>
    let b := (List.range r.len).map (fun i => Config.poisonByte (r.addr + i))
    let s1 := if r.write then s
      else match sget? s.eng k with
        | some x => setEng (engOfKey k) { x with answers := x.answers ++ [(r.addr, b)] } s
        | none => s
    retry (engOfKey k) (markBad (engOfKey k) s1)

/-- R392: a request that was sent again is still not answered. -/
def execVigilRemoteTimeout (tag : Nat) (s : State) : Out :=
  match sget? s.vig.remote tag with
  | none => .next s
  | some r =>
    if !r.resent then .next s
    else
      let s1 := { s with vig := { s.vig with remote := sdel s.vig.remote tag } }
      let s2 := trouble .troubleLog_remoteTimeout 1 (count1 .vigilRemoteTimeoutCount_count 0 s1)
      .next (windowCheck r.ctx (storeDone tag (remotePoison r (raiseBoth 0x1007 0xD r.ctx (pack [(0, 64, r.addr), (64, 1, b2n r.write), (72, 8, r.ctx)]) s2))))

end Sys2Proof.Machine
end

