-- ==== Sys2Proof/Machine/Members.lean ====
section
/-! DEFINITION. What this module knows of the other modules: the thresholds in force, their scores and their health (ch. 12). -/

namespace Sys2Proof.Machine

/-! ### Thresholds, scores, elections (R292, R302, R308) -/

/-- This module is the primary steward; it is a steward. -/
def isPrimary (s : State) : Bool := rget s .cohortSelf_primary 0 == 1
def isSteward (s : State) : Bool := rget s .cohortSelf_steward 0 == 1

/-- Thresholds of R308 as this module's registers give them: evict, floor, per_interval, interval_min, hold_ms. -/
def ownForce (s : State) : Nat × Nat × Nat × Nat × Nat :=
  (rget s .cohortThresh_evict 0, rget s .cohortThresh_floor 0, rget s .cohortQuota_perInterval 0, rget s .cohortQuota_intervalMin 0,
    rget s .cohortHold_holdMs 0)

/-- The thresholds in force: those of the primary. -/
def inForce (s : State) : Nat × Nat × Nat × Nat × Nat := if isPrimary s then ownForce s else s.fab.force.getD (ownForce s)

/-- The health score of a module as this one knows it: its own, that of the last token, or that of the roster. -/
def scoreOf (s : State) (i : Nat) : Nat :=
  if hasPosition s && i == ownRoster s then rget s .cohortHealth_score 0
  else (sget? s.fab.scores i).getD (bits (rosterEntry s i) 10 10)

/-- A reset notice of a module is in force. -/
def noticed (s : State) (i : Nat) : Bool := s.fab.notices.any (fun x => x.1 == i)

/-- Cohort of a roster entry, and of an index. -/
def entryCohort (e : Nat) : Nat := bits e 20 8
def cohortOf (s : State) (i : Nat) : Nat := entryCohort (rosterEntry s i)

/-- R292. A module is taken to be reachable while no suspicion of it stands (DEDUCED, log entry 20). -/
def healthy (s : State) (x : Nat × Nat) : Bool :=
  (entrySt x.2 == 1 || entrySt x.2 == 2) && !suspects s x.1 && !noticed s x.1 && decide ((inForce s).1 ≤ scoreOf s x.1)

/-- Lowest of a list; none of an empty one. -/
def least (l : List Nat) : Option Nat := l.foldl (fun m i => some (m.elim i (Nat.min i))) none

end Sys2Proof.Machine
end

