-- ==== Sys2Proof/Machine/Harvest.lean ====
section
/-! DEFINITION. Harvest: shards, generations, manifests, restore and import (ch. 13). -/

namespace Sys2Proof.Machine

/-- Harvest in a context. -/
def harvOf (s : State) (c : Nat) : Harv := sget Harv.empty s.har c

/-- A change of it. -/
def modHarv (c : Nat) (f : Harv → Harv) (s : State) : State := { s with har := sset Harv.empty s.har c (f (harvOf s c)) }

/-- A change of the generation in progress. -/
def modGen (c : Nat) (f : HGen → HGen) (s : State) : State := modHarv c (fun x => { x with gen := x.gen.map f }) s

/-- Roster indices that take part in the steps of the module's slice: members, on probation or held too; without a slice the module
itself. -/
def stepMembers (s : State) : List Nat :=
  (mySlice s).elim [ownRoster s] (fun x => x.2.members.filter (fun i => [1, 4, 5].contains (entrySt (rosterEntry s i))))

/-- R310: the harvest lead, the slice's healthy member with the lowest roster index. -/
def harvestLead (s : State) : Nat :=
  (least ((stepMembers s).filter (fun i => healthy s (i, rosterEntry s i)))).getD (ownRoster s)

/-- This module is the lead. -/
def isLead (s : State) : Bool := harvestLead s == ownRoster s

/-! ### Targets (R315, R319) -/

/-- 64 MiB, the chunk. -/
def mib64 : Nat := 67108864

/-- Area A of a target of some bytes. -/
def targetA (bytes : Nat) : Nat := mib64 * ((bytes / 2 - 2097152) / (2 * mib64))

/-- Where a slot of a target begins. -/
def slotBase (t : Nat × Nat × Nat) (gen : Nat) : Nat := t.2.1 + gen % 2 * (t.2.2 / 2)

/-- Bytes of a target read: bus address or tray address. -/
def targetRead (s : State) (c : Nat) (t : Nat × Nat × Nat) (a n : Nat) : Rd :=
  if t.1 = 0 then (if noDma s (fnOf s c) then ⟨[], [a], 0⟩ else ⟨hostRead s a n, [], 0⟩) else peek s c a n

/-- Bytes of a target written. -/
def targetWrite (c : Nat) (t : Nat × Nat × Nat) (a : Nat) (b : List Byte) (s : State) : State :=
  if t.1 = 0 then (if noDma s (fnOf s c) then s else hostWrite a b s) else ctxWrite c a b s

/-- Zeros over a target's range. -/
def targetZero (c : Nat) (t : Nat × Nat × Nat) (a n : Nat) (s : State) : State :=
  if t.1 = 0 then (if noDma s (fnOf s c) then s else { s with io := { s.io with hostMem := sclear s.io.hostMem a n } })
  else match locate s a with
    | .mem k => { s with mem := { s.mem with bytes := sclear s.mem.bytes k n, bad := sclear s.mem.bad (k / 64) (n / 64) } }
    | _ => s

/-- A registration obeys R315. -/
def targetOk (s : State) (c kind base bytes : Nat) : Bool :=
  decide (kind ≤ 1) && base % 4096 == 0 && bytes % 4096 == 0 && (bytes == 0 || decide (260 * 1048576 ≤ bytes)) &&
  (kind == 0 || bytes == 0 || (regionOf base == 8 && rangeBoth s c base bytes))

/-- R315: HARVEST_TARGET. -/
def execHarvestTarget (h : CmdRef) (target kind : BitVec 8) (base bytes : Word64) (s : State) : Out :=
  .next (runCmd 0x50 h (fun s =>
    let t := target.toNat
    let m := (harvOf s h.ctx).targets
    let m' := if bytes = 0 then sdel m t else sput m t (kind.toNat, base.toNat, bytes.toNat)
    if 3 < t || !targetOk s h.ctx kind.toNat base.toNat bytes.toNat || m'.map Prod.fst != List.range m'.length then badParam h 0x40 s
    else finishOk h (modHarv h.ctx (fun x => { x with targets := m' }) s)) s)

/-! ### Shards (R313, R316, R317) -/

/-- A part of a shard: bytes, or a range of memory. -/
inductive Seg where
  | lit (b : List Byte)
  | mem (a n : Nat)
deriving DecidableEq, Repr

/-- Length of a part, and of a list of parts. -/
def segLen : Seg → Nat
  | .lit b => b.length
  | .mem _ n => n
def segsLen (l : List Seg) : Nat := (l.map segLen).sum

/-- `n` bytes of a list of parts from offset `off`. -/
def segsRead (s : State) (c : Nat) : List Seg → Nat → Nat → Rd
  | [], _, _ => ⟨[], [], 0⟩
  | g :: gs, off, n =>
    if segLen g ≤ off then segsRead s c gs (off - segLen g) n
    else
      let k := Nat.min n (segLen g - off)
      let here := match g with
        | .lit b => (⟨(b.drop off).take k, [], 0⟩ : Rd)
        | .mem a _ => peek s c (a + off) k
      if n ≤ k then here else here.append (segsRead s c gs 0 (n - k))

/-- The journal mark of a queue: next_seq, and the first accepted command with the step flag for a later step (R313). -/
def markOf (step next : Nat) (l : List (Nat × Nat × Nat)) : Nat :=
  ((l.filter (fun r => r.2.1.testBit 2 && decide (step < r.2.2))).map Prod.fst).headD next

/-- The journal marks of a context's own queues. -/
def ownMarks (s : State) (c step : Nat) : List (Nat × Nat × Nat) :=
  (s.ctl.queues.filter (fun x => x.2.ctx == c)).map (fun x =>
    let l := (s.ctl.journal.filter (fun r => r.q == x.1)).map (fun r => (r.seq, r.flags, if r.step = 0 then step + 1 else r.step))
    (x.1, x.2.nextSeq, markOf step x.2.nextSeq l))

/-- The journal marks of a partner's queues, as its records held here show them. -/
def partnerMarks (s : State) (c peer : Nat) : List (Nat × Nat × Nat) :=
  let l := s.ctl.partner.filter (fun r => r.1 == peer && r.2.1 == c)
  ((l.map (fun r => r.2.2.1)).eraseDups).map (fun q =>
    let n := ((l.filter (fun r => r.2.2.1 == q)).map (fun r => r.2.2.2.1 + 1)).foldl Nat.max 0
    (q, n, n))

/-- A scale record with its history excluded (R313, R329). -/
def plainScale (b : List Byte) : List Byte := List.replicate 70 0 ++ [1] ++ b.drop 71

/-- A bank section; `scale` is the place of the scale records whose history is left out. -/
def bankSegs (s : State) (c base n : Nat) (scale : Option (Nat × Nat)) : List Seg :=
  match scale with
  | none => [.mem base n]
  | some (o, k) =>
    [.mem base o, .lit ((List.range k).flatMap (fun i => plainScale (peek s c (base + o + 128 * i) 128).bytes)), .mem (base + o + 128 * k) (n - o - 128 * k)]

/-- The parts of a shard, after its header. -/
def shardBody (s : State) (c : Nat) (g : HGen) (h : HShard) (twin : Bool) : List Seg :=
  let x := stepOf s c
  let p := planOr x
  let d := (ctxDies s c).length
  let st := if twin then x.standMir else x.standOwn
  let banks := if twin then (if st = 0 then p.mbank0 else p.mbank1) else if st = 0 then p.bank0 else p.bank1
  let res := if rget s .stepCtxState_rot c = 0 then p.gradB else p.gradA
  let q := h.queues.flatMap (fun y => leBytes 2 y.1 ++ [0, 0] ++ leBytes 4 y.2.1 ++ leBytes 4 y.2.2 ++ [0, 0, 0, 0])
  let sc := if g.noScale then some x.lastScale else none
  [Seg.lit (padTo ((q.length + 4095) / 4096 * 4096) 0 q)] ++
  ((banks.take d).zipIdx.flatMap (fun y => bankSegs s c y.1 p.bankBytes (if y.2 = 0 then sc else none))) ++
  (if twin then [] else (res.take d).map (fun a => Seg.mem a p.gradBytes))

/-- The header of a shard (Table 13.1). -/
def shardHead (s : State) (c : Nat) (g : HGen) (h : HShard) (twin : Bool) : List Byte :=
  let p := planOr (stepOf s c)
  padTo 4096 0 (leBytes 4 0x44524853 ++ leBytes 2 1 ++ leBytes 2 (b2n twin + 2 * b2n twin + 4 * b2n g.noScale) ++ leBytes 8 g.step ++ leBytes 8 g.commit ++
    leBytes 8 g.epoch ++ leBytes 8 g.gen ++ leBytes 2 h.owner ++ leBytes 2 h.member ++ leBytes 1 c ++ [2] ++ leBytes 1 (ctxDies s c).length ++ [0] ++
    leBytes 8 p.bankBytes ++ leBytes 8 p.gradBytes ++ leBytes 2 h.queues.length ++ List.replicate 14 0 ++ leBytes 8 (geoDigest s (ctxDies s c)))

/-- A shard, part by part. -/
def shardSegs (s : State) (c : Nat) (g : HGen) (h : HShard) (twin : Bool) : List Seg := .lit (shardHead s c g h twin) :: shardBody s c g h twin

/-- The shard size of R316, by which R319 checks the targets. -/
def fullSize (s : State) (c queues : Nat) : Nat :=
  let p := planOr (stepOf s c)
  4096 + (16 * queues + 4095) / 4096 * 4096 + (ctxDies s c).length * (p.bankBytes + p.gradBytes)

/-- Chunks of a size. -/
def chunkCount (n : Nat) : Nat := (n + mib64 - 1) / mib64

/-- R319: the targets hold a shard of some chunks. -/
def targetsHold (ts : List (Nat × Nat × Nat)) (chunks : Nat) : Bool :=
  !ts.isEmpty && ts.all (fun t => decide (mib64 * ((chunks + ts.length - 1) / ts.length) ≤ targetA t.2.2))

/-- Target and address of chunk `k` of a shard (R315). -/
def chunkAt (ts : List (Nat × Nat × Nat)) (gen k : Nat) (twin : Bool) : (Nat × Nat × Nat) × Nat :=
  let t := ts.getD (k % Nat.max 1 ts.length) (0, 0, 0)
  (t, slotBase t gen + 2097152 + (if twin then targetA t.2.2 else 0) + k / Nat.max 1 ts.length * mib64)

/-- R317: the shard digest. -/
def shardDigest (h : HShard) : List Byte := sha256 ((svals h.wrote).flatMap id)

/-! ### Generations (R310 to R312, R318, R319, R322 to R324) -/

/-- Member index of a roster index in the slice's exchange group. -/
def memberIdx (s : State) (c i : Nat) : Nat :=
  let g := (stepOf s c).group
  if g.contains i then g.idxOf i else 0xFFFF

/-- The slice's generation is no longer in progress, as a primary knows it. -/
def genOver (s : State) : State := { s with fab := { s.fab with genBusy := s.fab.genBusy.filter (fun x => x != sliceId s) } }

/-- A generation fails here: HARVEST_FAILED, and a pending HARVEST_NOW that it was to serve. -/
def failHere (c cause who : Nat) (s : State) : State :=
  match (harvOf s c).gen with
  | none => s
  | some g =>
    let s1 := rset .harvestCtxState_busy c 0 (count1 .harvestFailCount_count 0 (rflag .harvestStatus_failedSeen 0 (modHarv c (fun x => { x with gen := none }) s)))
    let s2 := raiseBoth 0x0D02 0xA c (pack [(0, 64, g.gen), (64, 14, who), (80, 8, cause)]) s1
    sealCheck c (genOver (finishWaits (fun r => r.ctx == c && (match r.wait with | .harvest n => decide (n < g.gen) | _ => false)) stHarvestFailed (fun _ => 0) s2))

/-- A generation fails on every member: those who do not find it out themselves hear of it in a report with no targets. -/
def failGen (c cause : Nat) (s : State) : State :=
  match (harvOf s c).gen with
  | none => s
  | some g =>
    failHere c cause (ownRoster s) (emit (.vc7 "SHARD_REPORT" 0x3FFF [c, ownRoster s, 0xFFFF, cause, 0, ownRoster s, 0, g.gen]) s)

/-- Context fault-free to begin: R311, R318, R319. The manifest area of the slot is zeroed first. -/
def beginGen (c step seq epoch gen : Nat) (s : State) : State :=
  if (harvOf s c).gen.isSome then s
  else
    let ts := svals (harvOf s c).targets
    let q := ownMarks s c step
    let full := chunkCount (fullSize s c q.length)
    let g : HGen := ⟨gen, step, seq, epoch, stepMembers s, ts, rget s .harvestCtxCtl_noScale c == 1,
      ⟨ownRoster s, memberIdx s c (ownRoster s), q, full, [], []⟩, none, [], []⟩
    let s1 := leaveIdle (rset .harvestCtxState_busy c 1 (modHarv c (fun x => { x with gen := some g }) s))
    if !targetsHold ts full then failGen c 5 s1
    else
      let t := ts.getD 0 (0, 0, 0)
      targetZero c t (slotBase t gen) 2097152 s1

/-- R323: this module writes the shard of its lost partner from its mirror of step n. -/
def beginTwinShard (c lost : Nat) (s : State) : State :=
  match (harvOf s c).gen with
  | none => s
  | some g =>
    if g.twin.isSome || !g.members.contains lost || g.reports.any (fun r => r.roster == lost) then s
    else
      let q := partnerMarks s c lost
      let full := chunkCount (fullSize s c q.length)
      if !targetsHold g.targets full then failGen c 5 s
      else
        let h : HShard := ⟨lost, memberIdx s c lost, q, 0, [], []⟩
        let n := chunkCount (segsLen (shardSegs s c g h true))
        modGen c (fun g => { g with twin := some { h with chunks := n } }) s

/-- R311, R322: a harvest mark for the last committed step reaches the member. -/
def markStep (c : Nat) (m : CommitMsg) (gen : Nat) (s : State) : State :=
  if m.step = rget s .stepCtxCommitted_step c then beginGen c m.step m.seq m.epoch gen s else s

/-- R311: a mark sent alone. -/
def execHarvestMark (ctx : Nat) (m : CommitMsg) (generation : Nat) (s : State) : Out := .next (markStep ctx m generation s)

/-! ### The manifest (R320 to R322) -/

/-- A manifest entry. -/
def entryBytes (r : ShardMsg) : List Byte :=
  leBytes 2 r.roster ++ leBytes 2 r.member ++ leBytes 2 r.flags ++ leBytes 1 r.targets ++ [0] ++ leBytes 2 r.writer ++ List.replicate 6 0 ++
  leBytes 8 r.bytes ++ List.replicate 8 0 ++ r.digest.take 32

/-- The manifest message (Table 13.2). -/
def manifestMsg (s : State) (c : Nat) (g : HGen) (rs : List ShardMsg) : List Byte :=
  let p := planOr (stepOf s c)
  let l := rs.insertionSort (fun a b => a.roster ≤ b.roster)
  let fl := b2n g.noScale + 2 * b2n (l.any (fun r => r.flags.testBit 0)) + 4 * b2n (harvOf s c).imported
  padTo 0x100 0 (leBytes 4 0x54535648 ++ leBytes 2 1 ++ leBytes 2 fl ++ leBytes 8 g.step ++ leBytes 8 g.commit ++ leBytes 8 g.epoch ++ leBytes 8 g.gen ++ [2] ++
    leBytes 1 c ++ leBytes 2 (sliceId s) ++ leBytes 4 l.length ++ leBytes 8 (geoDigest s (ctxDies s c)) ++ leBytes 8 p.bankBytes ++ leBytes 8 p.gradBytes ++
    signerHash "harvest") ++ l.flatMap entryBytes

/-- The signature block over a message (R321). -/
def signBlock (m : List Byte) : List Byte :=
  padTo 5376 0 (edKey "harvest" ++ mlKey "harvest" ++ signEd "harvest" m ++ signMl "harvest" "Harvest manifest v1" m)

/-- The lead holds a report for every member: the manifest is built and signed. -/
def buildManifest (c : Nat) (s : State) : State :=
  match (harvOf s c).gen with
  | none => s
  | some g =>
    if !isLead s || !g.manifest.isEmpty || !g.members.all (fun i => g.reports.any (fun r => r.roster == i)) then s
    else
      let m := manifestMsg s c g g.reports
      modGen c (fun g => { g with manifest := m ++ signBlock m }) s

/-- A shard report at the lead. -/
def takeShardReport (c : Nat) (m : ShardMsg) (s : State) : State :=
  buildManifest c (modGen c (fun g => { g with reports := g.reports.filter (fun r => r.roster != m.roster) ++ [m] }) s)

/-- The report of a shard that this module has written. -/
def reportShard (c : Nat) (g : HGen) (h : HShard) (twin : Bool) (s : State) : State :=
  let m : ShardMsg := ⟨h.owner, h.member, b2n twin + 2 * b2n twin + 4 * b2n g.noScale, g.targets.length, ownRoster s,
    segsLen (shardSegs s c g h twin), shardDigest h⟩
  let s1 := if twin then raiseBoth 0x0D03 0xA c (pack [(0, 14, h.owner), (32, 32, g.gen)]) s else s
  if isLead s1 then takeShardReport c m s1
  else
    modGen c (fun g => { g with reports := g.reports.filter (fun r => r.roster != m.roster) ++ [m] })
      (emit (.data "SHARD_REPORT" (harvestLead s1) [c, m.roster, m.member, m.flags, m.targets, m.writer, m.bytes, g.gen] m.digest) s1)

/-- R320, R324: a report arrives; one without targets tells of a failure, whose cause its flags hold. -/
def execShardReport (ctx : Nat) (m : ShardMsg) (s : State) : Out :=
  if m.targets = 0 then .next (failHere ctx m.flags m.roster s)
  else if isLead s then .next (takeShardReport ctx m s)
  else .next s

/-- One chunk of a shard written and durable. -/
def chunkDone (c : Nat) (g : HGen) (h : HShard) (twin : Bool) (k : Nat) (s : State) : State :=
  let r := segsRead s c (shardSegs s c g h twin) (k * mib64) mib64
  if !r.bad.isEmpty then
    (if mirrored s c then askRepair c twin r.bad.eraseDups (reportAll 4 c 0xFFFF 0xFFFF r.bad s) else failGen c 3 (reportAll 4 c 0xFFFF 0xFFFF r.bad s))
  else
    let at' := chunkAt g.targets g.gen k twin
    let h' := { h with wrote := sput h.wrote k (sha256 r.bytes) }
    let s1 := activity .harvestBytes_units 0 r.bytes.length (targetWrite c at'.1 at'.2 r.bytes s)
    let s2 := modGen c (fun g => if twin then { g with twin := some h' } else { g with own := h' }) s1
    sealCheck c (if h'.wrote.length < h'.chunks then s2 else reportShard c g h' twin s2)

/-- R318: a chunk becomes durable, or its write fails; the fourth failure of a chunk fails the generation. -/
def execChunkWriteDone (ctx : Nat) (twin : Bool) (chunk : Nat) (ok : Bool) (s : State) : Out :=
  match (harvOf s ctx).gen with
  | none => .next s
  | some g =>
    match if twin then g.twin else some g.own with
    | none => .next s
    | some h =>
      if h.chunks ≤ chunk || (sget? h.wrote chunk).isSome then .next s
      else if ok then .next (chunkDone ctx g h twin chunk s)
      else
        let n := sget 0 h.fails chunk + 1
        let h' := { h with fails := sset 0 h.fails chunk n }
        let s1 := modGen ctx (fun g => if twin then { g with twin := some h' } else { g with own := h' }) s
        .next (if 4 ≤ n then failGen ctx 2 s1 else s1)

/-- The generation exists: its manifest stands in this module's slot. -/
def genWritten (c : Nat) (g : HGen) (b : List Byte) (s : State) : State :=
  let t := g.targets.getD 0 (0, 0, 0)
  let s1 := targetWrite c t (slotBase t g.gen) b s
  let s2 := rset .harvestCtxState_busy c 0 (rset .harvestCtxStep_step c g.step (rset .harvestCtxGen_generation c g.gen
    (modHarv c (fun x => { x with gen := none, imported := false }) s1)))
  let s3 := raiseBoth 0x0D01 0xA c (pack [(0, 64, g.gen), (64, 64, g.step)]) s2
  genOver (finishWaits (fun r => r.ctx == c && (match r.wait with | .harvest n => decide (n < g.gen) | _ => false)) stOk (fun _ => g.step) s3)

/-- R322: the lead's manifest is durable; every member gets a copy. -/
def execHarvestWritten (ctx : Nat) (s : State) : Out :=
  match (harvOf s ctx).gen with
  | none => .next s
  | some g =>
    if g.manifest.isEmpty then .next s
    else .next (genWritten ctx g g.manifest (emit (.data "MANIFEST" 0x3FFF [ctx, g.gen] g.manifest) s))

/-- R320, R322: the lead's copy of the manifest arrives and is written. -/
def execManifestCopy (ctx : Nat) (data : List Byte) (s : State) : Out :=
  match (harvOf s ctx).gen with
  | none => .next s
  | some g => if fld data 0x20 8 = g.gen then .next (genWritten ctx g data s) else .next s

/-- R324: the lead has changed: members send their reports again. -/
def resendReports (c : Nat) (s : State) : State :=
  match (harvOf s c).gen with
  | none => s
  | some g =>
    if isLead s then buildManifest c s
    else g.reports.foldl (fun s m => emit (.data "SHARD_REPORT" (harvestLead s) [c, m.roster, m.member, m.flags, m.targets, m.writer, m.bytes, g.gen] m.digest) s) s

/-! ### Policy and HARVEST_NOW (R310, R311) -/

/-- R310: HARVEST_POLICY. At the lead it goes to the primary. -/
def execHarvestPolicy (h : CmdRef) (everySteps timerS : BitVec 32) (s : State) : Out :=
  .next (runCmd 0x51 h (fun s =>
    finishOk h (if isLead s then emit (.vc7 "HARVEST_REQUEST" (primaryOf s) [sliceId s, ownRoster s, 1, everySteps.toNat, timerS.toNat]) s else s)) s)

/-- R311: HARVEST_NOW waits for the first generation marked after its issue. -/
def execHarvestNow (h : CmdRef) (s : State) : Out :=
  .next (runCmd 0x52 h (fun s =>
    let g := (harvOf s h.ctx).gen.elim (rget s .harvestCtxGen_generation h.ctx) (·.gen)
    emit (.vc7 "HARVEST_REQUEST" (primaryOf s) [sliceId s, ownRoster s, 0, h.ctx]) (waitFor h (.harvest g) s)) s)

/-! ### Restore (R325 to R329) -/

/-- A manifest as it was read. -/
structure Manifest where
  raw : List Byte
  count : Nat
  gen : Nat
  step : Nat
  commit : Nat
  epoch : Nat
deriving DecidableEq, Repr

/-- A signer hash is trusted (R327). -/
def trusted (s : State) (hash : List Byte) : Bool :=
  if rget s .harvestTrust_addr 0 = 0 then hash == signerHash "harvest"
  else (List.range (Nat.min 16384 (rget s .harvestTrustCount_count 0))).any (fun i => (peek s 0 (64 * rget s .harvestTrust_addr 0 + 32 * i) 32).bytes == hash)

/-- The message of a manifest, and its signature block. -/
def Manifest.msg (m : Manifest) : List Byte := m.raw.take (0x100 + 64 * m.count)
def Manifest.block (m : Manifest) : List Byte := m.raw.drop (0x100 + 64 * m.count)

/-- A manifest's fields. -/
def mkManifest (b : List Byte) : Manifest := ⟨b, fld b 0x2C 4, fld b 0x20 8, fld b 8 8, fld b 0x10 8, fld b 0x18 8⟩

/-- Bytes to read for a manifest whose header is `b`. -/
def manifestLen (b : List Byte) : Nat := 0x100 + 64 * Nat.min 32680 (fld b 0x2C 4) + 5376

/-- Check 0x01. -/
def manifestForm (m : Manifest) : Bool :=
  let b := m.raw
  fld b 0 4 == 0x54535648 && fld b 4 2 == 1 && decide (fld b 6 2 < 8) && zeros b 0x68 152 && decide (1 ≤ m.count) && decide (m.count ≤ 16384) &&
  decide (0x100 + 64 * m.count + 5376 ≤ 2097152) && (List.range m.count).all (fun i => zeros b (0x107 + 64 * i) 1 && zeros b (0x10A + 64 * i) 6 && zeros b (0x118 + 64 * i) 8)

/-- Checks 0x03 and 0x04, R321. -/
def manifestEd (m : Manifest) : Bool :=
  (m.raw.drop 0x48).take 32 == sha256 (m.block.take 1984) && Config.edVerify (m.block.take 32) m.msg ((m.block.drop 1984).take 64)
def manifestMl (m : Manifest) : Bool :=
  Config.mlVerify ((m.block.drop 32).take 1952) (ascii "Harvest manifest v1") m.msg ((m.block.drop 2048).take 3309)

/-- Index of the entry of this module. -/
def myEntry (s : State) (m : Manifest) : Option Nat := (List.range m.count).find? (fun i => fld m.raw (0x100 + 64 * i) 2 == ownRoster s)

/-- The bytes of this module's shard as its targets hold them. -/
def readShard (s : State) (c : Nat) (m : Manifest) (i : Nat) : Rd :=
  let ts := svals (harvOf s c).targets
  let n := fld m.raw (0x110 + 64 * i) 8
  (List.range (chunkCount n)).foldl (fun r k =>
    let at' := chunkAt ts m.gen k (fld m.raw (0x104 + 64 * i) 2 % 2 == 1)
    r.append (targetRead s c at'.1 at'.2 (Nat.min mib64 (n - k * mib64)))) ⟨[], [], 0⟩

/-- The digest of a shard that has been read. -/
def digestOf (b : List Byte) : List Byte :=
  sha256 ((List.range (chunkCount b.length)).flatMap (fun k => sha256 ((b.drop (k * mib64)).take mib64)))

/-- Check 0x08. -/
def headAgrees (m : Manifest) (i : Nat) (b : List Byte) : Bool :=
  fld b 0 4 == 0x44524853 && fld b 4 2 == 1 && fld b 8 8 == m.step && fld b 0x10 8 == m.commit && fld b 0x18 8 == m.epoch && fld b 0x20 8 == m.gen &&
  fld b 0x28 2 == fld m.raw (0x100 + 64 * i) 2

/-- Check 0x0A. -/
def planAgrees (s : State) (c : Nat) (b : List Byte) : Bool :=
  match readPlan s c with
  | .error _ => false
  | .ok p => fld b 0x2E 1 == (ctxDies s c).length && fld b 0x30 8 == p.bankBytes && fld b 0x38 8 == p.gradBytes

/-- The checks of Table 13.4 in order: a refusal's detail, or none. -/
def restoreCheck (s : State) (c : Nat) (m : Manifest) : Option Nat :=
  let i := (myEntry s m).getD 0
  let r := readShard s c m i
  let code := fun (k : Nat) => some (k + 256 * i)
  if !manifestForm m then some 1
  else if !trusted s ((m.raw.drop 0x48).take 32) then code 2
  else if !manifestEd m then code 3
  else if !manifestMl m then code 4
  else if fld m.raw 0x28 1 ≠ 2 then code 5
  else if fld m.raw 0x30 8 ≠ geoDigest s (ctxDies s c) then code 6
  else if (myEntry s m).isNone then code 7
  else if !headAgrees m i r.bytes then code 8
  else if digestOf r.bytes ≠ (m.raw.drop (0x120 + 64 * i)).take 32 then code 9
  else if !planAgrees s c r.bytes then code 0xA
  else if !r.bad.isEmpty then code 0xB
  else none

/-- R326: the bank sections streamed into the bank that is not standing, and the residual sections into the snap area; zeros where the
shard holds none (R323). -/
def streamShard (c : Nat) (b : List Byte) (s : State) : State :=
  match readPlan s c with
  | .error _ => s
  | .ok p =>
    let d := (ctxDies s c).length
    let o := 4096 + (16 * fld b 0x40 2 + 4095) / 4096 * 4096
    let bank := if (stepOf s c).standOwn = 0 then p.bank1 else p.bank0
    let s1 := modStep c (fun x => { x with plan := some p, snapOk := false }) s
    let s2 := ((bank.take d).zipIdx).foldl (fun s y => ctxWrite c y.1 ((b.drop (o + y.2 * p.bankBytes)).take p.bankBytes) s) s1
    if fld b 6 2 / 2 % 2 = 1 then areasZero (p.snap.take d) p.gradBytes s2
    else ((p.snap.take d).zipIdx).foldl (fun s y => ctxWrite c y.1 ((b.drop (o + d * p.bankBytes + y.2 * p.gradBytes)).take p.gradBytes) s) s2

/-- A vote at the restore lead. -/
def addVote (c who gen : Nat) (hash : List Byte) (pass : Bool) (s : State) : State :=
  modHarv c (fun x => { x with rest := x.rest.map (fun r => { r with votes := r.votes.filter (fun v => v.1 != who) ++ [(who, gen, hash, pass)] }) }) s

/-- A restore or import is refused here. -/
def refuseHere (c det : Nat) (s : State) : State :=
  match (harvOf s c).rest with
  | none => s
  | some r =>
    finishAt r.q r.seq stRestoreRefused det (rset .harvestCtxState_restoring c 0 (rflag .harvestStatus_refusedSeen 0 (modHarv c (fun x => { x with rest := none }) s)))

/-- The member's own result goes to the restore lead. -/
def castVote (c : Nat) (s : State) : State :=
  match (harvOf s c).rest with
  | none => s
  | some r =>
    if isLead s then addVote c (ownRoster s) r.gen r.hash r.refusal.isNone s
    else emit (.data "RESTORE_VOTE" (harvestLead s) [c, ownRoster s, r.gen, b2n r.refusal.isNone] r.hash) s

/-- The checks made on a manifest, and the vote. -/
def tryManifest (c : Nat) (m : Manifest) (bar : Option Nat) (s : State) : State :=
  let det := match bar with | some d => some d | none => restoreCheck s c m
  let i := (myEntry s m).getD 0
  let s1 := if det.isNone || det == some (9 + 256 * i) then streamShard c (readShard s c m i).bytes s else s
  castVote c (modHarv c (fun x => { x with rest := x.rest.map (fun r => { r with gen := m.gen, step := m.step, commit := m.commit, hash := sha256 m.msg, refusal := det, votes := [] }) }) s1)

/-- R328: the manifest in the other slot of this module's own target 0. -/
def otherManifest (s : State) (c gen : Nat) : Option Manifest :=
  match svals (harvOf s c).targets with
  | [] => none
  | t :: _ =>
    let a := slotBase t (gen + 1)
    let h := (targetRead s c t a 256).bytes
    let m := mkManifest (targetRead s c t a (manifestLen h)).bytes
    if manifestForm m && decide (m.gen < gen) then some m else none

/-- A refusal decided: the fall-back of R328 where it is asked for and has not been tried, else every member refuses. -/
def refused (c : Nat) (s : State) : State :=
  match (harvOf s c).rest with
  | none => s
  | some r =>
    if r.rflags % 2 = 1 && !r.fallback && !r.imp then
      let s1 := modHarv c (fun x => { x with rest := x.rest.map (fun r => { r with fallback := true }) }) s
      match otherManifest s1 c r.gen with
      | some m => tryManifest c m none s1
      | none => castVote c (modHarv c (fun x => { x with rest := x.rest.map (fun r => { r with refusal := some 0xE, hash := [], votes := [] }) }) s1)
    else refuseHere c (if r.fallback then 0xE else r.refusal.getD 0xC) s

/-- The partner's mirror bank gets the new standing bank, as at a bind. -/
def mirrorBank (c : Nat) (s : State) : State :=
  match (stepOf s c).plan with
  | none => s
  | some p =>
    let st := (stepOf s c).standOwn
    let bank := if st = 0 then p.bank0 else p.bank1
    toTwin c .copied 0 0 st [] 0 (((bank.take (ctxDies s c).length).zipIdx).foldl (fun s x =>
      let b := (peek s c x.1 p.bankBytes).bytes
      toTwin c .bank 0 p.bankBytes (2 * x.2 + st) b (runDigest b) s) s)

/-- R326, R330: the restore commit applied. -/
def restored (c : Nat) (r : HRest) (s : State) : State :=
  let x := stepOf s c
  let p := planOr x
  let d := (ctxDies s c).length
  let s1 := areasCopy (p.gradB.take d) (p.snap.take d) p.gradBytes s
  let s2 := modStep c (fun x => { x with standOwn := 1 - x.standOwn, fresh := true, own := none, mir := none, sealed := none }) s1
  let s3 := rset .stepCtxCommitted_step c r.step (rset .stepCtxStep_step c r.step (rset .stepCtxAttempt_attempt c 0 (rset .stepCtxState_rot c 0 s2)))
  let s4 := if r.imp then s3
    else rset .harvestCtxStep_step c r.step (rset .harvestCtxGen_generation c r.gen (rset .stepCommitSeq_seq c r.commit s3))
  let s5 := rset .harvestCtxState_restoring c 0 (modHarv c (fun x => { x with rest := none, imported := x.imported || r.imp }) s4)
  let s6 := if mirrored s5 c then mirrorBank c s5 else s5
  finishAt r.q r.seq stOk r.step
    (raiseBoth 0x0D04 0xA c (pack [(0, 64, if r.imp then 0 else r.gen), (64, 64, r.step), (128, 1, b2n r.fallback)]) s6)

/-- The restore lead decides once every member has voted; a fall-back that is voted on at once is decided too. -/
def decideN (c : Nat) : Nat → State → State
  | 0, s => s
  | n + 1, s =>
    match (harvOf s c).rest with
    | none => s
    | some r =>
      if !isLead s || !(stepMembers s).all (fun i => r.votes.any (fun v => v.1 == i)) then s
      else if r.votes.all (fun v => v.2.2.2 && v.2.1 == r.gen && v.2.2.1 == r.hash) then restored c r (emit (.vc7 "RESTORE_COMMIT" 0x3FFF [c, r.gen]) s)
      else decideN c n (refused c (emit (.vc7 "RESTORE_REFUSED" 0x3FFF [c, r.gen]) s))

/-- The votes decided. -/
def decideVotes (c : Nat) (s : State) : State := decideN c 2 s

/-- A restore or import begins: refused at once unless the context is CLOSED; held while a generation is in progress. -/
def beginRest (h : CmdRef) (imp : Bool) (rflags : Nat) (m : Manifest) (bar : Option Nat) (s : State) : State :=
  if stepSt s h.ctx ≠ 0 then rflag .harvestStatus_refusedSeen 0 (finish h stRestoreRefused 0xD s)
  else
    let r : HRest := ⟨h.q, h.seq.toNat, imp, rflags, false, m.gen, m.step, m.commit, [], none, []⟩
    let s1 := rset .harvestCtxState_restoring h.ctx 1 (modHarv h.ctx (fun x => { x with rest := some r }) (waitFor h .vote s))
    decideVotes h.ctx (tryManifest h.ctx m bar (leaveIdle s1))

/-- R325: RESTORE. -/
def execRestore (h : CmdRef) (manifest : Word64) (rflags : BitVec 8) (s : State) : Out :=
  .next (runCmd 0x53 h (fun s =>
    if (harvOf s h.ctx).gen.isSome || (harvOf s h.ctx).rest.isSome then s
    else
      let b := (peek s h.ctx manifest.toNat 256).bytes
      let r := cmdRead h.ctx manifest.toNat (manifestLen b) s
      beginRest h false rflags.toNat (mkManifest r.1.bytes) (if r.1.bad.isEmpty then none else some 1) r.2) s)

/-- R326: a vote reaches the restore lead. -/
def execRestoreVote (ctx roster generation : Nat) (hash : List Byte) (pass : Bool) (s : State) : Out :=
  if (stepMembers s).contains roster then .next (decideVotes ctx (addVote ctx roster generation hash pass s)) else .next s

/-- R326: the lead's restore commit; one for a member that did not pass its checks changes nothing. -/
def execRestoreCommit (ctx : Nat) (s : State) : Out :=
  match (harvOf s ctx).rest with
  | some r => if r.refusal.isNone then .next (restored ctx r s) else .next s
  | none => .next s

/-- R326, R328: the restore lead's time has passed, or its refusal has come: every member refuses, or tries its earlier manifest. -/
def execRestoreVoteTimeout (ctx : Nat) (s : State) : Out :=
  match (harvOf s ctx).rest with
  | none => .next s
  | some r => .next (decideVotes ctx (refused ctx (if isLead s then emit (.vc7 "RESTORE_REFUSED" 0x3FFF [ctx, r.gen]) s else s)))

/-! ### Importing (R330) -/

/-- The parts of an import table (Table 13.5). -/
structure Import where
  step : Nat
  desc : DescRead
  man : List Byte
  entries : List (List Byte)
  files : List Nat

/-- Bytes of a field of a tensor and its offset in the bank: 0 weight, 1 master, 2 m, 3 v; moments in form 2 only. -/
def importField (d : UDesc) (e : List Byte) : Option (TEnt × Nat × Nat) :=
  match d.tensors[fld e 0 4]? with
  | none => none
  | some t =>
    match d.hypers[t.hyper]? with
    | none => none
    | some h =>
      let f := fld e 4 1
      if f = 0 then some (t, t.wOff, t.elems * if t.wform = 2 then 4 else 2)
      else if f = 1 && t.wform == 0 then some (t, t.pOff, 4 * t.elems)
      else if f = 2 && h.hasM && t.mform == 2 then some (t, t.mOff, momBytes 2 t.elems)
      else if f = 3 && h.hasV t && vForm h t == 2 then some (t, t.vOff, momBytes 2 t.elems)
      else none

/-- Size and digest of a file of an FNL-A2 manifest. -/
def a2File (man : List Byte) (i : Nat) : Nat × List Byte := (fld man (64 + 96 * i + 56) 8, (man.drop (64 + 96 * i + 64)).take 32)

/-- An import entry is in order. -/
def importOk (x : Import) (e : List Byte) : Bool :=
  zeros e 5 3 && zeros e 12 4 && zeros e 24 8 && decide (fld e 8 4 < x.files.length) &&
  (importField x.desc.desc e).elim false (fun y => decide (fld e 16 8 + y.2.2 ≤ (a2File x.man (fld e 8 4)).1))

/-- The parts of an import table read. -/
def readImport (s : State) (c a : Nat) : Import :=
  let b := (peek s c a 64).bytes
  let n := fld b 0x28 4
  let man := (peek s c (fld b 0x18 8) (fld b 0x20 8)).bytes
  ⟨fld b 8 8, readDesc s c (fld b 0x10 8), man, entries 32 n (peek s c (a + 64) (32 * n)).bytes,
    vals 8 (peek s c (a + 64 + 32 * n) (8 * fld man 0x10 4)).bytes⟩

/-- The checks of Table 13.5 in the order of their codes. -/
def importCheck (s : State) (c a : Nat) (x : Import) : Option Nat :=
  let b := (peek s c a 64).bytes
  let n := fld x.man 0x10 4
  let len := 64 + 96 * n
  if !(fld b 0 4 == 0x54324149 && fld b 4 2 == 1 && zeros b 6 2 && zeros b 0x2C 20 && x.desc.detail == 0 && x.desc.bad.isEmpty) then some 0x10
  else if !(fld x.man 0 4 == 0x4D324146 && fld x.man 8 8 == x.step && x.man.length == len + 96) then some 0x10
  else if !(trusted s (sha256 ((x.man.drop len).take 32)) && Config.edVerify ((x.man.drop len).take 32) (x.man.take (len + 32)) ((x.man.drop (len + 32)).take 64)) then some 0x11
  else match (List.range n).find? (fun i => sha256 (peek s c (x.files.getD i 0) (a2File x.man i).1).bytes != (a2File x.man i).2) with
    | some i => some (0x12 + 256 * i)
    | none => (x.entries.zipIdx.find? (fun e => !importOk x e.1)).map (fun e => 0x13 + 256 * e.2)

/-- The named fields copied into the bank that is not standing; watch records zero, scale records as R329 gives, residual area zero. -/
def streamImport (c : Nat) (x : Import) (s : State) : State :=
  match readPlan s c with
  | .error _ => s
  | .ok p =>
    let d := x.desc.desc
    let st := (stepOf s c).standOwn
    let bank := d.bank (1 - st)
    let b0 := bank.getD 0 0
    let s1 := x.entries.foldl (fun s e =>
      match importField d e with
      | some (t, o, n) => ctxWrite c (bank.getD t.die 0 + o) (peek s c (x.files.getD (fld e 8 4) 0 + fld e 16 8) n).bytes s
      | none => s) (modStep c (fun x => { x with plan := some p, snapOk := false }) s)
    let s2 := ctxWrite c (b0 + d.watchOff) (List.replicate (64 * d.groups) 0) s1
    let s3 := (List.range d.scales).foldl (fun s i =>
      ctxWrite c (b0 + d.scaleOff + 128 * i) (plainScale (peek s c ((d.bank st).getD 0 0 + d.scaleOff + 128 * i) 128).bytes) s) s2
    areasZero (p.snap.take (ctxDies s c).length) p.gradBytes s3

/-- R330: IMPORT_A2. -/
def execImportA2 (h : CmdRef) (manifest : Word64) (s : State) : Out :=
  .next (runCmd 0x54 h (fun s =>
    if (harvOf s h.ctx).gen.isSome || (harvOf s h.ctx).rest.isSome then s
    else if stepSt s h.ctx ≠ 0 then rflag .harvestStatus_refusedSeen 0 (finish h stRestoreRefused 0xD s)
    else
      let c := h.ctx
      let x := readImport s c manifest.toNat
      let det := importCheck s c manifest.toNat x
      let r : HRest := ⟨h.q, h.seq.toNat, true, 0, false, 0, x.step, 0, sha256 x.man, det, []⟩
      let s1 := rset .harvestCtxState_restoring c 1 (modHarv c (fun x => { x with rest := some r }) (waitFor h .vote s))
      decideVotes c (castVote c (if det.isNone then streamImport c x (leaveIdle s1) else s1))) s)

end Sys2Proof.Machine
end

