-- ==== Sys2Proof/Machine/Cohorts.lean ====
section
/-! DEFINITION. Cohorts, stewards and membership: the roster, liveness, suspicion, decisions, the health score and the fabric manager's
messages (ch. 12). -/

namespace Sys2Proof.Machine

/-! ### Elections (R292) -/

/-- Healthy modules of a cohort in a roster. -/
def healthyOf (s : State) (l : List (Nat × Nat)) (co : Nat) : List Nat :=
  (l.filter (fun x => entryCohort x.2 == co && healthy s x)).map Prod.fst

/-- Cohorts of a roster that have a steward. -/
def ledCohorts (s : State) (l : List (Nat × Nat)) : List Nat :=
  ((l.map (fun x => entryCohort x.2)).eraseDups).filter (fun co => !(healthyOf s l co).isEmpty)

/-- Bits [3:1] of an entry: primary, deputy, steward (R292). -/
def electBits (s : State) (l : List (Nat × Nat)) (x : Nat × Nat) : Nat :=
  let co := entryCohort x.2
  let h := healthyOf s l co
  let st := least h == some x.1
  let de := least (h.filter (fun i => least h != some i)) == some x.1
  2 * b2n st + 4 * b2n de + 8 * b2n (st && least (ledCohorts s l) == some co)

/-- A roster entry. -/
def mkEntry (st co health : Nat) : Nat := pack [(28, 4, st), (20, 8, co), (10, 10, health)]

/-- A roster entry in another state. -/
def entryIn (s : State) (i st : Nat) : Nat := mkEntry st (cohortOf s i) (scoreOf s i)

/-- The entry without its elected bits. -/
def plainEntry (e : Nat) : Nat := e - bits e 1 3 * 2

/-- A roster as it reads after changes, without elected bits. -/
def changed (s : State) (ch : List (Nat × Nat)) : List (Nat × Nat) :=
  ((rosterList s).filter (fun x => !ch.any (fun c => c.1 == x.1))).map (fun x => (x.1, plainEntry x.2)) ++ ch

/-- The changes of a roster message: those of the decision first, then the entries whose elected bits change. -/
def rosterChanges (s : State) (ch : List (Nat × Nat)) : List (Nat × Nat) :=
  let l := changed s ch
  let new := fun (x : Nat × Nat) => (x.1, x.2 + electBits s l x)
  ch.map new ++ ((l.filter (fun x => !ch.any (fun c => c.1 == x.1))).map new).filter (fun x => x.2 != rosterEntry s x.1)

/-! ### Applying a roster (R290, R299 to R301, R253, R254) -/

/-- The lost index and the spare of each substitution that a roster makes: the position is followed by the spare's old index, absent. -/
def substitutions (m : RosterMsg) : List (Nat × Nat) :=
  ((m.changes.zip (m.changes.drop 1)).filter (fun x => [3, 4, 5].contains m.decision && entrySt x.1.2.toNat == 1 && entrySt x.2.2.toNat == 0)).map
    (fun x => (x.1.1, x.2.1))

/-- Members of the old roster that a full roster does not list: it lists every position that is not absent. -/
def unlisted (s : State) (m : RosterMsg) : List Nat :=
  if m.full then ((rosterList s).map Prod.fst).filter (fun i => inRoster s i && !m.changes.any (fun x => x.1 == i)) else []

/-- Indices that leave the roster without a substitute. -/
def leavers (s : State) (m : RosterMsg) : List Nat :=
  (((m.changes.filter (fun x => (entrySt x.2.toNat == 6 || entrySt x.2.toNat == 0) && inRoster s x.1)).map Prod.fst) ++ unlisted s m).filter
    (fun i => !(substitutions m).any (fun p => p.2 == i))

/-- The routes of a substitution: every module copies its entry of the spare's former index (R300). -/
def moveRoute (lost spare : Nat) (s : State) : State :=
  { s with fab := { s.fab with routes := sset 0 (sset 0 s.fab.routes lost (routeOf s spare)) spare 0,
                               scores := (match sget? s.fab.scores spare with
                                 | some v => sput (sdel s.fab.scores spare) lost v
                                 | none => sdel s.fab.scores lost) } }

/-- R301: this module is out of the roster. The uncompleted commands of mirrored contexts complete at the module that took over. -/
def goOut (s : State) : State :=
  let cs := (s.ctl.ctxs.map Prod.fst).filter (fun c => mirrored s c)
  let s1 := cs.foldl (fun s c =>
    setJournal (s.ctl.journal.filter (fun r => !(r.ctx == c && r.state != .completed)))
      (modQueues c (fun x => { x with state := .disabled, heldReason := 0, fetched := [] }) (removeRuns (fun r => r.ctx == c) s))) s
  setBudget { rset .pwrBudget_shareW 0 0 (rset .cohortSelf_primary 0 0 (rset .cohortSelf_deputy 0 0 (rset .cohortSelf_steward 0 0 (rset .cohortSelf_role 0 0 s1)))) with
    fab := { s1.fab with out := true, notice := false, suspicions := [], seals := [], late := [], backups := [], wanted := [], shares := [] },
    pow := { s1.pow with share := 0, shareAge := 0 } }

/-- COHORT_SELF follows the roster. -/
def selfBits (s : State) : State :=
  let e := if hasPosition s then rosterEntry s (ownRoster s) else 0
  rset .cohortSelf_primary 0 (bits e 3 1) (rset .cohortSelf_deputy 0 (bits e 2 1) (rset .cohortSelf_steward 0 (bits e 1 1) s))

/-- A position taken: by a join that the roster now lists (R289), or by the spare of a substitution. -/
def takePosition (i co role : Nat) (s : State) : State :=
  { rset .cohortSelf_roster 0 i (rset .cohortSelf_cohort 0 co (rset .cohortSelf_role 0 role s)) with
    fab := { s.fab with out := false } }

/-- What an applied roster does to this module's own position. -/
def ownPosition (old : State) (m : RosterMsg) (s : State) : State :=
  let me := ownRoster old
  match (substitutions m).find? (fun p => p.2 == me) with
  | some p =>
    if hasPosition old then emit (.vc7 "PULL" p.1 [me, p.1]) (takePosition p.1 (cohortOf s p.1) 1 s) else s
  | none =>
    if hasPosition old && ((substitutions m).any (fun p => p.1 == me) || (leavers old m).contains me) then goOut s
    else if hasPosition old then s
    else
      match s.fab.joining with
      | none => s
      | some (i, co, role) =>
        let e := rosterEntry s i
        if entrySt e = role + 1 && entryCohort e = co then
          finishWaits (fun r => r.wait == .joined) stOk (fun _ => m.epoch) (takePosition i co (role + 1) { s with fab := { s.fab with joining := none } })
        else s

/-- Contexts whose twin is a module, mirrored by it. -/
def twinnedWith (s : State) (i : Nat) : List Nat :=
  (s.ctl.ctxs.map Prod.fst).filter (fun c => mirrored s c && (stepOf s c).twin == some i)

/-- MIRROR_STATE to 0. -/
def unmirror (c i : Nat) (s : State) : State :=
  raiseBoth 0x0A07 9 c (pack [(16, 14, i)]) (rset .stepCtxState_sameTray c 0 (rset .stepCtxState_mirrored c 0 s))

/-- R260: the twin of a context is lost: a pass that waits for its report is not compared. -/
def passAlone (c : Nat) (s : State) : State :=
  if (stepOf s c).own.elim false (·.ended) && stepSt s c = 2 then updateDone c s else s

/-- R253: the twin of a lost member sends the spare everything it needs, and takes it as its new twin. -/
def feedSpare (c i : Nat) (s : State) : State :=
  let x := stepOf s c
  match x.plan with
  | none => s
  | some p =>
    let open' := b2n (stepOpenSt s c)
    let s1 := toTwin c .take (rget s .stepCtxCommitted_step c) (commitSeq s c) (x.standMir + 2 * open') [] 0 s
    let bank := if x.standMir = 0 then p.mbank0 else p.mbank1
    let s2 := ((bank.take (ctxDies s c).length).zipIdx).foldl (fun s y =>
      let b := (peek s c y.1 p.bankBytes).bytes
      toTwin c .ownBank 0 p.bankBytes (2 * y.2 + x.standMir) b (runDigest b) s) s1
    let s3 := x.inMap.foldl (fun s y =>
      let b := (peek s c (p.mirrorIn + y.2.2.1) y.2.1).bytes
      toTwin c .ownInput y.1 y.2.1 y.2.2.2 b (runDigest b) s) s2
    let s4 := x.gradMap.foldl (fun s y =>
      let b := (peek s c (p.mirrorGrad + y.2.2) y.2.1).bytes
      toTwin c .ownGrad y.1 y.2.1 0 b (runDigest b) s) s3
    let s5 := (s4.ctl.partner.filter (fun r => r.1 == i && r.2.1 == c)).foldl (fun s r =>
      toTwin c .ownJournal r.2.2.1 r.2.2.2.1 (fld r.2.2.2.2 0 1) r.2.2.2.2 0 s) s4
    sendCopies c p s5

/-- The twin of a context is replaced by a spare, which takes its index. -/
def twinReplaced (i c : Nat) (s : State) : State :=
  let s1 := twinLost c (passAlone c (unmirror c i s))
  beginTwinShard c i (feedSpare c i (modStep c (fun x => { x with bind := some (i, (ctx? s c).elim 0 (·.journalMib)), peerBind := none, bankHeld := false, bankSent := false }) s1))

/-- The journal records of a lost member, delivered here with ABORTED_BY_DISABLE (R254). -/
def adoptRecs (i c : Nat) (s : State) : State :=
  let l := s.ctl.partner.filter (fun r => r.1 == i && r.2.1 == c)
  let mk := fun (r : Nat × Nat × Nat × Nat × List Byte) =>
    let b := r.2.2.2.2
    (⟨r.2.2.1, r.2.2.2.1, c, fld b 0 1, bits (fld b 0 4) 16 12, b, .replyPending, .none, 0, 0, some ⟨stAbortDisable, 0, stepNo s c, 0, 0⟩, none⟩ : Rec)
  { s with ctl := { s.ctl with journal := s.ctl.journal ++ l.map mk, partner := s.ctl.partner.filter (fun r => !(r.1 == i && r.2.1 == c)) } }

/-- The twin of a context has left without a substitute: its shard is adopted (R254). -/
def twinShrunk (i c : Nat) (s : State) : State :=
  let s1 := raiseBoth 0x0A06 9 c (pack [(0, 14, i), (64, 64, rget s .stepCtxCommitted_step c)]) (passAlone c (unmirror c i s))
  beginTwinShard c i (twinBack c (adoptRecs i c (modStep c (fun x => { x with adopted := some i, bankHeld := false, bankSent := false }) s1)))

/-- A module is a member of the slice of this module's contexts. -/
def affects (s : State) (i : Nat) : Bool := (mySlice s).elim false (fun x => x.2.members.contains i)

/-- R224, R227: an exchange whose group holds a lost member ends in a fault of cause bit 4; any other open step aborts at level 3. -/
def memberLost (i c : Nat) (s : State) : State :=
  if (stepOf s c).xch.elim false (fun e => e.buckets.any (fun b => b.group.contains i && !b.agreed)) then exchangeFault c 0xFFFF 0xFFFF 0xFFFF 16 i s
  else abort3 c i s

/-- The aborts that a decision names, on the contexts of the slices it concerns (R298, R299). -/
def rosterAborts (old : State) (m : RosterMsg) (s : State) : State :=
  let first := (m.changes.headD (0x3FFF, 0)).1
  let subs := substitutions m
  let lost := leavers old m
  if m.decision = 1 then allSteps (fun c s => abort3 c first s) s
  else if !affects old first then s
  else if !lost.isEmpty && [3, 4, 5].contains m.decision then
    allSteps (fun c s => abort4 c first (raiseBoth 0x0A05 9 c (pack [(0, 14, lost.headD 0), (32, 32, m.epoch)]) s)) s
  else if !subs.isEmpty then allSteps (fun c s => memberLost first c s) s
  else s

/-- What a roster does for the twins of this module's contexts. -/
def rosterTwins (old : State) (m : RosterMsg) (s : State) : State :=
  let s1 := (substitutions m).foldl (fun s p => (twinnedWith old p.1).foldl (fun s c => twinReplaced p.1 c s) s) s
  let s2 := (leavers old m).foldl (fun s i => (twinnedWith old i).foldl (fun s c => twinShrunk i c s) s) s1
  m.changes.foldl (fun s x =>
    if entrySt x.2.toNat = 5 && entrySt (rosterEntry old x.1) ≠ 5 then (twinnedWith s x.1).foldl (fun s c => twinLost c s) s
    else if entrySt x.2.toNat = 1 && entrySt (rosterEntry old x.1) = 5 then (twinnedWith s x.1).foldl (fun s c => twinBack c s) s
    else s) s2

/-- Two modules that are twins of each other are both lost: a second fault (R307). -/
def pairLost (l : List Nat) : Bool := l.any (fun a => l.any (fun b => a != b && Config.memberTwin a == b))

/-- R323, R324: what a roster does to the generations in progress. -/
def rosterHarvest (old : State) (lost : List Nat) (s : State) : State :=
  ((s.har.filter (fun x => x.2.gen.isSome)).map Prod.fst).foldl (fun s c =>
    let gone := (harvOf s c).gen.elim [] (fun g => lost.filter (fun i => g.members.contains i && !g.reports.any (fun r => r.roster == i)))
    let s1 := if !isLead s then s else if pairLost gone then failGen c 4 s else if gone.any Config.memberUnmirrored then failGen c 1 s else s
    if harvestLead old = harvestLead s1 then s1 else resendReports c s1) s

/-- Modules that left are forgotten. -/
def forget (i : Nat) (s : State) : State :=
  peerGone i { s with fab := { s.fab with notices := s.fab.notices.filter (fun x => x.1 != i), suspicions := s.fab.suspicions.filter (fun x => x.suspect != i),
                                          seals := s.fab.seals.filter (fun x => x.2.roster != i), backups := s.fab.backups.filter (fun b => b.member != i), wanted := s.fab.wanted.filter (fun w => w.2 != i),
                                          deferred := s.fab.deferred.filter (fun j => j != i), shares := s.fab.shares.filter (fun x => x.1 != i) } }

/-- A spare that was running a straggler backup is needed elsewhere: the backup stops (R307). -/
def stopBackups (i : Nat) (s : State) : State :=
  let l := s.fab.backups.filter (fun b => b.module == i)
  l.foldl (fun s b => raiseBoth 0x0A04 9 b.ctx (pack [(0, 14, b.member), (16, 14, i), (32, 2, 1)]) s)
    { s with fab := { s.fab with backups := s.fab.backups.filter (fun b => b.module != i) } }

/-- Events of an applied roster (Table 12.8). -/
def rosterEvents (m : RosterMsg) (s : State) : State :=
  let first := (m.changes.headD (0, 0)).1
  let st := entrySt (m.changes.headD (0, 0)).2.toNat
  let mine := hasPosition s && first == ownRoster s
  let led := isSteward s && rget s .cohortSelf_cohort 0 == m.cohort
  let s1 := raise0 0x0C02 8 (pack [(0, 64, m.epoch), (64, 8, m.decision), (72, 16, m.changes.length), (88, 14, first)]) s
  let s2 := if m.decision = 6 && mine then rflag .cohortStatus_probationSeen 0 s1 else s1
  let s3 := if (m.decision = 6 || (m.decision = 7 && st = 1)) && (mine || led) then
      raise0 0x0C03 8 (pack [(0, 14, first), (16, 1, b2n (m.decision == 6)), (32, 10, scoreOf s first)]) s2 else s2
  if m.decision = 2 && led && !noticed s first then
    let sl := (s.fab.slices.find? (fun x => x.2.members.contains first)).elim 0 Prod.fst
    raise0 0x0C05 8 (pack [(0, 14, first), (16, 12, sl)]) (rflag .cohortStatus_noQuorumSeen 0 s3)
  else s3

/-- R372: a steward that takes over starts every share at 0. -/
def newSteward (old s : State) : State := if isSteward old || !isSteward s then s else { s with fab := { s.fab with shares := [] } }

/-- A roster in force. -/
def applyRoster (m : RosterMsg) (s : State) : State :=
  let kept := if m.full then { s with regs := s.regs.filter (fun x => x.1 / 2 ^ 20 != Fld.cohortRoster_entry.ctorIdx) } else s
  let s1 := rset .cohortEpoch_epoch 0 m.epoch (m.changes.foldl (fun s x => rset .cohortRoster_entry x.1 x.2.toNat s) kept)
  let s2 := (substitutions m).foldl (fun s p => stopBackups p.2 (moveRoute p.1 p.2 s)) { s1 with fab := { s1.fab with force := some m.force, gap := false } }
  let s3 := newSteward s (selfBits (ownPosition s m s2))
  let s4 := rosterTwins s m (rosterAborts s m (rosterEvents m s3))
  let s5 := (leavers s m ++ (substitutions m).map Prod.fst).foldl (fun s i => forget i s) s4
  let s6 := reformSlices (grantWaiting (rosterHarvest s (leavers s m ++ (substitutions m).map Prod.fst) s5))
  if rosterField s6 = rosterField s then s6 else beaconAll s6

/-- The full roster asked for after a gap (R290). -/
def askRoster (s : State) : State :=
  if s.fab.gap then s else emit (.vc7 "FULL_ROSTER_REQUEST" (mySteward s) [rosterField s, rosterEpoch s]) { s with fab := { s.fab with gap := true } }

/-- R290, R298: a roster message. Decision 1 comes with no new epoch. -/
def execRoster (m : RosterMsg) (s : State) : Out :=
  if m.decision = 1 && m.epoch = rosterEpoch s then .next (rosterAborts s m s)
  else if m.epoch ≤ rosterEpoch s then .next s
  else if m.full || m.prev = rosterEpoch s then .next (applyRoster m s)
  else .next (askRoster s)

/-! ### Issuing (R290, R292, R299, R306) -/

/-- The fields of a roster message as it goes out. -/
def rosterFields (m : RosterMsg) : List Nat :=
  [m.epoch, m.prev, m.primary, m.cohort, m.decision, m.changes.length] ++ m.changes.flatMap (fun x => [x.1, x.2.toNat]) ++
  [m.force.1, m.force.2.1, m.force.2.2.1, m.force.2.2.2.1, m.force.2.2.2.2]

/-- The primary issues a roster: it goes to every module and is applied here; notices and the deputy's copy follow. `suspect` says that the
decision removes or holds a suspect. -/
def issueRoster (co decision : Nat) (ch : List (Nat × Nat)) (suspect : Bool) (s : State) : State :=
  let m : RosterMsg := ⟨rosterEpoch s + 1, rosterEpoch s, ownRoster s, co, decision, (rosterChanges s ch).map (fun x => (x.1, BitVec.ofNat 32 x.2)), false, ownForce s⟩
  let s1 := applyRoster m (emit (.vc7 "ROSTER" 0x3FFF (rosterFields m)) s)
  let s2 := emit (.vc7 "ROSTER_NOTICE" 0x3FFF (m.epoch :: ch.map Prod.fst)) s1
  let s3 := if suspect then emit (.vc7 "HANG_NOTICE" 0x3FFF [(ch.headD (0, 0)).1, m.epoch]) s2 else s2
  emit (.vc7 "FM_STATE" (deputyOf s3 (rget s3 .cohortSelf_cohort 0)) [m.epoch]) s3

/-- Slices that list a module. -/
def slicesOf (s : State) (i : Nat) : List (Nat × SliceDef) := s.fab.slices.filter (fun x => x.2.members.contains i)

/-- The spares that may take a module's position, idle ones, else those that run a backup (R298, R300, R307). -/
def sparePool (s : State) (i : Nat) (used : List Nat) : List Nat :=
  let ok := fun (st : Nat) => ((rosterList s).filter (fun x => entrySt x.2 == st && !suspects s x.1 && !noticed s x.1 && !used.contains x.1 &&
    (slicesOf s i).all (fun d => d.2.members.contains x.1))).map Prod.fst
  if !(ok 2).isEmpty then ok 2 else (ok 3).filter (fun j => s.fab.backups.any (fun b => b.module == j))

/-- R300: another tray than that of the lost member's twin first, then the lowest roster index. -/
def chooseSpare (s : State) (i : Nat) (used : List Nat) : Option Nat :=
  let p := sparePool s i used
  let far := p.filter (fun j => Config.memberTray j != Config.memberTray (Config.memberTwin i))
  if far.isEmpty then least p else least far

/-- Every slice of the members that go still has at least min_members (Table 12.3). -/
def canShrink (s : State) (l : List Nat) : Bool :=
  s.fab.slices.all (fun d => !l.any (fun i => d.2.members.contains i) ||
    decide (d.2.minMembers ≤ (d.2.members.filter (fun j => [1, 2, 3, 4].contains (entrySt (rosterEntry s j)) && !l.contains j)).length))

/-- The changes of a removal, position by position, with the spares used. -/
def removal (s : State) (l : List Nat) : List (Nat × Nat) × List Nat × Bool :=
  l.foldl (fun a i =>
    match if pairLost l then none else chooseSpare s i a.2.1 with
    | some j => (a.1 ++ [(i, mkEntry 1 (cohortOf s i) (scoreOf s j)), (j, 0)], a.2.1 ++ [j], a.2.2)
    | none => (a.1 ++ [(i, entryIn s i 6)], a.2.1, false)) ([], [], true)

/-- R296, R298: the primary grants an epoch to a decision and issues the roster. Decisions 3 and 4 remove; where there is no spare the job
shrinks, and where it cannot shrink the members are held. -/
def grantEpoch (co decision : Nat) (l : List Nat) (suspect : Bool) (s : State) : State :=
  let l' := l.filter (fun i => inRoster s i)
  if l'.isEmpty then s
  else if decision = 3 || decision = 4 then
    let r := removal s l'
    let rest := l'.filter (fun i => r.1.any (fun x => x.1 == i && entrySt x.2 == 6))
    if rest.isEmpty then issueRoster co decision r.1 suspect s
    else if canShrink s rest || pairLost l' then
      let s1 := issueRoster co (if decision = 4 then 4 else 5) r.1 suspect s
      if pairLost l' then
        raise0 0x0C05 8 (pack [(0, 14, l'.headD 0), (16, 12, ((slicesOf s (l'.headD 0)).headD (0, ⟨0, 0, 0, [], false⟩)).1)])
          (rflag .cohortStatus_noQuorumSeen 0 s1)
      else s1
    else issueRoster co 2 (l'.map (fun i => (i, entryIn s i 5))) suspect s
  else if decision = 2 then issueRoster co 2 (l'.map (fun i => (i, entryIn s i 5))) suspect s
  else if decision = 6 then issueRoster co 6 (l'.map (fun i => (i, entryIn s i 4))) false s
  else if decision = 7 then issueRoster co 7 (l'.map (fun i => (i, entryIn s i 1))) false s
  else s

/-- A decision of this module as a steward: counted, and granted by the primary (R296). -/
def decide' (co decision : Nat) (l : List Nat) (suspect : Bool) (s : State) : State :=
  let s1 := count1 .cohortDecisionCount_count 0 s
  let s2 := if decision = 4 then count .cohortEvictCount_count 0 l.length s1 else s1
  if isPrimary s then grantEpoch co decision l suspect s2
  else emit (.vc7 "EPOCH_REQUEST" (primaryOf s) ([co, decision, b2n (decision == 3 || decision == 4)] ++ l)) s2

/-- R296, R299: the primary receives a steward's decision. -/
def execEpochRequest (cohort decision : Nat) (suspects : List Nat) (wantSpare : Bool) (s : State) : Out :=
  if isPrimary s && (wantSpare || !(decision == 3 || decision == 4)) then .next (grantEpoch cohort decision suspects (decision == 3 || decision == 2) s)
  else .next s

/-- R290: a steward sends the full roster. -/
def execFullRosterRequest (index : Nat) (s : State) : Out :=
  if isSteward s then .next (emit (.vc7 "ROSTER_FULL" index (rosterEpoch s :: (rosterList s).flatMap (fun x => [x.1, x.2]))) s) else .next s

/-! ### Joining (R289, R291) -/

/-- A join announcement flooded over the trained links. -/
def floodJoin (a : Nat × Nat × Nat) (s : State) : State :=
  (List.range 32).foldl (fun s p => if portUp s p then emit (.link p "JOIN" [a.1, a.2.1, a.2.2]) s else s) s

/-- The position that an announcement names is free. -/
def joinFree (s : State) (i co : Nat) : Bool :=
  !inRoster s i && decide (i < 16384) && decide (((rosterList s).filter (fun x => inRoster s x.1 && entryCohort x.2 == co)).length < 64)

/-- R289: ROSTER_JOIN. -/
def execRosterJoin (h : CmdRef) (roster : BitVec 16) (cohort role : BitVec 8) (s : State) : Out :=
  .next (runPriv 0x84 h (fun s =>
    let i := roster.toNat
    let co := cohort.toNat
    if 16384 ≤ i || (inRoster s i && !(hasPosition s && i == ownRoster s)) then badParam h 0x30 s
    else if 64 ≤ ((rosterList s).filter (fun x => inRoster s x.1 && entryCohort x.2 == co)).length then badParam h 0x31 s
    else if 1 < role.toNat then badParam h 0x32 s
    else if hasPosition s || s.fab.joining.isSome then badParam h 0x33 s
    else floodJoin (i, co, role.toNat) (waitFor h .joined { s with fab := { s.fab with joining := some (i, co, role.toNat) } })) s)

/-- R291: an announcement arrives: the primary admits the module in its next roster; others remember it and pass it on. -/
def execJoinAnnouncement (index cohort role : Nat) (s : State) : Out :=
  let a := (index, cohort, role)
  if 1 < role || 16384 ≤ index || 256 ≤ cohort then .next s
  else if isPrimary s then
    (if joinFree s index cohort then .next (issueRoster cohort 8 [(index, mkEntry (role + 1) cohort ((sget? s.fab.scores index).getD 1000))] false s) else .next s)
  else if s.fab.announced.contains a || inRoster s index then .next s
  else .next (floodJoin a { s with fab := { s.fab with announced := s.fab.announced ++ [a] } })

/-- One joined module ranks lower than another. -/
def ranksLower (a b : Nat × Nat × Nat) : Bool := a.2.1 < b.2.1 || (a.2.1 == b.2.1 && decide (a.1 < b.1))

/-- R291: 200 ms after its ROSTER_JOIN the lowest-ranked joined module issues epoch 1, which lists every module that has announced itself. -/
def execEpochOneIssue (s : State) : Out :=
  match s.fab.joining with
  | none => .next s
  | some a =>
    if rosterEpoch s ≠ 0 || s.fab.announced.any (fun b => ranksLower b a) then .next s
    else
      let ch := (a :: s.fab.announced.filter (fun b => b.1 != a.1)).map (fun b =>
        (b.1, mkEntry (b.2.2 + 1) b.2.1 (if b.1 = a.1 then rget s .cohortHealth_score 0 else 1000)))
      let m : RosterMsg := ⟨1, 0, a.1, a.2.1, 8, (rosterChanges s ch).map (fun x => (x.1, BitVec.ofNat 32 x.2)), false, ownForce s⟩
      .next (applyRoster m (emit (.vc7 "ROSTER" 0x3FFF (rosterFields m)) { s with fab := { s.fab with announced := [] } }))

/-! ### Liveness (R295 to R297) -/

/-- R295: a liveness token goes out on a trained port. -/
def execLivenessTokenSend (port : Nat) (s : State) : Out :=
  if !portUp s port || rget s .mcStatus_ready 0 = 0 then .next s
  else
    let fl := pack [(0, 1, b2n s.fab.notice), (1, 1, b2n (hasPosition s && entrySt (rosterEntry s (ownRoster s)) == 4)), (3, 1, b2n s.fab.out)]
    .next (emit (.link port "TOKEN" [2, 1, fl, rget s .cohortSelf_cohort 0, rosterField s, rget s .cohortHealth_score 0, rosterEpoch s, (portOf s port).sent % 2 ^ 32])
      (modPort port (fun x => { x with sent := x.sent + 1 }) s))

/-- A held module is back: its steward asks for state 1 (R297, Table 12.3). -/
def heldBack (i : Nat) (s : State) : State :=
  if entrySt (rosterEntry s i) = 5 && stewardOf s (cohortOf s i) = ownRoster s && hasPosition s then decide' (cohortOf s i) 7 [i] false s else s

/-- R296, R297: a peer's liveness token arrives. -/
def execLivenessToken (port : Nat) (t : LiveToken) (s : State) : Out :=
  if !portUp s port then .next s
  else
    let i := t.roster.toNat
    let s1 := modPort port (fun x => { x with token := t.seq.toNat, suspect := false }) s
    if 16384 ≤ i then .next s1
    else
      let s2 := { s1 with fab := { s1.fab with scores := sput s1.fab.scores i t.health,
                                               suspicions := s1.fab.suspicions.map (fun x => if x.suspect = i then { x with answered := true } else x),
                                               notices := if t.flags.getLsbD 0 then s1.fab.notices else s1.fab.notices.filter (fun x => x.1 != i) } }
      let s3 := resendTokens i (rset .linkPortPeer_roster port i s2)
      let s4 := if rosterEpoch s3 < t.epoch && !(t.flags.getLsbD 3) then askRoster s3 else s3
      .next (if t.flags.getLsbD 0 || t.flags.getLsbD 3 then s4 else heldBack i s4)

/-- R296: no valid token for 1 ms on a port. -/
def execTokenSilence (port : Nat) (s : State) : Out := if portUp s port then .next (suspectPeer port 1 s) else .next s

/-- R293, R296: a suspicion report reaches the module that decides. -/
def execSuspicionReport (reporter suspect port cause epoch : Nat) (s : State) : Out :=
  if !hasPosition s || suspicionTo s suspect != ownRoster s || !inRoster s suspect || epoch > rosterEpoch s || !(1 ≤ cause && cause ≤ 3) then .next s
  else .next (takeReport reporter suspect port cause s)

/-- R296: a probe reaches this module and is answered over any route. -/
def execProbe (index : Nat) (s : State) : Out := .next (emit (.vc7 "PROBE_ANSWER" index [ownRoster s, rosterEpoch s]) s)

/-- R296: the suspect has answered. -/
def execProbeAnswer (index : Nat) (s : State) : Out :=
  .next { s with fab := { s.fab with suspicions := s.fab.suspicions.map (fun x => if x.suspect = index then { x with answered := true } else x) } }

/-- R297: a module begins a module reset. -/
def execResetNotice (index epoch boundMs : Nat) (s : State) : Out :=
  if !inRoster s index || epoch > rosterEpoch s then .next s
  else .next { s with fab := { s.fab with notices := s.fab.notices.filter (fun x => x.1 != index) ++ [(index, boundMs)] } }

/-- R297: a notice reaches its bound unanswered, which counts as the first report of a suspicion. -/
def execResetNoticeExpiry (index : Nat) (s : State) : Out :=
  if !noticed s index then .next s
  else .next (takeReport (ownRoster s) index 0xFF 1 { s with fab := { s.fab with notices := s.fab.notices.filter (fun x => x.1 != index) } })

/-! ### Decisions (R296, R298, R303 to R305) -/

/-- Suspicions that are decided together with that of a module: those of its cohort, neither answered nor under a notice (R307). -/
def together (s : State) (i : Nat) : List Nat :=
  ((s.fab.suspicions.filter (fun x => !x.answered && !noticed s x.suspect && cohortOf s x.suspect == cohortOf s i && inRoster s x.suspect)).map (·.suspect))

/-- Suspicions taken off. -/
def dropSuspicions (l : List Nat) (s : State) : State := { s with fab := { s.fab with suspicions := s.fab.suspicions.filter (fun x => !l.contains x.suspect) } }

/-- Gathering ends for a suspect (R296 steps 3 and 4). -/
def decideSuspect (i : Nat) (s : State) : State :=
  match s.fab.suspicions.find? (fun x => x.suspect == i) with
  | none => s
  | some x =>
    if x.answered || !inRoster s i then dropSuspicions [i] s
    else if noticed s i then decide' (cohortOf s i) 2 [i] true (dropSuspicions [i] s)
    else
      let l := i :: (together s i).filter (fun j => j != i)
      dropSuspicions l (decide' (cohortOf s i) 3 l true s)

/-- Evictions of a cohort within the quota's interval, by the local count of block 8 in ns (R304). -/
def recentEvictions (s : State) (co : Nat) : List Nat :=
  (s.fab.evictions.filter (fun x => x.1 == co && decide (lcountOf s 8 < x.2 + (inForce s).2.2.2.1 * 60000000000))).map Prod.snd

/-- The quota allows one more. -/
def quotaAllows (s : State) (co : Nat) : Bool := decide ((recentEvictions s co).length < (inForce s).2.2.1)

/-- Minutes until the quota frees, rounded up; all ones where it allows none. -/
def quotaMinutes (s : State) (co : Nat) : Nat :=
  let f := inForce s
  if f.2.2.1 = 0 then 0xFFFF
  else
    let t := (recentEvictions s co).getD ((recentEvictions s co).length - f.2.2.1) 0
    (t + f.2.2.2.1 * 60000000000 - lcountOf s 8 + 59999999999) / 60000000000

/-- R303 to R305 for one member at a COMMIT of its slices, by its steward. -/
def considerOne (i : Nat) (s : State) : State :=
  let co := cohortOf s i
  let sc := scoreOf s i
  let f := inForce s
  let prob := entrySt (rosterEntry s i) == 4
  if !(entrySt (rosterEntry s i) == 1 || prob) then s
  else if f.1 ≤ sc then (if prob then decide' co 7 [i] false s else s)
  else if sc < f.2.1 then decide' co 4 [i] false s
  else if (sparePool s i []).isEmpty then (if prob then s else decide' co 6 [i] false s)
  else if quotaAllows s co then
    decide' co 4 [i] false { s with fab := { s.fab with evictions := s.fab.evictions ++ [(co, lcountOf s 8)], deferred := s.fab.deferred.filter (fun j => j != i) } }
  else if s.fab.deferred.contains i then s
  else
    raise0 0x0C04 8 (pack [(0, 14, i), (32, 10, sc), (48, 16, quotaMinutes s co)])
      (count1 .cohortDeferCount_count 0 { s with fab := { s.fab with deferred := s.fab.deferred ++ [i] } })

/-- Members in the order of R304: lowest score first, then the higher roster index. -/
def evictOrder (s : State) (l : List Nat) : List Nat :=
  l.insertionSort (fun a b => (scoreOf s a < scoreOf s b || (scoreOf s a == scoreOf s b && decide (b ≤ a))) = true)

/-- R303: the steward considers every member of its cohort that the slice lists, at a COMMIT. -/
def considerAll (slice : Nat) (s : State) : State :=
  if !isSteward s then s
  else
    let co := rget s .cohortSelf_cohort 0
    let l := ((sget? s.fab.slices slice).elim [] (·.members)).filter (fun i => cohortOf s i == co && inRoster s i)
    (evictOrder s l).foldl (fun s i => considerOne i s) s

/-- The hard flag of a member set (R305). -/
def hardOn (i : Nat) (s : State) : State :=
  if hasPosition s && i == ownRoster s then setHard s
  else emit (.vc7 "SET_HARD" i []) { s with fab := { s.fab with scores := sput s.fab.scores i 0 } }

/-- R298: when gathering ends the steward decides. Causes: 0 replay; 1 to 3 a suspicion; 4 the score; 5 a bypass of quota and floor. -/
def execStewardDecision (suspect cause : Nat) (s : State) : Out :=
  if !hasPosition s then .next s
  else if cause = 0 then
    .next (allSteps (fun c s => abort3 c suspect s)
      (emit (.vc7 "ROSTER" 0x3FFF [rosterEpoch s, rosterEpoch s, primaryOf s, rget s .cohortSelf_cohort 0, 1, 0]) (count1 .cohortDecisionCount_count 0 s)))
  else if cause ≤ 3 then .next (decideSuspect suspect s)
  else if !isSteward s || stewardOf s (cohortOf s suspect) != ownRoster s || !inRoster s suspect then .next s
  else if cause = 4 then .next (considerOne suspect s)
  else if cause = 5 then .next (decide' (cohortOf s suspect) 4 [suspect] false (hardOn suspect s))
  else .next s

/-- R424: a quiescing module departs: decided without a probe. -/
def execDepartureNotice (index epoch : Nat) (s : State) : Out :=
  if !hasPosition s || suspicionTo s index != ownRoster s || !inRoster s index || epoch > rosterEpoch s then .next s
  else .next (decide' (cohortOf s index) 3 [index] false (dropSuspicions [index] s))

/-- R305: the member of a pair with the lower score, and on equal scores the higher roster index. -/
def lowerOf (s : State) (a b : Nat) : Nat :=
  if scoreOf s a < scoreOf s b then a else if scoreOf s b < scoreOf s a then b else Nat.max a b

/-- R242, R305: a hard-fault report: the fourth failure of a micro-batch removes its module; a failed commit digest the worse of the pair. -/
def execHardFaultReport (index ctx cause : Nat) (s : State) : Out :=
  if !isSteward s || !inRoster s index then .next s
  else
    let t := if hasPosition s && index == ownRoster s then (stepOf s ctx).twin.getD index else Config.memberTwin index
    let i := if cause = 1 then index else if inRoster s t then lowerOf s index t else index
    .next (decide' (cohortOf s i) 4 [i] false (hardOn i s))

/-- Stewards named in the roster. -/
def stewards (s : State) : Nat := ((rosterList s).filter (fun x => x.2.testBit 1)).length

/-- R294: the primary is suspect. Its deputy takes the role where it reaches more than half of the stewards, and decides; any other steward
that has no primary raises COHORT_PRIMARY_LOST. -/
def execPrimaryTakeover (reachable : Nat) (s : State) : Out :=
  let p := primaryOf s
  if !hasPosition s || p = ownRoster s || p = 0x3FFF || !suspects s p then .next s
  else if deputyOf s (cohortOf s p) = ownRoster s && stewards s < 2 * reachable then
    let again := s.fab.policy.map (fun y => (y.1, (y.2.1, y.2.2.1, lcountOf s 8)))
    let s0 := { s with fab := { s.fab with evictions := [], shares := [], markedAt := [], policy := again } }
    let s1 := rset .cohortRoster_entry p (rosterEntry s p - 8) (rset .cohortSelf_primary 0 1 s0)
    let l := p :: (together s1 p).filter (fun j => j != p)
    .next (dropSuspicions l (decide' (cohortOf s p) 3 l true s1))
  else if isSteward s || deputyOf s (cohortOf s p) = ownRoster s then
    .next (raise0 0x0C06 8 (pack [(0, 14, p), (64, 64, rosterEpoch s)]) (rflag .cohortStatus_primaryLostSeen 0 s))
  else .next s

/-! ### Health (R302) -/

/-- Entries of a kind in the last 24 powered hours. -/
def healthSum (s : State) (kind : Nat) : Nat :=
  ((s.sp.health.filter (fun x => x.2.1 == kind && decide (s.alm.hours < x.1 + 24))).map (fun x => x.2.2)).sum

/-- Trained links at width 4 or 2. -/
def narrowLinks (s : State) : Nat :=
  ((List.range 32).filter (fun p => portUp s p && (rget s .linkPortState_width p == 4 || rget s .linkPortState_width p == 2))).length

/-- The penalties of Table 12.4: p_err, p_det, p_rep, p_spare, p_pool, p_margin. -/
def penalties (s : State) : List Nat :=
  [Nat.min 150 (healthSum s 0 / 1024), Nat.min 400 (40 * healthSum s 1), Nat.min 200 (25 * healthSum s 2),
   Nat.min 150 (30 * leapChannels s + 10 * narrowLinks s + 5 * leapLanes s), 75 * (4 - Nat.min 4 (minIdle s)),
   (moduleYears s).elim 0 (fun y => if 30 ≤ y then 0 else if 10 ≤ y then 50 else 150)]

/-- The score recomputed. -/
def scoreNow (s : State) : State :=
  let p := penalties s
  let s1 := rset .cohortPenalty_pMargin 0 (p.getD 5 0) (rset .cohortPenalty_pPool 0 (p.getD 4 0) (rset .cohortPenalty_pSpare 0 (p.getD 3 0)
    (rset .cohortPenalty_pRep 0 (p.getD 2 0) (rset .cohortPenalty_pDet 0 (p.getD 1 0) (rset .cohortPenalty_pErr 0 (p.getD 0 0) s)))))
  rset .cohortHealth_score 0 (if rget s .cohortHealth_hard 0 = 1 then 0 else 1000 - p.sum) s1

/-- R302: the health score is recomputed. -/
def execHealthScore (s : State) : Out := .next (scoreNow s)

/-! ### The fabric manager (R306) -/

/-- R306: a plan (kind 0), a slice definition (1, `arg` the slice) or a route table (2) delivered over VC7 is executed as the matching command. -/
def execFabricManagerDelivery (kind : Nat) (data : List Byte) (arg : Nat) (s : State) : Out :=
  if kind = 0 then .next (takePlan data s).1
  else if kind = 1 then .next (takeSlice arg data s).1
  else if kind = 2 then
    let t := entries 16 (data.length / 16) data
    .next (if (routeBad t).isSome then s else takeRoutes 0x10000 arg t s)
  else .next s

/-- R306: a roster or hang notice. A module that has not the roster of a notice asks for it; a hang notice's module is one that this module
waits for no more. -/
def execRosterNotice (hang : Bool) (index epoch : Nat) (s : State) : Out :=
  let s1 := if hang then { s with fab := { s.fab with scores := sdel s.fab.scores index } } else s
  if hasPosition s && rosterEpoch s < epoch then .next (askRoster s1) else .next s1

/-! ### Commit records (R248) -/

/-- R248: a steward answers a module that returned from a reset in SEALED: the COMMIT of its step, or that there is none. -/
def execCommitRecordRequest (index ctx step attempt : Nat) (s : State) : Out :=
  let n := (s.fab.commits.find? (fun x => x.1 == ctx && x.2.1 == step && x.2.2.1 == attempt)).elim 0 (fun x => x.2.2.2)
  .next (emit (.vc7 "COMMIT" index [ctx, step, attempt, n, rosterEpoch s]) s)

end Sys2Proof.Machine
end

