-- ==== Sys2Proof/Machine/Commit.lean ====
section
/-! DEFINITION. The commit round: lateness, seals, COMMIT, stragglers, Equinox shares and harvest marks at stewards and the primary
(R226, R247, R248, R255 to R258, R310 to R312, R371, R372). -/

namespace Sys2Proof.Machine

/-! ### Lateness (R226) -/

/-- R226: a lateness report reaches a steward. -/
def execLatenessReport (m : LateMsg) (s : State) : Out :=
  if !isSteward s || cohortOf s m.roster != rget s .cohortSelf_cohort 0 then .next s
  else .next { s with fab := { s.fab with late := s.fab.late ++ [m] } }

/-- The first report of each cohort member for an attempt that carries neither flag. -/
def lateReports (s : State) (c step att : Nat) : List LateMsg :=
  let l := s.fab.late.filter (fun m => m.ctx == c && m.step == step && m.attempt == att && m.flags % 4 == 0)
  ((l.map (·.roster)).eraseDups).filterMap (fun i => l.find? (fun m => m.roster == i))

/-- The median ready time: of an even count the lower of the two middle values. -/
def medianW (l : List LateMsg) : Nat := (((l.map (·.w)).insertionSort (· ≤ ·)).drop ((l.length - 1) / 2)).headD 0

/-- round(1,000 (w - median) / median), halves away from zero, saturating at 16 bits. -/
def lateOf (w med : Nat) : Int :=
  if med = 0 then Config.lateZero w
  else
    let n : Int := 1000 * ((w : Int) - med)
    let r := (2 * n.natAbs + med) / (2 * med)
    if n < 0 then max (-(r : Int)) (-32768) else min r 32767

/-- A member's lateness in a committed attempt: 32,767 where its report has not arrived; none where no exchange was reported at all. -/
def lateness (s : State) (c step att i : Nat) : Option Int :=
  let l := lateReports s c step att
  if l.isEmpty then none
  else some ((l.find? (fun m => m.roster == i)).elim 32767 (fun m => lateOf m.w (medianW l)))

/-! ### Stragglers (R255 to R258) -/

/-- Key of a member in a context. -/
def memKey (c i : Nat) : Nat := c * 16384 + i

/-- R255, R258 for one member at a COMMIT: its runs of straggling steps and of steps within the threshold, and whether backups go on. -/
def straggleOne (c i : Nat) (lat : Int) (s : State) : State :=
  let x := stepOf s c
  let over' := decide (0 < x.pct) && decide (10 * (x.pct : Int) < lat)
  let old := sget (0, 0) s.fab.straggle (memKey c i)
  let new := if over' then (Nat.min 255 (old.1 + 1), 0) else (0, Nat.min 65535 (old.2 + 1))
  let on := s.fab.wanted.contains (c, i)
  let want := if x.pct = 0 then false else if on then decide (new.2 < Nat.max 1 x.runSteps) else decide (Nat.max 1 x.runSteps ≤ new.1)
  { s with fab := { s.fab with straggle := sset (0, 0) s.fab.straggle (memKey c i) new, lastLate := sput s.fab.lastLate (memKey c i) lat,
                               wanted := s.fab.wanted.filter (fun w => w != (c, i)) ++ if want then [(c, i)] else [] } }

/-- STRAGGLER_BACKUP: what 0 start, 1 stop, 2 none. -/
def backupEvent (c member module what : Nat) (s : State) : State :=
  raiseBoth 0x0A04 9 c (pack [(0, 14, member), (16, 14, module), (32, 2, what)]) s

/-- The backups of a context end at its COMMIT. -/
def endBackups (c : Nat) (s : State) : State :=
  (s.fab.backups.filter (fun b => b.ctx == c)).foldl (fun s b => backupEvent c b.member b.module 1 (emit (.vc7 "BACKUP_STOP" b.module [c, b.member]) s))
    { s with fab := { s.fab with backups := s.fab.backups.filter (fun b => b.ctx != c) } }

/-- R256: who runs a backup: the lowest idle hot spare of the cohort, else the member's twin where it was not late. -/
def backupFor (s : State) (c i : Nat) : Option Nat :=
  let spares := ((rosterList s).filter (fun x => entrySt x.2 == 2 && entryCohort x.2 == rget s .cohortSelf_cohort 0 &&
    !s.fab.backups.any (fun b => b.module == x.1))).map Prod.fst
  match least spares with
  | some j => some j
  | none =>
    let t := Config.memberTwin i
    if entrySt (rosterEntry s t) == 1 && (sget? s.fab.lastLate (memKey c t)).elim false (fun l => decide (l ≤ 0)) then some t else none

/-- R255: at STEP_OPEN the steward starts the backups, at most four in its cohort, where the plan allows them. -/
def startBackups (c : Nat) (s : State) : State :=
  if !isSteward s || !(planOr (stepOf s c)).flags.testBit 0 then s
  else
    (s.fab.wanted.filter (fun w => w.1 == c)).foldl (fun s w =>
      if 4 ≤ s.fab.backups.length || s.fab.backups.any (fun b => b.ctx == c && b.member == w.2) then s
      else match backupFor s c w.2 with
        | some j => backupEvent c w.2 j 0 (emit (.vc7 "BACKUP_START" j [c, w.2, stepNo s c]) { s with fab := { s.fab with backups := s.fab.backups ++ [⟨c, w.2, j⟩] } })
        | none => backupEvent c w.2 0 2 s) s

/-! ### Equinox (R371, R372) -/

/-- A signed value of 16 bits. -/
def enc16 (v : Int) : Nat := (v % 65536).toNat

/-- The share that came last is applied at STEP_OPEN. -/
def useShare (s : State) : State :=
  let v := rget s .pwrBudget_shareW 0
  setBudget { s with pow := { s.pow with share := if v < 32768 then (v : Int) else (v : Int) - 65536 } }

/-- At a COMMIT: a share that two committed steps have not renewed returns to 0. -/
def ageShare (s : State) : State :=
  let n := s.pow.shareAge + 1
  if n < 2 then { s with pow := { s.pow with shareAge := n } }
  else setBudget (rset .pwrBudget_shareW 0 0 { s with pow := { s.pow with share := 0, shareAge := n } })

/-- A member takes part in Equinox. -/
def inEquinox (s : State) (i : Nat) : Bool :=
  let st := entrySt (rosterEntry s i)
  let own := hasPosition s && i == ownRoster s
  (st == 1 || st == 4) && (if own then rget s .pwrCtl_equinoxOff 0 == 0 && decide (5080 ≤ rget s .pwrTray_grantW 0)
    else !Config.memberEqOff s.free i && decide (5080 ≤ Config.memberGrant s.free i))

/-- Tray of a member. -/
def trayOf (s : State) (i : Nat) : Nat := if hasPosition s && i == ownRoster s then s.fab.trayId else Config.memberTray i

/-- The share of a member of a group: lateness in thousandths of each, its old share. -/
def newShare (late : List (Nat × Int)) (i : Nat) (old : Int) : Int :=
  let r := fun (l : Int) => 72 * max (-150) (min l 150)
  let n : Int := late.length
  let sum := (late.map (fun x => r x.2)).sum
  let d := fun (l : Int) => n * r l - sum
  let m : Int := ((late.map (fun x => (d x.2).natAbs)).foldl Nat.max 0 : Nat)
  let mine := d ((late.find? (fun x => x.1 == i)).elim 0 Prod.snd)
  10 * (if m ≤ 10800 * n then (30 * n * old + mine) / (400 * n) else (3 * old * m + 1080 * mine) / (40 * m))

/-- R371: the shares of one group computed and sent. -/
def shareGroup (late : List (Nat × Int)) (s : State) : State :=
  let g := late.map Prod.fst
  late.foldl (fun s x =>
    let old := ((s.fab.shares.find? (fun y => y.1 == x.1 && y.2.2 == g)).elim 0 (fun y => y.2.1))
    let v := newShare late x.1 old
    emit (.vc7 "EQUINOX_SHARE" x.1 [enc16 v]) { s with fab := { s.fab with shares := s.fab.shares.filter (fun y => y.1 != x.1) ++ [(x.1, v, g)] } }) s

/-- R371: every group of the cohort. -/
def shareAll (late : List (Nat × Int)) (s : State) : State :=
  let l := late.filter (fun x => inEquinox s x.1)
  ((l.map (fun x => trayOf s x.1)).eraseDups).foldl (fun s t => shareGroup (l.filter (fun x => trayOf s x.1 == t)) s) (useFree s)

/-! ### Seals (R247, R310 to R312) -/

/-- Members of a slice that run its steps; a module without a slice commits alone (DEDUCED, log entry 21). -/
def sliceSteppers (s : State) (slice who : Nat) : List Nat :=
  (sget? s.fab.slices slice).elim [who] (fun d => d.members.filter (fun i => [1, 4, 5].contains (entrySt (rosterEntry s i))))

/-- The harvest lead of a slice. -/
def leadOf (s : State) (slice : Nat) : Option Nat :=
  least ((sliceSteppers s slice (ownRoster s)).filter (fun i => healthy s (i, rosterEntry s i)))

/-- R310: a harvest mark is due at the COMMIT of a step. -/
def markDue (s : State) (slice step : Nat) : Bool :=
  s.fab.markNext.contains slice || (sget? s.fab.policy slice).elim false (fun p =>
    (p.1 != 0 && step % p.1 == 0) || (p.2.1 != 0 && decide ((sget? s.fab.markedAt slice).getD p.2.2 + p.2.1 * 1000000000 ≤ lcountOf s 8)))

/-- The primary keeps a mark that falls while a generation is in progress, and counts the skip at the lead (R312). -/
def skipMark (slice : Nat) (s : State) : State :=
  let s1 := { s with fab := { s.fab with markNext := if s.fab.markNext.contains slice then s.fab.markNext else s.fab.markNext ++ [slice] } }
  match leadOf s slice with
  | some i => if i = ownRoster s then count1 .harvestSkipCount_count 0 s1 else emit (.vc7 "HARVEST_SKIP" i [slice]) s1
  | none => s1

/-- A mark set: the generation is in progress and the timer starts again. -/
def setMark (slice : Nat) (s : State) : State :=
  { s with fab := { s.fab with genBusy := s.fab.genBusy ++ [slice], markNext := s.fab.markNext.filter (fun x => x != slice),
                               markedAt := sput s.fab.markedAt slice (lcountOf s 8) } }

/-- The last commit sequence number of a slice. -/
def lastSeq (s : State) (slice c : Nat) : Nat := Nat.max (sget 0 s.fab.sliceSeq slice) (if slice = sliceId s then commitSeq s c else 0)

/-- R247: the primary assigns the number and issues COMMIT through the cohort stewards. -/
def issueCommit (slice : Nat) (m : SealMsg) (l : List Nat) (s : State) : State :=
  let n := lastSeq s slice m.ctx + 1
  let due := markDue s slice m.step
  let busy := s.fab.genBusy.contains slice
  let s1 := { s with fab := { s.fab with sliceSeq := sput s.fab.sliceSeq slice n,
                                         seals := s.fab.seals.filter (fun x => !(x.1 == slice && x.2.ctx == m.ctx)) } }
  let s2 := if !due then s1 else if busy then skipMark slice s1 else setMark slice s1
  ((l.map (fun i => if hasPosition s then stewardOf s (cohortOf s i) else i)).eraseDups).foldl (fun s i =>
    emit (.vc7 "COMMIT" i [m.ctx, m.step, m.attempt, n, rosterEpoch s, b2n (due && !busy)]) s) s2

/-- Every member of a list has sealed the same step and attempt. -/
def allSealed (s : State) (slice : Nat) (m : SealMsg) (l : List Nat) : Bool :=
  l.all (fun i => s.fab.seals.any (fun x => x.1 == slice && x.2.roster == i && x.2.ctx == m.ctx && x.2.step == m.step && x.2.attempt == m.attempt))

/-- A seal kept, in place of an earlier one of the member. -/
def keepSeal (slice : Nat) (m : SealMsg) (s : State) : State :=
  { s with fab := { s.fab with seals := s.fab.seals.filter (fun x => !(x.1 == slice && x.2.roster == m.roster && x.2.ctx == m.ctx)) ++ [(slice, m)] } }

/-- R247: a seal reaches a steward, which passes its cohort's on, or the primary, which issues COMMIT. -/
def execSealRecord (slice : Nat) (m : SealMsg) (s : State) : Out :=
  let l := sliceSteppers s slice m.roster
  if !l.contains m.roster || !(isSteward s || isPrimary s || (!hasPosition s && m.roster == ownRoster s)) then .next s
  else
    let s1 := keepSeal slice m s
    if isPrimary s || !hasPosition s then
      (if allSealed s1 slice m l then .next (issueCommit slice m l s1) else .next s1)
    else
      let mine := l.filter (fun i => cohortOf s i == rget s .cohortSelf_cohort 0)
      if allSealed s1 slice m mine then
        .next ((s1.fab.seals.filter (fun x => x.1 == slice && mine.contains x.2.roster && x.2.ctx == m.ctx)).foldl (fun s x =>
          emit (.vc7 "SEAL" (primaryOf s) [slice, x.2.roster, x.2.ctx, x.2.step, x.2.attempt, x.2.digest.toNat, x.2.flags]) s) s1)
      else .next s1

/-- R310, R311: the primary receives the lead's policy, or a HARVEST_NOW. -/
def execHarvestRequest (slice member : Nat) (policy : Option (Nat × Nat)) (closedEverywhere : Bool) (s : State) : Out :=
  if !isPrimary s && hasPosition s then .next s
  else
    match policy with
    | some (e, t) =>
      if leadOf s slice = some member then .next { s with fab := { s.fab with policy := sput s.fab.policy slice (e, t, lcountOf s 8) } } else .next s
    | none =>
      if closedEverywhere && !s.fab.genBusy.contains slice then .next (emit (.vc7 "HARVEST_MARK" 0x3FFF [slice]) (setMark slice s))
      else .next { s with fab := { s.fab with markNext := if s.fab.markNext.contains slice then s.fab.markNext else s.fab.markNext ++ [slice] } }

/-! ### COMMIT (R248) -/

/-- What a steward does with a COMMIT: it keeps the record, passes it on with each member's lateness, and looks at its members. -/
def stewardCommit (c : Nat) (m : CommitMsg) (s : State) : State :=
  if !isSteward s || s.fab.commits.any (fun x => x.1 == c && x.2.2.2 == m.seq) then s
  else
    let l := (sliceSteppers s (sliceId s) (ownRoster s)).filter (fun i => cohortOf s i == rget s .cohortSelf_cohort 0)
    let late := l.filterMap (fun i => (lateness s c m.step m.attempt i).map (fun v => (i, v)))
    let active := fun (i : Nat) => s.fab.backups.any (fun b => b.ctx == c && b.member == i)
    let s1 := { s with fab := { s.fab with commits := (c, m.step, m.attempt, m.seq) :: s.fab.commits.filter (fun x => x.1 != c),
                                           late := s.fab.late.filter (fun x => !(x.ctx == c && decide (x.step ≤ m.step))) } }
    let s2 := late.foldl (fun s x => straggleOne c x.1 x.2 s) s1
    let s3 := (l.filter (fun i => i != ownRoster s)).foldl (fun s i =>
      let v := ((late.find? (fun x => x.1 == i)).elim 0 Prod.snd)
      emit (.vc7 "COMMIT" i [c, m.step, m.attempt, m.seq, m.epoch, b2n m.mark, enc16 v, (sget (0, 0) s.fab.straggle (memKey c i)).1, b2n (active i)]) s) s2
    let s4 := match late.find? (fun x => x.1 == ownRoster s) with
      | some x => rset .stepCtxStraggle_lateness c (enc16 x.2) (rset .stepCtxStraggle_run c (sget (0, 0) s3.fab.straggle (memKey c x.1)).1
          (rset .stepCtxStraggle_backup c (b2n (active x.1)) s3))
      | none => s3
    shareAll late (considerAll (sliceId s) (endBackups c s4))

/-- STEP_CTX_STRAGGLE as the steward reports it. -/
def straggleRegs (c : Nat) (m : CommitMsg) (s : State) : State :=
  match m.late with
  | some (v, run, b) => rset .stepCtxStraggle_lateness c (enc16 v) (rset .stepCtxStraggle_run c (Nat.min run 255) (rset .stepCtxStraggle_backup c (b2n b) s))
  | none => s

/-- R248, R302, R310, R372: COMMIT. One with the sequence number 0 answers a module that asked for a commit record: there is none. -/
def execCommit (ctx : Nat) (m : CommitMsg) (s : State) : Out :=
  if m.seq = 0 then .next (modStep ctx (fun x => { x with askCommit := false }) s)
  else
    let s1 := straggleRegs ctx m (stewardCommit ctx m s)
    if (ctx? s ctx).isNone || s.fab.out || m.step ≤ rget s .stepCtxCommitted_step ctx then .next s1
    else if !commitMatches s ctx m then .next (hardFault ctx 3 s1)
    else
      let s2 := scoreNow (ageShare (flip ctx m.seq s1))
      .next (if m.mark then markStep ctx m (rget s2 .harvestCtxGen_generation ctx + 1) s2 else s2)

/-! ### STEP_OPEN (R77, R230, R237) -/

/-- R77, R230, R237: STEP_OPEN, once the previous step has committed or been aborted (R70). -/
def execStepOpen (h : CmdRef) (step : Word64) (microbatches : BitVec 16) (s : State) : Out :=
  .next (runCmd 0x30 h (fun s =>
    let c := h.ctx
    let n := step.toNat
    if stepOpenSt s c then s
    else if microbatches = 0 then badParam h 0 s
    else if n ≤ rget s .stepCtxCommitted_step c || n < stepNo s c || (n == stepNo s c && stepSt s c != 5) then finish h stStepSequence 0 s
    else
      let again := n == stepNo s c
      match if again then (match (stepOf s c).plan with | some p => Except.ok p | none => readPlan s c) else readPlan s c with
      | .error d => badParam h d s
      | .ok p =>
        let s1 := if stepSt s c = 5 && !again then abandon h s else s
        finish h stOk (rget s .stepCtxCommitted_step c) (startBackups c (useShare (leaveIdle (openStep c n microbatches.toNat p s1))))) s)


end Sys2Proof.Machine
end

