-- ==== Sys2Proof/Machine/Start.lean ====
section
/-! DEFINITION. Power-good, the start sequence, the firmware image, attestation, shutdown and the Ember test, HELD, loss of input, the pins
(ch. 17, ch. 19). -/

namespace Sys2Proof.Machine

/-! ### The firmware image (R415 to R417) -/

/-- Header of the image in a slot; none where the slot holds no image. -/
def slotHeader (s : State) (b : Bool) : Option (List Byte) :=
  if b then s.boot.slotB.map (·.header) else some (s.boot.slotA.elim ((List.range 4096).map Config.factoryByte) (·.header))

/-- Bytes of a range that are all zero. -/
def zeroAt (b : List Byte) (off n : Nat) : Bool := ((b.drop off).take n).all (fun x => x == 0)

/-- Table 17.3a: the first check that an image fails; 0 where it is valid. -/
def imageCheck (s : State) (x : FwSlot) : Nat :=
  let h := x.header
  let n := pktNat h 0x18 8
  let root := pktNat h 0x13 1
  if pktNat h 0 4 ≠ 0x4755524D || pktNat h 4 2 ≠ 1 || pktNat h 6 2 ≠ 0 || !zeroAt h 0x14 4 || !zeroAt h 0x40 4032 || n = 0 || 33538048 < n ||
      h.length ≠ 4096 || x.body.length ≠ n || x.sig.length ≠ 5376 then 1
  else if 4 ≤ root || Config.revoked root || sha256 (x.sig.take 1984) ≠ (List.range 32).map (Config.rootHash root) then 2
  else if !Config.edVerify (x.sig.take 32) h ((x.sig.drop 1984).take 64) then 3
  else if !Config.mlVerify ((x.sig.drop 32).take 1952) (ascii "Miruengo image v1") h ((x.sig.drop 2048).take 3309) then 4
  else if pktNat h 0x10 2 < s.boot.counter || 64 < pktNat h 0x10 2 then 5
  else if (h.drop 0x20).take 32 ≠ sha256 x.body then 6
  else 0

/-- The check of a slot at start. The image of delivery passes every check but, later, that of the counter. -/
def slotCheck (s : State) (b : Bool) : Nat :=
  match b, s.boot.slotA, s.boot.slotB with
  | false, none, _ => if pktNat ((List.range 4096).map Config.factoryByte) 0x10 2 < s.boot.counter then 5 else 0
  | false, some x, _ => imageCheck s x
  | true, _, none => 1
  | true, _, some x => imageCheck s x

/-- fw_version of the image in a slot, 0 where none is valid. -/
def slotVersion (s : State) (b : Bool) : Nat :=
  if slotCheck s b = 0 then (slotHeader s b).elim 0 (fun h => pktNat h 8 8) else 0

/-- The slot that runs. -/
def runSlot (s : State) : Bool := rget s .mcBootStatus_slot 0 == 1

/-- Header of the running image. -/
def runHeader (s : State) : List Byte := (slotHeader s (runSlot s)).getD []

/-- The inactive slot written. -/
def putSlot (b : Bool) (x : FwSlot) (s : State) : State :=
  { s with boot := if b then { s.boot with slotB := some x, staged := true } else { s.boot with slotA := some x, staged := true } }

/-- R416: FW_STAGE checks an image in the context's window and writes it to the inactive slot. -/
def execFwStage (h : CmdRef) (image bytes : Word64) (s : State) : Out :=
  .next (runPriv 0xF0 h (fun s =>
    let r := cmdRead h.ctx image.toNat bytes.toNat s
    let b := r.1.bytes
    let n := bytes.toNat - 9472
    let x : FwSlot := ⟨b.take 4096, (b.drop 4096).take n, b.drop (4096 + n)⟩
    let e := imageCheck r.2 x
    if e ≠ 0 then finish h stFwRejected e r.2
    else
      let v := pktNat x.header 8 8
      finishOk h (raise0 0x1102 0 v (rset .mcFwStaged_version 0 v (putSlot (!runSlot r.2) x r.2)))) s)

/-- R417: FW_ACTIVATE marks the image of the inactive slot as preferred. Where there is none that is valid it is rejected as a start would
reject it. -/
def execFwActivate (h : CmdRef) (s : State) : Out :=
  .next (runPriv 0xF1 h (fun s =>
    let b := !runSlot s
    let e := slotCheck s b
    if e ≠ 0 then finish h stFwRejected e s else finishOk h { s with boot := { s.boot with prefB := b } }) s)

/-! ### HELD (R411, R429) -/

/-- MC_STATUS.phase: 0 STRAP, 1 RUN, 2 EMBER, 3 HELD. -/
def phase (s : State) : Nat := rget s .mcStatus_phase 0

/-- Every island and engine stops; what they were doing is gone. -/
def stopAll (s : State) : State :=
  { s with eng := [], core := [], oct := [], gr := { s.gr with runs := [] }, pow := { s.pow with isl := [], stages := [], throttle := false },
           vig := { s.vig with resets := [], remote := [] } }

/-- R429: the module enters HELD with a reason of Table 17.8. The hard flag is set (R302). -/
def enterHeld (reason : Nat) (s : State) : State :=
  let s1 := setHard (rset .mcStatus_ready 0 0 (rset .mcStatus_phase 0 3 (rset .mcBootStatus_heldReason 0 reason (stopAll s))))
  let s2 := [Fld.hostifLink_up, .hostifLink_width, .hostifLink_rate, .hostifLink_flit].foldl (fun s f => rset f 0 0 s) s1
  (List.range 32).foldl (fun s p => rset .linkPortState_state p 0 (rset .linkPortState_width p 0 s)) { s2 with boot := { s2.boot with starting := false } }

/-! ### Power-good (R418, R470) -/

/-- Table 19.6: slot, tray type and class of the eight strap levels, where the combination is assigned. -/
def strapDecode (l : List Nat) : Option (Nat × Nat × Nat) :=
  let t := fun i => l.getD i 3
  let slot := 9 * t 2 + 3 * t 1 + t 0
  let top := if t 3 = 0 then 3 else if t 3 = 1 then 7 else 0
  if l.length = 8 && l.all (fun x => decide (x < 3)) && decide (slot ≤ top) && t 5 == 1 && t 6 == 1 && t 7 == 1 then some (slot, t 3, t 4) else none

/-- R474: MC_STRAPS. -/
def setStraps (l : List Nat) (s : State) : State :=
  let d := (strapDecode l).getD (0, 0, 0)
  rset .mcStraps_levels 0 ((l.mapIdx (fun i x => x * 4 ^ i)).sum) (rset .mcStraps_slot 0 d.1 (rset .mcStraps_trayType 0 d.2.1
    (rset .mcStraps_planClass 0 d.2.2 (rset .mcStraps_assigned 0 (b2n (strapDecode l).isSome) s))))

/-- R273: every port starts to train. -/
def trainPorts (s : State) : State := (List.range 32).foldl (fun s p => rset .linkPortState_state p 1 s) s

/-- Table 17.4, step 3: an image runs from a slot; the ports train once the dies are up. -/
def runImage (b fallback : Bool) (s : State) : State :=
  let s1 := rset .mcBootStatus_fallback 0 (b2n fallback) (rset .mcBootStatus_slot 0 (b2n b) s)
  let h := runHeader s1
  let s2 := rset .mcFwVersion_running 0 (pktNat h 8 8) (rset .mcFwSvn_image 0 (pktNat h 0x10 2) (rset .mcFwSvn_counter 0 s.boot.counter s1))
  rset .mcFwStaged_version 0 (slotVersion s (!b)) (rset .mcStatus_phase 0 1 (trainPorts { s2 with boot := { s2.boot with starting := true } }))

/-- R416, R417: the preferred slot, else the other one, else HELD. -/
def bootImage (s : State) : State :=
  let b := s.boot.prefB
  let e := slotCheck s b
  let f := slotCheck s (!b)
  if e = 0 then runImage b false s
  else if f = 0 then runImage (!b) true s
  else enterHeld (if e = 5 && f = 5 then 3 else 2) s

/-- R418, steps 1 to 3: power-good samples the straps, the boot ROM checks OTP and image. -/
def execPowerGood (straps : List (BitVec 2)) (otpOk fdieOk : Bool) (s : State) : Out :=
  .next (if s.boot.powered then s
    else
      let l := straps.map (·.toNat)
      let s1 := setStraps l { s with boot := { s.boot with powered := true } }
      if (strapDecode l).isNone then enterHeld 0xA s1
      else if !otpOk then enterHeld 4 s1
      else if !fdieOk then enterHeld 5 s1
      else bootImage s1)

/-! ### The end of the start (R418 to R421, Table 17.4) -/

/-- R419: a start is a quick start. -/
def quickStart (s : State) (chainOk : Bool) : Bool :=
  (match s.alm.lastEmber with | some (r, k) => k == 0 && decide (r ≤ 2) | none => false) &&
  rget s .mcFwVersion_running 0 == s.alm.lastFw && !s.alm.refurb && chainOk

/-- What a block leaves to a start. -/
def snapAt (s : State) (n : Nat) : AlmSnap := (sget? s.alm.saves n).getD AlmSnap.made

/-- The leap maps, tables and counts of a snapshot in force; what R335 counts since start-up, what waits and what is held is gone. -/
def loadSnap (x : AlmSnap) (s : State) : State :=
  let s1 : State := { s with sp := { x.sp with rowHits := [], held := [], waiting := [] }, mem := { s.mem with chanMap := x.chanMap },
                             alm := { s.alm with hours := x.hours, refurb := x.refurb, note := x.note } }
  rset .almanacGrade_leaseTerm 0 x.lease (rset .almanacGrade_grade 0 (gradeOf s1) (rset .almanacGrade_trimmed 0 (b2n (anyTrim s1)) s1))

/-- Clusters of a sector that are healthy. -/
def healthyIn (s : State) (d sec : Nat) : Nat :=
  132 - (s.sp.clState.filter (fun x => x.1 / 2112 == d && sectorOf (x.1 % 2112) == sec && x.2 != 1)).length

/-- A failing channel: its logical channel goes to the leap channel, where that is idle and healthy. -/
def spareChannel (bad : List (Nat × Nat)) (d p : Nat) (s : State) : State :=
  match (List.range 13).find? (fun ch => physChan s d ch == p) with
  | none => s
  | some ch =>
    if (List.range 13).any (fun c => physChan s d c == 13) || bad.contains (d, 13) then s
    else substDone kChannel d 9 2 ch p 13 { s with mem := { s.mem with chanMap := sset ch s.mem.chanMap (d * 13 + ch) 13 } }

/-- Logical channels of a die that are left without a healthy physical channel. -/
def lostChannels (s : State) (bad : List (Nat × Nat)) (d : Nat) : Nat :=
  ((List.range 13).filter (fun ch => bad.contains (d, physChan s d ch))).length

/-- R356: the shape that a die presents. -/
def shapeOf (s : State) (bad : List (Nat × Nat)) (d : Nat) : Nat :=
  let low := (List.range 16).foldl (fun m x => Nat.min m (healthyIn s d x)) 132
  let lost := lostChannels s bad d
  if low < 112 || 2 ≤ lost then 4 else b2n (decide (low < 128)) + 2 * b2n (decide (1 ≤ lost))

/-- R421, R427: what a whole-module test found: units replaced from their pools, and dies trimmed or fenced. -/
def applyFound (f : TestFound) (s : State) : State :=
  let s1 := f.clusters.foldl (fun s x => if sget 0 s.sp.clState (islKey x.1 x.2) = 0 then substCluster x.1 x.2 9 2 s else setClState x.1 x.2 2 s) s
  let s2 := f.channels.foldl (fun s x => spareChannel f.channels x.1 x.2 s) s1
  (List.range 8).foldl (fun s d => { s with sp := { s.sp with dieTrim := sset 0 s.sp.dieTrim d (shapeOf s f.channels d) } }) s2

/-- R359: the cold test after a refurbishment note. Units that do not fail again become idle spares; those retired for margin stay. -/
def refurbish (f : TestFound) (s : State) : State :=
  let n := leNat s.alm.note
  let named := fun (d p : Nat) => n.testBit (14 * d + p) && !f.channels.contains (d, p)
  let back := fun (x : Nat × Nat) => !((x.2 == 1 || x.2 == 2) && !f.clusters.contains (x.1 / 2112, x.1 % 2112))
  let backC := fun (x : Nat × Nat) => !(x.2 == 1 || x.2 == 2)
  let sp := { s.sp with clState := s.sp.clState.filter back, coreState := s.sp.coreState.filter backC, corr := [],
                        plans := s.sp.plans.map (fun x => (x.1, { x.2 with down := 0, up := 0, replans := 0 })), delta := [], fitNum := [], fitDen := [] }
  let s1 := { s with sp := sp, mem := { s.mem with chanMap := s.mem.chanMap.filter (fun x => !named (x.1 / 13) (x.1 % 13)) },
                     alm := { s.alm with refurb := false, note := [] } }
  rset .almanacGrade_leaseTerm 0 (Nat.min 255 (rget s .almanacGrade_leaseTerm 0 + 1)) s1

/-- R344: the tables of the islands that have readings are planned again; one whose ceiling falls below 2,400 MHz is retired. -/
def planIslands (cold : Bool) (s : State) : State :=
  (s.sp.delta.map Prod.fst).foldl (fun s i =>
    let p := planOf s i
    let d := planDelta s i
    let s1 := if cold || p.d ≠ d then setPlan i { p with d := d } s else s
    if islActive s1 i && decide (ceiling s1 i < 2400) then substCluster (i / 2112) (i % 2112) 10 4 s1 else s1) s

/-- The body of an EMBER record (Table 14.6). -/
def emberBody (code kind ms : Nat) (f : TestFound) : List Byte :=
  leBytes 1 code ++ leBytes 1 kind ++ [0, 0] ++ leBytes 4 (satTo 32 ms) ++ leBytes 4 f.failed ++ leBytes 4 f.spared ++ List.replicate 16 0

/-- The result of a whole-module test (Table 17.7). -/
def resultCode (s : State) (f : TestFound) : Nat :=
  if f.uncovered then 3 else if anyTrim s then 2 else if 0 < f.spared then 1 else 0

/-- Table 17.8: the reason for which a start enters HELD; the tests of step 6 come last. -/
def startHeld (s : State) (cold fdieOk block0Ok : Bool) (f : TestFound) : Option Nat :=
  if !fdieOk then some 5
  else if s.sp.stagesOff.any (fun x => decide (2 < failedStages s (x / 64))) then some 6
  else if !block0Ok then some 9
  else if (liveDies s).isEmpty then some 7
  else if cold && f.uncovered then some 8
  else none

/-- A START record (Table 14.6). -/
def startRecord (cold sealedBefore : Bool) (lastSeq : Nat) (s : State) : State :=
  almMod 0x1 0 (leBytes 1 (b2n cold) ++ leBytes 1 (b2n sealedBefore) ++ List.replicate 6 0 ++ leBytes 8 (rget s .mcFwVersion_running 0) ++
    leBytes 1 (pktNat (runHeader s) 0x12 1) ++ List.replicate 7 0 ++ leBytes 8 lastSeq) s

/-- The records of a start, sealed (Table 17.4, step 8). -/
def startRecords (cold : Bool) (seconds : Nat) (f : TestFound) (s : State) : State :=
  let was := s.alm.lastEmber.isSome
  let seq := rget s .almanacSeq_seq 0
  let s1 := if cold then almSeal 2 (almMod 0x9 0xC (emberBody (resultCode s f) 1 (1000 * seconds) f) s) else s
  let s2 := (List.range 8).foldl (fun s d => marginRecord 2 d s) s1
  sealAll (gradeRecord (startRecord cold was seq s2))

/-- Step 8: registers and events of the completed start. -/
def startDone (cold was : Bool) (seconds : Nat) (s : State) : State :=
  let s1 := rset .mcBootStatus_cold 0 (b2n cold) (rset .mcBootStatus_startS 0 (satTo 8 seconds) (rset .mcBootStatus_emberCode 0 s.alm.emberCode s))
  let s2 := if was then s1 else rflag .mcBootStatus_unsealedSeen 0 s1
  let s3 := rset .mcStatus_cpPresent 0 ((liveDies s).map (fun d => 2 ^ d)).sum (rset .mcStatus_ready 0 1 s2)
  let s4 := raise0 0x1101 0 (pack [(0, 1, b2n cold), (1, 1, rget s .mcBootStatus_fallback 0), (2, 1, b2n was), (4, 4, s.alm.emberCode),
    (8, 8, satTo 8 seconds), (16, 48, rget s .mcFwVersion_running 0)]) { s3 with boot := { s3.boot with starting := false, cold := cold } }
  match s4.boot.counterWas with
  | some c => raise0 0x1103 0 (pack [(0, 16, s4.boot.counter), (16, 16, c)]) { s4 with boot := { s4.boot with counterWas := none } }
  | none => s4

/-- R418 to R421: the start completes, or enters HELD. -/
def execStartComplete (seconds : Nat) (fdieOk block0Ok : Bool) (lastValid : Option Nat) (found : TestFound) (s : State) : Out :=
  .next (if phase s ≠ 1 || !s.boot.starting then s
    else
      let cold := !quickStart s lastValid.isNone
      let was := s.alm.lastEmber.isSome
      let s1 := match lastValid with
        | some n => loadSnap (snapAt s n) s
        | none => s
      let s2 := if cold && s1.alm.refurb then refurbish found s1 else s1
      let s3 := planIslands cold (applyFound found s2)
      match startHeld s3 cold fdieOk block0Ok found with
      | some r => enterHeld r s3
      | none => startDone cold was seconds (startRecords cold seconds found (refreshPools s3)))

/-! ### Attestation (R423) -/

/-- A signature block laid out as in Table 13.2. -/
def sigBlock (role ctx : String) (m : List Byte) : List Byte :=
  padTo 5376 0 (edKey role ++ mlKey role ++ signEd role m ++ signMl role ctx m)

/-- The 256 bytes of Table 17.5. -/
def attestMsg (s : State) (c : Nat) (nonce : List Byte) : List Byte :=
  let h := runHeader s
  let n := rget s .almanacSeq_seq 0
  padTo 256 0 (leBytes 4 0x54535441 ++ leBytes 2 1 ++
    leBytes 2 (pack [(0, 1, b2n s.boot.cold), (1, 1, rget s .mcBootStatus_fallback 0), (2, 1, rget s .mcStatus_controller 0), (3, 1, b2n (anyTrim s))]) ++
    nonce ++ leBytes 8 serialDigest ++ leBytes 8 (rget s .mcFwVersion_running 0) ++ sha256 h ++ leBytes 2 (pktNat h 0x10 2) ++ leBytes 2 s.boot.counter ++
    leBytes 1 (pktNat h 0x12 1) ++ leBytes 1 s.alm.emberCode ++ leBytes 1 (rget s .almanacGrade_grade 0) ++ leBytes 1 (rget s .almanacGrade_leaseTerm 0) ++
    leBytes 8 n ++ sha256 (blockBytes s n) ++ leBytes 8 (geoDigest s (ctxDies s c)) ++ leBytes 8 (rget s .linkPlanDigest_digest 0) ++ leBytes 8 (lcountOf s 0) ++
    leBytes 8 (rget s .stepCtxCommitted_step c) ++ leBytes 8 (commitSeq s c) ++ leBytes 1 c)

/-- R423: ATTEST writes the report. An address that is not 64-byte aligned or not within the window is out of range. -/
def execAttest (h : CmdRef) (dest : Word64) (nonce : BitVec 256) (s : State) : Out :=
  .next (runCmd 0x71 h (fun s =>
    if dest.toNat % 64 ≠ 0 || !rangeIn s h.ctx true dest.toNat 5632 then badParam h 0 s
    else
      let m := attestMsg s h.ctx (leBytes 32 nonce.toNat)
      finishOk h (ctxWrite h.ctx dest.toNat (m ++ sigBlock "attestation" "Decperon attest v1" m) s)) s)

/-! ### Shutdown (R422, R424, R425) -/

/-- The trouble record (Table 16.7). -/
def troubleBytes (s : State) : List Byte :=
  let g := fun (f : Fld) => rget s f 0
  leBytes 8 (pack [(21, 1, g .troubleLog_supplyReset), (20, 1, g .troubleLog_repeatHang), (19, 1, g .troubleLog_remoteTimeout),
    (18, 1, g .troubleLog_disableInflight), (17, 1, g .troubleLog_flr), (16, 1, g .troubleLog_sweepLate), (15, 1, g .troubleLog_quarantine),
    (14, 1, g .troubleLog_takeover), (9, 5, g .troubleLog_esc), (8, 1, g .troubleLog_cycleReq), (3, 5, g .troubleLog_reset),
    (2, 1, g .troubleLog_vigilHang), (0, 1, g .troubleLog_saturated)]) ++
  leBytes 8 (g .troubleFirst_lcount) ++ leBytes 8 (g .troubleLast_lcount) ++
  leBytes 8 (pack [(20, 4, g .troubleLastUnit_level), (16, 4, g .troubleLastUnit_kind), (0, 16, g .troubleLastUnit_index)]) ++
  leBytes 8 (rget s .stepCtxCommitted_step (topCtx s)) ++ leBytes 8 (commitSeq s (topCtx s)) ++ leBytes 4 (g .troubleModuleResets_count) ++
  leBytes 4 (g .troubleCycles_count) ++ leBytes 8 0

/-- A shutdown trigger is taken: acceptance stops on every queue, and the steward learns of the departure. -/
def takeTrigger (n : Nat) (s : State) : State :=
  let s1 := { s with boot := { s.boot with trigger := s.boot.trigger ||| n } }
  if s.boot.trigger ≠ 0 || !hasPosition s then s1 else emit (.vc7 "DEPARTURE" (mySteward s) [ownRoster s, rosterEpoch s]) s1

/-- R424: SHUTDOWN; its reply is written when the module is quiesced. -/
def execShutdown (h : CmdRef) (s : State) : Out :=
  .next (runPriv 0xFE h (fun s => takeTrigger 1 (waitFor h .quiesce { s with boot := { s.boot with shutCmd := some (h.q, h.seq.toNat) } })) s)

/-- The phase becomes EMBER (R424 step 7): testing destroys what GDDR7 and the clusters hold (R426); devices on the CXL ports keep theirs. -/
def enterEmber (s : State) : State :=
  let s1 := rset .mcStatus_phase 0 2 (rset .mcStatus_ready 0 0 (stopAll s))
  let cxl := fun (k u : Nat) => decide (16 * 2 ^ 50 / u ≤ k) && decide (k < 20 * 2 ^ 50 / u)
  { s1 with mem := { s1.mem with bytes := s1.mem.bytes.filter (fun x => cxl x.1 1), bad := s1.mem.bad.filter (fun x => cxl x.1 64) },
            boot := { s1.boot with starting := false, emberDone := false, result := 15 } }

/-- R422, R424: SHUTDOWN_REQ_N has been low for 1 ms in RUN. Before ready the Ember test begins at once; in Fallow the exit comes first. -/
def execShutdownReqN (s : State) : Out :=
  .next (if phase s ≠ 1 || s.boot.trigger ≥ 2 then s
    else if s.boot.starting then enterEmber { s with boot := { s.boot with trigger := 2 } }
    else
      takeTrigger 2 (wakeUp 4 s))

/-- The context's twin stands in another tray. -/
def farTwin (s : State) (c : Nat) : Bool := rget s .stepCtxState_mirrored c == 1 && rget s .stepCtxState_sameTray c == 0

/-- The record of the SHUTDOWN command. -/
def isShut (r : Rec) : Bool := r.wait == .quiesce

/-- R425: a context at the end of quiescing. With a twin in another tray what is not completed gets no reply here. -/
def quiesceCtx (r : State × Nat) (c : Nat) : State × Nat :=
  if farTwin r.1 c then
    (flushReplies c (setJournal (r.1.ctl.journal.filter (fun x => !(x.ctx == c && openRec x && x.again.isNone))) (stopWork c r.1)), r.2)
  else disableCtxBut isShut r c

/-- The functions that own contexts, each disabled and reported (R425, R405). -/
def quiesceFns (s : State) : State :=
  ((s.ctl.ctxs.map (fun x => x.2.fn)).eraseDups).foldl (fun s fn =>
    let cs := fnCtxs s fn
    let r := cs.foldl quiesceCtx (s, 0)
    disabledEvent 0 fn r.2 (cs.filter (fun c => !farTwin s c)) r.1) s

/-- R424, steps 5 to 7: the TROUBLE record is sealed, the SHUTDOWN reply written, the phase changed. -/
def quiesced (s : State) : State :=
  let s1 := sealAll (almSeal 2 (almMod 0xC 0 (troubleBytes s) s))
  let s2 := finishWaits isShut stOk (fun _ => 0) s1
  enterEmber (flushReplies 0 s2)

/-- R424: the time that issued commands have runs out. In Fallow the exit comes first (R433). -/
def execQuiesceTimeout (s : State) : Out :=
  .next (if phase s ≠ 1 || s.boot.trigger = 0 || rget s .pwrState_state 0 = 4 then s else quiesced (quiesceFns s))

/-! ### The Ember test (R417, R426 to R428) -/

/-- The result is driven, EMBER_DONE rises, and nothing runs until the input is removed. -/
def driveResult (code : Nat) (s : State) : State :=
  { s with boot := { s.boot with emberDone := true, result := code, off := true } }

/-- R417: fuses are blown up to the image's security version, where the result allows. -/
def advanceCounter (code : Nat) (s : State) : State :=
  let v := rget s .mcFwSvn_image 0
  if code ≤ 2 && decide (s.boot.counter < v) then
    rset .mcFwSvn_counter 0 v { s with boot := { s.boot with counterWas := some s.boot.counter, counter := v } }
  else s

/-- The EMBER record is sealed and its result driven; where no position is left the result is 0x5 and nothing is recorded. -/
def sealEmber (code ms : Nat) (f : TestFound) (s : State) : State :=
  if 4096 ≤ rget s .almanacUsed_blocks 0 then driveResult 5 s
  else
    let kind := if rget s .mcBootCtl_forceCold 0 = 1 then 2 else 0
    let s1 := almSeal 2 (almMod 0x9 0xC (emberBody code kind ms f) ((List.range 8).foldl (fun s d => marginRecord 1 d s) (advanceCounter code s)))
    let s2 := sealAll s1
    driveResult code (rset .mcBootStatus_emberCode 0 s2.alm.emberCode s2)

/-- R427, R428: the Ember test ends. -/
def execEmberDone (ms : Nat) (found : TestFound) (s : State) : Out :=
  .next (if phase s ≠ 2 || s.boot.off then s
    else
      let s1 := applyFound found s
      sealEmber (resultCode s1 found) ms found s1)

/-- R428: the 60 s bound. -/
def execEmberTimeout (s : State) : Out :=
  .next (if phase s ≠ 2 || s.boot.off then s else sealEmber 4 60000 ⟨[], [], 0, 0, false⟩ s)

/-- R468: HEARTBEAT toggles in RUN. -/
def execHeartbeat (s : State) : Out :=
  .next (if phase s = 1 then { s with boot := { s.boot with heartbeat := !s.boot.heartbeat } } else s)

/-! ### Loss of input (R363, R420) -/

/-- Everything but the Almanac, the flash, the OTP, memory of CXL devices and what stands outside the module is lost; the leap maps return to
those last sealed. -/
def unpowered (s : State) : State :=
  let r := State.reset
  let cxl := fun (k u : Nat) => decide (16 * 2 ^ 50 / u ≤ k) && decide (k < 20 * 2 ^ 50 / u)
  let s1 : State := { r with
    pending := s.pending
    free := s.free
    io := { r.io with hostMem := s.io.hostMem, outbox := s.io.outbox, events := s.io.events }
    mem := { r.mem with bytes := s.mem.bytes.filter (fun x => cxl x.1 1), bad := s.mem.bad.filter (fun x => cxl x.1 64) }
    host := { r.host with cxlDev := s.host.cxlDev }
    alm := { s.alm with staged := [], sealing := none, sealNext := false, taking := none }
    boot := { r.boot with slotA := s.boot.slotA, slotB := s.boot.slotB, prefB := s.boot.prefB, counter := s.boot.counter, counterWas := s.boot.counterWas,
                          nonceNo := s.boot.nonceNo } }
  let seq := rget s .almanacSeq_seq 0
  let s2 := rset .almanacSeq_seq 0 seq (rset .almanacUsed_blocks 0 (rget s .almanacUsed_blocks 0)
    (rset .almanacStatus_tail 0 (rget s .almanacStatus_tail 0) (rset .mcBootStatus_emberCode 0 s.alm.emberCode s1)))
  loadSnap (snapAt s seq) s2

/-- R363: below 38.0 V for 1 ms, the module is unpowered. -/
def execLossOfInput (s : State) : Out := .next (unpowered s)

/-- R363: at 60.5 V for 20 us the converters go off, as at a loss of input. -/
def execOverVoltage (s : State) : Out := .next (unpowered s)

end Sys2Proof.Machine
end

