-- ==== Sys2Proof/Machine/Power.lean ====
section
/-! DEFINITION. Input bands, the peak limiter, budget and caps, temperature, Idle and Fallow, energy records (ch. 15). -/

namespace Sys2Proof.Machine

/-! ### The input (R363 to R365) -/

/-- PWR_SUPPLY. -/
def supplyEvent (kind voltage : Nat) (s : State) : State := raise0 0x0F01 4 (kind + pf 8 16 voltage) s

/-- The supply is watched: in RUN and in EMBER. -/
def awake (s : State) : Bool := phase s == 1 || phase s == 2

/-- R363: high input, reported once when it begins and once when it ends. -/
def execHighInput (above : Bool) (voltage : Nat) (s : State) : Out :=
  .next (if !awake s || s.pow.high == above then s
    else supplyEvent (if above then 2 else 3) voltage { s with pow := { s.pow with high := above } })

/-- R364: a supply warning begins. -/
def execSupplyWarning (voltage : Nat) (s : State) : Out :=
  .next (if !awake s || s.pow.warn then s
    else
      let s1 := { s with pow := { s.pow with warn := true }, boot := { s.boot with warnN := false } }
      urgent (supplyEvent 0 voltage (setBudget (count1 .pwrWarnCount_count 0 (rflag .pwrStatus_warnSeen 0 s1)))))

/-- R364: a supply warning ends. -/
def execSupplyWarningRelease (voltage : Nat) (s : State) : Out :=
  .next (if !s.pow.warn then s
    else supplyEvent 1 voltage (setBudget { s with pow := { s.pow with warn := false }, boot := { s.boot with warnN := true } }))

/-- R364: THROTTLE_N is driven low or released; it is sampled in RUN only (R467). -/
def execThrottleN (low : Bool) (voltage : Nat) (s : State) : Out :=
  .next (if phase s ≠ 1 || s.pow.throttle == low then s
    else
      let s1 := setBudget { s with pow := { s.pow with throttle := low } }
      if low then supplyEvent 4 voltage (count1 .pwrWarnCount_count 0 (rflag .pwrStatus_throttleSeen 0 s1)) else supplyEvent 5 voltage s1)

/-- R365: a supply reset: the reset notice, then a module reset, which lasts at least until the input is back. During an Ember test the test
stops without a seal (R433). -/
def execSupplyReset (voltage : Nat) (s : State) : Out :=
  .next (if !awake s || s.pow.under then s
    else
      let s1 := trouble .troubleLog_supplyReset 1 (rflag .pwrStatus_resetSeen 0
        (rset .pwrInput_voltage 0 voltage { s with pow := { s.pow with under := true, told := true } }))
      if phase s = 2 then { s1 with boot := { s1.boot with off := true } }
      else if s.boot.starting then s1
      else beginReset (moduleReset 8 0 0xFF s1) s1)

/-- R365: the input has held at or above 45.0 V for 10 ms. -/
def execSupplyResetRelease (s : State) : Out := .next { s with pow := { s.pow with under := false } }

/-! ### The peak limiter (R368, R369) -/

/-- The limiter's target in mW. -/
def limitTarget (s : State) : Nat :=
  let t := 985 * effPeak s - 5000
  if clamped s then Nat.min t (1000 * Nat.min (effPeak s) (rget s .pwrThrottle_levelW 0)) else t

/-- The projected mean is below 0.97 of the target. -/
def limitCalm (s : State) (projected : Nat) : Bool := decide (100000 * projected < 97 * limitTarget s)

/-- s_limiter after one sample: a step up where the projected mean is above the target, a step down each 20 us below 0.97 of it. -/
def limitStep (s : State) (projected : Nat) : Nat :=
  if limitTarget s < 1000 * projected then Nat.min 48 (s.pow.stretch + 1)
  else if limitCalm s projected && s.pow.calm == 19 then s.pow.stretch - 1
  else s.pow.stretch

/-- Input energy counted: `uj` microjoules. -/
def addEnergy (uj : Nat) (s : State) : State :=
  count .pwrEnergy_mj 0 ((s.pow.uj + uj) / 1000 - s.pow.uj / 1000) { s with pow := { s.pow with uj := s.pow.uj + uj } }

/-- R366, R368, R369: one sample of the input meter, 1 us long: the power now, the mean of the window with the sample held to its end, the
mean of the last window where it ends, and the blade's voltage and the power that PWR_INPUT reports. -/
def execPeakLimiter (sample projected mean voltage power : Nat) (windowEnd : Bool) (s : State) : Out :=
  .next (
    let n := limitStep s projected
    let s1 := addEnergy sample (rset .pwrInput_voltage 0 (satTo 16 voltage) (rset .pwrInput_powerW 0 (satTo 16 power) s))
    let s2 := { s1 with pow := { s1.pow with stretch := n, calm := if limitCalm s projected then (s.pow.calm + 1) % 20 else 0 } }
    let s3 := if s.pow.stretch = 0 && n != 0 then count1 .pwrLimitCount_count 0 s2 else s2
    if windowEnd && decide (effPeak s < mean) then
      raise0 0x0F02 4 (pack [(0, 16, satTo 16 mean), (16, 16, effPeak s)]) (rflag .pwrStatus_limitMissed 0 s3)
    else s3)

/-- R368: POWER_PEAK_SET. -/
def execPowerPeakSet (h : CmdRef) (watts : BitVec 32) (s : State) : Out :=
  .next (runPriv 0x60 h (fun s =>
    if watts.toNat < 4000 || 8000 < watts.toNat then badParam h 0 s
    else finishOk h (setBudget (rset .pwrPeakLimit_peakW 0 watts.toNat s))) s)

/-! ### Budget, grant and caps (R370, R372) -/

/-- A field written where the value is in its range. -/
def setIn (f : Fld) (lo hi v : Nat) (s : State) : State := if lo ≤ v && v ≤ hi then rset f 0 v s else s

/-- R370: a write of PWR_TRAY: each field on its own. -/
def writeTray (v : Nat) (s : State) : State :=
  setBudget (setIn .pwrTray_grantW 4000 7200 (bits v 0 16) (setIn .pwrTray_trayPeakW 4000 8000 (bits v 16 16) s))

/-- R370, R388: PWR_TRAY is written by PF 0. -/
def execPwrTray (fn : Nat) (value : BitVec 32) (s : State) : Out :=
  let s := dropLatch fn s
  .next (if notServed s fn then s else writeTray value.toNat s)

/-- demand_n: the predicted power of a die's running stages at the highest points that their ceilings allow. -/
def demandOf (s : State) (d : Nat) : Nat :=
  ((dieStages s d).map (fun x => stagePower s d x.2 ((stageIsls s d x.2).foldl (fun m i => Nat.min m (ceiling s i)) 2600))).sum

/-- cap_n of R370 in W. -/
def capOf (s : State) (c : Int) (base : List Nat) (d : Nat) : Nat :=
  let sum := base.sum
  let demand := (List.range 8).map (demandOf s)
  if c ≤ sum || demand.sum = 0 then base.getD d 0
  else base.getD d 0 + (c - sum).toNat * demand.getD d 0 / demand.sum

/-- R370: the caps every 1 ms; `other` is the mean of everything but the C-die rails, `base` and `draw` the readings of the rails. -/
def execDieCapUpdate (other : Int) (base draw : List Nat) (s : State) : Out :=
  .next (
    let b := (List.range 8).map (fun d => base.getD d 0)
    let s1 := setBudget { s with pow := { s.pow with base := (List.range 8).foldl (fun m d => sset 0 m d (b.getD d 0)) s.pow.base } }
    let caps := (List.range 8).map (capOf s1 (budgetOf s1 - other) b)
    (List.range 8).foldl (fun s d =>
      let changed := decide (rget s .pwrDieCap_capW d ≠ satTo 16 (caps.getD d 0))
      let s2 := rset .pwrDieCap_capW d (satTo 16 (caps.getD d 0)) (rset .pwrDieCap_drawW d (satTo 16 (draw.getD d 0)) s)
      if changed then evalDie d s2 else s2) s1)

/-- R372: the steward's share is written, and applies at the next STEP_OPEN. A module that takes no part keeps 0. -/
def execEquinoxShare (share : Int) (s : State) : Out :=
  .next (if s.fab.out || rget s .pwrCtl_equinoxOff 0 = 1 || rget s .cohortSelf_role 0 = 2 then s
    else rset .pwrBudget_shareW 0 (share % 65536).toNat { s with pow := { s.pow with shareAge := 0 } })

/-- A share returns to 0 at once (R372). -/
def dropShare (s : State) : State := setBudget (rset .pwrBudget_shareW 0 0 { s with pow := { s.pow with share := 0, shareAge := 0 } })

/-- R384, R388: a write of PWR_CTL by PF 0. -/
def execPwrCtl (fn : Nat) (value : BitVec 32) (s : State) : Out :=
  .next (
    let v := value.toNat
    let s := dropLatch fn s
    if notServed s fn then s
    else
      let s1 := rset .pwrCtl_equinoxOff 0 (bits v 16 1) (if bits v 0 16 = 0 then s else rset .pwrCtl_idleMs 0 (bits v 0 16) s)
      let s2 := if v.testBit 16 then dropShare s1 else s1
      if v.testBit 18 then wakeUp 5 s2 else s2)

/-! ### Temperature (R378 to R380) -/

/-- A 16-bit signed field. -/
def s16 (x : Int) : Nat := (BitVec.ofInt 16 x).toNat

/-- A THERMAL record (Table 14.6), counted; kind 0 above 100 °C, 1 alarm, 2 trip, 3 coolant. -/
def thermalRecord (kind die : Nat) (tj : Int) (ms : Nat) (s : State) : State :=
  count1 .thermExcursionCount_count 0 (almMod 0x3 5 (leBytes 1 die ++ leBytes 1 (Config.openCode "thermal" kind) ++ leBytes 2 (s16 tj) ++
    leBytes 4 (satTo 32 ms) ++ leBytes 2 (rget s .thermCoolant_inlet 0) ++ leBytes 2 (rget s .thermCoolant_flow 0) ++ leBytes 4 0) s)

/-- THERM_THROTTLE and THERM_ALARM. -/
def thermEvent (code die cluster : Nat) (tj : Int) (s : State) : State := raise0 code 5 (pack [(0, 8, die), (8, 16, cluster), (24, 16, s16 tj)]) s

/-- R378: the thermal limit after a reading. -/
def limitAfter (s : State) (i : Nat) (tj : Int) : Nat :=
  let cur := thermLimit s i
  if 800 ≤ tj then Nat.max 1200 (cur - 25)
  else if tj ≤ 784 then (if ceiling s i ≤ cur + 25 then 2600 else cur + 25)
  else (islOf s i).thermal

/-- Islands of a die that run below their ceiling for temperature, and the hottest reading of a die. -/
def throttledOf (s : State) (d : Nat) : Nat :=
  (s.pow.isl.filter (fun x => x.1 / 2112 == d && decide (x.2.thermal < ceiling s x.1))).length
def hottestOf (s : State) (d : Nat) : Int :=
  ((s.pow.isl.filter (fun x => x.1 / 2112 == d)).filterMap (fun x => x.2.tj)).foldl max (-32768)

/-- R380: the coolant's readings; leaving its limits is reported. -/
def coolant (die : Nat) (tj inlet : Int) (flow : Nat) (s : State) : State :=
  let bad := decide (320 < inlet) || decide (flow < 120)
  let s1 := rset .thermCoolant_inlet 0 (s16 inlet) (rset .thermCoolant_flow 0 (satTo 16 flow) { s with pow := { s.pow with coolBad := bad } })
  if bad && !s.pow.coolBad then
    thermalRecord 3 die tj 0 (raise0 0x0F06 5 (pack [(0, 16, s16 inlet), (16, 16, satTo 16 flow)]) (rflag .thermStatus_coolantSeen 0 s1))
  else s1

/-- R378: a lowering of an island's limit, counted; the event where throttle_seen is clear. -/
def throttled (die cluster : Nat) (tj : Int) (s : State) : State :=
  let s1 := count1 .thermThrottleCount_count 0 (rflag .thermStatus_throttleSeen 0 s)
  if rget s .thermStatus_throttleSeen 0 = 0 then thermEvent 0x0F04 die cluster tj s1 else s1

/-- R378: one reading of an island's sensor. -/
def islandReading (die cluster : Nat) (tj : Int) (ms : Nat) (s : State) : State :=
  let i := islKey die cluster
  let x := islOf s i
  let lim := limitAfter s i tj
  let low := decide (800 ≤ tj) && decide (lim < thermLimit s i)
  let alarm := decide (lim = 1200) && decide (880 ≤ tj)
  let hot := decide (800 < tj) && decide (1000 ≤ ms)
  let s1 := setIsl i { x with tj := some tj, thermal := lim, alarm := alarm, hot := hot } s
  let s2 := if low then throttled die cluster tj s1 else s1
  let s3 := if alarm && !x.alarm then thermalRecord 1 die tj ms (urgent (thermEvent 0x0F05 die cluster tj (rflag .thermStatus_alarmSeen 0 s2))) else s2
  let s4 := if hot && !x.hot then thermalRecord 0 die tj ms s3 else s3
  let s5 := rset .thermDie_tjMax die (s16 (hottestOf s4 die)) (rset .thermDie_throttled die (throttledOf s4 die) s4)
  if lim = thermLimit s i then s5 else evalDie die (aim i s5)

/-- R378, R380: the sensors every 1 ms. An F-die has no island; its hottest sensor is reported. -/
def execThermalReading (die cluster : Nat) (tj inlet : Int) (flow hotMs : Nat) (s : State) : Out :=
  .next (
    let s1 := coolant die tj inlet flow s
    if 12 ≤ die || (die < 8 && 2112 ≤ cluster) then s1
    else if 8 ≤ die then rset .thermDie_tjMax die (s16 tj) s1
    else islandReading die cluster tj hotMs s1)

/-- R379: a trip comparator: every clock stops, the module enters HELD with reason 0x1, and a THERMAL record is sealed. -/
def execThermalTrip (die : Nat) (s : State) : Out :=
  .next (if 12 ≤ die || !s.boot.powered || phase s == 3 then s
    else
      let s1 := ror .thermTripDie_dies 0 (2 ^ die) (rflag .thermStatus_trip 0 s)
      enterHeld 1 (sealAll (almSeal 2 (thermalRecord 2 die (rget s .thermDie_tjMax die) 0 s1))))

/-! ### Idle and Fallow (R382 to R384) -/

/-- Work that keeps the module out of Idle. -/
def working (s : State) : Bool :=
  !s.eng.isEmpty || (svals s.gr.runs).any (fun r => !r.done) ||
  (svals s.st).any (fun x => x.xch.isSome || x.own.elim false (fun p => !p.ended) || x.mir.elim false (fun p => !p.ended)) ||
  (svals s.har).any (fun x => x.gen.isSome || x.rest.isSome)

/-- R382: idle_ms have passed without work. -/
def execIdleEntry (s : State) : Out :=
  .next (if rget s .mcStatus_ready 0 = 0 || rget s .pwrState_target 0 ≠ 1 || rget s .pwrState_state 0 ≠ 0 || working s then s else setPwrState 1 1 s)

/-- R383: the code with which POWER_STATE 2 is refused; 0 where it is not. -/
def fallowRefused (s : State) (h : CmdRef) : Nat :=
  let cs := s.ctl.ctxs.map Prod.fst
  if cs.any (fun c => stepSt s c != 0) then 1
  else if s.ctl.journal.any (fun r => openRec r && !(r.q == h.q && r.seq == h.seq.toNat)) then 2
  else if hasPosition s && [2, 3].contains (entrySt (rosterEntry s (ownRoster s))) then 3
  else if (svals s.har).any (fun x => x.gen.isSome || x.rest.isSome) || !s.mem.migOld.isEmpty ||
      (svals s.st).any (fun x => x.bind.isSome || x.adopted.isSome) then 4
  else 0

/-- R382, R383: POWER_STATE. -/
def execPowerState (h : CmdRef) (state : BitVec 8) (s : State) : Out :=
  .next (runPriv 0x61 h (fun s =>
    let n := state.toNat
    if 2 < n then badParam h 0 s
    else if n < 2 then
      let s1 := rset .pwrState_target 0 n s
      finishOk h (if n = 0 then leaveIdle s1 else s1)
    else
      let e := fallowRefused s h
      if e ≠ 0 then finish h stPowerRefused e s
      else setPwrState 3 0 (rset .pwrState_target 0 2 (waitFor h .fallow s))) s)

/-- A link's width set for Fallow or back. -/
def fallowWidth (p w : Nat) (s : State) : State :=
  if !portUp s p || rget s .linkPortState_width p = w || w = 0 then s else linkState p 0 (rset .linkPortState_width p w s)

/-- What the clusters and cores hold is gone: the C-dies are power-gated. -/
def gateDies (s : State) : State :=
  let cl := fun (k u : Nat) => decide (32 * 2 ^ 50 / u ≤ k)
  { s with mem := { s.mem with bytes := s.mem.bytes.filter (fun x => !cl x.1 1), bad := s.mem.bad.filter (fun x => !cl x.1 64) }, core := [],
           pow := { s.pow with isl := [], stages := [] } }

/-- R383: Fallow is reached: the links are at width 2, the reply is written, GDDR7 is in self-refresh. -/
def execFallowEntryDone (s : State) : Out :=
  .next (if rget s .pwrState_state 0 ≠ 3 then s
    else
      let s1 := (List.range 32).foldl (fun s p => fallowWidth p 2 s) (gateDies s)
      setPwrState 2 0 (flushReplies 0 (finishWaits (fun r => r.wait == .fallow) stOk (fun _ => 2) s1)))

/-- R383, R384: a wake trigger. -/
def execFallowExit (cause : Nat) (s : State) : Out := .next (wakeUp cause s)

/-- R384: the exit ends: the module is in Idle with its target restored, the links return to the width that their lanes allow, and the
doorbells that were kept are acted on. -/
def execFallowExitDone (s : State) : Out :=
  .next (if rget s .pwrState_state 0 ≠ 4 then s
    else
      let s1 := (List.range 32).foldl (fun s p => fallowWidth p (widthFor (goodLanes (portOf s p))) s) s
      keptDoorbells (setPwrState 1 0 (rset .pwrState_target 0 1 s1)))

/-! ### Energy (R385, R386) -/

/-- R385: ENERGY_MODE restarts every count. -/
def execEnergyMode (h : CmdRef) (mode : BitVec 8) (s : State) : Out :=
  .next (runPriv 0x62 h (fun s =>
    if 1 < mode.toNat then badParam h 0 s
    else
      finishOk h (rset .pwrCtl_energyMode 0 mode.toNat { s with pow := { s.pow with charge := [], gone := 0, ujBase := s.pow.uj } })) s)

/-- mJ of a charge in 1/16 pJ times 640,000. -/
def toMj (n : Nat) : Nat := n / (16 * 640000 * 1000000000)

/-- A signed 64-bit field that saturates. -/
def s64 (x : Int) : Nat := (BitVec.ofInt 64 (max (-(2 ^ 63)) (min (2 ^ 63 - 1) x))).toNat

/-- The 64 bytes of Table 15.4. -/
def energyBytes (s : State) (c : Nat) : List Byte :=
  let model := rget s .pwrCtl_energyMode 0 == 1
  let whole := (s.pow.uj - s.pow.ujBase) / 1000
  let all := (svals s.pow.charge).sum + s.pow.gone
  leBytes 1 (b2n model) ++ leBytes 1 c ++ List.replicate 6 0 ++ leBytes 8 (lcountOf s 0) ++ leBytes 8 (rget s .stepCtxCommitted_step c) ++
  leBytes 8 (commitSeq s c) ++ leBytes 8 (satTo 64 whole) ++ leBytes 8 (if model then satTo 64 (toMj (sget 0 s.pow.charge c)) else 0) ++
  leBytes 8 (if model then s64 (whole - toMj all) else 0) ++ leBytes 8 0

/-- R386: ENERGY_READ. -/
def execEnergyRead (h : CmdRef) (dest : Word64) (ctx : BitVec 8) (s : State) : Out :=
  .next (runCmd 0x63 h (fun s =>
    let c := ctx.toNat
    if h.ctx ≠ 0 && c ≠ h.ctx then badParam h 1 s
    else if (ctx? s c).isNone then badParam h 2 s
    else finishOk h (ctxWrite h.ctx dest.toNat (energyBytes s c) s)) s)

end Sys2Proof.Machine
end

