-- ==== Sys2Proof/Machine/Commands.lean ====
section
/-! DEFINITION. Contexts, queues, events, memory commands, windows, CXL mapping and partitions (ch. 1, 3), leap-channel migration, patrol and
remote tray accesses (ch. 7), the numerics watch's control (R201), the heartbeats. -/

namespace Sys2Proof.Machine

/-! ### Contexts and events (R54, R72, R73, R76) -/

/-- R72: NOP. -/
def execNop (h : CmdRef) (s : State) : Out := .next (runCmd 0x00 h (finishOk h) s)

/-- Whole MiB of journal that all contexts have (R65). -/
def sharesUsed (s : State) : Nat := ((s.ctl.ctxs.filter (fun x => x.1 != 0)).map (fun x => x.2.journalMib)).sum

/-- A function to which a context can be bound: PF 0 or an enabled VF (R438). -/
def fnBindable (s : State) (fn : Nat) : Bool :=
  fn == 0 || (rget s .hostifVf_enable 0 == 1 && decide (fn ≤ rget s .hostifVf_numVfs 0) && decide (fn < 64))

/-- The first check of CTX_CREATE that fails, as its detail. -/
def ctxCreateBad (s : State) (c fn part mib : Nat) : Option Nat :=
  if (rget s .vigilQuarantine_ctx (c / 64)).testBit (c % 64) then some 0x61
  else if c = 0 || (ctx? s c).isSome then some 0
  else if !fnBindable s fn then some 0x02
  else if 7 < part || sget 0 s.ctl.partitions part = 0 || 960 < sharesUsed s + mib then some 0
  else none

/-- R54, R65, R404, R438: CTX_CREATE. The generation of a number is kept while the number is free. -/
def execCtxCreate (h : CmdRef) (ctx function partition : BitVec 8) (queueQuota journalMib : BitVec 16) (s : State) : Out :=
  .next (runPriv 0x01 h (fun s =>
    let c := ctx.toNat
    match ctxCreateBad s c function.toNat partition.toNat journalMib.toNat with
    | some d => badParam h d s
    | none =>
      let g := genOf s c
      finish h stOk g
        (setCtx c ⟨g, function.toNat, partition.toNat, queueQuota.toNat, journalMib.toNat, [], none, [], none, 0, false, false, none⟩ s)) s)

/-- R73: EVENT_SIGNAL raises a counter and never lowers it; the waits that are satisfied complete. -/
def execEventSignal (h : CmdRef) (event : BitVec 16) (value : Word64) (s : State) : Out :=
  .next (runCmd 0x23 h (fun s =>
    let e := event.toNat
    if 1024 ≤ e then badParam h 0 s
    else
      let v := Nat.max ((ctx? s h.ctx).elim 0 (fun x => sget 0 x.counters e)) value.toNat
      let s1 := modCtx h.ctx (fun x => { x with counters := sset 0 x.counters e v }) s
      let hit := fun (r : Rec) => r.ctx == h.ctx && (match r.wait with | .event i w => i == e && decide (w ≤ v) | _ => false)
      finishOk h (finishWaits hit stOk (fun _ => 0) s1)) s)

/-- R70, R73: EVENT_WAIT completes when the counter has reached the value. -/
def execEventWait (h : CmdRef) (event : BitVec 16) (value : Word64) (s : State) : Out :=
  .next (runCmd 0x24 h (fun s =>
    let e := event.toNat
    if 1024 ≤ e then badParam h 0 s
    else if value.toNat ≤ (ctx? s h.ctx).elim 0 (fun x => sget 0 x.counters e) then finishOk h s
    else waitFor h (.event e value.toNat) s) s)

/-- R435: start-up events that were waiting go to the ring of context 0. -/
def flushWaiting (s : State) : State :=
  s.io.waiting.foldl (fun s e => let r := ringWrite e s; if r.2 then countDrop 0 r.1 else r.1) { s with io := { s.io with waiting := [] } }

/-- R76: EVENT_RING sets the context's event ring, in memory of the host. -/
def execEventRing (h : CmdRef) (log2 : BitVec 8) (vec : BitVec 16) (ring : Word64) (s : State) : Out :=
  .next (runCmd 0x25 h (fun s =>
    if 2048 ≤ vec.toNat then badParam h 0 s
    else
      let s1 := modCtx h.ctx (fun x => { x with ring := some (log2.toNat, vec.toNat, ring.toNat), ringIdx := 0 }) s
      finishOk h (if h.ctx = 0 then flushWaiting s1 else s1)) s)

/-! ### Queues (R55, R72, R74) -/

/-- A ring in module memory lies in the context's window. -/
def ringIn (s : State) (c : Nat) (wr : Bool) (base n : Nat) : Bool := (linesOf base n).all (fun p => inWindow s c wr p.1)

/-- Queues that exist in a context, but for one number. -/
def queuesBut (s : State) (c q : Nat) : Nat := (s.ctl.queues.filter (fun x => x.2.ctx == c && x.1 != q)).length

/-- The last journal record of a queue of a context, delivered or not. -/
def lastRec (s : State) (c q : Nat) : Option Rec := (s.ctl.journal.filter (fun r => r.q == q && r.ctx == c)).getLast?

/-- R74: whether a number can be created, or re-attached with the resume flag. -/
def queueFree (s : State) (c q : Nat) (resume : Bool) : Bool :=
  match queue? s q with
  | some x => resume && x.ctx == c && x.state != .quarantined
  | none => !resume || (lastRec s c q).isSome

/-- The checks of QUEUE_CREATE. -/
def queueOk (s : State) (h : CmdRef) (q c fl sq cq sl cl vec : Nat) : Bool :=
  q != 0 && decide (q < 4096) && decide (fl < 8) && logOk sl && logOk cl && decide (vec < 2048) && (h.ctx == 0 || h.ctx == c) &&
  (ctx? s c).elim false (fun x => x.teardown.isNone && (h.ctx == 0 || decide (queuesBut s c q < x.quota))) && queueFree s c q (fl.testBit 2) &&
  (!fl.testBit 0 || ringIn s c false sq (64 * 2 ^ sl)) && (!fl.testBit 1 || ringIn s c true cq (32 * 2 ^ cl))

/-- A queue as QUEUE_CREATE makes it: where the context is held, the queue is. -/
def freshQueue (s : State) (c fl sq cq sl cl vec start : Nat) : Queue :=
  let x := (ctx? s c).getD Ctx.zero
  ⟨c, sq, cq, fl.testBit 0, fl.testBit 1, sl, cl, vec, start, 0, 0, start, start, if x.held || x.twinLost then .held else .active,
    if x.held then 1 else if x.twinLost then 2 else 0, false, false, []⟩

/-- A sequence number lies before another one, modulo 2^32. -/
def seqBefore (a b : Nat) : Bool := a != b && decide ((b + 2 ^ 32 - a) % 2 ^ 32 < 2 ^ 31)

/-- R74: a queue re-attached: it goes on at the sequence number that follows its last record, and a reply before cq_consumed is not delivered. -/
def resumeQueue (q consumed : Nat) (x : Queue) (s : State) : State :=
  let old := queue? s q
  let nx := match old, lastRec s x.ctx q with
    | some y, _ => y.nextSeq
    | none, some r => (r.seq + 1) % 2 ^ 32
    | none, none => x.startSeq
  let y := { x with nextSeq := nx, cqHead := consumed, tail := old.elim 0 (·.tail), acceptSlot := old.elim 0 (·.acceptSlot) }
  let skip := fun (r : Rec) => r.q == q && r.ctx == x.ctx && seqBefore r.seq consumed
  setQueue q y (setJournal (s.ctl.journal.map (fun r =>
    if !skip r then r
    else if r.state = .replyPending then { r with state := .completed }
    else if openRec r && r.again.isNone then { r with again := some .completed }
    else r)) s)

/-- The replies of a queue that are ready, delivered in order. -/
def flushQueue (q : Nat) (s : State) : State :=
  (s.ctl.journal.filter (fun r => r.q == q)).foldl (fun s _ => replyOne q s) s

/-- R55, R74: QUEUE_CREATE. -/
def execQueueCreate (h : CmdRef) (queue : BitVec 16) (ctx qflags : BitVec 8) (sqBase cqBase : Word64) (sqLog2 cqLog2 : BitVec 8)
    (vec : BitVec 16) (startSeq cqConsumed : BitVec 32) (s : State) : Out :=
  .next (runCmd 0x04 h (fun s =>
    let q := queue.toNat
    let c := ctx.toNat
    let fl := qflags.toNat
    if !queueOk s h q c fl sqBase.toNat cqBase.toNat sqLog2.toNat cqLog2.toNat vec.toNat then badParam h 0 s
    else
      let x := freshQueue s c fl sqBase.toNat cqBase.toNat sqLog2.toNat cqLog2.toNat vec.toNat startSeq.toNat
      if fl.testBit 2 then fetchLoop q 32768 (flushQueue q (freeRecs (finishOk h (resumeQueue q cqConsumed.toNat x s))))
      else finishOk h (setQueue q x s)) s)

/-- A queue that a context may destroy: not the admin queue, and its own unless it is context 0. -/
def mayDestroy (s : State) (h : CmdRef) (q : Nat) : Bool :=
  q != 0 && (queue? s q).elim false (fun x => h.ctx == 0 || x.ctx == h.ctx)

/-- R72: QUEUE_DESTROY completes once every command accepted on the queue has completed; the queue accepts nothing more. -/
def execQueueDestroy (h : CmdRef) (queue : BitVec 16) (s : State) : Out :=
  .next (runCmd 0x05 h (fun s =>
    let q := queue.toNat
    if !mayDestroy s h q then badParam h 0 (modQueue q (fun x => if h.q = q then { x with destroying := false } else x) s)
    else drainQueues (waitFor h (.queueDrain q) (modQueue q (fun x => { x with destroying := true, fetched := [] }) s))) s)

/-! ### Memory commands (R72, R160, R167, R169, R172) -/

/-- Stores to other slots that a command has sent and that are not acknowledged: it waits for them (R167). -/
def finishStores (h : CmdRef) (before s : State) : State :=
  let tags := ((s.vig.remote.filter (fun x => x.2.write && (sget? before.vig.remote x.1).isNone)).map Prod.fst)
  if tags.isEmpty then finishOk h s else waitFor h (.stores tags) s

/-- Poison in what a copy read travels with the data: every destination line that gets a byte of a bad source line (R172). -/
def copyPoison (c dst src : Nat) (bad : List Nat) (bytes : Nat) (s : State) : State :=
  bad.foldl (fun s a => (linesOf (dst + (a - src)) (Nat.min (64 - a % 64) (src + bytes - a))).foldl (fun s p => poisonLine c p.1 s) s) s

/-- R72: MEM_COPY. -/
def execMemCopy (h : CmdRef) (dst src bytes : Word64) (s : State) : Out :=
  .next (runCmd 0x10 h (fun s =>
    let r := cmdRead h.ctx src.toNat bytes.toNat s
    finishStores h s (copyPoison h.ctx dst.toNat src.toNat r.1.bad bytes.toNat (ctxWrite h.ctx dst.toNat r.1.bytes r.2))) s)

/-- R72: MEM_FILL repeats the 8-byte pattern from the first byte of the range. -/
def execMemFill (h : CmdRef) (dst bytes pattern : Word64) (s : State) : Out :=
  .next (runCmd 0x11 h (fun s =>
    let p := leBytes 8 pattern.toNat
    finishStores h s (ctxWrite h.ctx dst.toNat ((List.range bytes.toNat).map (fun i => p.getD (i % 8) 0)) s)) s)

/-- R72, R220: MEM_DIGEST. -/
def execMemDigest (h : CmdRef) (addr bytes : Word64) (s : State) : Out :=
  .next (runCmd 0x12 h (fun s =>
    let r := cmdRead h.ctx addr.toNat bytes.toNat s
    finish h stOk (runDigest r.1.bytes) r.2) s)

/-! ### Windows (R168, R171) -/

/-- An entry of a window table. -/
def mkWin (b : List Byte) : WinEntry := ⟨pktNat b 0 8, pktNat b 8 8, pktNat b 0x10 1, pktNat b 0x12 2⟩

/-- The C-dies that a local range of region 0 to 7 or 9 names. -/
def winDies (e : WinEntry) : List Nat :=
  if regionOf e.base < 8 then [regionOf e.base]
  else if regionOf e.base = 9 then
    (List.range 8).filter (fun d => decide (bits e.base 29 3 ≤ d) && decide (d ≤ bits (e.base + e.bytes - 1) 29 3))
  else []

/-- The extent of a region of a slot; for regions 10 and above no entry may name it. -/
def regionEnd (s : State) (slot region : Nat) : Nat :=
  if region < 8 then (if slot = ownSlot s then gddrBytes s region else 104362672128)
  else if region = 8 then 2 ^ 42
  else if region = 9 then 2 ^ 32
  else 0

/-- R168: an entry keeps Table 7.4 and the rules beside it. Context 0 has every die. -/
def winOk (s : State) (c : Nat) (b : List Byte) : Bool :=
  let e := mkWin b
  let exp := e.rights.testBit 2
  let here := slotOf e.base == ownSlot s
  decide (e.base < 2 ^ 57) && e.base % 4096 == 0 && e.bytes % 4096 == 0 && e.bytes != 0 && e.rights != 0 && decide (e.rights < 8) &&
  pktNat b 0x11 1 == 0 && decide (e.slice < 4096) && (b.drop 0x14).all (fun x => x == 0) && (exp || e.slice == 0) && (!exp || here) &&
  decide (offsetOf e.base + e.bytes ≤ regionEnd s (slotOf e.base) (regionOf e.base)) &&
  (!here || c == 0 || (winDies e).all (fun d => (ctxDies s c).contains d))

/-- Entries of the module-wide store that other contexts leave. -/
def winRoom (s : State) (c : Nat) : Nat :=
  16384 - ((s.ctl.ctxs.filter (fun x => x.1 != c)).map (fun x => x.2.window.length)).sum

/-- Every ring in module memory of a context's queues is covered by a window. -/
def ringsCovered (s : State) (c : Nat) (w : List WinEntry) : Bool :=
  let t := modCtx c (fun x => { x with window := w }) s
  s.ctl.queues.all (fun x => x.2.ctx != c || ((!x.2.sqMod || ringIn t c false x.2.sqBase (64 * 2 ^ x.2.sqLog2)) &&
    (!x.2.cqMod || ringIn t c true x.2.cqBase (32 * 2 ^ x.2.cqLog2))))

/-- The index that a WINDOW_SET in error reports: the first offending entry; where no entry offends by itself, the first that does not fit,
or the number of entries where a ring is not covered. -/
def winBad (s : State) (c : Nat) (rows : List (List Byte)) : Option Nat :=
  let room := Nat.min 1024 (winRoom s c)
  match rows.findIdx? (fun b => !winOk s c b) with
  | some i => some (Nat.min i room)
  | none => if room < rows.length then some room else if !ringsCovered s c (rows.map mkWin) then some rows.length else none

/-- R168, R171: WINDOW_SET reads its table at issue; it completes once every earlier access of the context has. -/
def execWindowSet (h : CmdRef) (ctx : BitVec 8) (count : BitVec 16) (table : Word64) (s : State) : Out :=
  .next (runPriv 0x13 h (fun s =>
    let c := ctx.toNat
    if (ctx? s c).elim true (fun x => x.newWin.isSome) then badParam h 0 s
    else
      let r := cmdRead h.ctx table.toNat (32 * count.toNat) s
      let rows := entries 32 count.toNat r.1.bytes
      match winBad r.2 c rows with
      | some i => badParam h i r.2
      | none =>
        let tags := (r.2.vig.remote.filter (fun x => x.2.ctx == c)).map Prod.fst
        windowCheck c (waitFor h (.windowDrain c) (modCtx c (fun x => { x with newWin := some (rows.map mkWin, tags) }) r.2))) s)

/-! ### The CXL tier (R166, R454) -/

/-- R166: a range that CXL_MAP may set for a port. -/
def cxlRangeOk (s : State) (m base n : Nat) : Bool :=
  decide (m < 4) && base % 2 ^ 28 == 0 && n % 2 ^ 28 == 0 && decide (base + n ≤ 2 ^ 42) &&
  (n == 0 || (List.range 4).all (fun j => j == m || !rangesMeet base n (rget s .fdieCxlMapBase_offset j) (rget s .fdieCxlMapBytes_bytes j)))

/-- R166, R454: CXL_MAP. Transfers under the old range complete first. -/
def execCxlMap (h : CmdRef) (port : BitVec 8) (base bytes : Word64) (s : State) : Out :=
  .next (runPriv 0x14 h (fun s =>
    let m := port.toNat
    if !cxlRangeOk s m base.toNat bytes.toNat then badParam h 0 s
    else if rget s .fdieCxlPort_present m = 0 || rget s .fdieCxlCapacity_bytes m < bytes.toNat then badParam h 0x70 s
    else
      let s1 := drainXfers none (fun t => slotOf t.tray == ownSlot s && regionOf t.tray == 8) s
      let s2 := rset .fdieCxlMapBase_offset m base.toNat (rset .fdieCxlMapBytes_bytes m bytes.toNat s1)
      finishOk h { s2 with host := { s2.host with cxlMapped := sset 0 s2.host.cxlMapped m (sget 0 s2.host.cxlDev m) } }) s)

/-! ### Diagnosis, partitions and holds (R22, R72, R80, R405, R406) -/

/-- Table 3.6: DIAG_RUN. The spec defines no test; the result code is a free value. -/
def execDiagRun (h : CmdRef) (test target : BitVec 16) (s : State) : Out :=
  .next (runPriv 0x72 h (fun s => finish h stOk (Config.diagResult s.free test.toNat target.toNat) (useFree s)) s)

/-- R406: TROUBLE_READ writes the record of Table 16.7. -/
def execTroubleRead (h : CmdRef) (dest : Word64) (s : State) : Out :=
  .next (runPriv 0x73 h (fun s => finishOk h (ctxWrite h.ctx dest.toNat (troubleBytes s) s)) s)

/-- R22, R356: a die mask that a partition may have: no die of another partition, no fenced die. -/
def maskOk (s : State) (p mask : Nat) : Bool :=
  decide (p < 8) && (List.range 8).all (fun d => !mask.testBit d ||
    ((List.range 8).all (fun o => o == p || !(sget 0 s.ctl.partitions o).testBit d) && !(sget 0 s.sp.dieTrim d).testBit 2))

/-- R22, R405: PARTITION_SET. A die that leaves a partition with contexts disables their work. -/
def execPartitionSet (h : CmdRef) (partition dieMask : BitVec 8) (s : State) : Out :=
  .next (runPriv 0x80 h (fun s =>
    let p := partition.toNat
    let mask := dieMask.toNat
    let old := sget 0 s.ctl.partitions p
    if !maskOk s p mask then badParam h 0 s
    else
      let cs := partCtxs s p
      let set := fun (s : State) => { s with ctl := { s.ctl with partitions := sset 0 s.ctl.partitions p mask } }
      if old &&& mask = old || cs.isEmpty then finishOk h (set s)
      else
        let r := cs.foldl disableCtx (s, 0)
        finishOk h (disabledEvent 1 p r.2 cs (set r.1))) s)

/-- R80: a held context resumes when its resources return; the micro-batches that failed while it was held are replayed. -/
def execHoldReleased (c : Nat) (s : State) : Out :=
  .next (if (ctx? s c).elim false (·.held) then
      let ms := (stepOf s c).mbFault
      ms.foldl (fun s m => stepFault c m s) (modStep c (fun x => { x with mbFault := [] }) (releaseCtx c s))
    else s)

/-! ### Patrol and migration (R172 to R177) -/

/-- The memory key of a data line of a physical channel that serves a logical one; none for reserved areas and idle channels. -/
def lineKey (s : State) (d p line : Nat) : Option Nat :=
  if 7656 * 2 ^ 20 / 64 ≤ line then none
  else
    ((List.range (chanCount s d)).find? (fun ch => physChan s d ch == p)).map (fun ch =>
      gddrKey d ((line * 64 / 4096 * chanCount s d + ch) * 4096 + line * 64 % 4096))

/-- The logical channel that a physical one serves. -/
def logicalOf (s : State) (d p : Nat) : Option Nat := (List.range (chanCount s d)).find? (fun ch => physChan s d ch == p)

/-- A migration trigger of a physical channel. -/
def trigPhys (d p : Nat) (s : State) : State := (logicalOf s d p).elim s (fun ch => migTrigger d ch s)

/-- R172, R173, R175: a line that the patrol corrected. -/
def patrolFixed (d p line : Nat) (data : List Byte) (s : State) : State :=
  let old := rget s .cdieMemCorrCount_count (d * 14 + p)
  let s1 := healthLog 0 1 (count1 .cdieMemCorrCount_count (d * 14 + p) s)
  let s2 := (lineKey s d p line).elim s1 (fun k => keyWrite k data s1)
  let lim := 16 * rget s .cdieMemMigrateThresh_corr d
  if old < lim && lim ≤ old + 1 then trigPhys d p s2 else s2

/-- A memory key lies in a bank: its bases by logical die, and its bytes on each. -/
def inBank (l : List Nat) (n k : Nat) : Bool := l.any (fun a => a != 0 && decide (areaKey a ≤ k) && decide (k < areaKey a + n))

/-- Table 10.7: an uncorrectable line of a pending bank found after the seal and before COMMIT: the seal is withdrawn and the pair runs its passes
again. Where the line is the mirror's, its owner hears of it as of a failed report. -/
def pendingBad (k : Nat) (s : State) : State :=
  (s.st.map Prod.fst).foldl (fun s c =>
    let x := stepOf s c
    let n := (planOr x).bankBytes
    if stepSt s c ≠ 3 then s
    else if x.own.elim false (fun p => p.ended && inBank (p.desc.bank p.bank) n k) then updFault c 0 s
    else
      match x.mir with
      | some p =>
        if p.ended && inBank (mirEnv s c p).pend n k then emit (.vc7 "PASS_REPORT" (x.twin.getD 0x3FFF) [c, ownRoster s, p.step, p.digest, 0]) s else s
      | none => s) s

/-- R173: an uncorrectable line found by the patrol: MEM_UNCORRECTABLE to context 0 only. The line stays as stored. -/
def patrolBad (d p line kind : Nat) (s : State) : State :=
  let det := uncorrDetail 2 4 d p 0xFFFF 0xFF 7 (64 * line) 0xFFFF 0xFFFF (Config.tjNow s.free)
  let s1 := almDetection 0x0701 (0x10 + d) 0 det (raise0 0x0701 (0x10 + d) det (useFree s))
  let s2 := rflag .cdieMemStatus_uncorrSeen d (count1 .cdieMemUncorrCount_count (d * 14 + p) s1)
  trigPhys d p ((lineKey s d p line).elim s2 (fun k => pendingBad k { s2 with mem := { s2.mem with bad := sset 0 s2.mem.bad (k / 64) kind } }))

/-- R173: a channel's patrol reads one line, as its stored data and check bytes. -/
def execPatrolRead (die channel line : Nat) (data check : List Byte) (s : State) : Out :=
  .next (if 8 ≤ die || 14 ≤ channel || data.length ≠ 64 || check.length ≠ 4 then s
    else
      match eccDecode line data check with
      | .clean => s
      | .poison => s
      | .corrected b => patrolFixed die channel line b s
      | .addrErr => patrolBad die channel line 3 s
      | .uncorr => patrolBad die channel line 2 s)

/-- R175: a write of CDIE_MEM_MIGRATE by PF 0 with go set. -/
def execCdieMemMigrate (fn die : Nat) (value : BitVec 32) (s : State) : Out :=
  let v := value.toNat
  let s := dropLatch fn s
  .next (if notServed s fn || 8 ≤ die || !v.testBit 0 || chanCount s die ≤ bits v 1 4 then s else migTrigger die (bits v 1 4) s)

/-- An update pass runs on a die. -/
def passOn (s : State) (d : Nat) : Bool :=
  s.st.any (fun x => ((x.2.own.elim false (fun p => !p.ended)) || (x.2.mir.elim false (fun p => !p.ended))) && (ctxDies s x.1).contains d)

/-- Bad lines of a logical channel. -/
def badLines (s : State) (d ch : Nat) : List Nat :=
  (s.mem.bad.map Prod.fst).filter (fun k => k * 64 / 2 ^ 50 == d && decide (k * 64 % 2 ^ 50 < gddrBytes s d) && chanOf s d (k * 64 % 2 ^ 50) == ch)

/-- Table 7.5, steps 4 and 5: the leap channel takes over, and what could not be read lies there as poison. -/
def migDone (d : Nat) (s : State) : State :=
  let ch := rget s .cdieMemStatus_migrating d
  let old := sget 0 s.mem.migOld d
  let bad := badLines s d ch
  let s1 : State := { s with mem := { s.mem with bad := bad.foldl (fun m k => sset 0 m k 1) s.mem.bad, chanMap := sset ch s.mem.chanMap (d * 13 + ch) 13,
                                                 migOld := sset 0 s.mem.migOld d 0 } }
  let s2 := rflag .cdieMemStatus_migrated d (rset .cdieMemStatus_leapTarget d ch (rset .cdieMemStatus_migrating d 15
    (rset .cdieMemCopyPtr_line d 125829120 s1)))
  substDone kChannel d 11 2 ch old 13 (raise0 0x0703 (0x10 + d) (pack [(0, 8, d), (8, 8, ch), (16, 8, old), (24, 8, satTo 8 bad.length)]) s2)

/-- R176: the copy has ended; the switch waits for an update pass on the die (Table 7.6). -/
def execMemMigrationDone (die : Nat) (s : State) : Out :=
  .next (if 8 ≤ die || rget s .cdieMemStatus_migrating die = 15 || passOn s die then s else migDone die s)

/-- Lines of a channel that the copy had not reached are poison. -/
def poisonFrom (d ch copied : Nat) (s : State) : State :=
  { s with mem := { s.mem with bad := (List.range (7656 * 2 ^ 20 / 64 - copied)).foldl (fun m i =>
      let l := copied + i
      sset 0 m (gddrKey d ((l * 64 / 4096 * chanCount s d + ch) * 4096 + l * 64 % 4096) / 64) 1) s.mem.bad } }

/-- R177: the old channel stops answering during a migration, with lines 0 to `copied` - 1 copied: the switch happens at once. -/
def execChannelStopsAnswering (die copied : Nat) (s : State) : Out :=
  .next (if 8 ≤ die || rget s .cdieMemStatus_migrating die = 15 then s
    else migDone die (poisonFrom die (rget s .cdieMemStatus_migrating die) copied s))

/-! ### Remote tray accesses (R167, R392, R400) -/

/-- The number under which another slot's module keeps its generations: its roster index, or one of its own where no port knows it. -/
def slotSource (s : State) (slot : Nat) : Nat := if slotRoster s slot = 0x3FFF then 16384 + slot else slotRoster s slot

/-- The context that exports a range to a slice with a right: the lowest of those whose entries hold every line. -/
def exporter (s : State) (slice : Nat) (wr : Bool) (a n : Nat) : Option Nat :=
  (s.ctl.ctxs.find? (fun x => (linesOf a n).all (fun p => x.2.window.any (fun e =>
    e.rights.testBit 2 && e.slice == slice && entryOk wr p.1 e && entryOk wr (p.1 + p.2 - 1) e)))).map Prod.fst

/-- Key of the write tags kept for a source context and generation (R392). -/
def tagKey (r : RemoteReq) : Nat := (r.slot * 256 + r.ctx) * 256 + r.gen

/-- The response to a remote request: whether it carries poison, and its bytes. -/
def remoteReply (r : RemoteReq) (bad : Bool) (b : List Byte) (s : State) : State :=
  emit (.data (if r.write then "STORE_ACK" else "LOAD_DATA") r.slot [r.ctx, r.gen, r.tag, b2n bad] b) s

/-- A write applied for the owner of the export entry, its tag kept among the last 64. -/
def remoteWrite (r : RemoteReq) (c : Nat) (s : State) : State :=
  let s1 := ctxWrite c r.addr.toNat r.data s
  { s1 with vig := { s1.vig with applied := sput s1.vig.applied (tagKey r) (((sget [] s1.vig.applied (tagKey r)) ++ [r.tag]).reverse.take 64).reverse } }

/-- R167, R392, R400: a remote load or store is checked against the export entries and answered; a stale one is not. -/
def execRemoteTrayRequest (r : RemoteReq) (s : State) : Out :=
  .next (
    let src := slotSource s r.slot
    if rget s .mcStatus_ready 0 = 0 then s
    else
      let s1 := noteGen src r.ctx r.gen s
      if genStale s src r.ctx r.gen then s1
      else
        let s2 := wakeUp 3 s1
        let n := if r.write then r.data.length else r.len
        if r.write && (sget [] s2.vig.applied (tagKey r)).contains r.tag then remoteReply r false [] s2
        else
          match exporter s2 r.slice r.write r.addr.toNat n with
          | none => remoteReply r false (if r.write then [] else List.replicate n 0) (count1 .mcWinRemoteViol_count 0 s2)
          | some c =>
            if r.write then remoteReply r false [] (remoteWrite r c s2)
            else
              let x := ctxRead c r.addr.toNat n s2
              remoteReply r (!x.1.bad.isEmpty) x.1.bytes x.2)

/-- R167, R400: the answer to a remote request of this module. A stale one is dropped and counted. -/
def execRemoteTrayResponse (tag : Nat) (data : List Byte) (gen : Nat) (poison : Bool) (s : State) : Out :=
  match sget? s.vig.remote tag with
  | none => .next s
  | some r =>
    if gen ≠ r.gen then .next (count1 .vigilStaleDropCount_count 0 s)
    else
      let s1 := { s with vig := { s.vig with remote := sdel s.vig.remote tag } }
      let s2 := match r.use with
        | .other => s1
        | .engine k =>
          if poison then remotePoison r s1
          else
            retry (engOfKey k) (match sget? s1.eng k with
              | some x => if r.write then s1 else setEng (engOfKey k) { x with answers := x.answers ++ [(r.addr, data)] } s1
              | none => s1)
      .next (windowCheck r.ctx (storeDone tag s2))

/-! ### The numerics watch's control, and heartbeats (R19, R64, R201, R391) -/

/-- R201: a write of NUMW_CTL by PF 0. -/
def execNumwCtl (fn ctx : Nat) (value : BitVec 32) (s : State) : Out :=
  let v := value.toNat
  let s := dropLatch fn s
  .next (if notServed s fn || 256 ≤ ctx then s
    else
      let s1 := if bits v 16 16 = 0 then s else rset .numwCtl_quietN ctx (bits v 16 16) s
      if rget s1 .numwCtl_enable ctx = v % 2 then s1
      else
        let s2 := rset .numwCtl_enable ctx (v % 2) s1
        raiseBoth 0x0804 0xB ctx (pack [(0, 8, ctx), (8, 8, v % 2)]) (if v % 2 = 0 then rflag .numwStatus_offSeen 0 s2 else s2))

/-- The module is the twin of a context's partner, or becomes it. -/
def partnerIs (s : State) (c peer : Nat) : Bool :=
  (stepOf s c).twin == some peer || (stepOf s c).bind.elim false (fun x => x.1 == peer)

/-- R64, R384: a partner's journal record is written and acknowledged. -/
def execTwinJournalRecord (peer ctx q : Nat) (seq : BitVec 32) (data : List Byte) (s : State) : Out :=
  .next (if rget s .mcStatus_ready 0 = 0 || !partnerIs s ctx peer then s
    else
      let s1 := wakeUp 3 s
      let others := s1.ctl.partner.filter (fun r => !(r.1 == peer && r.2.1 == ctx && r.2.2.1 == q && r.2.2.2.1 == seq.toNat))
      emit (.vc7 "JOURNAL_ACK" peer [ctx, q, seq.toNat]) { s1 with ctl := { s1.ctl with partner := others ++ [(peer, ctx, q, seq.toNat, data)] } })

/-- R21, R391: a command processor answers the controller. -/
def execCommandProcessorHeartbeat (die : Nat) (s : State) : Out :=
  .next (if phase s = 1 && (liveDies s).contains die then ror .mcStatus_cpPresent 0 (2 ^ die) s else s)

end Sys2Proof.Machine
end

