-- ==== Sys2Proof/Machine/Host.lean ====
section
/-! DEFINITION. The PCI Express port and its functions, MSI-X, BAR 4, the management interface with its vendor messages, SPDM and PLDM, and
the CXL ports (ch. 18). -/

namespace Sys2Proof.Machine

/-! ### Functions (R437, R438, R444, R445) -/

/-- Pending messages of a function's open vectors, sent where the function may send (R443). -/
def sendPending (fn : Nat) (s : State) : State :=
  if noDma s fn then s
  else
    let ready := ((s.host.msixPend.map Prod.fst).filter (fun k => k / 2048 == fn && sget false s.host.msixOpen k))
    ready.foldl (fun s k => emit (.msix fn (k % 2048)) { s with host := { s.host with msixPend := sset false s.host.msixPend k false } }) s

/-- Queues of a function's contexts. -/
def fnQueues (s : State) (fn : Nat) : List Nat := (s.ctl.queues.filter (fun x => fnOf s x.2.ctx == fn)).map Prod.fst

/-- A function that may use DMA again sends its pending messages, delivers the replies that waited, and fetches (R444). -/
def resumeFn (fn : Nat) (s : State) : State :=
  if noDma s fn then s
  else (fnQueues s fn).foldl (fun s q => fetchLoop q 32768 (flushQueue q s)) (sendPending fn s)

/-- A bit of a function's DMA switches: 1 Bus Master Enable clear, 2 D3hot. -/
def setDmaBit (fn b : Nat) (on : Bool) (s : State) : State :=
  let v := sget 1 s.host.noDma fn
  { s with host := { s.host with noDma := sset 1 s.host.noDma fn (if on then v ||| b else v - (v &&& b)) } }

/-- R444: Bus Master Enable is cleared. -/
def execBusMasterEnableClear (fn : Nat) (s : State) : Out := .next (if fnUp s fn then setDmaBit fn 1 true s else s)

/-- R444: Bus Master Enable is set again. -/
def execBusMasterEnableSet (fn : Nat) (s : State) : Out := .next (if fnUp s fn then resumeFn fn (setDmaBit fn 1 false s) else s)

/-- R444: a function enters D3hot. -/
def execD3hot (fn : Nat) (s : State) : Out := .next (if fnUp s fn then setDmaBit fn 2 true s else s)

/-- R444: a function returns to D0 without being reset. -/
def execD0Entry (fn : Nat) (s : State) : Out := .next (if fnUp s fn then resumeFn fn (setDmaBit fn 2 false s) else s)

/-- The configuration space of a function at its reset values; that of PF 0 holds VF Enable and the BAR 4 sizes. -/
def fnConfigReset (fn : Nat) (s : State) : State :=
  let keep := fun {α : Type} (m : SMap α) => m.filter (fun x => x.1 / 2048 != fn)
  let s1 : State := { s with host := { s.host with noDma := sset 1 s.host.noDma fn 1, msixOpen := keep s.host.msixOpen, msixPend := keep s.host.msixPend,
                                                   msixTab := s.host.msixTab.filter (fun x => x.1 / 8192 != fn) } }
  if fn = 0 then { s1 with host := { s1.host with bar4Pf := 34, bar4Vf := 34 } } else s1

/-- VFs that are enabled, or whose contexts exist. -/
def vfsOf (s : State) : List Nat :=
  (List.range 64).filter (fun n => n != 0 && ((rget s .hostifVf_enable 0 == 1 && decide (n ≤ rget s .hostifVf_numVfs 0)) || !(fnCtxs s n).isEmpty))

/-- Every VF disabled (R438). -/
def dropVfs (s : State) : State :=
  let l := vfsOf s
  let s1 := rset .hostifVf_enable 0 0 { s with host := { s.host with flr := s.host.flr.filter (fun n => n == 0) } }
  l.foldl (fun s n => disableFn n (fnConfigReset n s)) s1

/-- R438: the host clears VF Enable. -/
def execVfEnableClear (s : State) : Out :=
  .next (if rget s .hostifVf_enable 0 = 0 || !fnUp s 0 then s else (vfsOf s).foldl (fun s n => reportDisable n s) (dropVfs s))

/-- R438: the host sets VF Enable. -/
def execVfEnableSet (numVfs : Nat) (s : State) : Out :=
  .next (if 63 < numVfs || !fnUp s 0 || rget s .hostifVf_enable 0 = 1 then s
    else rset .hostifVf_enable 0 1 (rset .hostifVf_numVfs 0 numVfs s))

/-- The registers of Table 3.1. -/
def adminFields : List Fld :=
  [.queueAdminSqBase_addr, .queueAdminCqBase_addr, .queueAdminCfg_msix, .queueAdminCfg_cqLog2, .queueAdminCfg_sqLog2, .queueAdminCfg_enable]

/-- A function-level reset begins: the function's contexts are disabled; that of PF 0 disables every function and returns the registers of
Table 3.1 to their reset values (R405). -/
def flrBegin (fn : Nat) (s : State) : State :=
  let s1 := trouble .troubleLog_flr 1 (rflag .hostifStatus_flrSeen 0 { s with host := { s.host with flr := s.host.flr ++ [fn] } })
  if fn = 0 then adminFields.foldl (fun s f => rset f 0 (fldReset f 0) s) (disableFn 0 (dropVfs s1)) else disableFn fn s1

/-- R444: a function-level reset. -/
def execFunctionLevelReset (fn : Nat) (s : State) : Out := .next (if fnUp s fn then flrBegin fn s else s)

/-- R444: the configuration space is back at its reset values, and the disable is reported. -/
def execFunctionLevelResetDone (fn : Nat) (s : State) : Out :=
  .next (if !s.host.flr.contains fn then s
    else
      let s1 := fnConfigReset fn { s with host := { s.host with flr := s.host.flr.filter (fun n => n != fn) } }
      if fn = 0 then (s1.host.disabling.map Prod.fst).foldl (fun s n => reportDisable n s) s1 else reportDisable fn s1)

/-- HOSTIF_LINK_CHANGED. -/
def hostLinkEvent (hot : Bool) (s : State) : State :=
  raise0 0x1201 1 (pack [(0, 1, rget s .hostifLink_up 0), (8, 5, rget s .hostifLink_width 0), (16, 3, rget s .hostifLink_rate 0), (24, 1, b2n hot)]) s

/-- R437: a hot reset or PERST# is a function-level reset of PF 0. -/
def execHotReset (s : State) : Out :=
  .next (hostLinkEvent true (if fnUp s 0 then flrBegin 0 s else rflag .hostifStatus_flrSeen 0 s))

/-- HOSTIF_LINK set. -/
def setHostLink (up w r fl : Nat) (s : State) : State :=
  rset .hostifLink_up 0 up (rset .hostifLink_width 0 w (rset .hostifLink_rate 0 r (rset .hostifLink_flit 0 fl s)))

/-- R437: the link goes down without a reset; every function's DMA is held. -/
def execPcieLinkDown (s : State) : Out :=
  .next (if rget s .hostifLink_up 0 = 0 then s else hostLinkEvent false (rflag .hostifStatus_linkDownSeen 0 (setHostLink 0 0 0 0 s)))

/-- R436, R437: the link trains, or changes its width or rate; what was held continues. -/
def execPcieLinkUp (w r : Nat) (flit : Bool) (s : State) : Out :=
  .next (if !([16, 8, 4].contains w) || r = 0 || 6 < r || phase s = 0 || phase s = 3 ||
        (rget s .hostifLink_up 0 == 1 && rget s .hostifLink_width 0 == w && rget s .hostifLink_rate 0 == r) then s
    else (List.range 64).foldl (fun s fn => resumeFn fn s) (hostLinkEvent false (setHostLink 1 w r (b2n flit) s)))

/-- R443: a vector is unmasked, and its pending message sent. -/
def openVector (fn vector : Nat) (s : State) : State :=
  sendPending fn { s with host := { s.host with msixOpen := sset false s.host.msixOpen (fn * 2048 + vector) true } }

/-- R443: MSIX_UNMASK. -/
def execMsixUnmask (fn vector : Nat) (s : State) : Out :=
  let s := dropLatch fn s
  .next (if fnUp s fn && decide (vector < 2048) then openVector fn vector s else s)

/-! ### BAR 4 (R439, R441, R445) -/

/-- R439: the size of BAR 4 is changed, 1 GiB to 1 TiB; all VFs share one. -/
def execBar4Resize (fn sizeLog2 : Nat) (s : State) : Out :=
  .next (if sizeLog2 < 30 || 40 < sizeLog2 || 63 < fn then s
    else { s with host := if fn = 0 then { s.host with bar4Pf := sizeLog2 } else { s.host with bar4Vf := sizeLog2 } })

/-- log2 of the size of a function's BAR 4. -/
def bar4Log (s : State) (fn : Nat) : Nat := if fn = 0 then s.host.bar4Pf else s.host.bar4Vf

/-- What a host access returned. -/
def hostReply (fn : Nat) (ur : Bool) (b : List Byte) (s : State) : State :=
  emit (.pcie fn ur b) { s with io := { s.io with readData := b } }

/-- R441: a host access through BAR 4 on behalf of the function's context. A write is posted and returns nothing. -/
def execBar4Access (fn off size : Nat) (write : Bool) (data : List Byte) (s : State) : Out :=
  let s := dropLatch fn s
  .next (
    if !fnUp s fn || 2 ^ bar4Log s fn < off + size then hostReply fn true [] s
    else
      let c := rget s .hostifFnBar4_ctx fn
      let a := rget s .hostifFnBar4_base fn * 4096 + off
      if c = 0xFF then (if write then s else hostReply fn false (List.replicate size 0) s)
      else if write then ctxWrite c a (data.take size) s
      else
        let r := cmdRead c a size s
        hostReply fn false r.1.bytes r.2)

/-! ### The management interface (R446 to R448, Table 18.6) -/

/-- How a request is taken: dropped, answered with an error of MCTP, refused with a completion byte, or served. -/
inductive Serve where
  | dropped | error | refused | served
deriving DecidableEq, Repr

/-- A module reset is in progress in RUN. -/
def inModuleReset (s : State) : Bool := s.vig.resets.any (fun r => r.level == 4)

/-- Vendor commands served over a binding in a phase. -/
def vendorOk (s : State) (pcie : Bool) : List Nat :=
  if phase s = 0 then (if pcie then [] else [6])
  else if phase s = 1 then
    (if inModuleReset s then (if pcie then [] else [6]) else if pcie then [3, 6] else [1, 2, 3, 4, 5, 6])
  else if phase s = 2 then (if pcie then [] else [6])
  else (if pcie then [] else [3, 4, 5, 6])

/-- Message types other than the vendor's that are served: 0 control, 1 PLDM, 5 SPDM. -/
def typesOk (s : State) (pcie : Bool) : List Nat :=
  if phase s = 0 then (if pcie then [] else [0])
  else if phase s = 1 then (if inModuleReset s then (if pcie then [] else [0]) else [0, 1, 5])
  else if phase s = 2 then [0, 1]
  else (if pcie then [] else [0, 1, 5])

/-- The interface answers: from step 2 of the start, and over PCIe while the link is up. -/
def reachable? (s : State) (pcie : Bool) : Bool := s.boot.powered && (!pcie || rget s .hostifLink_up 0 == 1)

/-- A request of a type other than the vendor's. Over PCIe one that is not served is dropped (Table 18.6). -/
def serveType (s : State) (pcie : Bool) (t : Nat) : Serve :=
  if !reachable? s pcie then .dropped else if (typesOk s pcie).contains t then .served else if pcie then .dropped else .error

/-- A vendor request. -/
def serveVendor (s : State) (pcie : Bool) (cmd : Nat) : Serve :=
  if !reachable? s pcie || (vendorOk s pcie).isEmpty then .dropped else if (vendorOk s pcie).contains cmd then .served else .refused

/-- A reply of the management interface. -/
def reply (name : String) (fields : List Nat) (b : List Byte) (s : State) : State := emit (.mctp name fields b) s

/-- A vendor request taken (Table 18.7): the body answers where it is served. -/
def vendor (pcie : Bool) (cmd : Nat) (name : String) (body : State → State) (s : State) : Out :=
  .next (match serveVendor s pcie cmd with
    | .served => body s
    | .refused => reply name [0x01] [] s
    | .error => reply "ERROR" [0x7E] [] s
    | .dropped => s)

/-- A request of another type taken. -/
def typed (pcie : Bool) (t : Nat) (body : State → State) (s : State) : Out :=
  .next (match serveType s pcie t with
    | .served => body s
    | .error => reply "ERROR" [t] [] s
    | _ => s)

/-- R370, R448: TRAY_SET; a value out of range is refused and nothing written. -/
def execTraySet (pcie : Bool) (grant peak : BitVec 16) (s : State) : Out :=
  vendor pcie 1 "TRAY_SET" (fun s =>
    let g := grant.toNat
    let p := peak.toNat
    if g < 4000 || 7200 < g || p < 4000 || 8000 < p then reply "TRAY_SET" [0x02] [] s
    else reply "TRAY_SET" [0x00] [] (writeTray (g + 65536 * p) s)) s

/-- R448: TRAY_ID_SET, only before ready rises. -/
def execTrayIdSet (pcie : Bool) (trayId : BitVec 32) (s : State) : Out :=
  vendor pcie 2 "TRAY_ID_SET" (fun s =>
    if rget s .mcStatus_ready 0 = 1 then reply "TRAY_ID_SET" [0x01] [] s
    else reply "TRAY_ID_SET" [0x00] [] { s with fab := { s.fab with trayId := trayId.toNat } }) s

/-- R448: ALMANAC_GET returns bytes of a sealed block. -/
def execAlmanacGet (pcie : Bool) (seq : Word64) (offset : BitVec 32) (length : BitVec 16) (s : State) : Out :=
  vendor pcie 3 "ALMANAC_GET" (fun s =>
    if rget s .almanacSeq_seq 0 < seq.toNat || 1024 < length.toNat || 65536 < offset.toNat + length.toNat then reply "ALMANAC_GET" [0x02] [] s
    else reply "ALMANAC_GET" [0x00] (((blockBytes s seq.toNat).drop offset.toNat).take length.toNat) s) s

/-- A new nonce in force (R432). -/
def newNonce (s : State) : State :=
  let n := s.boot.nonceNo
  { s with boot := { s.boot with nonce := some ((List.range 32).map (Config.nonceByte n)), nonceNo := n + 1 } }

/-- R432, R448: UNLOCK_NONCE: the nonce in force, or a new one. -/
def execUnlockNonce (pcie : Bool) (s : State) : Out :=
  vendor pcie 4 "UNLOCK_NONCE" (fun s =>
    let s1 := if s.boot.nonce.isSome then s else newNonce s
    reply "UNLOCK_NONCE" [0x00] (s1.boot.nonce.getD []) s1) s

/-- Both signatures over serial digest, nonce and text verify, and the service keys hash to the OTP's value. -/
def unlockOk (s : State) (ed mldsa : List Byte) : Bool :=
  let m := leBytes 8 serialDigest ++ s.boot.nonce.getD [] ++ ascii "unlock"
  s.boot.nonce.isSome && Config.edVerify Config.serviceEd m ed && Config.mlVerify Config.serviceMl [] m mldsa &&
  sha256 (Config.serviceEd ++ Config.serviceMl) == (List.range 32).map Config.serviceHash

/-- R432: UNLOCK. One attempt in 10 s is accepted; a failed one issues a new nonce. -/
def execUnlock (pcie : Bool) (ed mldsa : List Byte) (s : State) : Out :=
  vendor pcie 5 "UNLOCK" (fun s =>
    let now := lcountOf s 0
    if s.boot.unlockAt.elim false (fun t => decide (now < t + 10000000000)) then reply "UNLOCK" [0x01] [] s
    else
      let s1 : State := { s with boot := { s.boot with unlockAt := some now } }
      if unlockOk s ed mldsa then reply "UNLOCK" [0x00] [] { s1 with boot := { s1.boot with tapOpen := true, nonce := none } }
      else reply "UNLOCK" [0x02] [] (newNonce s1)) s

/-- The eight bytes of STATUS_GET. -/
def statusBytes (s : State) : List Byte :=
  leBytes 1 (phase s) ++ leBytes 1 (rget s .mcStatus_ready 0) ++ leBytes 1 (rget s .mcBootStatus_heldReason 0) ++
  leBytes 1 (rget s .mcBootStatus_emberCode 0) ++ leBytes 1 (rget s .almanacGrade_grade 0) ++ leBytes 2 (rget s .cohortHealth_score 0) ++
  leBytes 2 (ownRoster s)

/-- R448: STATUS_GET. -/
def execStatusGet (pcie : Bool) (s : State) : Out :=
  vendor pcie 6 "STATUS_GET" (fun s => reply "STATUS_GET" [0x00] (statusBytes s) s) s

/-- R447: the bus owner assigns the endpoint ID. DSP0236 reserves 0 to 7 and 255. -/
def execSetEndpointId (pcie : Bool) (eid : BitVec 8) (s : State) : Out :=
  typed pcie 0 (fun s =>
    if eid.toNat < 8 || eid.toNat = 255 then reply "SET_ENDPOINT_ID" [0x02] [] s
    else reply "SET_ENDPOINT_ID" [0x00, eid.toNat] [] { s with host := { s.host with eid := eid.toNat } }) s

/-- R446: SETDASA to the static address 0x30 + slot. -/
def execSetdasa (static dynamic : BitVec 7) (s : State) : Out :=
  .next (if s.boot.powered && static.toNat == 0x30 + ownSlot s then { s with host := { s.host with dynAddr := dynamic.toNat } } else s)

/-! ### SPDM (R449 to R451). The layout of its messages is DSP0274's and not the spec's: a message is its name and the fields that the spec gives -/

/-- A message of the exchange, as the signatures cover it (DESIGN CHOICE, log entry 31). -/
def spdmMsg (name : String) (b : List Byte) : List Byte := ascii name ++ leBytes 4 b.length ++ b

/-- A response; one longer than DataTransferSize is held for CHUNK_GET, under a new handle. -/
def spdmReply (name : String) (b : List Byte) (s : State) : State :=
  if b.length ≤ 4096 then reply name [0x13] b s
  else reply "LARGE_RESPONSE" [0x13, (s.host.chunkNo + 1) % 256] [] { s with host := { s.host with chunk := b, chunkNo := (s.host.chunkNo + 1) % 256 } }

/-- A request and its response added to what the next signature covers; the PQ half of an earlier signature can be asked for no longer. -/
def spdmNote (req : List Byte) (resp : List Byte) (s : State) : State :=
  { s with host := { s.host with transcript := s.host.transcript ++ req ++ resp, spdmLast := none } }

/-- A request refused. -/
def spdmError (code : Nat) (s : State) : State := reply "ERROR" [0x13, code] [] { s with host := { s.host with spdmLast := none } }

/-- SPDM's error codes InvalidRequest and UnexpectedRequest. -/
def invalidRequest : Nat := 0x01
def unexpectedRequest : Nat := 0x04

/-- R449: GET_VERSION: only version 1.3; the exchange starts again. -/
def execGetVersion (pcie : Bool) (s : State) : Out :=
  typed pcie 5 (fun s =>
    spdmReply "VERSION" [0x13] (spdmNote (spdmMsg "GET_VERSION" []) (spdmMsg "VERSION" [0x13])
      { s with host := { s.host with transcript := [], negotiated := false } })) s

/-- The capabilities of R449: CERT, CHAL, MEAS with signatures, CHUNK; DataTransferSize and MaxSPDMmsgSize. -/
def spdmCaps : List Byte := [0x01, 0x01, 0x02, 0x01] ++ leBytes 4 4096 ++ leBytes 4 65536

/-- R449: GET_CAPABILITIES. -/
def execGetCapabilities (pcie : Bool) (s : State) : Out :=
  typed pcie 5 (fun s =>
    if s.host.transcript.isEmpty then spdmError unexpectedRequest s
    else spdmReply "CAPABILITIES" spdmCaps (spdmNote (spdmMsg "GET_CAPABILITIES" []) (spdmMsg "CAPABILITIES" spdmCaps) s)) s

/-- R449: NEGOTIATE_ALGORITHMS: Ed25519 and SHA-256. -/
def execNegotiateAlgorithms (pcie : Bool) (ed25519 sha : Bool) (s : State) : Out :=
  typed pcie 5 (fun s =>
    if s.host.transcript.isEmpty then spdmError unexpectedRequest s
    else if !ed25519 || !sha then spdmError invalidRequest s
    else
      let b : List Byte := [0x01, 0x01]
      spdmReply "ALGORITHMS" b (spdmNote (spdmMsg "NEGOTIATE_ALGORITHMS" b) (spdmMsg "ALGORITHMS" b) { s with host := { s.host with negotiated := true } })) s

/-- The certificate chain of slot 0. -/
def chain : List Byte := (List.range Config.certLen).map Config.certChain

/-- A request that needs negotiated algorithms. -/
def spdmReq (pcie : Bool) (body : State → State) (s : State) : Out :=
  typed pcie 5 (fun s => if s.host.negotiated then body s else spdmError unexpectedRequest s) s

/-- R449: GET_DIGESTS: slot 0 alone. -/
def execGetDigests (pcie : Bool) (s : State) : Out :=
  spdmReq pcie (fun s =>
    let b := [0x01] ++ sha256 chain
    spdmReply "DIGESTS" b (spdmNote (spdmMsg "GET_DIGESTS" []) (spdmMsg "DIGESTS" b) s)) s

/-- R449: GET_CERTIFICATE of slot 0, the only one provisioned. -/
def execGetCertificate (pcie : Bool) (slot : BitVec 8) (offset length : BitVec 16) (s : State) : Out :=
  spdmReq pcie (fun s =>
    if slot ≠ 0 || chain.length ≤ offset.toNat then spdmError invalidRequest s
    else
      let b := (chain.drop offset.toNat).take length.toNat
      spdmReply "CERTIFICATE" b (spdmNote (spdmMsg "GET_CERTIFICATE" ([slot] ++ leBytes 2 offset.toNat ++ leBytes 2 length.toNat)) (spdmMsg "CERTIFICATE" b) s)) s

/-- A signed response: the Ed25519 signature covers what was noted and this request and response; the next request may ask for the other half. -/
def spdmSigned (name : String) (req resp : List Byte) (s : State) : State :=
  let m := s.host.transcript ++ req ++ resp
  spdmReply name (resp ++ signEd "attestation" m) { s with host := { s.host with spdmLast := some m, transcript := [0] } }

/-- The responder's nonce. -/
def spdmNonceOf (s : State) : List Byte := (List.range 32).map (Config.spdmNonce s.free)

/-- R449: CHALLENGE. -/
def execChallenge (pcie : Bool) (slot : BitVec 8) (nonce : List Byte) (s : State) : Out :=
  spdmReq pcie (fun s =>
    if slot ≠ 0 then spdmError invalidRequest s
    else spdmSigned "CHALLENGE_AUTH" (spdmMsg "CHALLENGE" ([slot] ++ nonce)) (sha256 chain ++ spdmNonceOf s) (useFree s)) s

/-- The value of a measurement block (Table 18.9). -/
def measurement (s : State) (i : Nat) : List Byte :=
  let h := runHeader s
  if i = 1 then sha256 h
  else if i = 2 then leBytes 2 (pktNat h 0x10 2) ++ leBytes 2 s.boot.counter ++ leBytes 1 (pktNat h 0x13 1)
  else if i = 3 then sha256 (blockBytes s (rget s .almanacSeq_seq 0))
  else if i = 4 then leBytes 8 (pktNat h 8 8) ++ leBytes 1 (pktNat h 0x12 1)
  else leBytes 8 (rget s .linkPlanDigest_digest 0)

/-- Measurement blocks that an index names: 0 none but their number, 0xFF all. -/
def measured (i : Nat) : Option (List Nat) :=
  if i = 0 then some [] else if i = 0xFF then some [1, 2, 3, 4, 5] else if i ≤ 5 then some [i] else none

/-- R451: GET_MEASUREMENTS. -/
def execGetMeasurements (pcie : Bool) (index : BitVec 8) (sign : Bool) (nonce : List Byte) (s : State) : Out :=
  spdmReq pcie (fun s =>
    match measured index.toNat with
    | none => spdmError invalidRequest s
    | some l =>
      let req := spdmMsg "GET_MEASUREMENTS" ([index, BitVec.ofNat 8 (b2n sign)] ++ nonce)
      let b := (if l.isEmpty then [5#8] else l.flatMap (fun i => leBytes 1 i ++ leBytes 2 (measurement s i).length ++ measurement s i)) ++ spdmNonceOf s
      if sign then spdmSigned "MEASUREMENTS" req b (useFree s) else spdmReply "MEASUREMENTS" b (spdmNote req (spdmMsg "MEASUREMENTS" b) (useFree s))) s

/-- R449: CHUNK_GET: 4,096 bytes of the response that is held. -/
def execChunkGet (pcie : Bool) (handle : BitVec 8) (index : BitVec 16) (s : State) : Out :=
  typed pcie 5 (fun s =>
    let b := (s.host.chunk.drop (4096 * index.toNat)).take 4096
    if handle.toNat ≠ s.host.chunkNo || b.isEmpty then reply "ERROR" [0x13, invalidRequest] [] s
    else reply "CHUNK_RESPONSE" [0x13, handle.toNat, index.toNat] b s) s

/-- R450: GET_PQ_SIGNATURE, only as the next request after a signed response. -/
def execGetPqSignature (pcie : Bool) (s : State) : Out :=
  typed pcie 5 (fun s =>
    match s.host.spdmLast with
    | none => spdmError unexpectedRequest s
    | some m => spdmReply "PQ_SIGNATURE" (signMl "attestation" "Decperon SPDM v1" m) { s with host := { s.host with spdmLast := none } }) s

/-- The device certificate: the record of block 0 that follows the Almanac key record (R350, R414). -/
def deviceCert : List Byte :=
  let b := (List.range 65536).map Config.block0Byte
  let first := pktNat b 0x82 2
  let second := pktNat b (0x82 + first) 2
  (b.drop (0x80 + first + 32)).take (second - 32)

/-- R450: GET_PQ_KEY. -/
def execGetPqKey (pcie : Bool) (s : State) : Out :=
  typed pcie 5 (fun s => spdmReply "PQ_KEY" (mlKey "attestation" ++ deviceCert) { s with host := { s.host with spdmLast := none } }) s

/-! ### PLDM (R446, R452) -/

/-- A signed 16-bit value. -/
def signed16 (n : Nat) : Int := if n < 32768 then n else (n : Int) - 65536

/-- The reading of a numeric sensor of Table 18.10, in the unit of the register behind it; the energy in kJ. -/
def sensorValue (s : State) (i : Nat) : Int :=
  if i = 1 then rget s .pwrInput_powerW 0
  else if i = 2 then rget s .pwrInput_voltage 0
  else if i = 3 then rget s .pwrEnergy_mj 0 / 1000000
  else if i = 4 then signed16 (rget s .thermCoolant_inlet 0)
  else if i = 5 then rget s .thermCoolant_flow 0
  else if i = 18 then rget s .cohortHealth_score 0
  else signed16 (rget s .thermDie_tjMax (i - 6))

/-- Warning, critical and fatal thresholds, and whether they are upper. -/
def thresholds (i : Nat) : Bool × List (Option Int) :=
  if i = 1 then (true, [none, some 7200, some 8000])
  else if i = 2 then (false, [some 4650, some 4400, some 3800])
  else if i = 4 then (true, [some 320])
  else if i = 5 then (false, [some 120])
  else if i = 18 then (false, [some 300, some 150])
  else if 6 ≤ i && i ≤ 17 then (true, [some 800, some 880, some 920])
  else (true, [])

/-- A threshold is reached. -/
def crossed (up : Bool) (v : Int) (t : Option Int) : Bool := t.elim false (fun t => if up then decide (t ≤ v) else decide (v ≤ t))

/-- The threshold state of a numeric sensor: 0 normal, 1 warning, 2 critical, 3 fatal. -/
def thresholdState (s : State) (i : Nat) : Nat :=
  let t := thresholds i
  let v := sensorValue s i
  ((t.2.mapIdx (fun j x => if crossed t.1 v x then j + 1 else 0))).foldl Nat.max 0

/-- The state of a state sensor. -/
def stateValue (s : State) (i : Nat) : Nat :=
  if i = 32 then phase s
  else if i = 33 then rget s .almanacGrade_grade 0
  else if i = 34 then rget s .mcBootStatus_heldReason 0
  else rget s .mcBootStatus_emberCode 0

/-- The sensors of Table 18.10. -/
def numericSensors : List Nat := (List.range 19).drop 1
def stateSensors : List Nat := [32, 33, 34, 35]

/-- What a sensor reports when it changes. -/
def sensorState (s : State) (i : Nat) : Nat := if i < 32 then thresholdState s i else stateValue s i

/-- Sensors whose state differs from the one last reported. -/
def changedSensors (s : State) : List Nat := (numericSensors ++ stateSensors).filter (fun i => sensorState s i != sget 0 s.host.sensors i)

/-- PLDM events: to the receiver where there is one; while there is none they wait, with ALERT_N low. -/
def reportSensors (s : State) : State :=
  let l := changedSensors s
  match s.host.eventReceiver with
  | some e =>
    let s1 := l.foldl (fun s i => reply "PLATFORM_EVENT" [e, i, sensorState s i] []
      { s with host := { s.host with sensors := sset 0 s.host.sensors i (sensorState s i) } }) s
    { s1 with boot := { s1.boot with alertN := true } }
  | none => { s with boot := { s.boot with alertN := l.isEmpty } }

/-- R452: GetSensorReading. -/
def execGetSensorReading (pcie : Bool) (sensor : BitVec 16) (s : State) : Out :=
  typed pcie 1 (fun s =>
    let i := sensor.toNat
    if !numericSensors.contains i then reply "SENSOR_READING" [0x80] [] s
    else reply "SENSOR_READING" [0x00, i, thresholdState s i] (leBytes 8 (sensorValue s i % 2 ^ 64).toNat) s) s

/-- R452: GetStateSensorReadings. -/
def execGetStateSensorReadings (pcie : Bool) (sensor : BitVec 16) (s : State) : Out :=
  typed pcie 1 (fun s =>
    let i := sensor.toNat
    if !stateSensors.contains i then reply "STATE_SENSOR_READINGS" [0x80] [] s
    else reply "STATE_SENSOR_READINGS" [0x00, i, stateValue s i] [] s) s

/-- R452: SetEventReceiver; events that waited are sent. -/
def execSetEventReceiver (pcie : Bool) (receiver : BitVec 8) (s : State) : Out :=
  typed pcie 1 (fun s =>
    reportSensors (reply "SET_EVENT_RECEIVER" [0x00] [] { s with host := { s.host with eventReceiver := some receiver.toNat } })) s

/-- R452: the sensors update every 100 ms. -/
def execPldmSensorUpdate (s : State) : Out := .next (if phase s = 0 || inModuleReset s then s else reportSensors s)

/-! ### The CXL ports (R453, R454) -/

/-- CXL_PORT_CHANGED. -/
def cxlEvent (m : Nat) (s : State) : State :=
  raise0 0x1202 (0x18 + m) (pack [(0, 8, m), (8, 1, rget s .fdieCxlPort_up m), (9, 1, rget s .fdieCxlPort_present m),
    (16, 5, rget s .fdieCxlPort_width m), (24, 3, rget s .fdieCxlPort_rate m)]) s

/-- R454: a port goes down or up. A different device leaves the range unmapped. -/
def execCxlPortChanged (m : Nat) (up present : Bool) (w r : Nat) (ser cap : Word64) (s : State) : Out :=
  .next (if 4 ≤ m then s
    else
      let was := rget s .fdieCxlPort_up m
      let dev := up && present
      let s1 := rset .fdieCxlPort_up m (b2n up) (rset .fdieCxlPort_present m (b2n present)
        (rset .fdieCxlPort_width m (if up then w else 0) (rset .fdieCxlPort_rate m r s)))
      let s2 := if dev then rset .fdieCxlCapacity_bytes m cap.toNat { s1 with host := { s1.host with cxlDev := sset 0 s1.host.cxlDev m ser.toNat } } else s1
      let s3 := if was = 1 && !up then rflag .fdieCxlStatus_downSeen m s2 else s2
      let s4 := if dev && sget 0 s3.host.cxlMapped m != ser.toNat then rset .fdieCxlMapBytes_bytes m 0 (rset .fdieCxlMapBase_offset m 0 s3) else s3
      cxlEvent m s4)

end Sys2Proof.Machine
end

