-- ==== Sys2Proof/Machine/Registers.lean ====
section
/-! DEFINITION. Register reads and writes: what each field reads as, the half-read latch, SAT and ST fields, the ranges of RW fields, the
MSI-X tables and the doorbell pages (ch. 20, Tables 3.2, 18.2, 19.9). The offset of an access is that in the function's BAR 0; from 0x1000_0000 on
it names BAR 2. -/

namespace Sys2Proof.Machine

/-! ### Fields that are computed -/

/-- The state of a queue as Table 3.2 codes it. -/
def queueCode : QSt → Nat
  | .active => 1
  | .held => 2
  | .draining => 3
  | .disabled => 4
  | .quarantined => 5

/-- HOSTIF_FN_STATE of a function. -/
def fnState (s : State) (fn : Nat) : Nat :=
  if s.host.flr.contains fn then 2
  else if !fnUp s fn || (fn == 0 && rget s .hostifLink_up 0 == 0) then 0
  else if sget 1 s.host.noDma fn ≠ 0 then 3
  else 1

/-- MC_SIDEBAND.driven: the pins that the module drives in the phase (Table 19.5). -/
def sideDriven (s : State) : Nat :=
  if phase s = 1 then 0x2D else if phase s = 2 then 0x3F else if phase s = 3 then (if s.boot.tapOpen then 0x8F else 0x0F) else 0

/-- The level of a pin. A strap at mid, and a pin that only another party could drive, has a free level. -/
def pinOf (s : State) (n : Nat) : Bool :=
  let strap := bits (rget s .mcStraps_levels 0) (2 * n) 2
  let free := if strap = 0 then false else if strap = 2 then true else Config.pinLevel s.free n
  if phase s = 1 then
    (if n = 0 then s.boot.alertN else if n = 1 then !s.pow.throttle else if n = 2 then s.boot.heartbeat else if n = 3 then s.boot.cycleReq
     else if n = 4 then decide (s.boot.trigger < 2) else if n = 5 then s.boot.warnN else free)
  else if phase s = 2 then
    (if n < 4 then s.boot.result.testBit n else if n = 4 then s.boot.emberDone else if n = 5 then s.boot.warnN else free)
  else if phase s = 3 then (if n < 4 then (rget s .mcBootStatus_heldReason 0).testBit n else Config.pinLevel s.free n)
  else free

/-- MC_SIDEBAND.level. -/
def sideLevel (s : State) : Nat := ((List.range 8).map (fun n => b2n (pinOf s n) * 2 ^ n)).sum

/-- What element `i` of a field reads as. -/
def fieldVal (s : State) (f : Fld) (i : Nat) : Nat :=
  match f with
  | .mcSideband_driven => sideDriven s
  | .mcSideband_level => sideLevel s
  | .mcId_numericsGen => if phase s = 1 || phase s = 2 then pktNat (runHeader s) 0x12 1 else 2
  | .mcId_stepping => Config.stepping % 256
  | .mcSerialLo_bytes => leNat (serial.take 8)
  | .mcSerialHi_bytes => leNat (serial.drop 8)
  | .mcSerialDigest_digest => serialDigest
  | .mcLcount_count => lcountOf s 0
  | .hostifId_vendor => Config.vendor % 65536
  | .hostifFnState_state => fnState s i
  | .harvestSigner_hash => leNat (((signerHash "harvest").drop (8 * i)).take 8)
  | .pwrCoef_mem => Config.coefMem.toNat
  | .pwrCoef_link => Config.coefLink.toNat
  | .queueQState_nextSeq => (queue? s i).elim 0 (·.nextSeq)
  | .queueQState_ctx => (queue? s i).elim 0 (·.ctx)
  | .queueQState_heldReason => (queue? s i).elim 0 (·.heldReason)
  | .queueQState_state => (queue? s i).elim 0 (fun x => queueCode x.state)
  | _ => rget s f i

/-! ### Reading -/

/-- The element of a field's array that lies at an 8-byte-aligned offset. -/
def fldAt (f : Fld) (off : Nat) : Option Nat :=
  let x := fldInfo f
  let d := off - x.off
  let i := if x.n1 = 1 then 0 else d / x.s1
  let j := if x.n2 = 1 then 0 else (d - i * x.s1) / x.s2
  if x.off ≤ off && decide (i < x.n1) && decide (j < x.n2) && fldOff f (i * x.n2 + j) == off then some (i * x.n2 + j) else none

/-- The fields that lie at an offset, with their elements. -/
def fieldsAt (off : Nat) : List (Fld × Nat) := allFlds.filterMap (fun f => (fldAt f off).map (fun i => (f, i)))

/-- A doubleword of an MSI-X table: words 0 to 2 of an entry, then its vector control, whose bit 0 masks (R442). -/
def msixWord (s : State) (fn k : Nat) : Nat :=
  if k % 4 = 3 then b2n (!sget false s.host.msixOpen (fn * 2048 + k / 4)) else sget 0 s.host.msixTab (fn * 8192 + k)

/-- A word of the pending bit array. -/
def pbaWord (s : State) (fn j : Nat) : Nat := ((List.range 64).map (fun b => b2n (sget false s.host.msixPend (fn * 2048 + 64 * j + b)) * 2 ^ b)).sum

/-- The 64 bits of an MSI-X structure: the table at 0, the array at 0x8000. -/
def msixRead (s : State) (fn off : Nat) : Nat :=
  if off < 0x8000 then msixWord s fn (off / 4) + 2 ^ 32 * msixWord s fn (off / 4 + 1)
  else if off < 0x8100 then pbaWord s fn ((off - 0x8000) / 8)
  else 0

/-- The doorbell page of a queue (Table 3.2); one that is not the function's own reads as zero (R440). -/
def pageRead (s : State) (fn off : Nat) : Nat :=
  match queue? s (off / 4096) with
  | none => 0
  | some x =>
    if !ownsQueue s fn (off / 4096) then 0
    else if off % 4096 = 0x008 then x.acceptSlot % 65536 + 2 ^ 32 * x.nextSeq
    else if off % 4096 = 0x010 then x.cqHead
    else if off % 4096 = 0x018 then queueCode x.state + 16 * x.heldReason
    else 0

/-- R477 to R479: the 64 bits at an 8-byte-aligned offset, as a function reads them. -/
def regRead (s : State) (fn off : Nat) : Nat :=
  if 0x10000000 ≤ off then pageRead s fn (off - 0x10000000)
  else if fn ≠ 0 then
    (if off < 0x8100 then msixRead s fn off else if off = 0xC000 then fnState s fn else 0)
  else if rget s .mcStatus_ready 0 = 0 && decide (1 < blockOf off) then 0
  else if 0x110000 ≤ off && off < 0x118100 then msixRead s 0 (off - 0x110000)
  else ((fieldsAt off).filter (fun x => (fldInfo x.1).acc != .wo)).foldl (fun v x => v + fieldVal s x.1 x.2 * 2 ^ (fldInfo x.1).lsb) 0

/-- R477: a 4-byte read. That of the low half latches the high half; that of the high half returns what was latched. -/
def execHalfReadLatch (fn off : Nat) (s : State) : Out :=
  .next (
    if !fnUp s fn then hostReply fn true [] s
    else if off % 4 ≠ 0 then hostReply fn false (List.replicate 4 0) (dropLatch fn s)
    else if off % 8 = 0 then
      let v := regRead s fn off
      hostReply fn false (leBytes 4 (v % 2 ^ 32)) { s with io := { s.io with latch := sput s.io.latch fn (off + 4, v / 2 ^ 32) } }
    else
      let v := match sget? s.io.latch fn with
        | some (o, h) => if o = off then h else regRead s fn (off - 4) / 2 ^ 32
        | none => regRead s fn (off - 4) / 2 ^ 32
      hostReply fn false (leBytes 4 v) (dropLatch fn s))

/-! ### Writing -/

/-- Registers whose write is a command of its own: the command is run with the low four bytes. -/
def ownRow (off v : Nat) (s : State) : Option State :=
  let w := BitVec.ofNat 32 v
  let at_ := fun (f : Fld) => fldAt f off
  if off = 0x200010 then some (nextOf s (execQueueAdminCfg 0 w s))
  else if off = 0x400018 then some (nextOf s (execPwrTray 0 w s))
  else if off = 0x400030 then some (nextOf s (execPwrCtl 0 w s))
  else if off = fldOff .vigilFence_go 0 then some (nextOf s (execVigilFence 0 w s))
  else if off = fldOff .almanacCtl_flush 0 then some (nextOf s (execAlmanacCtl 0 w s))
  else match at_ .cdieMtxCheckCtl_lanesOff, at_ .cdieVecOctaveCtl_rateLog2, at_ .cdieMemMigrate_go, at_ .numwCtl_enable, at_ .linkPortCtl_holdDown with
  | some d, _, _, _, _ => some (nextOf s (execCdieMtxCheckCtl 0 d w s))
  | _, some d, _, _, _ => some (nextOf s (execCdieVecOctaveCtl 0 d w s))
  | _, _, some d, _, _ => some (nextOf s (execCdieMemMigrate 0 d w s))
  | _, _, _, some c, _ => some (nextOf s (execNumwCtl 0 c w s))
  | _, _, _, _, some p => some (nextOf s (execLinkPortCtl 0 p w s))
  | _, _, _, _, _ => none

/-- The values that a RW field takes; a write of another leaves it. -/
def rwOk (s : State) (f : Fld) (i v : Nat) : Bool :=
  match f with
  | .linkLaneThresh_serLog => decide (10 ≤ v) && decide (v ≤ 24)
  | .cohortQuota_intervalMin => decide (1 ≤ v) && decide (v ≤ 1440)
  | .cohortHold_holdMs => decide (2500 ≤ v) && decide (v ≤ 10000)
  | .harvestTrustCount_count => decide (v ≤ 16384)
  | .pwrPeakLimit_windowUs => decide (250 ≤ v) && decide (v ≤ 1000)
  | .pwrPeakLimit_peakW => decide (4000 ≤ v) && decide (v ≤ 8000)
  | .pwrThrottle_levelW => decide (4000 ≤ v) && decide (v ≤ 8000)
  | .vigilCtl_hangMs => decide (10 ≤ v) && decide (v ≤ 10000)
  | .hostifFnBar4_ctx => v == 0xFF || (ctx? s v).elim false (fun c => c.fn == i)
  | _ => true

/-- A write of COHORT_THRESH is ignored where evict would not exceed floor. -/
def threshOk (off w : Nat) : Bool :=
  off != fldOff .cohortThresh_evict 0 || decide (bits w 16 10 < bits w 0 10)

/-- One field written: `w` is the register as the write would leave it, `v` the bits written and `m` the bits that the access covers. -/
def writeField (w v m : Nat) (x : Fld × Nat) (s : State) : State :=
  let info := fldInfo x.1
  let part := fun (n : Nat) => n / 2 ^ info.lsb % 2 ^ info.width
  match info.acc with
  | .rw => if part m ≠ 0 && rwOk s x.1 x.2 (part w) then rset x.1 x.2 (part w) s else s
  | .st => rset x.1 x.2 (rget s x.1 x.2 - (rget s x.1 x.2 &&& part v)) s
  | .sat =>
    if part m = 2 ^ info.width - 1 && part v = 0 then
      rset x.1 x.2 0 { s with lost := sset 0 s.lost (fldKey x.1 x.2) 0, remain := sset 0 s.remain (fldKey x.1 x.2) 0 }
    else s
  | _ => s

/-- A doubleword of an MSI-X table written. -/
def msixWriteWord (fn k v : Nat) (s : State) : State :=
  if k % 4 ≠ 3 then { s with host := { s.host with msixTab := sset 0 s.host.msixTab (fn * 8192 + k) (v % 2 ^ 32) } }
  else if v % 2 = 0 then openVector fn (k / 4) s
  else { s with host := { s.host with msixOpen := sset false s.host.msixOpen (fn * 2048 + k / 4) false } }

/-- An access to an MSI-X table. -/
def msixWrite (fn off size v : Nat) (s : State) : State :=
  if 0x8000 ≤ off then s
  else if size = 8 then msixWriteWord fn (off / 4 + 1) (v / 2 ^ 32) (msixWriteWord fn (off / 4) v s)
  else msixWriteWord fn (off / 4) v s

/-- A write to a doorbell page: its two registers are commands of their own. -/
def pageWrite (fn off v : Nat) (s : State) : State :=
  if off % 4096 = 0 then nextOf s (execQueueDbSqTail fn (off / 4096) (BitVec.ofNat 16 v) [] s)
  else if off % 4096 = 0x010 then nextOf s (execQueueDbCqHead fn (off / 4096) (BitVec.ofNat 32 v) s)
  else if ownsQueue s fn (off / 4096) then s
  else count1 .hostifFnDbViol_count fn s

/-- A write of PF 0 to a register of Table 20.1: 4 or 8 bytes at an aligned offset. -/
def blockWrite (off size v : Nat) (s : State) : State :=
  let reg := off / 8 * 8
  let sh := if off % 8 = 0 then 0 else 32
  let m := (2 ^ (8 * size) - 1) * 2 ^ sh
  let v' := v % 2 ^ (8 * size) * 2 ^ sh
  let w := regRead s 0 reg - (regRead s 0 reg &&& m) + v'
  match if sh = 0 then ownRow reg v s else none with
  | some t => t
  | none => if threshOk reg w then setBudget ((fieldsAt reg).foldl (fun s x => writeField w v' m x s) s) else s

/-- R477 to R480: an access that writes. What is not aligned, of another width, of another function or of a block that a module reset holds is
dropped. -/
def regWrite (fn off size v : Nat) (s : State) : State :=
  let s := dropLatch fn s
  if !fnUp s fn || !(size == 4 || size == 8) || off % size ≠ 0 then s
  else if 0x10000000 ≤ off then pageWrite fn (off - 0x10000000) v s
  else if fn ≠ 0 then (if off < 0x8000 then msixWrite fn off size v s else s)
  else if 0x110000 ≤ off && off < 0x118100 then msixWrite 0 (off - 0x110000) size v s
  else if rget s .mcStatus_ready 0 = 0 && decide (1 < blockOf off) then s
  else blockWrite off size v s

/-- R480: a write of zero that covers a SAT field clears it. -/
def execSatClear (fn off size : Nat) (value : Word64) (s : State) : Out := .next (regWrite fn off size value.toNat s)

/-- Table 0.4: a write of one to an ST bit clears it. -/
def execStClear (fn off size : Nat) (value : Word64) (s : State) : Out := .next (regWrite fn off size value.toNat s)

/-- R477, R478: a write to a register that has no row of its own. -/
def execRegisterWrite (fn off size : Nat) (value : Word64) (s : State) : Out := .next (regWrite fn off size value.toNat s)

end Sys2Proof.Machine
end

