-- ==== Sys2Proof/Machine/Dispatch.lean ====
section
/-! DEFINITION. Every command and its meaning, one arm each. -/

namespace Sys2Proof.Machine

/-- The effect of a command on everything but the queue of waiting commands. -/
def exec (i : Instr) (s : State) : Host.Outcome State Fault Refusal :=
  match i with
  | .nop h => Sys2Proof.Machine.execNop h s
  | .ctxCreate h ctx function partition queueQuota journalMib => Sys2Proof.Machine.execCtxCreate h ctx function partition queueQuota journalMib s
  | .ctxDestroy h ctx => Sys2Proof.Machine.execCtxDestroy h ctx s
  | .ctxReset h ctx => Sys2Proof.Machine.execCtxReset h ctx s
  | .queueCreate h queue ctx qflags sqBase cqBase sqLog2 cqLog2 msix startSeq cqConsumed => Sys2Proof.Machine.execQueueCreate h queue ctx qflags sqBase cqBase sqLog2 cqLog2 msix startSeq cqConsumed s
  | .queueDestroy h queue => Sys2Proof.Machine.execQueueDestroy h queue s
  | .geometryRead h dest => Sys2Proof.Machine.execGeometryRead h dest s
  | .memCopy h dst src bytes => Sys2Proof.Machine.execMemCopy h dst src bytes s
  | .memFill h dst bytes pattern => Sys2Proof.Machine.execMemFill h dst bytes pattern s
  | .memDigest h addr bytes => Sys2Proof.Machine.execMemDigest h addr bytes s
  | .windowSet h ctx entries table => Sys2Proof.Machine.execWindowSet h ctx entries table s
  | .cxlMap h port base bytes => Sys2Proof.Machine.execCxlMap h port base bytes s
  | .graphLoad h object bytes => Sys2Proof.Machine.execGraphLoad h object bytes s
  | .graphUnload h graph => Sys2Proof.Machine.execGraphUnload h graph s
  | .graphRun h graph microbatch runArg => Sys2Proof.Machine.execGraphRun h graph microbatch runArg s
  | .eventSignal h event value => Sys2Proof.Machine.execEventSignal h event value s
  | .eventWait h event value => Sys2Proof.Machine.execEventWait h event value s
  | .eventRing h log2 msix ring => Sys2Proof.Machine.execEventRing h log2 msix ring s
  | .stepOpen h step microbatches => Sys2Proof.Machine.execStepOpen h step microbatches s
  | .inputRetain h addr bytes microbatch => Sys2Proof.Machine.execInputRetain h addr bytes microbatch s
  | .microbatchEnd h microbatch => Sys2Proof.Machine.execMicrobatchEnd h microbatch s
  | .stepUpdate h optimiser => Sys2Proof.Machine.execStepUpdate h optimiser s
  | .stepSeal h step => Sys2Proof.Machine.execStepSeal h step s
  | .stepCommitWait h step => Sys2Proof.Machine.execStepCommitWait h step s
  | .stepAbort h step => Sys2Proof.Machine.execStepAbort h step s
  | .exchange h buckets count op => Sys2Proof.Machine.execExchange h buckets count op s
  | .mirrorBind h twin journalMib => Sys2Proof.Machine.execMirrorBind h twin journalMib s
  | .mirrorRelease h => Sys2Proof.Machine.execMirrorRelease h s
  | .stragglerSet h thresholdPct runSteps => Sys2Proof.Machine.execStragglerSet h thresholdPct runSteps s
  | .harvestTarget h target kind base bytes => Sys2Proof.Machine.execHarvestTarget h target kind base bytes s
  | .harvestPolicy h everySteps timerS => Sys2Proof.Machine.execHarvestPolicy h everySteps timerS s
  | .harvestNow h => Sys2Proof.Machine.execHarvestNow h s
  | .restore h manifest rflags => Sys2Proof.Machine.execRestore h manifest rflags s
  | .importA2 h manifest => Sys2Proof.Machine.execImportA2 h manifest s
  | .powerPeakSet h peakW => Sys2Proof.Machine.execPowerPeakSet h peakW s
  | .powerState h state => Sys2Proof.Machine.execPowerState h state s
  | .energyMode h mode => Sys2Proof.Machine.execEnergyMode h mode s
  | .energyRead h dest ctx => Sys2Proof.Machine.execEnergyRead h dest ctx s
  | .almanacRead h first count dest => Sys2Proof.Machine.execAlmanacRead h first count dest s
  | .attest h dest nonce => Sys2Proof.Machine.execAttest h dest nonce s
  | .diagRun h test target => Sys2Proof.Machine.execDiagRun h test target s
  | .troubleRead h dest => Sys2Proof.Machine.execTroubleRead h dest s
  | .almanacNote h record => Sys2Proof.Machine.execAlmanacNote h record s
  | .partitionSet h partition dieMask => Sys2Proof.Machine.execPartitionSet h partition dieMask s
  | .sliceDefine h slice definition => Sys2Proof.Machine.execSliceDefine h slice definition s
  | .routeWrite h entries table => Sys2Proof.Machine.execRouteWrite h entries table s
  | .planLoad h bytes plan => Sys2Proof.Machine.execPlanLoad h bytes plan s
  | .rosterJoin h roster cohort role => Sys2Proof.Machine.execRosterJoin h roster cohort role s
  | .fwStage h image bytes => Sys2Proof.Machine.execFwStage h image bytes s
  | .fwActivate h => Sys2Proof.Machine.execFwActivate h s
  | .shutdown h => Sys2Proof.Machine.execShutdown h s
  | .queueDbSqTail fn q tail host => Sys2Proof.Machine.execQueueDbSqTail fn q tail host s
  | .packetAccept q => Sys2Proof.Machine.execPacketAccept q s
  | .commandIssue q => Sys2Proof.Machine.execCommandIssue q s
  | .replyWrite q => Sys2Proof.Machine.execReplyWrite q s
  | .queueDbCqHead fn q seq => Sys2Proof.Machine.execQueueDbCqHead fn q seq s
  | .queueAdminCfg fn value => Sys2Proof.Machine.execQueueAdminCfg fn value s
  | .twinJournalAck q seq => Sys2Proof.Machine.execTwinJournalAck q seq s
  | .holdReleased ctx => Sys2Proof.Machine.execHoldReleased ctx s
  | .controllerHeartbeat => Sys2Proof.Machine.execControllerHeartbeat s
  | .mcTakeover selfReported => Sys2Proof.Machine.execMcTakeover selfReported s
  | .taskStart ctx run task => Sys2Proof.Machine.execTaskStart ctx run task s
  | .taskCompletion ctx run task => Sys2Proof.Machine.execTaskCompletion ctx run task s
  | .tileArrival ctx run tile => Sys2Proof.Machine.execTileArrival ctx run tile s
  | .creditGrant ctx run edge consumer => Sys2Proof.Machine.execCreditGrant ctx run edge consumer s
  | .mtxMma e f => Sys2Proof.Machine.execMtxMma e f s
  | .mtxStore e f => Sys2Proof.Machine.execMtxStore e f s
  | .mtxLoad e f => Sys2Proof.Machine.execMtxLoad e f s
  | .mtxCsload e f => Sys2Proof.Machine.execMtxCsload e f s
  | .mtxWait e f => Sys2Proof.Machine.execMtxWait e f s
  | .mmaComplete e core acc dup parity cond => Sys2Proof.Machine.execMmaComplete e core acc dup parity cond s
  | .cdieMtxCheckCtl fn die value => Sys2Proof.Machine.execCdieMtxCheckCtl fn die value s
  | .sysNop e f => Sys2Proof.Machine.execSysNop e f s
  | .endKernel e f => Sys2Proof.Machine.execEndKernel e f s
  | .csrr e f => Sys2Proof.Machine.execCsrr e f s
  | .csrw e f => Sys2Proof.Machine.execCsrw e f s
  | .add e f => Sys2Proof.Machine.execAdd e f s
  | .sub e f => Sys2Proof.Machine.execSub e f s
  | .mul e f => Sys2Proof.Machine.execMul e f s
  | .and e f => Sys2Proof.Machine.execAnd e f s
  | .or e f => Sys2Proof.Machine.execOr e f s
  | .xor e f => Sys2Proof.Machine.execXor e f s
  | .shl e f => Sys2Proof.Machine.execShl e f s
  | .shr e f => Sys2Proof.Machine.execShr e f s
  | .sar e f => Sys2Proof.Machine.execSar e f s
  | .slt e f => Sys2Proof.Machine.execSlt e f s
  | .sltu e f => Sys2Proof.Machine.execSltu e f s
  | .min e f => Sys2Proof.Machine.execMin e f s
  | .max e f => Sys2Proof.Machine.execMax e f s
  | .minu e f => Sys2Proof.Machine.execMinu e f s
  | .maxu e f => Sys2Proof.Machine.execMaxu e f s
  | .addi e f => Sys2Proof.Machine.execAddi e f s
  | .muli e f => Sys2Proof.Machine.execMuli e f s
  | .andi e f => Sys2Proof.Machine.execAndi e f s
  | .ori e f => Sys2Proof.Machine.execOri e f s
  | .xori e f => Sys2Proof.Machine.execXori e f s
  | .shli e f => Sys2Proof.Machine.execShli e f s
  | .shri e f => Sys2Proof.Machine.execShri e f s
  | .sari e f => Sys2Proof.Machine.execSari e f s
  | .slti e f => Sys2Proof.Machine.execSlti e f s
  | .sltui e f => Sys2Proof.Machine.execSltui e f s
  | .li e f => Sys2Proof.Machine.execLi e f s
  | .lui e f => Sys2Proof.Machine.execLui e f s
  | .sld e f => Sys2Proof.Machine.execSld e f s
  | .sst e f => Sys2Proof.Machine.execSst e f s
  | .beq e f => Sys2Proof.Machine.execBeq e f s
  | .bne e f => Sys2Proof.Machine.execBne e f s
  | .blt e f => Sys2Proof.Machine.execBlt e f s
  | .bge e f => Sys2Proof.Machine.execBge e f s
  | .bltu e f => Sys2Proof.Machine.execBltu e f s
  | .bgeu e f => Sys2Proof.Machine.execBgeu e f s
  | .jmp e f => Sys2Proof.Machine.execJmp e f s
  | .vadd e f => Sys2Proof.Machine.execVadd e f s
  | .vsub e f => Sys2Proof.Machine.execVsub e f s
  | .vmul e f => Sys2Proof.Machine.execVmul e f s
  | .vfma e f => Sys2Proof.Machine.execVfma e f s
  | .vfms e f => Sys2Proof.Machine.execVfms e f s
  | .vmin e f => Sys2Proof.Machine.execVmin e f s
  | .vmax e f => Sys2Proof.Machine.execVmax e f s
  | .vabs e f => Sys2Proof.Machine.execVabs e f s
  | .vneg e f => Sys2Proof.Machine.execVneg e f s
  | .vand e f => Sys2Proof.Machine.execVand e f s
  | .vor e f => Sys2Proof.Machine.execVor e f s
  | .vxor e f => Sys2Proof.Machine.execVxor e f s
  | .vshl e f => Sys2Proof.Machine.execVshl e f s
  | .vshr e f => Sys2Proof.Machine.execVshr e f s
  | .vsar e f => Sys2Proof.Machine.execVsar e f s
  | .vsel e f => Sys2Proof.Machine.execVsel e f s
  | .vmov e f => Sys2Proof.Machine.execVmov e f s
  | .vlane e f => Sys2Proof.Machine.execVlane e f s
  | .vperm e f => Sys2Proof.Machine.execVperm e f s
  | .vbcast e f => Sys2Proof.Machine.execVbcast e f s
  | .vget e f => Sys2Proof.Machine.execVget e f s
  | .vput e f => Sys2Proof.Machine.execVput e f s
  | .eq e f => Sys2Proof.Machine.execEq e f s
  | .ne e f => Sys2Proof.Machine.execNe e f s
  | .lt e f => Sys2Proof.Machine.execLt e f s
  | .le e f => Sys2Proof.Machine.execLe e f s
  | .gt e f => Sys2Proof.Machine.execGt e f s
  | .ge e f => Sys2Proof.Machine.execGe e f s
  | .un e f => Sys2Proof.Machine.execUn e f s
  | .mand e f => Sys2Proof.Machine.execMand e f s
  | .mor e f => Sys2Proof.Machine.execMor e f s
  | .mxor e f => Sys2Proof.Machine.execMxor e f s
  | .mnot e f => Sys2Proof.Machine.execMnot e f s
  | .mfroms e f => Sys2Proof.Machine.execMfroms e f s
  | .mtos e f => Sys2Proof.Machine.execMtos e f s
  | .vld e f => Sys2Proof.Machine.execVld e f s
  | .vst e f => Sys2Proof.Machine.execVst e f s
  | .vlds e f => Sys2Proof.Machine.execVlds e f s
  | .vsts e f => Sys2Proof.Machine.execVsts e f s
  | .vgath e f => Sys2Proof.Machine.execVgath e f s
  | .vscat e f => Sys2Proof.Machine.execVscat e f s
  | .vexp e f => Sys2Proof.Machine.execVexp e f s
  | .vlog e f => Sys2Proof.Machine.execVlog e f s
  | .vrsq e f => Sys2Proof.Machine.execVrsq e f s
  | .vdiv e f => Sys2Proof.Machine.execVdiv e f s
  | .vrcp e f => Sys2Proof.Machine.execVrcp e f s
  | .vredSum e f => Sys2Proof.Machine.execVredSum e f s
  | .vredMax e f => Sys2Proof.Machine.execVredMax e f s
  | .vredMin e f => Sys2Proof.Machine.execVredMin e f s
  | .argmax e f => Sys2Proof.Machine.execArgmax e f s
  | .argmin e f => Sys2Proof.Machine.execArgmin e f s
  | .wset e f => Sys2Proof.Machine.execWset e f s
  | .wadd e f => Sys2Proof.Machine.execWadd e f s
  | .wmax e f => Sys2Proof.Machine.execWmax e f s
  | .wmul e f => Sys2Proof.Machine.execWmul e f s
  | .wexpadd e f => Sys2Proof.Machine.execWexpadd e f s
  | .wfma e f => Sys2Proof.Machine.execWfma e f s
  | .wget e f => Sys2Proof.Machine.execWget e f s
  | .wred e f => Sys2Proof.Machine.execWred e f s
  | .cvt e f => Sys2Proof.Machine.execCvt e f s
  | .cvtTs e f => Sys2Proof.Machine.execCvtTs e f s
  | .cvtBp e f => Sys2Proof.Machine.execCvtBp e f s
  | .cvtBu e f => Sys2Proof.Machine.execCvtBu e f s
  | .xin e f => Sys2Proof.Machine.execXin e f s
  | .xout e f => Sys2Proof.Machine.execXout e f s
  | .xwait e f => Sys2Proof.Machine.execXwait e f s
  | .transferComplete e n => Sys2Proof.Machine.execTransferComplete e n s
  | .trecv e f => Sys2Proof.Machine.execTrecv e f s
  | .trecva e f => Sys2Proof.Machine.execTrecva e f s
  | .trel e f => Sys2Proof.Machine.execTrel e f s
  | .tsend e f => Sys2Proof.Machine.execTsend e f s
  | .trsend e f => Sys2Proof.Machine.execTrsend e f s
  | .tclose e f => Sys2Proof.Machine.execTclose e f s
  | .octaveCompare e cond shadowCond => Sys2Proof.Machine.execOctaveCompare e cond shadowCond s
  | .shadowTimeout e => Sys2Proof.Machine.execShadowTimeout e s
  | .cdieVecOctaveCtl fn die value => Sys2Proof.Machine.execCdieVecOctaveCtl fn die value s
  | .patrolRead die channel line data check => Sys2Proof.Machine.execPatrolRead die channel line data check s
  | .cdieMemMigrate fn die value => Sys2Proof.Machine.execCdieMemMigrate fn die value s
  | .memMigrationDone die => Sys2Proof.Machine.execMemMigrationDone die s
  | .channelStopsAnswering die copied => Sys2Proof.Machine.execChannelStopsAnswering die copied s
  | .remoteTrayRequest r => Sys2Proof.Machine.execRemoteTrayRequest r s
  | .remoteTrayResponse tag data gen poison => Sys2Proof.Machine.execRemoteTrayResponse tag data gen poison s
  | .bar4Access fn off size write data => Sys2Proof.Machine.execBar4Access fn off size write data s
  | .updatePassEnd ctx mirror => Sys2Proof.Machine.execUpdatePassEnd ctx mirror s
  | .mirrorPassReport ctx digest checksOk => Sys2Proof.Machine.execMirrorPassReport ctx digest checksOk s
  | .numwCtl fn ctx value => Sys2Proof.Machine.execNumwCtl fn ctx value s
  | .exchangeChunk m adderFault => Sys2Proof.Machine.execExchangeChunk m adderFault s
  | .openingRound ctx bucket minDigest maxDigest differing => Sys2Proof.Machine.execOpeningRound ctx bucket minDigest maxDigest differing s
  | .closingRound ctx bucket m => Sys2Proof.Machine.execClosingRound ctx bucket m s
  | .latenessReport m => Sys2Proof.Machine.execLatenessReport m s
  | .mirrorTransfer ctx m => Sys2Proof.Machine.execMirrorTransfer ctx m s
  | .mirrorRepair ctx addr data => Sys2Proof.Machine.execMirrorRepair ctx addr data s
  | .mirrorBindTimeout ctx => Sys2Proof.Machine.execMirrorBindTimeout ctx s
  | .sealRecord slice m => Sys2Proof.Machine.execSealRecord slice m s
  | .commit ctx m => Sys2Proof.Machine.execCommit ctx m s
  | .linkTrained port width => Sys2Proof.Machine.execLinkTrained port width s
  | .identityBeacon port b => Sys2Proof.Machine.execIdentityBeacon port b s
  | .beaconSend port => Sys2Proof.Machine.execBeaconSend port s
  | .portMissing port => Sys2Proof.Machine.execPortMissing port s
  | .flitReceive port flit corrected uncorr => Sys2Proof.Machine.execFlitReceive port flit corrected uncorr s
  | .linkDown port cause => Sys2Proof.Machine.execLinkDown port cause s
  | .laneFailing port lane cause => Sys2Proof.Machine.execLaneFailing port lane cause s
  | .spare port lane => Sys2Proof.Machine.execSpare port lane s
  | .width port width => Sys2Proof.Machine.execWidth port width s
  | .laneRetrain port lane clean => Sys2Proof.Machine.execLaneRetrain port lane clean s
  | .packetForward port vc h payload => Sys2Proof.Machine.execPacketForward port vc h payload s
  | .linkPortCtl fn port value => Sys2Proof.Machine.execLinkPortCtl fn port value s
  | .bridgeLaneSpare bridge lane => Sys2Proof.Machine.execBridgeLaneSpare bridge lane s
  | .bridgeLaneRetrain bridge lane clean => Sys2Proof.Machine.execBridgeLaneRetrain bridge lane clean s
  | .livenessTokenSend port => Sys2Proof.Machine.execLivenessTokenSend port s
  | .livenessToken port t => Sys2Proof.Machine.execLivenessToken port t s
  | .tokenSilence port => Sys2Proof.Machine.execTokenSilence port s
  | .suspicionReport reporter suspect port cause epoch => Sys2Proof.Machine.execSuspicionReport reporter suspect port cause epoch s
  | .stewardDecision suspect cause => Sys2Proof.Machine.execStewardDecision suspect cause s
  | .roster m => Sys2Proof.Machine.execRoster m s
  | .joinAnnouncement index cohort role => Sys2Proof.Machine.execJoinAnnouncement index cohort role s
  | .epochOneIssue => Sys2Proof.Machine.execEpochOneIssue s
  | .resetNotice index epoch boundMs => Sys2Proof.Machine.execResetNotice index epoch boundMs s
  | .resetNoticeExpiry index => Sys2Proof.Machine.execResetNoticeExpiry index s
  | .departureNotice index epoch => Sys2Proof.Machine.execDepartureNotice index epoch s
  | .primaryTakeover reachable => Sys2Proof.Machine.execPrimaryTakeover reachable s
  | .healthScore => Sys2Proof.Machine.execHealthScore s
  | .fabricManagerDelivery kind data arg => Sys2Proof.Machine.execFabricManagerDelivery kind data arg s
  | .rosterNotice hang index epoch => Sys2Proof.Machine.execRosterNotice hang index epoch s
  | .harvestMark ctx m generation => Sys2Proof.Machine.execHarvestMark ctx m generation s
  | .chunkWriteDone ctx twin chunk ok => Sys2Proof.Machine.execChunkWriteDone ctx twin chunk ok s
  | .shardReport ctx m => Sys2Proof.Machine.execShardReport ctx m s
  | .harvestWritten ctx => Sys2Proof.Machine.execHarvestWritten ctx s
  | .manifestCopy ctx data => Sys2Proof.Machine.execManifestCopy ctx data s
  | .restoreVote ctx roster generation hash pass => Sys2Proof.Machine.execRestoreVote ctx roster generation hash pass s
  | .restoreCommit ctx => Sys2Proof.Machine.execRestoreCommit ctx s
  | .restoreVoteTimeout ctx => Sys2Proof.Machine.execRestoreVoteTimeout ctx s
  | .setAsideTest die cluster core pass => Sys2Proof.Machine.execSetAsideTest die cluster core pass s
  | .pathDelayReading die cluster delay => Sys2Proof.Machine.execPathDelayReading die cluster delay s
  | .replanHoldEnd die cluster => Sys2Proof.Machine.execReplanHoldEnd die cluster s
  | .powerStageFault rail stage => Sys2Proof.Machine.execPowerStageFault rail stage s
  | .almanacCtl fn value => Sys2Proof.Machine.execAlmanacCtl fn value s
  | .blockSealed programmed => Sys2Proof.Machine.execBlockSealed programmed s
  | .powerRecord bands => Sys2Proof.Machine.execPowerRecord bands s
  | .overVoltage => Sys2Proof.Machine.execOverVoltage s
  | .highInput above voltage => Sys2Proof.Machine.execHighInput above voltage s
  | .supplyWarning voltage => Sys2Proof.Machine.execSupplyWarning voltage s
  | .supplyWarningRelease voltage => Sys2Proof.Machine.execSupplyWarningRelease voltage s
  | .throttleN low voltage => Sys2Proof.Machine.execThrottleN low voltage s
  | .supplyReset voltage => Sys2Proof.Machine.execSupplyReset voltage s
  | .lossOfInput => Sys2Proof.Machine.execLossOfInput s
  | .peakLimiter sample projected mean voltage power windowEnd => Sys2Proof.Machine.execPeakLimiter sample projected mean voltage power windowEnd s
  | .dieCapUpdate other base draw => Sys2Proof.Machine.execDieCapUpdate other base draw s
  | .pwrTray fn value => Sys2Proof.Machine.execPwrTray fn value s
  | .equinoxShare share => Sys2Proof.Machine.execEquinoxShare share s
  | .energySplit die energy cycles => Sys2Proof.Machine.execEnergySplit die energy cycles s
  | .droop die cluster => Sys2Proof.Machine.execDroop die cluster s
  | .droopClear die cluster => Sys2Proof.Machine.execDroopClear die cluster s
  | .frequencyChange die cluster => Sys2Proof.Machine.execFrequencyChange die cluster s
  | .droopLowering die cluster raise => Sys2Proof.Machine.execDroopLowering die cluster raise s
  | .thermalReading die cluster tj inlet flow hotMs => Sys2Proof.Machine.execThermalReading die cluster tj inlet flow hotMs s
  | .thermalTrip die => Sys2Proof.Machine.execThermalTrip die s
  | .idleEntry => Sys2Proof.Machine.execIdleEntry s
  | .fallowExit cause => Sys2Proof.Machine.execFallowExit cause s
  | .fallowExitDone => Sys2Proof.Machine.execFallowExitDone s
  | .pwrCtl fn value => Sys2Proof.Machine.execPwrCtl fn value s
  | .vigilHang kind unit die ctx run tasks clusters => Sys2Proof.Machine.execVigilHang kind unit die ctx run tasks clusters s
  | .resetEscalated level unit => Sys2Proof.Machine.execResetEscalated level unit s
  | .resetDone level unit us => Sys2Proof.Machine.execResetDone level unit us s
  | .remoteRequestResend tag => Sys2Proof.Machine.execRemoteRequestResend tag s
  | .vigilRemoteTimeout tag => Sys2Proof.Machine.execVigilRemoteTimeout tag s
  | .teardownAck ctx engine => Sys2Proof.Machine.execTeardownAck ctx engine s
  | .sweepToken source ctx gen => Sys2Proof.Machine.execSweepToken source ctx gen s
  | .sweepTokenReturn peer ctx gen => Sys2Proof.Machine.execSweepTokenReturn peer ctx gen s
  | .sweepTokenTimeout peer ctx => Sys2Proof.Machine.execSweepTokenTimeout peer ctx s
  | .vigilFence fn value => Sys2Proof.Machine.execVigilFence fn value s
  | .powerGood straps otpOk fdieOk => Sys2Proof.Machine.execPowerGood straps otpOk fdieOk s
  | .startComplete seconds fdieOk block0Ok lastValid found => Sys2Proof.Machine.execStartComplete seconds fdieOk block0Ok lastValid found s
  | .shutdownReqN => Sys2Proof.Machine.execShutdownReqN s
  | .emberDone ms found => Sys2Proof.Machine.execEmberDone ms found s
  | .emberTimeout => Sys2Proof.Machine.execEmberTimeout s
  | .heartbeat => Sys2Proof.Machine.execHeartbeat s
  | .hotReset => Sys2Proof.Machine.execHotReset s
  | .pcieLinkDown => Sys2Proof.Machine.execPcieLinkDown s
  | .functionLevelReset fn => Sys2Proof.Machine.execFunctionLevelReset fn s
  | .busMasterEnableClear fn => Sys2Proof.Machine.execBusMasterEnableClear fn s
  | .d3hot fn => Sys2Proof.Machine.execD3hot fn s
  | .vfEnableClear => Sys2Proof.Machine.execVfEnableClear s
  | .msixUnmask fn vector => Sys2Proof.Machine.execMsixUnmask fn vector s
  | .traySet pcie grant peak => Sys2Proof.Machine.execTraySet pcie grant peak s
  | .trayIdSet pcie trayId => Sys2Proof.Machine.execTrayIdSet pcie trayId s
  | .almanacGet pcie seq offset length => Sys2Proof.Machine.execAlmanacGet pcie seq offset length s
  | .unlockNonce pcie => Sys2Proof.Machine.execUnlockNonce pcie s
  | .unlock pcie ed mldsa => Sys2Proof.Machine.execUnlock pcie ed mldsa s
  | .statusGet pcie => Sys2Proof.Machine.execStatusGet pcie s
  | .setEndpointId pcie eid => Sys2Proof.Machine.execSetEndpointId pcie eid s
  | .setdasa static dynamic => Sys2Proof.Machine.execSetdasa static dynamic s
  | .getVersion pcie => Sys2Proof.Machine.execGetVersion pcie s
  | .getCapabilities pcie => Sys2Proof.Machine.execGetCapabilities pcie s
  | .negotiateAlgorithms pcie ed25519 sha256 => Sys2Proof.Machine.execNegotiateAlgorithms pcie ed25519 sha256 s
  | .getDigests pcie => Sys2Proof.Machine.execGetDigests pcie s
  | .getCertificate pcie slot offset length => Sys2Proof.Machine.execGetCertificate pcie slot offset length s
  | .challenge pcie slot nonce => Sys2Proof.Machine.execChallenge pcie slot nonce s
  | .getMeasurements pcie index sign nonce => Sys2Proof.Machine.execGetMeasurements pcie index sign nonce s
  | .chunkGet pcie handle index => Sys2Proof.Machine.execChunkGet pcie handle index s
  | .getPqSignature pcie => Sys2Proof.Machine.execGetPqSignature pcie s
  | .getPqKey pcie => Sys2Proof.Machine.execGetPqKey pcie s
  | .getSensorReading pcie sensor => Sys2Proof.Machine.execGetSensorReading pcie sensor s
  | .getStateSensorReadings pcie sensor => Sys2Proof.Machine.execGetStateSensorReadings pcie sensor s
  | .setEventReceiver pcie receiver => Sys2Proof.Machine.execSetEventReceiver pcie receiver s
  | .pldmSensorUpdate => Sys2Proof.Machine.execPldmSensorUpdate s
  | .cxlPortChanged port up present width rate serial capacity => Sys2Proof.Machine.execCxlPortChanged port up present width rate serial capacity s
  | .satClear fn off size value => Sys2Proof.Machine.execSatClear fn off size value s
  | .stClear fn off size value => Sys2Proof.Machine.execStClear fn off size value s
  | .halfReadLatch fn off => Sys2Proof.Machine.execHalfReadLatch fn off s
  | .registerWrite fn off size value => Sys2Proof.Machine.execRegisterWrite fn off size value s
  | .supplyResetRelease => Sys2Proof.Machine.execSupplyResetRelease s
  | .quiesceTimeout => Sys2Proof.Machine.execQuiesceTimeout s
  | .fallowEntryDone => Sys2Proof.Machine.execFallowEntryDone s
  | .pcieLinkUp width rate flit => Sys2Proof.Machine.execPcieLinkUp width rate flit s
  | .busMasterEnableSet fn => Sys2Proof.Machine.execBusMasterEnableSet fn s
  | .d0Entry fn => Sys2Proof.Machine.execD0Entry fn s
  | .vfEnableSet numVfs => Sys2Proof.Machine.execVfEnableSet numVfs s
  | .functionLevelResetDone fn => Sys2Proof.Machine.execFunctionLevelResetDone fn s
  | .bar4Resize fn sizeLog2 => Sys2Proof.Machine.execBar4Resize fn sizeLog2 s
  | .twinJournalRecord peer ctx q seq data => Sys2Proof.Machine.execTwinJournalRecord peer ctx q seq data s
  | .probe index => Sys2Proof.Machine.execProbe index s
  | .probeAnswer index => Sys2Proof.Machine.execProbeAnswer index s
  | .fullRosterRequest index => Sys2Proof.Machine.execFullRosterRequest index s
  | .commitRecordRequest index ctx step attempt => Sys2Proof.Machine.execCommitRecordRequest index ctx step attempt s
  | .epochRequest cohort decision suspects wantSpare => Sys2Proof.Machine.execEpochRequest cohort decision suspects wantSpare s
  | .harvestRequest slice member policy closedEverywhere => Sys2Proof.Machine.execHarvestRequest slice member policy closedEverywhere s
  | .hardFaultReport index ctx cause => Sys2Proof.Machine.execHardFaultReport index ctx cause s
  | .chunkResendRequest ctx bucket part source index => Sys2Proof.Machine.execChunkResendRequest ctx bucket part source index s
  | .commandProcessorHeartbeat die => Sys2Proof.Machine.execCommandProcessorHeartbeat die s
  | .illegalInstruction e word => Sys2Proof.Machine.execIllegalInstruction e word s

end Sys2Proof.Machine
end

