-- ==== Sys2Proof/Safety.lean ====
section
/-! DEFINITION. What counts as a safe run, and the words in which the statements speak of a command: it runs to a next state, it may run, it
has its reply, an engine executes it. -/

namespace Sys2Proof.Machine

/-! ### Canonical forms -/

/-- The memory of the module in its one canonical form: keys rise, and nothing is listed that an unlisted key reads as. -/
abbrev Mem.wf (m : Mem) : Prop := swf (0 : Byte) m.bytes = true

/-- Host memory in the same form. -/
abbrev Io.wf (i : Io) : Prop := swf (0 : Byte) i.hostMem = true

/-- A safe step answers a next state. -/
def State.goesOn (s : State) : Prop := ∃ t, step s = .next t

/-! ### Commands -/

/-- The command runs to a next state for which `P` holds. -/
def leadsTo (i : Instr) (s : State) (P : State → Prop) : Prop := ∃ t, exec i s = .next t ∧ P t

/-- The command leaves the state as it is. -/
def noEffect (i : Instr) (s : State) : Prop := exec i s = .next s

/-- A packet's command of an opcode may run: it was never fetched, or its record is ISSUED, waits for nothing and is run for the first time; the
record is of that opcode and of the packet's context and flags. -/
def mayRun (op : Nat) (h : CmdRef) (s : State) : Bool :=
  match findRec s h.q h.seq.toNat with
  | none => true
  | some r => r.state == .issued && r.wait == .none && r.again.isNone && r.opcode == op && r.ctx == h.ctx && r.flags == h.flags.toNat

/-- The state in which the command's own effect starts: with a record of it. -/
def started (op : Nat) (h : CmdRef) (s : State) : State :=
  match findRec s h.q h.seq.toNat with
  | none => setJournal (s.ctl.journal ++ [directRec s op h]) s
  | some _ => s

/-- The command has its reply: REPLY_PENDING with a status and a detail (Tables 3.5, 3.7). -/
def replied (h : CmdRef) (st det : Nat) (t : State) : Bool :=
  match findRec t h.q h.seq.toNat with
  | none => false
  | some r => r.state == .replyPending && r.wait == .none &&
    (match r.reply with
     | some p => p.status == st && p.detail == det % 2 ^ 64
     | none => false)

/-- The command stays ISSUED and waits. -/
def waitsOn (h : CmdRef) (w : Wait) (t : State) : Bool :=
  match findRec t h.q h.seq.toNat with
  | none => false
  | some r => r.state == .issued && r.wait == w

/-- A record of a context waits in a given way, and is run for the first time. -/
abbrev waiting (s : State) (c : Nat) (w : Wait) (r : Rec) : Prop :=
  r ∈ s.ctl.journal ∧ r.ctx = c ∧ r.state = .issued ∧ r.wait = w ∧ r.again = none

/-- A record has its reply: a status and a detail. -/
def answered (t : State) (r : Rec) (st det : Nat) : Prop :=
  ∃ y ∈ t.ctl.journal, y.q = r.q ∧ y.seq = r.seq ∧ y.state = .replyPending ∧ ∃ p, y.reply = some p ∧ p.status = st ∧ p.detail = det % 2 ^ 64

/-- New event records were formed, one of a code for a context among them. -/
def reported (s t : State) (code c : Nat) : Prop := ∃ l, t.io.events = l ++ s.io.events ∧ ∃ ev ∈ l, ev.code = code ∧ ev.ctx = c

/-- Only the command side changed: contexts, queues, journal. -/
abbrev onlyCtl (s t : State) : Prop := { t with ctl := s.ctl } = s

/-- Only the journal changed. -/
abbrev onlyJournal (s t : State) : Prop := ∃ l, t = setJournal l s

/-! ### Memory -/

/-- A range of tray addresses lies in the window of a context and leads, byte by byte, to memory of the module from key `k` on, with no bad
line in it. -/
abbrev plainAt (s : State) (c : Nat) (wr : Bool) (a n k : Nat) : Prop :=
  ∀ i, i < n → inWindow s c wr (a + i) = true ∧ locate s (a + i) = .mem (k + i) ∧ sget 0 s.mem.bad ((k + i) / 64) = 0

/-- Bytes were stored from key `k` on, and no other byte of memory changed. -/
abbrev storedAt (s t : State) (k : Nat) (b : List Byte) : Prop :=
  sgetN 0 t.mem.bytes k b.length = b ∧ ∀ j, j < k ∨ k + b.length ≤ j → sget 0 t.mem.bytes j = sget 0 s.mem.bytes j

/-! ### Engines -/

/-- Engine `e` is `x` and executes `i` next: its kernel runs, no other instruction is stalled, the fetch lies in the code (R124, R135). -/
abbrev executes (i : Instr) (s : State) (e : Eng) (x : Engine) : Prop :=
  eng? s e = some x ∧ x.ended = false ∧ (x.stall = none ∨ x.stall = some i) ∧ x.pc + 8 ≤ x.codeBytes

/-- The engine at its next instruction, with nothing else changed. -/
def Engine.went (x : Engine) : Engine := { x with stall := none, pc := x.pc + 8 }

/-- `y` is `x` at its next instruction, but for its vector registers and its flags. -/
abbrev Engine.sameButV (x y : Engine) : Prop := { y with v := x.v, vflags := x.vflags } = x.went

/-- `y` is `x` at its next instruction, but for its mask registers and its flags. -/
abbrev Engine.sameButM (x y : Engine) : Prop := { y with m := x.m, vflags := x.vflags } = x.went

/-- The lanes of register `d` hold what `g` gives for the active lanes and the flags of those are added; every other lane of every register
is kept (R127, R136). -/
def Engine.lanesAre (x y : Engine) (d : BitVec 5) (act : Nat → Bool) (g : Nat → Fl Word32) : Prop :=
  x.sameButV y ∧ (∀ r k, k < 64 → y.lane r k = if r = d ∧ act k = true then (g k).1 else x.lane r k) ∧
  (∀ b, b < 5 → y.vflags.getLsbD b = (x.vflags.getLsbD b || (List.range 64).any (fun k => act k && (g k).2.getLsbD b)))

/-- Bit `k` of mask register `d` is `g k` for every lane, the other mask registers are kept. -/
def Engine.maskIs (x y : Engine) (d : Nat) (g : Nat → Bool) : Prop :=
  x.sameButM y ∧ (∀ r, r ≠ d → y.mask r = x.mask r) ∧ ∀ k, k < 64 → (y.mask d).getLsbD k = g k

end Sys2Proof.Machine
end

