-- ==== Sys2Proof/WellFormed.lean ====
section
/-! DEFINITION. The check of a command's operands: what it names exists on the module (Tables 1.1, 2.1, 11.1, 18.1, 20.1). The commands are total
and one that fails the check meets the rules like any other; the check says which the environment sends. -/

namespace Sys2Proof

/-- A queue number of 12 bits and a context number of 8 bits (R54, R60). -/
def refOk (h : CmdRef) : Bool := decide (h.q < 4096) && decide (h.ctx < 256)

/-- One of eight C-dies and one of 2,048 logical clusters (R23, R28). -/
def engOk (e : Eng) : Bool := decide (e.die < 8) && decide (e.cl < 2048)

/-- The fields of a route header fit their widths (Table 11.8). -/
def hdrOk (h : RouteHdr) : Bool := decide (h.dest < 65536) && decide (h.src < 65536) && decide (h.ctx < 256) && decide (h.gen < 256) && decide (h.epoch < 65536)

/-- The command names only what exists. -/
def wellFormed : Instr → Bool
  | .nop h | .ctxCreate h _ _ _ _ _ | .ctxDestroy h _ | .ctxReset h _ | .queueCreate h _ _ _ _ _ _ _ _ _ _ | .queueDestroy h _ | .geometryRead h _
  | .memCopy h _ _ _ | .memFill h _ _ _ | .memDigest h _ _ | .windowSet h _ _ _ | .cxlMap h _ _ _ | .graphLoad h _ _ | .graphUnload h _
  | .graphRun h _ _ _ | .eventSignal h _ _ | .eventWait h _ _ | .eventRing h _ _ _ | .stepOpen h _ _ | .inputRetain h _ _ _ | .microbatchEnd h _
  | .stepUpdate h _ | .stepSeal h _ | .stepCommitWait h _ | .stepAbort h _ | .exchange h _ _ _ | .mirrorBind h _ _ | .mirrorRelease h
  | .stragglerSet h _ _ | .harvestTarget h _ _ _ _ | .harvestPolicy h _ _ | .harvestNow h | .restore h _ _ | .importA2 h _ | .powerPeakSet h _
  | .powerState h _ | .energyMode h _ | .energyRead h _ _ | .almanacRead h _ _ _ | .attest h _ _ | .diagRun h _ _ | .troubleRead h _
  | .almanacNote h _ | .partitionSet h _ _ | .sliceDefine h _ _ | .routeWrite h _ _ | .planLoad h _ _ | .rosterJoin h _ _ _ | .fwStage h _ _
  | .fwActivate h | .shutdown h => refOk h
  | .queueDbSqTail fn q _ _ | .queueDbCqHead fn q _ => decide (fn < 64) && decide (q < 4096)
  | .packetAccept q | .commandIssue q | .replyWrite q | .twinJournalAck q _ => decide (q < 4096)
  | .queueAdminCfg fn _ | .bar4Access fn _ _ _ _ | .almanacCtl fn _ | .pwrTray fn _ | .pwrCtl fn _ | .vigilFence fn _ | .functionLevelReset fn
  | .busMasterEnableClear fn | .d3hot fn | .halfReadLatch fn _ | .busMasterEnableSet fn | .d0Entry fn | .functionLevelResetDone fn | .bar4Resize fn _ => decide (fn < 64)
  | .holdReleased ctx | .taskStart ctx _ _ | .taskCompletion ctx _ _ | .tileArrival ctx _ _ | .creditGrant ctx _ _ _ | .updatePassEnd ctx _
  | .mirrorPassReport ctx _ _ | .openingRound ctx _ _ _ _ | .closingRound ctx _ _ | .mirrorTransfer ctx _ | .mirrorRepair ctx _ _
  | .mirrorBindTimeout ctx | .commit ctx _ | .harvestMark ctx _ _ | .chunkWriteDone ctx _ _ _ | .shardReport ctx _ | .harvestWritten ctx
  | .manifestCopy ctx _ | .restoreCommit ctx | .restoreVoteTimeout ctx | .teardownAck ctx _ => decide (ctx < 256)
  | .controllerHeartbeat | .mcTakeover _ | .remoteTrayResponse _ _ _ _ | .latenessReport _ | .bridgeLaneSpare _ _ | .bridgeLaneRetrain _ _ _
  | .roster _ | .epochOneIssue | .primaryTakeover _ | .healthScore | .fabricManagerDelivery _ _ _ | .powerStageFault _ _ | .blockSealed _
  | .powerRecord _ | .overVoltage | .highInput _ _ | .supplyWarning _ | .supplyWarningRelease _ | .throttleN _ _ | .supplyReset _ | .lossOfInput
  | .peakLimiter _ _ _ _ _ _ | .dieCapUpdate _ _ _ | .equinoxShare _ | .idleEntry | .fallowExit _ | .fallowExitDone | .resetEscalated _ _
  | .resetDone _ _ _ | .remoteRequestResend _ | .vigilRemoteTimeout _ | .powerGood _ _ _ | .startComplete _ _ _ _ _ | .shutdownReqN | .emberDone _ _
  | .emberTimeout | .heartbeat | .hotReset | .pcieLinkDown | .vfEnableClear | .traySet _ _ _ | .trayIdSet _ _ | .almanacGet _ _ _ _ | .unlockNonce _
  | .unlock _ _ _ | .statusGet _ | .setEndpointId _ _ | .setdasa _ _ | .getVersion _ | .getCapabilities _ | .negotiateAlgorithms _ _ _
  | .getDigests _ | .getCertificate _ _ _ _ | .challenge _ _ _ | .getMeasurements _ _ _ _ | .chunkGet _ _ _ | .getPqSignature _ | .getPqKey _
  | .getSensorReading _ _ | .getStateSensorReadings _ _ | .setEventReceiver _ _ | .pldmSensorUpdate | .supplyResetRelease | .quiesceTimeout
  | .fallowEntryDone | .vfEnableSet _ | .probe _ | .epochRequest _ _ _ _ => true
  | .mtxMma e _ | .mtxStore e _ | .mtxLoad e _ | .mtxCsload e _ | .mtxWait e _ | .sysNop e _ | .endKernel e _ | .csrr e _ | .csrw e _ | .add e _
  | .sub e _ | .mul e _ | .and e _ | .or e _ | .xor e _ | .shl e _ | .shr e _ | .sar e _ | .slt e _ | .sltu e _ | .min e _ | .max e _ | .minu e _
  | .maxu e _ | .addi e _ | .muli e _ | .andi e _ | .ori e _ | .xori e _ | .shli e _ | .shri e _ | .sari e _ | .slti e _ | .sltui e _ | .li e _
  | .lui e _ | .sld e _ | .sst e _ | .beq e _ | .bne e _ | .blt e _ | .bge e _ | .bltu e _ | .bgeu e _ | .jmp e _ | .vadd e _ | .vsub e _ | .vmul e _
  | .vfma e _ | .vfms e _ | .vmin e _ | .vmax e _ | .vabs e _ | .vneg e _ | .vand e _ | .vor e _ | .vxor e _ | .vshl e _ | .vshr e _ | .vsar e _
  | .vsel e _ | .vmov e _ | .vlane e _ | .vperm e _ | .vbcast e _ | .vget e _ | .vput e _ | .eq e _ | .ne e _ | .lt e _ | .le e _ | .gt e _ | .ge e _
  | .un e _ | .mand e _ | .mor e _ | .mxor e _ | .mnot e _ | .mfroms e _ | .mtos e _ | .vld e _ | .vst e _ | .vlds e _ | .vsts e _ | .vgath e _
  | .vscat e _ | .vexp e _ | .vlog e _ | .vrsq e _ | .vdiv e _ | .vrcp e _ | .vredSum e _ | .vredMax e _ | .vredMin e _ | .argmax e _ | .argmin e _
  | .wset e _ | .wadd e _ | .wmax e _ | .wmul e _ | .wexpadd e _ | .wfma e _ | .wget e _ | .wred e _ | .cvt e _ | .cvtTs e _ | .cvtBp e _
  | .cvtBu e _ | .xin e _ | .xout e _ | .xwait e _ | .transferComplete e _ | .trecv e _ | .trecva e _ | .trel e _ | .tsend e _ | .trsend e _
  | .tclose e _ | .octaveCompare e _ _ | .shadowTimeout e | .illegalInstruction e _ => engOk e
  | .mmaComplete e core _ _ _ _ => engOk e && decide (core < 64)
  | .cdieMtxCheckCtl fn die _ | .cdieVecOctaveCtl fn die _ | .cdieMemMigrate fn die _ => decide (fn < 64) && decide (die < 8)
  | .patrolRead die channel _ _ _ => decide (die < 8) && decide (channel < 14)
  | .memMigrationDone die | .channelStopsAnswering die _ | .energySplit die _ _ => decide (die < 8)
  | .remoteTrayRequest r => decide (r.slot < 8)
  | .numwCtl fn ctx _ => decide (fn < 64) && decide (ctx < 256)
  | .exchangeChunk m _ => decide (m.ctx < 256)
  | .sealRecord slice _ | .harvestRequest slice _ _ _ => decide (slice < 4096)
  | .linkTrained port width | .width port width => decide (port < 32) && decide (width < 16)
  | .identityBeacon port _ | .beaconSend port | .portMissing port | .flitReceive port _ _ _ | .linkDown port _ | .livenessTokenSend port
  | .livenessToken port _ | .tokenSilence port => decide (port < 32)
  | .laneFailing port lane _ | .spare port lane | .laneRetrain port lane _ => decide (port < 32) && decide (lane < 9)
  | .packetForward port vc h _ => decide (port < 32) && decide (vc < 8) && hdrOk h
  | .linkPortCtl fn port _ => decide (fn < 64) && decide (port < 32)
  | .suspicionReport reporter suspect port _ _ => decide (reporter < 16384) && decide (suspect < 16384) && decide (port < 32)
  | .stewardDecision suspect _ => decide (suspect < 16384)
  | .joinAnnouncement index _ _ | .resetNotice index _ _ | .resetNoticeExpiry index | .departureNotice index _ | .rosterNotice _ index _
  | .probeAnswer index | .fullRosterRequest index => decide (index < 16384)
  | .restoreVote ctx roster _ _ _ => decide (ctx < 256) && decide (roster < 16384)
  | .setAsideTest die cluster _ _ | .pathDelayReading die cluster _ | .replanHoldEnd die cluster | .droop die cluster | .droopClear die cluster
  | .frequencyChange die cluster | .droopLowering die cluster _ => decide (die < 8) && decide (cluster < 2112)
  | .thermalReading die cluster _ _ _ _ => decide (die < 12) && decide (cluster < 2112)
  | .thermalTrip die | .commandProcessorHeartbeat die => decide (die < 12)
  | .vigilHang _ _ die ctx _ _ _ => decide (die < 12) && decide (ctx < 256)
  | .sweepToken source ctx _ => decide (source < 16384) && decide (ctx < 256)
  | .sweepTokenReturn peer ctx _ | .sweepTokenTimeout peer ctx => decide (peer < 16384) && decide (ctx < 256)
  | .msixUnmask fn vector => decide (fn < 64) && decide (vector < 2048)
  | .cxlPortChanged port _ _ width _ _ _ => decide (port < 4) && decide (width < 16)
  | .satClear fn _ size _ | .stClear fn _ size _ | .registerWrite fn _ size _ => decide (fn < 64) && (size == 4 || size == 8)
  | .pcieLinkUp width _ _ => decide (width < 16)
  | .twinJournalRecord peer ctx q _ _ => decide (peer < 16384) && decide (ctx < 256) && decide (q < 4096)
  | .commitRecordRequest index ctx _ _ | .hardFaultReport index ctx _ => decide (index < 16384) && decide (ctx < 256)
  | .chunkResendRequest ctx _ _ source _ => decide (ctx < 256) && decide (source < 16384)

end Sys2Proof
end

