-- ==== Sys2Proof/Certificates/Slice0/Obligations.lean ====
section
/-! DEFINITION. The statements for the provers. -/

section

open Sys2Proof Sys2Proof.Machine

/-! ### A step, reset, words, canonical form -/

/-- A step runs the command at the front of the queue on the state with the queue's rest. On an empty queue the module controller's local count moves
on and nothing else does but the model's counter of free values (log entry 2, the model's choice). -/
def Obligations.StepRunsTheFrontCommand : Prop :=
  (∀ (c : Instr) (rest : List Instr) (s : State), s.pending = c :: rest → step s = exec c { s with pending := rest }) ∧
  (∀ s : State, s.pending = [] → ∃ t, step s = .next t ∧ sget 0 s.lcount 0 < sget 0 t.lcount 0 ∧
    { t with lcount := s.lcount, free := s.free } = s ∧ ∀ b, b ≠ 0 → sget 0 t.lcount b = sget 0 s.lcount b)

/-- After reset every register field reads its reset value of the register tables, no command waits, the journal is empty, no queue exists, the only
context is context 0 of PF 0, the module is not ready, and memory lists nothing and is in canonical form. -/
def Obligations.ResetState : Prop :=
  State.reset.pending = [] ∧ (∀ f i, rget State.reset f i = fldReset f i) ∧ State.reset.ctl.journal = [] ∧ State.reset.ctl.queues = [] ∧
  (∀ c, (ctx? State.reset c).isSome = true ↔ c = 0) ∧ fnOf State.reset 0 = 0 ∧ rget State.reset .mcStatus_ready 0 = 0 ∧
  (∀ k, sget 0 State.reset.mem.bytes k = 0 ∧ sget 0 State.reset.mem.bad k = 0) ∧ Mem.wf State.reset.mem ∧ Io.wf State.reset.io

/-- R111, R126, Tables 5.6, 5.7 and 6.3 to 6.13: the word of an instruction of a kernel is decoded to that instruction, with every operand at every
value, and a word that is decoded is the word of what it is decoded to: no bit is dropped and no two words spell one instruction. -/
def Obligations.WordsDecodeAndEncode : Prop :=
  (∀ (i : Instr) (e : Eng) (w : Word64), instrWord i = some (e, w) → wordInstr e w = some i) ∧
  (∀ (i : Instr) (e : Eng) (w : Word64), wordInstr e w = some i → instrWord i = some (e, w))

/-- The memory of the module and the memory of the host keep their canonical form in every step: keys rise and nothing is listed that an unlisted byte
reads as. -/
def Obligations.MemoryKeepsItsForm : Prop :=
  ∀ s t : State, Mem.wf s.mem → Io.wf s.io → step s = .next t → Mem.wf t.mem ∧ Io.wf t.io

/-- A command acts on everything but the queue: after a step the queue is its rest, and every step answers a next state. -/
def Obligations.StepTakesOneCommand : Prop :=
  ∀ s : State, ∃ t, step s = .next t ∧ t.pending = s.pending.tail
/-- R220: the running digest of bytes is the CRC-64 of 0x42F0_E1EB_A9EA_3693 with input and output reflected: the register starts at all ones, takes the
bits of each byte from the lowest up, and its reversed and inverted value is the digest. It can be computed over a stream as it passes: the register after
two runs of bytes is that of the second run from where the first left it. Its value for "123456789", and for no byte. -/
def Obligations.RunningDigest : Prop :=
  let poly : BitVec 64 := 0x42F0E1EBA9EA3693
  let shift := fun (r : BitVec 64) (x : Bool) => (r <<< 1) ^^^ (if r.msb = x then 0 else poly)
  let run := fun (r : BitVec 64) (b : List Byte) => (b.flatMap (fun y => (List.range 8).map (fun i => y.getLsbD i))).foldl shift r
  (∀ (b : List Byte) (k : Nat), k < 64 → (runDigest b).testBit k = !(run (BitVec.allOnes 64) b).getLsbD (63 - k)) ∧
  (∀ b : List Byte, runDigest b < 2 ^ 64) ∧ (∀ (r : BitVec 64) (a b : List Byte), run r (a ++ b) = run (run r a) b) ∧
  runDigest (ascii "123456789") = 0x995DC9BBDF1939FA ∧ runDigest [] = 0
/-! ### The scalar unit (R125, R128, R129, R135) -/

/-- R128: each register operation of SALU writes its 64-bit result to sd and the engine goes on with the next instruction; nothing else of the module
changes. Shifts use the low 6 bits of the second operand; a write of s0 is discarded (R123). R128: each immediate operation of SALUI, with the
immediate sign-extended; LI loads it, LUI puts it into bits [63:32] and keeps bits [31:0] of sd. -/
def Obligations.ScalarOperations : Prop :=
  (∀ (e : Eng) (f : FmtS) (s : State) (x : Engine), f.rsv = 0 →
    let a := x.s f.sa
    let b := x.s f.sb
    let gives := fun (i : Instr) (v : Word64) => executes i s e x → exec i s = .next (setEng e (x.went.setS f.sd v) s)
    gives (.add e f) (BitVec.ofNat 64 (a.toNat + b.toNat)) ∧ gives (.sub e f) (BitVec.ofInt 64 (a.toInt - b.toInt)) ∧
    gives (.mul e f) (BitVec.ofNat 64 (a.toNat * b.toNat)) ∧ gives (.and e f) (a &&& b) ∧ gives (.or e f) (a ||| b) ∧
    gives (.xor e f) (a ^^^ b) ∧ gives (.shl e f) (BitVec.ofNat 64 (a.toNat * 2 ^ (b.toNat % 64))) ∧
    gives (.shr e f) (BitVec.ofNat 64 (a.toNat / 2 ^ (b.toNat % 64))) ∧
    gives (.sar e f) (BitVec.ofInt 64 (a.toInt / 2 ^ (b.toNat % 64))) ∧
    gives (.slt e f) (if a.toInt < b.toInt then 1 else 0) ∧ gives (.sltu e f) (if a.toNat < b.toNat then 1 else 0) ∧
    gives (.min e f) (BitVec.ofInt 64 (Min.min a.toInt b.toInt)) ∧ gives (.max e f) (BitVec.ofInt 64 (Max.max a.toInt b.toInt)) ∧
    gives (.minu e f) (BitVec.ofNat 64 (Min.min a.toNat b.toNat)) ∧ gives (.maxu e f) (BitVec.ofNat 64 (Max.max a.toNat b.toNat))) ∧
  (∀ (e : Eng) (f : FmtSI) (s : State) (x : Engine), f.rsv = 0 →
    let a := x.s f.sa
    let k := f.imm.toInt
    let gives := fun (i : Instr) (v : Word64) => executes i s e x → exec i s = .next (setEng e (x.went.setS f.sd v) s)
    gives (.addi e f) (BitVec.ofInt 64 (a.toInt + k)) ∧ gives (.muli e f) (BitVec.ofInt 64 (a.toInt * k)) ∧
    gives (.andi e f) (a &&& BitVec.ofInt 64 k) ∧ gives (.ori e f) (a ||| BitVec.ofInt 64 k) ∧
    gives (.xori e f) (a ^^^ BitVec.ofInt 64 k) ∧ gives (.shli e f) (BitVec.ofNat 64 (a.toNat * 2 ^ (f.imm.toNat % 64))) ∧
    gives (.shri e f) (BitVec.ofNat 64 (a.toNat / 2 ^ (f.imm.toNat % 64))) ∧
    gives (.sari e f) (BitVec.ofInt 64 (a.toInt / 2 ^ (f.imm.toNat % 64))) ∧
    gives (.slti e f) (if a.toInt < k then 1 else 0) ∧ gives (.sltui e f) (if a.toNat < (BitVec.ofInt 64 k).toNat then 1 else 0) ∧
    (f.sa = 0 → gives (.li e f) (BitVec.ofInt 64 k)) ∧
    (f.sa = 0 → gives (.lui e f) (BitVec.ofNat 64 (f.imm.toNat * 2 ^ 32 + (x.s f.sd).toNat % 2 ^ 32))))

/-- R129, R135: a branch whose target lies in the code goes there when its condition holds and to the next instruction otherwise; nothing else
changes. A target outside the code traps with fault code 0x25, taken or not. -/
def Obligations.BranchesGoToTheirTargets : Prop :=
  ∀ (e : Eng) (f : FmtB) (s : State) (x : Engine), f.rsv = 0 →
    let a := x.s f.sa
    let b := x.s f.sb
    let t : Int := (x.pc : Int) + 8 * f.imm.toInt
    let goes := fun (i : Instr) (c : Prop) => executes i s e x →
      (0 ≤ t → t + 8 ≤ (x.codeBytes : Int) →
        (c → exec i s = .next (setEng e { x with stall := none, pc := t.toNat } s)) ∧ (¬ c → exec i s = .next (setEng e x.went s))) ∧
      (t < 0 ∨ (x.codeBytes : Int) < t + 8 → exec i s = .next (trapEng e 0x25 s))
    goes (.beq e f) (a = b) ∧ goes (.bne e f) (a ≠ b) ∧ goes (.blt e f) (a.toInt < b.toInt) ∧ goes (.bge e f) (b.toInt ≤ a.toInt) ∧
    goes (.bltu e f) (a.toNat < b.toNat) ∧ goes (.bgeu e f) (b.toNat ≤ a.toNat) ∧ (f.sa = 0 → f.sb = 0 → goes (.jmp e f) True)

/-- R125: NOP changes nothing but the place in the code; CSRR reads the control and status registers of Table 6.2 and CSRW writes VCTL and VFLAGS; a
register that is not listed, or a write of another one, traps. R126, R135: a word that spells no instruction traps with fault code 0x25: in an Octave
shadow the trap enters the comparison and no more, elsewhere it stops the run. So does a reserved bit that is not zero, and a fetch beyond the end of
the code. -/
def Obligations.SysInstructionsAndIllegalWords : Prop :=
  (∀ (e : Eng) (f : FmtSI) (s : State) (x : Engine), f.rsv = 0 →
    (executes (.sysNop e f) s e x → f.sd = 0 → f.sa = 0 → f.imm = 0 → exec (.sysNop e f) s = .next (setEng e x.went s)) ∧
    (executes (.csrr e f) s e x → f.sa = 0 →
      let reads := fun (n : BitVec 32) (v : Nat) =>
        f.imm = n → exec (.csrr e f) s = .next (setEng e (x.went.setS f.sd (BitVec.ofNat 64 v)) s)
      reads 0x00 (if x.ftz then 1 else 0) ∧ reads 0x01 x.vflags.toNat ∧ reads 0x02 x.k ∧ reads 0x06 (x.step s) ∧
      reads 0x07 ((run? s x.run).elim 0 (·.arg)) ∧ reads 0x08 ((x.taskOf s).elim 0 (·.argBytes)) ∧
      (csrVal x e s f.imm.toNat = none → exec (.csrr e f) s = .next (trapEng e 0x25 s))) ∧
    (executes (.csrw e f) s e x → f.sd = 0 →
      (f.imm = 0 → exec (.csrw e f) s = .next (setEng e { x.went with ftz := (x.s f.sa).getLsbD 0 } s)) ∧
      (f.imm = 1 → exec (.csrw e f) s = .next (setEng e { x.went with vflags := (x.s f.sa).truncate 5 } s)) ∧
      (f.imm ≠ 0 → f.imm ≠ 1 → exec (.csrw e f) s = .next (trapEng e 0x25 s)))) ∧
  (∀ (e : Eng) (s : State) (x : Engine), eng? s e = some x → x.ended = false →
    let ends := count1 .cdieVecTrapCount_count e.die (setEng e { x with trap := some (0x25, x.pc), ended := true, stall := none } s)
    let t := if e.shadow then ends else runFault x.run 0x25 x.task ends
    (∀ w, wordInstr e w = none → x.stall = none → exec (.illegalInstruction e w) s = .next t) ∧
    (∀ f : FmtS, f.rsv ≠ 0 → x.stall = none →
      exec (.add e f) s = .next t ∧ exec (.sub e f) s = .next t ∧ exec (.mul e f) s = .next t ∧ exec (.xor e f) s = .next t) ∧
    (∀ f : FmtS, x.codeBytes < x.pc + 8 → x.stall = none → exec (.add e f) s = .next t))

/-- R129: a scalar load takes eight bytes, lowest address first, from cluster memory or from the task's argument block. A store to cluster memory
writes exactly its eight bytes: every other byte of memory reads as before, and so does the rest of the module. -/
def Obligations.ScalarLoadsAndStores : Prop :=
  ∀ (e : Eng) (f : FmtSM) (s : State) (x : Engine), f.rsv = 0 →
    let a := (x.s f.sa + BitVec.ofInt 64 f.imm.toInt).toNat
    let k := clKey e.die e.cl e.shadow a
    a % 8 = 0 →
    (executes (.sld e f) s e x → f.space = 0 → a + 8 ≤ 196608 → clBad s e a 8 = false →
      exec (.sld e f) s = .next (setEng e (x.went.setS f.sd (BitVec.ofNat 64 (leNat (sgetN 0 s.mem.bytes k 8)))) s)) ∧
    (executes (.sld e f) s e x → f.space = 1 → a + 8 ≤ x.args.length →
      exec (.sld e f) s = .next (setEng e (x.went.setS f.sd (BitVec.ofNat 64 (leNat ((x.args.drop a).take 8)))) s)) ∧
    (executes (.sst e f) s e x → f.space = 0 → a + 8 ≤ 196608 → clBad s e a 8 = false →
      ∃ t, exec (.sst e f) s = .next t ∧ { t with mem := s.mem, eng := s.eng } = s ∧ eng? t e = some x.went ∧
        sgetN 0 t.mem.bytes k 8 = leBytes 8 (x.s f.sd).toNat ∧
        ∀ j, j < k ∨ k + 8 ≤ j → sget 0 t.mem.bytes j = sget 0 s.mem.bytes j)

/-! ### The vector unit (R127, R130 to R132, R138 to R150) -/

/-- R127, R130: the arithmetic operations of VALU on every element type: each active lane of d takes its result and raises its flags, masked-off lanes
and every other register are kept. -/
def Obligations.VectorArithmetic : Prop :=
  ∀ (e : Eng) (f : FmtV) (s : State) (x : Engine) (t : ElTy), elTy f.type.toNat = some t →
    let md : VMode := ⟨vRnd f, f.sat = 1, x.ftz⟩
    let plain : VMode := ⟨.near, false, x.ftz⟩
    let gives := fun (i : Instr) (u : UseV) (md : VMode) (op : ElOp) => executes i s e x → vOk f u = true →
      ∃ y, exec i s = .next (setEng e y s) ∧
        x.lanesAre y f.d (x.active f) (fun k => laneOp op t md (x.lane f.a k) (if u.bv then x.opB f k else 0) (if u.c then x.lane f.c k else 0))
    let two := arithUse t
    let pick : UseV := { type := true, d := true, a := true, bv := true, mkb := true }
    let one : UseV := { sat := !t.float, type := true, d := true, a := true, mkb := true }
    gives (.vadd e f) two md ⟨fun a b _ => addX a b, fun a b _ => a + b⟩ ∧
    gives (.vsub e f) two md ⟨fun a b _ => addX a (negX b), fun a b _ => a - b⟩ ∧
    gives (.vmul e f) two md ⟨fun a b _ => mulX a b, fun a b _ => a * b⟩ ∧
    gives (.vfma e f) { two with c := true } md ⟨fun a b c => fmaX a b c, fun a b c => a * b + c⟩ ∧
    gives (.vfms e f) { two with c := true } md ⟨fun a b c => fmaX a b (negX c), fun a b c => a * b - c⟩ ∧
    gives (.vmin e f) pick plain ⟨fun a b _ => minX a b, fun a b _ => Min.min a b⟩ ∧
    gives (.vmax e f) pick plain ⟨fun a b _ => maxX a b, fun a b _ => Max.max a b⟩ ∧
    gives (.vabs e f) one { plain with sat := f.sat = 1 } ⟨fun a _ _ => absX a, fun a _ _ => (a.natAbs : Int)⟩ ∧
    gives (.vneg e f) one { plain with sat := f.sat = 1 } ⟨fun a _ _ => negX a, fun a _ _ => -a⟩

/-- R127: a lane of an integer operation: INT32 and UINT32 wrap, or saturate where sat is set, to the 32-bit result; INT16 does the same in each half
of the lane by itself; no integer operation raises a flag. -/
def Obligations.IntegerLanesWrapOrSaturate : Prop :=
  ∀ (op : ElOp) (md : VMode) (a b c : Word32),
    let z := op.i a.toInt b.toInt c.toInt
    let u := op.i a.toNat b.toNat c.toNat
    laneOp op .i32 md a b c = (BitVec.ofInt 32 (if md.sat then Max.max (-2147483648) (Min.min 2147483647 z) else z), 0) ∧
    laneOp op .u32 md a b c = (BitVec.ofInt 32 (if md.sat then Max.max 0 (Min.min 4294967295 u) else u), 0) ∧
    let half := fun (o : Nat) =>
      let z := op.i (a.extractLsb' o 16).toInt (b.extractLsb' o 16).toInt (c.extractLsb' o 16).toInt
      BitVec.ofInt 16 (if md.sat then Max.max (-32768) (Min.min 32767 z) else z)
    laneOp op .i16 md a b c = ((half 16 ++ half 0 : BitVec 32), 0)

/-- R130: the operations on whole lanes: logic, shifts by the low five bits, moves, lane numbers, permutation, broadcast. VSEL takes a where its mask
bit is 1 and b where it is 0, in every lane; VGET and VPUT move one lane. R131: a comparison writes one bit a lane to m[d]: 0 in the masked-off lanes;
the ordered ones and EQ and NE read a NaN as unordered. On the integer types UN is 0. The mask operations keep the bits of masked-off lanes. -/
def Obligations.LaneMovesAndMasks : Prop :=
  (∀ (e : Eng) (f : FmtV) (s : State) (x : Engine),
    let two : UseV := { type := true, d := true, a := true, bv := true, mkb := true }
    let gives := fun (i : Instr) (ok : Bool) (g : Nat → Word32) => executes i s e x → ok = true →
      ∃ y, exec i s = .next (setEng e y s) ∧ x.lanesAre y f.d (x.active f) (fun k => (g k, 0))
    let shifts := (f.type = 3 ∨ f.type = 5)
    let a := x.lane f.a
    let b := x.opB f
    gives (.vand e f) (vOk f two) (fun k => a k &&& b k) ∧ gives (.vor e f) (vOk f two) (fun k => a k ||| b k) ∧
    gives (.vxor e f) (vOk f two) (fun k => a k ^^^ b k) ∧
    (shifts → gives (.vshl e f) (vOk f two) (fun k => BitVec.ofNat 32 ((a k).toNat * 2 ^ ((b k).toNat % 32)))) ∧
    (shifts → gives (.vshr e f) (vOk f two) (fun k => BitVec.ofNat 32 ((a k).toNat / 2 ^ ((b k).toNat % 32)))) ∧
    (shifts → gives (.vsar e f) (vOk f two) (fun k => BitVec.ofInt 32 ((a k).toInt / 2 ^ ((b k).toNat % 32)))) ∧
    (executes (.vsel e f) s e x → vOk f { two with mr := true } = true →
      ∃ y, exec (.vsel e f) s = .next (setEng e y s) ∧
        x.lanesAre y f.d (fun _ => true) (fun k => (if (x.mask f.mr.toNat).getLsbD k then a k else b k, 0))) ∧
    gives (.vmov e f) (vOk f { two with bv := false }) a ∧
    (f.type = 3 → gives (.vlane e f) (vOk f { two with a := false, bv := false }) (fun k => BitVec.ofNat 32 k)) ∧
    gives (.vperm e f) (vOk f two) (fun k => a ((b k).toNat % 64)) ∧
    gives (.vbcast e f) (vOk f { two with a := false, bv := false, ss := true }) (fun _ => (x.s f.ss).truncate 32) ∧
    (executes (.vget e f) s e x → vOk f { type := true, d := true, a := true, imm := true } = true → f.imm.toNat < 64 →
      exec (.vget e f) s = .next (setEng e (x.went.setS f.d (BitVec.ofNat 64 (a f.imm.toNat).toNat)) s)) ∧
    (executes (.vput e f) s e x → vOk f { type := true, d := true, ss := true, imm := true, mkb := true } = true → f.imm.toNat < 64 →
      ∃ y, exec (.vput e f) s = .next (setEng e y s) ∧
        x.lanesAre y f.d (fun k => k == f.imm.toNat && x.active f k) (fun _ => ((x.s f.ss).truncate 32, 0)))) ∧
  (∀ (e : Eng) (f : FmtV) (s : State) (x : Engine), f.d.toNat < 8 →
    let a := x.lane f.a
    let b := x.opB f
    let cmpOk := vOk f { type := true, d := true, a := true, bv := true, mkb := true } = true
    let fl := fun (w : Word32) => readF fp32 x.ftz w.toNat
    let bitwise := fun (i : Instr) (g : Nat → Bool) => executes i s e x →
      ∃ y, exec i s = .next (setEng e y s) ∧ x.maskIs y f.d.toNat (fun k => x.active f k && g k)
    let keeps := fun (i : Instr) (g : Nat → Bool) => executes i s e x →
      ∃ y, exec i s = .next (setEng e y s) ∧ y.vflags = x.vflags ∧
        x.maskIs y f.d.toNat (fun k => if x.active f k then g k else (x.mask f.d.toNat).getLsbD k)
    let sel := fun (k : Nat) (p : FVal → FVal → Bool) (q : Int → Int → Bool) =>
      if f.type = 0 then p (fl (a k)) (fl (b k)) else if f.type = 3 then q (a k).toInt (b k).toInt else q (a k).toNat (b k).toNat
    (cmpOk → (f.type = 0 ∨ f.type = 3 ∨ f.type = 5) →
      bitwise (.eq e f) (fun k => sel k eqX (· == ·)) ∧ bitwise (.ne e f) (fun k => sel k (fun p q => !eqX p q) (· != ·)) ∧
      bitwise (.lt e f) (fun k => sel k ltX (fun p q => decide (p < q))) ∧
      bitwise (.gt e f) (fun k => sel k (fun p q => ltX q p) (fun p q => decide (q < p))) ∧
      bitwise (.le e f) (fun k => sel k (fun p q => !isNaN p && !isNaN q && !ltX q p) (fun p q => decide (p ≤ q))) ∧
      bitwise (.ge e f) (fun k => sel k (fun p q => !isNaN p && !isNaN q && !ltX p q) (fun p q => decide (q ≤ p))) ∧
      bitwise (.un e f) (fun k => sel k (fun p q => isNaN p || isNaN q) (fun _ _ => false))) ∧
    (vOk f { a := true, b := true, d := true, mkb := true } = true → f.a.toNat < 8 → f.b.toNat < 8 →
      let p := x.mask f.a.toNat
      let q := x.mask f.b.toNat
      keeps (.mand e f) (fun k => p.getLsbD k && q.getLsbD k) ∧ keeps (.mor e f) (fun k => p.getLsbD k || q.getLsbD k) ∧
      keeps (.mxor e f) (fun k => p.getLsbD k != q.getLsbD k)) ∧
    (vOk f { a := true, d := true, mkb := true } = true → f.a.toNat < 8 → f.b = 0 →
      keeps (.mnot e f) (fun k => !(x.mask f.a.toNat).getLsbD k)) ∧
    (vOk f { ss := true, d := true, mkb := true } = true → f.a = 0 → f.b = 0 → keeps (.mfroms e f) (fun k => (x.s f.ss).getLsbD k)) ∧
    (executes (.mtos e f) s e x → vOk f { d := true, a := true } = true → f.a.toNat < 8 →
      exec (.mtos e f) s = .next (setEng e (x.went.setS f.d (x.mask f.a.toNat)) s)))

/-- R132: the vector loads and stores: with every active lane's address aligned and inside cluster memory, a load takes each active lane's four bytes,
a store writes them in lane order, so that of several lanes at one address the highest is left; no other byte of memory changes. One misaligned or
outside address traps with fault code 0x25 and nothing is written. -/
def Obligations.VectorMemory : Prop :=
  ∀ (e : Eng) (f : FmtV) (s : State) (x : Engine),
    let base := x.s f.ss + BitVec.ofNat 64 f.imm.toNat
    let at_ := fun (off : Nat → Word64) (k : Nat) => (base + off k).toNat
    let ok := fun (off : Nat → Word64) => ∀ k, k < 64 → x.active f k = true → at_ off k % 4 = 0 ∧ at_ off k + 4 ≤ 196608
    let good := fun (off : Nat → Word64) => ∀ k, k < 64 → x.active f k = true → clBad s e (at_ off k) 4 = false
    let key := fun (a : Nat) => clKey e.die e.cl e.shadow a
    let loads := fun (i : Instr) (u : UseV) (off : Nat → Word64) => executes i s e x → vOk f u = true →
      (ok off → good off → ∃ y, exec i s = .next (setEng e y s) ∧
        x.lanesAre y f.d (x.active f) (fun k => (BitVec.ofNat 32 (leNat (sgetN 0 s.mem.bytes (key (at_ off k)) 4)), 0))) ∧
      (¬ ok off → exec i s = .next (trapEng e 0x25 s))
    let stores := fun (i : Instr) (u : UseV) (off : Nat → Word64) => executes i s e x → vOk f u = true →
      (ok off → good off → ∃ t, exec i s = .next t ∧ { t with mem := s.mem, eng := s.eng } = s ∧ t.eng = (setEng e x.went s).eng ∧
        (∀ k, k < 64 → x.active f k = true → (∀ j, k < j → j < 64 → x.active f j = true → at_ off j ≠ at_ off k) →
          sgetN 0 t.mem.bytes (key (at_ off k)) 4 = leBytes 4 (x.lane f.d k).toNat) ∧
        (∀ j, (∀ k, k < 64 → x.active f k = true → j < key (at_ off k) ∨ key (at_ off k) + 4 ≤ j) →
          sget 0 t.mem.bytes j = sget 0 s.mem.bytes j)) ∧
      (¬ ok off → exec i s = .next (trapEng e 0x25 s))
    let u : UseV := { d := true, ss := true, imm := true, mkb := true }
    loads (.vld e f) u (fun k => BitVec.ofNat 64 (4 * k)) ∧ stores (.vst e f) u (fun k => BitVec.ofNat 64 (4 * k)) ∧
    loads (.vlds e f) { u with b := true } (fun k => BitVec.ofNat 64 k * x.s f.b) ∧
    stores (.vsts e f) { u with b := true } (fun k => BitVec.ofNat 64 k * x.s f.b) ∧
    loads (.vgath e f) { u with a := true } (fun k => BitVec.ofNat 64 (x.lane f.a k).toNat) ∧
    stores (.vscat e f) { u with a := true } (fun k => BitVec.ofNat 64 (x.lane f.a k).toNat)

/-- R148, R149: the wide-precision functions round once from the wide form to FP32, lane by lane; with the edge values: a finite value divided by zero
is an infinity of the quotient's sign with DZ, zero by zero a NaN with NV, ln 0 is minus infinity with DZ, e^0 is 1. -/
def Obligations.WidePrecisionFunctions : Prop :=
  (∀ (e : Eng) (f : FmtV) (s : State) (x : Engine),
    let a := fun k => readF fp32 x.ftz (x.lane f.a k).toNat
    let b := fun k => readF fp32 x.ftz (x.opB f k).toNat
    let gives := fun (i : Instr) (two : Bool) (r : Nat → FunRes) => executes i s e x → vOk f { d := true, a := true, bv := two, mkb := true } = true →
      ∃ y, exec i s = .next (setEng e y s) ∧
        x.lanesAre y f.d (x.active f) (fun k => (BitVec.ofNat 32 (funOut x.ftz (r k)).1, (funOut x.ftz (r k)).2))
    gives (.vexp e f) false (fun k => expFn (a k)) ∧ gives (.vlog e f) false (fun k => logFn (a k)) ∧
    gives (.vrsq e f) false (fun k => rsqFn (a k)) ∧ gives (.vdiv e f) true (fun k => divFn (a k) (b k)) ∧
    gives (.vrcp e f) false (fun k => divFn oneX (a k))) ∧
  (∀ (ftz n n' : Bool) (m : Nat) (z z' : Int), m ≠ 0 →
    funOut ftz (divFn (.fin n m z) (.fin n' 0 z')) = (if n = n' then 0x7F800000 else 0xFF800000, fDZ) ∧
    funOut ftz (divFn (.fin n 0 z) (.fin n' 0 z')) = (0x7FC00000, fNV) ∧
    funOut ftz (logFn (.fin n 0 z)) = (0xFF800000, fDZ) ∧ funOut ftz (expFn (.fin n 0 z)) = (0x3F800000, 0) ∧
    funOut ftz (logFn (.fin true m z)) = (0x7FC00000, fNV) ∧ funOut ftz (rsqFn (.fin true m z)) = (0x7FC00000, fNV))

/-- R138 to R140: the reductions: to a scalar register (w = 6) or one result a group to the lanes of a vector register. The integer sum is the exact
sum of the active lanes, saturated once at the end. R150: the wide accumulators: each active lane of wa[d] takes the rounded result, masked-off lanes
and the other accumulators are kept, and no flag is raised; WGET and WRED round once to FP32. -/
def Obligations.ReductionsAndAccumulators : Prop :=
  ((∀ (e : Eng) (f : FmtV) (s : State) (x : Engine),
    vOk f { type := true, d := true, a := true, imm := true, mkb := true } = true → (f.type = 0 ∨ f.type = 3) → f.imm.toNat < 32 →
    let w := f.imm.toNat % 8
    let wide := f.imm.toNat.testBit 3
    let rs := fun (op : RedOp) => redAll x f op w wide
    let gives := fun (i : Instr) (op : RedOp) (arg : Bool) => executes i s e x → 1 ≤ w → w ≤ 6 →
      (f.imm.toNat.testBit 4 = true →
        ∃ y, exec i s = .next (setEng e y s) ∧ x.sameButV y ∧
          ∀ r k, k < 64 → y.lane r k =
            if r = f.d then (((rs op)[k]?).map (fun z => BitVec.ofNat 32 (if arg then z.idx else z.val))).getD (x.lane r k) else x.lane r k) ∧
      (f.imm.toNat.testBit 4 = false → w = 6 →
        ∃ y, exec i s = .next (setEng e y s) ∧ { y with vflags := x.vflags } =
          (x.went.setS f.d (BitVec.ofNat 64 (((rs op).getD 0 ⟨0, 0, 0⟩).val % 2 ^ 32 + ((rs op).getD 0 ⟨0, 0, 0⟩).idx % 2 ^ 7 * 2 ^ 32))))
    gives (.vredSum e f) .sum false ∧ gives (.vredMax e f) .max false ∧ gives (.vredMin e f) .min false ∧
    gives (.argmax e f) .max true ∧ gives (.argmin e f) .min true) ∧
  (∀ (x : Engine) (f : FmtV), ∃ r, redSumI x f 6 = [r] ∧
    let z := ((List.range 64).map (fun k => if x.active f k then (x.lane f.a k).toInt else 0)).sum
    r = ⟨(BitVec.ofInt 32 (Max.max (-2147483648) (Min.min 2147483647 z))).toNat, 0, 0⟩)) ∧
  (∀ (e : Eng) (f : FmtV) (s : State) (x : Engine),
    let a := fun k => quiet (readF fp32 x.ftz (x.lane f.a k).toNat)
    let b := fun k => quiet (readF fp32 x.ftz (x.opB f k).toNat)
    let gives := fun (i : Instr) (u : UseV) (g : Nat → FVal → FVal) => executes i s e x → vOk f { u with d := true, mkb := true } = true →
      f.d.toNat < 8 → ∃ y, exec i s = .next (setEng e y s) ∧ { y with wa := x.wa } = x.went ∧
        ∀ r k, k < 64 → y.wide r k = if r = f.d.toNat ∧ x.active f k = true then quiet (g k (x.wide r k)) else x.wide r k
    gives (.wset e f) { ss := true } (fun _ _ => round48 (readF fp32 x.ftz ((x.s f.ss).truncate 32).toNat)) ∧
    gives (.wadd e f) { a := true } (fun k w => round48 (addX w (a k))) ∧ gives (.wmax e f) { a := true } (fun k w => round48 (maxX w (a k))) ∧
    gives (.wmul e f) { a := true } (fun k w => round48 (mulX w (a k))) ∧
    gives (.wexpadd e f) { a := true } (fun k w => round48 (addX w (round48 (exp48Of (a k))))) ∧
    gives (.wfma e f) { a := true, bv := true } (fun k w => round48 (addX w (mulX (a k) (b k)))) ∧
    (executes (.wget e f) s e x → vOk f { d := true, a := true, mkb := true } = true → f.a.toNat < 8 →
      ∃ y, exec (.wget e f) s = .next (setEng e y s) ∧ x.lanesAre y f.d (x.active f) (fun k =>
        (BitVec.ofNat 32 (wideToF32 x.ftz (x.wide f.a.toNat k)).1, (wideToF32 x.ftz (x.wide f.a.toNat k)).2))) ∧
    (executes (.wred e f) s e x → vOk f { d := true, a := true, imm := true, mkb := true } = true → f.a.toNat < 8 → f.imm.toNat ≤ 1 →
      ∃ y v j, exec (.wred e f) s = .next (setEng e y s) ∧
        { y with vflags := x.vflags } = x.went.setS f.d (BitVec.ofNat 64 ((wideToF32 x.ftz v).1 % 2 ^ 32 + j * 2 ^ 32)) ∧
        (f.imm = 0 → j = 0) ∧ (f.imm = 1 → j ≤ 64)))

/-- R142 to R147: a conversion writes the 64 destination elements of its part and keeps every bit of the register outside it. CVT resolves each active
element in the destination format, CVT.TS after a multiplication by the scaling; CVT.BP writes the two block scales, CVT.BU reads them. -/
def Obligations.Conversions : Prop :=
  ∀ (e : Eng) (f : FmtC) (s : State) (x : Engine) (src dst : Fmt), fmtOf f.fmtSrc.toNat = some src → fmtOf f.fmtDst.toNat = some dst →
    cOk f src dst = true →
    let el := fun (k : Nat) => readF src x.ftz (cvtElem x f src.bits k)
    let lo := dst.bits * 64 * f.dpart.toNat
    let writes := fun (y : Engine) (act : Nat → Bool) (g : Nat → Nat) =>
      ∀ n, n < 2048 → (vBig y f.vd).testBit n =
        if lo ≤ n ∧ n < lo + dst.bits * 64 ∧ act ((n - lo) / dst.bits) = true then (g ((n - lo) / dst.bits)).testBit ((n - lo) % dst.bits)
        else (vBig x f.vd).testBit n
    let runs := fun (i : Instr) (ok : Bool) (P : Engine → Prop) => executes i s e x → ok = true →
      ∃ y, exec i s = .next (setEng e y s) ∧ x.sameButV y ∧ P y
    runs (.cvt e f) (f.vs == 0 && f.sf == 0) (fun y =>
      writes y (cActive x f) (fun k => (resolve dst (cRnd x f (x.step s) k) (f.sat = 1) x.ftz true (el k)).1 % 2 ^ dst.bits)) ∧
    runs (.cvtTs e f) (f.vs == 0) (fun y =>
      writes y (cActive x f) (fun k => (resolve dst (cRnd x f (x.step s) k) (f.sat = 1) x.ftz true
        (mulX (el k) (readF fp32 x.ftz ((x.s f.sf).truncate 32).toNat))).1 % 2 ^ dst.bits)) ∧
    runs (.cvtBp e f) (f.sf == 0 && f.mkb == 0 && f.fmtDst.toNat ≤ 6) (fun y =>
      let scale := fun (h : Nat) => blockScale dst (((List.range 64).map el).drop (32 * h) |>.take 32)
      bits (vBig y f.vs) (16 * f.dpart.toNat) 8 = scale 0 ∧ bits (vBig y f.vs) (16 * f.dpart.toNat + 8) 8 = scale 1 ∧
      (f.vs ≠ f.vd → writes y (fun _ => true) (fun k => (packElem dst (cRnd x f (x.step s) k) x.ftz (scale (k / 32)) (el k)).1 % 2 ^ dst.bits))) ∧
    runs (.cvtBu e f) (f.sf == 0 && f.mkb == 0 && f.fmtSrc.toNat ≤ 6) (fun y =>
      let scale := fun (k : Nat) => bits (vBig x f.vs) (8 * (2 * f.spart.toNat + k / 32)) 8
      writes y (fun _ => true) (fun k => (resolve dst (cRnd x f (x.step s) k) false x.ftz true
        (unpackElem src (scale k) (cvtElem x f src.bits k))).1 % 2 ^ dst.bits))

/-! ### Matrix cores, transfers, streams, tasks (ch. 2, 5; R133, R134, R151 to R157) -/

/-- R112, Table 5.7: on one selected core with an empty queue MTX.STORE writes a tile to 1,024 bytes of cluster memory and MTX.LOAD reads one from
there, MTX.CSLOAD fills core store, MTX.MMA queues the multiply of its descriptor; MTX.WAIT goes on when nothing is queued and stalls else. -/
def Obligations.MatrixInstructions : Prop :=
  ∀ (e : Eng) (f : FmtM) (s : State) (x : Engine) (c : Nat), f.rsv = 0 → mtxCores x f = [c] →
    let core := coreOf s e c
    let base := (x.s f.sa).toNat % 2 ^ 32
    let addr := base + 64 * (f.imm.toNat % 65536 + c * (f.imm.toNat / 65536))
    let key := clKey e.die e.cl e.shadow
    let tile := 256 * f.acc.toNat
    let ready := fun (i : Instr) => executes i s e x ∧ core.queue = [] ∧ base % 64 = 0
    let sameMem := fun (t : State) => t.mem = s.mem
    (ready (.mtxStore e f) → f.accum = 0 → addr + 1024 ≤ 196608 → clBad s e addr 1024 = false → core.parity = [] → core.bad (f.acc == 1) = false →
      leadsTo (.mtxStore e f) s (fun t => eng? t e = some x.went ∧ (coreOf t e c).queue = [] ∧
        (∀ w, w < 256 → sgetN 0 t.mem.bytes (key addr + 4 * w) 4 = leBytes 4 (core.word (tile + w)).toNat) ∧
        ∀ j, j < key addr ∨ key addr + 1024 ≤ j → sget 0 t.mem.bytes j = sget 0 s.mem.bytes j)) ∧
    (ready (.mtxLoad e f) → f.accum = 0 → addr + 1024 ≤ 196608 → clBad s e addr 1024 = false →
      leadsTo (.mtxLoad e f) s (fun t => eng? t e = some x.went ∧ sameMem t ∧ (coreOf t e c).bad (f.acc == 1) = false ∧
        ∀ w, w < 256 → (coreOf t e c).word (tile + w) = BitVec.ofNat 32 (leNat (sgetN 0 s.mem.bytes (key addr + 4 * w) 4)))) ∧
    (let src := base + 64 * (c * (f.imm.toNat / 65536))
     let len := 64 * (f.imm.toNat / 256 % 256 + 1)
     let dst := 64 * (f.imm.toNat % 256)
     ready (.mtxCsload e f) → f.accum = 0 → f.acc = 0 → dst + len ≤ 8192 → src + len ≤ 196608 → clBad s e src len = false →
      leadsTo (.mtxCsload e f) s (fun t => eng? t e = some x.went ∧ sameMem t ∧
        ∀ j, j < len → (coreOf t e c).byte (dst + j) = sget 0 s.mem.bytes (key src + j))) ∧
    (let a := base + f.imm.toNat
     let b := sgetN 0 s.mem.bytes (key a) 64
     let d := mkMma b c (f.acc == 1) (f.accum == 1) (rget s .cdieMtxCheckCtl_lanesOff e.die == 1)
     ready (.mtxMma e f) → f.imm.toNat % 64 = 0 → a + 64 ≤ 196608 → clBad s e a 64 = false → mmaFormOk b = true → mmaRangeOk d = true →
      leadsTo (.mtxMma e f) s (fun t => eng? t e = some x.went ∧ sameMem t ∧ (coreOf t e c).queue = [.mma d] ∧
        ∀ w, (coreOf t e c).word w = core.word w)) ∧
    (executes (.mtxWait e f) s e x → f.imm = 0 → f.sa = 0 → f.acc = 0 → f.accum = 0 →
      exec (.mtxWait e f) s = .next (setEng e (if core.queue = [] then x.went else { x with stall := some (.mtxWait e f) }) s))

/-- R106: a tile multiply without faults leaves in each output (i, j) of its tile the rounded product sum of row i and column j, added to the old word
where accum is set; the words outside the tile and all of memory are kept. R117, R121: a write of CDIE_MTX_CHECK_CTL by PF 0 switches the lanes and
reports the change; writing what it holds does nothing. -/
def Obligations.TileMultiplyCompletes : Prop :=
  (∀ (e : Eng) (s : State) (x : Engine) (c : Nat) (d : Mma) (cond : Cond), eng? s e = some x → x.stall = none → c < 64 →
    let core := coreOf s e c
    core.queue = [.mma d] → core.parity = [] → (mmaRanges d).all (fun r => !clBad s e r.1 r.2) = true → d.m ≤ 16 → d.n ≤ 16 →
    leadsTo (.mmaComplete e c [] [] [] cond) s (fun t => t.mem = s.mem ∧ eng? t e = some x ∧ (coreOf t e c).queue = [] ∧
      (∀ i j, i < d.m → j < d.n →
        let w := 256 * (if d.acc then 1 else 0) + 16 * i + j
        let v := tileOut d ((mmaA s e core d).getD i []) ((mmaB s e core d).getD j []) (fun _ => [])
        (coreOf t e c).word w = BitVec.ofNat 32 (if d.accum then addF (core.word w).toNat v else v)) ∧
      (∀ i j, i < 16 → j < 16 → d.m ≤ i ∨ d.n ≤ j → ∀ p, p < 2 →
        (coreOf t e c).word (256 * p + 16 * i + j) = core.word (256 * p + 16 * i + j)))) ∧
  (∀ (die : Nat) (v : BitVec 32) (s : State), die < 8 → notServed s 0 = false →
    let n := v.toNat % 2
    (rget s .cdieMtxCheckCtl_lanesOff die = n → exec (.cdieMtxCheckCtl 0 die v) s = .next (dropLatch 0 s)) ∧
    (rget s .cdieMtxCheckCtl_lanesOff die ≠ n → leadsTo (.cdieMtxCheckCtl 0 die v) s (fun t =>
      rget t .cdieMtxCheckCtl_lanesOff die = n ∧ (n = 1 → rget t .cdieMtxStatus_offSeen die = 1) ∧
      ∃ ev ∈ t.io.events, ev.code = 0x0502 ∧ ev.src = 0x10 + die ∧ ev.detail = die + 256 * n)))

/-- R133: XIN and XOUT with legal operands start a transfer, or stall while eight are outstanding; illegal ones trap. XWAIT goes on when none is
outstanding. A completed XIN has put the bytes of its tray range into cluster memory, and nothing else of memory changes. -/
def Obligations.BulkTransfers : Prop :=
  ∀ (e : Eng) (f : FmtX) (s : State) (x : Engine),
    let tr := fun (out : Bool) => (⟨out, (x.s f.sb).toNat, (x.s f.sa).toNat, (x.s f.sc).toNat⟩ : Xfer)
    (executes (.xin e f) s e x → xferOk x f = true → x.xfers.length < 8 → remoteLines s x.ctx false (x.s f.sa).toNat (x.s f.sc).toNat = [] →
      exec (.xin e f) s = .next (setEng e { x.went with xfers := x.xfers ++ [tr false] } s)) ∧
    (executes (.xin e f) s e x → xferOk x f = true → 8 ≤ x.xfers.length → exec (.xin e f) s = .next (setEng e { x with stall := some (.xin e f) } s)) ∧
    (executes (.xin e f) s e x → xferOk x f = false → exec (.xin e f) s = .next (trapEng e 0x25 s)) ∧
    (executes (.xout e f) s e x → xferOk x f = true → x.xfers.length < 8 → x.sampled = false → e.shadow = false →
      exec (.xout e f) s = .next (setEng e { x.went with xfers := x.xfers ++ [tr true] } s)) ∧
    (executes (.xwait e f) s e x → f = ⟨0, 0, 0, 0, 0, 0⟩ →
      exec (.xwait e f) s = .next (setEng e (if x.xfers = [] then x.went else { x with stall := some (.xwait e f) }) s)) ∧
    (∀ (n : Nat) (t : Xfer), eng? s e = some x → x.stall = none → x.xfers[n]? = some t → t.out = false → x.answers = [] →
      remoteLines s x.ctx false t.tray t.len = [] → (xinRead s x t).bad = [] → (xinRead s x t).viol = 0 → clBad s e t.loc t.len = false →
      t.loc % 64 = 0 →
      let k := clKey e.die e.cl e.shadow t.loc
      let b := (xinRead s x t).bytes
      leadsTo (.transferComplete e n) s (fun u => eng? u e = some { x with xfers := x.xfers.eraseIdx n } ∧
        (∀ j, j < b.length → sget 0 u.mem.bytes (k + j) = b.getD j 0) ∧
        ∀ j, j < k ∨ k + b.length ≤ j → sget 0 u.mem.bytes j = sget 0 s.mem.bytes j))

/-- R50, R51, R134: TRECV and TRECVA give the address and the header of the tile that arrived first; when every producer has closed and no tile is
left they give all ones and zero; TREL frees the slot, whose credit is with the ring again. R49, R52, R134, R135: a send with all its credits puts the
tile on its way into each granted slot and counts it; a routing tag that drops counts the drop; TCLOSE closes the cluster's side of the edge; END ends
the kernel and closes every output. -/
def Obligations.StreamReceiveAndSend : Prop :=
  (∀ (e : Eng) (f : FmtX) (s : State) (x : Engine) (r : Run) (ed : Edge) (i p : Nat), run? s x.run = some r → x.inPort s p = some (ed, i) →
    p < 16 → f.sd.toNat ≤ 30 → f.sb = 0 → f.sc = 0 → f.rsv = 0 →
    let form := fun (j : Instr) => (j = .trecv e f ∧ f.sa = 0 ∧ f.imm = BitVec.ofNat 8 p) ∨
      (j = .trecva e f ∧ f.imm = 0 ∧ ∀ q, q < 16 → (x.s f.sa).getLsbD q = (q == p))
    (∀ i' j o tl got rel, form i' → executes i' s e x → readySlots r e x.k i ed.credits = [(o, j)] →
      sget .free (streamOf r i).slots (x.k * 256 + j) = .full tl o got rel →
      leadsTo i' s (fun t =>
        eng? t e = some { (x.went.setS f.sd (BitVec.ofNat 64 (ed.bufOff + j * ed.slotBytes))).setS (f.sd + 1) (tileHeader ed.dstPort tl)
          with held := x.held ++ [(i, j)] } ∧ t.mem = s.mem)) ∧
    (∀ i', form i' → executes i' s e x → edgeEnded (runGraph s r) r e x.k i ed = true →
      exec i' s = .next (setEng e ((x.went.setS f.sd (BitVec.allOnes 64)).setS (f.sd + 1) 0) s)) ∧
    (∀ j tl o got rel, executes (.trel e f) s e x → f.sd = 0 → f.imm = 0 → x.sampled = false → e.shadow = false →
      x.held = [(i, j)] → (runGraph s r).edges[i]? = some ed → (x.s f.sa).toNat = ed.bufOff + j * ed.slotBytes →
      sget .free (streamOf r i).slots (x.k * 256 + j) = .full tl o got rel →
      leadsTo (.trel e f) s (fun t => eng? t e = some { x.went with held := [] } ∧
        ∃ r', run? t x.run = some r' ∧ sget .free (streamOf r' i).slots (x.k * 256 + j) = .free))) ∧
  (∀ (e : Eng) (s : State) (x : Engine) (r : Run) (ed : Edge) (i : Nat), run? s x.run = some r → (runGraph s r).edges[i]? = some ed →
    taskSt r x.task = .running → x.task < (runGraph s r).tasks.length → e.shadow = false → x.sampled = false → x.trap = none →
    (∀ y ∈ s.eng, y.1 ≠ engKey e → y.2.stall = none) →
    let sn := sget 0 x.sent i
    let sent := fun (src len : Nat) (q : SendReq) (t : State) =>
      eng? t e = some { x.went with sent := sset 0 x.sent i (sn + 1) } ∧
      ∃ r', run? t x.run = some r' ∧ ∀ g ∈ q.granted, sget .free (streamOf r' i).slots (g.1 * 256 + g.2) = .coming ⟨x.k, sn, clRead s e src len⟩
    (∀ (f : FmtX) (q : SendReq), executes (.tsend e f) s e x → f.sd = 0 → f.rsv = 0 → f.imm.toNat < 16 → x.outPort s f.imm.toNat = some (ed, i) →
      ¬ f.imm.toNat ∈ x.closedPorts → (x.s f.sa).toNat % 64 = 0 → lenOk (x.s f.sb).toNat ed.slotBytes = true →
      (x.s f.sa).toNat + (x.s f.sb).toNat ≤ 196608 → clBad s e (x.s f.sa).toNat (x.s f.sb).toNat = false →
      (destsOf (runGraph s r) ed x.k sn (x.s f.sc).toNat).isSome = true → myReq s x.run i x.k = some q → allGranted q = true →
      leadsTo (.tsend e f) s (sent (x.s f.sa).toNat (x.s f.sb).toNat q)) ∧
    (∀ (f : FmtX) (q : SendReq), executes (.trsend e f) s e x → f.sd = 0 → f.rsv = 0 → f.imm = 0 → (x.s f.sb).toNat < 64 →
      x.routeEdge s (x.s f.sb).toNat = some (ed, i) → ¬ (x.s f.sb).toNat ∈ x.closedRoutes → (x.s f.sa).toNat % 64 = 0 →
      lenOk ed.slotBytes ed.slotBytes = true → (x.s f.sa).toNat + ed.slotBytes ≤ 196608 → clBad s e (x.s f.sa).toNat ed.slotBytes = false →
      (destsOf (runGraph s r) ed x.k sn (x.s f.sc).toNat).isSome = true → myReq s x.run i x.k = some q → allGranted q = true →
      leadsTo (.trsend e f) s (sent (x.s f.sa).toNat ed.slotBytes q)) ∧
    (∀ f : FmtX, executes (.trsend e f) s e x → f.sd = 0 → f.rsv = 0 → f.imm = 0 → (x.s f.sb).toNat < 256 → 128 ≤ (x.s f.sb).toNat →
      (x.s f.sb).toNat < 192 → x.routeEdge s ((x.s f.sb).toNat - 128) = some (ed, i) → ¬ ((x.s f.sb).toNat - 128) ∈ x.closedRoutes →
      (x.s f.sa).toNat % 64 = 0 → lenOk ed.slotBytes ed.slotBytes = true → (x.s f.sa).toNat + ed.slotBytes ≤ 196608 →
      leadsTo (.trsend e f) s (fun t => eng? t e = some x.went ∧ ∃ r', run? t x.run = some r' ∧ r'.dropped = r.dropped + 1)) ∧
    (∀ f : FmtX, executes (.tclose e f) s e x → f.sd = 0 → f.sa = 0 → f.sb = 0 → f.sc = 0 → f.rsv = 0 → f.imm.toNat < 16 →
      x.outPort s f.imm.toNat = some (ed, i) → ¬ f.imm.toNat ∈ x.closedPorts →
      leadsTo (.tclose e f) s (fun t => ∃ r', run? t x.run = some r' ∧ x.k ∈ (streamOf r' i).closedBy)) ∧
    (∀ f : FmtSI, executes (.endKernel e f) s e x → f = ⟨0, 0, 0, 0⟩ → x.xfers = [] → (∀ c, c < 64 → (coreOf s e c).queue = []) →
      undrained x e s = false →
      (∀ w i, w ∈ allOuts x s → closeIdx x s w = some i → leadsTo (.endKernel e f) s (fun t =>
        ∃ r', run? t x.run = some r' ∧ x.k ∈ (streamOf r' i).closedBy)) ∧
      leadsTo (.endKernel e f) s (fun t => ∃ y, eng? t e = some y ∧ y.ended = true ∧ y.trap = none)))

/-- R42 to R45, R49, R50: a task that can start runs on every cluster of its region from its kernel's entry with every register cleared; a finished
task's clusters are free and it is completed; a tile that arrives fills its slot and the ring's bytes; a free slot goes to the next waiting request.
-/
def Obligations.TasksAndTiles : Prop :=
  ∀ (s : State) (c n : Nat) (r : Run), run? s n = some r → r.ctx = c → (∀ y ∈ s.eng, y.2.stall = none) →
    let g := runGraph s r
    (∀ (task : Nat) (tk : Task) (kn : Kernel), g.tasks[task]? = some tk → g.kernels[tk.kernel]? = some kn → startable s n r task = true →
      (ctxRead c kn.code kn.bytes s).1.bad = [] → (ctxRead c tk.argAddr tk.argBytes (ctxRead c kn.code kn.bytes s).2).1.bad = [] →
      leadsTo (.taskStart c n task) s (fun t => (∃ r', run? t n = some r' ∧ taskSt r' task = .running) ∧
        ∀ y ∈ taskClusters s r task, ∃ x, eng? t ⟨y.2.2.1, y.2.2.2, false⟩ = some x ∧ x.run = n ∧ x.task = task ∧ x.pc = kn.entry ∧
          x.codeBytes = kn.bytes ∧ x.sr = [] ∧ x.v = [] ∧ x.m = [] ∧ x.wa = [] ∧ x.ended = false)) ∧
    (∀ task, taskFinished s n r task = true → leadsTo (.taskCompletion c n task) s (fun t =>
      (∀ y ∈ t.eng, ¬ (y.2.run = n ∧ y.2.task = task ∧ y.1 % 2 = 0)) ∧
      (run? t n = none ∨ ∃ r', run? t n = some r' ∧ taskSt r' task = .completed))) ∧
    (∀ (k i cl j : Nat) (tl : Tile) (ed : Edge) (key : Nat) (x : Engine), arriving r k = some (i, cl, j, tl) → g.edges[i]? = some ed →
      copyOf s n ed.dst cl = some (key, x) → eng? s (engOfKey key) = some x → x.ended = false → eng? s (twinEng (engOfKey key)) = none →
      (ed.bufOff + j * ed.slotBytes) % 64 = 0 → clBad s (engOfKey key) (ed.bufOff + j * ed.slotBytes) tl.data.length = false →
      leadsTo (.tileArrival c n k) s (fun t =>
        (∃ r', run? t n = some r' ∧ sget .free (streamOf r' i).slots (cl * 256 + j) = .full tl s.gr.arrivals 0 0) ∧
        clRead t (engOfKey key) (ed.bufOff + j * ed.slotBytes) tl.data.length = tl.data)) ∧
    (∀ (i cl : Nat) (ed : Edge), g.edges[i]? = some ed → freeSlots s n r ed i cl ≠ [] → (streamOf r i).waiting.any (needs cl) = true →
      (∀ q ∈ (streamOf r i).waiting, copyOf s n ed.src q.p = none ∨ ∃ d ∈ q.dests, d ≠ cl ∧ ∀ g ∈ q.granted, g.1 ≠ d) →
      leadsTo (.creditGrant c n i cl) s (fun t => ∃ r' j, run? t n = some r' ∧ j ∈ freeSlots s n r ed i cl ∧
        sget .free (streamOf r' i).slots (cl * 256 + j) = .granted))

/-- R154, R157: a comparison that agrees takes the shadow away and changes no count; a shadow that has not ended in time is stopped and counted in the
skip count; one that disagrees counts a failure and raises OCTAVE_FAIL. The rate register takes 0 and 3 to 6 and ignores other values. -/
def Obligations.OctaveChecks : Prop :=
  (∀ (e : Eng) (s : State) (x y : Engine) (a b : Cond), e.shadow = false → sampledOf s e = some x → eng? s (twinEng e) = some y →
    let skips := fun (t : State) => rget t .cdieVecOctaveSkipCount_count e.die
    let fails := fun (t : State) => rget t .cdieVecOctaveFailCount_count e.die
    e.die < 8 → s.gr.runs = [] → s.sp.waiting = [] →
    (x.ended = true → y.ended = true → x.digest = y.digest → x.recs = y.recs → x.trap = y.trap →
      leadsTo (.octaveCompare e a b) s (fun t => eng? t (twinEng e) = none ∧ fails t = fails s ∧ skips t = skips s)) ∧
    (x.ended = true → y.ended = true → x.trap = none → y.trap = none → x.digest ≠ y.digest → fails s < 2 ^ 32 - 1 →
      leadsTo (.octaveCompare e a b) s (fun t => fails t = fails s + 1 ∧ rget t .cdieVecStatus_failSeen e.die = 1 ∧
        ∃ ev ∈ t.io.events, ev.code = 0x0601 ∧ ev.src = 0x10 + e.die)) ∧
    (x.ended = true → y.ended = false → skips s < 2 ^ 32 - 1 →
      leadsTo (.shadowTimeout e) s (fun t => eng? t (twinEng e) = none ∧ skips t = skips s + 1))) ∧
  (∀ (die : Nat) (v : BitVec 32) (s : State), die < 8 → notServed s 0 = false →
    let n := v.toNat % 16
    (¬ n ∈ [0, 3, 4, 5, 6] → exec (.cdieVecOctaveCtl 0 die v) s = .next (dropLatch 0 s)) ∧
    (n ∈ [0, 3, 4, 5, 6] → rget s .cdieVecOctaveCtl_rateLog2 die ≠ n → leadsTo (.cdieVecOctaveCtl 0 die v) s (fun t =>
      rget t .cdieVecOctaveCtl_rateLog2 die = n ∧ (n = 0 → rget t .cdieVecStatus_offSeen die = 1) ∧
      ∃ ev ∈ t.io.events, ev.code = 0x0602 ∧ ev.src = 0x10 + die ∧ ev.detail = die + 256 * n)))

/-! ### Queues and the journal (ch. 3) -/

/-- R59, R63, R440: a doorbell of a queue that the function does not own is dropped and counted; of an owned one the tail is taken, and while nothing
is accepted the write is kept (R20). The head moves on in the same way, and no record that is not COMPLETED is freed by it. R63, R64: the oldest
fetched packet is accepted where there is room for its reply and its record: a record is appended, REPLY_PENDING with its status at once where a check
failed; the queue expects the next sequence number. In a mirrored context the twin's acknowledgement must have come. Without a fetched packet nothing
happens. -/
def Obligations.DoorbellsAndAcceptance : Prop :=
  (∀ (s : State) (fn q : Nat) (tail : BitVec 16) (head : BitVec 32),
    let viol := fun (t : State) => rget t .hostifFnDbViol_count fn
    (fn < 64 → s.host.flr.contains fn = false → ownsQueue s fn q = false → viol s < 2 ^ 32 - 1 →
      leadsTo (.queueDbSqTail fn q tail []) s (fun t => viol t = viol s + 1 ∧ t.ctl.queues = s.ctl.queues)) ∧
    (fn < 64 → fnUp s fn = true → ownsQueue s fn q = false → viol s < 2 ^ 32 - 1 →
      leadsTo (.queueDbCqHead fn q head) s (fun t => viol t = viol s + 1 ∧ t.ctl.queues = s.ctl.queues)) ∧
    (s.host.flr.contains fn = false → ownsQueue s fn q = true →
      (accepting s = true → leadsTo (.queueDbSqTail fn q tail []) s (fun t => ∃ x, queue? t q = some x ∧ x.tail = tail.toNat)) ∧
      (rget s .mcStatus_ready 0 = 0 → leadsTo (.queueDbSqTail fn q tail []) s (fun t =>
        t.ctl.doorbells = s.ctl.doorbells ++ [(fn, q, tail.toNat)] ∧ t.ctl.queues = s.ctl.queues))) ∧
    (fnUp s fn = true → ownsQueue s fn q = true →
      leadsTo (.queueDbCqHead fn q head) s (fun t => (∃ x, queue? t q = some x ∧ x.cqHead = head.toNat) ∧
        (∀ r ∈ s.ctl.journal, r.state ≠ .completed → r ∈ t.ctl.journal) ∧ ∀ r ∈ t.ctl.journal, r ∈ s.ctl.journal))) ∧
  (∀ (s : State) (q : Nat) (x : Queue) (f : Fetched) (fs : List Fetched), queue? s q = some x → x.fetched = f :: fs → canFetch s x = true →
    cqRoom x = true → journalUsed s x.ctx + 64 + f.bytes.length ≤ journalShare s x.ctx → (ctx? s x.ctx).elim false (·.twinLost) = false →
    fetchedOp f ≠ 0x05 →
    let accepted := fun (t : State) => (∃ r, t.ctl.journal = s.ctl.journal ++ [r] ∧ r.q = q ∧ r.seq = x.nextSeq ∧ r.ctx = x.ctx ∧
        (f.status = 0 → r.state = .accepted ∧ r.reply = none) ∧ (f.status ≠ 0 → r.state = .replyPending ∧ ∃ p, r.reply = some p ∧ p.status = f.status)) ∧
      ∃ y, queue? t q = some y ∧ y.nextSeq = (x.nextSeq + 1) % 2 ^ 32 ∧ y.acceptSlot = (x.acceptSlot + f.slots) % 2 ^ 16 ∧ y.fetched.length = fs.length
    (rget s .stepCtxState_mirrored x.ctx = 0 ∨ f.twinAck = true → leadsTo (.packetAccept q) s accepted) ∧
    (rget s .stepCtxState_mirrored x.ctx = 1 → f.twinAck = false → fetchedOp f ≠ 0x42 → noEffect (.packetAccept q) s) ∧
    (x.nextSeq < 2 ^ 32 → leadsTo (.twinJournalAck q (BitVec.ofNat 32 x.nextSeq)) s accepted))

/-- R69, R59, R66: the first ACCEPTED record of a queue that may issue becomes ISSUED; the oldest pending reply is written to its slot of the
completion ring, and no other byte of host memory changes; a delivered command has no undelivered record any more. -/
def Obligations.CommandsIssueAndReply : Prop :=
  ∀ (s : State) (q : Nat) (r : Rec),
    (s.ctl.journal.find? (fun r => r.q == q && r.state == .accepted) = some r → mayIssue s r = true → rget s .mcStatus_ready 0 = 1 →
      (stepFlag r = false ∨ stepSt s r.ctx ≠ 0 →
        leadsTo (.commandIssue q) s (fun t => ∃ y ∈ t.ctl.journal, y.q = q ∧ y.seq = r.seq ∧ y.state = .issued)) ∧
      (stepFlag r = true → stepSt s r.ctx = 0 → r.again = none → leadsTo (.commandIssue q) s (fun t =>
        ∃ y ∈ t.ctl.journal, y.q = q ∧ y.seq = r.seq ∧ y.state = .replyPending ∧ ∃ p, y.reply = some p ∧ p.status = stStepNotOpen))) ∧
    (∀ (x : Queue) (p : Reply), queue? s q = some x → x.cqMod = false → canReply s x = true →
      s.ctl.journal.find? (fun r => r.q == q && r.state != .completed && r.again.isNone) = some r → r.state = .replyPending → r.reply = some p →
      let a := x.cqBase + 32 * (r.seq % 2 ^ x.cqLog2)
      leadsTo (.replyWrite q) s (fun t => hostRead t a 32 = replyBytes r.seq x.cqLog2 { p with commit := commitSeq s r.ctx } ∧
        (∀ j, j < a ∨ a + 32 ≤ j → sget 0 t.io.hostMem j = sget 0 s.io.hostMem j) ∧ findRec t q r.seq = none ∧ t.mem = s.mem))

/-- R56: a write of QUEUE_ADMIN_CFG by PF 0 with the enable bit makes the admin queue where there is none, empty and at sequence number 0, with the
sizes that were written where they are legal; another function's write, or one while a module reset is in progress, is dropped (R478, R479). R19, R20,
R80: a heartbeat clears the count of missed ones; a takeover gives the role to F1, fences F0, counts and reports itself, and acts on every doorbell
that was kept; a second one has no effect. HOLD_RELEASED lets a held context of which no micro-batch failed go on. -/
def Obligations.AdminQueueAndControllers : Prop :=
  (∀ (s : State) (fn : Nat) (v : BitVec 32),
    (fn ≠ 0 ∨ rget s .mcStatus_ready 0 = 0 → exec (.queueAdminCfg fn v) s = .next (dropLatch fn s)) ∧
    (notServed s 0 = false → queue? s 0 = none → v.getLsbD 0 = true → leadsTo (.queueAdminCfg 0 v) s (fun t => rget t .queueAdminCfg_enable 0 = 1 ∧
      ∃ x, queue? t 0 = some x ∧ x.ctx = 0 ∧ x.state = .active ∧ x.nextSeq = 0 ∧ x.fetched = [] ∧
        x.sqBase = rget s .queueAdminSqBase_addr 0 * 64 ∧ x.cqBase = rget s .queueAdminCqBase_addr 0 * 32 ∧
        (6 ≤ v.toNat / 256 % 16 ∧ v.toNat / 256 % 16 ≤ 15 → x.sqLog2 = v.toNat / 256 % 16) ∧
        (6 ≤ v.toNat / 4096 % 16 ∧ v.toNat / 4096 % 16 ≤ 15 → x.cqLog2 = v.toNat / 4096 % 16))) ∧
    (notServed s 0 = false → queue? s 0 = none → v.getLsbD 0 = false → leadsTo (.queueAdminCfg 0 v) s (fun t =>
      rget t .queueAdminCfg_enable 0 = 0 ∧ queue? t 0 = none))) ∧
  (∀ (s : State) (self : Bool) (c : Nat),
    (s.ctl.f0Fenced = false → leadsTo .controllerHeartbeat s (fun t => t = { s with ctl := { s.ctl with missed := 0 } })) ∧
    (rget s .mcStatus_controller 0 = 1 → noEffect (.mcTakeover self) s) ∧
    (rget s .mcStatus_controller 0 = 0 → leadsTo (.mcTakeover self) s (fun t => rget t .mcStatus_controller 0 = 1 ∧
      rget t .mcFlags_takeoverSeen 0 = 1 ∧ t.ctl.f0Fenced = true ∧ (accepting s = true → t.ctl.doorbells = []) ∧
      (rget s .mcStatus_takeoverCount 0 < 2 ^ (fldInfo .mcStatus_takeoverCount).width - 1 →
        rget t .mcStatus_takeoverCount 0 = rget s .mcStatus_takeoverCount 0 + 1) ∧
      ∃ ev ∈ t.io.events, ev.code = 0x0101 ∧ ev.ring = 0)) ∧
    (∀ x, ctx? s c = some x → x.held = true → (stepOf s c).mbFault = [] →
      leadsTo (.holdReleased c) s (fun t => ∃ y, ctx? t c = some y ∧ y.held = false)))

/-! ### Contexts, queues, events, memory (ch. 3, 7) -/

/-- R72, Table 3.6: outside context 0 a command whose opcode is marked P completes with NOT_PRIVILEGED and does nothing. -/
def Obligations.PrivilegedCommandsAreRefused : Prop :=
  ∀ (h : CmdRef) (s : State) (a b c : BitVec 8) (k m : BitVec 16) (d g : BitVec 32) (u v : Word64), h.ctx ≠ 0 →
    ∀ p ∈ [(0x01, Instr.ctxCreate h a b c k m), (0x02, .ctxDestroy h a), (0x03, .ctxReset h a), (0x13, .windowSet h a k u), (0x14, .cxlMap h a u v),
        (0x60, .powerPeakSet h d), (0x61, .powerState h a), (0x62, .energyMode h a), (0x70, .almanacRead h d g u), (0x72, .diagRun h k m),
        (0x73, .troubleRead h u), (0x74, .almanacNote h u), (0x80, .partitionSet h a b), (0x81, .sliceDefine h k u), (0x82, .routeWrite h d u),
        (0x83, .planLoad h d u), (0x84, .rosterJoin h k a b), (0xF0, .fwStage h u v), (0xF1, .fwActivate h), (0xFE, .shutdown h)],
      mayRun p.1 h s = true → leadsTo p.2 s (fun t => replied h 0x0014 0 t = true ∧ onlyJournal s t)

/-- R54, R404, R438: CTX_CREATE by context 0 makes a context bound to PF 0 or an enabled VF, with its partition, quota and journal share, an empty
window and the generation of its number; a quarantined number has detail 0x61, a function that is not enabled 0x02. R402, R403: CTX_DESTROY and
CTX_RESET advance the generation, drain the context's queues and wait for the acknowledgements of its engines. -/
def Obligations.ContextCommands : Prop :=
  ∀ (h : CmdRef) (s : State) (n fn part : BitVec 8) (quota mib : BitVec 16), h.ctx = 0 →
    let c := n.toNat
    let quar := (rget s .vigilQuarantine_ctx (c / 64)).testBit (c % 64)
    let create := Instr.ctxCreate h n fn part quota mib
    (mayRun 0x01 h s = true → quar = true → leadsTo create s (fun t => replied h 0x0016 0x61 t = true ∧ onlyJournal s t)) ∧
    (mayRun 0x01 h s = true → quar = false → c ≠ 0 → ctx? s c = none → fnBindable s fn.toNat = false →
      leadsTo create s (fun t => replied h 0x0016 0x02 t = true ∧ onlyJournal s t)) ∧
    (mayRun 0x01 h s = true → quar = false → c ≠ 0 → ctx? s c = none → fnBindable s fn.toNat = true → part.toNat < 8 → sget 0 s.ctl.partitions part.toNat ≠ 0 →
      sharesUsed s + mib.toNat ≤ 960 →
      leadsTo create s (fun t => replied h 0x0000 (genOf s c) t = true ∧ onlyCtl s t ∧ t.ctl.queues = s.ctl.queues ∧
        (∀ d, d ≠ c → ctx? t d = ctx? s d) ∧ ∃ y, ctx? t c = some y ∧ y.fn = fn.toNat ∧ y.part = part.toNat ∧ y.quota = quota.toNat ∧
          y.journalMib = mib.toNat ∧ y.window = [] ∧ y.held = false ∧ y.teardown = none ∧ genOf t c = genOf s c)) ∧
    (∀ (x : Ctx) (op : Nat) (kind : TearKind) (i : Instr),
      (op, kind, i) ∈ [(0x02, TearKind.destroy, Instr.ctxDestroy h n), (0x03, TearKind.reset, Instr.ctxReset h n)] → mayRun op h s = true →
      c ≠ 0 → ctx? s c = some x → x.teardown = none → ctxDies s c ≠ [] →
      leadsTo i s (fun t => waitsOn h (.teardown c) t = true ∧ genOf t c = (genOf s c + 1) % 256 ∧
        (∃ y w, ctx? t c = some y ∧ y.teardown = some w ∧ w.kind = kind ∧ w.acks = enginesOf s c) ∧
        ∀ q y, queue? t q = some y → y.ctx = c → y.state = .draining ∧ y.fetched = [])) ∧
    (∀ p ∈ [(0x02, Instr.ctxDestroy h n), (0x03, Instr.ctxReset h n)], mayRun p.1 h s = true → c = 0 → leadsTo p.2 s (fun t => replied h 0x0016 0x60 t = true ∧ onlyJournal s t))

/-- R55, R74: QUEUE_CREATE without the resume flag makes a queue at its start sequence number, empty, in the state of its context. R72: QUEUE_DESTROY
of a queue with nothing to complete removes it; otherwise it waits and the queue accepts nothing more. R32, R33: GEOMETRY_READ writes the 128 bytes of
the geometry table and returns its digest. R72: NOP completes with OK. R73, R70: EVENT_SIGNAL raises a counter and never lowers it, and completes the
waits that are satisfied; EVENT_WAIT completes once the counter has reached its value. R76: EVENT_RING sets the context's ring. -/
def Obligations.QueueAndEventCommands : Prop :=
  (∀ (h : CmdRef) (s : State) (queue : BitVec 16) (ctx fl : BitVec 8) (sq cq dest : Word64) (sl cl : BitVec 8) (vec : BitVec 16) (start cons : BitVec 32),
    let q := queue.toNat
    let c := ctx.toNat
    (∀ x, mayRun 0x04 h s = true → q ≠ 0 → q < 4096 → fl.toNat < 4 → 6 ≤ sl.toNat → sl.toNat ≤ 15 → 6 ≤ cl.toNat → cl.toNat ≤ 15 → vec.toNat < 2048 → (h.ctx = 0 ∨ h.ctx = c) →
      ctx? s c = some x → x.teardown = none → (h.ctx = 0 ∨ queuesBut s c q < x.quota) → queue? s q = none →
      (fl.getLsbD 0 = true → ringIn s c false sq.toNat (64 * 2 ^ sl.toNat) = true) → (fl.getLsbD 1 = true → ringIn s c true cq.toNat (32 * 2 ^ cl.toNat) = true) →
      leadsTo (.queueCreate h queue ctx fl sq cq sl cl vec start cons) s (fun t => replied h 0x0000 0 t = true ∧ onlyCtl s t ∧
        (∀ p, p ≠ q → queue? t p = queue? s p) ∧ t.ctl.ctxs = s.ctl.ctxs ∧
        ∃ y, queue? t q = some y ∧ y.ctx = c ∧ y.sqBase = sq.toNat ∧ y.cqBase = cq.toNat ∧ y.sqMod = fl.getLsbD 0 ∧ y.cqMod = fl.getLsbD 1 ∧
          y.sqLog2 = sl.toNat ∧ y.cqLog2 = cl.toNat ∧ y.msix = vec.toNat ∧ y.nextSeq = start.toNat ∧ y.fetched = [] ∧
          (x.held = false → x.twinLost = false → y.state = .active))) ∧
    (mayRun 0x05 h s = true → mayDestroy s h q = true → h.q ≠ q →
      ((∀ r ∈ s.ctl.journal, r.q = q → r.state = .completed) → leadsTo (.queueDestroy h queue) s (fun t =>
        replied h 0x0000 0 t = true ∧ queue? t q = none ∧ onlyCtl s t)) ∧
      ((∃ r ∈ s.ctl.journal, r.q = q ∧ r.state ≠ .completed) → leadsTo (.queueDestroy h queue) s (fun t =>
        waitsOn h (.queueDrain q) t = true ∧ onlyCtl s t ∧ ∃ y, queue? t q = some y ∧ y.destroying = true ∧ y.fetched = []))) ∧
    (∀ k, mayRun 0x06 h s = true → plainAt s h.ctx true dest.toNat 128 k → leadsTo (.geometryRead h dest) s (fun t =>
      replied h 0x0000 (geoDigest s (ctxDies s h.ctx)) t = true ∧ (geoBytes s (ctxDies s h.ctx)).length = 128 ∧
      storedAt s t k (geoBytes s (ctxDies s h.ctx))))) ∧
  (∀ (h : CmdRef) (s : State) (event vec : BitVec 16) (value ring : Word64) (log2 : BitVec 8),
    let e := event.toNat
    (mayRun 0x00 h s = true → leadsTo (.nop h) s (fun t => replied h 0x0000 0 t = true ∧ onlyJournal s t)) ∧
    (1024 ≤ e → ∀ p ∈ [(0x23, Instr.eventSignal h event value), (0x24, .eventWait h event value)], mayRun p.1 h s = true → leadsTo p.2 s (fun t =>
      replied h 0x0016 0 t = true ∧ onlyJournal s t)) ∧
    (∀ x, mayRun 0x23 h s = true → e < 1024 → ctx? s h.ctx = some x →
      let new := Max.max (sget 0 x.counters e) value.toNat
      leadsTo (.eventSignal h event value) s (fun t => replied h 0x0000 0 t = true ∧ onlyCtl s t ∧ t.ctl.queues = s.ctl.queues ∧
        (∃ y, ctx? t h.ctx = some y ∧ (∀ j, sget 0 y.counters j = if j = e then new else sget 0 x.counters j) ∧
          { y with counters := x.counters } = x) ∧
        ∀ r ∈ s.ctl.journal, r.ctx = h.ctx → r.state = .issued → r.again = none → ∀ w, r.wait = .event e w → w ≤ new →
          ∃ y ∈ t.ctl.journal, y.q = r.q ∧ y.seq = r.seq ∧ y.state = .replyPending)) ∧
    (∀ x, mayRun 0x24 h s = true → e < 1024 → ctx? s h.ctx = some x →
      (value.toNat ≤ sget 0 x.counters e → leadsTo (.eventWait h event value) s (fun t => replied h 0x0000 0 t = true ∧ onlyJournal s t)) ∧
      (sget 0 x.counters e < value.toNat → leadsTo (.eventWait h event value) s (fun t =>
        waitsOn h (.event e value.toNat) t = true ∧ onlyJournal s t))) ∧
    (∀ x, mayRun 0x25 h s = true → ctx? s h.ctx = some x → vec.toNat < 2048 → leadsTo (.eventRing h log2 vec ring) s (fun t => replied h 0x0000 0 t = true ∧
      (h.ctx ≠ 0 → onlyCtl s t) ∧ ∃ y, ctx? t h.ctx = some y ∧ y.ring = some (log2.toNat, vec.toNat, ring.toNat))) ∧
    (mayRun 0x25 h s = true → 2048 ≤ vec.toNat → leadsTo (.eventRing h log2 vec ring) s (fun t => replied h 0x0016 0 t = true ∧ onlyJournal s t)))

/-- R72: MEM_COPY stores at its destination what its source held, MEM_FILL its pattern again and again, MEM_DIGEST returns the digest of R220 of a
range and stores nothing; R168, R170: a fill outside the window changes nothing. -/
def Obligations.MemoryCommands : Prop :=
  ∀ (h : CmdRef) (s : State) (dst src bytes pattern : Word64),
    let n := bytes.toNat
    (∀ kd ks, mayRun 0x10 h s = true → plainAt s h.ctx false src.toNat n ks → plainAt s h.ctx true dst.toNat n kd → leadsTo (.memCopy h dst src bytes) s (fun t =>
      replied h 0x0000 0 t = true ∧ storedAt s t kd (sgetN 0 s.mem.bytes ks n))) ∧
    (∀ kd, mayRun 0x11 h s = true → plainAt s h.ctx true dst.toNat n kd → leadsTo (.memFill h dst bytes pattern) s (fun t =>
      replied h 0x0000 0 t = true ∧ storedAt s t kd ((List.range n).map (fun i => BitVec.ofNat 8 (pattern.toNat / 2 ^ (8 * (i % 8))))))) ∧
    (mayRun 0x11 h s = true → (∀ i, i < n → inWindow s h.ctx true (dst.toNat + i) = false) → leadsTo (.memFill h dst bytes pattern) s (fun t =>
      replied h 0x0000 0 t = true ∧ t.mem = s.mem)) ∧
    (∀ ks, mayRun 0x12 h s = true → plainAt s h.ctx false src.toNat n ks → leadsTo (.memDigest h src bytes) s (fun t =>
      replied h 0x0000 (runDigest (sgetN 0 s.mem.bytes ks n)) t = true ∧ t.mem = s.mem))

/-- R168, R171: WINDOW_SET of a table without an offending entry is in force once no access of the context is outstanding; with one its index is the
detail of BAD_PARAM and the window stays. R166, R454: CXL_MAP sets the range of a port that has a device large enough. -/
def Obligations.MappingCommands : Prop :=
  ∀ (h : CmdRef) (s : State) (n port : BitVec 8) (count : BitVec 16) (table base bytes : Word64), h.ctx = 0 →
    (∀ p ∈ s.eng, p.2.xfers = []) →
    let c := n.toNat
    let m := port.toNat
    (∀ x k, mayRun 0x13 h s = true → ctx? s c = some x → x.newWin = none → plainAt s 0 false table.toNat (32 * count.toNat) k →
      let rows := entries 32 count.toNat (sgetN 0 s.mem.bytes k (32 * count.toNat))
      (∀ i, winBad s c rows = some i → leadsTo (.windowSet h n count table) s (fun t =>
        replied h 0x0016 i t = true ∧ t.ctl.ctxs = s.ctl.ctxs ∧ t.mem = s.mem)) ∧
      (winBad s c rows = none → (∀ p ∈ s.vig.remote, p.2.ctx ≠ c) → leadsTo (.windowSet h n count table) s (fun t =>
        replied h 0x0000 0 t = true ∧ t.mem = s.mem ∧ (∀ d, d ≠ c → ctx? t d = ctx? s d) ∧ ctx? t c = some { x with window := rows.map mkWin })) ∧
      (winBad s c rows = none → (∃ p ∈ s.vig.remote, p.2.ctx = c) → leadsTo (.windowSet h n count table) s (fun t =>
        waitsOn h (.windowDrain c) t = true ∧ t.mem = s.mem ∧ ∃ y, ctx? t c = some y ∧ y.window = x.window))) ∧
    (mayRun 0x14 h s = true → cxlRangeOk s m base.toNat bytes.toNat = true → rget s .fdieCxlPort_present m = 1 → bytes.toNat ≤ rget s .fdieCxlCapacity_bytes m →
      leadsTo (.cxlMap h port base bytes) s (fun t => replied h 0x0000 0 t = true ∧ t.mem = s.mem ∧ rget t .fdieCxlMapBase_offset m = base.toNat ∧
        rget t .fdieCxlMapBytes_bytes m = bytes.toNat ∧ sget 0 t.host.cxlMapped m = sget 0 s.host.cxlDev m ∧
        ∀ j, j ≠ m → rget t .fdieCxlMapBase_offset j = rget s .fdieCxlMapBase_offset j ∧ rget t .fdieCxlMapBytes_bytes j = rget s .fdieCxlMapBytes_bytes j)) ∧
    (mayRun 0x14 h s = true → cxlRangeOk s m base.toNat bytes.toNat = true → rget s .fdieCxlCapacity_bytes m < bytes.toNat →
      leadsTo (.cxlMap h port base bytes) s (fun t => replied h 0x0016 0x70 t = true ∧ onlyJournal s t)) ∧
    (mayRun 0x14 h s = true → cxlRangeOk s m base.toNat bytes.toNat = false → leadsTo (.cxlMap h port base bytes) s (fun t => replied h 0x0016 0 t = true ∧ onlyJournal s t))

/-! ### Graphs, steps, mirrors and commits (ch. 2, 8, 10) -/

/-- R41: GRAPH_LOAD answers an object in the window that passes every check with its graph_id, and the graph is loaded; a failed check and its index
are the detail of GRAPH_REJECTED, and an object without the magic number fails check 0x01. R72: GRAPH_UNLOAD completes when no run of the graph is
left. R42, R46: GRAPH_RUN admits a run in which every task waits, and answers when the run ends. -/
def Obligations.GraphCommands : Prop :=
  ∀ (h : CmdRef) (s : State) (object bytes arg : Word64) (graph mb : BitVec 16),
    let c := h.ctx
    let n := bytes.toNat
    let g := graph.toNat
    (∀ k, mayRun 0x20 h s = true → plainAt s c false object.toNat n k →
      let b := sgetN 0 s.mem.bytes k n
      (loadCheck (useFree s) c n b = none → leadsTo (.graphLoad h object bytes) s (fun t => replied h 0x0000 (fld b 8 2) t = true ∧ t.mem = s.mem ∧
        graph? t c (fld b 8 2) = some (mkGraph b) ∧ ∀ j, j ≠ c * 65536 + fld b 8 2 → sget? t.gr.graphs j = sget? s.gr.graphs j)) ∧
      (∀ code i, loadCheck (useFree s) c n b = some (code, i) → leadsTo (.graphLoad h object bytes) s (fun t =>
        replied h 0x0020 (code + i * 256) t = true ∧ t.mem = s.mem ∧ t.gr = s.gr)) ∧
      (fld b 0 4 ≠ 0x48504746 → leadsTo (.graphLoad h object bytes) s (fun t => replied h 0x0020 0xFFFFFF01 t = true ∧ t.gr = s.gr))) ∧
    (mayRun 0x21 h s = true → (graph? s c g).isSome = true →
      ((∀ r ∈ svals s.gr.runs, r.ctx = c → r.graph ≠ g) → leadsTo (.graphUnload h graph) s (fun t => replied h 0x0000 0 t = true ∧ graph? t c g = none)) ∧
      ((∃ r ∈ svals s.gr.runs, r.ctx = c ∧ r.graph = g) → leadsTo (.graphUnload h graph) s (fun t => waitsOn h (.unload g) t = true))) ∧
    (∀ G, mayRun 0x22 h s = true → graph? s c g = some G → G.tasks ≠ [] →
      (∀ (i : Nat) (T : Task), G.tasks[i]? = some T → T.inCount = (G.edges.filter (fun e => e.dst == i)).length ∧ (T.kind = 2 → T.inCount ≠ 0)) →
      (h.flags.getLsbD 2 = true → mb.toNat < (stepOf s c).mbs) →
      leadsTo (.graphRun h graph mb arg) s (fun t => t.mem = s.mem ∧ t.gr.nextRun = s.gr.nextRun + 1 ∧ t.gr.graphs = s.gr.graphs ∧
        (∀ j, j ≠ s.gr.nextRun → run? t j = run? s j) ∧ waitsOn h (.runEnd s.gr.nextRun) t = true ∧
        ∃ r, run? t s.gr.nextRun = some r ∧ r.ctx = c ∧ r.graph = g ∧ r.mb = mb.toNat ∧ r.arg = arg.toNat ∧ r.q = h.q ∧ r.seq = h.seq.toNat ∧
          r.stepFlag = h.flags.getLsbD 2 ∧ r.fault = none ∧ r.done = false ∧ ∀ i, taskSt r i = .waiting)) ∧
    (∀ p ∈ [(0x21, Instr.graphUnload h graph), (0x22, .graphRun h graph mb arg)], mayRun p.1 h s = true → graph? s c g = none →
      leadsTo p.2 s (fun t => replied h 0x0016 0 t = true ∧ onlyJournal s t))

/-- R77, R230, R237, R241: STEP_OPEN of a number above the last one opens the step at attempt 0 in state RUN, with the accumulation area at +0, and
answers with the last committed step; a number that is not above the committed one is STEP_SEQUENCE, a plan that breaks a rule BAD_PARAM. R239:
INPUT_RETAIN answers with the digest of its range and keeps it; in a mirrored context it waits for the twin. R241: MICROBATCH_END answers with the
digest of the snapshot once the graph runs of the micro-batch are complete; a step in REPLAY is then in RUN (Table 10.2). -/
def Obligations.StepsAndMicrobatches : Prop :=
  (∀ (h : CmdRef) (s : State) (step : Word64) (mbs : BitVec 16), mayRun 0x30 h s = true → h.ctx < 256 → stepOpenSt s h.ctx = false →
    let c := h.ctx
    let n := step.toNat
    let done := rget s .stepCtxCommitted_step c
    (mbs = 0 → leadsTo (.stepOpen h step mbs) s (fun t => replied h 0x0016 0 t = true ∧ onlyJournal s t)) ∧
    (mbs ≠ 0 → n ≤ done → leadsTo (.stepOpen h step mbs) s (fun t => replied h 0x0030 0 t = true ∧ onlyJournal s t)) ∧
    (mbs ≠ 0 → done < n → stepNo s c < n →
      (∀ d, readPlan s c = .error d → leadsTo (.stepOpen h step mbs) s (fun t => replied h 0x0016 d t = true ∧ onlyJournal s t)) ∧
      (∀ p, readPlan s c = .ok p → leadsTo (.stepOpen h step mbs) s (fun t => replied h 0x0000 done t = true ∧ stepSt t c = 1 ∧ stepNo t c = n ∧
        rget t .stepCtxAttempt_attempt c = 0 ∧ rget t .stepCtxState_agreed c = 0 ∧ rget t .stepCtxCommitted_step c = done ∧
        (stepOf t c).plan = some p ∧ (stepOf t c).mbs = mbs.toNat ∧ (stepOf t c).mbDone = [] ∧ (stepOf t c).retained = [] ∧
        ∀ a ∈ accumArea s c p, a ≠ 0 → ∀ j, j < p.gradBytes → sget 0 t.mem.bytes (areaKey a + j) = 0)))) ∧
  (∀ (h : CmdRef) (s : State) (addr bytes : Word64) (mb : BitVec 16),
    let c := h.ctx
    let m := mb.toNat
    let x := stepOf s c
    (∀ k, mayRun 0x31 h s = true → plainAt s c false addr.toNat bytes.toNat k →
      let d := runDigest (sgetN 0 s.mem.bytes k bytes.toNat)
      (stepOpenSt s c = false → leadsTo (.inputRetain h addr bytes mb) s (fun t => replied h 0x0000 d t = true ∧ t.mem = s.mem ∧ stepOf t c = x)) ∧
      (stepOpenSt s c = true → m < x.mbs → mirrored s c = false → leadsTo (.inputRetain h addr bytes mb) s (fun t => replied h 0x0000 d t = true ∧
        t.mem = s.mem ∧ stepOf t c = { x with retained := x.retained ++ [(addr.toNat, bytes.toNat, m, false)] })) ∧
      (stepOpenSt s c = true → m < x.mbs → mirrored s c = true → leadsTo (.inputRetain h addr bytes mb) s (fun t =>
        waitsOn h (.retain addr.toNat d) t = true ∧ t.mem = s.mem ∧
        stepOf t c = { x with retained := x.retained ++ [(addr.toNat, bytes.toNat, m, false)] }))) ∧
    (mayRun 0x32 h s = true →
      (stepOpenSt s c = false → leadsTo (.microbatchEnd h mb) s (fun t => replied h 0x0031 0 t = true ∧ onlyJournal s t)) ∧
      (stepOpenSt s c = true → x.mbs ≤ m → leadsTo (.microbatchEnd h mb) s (fun t => replied h 0x0016 0 t = true ∧ onlyJournal s t)) ∧
      (stepOpenSt s c = true → m < x.mbs → (m = 0 ∨ m - 1 ∈ x.mbDone) → m ∉ x.mbFault →
        (mbBusy s c m = false → leadsTo (.microbatchEnd h mb) s (fun t => replied h 0x0000 (snapDigest t c) t = true ∧ m ∈ (stepOf t c).mbDone ∧
          t.regs = (if stepSt s c = 4 then rset .stepCtxState_state c 1 s else s).regs)) ∧
        (mbBusy s c m = true → leadsTo (.microbatchEnd h mb) s (fun t => waitsOn h (.microbatch m) t = true ∧
          onlyJournal (if stepSt s c = 4 then rset .stepCtxState_state c 1 s else s) t)))))

/-- R187: STEP_UPDATE of a valid descriptor of the open step starts the own pass and waits; a descriptor at fault is BAD_PARAM. R187, R244: when the
own pass has ended well and, in a mirrored context, the twin's report agrees, STEP_UPDATE completes; a report with another digest is reported and both
passes run again. R201: a write of NUMW_CTL turns the watch of a context on or off and reports it. -/
def Obligations.UpdatePasses : Prop :=
  ∀ (s : State),
    (∀ (h : CmdRef) (a : Word64), mayRun 0x33 h s = true → h.ctx < 256 → h.flags.getLsbD 2 = true → stepOpenSt s h.ctx = true → stepSt s h.ctx ≠ 3 →
      let c := h.ctx
      let d := readDesc s c a.toNat
      d.bad = [] →
      (d.detail ≠ 0 → leadsTo (.stepUpdate h a) s (fun t => replied h 0x0016 d.detail t = true ∧ onlyJournal s t)) ∧
      (∀ p, d.detail = 0 → (stepOf s c).plan = some p → p.bank0 = d.desc.bank0 → p.bank1 = d.desc.bank1 → leadsTo (.stepUpdate h a) s (fun t =>
        waitsOn h .update t = true ∧ t.mem = s.mem ∧ stepSt t c = 2 ∧ ∃ q, (stepOf t c).own = some q ∧ q.desc = d.desc ∧ q.step = stepNo s c ∧
          q.bank = 1 - (stepOf s c).standOwn ∧ q.ended = false))) ∧
    (∀ (c : Nat) (p : Pass), (stepOf s c).repairs = [] → p.ended = false →
      (let o := passRun s (ownEnv s c p) p.desc p.watch p.step
       (stepOf s c).own = some p → o.badStd = [] → o.badOther = [] → mirrored s c = false → leadsTo (.updatePassEnd c false) s (fun t =>
        (stepOf t c).own = some (p.done o) ∧ ∀ r, waiting s c .update r → answered t r 0x0000 (p.bank % 2 + 65536 * satTo 32 (svals o.kept).sum))) ∧
      (let o := passRun s (mirEnv s c p) p.desc p.watch p.step
       (stepOf s c).mir = some p → o.badStd = [] → leadsTo (.updatePassEnd c true) s (fun t => (stepOf t c).mir = some (p.done o) ∧
        OutMsg.vc7 "PASS_REPORT" ((stepOf s c).twin.getD 0x3FFF)
          [c, ownRoster s, p.step, o.digest, b2n (!(stepOf s c).mirBad && o.badOther.isEmpty)] ∈ t.io.outbox))) ∧
    (∀ (c : Nat) (p : Pass) (dig : Word64) (ok : Bool), (stepOf s c).own = some p → p.ended = true → mirrored s c = true → c < 256 →
      (dig.toNat = p.digest → ok = true → leadsTo (.mirrorPassReport c dig ok) s (fun t => t.mem = s.mem ∧ (stepOf t c).own = some p ∧
        ∀ r, waiting s c .update r → answered t r 0x0000 (p.bank % 2 + 2 + 65536 * satTo 32 p.kept))) ∧
      (dig.toNat ≠ p.digest → stepSt s c = 2 → leadsTo (.mirrorPassReport c dig ok) s (fun t =>
        (stepOf t c).own = some p.restart ∧ stepSt t c = 2 ∧ (∃ ev ∈ t.io.events, ev.code = 0x0A03 ∧ ev.ctx = c)))) ∧
    (∀ (c : Nat) (v : BitVec 32), c < 256 → notServed s 0 = false → rget s .numwCtl_enable c ≠ v.toNat % 2 →
      leadsTo (.numwCtl 0 c v) s (fun t => rget t .numwCtl_enable c = v.toNat % 2 ∧ t.mem = s.mem ∧
        (v.toNat / 65536 ≠ 0 → rget t .numwCtl_quietN c = v.toNat / 65536) ∧ (v.toNat / 65536 = 0 → rget t .numwCtl_quietN c = rget s .numwCtl_quietN c) ∧
        (∃ ev ∈ t.io.events, ev.code = 0x0804 ∧ ev.ctx = c)))

/-- R246, R248, R251: STEP_SEAL of the open step records the seal, sends it and answers with the state digest; STEP_COMMIT_WAIT of a committed step
answers with the commit sequence number and waits for another one; STEP_ABORT leaves the step ABORTED. -/
def Obligations.SealWaitAbort : Prop :=
  ∀ (h : CmdRef) (s : State) (step : Word64), h.ctx < 256 →
    let c := h.ctx
    let x := stepOf s c
    let done := rget s .stepCtxCommitted_step c
    (mayRun 0x34 h s = true → stepOpenSt s c = true → step.toNat = stepNo s c → stepSt s c ≠ 3 → (∀ p, x.own = some p → p.ended = true) →
      (∀ r ∈ s.ctl.journal, ¬(r.ctx = c ∧ r.state = .issued ∧ r.wait = .update)) → shardPending s c = false →
      leadsTo (.stepSeal h step) s (fun t => replied h 0x0000 (stateDigest x) t = true ∧ stepSt t c = 3 ∧ t.mem = s.mem ∧
        (∃ fl, (stepOf t c).sealed = some (step.toNat, rget s .stepCtxAttempt_attempt c, stateDigest x, fl)) ∧
        ∃ m ∈ t.io.outbox, ∃ l, m = .vc7 "SEAL" (mySteward s) (sliceId s :: ownRoster s :: c :: step.toNat :: l))) ∧
    (mayRun 0x35 h s = true →
      (step.toNat ≤ done → leadsTo (.stepCommitWait h step) s (fun t => replied h 0x0000 (commitSeq s c) t = true ∧ onlyJournal s t)) ∧
      (done < step.toNat → step.toNat < stepNo s c → leadsTo (.stepCommitWait h step) s (fun t => replied h 0x0032 0 t = true ∧ onlyJournal s t)) ∧
      (done < step.toNat → stepNo s c ≤ step.toNat → leadsTo (.stepCommitWait h step) s (fun t =>
        waitsOn h (.commitWait step.toNat) t = true ∧ onlyJournal s t))) ∧
    (mayRun 0x36 h s = true →
      (stepOpenSt s c = true → step.toNat = stepNo s c → leadsTo (.stepAbort h step) s (fun t => replied h 0x0000 0 t = true ∧ stepSt t c = 5 ∧
        rget t .stepCtxState_agreed c = 0 ∧ (stepOf t c).own = none ∧ (stepOf t c).xch = none ∧ (stepOf t c).sealed = none ∧
        .vc7 "STEP_ABORT" (mySteward s) [ownRoster s, c, step.toNat] ∈ t.io.outbox)) ∧
      (step.toNat ≠ stepNo s c → leadsTo (.stepAbort h step) s (fun t => replied h 0x0016 0 t = true ∧ onlyJournal s t)))

/-- R247: a seal that completes its slice at the primary is answered with COMMIT and the next commit sequence number; until then it is kept. R248: a
COMMIT that matches the seal flips the banks, moves the committed step and the commit sequence number on, and completes STEP_COMMIT_WAIT; one that
does not match is a hard fault. A steward answers a request for a commit record with the COMMIT it knows of, or with number 0. R226: lateness reports
of the own cohort are kept. -/
def Obligations.CommitRound : Prop :=
  ∀ (s : State),
    (∀ (slice : Nat) (m : SealMsg), isPrimary s = true → m.roster ∈ sliceSteppers s slice m.roster →
      let l := sliceSteppers s slice m.roster
      (allSealed (keepSeal slice m s) slice m l = true → leadsTo (.sealRecord slice m) s (fun t => t.mem = s.mem ∧
        sget? t.fab.sliceSeq slice = some (lastSeq s slice m.ctx + 1) ∧ (∀ y ∈ t.fab.seals, ¬(y.1 = slice ∧ y.2.ctx = m.ctx)) ∧
        ∃ i e b, .vc7 "COMMIT" i [m.ctx, m.step, m.attempt, lastSeq s slice m.ctx + 1, e, b] ∈ t.io.outbox)) ∧
      (allSealed (keepSeal slice m s) slice m l = false → leadsTo (.sealRecord slice m) s (fun t =>
        { t with fab := { t.fab with seals := s.fab.seals } } = s ∧ (slice, m) ∈ t.fab.seals))) ∧
    (∀ (c : Nat) (m : CommitMsg), c < 256 → m.seq ≠ 0 → m.seq < 2 ^ 64 → m.late = none → m.mark = false → isSteward s = false → s.fab.out = false → stepNo s c < 2 ^ 64 →
      (ctx? s c).isSome = true → rget s .stepCtxCommitted_step c < m.step →
      (commitMatches s c m = true → leadsTo (.commit c m) s (fun t => stepSt t c = 0 ∧ rget t .stepCtxCommitted_step c = stepNo s c ∧
        commitSeq t c = m.seq ∧ rget t .stepCtxState_rot c = 1 - rget s .stepCtxState_rot c ∧ (stepOf t c).sealed = none ∧ (stepOf t c).own = none ∧
        (stepOf t c).standOwn = (if (stepOf s c).own.elim false (·.ended) then 1 - (stepOf s c).standOwn else (stepOf s c).standOwn) ∧
        (∃ ev ∈ t.io.events, ev.code = 0x0A02 ∧ ev.ctx = c) ∧ ∀ r, waiting s c (.commitWait (stepNo s c)) r → answered t r 0x0000 m.seq)) ∧
      (commitMatches s c m = false → leadsTo (.commit c m) s (fun t => { t with io := { t.io with outbox := s.io.outbox } } = s ∧
        .vc7 "HARD_FAULT" (mySteward s) [ownRoster s, c, stepNo s c, 3] ∈ t.io.outbox))) ∧
    (∀ i c step att : Nat, leadsTo (.commitRecordRequest i c step att) s (fun t => { t with io := { t.io with outbox := s.io.outbox } } = s ∧
      ∃ n, .vc7 "COMMIT" i [c, step, att, n, rosterEpoch s] ∈ t.io.outbox ∧
        (∀ x, s.fab.commits.find? (fun x => x.1 == c && x.2.1 == step && x.2.2.1 == att) = some x → n = x.2.2.2) ∧
        ((∀ x ∈ s.fab.commits, ¬(x.1 = c ∧ x.2.1 = step ∧ x.2.2.1 = att)) → n = 0))) ∧
    (∀ m : LateMsg, isSteward s = true →
      (cohortOf s m.roster = rget s .cohortSelf_cohort 0 →
        leadsTo (.latenessReport m) s (fun t => t = { s with fab := { s.fab with late := s.fab.late ++ [m] } })) ∧
      (cohortOf s m.roster ≠ rget s .cohortSelf_cohort 0 → noEffect (.latenessReport m) s))

/-- R233, R234: MIRROR_BIND names a twin of the slice and waits for its bind; both sides bound, the context is mirrored; after 10 s without the match
it fails. MIRROR_RELEASE ends mirroring when no step is open. R235, R239: an input of the partner is stored in mirror_in and acknowledged, and the
acknowledgement completes INPUT_RETAIN. R245: a repaired line is stored, and one that the partner cannot give is WORK_LOST. R255: STRAGGLER_SET. -/
def Obligations.Mirroring : Prop :=
  ∀ (s : State),
    (∀ (h : CmdRef) (twin mib : BitVec 16) (p : Plan), mayRun 0x41 h s = true → stepOpenSt s h.ctx = false → readPlan s h.ctx = .ok p →
      (ctx? s h.ctx).elim 0 (·.journalMib) ≤ mib.toNat → (stepOf s h.ctx).peerBind = none →
      let c := h.ctx
      let w := twin.toNat
      (inRoster s w = true → w ≠ ownRoster s → inSlice s w = true → leadsTo (.mirrorBind h twin mib) s (fun t => waitsOn h .bind t = true ∧
        t.mem = s.mem ∧ (stepOf t c).bind = some (w, mib.toNat) ∧ (stepOf t c).twin = some w)) ∧
      (inRoster s w = true → w ≠ ownRoster s → inSlice s w = false → leadsTo (.mirrorBind h twin mib) s (fun t =>
        replied h 0x0016 0x04 t = true ∧ onlyJournal s t)) ∧
      (inRoster s w = false ∨ w = ownRoster s → leadsTo (.mirrorBind h twin mib) s (fun t => replied h 0x0016 0x05 t = true ∧ onlyJournal s t))) ∧
    (∀ h : CmdRef, mayRun 0x42 h s = true → h.ctx < 256 →
      (stepOpenSt s h.ctx = false → leadsTo (.mirrorRelease h) s (fun t => replied h 0x0000 0 t = true ∧ mirrored t h.ctx = false ∧
        (stepOf t h.ctx).twin = none ∧ t.mem = s.mem)) ∧
      (stepOpenSt s h.ctx = true → leadsTo (.mirrorRelease h) s (fun t => waitsOn h .release t = true ∧ onlyJournal s t))) ∧
    (∀ (c : Nat) (m : MirrorMsg) (k : Nat), c < 256 → (stepOf s c).twin = some m.sender →
      let x := stepOf s c
      (∀ p, m.kind = .input → x.plan = some p → x.inOff + m.data.length ≤ p.mirrorInBytes → plainAt s c true (p.mirrorIn + x.inOff) m.data.length k →
        leadsTo (.mirrorTransfer c m) s (fun t => storedAt s t k m.data ∧ x.inOff + m.data.length ≤ (stepOf t c).inOff ∧
          ∃ l, .data "MIRROR" m.sender (c :: MKind.inputAck.ctorIdx :: l) [] ∈ t.io.outbox)) ∧
      (m.kind = .inputAck → leadsTo (.mirrorTransfer c m) s (fun t => t.mem = s.mem ∧ ∀ r d, waiting s c (.retain m.addr d) r → answered t r 0x0000 d)) ∧
      (∀ b, m.kind = .copied → x.bind = some b → x.bankSent = true → leadsTo (.mirrorTransfer c m) s (fun t => mirrored t c = true ∧
        (stepOf t c).bind = none ∧ (stepOf t c).standMir = m.arg ∧ ∀ r, waiting s c .bind r → answered t r 0x0000 0)) ∧
      (m.kind = .release → leadsTo (.mirrorTransfer c m) s (fun t => mirrored t c = false ∧ (stepOf t c).twin = none ∧ t.mem = s.mem))) ∧
    (∀ (c : Nat) (a : Word64), a.toNat ∈ (stepOf s c).repairs →
      (∀ b k, plainAt s c true (a.toNat / 64 * 64) b.length k → leadsTo (.mirrorRepair c a (some b)) s (fun t => storedAt s t k b ∧
        a.toNat ∉ (stepOf t c).repairs)) ∧
      leadsTo (.mirrorRepair c a none) s (fun t => t.mem = s.mem ∧ a.toNat ∉ (stepOf t c).repairs ∧
        ∀ r, waiting s c .update r → answered t r 0x00E0 0)) ∧
    (∀ c : Nat, ((stepOf s c).bind = none → noEffect (.mirrorBindTimeout c) s) ∧
      (∀ b, (stepOf s c).bind = some b → leadsTo (.mirrorBindTimeout c) s (fun t => (stepOf t c).bind = none ∧ (stepOf t c).twin = none ∧
        t.regs = s.regs ∧ ∀ r, waiting s c .bind r → answered t r 0x0016 0x05))) ∧
    (∀ (h : CmdRef) (pct : BitVec 8) (n : BitVec 16), mayRun 0x43 h s = true → leadsTo (.stragglerSet h pct n) s (fun t =>
      replied h 0x0000 0 t = true ∧ t.mem = s.mem ∧ t.regs = s.regs ∧
      stepOf t h.ctx = { stepOf s h.ctx with pct := pct.toNat, runSteps := n.toNat } ∧
      .vc7 "STRAGGLER_SET" (mySteward s) [ownRoster s, h.ctx, pct.toNat, n.toNat] ∈ t.io.outbox))

/-! ### The exchange (ch. 9) -/

/-- R203 to R207, R223: EXCHANGE of a valid table starts its buckets, with an opening round for each, and waits; a table at fault is BAD_PARAM. Equal
shapes open a bucket; unequal ones end the command with BAD_PARAM 0x05. Equal results agree a bucket, whose digest is written to its descriptor; with
the last one EXCHANGE completes. A fault in the closing round aborts the attempt. -/
def Obligations.ExchangeRounds : Prop :=
  ∀ (s : State),
    (∀ (h : CmdRef) (a : Word64) (count : BitVec 32) (op : BitVec 8), mayRun 0x40 h s = true →
      let c := h.ctx
      let n := count.toNat
      (2 < op.toNat → leadsTo (.exchange h a count op) s (fun t => replied h 0x0016 0x03 t = true ∧ onlyJournal s t)) ∧
      (h.flags.getLsbD 2 = true → op.toNat ≤ 2 → n ≠ 0 → n ≤ 65536 → a.toNat % 64 = 0 →
        (stepOpenSt s c = false → leadsTo (.exchange h a count op) s (fun t => replied h 0x0031 0 t = true ∧ onlyJournal s t)) ∧
        (stepOpenSt s c = true → (stepOf s c).xch = none → tableBad s c a.toNat n = ([], []) →
          (∀ d, readBuckets s c op.toNat a.toNat n 0 [] = .error d →
            leadsTo (.exchange h a count op) s (fun t => replied h 0x0016 d t = true ∧ onlyJournal s t)) ∧
          (∀ bs, (stepOf s c).agreed = [] → readBuckets s c op.toNat a.toNat n 0 [] = .ok bs → leadsTo (.exchange h a count op) s (fun t =>
            waitsOn h (.exchange 0) t = true ∧ t.mem = s.mem ∧ (stepOf t c).xch = some ⟨h.q, h.seq.toNat, op.toNat, bs, 0, 0, 0, false⟩ ∧
            ∀ b ∈ bs, .vc7 "OPENING" 0x3FFF [c, stepNo s c, rget s .stepCtxAttempt_attempt c, b.id, ownRoster s, b.shape] ∈ t.io.outbox))))) ∧
    (∀ (c id diff : Nat) (mn mx : Word64) (e : Xch) (b : Bucket), (stepOf s c).xch = some e → bucket? s c id = some b → e.faulted = false →
      b.agreed = false → b.opened = false →
      (mn = mx → b.badLines s c e.op = [] → leadsTo (.openingRound c id mn mx diff) s (fun t => ∃ y, bucket? t c id = some y ∧ y.opened = true)) ∧
      (mn ≠ mx → leadsTo (.openingRound c id mn mx diff) s (fun t => (stepOf t c).xch = none ∧ t.mem = s.mem ∧
        (∃ ev ∈ t.io.events, ev.code = 0x0902 ∧ ev.ctx = c) ∧
        ∀ r ∈ s.ctl.journal, r.q = e.q → r.seq = e.seq → r.state = .issued → r.again = none → answered t r 0x0016 0x05))) ∧
    (∀ (c id k : Nat) (m : CloseMsg) (e : Xch) (b : Bucket), c < 256 → (stepOf s c).xch = some e → bucket? s c id = some b → e.faulted = false →
      b.agreed = false →
      (b.closing = true → m.members = b.group.length → m.fault = false → (e.op = 0 ∨ m.minDigest = m.maxDigest) → plainAt s c true (b.desc + 0x38) 8 k →
        ((∀ y ∈ e.buckets, y.id ≠ id → y.agreed = true) → leadsTo (.closingRound c id m) s (fun t => storedAt s t k (leBytes 8 b.digest) ∧
          (stepOf t c).xch = none ∧ rget t .stepCtxState_agreed c = 1 ∧
          ∀ r ∈ s.ctl.journal, r.q = e.q → r.seq = e.seq → r.state = .issued → r.again = none →
            answered t r 0x0000 (satTo 16 e.retries + 2 ^ 16 * satTo 16 e.dups + 2 ^ 32 * satTo 32 e.zeroed))) ∧
        ((∃ y ∈ e.buckets, y.id ≠ id ∧ y.agreed = false) → leadsTo (.closingRound c id m) s (fun t => storedAt s t k (leBytes 8 b.digest) ∧
          ∃ y, bucket? t c id = some y ∧ y.agreed = true))) ∧
      (m.fault = true → stepOpenSt s c = true → rget s .stepCtxAttempt_attempt c + 1 < 2 ^ 32 → leadsTo (.closingRound c id m) s (fun t =>
        stepSt t c = 4 ∧ rget t .stepCtxAttempt_attempt c = rget s .stepCtxAttempt_attempt c + 1 ∧ (stepOf t c).xch = none ∧
        (∃ ev ∈ t.io.events, ev.code = 0x0901 ∧ ev.ctx = c))))

/-- R218, R219, R221, R209, R400: a chunk of another generation, or of an earlier step, attempt or epoch, is discarded and counted; one whose digest
does not match is asked for once more; one of an opened bucket takes its place, a second of the same key is counted, and the last contribution to the
own part sums it in the tree of the members and writes it; one that comes early is kept. A chunk asked for again is sent again. -/
def Obligations.ExchangeChunks : Prop :=
  ∀ (s : State) (m : ChunkMsg) (e : Xch) (b : Bucket), (stepOf s m.ctx).xch = some e → bucket? s m.ctx m.bucket = some b →
    let c := m.ctx
    let att := rget s .stepCtxAttempt_attempt c
    let key := (m.part, m.source, m.index)
    (genStale s m.sender c m.gen = true → ∀ f, leadsTo (.exchangeChunk m f) s (fun t => t.st = s.st ∧ t.mem = s.mem ∧
      (rget s .vigilStaleDropCount_count 0 < 2 ^ 32 - 1 → rget t .vigilStaleDropCount_count 0 = rget s .vigilStaleDropCount_count 0 + 1))) ∧
    (genStale s m.sender c m.gen = false →
      (BitVec.ofNat 64 (runDigest m.payload) ≠ m.digest → key ∉ b.failed → ∀ f, leadsTo (.exchangeChunk m f) s (fun t => t.mem = s.mem ∧
        (∃ y, (stepOf t c).xch = some y ∧ y.retries = e.retries + 1) ∧ (∃ y, bucket? t c m.bucket = some y ∧ y.got = b.got ∧ key ∈ y.failed) ∧
        .vc7 "CHUNK_RESEND" m.sender [c, m.bucket, m.part, m.source, m.index] ∈ t.io.outbox)) ∧
      (BitVec.ofNat 64 (runDigest m.payload) = m.digest →
        ((m.epoch < rosterEpoch s ∨ m.step < stepNo s c ∨ (m.step = stepNo s c ∧ m.attempt < att)) →
          ∀ f, leadsTo (.exchangeChunk m f) s (fun t => t.st = s.st ∧ t.mem = s.mem)) ∧
        (rosterEpoch s ≤ m.epoch → (stepNo s c < m.step ∨ (m.step = stepNo s c ∧ att < m.attempt) ∨ (m.step = stepNo s c ∧ m.attempt = att ∧ b.opened = false)) →
          ∀ f, leadsTo (.exchangeChunk m f) s (fun t => t.mem = s.mem ∧ stepOf t c = { stepOf s c with staged := (stepOf s c).staged ++ [m] })) ∧
        (rosterEpoch s ≤ m.epoch → m.step = stepNo s c → m.attempt = att → b.opened = true →
          ((∃ y ∈ b.got, (y.1, y.2.1, y.2.2.1) = key) → leadsTo (.exchangeChunk m false) s (fun t => t.mem = s.mem ∧
            bucket? t c m.bucket = some b ∧ ∃ y, (stepOf t c).xch = some y ∧ y.dups = e.dups + 1)) ∧
          ((∀ y ∈ b.got, (y.1, y.2.1, y.2.2.1) ≠ key) → b.agreed = false →
            leadsTo (.exchangeChunk m false) s (fun t => ∃ y, bucket? t c m.bucket = some y ∧ y.got = b.got ++ [(m.part, m.source, m.index, m.payload)]) ∧
            (∀ ps k, e.op = 0 → b.closing = false → b.summed = false →
              ({ b with got := b.got ++ [(m.part, m.source, m.index, m.payload)] } : Bucket).leaves s c = some ps →
              let r := wordsTo b.outFmt (b.sumPart (stepNo s c) (b.me s) ps)
              plainAt s c true b.dst r.length k → leadsTo (.exchangeChunk m false) s (fun t => storedAt s t k r ∧
                ∃ y, bucket? t c m.bucket = some y ∧ y.summed = true ∧ y.closing = true)))))) ∧
    (∀ j idx, b.opened = true → e.op ≠ 1 → j ≠ b.me s →
      let x := b.encode ((b.parts (b.offer s c)).getD j [])
      let piece := (chunksOf 65536 (x.length / 65536 + 1) x).getD idx []
      leadsTo (.chunkResendRequest c m.bucket j (b.me s) idx) s (fun t => t.mem = s.mem ∧ t.st = s.st ∧
        ∃ l, .data "CHUNK" (b.group.getD j 0) (c :: genOf s c :: l) piece ∈ t.io.outbox)) ∧
    (∀ j idx src, src ≠ b.me s → noEffect (.chunkResendRequest c m.bucket j src idx) s)

/-! ### Links and the fabric (ch. 11) -/

/-- R273, R272, R267, R286: a port that trains is up at its width, with its credits and no outcome, and sends a beacon; a link that goes down, or is
held down, is up no more, its outcome is 8 and what was queued on it is gone; a planned port that did not train is missing. R275: a beacon fills the
peer's registers and decides the outcome. R269, R270: a failing lane is taken out and asks for SPARE or a smaller width, and with too few good lanes
the link goes down; a SPARE maps the lane onto the leap lane, a WIDTH changes the width, and a lane that stayed clean returns. R335, R339: the leap
lane of a die bridge's group serves one lane; a second one is disabled; a clean lane returns. -/
def Obligations.LinksAndLanes : Prop :=
  (∀ (s : State) (p : Nat), p < 32 →
    let event := fun (t : State) (code : Nat) => ∃ ev ∈ t.io.events, ev.code = code ∧ ev.ring = 0 ∧ ev.detail % 256 = p
    (∀ w, w = 8 ∨ w = 4 ∨ w = 2 → rget s .mcStatus_phase 0 = 1 → portUp s p = false → rget s .linkPortCtl_holdDown p = 0 →
      leadsTo (.linkTrained p w) s (fun t => portUp t p = true ∧ rget t .linkPortState_width p = w ∧ rget t .linkPortState_spared p = 15 ∧
        rget t .linkPortState_outcome p = 0 ∧ (∀ vc, vc < 8 → creditOf (portOf t p) vc = 1024) ∧ (portOf t p).beacon = none ∧ event t 0x0B01 ∧
        (∀ q, q ≠ p → portOf t q = portOf s q) ∧ ∃ l, .link p "BEACON" (1 :: 1 :: p :: l) ∈ t.io.outbox)) ∧
    (∀ cause, 1 ≤ cause → cause ≤ 4 → portUp s p = true → leadsTo (.linkDown p cause) s (fun t => portUp t p = false ∧
      rget t .linkPortState_outcome p = 8 ∧ rget t .linkPortState_width p = 0 ∧ (portOf t p).out = [] ∧ (portOf t p).unack = [] ∧ event t 0x0B01 ∧
      rget t .linkPortState_state p = (if rget s .linkPortCtl_holdDown p = 1 then 0 else 1))) ∧
    (portUp s p = false → noEffect (.linkDown p 1) s ∧ noEffect (.beaconSend p) s ∧ ∀ b, noEffect (.identityBeacon p b) s) ∧
    ((portOf s p).planned = true → portUp s p = false → leadsTo (.portMissing p) s (fun t => rget t .linkPortState_outcome p = 6 ∧
      (rget s .linkPortState_outcome p ≠ 6 → event t 0x0B02))) ∧
    (portUp s p = true → leadsTo (.beaconSend p) s (fun t => { t with io := { t.io with outbox := s.io.outbox } } = s ∧
      .link p "BEACON" [1, 1, p, 2, rget s .linkEpoch_min 0, rget s .linkEpoch_max 0, serialDigest, s.fab.trayId, ownStraps s, matchField s p,
        rosterField s, rget s .linkPlanDigest_digest 0, rget s .linkPlan_generation 0] ∈ t.io.outbox)) ∧
    (∀ b, portUp s p = true → leadsTo (.identityBeacon p b) s (fun t => rget t .linkPortState_outcome p = outcomeFor s p b ∧
      (portOf t p).beacon = some b ∧ rget t .linkPortPeer_trayId p = b.trayId.toNat ∧ rget t .linkPortPeer_roster p = b.roster.toNat ∧
      rget t .linkPortPeer_straps p = b.straps.toNat ∧ rget t .linkPortPeerSerial_digest p = b.serialDigest.toNat)) ∧
    (∀ v : BitVec 32, notServed s 0 = false →
      (v.getLsbD 0 = true → rget s .linkPortCtl_holdDown p = 0 → leadsTo (.linkPortCtl 0 p v) s (fun t => rget t .linkPortCtl_holdDown p = 1 ∧
        portUp t p = false ∧ rget t .linkPortState_state p = 0 ∧ event t 0x0B01)) ∧
      (v.getLsbD 0 = false → rget s .linkPortCtl_holdDown p = 1 → leadsTo (.linkPortCtl 0 p v) s (fun t => rget t .linkPortCtl_holdDown p = 0 ∧
        rget t .linkPortState_state p = 1 ∧ t.io.events = s.io.events)))) ∧
  ((∀ (s : State) (p lane : Nat), p < 32 → portUp s p = true →
    let x := portOf s p
    let w := widthFor (9 - (x.badLanes.length + 1))
    (∀ cause, lane < 9 → lane ∉ x.badLanes → cause = 1 ∨ cause = 2 →
      (w = 0 → leadsTo (.laneFailing p lane cause) s (fun t => portUp t p = false)) ∧
      (w ≠ 0 → leadsTo (.laneFailing p lane cause) s (fun t => (portOf t p).badLanes = x.badLanes ++ [lane] ∧ t.regs = s.regs ∧
        (w = 8 → rget s .linkPortState_width p = 8 → lane < 8 → .link p "SPARE" [lane] ∈ t.io.outbox) ∧
        (w ≠ rget s .linkPortState_width p → .link p "WIDTH" [w] ∈ t.io.outbox)))) ∧
    (lane < 8 → rget s .linkPortState_spared p = 15 → 8 ∉ x.badLanes → leadsTo (.spare p lane) s (fun t => rget t .linkPortState_spared p = lane ∧
      lane ∈ (portOf t p).badLanes ∧ rget t .linkStatus_spareSeen 0 = 1 ∧ rget t .linkPortState_width p = rget s .linkPortState_width p ∧
      (∃ ev ∈ t.io.events, ev.code = 0x0B01) ∧ ∃ ev ∈ t.io.events, ev.code = 0x0E01)) ∧
    (∀ n, n = 8 ∨ n = 4 ∨ n = 2 → n ≠ rget s .linkPortState_width p → leadsTo (.width p n) s (fun t => rget t .linkPortState_width p = n ∧
      (n < 8 → rget t .linkPortState_spared p = 15) ∧ (portOf t p).badLanes = x.badLanes ∧ ∃ ev ∈ t.io.events, ev.code = 0x0B01)) ∧
    (lane ∈ x.badLanes →
      leadsTo (.laneRetrain p lane false) s (fun t => lane ∈ (portOf t p).trying ∧ (portOf t p).badLanes = x.badLanes ∧ t.regs = s.regs) ∧
      (lane ∈ x.trying → leadsTo (.laneRetrain p lane true) s (fun t => lane ∉ (portOf t p).badLanes ∧
        (rget s .linkPortState_spared p = lane → rget t .linkPortState_spared p = 15))))) ∧
  (∀ (s : State) (b lane : Nat), b < 32 → lane < 128 →
    let k := groupKey b lane
    (sget? s.sp.bridgeLanes k = none → b * 128 + lane ∉ s.sp.bridgeOff → leadsTo (.bridgeLaneSpare b lane) s (fun t =>
      sget? t.sp.bridgeLanes k = some lane ∧ t.sp.bridgeOff = s.sp.bridgeOff ∧ ∃ ev ∈ t.io.events, ev.code = 0x0E01)) ∧
    (∀ o, sget? s.sp.bridgeLanes k = some o → o ≠ lane → b * 128 + lane ∉ s.sp.bridgeOff → leadsTo (.bridgeLaneSpare b lane) s (fun t =>
      t.sp.bridgeLanes = s.sp.bridgeLanes ∧ t.sp.bridgeOff = s.sp.bridgeOff ++ [b * 128 + lane] ∧ ∃ ev ∈ t.io.events, ev.code = 0x0E01)) ∧
    (sget? s.sp.bridgeLanes k = some lane → leadsTo (.bridgeLaneRetrain b lane true) s (fun t => sget? t.sp.bridgeLanes k = none ∧
      ∃ ev ∈ t.io.events, ev.code = 0x0E01)) ∧
    (sget? s.sp.bridgeLanes k ≠ some lane → b * 128 + lane ∈ s.sp.bridgeOff → leadsTo (.bridgeLaneRetrain b lane true) s (fun t =>
      b * 128 + lane ∉ t.sp.bridgeOff))))

/-- R265, R266: a flit with a bad CRC, or one that could not be corrected, is answered with a nak, once; a good one in order is taken and
acknowledged, and returns its credit. R282: a packet from a port that its slice may not use is dropped and counted; one for this module is delivered;
one that has no hops left is dropped; another one is queued on a candidate port with one hop less. -/
def Obligations.FlitsAndPackets : Prop :=
  ∀ (s : State) (p : Nat), p < 32 → portUp s p = true →
    let x := portOf s p
    (∀ flit, flitOk flit = false → x.nakOut = false → leadsTo (.flitReceive p flit 0 false) s (fun t => (portOf t p).nakOut = true ∧
      (portOf t p).rx = x.rx ∧ t.regs = s.regs ∧ .link p "NAK" [(x.rx + 4095) % 4096] ∈ t.io.outbox)) ∧
    (∀ flit, x.nakOut = true → flitOk flit = false → leadsTo (.flitReceive p flit 0 false) s (fun t => t = s)) ∧
    (∀ flit, rget s .linkPortUncorrCount_count p < 2 ^ 32 - 1 → leadsTo (.flitReceive p flit 0 true) s (fun t => (portOf t p).nakOut = true ∧
      (portOf t p).rx = x.rx ∧ rget t .linkPortUncorrCount_count p = rget s .linkPortUncorrCount_count p + 1)) ∧
    (∀ flit, flitOk flit = true → x.naks < 8 →
      let hdr := leNat (flit.take 8)
      bit hdr 29 = false → bit hdr 30 = false → bits hdr 60 4 ≠ 0 →
      (bits hdr 43 12 = x.rx % 4096 → leadsTo (.flitReceive p flit 0 false) s (fun t => (portOf t p).rx = x.rx + 1 ∧ (portOf t p).nakOut = false ∧
        .link p "ACK" [bits hdr 43 12, bits hdr 57 3, 1] ∈ t.io.outbox)) ∧
      (bits hdr 43 12 ≠ x.rx % 4096 → leadsTo (.flitReceive p flit 0 false) s (fun t => (portOf t p).rx = x.rx ∧ (portOf t p).nakOut = true))) ∧
    (∀ (vc : Nat) (h : RouteHdr) (b : List Byte), vc < 8 → vc ≠ 5 → vc ≠ 6 → carries s p = true →
      (permit s p h.slice = false → rget s .linkPortSliceDropCount_count p < 2 ^ 32 - 1 → leadsTo (.packetForward p vc h b) s (fun t =>
        rget t .linkPortSliceDropCount_count p = rget s .linkPortSliceDropCount_count p + 1 ∧ t.fab = s.fab ∧ rget t .linkStatus_dropSeen 0 = 1)) ∧
      (permit s p h.slice = true → (routeOf s h.dest).testBit 1 = true → leadsTo (.packetForward p vc h b) s (fun t => t.fab = s.fab ∧
        ∃ m ∈ t.io.outbox, m = .data "DELIVER" h.dest [vc, h.src, h.slice, h.ctx, h.gen, h.epoch, h.kind] b)) ∧
      (permit s p h.slice = true → (routeOf s h.dest).testBit 1 = false → h.hops = 0 → rget s .linkPortOtherDropCount_count p < 2 ^ 32 - 1 →
        leadsTo (.packetForward p vc h b) s (fun t => rget t .linkPortOtherDropCount_count p = rget s .linkPortOtherDropCount_count p + 1 ∧
          t.fab = s.fab)) ∧
      (permit s p h.slice = true → (routeOf s h.dest).testBit 1 = false → (routeOf s h.dest).testBit 0 = true → h.hops ≠ 0 → vc = 0 ∨ vc = 4 →
        candidates s h.dest h.slice ≠ [] →
        let e := choosePort s p vc h (candidates s h.dest h.slice)
        e ∈ candidates s h.dest h.slice ∧ (creditOf (portOf s e) vc = 0 → leadsTo (.packetForward p vc h b) s (fun t =>
          (⟨vc, { h with hops := h.hops - 1 }, b, h.flits⟩ : OutPkt) ∈ (portOf t e).out))))

/-- R274: PLAN_LOAD of a plan without a fault puts it into force; the first fault's offset is the detail else. R277, R279: SLICE_DEFINE takes a
definition and the slice forms where enough of its members are ready; a removal removes it. R283, R284: ROUTE_WRITE puts its routes into force once
its roster epoch is reached and waits until then. R306: the fabric manager's deliveries do the same. -/
def Obligations.FabricTables : Prop :=
  ∀ (s : State),
    (∀ (h : CmdRef) (n : BitVec 32) (a : Word64), mayRun 0x83 h s = true → h.ctx = 0 →
      (n.toNat ≠ 576 → leadsTo (.planLoad h n a) s (fun t => replied h 0x0016 0x20 t = true ∧ onlyJournal s t)) ∧
      (∀ k, n.toNat = 576 → plainAt s 0 false a.toNat 576 k →
        let b := sgetN 0 s.mem.bytes k 576
        (planBad s b = [] → leadsTo (.planLoad h n a) s (fun t => replied h 0x0000 0 t = true ∧ t.mem = s.mem ∧
          rget t .linkPlan_generation 0 = fld b 8 4 ∧ rget t .linkPlanDigest_digest 0 = fld b 0x10 8 ∧ t.fab.planned = true ∧
          ∀ p, p < 32 → (portOf t p).planned = (fld b (0x40 + 16 * p) 1 == 1) ∧ (portOf t p).peerPort = fld b (0x41 + 16 * p) 1)) ∧
        (∀ o l, planBad s b = o :: l → leadsTo (.planLoad h n a) s (fun t => replied h 0x0016 (0x20 + 256 * l.foldl Nat.min o) t = true ∧
          t.fab = s.fab ∧ t.regs = s.regs)))) ∧
    (∀ (h : CmdRef) (id : BitVec 16) (a : Word64) (k : Nat), mayRun 0x81 h s = true → h.ctx = 0 →
      let n := fld (peek s 0 a.toNat 16).bytes 8 2
      let len := (16 + 2 * n + 63) / 64 * 64
      let b := sgetN 0 s.mem.bytes k len
      let i := id.toNat
      plainAt s 0 false a.toNat len k →
      (sliceOk b = false ∨ fld b 0 2 ≠ i → leadsTo (.sliceDefine h id a) s (fun t => replied h 0x0016 0x21 t = true ∧ t.fab = s.fab)) ∧
      (sliceOk b = true → fld b 0 2 = i → fld b 3 1 = 1 → leadsTo (.sliceDefine h id a) s (fun t => replied h 0x0000 0 t = true ∧
        sget? t.fab.slices i = none)) ∧
      (sliceOk b = true → fld b 0 2 = i → fld b 3 1 = 0 → s.fab.slices.length < 64 ∨ (sget? s.fab.slices i).isSome →
        leadsTo (.sliceDefine h id a) s (fun t => replied h 0x0000 (formSlice i (mkSlice b) s).2 t = true ∧ ∃ d, sget? t.fab.slices i = some d ∧
          d.members = vals 2 ((b.drop 16).take (2 * n)) ∧ d.minMembers = fld b 6 2 ∧ d.minEpoch = fld b 4 2 ∧
          (d.formed = true ↔ d.minMembers ≤ (d.members.filter (fun j => reachable s i (mkSlice b) j)).length)))) ∧
    (∀ (h : CmdRef) (n : BitVec 32) (a : Word64) (k : Nat), mayRun 0x82 h s = true → h.ctx = 0 → plainAt s 0 false a.toNat (16 * n.toNat) k →
      let T := entries 16 n.toNat (sgetN 0 s.mem.bytes k (16 * n.toNat))
      let epoch := fld (T.headD []) 8 8
      let routes := (mkGrants h.q h.seq.toNat T).routes.foldl (fun m r => sset 0 m r.1 (r.2.2 + 4 * r.2.1)) s.fab.routes
      (∀ i, routeBad T = some i → leadsTo (.routeWrite h n a) s (fun t => replied h 0x0016 (0x22 + 256 * i) t = true ∧ t.fab = s.fab)) ∧
      (routeBad T = none → s.fab.waiting = [] → epoch ≤ rosterEpoch s → leadsTo (.routeWrite h n a) s (fun t =>
        replied h 0x0000 0 t = true ∧ t.fab.routes = routes ∧ t.mem = s.mem)) ∧
      (routeBad T = none → s.fab.waiting = [] → rosterEpoch s < epoch → leadsTo (.routeWrite h n a) s (fun t =>
        waitsOn h (.epoch epoch) t = true ∧ t.fab.routes = s.fab.routes))) ∧
    (∀ b : List Byte,
      (b.length = 576 → planBad s b = [] → leadsTo (.fabricManagerDelivery 0 b 0) s (fun t => rget t .linkPlan_generation 0 = fld b 8 4 ∧
        t.fab.planned = true)) ∧
      (∀ i, sliceOk b = true → fld b 0 2 = i → fld b 3 1 = 1 → leadsTo (.fabricManagerDelivery 1 b i) s (fun t => sget? t.fab.slices i = none)) ∧
      (routeBad (entries 16 (b.length / 16) b) ≠ none → noEffect (.fabricManagerDelivery 2 b 0) s))

/-! ### Cohorts (ch. 12) -/

/-- R290: a roster that follows the one in force is applied: its epoch and its entries are in force; an older one is ignored; a gap asks for the full
roster. R289, R291: ROSTER_JOIN announces the module and waits; the lowest-ranked joined module issues epoch 1, which lists it and completes its
ROSTER_JOIN; the primary admits a module that announces itself. R296, R294: the primary grants an epoch to a decision; the primary's deputy takes its
role with a majority of the stewards. -/
def Obligations.RostersAndJoining : Prop :=
  ∀ (s : State),
    (∀ m : RosterMsg, m.epoch < 2 ^ 64 → m.decision ≠ 1 →
      (m.epoch ≤ rosterEpoch s → noEffect (.roster m) s) ∧
      (rosterEpoch s < m.epoch → m.full = true ∨ m.prev = rosterEpoch s → (m.changes.map Prod.fst).Nodup → leadsTo (.roster m) s (fun t =>
        rosterEpoch t = m.epoch ∧ (∀ c ∈ m.changes, c.1 < 16384 → rosterEntry t c.1 = c.2.toNat) ∧
        (∀ i, i < 16384 → i ∉ m.changes.map Prod.fst → rosterEntry t i = if m.full = true then 0 else rosterEntry s i) ∧
        ∃ ev ∈ t.io.events, ev.code = 0x0C02 ∧ ev.ring = 0)) ∧
      (rosterEpoch s < m.epoch → m.full = false → m.prev ≠ rosterEpoch s → s.fab.gap = false → leadsTo (.roster m) s (fun t => t.regs = s.regs ∧
        t.fab.gap = true ∧ .vc7 "FULL_ROSTER_REQUEST" (mySteward s) [rosterField s, rosterEpoch s] ∈ t.io.outbox))) ∧
    (∀ (h : CmdRef) (r : BitVec 16) (co role : BitVec 8), mayRun 0x84 h s = true → h.ctx = 0 →
      let i := r.toNat
      (i < 16384 → inRoster s i = false → ((rosterList s).filter (fun x => inRoster s x.1 && entryCohort x.2 == co.toNat)).length < 64 → role.toNat ≤ 1 →
        hasPosition s = false → s.fab.joining = none → leadsTo (.rosterJoin h r co role) s (fun t => waitsOn h .joined t = true ∧ t.regs = s.regs ∧
          t.fab.joining = some (i, co.toNat, role.toNat) ∧ ∀ p, portUp s p = true → .link p "JOIN" [i, co.toNat, role.toNat] ∈ t.io.outbox)) ∧
      (16384 ≤ i → leadsTo (.rosterJoin h r co role) s (fun t => replied h 0x0016 0x30 t = true ∧ onlyJournal s t))) ∧
    (∀ i co role : Nat, s.fab.joining = some (i, co, role) → i < 16384 → co < 256 → role ≤ 1 → rosterEpoch s = 0 → rosterList s = [] → hasPosition s = false →
      (∀ b ∈ s.fab.announced, ranksLower b (i, co, role) = false ∧ b.1 < 16384 ∧ b.2.2 ≤ 1) → leadsTo .epochOneIssue s (fun t => rosterEpoch t = 1 ∧
        entrySt (rosterEntry t i) = role + 1 ∧ cohortOf t i = co ∧ ownRoster t = i ∧ hasPosition t = true ∧ t.fab.joining = none ∧
        ∀ r ∈ s.ctl.journal, r.state = .issued → r.wait = .joined → r.again = none → answered t r 0x0000 1)) ∧
    (s.fab.joining = none → noEffect .epochOneIssue s) ∧
    (∀ i co role : Nat, role ≤ 1 → i < 16384 → co < 256 →
      (isPrimary s = true → joinFree s i co = true → rosterEpoch s + 1 < 2 ^ 64 → leadsTo (.joinAnnouncement i co role) s (fun t =>
        rosterEpoch t = rosterEpoch s + 1 ∧ entrySt (rosterEntry t i) = role + 1 ∧ cohortOf t i = co)) ∧
      (isPrimary s = false → inRoster s i = false → (i, co, role) ∉ s.fab.announced → leadsTo (.joinAnnouncement i co role) s (fun t =>
        t.fab = { s.fab with announced := s.fab.announced ++ [(i, co, role)] } ∧ ∀ p, portUp s p = true → .link p "JOIN" [i, co, role] ∈ t.io.outbox))) ∧
    (∀ i epoch : Nat, hasPosition s = true → rosterEpoch s < epoch → s.fab.gap = false → leadsTo (.rosterNotice false i epoch) s (fun t =>
      t.fab.gap = true ∧ .vc7 "FULL_ROSTER_REQUEST" (mySteward s) [rosterField s, rosterEpoch s] ∈ t.io.outbox)) ∧
    (∀ i epoch : Nat, epoch ≤ rosterEpoch s → noEffect (.rosterNotice false i epoch) s) ∧
    (∀ i : Nat, (isSteward s = true → leadsTo (.fullRosterRequest i) s (fun t => { t with io := { t.io with outbox := s.io.outbox } } = s ∧
        .vc7 "ROSTER_FULL" i (rosterEpoch s :: (rosterList s).flatMap (fun x => [x.1, x.2])) ∈ t.io.outbox)) ∧
      (isSteward s = false → noEffect (.fullRosterRequest i) s)) ∧
    (∀ (co i : Nat) (w : Bool), (isPrimary s = false → noEffect (.epochRequest co 2 [i] w) s) ∧
      (isPrimary s = true → inRoster s i = true → i < 16384 → rosterEpoch s + 1 < 2 ^ 64 → leadsTo (.epochRequest co 2 [i] w) s (fun t =>
        rosterEpoch t = rosterEpoch s + 1 ∧ entrySt (rosterEntry t i) = 5))) ∧
    (∀ n : Nat, let p := primaryOf s
      hasPosition s = true → p ≠ ownRoster s → p ≠ 0x3FFF → suspects s p = true → (rosterEntry s p).testBit 3 = true →
      (deputyOf s (cohortOf s p) = ownRoster s → stewards s < 2 * n → inRoster s p = true → rosterEpoch s + 1 < 2 ^ 64 →
        leadsTo (.primaryTakeover n) s (fun t => rosterEpoch t = rosterEpoch s + 1)) ∧
      (isSteward s = true → deputyOf s (cohortOf s p) ≠ ownRoster s → leadsTo (.primaryTakeover n) s (fun t => t.fab = s.fab ∧
        rget t .cohortStatus_primaryLostSeen 0 = 1 ∧ ∃ ev ∈ t.io.events, ev.code = 0x0C06 ∧ ev.ring = 0)))

/-- R295 to R297: a token goes out on a trained port; one that arrives clears the suspicion of its sender; silence makes the peer suspect and reports
it. R296, R298: a report starts gathering, an answered probe ends it without a decision, and an unanswered one asks the primary for an epoch. R297,
R424, R242, R305: reset notices, departures and hard faults. R302: the health score. -/
def Obligations.LivenessAndDecisions : Prop :=
  ∀ (s : State),
    (∀ p, portUp s p = true → rget s .mcStatus_ready 0 ≠ 0 → leadsTo (.livenessTokenSend p) s (fun t => t.regs = s.regs ∧
      (portOf t p).sent = (portOf s p).sent + 1 ∧ ∃ fl, .link p "TOKEN" [2, 1, fl, rget s .cohortSelf_cohort 0, rosterField s,
        rget s .cohortHealth_score 0, rosterEpoch s, (portOf s p).sent % 2 ^ 32] ∈ t.io.outbox)) ∧
    (∀ (p : Nat) (k : LiveToken), portUp s p = true → k.roster.toNat < 16384 → k.flags.getLsbD 0 = true ∨ entrySt (rosterEntry s k.roster.toNat) ≠ 5 →
      leadsTo (.livenessToken p k) s (fun t => (portOf t p).suspect = false ∧ (portOf t p).token = k.seq.toNat ∧
        rget t .linkPortPeer_roster p = k.roster.toNat ∧ sget? t.fab.scores k.roster.toNat = some k.health ∧
        (∀ x ∈ t.fab.suspicions, x.suspect = k.roster.toNat → x.answered = true) ∧
        (rosterEpoch s < k.epoch → k.flags.getLsbD 3 = false → t.fab.gap = true))) ∧
    (∀ p, let i := rget s .linkPortPeer_roster p
      portUp s p = true → (portOf s p).suspect = false → hasPosition s = true → inRoster s i = true → leadsTo (.tokenSilence p) s (fun t =>
        (portOf t p).suspect = true ∧ (∃ ev ∈ t.io.events, ev.code = 0x0C01 ∧ ev.ring = 0) ∧
        (suspicionTo s i ≠ ownRoster s → .vc7 "SUSPICION" (suspicionTo s i) [ownRoster s, i, p, 1, rosterEpoch s] ∈ t.io.outbox))) ∧
    (∀ p, portUp s p = false → noEffect (.tokenSilence p) s ∧ noEffect (.livenessTokenSend p) s) ∧
    (∀ r i p cause epoch : Nat, hasPosition s = true → suspicionTo s i = ownRoster s → inRoster s i = true → 1 ≤ cause → cause ≤ 3 →
      (epoch ≤ rosterEpoch s → leadsTo (.suspicionReport r i p cause epoch) s (fun t => t.regs = s.regs ∧
        ∃ x ∈ t.fab.suspicions, x.suspect = i ∧ (r, p) ∈ x.reports)) ∧
      (rosterEpoch s < epoch → noEffect (.suspicionReport r i p cause epoch) s)) ∧
    (∀ i : Nat, leadsTo (.probe i) s (fun t => { t with io := { t.io with outbox := s.io.outbox } } = s ∧
        .vc7 "PROBE_ANSWER" i [ownRoster s, rosterEpoch s] ∈ t.io.outbox) ∧
      leadsTo (.probeAnswer i) s (fun t => { t with fab := { t.fab with suspicions := s.fab.suspicions } } = s ∧
        ∀ x ∈ t.fab.suspicions, x.suspect = i → x.answered = true)) ∧
    (∀ i epoch ms : Nat, inRoster s i = true → epoch ≤ rosterEpoch s → leadsTo (.resetNotice i epoch ms) s (fun t => (i, ms) ∈ t.fab.notices ∧
      t.regs = s.regs)) ∧
    (∀ i : Nat, (noticed s i = true → leadsTo (.resetNoticeExpiry i) s (fun t => noticed t i = false ∧ ∃ x ∈ t.fab.suspicions, x.suspect = i)) ∧
      (noticed s i = false → noEffect (.resetNoticeExpiry i) s)) ∧
    (∀ (i cause : Nat) (x : Suspicion), hasPosition s = true → 1 ≤ cause → cause ≤ 3 → s.fab.suspicions.find? (fun x => x.suspect == i) = some x →
      (x.answered = true → leadsTo (.stewardDecision i cause) s (fun t => t.regs = s.regs ∧ t.io = s.io ∧ ∀ y ∈ t.fab.suspicions, y.suspect ≠ i)) ∧
      (x.answered = false → inRoster s i = true → noticed s i = false → isPrimary s = false → leadsTo (.stewardDecision i cause) s (fun t =>
        (∀ y ∈ t.fab.suspicions, y.suspect ≠ i) ∧ ∃ l, .vc7 "EPOCH_REQUEST" (primaryOf s) (cohortOf s i :: 3 :: 1 :: i :: l) ∈ t.io.outbox))) ∧
    (∀ i epoch : Nat, hasPosition s = true → suspicionTo s i = ownRoster s → inRoster s i = true → epoch ≤ rosterEpoch s → isPrimary s = false →
      leadsTo (.departureNotice i epoch) s (fun t => .vc7 "EPOCH_REQUEST" (primaryOf s) [cohortOf s i, 3, 1, i] ∈ t.io.outbox)) ∧
    (∀ i c : Nat, isSteward s = true → inRoster s i = true → isPrimary s = false → leadsTo (.hardFaultReport i c 1) s (fun t =>
      .vc7 "EPOCH_REQUEST" (primaryOf s) [cohortOf s i, 4, 1, i] ∈ t.io.outbox ∧
      (hasPosition s = true → i = ownRoster s → rget t .cohortHealth_hard 0 = 1 ∧ rget t .cohortHealth_score 0 = 0))) ∧
    leadsTo .healthScore s (fun t => t.mem = s.mem ∧ t.io = s.io ∧
      rget t .cohortHealth_score 0 = (if rget s .cohortHealth_hard 0 = 1 then 0 else 1000 - (penalties s).sum))

/-! ### Harvest (ch. 13) -/

/-- R315: HARVEST_TARGET registers a target in the order of the targets, or removes the last one; a registration outside its ranges is BAD_PARAM 0x40.
R310, R311: HARVEST_POLICY of the lead and HARVEST_NOW go to the primary, which keeps the policy, sets the mark at once or at the next COMMIT. R311,
R318, R319: the mark of the last committed step begins a generation on the member, unless its targets cannot hold the shard; a chunk that becomes
durable stands in its place of the target and its digest is kept; the fourth failure of a chunk fails the generation. R320, R322, R324: the lead keeps
a report for each member and builds the manifest when it has them all; a written manifest, or its copy, ends the generation and answers every
HARVEST_NOW that waited. -/
def Obligations.HarvestGenerations : Prop :=
  ∀ (s : State),
    (∀ (h : CmdRef) (tg kind : BitVec 8) (base bytes : Word64), mayRun 0x50 h s = true →
      let m := (harvOf s h.ctx).targets
      let n := bytes.toNat
      let cmd := Instr.harvestTarget h tg kind base bytes
      (tg.toNat ≤ 3 → kind = 0 → base.toNat % 4096 = 0 → n % 4096 = 0 → m.map Prod.fst = List.range m.length →
        (260 * 2 ^ 20 ≤ n → tg.toNat ≤ m.length → leadsTo cmd s (fun t => replied h 0x0000 0 t = true ∧ { t with ctl := s.ctl, har := s.har } = s ∧
          { harvOf t h.ctx with targets := m } = harvOf s h.ctx ∧
          ∀ j, sget? (harvOf t h.ctx).targets j = if j = tg.toNat then some (0, base.toNat, n) else sget? m j)) ∧
        (n = 0 → m.length ≤ tg.toNat + 1 → leadsTo cmd s (fun t => replied h 0x0000 0 t = true ∧ { t with ctl := s.ctl, har := s.har } = s ∧
          ∀ j, sget? (harvOf t h.ctx).targets j = if j = tg.toNat then none else sget? m j))) ∧
      ((3 < tg.toNat ∨ 1 < kind.toNat ∨ base.toNat % 4096 ≠ 0 ∨ n % 4096 ≠ 0 ∨ (n ≠ 0 ∧ n < 260 * 2 ^ 20)) →
        leadsTo cmd s (fun t => replied h 0x0016 0x40 t = true ∧ onlyJournal s t))) ∧
    (∀ (h : CmdRef) (e tm : BitVec 32), mayRun 0x51 h s = true → leadsTo (.harvestPolicy h e tm) s (fun t => replied h 0x0000 0 t = true ∧
      { t with ctl := s.ctl, io := s.io } = s ∧ (isLead s = false → t.io = s.io) ∧
      (isLead s = true → .vc7 "HARVEST_REQUEST" (primaryOf s) [sliceId s, ownRoster s, 1, e.toNat, tm.toNat] ∈ t.io.outbox))) ∧
    (∀ h : CmdRef, mayRun 0x52 h s = true → leadsTo (.harvestNow h) s (fun t => { t with ctl := s.ctl, io := s.io } = s ∧
      waitsOn h (.harvest ((harvOf s h.ctx).gen.elim (rget s .harvestCtxGen_generation h.ctx) (·.gen))) t = true ∧
      .vc7 "HARVEST_REQUEST" (primaryOf s) [sliceId s, ownRoster s, 0, h.ctx] ∈ t.io.outbox)) ∧
    (∀ (sl member e tm : Nat) (cl : Bool),
      (isPrimary s = false → hasPosition s = true → ∀ p, noEffect (.harvestRequest sl member p cl) s) ∧
      ((isPrimary s = true ∨ hasPosition s = false) →
        (leadOf s sl = some member → leadsTo (.harvestRequest sl member (some (e, tm)) cl) s (fun t =>
          t = { s with fab := { s.fab with policy := t.fab.policy } } ∧ ∀ j, sget? t.fab.policy j = if j = sl then some (e, tm, lcountOf s 8) else sget? s.fab.policy j)) ∧
        (leadOf s sl ≠ some member → noEffect (.harvestRequest sl member (some (e, tm)) cl) s) ∧
        (sl ∉ s.fab.genBusy → leadsTo (.harvestRequest sl member none true) s (fun t => sl ∈ t.fab.genBusy ∧ sl ∉ t.fab.markNext ∧
          .vc7 "HARVEST_MARK" 0x3FFF [sl] ∈ t.io.outbox)) ∧
        ((cl = false ∨ sl ∈ s.fab.genBusy) → leadsTo (.harvestRequest sl member none cl) s (fun t => sl ∈ t.fab.markNext ∧ t.io = s.io)))) ∧
    (∀ (c gen : Nat) (m : CommitMsg), c < 256 →
      let full := chunkCount (fullSize s c (ownMarks s c m.step).length)
      (m.step ≠ rget s .stepCtxCommitted_step c ∨ (harvOf s c).gen.isSome = true → noEffect (.harvestMark c m gen) s) ∧
      (m.step = rget s .stepCtxCommitted_step c → (harvOf s c).gen = none →
        (targetsHold (svals (harvOf s c).targets) full = true → leadsTo (.harvestMark c m gen) s (fun t => rget t .harvestCtxState_busy c = 1 ∧
          ∃ g, (harvOf t c).gen = some g ∧ g.gen = gen ∧ g.step = m.step ∧ g.commit = m.seq ∧ g.epoch = m.epoch ∧ g.members = stepMembers s ∧
            g.own.owner = ownRoster s ∧ g.own.chunks = full ∧ g.own.wrote = [] ∧ g.manifest = [])) ∧
        (targetsHold (svals (harvOf s c).targets) full = false → leadsTo (.harvestMark c m gen) s (fun t => (harvOf t c).gen = none ∧
          rget t .harvestStatus_failedSeen 0 = 1 ∧ reported s t 0x0D02 c)))) ∧
    (∀ (c k : Nat) (g : HGen), (harvOf s c).gen = some g →
      let r := segsRead s c (shardSegs s c g g.own false) (k * mib64) mib64
      let to_ := chunkAt g.targets g.gen k false
      (g.own.chunks ≤ k ∨ (sget? g.own.wrote k).isSome = true → ∀ ok, noEffect (.chunkWriteDone c false k ok) s) ∧
      (k < g.own.chunks → sget? g.own.wrote k = none →
        (r.bad = [] → to_.1.1 = 0 → noDma s (fnOf s c) = false → (ctx? s 0).elim true (fun x => x.ring.isNone) = true →
          (∀ x ∈ s.ctl.journal, x.wait ≠ .sealing) → leadsTo (.chunkWriteDone c false k true) s (fun t =>
            hostRead t to_.2 r.bytes.length = r.bytes ∧ ∃ y, (harvOf t c).gen = some y ∧ y.gen = g.gen ∧ sget? y.own.wrote k = some (sha256 r.bytes))) ∧
        (sget 0 g.own.fails k < 3 → leadsTo (.chunkWriteDone c false k false) s (fun t => { t with har := s.har } = s ∧
          ∃ y, (harvOf t c).gen = some y ∧ sget 0 y.own.fails k = sget 0 g.own.fails k + 1 ∧ y.own.wrote = g.own.wrote)) ∧
        (sget 0 g.own.fails k = 3 → leadsTo (.chunkWriteDone c false k false) s (fun t => (harvOf t c).gen = none ∧ reported s t 0x0D02 c)))) ∧
    (∀ (c : Nat) (m : ShardMsg) (g : HGen), (harvOf s c).gen = some g →
      (m.targets = 0 → leadsTo (.shardReport c m) s (fun t => (harvOf t c).gen = none ∧ reported s t 0x0D02 c)) ∧
      (m.targets ≠ 0 → isLead s = false → noEffect (.shardReport c m) s) ∧
      (m.targets ≠ 0 → isLead s = true → g.manifest = [] → leadsTo (.shardReport c m) s (fun t => { t with har := s.har } = s ∧
        ∃ y, (harvOf t c).gen = some y ∧ m ∈ y.reports ∧ (y.manifest = [] ↔ ∃ i ∈ g.members, i ≠ m.roster ∧ ∀ x ∈ g.reports, x.roster ≠ i)))) ∧
    (∀ (c : Nat) (g : HGen), c < 256 → (harvOf s c).gen = some g → g.gen < 2 ^ 64 → g.step < 2 ^ 64 →
      let ended := fun (t : State) => (harvOf t c).gen = none ∧ rget t .harvestCtxState_busy c = 0 ∧ rget t .harvestCtxGen_generation c = g.gen ∧
        rget t .harvestCtxStep_step c = g.step ∧ reported s t 0x0D01 c ∧ ∀ n r, waiting s c (.harvest n) r → n < g.gen → answered t r 0x0000 g.step
      (g.manifest ≠ [] → leadsTo (.harvestWritten c) s (fun t => ended t ∧ .data "MANIFEST" 0x3FFF [c, g.gen] g.manifest ∈ t.io.outbox)) ∧
      (g.manifest = [] → noEffect (.harvestWritten c) s) ∧
      (∀ d, fld d 0x20 8 = g.gen → leadsTo (.manifestCopy c d) s ended) ∧
      (∀ d, fld d 0x20 8 ≠ g.gen → noEffect (.manifestCopy c d) s))

/-- R325, R326: RESTORE of a context with an open step is RESTORE_REFUSED 0x0D; while a generation or another restore is in progress it stays issued;
otherwise the manifest is checked, the result is this module's vote, and the command waits for the decision of the restore lead. R330: IMPORT_A2 the
same with the checks of its table. R326, R328: when every member has voted for the same manifest the lead commits, and a commit makes the restored
step the last committed one and completes the command; a refusal, or a time-out, completes it with RESTORE_REFUSED. -/
def Obligations.RestoreAndImport : Prop :=
  ∀ (s : State),
    (∀ (h : CmdRef) (a : Word64) (rf : BitVec 8),
      let c := h.ctx
      (∀ p ∈ [(0x53, Instr.restore h a rf), (0x54, .importA2 h a)], mayRun p.1 h s = true →
        ((harvOf s c).gen.isSome = true ∨ (harvOf s c).rest.isSome = true → leadsTo p.2 s (fun t => t = started p.1 h s)) ∧
        ((harvOf s c).gen = none → (harvOf s c).rest = none → stepSt s c ≠ 0 → leadsTo p.2 s (fun t => replied h 0x0050 0x0D t = true ∧ t.har = s.har ∧
          t.mem.bytes = s.mem.bytes))) ∧
      (c < 256 → (harvOf s c).gen = none → (harvOf s c).rest = none → stepSt s c = 0 → isLead s = false →
        (∀ k, mayRun 0x53 h s = true → rget s .pwrState_state 0 ≠ 1 → plainAt s c false a.toNat (manifestLen (sgetN 0 s.mem.bytes k 256)) k →
          let m := mkManifest (sgetN 0 s.mem.bytes k (manifestLen (sgetN 0 s.mem.bytes k 256)))
          let d := restoreCheck (useFree s) c m
          leadsTo (.restore h a rf) s (fun t => waitsOn h .vote t = true ∧ rget t .harvestCtxState_restoring c = 1 ∧
            (∃ r, (harvOf t c).rest = some r ∧ r.q = h.q ∧ r.seq = h.seq.toNat ∧ r.gen = m.gen ∧ r.step = m.step ∧ r.commit = m.commit ∧
              r.hash = sha256 m.msg ∧ r.refusal = d ∧ r.imp = false) ∧
            .data "RESTORE_VOTE" (harvestLead s) [c, ownRoster s, m.gen, b2n d.isNone] (sha256 m.msg) ∈ t.io.outbox)) ∧
        (mayRun 0x54 h s = true →
          let x := readImport s c a.toNat
          let d := importCheck s c a.toNat x
          leadsTo (.importA2 h a) s (fun t => waitsOn h .vote t = true ∧ rget t .harvestCtxState_restoring c = 1 ∧
            (∃ r, (harvOf t c).rest = some r ∧ r.q = h.q ∧ r.seq = h.seq.toNat ∧ r.step = x.step ∧ r.refusal = d ∧ r.imp = true) ∧
            .data "RESTORE_VOTE" (harvestLead s) [c, ownRoster s, 0, b2n d.isNone] (sha256 x.man) ∈ t.io.outbox)))) ∧
    (∀ (c : Nat) (r : HRest), c < 256 → (harvOf s c).rest = some r →
      let done := fun (t : State) => (harvOf t c).rest = none ∧ rget t .harvestCtxState_restoring c = 0 ∧ stepNo t c = r.step ∧
        rget t .stepCtxCommitted_step c = r.step ∧ (stepOf t c).standOwn = 1 - (stepOf s c).standOwn ∧ reported s t 0x0D04 c ∧
        ∀ x ∈ s.ctl.journal, x.q = r.q → x.seq = r.seq → x.state = .issued → x.again = none → answered t x 0x0000 r.step
      (r.step < 2 ^ 64 → r.refusal = none → leadsTo (.restoreCommit c) s done) ∧
      (r.refusal ≠ none → noEffect (.restoreCommit c) s) ∧
      (∀ who gen hash pass, isLead s = true → who ∈ stepMembers s →
        ((∃ i ∈ stepMembers s, i ≠ who ∧ ∀ v ∈ r.votes, v.1 ≠ i) → leadsTo (.restoreVote c who gen hash pass) s (fun t => { t with har := s.har } = s ∧
          ∃ y, (harvOf t c).rest = some y ∧ (who, gen, hash, pass) ∈ y.votes)) ∧
        (r.step < 2 ^ 64 → (∀ i ∈ stepMembers s, i ≠ who → ∃ v ∈ r.votes, v.1 = i) → (∀ v ∈ r.votes, v.1 ≠ who → v.2 = (r.gen, r.hash, true)) →
          leadsTo (.restoreVote c who r.gen r.hash true) s (fun t => done t ∧ .vc7 "RESTORE_COMMIT" 0x3FFF [c, r.gen] ∈ t.io.outbox))) ∧
      (∀ who gen hash pass, who ∉ stepMembers s → noEffect (.restoreVote c who gen hash pass) s) ∧
      (r.rflags % 2 = 0 ∨ r.fallback = true ∨ r.imp = true → leadsTo (.restoreVoteTimeout c) s (fun t => (harvOf t c).rest = none ∧
        rget t .harvestCtxState_restoring c = 0 ∧ rget t .harvestStatus_refusedSeen 0 = 1 ∧ t.mem = s.mem ∧
        ∀ x ∈ s.ctl.journal, x.q = r.q → x.seq = r.seq → x.state = .issued → x.again = none →
          answered t x 0x0050 (if r.fallback = true then 0x0E else r.refusal.getD 0x0C))))
/-! ### Patrol, migration, remote accesses, BAR 4, the twin's journal (ch. 3, 7, 16, 18) -/

/-- R172, R173: a patrol read that the code finds clean, or that is the poison pattern, changes nothing; a corrected line is counted and written back,
and at the threshold its channel migrates; one that cannot be corrected is reported, counted, and stays bad. R175: PF 0 starts a migration where the
leap channel is idle; otherwise it is exhausted. R176, R177, Table 7.5: with no update pass on the die the leap channel takes over at the end of the
copy, and at once where the old channel stops answering: bad lines, and lines that were not copied, are poison. -/
def Obligations.PatrolAndMigration : Prop :=
  ∀ (s : State),
    (∀ (d p line : Nat) (data check : List Byte),
      let i := d * 14 + p
      let n := rget s .cdieMemCorrCount_count i
      let lim := 16 * rget s .cdieMemMigrateThresh_corr d
      (8 ≤ d ∨ 14 ≤ p → noEffect (.patrolRead d p line data check) s) ∧
      (d < 8 → p < 14 → data.length = 64 → check.length = 4 →
        (eccDecode line data check = .clean ∨ eccDecode line data check = .poison → noEffect (.patrolRead d p line data check) s) ∧
        (∀ b, eccDecode line data check = .corrected b → leadsTo (.patrolRead d p line data check) s (fun t =>
          (n < 2 ^ 32 - 1 → rget t .cdieMemCorrCount_count i = n + 1) ∧
          (∀ k, lineKey s d p line = some k → sget 0 s.mem.bad (k / 64) = 0 → storedAt s t k b) ∧
          (∀ ch, n < lim → lim ≤ n + 1 → logicalOf s d p = some ch → rget s .cdieMemStatus_migrating d = 15 → rget s .cdieMemStatus_leapTarget d = 15 →
            rget t .cdieMemStatus_migrating d = ch ∧ reported s t 0x0702 0))) ∧
        (∀ e ∈ [(EccRes.addrErr, 3), (.uncorr, 2)], eccDecode line data check = e.1 → leadsTo (.patrolRead d p line data check) s (fun t =>
          t.mem.bytes = s.mem.bytes ∧ reported s t 0x0701 0 ∧ rget t .cdieMemStatus_uncorrSeen d = 1 ∧
          (rget s .cdieMemUncorrCount_count i < 2 ^ 32 - 1 → rget t .cdieMemUncorrCount_count i = rget s .cdieMemUncorrCount_count i + 1) ∧
          ∀ k, lineKey s d p line = some k → sget 0 t.mem.bad (k / 64) = e.2)))) ∧
    (∀ (d : Nat) (v : BitVec 32), notServed s 0 = false → d < 8 →
      let ch := bits v.toNat 1 4
      (v.getLsbD 0 = false ∨ chanCount s d ≤ ch → leadsTo (.cdieMemMigrate 0 d v) s (fun t => t = dropLatch 0 s)) ∧
      (v.getLsbD 0 = true → ch < chanCount s d →
        (rget s .cdieMemStatus_migrating d = 15 → rget s .cdieMemStatus_leapTarget d = 15 → leadsTo (.cdieMemMigrate 0 d v) s (fun t =>
          t.mem.bytes = s.mem.bytes ∧ rget t .cdieMemStatus_migrating d = ch ∧ rget t .cdieMemCopyPtr_line d = 0 ∧ reported s t 0x0702 0)) ∧
        ((rget s .cdieMemStatus_migrating d ≠ 15 ∨ rget s .cdieMemStatus_leapTarget d ≠ 15) → leadsTo (.cdieMemMigrate 0 d v) s (fun t =>
          t.mem = s.mem ∧ reported s t 0x0704 0)))) ∧
    (∀ d copied ch : Nat, d < 8 → rget s .cdieMemStatus_migrating d = ch →
      let swapped := fun (t : State) => t.mem.bytes = s.mem.bytes ∧ rget t .cdieMemStatus_migrating d = 15 ∧ rget t .cdieMemStatus_leapTarget d = ch ∧
        physChan t d ch = 13 ∧ (∀ c, c < 13 → c ≠ ch → physChan t d c = physChan s d c) ∧ reported s t 0x0703 0 ∧ ∀ k ∈ badLines s d ch, sget 0 t.mem.bad k = 1
      (ch = 15 → noEffect (.memMigrationDone d) s ∧ noEffect (.channelStopsAnswering d copied) s) ∧
      (ch < 13 →
        (passOn s d = true → noEffect (.memMigrationDone d) s) ∧
        (passOn s d = false → leadsTo (.memMigrationDone d) s swapped) ∧
        leadsTo (.channelStopsAnswering d copied) s (fun t => swapped t ∧ ∀ l, copied ≤ l → l < 7656 * 2 ^ 20 / 64 →
          sget 0 t.mem.bad (gddrKey d ((l * 64 / 4096 * chanCount s d + ch) * 4096 + l * 64 % 4096) / 64) = 1)))

/-- R167, R392, R400: a request of another slot is served under an entry exported to its slice, a store once for each tag, and answered; one that no
entry covers reads zeros and is counted; one of another generation is dropped and counted. The answer to a request of this module ends it; an
unanswered one is sent once more, and then given up: its result is poison, and REMOTE_TIMEOUT is reported. R64: a partner's journal record is kept and
acknowledged. R441: BAR 4 leads to the context that HOSTIF_FN_BAR4 names. -/
def Obligations.RemoteAccesses : Prop :=
  ∀ (s : State),
    (∀ r : RemoteReq, rget s .mcStatus_ready 0 ≠ 0 → rget s .pwrState_state 0 < 2 →
      let src := slotSource s r.slot
      let n := if r.write = true then r.data.length else r.len
      let again := r.write = true ∧ r.tag ∈ sget [] s.vig.applied (tagKey r)
      let ans := fun (b : List Byte) => OutMsg.data (if r.write = true then "STORE_ACK" else "LOAD_DATA") r.slot [r.ctx, r.gen, r.tag, 0] b
      (genStale s src r.ctx r.gen = true → leadsTo (.remoteTrayRequest r) s (fun t => t.mem = s.mem ∧ t.vig = s.vig ∧
        (rget s .vigilStaleDropCount_count 0 < 2 ^ 32 - 1 → rget t .vigilStaleDropCount_count 0 = rget s .vigilStaleDropCount_count 0 + 1))) ∧
      (genStale s src r.ctx r.gen = false →
        (again → leadsTo (.remoteTrayRequest r) s (fun t => t.mem = s.mem ∧ ans [] ∈ t.io.outbox)) ∧
        (¬ again → exporter s r.slice r.write r.addr.toNat n = none → leadsTo (.remoteTrayRequest r) s (fun t => t.mem = s.mem ∧
          ans (if r.write = true then [] else List.replicate n 0) ∈ t.io.outbox ∧
          (rget s .mcWinRemoteViol_count 0 < 2 ^ 32 - 1 → rget t .mcWinRemoteViol_count 0 = rget s .mcWinRemoteViol_count 0 + 1))) ∧
        (∀ c k, ¬ again → exporter s r.slice r.write r.addr.toNat n = some c → plainAt s c r.write r.addr.toNat n k →
          (r.write = true → leadsTo (.remoteTrayRequest r) s (fun t => storedAt s t k r.data ∧ ans [] ∈ t.io.outbox ∧
            r.tag ∈ sget [] t.vig.applied (tagKey r))) ∧
          (r.write = false → leadsTo (.remoteTrayRequest r) s (fun t => t.mem = s.mem ∧ ans (sgetN 0 s.mem.bytes k n) ∈ t.io.outbox))))) ∧
    (∀ tag : Nat, sget? s.vig.remote tag = none → (∀ b g p, noEffect (.remoteTrayResponse tag b g p) s) ∧ noEffect (.remoteRequestResend tag) s ∧
      noEffect (.vigilRemoteTimeout tag) s) ∧
    (∀ (tag : Nat) (r : Remote) (b : List Byte) (p : Bool), sget? s.vig.remote tag = some r →
      let quiet := (ctx? s r.ctx).elim true (fun x => x.newWin.isNone) = true
      (∀ g, g ≠ r.gen → leadsTo (.remoteTrayResponse tag b g p) s (fun t => t.vig = s.vig ∧ t.mem = s.mem ∧ t.eng = s.eng ∧
        (rget s .vigilStaleDropCount_count 0 < 2 ^ 32 - 1 → rget t .vigilStaleDropCount_count 0 = rget s .vigilStaleDropCount_count 0 + 1))) ∧
      (r.use = .other → quiet → leadsTo (.remoteTrayResponse tag b r.gen p) s (fun t => sget? t.vig.remote tag = none ∧
        ∀ c x l, waiting s c (.stores l) x → (∀ y ∈ l, y = tag) → answered t x 0x0000 0)) ∧
      (∀ e x, r.use = .engine (engKey e) → engOfKey (engKey e) = e → eng? s e = some x → quiet → x.stall = none → r.write = false → p = false →
        leadsTo (.remoteTrayResponse tag b r.gen p) s (fun t => sget? t.vig.remote tag = none ∧ eng? t e = some { x with answers := x.answers ++ [(r.addr, b)] })) ∧
      (r.resent = false → leadsTo (.remoteRequestResend tag) s (fun t => sget? t.vig.remote tag = some { r with resent := true } ∧ t.mem = s.mem ∧
        .data (if r.write = true then "STORE" else "LOAD") r.slot [r.ctx, r.gen, tag, r.addr, r.len] r.data ∈ t.io.outbox)) ∧
      (r.resent = true → noEffect (.remoteRequestResend tag) s) ∧
      (r.resent = false → noEffect (.vigilRemoteTimeout tag) s) ∧
      (r.resent = true → r.use = .other → quiet → leadsTo (.vigilRemoteTimeout tag) s (fun t => sget? t.vig.remote tag = none ∧ reported s t 0x1007 r.ctx ∧
        (rget s .vigilRemoteTimeoutCount_count 0 < 2 ^ 32 - 1 → rget t .vigilRemoteTimeoutCount_count 0 = rget s .vigilRemoteTimeoutCount_count 0 + 1) ∧
        ∀ c x l, waiting s c (.stores l) x → (∀ y ∈ l, y = tag) → answered t x 0x0000 0))) ∧
    (∀ (peer c q : Nat) (seq : BitVec 32) (b : List Byte),
      (rget s .mcStatus_ready 0 = 0 ∨ partnerIs s c peer = false → noEffect (.twinJournalRecord peer c q seq b) s) ∧
      (rget s .mcStatus_ready 0 ≠ 0 → partnerIs s c peer = true → leadsTo (.twinJournalRecord peer c q seq b) s (fun t =>
        (peer, c, q, seq.toNat, b) ∈ t.ctl.partner ∧ .vc7 "JOURNAL_ACK" peer [c, q, seq.toNat] ∈ t.io.outbox))) ∧
    (∀ (fn off size : Nat) (w : Bool) (b : List Byte),
      let c := rget s .hostifFnBar4_ctx fn
      let a := rget s .hostifFnBar4_base fn * 4096 + off
      (fnUp s fn = false ∨ 2 ^ bar4Log s fn < off + size → leadsTo (.bar4Access fn off size w b) s (fun t => t.mem = s.mem ∧
        .pcie fn true [] ∈ t.io.outbox)) ∧
      (fnUp s fn = true → off + size ≤ 2 ^ bar4Log s fn →
        (c = 0xFF → leadsTo (.bar4Access fn off size true b) s (fun t => t = dropLatch fn s) ∧
          leadsTo (.bar4Access fn off size false b) s (fun t => t.mem = s.mem ∧ .pcie fn false (List.replicate size 0) ∈ t.io.outbox)) ∧
        (∀ k, c ≠ 0xFF →
          (b.length = size → plainAt s c true a size k → leadsTo (.bar4Access fn off size true b) s (fun t => storedAt s t k b)) ∧
          (plainAt s c false a size k → leadsTo (.bar4Access fn off size false b) s (fun t => t.mem = s.mem ∧
            t.io.readData = sgetN 0 s.mem.bytes k size ∧ .pcie fn false (sgetN 0 s.mem.bytes k size) ∈ t.io.outbox)))))
/-! ### Spares, the Almanac and the service commands (ch. 14, 16, 17) -/

/-- R336: a set-aside unit that passes its test returns to its pool, one that fails is retired. R342: a path-delay reading. R347: a re-plan hold ends
and the island resumes at the lower of its point and its ceiling. R335, R340: a failed power stage is fenced, recorded and sealed; more than two on a
rail set the hard flag. R353, R350, R348: the flush seals the open block; a sealed block is chained to the one before it and takes a position, a
failed position is skipped. R352: the hourly POWER record. -/
def Obligations.SparesAndBlocks : Prop :=
  ∀ (s : State),
    (∀ d p : Nat, let i := islKey d p
      (sget 0 s.sp.clState i ≠ 1 → ∀ ok, noEffect (.setAsideTest d p none ok) s) ∧
      (sget 0 s.sp.clState i = 1 → ∀ ok, leadsTo (.setAsideTest d p none ok) s (fun t => t.mem = s.mem ∧ reported s t 0x0E01 0 ∧
        ∀ j, sget 0 t.sp.clState j = if j = i then (if ok = true then 0 else 2) else sget 0 s.sp.clState j)) ∧
      (∀ c, c < 68 → clBusy s d p = false → sget 0 s.sp.coreState (i * 68 + c) = 1 → ∀ ok, leadsTo (.setAsideTest d p (some c) ok) s (fun t => t.mem = s.mem ∧
        reported s t 0x0E01 0 ∧ ∀ j, sget 0 t.sp.coreState j = if j = i * 68 + c then (if ok = true then 0 else 2) else sget 0 s.sp.coreState j)) ∧
      (∀ c, sget 0 s.sp.coreState (i * 68 + c) ≠ 1 ∨ clBusy s d p = true → ∀ ok, noEffect (.setAsideTest d p (some c) ok) s) ∧
      (∀ x, d < 8 → p < 2112 → leadsTo (.pathDelayReading d p x) s (fun t => t.mem = s.mem ∧ sget 0 t.sp.delta i = x - Config.delayMade i ∧
        ∀ j, j ≠ i → sget 0 t.sp.delta j = sget 0 s.sp.delta j)) ∧
      (∀ x, 8 ≤ d ∨ 2112 ≤ p → noEffect (.pathDelayReading d p x) s) ∧
      (i ∉ s.sp.held → noEffect (.replanHoldEnd d p) s) ∧
      (i ∈ s.sp.held → leadsTo (.replanHoldEnd d p) s (fun t => t.regs = s.regs ∧ t.mem = s.mem ∧ t.sp.held = s.sp.held.erase i ∧
        (islOf t i).mhz = Min.min (islOf s i).mhz (ceiling s i) ∧ ∀ j, j ≠ i → islOf t j = islOf s j))) ∧
    (∀ rail n : Nat, (rail * 64 + n ∈ s.sp.stagesOff ∨ 64 ≤ n → noEffect (.powerStageFault rail n) s) ∧
      (rail * 64 + n ∉ s.sp.stagesOff → n < 64 → leadsTo (.powerStageFault rail n) s (fun t => t.mem = s.mem ∧
        t.sp.stagesOff = s.sp.stagesOff ++ [rail * 64 + n] ∧ reported s t 0x0E01 0 ∧ t.alm.sealing.isSome = true ∧
        (2 < failedStages t rail → rget t .cohortHealth_hard 0 = 1 ∧ rget t .cohortHealth_score 0 = 0)))) ∧
    (∀ v : BitVec 32, notServed s 0 = false →
      (v.getLsbD 0 = false ∨ s.alm.staged = [] → leadsTo (.almanacCtl 0 v) s (fun t => t = dropLatch 0 s)) ∧
      (v.getLsbD 0 = true → s.alm.staged ≠ [] → recsBytes s.alm.staged ≤ 61952 → s.alm.sealing = none → leadsTo (.almanacCtl 0 v) s (fun t => t.alm.sealing = some (s.alm.staged, 2) ∧
        t.alm.staged = [] ∧ t.regs = s.regs ∧ t.mem = s.mem)) ∧
      (v.getLsbD 0 = true → s.alm.staged ≠ [] → s.alm.sealing.isSome = true → leadsTo (.almanacCtl 0 v) s (fun t =>
        t.alm = { s.alm with sealNext := true } ∧ t.regs = s.regs ∧ t.mem = s.mem))) ∧
    (s.alm.sealing = none → ∀ ok, noEffect (.blockSealed ok) s) ∧
    (∀ (l : List AlmRec) (fl : Nat), s.alm.sealing = some (l, fl) →
      let used := rget s .almanacUsed_blocks 0
      let n := rget s .almanacSeq_seq 0
      (4096 ≤ used → ∀ ok, leadsTo (.blockSealed ok) s (fun t => t.alm.sealing = none ∧ t.alm.blocks = s.alm.blocks ∧ t.regs = s.regs)) ∧
      (used < 4096 → leadsTo (.blockSealed false) s (fun t => rget t .almanacUsed_blocks 0 = used + 1 ∧ rget t .almanacSeq_seq 0 = n ∧
        rget t .almanacStatus_skipSeen 0 = 1 ∧ t.alm.skipped = true ∧ t.alm.sealing = s.alm.sealing ∧ t.alm.blocks = s.alm.blocks)) ∧
      (used < 4096 → n + 1 < 2 ^ 64 → leadsTo (.blockSealed true) s (fun t => rget t .almanacUsed_blocks 0 = used + 1 ∧ rget t .almanacSeq_seq 0 = n + 1 ∧
        blockBytes t (n + 1) = blockSigned (blockHead (pack [(0, 1, b2n (decide (3840 ≤ used))), (1, 1, fl / 2), (2, 1, b2n s.alm.skipped)]) (n + 1)
          (sha256 (blockBytes s n)) l) ∧ (∀ j, j ≠ n + 1 → blockBytes t j = blockBytes s j) ∧ t.alm.skipped = false ∧
        (s.alm.sealNext = false → t.alm.sealing = none)))) ∧
    (∀ bands : List Nat, (s.alm.hours + 1) % 168 ≠ 0 → rget s .almanacStatus_tail 0 ≠ 1 → recsBytes s.alm.staged + 80 ≤ 61952 →
      leadsTo (.powerRecord bands) s (fun t => t.regs = s.regs ∧ t.mem = s.mem ∧ t.alm.hours = s.alm.hours + 1 ∧ ∃ r, t.alm.staged = s.alm.staged ++ [r] ∧
        r.typ = 2 ∧ r.body = (List.range 9).flatMap (fun i => leBytes 4 (satTo 32 (bands.getD i 0))) ++ leBytes 8 (satTo 64 (bands.getD 9 0))))

/-- R354, R358: ALMANAC_READ copies sealed blocks and answers with their number; ALMANAC_NOTE seals a note, and one that is no note, or a
refurbishment note that fails its conditions, is BAD_PARAM 0x50. R423: ATTEST writes the signed report at a 64-byte-aligned address of the window.
DIAG_RUN answers with the result of the test, which the spec leaves open. R406: TROUBLE_READ. R22: PARTITION_SET gives a partition its dies. R416,
R417: FW_STAGE writes a checked image to the inactive slot, and FW_ACTIVATE prefers it; both reject with the code of the first check that fails. R424:
SHUTDOWN is a trigger and waits for the end of quiescing. R21: a command processor answers. -/
def Obligations.ServiceCommands : Prop :=
  ∀ (h : CmdRef) (s : State),
    (∀ (first n : BitVec 32) (dest : Word64), mayRun 0x70 h s = true → h.ctx = 0 →
      let last := rget s .almanacSeq_seq 0
      leadsTo (.almanacRead h first n dest) s (fun t => replied h 0x0000 (Min.min n.toNat (last + 1 - first.toNat)) t = true ∧
        ∀ k, n = 1 → first.toNat ≤ last → plainAt s 0 true dest.toNat (blockBytes s first.toNat).length k → storedAt s t k (blockBytes s first.toNat))) ∧
    (∀ (a : Word64) (k : Nat), mayRun 0x74 h s = true → h.ctx = 0 → plainAt s 0 false a.toNat 4096 k →
      let b := sgetN 0 s.mem.bytes k 4096
      let ok := fld b 0 4 = 0x45544F4E ∧ fld b 4 2 = 1 ∧ (fld b 6 1 = 1 ∨ (fld b 6 1 = 2 ∧ noteOk s b = true))
      (ok → leadsTo (.almanacNote h a) s (fun t => replied h 0x0000 0 t = true ∧ t.alm.sealing.isSome = true ∧ t.mem = s.mem ∧
        (fld b 6 1 = 2 → t.alm.refurb = true))) ∧
      (¬ ok → leadsTo (.almanacNote h a) s (fun t => replied h 0x0016 0x50 t = true ∧ t.alm = s.alm ∧ t.mem = s.mem))) ∧
    (∀ (dest : Word64) (nonce : BitVec 256), mayRun 0x71 h s = true →
      let m := attestMsg s h.ctx (leBytes 32 nonce.toNat)
      let b := m ++ sigBlock "attestation" "Decperon attest v1" m
      (dest.toNat % 64 ≠ 0 ∨ rangeIn s h.ctx true dest.toNat 5632 = false → leadsTo (.attest h dest nonce) s (fun t =>
        replied h 0x0016 0 t = true ∧ onlyJournal s t)) ∧
      (∀ k, dest.toNat % 64 = 0 → rangeIn s h.ctx true dest.toNat 5632 = true → plainAt s h.ctx true dest.toNat b.length k →
        leadsTo (.attest h dest nonce) s (fun t => replied h 0x0000 0 t = true ∧ storedAt s t k b))) ∧
    (∀ test target : BitVec 16, mayRun 0x72 h s = true → h.ctx = 0 → leadsTo (.diagRun h test target) s (fun t =>
      replied h 0x0000 (Config.diagResult s.free test.toNat target.toNat) t = true ∧ { t with ctl := s.ctl, free := s.free } = s)) ∧
    (∀ (dest : Word64) (k : Nat), mayRun 0x73 h s = true → h.ctx = 0 → plainAt s 0 true dest.toNat 64 k → leadsTo (.troubleRead h dest) s (fun t =>
      replied h 0x0000 0 t = true ∧ storedAt s t k (troubleBytes s))) ∧
    (∀ part mask : BitVec 8, mayRun 0x80 h s = true → h.ctx = 0 →
      let p := part.toNat
      let old := sget 0 s.ctl.partitions p
      let set_ := fun (t : State) => ∀ j, sget 0 t.ctl.partitions j = if j = p then mask.toNat else sget 0 s.ctl.partitions j
      (maskOk s p mask.toNat = false → leadsTo (.partitionSet h part mask) s (fun t => replied h 0x0016 0 t = true ∧ onlyJournal s t)) ∧
      (maskOk s p mask.toNat = true → (old &&& mask.toNat = old ∨ partCtxs s p = []) → leadsTo (.partitionSet h part mask) s (fun t =>
        replied h 0x0000 0 t = true ∧ onlyCtl s t ∧ set_ t)) ∧
      (maskOk s p mask.toNat = true → old &&& mask.toNat ≠ old → partCtxs s p ≠ [] → leadsTo (.partitionSet h part mask) s (fun t =>
        set_ t ∧ reported s t 0x1006 0))) ∧
    (∀ (a n : Word64) (k : Nat), mayRun 0xF0 h s = true → h.ctx = 0 → plainAt s 0 false a.toNat n.toNat k →
      let b := sgetN 0 s.mem.bytes k n.toNat
      let x : FwSlot := ⟨b.take 4096, (b.drop 4096).take (n.toNat - 9472), b.drop (4096 + (n.toNat - 9472))⟩
      (imageCheck s x ≠ 0 → leadsTo (.fwStage h a n) s (fun t => replied h 0x0070 (imageCheck s x) t = true ∧ t.boot = s.boot)) ∧
      (imageCheck s x = 0 → leadsTo (.fwStage h a n) s (fun t => replied h 0x0000 0 t = true ∧ reported s t 0x1102 0 ∧
        (if runSlot s = true then t.boot.slotA else t.boot.slotB) = some x ∧ (if runSlot s = true then t.boot.slotB else t.boot.slotA) =
          (if runSlot s = true then s.boot.slotB else s.boot.slotA) ∧ t.boot.prefB = s.boot.prefB ∧ rget t .mcFwStaged_version 0 = fld x.header 8 8))) ∧
    (mayRun 0xF1 h s = true → h.ctx = 0 → let e := slotCheck s (!runSlot s)
      (e ≠ 0 → leadsTo (.fwActivate h) s (fun t => replied h 0x0070 e t = true ∧ onlyJournal s t)) ∧
      (e = 0 → leadsTo (.fwActivate h) s (fun t => replied h 0x0000 0 t = true ∧ { t with ctl := s.ctl, boot := s.boot } = s ∧
        t.boot = { s.boot with prefB := !runSlot s }))) ∧
    (mayRun 0xFE h s = true → h.ctx = 0 → leadsTo (.shutdown h) s (fun t => waitsOn h .quiesce t = true ∧ t.regs = s.regs ∧ t.mem = s.mem ∧
      t.boot = { s.boot with trigger := s.boot.trigger ||| 1, shutCmd := some (h.q, h.seq.toNat) } ∧
      (s.boot.trigger = 0 → hasPosition s = true → .vc7 "DEPARTURE" (mySteward s) [ownRoster s, rosterEpoch s] ∈ t.io.outbox))) ∧
    (∀ d : Nat, (phase s = 1 → d ∈ liveDies s → leadsTo (.commandProcessorHeartbeat d) s (fun t => (rget t .mcStatus_cpPresent 0).testBit d = true ∧
        t.mem = s.mem ∧ ∀ j, j < 8 → j ≠ d → (rget t .mcStatus_cpPresent 0).testBit j = (rget s .mcStatus_cpPresent 0).testBit j)) ∧
      ((phase s ≠ 1 ∨ d ∉ liveDies s) → noEffect (.commandProcessorHeartbeat d) s))

/-- R340: a power stage fault that is not known yet is recorded, and its record is in the block that is being sealed, or in the open block that is sealed after
the one in progress. -/
def Obligations.PowerStageFaultsAreSealed : Prop :=
  ∀ (s : State) (rail stage : Nat), rail * 64 + stage ∉ s.sp.stagesOff → stage < 64 → leadsTo (.powerStageFault rail stage) s (fun t =>
    ∃ r, r.typ = 6 ∧ r.body = substBody kStage 0xFF 7 2 rail stage stage ∧ ∃ l fl, t.alm.sealing = some (l, fl) ∧
      (r ∈ l ∨ (r ∈ t.alm.staged ∧ t.alm.sealNext = true)))
/-! ### Power and temperature (ch. 15) -/

/-- R363 to R365: high input, a supply warning and THROTTLE_N are reported, and the last two clamp the budget; a supply reset is a module reset that
holds until the input is back; at a loss of input, or an over-voltage, everything is lost but the Almanac, the firmware and the memory of CXL devices.
R366, R368, R369: the limiter steps with the projected mean, and a window above the peak is reported. R370, R372: PWR_TRAY, the caps and the Equinox
share; R368 POWER_PEAK_SET; R388 PWR_CTL. R373, R385, R386: energy is given to the stage that ran, ENERGY_MODE restarts every count and ENERGY_READ
writes them. -/
def Obligations.SupplyAndBudget : Prop :=
  ∀ (s : State),
    let budgetSet := fun (t : State) => rget t .pwrBudget_budgetW 0 = (budgetOf t).toNat % 2 ^ 16
    (∀ (up : Bool) (v : Nat),
      (awake s = true → s.pow.high ≠ up → leadsTo (.highInput up v) s (fun t => t.pow = { s.pow with high := up } ∧ reported s t 0x0F01 0)) ∧
      ((awake s = false ∨ s.pow.high = up) → noEffect (.highInput up v) s)) ∧
    (∀ v : Nat, (awake s = true → s.pow.warn = false → leadsTo (.supplyWarning v) s (fun t => t.pow = { s.pow with warn := true } ∧ t.boot.warnN = false ∧
        rget t .pwrStatus_warnSeen 0 = 1 ∧ budgetSet t ∧ budgetOf t ≤ rget s .pwrThrottle_levelW 0 ∧ reported s t 0x0F01 0 ∧
        (rget s .pwrWarnCount_count 0 < 2 ^ 32 - 1 → rget t .pwrWarnCount_count 0 = rget s .pwrWarnCount_count 0 + 1))) ∧
      ((awake s = false ∨ s.pow.warn = true) → noEffect (.supplyWarning v) s) ∧
      (s.pow.warn = true → leadsTo (.supplyWarningRelease v) s (fun t => t.pow = { s.pow with warn := false } ∧ t.boot.warnN = true ∧ budgetSet t ∧
        reported s t 0x0F01 0)) ∧
      (s.pow.warn = false → noEffect (.supplyWarningRelease v) s) ∧
      (∀ low, phase s = 1 → s.pow.throttle ≠ low → leadsTo (.throttleN low v) s (fun t => t.pow = { s.pow with throttle := low } ∧ budgetSet t ∧
        reported s t 0x0F01 0 ∧ (low = true → rget t .pwrStatus_throttleSeen 0 = 1 ∧ budgetOf t ≤ rget s .pwrThrottle_levelW 0))) ∧
      (∀ low, phase s ≠ 1 ∨ s.pow.throttle = low → noEffect (.throttleN low v) s) ∧
      (awake s = false ∨ s.pow.under = true → noEffect (.supplyReset v) s) ∧
      (s.pow.under = false → phase s = 1 → s.boot.starting = false → (∀ x ∈ s.vig.resets, x.level ≠ 4) → leadsTo (.supplyReset v) s (fun t =>
        t.pow.under = true ∧ rget t .mcStatus_ready 0 = 0 ∧ rget t .pwrStatus_resetSeen 0 = 1 ∧ (∃ x ∈ t.vig.resets, x.level = 4 ∧ x.kind = 8) ∧
        .vc7 "RESET_NOTICE" (mySteward s) [ownRoster s, rosterEpoch s, rget s .cohortHold_holdMs 0] ∈ t.io.outbox)) ∧
      (s.pow.under = false → phase s = 2 → leadsTo (.supplyReset v) s (fun t => t.pow.under = true ∧ t.boot.off = true ∧ rget t .pwrStatus_resetSeen 0 = 1))) ∧
    leadsTo .supplyResetRelease s (fun t => t = { s with pow := { s.pow with under := false } }) ∧
    (∀ i ∈ [Instr.lossOfInput, .overVoltage], leadsTo i s (fun t => phase t = 0 ∧ t.boot.powered = false ∧ t.ctl.journal = [] ∧ t.eng = [] ∧
      t.alm.blocks = s.alm.blocks ∧ t.boot.slotA = s.boot.slotA ∧ t.boot.slotB = s.boot.slotB ∧ t.boot.counter = s.boot.counter ∧
      ∀ k, sget 0 t.mem.bytes k = if 16 * 2 ^ 50 ≤ k ∧ k < 20 * 2 ^ 50 then sget 0 s.mem.bytes k else 0)) ∧
    (∀ (uj proj mean v w : Nat) (e : Bool), leadsTo (.peakLimiter uj proj mean v w e) s (fun t => t.pow.stretch = limitStep s proj ∧ t.pow.uj = s.pow.uj + uj ∧
      rget t .pwrInput_voltage 0 = satTo 16 v ∧ rget t .pwrInput_powerW 0 = satTo 16 w ∧
      (s.pow.stretch = 0 → limitStep s proj ≠ 0 → rget s .pwrLimitCount_count 0 < 2 ^ 32 - 1 →
        rget t .pwrLimitCount_count 0 = rget s .pwrLimitCount_count 0 + 1) ∧
      (e = true → effPeak s < mean → rget t .pwrStatus_limitMissed 0 = 1 ∧ reported s t 0x0F02 0))) ∧
    (∀ (h : CmdRef) (w : BitVec 32), mayRun 0x60 h s = true → h.ctx = 0 →
      (4000 ≤ w.toNat → w.toNat ≤ 8000 → leadsTo (.powerPeakSet h w) s (fun t => replied h 0x0000 0 t = true ∧ rget t .pwrPeakLimit_peakW 0 = w.toNat ∧
        budgetSet t ∧ { t with ctl := s.ctl, regs := s.regs } = s)) ∧
      (w.toNat < 4000 ∨ 8000 < w.toNat → leadsTo (.powerPeakSet h w) s (fun t => replied h 0x0016 0 t = true ∧ onlyJournal s t))) ∧
    (∀ v : BitVec 32, let g := bits v.toNat 0 16; let p := bits v.toNat 16 16
      (notServed s 0 = false → leadsTo (.pwrTray 0 v) s (fun t => { t with regs := s.regs } = dropLatch 0 s ∧ budgetSet t ∧
        rget t .pwrTray_grantW 0 = (if 4000 ≤ g ∧ g ≤ 7200 then g else rget s .pwrTray_grantW 0) ∧
        rget t .pwrTray_trayPeakW 0 = (if 4000 ≤ p ∧ p ≤ 8000 then p else rget s .pwrTray_trayPeakW 0))) ∧
      (∀ fn, notServed s fn = true → ∀ i ∈ [Instr.pwrTray fn v, .pwrCtl fn v], leadsTo i s (fun t => t = dropLatch fn s)) ∧
      (notServed s 0 = false → leadsTo (.pwrCtl 0 v) s (fun t => rget t .pwrCtl_equinoxOff 0 = bits v.toNat 16 1 ∧
        rget t .pwrCtl_idleMs 0 = (if bits v.toNat 0 16 = 0 then rget s .pwrCtl_idleMs 0 else bits v.toNat 0 16) ∧
        (v.getLsbD 16 = true → rget t .pwrBudget_shareW 0 = 0 ∧ t.pow.share = 0) ∧
        (v.getLsbD 18 = true → rget s .pwrState_state 0 = 2 → rget t .pwrState_state 0 = 4) ∧
        (v.getLsbD 18 = false → rget t .pwrState_state 0 = rget s .pwrState_state 0)))) ∧
    (∀ (other : Int) (base draw : List Nat), leadsTo (.dieCapUpdate other base draw) s (fun t => t.mem = s.mem ∧ budgetSet t ∧ ∀ d, d < 8 →
      sget 0 t.pow.base d = base.getD d 0 ∧ rget t .pwrDieCap_drawW d = satTo 16 (draw.getD d 0) ∧
      rget t .pwrDieCap_capW d = satTo 16 (capOf s (budgetOf s - other) ((List.range 8).map (fun d => base.getD d 0)) d))) ∧
    (∀ w : Int,
      (s.fab.out = false → rget s .pwrCtl_equinoxOff 0 ≠ 1 → rget s .cohortSelf_role 0 ≠ 2 → leadsTo (.equinoxShare w) s (fun t =>
        rget t .pwrBudget_shareW 0 = (w % 65536).toNat ∧ t.pow = { s.pow with shareAge := 0 } ∧ { t with regs := s.regs, pow := s.pow } = s)) ∧
      (s.fab.out = true ∨ rget s .pwrCtl_equinoxOff 0 = 1 ∨ rget s .cohortSelf_role 0 = 2 → noEffect (.equinoxShare w) s)) ∧
    (∀ (d uj : Nat) (cy : List (Nat × Nat)), (dieStages s d = [] → noEffect (.energySplit d uj cy) s) ∧
      (∀ key g, dieStages s d = [(key, g)] → splitWeight s d cy g ≠ 0 →
        let v2 := Max.max 1 (sumV2 s (stageIsls s d g) g.preset / Max.max 1 (stageIsls s d g).length)
        leadsTo (.energySplit d uj cy) s (fun t => t.regs = s.regs ∧
          sget? t.pow.stages key = some { g with energy := g.energy + uj * 640000 * 640000 / v2, cycles := g.cycles + cyclesOf cy g }))) ∧
    (∀ (h : CmdRef) (m : BitVec 8), mayRun 0x62 h s = true → h.ctx = 0 →
      (m.toNat ≤ 1 → leadsTo (.energyMode h m) s (fun t => replied h 0x0000 0 t = true ∧ rget t .pwrCtl_energyMode 0 = m.toNat ∧
        t.pow = { s.pow with charge := [], gone := 0, ujBase := s.pow.uj } ∧ t.mem = s.mem)) ∧
      (1 < m.toNat → leadsTo (.energyMode h m) s (fun t => replied h 0x0016 0 t = true ∧ onlyJournal s t))) ∧
    (∀ (h : CmdRef) (dest : Word64) (c : BitVec 8), mayRun 0x63 h s = true →
      (h.ctx ≠ 0 → c.toNat ≠ h.ctx → leadsTo (.energyRead h dest c) s (fun t => replied h 0x0016 1 t = true ∧ onlyJournal s t)) ∧
      (h.ctx = 0 ∨ c.toNat = h.ctx →
        (ctx? s c.toNat = none → leadsTo (.energyRead h dest c) s (fun t => replied h 0x0016 2 t = true ∧ onlyJournal s t)) ∧
        (∀ k, (ctx? s c.toNat).isSome = true → plainAt s h.ctx true dest.toNat 64 k → leadsTo (.energyRead h dest c) s (fun t =>
          replied h 0x0000 0 t = true ∧ storedAt s t k (energyBytes s c.toNat)))))

/-- R375, R376: a droop pauses a change that is in progress, and the change resumes when it clears; a change to a higher point sets the voltage first
and then the oscillator, one to a lower point the oscillator first. R377: a stage lowered for droop. R378: at 80.0 °C an island's limit falls by one
step, at 78.0 °C it rises; R380 the coolant; R379 a trip holds the module. R382 to R384: Idle and Fallow: POWER_STATE, entry, abandonment and exit. -/
def Obligations.ClocksAndTemperature : Prop :=
  ∀ (s : State),
    let st := rget s .pwrState_state 0
    (∀ d p : Nat, let i := islKey d p; let x := islOf s i
      (d < 8 → p < 2112 → i ∉ s.sp.held → x.droop = false → leadsTo (.droop d p) s (fun t => t.mem = s.mem ∧
        islOf t i = { x with droop := true, paused := x.chg.isSome } ∧ (∀ j, j ≠ i → islOf t j = islOf s j) ∧
        (rget s .pwrDieDroopCount_count d < 2 ^ 32 - 1 → rget t .pwrDieDroopCount_count d = rget s .pwrDieDroopCount_count d + 1) ∧
        (x.chg.isSome = true → rget t .pwrStatus_pauseSeen 0 = 1))) ∧
      (8 ≤ d ∨ 2112 ≤ p ∨ i ∈ s.sp.held ∨ x.droop = true → noEffect (.droop d p) s) ∧
      (i ∉ s.sp.held → x.droop = true → leadsTo (.droopClear d p) s (fun t => { t with pow := s.pow } = s ∧
        islOf t i = { x with droop := false, paused := false } ∧ ∀ j, j ≠ i → islOf t j = islOf s j)) ∧
      (i ∈ s.sp.held ∨ x.droop = false → noEffect (.droopClear d p) s) ∧
      (x.chg = none ∨ x.paused = true ∨ i ∈ s.sp.held → noEffect (.frequencyChange d p) s) ∧
      (∀ f, i ∉ s.sp.held → x.paused = false →
        (x.chg = some (f, false) → leadsTo (.frequencyChange d p) s (fun t => { t with pow := s.pow } = s ∧ (∀ j, j ≠ i → islOf t j = islOf s j) ∧
          islOf t i = if x.mhz < f then { x with chg := some (f, true), mv := islVolt s i f } else { x with chg := some (f, true), mhz := f })) ∧
        (x.chg = some (f, true) → x.next = none → leadsTo (.frequencyChange d p) s (fun t => { t with pow := s.pow } = s ∧
          (∀ j, j ≠ i → islOf t j = islOf s j) ∧ islOf t i = { x with chg := none, mhz := f, mv := islVolt s i f })) ∧
        (∀ g, x.chg = some (f, true) → x.next = some g → g ≠ f → leadsTo (.frequencyChange d p) s (fun t => { t with pow := s.pow } = s ∧
          (∀ j, j ≠ i → islOf t j = islOf s j) ∧ islOf t i = { x with chg := some (g, false), mhz := f, mv := islVolt s i f, next := none }))) ∧
      (∀ up, d < 8 → p < 2112 → leadsTo (.droopLowering d p up) s (fun t => { t with pow := s.pow } = s ∧ (∀ j, j ≠ i → islOf t j = islOf s j) ∧
        (islOf t i).low = (if up = true then x.low - 1 else x.low + 1) ∧ (islOf t i).mhz = x.mhz)) ∧
      (∀ up, 8 ≤ d ∨ 2112 ≤ p → noEffect (.droopLowering d p up) s) ∧
      (∀ (tj inlet : Int) (flow ms : Nat),
        leadsTo (.thermalReading d p tj inlet flow ms) s (fun t => t.mem = s.mem ∧ rget t .thermCoolant_inlet 0 = s16 inlet ∧
          rget t .thermCoolant_flow 0 = satTo 16 flow ∧
          (320 < inlet ∨ flow < 120 → s.pow.coolBad = false → rget t .thermStatus_coolantSeen 0 = 1 ∧ reported s t 0x0F06 0) ∧
          (8 ≤ d → d < 12 → rget t .thermDie_tjMax d = s16 tj) ∧
          (d < 8 → p < 2112 → (islOf t i).tj = some tj ∧
            (800 ≤ tj → (islOf t i).thermal = Max.max 1200 (thermLimit s i - 25)) ∧
            (800 ≤ tj → 1200 < thermLimit s i → rget t .thermStatus_throttleSeen 0 = 1) ∧
            (784 < tj → tj < 800 → (islOf t i).thermal = x.thermal) ∧
            (tj ≤ 784 → (islOf t i).thermal = if ceiling s i ≤ thermLimit s i + 25 then 2600 else thermLimit s i + 25) ∧
            (880 ≤ tj → thermLimit s i ≤ 1225 → x.alarm = false → rget t .thermStatus_alarmSeen 0 = 1 ∧ reported s t 0x0F05 0))))) ∧
    (∀ d : Nat, (12 ≤ d ∨ s.boot.powered = false ∨ phase s = 3 → noEffect (.thermalTrip d) s) ∧
      (d < 12 → s.boot.powered = true → phase s ≠ 3 → leadsTo (.thermalTrip d) s (fun t => phase t = 3 ∧ rget t .mcBootStatus_heldReason 0 = 1 ∧ rget t .thermStatus_trip 0 = 1 ∧
        (rget t .thermTripDie_dies 0).testBit d = true ∧ rget t .cohortHealth_hard 0 = 1 ∧ t.eng = [] ∧ rget t .mcStatus_ready 0 = 0))) ∧
    (rget s .mcStatus_ready 0 ≠ 0 → rget s .pwrState_target 0 = 1 → rget s .pwrState_state 0 = 0 → working s = false → leadsTo .idleEntry s (fun t =>
      rget t .pwrState_state 0 = 1 ∧ reported s t 0x0F03 0 ∧ t.mem = s.mem)) ∧
    (rget s .mcStatus_ready 0 = 0 ∨ rget s .pwrState_target 0 ≠ 1 ∨ rget s .pwrState_state 0 ≠ 0 ∨ working s = true → noEffect .idleEntry s) ∧
    (∀ (h : CmdRef) (n : BitVec 8), mayRun 0x61 h s = true → h.ctx = 0 →
      (2 < n.toNat → leadsTo (.powerState h n) s (fun t => replied h 0x0016 0 t = true ∧ onlyJournal s t)) ∧
      (n.toNat < 2 → leadsTo (.powerState h n) s (fun t => replied h 0x0000 0 t = true ∧ rget t .pwrState_target 0 = n.toNat ∧
        (n = 0 → rget t .pwrState_state 0 ≠ 1))) ∧
      (n = 2 → fallowRefused s h ≠ 0 → leadsTo (.powerState h n) s (fun t => replied h 0x0060 (fallowRefused s h) t = true ∧ onlyJournal s t)) ∧
      (n = 2 → fallowRefused s h = 0 → leadsTo (.powerState h n) s (fun t => waitsOn h .fallow t = true ∧ rget t .pwrState_target 0 = 2 ∧
        rget t .pwrState_state 0 = 3))) ∧
    ((st ≠ 3 → noEffect .fallowEntryDone s) ∧
      (st = 3 → leadsTo .fallowEntryDone s (fun t => rget t .pwrState_state 0 = 2 ∧ reported s t 0x0F03 0 ∧ t.core = [] ∧ t.pow.isl = [] ∧
        (∀ r ∈ t.ctl.journal, r.state = .issued → r.wait ≠ .fallow))) ∧
      (∀ cause, st ≠ 2 → st ≠ 3 → noEffect (.fallowExit cause) s) ∧
      (∀ cause, st = 2 → leadsTo (.fallowExit cause) s (fun t => rget t .pwrState_state 0 = 4 ∧ reported s t 0x0F03 0 ∧ t.mem = s.mem ∧
        (rget s .pwrFallowCount_count 0 < 2 ^ 32 - 1 → rget t .pwrFallowCount_count 0 = rget s .pwrFallowCount_count 0 + 1))) ∧
      (∀ cause, st = 3 → leadsTo (.fallowExit cause) s (fun t => rget t .pwrState_state 0 = 1 ∧ rget t .pwrState_target 0 = 1 ∧ reported s t 0x0F03 0 ∧
        ∀ c r, waiting s c .fallow r → answered t r 0x0000 1)) ∧
      (st ≠ 4 → noEffect .fallowExitDone s) ∧
      (st = 4 → leadsTo .fallowExitDone s (fun t => rget t .pwrState_state 0 = 1 ∧ rget t .pwrState_target 0 = 1 ∧ reported s t 0x0F03 0)))
/-! ### Hangs, resets, teardown, start and shutdown (ch. 16, 17, 19) -/

/-- R402, R403: a teardown ends when its engines have acknowledged and its tokens are back. R400, R402: a sweep token sets the generation and is
returned. R404: a token that does not come back quarantines the number of a context being destroyed, until it does. R405: VIGIL_FENCE fences an
engine. -/
def Obligations.TeardownsAndFences : Prop :=
  ∀ (s : State),
    (∀ c e : Nat,
      ((ctx? s c).elim true (fun x => x.teardown.elim true (fun k => !k.acks.contains e)) = true → noEffect (.teardownAck c e) s) ∧
      (∀ x k, ctx? s c = some x → x.teardown = some k → e ∈ k.acks →
        ((∃ a ∈ k.acks, a ≠ e) → leadsTo (.teardownAck c e) s (fun t => onlyCtl s t ∧ t.ctl.journal = s.ctl.journal ∧
          ctx? t c = some { x with teardown := some { k with acks := k.acks.filter (fun a => a != e) } })) ∧
        ((∀ a ∈ k.acks, a = e) → tokensOf s c = [] → sget [] s.vig.touch c = [] → (∀ r ∈ s.ctl.journal, r.ctx ≠ c) →
          (k.kind = .destroy → leadsTo (.teardownAck c e) s (fun t => ctx? t c = none ∧ (∀ q ∈ t.ctl.queues, q.2.ctx ≠ c) ∧ genOf t c = genOf s c ∧
            ∀ r ∈ s.ctl.journal, r.wait = .teardown c → r.state = .issued → r.again = none → answered t r 0x0000 (genOf s c % 256))) ∧
          (k.kind = .reset → leadsTo (.teardownAck c e) s (fun t => ctx? t c = some { x with teardown := none, held := false } ∧
            (∀ q y, queue? t q = some y → y.ctx = c → y.state = .active) ∧
            ∀ r ∈ s.ctl.journal, r.wait = .teardown c → r.state = .issued → r.again = none → answered t r 0x0000 0))))) ∧
    (∀ src c gen : Nat, leadsTo (.sweepToken src c gen) s (fun t => sget? t.vig.recvGen (genKey src c) = some gen ∧ t.mem = s.mem ∧
      (∀ m ∈ (stepOf t c).staged, m.sender ≠ src) ∧ .vc7 "SWEEP_RETURN" src [ownRoster s, c, gen] ∈ t.io.outbox)) ∧
    (∀ peer c gen : Nat, c < 256 →
      let quar := fun (t : State) => (rget t .vigilQuarantine_ctx (c / 64)).testBit (c % 64)
      let out := s.vig.tokens.any (fun x => x.1 == peer && x.2.1 == c)
      ((∀ x ∈ s.vig.tokens, ¬ (x.1 = peer ∧ x.2.1 = c ∧ x.2.2.1 = gen)) → noEffect (.sweepTokenReturn peer c gen) s) ∧
      ((∃ x ∈ s.vig.tokens, x.1 = peer ∧ x.2.1 = c ∧ x.2.2.1 = gen) → leadsTo (.sweepTokenReturn peer c gen) s (fun t =>
        t.vig.tokens = s.vig.tokens.filter (fun x => !(x.1 == peer && x.2.1 == c)) ∧
        ((∀ x ∈ s.vig.tokens, x.2.1 = c → x.1 = peer) → quar s = true → quar t = false ∧ reported s t 0x1005 0))) ∧
      (out = false → noEffect (.sweepTokenTimeout peer c) s) ∧
      (out = true → (ctx? s c).bind (·.teardown) = none → leadsTo (.sweepTokenTimeout peer c) s (fun t => t.vig = s.vig ∧
        rget t .troubleLog_sweepLate 0 = 1 ∧ .vc7 "SWEEP" peer [ownRoster s, c, genOf s c] ∈ t.io.outbox)) ∧
      (∀ k, out = true → (ctx? s c).bind (·.teardown) = some k → k.kind = .destroy → k.acks = [] → leadsTo (.sweepTokenTimeout peer c) s (fun t =>
        quar t = true ∧ ctx? t c = none ∧ rget t .vigilStatus_quarantineSeen 0 = 1 ∧ reported s t 0x1004 0 ∧
        ∀ r ∈ s.ctl.journal, r.ctx ≠ c → r.wait = .teardown c → r.state = .issued → r.again = none → answered t r 0x0000 (genOf s c % 256 + 256)))) ∧
    (∀ v : BitVec 32, notServed s 0 = false →
      let kind := bits v.toNat 28 3
      let i := bits v.toNat 0 8
      ((v.getLsbD 31 = false ∨ (kind < 3 ∧ 4 ≤ i) ∨ (kind = 3 ∧ 112 ≤ i) ∨ 3 < kind) → leadsTo (.vigilFence 0 v) s (fun t => t = dropLatch 0 s)) ∧
      (v.getLsbD 31 = true → kind < 3 → i < 4 → leadsTo (.vigilFence 0 v) s (fun t => (rget t .vigilFenced_engines 0).testBit (4 * kind + i) = true ∧
        reported s t 0x1006 0)) ∧
      (v.getLsbD 31 = true → kind = 3 → i < 112 → leadsTo (.vigilFence 0 v) s (fun t => i ∈ t.sp.unitsOff ∧ reported s t 0x1006 0)))

/-- R391, R393, R399: a hang is counted, reported and met by the first reset of Table 16.1; on a unit that is covered none is declared; a task that
hangs again is a fault of its graph. R393, R397: a reset that misses its deadline goes on to the next level, the last of which asks for a power cycle.
R394, R396: a completed reset is counted and reported, and after a module reset the module accepts again. -/
def Obligations.HangsAndResets : Prop :=
  ∀ (s : State),
    (∀ (kind unit die c run : Nat) (tasks cls : List Nat),
      let hang := Instr.vigilHang kind unit die c run tasks cls
      (notHung kind die c run s = true ∨ 8 < kind → noEffect hang s) ∧
      (notHung kind die c run s = false → kind ≤ 8 → leadsTo hang s (fun t => rget t .vigilStatus_hangSeen 0 = 1 ∧
        rget t .troubleLog_vigilHang 0 = 1 ∧ reported s t 0x1001 (if kind < 6 then c else 0) ∧
        (kind = 8 → rget t .mcStatus_controller 0 ≠ 0) ∧
        (kind = 0 → hungBefore s run tasks ≠ [] → rget t .troubleLog_repeatHang 0 = 1) ∧
        (kind ≠ 8 → (kind = 0 → hungBefore s run tasks = []) → s.vig.resets = [] →
          let r := firstReset kind unit die c cls s
          t.vig.resets = [r] ∧ (kind < 6 → r.level ≤ 1 ∧ (0 < kind → r.level = 0) ∧ r.ctx = some c) ∧ (6 ≤ kind → r.level = 3))))) ∧
    (∀ level unit : Nat, s.pow.under = true ∨ resetAt s level unit = none → noEffect (.resetEscalated level unit) s ∧ ∀ us, noEffect (.resetDone level unit us) s) ∧
    (∀ (r : ResetInfo) (unit : Nat), s.pow.under = false → s.vig.resets = [r] → r.unit = unit →
      (r.level < 4 → leadsTo (.resetEscalated r.level unit) s (fun t => rget t .vigilStatus_escalationSeen 0 = 1 ∧
        (∃ x, t.vig.resets = [x] ∧ x.level = (nextReset r s).level ∧ x.unit = unit ∧ x.die = r.die) ∧
        r.level < (nextReset r s).level ∧ (nextReset r s).level ≤ 4 ∧ ((nextReset r s).level = 4 → rget t .mcStatus_ready 0 = 0) ∧ reported s t 0x1003 0)) ∧
      (r.level = 4 → leadsTo (.resetEscalated 4 unit) s (fun t => t.boot.cycleReq = true ∧ rget t .troubleLog_cycleReq 0 = 1 ∧ reported s t 0x1003 0 ∧
        t.vig.resets = [r] ∧ (rget s .troubleCycles_count 0 < 2 ^ 32 - 1 → rget t .troubleCycles_count 0 = rget s .troubleCycles_count 0 + 1))) ∧
      (∀ us, r.level ≤ 4 → unit < 65536 → leadsTo (.resetDone r.level unit us) s (fun t => t.vig.resets = [] ∧ rget t .troubleLastUnit_level 0 = r.level ∧
        rget t .troubleLastUnit_index 0 = unit ∧ reported s t 0x1002 (if r.level = 0 then r.ctx.getD 0 else 0) ∧
        (rget s .vigilResetCount_count r.level < 2 ^ 32 - 1 → rget t .vigilResetCount_count r.level = rget s .vigilResetCount_count r.level + 1) ∧
        (r.level = 4 → rget t .mcStatus_ready 0 = 1 ∧ rget t .mcStatus_controller 0 = 0))))

/-- R418, R470, Table 17.8: power-good samples the straps and runs the preferred image, else the other, else the module is HELD with a reason; the end
of the start makes the module ready, or HELD. R422, R424, R425: the request pin is a trigger, before ready it begins the Ember test at once; at the
end of quiescing the phase is EMBER and testing has destroyed what memory held. R427, R428, R417: the result is driven and the security version
advances. R468. -/
def Obligations.StartsAndShutdowns : Prop :=
  ∀ (s : State),
    (∀ (l : List (BitVec 2)) (otp fd : Bool),
      let go := Instr.powerGood l otp fd
      let d := strapDecode (l.map (·.toNat))
      let b := s.boot.prefB
      let heldAs := fun (n : Nat) => leadsTo go s (fun t => phase t = 3 ∧ rget t .mcBootStatus_heldReason 0 = n ∧ t.boot.powered = true ∧
        rget t .mcStatus_ready 0 = 0)
      let runs := fun (slot fb : Bool) => leadsTo go s (fun t => phase t = 1 ∧ t.boot.powered = true ∧ t.boot.starting = true ∧
        rget t .mcBootStatus_slot 0 = b2n slot ∧ rget t .mcBootStatus_fallback 0 = b2n fb ∧ rget t .mcStraps_slot 0 = (d.getD (0, 0, 0)).1 ∧
        ∀ p, p < 32 → rget t .linkPortState_state p = 1)
      (s.boot.powered = true → noEffect go s) ∧
      (s.boot.powered = false → (d = none → heldAs 0xA) ∧ (d ≠ none → (otp = false → heldAs 4) ∧ (otp = true → fd = false → heldAs 5) ∧
        (otp = true → fd = true → (slotCheck s b = 0 → runs b false) ∧ (slotCheck s b ≠ 0 → slotCheck s (!b) = 0 → runs (!b) true) ∧
          (slotCheck s b ≠ 0 → slotCheck s (!b) ≠ 0 → heldAs (if slotCheck s b = 5 ∧ slotCheck s (!b) = 5 then 3 else 2)))))) ∧
    (∀ (sec : Nat) (fd b0 : Bool) (lv : Option Nat) (f : TestFound),
      let cold := !quickStart s lv.isNone
      let s1 := lv.elim s (fun n => loadSnap (snapAt s n) s)
      let s2 := if cold = true ∧ s1.alm.refurb = true then refurbish f s1 else s1
      let held := startHeld (planIslands cold (applyFound f s2)) cold fd b0 f
      (phase s ≠ 1 ∨ s.boot.starting = false → noEffect (.startComplete sec fd b0 lv f) s) ∧
      (phase s = 1 → s.boot.starting = true →
        (∀ n, held = some n → leadsTo (.startComplete sec fd b0 lv f) s (fun t => phase t = 3 ∧ rget t .mcBootStatus_heldReason 0 = n ∧
          rget t .mcStatus_ready 0 = 0)) ∧
        (held = none → leadsTo (.startComplete sec fd b0 lv f) s (fun t => phase t = 1 ∧ rget t .mcStatus_ready 0 = 1 ∧ t.boot.starting = false ∧
          rget t .mcBootStatus_cold 0 = b2n cold ∧ rget t .mcBootStatus_startS 0 = satTo 8 sec ∧ reported s t 0x1101 0)))) ∧
    ((phase s ≠ 1 ∨ 2 ≤ s.boot.trigger) → noEffect .shutdownReqN s) ∧
    (phase s = 1 → s.boot.trigger < 2 → s.boot.starting = true → leadsTo .shutdownReqN s (fun t => phase t = 2 ∧ rget t .mcStatus_ready 0 = 0 ∧
      t.boot.emberDone = false)) ∧
    (phase s = 1 → s.boot.trigger < 2 → s.boot.starting = false → leadsTo .shutdownReqN s (fun t => t.boot = { s.boot with trigger := s.boot.trigger ||| 2 } ∧
      phase t = 1 ∧ (rget s .pwrState_state 0 = 2 → rget t .pwrState_state 0 = 4))) ∧
    ((phase s ≠ 1 ∨ s.boot.trigger = 0 ∨ rget s .pwrState_state 0 = 4) → noEffect .quiesceTimeout s) ∧
    (phase s = 1 → s.boot.trigger ≠ 0 → rget s .pwrState_state 0 ≠ 4 → leadsTo .quiesceTimeout s (fun t => phase t = 2 ∧ rget t .mcStatus_ready 0 = 0 ∧
      t.eng = [] ∧ t.gr.runs = [] ∧ (∀ r ∈ t.ctl.journal, r.state = .issued → r.wait ≠ .quiesce) ∧
      ∀ k, ¬ (16 * 2 ^ 50 ≤ k ∧ k < 20 * 2 ^ 50) → sget 0 t.mem.bytes k = 0)) ∧
    (∀ (ms : Nat) (f : TestFound),
      let drives := fun (i : Instr) (code : Nat) => leadsTo i s (fun t => t.boot.emberDone = true ∧ t.boot.off = true ∧ phase t = 2 ∧
        t.boot.result = (if rget s .almanacUsed_blocks 0 < 4096 then code else 5) ∧
        t.boot.counter = (if rget s .almanacUsed_blocks 0 < 4096 ∧ code ≤ 2 then Max.max s.boot.counter (rget s .mcFwSvn_image 0) else s.boot.counter))
      ((phase s ≠ 2 ∨ s.boot.off = true) → noEffect (.emberDone ms f) s ∧ noEffect .emberTimeout s) ∧
      (phase s = 2 → s.boot.off = false → drives (.emberDone ms f) (resultCode (applyFound f s) f) ∧ drives .emberTimeout 4)) ∧
    (phase s = 1 → leadsTo .heartbeat s (fun t => t = { s with boot := { s.boot with heartbeat := !s.boot.heartbeat } })) ∧
    (phase s ≠ 1 → noEffect .heartbeat s)
/-! ### The host interface and the registers (ch. 18, 20) -/

/-- R443, R444: Bus Master Enable and D3hot stop a function's messages and DMA, which go on when both allow them. R438: VF Enable. R444, R405: a
function-level reset disables the function's contexts, and its end is reported. R437: a hot reset is that of PF 0; the link goes down and up. R443: an
unmasked vector sends what was pending. R439: the size of BAR 4. R454: a CXL port changes, and a different device leaves its range unmapped. -/
def Obligations.HostFunctions : Prop :=
  ∀ (s : State),
    (∀ fn : Nat, let v := sget 1 s.host.noDma fn
      (fnUp s fn = false → ∀ i ∈ [Instr.busMasterEnableClear fn, .busMasterEnableSet fn, .d3hot fn, .d0Entry fn, .functionLevelReset fn], noEffect i s) ∧
      (fnUp s fn = true →
        (∀ p ∈ [(Instr.busMasterEnableClear fn, 1), (.d3hot fn, 2)], leadsTo p.1 s (fun t => { t with host := { t.host with noDma := s.host.noDma } } = s ∧
          ∀ j, sget 1 t.host.noDma j = if j = fn then v ||| p.2 else sget 1 s.host.noDma j)) ∧
        (∀ p ∈ [(Instr.busMasterEnableSet fn, 1), (.d0Entry fn, 2)], leadsTo p.1 s (fun t => sget 1 t.host.noDma fn = v - (v &&& p.2) ∧
          (v = p.2 → rget s .hostifLink_up 0 ≠ 0 → ∀ k, k < 2048 → sget false s.host.msixPend (fn * 2048 + k) = true →
            sget false s.host.msixOpen (fn * 2048 + k) = true → .msix fn k ∈ t.io.outbox))) ∧
        leadsTo (.functionLevelReset fn) s (fun t => fn ∈ t.host.flr ∧ fnUp t fn = false ∧ rget t .hostifStatus_flrSeen 0 = 1 ∧ rget t .troubleLog_flr 0 = 1 ∧
          (fn = 0 → rget t .queueAdminCfg_enable 0 = 0 ∧ rget t .hostifVf_enable 0 = 0) ∧
          (fn ≠ 0 → rget s .mcStatus_ready 0 ≠ 0 → ∀ q z, queue? t q = some z → (ctx? s z.ctx).isSome = true → fnOf s z.ctx = fn → z.state = .disabled))) ∧
      (fn ∉ s.host.flr → noEffect (.functionLevelResetDone fn) s) ∧
      (fn ∈ s.host.flr → leadsTo (.functionLevelResetDone fn) s (fun t => fn ∉ t.host.flr ∧ sget 1 t.host.noDma fn = 1 ∧
        (fn = 0 → t.host.bar4Pf = 34 ∧ t.host.bar4Vf = 34) ∧
        (∀ n, fn ≠ 0 → s.host.disabling.find? (fun x => x.1 == fn) = some (fn, some n) → reported s t 0x1006 0))) ∧
      (∀ k, fnUp s fn = false ∨ 2048 ≤ k → leadsTo (.msixUnmask fn k) s (fun t => t = dropLatch fn s)) ∧
      (∀ k, fnUp s fn = true → k < 2048 → leadsTo (.msixUnmask fn k) s (fun t => sget false t.host.msixOpen (fn * 2048 + k) = true ∧ t.mem = s.mem ∧
        (sget false s.host.msixPend (fn * 2048 + k) = true → noDma s fn = false → sget false t.host.msixPend (fn * 2048 + k) = false ∧
          .msix fn k ∈ t.io.outbox))) ∧
      (∀ n, n < 30 ∨ 40 < n ∨ 63 < fn → noEffect (.bar4Resize fn n) s) ∧
      (∀ n, 30 ≤ n → n ≤ 40 → fn ≤ 63 → leadsTo (.bar4Resize fn n) s (fun t => bar4Log t fn = n ∧ t.regs = s.regs ∧ t.mem = s.mem))) ∧
    (∀ n : Nat, (63 < n ∨ fnUp s 0 = false ∨ rget s .hostifVf_enable 0 = 1 → noEffect (.vfEnableSet n) s) ∧
      (n ≤ 63 → fnUp s 0 = true → rget s .hostifVf_enable 0 ≠ 1 → leadsTo (.vfEnableSet n) s (fun t => { t with regs := s.regs } = s ∧
        rget t .hostifVf_enable 0 = 1 ∧ rget t .hostifVf_numVfs 0 = n))) ∧
    (rget s .hostifVf_enable 0 = 0 ∨ fnUp s 0 = false → noEffect .vfEnableClear s) ∧
    (rget s .hostifVf_enable 0 ≠ 0 → fnUp s 0 = true → leadsTo .vfEnableClear s (fun t => rget t .hostifVf_enable 0 = 0 ∧ (∀ n, n ≠ 0 → fnUp t n = false) ∧
      (rget s .mcStatus_ready 0 ≠ 0 → vfsOf s ≠ [] → reported s t 0x1006 0))) ∧
    leadsTo .hotReset s (fun t => rget t .hostifStatus_flrSeen 0 = 1 ∧ reported s t 0x1201 0 ∧ (fnUp s 0 = true → 0 ∈ t.host.flr)) ∧
    (rget s .hostifLink_up 0 = 0 → noEffect .pcieLinkDown s) ∧
    (rget s .hostifLink_up 0 ≠ 0 → leadsTo .pcieLinkDown s (fun t => rget t .hostifLink_up 0 = 0 ∧ rget t .hostifStatus_linkDownSeen 0 = 1 ∧
      (∀ fn, noDma t fn = true) ∧ reported s t 0x1201 0 ∧ t.mem = s.mem)) ∧
    (∀ (w r : Nat) (fl : Bool), let same := rget s .hostifLink_up 0 = 1 ∧ rget s .hostifLink_width 0 = w ∧ rget s .hostifLink_rate 0 = r
      (w ∉ [16, 8, 4] ∨ r = 0 ∨ 6 < r ∨ phase s = 0 ∨ phase s = 3 ∨ same → noEffect (.pcieLinkUp w r fl) s) ∧
      (w ∈ [16, 8, 4] → 1 ≤ r → r ≤ 6 → phase s ≠ 0 → phase s ≠ 3 → ¬ same → leadsTo (.pcieLinkUp w r fl) s (fun t => rget t .hostifLink_up 0 = 1 ∧
        rget t .hostifLink_width 0 = w ∧ rget t .hostifLink_rate 0 = r ∧ rget t .hostifLink_flit 0 = b2n fl ∧ reported s t 0x1201 0))) ∧
    (∀ (m w r : Nat) (up pres : Bool) (ser cap : Word64), (4 ≤ m → noEffect (.cxlPortChanged m up pres w r ser cap) s) ∧
      (m < 4 → w < 32 → r < 8 → leadsTo (.cxlPortChanged m up pres w r ser cap) s (fun t => rget t .fdieCxlPort_up m = b2n up ∧
        rget t .fdieCxlPort_present m = b2n pres ∧ rget t .fdieCxlPort_width m = (if up = true then w else 0) ∧ rget t .fdieCxlPort_rate m = r ∧
        reported s t 0x1202 0 ∧ t.mem = s.mem ∧ (rget s .fdieCxlPort_up m = 1 → up = false → rget t .fdieCxlStatus_downSeen m = 1) ∧
        (up = true → pres = true → rget t .fdieCxlCapacity_bytes m = cap.toNat ∧ sget 0 t.host.cxlDev m = ser.toNat ∧
          (sget 0 s.host.cxlMapped m ≠ ser.toNat → rget t .fdieCxlMapBytes_bytes m = 0 ∧ rget t .fdieCxlMapBase_offset m = 0) ∧
          (sget 0 s.host.cxlMapped m = ser.toNat → rget t .fdieCxlMapBytes_bytes m = rget s .fdieCxlMapBytes_bytes m)))))

/-- R477: a read of the low half latches the high half, and a read of the high half returns what was latched. R478, R479: an access that is not
aligned, is of another width, of a function that does not answer, of a VF to the registers of PF 0, or of a block that a module reset holds, writes
nothing. Table 0.4: an RW field takes a value of its range, a one clears an ST bit, and a write of zero clears a SAT field that it covers (R480).
R442: the MSI-X table. A doorbell or a register with a command of its own is that command. -/
def Obligations.RegisterAccesses : Prop :=
  ∀ (s : State),
    (∀ fn off : Nat,
      let answers := fun (b : List Byte) => leadsTo (.halfReadLatch fn off) s (fun t => t.regs = s.regs ∧ t.mem = s.mem ∧ t.io.readData = b ∧
        .pcie fn false b ∈ t.io.outbox ∧ (off % 8 ≠ 0 → sget? t.io.latch fn = none))
      (fnUp s fn = false → leadsTo (.halfReadLatch fn off) s (fun t => t.regs = s.regs ∧ .pcie fn true [] ∈ t.io.outbox)) ∧
      (fnUp s fn = true →
        (off % 4 ≠ 0 → answers [0, 0, 0, 0]) ∧
        (off % 8 = 0 → answers (leBytes 4 (regRead s fn off % 2 ^ 32)) ∧ leadsTo (.halfReadLatch fn off) s (fun t =>
          sget? t.io.latch fn = some (off + 4, regRead s fn off / 2 ^ 32))) ∧
        (off % 8 = 4 →
          (∀ hi, sget? s.io.latch fn = some (off, hi) → answers (leBytes 4 hi)) ∧
          ((∀ hi, sget? s.io.latch fn ≠ some (off, hi)) → answers (leBytes 4 (regRead s fn (off - 4) / 2 ^ 32)))))) ∧
    (∀ (fn off n : Nat) (v : Word64), ∀ i ∈ [Instr.registerWrite fn off n v, .satClear fn off n v, .stClear fn off n v],
      (fnUp s fn = false ∨ (n ≠ 4 ∧ n ≠ 8) ∨ off % n ≠ 0 ∨ (fn ≠ 0 ∧ 0x8000 ≤ off ∧ off < 0x10000000) ∨
        (fn = 0 ∧ off < 0x10000000 ∧ ¬ (0x110000 ≤ off ∧ off < 0x118100) ∧ rget s .mcStatus_ready 0 = 0 ∧ 1 < blockOf off)) →
        leadsTo i s (fun t => t = dropLatch fn s)) ∧
    (∀ v : Word64, fnUp s 0 = true → rget s .mcStatus_ready 0 ≠ 0 →
      leadsTo (.registerWrite 0 0x00D00008 8 v) s (fun t => t.mem = s.mem ∧ t.ctl = s.ctl ∧ rget t .vigilCtl_hangMs 0 =
        if 10 ≤ v.toNat % 2 ^ 16 ∧ v.toNat % 2 ^ 16 ≤ 10000 then v.toNat % 2 ^ 16 else rget s .vigilCtl_hangMs 0) ∧
      leadsTo (.registerWrite 0 0x48 8 v) s (fun t => t.mem = s.mem ∧ rget t .mcBootCtl_forceCold 0 = v.toNat % 2) ∧
      leadsTo (.stClear 0 0x00D00000 8 v) s (fun t => t.mem = s.mem ∧
        (rget s .vigilStatus_hangSeen 0 ≤ 1 → rget t .vigilStatus_hangSeen 0 = if v.getLsbD 1 = true then 0 else rget s .vigilStatus_hangSeen 0) ∧
        (rget s .vigilStatus_escalationSeen 0 ≤ 1 → rget t .vigilStatus_escalationSeen 0 = if v.getLsbD 2 = true then 0 else rget s .vigilStatus_escalationSeen 0)) ∧
      (∀ n ∈ [4, 8], leadsTo (.satClear 0 0x00D00010 n v) s (fun t => t.mem = s.mem ∧ rget t .vigilHangCount_count 0 =
        if v.toNat % 2 ^ 32 = 0 then 0 else rget s .vigilHangCount_count 0)) ∧
      leadsTo (.satClear 0 0x00400040 4 0) s (fun t => rget t .pwrEnergy_mj 0 = rget s .pwrEnergy_mj 0) ∧
      leadsTo (.satClear 0 0x00400040 8 0) s (fun t => rget t .pwrEnergy_mj 0 = 0) ∧
      (∀ n ∈ [4, 8], exec (.registerWrite 0 0x00200010 n v) s = exec (.queueAdminCfg 0 (BitVec.ofNat 32 v.toNat)) (dropLatch 0 s) ∧
        exec (.registerWrite 0 0x00400018 n v) s = exec (.pwrTray 0 (BitVec.ofNat 32 v.toNat)) (dropLatch 0 s))) ∧
    (∀ (fn k j : Nat) (v : Word64), fn ≠ 0 → fnUp s fn = true → k < 2048 →
      (j < 3 → leadsTo (.registerWrite fn (16 * k + 4 * j) 4 v) s (fun t => t.regs = s.regs ∧ t.mem = s.mem ∧
        sget 0 t.host.msixTab (fn * 8192 + 4 * k + j) = v.toNat % 2 ^ 32)) ∧
      (v.getLsbD 0 = true → leadsTo (.registerWrite fn (16 * k + 12) 4 v) s (fun t => t.regs = s.regs ∧ t.mem = s.mem ∧
        sget false t.host.msixOpen (fn * 2048 + k) = false)) ∧
      (v.getLsbD 0 = false → leadsTo (.registerWrite fn (16 * k + 12) 4 v) s (fun t => sget false t.host.msixOpen (fn * 2048 + k) = true))) ∧
    (∀ (fn q : Nat) (v : Word64), fnUp s fn = true →
      exec (.registerWrite fn (0x10000000 + 4096 * q) 4 v) s = exec (.queueDbSqTail fn q (BitVec.ofNat 16 v.toNat) []) (dropLatch fn s) ∧
      exec (.registerWrite fn (0x10000010 + 4096 * q) 4 v) s = exec (.queueDbCqHead fn q (BitVec.ofNat 32 v.toNat)) (dropLatch fn s))
/-! ### The management interface (ch. 17, 18) -/

/-- R446 to R448, Table 18.6: a request on an interface that does not answer is dropped, and a vendor command that is not served in the phase is
refused with 0x01. R370: TRAY_SET. R448: TRAY_ID_SET before ready, ALMANAC_GET of a sealed block, STATUS_GET. R432: UNLOCK_NONCE and UNLOCK, one
attempt in 10 s. R447: the endpoint ID. R446: SETDASA at the static address. R452: the sensors, the event receiver, and the events that go to it or
keep ALERT_N low. -/
def Obligations.ManagementMessages : Prop :=
  ∀ (s : State) (pcie : Bool),
    let serves := fun (n : Nat) => serveVendor s pcie n = .served
    let sent := fun (t : State) (name : String) (l : List Nat) (b : List Byte) => .mctp name l b ∈ t.io.outbox
    let told := fun (t : State) => { t with io := { t.io with outbox := s.io.outbox } } = s
    (∀ (g p : BitVec 16) (id : BitVec 32) (seq : Word64) (off : BitVec 32) (len : BitVec 16) (ed ml : List Byte),
      ∀ x ∈ [(1, "TRAY_SET", Instr.traySet pcie g p), (2, "TRAY_ID_SET", .trayIdSet pcie id), (3, "ALMANAC_GET", .almanacGet pcie seq off len),
          (4, "UNLOCK_NONCE", .unlockNonce pcie), (5, "UNLOCK", .unlock pcie ed ml), (6, "STATUS_GET", .statusGet pcie)],
        (reachable? s pcie = false → noEffect x.2.2 s) ∧
        (serveVendor s pcie x.1 = .refused → leadsTo x.2.2 s (fun t => told t ∧ sent t x.2.1 [0x01] []))) ∧
    (∀ g p : BitVec 16, serves 1 →
      (4000 ≤ g.toNat → g.toNat ≤ 7200 → 4000 ≤ p.toNat → p.toNat ≤ 8000 → leadsTo (.traySet pcie g p) s (fun t => sent t "TRAY_SET" [0x00] [] ∧
        rget t .pwrTray_grantW 0 = g.toNat ∧ rget t .pwrTray_trayPeakW 0 = p.toNat ∧ rget t .pwrBudget_budgetW 0 = (budgetOf t).toNat % 2 ^ 16 ∧ t.mem = s.mem)) ∧
      (g.toNat < 4000 ∨ 7200 < g.toNat ∨ p.toNat < 4000 ∨ 8000 < p.toNat → leadsTo (.traySet pcie g p) s (fun t => told t ∧ sent t "TRAY_SET" [0x02] []))) ∧
    (∀ id : BitVec 32, serves 2 →
      (rget s .mcStatus_ready 0 = 1 → leadsTo (.trayIdSet pcie id) s (fun t => told t ∧ sent t "TRAY_ID_SET" [0x01] [])) ∧
      (rget s .mcStatus_ready 0 ≠ 1 → leadsTo (.trayIdSet pcie id) s (fun t => t.fab = { s.fab with trayId := id.toNat } ∧ t.regs = s.regs ∧
        sent t "TRAY_ID_SET" [0x00] []))) ∧
    (∀ (seq : Word64) (off : BitVec 32) (len : BitVec 16), serves 3 →
      let bad := rget s .almanacSeq_seq 0 < seq.toNat ∨ 1024 < len.toNat ∨ 65536 < off.toNat + len.toNat
      (bad → leadsTo (.almanacGet pcie seq off len) s (fun t => told t ∧ sent t "ALMANAC_GET" [0x02] [])) ∧
      (¬ bad → leadsTo (.almanacGet pcie seq off len) s (fun t => told t ∧
        sent t "ALMANAC_GET" [0x00] (((blockBytes s seq.toNat).drop off.toNat).take len.toNat)))) ∧
    (serves 4 →
      (∀ n, s.boot.nonce = some n → leadsTo (.unlockNonce pcie) s (fun t => told t ∧ sent t "UNLOCK_NONCE" [0x00] n)) ∧
      (s.boot.nonce = none → leadsTo (.unlockNonce pcie) s (fun t => ∃ n, t.boot = { s.boot with nonce := some n, nonceNo := s.boot.nonceNo + 1 } ∧
        n.length = 32 ∧ sent t "UNLOCK_NONCE" [0x00] n))) ∧
    (∀ ed ml : List Byte, serves 5 →
      let early := s.boot.unlockAt.elim false (fun t => decide (lcountOf s 0 < t + 10000000000)) = true
      (early → leadsTo (.unlock pcie ed ml) s (fun t => told t ∧ sent t "UNLOCK" [0x01] [])) ∧
      (¬ early → unlockOk s ed ml = true → leadsTo (.unlock pcie ed ml) s (fun t => sent t "UNLOCK" [0x00] [] ∧ t.boot.tapOpen = true ∧ t.boot.nonce = none ∧
        t.boot.unlockAt = some (lcountOf s 0) ∧ t.regs = s.regs)) ∧
      (¬ early → unlockOk s ed ml = false → leadsTo (.unlock pcie ed ml) s (fun t => sent t "UNLOCK" [0x02] [] ∧ t.boot.tapOpen = s.boot.tapOpen ∧
        t.boot.nonceNo = s.boot.nonceNo + 1 ∧ t.boot.unlockAt = some (lcountOf s 0)))) ∧
    (serves 6 → leadsTo (.statusGet pcie) s (fun t => told t ∧ sent t "STATUS_GET" [0x00] (statusBytes s))) ∧
    (∀ e : BitVec 8, serveType s pcie 0 = .served →
      (8 ≤ e.toNat → e.toNat ≠ 255 → leadsTo (.setEndpointId pcie e) s (fun t => t.host = { s.host with eid := e.toNat } ∧ t.regs = s.regs ∧
        sent t "SET_ENDPOINT_ID" [0x00, e.toNat] [])) ∧
      (e.toNat < 8 ∨ e.toNat = 255 → leadsTo (.setEndpointId pcie e) s (fun t => told t ∧ sent t "SET_ENDPOINT_ID" [0x02] []))) ∧
    (∀ a d : BitVec 7, let mine := s.boot.powered = true ∧ a.toNat = 0x30 + ownSlot s
      (mine → leadsTo (.setdasa a d) s (fun t => t = { s with host := { s.host with dynAddr := d.toNat } })) ∧ (¬ mine → noEffect (.setdasa a d) s)) ∧
    (∀ i : BitVec 16, serveType s pcie 1 = .served →
      (i.toNat ∈ numericSensors → leadsTo (.getSensorReading pcie i) s (fun t => told t ∧
        sent t "SENSOR_READING" [0x00, i.toNat, thresholdState s i.toNat] (leBytes 8 (sensorValue s i.toNat % 2 ^ 64).toNat))) ∧
      (i.toNat ∉ numericSensors → leadsTo (.getSensorReading pcie i) s (fun t => told t ∧ sent t "SENSOR_READING" [0x80] [])) ∧
      (i.toNat ∈ stateSensors → leadsTo (.getStateSensorReadings pcie i) s (fun t => told t ∧
        sent t "STATE_SENSOR_READINGS" [0x00, i.toNat, stateValue s i.toNat] [])) ∧
      (i.toNat ∉ stateSensors → leadsTo (.getStateSensorReadings pcie i) s (fun t => told t ∧ sent t "STATE_SENSOR_READINGS" [0x80] [])) ∧
      (∀ e : BitVec 8, leadsTo (.setEventReceiver pcie e) s (fun t => sent t "SET_EVENT_RECEIVER" [0x00] [] ∧ t.host.eventReceiver = some e.toNat ∧
        t.boot.alertN = true ∧ ∀ j ∈ changedSensors s, sent t "PLATFORM_EVENT" [e.toNat, j, sensorState s j] []))) ∧
    ((phase s = 0 ∨ inModuleReset s = true) → noEffect .pldmSensorUpdate s) ∧
    (phase s ≠ 0 → inModuleReset s = false →
      (s.host.eventReceiver = none → leadsTo .pldmSensorUpdate s (fun t => t = { s with boot := { s.boot with alertN := (changedSensors s).isEmpty } })) ∧
      (∀ e, s.host.eventReceiver = some e → leadsTo .pldmSensorUpdate s (fun t => t.boot.alertN = true ∧ t.regs = s.regs ∧
        ∀ j ∈ changedSensors s, sent t "PLATFORM_EVENT" [e, j, sensorState s j] [] ∧ sget 0 t.host.sensors j = sensorState s j)))

/-- R449 to R451: GET_VERSION starts the exchange, capabilities and algorithms follow it, and what the attestation key signs needs negotiated
algorithms: the digest of slot 0 alone, its chain, CHALLENGE and the measurements of Table 18.9, signed with Ed25519, and the ML-DSA half of that
signature on the request that follows it. A response longer than 4,096 bytes is held for CHUNK_GET. What comes out of turn, or names another slot or
index, is an error. -/
def Obligations.DeviceAttestation : Prop :=
  ∀ (s : State) (pcie : Bool), serveType s pcie 5 = .served →
    let sent := fun (t : State) (name : String) (b : List Byte) => (b.length ≤ 4096 → .mctp name [0x13] b ∈ t.io.outbox) ∧
      (4096 < b.length → t.host.chunk = b ∧ .mctp "LARGE_RESPONSE" [0x13, t.host.chunkNo] [] ∈ t.io.outbox)
    let errs := fun (i : Instr) (n : Nat) => leadsTo i s (fun t => .mctp "ERROR" [0x13, n] [] ∈ t.io.outbox ∧ t.host = { s.host with spdmLast := none })
    let noted := fun (t : State) (rq rs : List Byte) => t.host.transcript = s.host.transcript ++ rq ++ rs ∧ t.host.spdmLast = none
    (leadsTo (.getVersion pcie) s (fun t => sent t "VERSION" [0x13] ∧ t.host.negotiated = false ∧
      t.host.transcript = spdmMsg "GET_VERSION" [] ++ spdmMsg "VERSION" [0x13])) ∧
    (s.host.transcript = [] → errs (.getCapabilities pcie) 4 ∧ ∀ a b, errs (.negotiateAlgorithms pcie a b) 4) ∧
    (s.host.transcript ≠ [] →
      leadsTo (.getCapabilities pcie) s (fun t => sent t "CAPABILITIES" spdmCaps ∧ noted t (spdmMsg "GET_CAPABILITIES" []) (spdmMsg "CAPABILITIES" spdmCaps)) ∧
      (∀ a b, a = false ∨ b = false → errs (.negotiateAlgorithms pcie a b) 1) ∧
      leadsTo (.negotiateAlgorithms pcie true true) s (fun t => sent t "ALGORITHMS" [0x01, 0x01] ∧ t.host.negotiated = true)) ∧
    (s.host.negotiated = false → ∀ (slot idx : BitVec 8) (o l : BitVec 16) (n : List Byte) (sg : Bool),
      ∀ i ∈ [Instr.getDigests pcie, .getCertificate pcie slot o l, .challenge pcie slot n, .getMeasurements pcie idx sg n], errs i 4) ∧
    (s.host.negotiated = true → ∀ (slot idx : BitVec 8) (o l : BitVec 16) (n : List Byte),
      leadsTo (.getDigests pcie) s (fun t => sent t "DIGESTS" ([0x01] ++ sha256 chain) ∧
        noted t (spdmMsg "GET_DIGESTS" []) (spdmMsg "DIGESTS" ([0x01] ++ sha256 chain))) ∧
      (slot ≠ 0 ∨ chain.length ≤ o.toNat → errs (.getCertificate pcie slot o l) 1) ∧
      (o.toNat < chain.length → leadsTo (.getCertificate pcie 0 o l) s (fun t => sent t "CERTIFICATE" ((chain.drop o.toNat).take l.toNat))) ∧
      (slot ≠ 0 → errs (.challenge pcie slot n) 1) ∧
      (let rs := sha256 chain ++ spdmNonceOf s
        let m := s.host.transcript ++ spdmMsg "CHALLENGE" ([0] ++ n) ++ rs
        leadsTo (.challenge pcie 0 n) s (fun t => sent t "CHALLENGE_AUTH" (rs ++ signEd "attestation" m) ∧ t.host.spdmLast = some m)) ∧
      (measured idx.toNat = none → ∀ sg, errs (.getMeasurements pcie idx sg n) 1) ∧
      (∀ k, measured idx.toNat = some k →
        let b := (if k.isEmpty = true then [5#8] else k.flatMap (fun i => leBytes 1 i ++ leBytes 2 (measurement s i).length ++ measurement s i)) ++ spdmNonceOf s
        let m := s.host.transcript ++ spdmMsg "GET_MEASUREMENTS" ([idx, 1] ++ n) ++ b
        leadsTo (.getMeasurements pcie idx false n) s (fun t => sent t "MEASUREMENTS" b ∧ t.host.spdmLast = none) ∧
        leadsTo (.getMeasurements pcie idx true n) s (fun t => sent t "MEASUREMENTS" (b ++ signEd "attestation" m) ∧ t.host.spdmLast = some m))) ∧
    (s.host.spdmLast = none → errs (.getPqSignature pcie) 4) ∧
    (∀ m, s.host.spdmLast = some m → leadsTo (.getPqSignature pcie) s (fun t => sent t "PQ_SIGNATURE" (signMl "attestation" "Decperon SPDM v1" m) ∧
      t.host.spdmLast = none)) ∧
    leadsTo (.getPqKey pcie) s (fun t => sent t "PQ_KEY" (mlKey "attestation" ++ deviceCert)) ∧
    (∀ (hd : BitVec 8) (i : BitVec 16), let b := (s.host.chunk.drop (4096 * i.toNat)).take 4096
      (hd.toNat = s.host.chunkNo → b ≠ [] → leadsTo (.chunkGet pcie hd i) s (fun t => { t with io := { t.io with outbox := s.io.outbox } } = s ∧
        .mctp "CHUNK_RESPONSE" [0x13, hd.toNat, i.toNat] b ∈ t.io.outbox)) ∧
      (hd.toNat ≠ s.host.chunkNo ∨ b = [] → leadsTo (.chunkGet pcie hd i) s (fun t => { t with io := { t.io with outbox := s.io.outbox } } = s ∧
        .mctp "ERROR" [0x13, 1] [] ∈ t.io.outbox)))

end
end

