-- ==== Sys2Proof/Laws/SMap.lean ====
section
/-! SUPPORT. The laws of the sparse map: a read after a write, and the canonical form that every operation keeps. -/

namespace Sys2Proof.Machine

variable {α : Type}

/-! ### Reads after writes -/

@[simp] theorem sget_nil (d : α) (k : Nat) : sget d [] k = d := rfl

theorem sget_cons (d : α) (k' : Nat) (v : α) (m : SMap α) (k : Nat) :
    sget d ((k', v) :: m) k = if k' = k then v else sget d m k := rfl

theorem sget_sdel (d : α) (m : SMap α) (k j : Nat) : sget d (sdel m k) j = if j = k then d else sget d m j := by
  induction m with
  | nil => simp [sdel]
  | cons p m ih =>
    obtain ⟨k', v⟩ := p
    by_cases h : k' = k
    · by_cases e : j = k
      · subst e; simpa [sdel, h] using ih
      · simp [sdel, sget_cons, h, ih, e, Ne.symm e]
    · by_cases e : j = k
      · subst e; simpa [sdel, sget_cons, h] using ih
      · simp [sdel, sget_cons, h, ih, e]

theorem sget_sins (d v : α) (m : SMap α) (k j : Nat) (h : sget? m k = none) :
    sget d (sins k v m) j = if j = k then v else sget d m j := by
  induction m with
  | nil => simp [sins, sget_cons, eq_comm]
  | cons p m ih =>
    obtain ⟨k', w⟩ := p
    have hk : k' ≠ k := by intro e; simp [sget?, e] at h
    have hm : sget? m k = none := by simpa [sget?, hk] using h
    by_cases hj : j = k
    · subst hj; by_cases c : j < k' <;> simp [sins, sget_cons, c, ih hm, hk]
    · have hj' : ¬ k = j := fun e => hj e.symm
      by_cases c : k < k' <;> simp [sins, sget_cons, c, ih hm, hj, hj']

theorem sget?_sdel (m : SMap α) (k j : Nat) : sget? (sdel m k) j = if j = k then none else sget? m j := by
  induction m with
  | nil => simp [sdel, sget?]
  | cons p m ih =>
    obtain ⟨k', v⟩ := p
    by_cases h : k' = k
    · by_cases e : j = k
      · subst e; simpa [sdel, h] using ih
      · simp [sdel, sget?, h, ih, e, Ne.symm e]
    · by_cases e : j = k
      · subst e; simpa [sdel, sget?, h] using ih
      · simp [sdel, sget?, h, ih, e]

theorem sget?_sins (v : α) (m : SMap α) (k j : Nat) (h : sget? m k = none) :
    sget? (sins k v m) j = if j = k then some v else sget? m j := by
  induction m with
  | nil => simp [sins, sget?, eq_comm]
  | cons p m ih =>
    obtain ⟨k', w⟩ := p
    have hk : k' ≠ k := by intro e; simp [sget?, e] at h
    have hm : sget? m k = none := by simpa [sget?, hk] using h
    by_cases hj : j = k
    · subst hj; by_cases c : j < k' <;> simp [sins, sget?, c, ih hm, hk]
    · have hj' : ¬ k = j := fun e => hj e.symm
      by_cases c : k < k' <;> simp [sins, sget?, c, ih hm, hj, hj']

/-- A read after a write: the written key reads as written, every other key as before. -/
theorem sget_sset [DecidableEq α] (d v : α) (m : SMap α) (k j : Nat) :
    sget d (sset d m k v) j = if j = k then v else sget d m j := by
  unfold sset
  split
  · next h => subst h; exact sget_sdel v m k j
  · rw [sget_sins d v _ k j (by rw [sget?_sdel]; simp), sget_sdel]; split <;> simp_all

@[simp] theorem sget_sset_same [DecidableEq α] (d v : α) (m : SMap α) (k : Nat) : sget d (sset d m k v) k = v := by
  simp [sget_sset]

theorem sget_sset_ne [DecidableEq α] (d v : α) (m : SMap α) {k j : Nat} (h : j ≠ k) : sget d (sset d m k v) j = sget d m j := by
  simp [sget_sset, h]

/-- A key that was not written reads as before, whatever it is read with. -/
theorem sget_sset_other [DecidableEq α] (d e v : α) (m : SMap α) {k j : Nat} (h : j ≠ k) : sget e (sset d m k v) j = sget e m j := by
  unfold sset
  split
  · rw [sget_sdel, if_neg h]
  · rw [sget_sins e v _ k j (by rw [sget?_sdel]; simp), if_neg h, sget_sdel, if_neg h]

/-- The same for a map with no default value. -/
theorem sget?_sput (v : α) (m : SMap α) (k j : Nat) : sget? (sput m k v) j = if j = k then some v else sget? m j := by
  unfold sput
  rw [sget?_sins v _ k j (by rw [sget?_sdel]; simp), sget?_sdel]; split <;> simp_all

@[simp] theorem sget?_sput_same (v : α) (m : SMap α) (k : Nat) : sget? (sput m k v) k = some v := by simp [sget?_sput]

theorem sget?_sput_ne (v : α) (m : SMap α) {k j : Nat} (h : j ≠ k) : sget? (sput m k v) j = sget? m j := by simp [sget?_sput, h]

/-- A range written: inside it the new values, outside it what was there. -/
theorem sget_ssetN [DecidableEq α] (d : α) (vs : List α) (m : SMap α) (k j : Nat) :
    sget d (ssetN d m k vs) j = if k ≤ j then (vs[j - k]?).getD (sget d m j) else sget d m j := by
  induction vs generalizing m k with
  | nil => simp [ssetN]
  | cons v vs ih =>
    rw [ssetN, ih, sget_sset]
    by_cases h : k + 1 ≤ j
    · have e : j - k = j - (k + 1) + 1 := by omega
      simp [h, show k ≤ j by omega, show j ≠ k by omega, e]
    · by_cases e : j = k
      · subst e; simp
      · simp [h, e, show ¬ k ≤ j by omega]

theorem length_sgetN (d : α) (m : SMap α) (k n : Nat) : (sgetN d m k n).length = n := by
  induction n generalizing k with
  | zero => rfl
  | succ n ih => simp [sgetN, ih]

/-! ### The canonical form -/

theorem swfFrom_mono [DecidableEq α] (d : α) {m : SMap α} {lo lo' : Nat} (h : swfFrom d lo m = true) (hl : lo' ≤ lo) :
    swfFrom d lo' m = true := by
  cases m with
  | nil => rfl
  | cons p m => simp only [swfFrom, Bool.and_eq_true, decide_eq_true_eq] at h ⊢; exact ⟨⟨by omega, h.1.2⟩, h.2⟩

theorem swfFrom_sdel [DecidableEq α] (d : α) (k : Nat) {m : SMap α} {lo : Nat} (h : swfFrom d lo m = true) :
    swfFrom d lo (sdel m k) = true := by
  induction m generalizing lo with
  | nil => rfl
  | cons p m ih =>
    obtain ⟨k', v⟩ := p
    simp only [swfFrom, Bool.and_eq_true, decide_eq_true_eq] at h
    by_cases e : k' = k
    · simp only [sdel, e, if_true]; exact swfFrom_mono d (ih h.2) (by omega)
    · simp only [sdel, e, if_false, swfFrom, Bool.and_eq_true, decide_eq_true_eq]; exact ⟨h.1, ih h.2⟩

theorem swfFrom_sins [DecidableEq α] (d v : α) (k : Nat) {m : SMap α} {lo : Nat} (h : swfFrom d lo m = true) (hk : sget? m k = none)
    (hl : lo ≤ k) (hv : v ≠ d) : swfFrom d lo (sins k v m) = true := by
  induction m generalizing lo with
  | nil => simp [sins, swfFrom, hl, hv]
  | cons p m ih =>
    obtain ⟨k', w⟩ := p
    simp only [swfFrom, Bool.and_eq_true, decide_eq_true_eq] at h
    have hne : k' ≠ k := by intro e; simp [sget?, e] at hk
    have hm : sget? m k = none := by simpa [sget?, hne] using hk
    by_cases c : k < k'
    · simp only [sins, c, if_true, swfFrom, Bool.and_eq_true, decide_eq_true_eq]; exact ⟨⟨hl, hv⟩, ⟨by omega, h.1.2⟩, h.2⟩
    · simp only [sins, c, if_false, swfFrom, Bool.and_eq_true, decide_eq_true_eq]; exact ⟨h.1, ih h.2 hm (by omega)⟩

/-- Writing one key keeps the canonical form. -/
theorem swf_sset [DecidableEq α] (d : α) (m : SMap α) (k : Nat) (v : α) (h : swf d m = true) : swf d (sset d m k v) = true := by
  unfold sset swf at *
  split
  · exact swfFrom_sdel d k h
  · next hv => exact swfFrom_sins d v k (swfFrom_sdel d k h) (by rw [sget?_sdel]; simp) (Nat.zero_le k) hv

/-- Writing a range keeps it. -/
theorem swf_ssetN [DecidableEq α] (d : α) (vs : List α) (m : SMap α) (k : Nat) (h : swf d m = true) : swf d (ssetN d m k vs) = true := by
  induction vs generalizing m k with
  | nil => exact h
  | cons v vs ih => exact ih _ _ (swf_sset d m k v h)

theorem swfFrom_filter [DecidableEq α] (d : α) (p : Nat × α → Bool) {m : SMap α} {lo : Nat} (h : swfFrom d lo m = true) :
    swfFrom d lo (m.filter p) = true := by
  induction m generalizing lo with
  | nil => rfl
  | cons q m ih =>
    simp only [swfFrom, Bool.and_eq_true, decide_eq_true_eq] at h
    cases e : p q
    · simp only [List.filter, e]; exact swfFrom_mono d (ih h.2) (by omega)
    · simp only [List.filter, e, swfFrom, Bool.and_eq_true, decide_eq_true_eq]; exact ⟨h.1, ih h.2⟩

/-- Clearing a range keeps it. -/
theorem swf_sclear [DecidableEq α] (d : α) (m : SMap α) (k n : Nat) (h : swf d m = true) : swf d (sclear m k n) = true :=
  swfFrom_filter d _ h

/-- Everything listed from `lo` up is at `lo` or above. -/
theorem swfFrom_mem [DecidableEq α] (d : α) {m : SMap α} {lo : Nat} (h : swfFrom d lo m = true) {x : Nat × α} (hx : x ∈ m) :
    lo ≤ x.1 ∧ x.2 ≠ d := by
  induction m generalizing lo with
  | nil => cases hx
  | cons q m ih =>
    simp only [swfFrom, Bool.and_eq_true, decide_eq_true_eq] at h
    rcases List.mem_cons.1 hx with e | hm
    · subst e; exact h.1
    · exact ⟨by have := (ih h.2 hm).1; omega, (ih h.2 hm).2⟩

theorem sget?_none_of_not_mem (m : SMap α) (k : Nat) (h : ∀ x ∈ m, x.1 ≠ k) : sget? m k = none := by
  induction m with
  | nil => rfl
  | cons q m ih =>
    obtain ⟨k', v⟩ := q
    simp only [sget?, h (k', v) (by simp), if_false]
    exact ih (fun x hx => h x (List.mem_cons_of_mem _ hx))

theorem sins_mem (k : Nat) (v : α) (m : SMap α) (x : Nat × α) : x ∈ sins k v m ↔ x = (k, v) ∨ x ∈ m := by
  induction m with
  | nil => simp [sins]
  | cons q m ih => obtain ⟨k', w⟩ := q; by_cases c : k < k' <;> simp [sins, c, ih, or_left_comm]

/-- Entries of rising keys put into a map that lists none of them keep the canonical form. -/
theorem swf_foldl_sins [DecidableEq α] (d : α) (g : Nat → Nat) (l m : SMap α) {lo : Nat} (hl : swfFrom d lo l = true) (hm : swf d m = true)
    (inj : ∀ x ∈ l, ∀ y ∈ l, g x.1 = g y.1 → x.1 = y.1) (fresh : ∀ x ∈ l, ∀ y ∈ m, y.1 ≠ g x.1) :
    swf d (l.foldl (fun m x => sins (g x.1) x.2 m) m) = true := by
  induction l generalizing m lo with
  | nil => exact hm
  | cons q l ih =>
    obtain ⟨k, v⟩ := q
    have h0 := hl
    simp only [swfFrom, Bool.and_eq_true, decide_eq_true_eq] at hl
    refine ih _ hl.2 ?_ (fun x hx y hy => inj x (List.mem_cons_of_mem _ hx) y (List.mem_cons_of_mem _ hy)) ?_
    · exact swfFrom_sins d v _ hm (sget?_none_of_not_mem _ _ (fun y hy => fresh (k, v) (by simp) y hy)) (Nat.zero_le _) hl.1.2
    · intro x hx y hy
      rcases (sins_mem _ _ _ _).1 hy with e | hy
      · subst e
        intro e
        have := inj (k, v) (by simp) x (List.mem_cons_of_mem _ hx) e
        have := (swfFrom_mem d hl.2 hx).1
        simp at *; omega
      · exact fresh x (List.mem_cons_of_mem _ hx) y hy

/-- Copying a range keeps the canonical form. -/
theorem swf_scopy [DecidableEq α] (d : α) (m : SMap α) (dst src n : Nat) (h : swf d m = true) : swf d (scopy m dst src n) = true := by
  refine swf_foldl_sins d (fun k => k - src + dst) (srange m src n) _ (swfFrom_filter d _ h) (swf_sclear d m dst n h) ?_ ?_
  · intro x hx y hy e
    simp [srange] at hx hy; omega
  · intro x hx y hy
    simp [srange, sclear] at hx hy; omega

/-- Writing with `sput` keeps the keys in order. -/
theorem sordFrom_sdel (k : Nat) {m : SMap α} {lo : Nat} (h : sordFrom lo m = true) : sordFrom lo (sdel m k) = true := by
  induction m generalizing lo with
  | nil => rfl
  | cons p m ih =>
    obtain ⟨k', v⟩ := p
    simp only [sordFrom, Bool.and_eq_true, decide_eq_true_eq] at h
    by_cases e : k' = k
    · simp only [sdel, e, if_true]
      have := ih h.2
      cases hm : sdel m k with
      | nil => rfl
      | cons q l => simp only [hm, sordFrom, Bool.and_eq_true, decide_eq_true_eq, e] at this ⊢; exact ⟨by omega, this.2⟩
    · simp only [sdel, e, if_false, sordFrom, Bool.and_eq_true, decide_eq_true_eq]; exact ⟨h.1, ih h.2⟩

end Sys2Proof.Machine
end

