-- ==== Sys2Proof/Laws/State.lean ====
section
/-! SUPPORT. What each named update of the state leaves as it is, one lemma per field per update, and what it writes. -/

namespace Sys2Proof.Machine

/-! ### Updates of one field -/

@[simp] theorem rset_pending (f : Fld) (i v : Nat) (s : State) : (rset f i v s).pending = s.pending := by unfold rset; split <;> rfl
@[simp] theorem rset_lcount (f : Fld) (i v : Nat) (s : State) : (rset f i v s).lcount = s.lcount := by unfold rset; split <;> rfl
@[simp] theorem rset_free (f : Fld) (i v : Nat) (s : State) : (rset f i v s).free = s.free := by unfold rset; split <;> rfl
@[simp] theorem rset_lost (f : Fld) (i v : Nat) (s : State) : (rset f i v s).lost = s.lost := by unfold rset; split <;> rfl
@[simp] theorem rset_remain (f : Fld) (i v : Nat) (s : State) : (rset f i v s).remain = s.remain := by unfold rset; split <;> rfl
@[simp] theorem rset_io (f : Fld) (i v : Nat) (s : State) : (rset f i v s).io = s.io := by unfold rset; split <;> rfl
@[simp] theorem rset_ctl (f : Fld) (i v : Nat) (s : State) : (rset f i v s).ctl = s.ctl := by unfold rset; split <;> rfl
@[simp] theorem rset_mem (f : Fld) (i v : Nat) (s : State) : (rset f i v s).mem = s.mem := by unfold rset; split <;> rfl
@[simp] theorem rset_gr (f : Fld) (i v : Nat) (s : State) : (rset f i v s).gr = s.gr := by unfold rset; split <;> rfl
@[simp] theorem rset_eng (f : Fld) (i v : Nat) (s : State) : (rset f i v s).eng = s.eng := by unfold rset; split <;> rfl
@[simp] theorem rset_core (f : Fld) (i v : Nat) (s : State) : (rset f i v s).core = s.core := by unfold rset; split <;> rfl
@[simp] theorem rset_oct (f : Fld) (i v : Nat) (s : State) : (rset f i v s).oct = s.oct := by unfold rset; split <;> rfl
@[simp] theorem rset_st (f : Fld) (i v : Nat) (s : State) : (rset f i v s).st = s.st := by unfold rset; split <;> rfl
@[simp] theorem rset_har (f : Fld) (i v : Nat) (s : State) : (rset f i v s).har = s.har := by unfold rset; split <;> rfl
@[simp] theorem rset_fab (f : Fld) (i v : Nat) (s : State) : (rset f i v s).fab = s.fab := by unfold rset; split <;> rfl
@[simp] theorem rset_sp (f : Fld) (i v : Nat) (s : State) : (rset f i v s).sp = s.sp := by unfold rset; split <;> rfl
@[simp] theorem rset_pow (f : Fld) (i v : Nat) (s : State) : (rset f i v s).pow = s.pow := by unfold rset; split <;> rfl
@[simp] theorem rset_alm (f : Fld) (i v : Nat) (s : State) : (rset f i v s).alm = s.alm := by unfold rset; split <;> rfl
@[simp] theorem rset_vig (f : Fld) (i v : Nat) (s : State) : (rset f i v s).vig = s.vig := by unfold rset; split <;> rfl
@[simp] theorem rset_boot (f : Fld) (i v : Nat) (s : State) : (rset f i v s).boot = s.boot := by unfold rset; split <;> rfl
@[simp] theorem rset_host (f : Fld) (i v : Nat) (s : State) : (rset f i v s).host = s.host := by unfold rset; split <;> rfl

@[simp] theorem rflag_pending (f : Fld) (i : Nat) (s : State) : (rflag f i s).pending = s.pending := rset_pending ..
@[simp] theorem rflag_lcount (f : Fld) (i : Nat) (s : State) : (rflag f i s).lcount = s.lcount := rset_lcount ..
@[simp] theorem rflag_free (f : Fld) (i : Nat) (s : State) : (rflag f i s).free = s.free := rset_free ..
@[simp] theorem rflag_lost (f : Fld) (i : Nat) (s : State) : (rflag f i s).lost = s.lost := rset_lost ..
@[simp] theorem rflag_remain (f : Fld) (i : Nat) (s : State) : (rflag f i s).remain = s.remain := rset_remain ..
@[simp] theorem rflag_io (f : Fld) (i : Nat) (s : State) : (rflag f i s).io = s.io := rset_io ..
@[simp] theorem rflag_ctl (f : Fld) (i : Nat) (s : State) : (rflag f i s).ctl = s.ctl := rset_ctl ..
@[simp] theorem rflag_mem (f : Fld) (i : Nat) (s : State) : (rflag f i s).mem = s.mem := rset_mem ..
@[simp] theorem rflag_gr (f : Fld) (i : Nat) (s : State) : (rflag f i s).gr = s.gr := rset_gr ..
@[simp] theorem rflag_eng (f : Fld) (i : Nat) (s : State) : (rflag f i s).eng = s.eng := rset_eng ..
@[simp] theorem rflag_core (f : Fld) (i : Nat) (s : State) : (rflag f i s).core = s.core := rset_core ..
@[simp] theorem rflag_oct (f : Fld) (i : Nat) (s : State) : (rflag f i s).oct = s.oct := rset_oct ..
@[simp] theorem rflag_st (f : Fld) (i : Nat) (s : State) : (rflag f i s).st = s.st := rset_st ..
@[simp] theorem rflag_har (f : Fld) (i : Nat) (s : State) : (rflag f i s).har = s.har := rset_har ..
@[simp] theorem rflag_fab (f : Fld) (i : Nat) (s : State) : (rflag f i s).fab = s.fab := rset_fab ..
@[simp] theorem rflag_sp (f : Fld) (i : Nat) (s : State) : (rflag f i s).sp = s.sp := rset_sp ..
@[simp] theorem rflag_pow (f : Fld) (i : Nat) (s : State) : (rflag f i s).pow = s.pow := rset_pow ..
@[simp] theorem rflag_alm (f : Fld) (i : Nat) (s : State) : (rflag f i s).alm = s.alm := rset_alm ..
@[simp] theorem rflag_vig (f : Fld) (i : Nat) (s : State) : (rflag f i s).vig = s.vig := rset_vig ..
@[simp] theorem rflag_boot (f : Fld) (i : Nat) (s : State) : (rflag f i s).boot = s.boot := rset_boot ..
@[simp] theorem rflag_host (f : Fld) (i : Nat) (s : State) : (rflag f i s).host = s.host := rset_host ..

@[simp] theorem ror_pending (f : Fld) (i m : Nat) (s : State) : (ror f i m s).pending = s.pending := rset_pending ..
@[simp] theorem ror_lcount (f : Fld) (i m : Nat) (s : State) : (ror f i m s).lcount = s.lcount := rset_lcount ..
@[simp] theorem ror_free (f : Fld) (i m : Nat) (s : State) : (ror f i m s).free = s.free := rset_free ..
@[simp] theorem ror_lost (f : Fld) (i m : Nat) (s : State) : (ror f i m s).lost = s.lost := rset_lost ..
@[simp] theorem ror_remain (f : Fld) (i m : Nat) (s : State) : (ror f i m s).remain = s.remain := rset_remain ..
@[simp] theorem ror_io (f : Fld) (i m : Nat) (s : State) : (ror f i m s).io = s.io := rset_io ..
@[simp] theorem ror_ctl (f : Fld) (i m : Nat) (s : State) : (ror f i m s).ctl = s.ctl := rset_ctl ..
@[simp] theorem ror_mem (f : Fld) (i m : Nat) (s : State) : (ror f i m s).mem = s.mem := rset_mem ..
@[simp] theorem ror_gr (f : Fld) (i m : Nat) (s : State) : (ror f i m s).gr = s.gr := rset_gr ..
@[simp] theorem ror_eng (f : Fld) (i m : Nat) (s : State) : (ror f i m s).eng = s.eng := rset_eng ..
@[simp] theorem ror_core (f : Fld) (i m : Nat) (s : State) : (ror f i m s).core = s.core := rset_core ..
@[simp] theorem ror_oct (f : Fld) (i m : Nat) (s : State) : (ror f i m s).oct = s.oct := rset_oct ..
@[simp] theorem ror_st (f : Fld) (i m : Nat) (s : State) : (ror f i m s).st = s.st := rset_st ..
@[simp] theorem ror_har (f : Fld) (i m : Nat) (s : State) : (ror f i m s).har = s.har := rset_har ..
@[simp] theorem ror_fab (f : Fld) (i m : Nat) (s : State) : (ror f i m s).fab = s.fab := rset_fab ..
@[simp] theorem ror_sp (f : Fld) (i m : Nat) (s : State) : (ror f i m s).sp = s.sp := rset_sp ..
@[simp] theorem ror_pow (f : Fld) (i m : Nat) (s : State) : (ror f i m s).pow = s.pow := rset_pow ..
@[simp] theorem ror_alm (f : Fld) (i m : Nat) (s : State) : (ror f i m s).alm = s.alm := rset_alm ..
@[simp] theorem ror_vig (f : Fld) (i m : Nat) (s : State) : (ror f i m s).vig = s.vig := rset_vig ..
@[simp] theorem ror_boot (f : Fld) (i m : Nat) (s : State) : (ror f i m s).boot = s.boot := rset_boot ..
@[simp] theorem ror_host (f : Fld) (i m : Nat) (s : State) : (ror f i m s).host = s.host := rset_host ..

@[simp] theorem tickCount_pending (b : Nat) (s : State) : (tickCount b s).pending = s.pending := rfl
@[simp] theorem tickCount_regs (b : Nat) (s : State) : (tickCount b s).regs = s.regs := rfl
@[simp] theorem tickCount_lost (b : Nat) (s : State) : (tickCount b s).lost = s.lost := rfl
@[simp] theorem tickCount_remain (b : Nat) (s : State) : (tickCount b s).remain = s.remain := rfl
@[simp] theorem tickCount_io (b : Nat) (s : State) : (tickCount b s).io = s.io := rfl
@[simp] theorem tickCount_ctl (b : Nat) (s : State) : (tickCount b s).ctl = s.ctl := rfl
@[simp] theorem tickCount_mem (b : Nat) (s : State) : (tickCount b s).mem = s.mem := rfl
@[simp] theorem tickCount_gr (b : Nat) (s : State) : (tickCount b s).gr = s.gr := rfl
@[simp] theorem tickCount_eng (b : Nat) (s : State) : (tickCount b s).eng = s.eng := rfl
@[simp] theorem tickCount_core (b : Nat) (s : State) : (tickCount b s).core = s.core := rfl
@[simp] theorem tickCount_oct (b : Nat) (s : State) : (tickCount b s).oct = s.oct := rfl
@[simp] theorem tickCount_st (b : Nat) (s : State) : (tickCount b s).st = s.st := rfl
@[simp] theorem tickCount_har (b : Nat) (s : State) : (tickCount b s).har = s.har := rfl
@[simp] theorem tickCount_fab (b : Nat) (s : State) : (tickCount b s).fab = s.fab := rfl
@[simp] theorem tickCount_sp (b : Nat) (s : State) : (tickCount b s).sp = s.sp := rfl
@[simp] theorem tickCount_pow (b : Nat) (s : State) : (tickCount b s).pow = s.pow := rfl
@[simp] theorem tickCount_alm (b : Nat) (s : State) : (tickCount b s).alm = s.alm := rfl
@[simp] theorem tickCount_vig (b : Nat) (s : State) : (tickCount b s).vig = s.vig := rfl
@[simp] theorem tickCount_boot (b : Nat) (s : State) : (tickCount b s).boot = s.boot := rfl
@[simp] theorem tickCount_host (b : Nat) (s : State) : (tickCount b s).host = s.host := rfl

@[simp] theorem useFree_pending (s : State) : (useFree s).pending = s.pending := rfl
@[simp] theorem useFree_regs (s : State) : (useFree s).regs = s.regs := rfl
@[simp] theorem useFree_lcount (s : State) : (useFree s).lcount = s.lcount := rfl
@[simp] theorem useFree_lost (s : State) : (useFree s).lost = s.lost := rfl
@[simp] theorem useFree_remain (s : State) : (useFree s).remain = s.remain := rfl
@[simp] theorem useFree_io (s : State) : (useFree s).io = s.io := rfl
@[simp] theorem useFree_ctl (s : State) : (useFree s).ctl = s.ctl := rfl
@[simp] theorem useFree_mem (s : State) : (useFree s).mem = s.mem := rfl
@[simp] theorem useFree_gr (s : State) : (useFree s).gr = s.gr := rfl
@[simp] theorem useFree_eng (s : State) : (useFree s).eng = s.eng := rfl
@[simp] theorem useFree_core (s : State) : (useFree s).core = s.core := rfl
@[simp] theorem useFree_oct (s : State) : (useFree s).oct = s.oct := rfl
@[simp] theorem useFree_st (s : State) : (useFree s).st = s.st := rfl
@[simp] theorem useFree_har (s : State) : (useFree s).har = s.har := rfl
@[simp] theorem useFree_fab (s : State) : (useFree s).fab = s.fab := rfl
@[simp] theorem useFree_sp (s : State) : (useFree s).sp = s.sp := rfl
@[simp] theorem useFree_pow (s : State) : (useFree s).pow = s.pow := rfl
@[simp] theorem useFree_alm (s : State) : (useFree s).alm = s.alm := rfl
@[simp] theorem useFree_vig (s : State) : (useFree s).vig = s.vig := rfl
@[simp] theorem useFree_boot (s : State) : (useFree s).boot = s.boot := rfl
@[simp] theorem useFree_host (s : State) : (useFree s).host = s.host := rfl

@[simp] theorem setCtx_pending (c : Nat) (x : Ctx) (s : State) : (setCtx c x s).pending = s.pending := rfl
@[simp] theorem setCtx_regs (c : Nat) (x : Ctx) (s : State) : (setCtx c x s).regs = s.regs := rfl
@[simp] theorem setCtx_lcount (c : Nat) (x : Ctx) (s : State) : (setCtx c x s).lcount = s.lcount := rfl
@[simp] theorem setCtx_free (c : Nat) (x : Ctx) (s : State) : (setCtx c x s).free = s.free := rfl
@[simp] theorem setCtx_lost (c : Nat) (x : Ctx) (s : State) : (setCtx c x s).lost = s.lost := rfl
@[simp] theorem setCtx_remain (c : Nat) (x : Ctx) (s : State) : (setCtx c x s).remain = s.remain := rfl
@[simp] theorem setCtx_io (c : Nat) (x : Ctx) (s : State) : (setCtx c x s).io = s.io := rfl
@[simp] theorem setCtx_mem (c : Nat) (x : Ctx) (s : State) : (setCtx c x s).mem = s.mem := rfl
@[simp] theorem setCtx_gr (c : Nat) (x : Ctx) (s : State) : (setCtx c x s).gr = s.gr := rfl
@[simp] theorem setCtx_eng (c : Nat) (x : Ctx) (s : State) : (setCtx c x s).eng = s.eng := rfl
@[simp] theorem setCtx_core (c : Nat) (x : Ctx) (s : State) : (setCtx c x s).core = s.core := rfl
@[simp] theorem setCtx_oct (c : Nat) (x : Ctx) (s : State) : (setCtx c x s).oct = s.oct := rfl
@[simp] theorem setCtx_st (c : Nat) (x : Ctx) (s : State) : (setCtx c x s).st = s.st := rfl
@[simp] theorem setCtx_har (c : Nat) (x : Ctx) (s : State) : (setCtx c x s).har = s.har := rfl
@[simp] theorem setCtx_fab (c : Nat) (x : Ctx) (s : State) : (setCtx c x s).fab = s.fab := rfl
@[simp] theorem setCtx_sp (c : Nat) (x : Ctx) (s : State) : (setCtx c x s).sp = s.sp := rfl
@[simp] theorem setCtx_pow (c : Nat) (x : Ctx) (s : State) : (setCtx c x s).pow = s.pow := rfl
@[simp] theorem setCtx_alm (c : Nat) (x : Ctx) (s : State) : (setCtx c x s).alm = s.alm := rfl
@[simp] theorem setCtx_vig (c : Nat) (x : Ctx) (s : State) : (setCtx c x s).vig = s.vig := rfl
@[simp] theorem setCtx_boot (c : Nat) (x : Ctx) (s : State) : (setCtx c x s).boot = s.boot := rfl
@[simp] theorem setCtx_host (c : Nat) (x : Ctx) (s : State) : (setCtx c x s).host = s.host := rfl
@[simp] theorem setCtx_ctl_gens (c : Nat) (x : Ctx) (s : State) : (setCtx c x s).ctl.gens = s.ctl.gens := rfl
@[simp] theorem setCtx_ctl_queues (c : Nat) (x : Ctx) (s : State) : (setCtx c x s).ctl.queues = s.ctl.queues := rfl
@[simp] theorem setCtx_ctl_journal (c : Nat) (x : Ctx) (s : State) : (setCtx c x s).ctl.journal = s.ctl.journal := rfl
@[simp] theorem setCtx_ctl_partner (c : Nat) (x : Ctx) (s : State) : (setCtx c x s).ctl.partner = s.ctl.partner := rfl
@[simp] theorem setCtx_ctl_doorbells (c : Nat) (x : Ctx) (s : State) : (setCtx c x s).ctl.doorbells = s.ctl.doorbells := rfl
@[simp] theorem setCtx_ctl_missed (c : Nat) (x : Ctx) (s : State) : (setCtx c x s).ctl.missed = s.ctl.missed := rfl
@[simp] theorem setCtx_ctl_f0Fenced (c : Nat) (x : Ctx) (s : State) : (setCtx c x s).ctl.f0Fenced = s.ctl.f0Fenced := rfl
@[simp] theorem setCtx_ctl_partitions (c : Nat) (x : Ctx) (s : State) : (setCtx c x s).ctl.partitions = s.ctl.partitions := rfl

@[simp] theorem setQueue_pending (q : Nat) (x : Queue) (s : State) : (setQueue q x s).pending = s.pending := rfl
@[simp] theorem setQueue_regs (q : Nat) (x : Queue) (s : State) : (setQueue q x s).regs = s.regs := rfl
@[simp] theorem setQueue_lcount (q : Nat) (x : Queue) (s : State) : (setQueue q x s).lcount = s.lcount := rfl
@[simp] theorem setQueue_free (q : Nat) (x : Queue) (s : State) : (setQueue q x s).free = s.free := rfl
@[simp] theorem setQueue_lost (q : Nat) (x : Queue) (s : State) : (setQueue q x s).lost = s.lost := rfl
@[simp] theorem setQueue_remain (q : Nat) (x : Queue) (s : State) : (setQueue q x s).remain = s.remain := rfl
@[simp] theorem setQueue_io (q : Nat) (x : Queue) (s : State) : (setQueue q x s).io = s.io := rfl
@[simp] theorem setQueue_mem (q : Nat) (x : Queue) (s : State) : (setQueue q x s).mem = s.mem := rfl
@[simp] theorem setQueue_gr (q : Nat) (x : Queue) (s : State) : (setQueue q x s).gr = s.gr := rfl
@[simp] theorem setQueue_eng (q : Nat) (x : Queue) (s : State) : (setQueue q x s).eng = s.eng := rfl
@[simp] theorem setQueue_core (q : Nat) (x : Queue) (s : State) : (setQueue q x s).core = s.core := rfl
@[simp] theorem setQueue_oct (q : Nat) (x : Queue) (s : State) : (setQueue q x s).oct = s.oct := rfl
@[simp] theorem setQueue_st (q : Nat) (x : Queue) (s : State) : (setQueue q x s).st = s.st := rfl
@[simp] theorem setQueue_har (q : Nat) (x : Queue) (s : State) : (setQueue q x s).har = s.har := rfl
@[simp] theorem setQueue_fab (q : Nat) (x : Queue) (s : State) : (setQueue q x s).fab = s.fab := rfl
@[simp] theorem setQueue_sp (q : Nat) (x : Queue) (s : State) : (setQueue q x s).sp = s.sp := rfl
@[simp] theorem setQueue_pow (q : Nat) (x : Queue) (s : State) : (setQueue q x s).pow = s.pow := rfl
@[simp] theorem setQueue_alm (q : Nat) (x : Queue) (s : State) : (setQueue q x s).alm = s.alm := rfl
@[simp] theorem setQueue_vig (q : Nat) (x : Queue) (s : State) : (setQueue q x s).vig = s.vig := rfl
@[simp] theorem setQueue_boot (q : Nat) (x : Queue) (s : State) : (setQueue q x s).boot = s.boot := rfl
@[simp] theorem setQueue_host (q : Nat) (x : Queue) (s : State) : (setQueue q x s).host = s.host := rfl
@[simp] theorem setQueue_ctl_ctxs (q : Nat) (x : Queue) (s : State) : (setQueue q x s).ctl.ctxs = s.ctl.ctxs := rfl
@[simp] theorem setQueue_ctl_gens (q : Nat) (x : Queue) (s : State) : (setQueue q x s).ctl.gens = s.ctl.gens := rfl
@[simp] theorem setQueue_ctl_journal (q : Nat) (x : Queue) (s : State) : (setQueue q x s).ctl.journal = s.ctl.journal := rfl
@[simp] theorem setQueue_ctl_partner (q : Nat) (x : Queue) (s : State) : (setQueue q x s).ctl.partner = s.ctl.partner := rfl
@[simp] theorem setQueue_ctl_doorbells (q : Nat) (x : Queue) (s : State) : (setQueue q x s).ctl.doorbells = s.ctl.doorbells := rfl
@[simp] theorem setQueue_ctl_missed (q : Nat) (x : Queue) (s : State) : (setQueue q x s).ctl.missed = s.ctl.missed := rfl
@[simp] theorem setQueue_ctl_f0Fenced (q : Nat) (x : Queue) (s : State) : (setQueue q x s).ctl.f0Fenced = s.ctl.f0Fenced := rfl
@[simp] theorem setQueue_ctl_partitions (q : Nat) (x : Queue) (s : State) : (setQueue q x s).ctl.partitions = s.ctl.partitions := rfl

@[simp] theorem setJournal_pending (l : List Rec) (s : State) : (setJournal l s).pending = s.pending := rfl
@[simp] theorem setJournal_regs (l : List Rec) (s : State) : (setJournal l s).regs = s.regs := rfl
@[simp] theorem setJournal_lcount (l : List Rec) (s : State) : (setJournal l s).lcount = s.lcount := rfl
@[simp] theorem setJournal_free (l : List Rec) (s : State) : (setJournal l s).free = s.free := rfl
@[simp] theorem setJournal_lost (l : List Rec) (s : State) : (setJournal l s).lost = s.lost := rfl
@[simp] theorem setJournal_remain (l : List Rec) (s : State) : (setJournal l s).remain = s.remain := rfl
@[simp] theorem setJournal_io (l : List Rec) (s : State) : (setJournal l s).io = s.io := rfl
@[simp] theorem setJournal_mem (l : List Rec) (s : State) : (setJournal l s).mem = s.mem := rfl
@[simp] theorem setJournal_gr (l : List Rec) (s : State) : (setJournal l s).gr = s.gr := rfl
@[simp] theorem setJournal_eng (l : List Rec) (s : State) : (setJournal l s).eng = s.eng := rfl
@[simp] theorem setJournal_core (l : List Rec) (s : State) : (setJournal l s).core = s.core := rfl
@[simp] theorem setJournal_oct (l : List Rec) (s : State) : (setJournal l s).oct = s.oct := rfl
@[simp] theorem setJournal_st (l : List Rec) (s : State) : (setJournal l s).st = s.st := rfl
@[simp] theorem setJournal_har (l : List Rec) (s : State) : (setJournal l s).har = s.har := rfl
@[simp] theorem setJournal_fab (l : List Rec) (s : State) : (setJournal l s).fab = s.fab := rfl
@[simp] theorem setJournal_sp (l : List Rec) (s : State) : (setJournal l s).sp = s.sp := rfl
@[simp] theorem setJournal_pow (l : List Rec) (s : State) : (setJournal l s).pow = s.pow := rfl
@[simp] theorem setJournal_alm (l : List Rec) (s : State) : (setJournal l s).alm = s.alm := rfl
@[simp] theorem setJournal_vig (l : List Rec) (s : State) : (setJournal l s).vig = s.vig := rfl
@[simp] theorem setJournal_boot (l : List Rec) (s : State) : (setJournal l s).boot = s.boot := rfl
@[simp] theorem setJournal_host (l : List Rec) (s : State) : (setJournal l s).host = s.host := rfl
@[simp] theorem setJournal_ctl_ctxs (l : List Rec) (s : State) : (setJournal l s).ctl.ctxs = s.ctl.ctxs := rfl
@[simp] theorem setJournal_ctl_gens (l : List Rec) (s : State) : (setJournal l s).ctl.gens = s.ctl.gens := rfl
@[simp] theorem setJournal_ctl_queues (l : List Rec) (s : State) : (setJournal l s).ctl.queues = s.ctl.queues := rfl
@[simp] theorem setJournal_ctl_partner (l : List Rec) (s : State) : (setJournal l s).ctl.partner = s.ctl.partner := rfl
@[simp] theorem setJournal_ctl_doorbells (l : List Rec) (s : State) : (setJournal l s).ctl.doorbells = s.ctl.doorbells := rfl
@[simp] theorem setJournal_ctl_missed (l : List Rec) (s : State) : (setJournal l s).ctl.missed = s.ctl.missed := rfl
@[simp] theorem setJournal_ctl_f0Fenced (l : List Rec) (s : State) : (setJournal l s).ctl.f0Fenced = s.ctl.f0Fenced := rfl
@[simp] theorem setJournal_ctl_partitions (l : List Rec) (s : State) : (setJournal l s).ctl.partitions = s.ctl.partitions := rfl

@[simp] theorem mapRecs_pending (p : Rec → Bool) (g : Rec → Rec) (s : State) : (mapRecs p g s).pending = s.pending := rfl
@[simp] theorem mapRecs_regs (p : Rec → Bool) (g : Rec → Rec) (s : State) : (mapRecs p g s).regs = s.regs := rfl
@[simp] theorem mapRecs_lcount (p : Rec → Bool) (g : Rec → Rec) (s : State) : (mapRecs p g s).lcount = s.lcount := rfl
@[simp] theorem mapRecs_free (p : Rec → Bool) (g : Rec → Rec) (s : State) : (mapRecs p g s).free = s.free := rfl
@[simp] theorem mapRecs_lost (p : Rec → Bool) (g : Rec → Rec) (s : State) : (mapRecs p g s).lost = s.lost := rfl
@[simp] theorem mapRecs_remain (p : Rec → Bool) (g : Rec → Rec) (s : State) : (mapRecs p g s).remain = s.remain := rfl
@[simp] theorem mapRecs_io (p : Rec → Bool) (g : Rec → Rec) (s : State) : (mapRecs p g s).io = s.io := rfl
@[simp] theorem mapRecs_mem (p : Rec → Bool) (g : Rec → Rec) (s : State) : (mapRecs p g s).mem = s.mem := rfl
@[simp] theorem mapRecs_gr (p : Rec → Bool) (g : Rec → Rec) (s : State) : (mapRecs p g s).gr = s.gr := rfl
@[simp] theorem mapRecs_eng (p : Rec → Bool) (g : Rec → Rec) (s : State) : (mapRecs p g s).eng = s.eng := rfl
@[simp] theorem mapRecs_core (p : Rec → Bool) (g : Rec → Rec) (s : State) : (mapRecs p g s).core = s.core := rfl
@[simp] theorem mapRecs_oct (p : Rec → Bool) (g : Rec → Rec) (s : State) : (mapRecs p g s).oct = s.oct := rfl
@[simp] theorem mapRecs_st (p : Rec → Bool) (g : Rec → Rec) (s : State) : (mapRecs p g s).st = s.st := rfl
@[simp] theorem mapRecs_har (p : Rec → Bool) (g : Rec → Rec) (s : State) : (mapRecs p g s).har = s.har := rfl
@[simp] theorem mapRecs_fab (p : Rec → Bool) (g : Rec → Rec) (s : State) : (mapRecs p g s).fab = s.fab := rfl
@[simp] theorem mapRecs_sp (p : Rec → Bool) (g : Rec → Rec) (s : State) : (mapRecs p g s).sp = s.sp := rfl
@[simp] theorem mapRecs_pow (p : Rec → Bool) (g : Rec → Rec) (s : State) : (mapRecs p g s).pow = s.pow := rfl
@[simp] theorem mapRecs_alm (p : Rec → Bool) (g : Rec → Rec) (s : State) : (mapRecs p g s).alm = s.alm := rfl
@[simp] theorem mapRecs_vig (p : Rec → Bool) (g : Rec → Rec) (s : State) : (mapRecs p g s).vig = s.vig := rfl
@[simp] theorem mapRecs_boot (p : Rec → Bool) (g : Rec → Rec) (s : State) : (mapRecs p g s).boot = s.boot := rfl
@[simp] theorem mapRecs_host (p : Rec → Bool) (g : Rec → Rec) (s : State) : (mapRecs p g s).host = s.host := rfl
@[simp] theorem mapRecs_ctl_ctxs (p : Rec → Bool) (g : Rec → Rec) (s : State) : (mapRecs p g s).ctl.ctxs = s.ctl.ctxs := rfl
@[simp] theorem mapRecs_ctl_gens (p : Rec → Bool) (g : Rec → Rec) (s : State) : (mapRecs p g s).ctl.gens = s.ctl.gens := rfl
@[simp] theorem mapRecs_ctl_queues (p : Rec → Bool) (g : Rec → Rec) (s : State) : (mapRecs p g s).ctl.queues = s.ctl.queues := rfl
@[simp] theorem mapRecs_ctl_partner (p : Rec → Bool) (g : Rec → Rec) (s : State) : (mapRecs p g s).ctl.partner = s.ctl.partner := rfl
@[simp] theorem mapRecs_ctl_doorbells (p : Rec → Bool) (g : Rec → Rec) (s : State) : (mapRecs p g s).ctl.doorbells = s.ctl.doorbells := rfl
@[simp] theorem mapRecs_ctl_missed (p : Rec → Bool) (g : Rec → Rec) (s : State) : (mapRecs p g s).ctl.missed = s.ctl.missed := rfl
@[simp] theorem mapRecs_ctl_f0Fenced (p : Rec → Bool) (g : Rec → Rec) (s : State) : (mapRecs p g s).ctl.f0Fenced = s.ctl.f0Fenced := rfl
@[simp] theorem mapRecs_ctl_partitions (p : Rec → Bool) (g : Rec → Rec) (s : State) : (mapRecs p g s).ctl.partitions = s.ctl.partitions := rfl

@[simp] theorem emit_pending (m : OutMsg) (s : State) : (emit m s).pending = s.pending := rfl
@[simp] theorem emit_regs (m : OutMsg) (s : State) : (emit m s).regs = s.regs := rfl
@[simp] theorem emit_lcount (m : OutMsg) (s : State) : (emit m s).lcount = s.lcount := rfl
@[simp] theorem emit_free (m : OutMsg) (s : State) : (emit m s).free = s.free := rfl
@[simp] theorem emit_lost (m : OutMsg) (s : State) : (emit m s).lost = s.lost := rfl
@[simp] theorem emit_remain (m : OutMsg) (s : State) : (emit m s).remain = s.remain := rfl
@[simp] theorem emit_ctl (m : OutMsg) (s : State) : (emit m s).ctl = s.ctl := rfl
@[simp] theorem emit_mem (m : OutMsg) (s : State) : (emit m s).mem = s.mem := rfl
@[simp] theorem emit_gr (m : OutMsg) (s : State) : (emit m s).gr = s.gr := rfl
@[simp] theorem emit_eng (m : OutMsg) (s : State) : (emit m s).eng = s.eng := rfl
@[simp] theorem emit_core (m : OutMsg) (s : State) : (emit m s).core = s.core := rfl
@[simp] theorem emit_oct (m : OutMsg) (s : State) : (emit m s).oct = s.oct := rfl
@[simp] theorem emit_st (m : OutMsg) (s : State) : (emit m s).st = s.st := rfl
@[simp] theorem emit_har (m : OutMsg) (s : State) : (emit m s).har = s.har := rfl
@[simp] theorem emit_fab (m : OutMsg) (s : State) : (emit m s).fab = s.fab := rfl
@[simp] theorem emit_sp (m : OutMsg) (s : State) : (emit m s).sp = s.sp := rfl
@[simp] theorem emit_pow (m : OutMsg) (s : State) : (emit m s).pow = s.pow := rfl
@[simp] theorem emit_alm (m : OutMsg) (s : State) : (emit m s).alm = s.alm := rfl
@[simp] theorem emit_vig (m : OutMsg) (s : State) : (emit m s).vig = s.vig := rfl
@[simp] theorem emit_boot (m : OutMsg) (s : State) : (emit m s).boot = s.boot := rfl
@[simp] theorem emit_host (m : OutMsg) (s : State) : (emit m s).host = s.host := rfl
@[simp] theorem emit_io_hostMem (m : OutMsg) (s : State) : (emit m s).io.hostMem = s.io.hostMem := rfl
@[simp] theorem emit_io_events (m : OutMsg) (s : State) : (emit m s).io.events = s.io.events := rfl
@[simp] theorem emit_io_waiting (m : OutMsg) (s : State) : (emit m s).io.waiting = s.io.waiting := rfl
@[simp] theorem emit_io_latch (m : OutMsg) (s : State) : (emit m s).io.latch = s.io.latch := rfl
@[simp] theorem emit_io_readData (m : OutMsg) (s : State) : (emit m s).io.readData = s.io.readData := rfl

@[simp] theorem hostWrite_pending (a : Nat) (b : List Byte) (s : State) : (hostWrite a b s).pending = s.pending := rfl
@[simp] theorem hostWrite_regs (a : Nat) (b : List Byte) (s : State) : (hostWrite a b s).regs = s.regs := rfl
@[simp] theorem hostWrite_lcount (a : Nat) (b : List Byte) (s : State) : (hostWrite a b s).lcount = s.lcount := rfl
@[simp] theorem hostWrite_free (a : Nat) (b : List Byte) (s : State) : (hostWrite a b s).free = s.free := rfl
@[simp] theorem hostWrite_lost (a : Nat) (b : List Byte) (s : State) : (hostWrite a b s).lost = s.lost := rfl
@[simp] theorem hostWrite_remain (a : Nat) (b : List Byte) (s : State) : (hostWrite a b s).remain = s.remain := rfl
@[simp] theorem hostWrite_ctl (a : Nat) (b : List Byte) (s : State) : (hostWrite a b s).ctl = s.ctl := rfl
@[simp] theorem hostWrite_mem (a : Nat) (b : List Byte) (s : State) : (hostWrite a b s).mem = s.mem := rfl
@[simp] theorem hostWrite_gr (a : Nat) (b : List Byte) (s : State) : (hostWrite a b s).gr = s.gr := rfl
@[simp] theorem hostWrite_eng (a : Nat) (b : List Byte) (s : State) : (hostWrite a b s).eng = s.eng := rfl
@[simp] theorem hostWrite_core (a : Nat) (b : List Byte) (s : State) : (hostWrite a b s).core = s.core := rfl
@[simp] theorem hostWrite_oct (a : Nat) (b : List Byte) (s : State) : (hostWrite a b s).oct = s.oct := rfl
@[simp] theorem hostWrite_st (a : Nat) (b : List Byte) (s : State) : (hostWrite a b s).st = s.st := rfl
@[simp] theorem hostWrite_har (a : Nat) (b : List Byte) (s : State) : (hostWrite a b s).har = s.har := rfl
@[simp] theorem hostWrite_fab (a : Nat) (b : List Byte) (s : State) : (hostWrite a b s).fab = s.fab := rfl
@[simp] theorem hostWrite_sp (a : Nat) (b : List Byte) (s : State) : (hostWrite a b s).sp = s.sp := rfl
@[simp] theorem hostWrite_pow (a : Nat) (b : List Byte) (s : State) : (hostWrite a b s).pow = s.pow := rfl
@[simp] theorem hostWrite_alm (a : Nat) (b : List Byte) (s : State) : (hostWrite a b s).alm = s.alm := rfl
@[simp] theorem hostWrite_vig (a : Nat) (b : List Byte) (s : State) : (hostWrite a b s).vig = s.vig := rfl
@[simp] theorem hostWrite_boot (a : Nat) (b : List Byte) (s : State) : (hostWrite a b s).boot = s.boot := rfl
@[simp] theorem hostWrite_host (a : Nat) (b : List Byte) (s : State) : (hostWrite a b s).host = s.host := rfl
@[simp] theorem hostWrite_io_outbox (a : Nat) (b : List Byte) (s : State) : (hostWrite a b s).io.outbox = s.io.outbox := rfl
@[simp] theorem hostWrite_io_events (a : Nat) (b : List Byte) (s : State) : (hostWrite a b s).io.events = s.io.events := rfl
@[simp] theorem hostWrite_io_waiting (a : Nat) (b : List Byte) (s : State) : (hostWrite a b s).io.waiting = s.io.waiting := rfl
@[simp] theorem hostWrite_io_latch (a : Nat) (b : List Byte) (s : State) : (hostWrite a b s).io.latch = s.io.latch := rfl
@[simp] theorem hostWrite_io_readData (a : Nat) (b : List Byte) (s : State) : (hostWrite a b s).io.readData = s.io.readData := rfl

@[simp] theorem logEvent_pending (e : Event) (s : State) : (logEvent e s).pending = s.pending := rfl
@[simp] theorem logEvent_regs (e : Event) (s : State) : (logEvent e s).regs = s.regs := rfl
@[simp] theorem logEvent_lcount (e : Event) (s : State) : (logEvent e s).lcount = s.lcount := rfl
@[simp] theorem logEvent_free (e : Event) (s : State) : (logEvent e s).free = s.free := rfl
@[simp] theorem logEvent_lost (e : Event) (s : State) : (logEvent e s).lost = s.lost := rfl
@[simp] theorem logEvent_remain (e : Event) (s : State) : (logEvent e s).remain = s.remain := rfl
@[simp] theorem logEvent_ctl (e : Event) (s : State) : (logEvent e s).ctl = s.ctl := rfl
@[simp] theorem logEvent_mem (e : Event) (s : State) : (logEvent e s).mem = s.mem := rfl
@[simp] theorem logEvent_gr (e : Event) (s : State) : (logEvent e s).gr = s.gr := rfl
@[simp] theorem logEvent_eng (e : Event) (s : State) : (logEvent e s).eng = s.eng := rfl
@[simp] theorem logEvent_core (e : Event) (s : State) : (logEvent e s).core = s.core := rfl
@[simp] theorem logEvent_oct (e : Event) (s : State) : (logEvent e s).oct = s.oct := rfl
@[simp] theorem logEvent_st (e : Event) (s : State) : (logEvent e s).st = s.st := rfl
@[simp] theorem logEvent_har (e : Event) (s : State) : (logEvent e s).har = s.har := rfl
@[simp] theorem logEvent_fab (e : Event) (s : State) : (logEvent e s).fab = s.fab := rfl
@[simp] theorem logEvent_sp (e : Event) (s : State) : (logEvent e s).sp = s.sp := rfl
@[simp] theorem logEvent_pow (e : Event) (s : State) : (logEvent e s).pow = s.pow := rfl
@[simp] theorem logEvent_alm (e : Event) (s : State) : (logEvent e s).alm = s.alm := rfl
@[simp] theorem logEvent_vig (e : Event) (s : State) : (logEvent e s).vig = s.vig := rfl
@[simp] theorem logEvent_boot (e : Event) (s : State) : (logEvent e s).boot = s.boot := rfl
@[simp] theorem logEvent_host (e : Event) (s : State) : (logEvent e s).host = s.host := rfl
@[simp] theorem logEvent_io_hostMem (e : Event) (s : State) : (logEvent e s).io.hostMem = s.io.hostMem := rfl
@[simp] theorem logEvent_io_outbox (e : Event) (s : State) : (logEvent e s).io.outbox = s.io.outbox := rfl
@[simp] theorem logEvent_io_waiting (e : Event) (s : State) : (logEvent e s).io.waiting = s.io.waiting := rfl
@[simp] theorem logEvent_io_latch (e : Event) (s : State) : (logEvent e s).io.latch = s.io.latch := rfl
@[simp] theorem logEvent_io_readData (e : Event) (s : State) : (logEvent e s).io.readData = s.io.readData := rfl

@[simp] theorem dropLatch_pending (n : Nat) (s : State) : (dropLatch n s).pending = s.pending := rfl
@[simp] theorem dropLatch_regs (n : Nat) (s : State) : (dropLatch n s).regs = s.regs := rfl
@[simp] theorem dropLatch_lcount (n : Nat) (s : State) : (dropLatch n s).lcount = s.lcount := rfl
@[simp] theorem dropLatch_free (n : Nat) (s : State) : (dropLatch n s).free = s.free := rfl
@[simp] theorem dropLatch_lost (n : Nat) (s : State) : (dropLatch n s).lost = s.lost := rfl
@[simp] theorem dropLatch_remain (n : Nat) (s : State) : (dropLatch n s).remain = s.remain := rfl
@[simp] theorem dropLatch_ctl (n : Nat) (s : State) : (dropLatch n s).ctl = s.ctl := rfl
@[simp] theorem dropLatch_mem (n : Nat) (s : State) : (dropLatch n s).mem = s.mem := rfl
@[simp] theorem dropLatch_gr (n : Nat) (s : State) : (dropLatch n s).gr = s.gr := rfl
@[simp] theorem dropLatch_eng (n : Nat) (s : State) : (dropLatch n s).eng = s.eng := rfl
@[simp] theorem dropLatch_core (n : Nat) (s : State) : (dropLatch n s).core = s.core := rfl
@[simp] theorem dropLatch_oct (n : Nat) (s : State) : (dropLatch n s).oct = s.oct := rfl
@[simp] theorem dropLatch_st (n : Nat) (s : State) : (dropLatch n s).st = s.st := rfl
@[simp] theorem dropLatch_har (n : Nat) (s : State) : (dropLatch n s).har = s.har := rfl
@[simp] theorem dropLatch_fab (n : Nat) (s : State) : (dropLatch n s).fab = s.fab := rfl
@[simp] theorem dropLatch_sp (n : Nat) (s : State) : (dropLatch n s).sp = s.sp := rfl
@[simp] theorem dropLatch_pow (n : Nat) (s : State) : (dropLatch n s).pow = s.pow := rfl
@[simp] theorem dropLatch_alm (n : Nat) (s : State) : (dropLatch n s).alm = s.alm := rfl
@[simp] theorem dropLatch_vig (n : Nat) (s : State) : (dropLatch n s).vig = s.vig := rfl
@[simp] theorem dropLatch_boot (n : Nat) (s : State) : (dropLatch n s).boot = s.boot := rfl
@[simp] theorem dropLatch_host (n : Nat) (s : State) : (dropLatch n s).host = s.host := rfl
@[simp] theorem dropLatch_io_hostMem (n : Nat) (s : State) : (dropLatch n s).io.hostMem = s.io.hostMem := rfl
@[simp] theorem dropLatch_io_outbox (n : Nat) (s : State) : (dropLatch n s).io.outbox = s.io.outbox := rfl
@[simp] theorem dropLatch_io_events (n : Nat) (s : State) : (dropLatch n s).io.events = s.io.events := rfl
@[simp] theorem dropLatch_io_waiting (n : Nat) (s : State) : (dropLatch n s).io.waiting = s.io.waiting := rfl
@[simp] theorem dropLatch_io_readData (n : Nat) (s : State) : (dropLatch n s).io.readData = s.io.readData := rfl

@[simp] theorem setEng_pending (e : Eng) (x : Engine) (s : State) : (setEng e x s).pending = s.pending := rfl
@[simp] theorem setEng_regs (e : Eng) (x : Engine) (s : State) : (setEng e x s).regs = s.regs := rfl
@[simp] theorem setEng_lcount (e : Eng) (x : Engine) (s : State) : (setEng e x s).lcount = s.lcount := rfl
@[simp] theorem setEng_free (e : Eng) (x : Engine) (s : State) : (setEng e x s).free = s.free := rfl
@[simp] theorem setEng_lost (e : Eng) (x : Engine) (s : State) : (setEng e x s).lost = s.lost := rfl
@[simp] theorem setEng_remain (e : Eng) (x : Engine) (s : State) : (setEng e x s).remain = s.remain := rfl
@[simp] theorem setEng_io (e : Eng) (x : Engine) (s : State) : (setEng e x s).io = s.io := rfl
@[simp] theorem setEng_ctl (e : Eng) (x : Engine) (s : State) : (setEng e x s).ctl = s.ctl := rfl
@[simp] theorem setEng_mem (e : Eng) (x : Engine) (s : State) : (setEng e x s).mem = s.mem := rfl
@[simp] theorem setEng_gr (e : Eng) (x : Engine) (s : State) : (setEng e x s).gr = s.gr := rfl
@[simp] theorem setEng_core (e : Eng) (x : Engine) (s : State) : (setEng e x s).core = s.core := rfl
@[simp] theorem setEng_oct (e : Eng) (x : Engine) (s : State) : (setEng e x s).oct = s.oct := rfl
@[simp] theorem setEng_st (e : Eng) (x : Engine) (s : State) : (setEng e x s).st = s.st := rfl
@[simp] theorem setEng_har (e : Eng) (x : Engine) (s : State) : (setEng e x s).har = s.har := rfl
@[simp] theorem setEng_fab (e : Eng) (x : Engine) (s : State) : (setEng e x s).fab = s.fab := rfl
@[simp] theorem setEng_sp (e : Eng) (x : Engine) (s : State) : (setEng e x s).sp = s.sp := rfl
@[simp] theorem setEng_pow (e : Eng) (x : Engine) (s : State) : (setEng e x s).pow = s.pow := rfl
@[simp] theorem setEng_alm (e : Eng) (x : Engine) (s : State) : (setEng e x s).alm = s.alm := rfl
@[simp] theorem setEng_vig (e : Eng) (x : Engine) (s : State) : (setEng e x s).vig = s.vig := rfl
@[simp] theorem setEng_boot (e : Eng) (x : Engine) (s : State) : (setEng e x s).boot = s.boot := rfl
@[simp] theorem setEng_host (e : Eng) (x : Engine) (s : State) : (setEng e x s).host = s.host := rfl

@[simp] theorem setRun_pending (n : Nat) (r : Run) (s : State) : (setRun n r s).pending = s.pending := rfl
@[simp] theorem setRun_regs (n : Nat) (r : Run) (s : State) : (setRun n r s).regs = s.regs := rfl
@[simp] theorem setRun_lcount (n : Nat) (r : Run) (s : State) : (setRun n r s).lcount = s.lcount := rfl
@[simp] theorem setRun_free (n : Nat) (r : Run) (s : State) : (setRun n r s).free = s.free := rfl
@[simp] theorem setRun_lost (n : Nat) (r : Run) (s : State) : (setRun n r s).lost = s.lost := rfl
@[simp] theorem setRun_remain (n : Nat) (r : Run) (s : State) : (setRun n r s).remain = s.remain := rfl
@[simp] theorem setRun_io (n : Nat) (r : Run) (s : State) : (setRun n r s).io = s.io := rfl
@[simp] theorem setRun_ctl (n : Nat) (r : Run) (s : State) : (setRun n r s).ctl = s.ctl := rfl
@[simp] theorem setRun_mem (n : Nat) (r : Run) (s : State) : (setRun n r s).mem = s.mem := rfl
@[simp] theorem setRun_eng (n : Nat) (r : Run) (s : State) : (setRun n r s).eng = s.eng := rfl
@[simp] theorem setRun_core (n : Nat) (r : Run) (s : State) : (setRun n r s).core = s.core := rfl
@[simp] theorem setRun_oct (n : Nat) (r : Run) (s : State) : (setRun n r s).oct = s.oct := rfl
@[simp] theorem setRun_st (n : Nat) (r : Run) (s : State) : (setRun n r s).st = s.st := rfl
@[simp] theorem setRun_har (n : Nat) (r : Run) (s : State) : (setRun n r s).har = s.har := rfl
@[simp] theorem setRun_fab (n : Nat) (r : Run) (s : State) : (setRun n r s).fab = s.fab := rfl
@[simp] theorem setRun_sp (n : Nat) (r : Run) (s : State) : (setRun n r s).sp = s.sp := rfl
@[simp] theorem setRun_pow (n : Nat) (r : Run) (s : State) : (setRun n r s).pow = s.pow := rfl
@[simp] theorem setRun_alm (n : Nat) (r : Run) (s : State) : (setRun n r s).alm = s.alm := rfl
@[simp] theorem setRun_vig (n : Nat) (r : Run) (s : State) : (setRun n r s).vig = s.vig := rfl
@[simp] theorem setRun_boot (n : Nat) (r : Run) (s : State) : (setRun n r s).boot = s.boot := rfl
@[simp] theorem setRun_host (n : Nat) (r : Run) (s : State) : (setRun n r s).host = s.host := rfl

@[simp] theorem setCore_pending (e : Eng) (c : Nat) (x : Core) (s : State) : (setCore e c x s).pending = s.pending := rfl
@[simp] theorem setCore_regs (e : Eng) (c : Nat) (x : Core) (s : State) : (setCore e c x s).regs = s.regs := rfl
@[simp] theorem setCore_lcount (e : Eng) (c : Nat) (x : Core) (s : State) : (setCore e c x s).lcount = s.lcount := rfl
@[simp] theorem setCore_free (e : Eng) (c : Nat) (x : Core) (s : State) : (setCore e c x s).free = s.free := rfl
@[simp] theorem setCore_lost (e : Eng) (c : Nat) (x : Core) (s : State) : (setCore e c x s).lost = s.lost := rfl
@[simp] theorem setCore_remain (e : Eng) (c : Nat) (x : Core) (s : State) : (setCore e c x s).remain = s.remain := rfl
@[simp] theorem setCore_io (e : Eng) (c : Nat) (x : Core) (s : State) : (setCore e c x s).io = s.io := rfl
@[simp] theorem setCore_ctl (e : Eng) (c : Nat) (x : Core) (s : State) : (setCore e c x s).ctl = s.ctl := rfl
@[simp] theorem setCore_mem (e : Eng) (c : Nat) (x : Core) (s : State) : (setCore e c x s).mem = s.mem := rfl
@[simp] theorem setCore_gr (e : Eng) (c : Nat) (x : Core) (s : State) : (setCore e c x s).gr = s.gr := rfl
@[simp] theorem setCore_eng (e : Eng) (c : Nat) (x : Core) (s : State) : (setCore e c x s).eng = s.eng := rfl
@[simp] theorem setCore_oct (e : Eng) (c : Nat) (x : Core) (s : State) : (setCore e c x s).oct = s.oct := rfl
@[simp] theorem setCore_st (e : Eng) (c : Nat) (x : Core) (s : State) : (setCore e c x s).st = s.st := rfl
@[simp] theorem setCore_har (e : Eng) (c : Nat) (x : Core) (s : State) : (setCore e c x s).har = s.har := rfl
@[simp] theorem setCore_fab (e : Eng) (c : Nat) (x : Core) (s : State) : (setCore e c x s).fab = s.fab := rfl
@[simp] theorem setCore_sp (e : Eng) (c : Nat) (x : Core) (s : State) : (setCore e c x s).sp = s.sp := rfl
@[simp] theorem setCore_pow (e : Eng) (c : Nat) (x : Core) (s : State) : (setCore e c x s).pow = s.pow := rfl
@[simp] theorem setCore_alm (e : Eng) (c : Nat) (x : Core) (s : State) : (setCore e c x s).alm = s.alm := rfl
@[simp] theorem setCore_vig (e : Eng) (c : Nat) (x : Core) (s : State) : (setCore e c x s).vig = s.vig := rfl
@[simp] theorem setCore_boot (e : Eng) (c : Nat) (x : Core) (s : State) : (setCore e c x s).boot = s.boot := rfl
@[simp] theorem setCore_host (e : Eng) (c : Nat) (x : Core) (s : State) : (setCore e c x s).host = s.host := rfl

@[simp] theorem modStep_pending (c : Nat) (g : StepCtx → StepCtx) (s : State) : (modStep c g s).pending = s.pending := rfl
@[simp] theorem modStep_regs (c : Nat) (g : StepCtx → StepCtx) (s : State) : (modStep c g s).regs = s.regs := rfl
@[simp] theorem modStep_lcount (c : Nat) (g : StepCtx → StepCtx) (s : State) : (modStep c g s).lcount = s.lcount := rfl
@[simp] theorem modStep_free (c : Nat) (g : StepCtx → StepCtx) (s : State) : (modStep c g s).free = s.free := rfl
@[simp] theorem modStep_lost (c : Nat) (g : StepCtx → StepCtx) (s : State) : (modStep c g s).lost = s.lost := rfl
@[simp] theorem modStep_remain (c : Nat) (g : StepCtx → StepCtx) (s : State) : (modStep c g s).remain = s.remain := rfl
@[simp] theorem modStep_io (c : Nat) (g : StepCtx → StepCtx) (s : State) : (modStep c g s).io = s.io := rfl
@[simp] theorem modStep_ctl (c : Nat) (g : StepCtx → StepCtx) (s : State) : (modStep c g s).ctl = s.ctl := rfl
@[simp] theorem modStep_mem (c : Nat) (g : StepCtx → StepCtx) (s : State) : (modStep c g s).mem = s.mem := rfl
@[simp] theorem modStep_gr (c : Nat) (g : StepCtx → StepCtx) (s : State) : (modStep c g s).gr = s.gr := rfl
@[simp] theorem modStep_eng (c : Nat) (g : StepCtx → StepCtx) (s : State) : (modStep c g s).eng = s.eng := rfl
@[simp] theorem modStep_core (c : Nat) (g : StepCtx → StepCtx) (s : State) : (modStep c g s).core = s.core := rfl
@[simp] theorem modStep_oct (c : Nat) (g : StepCtx → StepCtx) (s : State) : (modStep c g s).oct = s.oct := rfl
@[simp] theorem modStep_har (c : Nat) (g : StepCtx → StepCtx) (s : State) : (modStep c g s).har = s.har := rfl
@[simp] theorem modStep_fab (c : Nat) (g : StepCtx → StepCtx) (s : State) : (modStep c g s).fab = s.fab := rfl
@[simp] theorem modStep_sp (c : Nat) (g : StepCtx → StepCtx) (s : State) : (modStep c g s).sp = s.sp := rfl
@[simp] theorem modStep_pow (c : Nat) (g : StepCtx → StepCtx) (s : State) : (modStep c g s).pow = s.pow := rfl
@[simp] theorem modStep_alm (c : Nat) (g : StepCtx → StepCtx) (s : State) : (modStep c g s).alm = s.alm := rfl
@[simp] theorem modStep_vig (c : Nat) (g : StepCtx → StepCtx) (s : State) : (modStep c g s).vig = s.vig := rfl
@[simp] theorem modStep_boot (c : Nat) (g : StepCtx → StepCtx) (s : State) : (modStep c g s).boot = s.boot := rfl
@[simp] theorem modStep_host (c : Nat) (g : StepCtx → StepCtx) (s : State) : (modStep c g s).host = s.host := rfl

@[simp] theorem modHarv_pending (c : Nat) (g : Harv → Harv) (s : State) : (modHarv c g s).pending = s.pending := rfl
@[simp] theorem modHarv_regs (c : Nat) (g : Harv → Harv) (s : State) : (modHarv c g s).regs = s.regs := rfl
@[simp] theorem modHarv_lcount (c : Nat) (g : Harv → Harv) (s : State) : (modHarv c g s).lcount = s.lcount := rfl
@[simp] theorem modHarv_free (c : Nat) (g : Harv → Harv) (s : State) : (modHarv c g s).free = s.free := rfl
@[simp] theorem modHarv_lost (c : Nat) (g : Harv → Harv) (s : State) : (modHarv c g s).lost = s.lost := rfl
@[simp] theorem modHarv_remain (c : Nat) (g : Harv → Harv) (s : State) : (modHarv c g s).remain = s.remain := rfl
@[simp] theorem modHarv_io (c : Nat) (g : Harv → Harv) (s : State) : (modHarv c g s).io = s.io := rfl
@[simp] theorem modHarv_ctl (c : Nat) (g : Harv → Harv) (s : State) : (modHarv c g s).ctl = s.ctl := rfl
@[simp] theorem modHarv_mem (c : Nat) (g : Harv → Harv) (s : State) : (modHarv c g s).mem = s.mem := rfl
@[simp] theorem modHarv_gr (c : Nat) (g : Harv → Harv) (s : State) : (modHarv c g s).gr = s.gr := rfl
@[simp] theorem modHarv_eng (c : Nat) (g : Harv → Harv) (s : State) : (modHarv c g s).eng = s.eng := rfl
@[simp] theorem modHarv_core (c : Nat) (g : Harv → Harv) (s : State) : (modHarv c g s).core = s.core := rfl
@[simp] theorem modHarv_oct (c : Nat) (g : Harv → Harv) (s : State) : (modHarv c g s).oct = s.oct := rfl
@[simp] theorem modHarv_st (c : Nat) (g : Harv → Harv) (s : State) : (modHarv c g s).st = s.st := rfl
@[simp] theorem modHarv_fab (c : Nat) (g : Harv → Harv) (s : State) : (modHarv c g s).fab = s.fab := rfl
@[simp] theorem modHarv_sp (c : Nat) (g : Harv → Harv) (s : State) : (modHarv c g s).sp = s.sp := rfl
@[simp] theorem modHarv_pow (c : Nat) (g : Harv → Harv) (s : State) : (modHarv c g s).pow = s.pow := rfl
@[simp] theorem modHarv_alm (c : Nat) (g : Harv → Harv) (s : State) : (modHarv c g s).alm = s.alm := rfl
@[simp] theorem modHarv_vig (c : Nat) (g : Harv → Harv) (s : State) : (modHarv c g s).vig = s.vig := rfl
@[simp] theorem modHarv_boot (c : Nat) (g : Harv → Harv) (s : State) : (modHarv c g s).boot = s.boot := rfl
@[simp] theorem modHarv_host (c : Nat) (g : Harv → Harv) (s : State) : (modHarv c g s).host = s.host := rfl

@[simp] theorem setIsl_pending (i : Nat) (x : Isl) (s : State) : (setIsl i x s).pending = s.pending := rfl
@[simp] theorem setIsl_regs (i : Nat) (x : Isl) (s : State) : (setIsl i x s).regs = s.regs := rfl
@[simp] theorem setIsl_lcount (i : Nat) (x : Isl) (s : State) : (setIsl i x s).lcount = s.lcount := rfl
@[simp] theorem setIsl_free (i : Nat) (x : Isl) (s : State) : (setIsl i x s).free = s.free := rfl
@[simp] theorem setIsl_lost (i : Nat) (x : Isl) (s : State) : (setIsl i x s).lost = s.lost := rfl
@[simp] theorem setIsl_remain (i : Nat) (x : Isl) (s : State) : (setIsl i x s).remain = s.remain := rfl
@[simp] theorem setIsl_io (i : Nat) (x : Isl) (s : State) : (setIsl i x s).io = s.io := rfl
@[simp] theorem setIsl_ctl (i : Nat) (x : Isl) (s : State) : (setIsl i x s).ctl = s.ctl := rfl
@[simp] theorem setIsl_mem (i : Nat) (x : Isl) (s : State) : (setIsl i x s).mem = s.mem := rfl
@[simp] theorem setIsl_gr (i : Nat) (x : Isl) (s : State) : (setIsl i x s).gr = s.gr := rfl
@[simp] theorem setIsl_eng (i : Nat) (x : Isl) (s : State) : (setIsl i x s).eng = s.eng := rfl
@[simp] theorem setIsl_core (i : Nat) (x : Isl) (s : State) : (setIsl i x s).core = s.core := rfl
@[simp] theorem setIsl_oct (i : Nat) (x : Isl) (s : State) : (setIsl i x s).oct = s.oct := rfl
@[simp] theorem setIsl_st (i : Nat) (x : Isl) (s : State) : (setIsl i x s).st = s.st := rfl
@[simp] theorem setIsl_har (i : Nat) (x : Isl) (s : State) : (setIsl i x s).har = s.har := rfl
@[simp] theorem setIsl_fab (i : Nat) (x : Isl) (s : State) : (setIsl i x s).fab = s.fab := rfl
@[simp] theorem setIsl_sp (i : Nat) (x : Isl) (s : State) : (setIsl i x s).sp = s.sp := rfl
@[simp] theorem setIsl_alm (i : Nat) (x : Isl) (s : State) : (setIsl i x s).alm = s.alm := rfl
@[simp] theorem setIsl_vig (i : Nat) (x : Isl) (s : State) : (setIsl i x s).vig = s.vig := rfl
@[simp] theorem setIsl_boot (i : Nat) (x : Isl) (s : State) : (setIsl i x s).boot = s.boot := rfl
@[simp] theorem setIsl_host (i : Nat) (x : Isl) (s : State) : (setIsl i x s).host = s.host := rfl

@[simp] theorem setPlan_pending (i : Nat) (p : IslPlan) (s : State) : (setPlan i p s).pending = s.pending := rfl
@[simp] theorem setPlan_regs (i : Nat) (p : IslPlan) (s : State) : (setPlan i p s).regs = s.regs := rfl
@[simp] theorem setPlan_lcount (i : Nat) (p : IslPlan) (s : State) : (setPlan i p s).lcount = s.lcount := rfl
@[simp] theorem setPlan_free (i : Nat) (p : IslPlan) (s : State) : (setPlan i p s).free = s.free := rfl
@[simp] theorem setPlan_lost (i : Nat) (p : IslPlan) (s : State) : (setPlan i p s).lost = s.lost := rfl
@[simp] theorem setPlan_remain (i : Nat) (p : IslPlan) (s : State) : (setPlan i p s).remain = s.remain := rfl
@[simp] theorem setPlan_io (i : Nat) (p : IslPlan) (s : State) : (setPlan i p s).io = s.io := rfl
@[simp] theorem setPlan_ctl (i : Nat) (p : IslPlan) (s : State) : (setPlan i p s).ctl = s.ctl := rfl
@[simp] theorem setPlan_mem (i : Nat) (p : IslPlan) (s : State) : (setPlan i p s).mem = s.mem := rfl
@[simp] theorem setPlan_gr (i : Nat) (p : IslPlan) (s : State) : (setPlan i p s).gr = s.gr := rfl
@[simp] theorem setPlan_eng (i : Nat) (p : IslPlan) (s : State) : (setPlan i p s).eng = s.eng := rfl
@[simp] theorem setPlan_core (i : Nat) (p : IslPlan) (s : State) : (setPlan i p s).core = s.core := rfl
@[simp] theorem setPlan_oct (i : Nat) (p : IslPlan) (s : State) : (setPlan i p s).oct = s.oct := rfl
@[simp] theorem setPlan_st (i : Nat) (p : IslPlan) (s : State) : (setPlan i p s).st = s.st := rfl
@[simp] theorem setPlan_har (i : Nat) (p : IslPlan) (s : State) : (setPlan i p s).har = s.har := rfl
@[simp] theorem setPlan_fab (i : Nat) (p : IslPlan) (s : State) : (setPlan i p s).fab = s.fab := rfl
@[simp] theorem setPlan_pow (i : Nat) (p : IslPlan) (s : State) : (setPlan i p s).pow = s.pow := rfl
@[simp] theorem setPlan_alm (i : Nat) (p : IslPlan) (s : State) : (setPlan i p s).alm = s.alm := rfl
@[simp] theorem setPlan_vig (i : Nat) (p : IslPlan) (s : State) : (setPlan i p s).vig = s.vig := rfl
@[simp] theorem setPlan_boot (i : Nat) (p : IslPlan) (s : State) : (setPlan i p s).boot = s.boot := rfl
@[simp] theorem setPlan_host (i : Nat) (p : IslPlan) (s : State) : (setPlan i p s).host = s.host := rfl

@[simp] theorem finishAt_pending (q n st det : Nat) (s : State) : (finishAt q n st det s).pending = s.pending := rfl
@[simp] theorem finishAt_regs (q n st det : Nat) (s : State) : (finishAt q n st det s).regs = s.regs := rfl
@[simp] theorem finishAt_lcount (q n st det : Nat) (s : State) : (finishAt q n st det s).lcount = s.lcount := rfl
@[simp] theorem finishAt_free (q n st det : Nat) (s : State) : (finishAt q n st det s).free = s.free := rfl
@[simp] theorem finishAt_lost (q n st det : Nat) (s : State) : (finishAt q n st det s).lost = s.lost := rfl
@[simp] theorem finishAt_remain (q n st det : Nat) (s : State) : (finishAt q n st det s).remain = s.remain := rfl
@[simp] theorem finishAt_io (q n st det : Nat) (s : State) : (finishAt q n st det s).io = s.io := rfl
@[simp] theorem finishAt_mem (q n st det : Nat) (s : State) : (finishAt q n st det s).mem = s.mem := rfl
@[simp] theorem finishAt_gr (q n st det : Nat) (s : State) : (finishAt q n st det s).gr = s.gr := rfl
@[simp] theorem finishAt_eng (q n st det : Nat) (s : State) : (finishAt q n st det s).eng = s.eng := rfl
@[simp] theorem finishAt_core (q n st det : Nat) (s : State) : (finishAt q n st det s).core = s.core := rfl
@[simp] theorem finishAt_oct (q n st det : Nat) (s : State) : (finishAt q n st det s).oct = s.oct := rfl
@[simp] theorem finishAt_st (q n st det : Nat) (s : State) : (finishAt q n st det s).st = s.st := rfl
@[simp] theorem finishAt_har (q n st det : Nat) (s : State) : (finishAt q n st det s).har = s.har := rfl
@[simp] theorem finishAt_fab (q n st det : Nat) (s : State) : (finishAt q n st det s).fab = s.fab := rfl
@[simp] theorem finishAt_sp (q n st det : Nat) (s : State) : (finishAt q n st det s).sp = s.sp := rfl
@[simp] theorem finishAt_pow (q n st det : Nat) (s : State) : (finishAt q n st det s).pow = s.pow := rfl
@[simp] theorem finishAt_alm (q n st det : Nat) (s : State) : (finishAt q n st det s).alm = s.alm := rfl
@[simp] theorem finishAt_vig (q n st det : Nat) (s : State) : (finishAt q n st det s).vig = s.vig := rfl
@[simp] theorem finishAt_boot (q n st det : Nat) (s : State) : (finishAt q n st det s).boot = s.boot := rfl
@[simp] theorem finishAt_host (q n st det : Nat) (s : State) : (finishAt q n st det s).host = s.host := rfl
@[simp] theorem finishAt_ctl_ctxs (q n st det : Nat) (s : State) : (finishAt q n st det s).ctl.ctxs = s.ctl.ctxs := rfl
@[simp] theorem finishAt_ctl_gens (q n st det : Nat) (s : State) : (finishAt q n st det s).ctl.gens = s.ctl.gens := rfl
@[simp] theorem finishAt_ctl_queues (q n st det : Nat) (s : State) : (finishAt q n st det s).ctl.queues = s.ctl.queues := rfl
@[simp] theorem finishAt_ctl_partner (q n st det : Nat) (s : State) : (finishAt q n st det s).ctl.partner = s.ctl.partner := rfl
@[simp] theorem finishAt_ctl_doorbells (q n st det : Nat) (s : State) : (finishAt q n st det s).ctl.doorbells = s.ctl.doorbells := rfl
@[simp] theorem finishAt_ctl_missed (q n st det : Nat) (s : State) : (finishAt q n st det s).ctl.missed = s.ctl.missed := rfl
@[simp] theorem finishAt_ctl_f0Fenced (q n st det : Nat) (s : State) : (finishAt q n st det s).ctl.f0Fenced = s.ctl.f0Fenced := rfl
@[simp] theorem finishAt_ctl_partitions (q n st det : Nat) (s : State) : (finishAt q n st det s).ctl.partitions = s.ctl.partitions := rfl

@[simp] theorem finish_pending (h : CmdRef) (st det : Nat) (s : State) : (finish h st det s).pending = s.pending := rfl
@[simp] theorem finish_regs (h : CmdRef) (st det : Nat) (s : State) : (finish h st det s).regs = s.regs := rfl
@[simp] theorem finish_lcount (h : CmdRef) (st det : Nat) (s : State) : (finish h st det s).lcount = s.lcount := rfl
@[simp] theorem finish_free (h : CmdRef) (st det : Nat) (s : State) : (finish h st det s).free = s.free := rfl
@[simp] theorem finish_lost (h : CmdRef) (st det : Nat) (s : State) : (finish h st det s).lost = s.lost := rfl
@[simp] theorem finish_remain (h : CmdRef) (st det : Nat) (s : State) : (finish h st det s).remain = s.remain := rfl
@[simp] theorem finish_io (h : CmdRef) (st det : Nat) (s : State) : (finish h st det s).io = s.io := rfl
@[simp] theorem finish_mem (h : CmdRef) (st det : Nat) (s : State) : (finish h st det s).mem = s.mem := rfl
@[simp] theorem finish_gr (h : CmdRef) (st det : Nat) (s : State) : (finish h st det s).gr = s.gr := rfl
@[simp] theorem finish_eng (h : CmdRef) (st det : Nat) (s : State) : (finish h st det s).eng = s.eng := rfl
@[simp] theorem finish_core (h : CmdRef) (st det : Nat) (s : State) : (finish h st det s).core = s.core := rfl
@[simp] theorem finish_oct (h : CmdRef) (st det : Nat) (s : State) : (finish h st det s).oct = s.oct := rfl
@[simp] theorem finish_st (h : CmdRef) (st det : Nat) (s : State) : (finish h st det s).st = s.st := rfl
@[simp] theorem finish_har (h : CmdRef) (st det : Nat) (s : State) : (finish h st det s).har = s.har := rfl
@[simp] theorem finish_fab (h : CmdRef) (st det : Nat) (s : State) : (finish h st det s).fab = s.fab := rfl
@[simp] theorem finish_sp (h : CmdRef) (st det : Nat) (s : State) : (finish h st det s).sp = s.sp := rfl
@[simp] theorem finish_pow (h : CmdRef) (st det : Nat) (s : State) : (finish h st det s).pow = s.pow := rfl
@[simp] theorem finish_alm (h : CmdRef) (st det : Nat) (s : State) : (finish h st det s).alm = s.alm := rfl
@[simp] theorem finish_vig (h : CmdRef) (st det : Nat) (s : State) : (finish h st det s).vig = s.vig := rfl
@[simp] theorem finish_boot (h : CmdRef) (st det : Nat) (s : State) : (finish h st det s).boot = s.boot := rfl
@[simp] theorem finish_host (h : CmdRef) (st det : Nat) (s : State) : (finish h st det s).host = s.host := rfl
@[simp] theorem finish_ctl_ctxs (h : CmdRef) (st det : Nat) (s : State) : (finish h st det s).ctl.ctxs = s.ctl.ctxs := rfl
@[simp] theorem finish_ctl_gens (h : CmdRef) (st det : Nat) (s : State) : (finish h st det s).ctl.gens = s.ctl.gens := rfl
@[simp] theorem finish_ctl_queues (h : CmdRef) (st det : Nat) (s : State) : (finish h st det s).ctl.queues = s.ctl.queues := rfl
@[simp] theorem finish_ctl_partner (h : CmdRef) (st det : Nat) (s : State) : (finish h st det s).ctl.partner = s.ctl.partner := rfl
@[simp] theorem finish_ctl_doorbells (h : CmdRef) (st det : Nat) (s : State) : (finish h st det s).ctl.doorbells = s.ctl.doorbells := rfl
@[simp] theorem finish_ctl_missed (h : CmdRef) (st det : Nat) (s : State) : (finish h st det s).ctl.missed = s.ctl.missed := rfl
@[simp] theorem finish_ctl_f0Fenced (h : CmdRef) (st det : Nat) (s : State) : (finish h st det s).ctl.f0Fenced = s.ctl.f0Fenced := rfl
@[simp] theorem finish_ctl_partitions (h : CmdRef) (st det : Nat) (s : State) : (finish h st det s).ctl.partitions = s.ctl.partitions := rfl

@[simp] theorem finishOk_pending (h : CmdRef) (s : State) : (finishOk h s).pending = s.pending := rfl
@[simp] theorem finishOk_regs (h : CmdRef) (s : State) : (finishOk h s).regs = s.regs := rfl
@[simp] theorem finishOk_lcount (h : CmdRef) (s : State) : (finishOk h s).lcount = s.lcount := rfl
@[simp] theorem finishOk_free (h : CmdRef) (s : State) : (finishOk h s).free = s.free := rfl
@[simp] theorem finishOk_lost (h : CmdRef) (s : State) : (finishOk h s).lost = s.lost := rfl
@[simp] theorem finishOk_remain (h : CmdRef) (s : State) : (finishOk h s).remain = s.remain := rfl
@[simp] theorem finishOk_io (h : CmdRef) (s : State) : (finishOk h s).io = s.io := rfl
@[simp] theorem finishOk_mem (h : CmdRef) (s : State) : (finishOk h s).mem = s.mem := rfl
@[simp] theorem finishOk_gr (h : CmdRef) (s : State) : (finishOk h s).gr = s.gr := rfl
@[simp] theorem finishOk_eng (h : CmdRef) (s : State) : (finishOk h s).eng = s.eng := rfl
@[simp] theorem finishOk_core (h : CmdRef) (s : State) : (finishOk h s).core = s.core := rfl
@[simp] theorem finishOk_oct (h : CmdRef) (s : State) : (finishOk h s).oct = s.oct := rfl
@[simp] theorem finishOk_st (h : CmdRef) (s : State) : (finishOk h s).st = s.st := rfl
@[simp] theorem finishOk_har (h : CmdRef) (s : State) : (finishOk h s).har = s.har := rfl
@[simp] theorem finishOk_fab (h : CmdRef) (s : State) : (finishOk h s).fab = s.fab := rfl
@[simp] theorem finishOk_sp (h : CmdRef) (s : State) : (finishOk h s).sp = s.sp := rfl
@[simp] theorem finishOk_pow (h : CmdRef) (s : State) : (finishOk h s).pow = s.pow := rfl
@[simp] theorem finishOk_alm (h : CmdRef) (s : State) : (finishOk h s).alm = s.alm := rfl
@[simp] theorem finishOk_vig (h : CmdRef) (s : State) : (finishOk h s).vig = s.vig := rfl
@[simp] theorem finishOk_boot (h : CmdRef) (s : State) : (finishOk h s).boot = s.boot := rfl
@[simp] theorem finishOk_host (h : CmdRef) (s : State) : (finishOk h s).host = s.host := rfl
@[simp] theorem finishOk_ctl_ctxs (h : CmdRef) (s : State) : (finishOk h s).ctl.ctxs = s.ctl.ctxs := rfl
@[simp] theorem finishOk_ctl_gens (h : CmdRef) (s : State) : (finishOk h s).ctl.gens = s.ctl.gens := rfl
@[simp] theorem finishOk_ctl_queues (h : CmdRef) (s : State) : (finishOk h s).ctl.queues = s.ctl.queues := rfl
@[simp] theorem finishOk_ctl_partner (h : CmdRef) (s : State) : (finishOk h s).ctl.partner = s.ctl.partner := rfl
@[simp] theorem finishOk_ctl_doorbells (h : CmdRef) (s : State) : (finishOk h s).ctl.doorbells = s.ctl.doorbells := rfl
@[simp] theorem finishOk_ctl_missed (h : CmdRef) (s : State) : (finishOk h s).ctl.missed = s.ctl.missed := rfl
@[simp] theorem finishOk_ctl_f0Fenced (h : CmdRef) (s : State) : (finishOk h s).ctl.f0Fenced = s.ctl.f0Fenced := rfl
@[simp] theorem finishOk_ctl_partitions (h : CmdRef) (s : State) : (finishOk h s).ctl.partitions = s.ctl.partitions := rfl

@[simp] theorem badParam_pending (h : CmdRef) (det : Nat) (s : State) : (badParam h det s).pending = s.pending := rfl
@[simp] theorem badParam_regs (h : CmdRef) (det : Nat) (s : State) : (badParam h det s).regs = s.regs := rfl
@[simp] theorem badParam_lcount (h : CmdRef) (det : Nat) (s : State) : (badParam h det s).lcount = s.lcount := rfl
@[simp] theorem badParam_free (h : CmdRef) (det : Nat) (s : State) : (badParam h det s).free = s.free := rfl
@[simp] theorem badParam_lost (h : CmdRef) (det : Nat) (s : State) : (badParam h det s).lost = s.lost := rfl
@[simp] theorem badParam_remain (h : CmdRef) (det : Nat) (s : State) : (badParam h det s).remain = s.remain := rfl
@[simp] theorem badParam_io (h : CmdRef) (det : Nat) (s : State) : (badParam h det s).io = s.io := rfl
@[simp] theorem badParam_mem (h : CmdRef) (det : Nat) (s : State) : (badParam h det s).mem = s.mem := rfl
@[simp] theorem badParam_gr (h : CmdRef) (det : Nat) (s : State) : (badParam h det s).gr = s.gr := rfl
@[simp] theorem badParam_eng (h : CmdRef) (det : Nat) (s : State) : (badParam h det s).eng = s.eng := rfl
@[simp] theorem badParam_core (h : CmdRef) (det : Nat) (s : State) : (badParam h det s).core = s.core := rfl
@[simp] theorem badParam_oct (h : CmdRef) (det : Nat) (s : State) : (badParam h det s).oct = s.oct := rfl
@[simp] theorem badParam_st (h : CmdRef) (det : Nat) (s : State) : (badParam h det s).st = s.st := rfl
@[simp] theorem badParam_har (h : CmdRef) (det : Nat) (s : State) : (badParam h det s).har = s.har := rfl
@[simp] theorem badParam_fab (h : CmdRef) (det : Nat) (s : State) : (badParam h det s).fab = s.fab := rfl
@[simp] theorem badParam_sp (h : CmdRef) (det : Nat) (s : State) : (badParam h det s).sp = s.sp := rfl
@[simp] theorem badParam_pow (h : CmdRef) (det : Nat) (s : State) : (badParam h det s).pow = s.pow := rfl
@[simp] theorem badParam_alm (h : CmdRef) (det : Nat) (s : State) : (badParam h det s).alm = s.alm := rfl
@[simp] theorem badParam_vig (h : CmdRef) (det : Nat) (s : State) : (badParam h det s).vig = s.vig := rfl
@[simp] theorem badParam_boot (h : CmdRef) (det : Nat) (s : State) : (badParam h det s).boot = s.boot := rfl
@[simp] theorem badParam_host (h : CmdRef) (det : Nat) (s : State) : (badParam h det s).host = s.host := rfl
@[simp] theorem badParam_ctl_ctxs (h : CmdRef) (det : Nat) (s : State) : (badParam h det s).ctl.ctxs = s.ctl.ctxs := rfl
@[simp] theorem badParam_ctl_gens (h : CmdRef) (det : Nat) (s : State) : (badParam h det s).ctl.gens = s.ctl.gens := rfl
@[simp] theorem badParam_ctl_queues (h : CmdRef) (det : Nat) (s : State) : (badParam h det s).ctl.queues = s.ctl.queues := rfl
@[simp] theorem badParam_ctl_partner (h : CmdRef) (det : Nat) (s : State) : (badParam h det s).ctl.partner = s.ctl.partner := rfl
@[simp] theorem badParam_ctl_doorbells (h : CmdRef) (det : Nat) (s : State) : (badParam h det s).ctl.doorbells = s.ctl.doorbells := rfl
@[simp] theorem badParam_ctl_missed (h : CmdRef) (det : Nat) (s : State) : (badParam h det s).ctl.missed = s.ctl.missed := rfl
@[simp] theorem badParam_ctl_f0Fenced (h : CmdRef) (det : Nat) (s : State) : (badParam h det s).ctl.f0Fenced = s.ctl.f0Fenced := rfl
@[simp] theorem badParam_ctl_partitions (h : CmdRef) (det : Nat) (s : State) : (badParam h det s).ctl.partitions = s.ctl.partitions := rfl

@[simp] theorem waitFor_pending (h : CmdRef) (w : Wait) (s : State) : (waitFor h w s).pending = s.pending := rfl
@[simp] theorem waitFor_regs (h : CmdRef) (w : Wait) (s : State) : (waitFor h w s).regs = s.regs := rfl
@[simp] theorem waitFor_lcount (h : CmdRef) (w : Wait) (s : State) : (waitFor h w s).lcount = s.lcount := rfl
@[simp] theorem waitFor_free (h : CmdRef) (w : Wait) (s : State) : (waitFor h w s).free = s.free := rfl
@[simp] theorem waitFor_lost (h : CmdRef) (w : Wait) (s : State) : (waitFor h w s).lost = s.lost := rfl
@[simp] theorem waitFor_remain (h : CmdRef) (w : Wait) (s : State) : (waitFor h w s).remain = s.remain := rfl
@[simp] theorem waitFor_io (h : CmdRef) (w : Wait) (s : State) : (waitFor h w s).io = s.io := rfl
@[simp] theorem waitFor_mem (h : CmdRef) (w : Wait) (s : State) : (waitFor h w s).mem = s.mem := rfl
@[simp] theorem waitFor_gr (h : CmdRef) (w : Wait) (s : State) : (waitFor h w s).gr = s.gr := rfl
@[simp] theorem waitFor_eng (h : CmdRef) (w : Wait) (s : State) : (waitFor h w s).eng = s.eng := rfl
@[simp] theorem waitFor_core (h : CmdRef) (w : Wait) (s : State) : (waitFor h w s).core = s.core := rfl
@[simp] theorem waitFor_oct (h : CmdRef) (w : Wait) (s : State) : (waitFor h w s).oct = s.oct := rfl
@[simp] theorem waitFor_st (h : CmdRef) (w : Wait) (s : State) : (waitFor h w s).st = s.st := rfl
@[simp] theorem waitFor_har (h : CmdRef) (w : Wait) (s : State) : (waitFor h w s).har = s.har := rfl
@[simp] theorem waitFor_fab (h : CmdRef) (w : Wait) (s : State) : (waitFor h w s).fab = s.fab := rfl
@[simp] theorem waitFor_sp (h : CmdRef) (w : Wait) (s : State) : (waitFor h w s).sp = s.sp := rfl
@[simp] theorem waitFor_pow (h : CmdRef) (w : Wait) (s : State) : (waitFor h w s).pow = s.pow := rfl
@[simp] theorem waitFor_alm (h : CmdRef) (w : Wait) (s : State) : (waitFor h w s).alm = s.alm := rfl
@[simp] theorem waitFor_vig (h : CmdRef) (w : Wait) (s : State) : (waitFor h w s).vig = s.vig := rfl
@[simp] theorem waitFor_boot (h : CmdRef) (w : Wait) (s : State) : (waitFor h w s).boot = s.boot := rfl
@[simp] theorem waitFor_host (h : CmdRef) (w : Wait) (s : State) : (waitFor h w s).host = s.host := rfl
@[simp] theorem waitFor_ctl_ctxs (h : CmdRef) (w : Wait) (s : State) : (waitFor h w s).ctl.ctxs = s.ctl.ctxs := rfl
@[simp] theorem waitFor_ctl_gens (h : CmdRef) (w : Wait) (s : State) : (waitFor h w s).ctl.gens = s.ctl.gens := rfl
@[simp] theorem waitFor_ctl_queues (h : CmdRef) (w : Wait) (s : State) : (waitFor h w s).ctl.queues = s.ctl.queues := rfl
@[simp] theorem waitFor_ctl_partner (h : CmdRef) (w : Wait) (s : State) : (waitFor h w s).ctl.partner = s.ctl.partner := rfl
@[simp] theorem waitFor_ctl_doorbells (h : CmdRef) (w : Wait) (s : State) : (waitFor h w s).ctl.doorbells = s.ctl.doorbells := rfl
@[simp] theorem waitFor_ctl_missed (h : CmdRef) (w : Wait) (s : State) : (waitFor h w s).ctl.missed = s.ctl.missed := rfl
@[simp] theorem waitFor_ctl_f0Fenced (h : CmdRef) (w : Wait) (s : State) : (waitFor h w s).ctl.f0Fenced = s.ctl.f0Fenced := rfl
@[simp] theorem waitFor_ctl_partitions (h : CmdRef) (w : Wait) (s : State) : (waitFor h w s).ctl.partitions = s.ctl.partitions := rfl

@[simp] theorem finishWaits_pending (p : Rec → Bool) (st : Nat) (det : Rec → Nat) (s : State) : (finishWaits p st det s).pending = s.pending := rfl
@[simp] theorem finishWaits_regs (p : Rec → Bool) (st : Nat) (det : Rec → Nat) (s : State) : (finishWaits p st det s).regs = s.regs := rfl
@[simp] theorem finishWaits_lcount (p : Rec → Bool) (st : Nat) (det : Rec → Nat) (s : State) : (finishWaits p st det s).lcount = s.lcount := rfl
@[simp] theorem finishWaits_free (p : Rec → Bool) (st : Nat) (det : Rec → Nat) (s : State) : (finishWaits p st det s).free = s.free := rfl
@[simp] theorem finishWaits_lost (p : Rec → Bool) (st : Nat) (det : Rec → Nat) (s : State) : (finishWaits p st det s).lost = s.lost := rfl
@[simp] theorem finishWaits_remain (p : Rec → Bool) (st : Nat) (det : Rec → Nat) (s : State) : (finishWaits p st det s).remain = s.remain := rfl
@[simp] theorem finishWaits_io (p : Rec → Bool) (st : Nat) (det : Rec → Nat) (s : State) : (finishWaits p st det s).io = s.io := rfl
@[simp] theorem finishWaits_mem (p : Rec → Bool) (st : Nat) (det : Rec → Nat) (s : State) : (finishWaits p st det s).mem = s.mem := rfl
@[simp] theorem finishWaits_gr (p : Rec → Bool) (st : Nat) (det : Rec → Nat) (s : State) : (finishWaits p st det s).gr = s.gr := rfl
@[simp] theorem finishWaits_eng (p : Rec → Bool) (st : Nat) (det : Rec → Nat) (s : State) : (finishWaits p st det s).eng = s.eng := rfl
@[simp] theorem finishWaits_core (p : Rec → Bool) (st : Nat) (det : Rec → Nat) (s : State) : (finishWaits p st det s).core = s.core := rfl
@[simp] theorem finishWaits_oct (p : Rec → Bool) (st : Nat) (det : Rec → Nat) (s : State) : (finishWaits p st det s).oct = s.oct := rfl
@[simp] theorem finishWaits_st (p : Rec → Bool) (st : Nat) (det : Rec → Nat) (s : State) : (finishWaits p st det s).st = s.st := rfl
@[simp] theorem finishWaits_har (p : Rec → Bool) (st : Nat) (det : Rec → Nat) (s : State) : (finishWaits p st det s).har = s.har := rfl
@[simp] theorem finishWaits_fab (p : Rec → Bool) (st : Nat) (det : Rec → Nat) (s : State) : (finishWaits p st det s).fab = s.fab := rfl
@[simp] theorem finishWaits_sp (p : Rec → Bool) (st : Nat) (det : Rec → Nat) (s : State) : (finishWaits p st det s).sp = s.sp := rfl
@[simp] theorem finishWaits_pow (p : Rec → Bool) (st : Nat) (det : Rec → Nat) (s : State) : (finishWaits p st det s).pow = s.pow := rfl
@[simp] theorem finishWaits_alm (p : Rec → Bool) (st : Nat) (det : Rec → Nat) (s : State) : (finishWaits p st det s).alm = s.alm := rfl
@[simp] theorem finishWaits_vig (p : Rec → Bool) (st : Nat) (det : Rec → Nat) (s : State) : (finishWaits p st det s).vig = s.vig := rfl
@[simp] theorem finishWaits_boot (p : Rec → Bool) (st : Nat) (det : Rec → Nat) (s : State) : (finishWaits p st det s).boot = s.boot := rfl
@[simp] theorem finishWaits_host (p : Rec → Bool) (st : Nat) (det : Rec → Nat) (s : State) : (finishWaits p st det s).host = s.host := rfl
@[simp] theorem finishWaits_ctl_ctxs (p : Rec → Bool) (st : Nat) (det : Rec → Nat) (s : State) : (finishWaits p st det s).ctl.ctxs = s.ctl.ctxs := rfl
@[simp] theorem finishWaits_ctl_gens (p : Rec → Bool) (st : Nat) (det : Rec → Nat) (s : State) : (finishWaits p st det s).ctl.gens = s.ctl.gens := rfl
@[simp] theorem finishWaits_ctl_queues (p : Rec → Bool) (st : Nat) (det : Rec → Nat) (s : State) : (finishWaits p st det s).ctl.queues = s.ctl.queues := rfl
@[simp] theorem finishWaits_ctl_partner (p : Rec → Bool) (st : Nat) (det : Rec → Nat) (s : State) : (finishWaits p st det s).ctl.partner = s.ctl.partner := rfl
@[simp] theorem finishWaits_ctl_doorbells (p : Rec → Bool) (st : Nat) (det : Rec → Nat) (s : State) : (finishWaits p st det s).ctl.doorbells = s.ctl.doorbells := rfl
@[simp] theorem finishWaits_ctl_missed (p : Rec → Bool) (st : Nat) (det : Rec → Nat) (s : State) : (finishWaits p st det s).ctl.missed = s.ctl.missed := rfl
@[simp] theorem finishWaits_ctl_f0Fenced (p : Rec → Bool) (st : Nat) (det : Rec → Nat) (s : State) : (finishWaits p st det s).ctl.f0Fenced = s.ctl.f0Fenced := rfl
@[simp] theorem finishWaits_ctl_partitions (p : Rec → Bool) (st : Nat) (det : Rec → Nat) (s : State) : (finishWaits p st det s).ctl.partitions = s.ctl.partitions := rfl

/-! ### Updates that raise events: they touch registers, counts, rings and messages, and nothing else -/

@[simp] theorem msix_pending (n v : Nat) (s : State) : (msix n v s).pending = s.pending := by unfold msix; split <;> rfl
@[simp] theorem msix_regs (n v : Nat) (s : State) : (msix n v s).regs = s.regs := by unfold msix; split <;> rfl
@[simp] theorem msix_lcount (n v : Nat) (s : State) : (msix n v s).lcount = s.lcount := by unfold msix; split <;> rfl
@[simp] theorem msix_free (n v : Nat) (s : State) : (msix n v s).free = s.free := by unfold msix; split <;> rfl
@[simp] theorem msix_lost (n v : Nat) (s : State) : (msix n v s).lost = s.lost := by unfold msix; split <;> rfl
@[simp] theorem msix_remain (n v : Nat) (s : State) : (msix n v s).remain = s.remain := by unfold msix; split <;> rfl
@[simp] theorem msix_ctl (n v : Nat) (s : State) : (msix n v s).ctl = s.ctl := by unfold msix; split <;> rfl
@[simp] theorem msix_mem (n v : Nat) (s : State) : (msix n v s).mem = s.mem := by unfold msix; split <;> rfl
@[simp] theorem msix_gr (n v : Nat) (s : State) : (msix n v s).gr = s.gr := by unfold msix; split <;> rfl
@[simp] theorem msix_eng (n v : Nat) (s : State) : (msix n v s).eng = s.eng := by unfold msix; split <;> rfl
@[simp] theorem msix_core (n v : Nat) (s : State) : (msix n v s).core = s.core := by unfold msix; split <;> rfl
@[simp] theorem msix_oct (n v : Nat) (s : State) : (msix n v s).oct = s.oct := by unfold msix; split <;> rfl
@[simp] theorem msix_st (n v : Nat) (s : State) : (msix n v s).st = s.st := by unfold msix; split <;> rfl
@[simp] theorem msix_har (n v : Nat) (s : State) : (msix n v s).har = s.har := by unfold msix; split <;> rfl
@[simp] theorem msix_fab (n v : Nat) (s : State) : (msix n v s).fab = s.fab := by unfold msix; split <;> rfl
@[simp] theorem msix_sp (n v : Nat) (s : State) : (msix n v s).sp = s.sp := by unfold msix; split <;> rfl
@[simp] theorem msix_pow (n v : Nat) (s : State) : (msix n v s).pow = s.pow := by unfold msix; split <;> rfl
@[simp] theorem msix_alm (n v : Nat) (s : State) : (msix n v s).alm = s.alm := by unfold msix; split <;> rfl
@[simp] theorem msix_vig (n v : Nat) (s : State) : (msix n v s).vig = s.vig := by unfold msix; split <;> rfl
@[simp] theorem msix_boot (n v : Nat) (s : State) : (msix n v s).boot = s.boot := by unfold msix; split <;> rfl
@[simp] theorem urgent_pending (s : State) : (urgent s).pending = s.pending := by unfold urgent; split <;> simp
@[simp] theorem urgent_regs (s : State) : (urgent s).regs = s.regs := by unfold urgent; split <;> simp
@[simp] theorem urgent_lcount (s : State) : (urgent s).lcount = s.lcount := by unfold urgent; split <;> simp
@[simp] theorem urgent_free (s : State) : (urgent s).free = s.free := by unfold urgent; split <;> simp
@[simp] theorem urgent_lost (s : State) : (urgent s).lost = s.lost := by unfold urgent; split <;> simp
@[simp] theorem urgent_remain (s : State) : (urgent s).remain = s.remain := by unfold urgent; split <;> simp
@[simp] theorem urgent_ctl (s : State) : (urgent s).ctl = s.ctl := by unfold urgent; split <;> simp
@[simp] theorem urgent_mem (s : State) : (urgent s).mem = s.mem := by unfold urgent; split <;> simp
@[simp] theorem urgent_gr (s : State) : (urgent s).gr = s.gr := by unfold urgent; split <;> simp
@[simp] theorem urgent_eng (s : State) : (urgent s).eng = s.eng := by unfold urgent; split <;> simp
@[simp] theorem urgent_core (s : State) : (urgent s).core = s.core := by unfold urgent; split <;> simp
@[simp] theorem urgent_oct (s : State) : (urgent s).oct = s.oct := by unfold urgent; split <;> simp
@[simp] theorem urgent_st (s : State) : (urgent s).st = s.st := by unfold urgent; split <;> simp
@[simp] theorem urgent_har (s : State) : (urgent s).har = s.har := by unfold urgent; split <;> simp
@[simp] theorem urgent_fab (s : State) : (urgent s).fab = s.fab := by unfold urgent; split <;> simp
@[simp] theorem urgent_sp (s : State) : (urgent s).sp = s.sp := by unfold urgent; split <;> simp
@[simp] theorem urgent_pow (s : State) : (urgent s).pow = s.pow := by unfold urgent; split <;> simp
@[simp] theorem urgent_alm (s : State) : (urgent s).alm = s.alm := by unfold urgent; split <;> simp
@[simp] theorem urgent_vig (s : State) : (urgent s).vig = s.vig := by unfold urgent; split <;> simp
@[simp] theorem urgent_boot (s : State) : (urgent s).boot = s.boot := by unfold urgent; split <;> simp
@[simp] theorem ringWrite_pending (e : Event) (s : State) : (ringWrite e s).1.pending = s.pending := by
  unfold ringWrite; repeat' split
  all_goals simp
@[simp] theorem ringWrite_mem (e : Event) (s : State) : (ringWrite e s).1.mem = s.mem := by
  unfold ringWrite; repeat' split
  all_goals simp
@[simp] theorem ringWrite_gr (e : Event) (s : State) : (ringWrite e s).1.gr = s.gr := by
  unfold ringWrite; repeat' split
  all_goals simp
@[simp] theorem ringWrite_eng (e : Event) (s : State) : (ringWrite e s).1.eng = s.eng := by
  unfold ringWrite; repeat' split
  all_goals simp
@[simp] theorem ringWrite_core (e : Event) (s : State) : (ringWrite e s).1.core = s.core := by
  unfold ringWrite; repeat' split
  all_goals simp
@[simp] theorem ringWrite_oct (e : Event) (s : State) : (ringWrite e s).1.oct = s.oct := by
  unfold ringWrite; repeat' split
  all_goals simp
@[simp] theorem ringWrite_st (e : Event) (s : State) : (ringWrite e s).1.st = s.st := by
  unfold ringWrite; repeat' split
  all_goals simp
@[simp] theorem ringWrite_har (e : Event) (s : State) : (ringWrite e s).1.har = s.har := by
  unfold ringWrite; repeat' split
  all_goals simp
@[simp] theorem ringWrite_fab (e : Event) (s : State) : (ringWrite e s).1.fab = s.fab := by
  unfold ringWrite; repeat' split
  all_goals simp
@[simp] theorem ringWrite_sp (e : Event) (s : State) : (ringWrite e s).1.sp = s.sp := by
  unfold ringWrite; repeat' split
  all_goals simp
@[simp] theorem ringWrite_pow (e : Event) (s : State) : (ringWrite e s).1.pow = s.pow := by
  unfold ringWrite; repeat' split
  all_goals simp
@[simp] theorem ringWrite_alm (e : Event) (s : State) : (ringWrite e s).1.alm = s.alm := by
  unfold ringWrite; repeat' split
  all_goals simp
@[simp] theorem ringWrite_vig (e : Event) (s : State) : (ringWrite e s).1.vig = s.vig := by
  unfold ringWrite; repeat' split
  all_goals simp
@[simp] theorem ringWrite_boot (e : Event) (s : State) : (ringWrite e s).1.boot = s.boot := by
  unfold ringWrite; repeat' split
  all_goals simp
@[simp] theorem ringWrite_ctl_gens (e : Event) (s : State) : (ringWrite e s).1.ctl.gens = s.ctl.gens := by
  unfold ringWrite; repeat' split
  all_goals simp
@[simp] theorem ringWrite_ctl_queues (e : Event) (s : State) : (ringWrite e s).1.ctl.queues = s.ctl.queues := by
  unfold ringWrite; repeat' split
  all_goals simp
@[simp] theorem ringWrite_ctl_journal (e : Event) (s : State) : (ringWrite e s).1.ctl.journal = s.ctl.journal := by
  unfold ringWrite; repeat' split
  all_goals simp
@[simp] theorem ringWrite_ctl_partner (e : Event) (s : State) : (ringWrite e s).1.ctl.partner = s.ctl.partner := by
  unfold ringWrite; repeat' split
  all_goals simp
@[simp] theorem ringWrite_ctl_doorbells (e : Event) (s : State) : (ringWrite e s).1.ctl.doorbells = s.ctl.doorbells := by
  unfold ringWrite; repeat' split
  all_goals simp
@[simp] theorem ringWrite_ctl_missed (e : Event) (s : State) : (ringWrite e s).1.ctl.missed = s.ctl.missed := by
  unfold ringWrite; repeat' split
  all_goals simp
@[simp] theorem ringWrite_ctl_f0Fenced (e : Event) (s : State) : (ringWrite e s).1.ctl.f0Fenced = s.ctl.f0Fenced := by
  unfold ringWrite; repeat' split
  all_goals simp
@[simp] theorem ringWrite_ctl_partitions (e : Event) (s : State) : (ringWrite e s).1.ctl.partitions = s.ctl.partitions := by
  unfold ringWrite; repeat' split
  all_goals simp
@[simp] theorem countDrop_pending (c : Nat) (s : State) : (countDrop c s).pending = s.pending := by
  unfold countDrop; simp only []; repeat' split
  all_goals simp
@[simp] theorem countDrop_mem (c : Nat) (s : State) : (countDrop c s).mem = s.mem := by
  unfold countDrop; simp only []; repeat' split
  all_goals simp
@[simp] theorem countDrop_gr (c : Nat) (s : State) : (countDrop c s).gr = s.gr := by
  unfold countDrop; simp only []; repeat' split
  all_goals simp
@[simp] theorem countDrop_eng (c : Nat) (s : State) : (countDrop c s).eng = s.eng := by
  unfold countDrop; simp only []; repeat' split
  all_goals simp
@[simp] theorem countDrop_core (c : Nat) (s : State) : (countDrop c s).core = s.core := by
  unfold countDrop; simp only []; repeat' split
  all_goals simp
@[simp] theorem countDrop_oct (c : Nat) (s : State) : (countDrop c s).oct = s.oct := by
  unfold countDrop; simp only []; repeat' split
  all_goals simp
@[simp] theorem countDrop_st (c : Nat) (s : State) : (countDrop c s).st = s.st := by
  unfold countDrop; simp only []; repeat' split
  all_goals simp
@[simp] theorem countDrop_har (c : Nat) (s : State) : (countDrop c s).har = s.har := by
  unfold countDrop; simp only []; repeat' split
  all_goals simp
@[simp] theorem countDrop_fab (c : Nat) (s : State) : (countDrop c s).fab = s.fab := by
  unfold countDrop; simp only []; repeat' split
  all_goals simp
@[simp] theorem countDrop_sp (c : Nat) (s : State) : (countDrop c s).sp = s.sp := by
  unfold countDrop; simp only []; repeat' split
  all_goals simp
@[simp] theorem countDrop_pow (c : Nat) (s : State) : (countDrop c s).pow = s.pow := by
  unfold countDrop; simp only []; repeat' split
  all_goals simp
@[simp] theorem countDrop_alm (c : Nat) (s : State) : (countDrop c s).alm = s.alm := by
  unfold countDrop; simp only []; repeat' split
  all_goals simp
@[simp] theorem countDrop_vig (c : Nat) (s : State) : (countDrop c s).vig = s.vig := by
  unfold countDrop; simp only []; repeat' split
  all_goals simp
@[simp] theorem countDrop_boot (c : Nat) (s : State) : (countDrop c s).boot = s.boot := by
  unfold countDrop; simp only []; repeat' split
  all_goals simp
@[simp] theorem countDrop_ctl_gens (c : Nat) (s : State) : (countDrop c s).ctl.gens = s.ctl.gens := by
  unfold countDrop; simp only []; repeat' split
  all_goals simp
@[simp] theorem countDrop_ctl_queues (c : Nat) (s : State) : (countDrop c s).ctl.queues = s.ctl.queues := by
  unfold countDrop; simp only []; repeat' split
  all_goals simp
@[simp] theorem countDrop_ctl_journal (c : Nat) (s : State) : (countDrop c s).ctl.journal = s.ctl.journal := by
  unfold countDrop; simp only []; repeat' split
  all_goals simp
@[simp] theorem countDrop_ctl_partner (c : Nat) (s : State) : (countDrop c s).ctl.partner = s.ctl.partner := by
  unfold countDrop; simp only []; repeat' split
  all_goals simp
@[simp] theorem countDrop_ctl_doorbells (c : Nat) (s : State) : (countDrop c s).ctl.doorbells = s.ctl.doorbells := by
  unfold countDrop; simp only []; repeat' split
  all_goals simp
@[simp] theorem countDrop_ctl_missed (c : Nat) (s : State) : (countDrop c s).ctl.missed = s.ctl.missed := by
  unfold countDrop; simp only []; repeat' split
  all_goals simp
@[simp] theorem countDrop_ctl_f0Fenced (c : Nat) (s : State) : (countDrop c s).ctl.f0Fenced = s.ctl.f0Fenced := by
  unfold countDrop; simp only []; repeat' split
  all_goals simp
@[simp] theorem countDrop_ctl_partitions (c : Nat) (s : State) : (countDrop c s).ctl.partitions = s.ctl.partitions := by
  unfold countDrop; simp only []; repeat' split
  all_goals simp

@[simp] theorem raiseTo_pending (r c b x q d : Nat) (s : State) : (raiseTo r c b x q d s).pending = s.pending := by
  unfold raiseTo; simp only []; repeat' split
  all_goals simp
@[simp] theorem raiseTo_mem (r c b x q d : Nat) (s : State) : (raiseTo r c b x q d s).mem = s.mem := by
  unfold raiseTo; simp only []; repeat' split
  all_goals simp
@[simp] theorem raiseTo_gr (r c b x q d : Nat) (s : State) : (raiseTo r c b x q d s).gr = s.gr := by
  unfold raiseTo; simp only []; repeat' split
  all_goals simp
@[simp] theorem raiseTo_eng (r c b x q d : Nat) (s : State) : (raiseTo r c b x q d s).eng = s.eng := by
  unfold raiseTo; simp only []; repeat' split
  all_goals simp
@[simp] theorem raiseTo_core (r c b x q d : Nat) (s : State) : (raiseTo r c b x q d s).core = s.core := by
  unfold raiseTo; simp only []; repeat' split
  all_goals simp
@[simp] theorem raiseTo_oct (r c b x q d : Nat) (s : State) : (raiseTo r c b x q d s).oct = s.oct := by
  unfold raiseTo; simp only []; repeat' split
  all_goals simp
@[simp] theorem raiseTo_st (r c b x q d : Nat) (s : State) : (raiseTo r c b x q d s).st = s.st := by
  unfold raiseTo; simp only []; repeat' split
  all_goals simp
@[simp] theorem raiseTo_har (r c b x q d : Nat) (s : State) : (raiseTo r c b x q d s).har = s.har := by
  unfold raiseTo; simp only []; repeat' split
  all_goals simp
@[simp] theorem raiseTo_fab (r c b x q d : Nat) (s : State) : (raiseTo r c b x q d s).fab = s.fab := by
  unfold raiseTo; simp only []; repeat' split
  all_goals simp
@[simp] theorem raiseTo_sp (r c b x q d : Nat) (s : State) : (raiseTo r c b x q d s).sp = s.sp := by
  unfold raiseTo; simp only []; repeat' split
  all_goals simp
@[simp] theorem raiseTo_pow (r c b x q d : Nat) (s : State) : (raiseTo r c b x q d s).pow = s.pow := by
  unfold raiseTo; simp only []; repeat' split
  all_goals simp
@[simp] theorem raiseTo_alm (r c b x q d : Nat) (s : State) : (raiseTo r c b x q d s).alm = s.alm := by
  unfold raiseTo; simp only []; repeat' split
  all_goals simp
@[simp] theorem raiseTo_vig (r c b x q d : Nat) (s : State) : (raiseTo r c b x q d s).vig = s.vig := by
  unfold raiseTo; simp only []; repeat' split
  all_goals simp
@[simp] theorem raiseTo_boot (r c b x q d : Nat) (s : State) : (raiseTo r c b x q d s).boot = s.boot := by
  unfold raiseTo; simp only []; repeat' split
  all_goals simp
@[simp] theorem raiseTo_ctl_gens (r c b x q d : Nat) (s : State) : (raiseTo r c b x q d s).ctl.gens = s.ctl.gens := by
  unfold raiseTo; simp only []; repeat' split
  all_goals simp
@[simp] theorem raiseTo_ctl_queues (r c b x q d : Nat) (s : State) : (raiseTo r c b x q d s).ctl.queues = s.ctl.queues := by
  unfold raiseTo; simp only []; repeat' split
  all_goals simp
@[simp] theorem raiseTo_ctl_journal (r c b x q d : Nat) (s : State) : (raiseTo r c b x q d s).ctl.journal = s.ctl.journal := by
  unfold raiseTo; simp only []; repeat' split
  all_goals simp
@[simp] theorem raiseTo_ctl_partner (r c b x q d : Nat) (s : State) : (raiseTo r c b x q d s).ctl.partner = s.ctl.partner := by
  unfold raiseTo; simp only []; repeat' split
  all_goals simp
@[simp] theorem raiseTo_ctl_doorbells (r c b x q d : Nat) (s : State) : (raiseTo r c b x q d s).ctl.doorbells = s.ctl.doorbells := by
  unfold raiseTo; simp only []; repeat' split
  all_goals simp
@[simp] theorem raiseTo_ctl_missed (r c b x q d : Nat) (s : State) : (raiseTo r c b x q d s).ctl.missed = s.ctl.missed := by
  unfold raiseTo; simp only []; repeat' split
  all_goals simp
@[simp] theorem raiseTo_ctl_f0Fenced (r c b x q d : Nat) (s : State) : (raiseTo r c b x q d s).ctl.f0Fenced = s.ctl.f0Fenced := by
  unfold raiseTo; simp only []; repeat' split
  all_goals simp
@[simp] theorem raiseTo_ctl_partitions (r c b x q d : Nat) (s : State) : (raiseTo r c b x q d s).ctl.partitions = s.ctl.partitions := by
  unfold raiseTo; simp only []; repeat' split
  all_goals simp

@[simp] theorem raise0_pending (c b d : Nat) (s : State) : (raise0 c b d s).pending = s.pending := by
  simp [raise0]
@[simp] theorem raise0_mem (c b d : Nat) (s : State) : (raise0 c b d s).mem = s.mem := by
  simp [raise0]
@[simp] theorem raise0_gr (c b d : Nat) (s : State) : (raise0 c b d s).gr = s.gr := by
  simp [raise0]
@[simp] theorem raise0_eng (c b d : Nat) (s : State) : (raise0 c b d s).eng = s.eng := by
  simp [raise0]
@[simp] theorem raise0_core (c b d : Nat) (s : State) : (raise0 c b d s).core = s.core := by
  simp [raise0]
@[simp] theorem raise0_oct (c b d : Nat) (s : State) : (raise0 c b d s).oct = s.oct := by
  simp [raise0]
@[simp] theorem raise0_st (c b d : Nat) (s : State) : (raise0 c b d s).st = s.st := by
  simp [raise0]
@[simp] theorem raise0_har (c b d : Nat) (s : State) : (raise0 c b d s).har = s.har := by
  simp [raise0]
@[simp] theorem raise0_fab (c b d : Nat) (s : State) : (raise0 c b d s).fab = s.fab := by
  simp [raise0]
@[simp] theorem raise0_sp (c b d : Nat) (s : State) : (raise0 c b d s).sp = s.sp := by
  simp [raise0]
@[simp] theorem raise0_pow (c b d : Nat) (s : State) : (raise0 c b d s).pow = s.pow := by
  simp [raise0]
@[simp] theorem raise0_alm (c b d : Nat) (s : State) : (raise0 c b d s).alm = s.alm := by
  simp [raise0]
@[simp] theorem raise0_vig (c b d : Nat) (s : State) : (raise0 c b d s).vig = s.vig := by
  simp [raise0]
@[simp] theorem raise0_boot (c b d : Nat) (s : State) : (raise0 c b d s).boot = s.boot := by
  simp [raise0]
@[simp] theorem raise0_ctl_gens (c b d : Nat) (s : State) : (raise0 c b d s).ctl.gens = s.ctl.gens := by
  simp [raise0]
@[simp] theorem raise0_ctl_queues (c b d : Nat) (s : State) : (raise0 c b d s).ctl.queues = s.ctl.queues := by
  simp [raise0]
@[simp] theorem raise0_ctl_journal (c b d : Nat) (s : State) : (raise0 c b d s).ctl.journal = s.ctl.journal := by
  simp [raise0]
@[simp] theorem raise0_ctl_partner (c b d : Nat) (s : State) : (raise0 c b d s).ctl.partner = s.ctl.partner := by
  simp [raise0]
@[simp] theorem raise0_ctl_doorbells (c b d : Nat) (s : State) : (raise0 c b d s).ctl.doorbells = s.ctl.doorbells := by
  simp [raise0]
@[simp] theorem raise0_ctl_missed (c b d : Nat) (s : State) : (raise0 c b d s).ctl.missed = s.ctl.missed := by
  simp [raise0]
@[simp] theorem raise0_ctl_f0Fenced (c b d : Nat) (s : State) : (raise0 c b d s).ctl.f0Fenced = s.ctl.f0Fenced := by
  simp [raise0]
@[simp] theorem raise0_ctl_partitions (c b d : Nat) (s : State) : (raise0 c b d s).ctl.partitions = s.ctl.partitions := by
  simp [raise0]

@[simp] theorem raiseC_pending (c b x d : Nat) (s : State) : (raiseC c b x d s).pending = s.pending := by
  simp [raiseC]
@[simp] theorem raiseC_mem (c b x d : Nat) (s : State) : (raiseC c b x d s).mem = s.mem := by
  simp [raiseC]
@[simp] theorem raiseC_gr (c b x d : Nat) (s : State) : (raiseC c b x d s).gr = s.gr := by
  simp [raiseC]
@[simp] theorem raiseC_eng (c b x d : Nat) (s : State) : (raiseC c b x d s).eng = s.eng := by
  simp [raiseC]
@[simp] theorem raiseC_core (c b x d : Nat) (s : State) : (raiseC c b x d s).core = s.core := by
  simp [raiseC]
@[simp] theorem raiseC_oct (c b x d : Nat) (s : State) : (raiseC c b x d s).oct = s.oct := by
  simp [raiseC]
@[simp] theorem raiseC_st (c b x d : Nat) (s : State) : (raiseC c b x d s).st = s.st := by
  simp [raiseC]
@[simp] theorem raiseC_har (c b x d : Nat) (s : State) : (raiseC c b x d s).har = s.har := by
  simp [raiseC]
@[simp] theorem raiseC_fab (c b x d : Nat) (s : State) : (raiseC c b x d s).fab = s.fab := by
  simp [raiseC]
@[simp] theorem raiseC_sp (c b x d : Nat) (s : State) : (raiseC c b x d s).sp = s.sp := by
  simp [raiseC]
@[simp] theorem raiseC_pow (c b x d : Nat) (s : State) : (raiseC c b x d s).pow = s.pow := by
  simp [raiseC]
@[simp] theorem raiseC_alm (c b x d : Nat) (s : State) : (raiseC c b x d s).alm = s.alm := by
  simp [raiseC]
@[simp] theorem raiseC_vig (c b x d : Nat) (s : State) : (raiseC c b x d s).vig = s.vig := by
  simp [raiseC]
@[simp] theorem raiseC_boot (c b x d : Nat) (s : State) : (raiseC c b x d s).boot = s.boot := by
  simp [raiseC]
@[simp] theorem raiseC_ctl_gens (c b x d : Nat) (s : State) : (raiseC c b x d s).ctl.gens = s.ctl.gens := by
  simp [raiseC]
@[simp] theorem raiseC_ctl_queues (c b x d : Nat) (s : State) : (raiseC c b x d s).ctl.queues = s.ctl.queues := by
  simp [raiseC]
@[simp] theorem raiseC_ctl_journal (c b x d : Nat) (s : State) : (raiseC c b x d s).ctl.journal = s.ctl.journal := by
  simp [raiseC]
@[simp] theorem raiseC_ctl_partner (c b x d : Nat) (s : State) : (raiseC c b x d s).ctl.partner = s.ctl.partner := by
  simp [raiseC]
@[simp] theorem raiseC_ctl_doorbells (c b x d : Nat) (s : State) : (raiseC c b x d s).ctl.doorbells = s.ctl.doorbells := by
  simp [raiseC]
@[simp] theorem raiseC_ctl_missed (c b x d : Nat) (s : State) : (raiseC c b x d s).ctl.missed = s.ctl.missed := by
  simp [raiseC]
@[simp] theorem raiseC_ctl_f0Fenced (c b x d : Nat) (s : State) : (raiseC c b x d s).ctl.f0Fenced = s.ctl.f0Fenced := by
  simp [raiseC]
@[simp] theorem raiseC_ctl_partitions (c b x d : Nat) (s : State) : (raiseC c b x d s).ctl.partitions = s.ctl.partitions := by
  simp [raiseC]

@[simp] theorem raiseBoth_pending (c b x d : Nat) (s : State) : (raiseBoth c b x d s).pending = s.pending := by
  unfold raiseBoth; split <;> simp
@[simp] theorem raiseBoth_mem (c b x d : Nat) (s : State) : (raiseBoth c b x d s).mem = s.mem := by
  unfold raiseBoth; split <;> simp
@[simp] theorem raiseBoth_gr (c b x d : Nat) (s : State) : (raiseBoth c b x d s).gr = s.gr := by
  unfold raiseBoth; split <;> simp
@[simp] theorem raiseBoth_eng (c b x d : Nat) (s : State) : (raiseBoth c b x d s).eng = s.eng := by
  unfold raiseBoth; split <;> simp
@[simp] theorem raiseBoth_core (c b x d : Nat) (s : State) : (raiseBoth c b x d s).core = s.core := by
  unfold raiseBoth; split <;> simp
@[simp] theorem raiseBoth_oct (c b x d : Nat) (s : State) : (raiseBoth c b x d s).oct = s.oct := by
  unfold raiseBoth; split <;> simp
@[simp] theorem raiseBoth_st (c b x d : Nat) (s : State) : (raiseBoth c b x d s).st = s.st := by
  unfold raiseBoth; split <;> simp
@[simp] theorem raiseBoth_har (c b x d : Nat) (s : State) : (raiseBoth c b x d s).har = s.har := by
  unfold raiseBoth; split <;> simp
@[simp] theorem raiseBoth_fab (c b x d : Nat) (s : State) : (raiseBoth c b x d s).fab = s.fab := by
  unfold raiseBoth; split <;> simp
@[simp] theorem raiseBoth_sp (c b x d : Nat) (s : State) : (raiseBoth c b x d s).sp = s.sp := by
  unfold raiseBoth; split <;> simp
@[simp] theorem raiseBoth_pow (c b x d : Nat) (s : State) : (raiseBoth c b x d s).pow = s.pow := by
  unfold raiseBoth; split <;> simp
@[simp] theorem raiseBoth_alm (c b x d : Nat) (s : State) : (raiseBoth c b x d s).alm = s.alm := by
  unfold raiseBoth; split <;> simp
@[simp] theorem raiseBoth_vig (c b x d : Nat) (s : State) : (raiseBoth c b x d s).vig = s.vig := by
  unfold raiseBoth; split <;> simp
@[simp] theorem raiseBoth_boot (c b x d : Nat) (s : State) : (raiseBoth c b x d s).boot = s.boot := by
  unfold raiseBoth; split <;> simp
@[simp] theorem raiseBoth_ctl_gens (c b x d : Nat) (s : State) : (raiseBoth c b x d s).ctl.gens = s.ctl.gens := by
  unfold raiseBoth; split <;> simp
@[simp] theorem raiseBoth_ctl_queues (c b x d : Nat) (s : State) : (raiseBoth c b x d s).ctl.queues = s.ctl.queues := by
  unfold raiseBoth; split <;> simp
@[simp] theorem raiseBoth_ctl_journal (c b x d : Nat) (s : State) : (raiseBoth c b x d s).ctl.journal = s.ctl.journal := by
  unfold raiseBoth; split <;> simp
@[simp] theorem raiseBoth_ctl_partner (c b x d : Nat) (s : State) : (raiseBoth c b x d s).ctl.partner = s.ctl.partner := by
  unfold raiseBoth; split <;> simp
@[simp] theorem raiseBoth_ctl_doorbells (c b x d : Nat) (s : State) : (raiseBoth c b x d s).ctl.doorbells = s.ctl.doorbells := by
  unfold raiseBoth; split <;> simp
@[simp] theorem raiseBoth_ctl_missed (c b x d : Nat) (s : State) : (raiseBoth c b x d s).ctl.missed = s.ctl.missed := by
  unfold raiseBoth; split <;> simp
@[simp] theorem raiseBoth_ctl_f0Fenced (c b x d : Nat) (s : State) : (raiseBoth c b x d s).ctl.f0Fenced = s.ctl.f0Fenced := by
  unfold raiseBoth; split <;> simp
@[simp] theorem raiseBoth_ctl_partitions (c b x d : Nat) (s : State) : (raiseBoth c b x d s).ctl.partitions = s.ctl.partitions := by
  unfold raiseBoth; split <;> simp

@[simp] theorem count_pending (f : Fld) (i n : Nat) (s : State) : (count f i n s).pending = s.pending := by
  unfold count; simp only []; repeat' split
  all_goals simp
@[simp] theorem count_mem (f : Fld) (i n : Nat) (s : State) : (count f i n s).mem = s.mem := by
  unfold count; simp only []; repeat' split
  all_goals simp
@[simp] theorem count_gr (f : Fld) (i n : Nat) (s : State) : (count f i n s).gr = s.gr := by
  unfold count; simp only []; repeat' split
  all_goals simp
@[simp] theorem count_eng (f : Fld) (i n : Nat) (s : State) : (count f i n s).eng = s.eng := by
  unfold count; simp only []; repeat' split
  all_goals simp
@[simp] theorem count_core (f : Fld) (i n : Nat) (s : State) : (count f i n s).core = s.core := by
  unfold count; simp only []; repeat' split
  all_goals simp
@[simp] theorem count_oct (f : Fld) (i n : Nat) (s : State) : (count f i n s).oct = s.oct := by
  unfold count; simp only []; repeat' split
  all_goals simp
@[simp] theorem count_st (f : Fld) (i n : Nat) (s : State) : (count f i n s).st = s.st := by
  unfold count; simp only []; repeat' split
  all_goals simp
@[simp] theorem count_har (f : Fld) (i n : Nat) (s : State) : (count f i n s).har = s.har := by
  unfold count; simp only []; repeat' split
  all_goals simp
@[simp] theorem count_fab (f : Fld) (i n : Nat) (s : State) : (count f i n s).fab = s.fab := by
  unfold count; simp only []; repeat' split
  all_goals simp
@[simp] theorem count_sp (f : Fld) (i n : Nat) (s : State) : (count f i n s).sp = s.sp := by
  unfold count; simp only []; repeat' split
  all_goals simp
@[simp] theorem count_pow (f : Fld) (i n : Nat) (s : State) : (count f i n s).pow = s.pow := by
  unfold count; simp only []; repeat' split
  all_goals simp
@[simp] theorem count_alm (f : Fld) (i n : Nat) (s : State) : (count f i n s).alm = s.alm := by
  unfold count; simp only []; repeat' split
  all_goals simp
@[simp] theorem count_vig (f : Fld) (i n : Nat) (s : State) : (count f i n s).vig = s.vig := by
  unfold count; simp only []; repeat' split
  all_goals simp
@[simp] theorem count_boot (f : Fld) (i n : Nat) (s : State) : (count f i n s).boot = s.boot := by
  unfold count; simp only []; repeat' split
  all_goals simp
@[simp] theorem count_ctl_gens (f : Fld) (i n : Nat) (s : State) : (count f i n s).ctl.gens = s.ctl.gens := by
  unfold count; simp only []; repeat' split
  all_goals simp
@[simp] theorem count_ctl_queues (f : Fld) (i n : Nat) (s : State) : (count f i n s).ctl.queues = s.ctl.queues := by
  unfold count; simp only []; repeat' split
  all_goals simp
@[simp] theorem count_ctl_journal (f : Fld) (i n : Nat) (s : State) : (count f i n s).ctl.journal = s.ctl.journal := by
  unfold count; simp only []; repeat' split
  all_goals simp
@[simp] theorem count_ctl_partner (f : Fld) (i n : Nat) (s : State) : (count f i n s).ctl.partner = s.ctl.partner := by
  unfold count; simp only []; repeat' split
  all_goals simp
@[simp] theorem count_ctl_doorbells (f : Fld) (i n : Nat) (s : State) : (count f i n s).ctl.doorbells = s.ctl.doorbells := by
  unfold count; simp only []; repeat' split
  all_goals simp
@[simp] theorem count_ctl_missed (f : Fld) (i n : Nat) (s : State) : (count f i n s).ctl.missed = s.ctl.missed := by
  unfold count; simp only []; repeat' split
  all_goals simp
@[simp] theorem count_ctl_f0Fenced (f : Fld) (i n : Nat) (s : State) : (count f i n s).ctl.f0Fenced = s.ctl.f0Fenced := by
  unfold count; simp only []; repeat' split
  all_goals simp
@[simp] theorem count_ctl_partitions (f : Fld) (i n : Nat) (s : State) : (count f i n s).ctl.partitions = s.ctl.partitions := by
  unfold count; simp only []; repeat' split
  all_goals simp

@[simp] theorem count1_pending (f : Fld) (i : Nat) (s : State) : (count1 f i s).pending = s.pending := by
  simp [count1]
@[simp] theorem count1_mem (f : Fld) (i : Nat) (s : State) : (count1 f i s).mem = s.mem := by
  simp [count1]
@[simp] theorem count1_gr (f : Fld) (i : Nat) (s : State) : (count1 f i s).gr = s.gr := by
  simp [count1]
@[simp] theorem count1_eng (f : Fld) (i : Nat) (s : State) : (count1 f i s).eng = s.eng := by
  simp [count1]
@[simp] theorem count1_core (f : Fld) (i : Nat) (s : State) : (count1 f i s).core = s.core := by
  simp [count1]
@[simp] theorem count1_oct (f : Fld) (i : Nat) (s : State) : (count1 f i s).oct = s.oct := by
  simp [count1]
@[simp] theorem count1_st (f : Fld) (i : Nat) (s : State) : (count1 f i s).st = s.st := by
  simp [count1]
@[simp] theorem count1_har (f : Fld) (i : Nat) (s : State) : (count1 f i s).har = s.har := by
  simp [count1]
@[simp] theorem count1_fab (f : Fld) (i : Nat) (s : State) : (count1 f i s).fab = s.fab := by
  simp [count1]
@[simp] theorem count1_sp (f : Fld) (i : Nat) (s : State) : (count1 f i s).sp = s.sp := by
  simp [count1]
@[simp] theorem count1_pow (f : Fld) (i : Nat) (s : State) : (count1 f i s).pow = s.pow := by
  simp [count1]
@[simp] theorem count1_alm (f : Fld) (i : Nat) (s : State) : (count1 f i s).alm = s.alm := by
  simp [count1]
@[simp] theorem count1_vig (f : Fld) (i : Nat) (s : State) : (count1 f i s).vig = s.vig := by
  simp [count1]
@[simp] theorem count1_boot (f : Fld) (i : Nat) (s : State) : (count1 f i s).boot = s.boot := by
  simp [count1]
@[simp] theorem count1_ctl_gens (f : Fld) (i : Nat) (s : State) : (count1 f i s).ctl.gens = s.ctl.gens := by
  simp [count1]
@[simp] theorem count1_ctl_queues (f : Fld) (i : Nat) (s : State) : (count1 f i s).ctl.queues = s.ctl.queues := by
  simp [count1]
@[simp] theorem count1_ctl_journal (f : Fld) (i : Nat) (s : State) : (count1 f i s).ctl.journal = s.ctl.journal := by
  simp [count1]
@[simp] theorem count1_ctl_partner (f : Fld) (i : Nat) (s : State) : (count1 f i s).ctl.partner = s.ctl.partner := by
  simp [count1]
@[simp] theorem count1_ctl_doorbells (f : Fld) (i : Nat) (s : State) : (count1 f i s).ctl.doorbells = s.ctl.doorbells := by
  simp [count1]
@[simp] theorem count1_ctl_missed (f : Fld) (i : Nat) (s : State) : (count1 f i s).ctl.missed = s.ctl.missed := by
  simp [count1]
@[simp] theorem count1_ctl_f0Fenced (f : Fld) (i : Nat) (s : State) : (count1 f i s).ctl.f0Fenced = s.ctl.f0Fenced := by
  simp [count1]
@[simp] theorem count1_ctl_partitions (f : Fld) (i : Nat) (s : State) : (count1 f i s).ctl.partitions = s.ctl.partitions := by
  simp [count1]

@[simp] theorem activity_pending (f : Fld) (i n : Nat) (s : State) : (activity f i n s).pending = s.pending := by
  unfold activity; simp only []; split <;> simp
@[simp] theorem activity_mem (f : Fld) (i n : Nat) (s : State) : (activity f i n s).mem = s.mem := by
  unfold activity; simp only []; split <;> simp
@[simp] theorem activity_gr (f : Fld) (i n : Nat) (s : State) : (activity f i n s).gr = s.gr := by
  unfold activity; simp only []; split <;> simp
@[simp] theorem activity_eng (f : Fld) (i n : Nat) (s : State) : (activity f i n s).eng = s.eng := by
  unfold activity; simp only []; split <;> simp
@[simp] theorem activity_core (f : Fld) (i n : Nat) (s : State) : (activity f i n s).core = s.core := by
  unfold activity; simp only []; split <;> simp
@[simp] theorem activity_oct (f : Fld) (i n : Nat) (s : State) : (activity f i n s).oct = s.oct := by
  unfold activity; simp only []; split <;> simp
@[simp] theorem activity_st (f : Fld) (i n : Nat) (s : State) : (activity f i n s).st = s.st := by
  unfold activity; simp only []; split <;> simp
@[simp] theorem activity_har (f : Fld) (i n : Nat) (s : State) : (activity f i n s).har = s.har := by
  unfold activity; simp only []; split <;> simp
@[simp] theorem activity_fab (f : Fld) (i n : Nat) (s : State) : (activity f i n s).fab = s.fab := by
  unfold activity; simp only []; split <;> simp
@[simp] theorem activity_sp (f : Fld) (i n : Nat) (s : State) : (activity f i n s).sp = s.sp := by
  unfold activity; simp only []; split <;> simp
@[simp] theorem activity_pow (f : Fld) (i n : Nat) (s : State) : (activity f i n s).pow = s.pow := by
  unfold activity; simp only []; split <;> simp
@[simp] theorem activity_alm (f : Fld) (i n : Nat) (s : State) : (activity f i n s).alm = s.alm := by
  unfold activity; simp only []; split <;> simp
@[simp] theorem activity_vig (f : Fld) (i n : Nat) (s : State) : (activity f i n s).vig = s.vig := by
  unfold activity; simp only []; split <;> simp
@[simp] theorem activity_boot (f : Fld) (i n : Nat) (s : State) : (activity f i n s).boot = s.boot := by
  unfold activity; simp only []; split <;> simp
@[simp] theorem activity_ctl_gens (f : Fld) (i n : Nat) (s : State) : (activity f i n s).ctl.gens = s.ctl.gens := by
  unfold activity; simp only []; split <;> simp
@[simp] theorem activity_ctl_queues (f : Fld) (i n : Nat) (s : State) : (activity f i n s).ctl.queues = s.ctl.queues := by
  unfold activity; simp only []; split <;> simp
@[simp] theorem activity_ctl_journal (f : Fld) (i n : Nat) (s : State) : (activity f i n s).ctl.journal = s.ctl.journal := by
  unfold activity; simp only []; split <;> simp
@[simp] theorem activity_ctl_partner (f : Fld) (i n : Nat) (s : State) : (activity f i n s).ctl.partner = s.ctl.partner := by
  unfold activity; simp only []; split <;> simp
@[simp] theorem activity_ctl_doorbells (f : Fld) (i n : Nat) (s : State) : (activity f i n s).ctl.doorbells = s.ctl.doorbells := by
  unfold activity; simp only []; split <;> simp
@[simp] theorem activity_ctl_missed (f : Fld) (i n : Nat) (s : State) : (activity f i n s).ctl.missed = s.ctl.missed := by
  unfold activity; simp only []; split <;> simp
@[simp] theorem activity_ctl_f0Fenced (f : Fld) (i n : Nat) (s : State) : (activity f i n s).ctl.f0Fenced = s.ctl.f0Fenced := by
  unfold activity; simp only []; split <;> simp
@[simp] theorem activity_ctl_partitions (f : Fld) (i n : Nat) (s : State) : (activity f i n s).ctl.partitions = s.ctl.partitions := by
  unfold activity; simp only []; split <;> simp

@[simp] theorem trouble_pending (f : Fld) (m : Nat) (s : State) : (trouble f m s).pending = s.pending := by
  unfold trouble; simp only []; split <;> simp
@[simp] theorem trouble_mem (f : Fld) (m : Nat) (s : State) : (trouble f m s).mem = s.mem := by
  unfold trouble; simp only []; split <;> simp
@[simp] theorem trouble_gr (f : Fld) (m : Nat) (s : State) : (trouble f m s).gr = s.gr := by
  unfold trouble; simp only []; split <;> simp
@[simp] theorem trouble_eng (f : Fld) (m : Nat) (s : State) : (trouble f m s).eng = s.eng := by
  unfold trouble; simp only []; split <;> simp
@[simp] theorem trouble_core (f : Fld) (m : Nat) (s : State) : (trouble f m s).core = s.core := by
  unfold trouble; simp only []; split <;> simp
@[simp] theorem trouble_oct (f : Fld) (m : Nat) (s : State) : (trouble f m s).oct = s.oct := by
  unfold trouble; simp only []; split <;> simp
@[simp] theorem trouble_st (f : Fld) (m : Nat) (s : State) : (trouble f m s).st = s.st := by
  unfold trouble; simp only []; split <;> simp
@[simp] theorem trouble_har (f : Fld) (m : Nat) (s : State) : (trouble f m s).har = s.har := by
  unfold trouble; simp only []; split <;> simp
@[simp] theorem trouble_fab (f : Fld) (m : Nat) (s : State) : (trouble f m s).fab = s.fab := by
  unfold trouble; simp only []; split <;> simp
@[simp] theorem trouble_sp (f : Fld) (m : Nat) (s : State) : (trouble f m s).sp = s.sp := by
  unfold trouble; simp only []; split <;> simp
@[simp] theorem trouble_pow (f : Fld) (m : Nat) (s : State) : (trouble f m s).pow = s.pow := by
  unfold trouble; simp only []; split <;> simp
@[simp] theorem trouble_alm (f : Fld) (m : Nat) (s : State) : (trouble f m s).alm = s.alm := by
  unfold trouble; simp only []; split <;> simp
@[simp] theorem trouble_vig (f : Fld) (m : Nat) (s : State) : (trouble f m s).vig = s.vig := by
  unfold trouble; simp only []; split <;> simp
@[simp] theorem trouble_boot (f : Fld) (m : Nat) (s : State) : (trouble f m s).boot = s.boot := by
  unfold trouble; simp only []; split <;> simp
@[simp] theorem trouble_ctl_gens (f : Fld) (m : Nat) (s : State) : (trouble f m s).ctl.gens = s.ctl.gens := by
  unfold trouble; simp only []; split <;> simp
@[simp] theorem trouble_ctl_queues (f : Fld) (m : Nat) (s : State) : (trouble f m s).ctl.queues = s.ctl.queues := by
  unfold trouble; simp only []; split <;> simp
@[simp] theorem trouble_ctl_journal (f : Fld) (m : Nat) (s : State) : (trouble f m s).ctl.journal = s.ctl.journal := by
  unfold trouble; simp only []; split <;> simp
@[simp] theorem trouble_ctl_partner (f : Fld) (m : Nat) (s : State) : (trouble f m s).ctl.partner = s.ctl.partner := by
  unfold trouble; simp only []; split <;> simp
@[simp] theorem trouble_ctl_doorbells (f : Fld) (m : Nat) (s : State) : (trouble f m s).ctl.doorbells = s.ctl.doorbells := by
  unfold trouble; simp only []; split <;> simp
@[simp] theorem trouble_ctl_missed (f : Fld) (m : Nat) (s : State) : (trouble f m s).ctl.missed = s.ctl.missed := by
  unfold trouble; simp only []; split <;> simp
@[simp] theorem trouble_ctl_f0Fenced (f : Fld) (m : Nat) (s : State) : (trouble f m s).ctl.f0Fenced = s.ctl.f0Fenced := by
  unfold trouble; simp only []; split <;> simp
@[simp] theorem trouble_ctl_partitions (f : Fld) (m : Nat) (s : State) : (trouble f m s).ctl.partitions = s.ctl.partitions := by
  unfold trouble; simp only []; split <;> simp

@[simp] theorem setPwrState_pending (n c : Nat) (s : State) : (setPwrState n c s).pending = s.pending := by
  unfold setPwrState; simp only []; split <;> simp
@[simp] theorem setPwrState_mem (n c : Nat) (s : State) : (setPwrState n c s).mem = s.mem := by
  unfold setPwrState; simp only []; split <;> simp
@[simp] theorem setPwrState_gr (n c : Nat) (s : State) : (setPwrState n c s).gr = s.gr := by
  unfold setPwrState; simp only []; split <;> simp
@[simp] theorem setPwrState_eng (n c : Nat) (s : State) : (setPwrState n c s).eng = s.eng := by
  unfold setPwrState; simp only []; split <;> simp
@[simp] theorem setPwrState_core (n c : Nat) (s : State) : (setPwrState n c s).core = s.core := by
  unfold setPwrState; simp only []; split <;> simp
@[simp] theorem setPwrState_oct (n c : Nat) (s : State) : (setPwrState n c s).oct = s.oct := by
  unfold setPwrState; simp only []; split <;> simp
@[simp] theorem setPwrState_st (n c : Nat) (s : State) : (setPwrState n c s).st = s.st := by
  unfold setPwrState; simp only []; split <;> simp
@[simp] theorem setPwrState_har (n c : Nat) (s : State) : (setPwrState n c s).har = s.har := by
  unfold setPwrState; simp only []; split <;> simp
@[simp] theorem setPwrState_fab (n c : Nat) (s : State) : (setPwrState n c s).fab = s.fab := by
  unfold setPwrState; simp only []; split <;> simp
@[simp] theorem setPwrState_sp (n c : Nat) (s : State) : (setPwrState n c s).sp = s.sp := by
  unfold setPwrState; simp only []; split <;> simp
@[simp] theorem setPwrState_pow (n c : Nat) (s : State) : (setPwrState n c s).pow = s.pow := by
  unfold setPwrState; simp only []; split <;> simp
@[simp] theorem setPwrState_alm (n c : Nat) (s : State) : (setPwrState n c s).alm = s.alm := by
  unfold setPwrState; simp only []; split <;> simp
@[simp] theorem setPwrState_vig (n c : Nat) (s : State) : (setPwrState n c s).vig = s.vig := by
  unfold setPwrState; simp only []; split <;> simp
@[simp] theorem setPwrState_boot (n c : Nat) (s : State) : (setPwrState n c s).boot = s.boot := by
  unfold setPwrState; simp only []; split <;> simp
@[simp] theorem setPwrState_ctl_gens (n c : Nat) (s : State) : (setPwrState n c s).ctl.gens = s.ctl.gens := by
  unfold setPwrState; simp only []; split <;> simp
@[simp] theorem setPwrState_ctl_queues (n c : Nat) (s : State) : (setPwrState n c s).ctl.queues = s.ctl.queues := by
  unfold setPwrState; simp only []; split <;> simp
@[simp] theorem setPwrState_ctl_journal (n c : Nat) (s : State) : (setPwrState n c s).ctl.journal = s.ctl.journal := by
  unfold setPwrState; simp only []; split <;> simp
@[simp] theorem setPwrState_ctl_partner (n c : Nat) (s : State) : (setPwrState n c s).ctl.partner = s.ctl.partner := by
  unfold setPwrState; simp only []; split <;> simp
@[simp] theorem setPwrState_ctl_doorbells (n c : Nat) (s : State) : (setPwrState n c s).ctl.doorbells = s.ctl.doorbells := by
  unfold setPwrState; simp only []; split <;> simp
@[simp] theorem setPwrState_ctl_missed (n c : Nat) (s : State) : (setPwrState n c s).ctl.missed = s.ctl.missed := by
  unfold setPwrState; simp only []; split <;> simp
@[simp] theorem setPwrState_ctl_f0Fenced (n c : Nat) (s : State) : (setPwrState n c s).ctl.f0Fenced = s.ctl.f0Fenced := by
  unfold setPwrState; simp only []; split <;> simp
@[simp] theorem setPwrState_ctl_partitions (n c : Nat) (s : State) : (setPwrState n c s).ctl.partitions = s.ctl.partitions := by
  unfold setPwrState; simp only []; split <;> simp

@[simp] theorem leaveIdle_pending (s : State) : (leaveIdle  s).pending = s.pending := by
  unfold leaveIdle; split <;> simp
@[simp] theorem leaveIdle_mem (s : State) : (leaveIdle  s).mem = s.mem := by
  unfold leaveIdle; split <;> simp
@[simp] theorem leaveIdle_gr (s : State) : (leaveIdle  s).gr = s.gr := by
  unfold leaveIdle; split <;> simp
@[simp] theorem leaveIdle_eng (s : State) : (leaveIdle  s).eng = s.eng := by
  unfold leaveIdle; split <;> simp
@[simp] theorem leaveIdle_core (s : State) : (leaveIdle  s).core = s.core := by
  unfold leaveIdle; split <;> simp
@[simp] theorem leaveIdle_oct (s : State) : (leaveIdle  s).oct = s.oct := by
  unfold leaveIdle; split <;> simp
@[simp] theorem leaveIdle_st (s : State) : (leaveIdle  s).st = s.st := by
  unfold leaveIdle; split <;> simp
@[simp] theorem leaveIdle_har (s : State) : (leaveIdle  s).har = s.har := by
  unfold leaveIdle; split <;> simp
@[simp] theorem leaveIdle_fab (s : State) : (leaveIdle  s).fab = s.fab := by
  unfold leaveIdle; split <;> simp
@[simp] theorem leaveIdle_sp (s : State) : (leaveIdle  s).sp = s.sp := by
  unfold leaveIdle; split <;> simp
@[simp] theorem leaveIdle_pow (s : State) : (leaveIdle  s).pow = s.pow := by
  unfold leaveIdle; split <;> simp
@[simp] theorem leaveIdle_alm (s : State) : (leaveIdle  s).alm = s.alm := by
  unfold leaveIdle; split <;> simp
@[simp] theorem leaveIdle_vig (s : State) : (leaveIdle  s).vig = s.vig := by
  unfold leaveIdle; split <;> simp
@[simp] theorem leaveIdle_boot (s : State) : (leaveIdle  s).boot = s.boot := by
  unfold leaveIdle; split <;> simp
@[simp] theorem leaveIdle_ctl_gens (s : State) : (leaveIdle  s).ctl.gens = s.ctl.gens := by
  unfold leaveIdle; split <;> simp
@[simp] theorem leaveIdle_ctl_queues (s : State) : (leaveIdle  s).ctl.queues = s.ctl.queues := by
  unfold leaveIdle; split <;> simp
@[simp] theorem leaveIdle_ctl_journal (s : State) : (leaveIdle  s).ctl.journal = s.ctl.journal := by
  unfold leaveIdle; split <;> simp
@[simp] theorem leaveIdle_ctl_partner (s : State) : (leaveIdle  s).ctl.partner = s.ctl.partner := by
  unfold leaveIdle; split <;> simp
@[simp] theorem leaveIdle_ctl_doorbells (s : State) : (leaveIdle  s).ctl.doorbells = s.ctl.doorbells := by
  unfold leaveIdle; split <;> simp
@[simp] theorem leaveIdle_ctl_missed (s : State) : (leaveIdle  s).ctl.missed = s.ctl.missed := by
  unfold leaveIdle; split <;> simp
@[simp] theorem leaveIdle_ctl_f0Fenced (s : State) : (leaveIdle  s).ctl.f0Fenced = s.ctl.f0Fenced := by
  unfold leaveIdle; split <;> simp
@[simp] theorem leaveIdle_ctl_partitions (s : State) : (leaveIdle  s).ctl.partitions = s.ctl.partitions := by
  unfold leaveIdle; split <;> simp

@[simp] theorem wakeUp_pending (c : Nat) (s : State) : (wakeUp c s).pending = s.pending := by
  unfold wakeUp; repeat' split
  all_goals simp
@[simp] theorem wakeUp_mem (c : Nat) (s : State) : (wakeUp c s).mem = s.mem := by
  unfold wakeUp; repeat' split
  all_goals simp
@[simp] theorem wakeUp_gr (c : Nat) (s : State) : (wakeUp c s).gr = s.gr := by
  unfold wakeUp; repeat' split
  all_goals simp
@[simp] theorem wakeUp_eng (c : Nat) (s : State) : (wakeUp c s).eng = s.eng := by
  unfold wakeUp; repeat' split
  all_goals simp
@[simp] theorem wakeUp_core (c : Nat) (s : State) : (wakeUp c s).core = s.core := by
  unfold wakeUp; repeat' split
  all_goals simp
@[simp] theorem wakeUp_oct (c : Nat) (s : State) : (wakeUp c s).oct = s.oct := by
  unfold wakeUp; repeat' split
  all_goals simp
@[simp] theorem wakeUp_st (c : Nat) (s : State) : (wakeUp c s).st = s.st := by
  unfold wakeUp; repeat' split
  all_goals simp
@[simp] theorem wakeUp_har (c : Nat) (s : State) : (wakeUp c s).har = s.har := by
  unfold wakeUp; repeat' split
  all_goals simp
@[simp] theorem wakeUp_fab (c : Nat) (s : State) : (wakeUp c s).fab = s.fab := by
  unfold wakeUp; repeat' split
  all_goals simp
@[simp] theorem wakeUp_sp (c : Nat) (s : State) : (wakeUp c s).sp = s.sp := by
  unfold wakeUp; repeat' split
  all_goals simp
@[simp] theorem wakeUp_pow (c : Nat) (s : State) : (wakeUp c s).pow = s.pow := by
  unfold wakeUp; repeat' split
  all_goals simp
@[simp] theorem wakeUp_alm (c : Nat) (s : State) : (wakeUp c s).alm = s.alm := by
  unfold wakeUp; repeat' split
  all_goals simp
@[simp] theorem wakeUp_vig (c : Nat) (s : State) : (wakeUp c s).vig = s.vig := by
  unfold wakeUp; repeat' split
  all_goals simp
@[simp] theorem wakeUp_boot (c : Nat) (s : State) : (wakeUp c s).boot = s.boot := by
  unfold wakeUp; repeat' split
  all_goals simp
@[simp] theorem wakeUp_ctl_gens (c : Nat) (s : State) : (wakeUp c s).ctl.gens = s.ctl.gens := by
  unfold wakeUp; repeat' split
  all_goals simp
@[simp] theorem wakeUp_ctl_queues (c : Nat) (s : State) : (wakeUp c s).ctl.queues = s.ctl.queues := by
  unfold wakeUp; repeat' split
  all_goals simp
@[simp] theorem wakeUp_ctl_partner (c : Nat) (s : State) : (wakeUp c s).ctl.partner = s.ctl.partner := by
  unfold wakeUp; repeat' split
  all_goals simp
@[simp] theorem wakeUp_ctl_doorbells (c : Nat) (s : State) : (wakeUp c s).ctl.doorbells = s.ctl.doorbells := by
  unfold wakeUp; repeat' split
  all_goals simp
@[simp] theorem wakeUp_ctl_missed (c : Nat) (s : State) : (wakeUp c s).ctl.missed = s.ctl.missed := by
  unfold wakeUp; repeat' split
  all_goals simp
@[simp] theorem wakeUp_ctl_f0Fenced (c : Nat) (s : State) : (wakeUp c s).ctl.f0Fenced = s.ctl.f0Fenced := by
  unfold wakeUp; repeat' split
  all_goals simp
@[simp] theorem wakeUp_ctl_partitions (c : Nat) (s : State) : (wakeUp c s).ctl.partitions = s.ctl.partitions := by
  unfold wakeUp; repeat' split
  all_goals simp

/-! ### What the updates write -/

/-- A register field reads back as written, cut to its width, where the element exists. -/
theorem rget_rset_same (s : State) (f : Fld) (i v : Nat) (h : i < fldCount f) : rget (rset f i v s) f i = v % 2 ^ (fldInfo f).width := by
  simp [rget, rset, h]

/-- A register field written at one key leaves every other field and element. -/
theorem rget_rset_ne (s : State) (f g : Fld) (i j v : Nat) (h : fldKey g j ≠ fldKey f i) : rget (rset f i v s) g j = rget s g j := by
  unfold rget rset; repeat' split
  all_goals simp [sget_sset_other _ _ _ _ h]

/-- Two fields, or two elements of one field, have different keys. -/
theorem fldKey_ne {f g : Fld} {i j : Nat} (hi : i < 2 ^ 20) (hj : j < 2 ^ 20) (h : g ≠ f ∨ j ≠ i) : fldKey g j ≠ fldKey f i := by
  unfold fldKey
  intro e
  have hc : g.ctorIdx = f.ctorIdx := by omega
  have hg : g = f := by rw [← Fld.ofNat_ctorIdx g, ← Fld.ofNat_ctorIdx f, hc]
  rcases h with h | h
  · exact h hg
  · rw [hc] at e; omega

theorem ctx?_setCtx_same (s : State) (c : Nat) (x : Ctx) : ctx? (setCtx c x s) c = some x := by simp [ctx?, setCtx]

theorem ctx?_setCtx_ne (s : State) (c d : Nat) (x : Ctx) (h : d ≠ c) : ctx? (setCtx c x s) d = ctx? s d := by
  simp [ctx?, setCtx, sget?_sput_ne _ _ h]

theorem queue?_setQueue_same (s : State) (q : Nat) (x : Queue) : queue? (setQueue q x s) q = some x := by simp [queue?, setQueue]

theorem queue?_setQueue_ne (s : State) (q p : Nat) (x : Queue) (h : p ≠ q) : queue? (setQueue q x s) p = queue? s p := by
  simp [queue?, setQueue, sget?_sput_ne _ _ h]

theorem eng?_setEng_same (s : State) (e : Eng) (x : Engine) : eng? (setEng e x s) e = some x := by simp [eng?, setEng]

theorem eng?_setEng_ne (s : State) (e d : Eng) (x : Engine) (h : engKey d ≠ engKey e) : eng? (setEng e x s) d = eng? s d := by
  simp [eng?, setEng, sget?_sput_ne _ _ h]

theorem stepOf_modStep_same (s : State) (c : Nat) (g : StepCtx → StepCtx) : stepOf (modStep c g s) c = g (stepOf s c) := by
  simp [stepOf, modStep]

theorem stepOf_modStep_ne (s : State) (c d : Nat) (g : StepCtx → StepCtx) (h : d ≠ c) : stepOf (modStep c g s) d = stepOf s d := by
  simp [stepOf, modStep, sget_sset_ne _ _ _ h]

end Sys2Proof.Machine
end

