-- ==== Sys2Proof/Laws/Commands.lean ====
section
/-! SUPPORT. What `runCmd`, `runPriv`, `finish` and `waitFor` can do, said once. -/

namespace Sys2Proof.Machine

/-- A record is the undelivered one of its command when its opcode, state and reply change, as long as it is not delivered. -/
theorem findRec_mapRecs (s : State) (q n : Nat) (g : Rec → Rec) (r : Rec) (h : findRec s q n = some r)
    (hq : (g r).q = r.q) (hn : (g r).seq = r.seq) (hc : (g r).state ≠ .completed) :
    findRec (mapRecs (isRec q n) g s) q n = some (g r) := by
  unfold findRec mapRecs setJournal at *
  simp only []
  generalize s.ctl.journal = l at h ⊢
  induction l with
  | nil => cases h
  | cons a l ih =>
    by_cases ha : isRec q n a
    · rw [List.find?_cons_of_pos ha] at h
      cases h
      have : isRec q n (g r) = true := by
        simp only [isRec, hq, hn, Bool.and_eq_true, beq_iff_eq, bne_iff_ne] at ha ⊢
        exact ⟨ha.1, hc⟩
      rw [List.map_cons, if_pos ha, List.find?_cons_of_pos this]
    · rw [List.find?_cons_of_neg ha] at h
      rw [List.map_cons, if_neg ha, List.find?_cons_of_neg ha]
      exact ih h

/-- A command that may run, runs from its started state. -/
theorem runCmd_started (op : Nat) (h : CmdRef) (body : State → State) (s : State) (hm : mayRun op h s = true) :
    runCmd op h body s = body (started op h s) := by
  unfold mayRun at hm
  unfold runCmd started
  cases e : findRec s h.q h.seq.toNat with
  | none => rfl
  | some r =>
    simp only [e, Bool.and_eq_true, beq_iff_eq] at hm
    simp [hm.1.1.1.1.1, hm.1.1.1.1.2]

/-- The same of a privileged command of context 0. -/
theorem runPriv_started (op : Nat) (h : CmdRef) (body : State → State) (s : State) (hm : mayRun op h s = true) (hp : h.ctx = 0) :
    runPriv op h body s = body (started op h s) := by
  simp [runPriv, runCmd_started _ _ _ _ hm, hp]

/-- Outside context 0 a privileged command is answered NOT_PRIVILEGED (R72). -/
theorem runPriv_refused (op : Nat) (h : CmdRef) (body : State → State) (s : State) (hm : mayRun op h s = true) (hp : h.ctx ≠ 0) :
    runPriv op h body s = finish h stNotPriv 0 (started op h s) := by
  simp [runPriv, runCmd_started _ _ _ _ hm, hp]

/-- A started command has a record, ISSUED and without a wait, of its opcode, context and flags. -/
theorem started_rec (op : Nat) (h : CmdRef) (s : State) (hm : mayRun op h s = true) :
    ∃ r, findRec (started op h s) h.q h.seq.toNat = some r ∧ r.state = .issued ∧ r.wait = .none ∧ r.again = none ∧
      r.q = h.q ∧ r.seq = h.seq.toNat ∧ r.opcode = op ∧ r.ctx = h.ctx ∧ r.flags = h.flags.toNat := by
  unfold mayRun at hm
  unfold started
  cases e : findRec s h.q h.seq.toNat with
  | none =>
    refine ⟨directRec s op h, ?_, rfl, rfl, rfl, rfl, rfl, rfl, rfl, rfl⟩
    simp only [findRec, setJournal, List.find?_append] at e ⊢
    rw [e]
    simp [List.find?, isRec, directRec, show (RecSt.issued != RecSt.completed) = true from rfl]
  | some r =>
    simp only [e, Bool.and_eq_true, beq_iff_eq, Option.isNone_iff_eq_none] at hm
    have hr := List.find?_some e
    simp only [isRec, Bool.and_eq_true, beq_iff_eq] at hr
    exact ⟨r, e, hm.1.1.1.1.1, hm.1.1.1.1.2, hm.1.1.1.2, hr.1.1, hr.1.2, hm.1.1.2, hm.1.2, hm.2⟩

/-- What `started` leaves as it is: everything but the journal. -/
theorem started_eq (op : Nat) (h : CmdRef) (s : State) : ∃ l, started op h s = setJournal l s := by
  unfold started
  split
  · exact ⟨_, rfl⟩
  · exact ⟨s.ctl.journal, rfl⟩

/-- `finish` gives the reply to a record that is ISSUED and run for the first time. -/
theorem finish_replied (h : CmdRef) (st det : Nat) (s : State) (r : Rec) (e : findRec s h.q h.seq.toNat = some r)
    (hs : r.state = .issued) (ha : r.again = none) : replied h st det (finish h st det s) = true := by
  have hr : replyOf s st det r = { r with state := .replyPending, wait := .none, reply := some ⟨st, r.replayed, if r.step = 0 then stepNo s r.ctx else r.step, det % 2 ^ 64, 0⟩ } := by
    simp [replyOf, hs, ha]
  have := findRec_mapRecs s h.q h.seq.toNat (replyOf s st det) r e (by rw [hr]) (by rw [hr]) (by rw [hr]; simp)
  unfold replied finish finishAt
  rw [this, hr]
  simp

/-- The same from any state with the journal of the started one. -/
theorem finish_started (op : Nat) (h : CmdRef) (st det : Nat) (s t : State) (hm : mayRun op h s = true)
    (hj : t.ctl.journal = (started op h s).ctl.journal) : replied h st det (finish h st det t) = true := by
  obtain ⟨r, e, hs, _, ha, _⟩ := started_rec op h s hm
  exact finish_replied h st det t r (by unfold findRec at *; rw [hj]; exact e) hs ha

/-- `waitFor` leaves the record ISSUED with its wait. -/
theorem waitFor_waits (op : Nat) (h : CmdRef) (w : Wait) (s t : State) (hm : mayRun op h s = true)
    (hj : t.ctl.journal = (started op h s).ctl.journal) : waitsOn h w (waitFor h w t) = true := by
  obtain ⟨r, e, hs, _, _, _⟩ := started_rec op h s hm
  have e' : findRec t h.q h.seq.toNat = some r := by unfold findRec at *; rw [hj]; exact e
  have := findRec_mapRecs t h.q h.seq.toNat (fun r => if r.state = .issued then { r with wait := w } else r) r e'
    (by simp [hs]) (by simp [hs]) (by simp [hs])
  unfold waitsOn waitFor
  rw [this]
  simp [hs]

end Sys2Proof.Machine
end

