-- ==== Sys2Proof/Laws/Digest.lean ====
section
/-! SUPPORT. Lengths of byte strings: little-endian numbers, SHA-256 digests, keys, signatures and signature blocks. -/

namespace Sys2Proof.Machine

@[simp] theorem leBytes_length (n v : Nat) : (leBytes n v).length = n := by
  induction n generalizing v with
  | zero => rfl
  | succ n ih => simp [leBytes, ih]

theorem shaRounds_length (l : List (BitVec 32 × BitVec 32)) (v : List (BitVec 32)) (h : v.length = 8) : (l.foldl shaRound v).length = 8 := by
  induction l generalizing v with
  | nil => exact h
  | cons x l ih => exact ih _ rfl

theorem shaBlock_length (h : List (BitVec 32)) (b : List Byte) (h8 : h.length = 8) : (shaBlock h b).length = 8 := by
  simp [shaBlock, shaRounds_length _ h h8, h8]

theorem shaBlocks_length (n : Nat) (h : List (BitVec 32)) (b : List Byte) (h8 : h.length = 8) : (shaBlocks n h b).length = 8 := by
  induction n generalizing h b with
  | zero => exact h8
  | succ n ih => exact ih _ _ (shaBlock_length h _ h8)

theorem flatMap_length_const {α β : Type} (l : List α) (f : α → List β) (k : Nat) (h : ∀ x ∈ l, (f x).length = k) :
    (l.flatMap f).length = l.length * k := by
  induction l with
  | nil => simp
  | cons x l ih =>
    rw [List.flatMap_cons, List.length_append, h x (by simp), ih fun y hy => h y (by simp [hy]), List.length_cons, Nat.succ_mul, Nat.add_comm]

@[simp] theorem sha256_length (m : List Byte) : (sha256 m).length = 32 := by
  unfold sha256
  rw [flatMap_length_const _ _ 4 (by simp), shaBlocks_length _ _ _ (by decide)]

@[simp] theorem edKey_length (r : String) : (edKey r).length = 32 := by simp [edKey]
@[simp] theorem mlKey_length (r : String) : (mlKey r).length = 1952 := by simp [mlKey]
@[simp] theorem signEd_length (r : String) (m : List Byte) : (signEd r m).length = 64 := by simp [signEd]
@[simp] theorem signMl_length (r c : String) (m : List Byte) : (signMl r c m).length = 3309 := by simp [signMl]

/-- A signature block is 5,376 bytes long. -/
@[simp] theorem sigBlock_length (r c : String) (m : List Byte) : (sigBlock r c m).length = 5376 := by simp [sigBlock, padTo]

/-- The message of an attestation report is 256 bytes long (Table 17.5). -/
theorem attestMsg_length (s : State) (c : Nat) (nonce : List Byte) (h : nonce.length = 32) : (attestMsg s c nonce).length = 256 := by
  simp [attestMsg, padTo, h]

end Sys2Proof.Machine
end

