-- ==== Sys2Proof/Laws/Engine.lean ====
section
/-! SUPPORT. What an engine does when it executes an instruction: goes on, jumps, stalls or traps; and what the register writes leave. -/

namespace Sys2Proof.Machine

/-- The engine as an instruction meets it: no longer stalled. -/
abbrev Engine.awake (x : Engine) : Engine := { x with stall := none }

/-- Everything `engRun` can do, by what the instruction does to its engine. -/
theorem engRun_eq {i : Instr} {s : State} {e : Eng} {x : Engine} (h : executes i s e x) (body : Engine → State → EStep) :
    engRun i e body s =
      match body x.awake s with
      | .next y post => post (setEng e { y with pc := y.pc + 8 } s)
      | .jump y pc => setEng e { y with pc := pc } s
      | .stall y post => post (setEng e { y with stall := some i } s)
      | .trap code => trapEng e code s := by
  obtain ⟨h1, h2, h3, h4⟩ := h
  unfold engRun engRunAs
  rw [h1]
  dsimp only
  rw [if_neg (by rcases h3 with h3 | h3 <;> simp [h2, h3]), if_neg (by omega)]
  all_goals (cases body { x with stall := none } s <;> rfl)

/-- An instruction that changes registers only and does not trap. -/
theorem engPure_next {i : Instr} {s : State} {e : Eng} {x y : Engine} {body : Engine → Option Engine} (h : executes i s e x)
    (hb : body x.awake = some y) : engPure i e body s = setEng e { y with pc := y.pc + 8 } s := by
  unfold engPure
  rw [engRun_eq h, hb]
  rfl

/-- An instruction that changes registers only, and traps. -/
theorem engPure_trap {i : Instr} {s : State} {e : Eng} {x : Engine} {body : Engine → Option Engine} (h : executes i s e x)
    (hb : body x.awake = none) : engPure i e body s = trapEng e 0x25 s := by
  unfold engPure
  rw [engRun_eq h, hb]

/-- An engine that does not run, or that another instruction stalls, executes nothing. -/
theorem engRun_idle {i : Instr} {s : State} {e : Eng} (body : Engine → State → EStep)
    (h : ∀ x, eng? s e = some x → x.ended = true ∨ (x.stall ≠ none ∧ x.stall ≠ some i)) : engRun i e body s = s := by
  unfold engRun engRunAs
  cases hx : eng? s e with
  | none => rfl
  | some x =>
    dsimp only
    rw [if_pos]
    rcases h x hx with h | ⟨h, h'⟩
    · simp [h]
    · cases hs : x.stall with
      | none => exact absurd hs h
      | some j =>
        rw [hs] at h'
        simp only [Option.isSome_some, Bool.true_and, Bool.or_eq_true]
        right
        exact bne_iff_ne.2 h'

/-! ### Scalar registers -/

@[simp] theorem Engine.s_zero (x : Engine) : x.s 0 = 0 := rfl

@[simp] theorem Engine.s_awake (x : Engine) (r : BitVec 5) : x.awake.s r = x.s r := rfl

/-- A scalar register reads back as written, but for s0. -/
theorem Engine.s_setS_same (x : Engine) (r : BitVec 5) (v : Word64) (h : r ≠ 0) : (x.setS r v).s r = v := by
  unfold Engine.s Engine.setS
  rw [if_neg h, if_neg h]
  exact sget_sset_same _ _ _ _

theorem Engine.s_setS_ne (x : Engine) (r q : BitVec 5) (v : Word64) (h : q ≠ r) : (x.setS r v).s q = x.s q := by
  unfold Engine.s Engine.setS
  split
  · rfl
  · split
    · rfl
    · exact sget_sset_ne _ _ _ (fun e => h (BitVec.eq_of_toNat_eq e))

/-- Writing a register and going on to the next instruction commute. -/
theorem Engine.went_setS (x : Engine) (r : BitVec 5) (v : Word64) :
    { x.awake.setS r v with pc := (x.awake.setS r v).pc + 8 } = x.went.setS r v := by
  unfold Engine.setS Engine.went
  split <;> rfl

/-! ### Vector and mask registers -/

/-- Keys written one after the other in a range: a key in it for which there is a value reads as that value, every other as before. -/
theorem sget_foldl_range {α : Type} [DecidableEq α] (d : α) (b n : Nat) (f : Nat → Option α) (g : SMap α → Nat → SMap α)
    (hs : ∀ m i w, f i = some w → g m i = sset d m (b + i) w) (hn : ∀ m i, f i = none → g m i = m) (m : SMap α) (j : Nat) :
    sget d ((List.range n).foldl g m) j = if b ≤ j ∧ j < b + n then (f (j - b)).getD (sget d m j) else sget d m j := by
  induction n with
  | zero => rw [if_neg (by omega)]; rfl
  | succ n ih =>
    rw [List.range_succ, List.foldl_append]
    simp only [List.foldl]
    cases e : f n with
    | none =>
      rw [hn _ _ e, ih]
      by_cases h : j = b + n
      · subst h; simp [e]
      · by_cases c : b ≤ j ∧ j < b + n
        · rw [if_pos c, if_pos ⟨c.1, by omega⟩]
        · rw [if_neg c, if_neg (by omega)]
    | some w =>
      rw [hs _ _ _ e, sget_sset, ih]
      by_cases h : j = b + n
      · subst h; simp [e]
      · rw [if_neg h]
        by_cases c : b ≤ j ∧ j < b + n
        · rw [if_pos c, if_pos ⟨c.1, by omega⟩]
        · rw [if_neg c, if_neg (by omega)]

/-- The lanes of a vector register after a write: the new words where there are some, everything else as before. -/
theorem Engine.lane_setLanes (x : Engine) (d r : BitVec 5) (f : Nat → Option Word32) (k : Nat) (hk : k < 64) :
    (x.setLanes d f).lane r k = if r = d then (f k).getD (x.lane r k) else x.lane r k := by
  unfold Engine.lane Engine.setLanes
  rw [sget_foldl_range 0 (d.toNat * 64) 64 f _ (by intro m i w h; simp [h]) (by intro m i h; simp [h])]
  by_cases h : r = d
  · subst h; rw [if_pos ⟨by omega, by omega⟩, if_pos rfl]; simp
  · have : r.toNat ≠ d.toNat := fun e => h (BitVec.eq_of_toNat_eq e)
    rw [if_neg (by omega), if_neg h]

/-- The lanes of a wide accumulator after a write. -/
theorem Engine.wide_setWide (x : Engine) (d r : Nat) (f : Nat → Option FVal) (k : Nat) (hk : k < 64) :
    (x.setWide d f).wide r k = if r = d then (f k).getD (x.wide r k) else x.wide r k := by
  unfold Engine.wide Engine.setWide
  rw [sget_foldl_range FVal.zero (d * 64) 64 f _ (by intro m i w h; simp [h]) (by intro m i h; simp [h])]
  by_cases h : r = d
  · subst h; rw [if_pos ⟨by omega, by omega⟩, if_pos rfl]; simp
  · rw [if_neg (by omega), if_neg h]

/-- A mask register reads back as written. -/
theorem Engine.mask_setMask (x : Engine) (d r : Nat) (v : BitVec 64) : (x.setMask d v).mask r = if r = d then v else x.mask r := by
  unfold Engine.mask Engine.setMask
  rw [sget_sset]

end Sys2Proof.Machine
end

