-- ==== Sys2Proof/Laws/Memory.lean ====
section
/-! SUPPORT. Every operation that writes memory keeps its canonical form, and so does the memory after reset. -/

namespace Sys2Proof.Machine

/-! ### Reset -/

theorem reset_mem_wf : Mem.wf State.reset.mem := by decide

theorem reset_io_wf : Io.wf State.reset.io := by decide

/-! ### Memory of the module -/

/-- A fold of updates that each keep the form keeps it. -/
theorem mem_wf_foldl {β : Type} (g : State → β → State) (hg : ∀ s x, Mem.wf s.mem → Mem.wf (g s x).mem) (l : List β) (s : State)
    (h : Mem.wf s.mem) : Mem.wf (l.foldl g s).mem := by
  induction l generalizing s with
  | nil => exact h
  | cons x l ih => exact ih _ (hg s x h)

theorem keyWrite_wf (k : Nat) (b : List Byte) (s : State) (h : Mem.wf s.mem) : Mem.wf (keyWrite k b s).mem := by
  unfold keyWrite
  split
  · exact swf_ssetN _ _ _ _ h
  · split
    · exact swf_ssetN _ _ _ _ h
    · exact h

@[simp] theorem countViol_mem (c n : Nat) (s : State) : (countViol c n s).mem = s.mem := by
  unfold countViol
  split
  · rfl
  · exact count_mem ..

@[simp] theorem chargeMem_mem (c n : Nat) (s : State) : (chargeMem c n s).mem = s.mem := by
  unfold chargeMem charge
  split <;> rfl

@[simp] theorem touch_mem (c r : Nat) (s : State) : (touch c r s).mem = s.mem := by
  unfold touch
  dsimp only
  split <;> rfl

@[simp] theorem sendRemote_mem (c slot a : Nat) (w : Bool) (b : List Byte) (n : Nat) (u : RemoteUse) (s : State) :
    (sendRemote c slot a w b n u s).mem = s.mem := by
  unfold sendRemote
  rw [touch_mem, emit_mem]

theorem writePiece_wf (c a : Nat) (b : List Byte) (s : State) (h : Mem.wf s.mem) : Mem.wf (writePiece c a b s).mem := by
  unfold writePiece
  split
  · simpa using h
  · split
    · simpa using h
    · exact keyWrite_wf _ _ _ h
    · split
      · simpa using keyWrite_wf _ _ _ h
      · exact h
    · simpa using h
    · simpa using h

theorem writePieces_wf (c : Nat) (ps : List (Nat × Nat)) (b : List Byte) (s : State) (h : Mem.wf s.mem) :
    Mem.wf (writePieces c ps b s).mem := by
  induction ps generalizing b s with
  | nil => exact h
  | cons p ps ih => exact ih _ _ (writePiece_wf _ _ _ _ h)

/-- What a context writes. -/
theorem ctxWrite_wf (c a : Nat) (b : List Byte) (s : State) (h : Mem.wf s.mem) : Mem.wf (ctxWrite c a b s).mem := by
  simpa [ctxWrite] using writePieces_wf _ _ _ _ h

/-- What an engine writes to its cluster memory. -/
theorem clWrite_wf (e : Eng) (a : Nat) (b : List Byte) (s : State) (h : Mem.wf s.mem) : Mem.wf (clWrite e a b s).mem :=
  mem_wf_foldl _ (fun _ _ h => keyWrite_wf _ _ _ h) _ _ h

theorem poisonLine_wf (c a : Nat) (s : State) (h : Mem.wf s.mem) : Mem.wf (poisonLine c a s).mem := by
  unfold poisonLine
  split
  · exact h
  · split <;> exact h

theorem areaCopy_wf (dst src n : Nat) (s : State) (h : Mem.wf s.mem) : Mem.wf (areaCopy dst src n s).mem := swf_scopy _ _ _ _ _ h

theorem areaZero_wf (dst n : Nat) (s : State) (h : Mem.wf s.mem) : Mem.wf (areaZero dst n s).mem := swf_sclear _ _ _ _ h

theorem areasCopy_wf (dst src : List Nat) (n : Nat) (s : State) (h : Mem.wf s.mem) : Mem.wf (areasCopy dst src n s).mem :=
  mem_wf_foldl _ (fun s p h => by split; exact h; exact areaCopy_wf _ _ _ _ h) _ _ h

theorem areasZero_wf (dst : List Nat) (n : Nat) (s : State) (h : Mem.wf s.mem) : Mem.wf (areasZero dst n s).mem :=
  mem_wf_foldl _ (fun s p h => by split; exact h; exact areaZero_wf _ _ _ h) _ _ h

theorem copyCluster_wf (e : Eng) (s : State) (h : Mem.wf s.mem) : Mem.wf (copyCluster e s).mem := swf_scopy _ _ _ _ _ h

theorem clearCluster_wf (d cl : Nat) (s : State) (h : Mem.wf s.mem) : Mem.wf (clearCluster d cl s).mem := swf_sclear _ _ _ _ h

theorem clearDie_wf (d : Nat) (s : State) (h : Mem.wf s.mem) : Mem.wf (clearDie d s).mem := swf_sclear _ _ _ _ h

/-- What Harvest writes to a target: host memory or memory of the module. -/
theorem targetWrite_wf (c : Nat) (t : Nat × Nat × Nat) (a : Nat) (b : List Byte) (s : State) (h : Mem.wf s.mem) :
    Mem.wf (targetWrite c t a b s).mem := by
  unfold targetWrite
  split
  · split <;> exact h
  · exact ctxWrite_wf _ _ _ _ h

theorem targetZero_wf (c : Nat) (t : Nat × Nat × Nat) (a n : Nat) (s : State) (h : Mem.wf s.mem) : Mem.wf (targetZero c t a n s).mem := by
  unfold targetZero
  split
  · split <;> exact h
  · split
    · exact swf_sclear _ _ _ _ h
    · exact h

/-! ### Host memory -/

theorem hostWrite_wf (a : Nat) (b : List Byte) (s : State) (h : Io.wf s.io) : Io.wf (hostWrite a b s).io := swf_ssetN _ _ _ _ h

end Sys2Proof.Machine
end

