-- ==== Sys2Proof/Tests/Slice0.lean ====
section
/-! SUPPORT. Tests: the check of operands on ill-formed commands, words written out from the encoding tables, worked values of the spec, and for every
statement with hypotheses concrete states and operands that meet them. -/

namespace Sys2Proof.Tests

open Sys2Proof Sys2Proof.Machine

set_option Elab.async false

/-! ### Helpers: small states -/

/-- The module with PF 0 served: the state after reset with MC_STATUS.ready set. -/
def up : State := rset .mcStatus_ready 0 1 State.reset

def e0 : Eng := ⟨0, 0, false⟩

/-- An engine of context 1 at the first of eight instructions, with sixteen argument bytes. -/
def x0 : Engine where
  ctx := 1
  run := 0
  task := 0
  k := 0
  ldie := 0
  phys := 0
  codeBytes := 64
  args := List.replicate 16 7
  pc := 0
  v := []
  m := []
  wa := []
  sr := []
  ftz := false
  vflags := 0
  xfers := []
  sent := []
  held := []
  closedPorts := []
  closedRoutes := []
  stall := none
  answers := []
  sampled := false
  digest := 0
  recs := 0
  bad := false
  ended := false
  trap := none

/-- The served module with one engine. -/
def withEng (x : Engine) : State := setEng e0 x up

theorem executes_x0 (x : Engine) (i : Instr) (h1 : x.ended = false) (h2 : x.stall = none) (h3 : x.pc + 8 ≤ x.codeBytes) :
    executes i (withEng x) e0 x := ⟨eng?_setEng_same _ _ _, h1, .inl h2, h3⟩

/-- The state after a command; the same state where the command stops. -/
def after (i : Instr) (s : State) : State :=
  match exec i s with
  | .next t => t
  | _ => s

/-- A value of engine `e0` after an instruction. -/
def engAfter {α : Type} (i : Instr) (x : Engine) (g : Engine → α) : Option α := (eng? (after i (withEng x)) e0).map g

/-! ### Commands that name what does not exist are refused by the check -/

def ref1 : CmdRef := ⟨1, 0, 1, 0⟩
def fmtS0 : FmtS := ⟨1, 2, 3, 0⟩
def fmtV0 : FmtV := ⟨0, 0, 0, 0, 0, 1, 2, 3, 0, 0, 0, 0⟩

theorem test_wf_queue : wellFormed (.nop ref1) = true ∧ wellFormed (.nop { ref1 with q := 4096 }) = false ∧
    wellFormed (.nop { ref1 with ctx := 256 }) = false := by decide
theorem test_wf_engine : wellFormed (.add e0 fmtS0) = true ∧ wellFormed (.add ⟨8, 0, false⟩ fmtS0) = false ∧
    wellFormed (.vadd ⟨7, 2048, true⟩ fmtV0) = false := by decide
theorem test_wf_function : wellFormed (.functionLevelReset 63) = true ∧ wellFormed (.functionLevelReset 64) = false ∧
    wellFormed (.queueDbCqHead 64 0 0) = false ∧ wellFormed (.queueDbCqHead 0 4096 0) = false := by decide
theorem test_wf_context : wellFormed (.holdReleased 255) = true ∧ wellFormed (.holdReleased 256) = false := by decide
theorem test_wf_core : wellFormed (.mmaComplete e0 63 [] [] [] ⟨0, 0, 0⟩) = true ∧ wellFormed (.mmaComplete e0 64 [] [] [] ⟨0, 0, 0⟩) = false := by decide
theorem test_wf_die : wellFormed (.cdieMtxCheckCtl 0 8 0) = false ∧ wellFormed (.energySplit 8 0 []) = false := by decide
theorem test_wf_port : wellFormed (.linkTrained 31 8) = true ∧ wellFormed (.linkTrained 32 8) = false ∧ wellFormed (.linkTrained 0 16) = false ∧
    wellFormed (.spare 32 0) = false ∧ wellFormed (.laneFailing 0 9 1) = false := by decide
theorem test_wf_roster : wellFormed (.resetNoticeExpiry 16383) = true ∧ wellFormed (.resetNoticeExpiry 16384) = false := by decide
theorem test_wf_size : wellFormed (.registerWrite 0 0 4 0) = true ∧ wellFormed (.registerWrite 0 0 2 0) = false := by decide

/-! ### Reset and steps -/

theorem test_reset_memory : Mem.wf State.reset.mem ∧ Io.wf State.reset.io := by decide
theorem test_step_queue : step { State.reset with pending := [.controllerHeartbeat] } = exec .controllerHeartbeat State.reset := rfl

theorem test_meets_StepRunsTheFrontCommand : ({ State.reset with pending := [.controllerHeartbeat] } : State).pending = .controllerHeartbeat :: [] ∧
    State.reset.pending = [] := ⟨rfl, rfl⟩

theorem test_meets_MemoryKeepsItsForm : Mem.wf State.reset.mem ∧ Io.wf State.reset.io ∧ ∃ t, step State.reset = .next t :=
  ⟨by decide, by decide, _, rfl⟩

theorem test_meets_WordsDecodeAndEncode : instrWord (.add e0 ⟨3, 1, 2, 0⟩) = some (e0, 0x0801844000000000#64) ∧
    wordInstr e0 0x0801844000000000#64 = some (.add e0 ⟨3, 1, 2, 0⟩) := by decide

/-! ### Words of kernels, written out bit by bit (Tables 5.6, 6.3, 6.4) -/

/-- ADD s3, s1, s2: class SALU (0x01), op 0. -/
theorem test_word_add : wordInstr e0 0b0000100000000001100001000100000000000000000000000000000000000000#64 = some (.add e0 ⟨3, 1, 2, 0⟩) := by decide
/-- LI s4, 100. -/
theorem test_word_li : wordInstr e0 0b0001000100000010000000000000000000000000000000000000000001100100#64 = some (.li e0 ⟨4, 0, 0, 100⟩) := by decide
/-- SLD s5, argument block, 8. -/
theorem test_word_sld : wordInstr e0 0b0001100000000000101000010000000000000000000000000000000000001000#64 = some (.sld e0 ⟨1, 8, 1, 0, 8⟩) := by decide
/-- BEQ s1, s2, one instruction back. -/
theorem test_word_beq : wordInstr e0 0b0010000000000000100010000000000011111111111111111111111111111000#64 = some (.beq e0 ⟨1, 2, 0, 0xFFFFFFF8⟩) := by decide
/-- VADD v17, v2, v3 of FP32. -/
theorem test_word_vadd : wordInstr e0 0b0100000000000000000000100010001000011000000000000000000000000000#64 = some (.vadd e0 ⟨0, 0, 0, 0, 0, 17, 2, 3, 0, 0, 0, 0⟩) := by decide
/-- XWAIT. -/
theorem test_word_xwait : wordInstr e0 0b1000000000100000000000000000000000000000000000000000000000000000#64 = some (.xwait e0 ⟨0, 0, 0, 0, 0, 0⟩) := by decide
/-- MTX.WAIT. -/
theorem test_word_mtxwait : wordInstr e0 0b1110001000000000000000000000000000000000000000000000000000000000#64 = some (.mtxWait e0 ⟨0, 0, 0, 0, 0, 0, 0⟩) := by decide
/-- A class without instructions. -/
theorem test_word_none : wordInstr e0 0b1111100000000000000000000000000000000000000000000000000000000000#64 = none := by decide

/-! ### The scalar unit -/

/-- The engine with s1 = 2^64 - 1, s2 = 3. -/
def x1 : Engine := { x0 with sr := [(1, 0xFFFFFFFFFFFFFFFF), (2, 3)] }

theorem test_add_wraps : engAfter (.add e0 ⟨3, 1, 2, 0⟩) x1 (·.s 3) = some 2 := by decide
theorem test_write_of_s0 : engAfter (.add e0 ⟨0, 1, 2, 0⟩) x1 (·.s 0) = some 0 := by decide
theorem test_sar_keeps_the_sign : engAfter (.sar e0 ⟨1, 1, 2, 0⟩) x1 (·.s 1) = some 0xFFFFFFFFFFFFFFFF := by decide
theorem test_shr : engAfter (.shr e0 ⟨1, 1, 2, 0⟩) x1 (·.s 1) = some 0x1FFFFFFFFFFFFFFF := by decide
theorem test_slt_sltu : engAfter (.slt e0 ⟨3, 1, 2, 0⟩) x1 (·.s 3) = some 1 ∧ engAfter (.sltu e0 ⟨3, 1, 2, 0⟩) x1 (·.s 3) = some 0 := by decide
theorem test_lui_keeps_the_low_half : engAfter (.lui e0 ⟨2, 0, 0, 5⟩) x1 (·.s 2) = some 0x500000003 := by decide
theorem test_li_sign_extends : engAfter (.li e0 ⟨4, 0, 0, 0xFFFFFFFF⟩) x1 (·.s 4) = some 0xFFFFFFFFFFFFFFFF := by decide

/-- Every scalar operation has an engine that executes it, and operands without reserved bits. -/
theorem test_meets_ScalarOperations : (∀ i, executes i (withEng x0) e0 x0) ∧ (⟨3, 1, 2, 0⟩ : FmtS).rsv = 0 ∧ (⟨3, 0, 0, 100⟩ : FmtSI).rsv = 0 ∧
    (⟨3, 0, 0, 100⟩ : FmtSI).sa = 0 := ⟨fun i => executes_x0 _ i rfl rfl (by decide), rfl, rfl, rfl⟩

/-- Targets at the first and the last place in the code, one before it and one behind it. -/
theorem test_meets_BranchesGoToTheirTargets :
    let x := { x0 with pc := 8 }
    let t := fun (imm : BitVec 32) => (x.pc : Int) + 8 * imm.toInt
    (∀ i, executes i (withEng x) e0 x) ∧ t 0xFFFFFFFF = 0 ∧ t 6 + 8 = (x.codeBytes : Int) ∧ t 0xFFFFFFFE < 0 ∧ (x.codeBytes : Int) < t 7 + 8 ∧
    x.s 1 = x.s 0 ∧ x1.s 1 ≠ x1.s 2 ∧ (⟨0, 0, 0, 6⟩ : FmtB).rsv = 0 :=
  ⟨fun i => executes_x0 _ i rfl rfl (by decide), by decide, by decide, by decide, by decide, by decide, by decide, by decide⟩

theorem test_meets_SysInstructionsAndIllegalWords :
    (∀ i, executes i (withEng x0) e0 x0) ∧ csrVal x0 e0 (withEng x0) 0x3F = none ∧ eng? (withEng x0) e0 = some x0 ∧ x0.ended = false ∧ x0.stall = none ∧
    wordInstr e0 0b1111100000000000000000000000000000000000000000000000000000000000#64 = none ∧ (⟨1, 2, 3, 1⟩ : FmtS).rsv ≠ 0 ∧
    eng? (withEng { x0 with pc := 64 }) e0 = some { x0 with pc := 64 } ∧ 64 < 64 + 8 :=
  ⟨fun i => executes_x0 _ i rfl rfl (by decide), by decide, eng?_setEng_same _ _ _, rfl, rfl, by decide, by decide, eng?_setEng_same _ _ _, by decide⟩

/-- The last doubleword of cluster memory and of the argument block. -/
theorem test_meets_ScalarLoadsAndStores :
    let x := { x0 with sr := [(1, 196600)] }
    (∀ i, executes i (withEng x) e0 x) ∧ (x.s 1 + BitVec.ofInt 64 (0 : BitVec 32).toInt).toNat = 196600 ∧ 196600 % 8 = 0 ∧ 196600 + 8 ≤ 196608 ∧
    clBad (withEng x) e0 196600 8 = false ∧ (x.s 0 + BitVec.ofInt 64 (8 : BitVec 32).toInt).toNat = 8 ∧ 8 + 8 ≤ x.args.length :=
  ⟨fun i => executes_x0 _ i rfl rfl (by decide), by decide, by decide, by decide, by decide, by decide, by decide⟩

theorem test_sld_from_arguments : engAfter (.sld e0 ⟨1, 0, 1, 0, 8⟩) x0 (·.s 1) = some 0x0707070707070707 := by decide
theorem test_sst_writes_eight_bytes : sget 0 (after (.sst e0 ⟨2, 0, 0, 0, 16⟩) (withEng x1)).mem.bytes (clKey 0 0 false 16) = 3 := by decide
/-- A misaligned load traps with fault code 0x25. -/
theorem test_sld_misaligned : engAfter (.sld e0 ⟨1, 0, 0, 0, 4⟩) x0 (·.trap) = some (some (0x25, 0)) := by decide

/-! ### The vector unit -/

/-- The engine with a value in every lane of v1 and v2, and a mask register with its low four bits set. -/
def xv (a b : Word32) : Engine :=
  { x0 with v := (List.range 64).map (fun k => (64 + k, a)) ++ (List.range 64).map (fun k => (128 + k, b)), m := [(1, 0xF)] }

/-- VALU operands v3, v1, v2 of an element type. -/
def fv (ty : BitVec 3) : FmtV := ⟨ty, 0, 0, 0, 0, 3, 1, 2, 0, 0, 0, 0⟩

/-- 1.0 + 2.0 is 3.0, on all lanes. -/
theorem test_vadd_fp32 : engAfter (.vadd e0 (fv 0)) (xv 0x3F800000 0x40000000) (fun x => (x.lane 3 0, x.lane 3 63)) =
    some (0x40400000, 0x40400000) := by decide +kernel
/-- A saturating sum of INT32 stops at the largest value. -/
theorem test_int32_saturates :
    laneOp ⟨fun a b _ => addX a b, fun a b _ => a + b⟩ .i32 ⟨.near, true, false⟩ 0x7FFFFFFF 1 0 = (0x7FFFFFFF, 0) ∧
    laneOp ⟨fun a b _ => addX a b, fun a b _ => a + b⟩ .i32 ⟨.near, false, false⟩ 0x7FFFFFFF 1 0 = (0x80000000, 0) := by decide +kernel
/-- A masked operation keeps the lanes whose mask bit is 0. -/
theorem test_vmov_masked : engAfter (.vmov e0 { fv 0 with mkb := 1, mr := 1, b := 0 }) (xv 7 9) (fun x => (x.lane 3 3, x.lane 3 4)) = some (7, 0) := by decide +kernel
theorem test_lt : engAfter (.lt e0 (fv 3)) (xv 0xFFFFFFFF 1) (·.mask 3) = some (BitVec.allOnes 64) ∧
    engAfter (.lt e0 (fv 5)) (xv 0xFFFFFFFF 1) (·.mask 3) = some 0 := by decide +kernel

theorem test_meets_VectorArithmetic :
    (∀ i, executes i (withEng x0) e0 x0) ∧ (∀ n, n < 6 → (elTy n).isSome = true) ∧
    ∀ n, n < 6 → ∀ t, elTy n = some t →
      let f := fv (BitVec.ofNat 3 n)
      vOk f (arithUse t) = true ∧ vOk f { arithUse t with c := true } = true ∧
      vOk f { type := true, d := true, a := true, bv := true, mkb := true } = true ∧
      vOk { f with b := 0 } { sat := !t.float, type := true, d := true, a := true, mkb := true } = true := by
  refine ⟨fun i => executes_x0 _ i rfl rfl (by decide +kernel), by decide +kernel, ?_⟩
  intro n hn t ht
  have : n = 0 ∨ n = 1 ∨ n = 2 ∨ n = 3 ∨ n = 4 ∨ n = 5 := by omega
  rcases this with rfl | rfl | rfl | rfl | rfl | rfl <;> · simp only [elTy, Option.some.injEq] at ht; subst ht; decide

theorem test_meets_LaneMovesAndMasks :
    let two : UseV := { type := true, d := true, a := true, bv := true, mkb := true }
    (∀ i, executes i (withEng x0) e0 x0) ∧ vOk (fv 3) two = true ∧ vOk (fv 5) two = true ∧ vOk { fv 0 with mr := 7 } { two with mr := true } = true ∧
    vOk { fv 0 with b := 0 } { two with bv := false } = true ∧ vOk { fv 3 with a := 0, b := 0 } { two with a := false, bv := false } = true ∧
    vOk { fv 0 with a := 0, b := 0, ss := 1 } { two with a := false, bv := false, ss := true } = true ∧
    vOk { fv 0 with b := 0, imm := 63 } { type := true, d := true, a := true, imm := true } = true ∧ (63 : BitVec 16).toNat < 64 ∧
    vOk { fv 0 with a := 0, b := 0, ss := 1, imm := 63 } { type := true, d := true, ss := true, imm := true, mkb := true } = true ∧
    (fv 0).d.toNat < 8 ∧ vOk (fv 0) two = true ∧ vOk (fv 0) { a := true, b := true, d := true, mkb := true } = true ∧
    vOk { fv 0 with b := 0 } { a := true, d := true, mkb := true } = true ∧ vOk { fv 0 with a := 0, b := 0 } { ss := true, d := true, mkb := true } = true ∧
    vOk { fv 0 with b := 0, d := 7, a := 7 } { d := true, a := true } = true ∧ (7 : BitVec 5).toNat < 8 :=
  ⟨fun i => executes_x0 _ i rfl rfl (by decide +kernel), by decide +kernel⟩

/-- An engine with bases 256 bytes before the end of cluster memory and one that is not aligned. -/
def xm : Engine := { x0 with sr := [(1, 196352), (2, 4), (4, 1)] }

/-- Lane `k`'s address. -/
def laneAt (r : BitVec 5) (imm : BitVec 16) (off : Nat → Word64) (k : Nat) : Nat := (xm.s r + BitVec.ofNat 64 imm.toNat + off k).toNat

def byFour (k : Nat) : Word64 := BitVec.ofNat 64 (4 * k)

theorem test_meets_VectorMemory_forms :
    (∀ i, executes i (withEng xm) e0 xm) ∧ vOk { fv 0 with a := 0, b := 0, ss := 1 } { d := true, ss := true, imm := true, mkb := true } = true ∧
    vOk { fv 0 with a := 0, b := 2, ss := 1 } { d := true, ss := true, imm := true, mkb := true, b := true } = true ∧
    vOk { fv 0 with a := 1, b := 0, ss := 1 } { d := true, ss := true, imm := true, mkb := true, a := true } = true :=
  ⟨fun i => executes_x0 _ i rfl rfl (by decide), by decide +kernel⟩

/-- The last 256 bytes of cluster memory; a base four bytes higher; an address that is not aligned. -/
theorem test_meets_VectorMemory_addresses :
    (∀ k, k < 64 → laneAt 1 0 byFour k % 4 = 0 ∧ laneAt 1 0 byFour k + 4 ≤ 196608) ∧
    (∀ k, k < 64 → laneAt 1 0 (fun k => BitVec.ofNat 64 k * xm.s 2) k = laneAt 1 0 byFour k) ∧
    (∀ k, k < 64 → laneAt 1 0 (fun k => BitVec.ofNat 64 (xm.lane 1 k).toNat) k = 196352) ∧
    laneAt 1 4 byFour 63 + 4 = 196612 ∧ laneAt 4 0 byFour 0 % 4 = 1 := by decide +kernel

theorem test_meets_VectorMemory_lines : (List.range 64).all (fun k => !clBad (withEng xm) e0 (laneAt 1 0 byFour k) 4) = true := by decide +kernel

theorem test_meets_WidePrecisionFunctions : (∀ i, executes i (withEng x0) e0 x0) ∧
    vOk { fv 0 with b := 0 } { d := true, a := true, bv := false, mkb := true } = true ∧ vOk (fv 0) { d := true, a := true, bv := true, mkb := true } = true ∧
    (1 : Nat) ≠ 0 := ⟨fun i => executes_x0 _ i rfl rfl (by decide +kernel), by decide +kernel⟩

/-- The forms of a reduction: to lanes (immediate bit 4 set, w = 1 and 6) and to a scalar register (w = 6). -/
theorem test_meets_ReductionsAndAccumulators : (∀ i, executes i (withEng x0) e0 x0) ∧
    [(0b10001 : BitVec 16), 0b10110, 0b00110].all (fun imm => decide (imm.toNat < 32) && decide (1 ≤ imm.toNat % 8) && decide (imm.toNat % 8 ≤ 6) &&
      vOk { fv 0 with b := 0, imm := imm } { type := true, d := true, a := true, imm := true, mkb := true } &&
      vOk { fv 3 with b := 0, imm := imm } { type := true, d := true, a := true, imm := true, mkb := true }) = true ∧
    (0b10110 : BitVec 16).toNat.testBit 4 = true ∧ (0b00110 : BitVec 16).toNat.testBit 4 = false ∧
    vOk { fv 0 with a := 0, b := 0, ss := 1, d := 7 } { ss := true, d := true, mkb := true } = true ∧
    vOk { fv 0 with b := 0, d := 7 } { a := true, d := true, mkb := true } = true ∧
    vOk { fv 0 with d := 7 } { a := true, bv := true, d := true, mkb := true } = true ∧ (7 : BitVec 5).toNat < 8 ∧
    [(0 : BitVec 16), 1].all (fun imm => vOk { fv 0 with b := 0, a := 7, imm := imm } { d := true, a := true, imm := true, mkb := true }) = true :=
  ⟨fun i => executes_x0 _ i rfl rfl (by decide +kernel), by decide +kernel⟩

/-- The sum of 64 threes is 192. -/
theorem test_vredsum : engAfter (.vredSum e0 { fv 3 with b := 0, imm := 6 }) (xv 3 0) (·.s 3) = some 192 := by decide +kernel

/-- FP32 to BF16 in part 0, to FP8 in part 3 with a block scale, and back. -/
def fc (src dst : BitVec 4) (vs : BitVec 5) (sp dp : BitVec 3) : FmtC := ⟨src, dst, 0, 0, 0, 0, 3, 1, vs, 0, 0, sp, dp, 0⟩

theorem test_meets_Conversions :
    (∀ i, executes i (withEng x0) e0 x0) ∧
    (∀ p ∈ [(fc 9 7 0 0 0, fp32, (7 : Nat)), (fc 9 7 0 0 1, fp32, 7)], ∃ d, fmtOf p.2.2 = some d ∧ cOk p.1 p.2.1 d = true ∧ (p.1.vs == 0 && p.1.sf == 0) = true) ∧
    (∃ d, fmtOf 4 = some d ∧ cOk (fc 9 4 2 0 3) fp32 d = true ∧ cOk (fc 4 9 2 3 0) d fp32 = true) ∧ fmtOf 9 = some fp32 ∧
    ((fc 9 4 2 0 3).sf == 0 && (fc 9 4 2 0 3).mkb == 0 && (fc 9 4 2 0 3).fmtDst.toNat ≤ 6) = true ∧ (fc 9 4 2 0 3).vs ≠ (fc 9 4 2 0 3).vd ∧
    ((fc 4 9 2 3 0).sf == 0 && (fc 4 9 2 3 0).mkb == 0 && (fc 4 9 2 3 0).fmtSrc.toNat ≤ 6) = true := by
  refine ⟨fun i => executes_x0 _ i rfl rfl (by decide +kernel), ?_, ⟨_, rfl, by decide +kernel, by decide +kernel⟩, by decide +kernel, by decide +kernel, by decide +kernel, by decide +kernel⟩
  intro p hp
  simp only [List.mem_cons, List.not_mem_nil, or_false] at hp
  rcases hp with rfl | rfl <;> exact ⟨_, rfl, by decide +kernel, by decide +kernel⟩

/-! ### Matrix cores, transfers, streams, tasks -/

/-- Context 1 with a window of 1 MiB of region 0, and its graph 5: task 0 feeds task 1 over a STREAM edge and a ROUTED edge. -/
def ctx1 : Ctx := ⟨0, 0, 0, 8, 1, [⟨0, 0x100000, 3, 0⟩], none, [], none, 0, false, false, none⟩

def graph5 : Graph where
  digest := 0
  regions := [⟨0, 1, 0, 0, 1, 1⟩, ⟨0, 1, 1, 0, 1, 1⟩]
  tasks := [⟨0, 0, 0, 0, 0, 2, 0, 0, 64, 0, false⟩, ⟨0, 0, 1, 0, 2, 0, 0, 0, 64, 0, false⟩]
  edges := [⟨0, 1, 1, 0, 0, 2, 4, 2, 64, 128⟩, ⟨0, 1, 2, 0, 3, 0, 5, 2, 64, 256⟩]
  kernels := [⟨0x1000, 64, 0⟩]

def run0 : Run := ⟨1, 5, 0, 0, 1, 0, 0, false, 0, 0, [(0, .running), (1, .running)], [], [], 0, 0, 0, none, false, false⟩

/-- The served module with context 1, a run and engine `e0`. -/
def runSt (r : Run) (x : Engine) : State :=
  setEng e0 x { setCtx 1 ctx1 up with gr := ⟨[(65541, graph5)], [(0, r)], 1, 9⟩ }

theorem executes_run (r : Run) (x : Engine) (i : Instr) (h1 : x.ended = false) (h2 : x.stall = none) (h3 : x.pc + 8 ≤ x.codeBytes) :
    executes i (runSt r x) e0 x := ⟨eng?_setEng_same _ _ _, h1, .inl h2, h3⟩

/-- Core 5 is selected; the last tile of cluster memory, the last bytes of core store. -/
def fm (imm : BitVec 32) : FmtM := ⟨1, 2, 0, 0, 0, 0, imm⟩
def xmtx (base : Word64) : Engine := { x0 with sr := [(1, base), (2, 32)] }

theorem test_meets_MatrixInstructions_tiles :
    (∀ i, executes i (withEng (xmtx 195584)) e0 (xmtx 195584)) ∧ mtxCores (xmtx 195584) (fm 0) = [5] ∧ (fm 0).rsv = 0 ∧
    ((xmtx 195584).s (fm 0).sa).toNat % 2 ^ 32 = 195584 ∧ 195584 + 64 * (0 + 5 * 0) + 1024 ≤ 196608 ∧
    clBad (withEng (xmtx 195584)) e0 195584 1024 = false ∧
    (coreOf (withEng (xmtx 195584)) e0 5).queue = [] ∧ (coreOf (withEng (xmtx 195584)) e0 5).parity = [] ∧
    (coreOf (withEng (xmtx 195584)) e0 5).bad false = false :=
  ⟨fun i => executes_x0 _ i rfl rfl (by decide), by decide +kernel⟩

theorem test_meets_MatrixInstructions_csload :
    (∀ i, executes i (withEng (xmtx 196544)) e0 (xmtx 196544)) ∧ mtxCores (xmtx 196544) (fm 127) = [5] ∧
    64 * ((fm 127).imm.toNat % 256) + 64 * ((fm 127).imm.toNat / 256 % 256 + 1) ≤ 8192 ∧
    196544 + 64 * (5 * ((fm 127).imm.toNat / 65536)) + 64 ≤ 196608 ∧ clBad (withEng (xmtx 196544)) e0 196544 64 = false :=
  ⟨fun i => executes_x0 _ i rfl rfl (by decide), by decide +kernel⟩

/-- A descriptor at address 0: m = n = 1, k = 32, both operands BF16. -/
def mmaSt : State :=
  let k := clKey 0 0 false 0
  { withEng (xmtx 0) with mem := ⟨[(k, 1), (k + 1, 1), (k + 2, 32), (k + 4, 7), (k + 5, 7)], [], [], []⟩ }

def mma1 : Mma := mkMma (sgetN 0 mmaSt.mem.bytes (clKey 0 0 false 0) 64) 5 false false false

theorem test_meets_MatrixInstructions_mma :
    (∀ i, executes i mmaSt e0 (xmtx 0)) ∧ mtxCores (xmtx 0) (fm 0) = [5] ∧ clBad mmaSt e0 0 64 = false ∧
    mmaFormOk (sgetN 0 mmaSt.mem.bytes (clKey 0 0 false 0) 64) = true ∧ mmaRangeOk mma1 = true ∧ mma1.k = 32 :=
  ⟨fun _ => ⟨by decide +kernel, rfl, .inl rfl, by decide⟩, by decide +kernel⟩

theorem test_mtxwait_goes_on : engAfter (.mtxWait e0 ⟨0, 0, 1, 0, 0, 0, 0⟩) x0 (·.pc) = some 8 := by decide +kernel

/-- The tile multiply of that descriptor waits at the head of core 5's queue. -/
def tileSt : State := setCore e0 5 ⟨[.mma mma1], [], [], none, false, false, []⟩ mmaSt

theorem test_meets_TileMultiplyCompletes :
    (xmtx 0).stall = none ∧ (coreOf tileSt e0 5).queue = [.mma mma1] ∧ (coreOf tileSt e0 5).parity = [] ∧
    (mmaRanges mma1).all (fun r => !clBad tileSt e0 r.1 r.2) = true ∧ mma1.m ≤ 16 ∧ mma1.n ≤ 16 ∧
    notServed up 0 = false ∧ rget up .cdieMtxCheckCtl_lanesOff 7 = 0 ∧ (1 : BitVec 32).toNat % 2 ≠ 0 := by decide +kernel

/-- BF16 with one byte of 1 in each operand's place: the sum of products is finite and the queue is empty after it. -/
theorem test_mma_leaves_the_queue : (coreOf (after (.mmaComplete e0 5 [] [] [] ⟨0, 0, 0⟩) tileSt) e0 5).queue = [] := by decide +kernel

/-- A transfer of the last 64 bytes of cluster memory, and one a line too long. -/
def fx : FmtX := ⟨0, 1, 2, 3, 0, 0⟩
def xx (n : Word64) (l : List Xfer) : Engine := { x0 with sr := [(1, 0x1000), (2, 196544), (3, n)], xfers := l }
def xf0 : Xfer := ⟨false, 196544, 0x1000, 64⟩

theorem test_meets_BulkTransfers :
    (∀ n l i, executes i (runSt run0 (xx n l)) e0 (xx n l)) ∧ xferOk (xx 64 []) fx = true ∧ xferOk (xx 128 []) fx = false ∧
    remoteLines (runSt run0 (xx 64 [])) 1 false 0x1000 64 = [] ∧ (List.replicate 7 xf0).length < 8 ∧ 8 ≤ (List.replicate 8 xf0).length ∧
    [xf0][0]? = some xf0 ∧ remoteLines (runSt run0 (xx 64 [xf0])) 1 false xf0.tray xf0.len = [] ∧
    (xinRead (runSt run0 (xx 64 [xf0])) (xx 64 [xf0]) xf0).bad = [] ∧ (xinRead (runSt run0 (xx 64 [xf0])) (xx 64 [xf0]) xf0).viol = 0 ∧
    clBad (runSt run0 (xx 64 [xf0])) e0 xf0.loc xf0.len = false ∧ xf0.loc % 64 = 0 :=
  ⟨fun _ _ i => executes_run _ _ i rfl rfl (Nat.le_of_ble_eq_true rfl), by decide +kernel⟩

/-- A tile of 64 bytes in slot 1 of the STREAM edge, and the consumer's engine. -/
def tile0 : Tile := ⟨0, 0, List.replicate 64 9⟩
def edge0 : Edge := ⟨0, 1, 1, 0, 0, 2, 4, 2, 64, 128⟩
def edge1 : Edge := ⟨0, 1, 2, 0, 3, 0, 5, 2, 64, 256⟩
def xcons : Engine := { x0 with task := 1, sr := [(1, 192), (2, 16)] }
def rfull : Run := { run0 with streams := [(0, { Stream.empty with slots := [(1, .full tile0 3 0 0)] })] }
def rend : Run := { run0 with streams := [(0, { Stream.empty with closedBy := [0] })] }

theorem test_meets_StreamReceiveAndSend_receive :
    (∀ r i, executes i (runSt r xcons) e0 xcons) ∧ run? (runSt rfull xcons) 0 = some rfull ∧ xcons.inPort (runSt rfull xcons) 4 = some (edge0, 0) ∧
    readySlots rfull e0 0 0 2 = [(3, 1)] ∧ sget .free (streamOf rfull 0).slots 1 = .full tile0 3 0 0 ∧
    (List.range 16).all (fun q => (xcons.s 2).getLsbD q == (q == 4)) = true ∧ edgeEnded (runGraph (runSt rend xcons) rend) rend e0 0 0 edge0 = true ∧
    (runGraph (runSt rfull xcons) rfull).edges[0]? = some edge0 ∧ (xcons.s 1).toNat = 128 + 1 * 64 :=
  ⟨fun r i => executes_run r _ i rfl rfl (by decide), by decide +kernel⟩

theorem test_trecv_gives_the_slot :
    ((eng? (after (.trecv e0 ⟨3, 0, 0, 0, 0, 4⟩) (runSt rfull xcons)) e0).map (fun x => (x.s 3, x.held))) = some (192, [(0, 1)]) := by decide +kernel

/-- The producer with both edges' requests granted, and the last 64 bytes of cluster memory to send. -/
def xprod (b : Word64) : Engine := { x0 with sr := [(1, 196544), (2, b)] }
def req0 : SendReq := ⟨0, [0], [(0, 1)]⟩
def rgrant : Run := { run0 with streams := [(0, { Stream.empty with waiting := [req0] }), (1, { Stream.empty with waiting := [req0] })] }

theorem test_meets_StreamReceiveAndSend_send :
    (∀ b i, executes i (runSt rgrant (xprod b)) e0 (xprod b)) ∧ (runGraph (runSt rgrant (xprod 64)) rgrant).edges[1]? = some edge1 ∧
    taskSt rgrant 0 = .running ∧ (∀ y ∈ (runSt rgrant (xprod 64)).eng, y.1 ≠ engKey e0 → y.2.stall = none) ∧
    (xprod 64).outPort (runSt rgrant (xprod 64)) 2 = some (edge0, 0) ∧ lenOk 64 64 = true ∧ clBad (runSt rgrant (xprod 64)) e0 196544 64 = false ∧
    (destsOf (runGraph (runSt rgrant (xprod 64)) rgrant) edge0 0 0 0).isSome = true ∧ myReq (runSt rgrant (xprod 64)) 0 0 0 = some req0 ∧
    allGranted req0 = true ∧ (xprod 3).routeEdge (runSt rgrant (xprod 3)) 3 = some (edge1, 1) ∧ myReq (runSt rgrant (xprod 3)) 0 1 0 = some req0 ∧
    ((xprod 131).s 2).toNat - 128 = 3 ∧ undrained (xprod 0) e0 (runSt rgrant (xprod 0)) = false ∧
    allOuts (xprod 0) (runSt rgrant (xprod 0)) = [2, 259] ∧ closeIdx (xprod 0) (runSt rgrant (xprod 0)) 259 = some 1 ∧
    (List.range 64).all (fun c => (coreOf (runSt rgrant (xprod 0)) e0 c).queue.isEmpty) = true :=
  ⟨fun _ i => executes_run _ _ i rfl rfl (Nat.le_of_ble_eq_true rfl), by decide +kernel⟩

/-- A run whose task 0 can start; one whose task 0 has finished; a tile that arrives; a request that waits for a credit. -/
def rwait : Run := { run0 with tasks := [] }
def noEng (r : Run) : State := { runSt r x0 with eng := [] }
def rdone : Run := { run0 with streams := [(0, { Stream.empty with closedBy := [0] }), (1, { Stream.empty with closedBy := [0] })] }
def rfly : Run := { run0 with streams := [(0, { Stream.empty with slots := [(1, .coming tile0)], flying := [(0, 1)] })] }
def rask : Run := { run0 with streams := [(0, { Stream.empty with waiting := [⟨0, [0], []⟩] })] }

theorem test_meets_TasksAndTiles :
    startable (noEng rwait) 0 rwait 0 = true ∧ (ctxRead 1 0x1000 64 (noEng rwait)).1.bad = [] ∧
    (ctxRead 1 0 64 (ctxRead 1 0x1000 64 (noEng rwait)).2).1.bad = [] ∧
    taskFinished (runSt rdone { x0 with ended := true }) 0 rdone 0 = true ∧
    arriving rfly 0 = some (0, 0, 1, tile0) ∧ copyOf (runSt rfly xcons) 0 1 0 = some (0, xcons) ∧ engOfKey 0 = e0 ∧
    eng? (runSt rfly xcons) (twinEng e0) = none ∧ (128 + 1 * 64) % 64 = 0 ∧ clBad (runSt rfly xcons) e0 192 64 = false ∧
    freeSlots (noEng rask) 0 rask edge0 0 0 ≠ [] ∧ (streamOf rask 0).waiting.any (needs 0) = true ∧
    (streamOf rask 0).waiting.all (fun q => (copyOf (noEng rask) 0 0 q.p).isNone) = true := by decide +kernel

/-- A sampled instance and its shadow, both ended: with one digest, with two; and a shadow that has not ended. -/
def octSt (y : Engine) : State := setEng (twinEng e0) y (withEng { x0 with sampled := true, ended := true })

theorem test_meets_OctaveChecks :
    sampledOf (octSt { x0 with ended := true }) e0 = some { x0 with sampled := true, ended := true } ∧
    (octSt x0).gr.runs = [] ∧ (octSt x0).sp.waiting = [] ∧ eng? (octSt { x0 with ended := true, digest := 1 }) (twinEng e0) = some { x0 with ended := true, digest := 1 } ∧
    rget (octSt x0) .cdieVecOctaveFailCount_count 0 < 2 ^ 32 - 1 ∧ rget (octSt x0) .cdieVecOctaveSkipCount_count 0 < 2 ^ 32 - 1 ∧
    notServed up 0 = false ∧ ¬ (7 : BitVec 32).toNat % 16 ∈ [0, 3, 4, 5, 6] ∧ (6 : BitVec 32).toNat % 16 ∈ [0, 3, 4, 5, 6] ∧
    rget up .cdieVecOctaveCtl_rateLog2 7 ≠ 0 := by decide +kernel

/-! ### Queues, contexts, memory -/

def queue1 : Queue := ⟨1, 0x10000, 0x20000, false, false, 6, 6, 3, 0, 0, 0, 0, 0, .active, 0, false, false, []⟩

/-- The served module with its link up and DMA open, partition 0 with C-die 0, context 1 with queue 1. -/
def base : State :=
  let s := setQueue 1 queue1 (setCtx 1 ctx1 (rset .hostifLink_up 0 1 up))
  { s with ctl := { s.ctl with partitions := [(0, 1)] }, host := { s.host with noDma := [(0, 0)] } }

/-- A packet of context 0, of context 1, and of context 1 with the step flag. -/
def h0 : CmdRef := ⟨0, 0, 0, 0⟩
def h1 : CmdRef := ⟨1, 0, 1, 0⟩
def h4 : CmdRef := ⟨1, 0, 1, 4⟩

def rec1 : Rec := ⟨1, 0, 1, 0, 0, [], .accepted, .none, 0, 0, none, none⟩
def withRec (r : Rec) (s : State) : State := setJournal (s.ctl.journal ++ [r]) s

/-- A NOP packet as fetched, one that failed a check, one whose twin acknowledged. -/
def fet (st : Nat) (ack : Bool) : Fetched := ⟨List.replicate 64 0, 1, some (.nop h1), st, ack⟩
def fetSt (f : Fetched) : State := setQueue 1 { queue1 with fetched := [f] } base

theorem test_meets_DoorbellsAndAcceptance_doorbells :
    base.host.flr.contains 0 = false ∧ ownsQueue base 0 5 = false ∧ rget base .hostifFnDbViol_count 0 < 2 ^ 32 - 1 ∧ fnUp base 0 = true ∧
    ownsQueue base 0 1 = true ∧ accepting base = true ∧ ownsQueue (rset .mcStatus_ready 0 0 base) 0 1 = true ∧
    rget (rset .mcStatus_ready 0 0 base) .mcStatus_ready 0 = 0 := by decide +kernel

theorem test_meets_DoorbellsAndAcceptance_acceptance :
    (queue? (fetSt (fet 0 true)) 1).map (·.fetched) = some [fet 0 true] ∧ canFetch (fetSt (fet 0 true)) { queue1 with fetched := [fet 0 true] } = true ∧
    cqRoom queue1 = true ∧ journalUsed base 1 + 64 + (fet 0 true).bytes.length ≤ journalShare base 1 ∧ (ctx? base 1).elim false (·.twinLost) = false ∧
    fetchedOp (fet 0 true) ≠ 0x05 ∧ fetchedOp (fet 0 true) ≠ 0x42 ∧ rget base .stepCtxState_mirrored 1 = 0 ∧ (fet 0x15 false).status ≠ 0 ∧
    rget (rset .stepCtxState_mirrored 1 1 (fetSt (fet 0 false))) .stepCtxState_mirrored 1 = 1 ∧ queue1.nextSeq < 2 ^ 32 := by decide +kernel

theorem test_accept_appends_a_record : (after (.packetAccept 1) (fetSt (fet 0 false))).ctl.journal.map (fun r => (r.q, r.seq, r.state)) = [(1, 0, .accepted)] := by
  decide +kernel

def replyRec : Rec := { rec1 with state := .replyPending, reply := some ⟨0, 0, 0, 5, 0⟩ }

theorem test_meets_CommandsIssueAndReply :
    (withRec rec1 base).ctl.journal.find? (fun r => r.q == 1 && r.state == .accepted) = some rec1 ∧ mayIssue (withRec rec1 base) rec1 = true ∧
    rget (withRec rec1 base) .mcStatus_ready 0 = 1 ∧ stepFlag rec1 = false ∧ mayIssue (withRec { rec1 with flags := 4 } base) { rec1 with flags := 4 } = true ∧
    stepFlag { rec1 with flags := 4 } = true ∧ stepSt base 1 = 0 ∧ stepSt (rset .stepCtxState_state 1 1 base) 1 ≠ 0 ∧
    canReply (withRec replyRec base) queue1 = true ∧ queue1.cqMod = false ∧
    (withRec replyRec base).ctl.journal.find? (fun r => r.q == 1 && r.state != .completed && r.again.isNone) = some replyRec := by decide +kernel

/-- The reply of sequence number 0 is the first slot of the ring; its detail is at byte 16. -/
theorem test_reply_in_its_slot : sget 0 (after (.replyWrite 1) (withRec replyRec base)).io.hostMem (0x20000 + 16) = 5 := by decide +kernel

theorem test_meets_AdminQueueAndControllers :
    notServed up 0 = false ∧ queue? up 0 = none ∧ rget State.reset .mcStatus_ready 0 = 0 ∧ (0x8601 : BitVec 32).getLsbD 0 = true ∧
    (0x8600 : BitVec 32).getLsbD 0 = false ∧ 6 ≤ (0xF601 : BitVec 32).toNat / 256 % 16 ∧ (0xF601 : BitVec 32).toNat / 4096 % 16 ≤ 15 ∧
    up.ctl.f0Fenced = false ∧ rget up .mcStatus_controller 0 = 0 ∧ rget (rset .mcStatus_controller 0 1 up) .mcStatus_controller 0 = 1 ∧
    accepting up = true ∧ rget up .mcStatus_takeoverCount 0 < 2 ^ (fldInfo .mcStatus_takeoverCount).width - 1 ∧
    ctx? (setCtx 1 { ctx1 with held := true } base) 1 = some { ctx1 with held := true } ∧ (stepOf base 1).mbFault = [] := by decide +kernel

theorem test_meets_PrivilegedCommandsAreRefused :
    h1.ctx ≠ 0 ∧ [0x01, 0x02, 0x03, 0x13, 0x14, 0x60, 0x61, 0x62, 0x70, 0x72, 0x73, 0x74, 0x80, 0x81, 0x82, 0x83, 0x84, 0xF0, 0xF1, 0xFE].all
      (fun op => mayRun op h1 base) = true := by decide +kernel

/-- A packet's command that was fetched and issued may run as well. -/
theorem test_issued_record_may_run : mayRun 0 h1 (withRec { rec1 with state := .issued } base) = true ∧
    mayRun 1 h1 (withRec { rec1 with state := .issued } base) = false := by decide +kernel

theorem test_ctx_create_is_privileged : replied h1 0x0014 0 (after (.ctxCreate h1 2 0 0 4 1) base) = true ∧
    replied h0 0x0000 0 (after (.ctxCreate h0 2 0 0 4 1) base) = true := by decide +kernel

theorem test_meets_ContextCommands :
    h0.ctx = 0 ∧ [0x01, 0x02, 0x03].all (fun op => mayRun op h0 base) = true ∧ (rget base .vigilQuarantine_ctx (2 / 64)).testBit (2 % 64) = false ∧
    (rget (rset .vigilQuarantine_ctx 0 4 base) .vigilQuarantine_ctx (2 / 64)).testBit (2 % 64) = true ∧ (ctx? base 2).isNone = true ∧
    fnBindable base 1 = false ∧ fnBindable base 0 = true ∧ sget 0 base.ctl.partitions 0 ≠ 0 ∧ sharesUsed base + 959 ≤ 960 ∧
    ctx? base 1 = some ctx1 ∧ ctx1.teardown = none ∧ ctxDies base 1 ≠ [] := by decide +kernel

theorem test_meets_QueueAndEventCommands_queues :
    [0x04, 0x05, 0x06].all (fun op => mayRun op h1 base && mayRun op h0 base) = true ∧ (ctx? base 1).map (·.teardown) = some none ∧
    queuesBut base 1 2 < ctx1.quota ∧ queue? base 2 = none ∧ ringIn base 1 false 0 (64 * 2 ^ 6) = true ∧ ringIn base 1 true 0x10000 (32 * 2 ^ 6) = true ∧
    mayDestroy base h0 1 = true ∧ h0.q ≠ 1 ∧ base.ctl.journal = [] ∧ ((withRec rec1 base).ctl.journal.any (fun r => r.q == 1 && r.state != .completed)) = true ∧
    (∀ i, i < 128 → inWindow base 1 true (0xFFF80 + i) = true ∧ locate base (0xFFF80 + i) = .mem (0xFFF80 + i) ∧
      sget 0 base.mem.bad ((0xFFF80 + i) / 64) = 0) := by decide +kernel

theorem test_meets_QueueAndEventCommands_events :
    [0x00, 0x23, 0x24, 0x25].all (fun op => mayRun op h1 base) = true ∧ 1024 ≤ (1024 : BitVec 16).toNat ∧ (1023 : BitVec 16).toNat < 1024 ∧
    ctx? base 1 = some ctx1 ∧ (0 : Word64).toNat ≤ sget 0 ctx1.counters 1023 ∧ sget 0 ctx1.counters 1023 < (1 : Word64).toNat ∧
    (2047 : BitVec 16).toNat < 2048 ∧ 2048 ≤ (2048 : BitVec 16).toNat := by decide +kernel

theorem test_event_wait_waits : waitsOn h1 (.event 7 1) (after (.eventWait h1 7 1) base) = true := by decide +kernel

/-- The last 4 bytes of the window, and addresses behind it. -/
theorem test_meets_MemoryCommands :
    [0x10, 0x11, 0x12].all (fun op => mayRun op h1 base) = true ∧ plainAt base 1 false 0 4 0 ∧ plainAt base 1 true 0xFFFFC 4 0xFFFFC ∧
    (∀ i, i < 4 → inWindow base 1 true (0x100000 + i) = false) := by decide +kernel

theorem test_mem_fill : (hostRead base 0 0, sgetN 0 (after (.memFill h1 0x100 4 0x0807060504030201) base).mem.bytes 0x100 5) = ([], [1, 2, 3, 4, 0]) := by
  decide +kernel

/-- A window table of one entry at 0x1000: base 0, 4 KiB, read and write; and the same with an entry of no bytes. -/
def image (l : List (Nat × Nat × Nat)) (s : State) : State :=
  { s with mem := { s.mem with bytes := l.foldl (fun m x => ssetN 0 m x.1 (leBytes x.2.1 x.2.2)) s.mem.bytes } }
def winSt (n : Nat) : State := image [(0x1008, 8, n), (0x1010, 1, 3)] base
def remote1 : Remote := ⟨1, 0, 2, 0, false, [], 64, false, .other⟩

theorem test_meets_MappingCommands_windowSet :
    mayRun 0x13 h0 (winSt 4096) = true ∧ ctx? (winSt 4096) 1 = some ctx1 ∧ ctx1.newWin = none ∧ (winSt 4096).eng = [] ∧
    plainAt (winSt 4096) 0 false 0x1000 32 0x1000 ∧ winBad (winSt 4096) 1 (entries 32 1 (sgetN 0 (winSt 4096).mem.bytes 0x1000 32)) = none ∧
    winBad (winSt 0) 1 (entries 32 1 (sgetN 0 (winSt 0).mem.bytes 0x1000 32)) = some 0 ∧ (winSt 4096).vig.remote = [] ∧
    ({ winSt 4096 with vig := { (winSt 4096).vig with remote := [(0, remote1)] } } : State).vig.remote.any (fun p => p.2.ctx == 1) = true := by decide +kernel

def cxlSt : State := rset .fdieCxlCapacity_bytes 3 (2 ^ 30) (rset .fdieCxlPort_present 3 1 base)

theorem test_meets_MappingCommands_cxlMap :
    mayRun 0x14 h0 cxlSt = true ∧ cxlRangeOk cxlSt 3 (2 ^ 42 - 2 ^ 30) (2 ^ 30) = true ∧ rget cxlSt .fdieCxlPort_present 3 = 1 ∧
    2 ^ 30 ≤ rget cxlSt .fdieCxlCapacity_bytes 3 ∧ cxlRangeOk cxlSt 3 0 (2 ^ 31) = true ∧ rget cxlSt .fdieCxlCapacity_bytes 3 < 2 ^ 31 ∧
    cxlRangeOk cxlSt 4 0 0 = false := by decide +kernel

/-! ### Graphs -/

/-- A digest's register with every step computed at once, so that the kernel evaluates long lists. -/
def crcNow {w : Nat} (poly r : BitVec w) : List Byte → BitVec w
  | [] => r
  | b :: l => match (crcByte poly r b).toNat with
    | 0 => crcNow poly 0 l
    | n + 1 => crcNow poly (BitVec.ofNat w (n + 1)) l

theorem crcNow_eq {w : Nat} (poly r : BitVec w) (l : List Byte) : l.foldl (crcByte poly) r = crcNow poly r l := by
  induction l generalizing r with
  | nil => rfl
  | cons b l ih =>
    rw [List.foldl_cons, ih, crcNow]
    split
    · rename_i h; congr 1; exact BitVec.eq_of_toNat_eq (by simpa using h)
    · rename_i n h; congr 1; rw [show n + 1 = n.succ from rfl, ← h, BitVec.ofNat_toNat, BitVec.setWidth_eq]

def digestNow (b : List Byte) : Nat := (crcNow 0xC96C5795D7870F42#64 (BitVec.allOnes 64) b ^^^ BitVec.allOnes 64).toNat

theorem runDigest_now (b : List Byte) : runDigest b = digestNow b := by unfold runDigest digestNow; rw [crcNow_eq]

def flitCrcNow (b : List Byte) : Nat := (crcNow 0x82F63B78#32 (BitVec.allOnes 32) b ^^^ BitVec.allOnes 32).toNat

theorem crc32c_now (b : List Byte) : crc32c b = flitCrcNow b := by unfold crc32c flitCrcNow; rw [crcNow_eq]

theorem test_digest_check_value : runDigest (ascii "123456789") = 0x995DC9BBDF1939FA := by decide +kernel

/-- A graph object of one region, one COMPUTE task and one kernel, with its digest (Tables 2.2 to 2.6), at address 0x2000. -/
def objBody : List Byte :=
  sgetN 0 (image [(0, 4, 0x48504746), (4, 2, 1), (8, 2, 5), (10, 1, 2), (0x0C, 4, 1), (0x14, 4, 1), (0x18, 4, 1), (0x20, 8, 128), (0x28, 8, 192), (0x30, 8, 256),
    (0x38, 8, 256), (0x40, 8, 272), (0x48, 8, digestNow (((geoFields base [0]).filter (·.2.1)).flatMap (fun f => leBytes f.1 f.2.2))),
    (129, 1, 1), (132, 1, 1), (133, 1, 1), (256, 8, 0x1000), (264, 4, 64)] base).mem.bytes 0 272
def objSt : State := { base with mem := { base.mem with bytes := ssetN 0 [] 0x2000 (objBody.take 0x78 ++ leBytes 8 (digestNow objBody) ++ objBody.drop 0x80) } }

theorem test_meets_GraphCommands_object : loadCheck (useFree objSt) 1 272 (sgetN 0 objSt.mem.bytes 0x2000 272) = none := by
  unfold loadCheck headerOk geoDigest
  simp only [runDigest_now]
  decide +kernel

theorem test_meets_GraphCommands_load :
    mayRun 0x20 h1 objSt = true ∧ ctxDies base 1 = [0] ∧ (List.range 272).all (fun i => inWindow objSt 1 false (0x2000 + i) &&
      decide (locate objSt (0x2000 + i) = .mem (0x2000 + i)) && sget 0 objSt.mem.bad ((0x2000 + i) / 64) == 0) = true ∧
    fld (sgetN 0 objSt.mem.bytes 0x2100 16) 0 4 ≠ 0x48504746 := by decide +kernel

theorem test_meets_GraphCommands_rejected : loadCheck (useFree base) 1 127 (sgetN 0 base.mem.bytes 0 127) = some (0x01, 0xFFFFFF) := by decide +kernel

def graphSt (runs : SMap Run) : State := { base with gr := ⟨[(65541, graph5)], runs, 1, 0⟩ }

theorem test_meets_GraphCommands_runAndUnload :
    [0x21, 0x22].all (fun op => mayRun op h1 (graphSt [])) = true ∧ graph? (graphSt []) 1 5 = some graph5 ∧ (graphSt []).gr.runs = [] ∧
    (svals (graphSt [(0, run0)]).gr.runs).any (fun r => r.ctx == 1 && r.graph == 5) = true ∧ graph5.tasks ≠ [] ∧
    graph5.tasks.zipIdx.all (fun x => x.1.inCount == (graph5.edges.filter (fun e => e.dst == x.2)).length && (x.1.kind != 2)) = true ∧
    h1.flags.getLsbD 2 = false ∧ graph? base 1 5 = none := by decide +kernel

/-! ### Steps, update passes, commits, mirrors, exchange -/

/-- Roster index 3 is this module, 7 another of cohort 0; slice 9 lists both. -/
def fabSt (s : State) : State :=
  let s := rset .cohortRoster_entry 3 0x10000008 (rset .cohortRoster_entry 7 0x10000000 (rset .cohortSelf_roster 0 3 (rset .cohortSelf_role 0 1 s)))
  { s with fab := { s.fab with slices := [(9, ⟨2, 0, 1, [3, 7], true⟩)] } }
/-- A step plan at 0x8000: banks, areas and mirror areas of 4 KiB each in region 0 (Table 10.1); and the same with another magic number. -/
def planImg (magic : Nat) (s : State) : State :=
  image [(0x8000, 4, magic), (0x8004, 2, 1), (0x8008, 8, 4096), (0x8010, 8, 4096), (0x8018, 8, 0x17000), (0x8020, 8, 4096), (0x8080, 8, 0x10000),
    (0x80C0, 8, 0x11000), (0x8100, 8, 0x12000), (0x8140, 8, 0x13000), (0x8180, 8, 0x14000), (0x81C0, 8, 0x15000), (0x8200, 8, 0x16000)]
    (rset .stepCtxPlan_addr 1 0x200 s)

def planSt : State := planImg 0x4E414C50 (fabSt base)
def planOf (s : State) : Option Plan := some (mkPlan (peek s 1 0x8000 640).bytes)

/-- A step in a state, numbered 5, with attempt 0. -/
def stepIn (st : Nat) (x : StepCtx) (s : State) : State :=
  modStep 1 (fun _ => x) (rset .stepCtxState_state 1 st (rset .stepCtxStep_step 1 5 (rset .stepCtxCommitted_step 1 4 s)))

theorem test_meets_StepsAndMicrobatches_open :
    mayRun 0x30 h1 planSt = true ∧ stepOpenSt planSt 1 = false ∧ (0 : Word64).toNat ≤ rget planSt .stepCtxCommitted_step 1 ∧
    rget planSt .stepCtxCommitted_step 1 < (1 : Word64).toNat ∧ stepNo planSt 1 < (1 : Word64).toNat ∧ (readPlan planSt 1).toOption.isSome = true ∧
    (match readPlan (planImg 0 base) 1 with | .error d => d == 0x10 | .ok _ => false) = true := by decide +kernel

theorem test_meets_StepsAndMicrobatches_retain :
    let x := { StepCtx.empty with mbs := 2, mbDone := [0] }
    [0x31, 0x32].all (fun op => mayRun op h4 (stepIn 1 x base)) = true ∧ plainAt (stepIn 1 x base) 1 false 0 4 0 ∧ stepOpenSt base 1 = false ∧
    stepOpenSt (stepIn 1 x base) 1 = true ∧ (stepOf (stepIn 1 x base) 1).mbs = 2 ∧ mirrored (stepIn 1 x base) 1 = false ∧
    mirrored (rset .stepCtxState_mirrored 1 1 (stepIn 1 x base)) 1 = true ∧ 1 - 1 ∈ x.mbDone ∧ 1 ∉ x.mbFault ∧ mbBusy (stepIn 4 x base) 1 1 = false ∧
    mbBusy { stepIn 1 x base with gr := ⟨[], [(0, { run0 with stepFlag := true, mb := 1 })], 1, 0⟩ } 1 1 = true := by decide +kernel

/-- An update descriptor at 0x9000 with one tensor of 64 FP32 weights and one hyperparameter set (Tables 8.1 to 8.3). -/
def descImg (n : Nat) (s : State) : State :=
  image [(0x9000, 4, 0x50554446), (0x9004, 2, 1), (0x9008, 4, 1), (0x900C, 2, 1), (0x900E, 2, 1), (0x9010, 8, 0x9100), (0x9018, 8, 0x9200),
    (0x9040, 8, 0x10000), (0x9080, 8, 0x11000), (0x9100, 8, n), (0x910E, 1, 2), (0x9120, 8, 0x14000)] s
def updSt (n : Nat) : State :=
  let s := descImg n (planImg 0x4E414C50 base)
  stepIn 1 { StepCtx.empty with mbs := 1, plan := planOf s } s

theorem test_meets_UpdatePasses_update :
    let d := readDesc (updSt 64) 1 0x9000
    mayRun 0x33 h4 (updSt 64) = true ∧ h4.flags.getLsbD 2 = true ∧ stepOpenSt (updSt 64) 1 = true ∧ stepSt (updSt 64) 1 ≠ 3 ∧ d.bad = [] ∧ d.detail = 0 ∧
    (stepOf (updSt 64) 1).plan.map (fun p => (p.bank0, p.bank1)) = some (d.desc.bank0, d.desc.bank1) ∧
    (readDesc (updSt 0) 1 0x9000).bad = [] ∧ (readDesc (updSt 0) 1 0x9000).detail = 3 := by decide +kernel

def passOf (ended : Bool) : Pass := ⟨(readDesc (updSt 64) 1 0x9000).desc, ⟨false, 0, 0⟩, 5, 1, 7, 0, 0, ended⟩
def passSt (x : StepCtx) : State := rset .stepCtxState_mirrored 1 1 (stepIn 2 { x with plan := planOf planSt, twin := some 7 } (descImg 64 planSt))

theorem test_meets_UpdatePasses_end :
    let s := stepIn 2 { StepCtx.empty with own := some (passOf false), mir := some (passOf false), plan := planOf planSt } (descImg 64 planSt)
    (stepOf s 1).repairs = [] ∧ (passOf false).ended = false ∧ (stepOf s 1).own = some (passOf false) ∧ (stepOf s 1).mir = some (passOf false) ∧
    mirrored s 1 = false := by decide +kernel

/-- One FP32 weight of 64 is enough for a pass: none of its lines is bad. -/
theorem test_meets_UpdatePasses_lines :
    (passRun (descImg 64 planSt) (ownEnv (descImg 64 planSt) 1 (passOf false)) { (passOf false).desc with tensors := [] } ⟨false, 0, 0⟩ 5).badStd = [] ∧
    (passRun (descImg 64 planSt) (ownEnv (descImg 64 planSt) 1 (passOf false)) { (passOf false).desc with tensors := [] } ⟨false, 0, 0⟩ 5).badOther = [] := by
  decide +kernel

theorem test_meets_UpdatePasses_mirror :
    let s := passSt { StepCtx.empty with own := some (passOf true) }
    (stepOf s 1).own = some (passOf true) ∧ (passOf true).ended = true ∧ mirrored s 1 = true ∧ (7 : Word64).toNat = (passOf true).digest ∧
    (8 : Word64).toNat ≠ (passOf true).digest ∧ stepSt s 1 = 2 ∧ waiting (withRec { rec1 with state := .issued, wait := .update } s) 1 .update
      { rec1 with state := .issued, wait := .update } := by
  decide +kernel

theorem test_meets_UpdatePasses_numwCtl : notServed base 0 = false ∧ (rget base .numwCtl_enable 1 ≠ (0x50001 : BitVec 32).toNat % 2 ∨
    rget base .numwCtl_enable 1 ≠ (0x50000 : BitVec 32).toNat % 2) ∧ (0x50000 : BitVec 32).toNat / 65536 ≠ 0 ∧ (1 : BitVec 32).toNat / 65536 = 0 := by decide +kernel

theorem test_meets_SealWaitAbort :
    let s := stepIn 1 { StepCtx.empty with own := some (passOf true) } base
    [0x34, 0x35, 0x36].all (fun op => mayRun op h4 s) = true ∧ stepOpenSt s 1 = true ∧ (5 : Word64).toNat = stepNo s 1 ∧ stepSt s 1 ≠ 3 ∧
    (stepOf s 1).own = some (passOf true) ∧ s.ctl.journal = [] ∧ shardPending s 1 = false ∧ (4 : Word64).toNat ≤ rget s .stepCtxCommitted_step 1 ∧
    rget s .stepCtxCommitted_step 1 < (5 : Word64).toNat ∧ stepNo s 1 ≤ (5 : Word64).toNat ∧ (6 : Word64).toNat ≠ stepNo s 1 := by decide +kernel

theorem test_meets_SealWaitAbort_abandoned : rget (rset .stepCtxStep_step 1 9 base) .stepCtxCommitted_step 1 < (5 : Word64).toNat ∧
    (5 : Word64).toNat < stepNo (rset .stepCtxStep_step 1 9 base) 1 := by decide +kernel

def primSt (s : State) : State := rset .cohortSelf_primary 0 1 (rset .cohortSelf_steward 0 1 (fabSt s))
def sealOf (i : Nat) : SealMsg := ⟨i, 1, 5, 0, 0, 0⟩

theorem test_meets_CommitRound_seal :
    isPrimary (primSt base) = true ∧ 3 ∈ sliceSteppers (primSt base) 9 3 ∧
    allSealed (keepSeal 9 (sealOf 3) (primSt base)) 9 (sealOf 3) (sliceSteppers (primSt base) 9 3) = false ∧
    allSealed (keepSeal 9 (sealOf 3) { primSt base with fab := { (primSt base).fab with seals := [(9, sealOf 7)] } }) 9 (sealOf 3)
      (sliceSteppers (primSt base) 9 3) = true := by decide +kernel

def commitOf (att : Nat) : CommitMsg := ⟨5, att, 12, 0, false, none⟩

theorem test_meets_CommitRound_commit :
    let s := stepIn 3 { StepCtx.empty with sealed := some (5, 0, 0, 0) } (fabSt base)
    (commitOf 0).seq ≠ 0 ∧ (commitOf 0).seq < 2 ^ 64 ∧ isSteward s = false ∧ s.fab.out = false ∧ stepNo s 1 < 2 ^ 64 ∧ (ctx? s 1).isSome = true ∧
    rget s .stepCtxCommitted_step 1 < (commitOf 0).step ∧ commitMatches s 1 (commitOf 0) = true ∧ commitMatches s 1 (commitOf 1) = false := by decide +kernel

theorem test_meets_CommitRound_records :
    let s := { primSt base with fab := { (primSt base).fab with commits := [(1, 5, 0, 12)] } }
    s.fab.commits.find? (fun x => x.1 == 1 && x.2.1 == 5 && x.2.2.1 == 0) = some (1, 5, 0, 12) ∧ isSteward s = true ∧
    cohortOf s 7 = rget s .cohortSelf_cohort 0 ∧ cohortOf (rset .cohortRoster_entry 7 0x10100000 s) 7 ≠ rget s .cohortSelf_cohort 0 := by decide +kernel

theorem test_meets_Mirroring_bind :
    let s := planSt
    mayRun 0x41 h1 s = true ∧ stepOpenSt s 1 = false ∧ (ctx? s 1).elim 0 (·.journalMib) ≤ (1 : BitVec 16).toNat ∧
    (stepOf s 1).peerBind = none ∧ inRoster s 7 = true ∧ 7 ≠ ownRoster s ∧ inSlice s 7 = true ∧
    inSlice (rset .cohortRoster_entry 8 0x10000000 s) 8 = false ∧ inRoster (rset .cohortRoster_entry 8 0x10000000 s) 8 = true ∧
    inRoster s 9 = false ∧ mayRun 0x42 h1 (stepIn 1 StepCtx.empty s) = true ∧ stepOpenSt (stepIn 1 StepCtx.empty s) 1 = true ∧ mayRun 0x43 h1 s = true := by
  decide +kernel

def mirSt (x : StepCtx) : State := modStep 1 (fun _ => { x with twin := some 7, plan := planOf planSt }) planSt
def mirMsg (k : MKind) : MirrorMsg := ⟨k, 7, 0, 4, 1, 5, 0, [1, 2, 3, 4], 0⟩

theorem test_meets_Mirroring_transfer :
    (stepOf (mirSt StepCtx.empty) 1).twin = some 7 ∧ (stepOf (mirSt { StepCtx.empty with inOff := 4092 }) 1).plan.isSome = true ∧
    (planOf planSt).elim false (fun p => decide (4092 + 4 ≤ p.mirrorInBytes) && p.mirrorIn == 0x17000) = true ∧ plainAt planSt 1 true (0x17000 + 4092) 4 (0x17000 + 4092) ∧
    (stepOf (mirSt { StepCtx.empty with bind := some (7, 1), bankSent := true }) 1).bind = some (7, 1) ∧
    (stepOf (mirSt { StepCtx.empty with repairs := [0x10040] }) 1).repairs = [0x10040] ∧ plainAt planSt 1 true (0x10040 / 64 * 64) 64 0x10040 ∧
    waiting (withRec { rec1 with state := .issued, wait := .bind } base) 1 .bind { rec1 with state := .issued, wait := .bind } ∧
    (stepOf base 1).bind = none := by decide +kernel

/-- A bucket table at 0xA000 with one bucket of 128 FP32 elements and a group of members 3 and 7 (Table 9.2, R204). -/
def xchSt : State :=
  stepIn 1 { StepCtx.empty with mbs := 1 } (image [(0xA000, 2, 1), (0xA002, 1, 1), (0xA003, 1, 1), (0xA008, 8, 128), (0xA010, 8, 0xA100), (0xA018, 8, 0xB000),
    (0xA020, 8, 0xC000), (0xA100, 2, 2), (0xA110, 2, 3), (0xA112, 2, 7)] (fabSt base))

theorem test_meets_ExchangeRounds_exchange :
    mayRun 0x40 h4 xchSt = true ∧ 2 < (3 : BitVec 8).toNat ∧ h4.flags.getLsbD 2 = true ∧ stepOpenSt base 1 = false ∧ stepOpenSt xchSt 1 = true ∧
    (stepOf xchSt 1).xch.isNone = true ∧ (stepOf xchSt 1).agreed = [] ∧ tableBad xchSt 1 0xA000 1 = ([], []) := by decide +kernel

theorem test_meets_ExchangeRounds_table :
    (match readBuckets xchSt 1 0 0xA000 1 0 [] with | .ok [b] => b.group == [3, 7] && b.elems == 128 | _ => false) = true ∧
    (match readBuckets (image [(0xA008, 8, 100)] xchSt) 1 0 0xA000 1 0 [] with | .error d => d == 1 | _ => false) = true := by decide +kernel

/-- A bucket of two FP32 elements, one of each member; the other member's part has still to come. -/
def bucket2 : Bucket := { mkBucket (List.replicate 64 0) 0xA000 [3, 7] [] with inFmt := 1, outFmt := 1, elems := 2, src := 0xB000, dst := 0xC000 }
def xch2 (b : Bucket) : Xch := ⟨1, 0, 0, [b], 0, 0, 0, false⟩
def roundSt (b : Bucket) (l : List Bucket) : State := stepIn 1 { StepCtx.empty with xch := some { xch2 b with buckets := b :: l } } (fabSt base)

theorem test_meets_ExchangeRounds :
    bucket? (roundSt bucket2 []) 1 0 = some bucket2 ∧ bucket2.agreed = false ∧ bucket2.opened = false ∧ bucket2.badLines (roundSt bucket2 []) 1 0 = [] ∧
    (xch2 bucket2).faulted = false ∧ bucket? (roundSt { bucket2 with closing := true } []) 1 0 = some { bucket2 with closing := true } ∧
    (2 : Nat) = bucket2.group.length ∧ plainAt base 1 true (0xA000 + 0x38) 8 0xA038 ∧
    (roundSt { bucket2 with closing := true } [{ bucket2 with id := 1, agreed := true }]).st.length = 1 ∧
    [{ bucket2 with id := 1 }].any (fun y => y.id != 0 && !y.agreed) = true ∧ stepOpenSt (roundSt bucket2 []) 1 = true ∧
    rget (roundSt bucket2 []) .stepCtxAttempt_attempt 1 + 1 < 2 ^ 32 := by decide +kernel

def chunkOf (att : Nat) (dig : Word64) : ChunkMsg := ⟨1, 0, 9, 5, att, 0, 0, 0, 1, 0, 7, [0, 0, 0x80, 0x3F], dig⟩
def chunkDig : Word64 := BitVec.ofNat 64 (runDigest [0, 0, 0x80, 0x3F])
def openB : Bucket := { bucket2 with opened := true }
def staleSt : State := { roundSt openB [] with vig := { (roundSt openB []).vig with recvGen := [(genKey 7 1, 3)] } }

theorem test_meets_ExchangeChunks :
    (stepOf (roundSt openB []) 1).xch = some (xch2 openB) ∧ bucket? (roundSt openB []) 1 0 = some openB ∧ genStale staleSt 7 1 0 = true ∧
    rget staleSt .vigilStaleDropCount_count 0 < 2 ^ 32 - 1 ∧ genStale (roundSt openB []) 7 1 0 = false ∧
    BitVec.ofNat 64 (runDigest (chunkOf 0 0).payload) ≠ (chunkOf 0 0).digest ∧ openB.failed = [] ∧ openB.got = [] ∧
    BitVec.ofNat 64 (runDigest (chunkOf 0 chunkDig).payload) = (chunkOf 0 chunkDig).digest ∧
    rget (rset .stepCtxAttempt_attempt 1 1 (roundSt openB [])) .stepCtxAttempt_attempt 1 = 1 ∧ rosterEpoch (roundSt openB []) ≤ (chunkOf 0 0).epoch ∧
    stepNo (roundSt openB []) 1 = (chunkOf 0 0).step ∧ bucket? (roundSt bucket2 []) 1 0 = some bucket2 := by decide +kernel

/-- With the other member's chunk in place the own part can be summed: 1.0 and 0.0. -/
theorem test_meets_ExchangeChunks_sum :
    let b : Bucket := { openB with got := [(0, 1, 0, [0, 0, 0x80, 0x3F])] }
    b.leaves (roundSt openB []) 1 = some [[0], [0x3F800000]] ∧ openB.closing = false ∧ openB.summed = false ∧ plainAt (roundSt openB []) 1 true 0xC000 4 0xC000 ∧
    (wordsTo 1 (openB.sumPart 5 0 [[0], [0x3F800000]])) = [0, 0, 0x80, 0x3F] ∧ openB.me (roundSt openB []) = 0 ∧ (1 : Nat) ≠ openB.me (roundSt openB []) := by
  decide +kernel

/-! ### Links, the fabric, cohorts -/

/-- Port 31 in RUN phase; and trained at width 8, with a good outcome at both ends. -/
def phaseSt : State := rset .mcStatus_phase 0 1 (fabSt base)
def beacon0 : Beacon := ⟨0, 2, 3, 5, 0, 0, 0, 1, 7, 0, 0⟩
def upPort (x : Port) : State :=
  let s := rset .linkPortState_state 31 2 (rset .linkPortState_width 31 8 (rset .linkPortState_spared 31 15 (rset .linkPortState_outcome 31 1
    (rset .linkPortState_epoch 31 5 (rset .linkPortPeer_roster 31 7 phaseSt)))))
  { s with fab := { s.fab with ports := [(31, { x with beacon := some beacon0, credits := List.replicate 8 1024 })] } }

theorem test_meets_LinksAndLanes_links :
    rget phaseSt .mcStatus_phase 0 = 1 ∧ portUp phaseSt 31 = false ∧ rget phaseSt .linkPortCtl_holdDown 31 = 0 ∧ portUp (upPort Port.down) 31 = true ∧
    (portOf { phaseSt with fab := { phaseSt.fab with ports := [(31, { Port.down with planned := true })] } } 31).planned = true ∧
    rget phaseSt .linkPortState_outcome 31 ≠ 6 ∧ notServed phaseSt 0 = false ∧ (1 : BitVec 32).getLsbD 0 = true ∧
    rget (rset .linkPortCtl_holdDown 31 1 phaseSt) .linkPortCtl_holdDown 31 = 1 := by decide +kernel

theorem test_link_trains : rget (after (.linkTrained 31 4) phaseSt) .linkPortState_width 31 = 4 := by decide +kernel

theorem test_meets_LinksAndLanes_lanes :
    widthFor (9 - ((portOf (upPort { Port.down with badLanes := [0, 1, 2, 3, 4, 5, 6] }) 31).badLanes.length + 1)) = 0 ∧
    widthFor (9 - ((portOf (upPort Port.down) 31).badLanes.length + 1)) = 8 ∧ rget (upPort Port.down) .linkPortState_width 31 = 8 ∧
    widthFor (9 - ((portOf (upPort { Port.down with badLanes := [8] }) 31).badLanes.length + 1)) = 4 ∧ rget (upPort Port.down) .linkPortState_spared 31 = 15 ∧
    8 ∉ (portOf (upPort Port.down) 31).badLanes ∧ 7 ∈ (portOf (upPort { Port.down with badLanes := [7], trying := [7] }) 31).badLanes ∧
    7 ∈ (portOf (upPort { Port.down with badLanes := [7], trying := [7] }) 31).trying ∧
    rget (rset .linkPortState_spared 31 7 (upPort Port.down)) .linkPortState_spared 31 = 7 := by decide +kernel

def bridgeSt (l : SMap Nat) (off : List Nat) : State := { base with sp := { base.sp with bridgeLanes := l, bridgeOff := off } }

theorem test_meets_LinksAndLanes_bridge :
    groupKey 31 127 = 255 ∧ sget? base.sp.bridgeLanes 255 = none ∧ 31 * 128 + 127 ∉ base.sp.bridgeOff ∧
    sget? (bridgeSt [(255, 126)] []).sp.bridgeLanes 255 = some 126 ∧ 126 ≠ 127 ∧ sget? (bridgeSt [(255, 127)] []).sp.bridgeLanes 255 = some 127 ∧
    31 * 128 + 127 ∈ (bridgeSt [(255, 126)] [31 * 128 + 127]).sp.bridgeOff := by decide +kernel

/-- A flit of one packet on VC 0 with sequence number 0 and its CRC (Tables 11.1, 11.2). -/
def flitBody : List Byte := leBytes 8 (2 ^ 60) ++ List.replicate 244 0
def flit0 : List Byte := flitBody ++ leBytes 4 (flitCrcNow flitBody)

theorem test_meets_FlitsAndPackets_good : flitOk flit0 = true := by
  unfold flitOk
  rw [crc32c_now]
  decide +kernel

/-- CRC-32C of "123456789" (the check value of Castagnoli's polynomial). -/
theorem test_crc32c : crc32c (ascii "123456789") = 0xE3069283 := by decide +kernel

theorem test_meets_FlitsAndPackets_flits :
    flitOk [] = false ∧ (portOf (upPort Port.down) 31).nakOut = false ∧ (portOf (upPort { Port.down with nakOut := true }) 31).nakOut = true ∧
    rget (upPort Port.down) .linkPortUncorrCount_count 31 < 2 ^ 32 - 1 ∧ (portOf (upPort Port.down) 31).naks < 8 ∧
    bit (leNat (flit0.take 8)) 29 = false ∧ bit (leNat (flit0.take 8)) 30 = false ∧ bits (leNat (flit0.take 8)) 60 4 = 1 ∧
    bits (leNat (flit0.take 8)) 43 12 = (portOf (upPort Port.down) 31).rx % 4096 ∧
    bits (leNat (flit0.take 8)) 43 12 ≠ (portOf (upPort { Port.down with rx := 4097 }) 31).rx % 4096 := by decide +kernel

def hdr0 (hops : Nat) : RouteHdr := ⟨7, 3, 9, 1, 0, 0, 1, 0, hops⟩
def routeSt (r : Nat) (ok : Bool) : State :=
  { upPort Port.down with fab := { (upPort Port.down).fab with routes := [(7, r)], perms := if ok then [(31 * 4096 + 9, true)] else [] } }

theorem test_meets_FlitsAndPackets_packets :
    carries (routeSt 0 false) 31 = true ∧ permit (routeSt 0 false) 31 9 = false ∧ permit (routeSt 3 true) 31 9 = true ∧
    (routeOf (routeSt 3 true) 7).testBit 1 = true ∧ (routeOf (routeSt (1 + 4 * 2 ^ 31) true) 7).testBit 1 = false ∧
    (routeOf (routeSt (1 + 4 * 2 ^ 31) true) 7).testBit 0 = true ∧ candidates (routeSt (1 + 4 * 2 ^ 31) true) 7 9 = [31] ∧ (hdr0 0).hops = 0 ∧ (hdr0 1).hops ≠ 0 ∧
    rget (routeSt 0 false) .linkPortSliceDropCount_count 31 < 2 ^ 32 - 1 ∧ rget (routeSt 0 false) .linkPortOtherDropCount_count 31 < 2 ^ 32 - 1 := by decide +kernel

/-- With no credit on VC 4 the packet stays queued. -/
theorem test_meets_FlitsAndPackets_credit :
    let s := { routeSt (1 + 4 * 2 ^ 31) true with fab := { (routeSt (1 + 4 * 2 ^ 31) true).fab with ports := [(31, { Port.down with beacon := some beacon0 })] } }
    carries s 31 = true ∧ candidates s 7 9 = [31] ∧ choosePort s 31 4 (hdr0 1) (candidates s 7 9) = 31 ∧ creditOf (portOf s 31) 4 = 0 := by decide +kernel

/-- A link plan (Table 11.5), a slice definition (Table 11.7), a route table (Table 11.9) at 0x1000. -/
def linkPlan (magic : Nat) : State := image [(0x1000, 4, magic), (0x1004, 2, 1), (0x1008, 4, 3), (0x1040, 1, 1), (0x1041, 1, 9)] base
def sliceImg (remove : Nat) : State := image [(0x1000, 2, 4095), (0x1002, 1, 2), (0x1003, 1, remove), (0x1004, 2, 5), (0x1006, 2, 2), (0x1008, 2, 2), (0x1010, 2, 3), (0x1012, 2, 7)] (fabSt base)
def routeImg (kind epoch : Nat) : State := image [(0x1008, 8, 1), (0x1010, 1, kind), (0x1012, 2, 7), (0x1014, 4, 2 ^ 31), (0x1018, 1, 1)] (rset .cohortEpoch_epoch 0 epoch (fabSt base))

theorem test_meets_FabricTables_plan :
    mayRun 0x83 h0 (linkPlan 0x4E414C57) = true ∧ (575 : BitVec 32).toNat ≠ 576 ∧ planBad (linkPlan 0x4E414C57) (sgetN 0 (linkPlan 0x4E414C57).mem.bytes 0x1000 576) = [] ∧
    (planBad (linkPlan 0) (sgetN 0 (linkPlan 0).mem.bytes 0x1000 576)).head? = some 0 := by decide +kernel

theorem test_meets_FabricTables_range : (List.range 576).all (fun i => inWindow base 0 false (0x1000 + i) &&
    decide (locate base (0x1000 + i) = .mem (0x1000 + i)) && sget 0 base.mem.bad ((0x1000 + i) / 64) == 0) = true := by decide +kernel

theorem test_meets_FabricTables_slice :
    let b := fun (r : Nat) => sgetN 0 (sliceImg r).mem.bytes 0x1000 64
    mayRun 0x81 h0 (sliceImg 0) = true ∧ fld (peek (sliceImg 0) 0 0x1000 16).bytes 8 2 = 2 ∧ plainAt (sliceImg 0) 0 false 0x1000 64 0x1000 ∧
    sliceOk (b 0) = true ∧ sliceOk (b 2) = false ∧ fld (b 0) 0 2 = 4095 ∧ fld (b 0) 3 1 = 0 ∧ sliceOk (b 1) = true ∧ fld (b 1) 3 1 = 1 ∧
    (sliceImg 0).fab.slices.length < 64 := by decide +kernel

theorem test_meets_FabricTables_route :
    let T := fun (k : Nat) => entries 16 2 (sgetN 0 (routeImg k 1).mem.bytes 0x1000 32)
    mayRun 0x82 h0 (routeImg 1 1) = true ∧ plainAt (routeImg 1 1) 0 false 0x1000 32 0x1000 ∧ routeBad (T 1) = none ∧ routeBad (T 4) = some 1 ∧
    (routeImg 1 1).fab.waiting = [] ∧ fld ((T 1).headD []) 8 8 ≤ rosterEpoch (routeImg 1 1) ∧ rosterEpoch (routeImg 1 0) < fld ((T 1).headD []) 8 8 := by decide +kernel

theorem test_meets_FabricTables_delivery :
    (sgetN 0 (linkPlan 0x4E414C57).mem.bytes 0x1000 576).length = 576 ∧ routeBad (entries 16 (0 / 16) []) ≠ none ∧ sliceOk (sgetN 0 (sliceImg 1).mem.bytes 0x1000 64) = true := by
  decide +kernel

/-- A roster of epoch 1 whose one change adds member 16383. -/
def rosterMsg (full : Bool) (prev epoch : Nat) : RosterMsg := ⟨epoch, prev, 3, 0, 3, [(16383, 0x10000000)], full, (0, 0, 0, 0, 0)⟩

theorem test_meets_RostersAndJoining_roster :
    (rosterMsg false 0 1).epoch < 2 ^ 64 ∧ (rosterMsg false 0 1).decision ≠ 1 ∧ (rosterMsg false 0 0).epoch ≤ rosterEpoch (fabSt base) ∧
    rosterEpoch (fabSt base) < (rosterMsg false 0 1).epoch ∧ (rosterMsg false 0 1).prev = rosterEpoch (fabSt base) ∧
    ((rosterMsg false 0 1).changes.map Prod.fst).Nodup ∧ (rosterMsg false 1 2).prev ≠ rosterEpoch (fabSt base) ∧ (fabSt base).fab.gap = false := by decide +kernel

theorem test_roster_is_in_force : rosterEpoch (after (.roster (rosterMsg false 0 1)) (fabSt base)) = 1 ∧
    rosterEntry (after (.roster (rosterMsg false 0 1)) (fabSt base)) 16383 = 0x10000000 := by decide +kernel

def joinSt (l : List (Nat × Nat × Nat)) : State := { base with fab := { base.fab with joining := some (5, 255, 1), announced := l } }

theorem test_meets_RostersAndJoining_join :
    mayRun 0x84 h0 base = true ∧ inRoster base 16383 = false ∧
    ((rosterList base).filter (fun x => inRoster base x.1 && entryCohort x.2 == 255)).length < 64 ∧ hasPosition base = false ∧ base.fab.joining = none ∧
    16384 ≤ (16384 : BitVec 16).toNat ∧ (joinSt [(6, 255, 0)]).fab.joining = some (5, 255, 1) ∧ rosterEpoch (joinSt []) = 0 ∧ rosterList (joinSt []) = [] ∧
    hasPosition (joinSt []) = false ∧ ranksLower (6, 255, 0) (5, 255, 1) = false ∧ isPrimary (primSt base) = true ∧ joinFree (primSt base) 16383 255 = true ∧
    rosterEpoch (primSt base) + 1 < 2 ^ 64 ∧ isPrimary base = false ∧ (16383, 255, 1) ∉ base.fab.announced := by decide +kernel

/-- The primary is module 7, and suspect; this module is the deputy, or another steward. -/
def lostPrimary (deputy : Bool) : State :=
  let s := rset .cohortSelf_steward 0 1 (rset .cohortRoster_entry 7 0x1000000A (rset .cohortRoster_entry 3 (if deputy then 0x10000004 else 0x10000000) (fabSt base)))
  { s with fab := { s.fab with suspicions := [⟨7, 1, [], false⟩] } }

theorem test_meets_RostersAndJoining_notices :
    hasPosition (fabSt base) = true ∧ rosterEpoch (fabSt base) < 1 ∧ isSteward (primSt base) = true ∧ isSteward (fabSt base) = false ∧
    inRoster (primSt base) 7 = true ∧ primaryOf (lostPrimary true) = 7 ∧ 7 ≠ ownRoster (lostPrimary true) ∧ suspects (lostPrimary true) 7 = true ∧
    (rosterEntry (lostPrimary true) 7).testBit 3 = true ∧ deputyOf (lostPrimary true) (cohortOf (lostPrimary true) 7) = ownRoster (lostPrimary true) ∧
    stewards (lostPrimary true) < 2 * 1 ∧ inRoster (lostPrimary true) 7 = true ∧ isSteward (lostPrimary false) = true ∧
    deputyOf (lostPrimary false) (cohortOf (lostPrimary false) 7) ≠ ownRoster (lostPrimary false) := by decide +kernel

def token0 : LiveToken := ⟨1, 0, 7, 990, 1, 4⟩

theorem test_meets_LivenessAndDecisions_liveness :
    portUp (upPort Port.down) 31 = true ∧ rget (upPort Port.down) .mcStatus_ready 0 ≠ 0 ∧ token0.roster.toNat < 16384 ∧ token0.flags.getLsbD 0 = true ∧
    rosterEpoch (upPort Port.down) < token0.epoch ∧ token0.flags.getLsbD 3 = false ∧ rget (upPort Port.down) .linkPortPeer_roster 31 = 7 ∧
    (portOf (upPort Port.down) 31).suspect = false ∧ hasPosition (upPort Port.down) = true ∧ inRoster (upPort Port.down) 7 = true ∧
    suspicionTo (lostPrimary false) 3 ≠ ownRoster (lostPrimary false) ∧ portUp base 31 = false := by decide +kernel

def suspSt (x : Suspicion) : State := { fabSt base with fab := { (fabSt base).fab with suspicions := [x] } }

theorem test_meets_LivenessAndDecisions_decisions :
    suspicionTo (fabSt base) 7 = ownRoster (fabSt base) ∧ inRoster (fabSt base) 7 = true ∧ (0 : Nat) ≤ rosterEpoch (fabSt base) ∧ rosterEpoch (fabSt base) < 1 ∧
    noticed { fabSt base with fab := { (fabSt base).fab with notices := [(7, 30)] } } 7 = true ∧ noticed (fabSt base) 7 = false ∧
    (suspSt ⟨7, 1, [], true⟩).fab.suspicions.find? (fun x => x.suspect == 7) = some ⟨7, 1, [], true⟩ ∧
    (suspSt ⟨7, 1, [], false⟩).fab.suspicions.find? (fun x => x.suspect == 7) = some ⟨7, 1, [], false⟩ ∧ isPrimary (suspSt ⟨7, 1, [], false⟩) = false ∧
    isSteward (lostPrimary false) = true ∧ inRoster (lostPrimary false) 7 = true ∧ isPrimary (lostPrimary false) = false := by decide +kernel

/-! ### Harvest, patrol, remote accesses -/

/-- Every address of context 1's window leads to memory of the module. -/
theorem plain_window (a : Nat) (h : a < 0x100000) : inWindow base 1 false a = true ∧ locate base a = .mem a ∧ sget 0 base.mem.bad (a / 64) = 0 := by
  have hc : ctx? base 1 = some ctx1 := by decide +kernel
  have hs : ownSlot base = 0 := by decide +kernel
  have hg : gddrBytes base 0 = 104362672128 := by decide +kernel
  have h1 : slotOf a = 0 := by unfold slotOf bits; omega
  have h2 : regionOf a = 0 := by unfold regionOf bits; omega
  have h3 : offsetOf a = a := by unfold offsetOf bits; omega
  refine ⟨?_, ?_, rfl⟩
  · simp [inWindow, hc, ctx1, entryOk, h]
  · unfold locate
    rw [if_neg (by omega), if_neg (by rw [h1, hs]; simp)]
    simp [h2, h3, inExtent, hg, gddrKey, show a < 104362672128 by omega]

def tgt : Nat × Nat × Nat := (0, 0, 260 * 2 ^ 20)
def harSt (x : Harv) (s : State) : State := modHarv 1 (fun _ => x) s
def notLead : State := let s := rset .cohortSelf_roster 0 7 (fabSt base); { s with fab := { s.fab with scores := [(3, 1000)] } }

theorem test_meets_HarvestGenerations_target :
    let m := (harvOf base 1).targets
    [0x50, 0x51, 0x52].all (fun op => mayRun op h1 base) = true ∧ m.map Prod.fst = List.range m.length ∧ 260 * 2 ^ 20 ≤ (272629760 : Word64).toNat ∧
    (272629760 : Word64).toNat % 4096 = 0 ∧ (0 : BitVec 8).toNat ≤ m.length ∧
    ((harvOf (harSt { Harv.empty with targets := [(0, tgt)] } base) 1).targets).map Prod.fst = List.range 1 ∧
    3 < (4 : BitVec 8).toNat ∧ 1 < (2 : BitVec 8).toNat ∧ (0x1001 : Word64).toNat % 4096 ≠ 0 ∧ (272625664 : Word64).toNat < 260 * 2 ^ 20 ∧
    isLead base = true ∧ isLead notLead = false := by decide +kernel

theorem test_meets_HarvestGenerations_request :
    isPrimary notLead = false ∧ hasPosition notLead = true ∧ isPrimary (primSt base) = true ∧ leadOf (primSt base) 9 = some 3 ∧ leadOf (primSt base) 9 ≠ some 7 ∧
    9 ∉ (primSt base).fab.genBusy ∧ hasPosition base = false := by decide +kernel

def hgen (w : SMap (List Byte)) (f : SMap Nat) (man : List Byte) : HGen := ⟨3, 5, 12, 0, [3, 7], [tgt], false, ⟨3, 0, [], 1, w, f⟩, none, [], man⟩
def genSt (g : HGen) (s : State) : State := harSt { Harv.empty with gen := some g } s

theorem test_meets_HarvestGenerations_mark :
    (commitOf 0).step ≠ rget base .stepCtxCommitted_step 1 ∧ (harvOf (genSt (hgen [] [] []) base) 1).gen.isSome = true ∧
    (commitOf 0).step = rget (rset .stepCtxCommitted_step 1 5 base) .stepCtxCommitted_step 1 ∧ (harvOf base 1).gen = none ∧
    targetsHold [tgt] (chunkCount (fullSize base 1 (ownMarks base 1 5).length)) = true ∧ targetsHold [] (chunkCount (fullSize base 1 1)) = false := by decide +kernel

theorem test_meets_HarvestGenerations_chunk :
    let s := genSt (hgen [] [] []) base
    (harvOf s 1).gen = some (hgen [] [] []) ∧ (hgen [] [] []).own.chunks ≤ 1 ∧ 0 < (hgen [] [] []).own.chunks ∧ sget? (hgen [] [] []).own.wrote 0 = none ∧
    (sget? (hgen [(0, [])] [] []).own.wrote 0).isSome = true ∧ (segsRead s 1 (shardSegs s 1 (hgen [] [] []) (hgen [] [] []).own false) 0 mib64).bad = [] ∧
    (chunkAt [tgt] 3 0 false).1.1 = 0 ∧ noDma s (fnOf s 1) = false ∧ (ctx? s 0).elim true (fun x => x.ring.isNone) = true ∧ s.ctl.journal = [] ∧
    sget 0 (hgen [] [(0, 2)] []).own.fails 0 < 3 ∧ sget 0 (hgen [] [(0, 3)] []).own.fails 0 = 3 := by decide +kernel

theorem test_meets_HarvestGenerations_reports :
    isLead (genSt (hgen [] [] []) notLead) = false ∧ isLead (genSt (hgen [] [] []) (fabSt base)) = true ∧ (hgen [] [] []).manifest = [] ∧
    (hgen [] [] [1]).manifest ≠ [] ∧ (hgen [] [] [1]).gen < 2 ^ 64 ∧ (hgen [] [] [1]).step < 2 ^ 64 ∧ fld (List.replicate 0x20 0 ++ [3]) 0x20 8 = 3 ∧ fld [] 0x20 8 ≠ 3 ∧
    waiting (withRec { rec1 with state := .issued, wait := .harvest 2 } base) 1 (.harvest 2) { rec1 with state := .issued, wait := .harvest 2 } := by decide +kernel

def hrest (ref : Option Nat) (votes : List (Nat × Nat × List Byte × Bool)) : HRest := ⟨1, 0, false, 0, false, 3, 5, 12, [1], ref, votes⟩
def restSt (r : HRest) : State := harSt { Harv.empty with rest := some r } (fabSt base)

theorem test_meets_RestoreAndImport_restore :
    [0x53, 0x54].all (fun op => mayRun op h1 notLead) = true ∧ (harvOf (restSt (hrest none [])) 1).rest.isSome = true ∧
    stepSt (stepIn 1 StepCtx.empty base) 1 ≠ 0 ∧ (harvOf notLead 1).gen = none ∧ (harvOf notLead 1).rest = none ∧ stepSt notLead 1 = 0 ∧ isLead notLead = false ∧
    rget notLead .pwrState_state 0 ≠ 1 ∧ manifestLen (sgetN 0 base.mem.bytes 0 256) = 5632 ∧ 5632 ≤ 0x100000 := by decide +kernel

theorem test_meets_RestoreAndImport_votes :
    (harvOf (restSt (hrest none [])) 1).rest = some (hrest none []) ∧ (hrest none []).step < 2 ^ 64 ∧ (hrest (some 2) []).refusal ≠ none ∧
    isLead (restSt (hrest none [])) = true ∧ stepMembers (restSt (hrest none [])) = [3, 7] ∧
    [3, 7].any (fun i => i != 3 && (hrest none []).votes.all (fun v => v.1 != i)) = true ∧
    [3, 7].all (fun i => i == 3 || (hrest none [(7, 3, [1], true)]).votes.any (fun v => v.1 == i && v.2 == (3, [1], true))) = true ∧
    4 ∉ stepMembers (restSt (hrest none [])) ∧ (hrest none []).rflags % 2 = 0 := by decide +kernel

/-- A line of zeros with its check bytes; with one symbol changed; with two; under another line's number; with the poison pattern (R172). -/
def line0 : List Byte := List.replicate 64 0

theorem test_meets_PatrolAndMigration_clean : line0.length = 64 ∧ (eccBytes 5 line0).length = 4 ∧ eccDecode 5 line0 (eccBytes 5 line0) = .clean := by decide +kernel
theorem test_meets_PatrolAndMigration_poison : eccDecode 5 line0 ((eccBytes 5 line0).map (fun b => b ^^^ 0xA5#8)) = .poison := by decide +kernel
theorem test_meets_PatrolAndMigration_corrected : eccDecode 5 (line0.set 9 0x40) (eccBytes 5 line0) = .corrected line0 := by decide +kernel
theorem test_meets_PatrolAndMigration_address : eccDecode 5 line0 (eccBytes 4 line0) = .addrErr := by decide +kernel
theorem test_meets_PatrolAndMigration_uncorrectable : eccDecode 5 ((line0.set 9 0x40).set 10 0x40) (eccBytes 5 line0) = .uncorr := by decide +kernel

theorem test_meets_PatrolAndMigration_migration :
    lineKey base 7 13 5 = none ∧ (lineKey base 7 12 5).isSome = true ∧ (8 : Nat) ≤ 8 ∧ rget base .cdieMemCorrCount_count (7 * 14 + 12) < 2 ^ 32 - 1 ∧
    rget base .cdieMemCorrCount_count 110 < 16 * rget (rset .cdieMemMigrateThresh_corr 7 1 base) .cdieMemMigrateThresh_corr 7 ∧
    16 * rget (rset .cdieMemMigrateThresh_corr 7 1 base) .cdieMemMigrateThresh_corr 7 ≤ rget (rset .cdieMemCorrCount_count 110 15 base) .cdieMemCorrCount_count 110 + 1 ∧
    logicalOf base 7 12 = some 12 ∧ rget base .cdieMemStatus_migrating 7 = 15 ∧ rget base .cdieMemStatus_leapTarget 7 = 15 ∧ notServed base 0 = false ∧
    bits (25 : BitVec 32).toNat 1 4 = 12 ∧ chanCount base 7 = 13 ∧ bits (27 : BitVec 32).toNat 1 4 = 13 ∧ (25 : BitVec 32).getLsbD 0 = true ∧
    rget (rset .cdieMemStatus_migrating 7 12 base) .cdieMemStatus_migrating 7 = 12 ∧ passOn base 0 = false ∧
    passOn (stepIn 2 { StepCtx.empty with own := some (passOf false) } base) 0 = true := by decide +kernel

/-- The window's last 4 KiB exported to slice 9, and a request of slot 2 for its last byte. -/
def expSt : State := setCtx 1 { ctx1 with window := ⟨0xFF000, 0x1000, 7, 9⟩ :: ctx1.window } base
def rreq (a : Word64) (w : Bool) : RemoteReq := ⟨2, 9, 4, 0, 17, a, w, if w then [5] else [], 1⟩

theorem test_meets_RemoteAccesses_request :
    rget expSt .mcStatus_ready 0 ≠ 0 ∧ rget expSt .pwrState_state 0 < 2 ∧ genStale expSt (slotSource expSt 2) 4 0 = false ∧
    genStale { expSt with vig := { expSt.vig with recvGen := [(genKey (slotSource expSt 2) 4, 3)] } } (slotSource expSt 2) 4 0 = true ∧
    17 ∈ sget [] ({ expSt.vig with applied := [(tagKey (rreq 0 true), [17])] } : Vig).applied (tagKey (rreq 0 true)) ∧
    exporter expSt 9 false 0 1 = none ∧ exporter expSt 9 true 0xFFFFF 1 = some 1 ∧ exporter expSt 9 false 0xFFFFF 1 = some 1 ∧
    plainAt expSt 1 true 0xFFFFF 1 0xFFFFF ∧ plainAt expSt 1 false 0xFFFFF 1 0xFFFFF ∧
    rget expSt .mcWinRemoteViol_count 0 < 2 ^ 32 - 1 ∧ rget expSt .vigilStaleDropCount_count 0 < 2 ^ 32 - 1 := by decide +kernel

theorem test_remote_load : (after (.remoteTrayRequest (rreq 0xFFFFF false)) expSt).io.outbox = [.data "LOAD_DATA" 2 [4, 0, 17, 0] [0]] := by decide +kernel

def remSt (r : Remote) : State := { withEng x0 with vig := { (withEng x0).vig with remote := [(17, r)] } }
def rem1 (resent : Bool) (use : RemoteUse) : Remote := ⟨1, 0, 2, 0x1000, false, [], 64, resent, use⟩

theorem test_meets_RemoteAccesses_response :
    sget? base.vig.remote 17 = none ∧ sget? (remSt (rem1 false .other)).vig.remote 17 = some (rem1 false .other) ∧ (1 : Nat) ≠ (rem1 false .other).gen ∧
    (ctx? (remSt (rem1 false .other)) 1).elim true (fun x => x.newWin.isNone) = true ∧ engOfKey (engKey e0) = e0 ∧
    eng? (remSt (rem1 false (.engine (engKey e0)))) e0 = some x0 ∧ x0.stall = none ∧ (rem1 true .other).resent = true ∧
    rget (remSt (rem1 true .other)) .vigilRemoteTimeoutCount_count 0 < 2 ^ 32 - 1 ∧
    waiting (withRec { rec1 with state := .issued, wait := .stores [17] } base) 1 (.stores [17]) { rec1 with state := .issued, wait := .stores [17] } := by decide +kernel

theorem test_meets_RemoteAccesses_bar4 :
    rget State.reset .mcStatus_ready 0 = 0 ∧ partnerIs base 1 7 = false ∧ partnerIs (mirSt StepCtx.empty) 1 7 = true ∧ rget (mirSt StepCtx.empty) .mcStatus_ready 0 ≠ 0 ∧
    fnUp base 1 = false ∧ fnUp base 0 = true ∧ 2 ^ bar4Log base 0 < 2 ^ 34 - 3 + 4 ∧ 2 ^ 34 - 4 + 4 ≤ 2 ^ bar4Log base 0 ∧ rget base .hostifFnBar4_ctx 0 = 0 ∧
    rget (rset .hostifFnBar4_ctx 0 0xFF base) .hostifFnBar4_ctx 0 = 0xFF ∧
    plainAt base 0 true (rget base .hostifFnBar4_base 0 * 4096 + (2 ^ 34 - 4)) 4 (2 ^ 34 - 4) ∧ plainAt base 0 false (2 ^ 34 - 4) 4 (2 ^ 34 - 4) := by decide +kernel

/-! ### Spares, the Almanac, the service commands -/

def aside : State := { base with sp := { base.sp with clState := [(5, 1)], coreState := [(5 * 68 + 3, 1)], held := [5], stagesOff := [0, 1] } }
def arec : AlmRec := ⟨2, 0, 0, 0, 0, []⟩
def sealSt (l : List AlmRec) (x : Option (List AlmRec × Nat)) : State := { base with alm := { base.alm with staged := l, sealing := x } }

theorem test_meets_SparesAndBlocks :
    sget 0 base.sp.clState (islKey 0 5) ≠ 1 ∧ sget 0 aside.sp.clState (islKey 0 5) = 1 ∧ (67 : Nat) < 68 ∧ clBusy aside 0 5 = false ∧
    sget 0 aside.sp.coreState (islKey 0 5 * 68 + 3) = 1 ∧ sget 0 base.sp.coreState 3 ≠ 1 ∧ islKey 0 5 ∉ base.sp.held ∧ islKey 0 5 ∈ aside.sp.held ∧
    0 * 64 + 1 ∈ aside.sp.stagesOff ∧ 0 * 64 + 63 ∉ aside.sp.stagesOff ∧ 2 < failedStages (after (.powerStageFault 0 63) aside) 0 ∧
    notServed base 0 = false ∧ base.alm.staged = [] ∧ (sealSt [arec] none).alm.staged ≠ [] ∧ recsBytes [arec] ≤ 61952 ∧
    (sealSt [arec] (some ([], 0))).alm.sealing.isSome = true ∧ base.alm.sealing = none ∧ rget base .almanacUsed_blocks 0 < 4096 ∧
    4096 ≤ rget (rset .almanacUsed_blocks 0 4096 base) .almanacUsed_blocks 0 ∧ rget base .almanacSeq_seq 0 + 1 < 2 ^ 64 ∧
    (sealSt [] (some ([], 0))).alm.sealNext = false ∧ (base.alm.hours + 1) % 168 ≠ 0 ∧ rget base .almanacStatus_tail 0 ≠ 1 ∧
    recsBytes base.alm.staged + 80 ≤ 61952 := by decide +kernel

theorem test_set_aside_returns_to_its_pool : (sget 0 (after (.setAsideTest 0 5 none true) aside).sp.clState 5, sget 0 (after (.setAsideTest 0 5 none false) aside).sp.clState 5) =
    (0, 2) := by decide +kernel

def clBusySt : State := setEng e0 x0 base
theorem test_meets_SparesAndBlocks_busy : clBusy clBusySt 0 0 = true := by decide +kernel

theorem test_meets_PowerStageFaultsAreSealed : 3 * 64 + 63 ∉ base.sp.stagesOff ∧ 63 < 64 := by decide +kernel

/-- Context 0 reaches all of the module's memory. -/
theorem plain_zero (w : Bool) (a n : Nat) (h : a + n ≤ 0x100000) : plainAt base 0 w a n a := by
  intro i hi
  obtain ⟨_, h2, h3⟩ := plain_window (a + i) (by omega)
  refine ⟨?_, h2, h3⟩
  have hs : ownSlot base = 0 := by decide +kernel
  have h4 : slotOf (a + i) = 0 := by unfold slotOf bits; omega
  have h5 : regionOf (a + i) = 0 := by unfold regionOf bits; omega
  unfold inWindow
  simp [hs, h4, h5, show a + i < 144115188075855872 by omega]

theorem plain_image (l : List (Nat × Nat × Nat)) (w : Bool) (a n : Nat) (h : a + n ≤ 0x100000) : plainAt (image l base) 0 w a n a := plain_zero w a n h

theorem plain_one (a n : Nat) (h : a + n ≤ 0x100000) : plainAt base 1 true a n a := by
  intro i hi
  obtain ⟨_, h2, h3⟩ := plain_window (a + i) (by omega)
  have hc : ctx? base 1 = some ctx1 := by decide +kernel
  exact ⟨by simp [inWindow, hc, ctx1, entryOk, show a + i < 0x100000 by omega, show Nat.testBit 3 1 = true from rfl], h2, h3⟩

def noteImg : State := image [(0, 4, 0x45544F4E), (4, 2, 1), (6, 1, 1)] base

theorem block0_length : (blockBytes base 0).length = 65536 := by simp [blockBytes]

theorem test_meets_ServiceCommands :
    [0x70, 0x71, 0x72, 0x73, 0x74, 0x80, 0xF0, 0xF1, 0xFE].all (fun op => mayRun op h0 base) = true ∧ h0.ctx = 0 ∧
    (0 : BitVec 32).toNat ≤ rget base .almanacSeq_seq 0 ∧ plainAt base 0 true 0 (blockBytes base 0).length 0 ∧ plainAt noteImg 0 false 0 4096 0 ∧
    mayRun 0x74 h0 noteImg = true ∧ plainAt base 0 true 0x40 64 0x40 ∧ (0x41 : Word64).toNat % 64 ≠ 0 ∧ (0x40 : Word64).toNat % 64 = 0 ∧
    mayRun 0x71 h1 base = true ∧ plainAt base 0 false 0 16 0 := by
  refine ⟨by decide +kernel, by decide +kernel, by decide +kernel, plain_zero _ _ _ ?_, plain_image _ _ _ _ (by omega), by decide +kernel, plain_zero _ _ _ (by omega),
    by decide +kernel, by decide +kernel, by decide +kernel, plain_zero _ _ _ (by omega)⟩
  rw [block0_length]; decide

theorem test_meets_ServiceCommands_note :
    (let b := sgetN 0 noteImg.mem.bytes 0 4096; fld b 0 4 = 0x45544F4E ∧ fld b 4 2 = 1 ∧ fld b 6 1 = 1) ∧ fld (sgetN 0 base.mem.bytes 0 4096) 0 4 ≠ 0x45544F4E := by
  decide +kernel

theorem test_meets_ServiceCommands_attest (nonce : BitVec 256) :
    rangeIn base 1 true 0x40 5632 = true ∧ rangeIn base 1 true 0x100000 5632 = false ∧ plainAt base 1 true 0x40
      (attestMsg base 1 (leBytes 32 nonce.toNat) ++ sigBlock "attestation" "Decperon attest v1" (attestMsg base 1 (leBytes 32 nonce.toNat))).length 0x40 := by
  refine ⟨by decide +kernel, by decide +kernel, plain_one _ _ ?_⟩
  rw [List.length_append, sigBlock_length, attestMsg_length _ _ _ (leBytes_length _ _)]; decide

theorem test_meets_ServiceCommands_partitions :
    maskOk base 1 1 = false ∧ maskOk base 0 3 = true ∧ sget 0 base.ctl.partitions 0 &&& 3 = sget 0 base.ctl.partitions 0 ∧ maskOk base 0 2 = true ∧
    sget 0 base.ctl.partitions 0 &&& 2 ≠ sget 0 base.ctl.partitions 0 ∧ partCtxs base 0 ≠ [] ∧ maskOk base 1 2 = true ∧ partCtxs base 1 = [] := by decide +kernel

theorem test_meets_ServiceCommands_firmware :
    (let b := sgetN 0 base.mem.bytes 0 16; imageCheck base ⟨b.take 4096, (b.drop 4096).take (16 - 9472), b.drop (4096 + (16 - 9472))⟩ ≠ 0) ∧
    slotCheck base (!runSlot base) ≠ 0 ∧ runSlot base = false := by decide +kernel

/-- With slot B running, the other slot holds the image of manufacture, which no advanced counter rejects. -/
def slotB : State := rset .mcBootStatus_slot 0 1 base
theorem slot_factory (s : State) (h1 : s.boot.slotA = none) (h2 : s.boot.counter = 0) : slotCheck s false = 0 := by
  unfold slotCheck
  rw [h1]
  simp only [h2, Nat.not_lt_zero, if_false]

theorem test_meets_ServiceCommands_activate : mayRun 0xF1 h0 slotB = true ∧ slotCheck slotB (!runSlot slotB) = 0 := by
  have h1 : runSlot slotB = true := by decide +kernel
  rw [h1]
  exact ⟨by decide +kernel, slot_factory _ (by decide +kernel) (by decide +kernel)⟩

/-- An image of a 64-byte body of zeros under root 0: what the OTP and the signatures answer is not the module's to choose (Config). -/
def fwBody : List Byte := List.replicate 64 0
def fwHead : List Byte := leBytes 4 0x4755524D ++ leBytes 2 1 ++ List.replicate 18 0 ++ leBytes 8 64 ++ sha256 fwBody ++ List.replicate 4032 0
def fwImg : FwSlot := ⟨fwHead, fwBody, List.replicate 5376 0⟩

theorem test_meets_ServiceCommands_stage
    (h1 : Config.revoked 0 = false) (h2 : sha256 (fwImg.sig.take 1984) = (List.range 32).map (Config.rootHash 0))
    (h3 : Config.edVerify (fwImg.sig.take 32) fwHead ((fwImg.sig.drop 1984).take 64) = true)
    (h4 : Config.mlVerify ((fwImg.sig.drop 32).take 1952) (ascii "Miruengo image v1") fwHead ((fwImg.sig.drop 2048).take 3309) = true) :
    imageCheck base fwImg = 0 := by
  have a1 : pktNat fwHead 0 4 = 0x4755524D ∧ pktNat fwHead 4 2 = 1 ∧ pktNat fwHead 6 2 = 0 ∧ zeroAt fwHead 0x14 4 = true ∧ zeroAt fwHead 0x40 4032 = true ∧
    pktNat fwHead 0x18 8 = 64 ∧ fwHead.length = 4096 ∧ pktNat fwHead 0x13 1 = 0 ∧ pktNat fwHead 0x10 2 = 0 ∧ (fwHead.drop 0x20).take 32 = sha256 fwBody := by
    decide +kernel
  have a2 : base.boot.counter = 0 := by decide +kernel
  obtain ⟨b1, b2, b3, b4, b5, b6, b7, b8, b9, b10⟩ := a1
  unfold imageCheck
  have c1 : fwImg.sig.length = 5376 := List.length_replicate
  have c2 : fwBody.length = 64 := List.length_replicate
  simp only [show fwImg.header = fwHead from rfl, show fwImg.body = fwBody from rfl, b1, b2, b3, b4, b5, b6, b7, b8, b9, b10, h1, h2, h3, h4, a2, c1, c2]
  simp

theorem test_meets_ServiceCommands_shutdown :
    mayRun 0xFE h0 (fabSt base) = true ∧ (fabSt base).boot.trigger = 0 ∧ hasPosition (fabSt base) = true ∧ phase (rset .mcStatus_phase 0 1 base) = 1 ∧
    7 ∈ liveDies (rset .mcStatus_phase 0 1 base) ∧ phase base ≠ 1 ∧ 8 ∉ liveDies base := by decide +kernel

/-! ### Power and temperature -/

/-- The module in phase RUN, powered; a stage of its one engine on die 0 with class energy 100. -/
def run1 : State := let s := rset .mcStatus_phase 0 1 base; { s with boot := { s.boot with powered := true } }
def powSt (f : Pow → Pow) (s : State) : State := { s with pow := f s.pow }
def stage0 : Stage := ⟨x0.run, x0.task, 0, 1200, 0, 0⟩
def stageSt : State := powSt (fun p => { p with stages := [(8, stage0)] }) (rset .pwrClassEnergy_e 0 100 (setEng e0 x0 run1))

theorem test_meets_SupplyAndBudget :
    awake run1 = true ∧ run1.pow.high ≠ true ∧ awake base = false ∧ base.pow.high = false ∧ run1.pow.warn = false ∧
    rget run1 .pwrWarnCount_count 0 < 2 ^ 32 - 1 ∧ (powSt (fun p => { p with warn := true }) run1).pow.warn = true ∧ phase run1 = 1 ∧
    run1.pow.throttle ≠ true ∧ phase base ≠ 1 ∧ run1.pow.under = false ∧ run1.boot.starting = false ∧ run1.vig.resets = [] ∧
    phase (rset .mcStatus_phase 0 2 run1) = 2 ∧ (powSt (fun p => { p with under := true }) run1).pow.under = true := by decide +kernel

theorem test_meets_SupplyAndBudget_limits :
    run1.pow.stretch = 0 ∧ limitStep run1 100000 ≠ 0 ∧ rget run1 .pwrLimitCount_count 0 < 2 ^ 32 - 1 ∧ effPeak run1 < 100000 ∧ mayRun 0x60 h0 run1 = true ∧ h0.ctx = 0 ∧
    4000 ≤ (8000 : BitVec 32).toNat ∧ (8000 : BitVec 32).toNat ≤ 8000 ∧ 8000 < (8001 : BitVec 32).toNat ∧ (3999 : BitVec 32).toNat < 4000 ∧
    notServed run1 0 = false ∧ notServed run1 1 = true ∧ (0x40000 : BitVec 32).getLsbD 18 = true ∧ (0x10000 : BitVec 32).getLsbD 16 = true ∧
    (0x10000 : BitVec 32).getLsbD 18 = false ∧ rget (rset .pwrState_state 0 2 run1) .pwrState_state 0 = 2 ∧
    run1.fab.out = false ∧ rget run1 .pwrCtl_equinoxOff 0 ≠ 1 ∧ rget run1 .cohortSelf_role 0 ≠ 2 ∧ rget (rset .cohortSelf_role 0 2 run1) .cohortSelf_role 0 = 2 := by
  decide +kernel

theorem test_meets_SupplyAndBudget_energy :
    dieStages run1 0 = [] ∧ dieStages stageSt 0 = [(8, stage0)] ∧
    mayRun 0x62 h0 run1 = true ∧ mayRun 0x63 h1 run1 = true ∧ (0 : BitVec 8).toNat ≠ h1.ctx ∧ h1.ctx ≠ 0 ∧ (1 : BitVec 8).toNat = h1.ctx ∧ (1 : BitVec 8).toNat ≤ 1 ∧
    1 < (2 : BitVec 8).toNat ∧ mayRun 0x63 h0 base = true ∧ ctx? base 9 = none ∧ (ctx? base 1).isSome = true ∧ h0.ctx = 0 := by decide +kernel

theorem test_meets_SupplyAndBudget_energyRead : plainAt base 0 true 0x40 64 0x40 := plain_zero _ _ _ (by decide)

/-- One island of stage energy: 10 uJ over 650 mV squared. -/
theorem test_energy_split : ((after (.energySplit 0 16 [(0, 10)]) stageSt).pow.stages).map (fun g => g.2.cycles) = [10] := by decide +kernel

def islSt (x : Isl) : State := powSt (fun p => { p with isl := [(5, x)] }) run1
def isl0 : Isl := Isl.parked

theorem test_meets_ClocksAndTemperature :
    (7 : Nat) < 8 ∧ 2111 < 2112 ∧ islKey 7 2111 ∉ run1.sp.held ∧ (islOf run1 (islKey 7 2111)).droop = false ∧ rget run1 .pwrDieDroopCount_count 7 < 2 ^ 32 - 1 ∧
    (islOf (islSt { isl0 with chg := some (1300, false) }) 5).chg.isSome = true ∧ (islOf (islSt { isl0 with droop := true }) 5).droop = true ∧
    5 ∉ (islSt isl0).sp.held ∧ (islOf (islSt { isl0 with paused := true }) 5).paused = true ∧ (islOf run1 5).chg = none ∧
    (islOf (islSt { isl0 with chg := some (1300, false) }) 5).chg = some (1300, false) ∧ (islOf (islSt { isl0 with chg := some (1300, false) }) 5).paused = false ∧
    (islOf (islSt { isl0 with chg := some (1300, true) }) 5).chg = some (1300, true) ∧ (islOf (islSt { isl0 with chg := some (1300, true) }) 5).next = none ∧
    (islOf (islSt { isl0 with chg := some (1300, true), next := some 1400 }) 5).next = some 1400 ∧ 320 < (321 : Int) ∧ run1.pow.coolBad = false ∧
    (islOf (islSt { isl0 with thermal := 1225 }) 5).alarm = false := by
  decide +kernel

/-- Voltages and ceilings rest on the delays fused at manufacture, which are Config's: the clauses on them are met whatever those are, or where the
ceiling of the island lies above 1,200 MHz. -/
theorem islVolt_pos (s : State) (i f : Nat) : 0 < islVolt s i f := by
  have h : ∀ v, voltAt s i f = some v → 0 < v := by
    intro v hv
    simp only [voltAt] at hv
    split at hv
    · split at hv
      · have := Option.some.inj hv; omega
      · exact absurd hv (by simp)
    · exact absurd hv (by simp)
  unfold islVolt
  cases hv : voltAt s i f with
  | none => simp
  | some v => exact h v hv

theorem test_meets_SupplyAndBudget_split : splitWeight stageSt 0 [(x0.run * 65536 + x0.task, 10)] stage0 ≠ 0 := by
  have h1 : stageIsls stageSt 0 stage0 = [0] := by decide +kernel
  have h2 : cyclesOf [(x0.run * 65536 + x0.task, 10)] stage0 = 10 := by decide +kernel
  have h3 : classE stageSt 0 stage0.cls = 100 := by decide +kernel
  have h4 := islVolt_pos stageSt 0 stage0.preset
  simp only [splitWeight, h1, h2, h3, sumV2, List.map_cons, List.map_nil, List.sum_cons, List.sum_nil, Nat.add_zero, List.length_singleton]
  simp
  omega

theorem test_meets_ClocksAndTemperature_limits :
    thermLimit (islSt { isl0 with thermal := 1225 }) 5 ≤ 1225 ∧ (1200 < ceiling run1 5 → 1200 < thermLimit run1 5) := by
  refine ⟨Nat.le_trans (Nat.min_le_left _ _) (by decide +kernel), fun h => ?_⟩
  have h1 : (islOf run1 5).thermal = 2600 := by decide +kernel
  unfold thermLimit
  rw [h1]
  exact Nat.lt_min.mpr ⟨by decide, h⟩

theorem test_droop : (islOf (after (.droop 0 5) (islSt { isl0 with chg := some (1300, false) })) 5).paused = true ∧
    (islOf (after (.droopClear 0 5) (islSt { isl0 with droop := true, paused := true })) 5).paused = false := by decide +kernel

def idle1 : State := rset .pwrState_target 0 1 run1
def fallow (n : Nat) : State := rset .pwrState_state 0 n run1
def recF : Rec := { rec1 with state := .issued, wait := .fallow }

theorem test_meets_ClocksAndTemperature_states :
    (11 : Nat) < 12 ∧ run1.boot.powered = true ∧ phase run1 ≠ 3 ∧ base.boot.powered = false ∧ phase (rset .mcStatus_phase 0 3 run1) = 3 ∧
    rget idle1 .mcStatus_ready 0 ≠ 0 ∧ rget idle1 .pwrState_target 0 = 1 ∧ rget idle1 .pwrState_state 0 = 0 ∧ working idle1 = false ∧
    rget (fallow 0) .pwrState_target 0 = 1 ∧ working stageSt = true ∧ rget (fallow 2) .pwrState_state 0 ≠ 0 ∧ rget State.reset .mcStatus_ready 0 = 0 ∧
    rget (rset .pwrState_target 0 0 run1) .pwrState_target 0 ≠ 1 ∧
    mayRun 0x61 h0 run1 = true ∧ h0.ctx = 0 ∧ 2 < (3 : BitVec 8).toNat ∧ (1 : BitVec 8).toNat < 2 ∧ fallowRefused run1 h0 = 0 ∧
    fallowRefused (rset .stepCtxState_state 1 1 run1) h0 ≠ 0 ∧ rget (fallow 3) .pwrState_state 0 = 3 ∧ rget (fallow 2) .pwrState_state 0 = 2 ∧
    rget (fallow 4) .pwrState_state 0 = 4 ∧ rget (fallow 2) .pwrFallowCount_count 0 < 2 ^ 32 - 1 ∧ waiting (withRec recF (fallow 3)) 1 .fallow recF := by decide +kernel

/-! ### Hangs, resets, teardown, start and shutdown -/

def tearSt (k : TearKind) (acks : List Nat) : State := setCtx 1 { ctx1 with teardown := some ⟨k, 0, acks, []⟩ } base
def tokSt (s : State) : State := { s with vig := { s.vig with tokens := [(7, 1, 0, false)] } }
def recT : Rec := { rec1 with ctx := 0, q := 0, state := .issued, wait := .teardown 1 }

theorem test_meets_TeardownsAndFences :
    (ctx? base 1).elim true (fun x => x.teardown.elim true (fun k => !k.acks.contains 4)) = true ∧
    (ctx? (tearSt .destroy [4, 9]) 1).bind (·.teardown) = some ⟨.destroy, 0, [4, 9], []⟩ ∧ 4 ∈ [4, 9] ∧ [4, 9].any (fun a => a != 4) = true ∧
    (ctx? (tearSt .reset [4]) 1).bind (·.teardown) = some ⟨.reset, 0, [4], []⟩ ∧ [4].all (fun a => a == 4) = true ∧ tokensOf (tearSt .reset [4]) 1 = [] ∧
    sget [] (tearSt .reset [4]).vig.touch 1 = [] ∧ (withRec recT (tearSt .destroy [4])).ctl.journal.all (fun r => r.ctx != 1) = true ∧
    (ctx? (withRec recT (tearSt .destroy [4])) 1).bind (·.teardown) = some ⟨.destroy, 0, [4], []⟩ ∧
    base.vig.tokens = [] ∧ (7, 1, 0, false) ∈ (tokSt base).vig.tokens ∧ (rget (rset .vigilQuarantine_ctx 0 2 (tokSt base)) .vigilQuarantine_ctx (1 / 64)).testBit (1 % 64) = true ∧
    (tokSt base).vig.tokens.all (fun x => x.2.1 != 1 || x.1 == 7) = true ∧ (tokSt base).vig.tokens.any (fun x => x.1 == 7 && x.2.1 == 1) = true ∧
    base.vig.tokens.any (fun x => x.1 == 7 && x.2.1 == 1) = false ∧ (ctx? (tokSt base) 1).bind (·.teardown) = none ∧
    (ctx? (tokSt (tearSt .destroy [])) 1).bind (·.teardown) = some ⟨.destroy, 0, [], []⟩ := by decide +kernel

theorem test_meets_TeardownsAndFences_fence :
    notServed base 0 = false ∧ (0x0 : BitVec 32).getLsbD 31 = false ∧ bits (0xA0000003 : BitVec 32).toNat 28 3 < 3 ∧ bits (0xA0000003 : BitVec 32).toNat 0 8 < 4 ∧
    4 ≤ bits (0xA0000004 : BitVec 32).toNat 0 8 ∧ (0xA0000003 : BitVec 32).getLsbD 31 = true ∧ bits (0xB000006F : BitVec 32).toNat 28 3 = 3 ∧
    bits (0xB000006F : BitVec 32).toNat 0 8 < 112 ∧ 112 ≤ bits (0xB0000070 : BitVec 32).toNat 0 8 ∧ 3 < bits (0xC0000000 : BitVec 32).toNat 28 3 := by decide

theorem test_sweep_token_is_returned : (after (.sweepToken 7 1 5) (fabSt base)).io.outbox = [.vc7 "SWEEP_RETURN" 7 [3, 1, 5]] := by decide +kernel

def hungSt : State := { runSt run0 x0 with vig := { (runSt run0 x0).vig with hung := [(run0.q, run0.seq, 1)] } }
def resetSt (l : Nat) : State := { run1 with vig := { run1.vig with resets := [⟨l, 1, 0, 2, some 1, some 0, [], [1]⟩] } }

theorem test_meets_HangsAndResets :
    notHung 0 0 1 0 (runSt run0 x0) = false ∧ notHung 1 0 1 0 base = false ∧ notHung 8 0 0 0 base = false ∧ notHung 0 0 1 0 base = true ∧ 8 < 9 ∧
    hungBefore hungSt 0 [0, 1] ≠ [] ∧ hungBefore (runSt run0 x0) 0 [0, 1] = [] ∧ base.vig.resets = [] ∧ notHung 0 0 1 0 hungSt = false ∧
    base.pow.under = false ∧ resetAt base 0 2 = none ∧ (resetSt 0).vig.resets = [⟨0, 1, 0, 2, some 1, some 0, [], [1]⟩] ∧ (resetSt 3).pow.under = false ∧
    (2 : Nat) < 65536 ∧ rget base .troubleCycles_count 0 < 2 ^ 32 - 1 ∧ rget base .vigilResetCount_count 4 < 2 ^ 32 - 1 := by decide +kernel

theorem test_escalation_levels : (after (.resetEscalated 0 2) (resetSt 0)).vig.resets.map (·.level) = [2] ∧
    (after (.resetEscalated 3 2) (resetSt 3)).vig.resets.map (·.level) = [4] := by decide +kernel

/-! Straps: slot 5 of a tray of eight; a float in the last strap is no strap value. -/

def straps : List (BitVec 2) := [2, 1, 0, 1, 0, 1, 1, 1]
def bothBad : State := { base with boot := { base.boot with slotA := some ⟨[], [], []⟩ } }
def prefSt (b : Bool) (s : State) : State := { s with boot := { s.boot with prefB := b } }

theorem test_meets_StartsAndShutdowns_power :
    base.boot.powered = false ∧ run1.boot.powered = true ∧ strapDecode (straps.map (·.toNat)) = some (5, 1, 0) ∧
    strapDecode ((straps.set 7 2).map (·.toNat)) = none ∧ slotCheck base true = 1 ∧ slotCheck bothBad false = 1 ∧ slotCheck bothBad true = 1 ∧
    (prefSt true base).boot.prefB = true ∧ base.boot.prefB = false := by decide +kernel

theorem test_meets_StartsAndShutdowns_image : slotCheck base false = 0 ∧ slotCheck (prefSt true base) (!(prefSt true base).boot.prefB) = 0 :=
  ⟨slot_factory _ (by decide +kernel) (by decide +kernel), slot_factory _ (by decide +kernel) (by decide +kernel)⟩

def start1 (s : State) : State := { s with boot := { s.boot with starting := true } }
def found0 : TestFound := ⟨[], [], 0, 0, false⟩
def trig1 : State := { run1 with boot := { run1.boot with trigger := 1 } }
def ember1 : State := rset .mcStatus_phase 0 2 run1

theorem test_meets_StartsAndShutdowns :
    phase base ≠ 1 ∧ phase (start1 run1) = 1 ∧ (start1 run1).boot.starting = true ∧ run1.boot.starting = false ∧
    startHeld (start1 run1) true false true found0 = some 5 ∧ startHeld (start1 run1) true true false found0 = some 9 ∧
    startHeld (start1 run1) true true true found0 = none ∧ startHeld (start1 run1) true true true { found0 with uncovered := true } = some 8 ∧
    run1.boot.trigger < 2 ∧ 2 ≤ ({ run1 with boot := { run1.boot with trigger := 2 } } : State).boot.trigger ∧ run1.boot.trigger = 0 ∧ phase trig1 = 1 ∧
    trig1.boot.trigger ≠ 0 ∧ rget trig1 .pwrState_state 0 ≠ 4 ∧ rget (rset .pwrState_state 0 4 trig1) .pwrState_state 0 = 4 ∧
    rget (rset .pwrState_state 0 2 run1) .pwrState_state 0 = 2 ∧ phase ember1 = 2 ∧ ember1.boot.off = false ∧
    ({ ember1 with boot := { ember1.boot with off := true } } : State).boot.off = true := by decide +kernel

/-- A start after a test that found nothing, and one of a module whose F-die does not answer. -/
theorem test_meets_StartsAndShutdowns_held :
    let s := start1 run1
    startHeld (planIslands true (applyFound found0 s)) true true true found0 = none ∧ quickStart s true = false ∧
    startHeld (planIslands true (applyFound found0 s)) true false true found0 = some 5 := by decide +kernel

theorem test_result_codes : resultCode base found0 = 0 ∧ resultCode base { found0 with spared := 1 } = 1 ∧ resultCode base { found0 with uncovered := true } = 3 := by
  decide +kernel

/-! ### The host interface and the registers -/

/-- VF 1 and VF 2 enabled, context 1 bound to VF 1; a function-level reset of PF 0; a pending vector 7 of VF 1 that is masked. -/
def vfSt : State := setCtx 1 { ctx1 with fn := 1 } (rset .hostifVf_numVfs 0 2 (rset .hostifVf_enable 0 1 base))
def flrSt : State := { base with host := { base.host with flr := [0] } }
def pendSt : State :=
  { vfSt with host := { vfSt.host with msixPend := [(1 * 2048 + 7, true)], msixOpen := [(1 * 2048 + 7, true)], noDma := [(0, 0), (1, 2)] } }

theorem test_meets_HostFunctions :
    fnUp base 1 = false ∧ fnUp vfSt 1 = true ∧ fnUp flrSt 0 = false ∧ sget 1 pendSt.host.noDma 1 = 2 ∧ rget pendSt .hostifLink_up 0 ≠ 0 ∧
    sget false pendSt.host.msixPend (1 * 2048 + 7) = true ∧ sget false pendSt.host.msixOpen (1 * 2048 + 7) = true ∧ fnUp pendSt 1 = true ∧
    rget vfSt .mcStatus_ready 0 ≠ 0 ∧ (ctx? vfSt 1).isSome = true ∧ fnOf vfSt 1 = 1 ∧ (queue? vfSt 1).map (·.ctx) = some 1 ∧ 0 ∉ base.host.flr ∧ 0 ∈ flrSt.host.flr ∧
    (2047 : Nat) < 2048 ∧ noDma { pendSt with host := { pendSt.host with noDma := [(0, 0), (1, 0)] } } 1 = false ∧ 63 < 64 ∧ 30 ≤ 40 ∧
    rget vfSt .hostifVf_enable 0 = 1 ∧ rget base .hostifVf_enable 0 ≠ 1 ∧ fnUp base 0 = true ∧ rget base .hostifVf_enable 0 = 0 ∧ vfsOf vfSt ≠ [] ∧ fnUp vfSt 0 = true ∧
    rget up .hostifLink_up 0 = 0 ∧ rget base .hostifLink_up 0 ≠ 0 ∧ 8 ∈ [16, 8, 4] ∧ 3 ∉ [16, 8, 4] ∧ phase run1 ≠ 0 ∧ phase run1 ≠ 3 ∧ phase base = 0 ∧
    rget run1 .hostifLink_width 0 ≠ 8 ∧ rget base .fdieCxlPort_up 3 ≠ 1 ∧ rget (rset .fdieCxlPort_up 3 1 base) .fdieCxlPort_up 3 = 1 ∧
    sget 0 base.host.cxlMapped 3 ≠ (5 : Word64).toNat ∧ sget 0 base.host.cxlMapped 3 = (0 : Word64).toNat ∧
    (({ vfSt with host := { vfSt.host with flr := [1], disabling := [(1, some 2)] } } : State).host.disabling.find? (fun x => x.1 == 1)) = some (1, some 2) := by
  decide +kernel

theorem test_messages_wait_for_dma : (after (.d0Entry 1) pendSt).io.outbox = [.msix 1 7] ∧ (after (.busMasterEnableSet 1) pendSt).io.outbox = [] := by decide +kernel

def latchSt : State := { base with io := { base.io with latch := [(0, 0x0C, 9)] } }

theorem test_meets_RegisterAccesses :
    fnUp base 1 = false ∧ fnUp base 0 = true ∧ 6 % 4 ≠ 0 ∧ 8 % 8 = 0 ∧ 0x0C % 8 = 4 ∧ sget? latchSt.io.latch 0 = some (0x0C, 9) ∧ sget? base.io.latch 0 = none ∧
    fnUp vfSt 1 = true ∧ (0x8000 : Nat) < 0x10000000 ∧ rget State.reset .mcStatus_ready 0 = 0 ∧ ¬ (0x110000 ≤ 0x00200010 ∧ 0x00200010 < 0x118100) ∧ 1 < blockOf 0x00200010 ∧
    rget base .mcStatus_ready 0 ≠ 0 ∧ rget base .vigilStatus_hangSeen 0 ≤ 1 ∧ rget base .vigilStatus_escalationSeen 0 ≤ 1 ∧
    (1 : Word64).getLsbD 0 = true ∧ (0 : Word64).getLsbD 0 = false := by decide +kernel

theorem test_register_write_in_range : rget (after (.registerWrite 0 0x00D00008 8 9) base) .vigilCtl_hangMs 0 = rget base .vigilCtl_hangMs 0 ∧
    rget (after (.registerWrite 0 0x00D00008 8 10) base) .vigilCtl_hangMs 0 = 10 := by decide +kernel

theorem test_high_half_is_latched : (after (.halfReadLatch 0 0x0C) latchSt).io.readData = [9, 0, 0, 0] := by decide +kernel

/-! ### The management interface -/

def hostSt (f : HostIf → HostIf) : State := { run1 with host := f run1.host }
def bootSt (f : Boot → Boot) : State := { run1 with boot := f run1.boot }

theorem test_meets_ManagementMessages :
    reachable? base true = false ∧ reachable? base false = false ∧ serveVendor run1 true 1 = .refused ∧ serveVendor run1 true 3 = .served ∧
    [1, 2, 3, 4, 5, 6].all (fun n => serveVendor run1 false n == .served) = true ∧ 4000 ≤ (7200 : BitVec 16).toNat ∧ (7200 : BitVec 16).toNat ≤ 7200 ∧
    7200 < (7201 : BitVec 16).toNat ∧ rget run1 .mcStatus_ready 0 = 1 ∧ rget (rset .mcStatus_ready 0 0 run1) .mcStatus_ready 0 ≠ 1 ∧
    serveVendor (rset .mcStatus_ready 0 0 run1) false 2 = .served ∧ ¬ (rget run1 .almanacSeq_seq 0 < (0 : Word64).toNat ∨ 1024 < 1024 ∨ 65536 < 64512 + 1024) ∧
    1024 < (1025 : BitVec 16).toNat ∧ run1.boot.nonce = none ∧ (bootSt (fun b => { b with nonce := some [1] })).boot.nonce = some [1] ∧
    (bootSt (fun b => { b with unlockAt := some (lcountOf run1 0) })).boot.unlockAt.elim false (fun t => decide (lcountOf run1 0 < t + 10000000000)) = true ∧
    run1.boot.unlockAt.elim false (fun t => decide (lcountOf run1 0 < t + 10000000000)) = false ∧ unlockOk run1 [] [] = false ∧
    serveType run1 false 0 = .served ∧ serveType run1 true 1 = .served ∧ 8 ≤ (8 : BitVec 8).toNat ∧ (8 : BitVec 8).toNat ≠ 255 ∧ (255 : BitVec 8).toNat = 255 ∧
    (7 : BitVec 8).toNat < 8 ∧ run1.boot.powered = true ∧ (0x30 : BitVec 7).toNat = 0x30 + ownSlot run1 ∧ (0x31 : BitVec 7).toNat ≠ 0x30 + ownSlot run1 ∧
    (18 : BitVec 16).toNat ∈ numericSensors ∧ (19 : BitVec 16).toNat ∉ numericSensors ∧ (35 : BitVec 16).toNat ∈ stateSensors ∧ (36 : BitVec 16).toNat ∉ stateSensors ∧
    phase base = 0 ∧ phase run1 ≠ 0 ∧ inModuleReset run1 = false ∧ inModuleReset (resetSt 4) = true ∧ run1.host.eventReceiver = none ∧
    (hostSt (fun x => { x with eventReceiver := some 9 })).host.eventReceiver = some 9 := by decide +kernel

/-- What the service key pairs answer is not the module's to choose (Config); where they accept, the unlock is accepted. -/
theorem test_meets_ManagementMessages_unlock (ed ml : List Byte)
    (h1 : Config.edVerify Config.serviceEd (leBytes 8 serialDigest ++ [1] ++ ascii "unlock") ed = true)
    (h2 : Config.mlVerify Config.serviceMl [] (leBytes 8 serialDigest ++ [1] ++ ascii "unlock") ml = true)
    (h3 : sha256 (Config.serviceEd ++ Config.serviceMl) = (List.range 32).map Config.serviceHash) :
    unlockOk (bootSt (fun b => { b with nonce := some [1] })) ed ml = true := by
  have h0 : (bootSt (fun b => { b with nonce := some [1] })).boot.nonce = some [1] := rfl
  simp only [unlockOk, h0, Option.getD_some, Option.isSome_some, h1, h2, h3, Bool.and_self, beq_self_eq_true]

theorem test_unlock_attempt : ((after (.unlock false [] []) run1).boot.tapOpen, (after (.unlock false [] []) run1).boot.nonceNo) = (false, 1) := by decide +kernel

theorem test_meets_DeviceAttestation :
    serveType run1 false 5 = .served ∧ run1.host.transcript = [] ∧ (hostSt (fun x => { x with transcript := [1] })).host.transcript ≠ [] ∧
    run1.host.negotiated = false ∧ (hostSt (fun x => { x with negotiated := true })).host.negotiated = true ∧ (1 : BitVec 8) ≠ 0 ∧
    measured (6 : BitVec 8).toNat = none ∧ measured (5 : BitVec 8).toNat = some [5] ∧ measured (0 : BitVec 8).toNat = some [] ∧ run1.host.spdmLast = none ∧
    (hostSt (fun x => { x with spdmLast := some [1] })).host.spdmLast = some [1] ∧ (0 : BitVec 8).toNat = run1.host.chunkNo ∧ run1.host.chunk = [] ∧
    (1 : BitVec 8).toNat ≠ run1.host.chunkNo ∧
    ((hostSt (fun x => { x with chunk := List.replicate 5000 1 })).host.chunk.drop (4096 * (1 : BitVec 16).toNat)).take 4096 ≠ [] := by decide +kernel

theorem test_meets_DeviceAttestation_chain (h : 0 < Config.certLen) : (0 : BitVec 16).toNat < chain.length := by
  simpa [chain] using h

end Sys2Proof.Tests
end

section
/-! PROOFS. The running digest (R220): the reflected register that `crcByte` steps is the reversal of the register that the rule speaks of, which takes
one bit of input at a time at its high end. -/

namespace Sys2Proof.Machine

/-! ### Reversal of bit vectors -/

theorem reverse_xor {w : Nat} (x y : BitVec w) : (x ^^^ y).reverse = x.reverse ^^^ y.reverse := by
  ext i hi
  simp only [← BitVec.getLsbD_eq_getElem, BitVec.getLsbD_reverse, BitVec.getMsbD_xor, BitVec.getLsbD_xor]

theorem reverse_reverse {w : Nat} (x : BitVec w) : x.reverse.reverse = x := by
  ext i hi
  simp only [← BitVec.getLsbD_eq_getElem, BitVec.getLsbD_reverse, BitVec.getMsbD_reverse]

theorem reverse_zero {w : Nat} : (0 : BitVec w).reverse = 0 := by
  ext i hi
  rw [← BitVec.getLsbD_eq_getElem, BitVec.getLsbD_reverse]
  simp

theorem reverse_allOnes {w : Nat} : (BitVec.allOnes w).reverse = BitVec.allOnes w := by
  ext i hi
  rw [← BitVec.getLsbD_eq_getElem, BitVec.getLsbD_reverse, BitVec.getMsbD_eq_getLsbD]
  simp [hi]; omega

/-- The reversal turns a shift to the right into one to the left. -/
theorem reverse_ushiftRight_one {w : Nat} (x : BitVec w) : (x >>> 1).reverse = x.reverse <<< 1 := by
  ext i hi
  rw [← BitVec.getLsbD_eq_getElem, ← BitVec.getLsbD_eq_getElem, BitVec.getLsbD_reverse, BitVec.getMsbD_ushiftRight, BitVec.getLsbD_shiftLeft,
    BitVec.getLsbD_reverse]
  simp [hi]

/-! ### The two registers take one bit of input -/

/-- A CRC register that is not reflected takes one bit of input: it shifts towards its high end, and the polynomial is subtracted when the bit that leaves
differs from the input. -/
def crcShift {w : Nat} (poly r : BitVec w) (x : Bool) : BitVec w := (r <<< 1) ^^^ (if r.msb = x then 0 else poly)

/-- A reflected CRC register takes one bit of input. -/
def crcFeed {w : Nat} (poly r : BitVec w) (x : Bool) : BitVec w := (r >>> 1) ^^^ (if r.getLsbD 0 = x then 0 else poly)

/-- The bits of a byte from the lowest up, the order in which reflected input is taken. -/
def bitsUp (b : Byte) : List Bool := (List.range 8).map (fun i => b.getLsbD i)

theorem crcFeed_reverse {w : Nat} (poly r : BitVec w) (x : Bool) : (crcFeed poly.reverse r x).reverse = crcShift poly r.reverse x := by
  rw [crcFeed, crcShift, reverse_xor, reverse_ushiftRight_one, BitVec.msb_reverse, apply_ite BitVec.reverse, reverse_reverse,
    reverse_zero]

theorem foldl_crcFeed_reverse {w : Nat} (poly r : BitVec w) (l : List Bool) :
    (l.foldl (crcFeed poly.reverse) r).reverse = l.foldl (crcShift poly) r.reverse := by
  induction l generalizing r with
  | nil => rfl
  | cons x l ih => rw [List.foldl_cons, ih, crcFeed_reverse, List.foldl_cons]

/-! ### A byte is its eight bits -/

/-- Input that was added to the register ahead of its turn: the lowest bit is fed now, the rest is still ahead. -/
theorem crcBit_xor {w : Nat} (poly r d : BitVec w) : crcBit poly (r ^^^ d) = crcFeed poly r (d.getLsbD 0) ^^^ (d >>> 1) := by
  rw [crcBit, crcFeed, BitVec.getLsbD_xor, BitVec.ushiftRight_xor_distrib]
  by_cases h : r.getLsbD 0 = d.getLsbD 0
  · simp [h]
  · rw [if_pos (bne_iff_ne.mpr h), if_neg h, BitVec.xor_assoc, BitVec.xor_assoc, BitVec.xor_comm poly]

/-- After `n` steps the lowest `n` bits of the input added at the start have been fed, one for each step. -/
theorem foldl_crcBit_xor {w : Nat} (poly r d : BitVec w) (n : Nat) :
    (List.range n).foldl (fun r _ => crcBit poly r) (r ^^^ d) =
      ((List.range n).map (fun i => d.getLsbD i)).foldl (crcFeed poly) r ^^^ (d >>> n) := by
  induction n with
  | zero => simp
  | succ n ih =>
    rw [List.range_succ, List.foldl_append, ih, List.map_append, List.foldl_append, List.foldl_cons, List.foldl_nil, crcBit_xor,
      BitVec.getLsbD_ushiftRight, BitVec.shiftRight_add]
    rfl

theorem crcByte_eq_foldl_crcFeed (poly r : BitVec 64) (b : Byte) : crcByte poly r b = (bitsUp b).foldl (crcFeed poly) r := by
  have hrest : b.zeroExtend 64 >>> 8 = 0#64 := by
    ext i hi
    simp
  have hbits : (List.range 8).map (fun i => (b.zeroExtend 64).getLsbD i) = bitsUp b :=
    List.map_congr_left fun i hi => by simp at hi ⊢; omega
  rw [crcByte, foldl_crcBit_xor, hrest, hbits, BitVec.xor_zero]

/-! ### The digest -/

/-- The register of R220 after a run of bytes. -/
def crcRun (r : BitVec 64) (b : List Byte) : BitVec 64 := (b.flatMap bitsUp).foldl (crcShift 0x42F0E1EBA9EA3693#64) r

theorem crcRun_append (r : BitVec 64) (a b : List Byte) : crcRun r (a ++ b) = crcRun (crcRun r a) b := by
  rw [crcRun, List.flatMap_append, List.foldl_append]; rfl

theorem reverse_digestPoly : (0x42F0E1EBA9EA3693#64).reverse = 0xC96C5795D7870F42#64 := by decide +kernel

theorem foldl_crcByte_reverse (r : BitVec 64) (b : List Byte) :
    (b.foldl (crcByte 0xC96C5795D7870F42#64) r).reverse = crcRun r.reverse b := by
  have hbytes : crcByte 0xC96C5795D7870F42#64 = fun r y => (bitsUp y).foldl (crcFeed 0xC96C5795D7870F42#64) r := by
    funext r y; exact crcByte_eq_foldl_crcFeed _ r y
  rw [hbytes, ← List.foldl_flatMap, ← reverse_digestPoly, foldl_crcFeed_reverse, crcRun]

/-- The digest is the register reversed and inverted. -/
theorem runDigest_eq (b : List Byte) : runDigest b = (~~~(crcRun (BitVec.allOnes 64) b).reverse).toNat := by
  have hreg := foldl_crcByte_reverse (BitVec.allOnes 64) b
  rw [reverse_allOnes] at hreg
  rw [← hreg, reverse_reverse, runDigest, BitVec.xor_allOnes]

theorem runDigest_testBit (b : List Byte) (k : Nat) (hk : k < 64) :
    (runDigest b).testBit k = !(crcRun (BitVec.allOnes 64) b).getLsbD (63 - k) := by
  rw [runDigest_eq, BitVec.testBit_toNat, BitVec.getLsbD_not, BitVec.getLsbD_reverse, BitVec.getMsbD_eq_getLsbD]
  simp [hk]

/-- Settles O6: the reflected register of the model is the reversal of the register of R220 (`foldl_crcByte_reverse`). -/
theorem runningDigest : Obligations.RunningDigest :=
  ⟨runDigest_testBit, fun _ => BitVec.isLt _, crcRun_append, by decide +kernel, by decide⟩

end Sys2Proof.Machine
end

section
/-! PROOFS. The seal of a power stage fault's record (R340). The record is under seal once it is staged and the open block is told to be sealed, and what
the same command stages and seals after it (the GRADE record of R355) leaves it there. -/

namespace Sys2Proof.Machine

/-! ### A record under seal -/

/-- A record is in the block that is being sealed, or in the open block that is sealed after it (R353). -/
def UnderSeal (r : AlmRec) (a : Alm) : Prop :=
  ∃ l fl, a.sealing = some (l, fl) ∧ (r ∈ l ∨ (r ∈ a.staged ∧ a.sealNext = true))

/-- No record is lost where the room of a block divides those that are staged. -/
theorem blockPart_append (l : List AlmRec) (room : Nat) : (blockPart l room).1 ++ (blockPart l room).2 = l := by
  induction l generalizing room with
  | nil => rfl
  | cons r rs ih =>
    unfold blockPart
    split
    · exact congrArg (r :: ·) (ih _)
    · rfl

/-- A record of a type that the tail takes is in the open block once it is staged, whether it fits that block or starts it. -/
theorem mem_staged_almStage (r : AlmRec) (s : State) (ht : tailType r.typ = true) : r ∈ (almStage r s).alm.staged := by
  unfold almStage
  repeat' split
  · next hdrop => simp [ht] at hdrop
  · exact List.mem_singleton_self r
  · exact List.mem_append_right _ (List.mem_singleton_self r)
  · exact List.mem_append_right _ (List.mem_singleton_self r)

theorem mem_staged_almMod (typ src : Nat) (body : List Byte) (s : State) (ht : tailType typ = true) :
    ∃ r, r.typ = typ ∧ r.body = body ∧ r ∈ (almMod typ src body s).alm.staged :=
  ⟨_, rfl, rfl, mem_staged_almStage _ s ht⟩

/-- A seal puts every record of the open block under seal: what the next block has no room for follows it. -/
theorem underSeal_almSeal_of_mem {r : AlmRec} {s : State} (flags : Nat) (hr : r ∈ s.alm.staged) : UnderSeal r (almSeal flags s).alm := by
  unfold almSeal
  by_cases hs : s.alm.sealing.isSome = true
  · obtain ⟨⟨l, fl⟩, hl⟩ := Option.isSome_iff_exists.mp hs
    rw [if_pos hs]
    exact ⟨l, fl, hl, .inr ⟨hr, rfl⟩⟩
  · rw [if_neg hs]
    dsimp only
    split
    · exact ⟨_, _, rfl, .inl hr⟩
    · rw [← blockPart_append s.alm.staged 61952, List.mem_append] at hr
      exact ⟨_, _, rfl, hr.imp_right fun h => ⟨h, rfl⟩⟩

/-! ### A record stays under seal -/

theorem underSeal_almStage {r : AlmRec} {s : State} (x : AlmRec) (h : UnderSeal r s.alm) : UnderSeal r (almStage x s).alm := by
  obtain ⟨l, fl, hl, hr⟩ := h
  unfold almStage
  repeat' split
  · exact ⟨l, fl, hl, hr⟩
  · next hnone => simp [hl] at hnone
  · exact ⟨l, fl, hl, hr.imp_right fun hn => ⟨List.mem_append_left _ hn.1, rfl⟩⟩
  · exact ⟨l, fl, hl, hr.imp_right fun hn => ⟨List.mem_append_left _ hn.1, hn.2⟩⟩

theorem underSeal_almSeal {r : AlmRec} {s : State} (flags : Nat) (h : UnderSeal r s.alm) : UnderSeal r (almSeal flags s).alm := by
  obtain ⟨l, fl, hl, hr⟩ := h
  unfold almSeal
  rw [if_pos (by rw [hl]; rfl)]
  exact ⟨l, fl, hl, hr.imp_right fun hn => ⟨hn.1, rfl⟩⟩

theorem underSeal_gradeRecord {r : AlmRec} {s : State} (h : UnderSeal r s.alm) : UnderSeal r (gradeRecord s).alm :=
  underSeal_almSeal 2 (underSeal_almStage _ h)

theorem underSeal_refreshPools {r : AlmRec} {s : State} (h : UnderSeal r s.alm) : UnderSeal r (refreshPools s).alm := by
  unfold refreshPools
  dsimp only
  split
  · simpa using h
  · rw [raise0_alm]
    exact underSeal_gradeRecord (by simpa using h)

@[simp] theorem setHard_alm (s : State) : (setHard s).alm = s.alm := by simp [setHard]

@[simp] theorem retireEvent_alm (body : List Byte) (s : State) : (retireEvent body s).alm = s.alm := by simp [retireEvent]

/-! ### Substitutions and stage faults -/

/-- The SUBSTITUTION records of clusters, channels and stages seal (R353). -/
theorem substRec_underSeal {kind : Nat} (hk : kind = kCluster ∨ kind = kChannel ∨ kind = kStage) (die reason outcome logical old new : Nat) (s : State) :
    ∃ r, r.typ = 6 ∧ r.body = substBody kind die reason outcome logical old new ∧
      UnderSeal r (substRec kind die reason outcome logical old new s).alm := by
  obtain ⟨r, htyp, hbody, hr⟩ := mem_staged_almMod 6 0xC (substBody kind die reason outcome logical old new) s rfl
  refine ⟨r, htyp, hbody, ?_⟩
  unfold substRec
  rw [if_pos (by simpa [or_assoc] using hk)]
  exact underSeal_almSeal_of_mem 2 (by split <;> simpa using hr)

theorem substDone_underSeal {kind : Nat} (hk : kind = kCluster ∨ kind = kChannel ∨ kind = kStage) (die reason outcome logical old new : Nat) (s : State) :
    ∃ r, r.typ = 6 ∧ r.body = substBody kind die reason outcome logical old new ∧
      UnderSeal r (substDone kind die reason outcome logical old new s).alm := by
  obtain ⟨r, htyp, hbody, hr⟩ := substRec_underSeal hk die reason outcome logical old new s
  exact ⟨r, htyp, hbody, underSeal_refreshPools (by simpa using hr)⟩

/-- What the Almanac holds after a stage fault that is not known yet is what its substitution leaves there. -/
theorem execPowerStageFault_alm {rail stage : Nat} {s : State} (hnew : rail * 64 + stage ∉ s.sp.stagesOff) (hst : stage < 64) :
    ∃ t, execPowerStageFault rail stage s = .next t ∧ t.alm = (substDone kStage 0xFF 7 2 rail stage stage
      { s with sp := { s.sp with stagesOff := s.sp.stagesOff ++ [rail * 64 + stage] } }).alm := by
  refine ⟨_, rfl, ?_⟩
  rw [if_neg (by simp [hnew, hst])]
  dsimp only
  split
  · exact setHard_alm _
  · rfl

/-- Settles O51: the record of the stage's substitution is under seal, by `substDone_underSeal`. -/
theorem powerStageFaultsAreSealed : Obligations.PowerStageFaultsAreSealed := by
  intro s rail stage hnew hst
  obtain ⟨t, ht, halm⟩ := execPowerStageFault_alm hnew hst
  obtain ⟨r, htyp, hbody, hr⟩ := substDone_underSeal (kind := kStage) (.inr (.inr rfl)) 0xFF 7 2 rail stage stage
    { s with sp := { s.sp with stagesOff := s.sp.stagesOff ++ [rail * 64 + stage] } }
  rw [← halm] at hr
  exact ⟨t, ht, r, htyp, hbody, hr⟩

end Sys2Proof.Machine
end

section
/-! PROOFS. The words of kernels and the instructions that they spell (R111, R126): fields, class by class, and both directions. -/

namespace Sys2Proof.Machine

open BitVec

/-! ### Fields out of joined fields. These are the library's lemmas, not indexed by the width: the widths of a format are numerals. -/

theorem extract_lower {v w k n : Nat} {x : BitVec v} {y : BitVec w} (h : k + n ≤ w) :
    (no_index (x ++ y)).extractLsb' k n = y.extractLsb' k n := extractLsb'_append_eq_of_add_le h

theorem extract_upper {v w k n : Nat} {x : BitVec v} {y : BitVec w} (h : w ≤ k) :
    (no_index (x ++ y)).extractLsb' k n = x.extractLsb' (k - w) n := extractLsb'_append_eq_of_le h

theorem append_extracts {v k j n m : Nat} {x : BitVec v} (h : k = j + n) :
    (no_index (x.extractLsb' k m ++ x.extractLsb' j n)) = x.extractLsb' j (m + n) := extractLsb'_append_extractLsb'_eq_extractLsb' h

/-! ### The fields of a format -/

@[simp] theorem wS_opWord (c : BitVec 5) (o : BitVec 7) (f : FmtS) : wS (opWord c o (bS f)) = f := by
  simp [wS, opWord, bS, extract_lower, extract_upper]

@[simp] theorem bS_wS (w : Word64) : bS (wS w) = w.extractLsb' 0 52 := by
  simp [wS, bS, append_extracts]

@[simp] theorem wSI_opWord (c : BitVec 5) (o : BitVec 7) (f : FmtSI) : wSI (opWord c o (bSI f)) = f := by
  simp [wSI, opWord, bSI, extract_lower, extract_upper]

@[simp] theorem bSI_wSI (w : Word64) : bSI (wSI w) = w.extractLsb' 0 52 := by
  simp [wSI, bSI, append_extracts]

@[simp] theorem wSM_opWord (c : BitVec 5) (o : BitVec 7) (f : FmtSM) : wSM (opWord c o (bSM f)) = f := by
  simp [wSM, opWord, bSM, extract_lower, extract_upper]

@[simp] theorem bSM_wSM (w : Word64) : bSM (wSM w) = w.extractLsb' 0 52 := by
  simp [wSM, bSM, append_extracts]

@[simp] theorem wB_opWord (c : BitVec 5) (o : BitVec 7) (f : FmtB) : wB (opWord c o (bB f)) = f := by
  simp [wB, opWord, bB, extract_lower, extract_upper]

@[simp] theorem bB_wB (w : Word64) : bB (wB w) = w.extractLsb' 0 52 := by
  simp [wB, bB, append_extracts]

@[simp] theorem wV_opWord (c : BitVec 5) (o : BitVec 7) (f : FmtV) : wV (opWord c o (bV f)) = f := by
  simp [wV, opWord, bV, extract_lower, extract_upper]

@[simp] theorem bV_wV (w : Word64) : bV (wV w) = w.extractLsb' 0 52 := by
  simp [wV, bV, append_extracts]

@[simp] theorem wC_opWord (c : BitVec 5) (o : BitVec 7) (f : FmtC) : wC (opWord c o (bC f)) = f := by
  simp [wC, opWord, bC, extract_lower, extract_upper]

@[simp] theorem bC_wC (w : Word64) : bC (wC w) = w.extractLsb' 0 52 := by
  simp [wC, bC, append_extracts]

@[simp] theorem wX_opWord (c : BitVec 5) (o : BitVec 7) (f : FmtX) : wX (opWord c o (bX f)) = f := by
  simp [wX, opWord, bX, extract_lower, extract_upper]

@[simp] theorem bX_wX (w : Word64) : bX (wX w) = w.extractLsb' 0 52 := by
  simp [wX, bX, append_extracts]

/-! ### The class and the op -/

@[simp] theorem opWord_class (c : BitVec 5) (o : BitVec 7) (b : BitVec 52) : (opWord c o b).extractLsb' 59 5 = c := by
  simp [opWord, extract_upper]

@[simp] theorem opWord_op (c : BitVec 5) (o : BitVec 7) (b : BitVec 52) : (opWord c o b).extractLsb' 52 7 = o := by
  simp [opWord, extract_lower, extract_upper]

theorem opWord_fields (w : Word64) : opWord (w.extractLsb' 59 5) (w.extractLsb' 52 7) (w.extractLsb' 0 52) = w := by
  simp [opWord, append_extracts]

@[simp] theorem mtxWord_class (o : BitVec 4) (f : FmtM) : (mtxWord o f).extractLsb' 59 5 = 0b11100#5 := by
  simp [mtxWord, extract_upper]

@[simp] theorem mtxWord_op (o : BitVec 4) (f : FmtM) : (mtxWord o f).extractLsb' 55 4 = o := by
  simp [mtxWord, extract_lower, extract_upper]

@[simp] theorem wM_mtxWord (o : BitVec 4) (f : FmtM) : wM (mtxWord o f) = f := by
  simp [wM, mtxWord, extract_lower, extract_upper]

theorem mtxWord_fields (w : Word64) (h : w.extractLsb' 59 5 = 0b11100#5) : mtxWord (w.extractLsb' 55 4) (wM w) = w := by
  simp [mtxWord, wM, ← h, append_extracts]


/-! ### Both directions -/

theorem eq_ofNat_of_toNat {w n : Nat} {o : BitVec w} (h : o.toNat = n) : o = BitVec.ofNat w n := by
  rw [← h, ofNat_toNat, setWidth_eq]

/-! ### Each class: the word of what an op is decoded to -/

theorem instrWord_sysInstr {e : Eng} {f : FmtSI} {o : BitVec 7} {i : Instr} (h : sysInstr e f o.toNat = some i) :
    instrWord i = some (e, opWord 0b00000 o (bSI f)) := by
  unfold sysInstr at h
  split at h <;> cases h <;> simp [instrWord, eq_ofNat_of_toNat ‹_›]

theorem instrWord_saluInstr {e : Eng} {f : FmtS} {o : BitVec 7} {i : Instr} (h : saluInstr e f o.toNat = some i) :
    instrWord i = some (e, opWord 0b00001 o (bS f)) := by
  unfold saluInstr at h
  split at h <;> cases h <;> simp [instrWord, eq_ofNat_of_toNat ‹_›]

theorem instrWord_saluiInstr {e : Eng} {f : FmtSI} {o : BitVec 7} {i : Instr} (h : saluiInstr e f o.toNat = some i) :
    instrWord i = some (e, opWord 0b00010 o (bSI f)) := by
  unfold saluiInstr at h
  split at h <;> cases h <;> simp [instrWord, eq_ofNat_of_toNat ‹_›]

theorem instrWord_smemInstr {e : Eng} {f : FmtSM} {o : BitVec 7} {i : Instr} (h : smemInstr e f o.toNat = some i) :
    instrWord i = some (e, opWord 0b00011 o (bSM f)) := by
  unfold smemInstr at h
  split at h <;> cases h <;> simp [instrWord, eq_ofNat_of_toNat ‹_›]

theorem instrWord_brInstr {e : Eng} {f : FmtB} {o : BitVec 7} {i : Instr} (h : brInstr e f o.toNat = some i) :
    instrWord i = some (e, opWord 0b00100 o (bB f)) := by
  unfold brInstr at h
  split at h <;> cases h <;> simp [instrWord, eq_ofNat_of_toNat ‹_›]

theorem instrWord_valuInstr {e : Eng} {f : FmtV} {o : BitVec 7} {i : Instr} (h : valuInstr e f o.toNat = some i) :
    instrWord i = some (e, opWord 0b01000 o (bV f)) := by
  unfold valuInstr at h
  split at h <;> cases h <;> simp [instrWord, eq_ofNat_of_toNat ‹_›]

theorem instrWord_vcmpInstr {e : Eng} {f : FmtV} {o : BitVec 7} {i : Instr} (h : vcmpInstr e f o.toNat = some i) :
    instrWord i = some (e, opWord 0b01001 o (bV f)) := by
  unfold vcmpInstr at h
  split at h <;> cases h <;> simp [instrWord, eq_ofNat_of_toNat ‹_›]

theorem instrWord_vmemInstr {e : Eng} {f : FmtV} {o : BitVec 7} {i : Instr} (h : vmemInstr e f o.toNat = some i) :
    instrWord i = some (e, opWord 0b01010 o (bV f)) := by
  unfold vmemInstr at h
  split at h <;> cases h <;> simp [instrWord, eq_ofNat_of_toNat ‹_›]

theorem instrWord_vfunInstr {e : Eng} {f : FmtV} {o : BitVec 7} {i : Instr} (h : vfunInstr e f o.toNat = some i) :
    instrWord i = some (e, opWord 0b01011 o (bV f)) := by
  unfold vfunInstr at h
  split at h <;> cases h <;> simp [instrWord, eq_ofNat_of_toNat ‹_›]

theorem instrWord_vredInstr {e : Eng} {f : FmtV} {o : BitVec 7} {i : Instr} (h : vredInstr e f o.toNat = some i) :
    instrWord i = some (e, opWord 0b01100 o (bV f)) := by
  unfold vredInstr at h
  split at h <;> cases h <;> simp [instrWord, eq_ofNat_of_toNat ‹_›]

theorem instrWord_vwideInstr {e : Eng} {f : FmtV} {o : BitVec 7} {i : Instr} (h : vwideInstr e f o.toNat = some i) :
    instrWord i = some (e, opWord 0b01101 o (bV f)) := by
  unfold vwideInstr at h
  split at h <;> cases h <;> simp [instrWord, eq_ofNat_of_toNat ‹_›]

theorem instrWord_vcvtInstr {e : Eng} {f : FmtC} {o : BitVec 7} {i : Instr} (h : vcvtInstr e f o.toNat = some i) :
    instrWord i = some (e, opWord 0b01110 o (bC f)) := by
  unfold vcvtInstr at h
  split at h <;> cases h <;> simp [instrWord, eq_ofNat_of_toNat ‹_›]

theorem instrWord_xferInstr {e : Eng} {f : FmtX} {o : BitVec 7} {i : Instr} (h : xferInstr e f o.toNat = some i) :
    instrWord i = some (e, opWord 0b10000 o (bX f)) := by
  unfold xferInstr at h
  split at h <;> cases h <;> simp [instrWord, eq_ofNat_of_toNat ‹_›]

theorem instrWord_strmInstr {e : Eng} {f : FmtX} {o : BitVec 7} {i : Instr} (h : strmInstr e f o.toNat = some i) :
    instrWord i = some (e, opWord 0b10001 o (bX f)) := by
  unfold strmInstr at h
  split at h <;> cases h <;> simp [instrWord, eq_ofNat_of_toNat ‹_›]

theorem instrWord_mtxInstr {e : Eng} {f : FmtM} {o : BitVec 4} {i : Instr} (h : mtxInstr e f o.toNat = some i) :
    instrWord i = some (e, mtxWord o f) := by
  unfold mtxInstr at h
  split at h <;> cases h <;> simp [instrWord, eq_ofNat_of_toNat ‹_›]

/-- A word is its class, its op and its other 52 bits. -/
theorem some_opWord {e : Eng} {w : Word64} {n : Nat} {b : BitVec 52} (hc : (w.extractLsb' 59 5).toNat = n) (hb : b = w.extractLsb' 0 52) :
    some (e, opWord (BitVec.ofNat 5 n) (w.extractLsb' 52 7) b) = some (e, w) := by
  rw [← eq_ofNat_of_toNat hc, hb, opWord_fields]

/-- A word that is decoded is the word of what it is decoded to. -/
theorem instrWord_of_wordInstr {i : Instr} {e : Eng} {w : Word64} (h : wordInstr e w = some i) : instrWord i = some (e, w) := by
  unfold wordInstr at h
  split at h
  next hc => exact (instrWord_sysInstr h).trans (some_opWord hc (bSI_wSI w))
  next hc => exact (instrWord_saluInstr h).trans (some_opWord hc (bS_wS w))
  next hc => exact (instrWord_saluiInstr h).trans (some_opWord hc (bSI_wSI w))
  next hc => exact (instrWord_smemInstr h).trans (some_opWord hc (bSM_wSM w))
  next hc => exact (instrWord_brInstr h).trans (some_opWord hc (bB_wB w))
  next hc => exact (instrWord_valuInstr h).trans (some_opWord hc (bV_wV w))
  next hc => exact (instrWord_vcmpInstr h).trans (some_opWord hc (bV_wV w))
  next hc => exact (instrWord_vmemInstr h).trans (some_opWord hc (bV_wV w))
  next hc => exact (instrWord_vfunInstr h).trans (some_opWord hc (bV_wV w))
  next hc => exact (instrWord_vredInstr h).trans (some_opWord hc (bV_wV w))
  next hc => exact (instrWord_vwideInstr h).trans (some_opWord hc (bV_wV w))
  next hc => exact (instrWord_vcvtInstr h).trans (some_opWord hc (bC_wC w))
  next hc => exact (instrWord_xferInstr h).trans (some_opWord hc (bX_wX w))
  next hc => exact (instrWord_strmInstr h).trans (some_opWord hc (bX_wX w))
  next hc => rw [instrWord_mtxInstr h, mtxWord_fields w (eq_ofNat_of_toNat hc)]
  next => cases h

/-- The word of an instruction is decoded to it: its class, its op and its fields are read back. -/
theorem wordInstr_of_instrWord {i : Instr} {e : Eng} {w : Word64} (h : instrWord i = some (e, w)) : wordInstr e w = some i := by
  cases i <;> cases h <;> simp [wordInstr] <;> rfl

/-- Settles O3: each direction class by class (`instrWord_of_wordInstr`, `wordInstr_of_instrWord`). -/
theorem wordsDecodeAndEncode : Obligations.WordsDecodeAndEncode :=
  ⟨fun _ _ _ h => wordInstr_of_instrWord h, fun _ _ _ h => instrWord_of_wordInstr h⟩

end Sys2Proof.Machine
end

section
/-! PROOFS. What a step does with the queue of commands. -/

namespace Sys2Proof.Machine

theorem step_cons {c : Instr} {rest : List Instr} {s : State} (h : s.pending = c :: rest) : step s = exec c { s with pending := rest } := by
  unfold step; rw [h]

theorem step_nil {s : State} (h : s.pending = []) : step s = .next (tickCount 0 s) := by
  unfold step; rw [h]

/-- A tick moves the block's own count on, by one at least (R178), and no other. -/
theorem lcount_tickCount (blk b : Nat) (s : State) : sget 0 (tickCount blk s).lcount b =
    if b = blk then sget 0 s.lcount blk + 1 + Config.countAdvance s.free else sget 0 s.lcount b := sget_sset ..

/-- Settles O1: an empty queue is the tick of block 0 (`lcount_tickCount`). -/
theorem stepRunsTheFrontCommand : Obligations.StepRunsTheFrontCommand := by
  refine ⟨fun c rest s h => step_cons h, fun s h => ⟨_, step_nil h, ?_, rfl, fun b hb => ?_⟩⟩
  · rw [lcount_tickCount, if_pos rfl]; omega
  · rw [lcount_tickCount, if_neg hb]

end Sys2Proof.Machine
end

section
/-! PROOFS. Ranges of bytes: reads and writes of the sparse map part by part, and the 64-byte lines that a range touches. -/

namespace Sys2Proof.Machine

/-! ### Parts of a range -/

section
variable {α : Type}

theorem sgetN_add (d : α) (m : SMap α) (k n j : Nat) : sgetN d m k (n + j) = sgetN d m k n ++ sgetN d m (k + n) j := by
  induction n generalizing k with
  | zero => simp [sgetN]
  | succ n ih => rw [Nat.succ_add, sgetN, ih, sgetN, List.cons_append, Nat.add_assoc, Nat.add_comm 1]

theorem getElem?_sgetN (d : α) (m : SMap α) (k n i : Nat) : (sgetN d m k n)[i]? = if i < n then some (sget d m (k + i)) else none := by
  induction n generalizing k i with
  | zero => simp [sgetN]
  | succ n ih =>
    cases i with
    | zero => simp [sgetN]
    | succ i => simp [sgetN, ih, Nat.add_assoc, Nat.add_comm 1]

theorem sgetN_congr {d : α} {m m' : SMap α} {k k' n : Nat} (h : ∀ i, i < n → sget d m (k + i) = sget d m' (k' + i)) :
    sgetN d m k n = sgetN d m' k' n := by
  apply List.ext_getElem?
  intro i
  rw [getElem?_sgetN, getElem?_sgetN]
  split
  · next hi => rw [h i hi]
  · rfl

variable [DecidableEq α]

theorem ssetN_append (d : α) (m : SMap α) (k : Nat) (a b : List α) : ssetN d m k (a ++ b) = ssetN d (ssetN d m k a) (k + a.length) b := by
  induction a generalizing m k with
  | nil => rfl
  | cons x a ih => rw [List.cons_append, ssetN, ih, ssetN, List.length_cons, Nat.add_assoc, Nat.add_comm 1]

theorem sget_ssetN_in (d : α) (vs : List α) (m : SMap α) (k : Nat) {i : Nat} (hi : i < vs.length) :
    sget d (ssetN d m k vs) (k + i) = vs[i] := by
  rw [sget_ssetN, if_pos (Nat.le_add_right k i)]
  simp [hi]

theorem sget_ssetN_out (d : α) (vs : List α) (m : SMap α) {k j : Nat} (h : j < k ∨ k + vs.length ≤ j) :
    sget d (ssetN d m k vs) j = sget d m j := by
  rw [sget_ssetN]
  split
  · rw [List.getElem?_eq_none (by omega)]; rfl
  · rfl

/-- What was written is read back. -/
theorem sgetN_ssetN (d : α) (vs : List α) (m : SMap α) (k : Nat) : sgetN d (ssetN d m k vs) k vs.length = vs := by
  apply List.ext_getElem?
  intro i
  rw [getElem?_sgetN]
  split
  · next hi => rw [sget_ssetN_in d vs m k hi, List.getElem?_eq_getElem hi]
  · rw [List.getElem?_eq_none (by omega)]

end

/-! ### The lines of a range -/

theorem pieces_induction {P : Nat → Nat → List (Nat × Nat) → Prop} (nil : ∀ a, P a 0 [])
    (cons : ∀ a m n l, 0 < m → a % 64 + m ≤ 64 → P (a + m) n l → P a (m + n) ((a, m) :: l)) (fuel a n : Nat)
    (h : n = 0 ∨ a % 64 + n ≤ 64 * fuel) : P a n (pieces fuel a n) := by
  induction fuel generalizing a n with
  | zero =>
    obtain rfl : n = 0 := by omega
    exact nil a
  | succ fuel ih =>
    rw [pieces]
    split
    · next hn => rw [hn]; exact nil a
    · dsimp only
      generalize hm : Nat.min n (64 - a % 64) = m
      have hmn : m = n ∨ m = 64 - a % 64 := by rw [← hm]; exact (Nat.le_total n _).imp Nat.min_eq_left Nat.min_eq_right
      have hle : m ≤ n := hm ▸ Nat.min_le_left ..
      have hle' : m ≤ 64 - a % 64 := hm ▸ Nat.min_le_right ..
      have hP := cons a m (n - m) _ (by omega) (by omega) (ih (a + m) (n - m) (by omega))
      rwa [Nat.add_sub_cancel' hle] at hP

/-- The lines of a range follow one another: each lies in one 64-byte line, and the rest of the range begins where it ends. -/
theorem linesOf_induction {P : Nat → Nat → List (Nat × Nat) → Prop} (nil : ∀ a, P a 0 [])
    (cons : ∀ a m n l, 0 < m → a % 64 + m ≤ 64 → P (a + m) n l → P a (m + n) ((a, m) :: l)) (a n : Nat) : P a n (linesOf a n) :=
  pieces_induction nil cons _ a n (by omega)

/-- A range read line by line is the range read at once. -/
theorem flatMap_linesOf_sgetN (m : SMap Byte) (b a n : Nat) :
    (linesOf a n).flatMap (fun p => sgetN 0 m (b + p.1) p.2) = sgetN 0 m (b + a) n :=
  linesOf_induction (P := fun a n l => l.flatMap (fun p => sgetN 0 m (b + p.1) p.2) = sgetN 0 m (b + a) n)
    (fun _ => rfl) (fun a k n l _ _ ih => by rw [List.flatMap_cons, ih, sgetN_add, Nat.add_assoc]) a n

/-! ### Cluster memory -/

theorem clKey_add (d cl : Nat) (sh : Bool) (a i : Nat) : clKey d cl sh (a + i) = clKey d cl sh a + i := by unfold clKey; omega

theorem clKey_eq (d cl : Nat) (sh : Bool) (a : Nat) : clKey d cl sh a = clKey d cl sh 0 + a := by rw [← clKey_add, Nat.zero_add]

theorem clBad_iff {s : State} {e : Eng} {a n : Nat} :
    clBad s e a n = false ↔ ∀ p ∈ linesOf a n, sget 0 s.mem.bad (clKey e.die e.cl e.shadow p.1 / 64) = 0 := by
  simp [clBad]

/-- Without a bad line the reader gets what is stored. -/
theorem clPeek_of_good {s : State} {e : Eng} {a n : Nat} (h : clBad s e a n = false) :
    clPeek s e a n = sgetN 0 s.mem.bytes (clKey e.die e.cl e.shadow a) n := by
  rw [clKey_eq, ← flatMap_linesOf_sgetN, clPeek]
  refine List.flatMap_congr fun p hp => ?_
  rw [keyRead, if_pos (clBad_iff.mp h p hp), clKey_eq]

theorem clReport_of_good {s : State} {e : Eng} {a n : Nat} (reader : Nat) (h : clBad s e a n = false) : clReport reader e a n s = s := by
  rw [clReport, h]; rfl

/-- Bytes of module memory replaced. -/
def putBytes (k : Nat) (b : List Byte) (s : State) : State := { s with mem := { s.mem with bytes := ssetN 0 s.mem.bytes k b } }

@[simp] theorem putBytes_bytes (k : Nat) (b : List Byte) (s : State) : (putBytes k b s).mem.bytes = ssetN 0 s.mem.bytes k b := rfl
@[simp] theorem putBytes_bad (k : Nat) (b : List Byte) (s : State) : (putBytes k b s).mem.bad = s.mem.bad := rfl
@[simp] theorem putBytes_nil (k : Nat) (s : State) : putBytes k [] s = s := rfl

theorem putBytes_append (k : Nat) (a b : List Byte) (s : State) : putBytes k (a ++ b) s = putBytes (k + a.length) b (putBytes k a s) := by
  simp [putBytes, ssetN_append]

theorem keyWrite_of_good {s : State} {k : Nat} (b : List Byte) (h : sget 0 s.mem.bad (k / 64) = 0) : keyWrite k b s = putBytes k b s := by
  rw [keyWrite, if_pos h]; rfl

/-- Without a bad line a write stores all of its bytes and nothing else. -/
theorem clWrite_of_good {s : State} {e : Eng} {a : Nat} {b : List Byte} (h : clBad s e a b.length = false) :
    clWrite e a b s = putBytes (clKey e.die e.cl e.shadow a) b s := by
  have key := linesOf_induction
    (P := fun a' n l => a ≤ a' → a' - a + n = b.length → ∀ s : State, (∀ p ∈ l, sget 0 s.mem.bad (clKey e.die e.cl e.shadow p.1 / 64) = 0) →
      l.foldl (fun s p => keyWrite (clKey e.die e.cl e.shadow p.1) ((b.drop (p.1 - a)).take p.2) s) s =
        putBytes (clKey e.die e.cl e.shadow a') (b.drop (a' - a)) s) ?_ ?_ a b.length
  · have := key (le_refl a) (by omega) s (clBad_iff.mp h)
    rwa [Nat.sub_self, List.drop_zero] at this
  · intro a' _ hlen s _
    rw [List.drop_eq_nil_of_le (by omega), putBytes_nil]; rfl
  · intro a' m n l hm _ ih ha hlen s hgood
    have hb : b.drop (a' - a) = (b.drop (a' - a)).take m ++ b.drop (a' + m - a) := by
      rw [show a' + m - a = a' - a + m by omega, ← List.drop_drop, List.take_append_drop]
    have hl : ((b.drop (a' - a)).take m).length = m := by rw [List.length_take, List.length_drop]; omega
    rw [List.foldl_cons, keyWrite_of_good _ (hgood (a', m) (List.mem_cons_self ..)),
      ih (by omega) (by omega) _ fun p hp => by simpa using hgood p (List.mem_cons_of_mem _ hp)]
    conv_rhs => rw [hb, putBytes_append, hl, ← clKey_add]

end Sys2Proof.Machine
end

section
/-! PROOFS. The scalar unit (R128, R129, R135): register operations, branches, loads and stores. -/

namespace Sys2Proof.Machine

/-! ### The operations as numbers -/

theorem add_eq_ofNat (a b : Word64) : a + b = BitVec.ofNat 64 (a.toNat + b.toNat) := BitVec.eq_of_toNat_eq (by simp)
theorem mul_eq_ofNat (a b : Word64) : a * b = BitVec.ofNat 64 (a.toNat * b.toNat) := BitVec.eq_of_toNat_eq (by simp)
theorem sub_eq_ofInt (a b : Word64) : a - b = BitVec.ofInt 64 (a.toInt - b.toInt) := BitVec.eq_of_toInt_eq (by simp)
theorem add_eq_ofInt (a b : Word64) : a + b = BitVec.ofInt 64 (a.toInt + b.toInt) := BitVec.eq_of_toInt_eq (by simp)
theorem mul_eq_ofInt (a b : Word64) : a * b = BitVec.ofInt 64 (a.toInt * b.toInt) := BitVec.eq_of_toInt_eq (by simp)

theorem shl_eq_ofNat {w : Nat} (a : BitVec w) (n : Nat) : a <<< n = BitVec.ofNat w (a.toNat * 2 ^ n) := by
  apply BitVec.eq_of_toNat_eq; simp [Nat.shiftLeft_eq]

theorem shr_eq_ofNat {w : Nat} (a : BitVec w) (n : Nat) : a >>> n = BitVec.ofNat w (a.toNat / 2 ^ n) := by
  rw [← Nat.shiftRight_eq_div_pow, ← BitVec.toNat_ushiftRight, BitVec.ofNat_toNat, BitVec.setWidth_eq]

theorem sar_eq_ofInt {w : Nat} (a : BitVec w) (n : Nat) : a.sshiftRight n = BitVec.ofInt w (a.toInt / 2 ^ n) := by
  rw [← BitVec.ofInt_toInt (x := a.sshiftRight n), BitVec.toInt_sshiftRight, Int.shiftRight_eq_div_pow, Int.natCast_pow]; rfl

theorem signExtend_eq_ofInt (v : BitVec 32) : v.signExtend 64 = BitVec.ofInt 64 v.toInt := rfl

theorem toInt_signExtend_word (v : BitVec 32) : (v.signExtend 64).toInt = v.toInt := BitVec.toInt_signExtend_of_le (by decide)

/-- A shift count is the low six bits of the immediate, whatever its sign. -/
theorem toNat_signExtend_mod (v : BitVec 32) : (v.signExtend 64).toNat % 64 = v.toNat % 64 := by
  rw [BitVec.toNat_signExtend]
  have := v.isLt
  split
  · simp; omega
  · simp

theorem slt_eq (a b : Word64) : a.slt b = decide (a.toInt < b.toInt) := rfl
theorem ult_eq (a b : Word64) : a.ult b = decide (a.toNat < b.toNat) := rfl

theorem slt_min (a b : Word64) : (if a.slt b then a else b) = BitVec.ofInt 64 (Min.min a.toInt b.toInt) := by
  by_cases h : a.toInt < b.toInt
  · simp [slt_eq, h, Int.min_eq_left h.le]
  · simp [slt_eq, h, Int.min_eq_right (not_lt.mp h)]

theorem slt_max (a b : Word64) : (if a.slt b then b else a) = BitVec.ofInt 64 (Max.max a.toInt b.toInt) := by
  by_cases h : a.toInt < b.toInt
  · simp [slt_eq, h, Int.max_eq_right h.le]
  · simp [slt_eq, h, Int.max_eq_left (not_lt.mp h)]

theorem ult_min (a b : Word64) : (if a.ult b then a else b) = BitVec.ofNat 64 (Min.min a.toNat b.toNat) := by
  by_cases h : a.toNat < b.toNat
  · simp [ult_eq, h, Nat.min_eq_left h.le]
  · simp [ult_eq, h, Nat.min_eq_right (not_lt.mp h)]

theorem ult_max (a b : Word64) : (if a.ult b then b else a) = BitVec.ofNat 64 (Max.max a.toNat b.toNat) := by
  by_cases h : a.toNat < b.toNat
  · simp [ult_eq, h, Nat.max_eq_right h.le]
  · simp [ult_eq, h, Nat.max_eq_left (not_lt.mp h)]

/-- What LUI leaves is the immediate joined to the low half. -/
theorem lui_eq_append (v : BitVec 32) (d : Word64) : (v.signExtend 64 <<< 32) ||| (d.truncate 32).zeroExtend 64 = (v ++ d.truncate 32 : BitVec 64) := by
  apply BitVec.eq_of_getElem_eq
  intro i hi
  simp [BitVec.getElem_signExtend]
  grind

theorem lui_eq_ofNat (v : BitVec 32) (d : Word64) :
    (v.signExtend 64 <<< 32) ||| (d.truncate 32).zeroExtend 64 = BitVec.ofNat 64 (v.toNat * 2 ^ 32 + d.toNat % 2 ^ 32) := by
  rw [lui_eq_append]
  apply BitVec.eq_of_toNat_eq
  have hv := v.isLt
  rw [BitVec.toNat_append, ← Nat.shiftLeft_add_eq_or_of_lt (BitVec.isLt _), Nat.shiftLeft_eq, BitVec.toNat_ofNat, BitVec.truncate_eq_setWidth,
    BitVec.toNat_setWidth]
  omega

/-! ### SALU and SALUI -/

theorem saluRun_eq {i : Instr} {s : State} {e : Eng} {x : Engine} (h : executes i s e x) {f : FmtS} (hf : f.rsv = 0) (op : Word64 → Word64 → Word64) :
    saluRun i e f op s = setEng e (x.went.setS f.sd (op (x.s f.sa) (x.s f.sb))) s := by
  rw [saluRun, engPure_next h (by simp [need, hf]; rfl), Engine.went_setS]

theorem saluiRun_eq {i : Instr} {s : State} {e : Eng} {x : Engine} (h : executes i s e x) {f : FmtSI} (hf : f.rsv = 0) (op : Word64 → Word64 → Word64) :
    saluiRun i e f op s = setEng e (x.went.setS f.sd (op (x.s f.sa) (f.imm.signExtend 64))) s := by
  rw [saluiRun, engPure_next h (by simp [need, hf]; rfl), Engine.went_setS]

/-- Settles O7: each operation is `saluRun` or `saluiRun` of a function of two words, which is then read as numbers. -/
theorem scalarOperations : Obligations.ScalarOperations := by
  constructor
  · intro e f s x hf a b gives
    have run {i : Instr} {op : Word64 → Word64 → Word64} {v : Word64} (hi : exec i s = .next (saluRun i e f op s)) (hv : op a b = v) : gives i v :=
      fun h => by rw [hi, saluRun_eq h hf, hv]
    exact ⟨run rfl (add_eq_ofNat a b), run rfl (sub_eq_ofInt a b), run rfl (mul_eq_ofNat a b), run rfl rfl, run rfl rfl, run rfl rfl,
      run rfl (shl_eq_ofNat a _), run rfl (shr_eq_ofNat a _), run rfl (sar_eq_ofInt a _), run rfl (by simp [slt_eq]), run rfl (by simp [ult_eq]),
      run rfl (slt_min a b), run rfl (slt_max a b), run rfl (ult_min a b), run rfl (ult_max a b)⟩
  · intro e f s x hf a k gives
    have run {i : Instr} {op : Word64 → Word64 → Word64} {v : Word64} (hi : exec i s = .next (saluiRun i e f op s))
        (hv : op a (f.imm.signExtend 64) = v) : gives i v := fun h => by rw [hi, saluiRun_eq h hf, hv]
    have hk : (f.imm.signExtend 64).toInt = k := toInt_signExtend_word f.imm
    have hm := toNat_signExtend_mod f.imm
    refine ⟨run rfl ?_, run rfl ?_, run rfl rfl, run rfl rfl, run rfl rfl, run rfl ?_, run rfl ?_, run rfl ?_, run rfl ?_, run rfl ?_, ?_, ?_⟩
    · rw [add_eq_ofInt, hk]
    · rw [mul_eq_ofInt, hk]
    · rw [shl_eq_ofNat, hm]
    · rw [shr_eq_ofNat, hm]
    · rw [sar_eq_ofInt, hm]
    · simp [slt_eq, hk]
    · simp [ult_eq, k, BitVec.signExtend]
    · intro hsa h
      rw [show exec (.li e f) s = execLi e f s from rfl, execLi, engPure_next h (by simp [need, hf, hsa]; rfl), Engine.went_setS,
        signExtend_eq_ofInt]
    · intro hsa h
      rw [show exec (.lui e f) s = execLui e f s from rfl, execLui, engPure_next h (by simp [need, hf, hsa]; rfl), Engine.went_setS, lui_eq_ofNat]

/-! ### Branches -/

/-- A branch with its target in the code. -/
theorem brRun_in {i : Instr} {s : State} {e : Eng} {x : Engine} (h : executes i s e x) {f : FmtB} (hf : f.rsv = 0) {cond : Word64 → Word64 → Bool}
    (h0 : 0 ≤ brTarget x f.imm) (h1 : brTarget x f.imm + 8 ≤ x.codeBytes) :
    brRun i e f cond s = setEng e (if cond (x.s f.sa) (x.s f.sb) then { x with stall := none, pc := (brTarget x f.imm).toNat } else x.went) s := by
  rw [brRun, engRun_eq h]
  have ht : brTarget x.awake f.imm = brTarget x f.imm := rfl
  simp only [ht, Engine.s_awake]
  rw [if_neg (by simp [hf]; omega)]
  cases cond (x.s f.sa) (x.s f.sb) <;> rfl

/-- A branch with its target outside the code. -/
theorem brRun_out {i : Instr} {s : State} {e : Eng} {x : Engine} (h : executes i s e x) {f : FmtB} {cond : Word64 → Word64 → Bool}
    (ht : brTarget x f.imm < 0 ∨ (x.codeBytes : Int) < brTarget x f.imm + 8) : brRun i e f cond s = trapEng e 0x25 s := by
  rw [brRun, engRun_eq h]
  have ha : brTarget x.awake f.imm = brTarget x f.imm := rfl
  simp only [ha]
  rw [if_pos (by rcases ht with ht | ht <;> simp [ht])]

/-- Settles O8: each branch is `brRun` of its condition. -/
theorem branchesGoToTheirTargets : Obligations.BranchesGoToTheirTargets := by
  intro e f s x hf a b t goes
  have run {i : Instr} {cond : Word64 → Word64 → Bool} {c : Prop} (hi : exec i s = .next (brRun i e f cond s)) (hc : cond a b = true ↔ c) : goes i c := by
    refine fun h => ⟨fun h0 h1 => ⟨fun ht => ?_, fun ht => ?_⟩, fun ht => by rw [hi, brRun_out h ht]⟩
    · rw [hi, brRun_in h hf h0 h1, if_pos (hc.mpr ht)]; rfl
    · rw [hi, brRun_in h hf h0 h1, if_neg (fun hn => ht (hc.mp hn))]
  refine ⟨run rfl beq_iff_eq, run rfl bne_iff_ne, run rfl (by simp [slt_eq]), run rfl (by simp [slt_eq]), run rfl (by simp [ult_eq]),
    run rfl (by simp [ult_eq]), fun ha hb => run (cond := fun _ _ => true) ?_ (by simp)⟩
  rw [show exec (.jmp e f) s = execJmp e f s from rfl, execJmp, if_pos (by simp [ha, hb])]

/-! ### Loads and stores -/

theorem smemAddr_awake (x : Engine) (f : FmtSM) : smemAddr x.awake f = (x.s f.sa + BitVec.ofInt 64 f.imm.toInt).toNat := rfl

/-- A load from cluster memory without a bad line. -/
theorem execSld_cluster {s : State} {e : Eng} {x : Engine} {f : FmtSM} {a : Nat} (h : executes (.sld e f) s e x) (hf : f.rsv = 0)
    (ha : smemAddr x.awake f = a) (h8 : a % 8 = 0) (hsp : f.space = 0) (hin : a + 8 ≤ 196608) (hgood : clBad s e a 8 = false) :
    execSld e f s = .next (setEng e (x.went.setS f.sd (BitVec.ofNat 64 (leNat (sgetN 0 s.mem.bytes (clKey e.die e.cl e.shadow a) 8)))) s) := by
  rw [execSld, engRun_eq h]
  simp only [ha]
  rw [if_neg (by simp [h8, hf]), if_pos hsp, if_neg (by unfold clSize; omega), clPeek_of_good hgood]
  dsimp only
  rw [Engine.went_setS, clReport_of_good 1 (by simpa [clBad] using hgood)]

/-- A load from the task's argument block. -/
theorem execSld_args {s : State} {e : Eng} {x : Engine} {f : FmtSM} {a : Nat} (h : executes (.sld e f) s e x) (hf : f.rsv = 0)
    (ha : smemAddr x.awake f = a) (h8 : a % 8 = 0) (hsp : f.space = 1) (hin : a + 8 ≤ x.args.length) :
    execSld e f s = .next (setEng e (x.went.setS f.sd (BitVec.ofNat 64 (leNat ((x.args.drop a).take 8)))) s) := by
  rw [execSld, engRun_eq h]
  simp only [ha]
  rw [if_neg (by simp [h8, hf]), if_neg (by simp [hsp]), if_pos hsp, if_neg (by omega)]
  dsimp only
  rw [Engine.went_setS]
  rfl

/-- A store to cluster memory without a bad line. -/
theorem execSst_cluster {s : State} {e : Eng} {x : Engine} {f : FmtSM} {a : Nat} (h : executes (.sst e f) s e x) (hf : f.rsv = 0)
    (ha : smemAddr x.awake f = a) (h8 : a % 8 = 0) (hsp : f.space = 0) (hin : a + 8 ≤ 196608) (hgood : clBad s e a 8 = false) :
    execSst e f s = .next (putBytes (clKey e.die e.cl e.shadow a) (leBytes 8 (x.s f.sd).toNat) (setEng e x.went s)) := by
  rw [execSst, engRun_eq h]
  simp only [ha]
  rw [if_neg (by simp [h8, hf]), if_pos hsp, if_neg (by unfold clSize; omega)]
  dsimp only
  rw [clWrite_of_good (by simpa [clBad] using hgood)]
  rfl

/-- Settles O10. -/
theorem scalarLoadsAndStores : Obligations.ScalarLoadsAndStores := by
  intro e f s x hf a k h8
  have ha : smemAddr x.awake f = a := smemAddr_awake x f
  refine ⟨fun h hsp hin hgood => execSld_cluster h hf ha h8 hsp hin hgood, fun h hsp hin => execSld_args h hf ha h8 hsp hin, fun h hsp hin hgood =>
    ⟨_, execSst_cluster h hf ha h8 hsp hin hgood, rfl, eng?_setEng_same .., ?_, fun j hj => ?_⟩⟩
  · have := sgetN_ssetN 0 (leBytes 8 (x.s f.sd).toNat) s.mem.bytes k
    rwa [leBytes_length] at this
  · exact sget_ssetN_out _ _ _ (by simpa using hj)

end Sys2Proof.Machine
end

section
/-! PROOFS. The vector unit, lane by lane (R127, R130, R131): what is written to the lanes of a register and to the flags. -/

namespace Sys2Proof.Machine

/-! ### Flags of many lanes -/

theorem getLsbD_foldl_flags (l : List (Fl Word32 × Bool)) (a : BitVec 5) (b : Nat) :
    (l.foldl (fun a y => if y.2 then a ||| y.1.2 else a) a).getLsbD b = (a.getLsbD b || l.any (fun y => y.2 && y.1.2.getLsbD b)) := by
  induction l generalizing a with
  | nil => simp
  | cons y l ih =>
    rw [List.foldl_cons, ih, List.any_cons]
    cases y.2 <;> simp [Bool.or_assoc]

@[simp] theorem Engine.flag_zero (x : Engine) : x.flag 0 = x := by
  simp [Engine.flag]

theorem Engine.lane_flag (x : Engine) (fl : BitVec 5) (r : BitVec 5) (k : Nat) : (x.flag fl).lane r k = x.lane r k := (rfl)

/-! ### Lanes written -/

/-- The engine after new words in the lanes of one register and new flags, at its next instruction. -/
def Engine.vWent (x : Engine) (d : BitVec 5) (w : Nat → Option Word32) (fl : BitVec 5) : Engine :=
  { (x.awake.setLanes d w).flag fl with pc := x.pc + 8 }

theorem Engine.vWent_sameButV (x : Engine) (d : BitVec 5) (w : Nat → Option Word32) (fl : BitVec 5) : x.sameButV (x.vWent d w fl) := by
  unfold Engine.vWent Engine.flag Engine.setLanes Engine.sameButV Engine.went; rfl

theorem Engine.lane_vWent (x : Engine) (d r : BitVec 5) (w : Nat → Option Word32) (fl : BitVec 5) {k : Nat} (hk : k < 64) :
    (x.vWent d w fl).lane r k = if r = d then (w k).getD (x.lane r k) else x.lane r k := Engine.lane_setLanes x.awake d r w k hk

theorem Engine.vWent_lanesAre {x : Engine} {d : BitVec 5} {w : Nat → Option Word32} {fl : BitVec 5} {act : Nat → Bool} {g : Nat → Fl Word32}
    (hw : ∀ k, k < 64 → w k = if act k then some (g k).1 else none)
    (hfl : ∀ b, b < 5 → fl.getLsbD b = (List.range 64).any (fun k => act k && (g k).2.getLsbD b)) : x.lanesAre (x.vWent d w fl) d act g := by
  refine ⟨x.vWent_sameButV d w fl, fun r k hk => ?_, fun b hb => ?_⟩
  · rw [Engine.lane_vWent x d r w fl hk, hw k hk]
    by_cases hr : r = d <;> cases act k <;> simp [hr]
  · rw [← hfl b hb]; exact BitVec.getLsbD_or ..

/-- `lanesTo` gives every active lane its result and its flags. -/
theorem lanesTo_lanesAre (x : Engine) (f : FmtV) (g : Nat → Fl Word32) :
    x.lanesAre { lanesTo x.awake f g with pc := (lanesTo x.awake f g).pc + 8 } f.d (x.active f) g := by
  refine Engine.vWent_lanesAre (fun k hk => ?_) (fun b _ => ?_)
  · simp [hk]; rfl
  · rw [getLsbD_foldl_flags, List.any_map]; simp; rfl

/-- Words without flags: each lane takes its word where it is active. -/
theorem setLanes_lanesAre (x : Engine) (d : BitVec 5) {w : Nat → Option Word32} {act : Nat → Bool} {g : Nat → Word32}
    (hw : ∀ k, k < 64 → w k = if act k then some (g k) else none) :
    x.lanesAre { x.awake.setLanes d w with pc := (x.awake.setLanes d w).pc + 8 } d act (fun k => (g k, 0)) := by
  have := Engine.vWent_lanesAre (x := x) (d := d) (fl := 0) (g := fun k => (g k, 0)) hw (by simp)
  rwa [Engine.vWent, Engine.flag_zero] at this

/-- An instruction that writes lanes through `lanesTo`. -/
theorem lanes_of_engPure {i : Instr} {s : State} {e : Eng} {x : Engine} {body : Engine → Option Engine} {f : FmtV} {g : Nat → Fl Word32}
    (h : executes i s e x) (hi : exec i s = .next (engPure i e body s)) (hb : body x.awake = some (lanesTo x.awake f g)) :
    ∃ y, exec i s = .next (setEng e y s) ∧ x.lanesAre y f.d (x.active f) g :=
  ⟨_, by rw [hi, engPure_next h hb], lanesTo_lanesAre x f g⟩

/-! ### Arithmetic -/

/-- Settles O11: each operation is `lanesTo` of its lane operation. -/
theorem vectorArithmetic : Obligations.VectorArithmetic := by
  intro e f s x t ht md plain gives two pick one
  refine ⟨?_, ?_, ?_, ?_, ?_, ?_, ?_, ?_, ?_⟩ <;> intro h hok <;> refine lanes_of_engPure h rfl ?_ <;> dsimp only
  all_goals
    rw [ht]
    simp only [Option.bind_some]
    exact if_pos hok

/-! ### Integer lanes -/

theorem readI_signed {w : Nat} (v : BitVec w) : readI w true v.toNat = v.toInt := by simp [readI]

theorem readI_unsigned {w : Nat} (v : BitVec w) : readI w false v.toNat = v.toNat := by
  simp [readI, Nat.mod_eq_of_lt v.isLt]

/-- The low half of a lane, and the high half, as signed elements. -/
theorem readI_half (v : Word32) (o : Nat) : readI 16 true (v.toNat / 2 ^ o) = (v.extractLsb' o 16).toInt := by
  rw [readI, if_pos rfl, ← Nat.shiftRight_eq_div_pow]; rfl

theorem outI_toNat (w : Nat) (signed sat : Bool) (z : Int) : BitVec.ofNat w (outI w signed sat z) = BitVec.ofInt w
    (if sat then max (if signed then -(2 ^ (w - 1) : Nat) else 0) (min (if signed then (2 ^ (w - 1) : Nat) - 1 else (2 ^ w : Nat) - 1) z) else z) := by
  rw [outI, BitVec.ofNat_toNat, BitVec.setWidth_eq]

/-- Two halves of a lane are its upper half joined to its lower. -/
theorem halves_eq_append (lo hi : BitVec 16) : BitVec.ofNat 32 (lo.toNat % 65536 + 65536 * (hi.toNat % 65536)) = (hi ++ lo : BitVec 32) := by
  apply BitVec.eq_of_toNat_eq
  rw [BitVec.toNat_append, ← Nat.shiftLeft_add_eq_or_of_lt lo.isLt, Nat.shiftLeft_eq, BitVec.toNat_ofNat]
  have := lo.isLt
  have := hi.isLt
  omega

/-- A lane of an integer type, or half of one, from bit `o` up: no flag is raised. -/
theorem elOp_int (op : ElOp) (t : ElTy) (md : VMode) (a b c : Word32) (o w : Nat) (ht : t.float = false) (hw : w = if t = .i16 then 16 else 32) :
    elOp op t md a b c o = (outI w (t != .u32) md.sat (op.i (readI w (t != .u32) (a.toNat / 2 ^ o)) (readI w (t != .u32) (b.toNat / 2 ^ o))
      (readI w (t != .u32) (c.toNat / 2 ^ o))), 0) := by
  simp only [elOp, ht, hw]; rfl

/-- Settles O12. -/
theorem integerLanesWrapOrSaturate : Obligations.IntegerLanesWrapOrSaturate := by
  intro op md a b c z u
  refine ⟨?_, ?_, ?_⟩
  · rw [laneOp, elOp_int op .i32 md a b c 0 32 rfl rfl, show (ElTy.i32 != ElTy.u32) = true from rfl]
    · simp only [pow_zero, Nat.div_one, readI_signed, outI_toNat]; rfl
    all_goals simp
  · rw [laneOp, elOp_int op .u32 md a b c 0 32 rfl rfl, show (ElTy.u32 != ElTy.u32) = false from rfl]
    · simp only [pow_zero, Nat.div_one, readI_unsigned, outI_toNat]; rfl
    all_goals simp
  · intro half
    have hhalf : ∀ o, elOp op .i16 md a b c o = ((half o).toNat, 0) := fun o => by
      rw [elOp_int op .i16 md a b c o 16 rfl rfl, show (ElTy.i16 != ElTy.u32) = true from rfl]
      simp only [readI_half, outI]; rfl
    rw [laneOp, halves, hhalf, hhalf, halves_eq_append]
    simp [half]

end Sys2Proof.Machine
end

section
/-! PROOFS. Moves, logic, comparisons and mask operations of the vector unit (R130, R131). -/

namespace Sys2Proof.Machine

/-! ### Masks from their bits -/

theorem sum_two_pow_succ (g : Nat → Bool) (n : Nat) : ((List.range (n + 1)).map (fun i => if g i then 2 ^ i else 0)).sum =
    (if g n then 2 ^ n else 0) + ((List.range n).map (fun i => if g i then 2 ^ i else 0)).sum := by
  rw [List.range_succ, List.map_append, List.sum_append, Nat.add_comm]; simp

/-- A sum of different powers of two has the bits that were chosen. -/
theorem sum_two_pow (g : Nat → Bool) (n : Nat) : ((List.range n).map (fun i => if g i then 2 ^ i else 0)).sum < 2 ^ n ∧
    ∀ k, (((List.range n).map (fun i => if g i then 2 ^ i else 0)).sum).testBit k = (decide (k < n) && g k) := by
  induction n with
  | zero => simp
  | succ n ih =>
    obtain ⟨hlt, hbit⟩ := ih
    rw [sum_two_pow_succ]
    by_cases hg : g n
    · rw [if_pos hg]
      refine ⟨by rw [Nat.pow_succ]; omega, fun k => ?_⟩
      rcases Nat.lt_trichotomy k n with h | rfl | h
      · rw [Nat.testBit_two_pow_add_gt h, hbit]; simp [h, Nat.lt_succ_of_lt h]
      · rw [Nat.testBit_two_pow_add_eq, hbit]; simp [hg]
      · have hsum := Nat.add_lt_add_left hlt (2 ^ n)
        rw [← Nat.two_mul, ← Nat.pow_succ'] at hsum
        rw [Nat.testBit_lt_two_pow (lt_of_lt_of_le hsum (Nat.pow_le_pow_right (by decide) h))]
        simp [show ¬ k < n + 1 by omega]
    · rw [if_neg hg, Nat.zero_add]
      refine ⟨lt_of_lt_of_le hlt (Nat.pow_le_pow_right (by decide) (by omega)), fun k => ?_⟩
      rw [hbit]
      rcases Nat.lt_trichotomy k n with h | rfl | h
      · simp [h, Nat.lt_succ_of_lt h]
      · simp [hg]
      · simp [show ¬ k < n by omega, show ¬ k < n + 1 by omega]

theorem getLsbD_maskOf (g : Nat → Bool) {k : Nat} (hk : k < 64) : (maskOf g).getLsbD k = g k := by
  rw [maskOf, BitVec.getLsbD_ofNat, (sum_two_pow g 64).2]; simp [hk]

/-! ### A mask register written -/

/-- The engine after a new mask and new flags, at its next instruction. -/
def Engine.mWent (x : Engine) (d : Nat) (v : BitVec 64) (fl : BitVec 5) : Engine :=
  { (x.awake.setMask d v).flag fl with pc := ((x.awake.setMask d v).flag fl).pc + 8 }

theorem Engine.mask_mWent (x : Engine) (d r : Nat) (v : BitVec 64) (fl : BitVec 5) : (x.mWent d v fl).mask r = if r = d then v else x.mask r := by
  unfold Engine.mWent Engine.flag Engine.setMask Engine.mask
  exact sget_sset ..

theorem Engine.vflags_mWent (x : Engine) (d : Nat) (v : BitVec 64) (fl : BitVec 5) : (x.mWent d v fl).vflags = x.vflags ||| fl := by
  unfold Engine.mWent Engine.flag Engine.setMask; rfl

theorem Engine.mWent_sameButM (x : Engine) (d : Nat) (v : BitVec 64) (fl : BitVec 5) : x.sameButM (x.mWent d v fl) := by
  unfold Engine.mWent Engine.flag Engine.setMask Engine.sameButM Engine.went; rfl

theorem Engine.mWent_maskIs {x : Engine} {d : Nat} {g h : Nat → Bool} (fl : BitVec 5) (hgh : ∀ k, k < 64 → g k = h k) :
    x.maskIs (x.mWent d (maskOf g) fl) d h := by
  refine ⟨x.mWent_sameButM d _ fl, fun r hr => ?_, fun k hk => ?_⟩
  · rw [Engine.mask_mWent, if_neg hr]
  · rw [Engine.mask_mWent, if_pos rfl, getLsbD_maskOf g hk, hgh k hk]

/-- An instruction that writes a mask register and raises flags. -/
theorem mask_of_engPure {i : Instr} {s : State} {e : Eng} {x : Engine} {body : Engine → Option Engine} {d : Nat} {g g' : Nat → Bool} {fl : BitVec 5}
    (h : executes i s e x) (hi : exec i s = .next (engPure i e body s)) (hb : body x.awake = some ((x.awake.setMask d (maskOf g)).flag fl))
    (hg : ∀ k, k < 64 → g k = g' k) : ∃ y, exec i s = .next (setEng e y s) ∧ x.maskIs y d g' :=
  ⟨x.mWent d (maskOf g) fl, by rw [hi, engPure_next h hb]; rfl, Engine.mWent_maskIs fl hg⟩

/-! ### Comparisons -/

/-- The types that are compared. -/
def cmpTy (t : BitVec 3) : Prop := t = 0 ∨ t = 3 ∨ t = 5

/-- One lane of a comparison on a type that is compared. -/
theorem cmpLane_fst (op : CmpOp) {ty : BitVec 3} {t : ElTy} (hty : cmpTy ty) (ht : elTy ty.toNat = some t) (ftz : Bool) (a b : Word32) :
    (cmpLane op t ftz a b).1 = if ty = 0 then op.f (readF fp32 ftz a.toNat) (readF fp32 ftz b.toNat)
      else if ty = 3 then op.i a.toInt b.toInt else op.i a.toNat b.toNat := by
  rcases hty with rfl | rfl | rfl <;> cases ht
  · rfl
  · simp only [cmpLane, ← readI_signed]; rfl
  · simp only [cmpLane, ← readI_unsigned]; rfl

theorem vCmp_maskIs {i : Instr} {s : State} {e : Eng} {x : Engine} {f : FmtV} {op : CmpOp} (h : executes i s e x)
    (hi : exec i s = .next (vCmp i e f op s)) (hok : vOk f { type := true, d := true, a := true, bv := true, mkb := true } = true)
    (hd : f.d.toNat < 8) (hty : cmpTy f.type) :
    ∃ y, exec i s = .next (setEng e y s) ∧ x.maskIs y f.d.toNat (fun k => x.active f k &&
      if f.type = 0 then op.f (readF fp32 x.ftz (x.lane f.a k).toNat) (readF fp32 x.ftz (x.opB f k).toNat)
      else if f.type = 3 then op.i (x.lane f.a k).toInt (x.opB f k).toInt else op.i (x.lane f.a k).toNat (x.opB f k).toNat) := by
  obtain ⟨t, ht, hc⟩ : ∃ t, elTy f.type.toNat = some t ∧ [0, 3, 5].contains f.type.toNat = true := by
    rcases hty with e | e | e <;> rw [e] <;> exact ⟨_, rfl, rfl⟩
  refine mask_of_engPure h hi (by dsimp only; rw [ht, Option.bind_some, if_pos (by rw [hc, hok]; simp [low8, hd])]) fun k hk => ?_
  rw [← cmpLane_fst op hty ht]
  simp [hk]
  rfl

/-! ### Mask operations -/

theorem vMask_maskIs {i : Instr} {s : State} {e : Eng} {x : Engine} {f : FmtV} {u : UseV} {op : Engine → BitVec 64} {g : Nat → Bool}
    (h : executes i s e x) (hi : exec i s = .next (vMask i e f u op s)) (hok : vOk f { u with d := true, mkb := true } = true) (hd : f.d.toNat < 8)
    (ha : f.a.toNat < 8) (hb : f.b.toNat < 8) (hg : ∀ k, k < 64 → (op x.awake).getLsbD k = g k) :
    ∃ y, exec i s = .next (setEng e y s) ∧ y.vflags = x.vflags ∧
      x.maskIs y f.d.toNat (fun k => if x.active f k then g k else (x.mask f.d.toNat).getLsbD k) := by
  refine ⟨x.mWent f.d.toNat (maskOf fun k => if x.active f k then (op x.awake).getLsbD k else (x.mask f.d.toNat).getLsbD k) 0, ?_, ?_,
    Engine.mWent_maskIs 0 fun k hk => by rw [hg k hk]⟩
  · rw [hi, vMask, engPure_next h (if_pos (by rw [hok]; simp [low8, hd, ha, hb])), Engine.mWent, Engine.flag_zero]
    rfl
  · rw [Engine.vflags_mWent]; exact BitVec.or_zero

/-! ### Moves -/

/-- The types that are shifted. -/
theorem shiftTy_of {t : BitVec 3} (h : t = 3 ∨ t = 5) : shiftTy t.toNat = true := by
  rcases h with rfl | rfl <;> rfl

theorem vBits_lanes {i : Instr} {s : State} {e : Eng} {x : Engine} {f : FmtV} {ty : Nat → Bool} {op : Word32 → Word32 → Word32} {g : Nat → Word32}
    (h : executes i s e x) (hi : exec i s = .next (vBits i e f ty op s)) (hty : ty f.type.toNat = true)
    (hok : vOk f { type := true, d := true, a := true, bv := true, mkb := true } = true) (hg : ∀ k, op (x.lane f.a k) (x.opB f k) = g k) :
    ∃ y, exec i s = .next (setEng e y s) ∧ x.lanesAre y f.d (x.active f) (fun k => (g k, 0)) := by
  simp only [← hg]
  exact lanes_of_engPure h hi (if_pos (by rw [hty, hok]; rfl))

/-- The first half of O13: what the operations on whole lanes write. -/
theorem laneMoves (e : Eng) (f : FmtV) (s : State) (x : Engine) :
    let two : UseV := { type := true, d := true, a := true, bv := true, mkb := true }
    let gives := fun (i : Instr) (ok : Bool) (g : Nat → Word32) => executes i s e x → ok = true →
      ∃ y, exec i s = .next (setEng e y s) ∧ x.lanesAre y f.d (x.active f) (fun k => (g k, 0))
    gives (.vmov e f) (vOk f { two with bv := false }) (x.lane f.a) ∧
    (f.type = 3 → gives (.vlane e f) (vOk f { two with a := false, bv := false }) (fun k => BitVec.ofNat 32 k)) ∧
    gives (.vperm e f) (vOk f two) (fun k => x.lane f.a ((x.opB f k).toNat % 64)) ∧
    gives (.vbcast e f) (vOk f { two with a := false, bv := false, ss := true }) (fun _ => (x.s f.ss).truncate 32) := by
  refine ⟨fun h hok => lanes_of_engPure h rfl (if_pos hok), fun hty h hok => lanes_of_engPure h rfl (if_pos (by simp [hty]; exact hok)),
    fun h hok => lanes_of_engPure h rfl (if_pos hok), fun h hok => lanes_of_engPure h rfl (if_pos hok)⟩

theorem execVsel_lanes {e : Eng} {f : FmtV} {s : State} {x : Engine} (h : executes (.vsel e f) s e x)
    (hok : vOk f { type := true, d := true, a := true, bv := true, mkb := true, mr := true } = true) :
    ∃ y, exec (.vsel e f) s = .next (setEng e y s) ∧
      x.lanesAre y f.d (fun _ => true) (fun k => (if (x.mask f.mr.toNat).getLsbD k then x.lane f.a k else x.opB f k, 0)) :=
  ⟨_, congrArg Host.Outcome.next (engPure_next h (if_pos hok)), setLanes_lanesAre x f.d fun _ _ => rfl⟩

theorem execVput_lanes {e : Eng} {f : FmtV} {s : State} {x : Engine} (h : executes (.vput e f) s e x)
    (hok : vOk f { type := true, d := true, ss := true, imm := true, mkb := true } = true) (hk : f.imm.toNat < 64) :
    ∃ y, exec (.vput e f) s = .next (setEng e y s) ∧
      x.lanesAre y f.d (fun k => k == f.imm.toNat && x.active f k) (fun _ => ((x.s f.ss).truncate 32, 0)) :=
  ⟨_, congrArg Host.Outcome.next (engPure_next h (if_pos (by simp [hok, hk]))), setLanes_lanesAre x f.d fun k _ => by
    by_cases hk : k = f.imm.toNat <;> simp [hk] <;> rfl⟩

theorem execVget_eq {e : Eng} {f : FmtV} {s : State} {x : Engine} (h : executes (.vget e f) s e x)
    (hok : vOk f { type := true, d := true, a := true, imm := true } = true) (hk : f.imm.toNat < 64) :
    exec (.vget e f) s = .next (setEng e (x.went.setS f.d (BitVec.ofNat 64 (x.lane f.a f.imm.toNat).toNat)) s) := by
  rw [show exec (.vget e f) s = execVget e f s from rfl, execVget, engPure_next h (if_pos (by simp [hok, hk])), Engine.went_setS,
    BitVec.ofNat_toNat]
  rfl

theorem execMtos_eq {e : Eng} {f : FmtV} {s : State} {x : Engine} (h : executes (.mtos e f) s e x)
    (hok : vOk f { d := true, a := true } = true) (ha : f.a.toNat < 8) :
    exec (.mtos e f) s = .next (setEng e (x.went.setS f.d (x.mask f.a.toNat)) s) := by
  rw [show exec (.mtos e f) s = execMtos e f s from rfl, execMtos, engPure_next h (if_pos (by simp [hok, ha, low8])), Engine.went_setS]
  rfl

/-- Settles O13. -/
theorem laneMovesAndMasks : Obligations.LaneMovesAndMasks := by
  constructor
  · intro e f s x two gives shifts a b
    obtain ⟨hmov, hlane, hperm, hbcast⟩ := laneMoves e f s x
    exact ⟨fun h hok => vBits_lanes h rfl rfl hok fun _ => rfl, fun h hok => vBits_lanes h rfl rfl hok fun _ => rfl,
      fun h hok => vBits_lanes h rfl rfl hok fun _ => rfl, fun ht h hok => vBits_lanes h rfl (shiftTy_of ht) hok fun k => shl_eq_ofNat _ _,
      fun ht h hok => vBits_lanes h rfl (shiftTy_of ht) hok fun k => shr_eq_ofNat _ _,
      fun ht h hok => vBits_lanes h rfl (shiftTy_of ht) hok fun k => sar_eq_ofInt _ _, execVsel_lanes, hmov, hlane, hperm, hbcast,
      execVget_eq, execVput_lanes⟩
  · intro e f s x hd a b cmpOk fl bitwise keeps sel
    refine ⟨fun hok hty => ?_, fun hok ha hb => ?_, fun hok ha hb h => ?_, fun hok ha hb h => ?_, execMtos_eq⟩
    · exact ⟨fun h => vCmp_maskIs h rfl hok hd hty, fun h => vCmp_maskIs h rfl hok hd hty, fun h => vCmp_maskIs h rfl hok hd hty,
        fun h => vCmp_maskIs h rfl hok hd hty, fun h => vCmp_maskIs h rfl hok hd hty, fun h => vCmp_maskIs h rfl hok hd hty,
        fun h => vCmp_maskIs h rfl hok hd hty⟩
    · exact ⟨fun h => vMask_maskIs h rfl hok hd ha hb fun _ _ => BitVec.getLsbD_and .., fun h => vMask_maskIs h rfl hok hd ha hb fun _ _ => BitVec.getLsbD_or ..,
        fun h => vMask_maskIs h rfl hok hd ha hb fun _ _ => BitVec.getLsbD_xor ..⟩
    · exact vMask_maskIs h rfl hok hd ha (by simp [hb]) fun k hk => by simp [BitVec.getLsbD_not, hk]; rfl
    · exact vMask_maskIs h rfl hok hd (by simp [ha]) (by simp [hb]) fun _ _ => rfl

end Sys2Proof.Machine
end

section
/-! PROOFS. Vector memory (R132): the addresses of the active lanes, loads, and stores in lane order. -/

namespace Sys2Proof.Machine

/-! ### The addresses of the active lanes -/

/-- The active lanes, each with its address. -/
def vmList (x : Engine) (f : FmtV) (off : Nat → Word64) : List (Nat × Nat) :=
  ((List.range 64).filter (x.active f)).map (fun k => (k, (vmBase x f + off k).toNat))

/-- Every active lane's address is aligned and inside cluster memory. -/
def vmFits (x : Engine) (f : FmtV) (off : Nat → Word64) : Prop :=
  ∀ k, k < 64 → x.active f k = true → (vmBase x f + off k).toNat % 4 = 0 ∧ (vmBase x f + off k).toNat + 4 ≤ 196608

theorem mem_vmList {x : Engine} {f : FmtV} {off : Nat → Word64} {y : Nat × Nat} :
    y ∈ vmList x f off ↔ (y.1 < 64 ∧ x.active f y.1 = true) ∧ y.2 = (vmBase x f + off y.1).toNat := by
  simp only [vmList, List.mem_map, List.mem_filter, List.mem_range]
  constructor
  · rintro ⟨k, hk, rfl⟩; exact ⟨hk, rfl⟩
  · rintro ⟨hk, h⟩; exact ⟨y.1, hk, by rw [← h]⟩

theorem vmAddrs_fits {x : Engine} {f : FmtV} {off : Nat → Word64} (h : vmFits x f off) : vmAddrs x f off = some (vmList x f off) := by
  refine if_pos (List.all_eq_true.mpr fun y hy => ?_)
  obtain ⟨⟨hk, ha⟩, hy⟩ := mem_vmList.mp hy
  obtain ⟨h4, hin⟩ := h y.1 hk ha
  rw [hy, h4]
  exact decide_eq_true hin

theorem vmAddrs_not_fits {x : Engine} {f : FmtV} {off : Nat → Word64} (h : ¬ vmFits x f off) : vmAddrs x f off = none := by
  refine if_neg fun hall => h fun k hk ha => ?_
  simpa [clSize] using List.all_eq_true.mp hall (k, (vmBase x f + off k).toNat) (mem_vmList.mpr ⟨⟨hk, ha⟩, rfl⟩)

theorem find?_vmList (x : Engine) (f : FmtV) (off : Nat → Word64) {k : Nat} (hk : k < 64) :
    (vmList x f off).find? (fun y => y.1 == k) = if x.active f k then some (k, (vmBase x f + off k).toNat) else none := by
  split
  · next ha =>
    obtain ⟨y, hy⟩ : ∃ y, (vmList x f off).find? (fun y => y.1 == k) = some y :=
      Option.isSome_iff_exists.mp (List.find?_isSome.mpr ⟨(k, (vmBase x f + off k).toNat), mem_vmList.mpr ⟨⟨hk, ha⟩, rfl⟩, by simp⟩)
    have hy1 : y.1 = k := by simpa using List.find?_some hy
    rw [hy, ← hy1, ← (mem_vmList.mp (List.mem_of_find?_eq_some hy)).2]
  · next ha =>
    refine List.find?_eq_none.mpr fun y hy hyk => ha ?_
    have hyk : y.1 = k := by simpa using hyk
    exact hyk ▸ (mem_vmList.mp hy).1.2

theorem clBad_setEng (d : Eng) (y : Engine) (s : State) (e : Eng) (a n : Nat) : clBad (setEng d y s) e a n = clBad s e a n := (rfl)

/-- No active lane's word is in a bad line. -/
def vmGood (s : State) (e : Eng) (x : Engine) (f : FmtV) (off : Nat → Word64) : Prop :=
  ∀ k, k < 64 → x.active f k = true → clBad s e (vmBase x f + off k).toNat 4 = false

theorem clBad_of_mem_vmList {s : State} {e : Eng} {x : Engine} {f : FmtV} {off : Nat → Word64} (h : vmGood s e x f off) {y : Nat × Nat}
    (hy : y ∈ vmList x f off) : clBad s e y.2 4 = false := by
  obtain ⟨⟨hk, ha⟩, hy⟩ := mem_vmList.mp hy
  rw [hy]; exact h y.1 hk ha

/-! ### Loads -/

theorem vLoad_lanes {i : Instr} {s : State} {e : Eng} {x : Engine} {f : FmtV} {u : UseV} {off : Engine → Nat → Word64} (h : executes i s e x)
    (hi : exec i s = .next (vLoad i e f u off s)) (hok : vOk f { u with d := true, ss := true, imm := true, mkb := true } = true)
    (hfit : vmFits x f (off x.awake)) (hgood : vmGood s e x f (off x.awake)) :
    ∃ y, exec i s = .next (setEng e y s) ∧ x.lanesAre y f.d (x.active f) (fun k =>
      (BitVec.ofNat 32 (leNat (sgetN 0 s.mem.bytes (clKey e.die e.cl e.shadow (vmBase x f + off x.awake k).toNat) 4)), 0)) := by
  have hnone : (vmList x f (off x.awake)).find? (fun y => clBad s e y.2 4) = none :=
    List.find?_eq_none.mpr fun y hy => by simp [clBad_of_mem_vmList hgood hy]
  refine ⟨_, ?_, setLanes_lanesAre x f.d (w := fun k =>
    ((vmList x f (off x.awake)).find? (fun y => y.1 == k)).map (fun y => BitVec.ofNat 32 (leNat (clPeek s e y.2 4)))) fun k hk => ?_⟩
  · rw [hi, vLoad, engRun_eq h]
    dsimp only
    rw [show vmAddrs x.awake f (off x.awake) = some (vmList x f (off x.awake)) from vmAddrs_fits hfit]
    dsimp only
    rw [if_pos hok]
    dsimp only
    simp only [clBad_setEng, hnone]
  · rw [find?_vmList x f _ hk]
    split
    · next ha => rw [Option.map_some, clPeek_of_good (hgood k hk ha)]
    · rfl

theorem vLoad_trap {i : Instr} {s : State} {e : Eng} {x : Engine} {f : FmtV} {u : UseV} {off : Engine → Nat → Word64} (h : executes i s e x)
    (hfit : ¬ vmFits x f (off x.awake)) : vLoad i e f u off s = trapEng e 0x25 s := by
  rw [vLoad, engRun_eq h]
  rw [show vmAddrs x.awake f (off x.awake) = none from vmAddrs_not_fits hfit]

/-! ### Stores -/

/-- Words stored at addresses from key `b` on, in the order of the list. -/
def putWords (b : Nat) (w : Nat → List Byte) (l : List (Nat × Nat)) (s : State) : State := l.foldl (fun s y => putBytes (b + y.2) (w y.1) s) s

theorem putWords_mem (b : Nat) (w : Nat → List Byte) (l : List (Nat × Nat)) (s : State) :
    putWords b w l s = { s with mem := { s.mem with bytes := (putWords b w l s).mem.bytes } } := by
  induction l generalizing s with
  | nil => rfl
  | cons y l ih => exact ih (putBytes (b + y.2) (w y.1) s)

theorem putWords_append (b : Nat) (w : Nat → List Byte) (l m : List (Nat × Nat)) (s : State) :
    putWords b w (l ++ m) s = putWords b w m (putWords b w l s) := List.foldl_append ..

/-- A byte that no word takes reads as before. -/
theorem putWords_out {b : Nat} {w : Nat → List Byte} (hw : ∀ k, (w k).length = 4) {l : List (Nat × Nat)} {s : State} {j : Nat}
    (h : ∀ y ∈ l, j < b + y.2 ∨ b + y.2 + 4 ≤ j) : sget 0 (putWords b w l s).mem.bytes j = sget 0 s.mem.bytes j := by
  induction l generalizing s with
  | nil => rfl
  | cons y l ih =>
    rw [putWords, List.foldl_cons, ← putWords, ih fun z hz => h z (List.mem_cons_of_mem _ hz), putBytes_bytes,
      sget_ssetN_out _ _ _ (by rw [hw]; exact h y (List.mem_cons_self ..))]

/-- The last word at an aligned address is what is left there. -/
theorem putWords_last {b : Nat} {w : Nat → List Byte} (hw : ∀ k, (w k).length = 4) {l m : List (Nat × Nat)} {s : State} {k a : Nat} (ha : a % 4 = 0)
    (hm : ∀ y ∈ m, y.2 % 4 = 0 ∧ y.2 ≠ a) : sgetN 0 (putWords b w (l ++ (k, a) :: m) s).mem.bytes (b + a) 4 = w k := by
  rw [putWords_append, putWords, List.foldl_cons, ← putWords]
  generalize putWords b w l s = t
  have hkeep : sgetN 0 (putWords b w m (putBytes (b + a) (w k) t)).mem.bytes (b + a) 4 =
      sgetN 0 (putBytes (b + a) (w k) t).mem.bytes (b + a) 4 :=
    sgetN_congr fun i hi => putWords_out hw fun y hy => by obtain ⟨h4, hne⟩ := hm y hy; omega
  rw [hkeep, putBytes_bytes]
  have := sgetN_ssetN 0 (w k) t.mem.bytes (b + a)
  rwa [hw] at this

/-- The lanes around an active one: its own entry, and after it those of higher lanes. -/
theorem vmList_split (x : Engine) (f : FmtV) (off : Nat → Word64) {k : Nat} (hk : k < 64) (ha : x.active f k = true) :
    ∃ l m, vmList x f off = l ++ (k, (vmBase x f + off k).toNat) :: m ∧ ∀ y ∈ m, y ∈ vmList x f off ∧ k < y.1 := by
  have hr : List.range 64 = List.range k ++ k :: List.range' (k + 1) (63 - k) := by
    rw [List.range_eq_range', List.range_eq_range', show (64 : Nat) = k + ((63 - k) + 1) by omega, ← List.range'_append_1,
      List.range'_succ, Nat.zero_add]
  refine ⟨((List.range k).filter (x.active f)).map (fun k => (k, (vmBase x f + off k).toNat)), ((List.range' (k + 1) (63 - k)).filter (x.active f)).map (fun k => (k, (vmBase x f + off k).toNat)), ?_, fun y hy => ?_⟩
  · rw [vmList, hr, List.filter_append, List.filter_cons_of_pos ha, List.map_append, List.map_cons]
  · simp only [List.mem_map, List.mem_filter, List.mem_range'_1] at hy
    obtain ⟨j, ⟨hj, hja⟩, rfl⟩ := hy
    exact ⟨mem_vmList.mpr ⟨⟨by dsimp only; omega, hja⟩, rfl⟩, hj.1⟩

/-- Stores to good lines put their words. -/
theorem foldl_clWrite_of_good {e : Eng} {w : Nat → List Byte} (hw : ∀ k, (w k).length = 4) {l : List (Nat × Nat)} {s : State}
    (h : ∀ y ∈ l, clBad s e y.2 4 = false) :
    l.foldl (fun s y => clWrite e y.2 (w y.1) s) s = putWords (clKey e.die e.cl e.shadow 0) w l s := by
  induction l generalizing s with
  | nil => rfl
  | cons y l ih =>
    rw [List.foldl_cons, clWrite_of_good (by rw [hw]; exact h y (List.mem_cons_self ..)), clKey_eq,
      ih fun z hz => by simpa [clBad] using h z (List.mem_cons_of_mem _ hz)]
    rfl

theorem vStore_eq {i : Instr} {s : State} {e : Eng} {x : Engine} {f : FmtV} {u : UseV} {off : Engine → Nat → Word64} (h : executes i s e x)
    (hok : vOk f { u with d := true, ss := true, imm := true, mkb := true } = true)
    (hfit : vmFits x f (off x.awake)) (hgood : vmGood s e x f (off x.awake)) :
    vStore i e f u off s = putWords (clKey e.die e.cl e.shadow 0) (fun k => leBytes 4 (x.lane f.d k).toNat) (vmList x f (off x.awake))
      (setEng e x.went s) := by
  rw [vStore, engRun_eq h]
  rw [show vmAddrs x.awake f (off x.awake) = some (vmList x f (off x.awake)) from vmAddrs_fits hfit]
  dsimp only
  rw [if_pos hok]
  exact foldl_clWrite_of_good (w := fun k => leBytes 4 (x.lane f.d k).toNat) (fun _ => leBytes_length ..) fun y hy =>
    by simpa [clBad] using clBad_of_mem_vmList hgood hy

theorem vStore_trap {i : Instr} {s : State} {e : Eng} {x : Engine} {f : FmtV} {u : UseV} {off : Engine → Nat → Word64} (h : executes i s e x)
    (hfit : ¬ vmFits x f (off x.awake)) : vStore i e f u off s = trapEng e 0x25 s := by
  rw [vStore, engRun_eq h]
  rw [show vmAddrs x.awake f (off x.awake) = none from vmAddrs_not_fits hfit]

/-- Settles O14: each load is `vLoad` and each store `vStore` of its lane offsets. -/
theorem vectorMemory : Obligations.VectorMemory := by
  intro e f s x base at_ ok good key loads stores u
  have hbase : vmBase x f = base := by simp only [vmBase, base, BitVec.ofNat_toNat]
  have hat : ∀ off k, (vmBase x f + off k).toNat = at_ off k := fun off k => by rw [hbase]
  have hfit : ∀ off, vmFits x f off ↔ ok off := fun off => by simp only [vmFits, hat, ok]
  have hgood : ∀ off, vmGood s e x f off ↔ good off := fun off => by simp only [vmGood, hat, good]
  have load {i : Instr} {v : UseV} {off : Engine → Nat → Word64} {o : Nat → Word64} (hi : exec i s = .next (vLoad i e f v off s))
      (ho : off x.awake = o) : loads i { v with d := true, ss := true, imm := true, mkb := true } o := by
    subst ho
    refine fun h hok => ⟨fun hf hg => ?_, fun hf => by rw [hi, vLoad_trap h (mt (hfit _).mp hf)]⟩
    obtain ⟨y, hy, hl⟩ := vLoad_lanes h hi hok ((hfit _).mpr hf) ((hgood _).mpr hg)
    simp only [hat] at hl
    exact ⟨y, hy, hl⟩
  have store {i : Instr} {v : UseV} {off : Engine → Nat → Word64} {o : Nat → Word64} (hi : exec i s = .next (vStore i e f v off s))
      (ho : off x.awake = o) : stores i { v with d := true, ss := true, imm := true, mkb := true } o := by
    subst ho
    refine fun h hok => ⟨fun hf hg => ?_, fun hf => by rw [hi, vStore_trap h (mt (hfit _).mp hf)]⟩
    refine ⟨_, by rw [hi, vStore_eq h hok ((hfit _).mpr hf) ((hgood _).mpr hg)], by rw [putWords_mem]; rfl, by rw [putWords_mem],
      fun k hk ha hlast => ?_, fun j hj => ?_⟩
    · obtain ⟨l, m, hlm, hm⟩ := vmList_split x f (off x.awake) hk ha
      rw [hat] at hlm
      simp only [key, clKey_eq e.die e.cl e.shadow (at_ _ k)]
      rw [hlm]
      refine putWords_last (fun _ => leBytes_length ..) (hf k hk ha).1 fun y hy => ?_
      obtain ⟨hy, hky⟩ := hm y hy
      obtain ⟨⟨hy64, hya⟩, hy2⟩ := mem_vmList.mp hy
      rw [hy2, hat]
      exact ⟨(hf y.1 hy64 hya).1, hlast y.1 hky hy64 hya⟩
    · refine putWords_out (fun _ => leBytes_length ..) fun y hy => ?_
      obtain ⟨⟨hy64, hya⟩, hy2⟩ := mem_vmList.mp hy
      rw [hy2, hat, ← clKey_eq]
      exact hj y.1 hy64 hya
  exact ⟨load (v := {}) rfl rfl, store (v := {}) rfl rfl, load (v := { b := true }) rfl rfl, store (v := { b := true }) rfl rfl,
    load (v := { a := true }) rfl (funext fun k => (BitVec.ofNat_toNat ..).symm),
    store (v := { a := true }) rfl (funext fun k => (BitVec.ofNat_toNat ..).symm)⟩

end Sys2Proof.Machine
end

section
/-! PROOFS. The wide-precision functions (R148, R149): their lanes and their edge values. -/

namespace Sys2Proof.Machine

theorem vFun_lanes {i : Instr} {s : State} {e : Eng} {x : Engine} {f : FmtV} {two : Bool} {fn : FVal → FVal → FunRes} {r : Nat → FunRes}
    (h : executes i s e x) (hi : exec i s = .next (vFun i e f two fn s)) (hok : vOk f { d := true, a := true, bv := two, mkb := true } = true)
    (hr : ∀ k, fn (readF fp32 x.ftz (x.lane f.a k).toNat) (readF fp32 x.ftz (if two then (x.opB f k).toNat else 0)) = r k) :
    ∃ y, exec i s = .next (setEng e y s) ∧
      x.lanesAre y f.d (x.active f) (fun k => (BitVec.ofNat 32 (funOut x.ftz (r k)).1, (funOut x.ftz (r k)).2)) := by
  simp only [← hr]
  exact lanes_of_engPure h hi (if_pos hok)

/-! ### Edge values as FP32 -/

theorem funOut_edge_inf (ftz n : Bool) (fl : BitVec 5) : funOut ftz (.edge (.inf n) fl) = (if n then 0xFF800000 else 0x7F800000, fl) := by
  cases n <;> simp [funOut, resolve, fp32, signBit, Fmt.ebits]

theorem funOut_edge_nan (ftz : Bool) : funOut ftz (.edge (.nan true) 0) = (0x7FC00000, fNV) := by
  simp [funOut, resolve, fp32]

theorem funOut_one (ftz : Bool) : funOut ftz (.edge oneX 0) = (0x3F800000, 0) := by
  cases ftz <;> decide

/-- Settles O15. -/
theorem widePrecisionFunctions : Obligations.WidePrecisionFunctions := by
  constructor
  · intro e f s x a b gives
    exact ⟨fun h hok => vFun_lanes h rfl hok fun _ => rfl, fun h hok => vFun_lanes h rfl hok fun _ => rfl,
      fun h hok => vFun_lanes h rfl hok fun _ => rfl, fun h hok => vFun_lanes h rfl hok fun _ => rfl,
      fun h hok => vFun_lanes h rfl hok fun _ => rfl⟩
  · intro ftz n n' m z z' hm
    refine ⟨?_, ?_, ?_, ?_, ?_, ?_⟩
    · rw [show divFn (.fin n m z) (.fin n' 0 z') = .edge (.inf (n != n')) fDZ by simp [divFn, hm], funOut_edge_inf]
      cases n <;> cases n' <;> rfl
    · exact funOut_edge_nan ftz
    · exact funOut_edge_inf ftz true fDZ
    · exact funOut_one ftz
    · rw [show logFn (.fin true m z) = .edge (.nan true) 0 by simp [logFn, hm], funOut_edge_nan]
    · rw [show rsqFn (.fin true m z) = .edge (.nan true) 0 by simp [rsqFn, hm], funOut_edge_nan]

end Sys2Proof.Machine
end

section
/-! PROOFS. Conversions (R142 to R147): a vector register as one number of 2,048 bits, and the elements that a conversion puts into it. -/

namespace Sys2Proof.Machine

/-! ### Numbers by their digits -/

/-- Digits of `w` bits, lowest first, joined: each bit is a bit of its digit. -/
theorem testBit_digits {w : Nat} (hw : 0 < w) (d : Nat → Nat) (hd : ∀ i, d i < 2 ^ w) (n : Nat) :
    ((List.range n).map (fun i => d i * 2 ^ (w * i))).sum < 2 ^ (w * n) ∧
    ∀ j, ((List.range n).map (fun i => d i * 2 ^ (w * i))).sum.testBit j = (decide (j < w * n) && (d (j / w)).testBit (j % w)) := by
  induction n with
  | zero => simp
  | succ n ih =>
    obtain ⟨hlt, hbit⟩ := ih
    rw [List.range_succ, List.map_append, List.sum_append, List.map_singleton, List.sum_singleton, Nat.add_comm, Nat.mul_comm (d n)]
    refine ⟨?_, fun j => ?_⟩
    · calc 2 ^ (w * n) * d n + _ < 2 ^ (w * n) * d n + 2 ^ (w * n) := Nat.add_lt_add_left hlt _
        _ = 2 ^ (w * n) * (d n + 1) := by rw [Nat.mul_add, Nat.mul_one]
        _ ≤ 2 ^ (w * n) * 2 ^ w := Nat.mul_le_mul_left _ (hd n)
        _ = 2 ^ (w * (n + 1)) := by rw [← Nat.pow_add]; rfl
    · rw [Nat.testBit_two_pow_mul_add _ hlt, hbit]
      have hmul : w * (n + 1) = w * n + w := rfl
      by_cases hj : j < w * n
      · simp [hj, show j < w * (n + 1) by omega]
      · rw [if_neg hj]
        by_cases hj' : j < w * n + w
        · have hdiv : j / w = n := by
            rw [Nat.div_eq_iff hw]; rw [Nat.mul_comm] at hj hj'; omega
          have hmod : j % w = j - w * n := by rw [← hdiv, Nat.mod_eq_sub_mul_div]
          simp [hmul, hj', hdiv, hmod]
        · rw [Nat.testBit_lt_two_pow (lt_of_lt_of_le (hd n) (Nat.pow_le_pow_right (by decide) (by omega)))]
          simp [hmul, hj']

/-- Bits of a number replaced: the new ones in the field, the old ones beside it. -/
theorem testBit_putBits (v lsb w n j : Nat) : (putBits v lsb w n).testBit j =
    if lsb ≤ j ∧ j < lsb + w then (n % 2 ^ w).testBit (j - lsb) else v.testBit j := by
  have hv : v = 2 ^ lsb * (2 ^ w * (v / 2 ^ lsb / 2 ^ w) + bits v lsb w) + v % 2 ^ lsb := by
    rw [bits, Nat.shiftRight_eq_div_pow, Nat.div_add_mod, Nat.div_add_mod]
  have hput : putBits v lsb w n = 2 ^ lsb * (2 ^ w * (v / 2 ^ lsb / 2 ^ w) + n % 2 ^ w) + v % 2 ^ lsb := by
    have hrest : v - bits v lsb w * 2 ^ lsb = 2 ^ lsb * (2 ^ w * (v / 2 ^ lsb / 2 ^ w)) + v % 2 ^ lsb :=
      Nat.sub_eq_of_eq_add (hv.trans (by ring))
    rw [putBits, hrest]; ring
  have hlow : v % 2 ^ lsb < 2 ^ lsb := Nat.mod_lt _ (Nat.two_pow_pos _)
  have hmid : bits v lsb w < 2 ^ w := Nat.mod_lt _ (Nat.two_pow_pos _)
  have hnew : n % 2 ^ w < 2 ^ w := Nat.mod_lt _ (Nat.two_pow_pos _)
  rw [hput]
  conv_rhs => rw [hv]
  rw [Nat.testBit_two_pow_mul_add _ hlow, Nat.testBit_two_pow_mul_add _ hlow, Nat.testBit_two_pow_mul_add _ hnew, Nat.testBit_two_pow_mul_add _ hmid]
  by_cases h1 : j < lsb
  · simp [h1, show ¬ lsb ≤ j by omega]
  · by_cases h2 : j - lsb < w
    · simp [h1, h2, show lsb ≤ j ∧ j < lsb + w by omega]
    · simp [h1, h2, show ¬ (lsb ≤ j ∧ j < lsb + w) by omega]

theorem bits_putBits_same (v lsb w n : Nat) : bits (putBits v lsb w n) lsb w = n % 2 ^ w := by
  apply Nat.eq_of_testBit_eq
  intro j
  rw [bits, Nat.testBit_mod_two_pow, Nat.testBit_shiftRight, testBit_putBits, Nat.testBit_mod_two_pow]
  by_cases hj : j < w
  · simp [hj]
  · simp [hj]

theorem bits_putBits_ne {v lsb w n k m : Nat} (h : k + m ≤ lsb ∨ lsb + w ≤ k) : bits (putBits v lsb w n) k m = bits v k m := by
  apply Nat.eq_of_testBit_eq
  intro j
  rw [bits, bits, Nat.testBit_mod_two_pow, Nat.testBit_mod_two_pow, Nat.testBit_shiftRight, Nat.testBit_shiftRight, testBit_putBits]
  by_cases hj : j < m
  · rw [if_neg (by omega)]
  · simp [hj]

/-! ### A register as a number -/

theorem testBit_vBig (x : Engine) (r : BitVec 5) (n : Nat) : (vBig x r).testBit n = (decide (n < 2048) && (x.lane r (n / 32)).getLsbD (n % 32)) :=
  (testBit_digits (by decide) (fun i => (x.lane r i).toNat) (fun i => (x.lane r i).isLt) 64).2 n

theorem lane_setBig (x : Engine) (r q : BitVec 5) (v : Nat) {k : Nat} (hk : k < 64) :
    (setBig x r v).lane q k = if q = r then BitVec.ofNat 32 (v / 2 ^ (32 * k)) else x.lane q k := Engine.lane_setLanes x r q _ k hk

theorem testBit_vBig_setBig (x : Engine) (r : BitVec 5) (v : Nat) {n : Nat} (hn : n < 2048) : (vBig (setBig x r v) r).testBit n = v.testBit n := by
  rw [testBit_vBig, lane_setBig x r r v (by omega), if_pos rfl, BitVec.getLsbD_ofNat, Nat.testBit_div_two_pow]
  simp [hn, Nat.mod_lt, Nat.mod_add_div]

theorem bits_vBig_setBig (x : Engine) (r : BitVec 5) (v : Nat) {k m : Nat} (h : k + m ≤ 2048) : bits (vBig (setBig x r v) r) k m = bits v k m := by
  apply Nat.eq_of_testBit_eq
  intro j
  rw [bits, bits, Nat.testBit_mod_two_pow, Nat.testBit_mod_two_pow, Nat.testBit_shiftRight, Nat.testBit_shiftRight]
  by_cases hj : j < m
  · rw [testBit_vBig_setBig x r v (by omega)]
  · simp [hj]

theorem vBig_setBig_ne (x : Engine) {r q : BitVec 5} (v : Nat) (h : q ≠ r) : vBig (setBig x r v) q = vBig x q := by
  refine congrArg List.sum (List.map_congr_left fun i hi => ?_)
  rw [lane_setBig x r q v (List.mem_range.mp hi), if_neg h]

/-! ### What being awake and the place in the code leave -/

@[simp] theorem vBig_awake (x : Engine) (r : BitVec 5) : vBig x.awake r = vBig x r := (rfl)
@[simp] theorem vBig_pc (x : Engine) (n : Nat) (r : BitVec 5) : vBig { x with pc := n } r = vBig x r := (rfl)
@[simp] theorem vBig_flag (x : Engine) (fl : BitVec 5) (r : BitVec 5) : vBig (x.flag fl) r = vBig x r := (rfl)
@[simp] theorem cvtElem_awake (x : Engine) (f : FmtC) (b i : Nat) : cvtElem x.awake f b i = cvtElem x f b i := (rfl)
@[simp] theorem cRnd_awake (x : Engine) (f : FmtC) (n i : Nat) : cRnd x.awake f n i = cRnd x f n i := (rfl)
@[simp] theorem cActive_awake (x : Engine) (f : FmtC) (i : Nat) : cActive x.awake f i = cActive x f i := (rfl)
@[simp] theorem Engine.step_awake (x : Engine) (s : State) : x.awake.step s = x.step s := (rfl)

/-! ### The elements of a part -/

/-- Elements of `w` bits put side by side from bit `lo` on, where `act` says so. -/
theorem testBit_foldl_putBits (w lo : Nat) (act : Nat → Bool) (g : Nat → Nat) (v m n : Nat) (hw : 0 < w) :
    ((List.range m).foldl (fun v k => if act k then putBits v (lo + w * k) w (g k) else v) v).testBit n =
      if lo ≤ n ∧ n < lo + w * m ∧ act ((n - lo) / w) = true then (g ((n - lo) / w) % 2 ^ w).testBit ((n - lo) % w) else v.testBit n := by
  induction m with
  | zero => rw [if_neg (by omega)]; rfl
  | succ m ih =>
    rw [List.range_succ, List.foldl_append, List.foldl_cons, List.foldl_nil]
    have hmul : w * (m + 1) = w * m + w := rfl
    by_cases hin : lo + w * m ≤ n ∧ n < lo + w * m + w
    · have hdiv : (n - lo) / w = m := by
        have h1 : w * m = m * w := Nat.mul_comm ..
        rw [Nat.div_eq_iff hw]; omega
      have hmod : (n - lo) % w = n - (lo + w * m) := by rw [Nat.mod_eq_sub_mul_div, hdiv, Nat.sub_sub]
      rw [hdiv, hmod]
      by_cases ha : act m
      · rw [if_pos ha, testBit_putBits, if_pos hin, if_pos ⟨by omega, by omega, ha⟩]
      · rw [if_neg ha, ih, if_neg (by omega), if_neg (by simp [ha])]
    · have hiff : (lo ≤ n ∧ n < lo + w * (m + 1) ∧ act ((n - lo) / w) = true) ↔ (lo ≤ n ∧ n < lo + w * m ∧ act ((n - lo) / w) = true) := by
        rw [hmul]
        constructor <;> rintro ⟨h1, h2, h3⟩ <;> exact ⟨h1, by omega, h3⟩
      have hstep : ∀ u, (if act m then putBits u (lo + w * m) w (g m) else u).testBit n = u.testBit n := fun u => by
        split
        · rw [testBit_putBits, if_neg hin]
        · rfl
      rw [hstep, ih]
      simp only [hiff]

/-- The bits of a register that a conversion writes: those of the active elements of its part. -/
def partBits (f : FmtC) (dst : Fmt) (act : Nat → Bool) (g : Nat → Nat) (v n : Nat) : Bool :=
  if dst.bits * 64 * f.dpart.toNat ≤ n ∧ n < dst.bits * 64 * f.dpart.toNat + dst.bits * 64 ∧
      act ((n - dst.bits * 64 * f.dpart.toNat) / dst.bits) = true then
    (g ((n - dst.bits * 64 * f.dpart.toNat) / dst.bits) % 2 ^ dst.bits).testBit ((n - dst.bits * 64 * f.dpart.toNat) % dst.bits)
  else v.testBit n

theorem foldl_range_zipIdx {α β : Type} (h : Nat → α) (op : β → α × Nat → β) (b : β) (n : Nat) :
    (((List.range n).map h).zipIdx).foldl op b = (List.range n).foldl (fun b k => op b (h k, k)) b := by
  rw [show ((List.range n).map h).zipIdx = (List.range n).map (fun k => (h k, k)) from ?_, List.foldl_map]
  apply List.ext_getElem
  · simp
  · intro i h1 h2; simp

/-- The destination of a conversion after `cWrite`. -/
theorem testBit_vBig_cWrite (x : Engine) (f : FmtC) {dst : Fmt} (hb : 0 < dst.bits) (r : Nat → Fl Nat) (act : Nat → Bool) {n : Nat} (hn : n < 2048) :
    (vBig (cWrite x f dst ((List.range 64).map (fun k => (r k, act k)))) f.vd).testBit n =
      partBits f dst act (fun k => (r k).1) (vBig x f.vd) n := by
  rw [cWrite, vBig_flag, testBit_vBig_setBig _ _ _ hn, foldl_range_zipIdx, partBits]
  have hpos : ∀ k, dst.bits * (64 * f.dpart.toNat + k) = dst.bits * 64 * f.dpart.toNat + dst.bits * k := fun k => by ring
  simp only [hpos]
  exact testBit_foldl_putBits (hw := hb) ..

theorem vBig_cWrite_ne (x : Engine) (f : FmtC) (dst : Fmt) (r : List (Fl Nat × Bool)) {q : BitVec 5} (h : q ≠ f.vd) :
    vBig (cWrite x f dst r) q = vBig x q := by
  rw [cWrite]
  exact vBig_setBig_ne x _ h

/-! ### Everything else is kept -/

/-- `z` is `x`, awake, but for its vector registers and its flags. -/
def Engine.keepsButV (x z : Engine) : Prop := z = { x.awake with v := z.v, vflags := z.vflags }

theorem Engine.keepsButV_setBig {x z : Engine} (h : x.keepsButV z) (r : BitVec 5) (v : Nat) : x.keepsButV (setBig z r v) := by
  unfold Engine.keepsButV setBig Engine.setLanes at *
  rw [h]

theorem Engine.keepsButV_flag {x z : Engine} (h : x.keepsButV z) (fl : BitVec 5) : x.keepsButV (z.flag fl) := by
  unfold Engine.keepsButV Engine.flag at *
  rw [h]

theorem Engine.keepsButV_cWrite {x z : Engine} (h : x.keepsButV z) (f : FmtC) (dst : Fmt) (r : List (Fl Nat × Bool)) : x.keepsButV (cWrite z f dst r) :=
  keepsButV_flag (keepsButV_setBig h _ _) _

theorem Engine.sameButV_of_keepsButV {x z : Engine} (h : x.keepsButV z) : x.sameButV { z with pc := z.pc + 8 } := by
  unfold Engine.keepsButV at h
  rw [h]
  unfold Engine.sameButV Engine.went
  rfl

/-! ### The conversions -/

theorem fmtOf_bits_pos {n : Nat} {f : Fmt} (h : fmtOf n = some f) : 0 < f.bits := by
  unfold fmtOf at h
  split at h <;> cases h <;> decide

theorem blockScale_lt (dst : Fmt) (l : List FVal) : blockScale dst l < 2 ^ 8 := by
  unfold blockScale
  split
  · decide
  · split
    · decide
    · omega

/-- A conversion that goes on with the engine that its body gives. -/
theorem convert_of_engRun {i : Instr} {s : State} {e : Eng} {x z : Engine} {body : Engine → State → EStep} {P : Engine → Prop} (h : executes i s e x)
    (hi : exec i s = .next (engRun i e body s)) (hb : body x.awake s = .next z id) (hk : x.keepsButV z) (hP : P { z with pc := z.pc + 8 }) :
    ∃ y, exec i s = .next (setEng e y s) ∧ x.sameButV y ∧ P y :=
  ⟨{ z with pc := z.pc + 8 }, by rw [hi, engRun_eq h, hb]; rfl, Engine.sameButV_of_keepsButV hk, hP⟩

theorem Engine.keepsButV_awake (x : Engine) : x.keepsButV x.awake := rfl

/-- A conversion that writes the elements of its part. The results of the elements are named apart from the list of them: a term in which they were
written out would be evaluated. -/
theorem writes_of_engRun {i : Instr} {s : State} {e : Eng} {x : Engine} {f : FmtC} {dst : Fmt} {body : Engine → State → EStep}
    {l : List (Fl Nat × Bool)} {act : Nat → Bool} {r : Nat → Fl Nat} (h : executes i s e x) (hi : exec i s = .next (engRun i e body s))
    (hdst : fmtOf f.fmtDst.toNat = some dst) (hb : body x.awake s = .next (cWrite x.awake f dst l) id)
    (hl : l = (List.range 64).map (fun k => (r k, act k))) :
    ∃ y, exec i s = .next (setEng e y s) ∧ x.sameButV y ∧
      ∀ n, n < 2048 → (vBig y f.vd).testBit n = partBits f dst act (fun k => (r k).1) (vBig x f.vd) n := by
  refine convert_of_engRun h hi hb (Engine.keepsButV_cWrite x.keepsButV_awake f dst l) fun n hn => ?_
  rw [hl]
  exact testBit_vBig_cWrite x.awake f (fmtOf_bits_pos hdst) r act hn

/-- CVT and CVT.TS. -/
theorem cvtRun_writes {i : Instr} {s : State} {e : Eng} {x : Engine} {f : FmtC} {src dst : Fmt} {ts : Bool} (h : executes i s e x)
    (hi : exec i s = .next (cvtRun i e f ts s)) (hsrc : fmtOf f.fmtSrc.toNat = some src) (hdst : fmtOf f.fmtDst.toNat = some dst)
    (hok : cOk f src dst = true) (hform : (f.vs == 0 && (ts || f.sf == 0)) = true) {r : Nat → Fl Nat}
    (hr : ∀ k, r k = resolve dst (cRnd x f (x.step s) k) (f.sat = 1) x.ftz true (if ts then mulX (readF src x.ftz (cvtElem x f src.bits k))
      (readF fp32 x.ftz ((x.s f.sf).truncate 32).toNat) else readF src x.ftz (cvtElem x f src.bits k))) :
    ∃ y, exec i s = .next (setEng e y s) ∧ x.sameButV y ∧
      ∀ n, n < 2048 → (vBig y f.vd).testBit n = partBits f dst (cActive x f) (fun k => (r k).1) (vBig x f.vd) n := by
  refine writes_of_engRun h hi hdst (by dsimp only; rw [hsrc, hdst]; dsimp only; rw [if_pos (by rw [Bool.and_assoc, hok, Bool.true_and, hform])]) ?_
  simp only [hr]; rfl

/-- CVT.BU. -/
theorem execCvtBu_writes {s : State} {e : Eng} {x : Engine} {f : FmtC} {src dst : Fmt} (h : executes (.cvtBu e f) s e x)
    (hsrc : fmtOf f.fmtSrc.toNat = some src) (hdst : fmtOf f.fmtDst.toNat = some dst) (hok : cOk f src dst = true)
    (hform : (f.sf == 0 && f.mkb == 0 && f.fmtSrc.toNat ≤ 6) = true) {r : Nat → Fl Nat}
    (hr : ∀ k, r k = resolve dst (cRnd x f (x.step s) k) false x.ftz true
      (unpackElem src (bits (vBig x f.vs) (8 * (2 * f.spart.toNat + k / 32)) 8) (cvtElem x f src.bits k))) :
    ∃ y, exec (.cvtBu e f) s = .next (setEng e y s) ∧ x.sameButV y ∧
      ∀ n, n < 2048 → (vBig y f.vd).testBit n = partBits f dst (fun _ => true) (fun k => (r k).1) (vBig x f.vd) n := by
  refine writes_of_engRun h rfl hdst (by dsimp only; rw [hsrc, hdst]; dsimp only; rw [if_pos (by simp only [hok, Bool.true_and]; exact hform)]) ?_
  simp only [hr, vBig_awake, cvtElem_awake, cRnd_awake, Engine.step_awake]

/-- A conversion that writes its elements and then two scales of eight bits from bit `d` of register vs on. -/
theorem scales_of_engRun {i : Instr} {s : State} {e : Eng} {x : Engine} {f : FmtC} {dst : Fmt} {body : Engine → State → EStep}
    {l : List (Fl Nat × Bool)} {r : Nat → Fl Nat} {d c0 c1 : Nat} {fl : BitVec 5} (h : executes i s e x) (hi : exec i s = .next (engRun i e body s))
    (hdst : fmtOf f.fmtDst.toNat = some dst)
    (hb : body x.awake s = .next ((setBig (cWrite x.awake f dst l) f.vs
      (putBits (putBits (vBig (cWrite x.awake f dst l) f.vs) d 8 c0) (d + 8) 8 c1)).flag fl) id)
    (hl : l = (List.range 64).map (fun k => (r k, true))) (hd : d + 16 ≤ 2048) (h0 : c0 < 2 ^ 8) (h1 : c1 < 2 ^ 8) :
    ∃ y, exec i s = .next (setEng e y s) ∧ x.sameButV y ∧ bits (vBig y f.vs) d 8 = c0 ∧ bits (vBig y f.vs) (d + 8) 8 = c1 ∧
      (f.vs ≠ f.vd → ∀ n, n < 2048 → (vBig y f.vd).testBit n = partBits f dst (fun _ => true) (fun k => (r k).1) (vBig x f.vd) n) := by
  refine convert_of_engRun (P := fun y => bits (vBig y f.vs) d 8 = c0 ∧ bits (vBig y f.vs) (d + 8) 8 = c1 ∧ (f.vs ≠ f.vd → ∀ n, n < 2048 →
      (vBig y f.vd).testBit n = partBits f dst (fun _ => true) (fun k => (r k).1) (vBig x f.vd) n)) h hi hb
    (Engine.keepsButV_flag (Engine.keepsButV_setBig (Engine.keepsButV_cWrite x.keepsButV_awake f dst l) _ _) _) ⟨?_, ?_, fun hne n hn => ?_⟩
  · rw [vBig_pc, vBig_flag, bits_vBig_setBig _ _ _ (by omega), bits_putBits_ne (by omega), bits_putBits_same, Nat.mod_eq_of_lt h0]
  · rw [vBig_pc, vBig_flag, bits_vBig_setBig _ _ _ (by omega), bits_putBits_same, Nat.mod_eq_of_lt h1]
  · rw [vBig_pc, vBig_flag, vBig_setBig_ne _ _ (Ne.symm hne), hl]
    exact testBit_vBig_cWrite x.awake f (fmtOf_bits_pos hdst) r (fun _ => true) hn

/-- The scale of block `h` of a conversion's elements. -/
def partScale (x : Engine) (f : FmtC) (src dst : Fmt) (h : Nat) : Nat :=
  blockScale dst ((((List.range 64).map (fun k => readF src x.ftz (cvtElem x f src.bits k))).drop (32 * h)).take 32)

/-- The packed elements of CVT.BP, by their numbers. -/
theorem packed_eq (v : Nat → FVal) (dst : Fmt) (rnd : Nat → Rnd) (ftz : Bool) {x0 x1 : Nat} {sc : Nat → Nat} (h0 : x0 = sc 0) (h1 : x1 = sc 1) :
    ((List.range 64).map v).zipIdx.map (fun y => (packElem dst (rnd y.2) ftz (if y.2 < 32 then x0 else x1) y.1, true)) =
      (List.range 64).map (fun k => (packElem dst (rnd k) ftz (sc (k / 32)) (v k), true)) := by
  apply List.ext_getElem
  · simp
  · intro i hi _
    have hi : i < 64 := by simpa using hi
    have hsc : (if i < 32 then x0 else x1) = sc (i / 32) := by
      by_cases hlt : i < 32
      · rw [if_pos hlt, h0, Nat.div_eq_of_lt hlt]
      · rw [if_neg hlt, h1, show i / 32 = 1 by omega]
    simp [hsc]

/-- CVT.BP: the scales, and where they lie in another register, the elements. -/
theorem execCvtBp_writes {s : State} {e : Eng} {x : Engine} {f : FmtC} {src dst : Fmt} (h : executes (.cvtBp e f) s e x)
    (hsrc : fmtOf f.fmtSrc.toNat = some src) (hdst : fmtOf f.fmtDst.toNat = some dst) (hok : cOk f src dst = true)
    (hform : (f.sf == 0 && f.mkb == 0 && f.fmtDst.toNat ≤ 6) = true) {r : Nat → Fl Nat} {sc : Nat → Nat} (hsc : ∀ h, sc h = partScale x f src dst h)
    (hr : ∀ k, r k = packElem dst (cRnd x f (x.step s) k) x.ftz (sc (k / 32)) (readF src x.ftz (cvtElem x f src.bits k))) :
    ∃ y, exec (.cvtBp e f) s = .next (setEng e y s) ∧ x.sameButV y ∧
      bits (vBig y f.vs) (16 * f.dpart.toNat) 8 = sc 0 ∧ bits (vBig y f.vs) (16 * f.dpart.toNat + 8) 8 = sc 1 ∧
      (f.vs ≠ f.vd → ∀ n, n < 2048 → (vBig y f.vd).testBit n = partBits f dst (fun _ => true) (fun k => (r k).1) (vBig x f.vd) n) := by
  have hlen : ∀ v : Nat → FVal, (((List.range 64).map v).drop 32).take 32 = ((List.range 64).map v).drop 32 := fun v =>
    List.take_of_length_le (by simp)
  have h0 : blockScale dst (((List.range 64).map (fun k => cDecode x.awake src (cvtElem x.awake f src.bits k))).take 32) = sc 0 := by
    rw [hsc]; rfl
  have h1 : blockScale dst (((List.range 64).map (fun k => cDecode x.awake src (cvtElem x.awake f src.bits k))).drop 32) = sc 1 := by
    rw [hsc, ← hlen]; rfl
  have hlt : ∀ h, sc h < 2 ^ 8 := fun h => by rw [hsc]; exact blockScale_lt ..
  have hd : 16 * f.dpart.toNat = 8 * (2 * f.dpart.toNat) := by ring
  have := f.dpart.isLt
  rw [hd]
  refine scales_of_engRun h rfl hdst (by
    dsimp only; rw [hsrc, hdst]; dsimp only; rw [if_pos (by simp only [hok, Bool.true_and]; exact hform), h0, h1]) ?_ (by omega) (hlt 0) (hlt 1)
  rw [packed_eq _ dst _ _ rfl rfl]
  simp only [hr, cDecode, cvtElem_awake, cRnd_awake, Engine.step_awake]

/-- Settles O17. -/
theorem conversions : Obligations.Conversions := by
  intro e f s x src dst hsrc hdst hok el lo writes runs
  have name (g : Nat → Fl Nat) : ∃ r : Nat → Fl Nat, ∀ k, r k = g k := ⟨g, fun _ => rfl⟩
  refine ⟨fun h hform => ?_, fun h hform => ?_, fun h hform => ?_, fun h hform => ?_⟩
  · obtain ⟨r, hr⟩ := name fun k => resolve dst (cRnd x f (x.step s) k) (f.sat = 1) x.ftz true (el k)
    simp only [writes, ← hr]
    exact cvtRun_writes (ts := false) h rfl hsrc hdst hok hform hr
  · obtain ⟨r, hr⟩ := name fun k => resolve dst (cRnd x f (x.step s) k) (f.sat = 1) x.ftz true (mulX (el k) (readF fp32 x.ftz ((x.s f.sf).truncate 32).toNat))
    simp only [writes, ← hr]
    exact cvtRun_writes (ts := true) h rfl hsrc hdst hok (by simpa using hform) hr
  · have hcode : ∀ h, blockScale dst ((((List.range 64).map el).drop (32 * h)).take 32) = partScale x f src dst h := fun _ => rfl
    obtain ⟨sc, hsc⟩ : ∃ sc : Nat → Nat, ∀ h, sc h = partScale x f src dst h := ⟨_, fun _ => rfl⟩
    obtain ⟨r, hr⟩ := name fun k => packElem dst (cRnd x f (x.step s) k) x.ftz (sc (k / 32)) (el k)
    simp only [writes, hcode, ← hsc, ← hr]
    simpa only [partBits] using execCvtBp_writes h hsrc hdst hok hform hsc hr
  · obtain ⟨r, hr⟩ := name fun k => resolve dst (cRnd x f (x.step s) k) false x.ftz true
      (unpackElem src (bits (vBig x f.vs) (8 * (2 * f.spart.toNat + k / 32)) 8) (cvtElem x f src.bits k))
    simp only [writes, ← hr]
    simpa only [partBits] using execCvtBu_writes h hsrc hdst hok hform hr

end Sys2Proof.Machine
end

section
/-! PROOFS. Register fields apart from each other, and what an event or a count may change besides: tallies, records and messages. -/

namespace Sys2Proof.Machine

/-! ### Fields of the register file -/

/-- The value of a field's element in a register file. -/
def regAt (m : SMap Nat) (f : Fld) (i : Nat) : Nat := if i < fldCount f then sget (fldReset f i) m (fldKey f i) else fldReset f i

theorem rget_eq (s : State) (f : Fld) (i : Nat) : rget s f i = regAt s.regs f i := rfl

theorem fldCount_le (f : Fld) : fldCount f ≤ 2 ^ 20 := by cases f <;> decide

theorem regAt_of_le {f : Fld} {i : Nat} (m : SMap Nat) (h : fldCount f ≤ i) : regAt m f i = fldReset f i := if_neg (by omega)

/-- A write of one field leaves every other field and every other element. -/
theorem regAt_rset_ne {f g : Fld} {i j : Nat} (v : Nat) (s : State) (h : g ≠ f ∨ j ≠ i) : regAt (rset f i v s).regs g j = regAt s.regs g j := by
  rw [← rget_eq, ← rget_eq]
  by_cases hi : i < fldCount f
  · by_cases hj : j < fldCount g
    · exact rget_rset_ne s f g i j v (fldKey_ne (hi.trans_le (fldCount_le f)) (hj.trans_le (fldCount_le g)) h)
    · rw [rget_eq, rget_eq, regAt_of_le _ (by omega), regAt_of_le _ (by omega)]
  · rw [rset, if_neg hi]

@[simp] theorem regAt_rset_other {f g : Fld} (i j v : Nat) (s : State) (h : g ≠ f) : regAt (rset f i v s).regs g j = regAt s.regs g j :=
  regAt_rset_ne v s (.inl h)

@[simp] theorem regAt_rset_elsewhere {f : Fld} {i j : Nat} (v : Nat) (s : State) (h : j ≠ i) : regAt (rset f i v s).regs f j = regAt s.regs f j :=
  regAt_rset_ne v s (.inr h)

theorem regAt_rset_same {f : Fld} {i : Nat} (v : Nat) (s : State) (h : i < fldCount f) :
    regAt (rset f i v s).regs f i = v % 2 ^ (fldInfo f).width := rget_rset_same s f i v h

@[simp] theorem regAt_rflag_other {f g : Fld} (i j : Nat) (s : State) (h : g ≠ f) : regAt (rflag f i s).regs g j = regAt s.regs g j :=
  regAt_rset_other i j 1 s h

@[simp] theorem regAt_ror_other {f g : Fld} (i j m : Nat) (s : State) (h : g ≠ f) : regAt (ror f i m s).regs g j = regAt s.regs g j :=
  regAt_rset_other i j _ s h

/-! ### What an event may change -/

/-- The fields in which events and saturated counts leave a trace of their own (R76, R480). -/
def Fld.tally : Fld → Bool
  | .queueEvtDrop_count | .queueStatus_saturated | .mcFlags_saturated | .mcWinStatus_saturated | .hostifStatus_saturated
  | .pwrStatus_saturated | .thermStatus_saturated | .linkStatus_saturated | .cohortStatus_saturated | .stepStatus_saturated
  | .harvestStatus_saturated | .numwStatus_saturated | .almanacStatus_saturated | .vigilStatus_saturated | .troubleLog_saturated
  | .cdieMtxStatus_saturated | .cdieVecStatus_saturated | .cdieMemStatus_saturated | .fdieCollStatus_saturated
  | .fdieMirrorStatus_saturated | .fdieCxlStatus_saturated => true
  | _ => false

/-- A context but for the index at which its ring is written next. -/
def Ctx.noRing (x : Ctx) : Ctx := { x with ringIdx := 0 }

/-- `t` is `s` after events, counts and messages: of the register fields only those of `F` and the tallies may differ, contexts only by the
index of their ring, the host's functions only by their pending vectors, the rest of the command side only by queues and journal; records of
events and messages were added. -/
structure Told (F : List Fld) (s t : State) : Prop where
  regs : ∀ f i, f.tally = false → f ∉ F → regAt t.regs f i = regAt s.regs f i
  events : s.io.events <:+ t.io.events
  outbox : s.io.outbox <+: t.io.outbox
  ctxs : ∀ c, (ctx? t c).map Ctx.noRing = (ctx? s c).map Ctx.noRing
  host : { t.host with msixPend := s.host.msixPend } = s.host
  ctl : { t.ctl with ctxs := s.ctl.ctxs, queues := s.ctl.queues, journal := s.ctl.journal } = s.ctl
  boot : t.boot = s.boot

theorem Told.rfl {F : List Fld} {s : State} : Told F s s :=
  ⟨fun _ _ _ _ => Eq.refl _, List.suffix_rfl, List.prefix_rfl, fun _ => Eq.refl _, Eq.refl _, Eq.refl _, Eq.refl _⟩

theorem Told.mono {F G : List Fld} {s t : State} (h : Told F s t) (hg : ∀ f ∈ F, f ∈ G) : Told G s t :=
  { h with regs := fun f i hf hn => h.regs f i hf fun hm => hn (hg f hm) }

theorem Told.trans {F : List Fld} {s t u : State} (h : Told F s t) (k : Told F t u) : Told F s u where
  regs f i hf hn := (k.regs f i hf hn).trans (h.regs f i hf hn)
  events := h.events.trans k.events
  outbox := h.outbox.trans k.outbox
  ctxs c := (k.ctxs c).trans (h.ctxs c)
  host := by rw [← h.host, ← k.host]
  ctl := by rw [← h.ctl, ← k.ctl]
  boot := k.boot.trans h.boot

/-- A further update that touches none of it. -/
theorem Told.of_eq {F : List Fld} {s t u : State} (h : Told F s t) (hr : u.regs = t.regs) (hi : u.io = t.io) (hc : u.ctl = t.ctl) (hh : u.host = t.host)
    (hb : u.boot = t.boot) :
    Told F s u where
  regs f i hf hn := by rw [hr, h.regs f i hf hn]
  events := by rw [hi]; exact h.events
  outbox := by rw [hi]; exact h.outbox
  ctxs c := by rw [ctx?, hc]; exact h.ctxs c
  host := by rw [hh]; exact h.host
  ctl := by rw [hc]; exact h.ctl
  boot := hb.trans h.boot

section
variable {F : List Fld} {s t : State} (h : Told F s t)
include h

theorem Told.useFree : Told F s (useFree t) := h.of_eq (Eq.refl _) (Eq.refl _) (Eq.refl _) (Eq.refl _) (Eq.refl _)

theorem Told.withRemain (m : SMap Nat) : Told F s { t with remain := m } := h.of_eq (Eq.refl _) (Eq.refl _) (Eq.refl _) (Eq.refl _) (Eq.refl _)

theorem Told.tickCount (b : Nat) : Told F s (tickCount b t) := h.of_eq (Eq.refl _) (Eq.refl _) (Eq.refl _) (Eq.refl _) (Eq.refl _)

theorem Told.withLost (m : SMap Nat) : Told F s { t with lost := m } := h.of_eq (Eq.refl _) (Eq.refl _) (Eq.refl _) (Eq.refl _) (Eq.refl _)

theorem Told.rset {f : Fld} (hf : f.tally = true ∨ f ∈ F) (i v : Nat) : Told F s (rset f i v t) :=
  h.trans {
    regs := fun g j hg hn => regAt_rset_other i j v t (by rintro rfl; simp_all)
    events := by simp
    outbox := by simp
    ctxs := fun c => by simp [ctx?]
    host := by simp
    ctl := by simp
    boot := by simp }

theorem Told.setCtx {c : Nat} {x y : Ctx} (hx : ctx? t c = some x) (hy : y.noRing = x.noRing) : Told F s (setCtx c y t) :=
  h.trans {
    regs := fun _ _ _ _ => Eq.refl _
    events := List.suffix_rfl
    outbox := List.prefix_rfl
    ctxs := fun d => by
      by_cases e : d = c
      · rw [e, ctx?_setCtx_same, hx, Option.map_some, Option.map_some, hy]
      · rw [ctx?_setCtx_ne _ _ _ _ e]
    host := Eq.refl _
    ctl := Eq.refl _
    boot := Eq.refl _ }

theorem Told.rflag {f : Fld} (hf : f ∈ F) (i : Nat) : Told F s (rflag f i t) := h.rset (.inr hf) i 1

theorem Told.ror {f : Fld} (hf : f ∈ F) (i m : Nat) : Told F s (ror f i m t) := h.rset (.inr hf) i _

theorem Told.hostWrite (a : Nat) (b : List Byte) : Told F s (hostWrite a b t) :=
  h.trans ⟨fun _ _ _ _ => Eq.refl _, List.suffix_rfl, List.prefix_rfl, fun _ => Eq.refl _, Eq.refl _, Eq.refl _, Eq.refl _⟩

theorem Told.emit (m : OutMsg) : Told F s (emit m t) :=
  h.trans ⟨fun _ _ _ _ => Eq.refl _, List.suffix_rfl, List.prefix_append .., fun _ => Eq.refl _, Eq.refl _, Eq.refl _, Eq.refl _⟩

theorem Told.msix (fn vec : Nat) : Told F s (msix fn vec t) := by
  unfold Machine.msix
  split
  · exact h.emit _
  · exact h.trans ⟨fun _ _ _ _ => Eq.refl _, List.suffix_rfl, List.prefix_rfl, fun _ => Eq.refl _, Eq.refl _, Eq.refl _, Eq.refl _⟩

theorem Told.urgent : Told F s (urgent t) := by
  unfold Machine.urgent
  split
  · exact h.msix ..
  · exact h

theorem Told.logEvent (e : Event) : Told F s (logEvent e t) :=
  h.trans ⟨fun _ _ _ _ => Eq.refl _, List.suffix_cons .., List.prefix_rfl, fun _ => Eq.refl _, Eq.refl _, Eq.refl _, Eq.refl _⟩

theorem Told.ringWrite (e : Event) : Told F s (ringWrite e t).1 := by
  unfold Machine.ringWrite
  split
  · exact h
  · next x hx =>
    split
    · exact h
    · split
      · exact h.useFree
      · exact ((h.useFree.hostWrite _ _).setCtx (x := x) (y := { x with ringIdx := x.ringIdx + 1 }) hx (Eq.refl _)).msix ..

theorem Told.countDrop (c : Nat) : Told F s (countDrop c t) := by
  unfold Machine.countDrop
  split
  · exact h.rset (.inl (Eq.refl _)) ..
  · split
    · exact h
    · exact (((h.withLost _).rset (f := .queueStatus_saturated) (.inl (Eq.refl _)) 0 1).logEvent _).ringWrite _

end

/-- One record: it is the newest of those that were there, before what its delivery adds. -/
theorem raiseTo_logged (ring code src ctx queue detail : Nat) (s : State) :
    Told [] (logEvent (mkEvent (tickCount src s) ring code src ctx queue detail) (tickCount src s)) (raiseTo ring code src ctx queue detail s) := by
  unfold raiseTo
  dsimp only
  split
  · split
    · exact Told.rfl.trans ⟨fun _ _ _ _ => Eq.refl _, List.suffix_rfl, List.prefix_rfl, fun _ => Eq.refl _, Eq.refl _, Eq.refl _, Eq.refl _⟩
    · exact Told.rfl.countDrop _
  · split
    · exact (Told.rfl.ringWrite _).countDrop _
    · exact Told.rfl.ringWrite _

theorem satInfo_tally (f : Fld) (i : Nat) : (satInfo f i).all (fun x => x.1.tally) = true := by
  unfold satInfo
  dsimp only
  repeat' split
  all_goals rfl

section
variable {F : List Fld} {s t : State} (h : Told F s t)
include h

theorem Told.raiseTo (ring code src ctx queue detail : Nat) : Told F s (raiseTo ring code src ctx queue detail t) :=
  ((h.tickCount src).logEvent _).trans ((raiseTo_logged ring code src ctx queue detail t).mono (by simp))

theorem Told.raise0 (code src detail : Nat) : Told F s (raise0 code src detail t) := h.raiseTo ..

theorem Told.raiseC (code src ctx detail : Nat) : Told F s (raiseC code src ctx detail t) := h.raiseTo ..

theorem Told.raiseBoth (code src ctx detail : Nat) : Told F s (raiseBoth code src ctx detail t) := by
  unfold Machine.raiseBoth
  split
  · exact h.raiseC ..
  · exact (h.raiseC ..).raiseTo ..

end

/-- A count changes its own field, and tells of the increment past its maximum. -/
theorem count_told (f : Fld) (i n : Nat) (s : State) :
    Told [] (rset f i (Min.min (rget s f i + n) (2 ^ (fldInfo f).width - 1)) s) (count f i n s) := by
  unfold count
  dsimp only
  split
  · next h => rw [Nat.min_eq_left h]; exact Told.rfl
  · next h =>
    rw [Nat.min_eq_right (Nat.le_of_not_le h)]
    split
    · exact Told.rfl
    · split
      · exact Told.rfl.withLost _
      · next g gi code detail hg => exact ((Told.rfl.withLost _).rset (.inl (by simpa [hg] using satInfo_tally f i)) gi 1).raise0 ..

section
variable {F : List Fld} {s t : State} (h : Told F s t)
include h

theorem Told.count {f : Fld} (hf : f.tally = true ∨ f ∈ F) (i n : Nat) : Told F s (count f i n t) :=
  (h.rset hf ..).trans ((count_told f i n t).mono (by simp))

theorem Told.count1 {f : Fld} (hf : f.tally = true ∨ f ∈ F) (i : Nat) : Told F s (count1 f i t) := h.count hf i 1

theorem Told.activity {f : Fld} (hf : f ∈ F) (i n : Nat) : Told F s (activity f i n t) := by
  unfold Machine.activity
  dsimp only
  split
  · exact h.withRemain _
  · exact (h.withRemain _).count (.inr hf) ..

theorem Told.trouble {f : Fld} (hf : f ∈ F) (h1 : .troubleFirst_lcount ∈ F) (h2 : .troubleLast_lcount ∈ F) (m : Nat) :
    Told F s (trouble f m t) := by
  unfold Machine.trouble
  dsimp only
  refine Told.rset (Told.ror ?_ hf ..) (.inr h2) ..
  split
  · exact h.rset (.inr h1) ..
  · exact h

end

/-! ### Registers after an event or a count -/

section
variable {g : Fld} (j : Nat) (s : State)

@[simp] theorem regAt_raiseTo (ring code src ctx queue detail : Nat) (hg : g.tally = false) :
    regAt (raiseTo ring code src ctx queue detail s).regs g j = regAt s.regs g j := (Told.rfl.raiseTo (F := []) ..).regs g j hg (by simp)

@[simp] theorem regAt_raise0 (code src detail : Nat) (hg : g.tally = false) : regAt (raise0 code src detail s).regs g j = regAt s.regs g j :=
  regAt_raiseTo j s _ _ _ _ _ _ hg

@[simp] theorem regAt_raiseC (code src ctx detail : Nat) (hg : g.tally = false) :
    regAt (raiseC code src ctx detail s).regs g j = regAt s.regs g j := regAt_raiseTo j s _ _ _ _ _ _ hg

@[simp] theorem regAt_raiseBoth (code src ctx detail : Nat) (hg : g.tally = false) :
    regAt (raiseBoth code src ctx detail s).regs g j = regAt s.regs g j := (Told.rfl.raiseBoth (F := []) ..).regs g j hg (by simp)

@[simp] theorem regAt_count_other {f : Fld} (i n : Nat) (hg : g.tally = false) (hf : g ≠ f) :
    regAt (count f i n s).regs g j = regAt s.regs g j := ((Told.rfl (F := [f])).count (by simp) i n).regs g j hg (by simp [hf])

@[simp] theorem regAt_count1_other {f : Fld} (i : Nat) (hg : g.tally = false) (hf : g ≠ f) :
    regAt (count1 f i s).regs g j = regAt s.regs g j := regAt_count_other j s i 1 hg hf

@[simp] theorem regAt_activity_other {f : Fld} (i n : Nat) (hg : g.tally = false) (hf : g ≠ f) :
    regAt (activity f i n s).regs g j = regAt s.regs g j := ((Told.rfl (F := [f])).activity (by simp) i n).regs g j hg (by simp [hf])

end

/-- A counter below its maximum moves on by what was counted. -/
theorem regAt_count_same {f : Fld} {i n : Nat} {s : State} (hf : f.tally = false) (hi : i < fldCount f)
    (hn : regAt s.regs f i + n ≤ 2 ^ (fldInfo f).width - 1) : regAt (count f i n s).regs f i = regAt s.regs f i + n := by
  rw [(count_told f i n s).regs f i hf (by simp), regAt_rset_same _ _ hi, rget_eq, Nat.min_eq_left hn]
  have := Nat.two_pow_pos (fldInfo f).width
  exact Nat.mod_eq_of_lt (by omega)

/-! ### Records of events -/

/-- The record that an event forms is among the records. -/
theorem raiseTo_events (ring code src ctx queue detail : Nat) (s : State) :
    ∃ l, (raiseTo ring code src ctx queue detail s).io.events = l ++ mkEvent (tickCount src s) ring code src ctx queue detail :: s.io.events := by
  obtain ⟨l, hl⟩ := (raiseTo_logged ring code src ctx queue detail s).events
  exact ⟨l, hl.symm⟩

theorem mem_raiseTo_events (ring code src ctx queue detail : Nat) (s : State) :
    mkEvent (tickCount src s) ring code src ctx queue detail ∈ (raiseTo ring code src ctx queue detail s).io.events := by
  obtain ⟨l, hl⟩ := raiseTo_events ring code src ctx queue detail s
  simp [hl]

theorem raise0_event (code src detail : Nat) (s : State) :
    ∃ ev ∈ (raise0 code src detail s).io.events, ev.code = code ∧ ev.src = src ∧ ev.ring = 0 ∧ ev.ctx = 0 ∧ ev.detail = detail % 2 ^ 256 :=
  ⟨_, mem_raiseTo_events .., Eq.refl _, Eq.refl _, Eq.refl _, Eq.refl _, Eq.refl _⟩

theorem raiseC_reported (code src ctx detail : Nat) (s : State) : reported s (raiseC code src ctx detail s) code ctx := by
  obtain ⟨l, hl⟩ := raiseTo_events ctx code src ctx 0xFFFF detail s
  exact ⟨l ++ [mkEvent (tickCount src s) ctx code src ctx 0xFFFF detail], by rw [raiseC, hl, List.append_assoc]; rfl, _,
    List.mem_append_right _ (List.mem_singleton.mpr (Eq.refl _)), Eq.refl _, Eq.refl _⟩

/-- What was reported stays reported when more is told. -/
theorem reported.told {F : List Fld} {s t u : State} {code c : Nat} (h : reported s t code c) (k : Told F t u) : reported s u code c := by
  obtain ⟨l, hl, ev, hev, hc⟩ := h
  obtain ⟨m, hm⟩ := k.events
  exact ⟨m ++ l, by rw [← hm, hl, List.append_assoc], ev, by simp [hev], hc⟩

theorem reported.since {F : List Fld} {s t u : State} {code c : Nat} (k : Told F s t) (h : reported t u code c) : reported s u code c := by
  obtain ⟨l, hl, ev, hev, hc⟩ := h
  obtain ⟨m, hm⟩ := k.events
  exact ⟨l ++ m, by rw [hl, ← hm, List.append_assoc], ev, by simp [hev], hc⟩

theorem raiseBoth_reported (code src ctx detail : Nat) (s : State) : reported s (raiseBoth code src ctx detail s) code ctx := by
  unfold raiseBoth
  split
  · exact raiseC_reported ..
  · exact (raiseC_reported code src ctx detail s).told (Told.rfl.raiseTo (F := []) ..)

theorem reported.exists_mem {s t : State} {code c : Nat} (h : reported s t code c) : ∃ ev ∈ t.io.events, ev.code = code ∧ ev.ctx = c := by
  obtain ⟨l, hl, ev, hev, hc⟩ := h
  exact ⟨ev, by simp [hl, hev], hc⟩

end Sys2Proof.Machine
end

section
/-! PROOFS. The matrix instructions on one selected core, and the completion of a tile multiply (ch. 5). -/

namespace Sys2Proof.Machine

/-! ### Words and bytes of a core -/

theorem coreOf_setCore_same (e : Eng) (c : Nat) (x : Core) (s : State) : coreOf (setCore e c x s) e c = x := by
  simp [coreOf, setCore]

theorem coreOf_setEng (e d : Eng) (c : Nat) (x : Engine) (s : State) : coreOf (setEng d x s) e c = coreOf s e c := (rfl)

theorem coreOf_putBytes (e : Eng) (c k : Nat) (b : List Byte) (s : State) : coreOf (putBytes k b s) e c = coreOf s e c := (rfl)

theorem Core.word_setWord (x : Core) (w v : Nat) (u : Word32) : (x.setWord w u).word v = if v = w then u else x.word v := by
  unfold Core.word Core.setWord
  by_cases h : v = w
  · simp [h]
  · simp [sget?_sput_ne _ _ h, h]

/-- Words written one after another. -/
def Core.setWords (l : List (Nat × Word32)) (x : Core) : Core := l.foldl (fun y p => y.setWord p.1 p.2) x

theorem Core.word_setWords_out (l : List (Nat × Word32)) (x : Core) {w : Nat} (h : ∀ p ∈ l, p.1 ≠ w) : (x.setWords l).word w = x.word w := by
  induction l generalizing x with
  | nil => rfl
  | cons q l ih =>
    rw [setWords, List.foldl_cons]
    exact (ih _ fun p hp => h p (List.mem_cons_of_mem _ hp)).trans (by rw [Core.word_setWord, if_neg (h q List.mem_cons_self).symm])

theorem Core.word_setWords_in (l : List (Nat × Word32)) (x : Core) (hl : (l.map Prod.fst).Nodup) {w : Nat} {v : Word32} (h : (w, v) ∈ l) :
    (x.setWords l).word w = v := by
  induction l generalizing x with
  | nil => simp at h
  | cons p l ih =>
    rw [List.map_cons, List.nodup_cons] at hl
    rw [setWords, List.foldl_cons]
    rcases List.mem_cons.mp h with rfl | h
    · exact (word_setWords_out l _ fun p hp e => hl.1 (List.mem_map.mpr ⟨p, hp, e⟩)).trans (by rw [Core.word_setWord, if_pos rfl])
    · exact ih _ hl.2 h

theorem Core.setWords_parity (l : List (Nat × Word32)) (x : Core) (h : x.parity = []) : (x.setWords l).parity = [] := by
  induction l generalizing x with
  | nil => exact h
  | cons q l ih => exact ih _ (by simp [Core.setWord, h])

theorem Core.word_setBad (x : Core) (a b : Bool) (w : Nat) : (x.setBad a b).word w = x.word w := by
  cases a <;> rfl

theorem Core.bad_setBad (x : Core) (a b : Bool) : (x.setBad a b).bad a = b := by
  cases a <;> rfl

theorem Core.queue_setBad (x : Core) (a b : Bool) : (x.setBad a b).queue = x.queue := by
  cases a <;> rfl

theorem Core.queue_setWords (l : List (Nat × Word32)) (x : Core) : (x.setWords l).queue = x.queue := by
  induction l generalizing x with
  | nil => rfl
  | cons q l ih => exact (ih _).trans rfl

/-- Bytes stored in core store are read back. -/
theorem Core.byte_setBytes (x : Core) (a : Nat) (b : List Byte) {i : Nat} (hi : i < b.length) : (x.setBytes a b).byte (a + i) = b[i] := by
  have key : ∀ (l : List (Byte × Nat)) (m : SMap Byte), (l.map Prod.snd).Nodup → ∀ p ∈ l,
      sget? (l.foldl (fun m y => sput m (a + y.2) y.1) m) (a + p.2) = some p.1 := by
    intro l
    induction l with
    | nil => simp
    | cons q l ih =>
      intro m hl p hp
      rw [List.map_cons, List.nodup_cons] at hl
      rw [List.foldl_cons]
      rcases List.mem_cons.mp hp with rfl | hp
      · suffices ∀ m, sget? (l.foldl (fun m y => sput m (a + y.2) y.1) m) (a + p.2) = sget? m (a + p.2) by rw [this]; simp
        have hne : ∀ y ∈ l, y.2 ≠ p.2 := fun y hy e => hl.1 (List.mem_map.mpr ⟨y, hy, e⟩)
        clear ih hl hp
        induction l with
        | nil => exact fun _ => rfl
        | cons r l ih =>
          intro m
          have hr := hne r List.mem_cons_self
          rw [List.foldl_cons, ih fun y hy => hne y (List.mem_cons_of_mem _ hy), sget?_sput_ne _ _ (by omega)]
      · exact ih _ hl.2 p hp
  have h := key b.zipIdx x.store (by rw [List.zipIdx_map_snd]; exact List.nodup_range' ..) (b[i], i) (by simp [List.mem_zipIdx_iff_getElem?, hi])
  simp [Core.byte, Core.setBytes, h]

/-! ### The queue of a core -/

theorem drainCore_nil {e : Eng} {c : Nat} {s : State} (h : (coreOf s e c).queue = []) (n : Nat) : drainCore e c n s = s := by
  cases n with
  | zero => rfl
  | succ n => rw [drainCore]; simp [h]

theorem drainCore_mma {e : Eng} {c : Nat} {s : State} {d : Mma} {q : List CoreOp} (h : (coreOf s e c).queue = .mma d :: q) (n : Nat) :
    drainCore e c n s = s := by
  cases n with
  | zero => rfl
  | succ n => rw [drainCore]; simp [h]

/-! ### One operation on an idle core -/

/-- The state in which the operation of an idle core is executed: its engine has gone on, the core's queue is empty again. -/
def coreGo (e : Eng) (c : Nat) (x : Engine) (op : CoreOp) (s : State) : State :=
  setCore e c { coreOf s e c with queue := [] } (setCore e c { coreOf s e c with queue := [op] } (setEng e x.went s))

theorem eng?_putBytes (e : Eng) (k : Nat) (b : List Byte) (s : State) : eng? (putBytes k b s) e = eng? s e := (rfl)

theorem coreOf_coreGo (e : Eng) (c : Nat) (x : Engine) (op : CoreOp) (s : State) :
    coreOf (coreGo e c x op s) e c = { coreOf s e c with queue := [] } := coreOf_setCore_same ..

theorem eng?_coreGo (e : Eng) (c : Nat) (x : Engine) (op : CoreOp) (s : State) : eng? (coreGo e c x op s) e = some x.went :=
  eng?_setEng_same s e x.went

theorem coreGo_mem (e : Eng) (c : Nat) (x : Engine) (op : CoreOp) (s : State) : (coreGo e c x op s).mem = s.mem := (rfl)

theorem clBad_coreGo (d e : Eng) (c : Nat) (x : Engine) (op : CoreOp) (s : State) (a n : Nat) :
    clBad (coreGo d c x op s) e a n = clBad s e a n := (rfl)

section
variable {i : Instr} {s : State} {e : Eng} {x : Engine} {f : FmtM} {c : Nat} (hq : (coreOf s e c).queue = [])
include hq

theorem issueOps_one (op : Nat → CoreOp) : issueOps e [c] op (setEng e x.went s) =
    drainCore e c 9 (setCore e c { coreOf s e c with queue := [op c] } (setEng e x.went s)) := by
  simp [issueOps, coreOf_setEng, hq]

theorem issueOps_store (acc : Bool) (a : Nat → Nat) :
    issueOps e [c] (fun c => .store acc (a c)) (setEng e x.went s) =
      drainCore e c 8 (runStore e c acc (a c) (coreGo e c x (.store acc (a c)) s)) := by
  rw [issueOps_one hq, drainCore]
  simp only [coreOf_setCore_same, coreGo]

theorem issueOps_load (acc : Bool) (a : Nat → Nat) :
    issueOps e [c] (fun c => .load acc (a c)) (setEng e x.went s) =
      drainCore e c 8 (runLoad e c acc (a c) (coreGo e c x (.load acc (a c)) s)) := by
  rw [issueOps_one hq, drainCore]
  simp only [coreOf_setCore_same, coreGo]

theorem issueOps_csload (a : Nat → Nat) (len dst : Nat) :
    issueOps e [c] (fun c => .csload (a c) len dst) (setEng e x.went s) =
      drainCore e c 8 (runCsload e c (a c) len dst (coreGo e c x (.csload (a c) len dst) s)) := by
  rw [issueOps_one hq, drainCore]
  simp only [coreOf_setCore_same, coreGo]

theorem issueOps_mma (d : Nat → Mma) :
    issueOps e [c] (fun c => .mma (d c)) (setEng e x.went s) =
      setCore e c { coreOf s e c with queue := [.mma (d c)] } (setEng e x.went s) := by
  rw [issueOps_one hq, drainCore_mma (by rw [coreOf_setCore_same])]

theorem mtxIssue_one (op : Nat → CoreOp) : mtxIssue x s e [c] op = .next x (issueOps e [c] op) := by
  simp [mtxIssue, hq]

end

/-! ### What the operations do without a fault -/

section
variable {s : State} {e : Eng} {c : Nat}

/-- The bytes of a tile, row by row. -/
def tileBytes (x : Core) (acc : Bool) : List Byte := (List.range 256).flatMap (fun w => leBytes 4 (x.word (256 * b2n acc + w)).toNat)

theorem length_flatMap_of_four (l : List Nat) (g : Nat → List Byte) (h : ∀ w, (g w).length = 4) : (l.flatMap g).length = 4 * l.length := by
  simp [List.length_flatMap, h, Nat.mul_comm]

theorem tileBytes_length (x : Core) (acc : Bool) : (tileBytes x acc).length = 1024 := by
  rw [tileBytes, length_flatMap_of_four _ _ (by simp)]; simp

theorem flatMap_range_four (g : Nat → List Byte) (h : ∀ w, (g w).length = 4) {n w : Nat} (hw : w < n) :
    (((List.range n).flatMap g).drop (4 * w)).take 4 = g w := by
  obtain ⟨m, rfl⟩ : ∃ m, n = w + (1 + m) := ⟨n - w - 1, by omega⟩
  have h4 := length_flatMap_of_four (List.range w) g h
  rw [List.length_range] at h4
  rw [List.range_add, List.flatMap_append, List.drop_left' h4, List.range_add]
  simp only [List.map_append, List.flatMap_append, List.range_one, List.map_singleton, List.flatMap_singleton, Nat.add_zero]
  exact List.take_left' (h w)

theorem tileBytes_word (x : Core) (acc : Bool) {w : Nat} (hw : w < 256) :
    ((tileBytes x acc).drop (4 * w)).take 4 = leBytes 4 (x.word (256 * b2n acc + w)).toNat := flatMap_range_four _ (by simp) hw

theorem sgetN_ssetN_part {b : List Byte} (m : SMap Byte) (k i : Nat) {n : Nat} (h : i + n ≤ b.length) :
    sgetN 0 (ssetN 0 m k b) (k + i) n = (b.drop i).take n := by
  apply List.ext_getElem?
  intro j
  rw [getElem?_sgetN, List.getElem?_take, List.getElem?_drop]
  split
  · next hj => rw [Nat.add_assoc, sget_ssetN_in _ _ _ _ (by omega), List.getElem?_eq_getElem (by omega)]
  · rfl

theorem getElem_sgetN (m : SMap Byte) (k n j : Nat) (h : j < (sgetN 0 m k n).length) : (sgetN 0 m k n)[j] = sget 0 m (k + j) := by
  have := getElem?_sgetN 0 m k n j
  rw [length_sgetN] at h
  rw [List.getElem?_eq_getElem (by rw [length_sgetN]; exact h), if_pos h] at this
  exact Option.some.inj this

theorem runStore_of_good {acc : Bool} {a : Nat} (hp : (coreOf s e c).parity = []) (hb : (coreOf s e c).bad acc = false)
    (h : clBad s e a 1024 = false) : runStore e c acc a s = putBytes (clKey e.die e.cl e.shadow a) (tileBytes (coreOf s e c) acc) s := by
  unfold runStore
  dsimp only
  rw [hp, hb]
  exact clWrite_of_good (b := tileBytes (coreOf s e c) acc) (by rw [tileBytes_length]; exact h)

/-- The words that a load takes from 1,024 bytes of cluster memory. -/
def tileWords (m : SMap Byte) (k base : Nat) : List (Nat × Word32) :=
  (List.range 256).map fun w => (base + w, BitVec.ofNat 32 (leNat (sgetN 0 m (k + 4 * w) 4)))

theorem tileWords_nodup (m : SMap Byte) (k base : Nat) : ((tileWords m k base).map Prod.fst).Nodup := by
  rw [tileWords, List.map_map]
  exact List.Nodup.map (fun a b h => Nat.add_left_cancel h) List.nodup_range

theorem setWords_tileWords (x : Core) (m : SMap Byte) (k base : Nat) :
    (List.range 256).foldl (fun x w => x.setWord (base + w) (BitVec.ofNat 32 (leNat (((sgetN 0 m k 1024).drop (4 * w)).take 4)))) x =
      x.setWords (tileWords m k base) := by
  rw [Core.setWords, tileWords, List.foldl_map]
  refine List.foldl_ext _ _ _ fun x w hw => ?_
  have hw := List.mem_range.mp hw
  obtain ⟨n, hn⟩ : ∃ n, 1024 = 4 * w + (4 + n) := ⟨1020 - 4 * w, by omega⟩
  dsimp only
  rw [hn, sgetN_add, sgetN_add, List.drop_left' (length_sgetN ..), List.take_left' (length_sgetN ..)]

theorem runLoad_of_good {acc : Bool} {a : Nat} (h : clBad s e a 1024 = false) :
    runLoad e c acc a s = setCore e c (((coreOf s e c).setWords
      (tileWords s.mem.bytes (clKey e.die e.cl e.shadow a) (256 * b2n acc))).setBad acc false) s := by
  unfold runLoad
  rw [clReport_of_good 0 (by exact h), clPeek_of_good h, setWords_tileWords]

theorem runCsload_of_good {a len dst : Nat} (h : clBad s e a len = false) :
    runCsload e c a len dst s = setCore e c ((coreOf s e c).setBytes dst (sgetN 0 s.mem.bytes (clKey e.die e.cl e.shadow a) len)) s := by
  unfold runCsload
  rw [clReport_of_good 0 (by exact h), clPeek_of_good h]

end

theorem b2n_beq_one (a : BitVec 1) : b2n (a == 1) = a.toNat := by revert a; decide

theorem mtxOk_awake {x : Engine} {f : FmtM} {c : Nat} (hr : f.rsv = 0) (hc : mtxCores x f = [c]) (hb : mtxBase x f % 64 = 0) :
    mtxOk x.awake f = true := by
  rw [mtxOk, show mtxCores x.awake f = [c] from hc, show mtxBase x.awake f = mtxBase x f from rfl, hr, hb]
  rfl

/-- An instruction that leaves its engine as it is but for what it does beyond it. -/
theorem engRun_went {i : Instr} {s : State} {e : Eng} {x : Engine} {body : Engine → State → EStep} {post : State → State} (h : executes i s e x)
    (hb : body x.awake s = .next x.awake post) : engRun i e body s = post (setEng e x.went s) := by
  rw [engRun_eq h, hb]
  rfl

section
variable {i : Instr} {s : State} {e : Eng} {x : Engine} {f : FmtM} {c : Nat} (hr : f.rsv = 0) (hc : mtxCores x f = [c])
  (hx : executes i s e x) (hq : (coreOf s e c).queue = []) (hb : mtxBase x f % 64 = 0)
include hr hc hx hq hb

theorem mtxTile_one (op : Nat → CoreOp) (ha : f.accum = 0) (hin : tileAddr x f c + 1024 ≤ 196608) :
    mtxTile i e f op s = issueOps e [c] (fun c => op (tileAddr x f c)) (setEng e x.went s) := by
  refine engRun_went hx ?_
  simp only [mtxOk_awake hr hc hb, show mtxCores x.awake f = [c] from hc, show ∀ c, tileAddr x.awake f c = tileAddr x f c from fun _ => rfl]
  rw [if_neg (by simpa [ha, clSize] using hin), mtxIssue_one hq]

theorem execMtxCsload_one (hi : i = .mtxCsload e f) (ha : f.accum = 0) (ha' : f.acc = 0)
    (hd : 64 * (f.imm.toNat % 256) + 64 * (f.imm.toNat / 256 % 256 + 1) ≤ 8192)
    (hin : mtxBase x f + 64 * (c * (f.imm.toNat / 65536)) + 64 * (f.imm.toNat / 256 % 256 + 1) ≤ 196608) :
    execMtxCsload e f s = .next (issueOps e [c] (fun c => .csload (mtxBase x f + 64 * (c * (f.imm.toNat / 65536)))
      (64 * (f.imm.toNat / 256 % 256 + 1)) (64 * (f.imm.toNat % 256))) (setEng e x.went s)) := by
  subst hi
  refine congrArg Host.Outcome.next (engRun_went hx ?_)
  simp only [mtxOk_awake hr hc hb, show mtxCores x.awake f = [c] from hc, show mtxBase x.awake f = mtxBase x f from rfl,
    show bits f.imm.toNat 8 8 = f.imm.toNat / 256 % 256 by simp [bits, Nat.shiftRight_eq_div_pow]]
  have hd' : ¬ 128 < f.imm.toNat % 256 + (f.imm.toNat / 256 % 256 + 1) := by omega
  rw [if_neg (by simp [ha, ha', clSize, hd', hin]), mtxIssue_one hq]

theorem execMtxMma_one (hi : i = .mtxMma e f) (hm : f.imm.toNat % 64 = 0) (hin : mtxBase x f + f.imm.toNat + 64 ≤ 196608)
    (hgood : clBad s e (mtxBase x f + f.imm.toNat) 64 = false)
    (b : List Byte) (hpeek : clPeek s e (mtxBase x f + f.imm.toNat) 64 = b) (hf : mmaFormOk b = true) (off : Bool)
    (hoff : (rget s .cdieMtxCheckCtl_lanesOff e.die == 1) = off) (hr' : mmaRangeOk (mkMma b c (f.acc == 1) (f.accum == 1) off) = true) :
    execMtxMma e f s = .next (setCore e c { coreOf s e c with queue := [.mma (mkMma b c (f.acc == 1) (f.accum == 1) off)] } (setEng e x.went s)) := by
  subst hi
  refine congrArg Host.Outcome.next ?_
  rw [engRun_went hx (post := fun t => clReport 0 e (mtxBase x f + f.imm.toNat) 64
    (issueOps e [c] (fun c => .mma (mkMma b c (f.acc == 1) (f.accum == 1) off)) t)), issueOps_mma hq, clReport_of_good 0 (by exact hgood)]
  simp only [mtxOk_awake hr hc hb, show mtxCores x.awake f = [c] from hc, show mtxBase x.awake f = mtxBase x f from rfl, hpeek, hoff]
  have hin' : ¬ 196608 < mtxBase x f + f.imm.toNat + 64 := by omega
  rw [if_neg (by simp [hm, clSize, hin']), if_neg (by simp only [hf, hr', List.all_cons, List.all_nil]; decide), mtxIssue_one hq]

end

/-- Settles O18: on one idle core an operation is executed at once, from the core's words to memory or back; a multiply stays queued. -/
theorem matrixInstructions : Obligations.MatrixInstructions := by
  intro e f s x c hr hc core base addr key tile ready sameMem
  have hkey : ∀ a n, key a + n = key (a + n) := fun a n => (clKey_add ..).symm
  have htile : 256 * b2n (f.acc == 1) = tile := by rw [b2n_beq_one]
  refine ⟨?_, ?_, ?_, ?_, ?_⟩
  · rintro ⟨hx, hq, hb⟩ ha hin hgood hp hbad
    have hs : issueOps e [c] (fun c => .store (f.acc == 1) (tileAddr x f c)) (setEng e x.went s) =
        putBytes (key addr) (tileBytes core (f.acc == 1)) (coreGo e c x (.store (f.acc == 1) addr) s) := by
      rw [issueOps_store hq, runStore_of_good (by rw [coreOf_coreGo]; exact hp) (by rw [coreOf_coreGo]; exact hbad) (by rw [clBad_coreGo]; exact hgood),
        coreOf_coreGo, drainCore_nil (by rw [coreOf_putBytes, coreOf_coreGo])]
      rfl
    refine ⟨_, congrArg Host.Outcome.next ((mtxTile_one hr hc hx hq hb _ ha hin).trans hs), (eng?_putBytes ..).trans (eng?_coreGo ..), ?_, ?_, ?_⟩
    · rw [coreOf_putBytes, coreOf_coreGo]
    · intro w hw
      have hin : 4 * w + 4 ≤ (tileBytes core (f.acc == 1)).length := by rw [tileBytes_length]; omega
      rw [← htile, ← tileBytes_word core _ hw, putBytes_bytes]
      exact sgetN_ssetN_part _ _ _ hin
    · intro j hj
      rw [← tileBytes_length core (f.acc == 1)] at hj
      rw [putBytes_bytes]
      exact sget_ssetN_out _ _ _ hj
  · rintro ⟨hx, hq, hb⟩ ha hin hgood
    have hs : issueOps e [c] (fun c => .load (f.acc == 1) (tileAddr x f c)) (setEng e x.went s) =
        setCore e c (({ core with queue := [] }.setWords (tileWords s.mem.bytes (key addr) tile)).setBad (f.acc == 1) false)
          (coreGo e c x (.load (f.acc == 1) addr) s) := by
      rw [issueOps_load hq, runLoad_of_good (by rw [clBad_coreGo]; exact hgood), coreOf_coreGo,
        drainCore_nil (by rw [coreOf_setCore_same, Core.queue_setBad, Core.queue_setWords]), htile]
      rfl
    refine ⟨_, congrArg Host.Outcome.next ((mtxTile_one hr hc hx hq hb _ ha hin).trans hs), eng?_setEng_same s e x.went, rfl, ?_, ?_⟩
    · rw [coreOf_setCore_same, Core.bad_setBad]
    · intro w hw
      rw [coreOf_setCore_same, Core.word_setBad]
      exact Core.word_setWords_in _ _ (tileWords_nodup ..) (List.mem_map.mpr ⟨w, List.mem_range.mpr hw, rfl⟩)
  · rintro src len dst ⟨hx, hq, hb⟩ ha ha' hd hin hgood
    have hs : issueOps e [c] (fun c => .csload (base + 64 * (c * (f.imm.toNat / 65536))) len dst) (setEng e x.went s) =
        setCore e c ({ core with queue := [] }.setBytes dst (sgetN 0 s.mem.bytes (key src) len)) (coreGo e c x (.csload src len dst) s) := by
      rw [issueOps_csload hq, runCsload_of_good (by rw [clBad_coreGo]; exact hgood), coreOf_coreGo, drainCore_nil (by rw [coreOf_setCore_same]; rfl)]
      rfl
    refine ⟨_, (execMtxCsload_one hr hc hx hq hb rfl ha ha' hd hin).trans (congrArg Host.Outcome.next hs), eng?_setEng_same s e x.went, rfl, ?_⟩
    intro j hj
    rw [coreOf_setCore_same, Core.byte_setBytes _ _ _ (by rw [length_sgetN]; exact hj), getElem_sgetN]
  · rintro a b d ⟨hx, hq, hb⟩ hm hin hgood hf hd
    refine ⟨_, execMtxMma_one hr hc hx hq hb rfl hm hin hgood b (clPeek_of_good hgood) hf _ rfl hd, eng?_setEng_same .., rfl, ?_, ?_⟩
    · rw [coreOf_setCore_same]
    · intro w
      rw [coreOf_setCore_same]; rfl
  · intro hx hi hsa hac hacc
    refine congrArg Host.Outcome.next ?_
    rw [engRun_eq hx]
    simp only [show mtxCores x.awake f = [c] from hc, hr, hi, hsa, hac, hacc]
    by_cases hq : core.queue = []
    · simp [hq, core, Engine.went]
    · simp [hq, core]

/-! ### A tile multiply without faults -/

theorem laneCheck_clean (d : Mma) (a b : List (List FVal)) : (laneCheck d a b []).1 = 0 := by
  simp [laneCheck, laneBad, b2n]

theorem mmaChecks_clean (x : Core) (d : Mma) (a b : List (List FVal)) (h : x.parity = []) : (mmaChecks x d a b [] []).1 = 0 := by
  unfold mmaChecks
  cases d.off <;> simp [laneCheck_clean, h, b2n]

theorem mmaOuts_nodup (x : Core) (d : Mma) (a b : List (List FVal)) (hn : d.n ≤ 16) : ((mmaOuts x d a b [] []).map Prod.fst).Nodup := by
  unfold mmaOuts
  simp only [List.map_flatMap, List.map_map]
  refine List.nodup_flatMap.mpr ⟨fun i _ => List.Nodup.map (fun j k h => by simpa using h) List.nodup_range, ?_⟩
  refine List.pairwise_lt_range.imp fun {i i'} hi => ?_
  simp only [Function.onFun, List.disjoint_left, List.mem_map, List.mem_range, Function.comp_apply]
  rintro _ ⟨j, hj, rfl⟩ ⟨j', hj', h⟩
  omega

theorem mem_mmaOuts (x : Core) (d : Mma) (a b : List (List FVal)) {i j : Nat} (hi : i < d.m) (hj : j < d.n) :
    (256 * b2n d.acc + 16 * i + j, BitVec.ofNat 32 (if d.accum then addF (x.word (256 * b2n d.acc + 16 * i + j)).toNat
      (tileOut d (a.getD i []) (b.getD j []) (fun _ => [])) else tileOut d (a.getD i []) (b.getD j []) (fun _ => []))) ∈ mmaOuts x d a b [] [] :=
  List.mem_flatMap.mpr ⟨i, List.mem_range.mpr hi, List.mem_map.mpr ⟨j, List.mem_range.mpr hj, rfl⟩⟩

theorem mmaOuts_in_tile {x : Core} {d : Mma} {a b : List (List FVal)} {p : Nat × Word32} (h : p ∈ mmaOuts x d a b [] []) :
    ∃ i j, i < d.m ∧ j < d.n ∧ p.1 = 256 * b2n d.acc + 16 * i + j := by
  obtain ⟨i, hi, h⟩ := List.mem_flatMap.mp h
  obtain ⟨j, hj, rfl⟩ := List.mem_map.mp h
  exact ⟨i, j, List.mem_range.mp hi, List.mem_range.mp hj, rfl⟩

theorem foldl_clReport_of_good {e : Eng} {s : State} {l : List (Nat × Nat)} (h : l.all (fun r => !clBad s e r.1 r.2) = true) :
    l.foldl (fun s r => clReport 0 e r.1 r.2 s) s = s := by
  induction l with
  | nil => rfl
  | cons r l ih =>
    rw [List.all_cons, Bool.and_eq_true, Bool.not_eq_true'] at h
    rw [List.foldl_cons, clReport_of_good 0 h.1, ih h.2]

theorem eng?_setCore (d e : Eng) (c : Nat) (y : Core) (s : State) : eng? (setCore d c y s) e = eng? s e := (rfl)

/-- The core after a clean multiply at the head of its queue. -/
def mmaCore (s : State) (e : Eng) (c : Nat) (d : Mma) (q : List CoreOp) : Core :=
  let x := coreOf s e c
  { x.setWords (mmaOuts x d (mmaA s e x d) (mmaB s e x d) [] []) with queue := q }.setBad d.acc
    (x.bad d.acc && (d.accum || decide (d.m < 16) || decide (d.n < 16)))

theorem word_mmaCore (s : State) (e : Eng) (c : Nat) (d : Mma) (q : List CoreOp) (w : Nat) : (mmaCore s e c d q).word w =
    ((coreOf s e c).setWords (mmaOuts (coreOf s e c) d (mmaA s e (coreOf s e c) d) (mmaB s e (coreOf s e c) d) [] [])).word w := by
  rw [mmaCore, Core.word_setBad]; rfl

theorem mmaDone_clean {e : Eng} {s : State} {c : Nat} {d : Mma} (hp : (coreOf s e c).parity = [])
    (hg : (mmaRanges d).all (fun r => !clBad s e r.1 r.2) = true) (cond : Cond) :
    mmaDone e c d [] [] [] [] cond s = setCore e c (mmaCore s e c d []) s := by
  unfold mmaDone
  simp only [List.foldl_nil, List.filter_nil, mmaChecks_clean _ _ _ _ hp]
  rw [foldl_clReport_of_good (by exact hg), if_pos trivial, ite_eq_right_iff.mpr fun _ => drainCore_nil ?_ 8]
  · simp only [mmaCore, bne_self_eq_false, Bool.or_false]; rfl
  · rw [coreOf_setCore_same, Core.queue_setBad]

theorem retry_of_awake {e : Eng} {s : State} {x : Engine} (h : eng? s e = some x) (hs : x.stall = none) : retry e s = s := by
  rw [retry, h, Option.bind_some, hs]

/-- Settles O19: without faults the checks find nothing, and the outputs are distinct words of the tile. -/
theorem tileMultiplyCompletes : Obligations.TileMultiplyCompletes := by
  refine ⟨?_, ?_⟩
  · intro e s x c d cond hx hst hc core hq hp hg hm hn
    have hs : execMmaComplete e c [] [] [] cond s = .next (setCore e c (mmaCore s e c d []) s) := by
      rw [execMmaComplete, if_neg (by simp [hx, hc]), show (coreOf s e c).queue = [.mma d] from hq]
      dsimp only
      rw [mmaDone_clean hp hg, retry_of_awake ((eng?_setCore ..).trans hx) hst]
    refine ⟨_, hs, rfl, hx, ?_, ?_, ?_⟩
    · rw [coreOf_setCore_same, mmaCore, Core.queue_setBad]
    · intro i j hi hj w v
      rw [coreOf_setCore_same, word_mmaCore]
      exact Core.word_setWords_in _ _ (mmaOuts_nodup _ _ _ _ hn) (mem_mmaOuts core d _ _ hi hj)
    · intro i j hi hj ho p hp
      rw [coreOf_setCore_same, word_mmaCore]
      refine Core.word_setWords_out _ _ fun y hy => ?_
      obtain ⟨i', j', hi', hj', e⟩ := mmaOuts_in_tile hy
      rw [e]
      cases d.acc <;> simp only [b2n] <;> omega
  · intro die v s hd hns n
    have hns' : notServed (dropLatch 0 s) 0 = false := hns
    refine ⟨fun h => ?_, fun h => ?_⟩
    · refine congrArg Host.Outcome.next ?_
      have h' : rget (dropLatch 0 s) .cdieMtxCheckCtl_lanesOff die = v.toNat % 2 := h
      simp [h']
    · have h' : ¬ rget (dropLatch 0 s) .cdieMtxCheckCtl_lanesOff die = v.toNat % 2 := h
      have hn : v.toNat % 2 < 2 := Nat.mod_lt _ (by omega)
      refine ⟨_, congrArg Host.Outcome.next (if_neg (by simp [hns', h', hd])), ?_, fun hn1 => ?_, ?_⟩
      · rw [rget_eq, regAt_raise0 _ _ _ _ _ rfl]
        have key : ∀ u : State, regAt (rset .cdieMtxCheckCtl_lanesOff die (v.toNat % 2) u).regs .cdieMtxCheckCtl_lanesOff die = n := fun u => by
          rw [regAt_rset_same _ _ (by exact hd)]; exact Nat.mod_eq_of_lt hn
        split
        · rw [regAt_rflag_other _ _ _ (by decide), key]
        · exact key _
      · rw [rget_eq, regAt_raise0 _ _ _ _ _ rfl, if_pos hn1]
        exact regAt_rset_same _ _ (by exact hd)
      · obtain ⟨ev, hm, hcode, hsrc, -, -, hdet⟩ := raise0_event 0x0502 (0x10 + die) (pack [(0, 8, die), (8, 8, v.toNat % 2)])
          (if v.toNat % 2 = 1 then rflag .cdieMtxStatus_offSeen die (rset .cdieMtxCheckCtl_lanesOff die (v.toNat % 2) (dropLatch 0 s))
            else rset .cdieMtxCheckCtl_lanesOff die (v.toNat % 2) (dropLatch 0 s))
        refine ⟨ev, hm, hcode, hsrc, hdet.trans ?_⟩
        simp only [pack, pf, List.map_cons, List.map_nil, List.sum_cons, List.sum_nil, n]
        omega

end Sys2Proof.Machine
end

section
/-! PROOFS. Commands that may run, from their record to their reply, and the privileged ones outside context 0 (ch. 3). -/

namespace Sys2Proof.Machine

/-! ### A command that may run -/

section
variable {i : Instr} {op : Nat} {h : CmdRef} {body : State → State} {s : State} {P : State → Prop}

/-- A command runs from the state that differs by its record only. -/
theorem leadsTo_runCmd (hi : exec i s = .next (runCmd op h body s)) (hm : mayRun op h s = true)
    (hP : ∀ l, started op h s = setJournal l s → P (body (setJournal l s))) : leadsTo i s P := by
  obtain ⟨l, hl⟩ := started_eq op h s
  exact ⟨_, hi, by rw [runCmd_started _ _ _ _ hm, hl]; exact hP l hl⟩

theorem leadsTo_runPriv (hi : exec i s = .next (runPriv op h body s)) (hm : mayRun op h s = true) (hc : h.ctx = 0)
    (hP : ∀ l, started op h s = setJournal l s → P (body (setJournal l s))) : leadsTo i s P :=
  leadsTo_runCmd (body := fun s => if h.ctx = 0 then body s else finish h stNotPriv 0 s) hi hm fun l hl => by
    simp only [if_pos hc]; exact hP l hl

theorem finish_replied_of {st det : Nat} {t : State} {l : List Rec} (hm : mayRun op h s = true) (hl : started op h s = setJournal l s)
    (hj : t.ctl.journal = l) : replied h st det (finish h st det t) = true :=
  finish_started op h st det s t hm (by rw [hl, hj]; rfl)

theorem finishOk_replied_of {t : State} {l : List Rec} (hm : mayRun op h s = true) (hl : started op h s = setJournal l s)
    (hj : t.ctl.journal = l) : replied h 0x0000 0 (finishOk h t) = true := finish_replied_of hm hl hj

theorem badParam_replied_of {det : Nat} {t : State} {l : List Rec} (hm : mayRun op h s = true) (hl : started op h s = setJournal l s)
    (hj : t.ctl.journal = l) : replied h 0x0016 det (badParam h det t) = true := finish_replied_of hm hl hj

theorem waitFor_waits_of {w : Wait} {t : State} {l : List Rec} (hm : mayRun op h s = true) (hl : started op h s = setJournal l s)
    (hj : t.ctl.journal = l) : waitsOn h w (waitFor h w t) = true :=
  waitFor_waits op h w s t hm (by rw [hl, hj]; rfl)

theorem onlyJournal_finish (st det : Nat) (l : List Rec) (s : State) : onlyJournal s (finish h st det (setJournal l s)) := ⟨_, rfl⟩

theorem onlyJournal_waitFor (w : Wait) (l : List Rec) (s : State) : onlyJournal s (waitFor h w (setJournal l s)) := ⟨_, rfl⟩

/-- A command that is answered at once and does nothing else. -/
theorem leadsTo_answered {st det : Nat} (hi : exec i s = .next (runCmd op h body s)) (hm : mayRun op h s = true)
    (hb : ∀ l, body (setJournal l s) = finish h st det (setJournal l s)) :
    leadsTo i s (fun t => replied h st det t = true ∧ onlyJournal s t) :=
  leadsTo_runCmd hi hm fun l hl => by rw [hb]; exact ⟨finish_replied_of hm hl rfl, onlyJournal_finish ..⟩

theorem leadsTo_answered_priv {st det : Nat} (hi : exec i s = .next (runPriv op h body s)) (hm : mayRun op h s = true) (hc : h.ctx = 0)
    (hb : ∀ l, body (setJournal l s) = finish h st det (setJournal l s)) :
    leadsTo i s (fun t => replied h st det t = true ∧ onlyJournal s t) :=
  leadsTo_runPriv hi hm hc fun l hl => by rw [hb]; exact ⟨finish_replied_of hm hl rfl, onlyJournal_finish ..⟩

/-- A command that waits and does nothing else. -/
theorem leadsTo_waiting {w : Wait} (hi : exec i s = .next (runCmd op h body s)) (hm : mayRun op h s = true)
    (hb : ∀ l, body (setJournal l s) = waitFor h w (setJournal l s)) : leadsTo i s (fun t => waitsOn h w t = true ∧ onlyJournal s t) :=
  leadsTo_runCmd hi hm fun l hl => by rw [hb]; exact ⟨waitFor_waits_of hm hl rfl, onlyJournal_waitFor ..⟩

/-- Outside context 0 a privileged command is answered NOT_PRIVILEGED. -/
theorem leadsTo_refused (hi : exec i s = .next (runPriv op h body s)) (hc : h.ctx ≠ 0) (hm : mayRun op h s = true) :
    leadsTo i s (fun t => replied h 0x0014 0 t = true ∧ onlyJournal s t) :=
  leadsTo_answered (body := fun s => if h.ctx = 0 then body s else finish h stNotPriv 0 s) hi hm fun l => if_neg hc

end

/-- Settles O27: every opcode marked P runs through the same check of its context. -/
theorem privilegedCommandsAreRefused : Obligations.PrivilegedCommandsAreRefused := by
  intro h s a b c k m d g u v hc
  simp only [List.forall_mem_cons]
  exact ⟨leadsTo_refused rfl hc, leadsTo_refused rfl hc, leadsTo_refused rfl hc, leadsTo_refused rfl hc, leadsTo_refused rfl hc,
    leadsTo_refused rfl hc, leadsTo_refused rfl hc, leadsTo_refused rfl hc, leadsTo_refused rfl hc, leadsTo_refused rfl hc,
    leadsTo_refused rfl hc, leadsTo_refused rfl hc, leadsTo_refused rfl hc, leadsTo_refused rfl hc, leadsTo_refused rfl hc,
    leadsTo_refused rfl hc, leadsTo_refused rfl hc, leadsTo_refused rfl hc, leadsTo_refused rfl hc, leadsTo_refused rfl hc, by simp⟩

end Sys2Proof.Machine
end

section
/-! PROOFS. What reads, writes and reports of poison leave as they are, and what they do in a range that leads to memory of the module (ch. 7). -/

namespace Sys2Proof.Machine

/-! ### The work of the module, apart from memory, registers and records -/

/-- What reads, writes and reports do not touch. -/
def State.work (s : State) :=
  (s.pending, s.ctl.queues, s.ctl.journal, s.gr, s.eng, s.core, s.oct, s.st, s.har, s.fab)

theorem work_eq_iff {s t : State} : t.work = s.work ↔ t.pending = s.pending ∧ t.ctl.queues = s.ctl.queues ∧ t.ctl.journal = s.ctl.journal ∧
    t.gr = s.gr ∧ t.eng = s.eng ∧ t.core = s.core ∧ t.oct = s.oct ∧ t.st = s.st ∧ t.har = s.har ∧ t.fab = s.fab := by
  simp [State.work]

section
variable (s : State)

@[simp] theorem work_useFree : (useFree s).work = s.work := rfl
@[simp] theorem work_withMem (m : Mem) : State.work { s with mem := m } = s.work := rfl
@[simp] theorem work_withVig (m : Vig) : State.work { s with vig := m } = s.work := rfl
@[simp] theorem work_withAlm (m : Alm) : State.work { s with alm := m } = s.work := rfl
@[simp] theorem work_rset (f : Fld) (i v : Nat) : (rset f i v s).work = s.work := by simp [State.work]
@[simp] theorem work_rflag (f : Fld) (i : Nat) : (rflag f i s).work = s.work := by simp [State.work]
@[simp] theorem work_emit (m : OutMsg) : (emit m s).work = s.work := rfl
@[simp] theorem work_raise0 (c b d : Nat) : (raise0 c b d s).work = s.work := by simp [State.work]
@[simp] theorem work_raiseBoth (c b x d : Nat) : (raiseBoth c b x d s).work = s.work := by simp [State.work]
@[simp] theorem work_count (f : Fld) (i n : Nat) : (count f i n s).work = s.work := by simp [State.work]
@[simp] theorem work_count1 (f : Fld) (i : Nat) : (count1 f i s).work = s.work := by simp [State.work]
@[simp] theorem work_activity (f : Fld) (i n : Nat) : (activity f i n s).work = s.work := by simp [State.work]

end

/-! ### Charges -/

theorem charge_eq (c n : Nat) (s : State) : charge c n s = { s with pow := (charge c n s).pow } := by
  unfold charge; split <;> rfl

theorem chargeMem_eq (c n : Nat) (s : State) : chargeMem c n s = { s with pow := (chargeMem c n s).pow } := charge_eq ..

@[simp] theorem chargeMem_ctl (c n : Nat) (s : State) : (chargeMem c n s).ctl = s.ctl := by rw [chargeMem_eq]
@[simp] theorem chargeMem_regs (c n : Nat) (s : State) : (chargeMem c n s).regs = s.regs := by rw [chargeMem_eq]
@[simp] theorem chargeMem_vig (c n : Nat) (s : State) : (chargeMem c n s).vig = s.vig := by rw [chargeMem_eq]
@[simp] theorem chargeMem_free (c n : Nat) (s : State) : (chargeMem c n s).free = s.free := by rw [chargeMem_eq]
@[simp] theorem chargeMem_io (c n : Nat) (s : State) : (chargeMem c n s).io = s.io := by rw [chargeMem_eq]
@[simp] theorem chargeMem_gr (c n : Nat) (s : State) : (chargeMem c n s).gr = s.gr := by rw [chargeMem_eq]
@[simp] theorem chargeMem_st (c n : Nat) (s : State) : (chargeMem c n s).st = s.st := by rw [chargeMem_eq]
@[simp] theorem chargeMem_host (c n : Nat) (s : State) : (chargeMem c n s).host = s.host := by rw [chargeMem_eq]
@[simp] theorem work_chargeMem (c n : Nat) (s : State) : (chargeMem c n s).work = s.work := by rw [chargeMem_eq]; rfl

/-! ### Reports -/

/-- The fields in which poison that a reader received is counted and a migration begins (R172, R175, R454). -/
def poisonFlds : List Fld := [.cdieMemUncorrCount_count, .cdieMemStatus_uncorrSeen, .cdieMemCopyPtr_line, .cdieMemStatus_migrating,
  .cdieMemSramUncorrCount_count, .fdieCxlStatus_poisonSeen, .fdieCxlPoisonCount_count]

/-- The fields in which an access of a context is counted (R170, R454). -/
def accessFlds : List Fld := [.mcWinViol_count, .fdieCxlBytes_units]

theorem almStage_eq (r : AlmRec) (s : State) : almStage r s = { s with alm := (almStage r s).alm } := by
  unfold almStage startSealing
  repeat' split
  all_goals rfl

theorem almDetection_eq (code src c detail : Nat) (s : State) :
    almDetection code src c detail s = { s with alm := (almDetection code src c detail s).alm } := almStage_eq ..

@[simp] theorem work_almDetection (code src c detail : Nat) (s : State) : (almDetection code src c detail s).work = s.work := by
  rw [almDetection_eq]; rfl

@[simp] theorem work_migTrigger (d ch : Nat) (s : State) : (migTrigger d ch s).work = s.work := by
  unfold migTrigger
  dsimp only
  split <;> simp

@[simp] theorem work_cxlPoison (a : Nat) (s : State) : (cxlPoison s a).work = s.work := by
  unfold cxlPoison
  split <;> simp

@[simp] theorem work_reportBad (reader c task mb a : Nat) (s : State) : (reportBad reader c task mb a s).work = s.work := by
  unfold reportBad
  dsimp only
  split
  · split
    · split <;> simp
    · simp
  · simp
  · rfl

section
variable {F : List Fld} {s t : State} (h : Told F s t)
include h

theorem Told.withMem (m : Mem) : Told F s { t with mem := m } := h.of_eq (Eq.refl _) (Eq.refl _) (Eq.refl _) (Eq.refl _) (Eq.refl _)

theorem Told.withVig (m : Vig) : Told F s { t with vig := m } := h.of_eq (Eq.refl _) (Eq.refl _) (Eq.refl _) (Eq.refl _) (Eq.refl _)

theorem Told.chargeMem (c n : Nat) : Told F s (chargeMem c n t) := by
  rw [chargeMem_eq]; exact h.of_eq (Eq.refl _) (Eq.refl _) (Eq.refl _) (Eq.refl _) (Eq.refl _)

theorem Told.almStage (r : AlmRec) : Told F s (almStage r t) := by
  rw [almStage_eq]; exact h.of_eq (Eq.refl _) (Eq.refl _) (Eq.refl _) (Eq.refl _) (Eq.refl _)

theorem Told.almDetection (code src c detail : Nat) : Told F s (almDetection code src c detail t) := h.almStage _

theorem Told.migTrigger (hF : poisonFlds ⊆ F) (d ch : Nat) : Told F s (migTrigger d ch t) := by
  unfold Machine.migTrigger
  dsimp only
  split
  · exact (((h.withMem _).rset (.inr (hF (by simp [poisonFlds]))) ..).rset (.inr (hF (by simp [poisonFlds]))) ..).raise0 ..
  · exact h.raise0 ..

theorem Told.cxlPoison (hF : poisonFlds ⊆ F) (a : Nat) : Told F s (cxlPoison t a) := by
  unfold Machine.cxlPoison
  split
  · exact (h.count1 (.inr (hF (by simp [poisonFlds]))) _).rflag (hF (by simp [poisonFlds])) _
  · exact h

theorem Told.reportBad (hF : poisonFlds ⊆ F) (reader c task mb a : Nat) : Told F s (reportBad reader c task mb a t) := by
  have tell : ∀ src det, Told F s (Machine.almDetection 0x0701 src c det (Machine.raiseBoth 0x0701 src c det (Machine.useFree t))) :=
    fun _ _ => (h.useFree.raiseBoth ..).almDetection ..
  unfold Machine.reportBad
  dsimp only
  split
  · split
    · have := fun det i => ((tell (0x10 + regionOf a) det).count1 (f := .cdieMemUncorrCount_count) (.inr (hF (by simp [poisonFlds]))) i).rflag (f := .cdieMemStatus_uncorrSeen)
        (hF (by simp [poisonFlds])) (regionOf a)
      split
      · exact this _ _
      · exact (this _ _).migTrigger hF ..
    · exact (tell ..).count1 (.inr (hF (by simp [poisonFlds]))) _
  · exact (tell ..).cxlPoison hF _
  · exact h

/-! ### Writes -/

theorem Told.countViol (hF : accessFlds ⊆ F) (c n : Nat) : Told F s (countViol c n t) := by
  unfold Machine.countViol
  split
  · exact h
  · exact h.count (.inr (hF (by simp [accessFlds]))) ..

theorem Told.keyWrite (k : Nat) (b : List Byte) : Told F s (keyWrite k b t) := by
  unfold Machine.keyWrite
  split
  · exact h.withMem _
  · split
    · exact h.withMem _
    · exact h.withMem _

theorem Told.touch (c r : Nat) : Told F s (touch c r t) := by
  unfold Machine.touch
  dsimp only
  split
  · exact h
  · exact h.withVig _

theorem Told.sendRemote (c slot a : Nat) (write : Bool) (b : List Byte) (len : Nat) (use : RemoteUse) :
    Told F s (sendRemote c slot a write b len use t) := ((h.withVig _).emit _).touch ..

theorem Told.writePiece (hF : accessFlds ⊆ F) (c a : Nat) (b : List Byte) : Told F s (writePiece c a b t) := by
  unfold Machine.writePiece
  split
  · exact h.countViol hF ..
  · split
    · exact h.countViol hF ..
    · exact h.keyWrite ..
    · split
      · exact (h.keyWrite ..).activity (hF (by simp [accessFlds])) ..
      · exact h
    · exact h.countViol hF ..
    · exact h.sendRemote ..

theorem Told.writePieces (hF : accessFlds ⊆ F) (c : Nat) (l : List (Nat × Nat)) (b : List Byte) : Told F s (writePieces c l b t) := by
  induction l generalizing t b with
  | nil => exact h
  | cons p l ih => exact ih (h.writePiece hF ..) _

theorem Told.ctxWrite (hF : accessFlds ⊆ F) (c a : Nat) (b : List Byte) : Told F s (ctxWrite c a b t) := (h.writePieces hF ..).chargeMem ..

end

@[simp] theorem work_countViol (c n : Nat) (s : State) : (countViol c n s).work = s.work := by
  unfold countViol; split <;> simp

@[simp] theorem work_keyWrite (k : Nat) (b : List Byte) (s : State) : (keyWrite k b s).work = s.work := by
  unfold keyWrite; repeat' split
  all_goals rfl

@[simp] theorem work_touch (c r : Nat) (s : State) : (touch c r s).work = s.work := by
  unfold touch; dsimp only; split <;> rfl

@[simp] theorem work_sendRemote (c slot a : Nat) (write : Bool) (b : List Byte) (len : Nat) (use : RemoteUse) (s : State) :
    (sendRemote c slot a write b len use s).work = s.work := by
  simp [sendRemote]

@[simp] theorem work_writePiece (c a : Nat) (b : List Byte) (s : State) : (writePiece c a b s).work = s.work := by
  unfold writePiece; repeat' split
  all_goals simp

@[simp] theorem work_writePieces (c : Nat) (l : List (Nat × Nat)) (b : List Byte) (s : State) : (writePieces c l b s).work = s.work := by
  induction l generalizing b s with
  | nil => rfl
  | cons p l ih => rw [writePieces, ih, work_writePiece]

@[simp] theorem work_ctxWrite (c a : Nat) (b : List Byte) (s : State) : (ctxWrite c a b s).work = s.work := by simp [ctxWrite]

/-! ### Where an address leads -/

/-- The register fields on which the map of the tray address space rests (R161, R166). -/
def mapFlds : List Fld := [.mcStraps_slot, .fdieCxlMapBase_offset, .fdieCxlMapBytes_bytes]

/-- `t` maps addresses as `s` does: the same straps, CXL ranges, trimmed dies and windows. -/
structure SameMap (s t : State) : Prop where
  regs : ∀ f ∈ mapFlds, ∀ i, rget t f i = rget s f i
  trim : t.sp.dieTrim = s.sp.dieTrim
  window : ∀ c, (ctx? t c).map (·.window) = (ctx? s c).map (·.window)

theorem SameMap.rfl {s : State} : SameMap s s := ⟨fun _ _ _ => Eq.refl _, Eq.refl _, fun _ => Eq.refl _⟩

theorem SameMap.of_eq {s t : State} (hr : t.regs = s.regs) (hs : t.sp = s.sp) (hc : t.ctl.ctxs = s.ctl.ctxs) : SameMap s t :=
  ⟨fun _ _ _ => by rw [rget_eq, hr, rget_eq], by rw [hs], fun c => by rw [ctx?, hc, ctx?]⟩

theorem SameMap.of_told {F : List Fld} {s t : State} (h : Told F s t) (hF : ∀ f ∈ mapFlds, f ∉ F) (hs : t.sp.dieTrim = s.sp.dieTrim) :
    SameMap s t where
  regs f hf i := h.regs f i (by revert hf; revert f; decide) (hF f hf)
  trim := hs
  window c := by
    have := congrArg (Option.map (·.window)) (h.ctxs c)
    simpa [Function.comp_def, Ctx.noRing] using this

theorem ownSlot_map {s t : State} (h : SameMap s t) : ownSlot t = ownSlot s := h.regs _ (by decide) _

theorem inExtent_map {s t : State} (h : SameMap s t) (r o : Nat) : inExtent t r o = inExtent s r o := by
  simp [inExtent, gddrBytes, gridRows, h.trim]

theorem cxlPortOf_map {s t : State} (h : SameMap s t) (o : Nat) : cxlPortOf t o = cxlPortOf s o := by
  simp [cxlPortOf, h.regs .fdieCxlMapBase_offset (by decide), h.regs .fdieCxlMapBytes_bytes (by decide)]

theorem locate_map {s t : State} {a k : Nat} (h : SameMap s t) (hm : locate s a = .mem k) : locate t a = .mem k := by
  unfold locate at hm ⊢
  rw [ownSlot_map h]
  simp only [inExtent_map h, cxlPortOf_map h, h.regs .fdieCxlMapBase_offset (by decide)]
  split at hm
  · cases hm
  · next h57 =>
    rw [if_neg h57]
    split at hm
    · split at hm <;> cases hm
    · next hs => rw [if_neg hs]; exact hm

theorem inWindow_map {s t : State} (h : SameMap s t) (c : Nat) (wr : Bool) (a : Nat) : inWindow t c wr a = inWindow s c wr a := by
  have key : ∀ u : State, (ctx? u c).elim false (fun x => x.window.any (entryOk wr a)) =
      ((ctx? u c).map (·.window)).elim false (·.any (entryOk wr a)) := fun u => by cases ctx? u c <;> rfl
  unfold inWindow
  rw [ownSlot_map h, key, h.window c, ← key]

theorem plainAt_map {s t : State} {c : Nat} {wr : Bool} {a n k : Nat} (h : SameMap s t) (hb : t.mem.bad = s.mem.bad)
    (hp : plainAt s c wr a n k) : plainAt t c wr a n k := fun i hi => by
  obtain ⟨hw, hl, hg⟩ := hp i hi
  exact ⟨by rw [inWindow_map h, hw], locate_map h hl, by rw [hb, hg]⟩

/-! ### Reads and writes of a plain range -/

theorem readPiece_plain {s : State} {c a n k : Nat} (hw : inWindow s c false a = true) (hl : locate s a = .mem k) (hb : sget 0 s.mem.bad (k / 64) = 0) :
    readPiece s c a n = ⟨sgetN 0 s.mem.bytes k n, [], 0⟩ := by
  simp [readPiece, hw, hl, keyRead, hb]

theorem peek_plain {s : State} {c a n k : Nat} (hp : plainAt s c false a n k) : peek s c a n = ⟨sgetN 0 s.mem.bytes k n, [], 0⟩ := by
  have key := linesOf_induction
    (P := fun a' n' l => a ≤ a' → a' + n' = a + n → ∀ r : Rd, l.foldl (fun r p => r.append (readPiece s c p.1 p.2)) r =
      r.append ⟨sgetN 0 s.mem.bytes (k + (a' - a)) n', [], 0⟩) ?_ ?_ a n (le_refl a) rfl ⟨[], [], 0⟩
  · rw [peek, key]; simp [Rd.append]
  · intro a' _ _ r; simp [Rd.append, sgetN]
  · intro a' m n' l hm _ ih ha he r
    obtain ⟨hw, hl, hb⟩ := hp (a' - a) (by omega)
    rw [Nat.add_sub_cancel' ha] at hw hl
    rw [List.foldl_cons, readPiece_plain hw hl hb, ih (by omega) (by omega), show a' + m - a = a' - a + m by omega]
    simp [Rd.append, sgetN_add, Nat.add_assoc]

theorem ctxRead_plain {s : State} {c a n k : Nat} (hp : plainAt s c false a n k) :
    ctxRead c a n s = (⟨sgetN 0 s.mem.bytes k n, [], 0⟩, useFree (chargeMem c (tierBytes a n) s)) := by
  simp [ctxRead, peek_plain hp, countViol]

theorem cmdRead_plain {s : State} {c a n k : Nat} (hp : plainAt s c false a n k) :
    cmdRead c a n s = (⟨sgetN 0 s.mem.bytes k n, [], 0⟩, useFree (chargeMem c (tierBytes a n) s)) := by
  simp [cmdRead, ctxRead_plain hp, reportAll]

theorem writePiece_plain {s : State} {c a k : Nat} (b : List Byte) (hw : inWindow s c true a = true) (hl : locate s a = .mem k)
    (hb : sget 0 s.mem.bad (k / 64) = 0) : writePiece c a b s = putBytes k b s := by
  simp [writePiece, hw, hl, keyWrite_of_good b hb]

theorem putBytes_sameMap (k : Nat) (b : List Byte) (s : State) : SameMap s (putBytes k b s) := SameMap.of_eq rfl rfl rfl

theorem writePieces_plain {s : State} {c a k : Nat} {b : List Byte} (hp : plainAt s c true a b.length k) :
    writePieces c (linesOf a b.length) b s = putBytes k b s := by
  have key := linesOf_induction
    (P := fun a' n' l => ∀ (s : State) (k : Nat) (b : List Byte), b.length = n' → plainAt s c true a' n' k → writePieces c l b s = putBytes k b s)
    ?_ ?_ a b.length
  · exact key s k b rfl hp
  · intro a' s k b hb _
    rw [List.eq_nil_of_length_eq_zero hb]; rfl
  · intro a' m n' l hm hle ih s k b hb hp
    have ht : (b.take m).length = m := by rw [List.length_take]; omega
    obtain ⟨hw, hl, hg⟩ := hp 0 (by omega)
    simp only [Nat.add_zero] at hw hl hg
    rw [writePieces, writePiece_plain _ hw hl hg, ih _ (k + m) _ (by rw [List.length_drop]; omega)]
    · conv_rhs => rw [← List.take_append_drop m b, putBytes_append, ht]
    · refine plainAt_map (putBytes_sameMap ..) rfl fun i hi => ?_
      have := hp (m + i) (by omega)
      rwa [← Nat.add_assoc, ← Nat.add_assoc] at this

theorem ctxWrite_plain {s : State} {c a k : Nat} {b : List Byte} (hp : plainAt s c true a b.length k) :
    ctxWrite c a b s = chargeMem c (tierBytes a b.length) (putBytes k b s) := by
  rw [ctxWrite, writePieces_plain hp]

/-- A write of a plain range stores its bytes and nothing else. -/
theorem storedAt_ctxWrite {s t : State} {c a k : Nat} {b : List Byte} (hp : plainAt t c true a b.length k) (hm : t.mem.bytes = s.mem.bytes) :
    storedAt s (ctxWrite c a b t) k b := by
  rw [storedAt, ctxWrite_plain hp, chargeMem_mem, putBytes_bytes, hm]
  exact ⟨sgetN_ssetN .., fun j hj => sget_ssetN_out _ _ _ hj⟩

end Sys2Proof.Machine
end

section
/-! PROOFS. MEM_COPY, MEM_FILL and MEM_DIGEST (R72). -/

namespace Sys2Proof.Machine

/-- A listed key has an entry. -/
theorem isSome_sget?_of_mem {α : Type} {m : SMap α} {x : Nat × α} (h : x ∈ m) : (sget? m x.1).isSome = true := by
  cases hn : sget? m x.1 with
  | some _ => rfl
  | none =>
    exfalso
    induction m with
    | nil => simp at h
    | cons y m ih =>
      rw [sget?] at hn
      split at hn
      · cases hn
      · next hne => exact ih ((List.mem_cons.mp h).resolve_left fun e => hne (e ▸ rfl)) hn

/-- A command that sent no store completes. -/
theorem finishStores_local (h : CmdRef) {b s : State} (hv : s.vig = b.vig) : finishStores h b s = finishOk h s := by
  have : s.vig.remote.filter (fun x => x.2.write && (sget? b.vig.remote x.1).isNone) = [] := by
    rw [hv, List.filter_eq_nil_iff]
    intro x hx
    have := isSome_sget?_of_mem hx
    simp [Option.isSome_iff_ne_none] at this
    simp [this]
  simp [finishStores, this]

theorem getD_leBytes (n v : Nat) {j : Nat} (hj : j < n) : (leBytes n v).getD j 0 = BitVec.ofNat 8 (v / 2 ^ (8 * j)) := by
  induction n generalizing v j with
  | zero => omega
  | succ n ih =>
    cases j with
    | zero => simp [leBytes]
    | succ j =>
      have h := ih (v / 256) (j := j) (by omega)
      simp only [leBytes, List.getD_cons_succ]
      rw [h, Nat.div_div_eq_div_mul, show 8 * (j + 1) = 8 + 8 * j by ring, Nat.pow_add]

/-- A write of which no byte lies in the window changes no memory and sends nothing. -/
theorem writePieces_outside {c a : Nat} {s : State} (n : Nat) (b : List Byte) (h : ∀ i, i < n → inWindow s c true (a + i) = false) :
    (writePieces c (linesOf a n) b s).mem = s.mem ∧ (writePieces c (linesOf a n) b s).vig = s.vig := by
  refine linesOf_induction (P := fun a n l => ∀ (s : State) (b : List Byte), (∀ i, i < n → inWindow s c true (a + i) = false) →
    (writePieces c l b s).mem = s.mem ∧ (writePieces c l b s).vig = s.vig) (fun _ _ _ _ => ⟨rfl, rfl⟩) ?_ a n s b h
  intro a m n l hm _ ih s b h
  have h0 := h 0 (by omega)
  rw [Nat.add_zero] at h0
  rw [writePieces, writePiece, h0, show countViol c 1 s = count .mcWinViol_count c 1 s from rfl]
  have hmap : SameMap s (count .mcWinViol_count c 1 s) :=
    SameMap.of_told ((Told.rfl (F := accessFlds)).count (.inr (by decide)) ..) (by decide) (by simp)
  obtain ⟨hmem, hvig⟩ := ih (count .mcWinViol_count c 1 s) (b.drop m) fun i hi => by
    rw [inWindow_map hmap, Nat.add_assoc]; exact h _ (by omega)
  exact ⟨hmem.trans (by simp), hvig.trans (by simp)⟩

theorem setJournal_sameMap (l : List Rec) (s : State) : SameMap s (setJournal l s) := SameMap.of_eq rfl rfl rfl

theorem plainAt_setJournal {s : State} {c : Nat} {wr : Bool} {a n k : Nat} (l : List Rec) (hp : plainAt s c wr a n k) :
    plainAt (setJournal l s) c wr a n k := plainAt_map (setJournal_sameMap l s) rfl hp

@[simp] theorem ctxWrite_ctl_journal (c a : Nat) (b : List Byte) (s : State) : (ctxWrite c a b s).ctl.journal = s.ctl.journal :=
  (work_eq_iff.mp (work_ctxWrite c a b s)).2.2.1

@[simp] theorem setJournal_journal (l : List Rec) (s : State) : (setJournal l s).ctl.journal = l := rfl

/-- Settles O30: a plain range is read and written as one, and a range outside the window only counts its violations. -/
theorem memoryCommands : Obligations.MemoryCommands := by
  intro h s dst src bytes pattern n
  refine ⟨?_, ?_, ?_, ?_⟩
  · intro kd ks hm hs hd
    refine leadsTo_runCmd rfl hm fun l hl => ?_
    have hlen : (sgetN 0 s.mem.bytes ks n).length = n := length_sgetN ..
    rw [cmdRead_plain (plainAt_setJournal l hs)]
    dsimp only
    rw [setJournal_mem]
    have hd' : plainAt (useFree (chargeMem h.ctx (tierBytes src.toNat n) (setJournal l s))) h.ctx true dst.toNat (sgetN 0 s.mem.bytes ks n).length kd := by
      rw [hlen]; exact plainAt_map (SameMap.of_eq (by simp) (by rw [chargeMem_eq]; rfl) (by simp)) (by simp) hd
    have hst := storedAt_ctxWrite (s := s) hd' (by simp)
    rw [finishStores_local h]
    · exact ⟨finishOk_replied_of hm hl (by simp [copyPoison]), hst⟩
    · rw [copyPoison, List.foldl_nil, ctxWrite_plain hd']
      simp [putBytes]
  · intro kd hm hd
    refine leadsTo_runCmd rfl hm fun l hl => ?_
    obtain ⟨b, hb⟩ : ∃ b, b = (List.range n).map (fun i => BitVec.ofNat 8 (pattern.toNat / 2 ^ (8 * (i % 8)))) := ⟨_, rfl⟩
    have hp : (List.range bytes.toNat).map (fun i => (leBytes 8 pattern.toNat).getD (i % 8) 0) = b := by
      rw [hb]; exact List.map_congr_left fun i _ => getD_leBytes 8 _ (Nat.mod_lt _ (by omega))
    have hd' : plainAt (setJournal l s) h.ctx true dst.toNat b.length kd := by
      rw [hb, List.length_map, List.length_range]; exact plainAt_setJournal l hd
    have hst := storedAt_ctxWrite (s := s) hd' rfl
    dsimp only
    rw [hp, ← hb, finishStores_local h]
    · exact ⟨finishOk_replied_of hm hl (by simp), hst⟩
    · rw [ctxWrite_plain hd']
      simp [putBytes]
  · intro hm hout
    refine leadsTo_runCmd rfl hm fun l hl => ?_
    obtain ⟨hmem, hvig⟩ := writePieces_outside (s := setJournal l s) n
      ((List.range bytes.toNat).map (fun i => (leBytes 8 pattern.toNat).getD (i % 8) 0))
      fun i hi => (inWindow_map (setJournal_sameMap l s) ..).trans (hout i hi)
    rw [finishStores_local h]
    · refine ⟨finishOk_replied_of hm hl (by simp), ?_⟩
      rw [finishOk_mem, ctxWrite, chargeMem_mem, List.length_map, List.length_range]
      exact hmem
    · rw [ctxWrite, chargeMem_vig, List.length_map, List.length_range]
      exact hvig
  · intro ks hm hs
    refine leadsTo_runCmd rfl hm fun l hl => ?_
    rw [cmdRead_plain (plainAt_setJournal l hs)]
    exact ⟨finish_replied_of hm hl (by simp), by simp⟩

end Sys2Proof.Machine
end

section
/-! PROOFS. Doorbells, acceptance, issue and replies of a queue (ch. 3). -/

namespace Sys2Proof.Machine

/-! ### Queues after what is told of them -/

theorem queue?_of_work {s t : State} (h : t.work = s.work) (q : Nat) : queue? t q = queue? s q := by
  rw [queue?, (work_eq_iff.mp h).2.1, queue?]

theorem queue?_modQueue_same (s : State) (q : Nat) (f : Queue → Queue) : queue? (modQueue q f s) q = (queue? s q).map f := by
  unfold modQueue
  cases h : queue? s q with
  | none => exact h
  | some x => exact queue?_setQueue_same ..

theorem modQueue_of_some {s : State} {q : Nat} {x : Queue} (h : queue? s q = some x) (f : Queue → Queue) : modQueue q f s = setQueue q (f x) s := by
  rw [modQueue, h]

/-- A queue keeps its tail and its ring position when it is held or goes on. -/
theorem holdQueue_keeps {s : State} {q r : Nat} {x : Queue} (h : queue? s q = some x) :
    ∃ y, queue? (holdQueue q r s) q = some y ∧ y.tail = x.tail ∧ y.cqHead = x.cqHead := by
  rw [holdQueue, queue?_modQueue_same, h]
  refine ⟨_, rfl, ?_⟩
  dsimp only
  split <;> exact ⟨rfl, rfl⟩

theorem unholdQueue_keeps {s : State} {q r : Nat} {x : Queue} (h : queue? s q = some x) :
    ∃ y, queue? (unholdQueue q r s) q = some y ∧ y.tail = x.tail ∧ y.cqHead = x.cqHead := by
  rw [unholdQueue, queue?_modQueue_same, h]
  refine ⟨_, rfl, ?_⟩
  dsimp only
  split <;> exact ⟨rfl, rfl⟩

/-- Fetching appends packets to a queue and may hold it: its tail stays. -/
theorem fetchLoop_tail (q n : Nat) {s : State} {x : Queue} (h : queue? s q = some x) :
    ∃ y, queue? (fetchLoop q n s) q = some y ∧ y.tail = x.tail := by
  induction n generalizing s x with
  | zero => exact ⟨x, h, rfl⟩
  | succ n ih =>
    rw [fetchLoop, h]
    dsimp only
    split
    · exact ⟨x, h, rfl⟩
    · split
      · exact ⟨x, h, rfl⟩
      · split
        · obtain ⟨y, hy, ht, -⟩ := holdQueue_keeps (r := 5) ((queue?_of_work (work_reportBad ..) q).trans h)
          exact ⟨y, hy, ht⟩
        · have keep : ∀ {u : State}, (∃ y, queue? u q = some y ∧ y.tail = x.tail) →
              ∃ y, queue? (fetchLoop q n u) q = some y ∧ y.tail = x.tail := fun ⟨y, hy, ht⟩ => by
            obtain ⟨z, hz, hzt⟩ := ih hy
            exact ⟨z, hz, hzt.trans ht⟩
          refine keep ?_
          split
          · exact ⟨_, queue?_setQueue_same .., rfl⟩
          · exact ⟨_, queue?_setQueue_same .., rfl⟩

theorem doorbell_tail {s : State} {q : Nat} {x : Queue} (h : queue? s q = some x) (n : Nat) :
    ∃ y, queue? (doorbell q n s) q = some y ∧ y.tail = n := by
  obtain ⟨y, hy, ht, -⟩ := unholdQueue_keeps (r := 5) (s := modQueue q (fun x => { x with tail := n }) s) (by rw [queue?_modQueue_same, h]; rfl)
  obtain ⟨z, hz, hzt⟩ := fetchLoop_tail q 32768 hy
  exact ⟨z, hz, hzt.trans ht⟩

/-! ### Doorbells -/

theorem queue?_of_owned {s : State} {fn q : Nat} (h : ownsQueue s fn q = true) : ∃ x, queue? s q = some x := by
  unfold ownsQueue at h
  cases hq : queue? s q with
  | none => rw [hq] at h; cases h
  | some x => exact ⟨x, rfl⟩

theorem fnUp_dropLatch (n fn : Nat) (s : State) : fnUp (dropLatch n s) fn = fnUp s fn := (rfl)
theorem ownsQueue_dropLatch (n fn q : Nat) (s : State) : ownsQueue (dropLatch n s) fn q = ownsQueue s fn q := (rfl)
theorem queue?_dropLatch (n q : Nat) (s : State) : queue? (dropLatch n s) q = queue? s q := (rfl)

/-- A module that accepts packets is neither in Fallow nor on its way there: nothing wakes it. -/
theorem wakeUp_of_accepting {s : State} (h : accepting s = true) (c : Nat) : wakeUp c s = s := by
  simp only [accepting, Bool.and_eq_true, decide_eq_true_eq] at h
  have h2 : rget s .pwrState_state 0 ≠ 2 := by omega
  have h3 : rget s .pwrState_state 0 ≠ 3 := by omega
  simp [wakeUp, h2, h3]

theorem regAt_setPwrState {f : Fld} (hf : f ≠ .pwrState_state) (ht : f.tally = false) (i n c : Nat) (s : State) :
    regAt (setPwrState n c s).regs f i = regAt s.regs f i := by
  unfold setPwrState
  dsimp only
  split
  · rfl
  · simp [hf, ht]

/-- The fields that a wake trigger writes. -/
def wakeFlds : List Fld := [.pwrState_state, .pwrState_target, .pwrFallowCount_count]

theorem regAt_wakeUp {f : Fld} (hf : f ∉ wakeFlds) (ht : f.tally = false) (i c : Nat) (s : State) :
    regAt (wakeUp c s).regs f i = regAt s.regs f i := by
  simp only [wakeFlds, List.mem_cons, List.not_mem_nil, or_false, not_or] at hf
  obtain ⟨h1, h2, h3⟩ := hf
  unfold wakeUp
  split
  · simp [ht, h3, regAt_setPwrState h1 ht]
  · split
    · simp [h2, regAt_setPwrState h1 ht]
    · rfl

/-- A violation counted. -/
theorem viol_counted {s : State} {fn : Nat} (hfn : fn < 64) (hv : rget s .hostifFnDbViol_count fn < 2 ^ 32 - 1) :
    rget (count1 .hostifFnDbViol_count fn (dropLatch fn s)) .hostifFnDbViol_count fn = rget s .hostifFnDbViol_count fn + 1 :=
  regAt_count_same (by rfl) (by exact hfn) (by exact hv)

theorem mem_freeRecs {s : State} {r : Rec} (h : r ∈ s.ctl.journal) (hr : r.state ≠ .completed) : r ∈ (freeRecs s).ctl.journal :=
  List.mem_filter.mpr ⟨h, by simp [freeable, hr]⟩

theorem of_mem_freeRecs {s : State} {r : Rec} (h : r ∈ (freeRecs s).ctl.journal) : r ∈ s.ctl.journal := (List.mem_filter.mp h).1

theorem modQueue_journal (q : Nat) (f : Queue → Queue) (s : State) : (modQueue q f s).ctl.journal = s.ctl.journal := by
  unfold modQueue; split <;> rfl

theorem doorbells_part (s : State) (fn q : Nat) (tail : BitVec 16) (head : BitVec 32) :
    let viol := fun (t : State) => rget t .hostifFnDbViol_count fn
    (fn < 64 → s.host.flr.contains fn = false → ownsQueue s fn q = false → viol s < 2 ^ 32 - 1 →
      leadsTo (.queueDbSqTail fn q tail []) s (fun t => viol t = viol s + 1 ∧ t.ctl.queues = s.ctl.queues)) ∧
    (fn < 64 → fnUp s fn = true → ownsQueue s fn q = false → viol s < 2 ^ 32 - 1 →
      leadsTo (.queueDbCqHead fn q head) s (fun t => viol t = viol s + 1 ∧ t.ctl.queues = s.ctl.queues)) ∧
    (s.host.flr.contains fn = false → ownsQueue s fn q = true →
      (accepting s = true → leadsTo (.queueDbSqTail fn q tail []) s (fun t => ∃ x, queue? t q = some x ∧ x.tail = tail.toNat)) ∧
      (rget s .mcStatus_ready 0 = 0 → leadsTo (.queueDbSqTail fn q tail []) s (fun t =>
        t.ctl.doorbells = s.ctl.doorbells ++ [(fn, q, tail.toNat)] ∧ t.ctl.queues = s.ctl.queues))) ∧
    (fnUp s fn = true → ownsQueue s fn q = true →
      leadsTo (.queueDbCqHead fn q head) s (fun t => (∃ x, queue? t q = some x ∧ x.cqHead = head.toNat) ∧
        (∀ r ∈ s.ctl.journal, r.state ≠ .completed → r ∈ t.ctl.journal) ∧ ∀ r ∈ t.ctl.journal, r ∈ s.ctl.journal)) := by
  intro viol
  have tail_eq : ∀ hflr : s.host.flr.contains fn = false, exec (.queueDbSqTail fn q tail []) s =
      if !ownsQueue s fn q then .next (count1 .hostifFnDbViol_count fn (dropLatch fn s))
      else
        let s := wakeUp 2 (dropLatch fn s)
        if !accepting s then .next { s with ctl := { s.ctl with doorbells := s.ctl.doorbells ++ [(fn, q, tail.toNat)] } }
        else .next (doorbell q tail.toNat s) := fun hflr =>
    if_neg (show ¬ (dropLatch fn (hostStores [] s)).host.flr.contains fn = true by rw [dropLatch_host]; simpa [hostStores] using hflr)
  have head_eq : ∀ hup : fnUp s fn = true, exec (.queueDbCqHead fn q head) s =
      if !ownsQueue s fn q then .next (count1 .hostifFnDbViol_count fn (dropLatch fn s))
      else .next (unholdQueue q 3 (unholdQueue q 4 (freeRecs (modQueue q (fun x => { x with cqHead := head.toNat }) (dropLatch fn s))))) :=
    fun hup => if_neg (by rw [fnUp_dropLatch, hup]; decide)
  refine ⟨?_, ?_, ?_, ?_⟩
  · intro hfn hflr ho hv
    exact ⟨_, by rw [tail_eq hflr, ho]; rfl, viol_counted hfn hv, by simp⟩
  · intro hfn hup ho hv
    exact ⟨_, by rw [head_eq hup, ho]; rfl, viol_counted hfn hv, by simp⟩
  · intro hflr ho
    obtain ⟨x, hx⟩ := queue?_of_owned ho
    refine ⟨fun ha => ?_, fun hr => ?_⟩
    · have ha' : accepting (dropLatch fn s) = true := ha
      refine ⟨doorbell q tail.toNat (dropLatch fn s), ?_, doorbell_tail ((queue?_dropLatch ..).trans hx) _⟩
      rw [tail_eq hflr, ho, wakeUp_of_accepting ha']
      simp [ha']
    · have ha : accepting (wakeUp 2 (dropLatch fn s)) = false := by
        have : rget (wakeUp 2 (dropLatch fn s)) .mcStatus_ready 0 = 0 := (regAt_wakeUp (by decide) rfl 0 2 (dropLatch fn s)).trans hr
        simp [accepting, this]
      have he := tail_eq hflr
      rw [ho] at he
      dsimp only at he
      rw [ha] at he
      exact ⟨_, he, by simp⟩
  · intro hup ho
    obtain ⟨x, hx⟩ := queue?_of_owned ho
    refine ⟨_, by rw [head_eq hup, ho]; rfl, ?_, ?_, ?_⟩
    · obtain ⟨y, hy, -, hh⟩ := unholdQueue_keeps (r := 4) (q := q) (x := { x with cqHead := head.toNat })
        (s := freeRecs (modQueue q (fun x => { x with cqHead := head.toNat }) (dropLatch fn s)))
        ((queue?_modQueue_same (dropLatch fn s) q _).trans (by rw [queue?_dropLatch, hx]; rfl))
      obtain ⟨z, hz, -, hzh⟩ := unholdQueue_keeps (r := 3) hy
      exact ⟨z, hz, hzh.trans hh⟩
    · intro r hr hst
      rw [unholdQueue, modQueue_journal, unholdQueue, modQueue_journal]
      exact mem_freeRecs (by rw [modQueue_journal]; exact hr) hst
    · intro r hr
      rw [unholdQueue, modQueue_journal, unholdQueue, modQueue_journal] at hr
      have := of_mem_freeRecs hr
      rwa [modQueue_journal] at this

/-! ### Acceptance -/

theorem acceptOne_ready {s : State} {q : Nat} {x : Queue} {f : Fetched} {fs : List Fetched} (hx : queue? s q = some x) (hf : x.fetched = f :: fs)
    (hc : canFetch s x = true) (hr : cqRoom x = true) (hj : journalUsed s x.ctx + 64 + f.bytes.length ≤ journalShare s x.ctx)
    (hl : (ctx? s x.ctx).elim false (·.twinLost) = false) (ho : fetchedOp f ≠ 0x05)
    (hm : rget s .stepCtxState_mirrored x.ctx = 0 ∨ f.twinAck = true) :
    ∃ st hr', acceptOne q s = setQueue q { x with fetched := fs, acceptSlot := (x.acceptSlot + f.slots) % 2 ^ 16, nextSeq := (x.nextSeq + 1) % 2 ^ 32, destroying := x.destroying, state := st, heldReason := hr' }
      (setJournal (s.ctl.journal ++ [acceptedRec s q x f]) s) := by
  have hm' : ¬(rget s .stepCtxState_mirrored x.ctx = 1 && !f.twinAck && !(f.status == 0 && fetchedOp f == 0x42)) = true := by
    rcases hm with hm | hm <;> simp [hm]
  have ho' : (fetchedOp f == 0x05) = false := by simpa using ho
  unfold acceptOne
  rw [hx]
  dsimp only
  rw [hf]
  dsimp only
  rw [if_neg (by rw [hc]; decide), if_neg (by rw [hr]; decide), if_neg (by omega), if_neg (by rw [hl]; simp), if_neg hm', ho']
  simp only [Bool.and_false, Bool.false_and, Bool.or_false, if_neg (show ¬ false = true by decide)]
  exact ⟨_, _, rfl⟩

theorem acceptedRec_of (s : State) (q : Nat) (x : Queue) (f : Fetched) :
    let r := acceptedRec s q x f
    r.q = q ∧ r.seq = x.nextSeq ∧ r.ctx = x.ctx ∧ (f.status = 0 → r.state = .accepted ∧ r.reply = none) ∧
      (f.status ≠ 0 → r.state = .replyPending ∧ ∃ p, r.reply = some p ∧ p.status = f.status) := by
  refine ⟨rfl, rfl, rfl, fun h => ?_, fun h => ?_⟩
  · simp [acceptedRec, h]
  · simp [acceptedRec, h]

/-- Settles O24: the tail of a fetching queue stays, and the twin's acknowledgement lets the same packet be accepted. -/
theorem doorbellsAndAcceptance : Obligations.DoorbellsAndAcceptance := by
  refine ⟨doorbells_part, ?_⟩
  intro s q x f fs hx hf hc hr hj hl ho accepted
  refine ⟨fun hm => ?_, fun hm ht hop => ?_, fun hs => ?_⟩
  · obtain ⟨st, hr', he⟩ := acceptOne_ready hx hf hc hr hj hl ho hm
    exact ⟨_, congrArg Host.Outcome.next he, ⟨_, rfl, acceptedRec_of s q x f⟩, _, queue?_setQueue_same .., rfl, rfl, rfl⟩
  · have hop' : (fetchedOp f == 0x42) = false := by simpa using hop
    refine congrArg Host.Outcome.next ?_
    unfold acceptOne
    rw [hx]
    dsimp only
    rw [hf]
    dsimp only
    rw [if_neg (by rw [hc]; decide), if_neg (by rw [hr]; decide), if_neg (by omega), if_neg (by rw [hl]; simp), if_pos (by simp [hm, ht, hop'])]
  · have hseq : (BitVec.ofNat 32 x.nextSeq).toNat = x.nextSeq := by simpa using Nat.mod_eq_of_lt hs
    have hu : modQueue q (fun x' => ackFetched x' (BitVec.ofNat 32 x.nextSeq).toNat) s = setQueue q (ackFetched x x.nextSeq) s := by
      rw [modQueue_of_some hx, hseq]
    obtain ⟨fs', hfs, hlen⟩ : ∃ fs', (ackFetched x x.nextSeq).fetched = { f with twinAck := true } :: fs' ∧ fs'.length = fs.length := by
      have h0 : (x.nextSeq + 0) % 2 ^ 32 = x.nextSeq := Nat.mod_eq_of_lt hs
      rw [ackFetched, hf, List.mapIdx_cons, if_pos h0]
      exact ⟨_, rfl, List.length_mapIdx⟩
    have hy : queue? (setQueue q (ackFetched x x.nextSeq) s) q = some (ackFetched x x.nextSeq) := queue?_setQueue_same ..
    obtain ⟨st, hr', he⟩ := acceptOne_ready hy hfs hc hr hj hl ho (.inr rfl)
    refine ⟨_, congrArg Host.Outcome.next ((congrArg (acceptOne q) hu).trans he), ⟨_, rfl, ?_⟩, _, queue?_setQueue_same .., rfl, rfl, hlen⟩
    exact acceptedRec_of (setQueue q (ackFetched x x.nextSeq) s) q (ackFetched x x.nextSeq) { f with twinAck := true }

end Sys2Proof.Machine
end

section
/-! PROOFS. The issue of an accepted record and the delivery of a reply (ch. 3). -/

namespace Sys2Proof.Machine

/-- A record that is not delivered is changed in its place. -/
theorem mem_mapRecs {s : State} {r : Rec} {p : Rec → Bool} (hr : r ∈ s.ctl.journal) (hp : p r = true) (g : Rec → Rec) :
    g r ∈ (mapRecs p g s).ctl.journal := List.mem_map.mpr ⟨r, hr, by rw [if_pos hp]⟩

theorem isRec_self {r : Rec} {q : Nat} (hq : r.q = q) (hs : r.state ≠ .completed) : isRec q r.seq r = true := by
  simp [isRec, hq, hs]

theorem issueOne_of {s : State} {q : Nat} {r : Rec} (hf : s.ctl.journal.find? (fun r => r.q == q && r.state == .accepted) = some r)
    (hm : mayIssue s r = true) (hr : rget s .mcStatus_ready 0 = 1) :
    issueOne q s = if stepFlag r && stepSt s r.ctx = 0 then finishAt q r.seq stStepNotOpen 0 s
      else mapRecs (isRec q r.seq) (fun r => { r with state := .issued, step := if stepFlag r then stepNo s r.ctx else r.step })
        (if stepFlag r && stepSt s r.ctx = 4 then rset .stepCtxState_state r.ctx 1 s else s) := by
  rw [issueOne, hf]
  dsimp only
  rw [if_neg (by simp [hm, hr])]

theorem replyBytes_length (seq lg : Nat) (p : Reply) : (replyBytes seq lg p).length = 32 := by simp [replyBytes]

/-! ### What follows a delivery -/

theorem mem_drainQueues {s : State} {y : Rec} (h : y ∈ (drainQueues s).ctl.journal) :
    ∃ r ∈ s.ctl.journal, y.q = r.q ∧ y.seq = r.seq ∧ (r.state = .completed → y.state = .completed) := by
  obtain ⟨r, hr, rfl⟩ := List.mem_map.mp h
  refine ⟨r, hr, ?_⟩
  split
  · split
    · next hi =>
      have hi : r.state = .issued := by simp at hi; exact hi.1
      unfold replyOf
      rw [if_pos (by simp [hi])]
      split <;> simp [hi]
    · exact ⟨rfl, rfl, id⟩
  · exact ⟨rfl, rfl, id⟩

@[simp] theorem drainQueues_io (s : State) : (drainQueues s).io = s.io := rfl
@[simp] theorem drainQueues_mem (s : State) : (drainQueues s).mem = s.mem := rfl
@[simp] theorem freeRecs_io (s : State) : (freeRecs s).io = s.io := rfl
@[simp] theorem freeRecs_mem (s : State) : (freeRecs s).mem = s.mem := rfl

theorem msix_hostMem (n v : Nat) (s : State) : (msix n v s).io.hostMem = s.io.hostMem := by
  unfold msix; split <;> rfl

/-- A delivered command has no undelivered record: the later steps of a delivery only drop records or complete other ones. -/
theorem findRec_delivered {s : State} {q seq : Nat} (h : ∀ r ∈ s.ctl.journal, r.q = q → r.seq = seq → r.state = .completed) :
    findRec (drainQueues (freeRecs s)) q seq = none := by
  refine List.find?_eq_none.mpr fun y hy hrec => ?_
  obtain ⟨r, hr, hq, hs, hc⟩ := mem_drainQueues hy
  simp only [isRec, Bool.and_eq_true, beq_iff_eq, bne_iff_ne] at hrec
  exact hrec.2 (hc (h r (of_mem_freeRecs hr) (hq ▸ hrec.1.1) (hs ▸ hrec.1.2)))

theorem replyOne_of {s : State} {q : Nat} {x : Queue} {r : Rec} {p : Reply} (hx : queue? s q = some x) (hm : x.cqMod = false)
    (hc : canReply s x = true) (hf : s.ctl.journal.find? (fun r => r.q == q && r.state != .completed && r.again.isNone) = some r)
    (hs : r.state = .replyPending) (hp : r.reply = some p) :
    let a := x.cqBase + 32 * (r.seq % 2 ^ x.cqLog2)
    let b := replyBytes r.seq x.cqLog2 { p with commit := commitSeq s r.ctx }
    ∃ u, replyOne q s = drainQueues (freeRecs u) ∧ u.io.hostMem = (hostWrite a b s).io.hostMem ∧ u.mem = s.mem ∧
      ∀ y ∈ u.ctl.journal, y.q = q → y.seq = r.seq → y.state = .completed := by
  intro a b
  obtain ⟨t, ht⟩ : ∃ t, t = mapRecs (isRec q r.seq) (fun r' => { r' with state := .completed, reply := some { p with commit := commitSeq s r'.ctx } })
      (hostWrite a b s) := ⟨_, rfl⟩
  have hj : ∀ y ∈ t.ctl.journal, y.q = q → y.seq = r.seq → y.state = .completed := by
    rw [ht]
    intro y hy hq hseq
    obtain ⟨z, _, rfl⟩ := List.mem_map.mp hy
    by_cases hz : isRec q r.seq z = true
    · rw [if_pos hz]
    · rw [if_neg hz] at hq hseq ⊢
      by_contra hn
      exact hz (by rw [← hseq]; exact isRec_self hq hn)
  refine ⟨if r.flags.testBit 0 then msix (fnOf s x.ctx) x.msix t else t, ?_, ?_, ?_, ?_⟩
  · rw [replyOne, hx, hf]
    dsimp only
    rw [hs, hp]
    dsimp only
    rw [if_neg (by rw [hc]; decide), ht]
    simp only [hm, Bool.false_eq_true, if_false, a, b]
  · split
    · rw [msix_hostMem, ht]; rfl
    · rw [ht]; rfl
  · split
    · rw [msix_mem, ht]; rfl
    · rw [ht]; rfl
  · split
    · rw [msix_ctl]; exact hj
    · exact hj

/-- Settles O25: the reply stands in its slot, and the record's delivery is not undone by what follows it. -/
theorem commandsIssueAndReply : Obligations.CommandsIssueAndReply := by
  intro s q r
  refine ⟨fun hf hm hr => ?_, ?_⟩
  · have hin := List.mem_of_find?_eq_some hf
    have hst := List.find?_some hf
    simp only [Bool.and_eq_true, beq_iff_eq] at hst
    have hrec : isRec q r.seq r = true := isRec_self hst.1 (by simp [hst.2])
    refine ⟨fun h => ⟨_, congrArg Host.Outcome.next (issueOne_of hf hm hr), ?_⟩, fun h1 h2 h3 => ⟨_, congrArg Host.Outcome.next (issueOne_of hf hm hr), ?_⟩⟩
    · rw [if_neg (by rcases h with h | h <;> simp [h])]
      refine ⟨_, mem_mapRecs (r := r) ?_ hrec _, hst.1, rfl, rfl⟩
      split
      · simpa using hin
      · exact hin
    · rw [if_pos (by simp [h1, h2])]
      refine ⟨_, mem_mapRecs hin hrec _, ?_⟩
      rw [replyOf, if_pos (by simp [hst.2]), h3]
      exact ⟨hst.1, rfl, rfl, _, rfl, rfl⟩
  · intro x p hx hmod hc hf hs hp a
    obtain ⟨u, hu, hmem, hmm, hj⟩ := replyOne_of hx hmod hc hf hs hp
    have key : ∀ t : State, t.io = (replyOne q s).io → t.ctl.journal = (replyOne q s).ctl.journal → t.mem = (replyOne q s).mem →
        hostRead t a 32 = replyBytes r.seq x.cqLog2 { p with commit := commitSeq s r.ctx } ∧
        (∀ j, j < a ∨ a + 32 ≤ j → sget 0 t.io.hostMem j = sget 0 s.io.hostMem j) ∧ findRec t q r.seq = none ∧ t.mem = s.mem := by
      intro t hio hjt hmt
      have hhm : t.io.hostMem = ssetN 0 s.io.hostMem a (replyBytes r.seq x.cqLog2 { p with commit := commitSeq s r.ctx }) := by
        rw [hio, hu, drainQueues_io, freeRecs_io, hmem]; rfl
      refine ⟨?_, fun j hj' => ?_, ?_, ?_⟩
      · rw [hostRead, hhm]
        conv_lhs => rw [← replyBytes_length r.seq x.cqLog2 { p with commit := commitSeq s r.ctx }]
        exact sgetN_ssetN ..
      · rw [hhm]
        exact sget_ssetN_out _ _ _ (by rw [replyBytes_length]; exact hj')
      · rw [findRec, hjt, hu]; exact findRec_delivered hj
      · rw [hmt, hu, drainQueues_mem, freeRecs_mem, hmm]
    have hex : ∃ t, exec (.replyWrite q) s = .next t ∧ t.io = (replyOne q s).io ∧ t.ctl.journal = (replyOne q s).ctl.journal ∧ t.mem = (replyOne q s).mem := by
      show ∃ t, execReplyWrite q s = .next t ∧ _
      unfold execReplyWrite
      dsimp only
      split
      · split
        · split
          · exact ⟨_, rfl, rfl, rfl, rfl⟩
          · exact ⟨_, rfl, rfl, rfl, rfl⟩
        · exact ⟨_, rfl, rfl, rfl, rfl⟩
      · exact ⟨_, rfl, rfl, rfl, rfl⟩
    obtain ⟨t, ht, hio, hjt, hmt⟩ := hex
    exact ⟨t, ht, key t hio hjt hmt⟩

end Sys2Proof.Machine
end

section
/-! PROOFS. The admin queue, and what follows a heartbeat, a takeover and the release of a hold (ch. 1, 3). -/

namespace Sys2Proof.Machine

/-! ### Updates of queues and journal -/

section
variable {F : List Fld} {s t : State} (h : Told F s t)
include h

theorem Told.setJournal (l : List Rec) : Told F s (setJournal l t) where
  regs := h.regs
  events := h.events
  outbox := h.outbox
  ctxs := h.ctxs
  host := h.host
  ctl := h.ctl
  boot := h.boot

theorem Told.setQueues (m : SMap Queue) : Told F s { t with ctl := { t.ctl with queues := m } } where
  regs := h.regs
  events := h.events
  outbox := h.outbox
  ctxs := h.ctxs
  host := h.host
  ctl := h.ctl
  boot := h.boot

theorem Told.mapRecs (p : Rec → Bool) (f : Rec → Rec) : Told F s (mapRecs p f t) := h.setJournal _

theorem Told.setQueue (q : Nat) (x : Queue) : Told F s (setQueue q x t) := h.setQueues _

theorem Told.modQueue (q : Nat) (f : Queue → Queue) : Told F s (modQueue q f t) := by
  unfold Machine.modQueue
  split
  · exact h.setQueue ..
  · exact h

theorem Told.drainQueues : Told F s (drainQueues t) := (h.setJournal _).setQueues _

theorem Told.replyOne (hF : accessFlds ⊆ F) (q : Nat) : Told F s (replyOne q t) := by
  unfold Machine.replyOne
  split
  · split
    · split
      · exact h
      · refine Told.drainQueues (Told.setJournal ?_ _)
        have : ∀ c a b (m : Bool), Told F s (if m then Machine.ctxWrite c a b t else Machine.hostWrite a b t) := fun c a b m => by
          cases m
          · exact h.hostWrite ..
          · exact h.ctxWrite hF ..
        split
        · exact ((this ..).mapRecs ..).msix ..
        · exact (this ..).mapRecs ..
    · exact h
  · exact h

theorem Told.rewriteReplies (hF : accessFlds ⊆ F) : Told F s (rewriteReplies t) := by
  unfold Machine.rewriteReplies
  generalize List.filter _ t.ctl.journal = l
  induction l generalizing t with
  | nil => exact h
  | cons r l ih => exact ih (h.replyOne hF _)

theorem Told.fetchLoop (hF : poisonFlds ⊆ F) (q n : Nat) : Told F s (fetchLoop q n t) := by
  induction n generalizing t with
  | zero => exact h
  | succ n ih =>
    rw [Machine.fetchLoop]
    split
    · exact h
    · dsimp only
      split
      · exact h
      · split
        · exact h
        · split
          · exact (h.reportBad hF ..).modQueue ..
          · refine ih ?_
            split
            · exact (h.setQueue ..).emit _
            · exact h.setQueue ..

theorem Told.doorbell (hF : poisonFlds ⊆ F) (q n : Nat) : Told F s (doorbell q n t) :=
  Told.fetchLoop (h.modQueue q _ |>.modQueue q _) hF q _

theorem Told.foldl_doorbell (hF : poisonFlds ⊆ F) (l : List (Nat × Nat × Nat)) :
    Told F s (l.foldl (fun s d => if ownsQueue s d.1 d.2.1 then Machine.doorbell d.2.1 d.2.2 s else s) t) := by
  induction l generalizing t with
  | nil => exact h
  | cons d l ih =>
    rw [List.foldl_cons]
    refine ih ?_
    split
    · exact h.doorbell hF ..
    · exact h

end

/-! ### Doorbells that were kept -/

theorem keptDoorbells_told (s : State) : (accepting s = false ∧ keptDoorbells s = s) ∨ (accepting s = true ∧
    Told poisonFlds { s with ctl := { s.ctl with doorbells := [] } } (keptDoorbells s)) := by
  unfold keptDoorbells
  cases h : accepting s
  · exact .inl ⟨rfl, by simp⟩
  · exact .inr ⟨rfl, Told.foldl_doorbell Told.rfl (fun _ h => h) _⟩

/-- What acting on kept doorbells leaves: the registers but for those of poison, the records of events, the rest of the command side. -/
theorem keptDoorbells_keeps (s : State) : (∀ f i, f.tally = false → f ∉ poisonFlds → regAt (keptDoorbells s).regs f i = regAt s.regs f i) ∧
    s.io.events <:+ (keptDoorbells s).io.events ∧ (keptDoorbells s).ctl.f0Fenced = s.ctl.f0Fenced ∧
    (accepting s = true → (keptDoorbells s).ctl.doorbells = []) := by
  rcases keptDoorbells_told s with ⟨ha, h⟩ | ⟨ha, h⟩
  · rw [h, ha]
    exact ⟨fun _ _ _ _ => rfl, List.suffix_rfl, rfl, fun h => by cases h⟩
  · have h0 := congrArg Ctl.f0Fenced h.ctl
    have h1 := congrArg Ctl.doorbells h.ctl
    exact ⟨h.regs, h.events, h0, fun _ => h1⟩

/-! ### The admin queue -/

/-- The fields of QUEUE_ADMIN_CFG. -/
def adminFlds : List Fld := [.queueAdminCfg_msix, .queueAdminCfg_cqLog2, .queueAdminCfg_sqLog2, .queueAdminCfg_enable]

theorem adminCfgFields_told (v : Nat) (s : State) : Told adminFlds s (adminCfgFields v s) := by
  unfold adminCfgFields
  dsimp only
  refine Told.rset ?_ (.inr (by decide)) ..
  have h1 : Told adminFlds s (rset .queueAdminCfg_msix 0 (bits v 16 16) s) := Told.rfl.rset (.inr (by decide)) ..
  have h2 : Told adminFlds s (if logOk (bits v 12 4) then rset .queueAdminCfg_cqLog2 0 (bits v 12 4) (rset .queueAdminCfg_msix 0 (bits v 16 16) s)
      else rset .queueAdminCfg_msix 0 (bits v 16 16) s) := by
    split
    · exact h1.rset (.inr (by decide)) ..
    · exact h1
  split
  · exact h2.rset (.inr (by decide)) ..
  · exact h2

theorem adminCfgFields_queues (v : Nat) (s : State) : (adminCfgFields v s).ctl = s.ctl := by
  unfold adminCfgFields
  dsimp only
  rw [rset_ctl]
  split <;> split <;> simp

theorem adminCfgFields_enable (v : Nat) (s : State) : rget (adminCfgFields v s) .queueAdminCfg_enable 0 = v % 2 := by
  rw [rget_eq, adminCfgFields, regAt_rset_same _ _ (by decide)]
  simp [bits, fldInfo]

theorem adminCfgFields_sqLog2 {v : Nat} (s : State) (h : logOk (v / 256 % 16) = true) :
    rget (adminCfgFields v s) .queueAdminCfg_sqLog2 0 = v / 256 % 16 := by
  have hb : bits v 8 4 = v / 256 % 16 := by simp [bits, Nat.shiftRight_eq_div_pow]
  rw [rget_eq, adminCfgFields, regAt_rset_other _ _ _ _ (by decide), hb, if_pos h, regAt_rset_same _ _ (by decide)]
  simp [fldInfo]

theorem adminCfgFields_cqLog2 {v : Nat} (s : State) (h : logOk (v / 4096 % 16) = true) :
    rget (adminCfgFields v s) .queueAdminCfg_cqLog2 0 = v / 4096 % 16 := by
  have hb : bits v 12 4 = v / 4096 % 16 := by simp [bits, Nat.shiftRight_eq_div_pow]
  have key : ∀ u : State, regAt (rset .queueAdminCfg_cqLog2 0 (v / 4096 % 16) u).regs .queueAdminCfg_cqLog2 0 = v / 4096 % 16 := fun u => by
    rw [regAt_rset_same _ _ (by decide)]; simp [fldInfo]
  rw [rget_eq, adminCfgFields, regAt_rset_other _ _ _ _ (by decide), hb, if_pos h]
  split
  · rw [regAt_rset_other _ _ _ _ (by decide), key]
  · exact key _

theorem logOk_iff {n : Nat} : logOk n = true ↔ 6 ≤ n ∧ n ≤ 15 := by simp [logOk]

theorem testBit_zero_toNat (v : BitVec 32) : v.toNat.testBit 0 = v.getLsbD 0 := rfl

theorem adminQueue_part (s : State) (fn : Nat) (v : BitVec 32) :
    (fn ≠ 0 ∨ rget s .mcStatus_ready 0 = 0 → exec (.queueAdminCfg fn v) s = .next (dropLatch fn s)) ∧
    (notServed s 0 = false → queue? s 0 = none → v.getLsbD 0 = true → leadsTo (.queueAdminCfg 0 v) s (fun t => rget t .queueAdminCfg_enable 0 = 1 ∧
      ∃ x, queue? t 0 = some x ∧ x.ctx = 0 ∧ x.state = .active ∧ x.nextSeq = 0 ∧ x.fetched = [] ∧
        x.sqBase = rget s .queueAdminSqBase_addr 0 * 64 ∧ x.cqBase = rget s .queueAdminCqBase_addr 0 * 32 ∧
        (6 ≤ v.toNat / 256 % 16 ∧ v.toNat / 256 % 16 ≤ 15 → x.sqLog2 = v.toNat / 256 % 16) ∧
        (6 ≤ v.toNat / 4096 % 16 ∧ v.toNat / 4096 % 16 ≤ 15 → x.cqLog2 = v.toNat / 4096 % 16))) ∧
    (notServed s 0 = false → queue? s 0 = none → v.getLsbD 0 = false → leadsTo (.queueAdminCfg 0 v) s (fun t =>
      rget t .queueAdminCfg_enable 0 = 0 ∧ queue? t 0 = none)) := by
  have hbit : ∀ b : Bool, v.getLsbD 0 = b → v.toNat % 2 = b.toNat := fun b hb => by
    rw [← testBit_zero_toNat, Nat.testBit_zero] at hb
    rw [← hb]
    rcases Nat.mod_two_eq_zero_or_one v.toNat with h | h <;> simp [h]
  have hex : ∀ b : Bool, notServed s 0 = false → queue? s 0 = none → v.getLsbD 0 = b →
      exec (.queueAdminCfg 0 v) s = .next (if b then setQueue 0 (adminQueue (adminCfgFields v.toNat (dropLatch 0 s))) (adminCfgFields v.toNat (dropLatch 0 s))
        else adminCfgFields v.toNat (dropLatch 0 s)) := by
    intro b hns hq hb
    have hq' : queue? (adminCfgFields v.toNat (dropLatch 0 s)) 0 = none := by rw [queue?, adminCfgFields_queues]; exact hq
    refine (if_neg (show ¬ notServed (dropLatch 0 s) 0 = true from ne_true_of_eq_false hns)).trans ?_
    rw [adminSwitch, hq', testBit_zero_toNat, hb]
  refine ⟨fun h => ?_, fun hns hq hb => ?_, fun hns hq hb => ?_⟩
  · refine if_pos (show notServed (dropLatch fn s) fn = true from ?_)
    rcases h with h | h
    · simp [notServed, h]
    · simp [notServed, show rget (dropLatch fn s) .mcStatus_ready 0 = 0 from h]
  · refine ⟨_, hex true hns hq hb, (adminCfgFields_enable ..).trans (hbit true hb), _, queue?_setQueue_same .., rfl, rfl, rfl, rfl, ?_, ?_, ?_, ?_⟩
    · exact congrArg (· * 64) ((adminCfgFields_told v.toNat (dropLatch 0 s)).regs _ _ rfl (by decide))
    · exact congrArg (· * 32) ((adminCfgFields_told v.toNat (dropLatch 0 s)).regs _ _ rfl (by decide))
    · exact fun h => adminCfgFields_sqLog2 _ (logOk_iff.mpr h)
    · exact fun h => adminCfgFields_cqLog2 _ (logOk_iff.mpr h)
  · exact ⟨_, hex false hns hq hb, (adminCfgFields_enable ..).trans (hbit false hb), (congrArg (fun c : Ctl => sget? c.queues 0) (adminCfgFields_queues v.toNat (dropLatch 0 s))).trans hq⟩

/-! ### The takeover -/

/-- The state in which the takeover is counted and reported: F1 has the role and F0 is fenced. -/
def takenOver (self : Bool) (s : State) : State :=
  let s1 := rset .mcStatus_controller 0 1 (rflag .mcFlags_takeoverSeen 0 s)
  { s1 with ctl := { s1.ctl with f0Fenced := true, missed := if self then s1.ctl.missed else 5 }, io := { s1.io with latch := [] } }

/-- The fields that the report of a takeover, and the replies and packets that it lets go, may write. -/
def takeoverFlds : List Fld := accessFlds ++ poisonFlds ++ [.troubleLog_takeover, .troubleFirst_lcount, .troubleLast_lcount]

theorem regAt_takenOver (self : Bool) (s : State) : regAt (takenOver self s).regs .mcStatus_controller 0 = 1 ∧
    regAt (takenOver self s).regs .mcFlags_takeoverSeen 0 = 1 ∧
    ∀ f, f ≠ .mcStatus_controller → f ≠ .mcFlags_takeoverSeen → ∀ i, regAt (takenOver self s).regs f i = regAt s.regs f i := by
  refine ⟨regAt_rset_same _ _ (by decide), ?_, fun f h1 h2 i => ?_⟩
  · exact (regAt_rset_other _ _ _ _ (by decide)).trans (regAt_rset_same _ _ (by decide))
  · exact (regAt_rset_other _ _ _ _ h1).trans (regAt_rflag_other _ _ _ h2)

theorem mcTakeover_part {s : State} (self : Bool) (h : rget s .mcStatus_controller 0 = 0) :
    leadsTo (.mcTakeover self) s (fun t => rget t .mcStatus_controller 0 = 1 ∧
      rget t .mcFlags_takeoverSeen 0 = 1 ∧ t.ctl.f0Fenced = true ∧ (accepting s = true → t.ctl.doorbells = []) ∧
      (rget s .mcStatus_takeoverCount 0 < 2 ^ (fldInfo .mcStatus_takeoverCount).width - 1 →
        rget t .mcStatus_takeoverCount 0 = rget s .mcStatus_takeoverCount 0 + 1) ∧
      ∃ ev ∈ t.io.events, ev.code = 0x0101 ∧ ev.ring = 0) := by
  obtain ⟨u, hu⟩ : ∃ u, u = takenOver self s := ⟨_, rfl⟩
  obtain ⟨s2, h2⟩ : ∃ s2, s2 = count1 .mcStatus_takeoverCount 0 u := ⟨_, rfl⟩
  obtain ⟨s4, h4⟩ : ∃ s4, s4 = raise0 0x0101 0 (pf 0 1 1 + pf 8 8 (rget (trouble .troubleLog_takeover 1 s2) .mcStatus_takeoverCount 0))
      (trouble .troubleLog_takeover 1 s2) := ⟨_, rfl⟩
  obtain ⟨s6, h6⟩ : ∃ s6, s6 = rewriteReplies (urgent s4) := ⟨_, rfl⟩
  have hex : exec (.mcTakeover self) s = .next (keptDoorbells s6) := by
    rw [h6, h4, h2, hu]
    exact if_neg (by omega)
  obtain ⟨hc, hs, hr⟩ := regAt_takenOver self s
  rw [← hu] at hc hs hr
  have t4 : Told takeoverFlds s2 s4 := by
    rw [h4]; exact (Told.rfl.trouble (by decide) (by decide) (by decide) _).raise0 ..
  have t46 : Told takeoverFlds s4 s6 := by
    rw [h6]; exact Told.rfl.urgent.rewriteReplies (by simp [takeoverFlds])
  have t2 : Told [.mcStatus_takeoverCount] u s2 := by
    rw [h2]; exact Told.rfl.count1 (.inr (by simp)) _
  obtain ⟨kr, ke, kf, kd⟩ := keptDoorbells_keeps s6
  have kr' : ∀ f i, f.tally = false → f ∉ takeoverFlds → regAt (keptDoorbells s6).regs f i = regAt s2.regs f i := fun f i hf hn =>
    (kr f i hf fun hm => hn (by simp [takeoverFlds, hm])).trans (((t4.trans t46).regs f i hf hn))
  have kr2 : ∀ f i, f.tally = false → f ∉ takeoverFlds → f ≠ .mcStatus_takeoverCount →
      regAt (keptDoorbells s6).regs f i = regAt u.regs f i := fun f i hf hn hne => (kr' f i hf hn).trans (t2.regs f i hf (by simpa using hne))
  refine ⟨_, hex, ?_, ?_, ?_, fun ha => kd ?_, fun hcnt => ?_, ?_⟩
  · rw [rget_eq, kr2 _ _ rfl (by decide) (by decide), hc]
  · rw [rget_eq, kr2 _ _ rfl (by decide) (by decide), hs]
  · have h26 := congrArg Ctl.f0Fenced (t4.trans t46).ctl
    have h02 := congrArg Ctl.f0Fenced t2.ctl
    refine (kf.trans h26).trans (h02.trans ?_)
    rw [hu]; rfl
  · have hb : s6.boot = s.boot := ((t4.trans t46).boot.trans t2.boot).trans (by rw [hu]; simp [takenOver])
    have hreg : ∀ f i, f.tally = false → f ∉ takeoverFlds → f ≠ .mcStatus_takeoverCount → f ≠ .mcStatus_controller →
        f ≠ .mcFlags_takeoverSeen → rget s6 f i = rget s f i := fun f i h1 h2 h3 h4 h5 =>
      (((t4.trans t46).regs f i h1 h2).trans (t2.regs f i h1 (by simpa using h3))).trans (hr f h4 h5 i)
    rw [accepting, hb, hreg _ _ rfl (by decide) (by decide) (by decide) (by decide), hreg _ _ rfl (by decide) (by decide) (by decide) (by decide)]
    exact ha
  · have hu0 := hr .mcStatus_takeoverCount (by decide) (by decide) 0
    rw [rget_eq, kr' _ _ rfl (by decide), h2]
    refine (regAt_count_same rfl (by decide) (by rw [hu0]; exact hcnt)).trans (by rw [hu0]; rfl)
  · obtain ⟨ev, hev, hcode, -, hring, -⟩ := raise0_event 0x0101 0 (pf 0 1 1 + pf 8 8 (rget (trouble .troubleLog_takeover 1 s2) .mcStatus_takeoverCount 0))
      (trouble .troubleLog_takeover 1 s2)
    rw [← h4] at hev
    exact ⟨ev, ke.subset (t46.events.subset hev), hcode, hring⟩

/-! ### The release of a hold -/

theorem foldl_unholdQueue_ctxs (l : List (Nat × Queue)) (r : Nat) (s : State) :
    (l.foldl (fun s kq => unholdQueue kq.1 r s) s).ctl.ctxs = s.ctl.ctxs := by
  induction l generalizing s with
  | nil => rfl
  | cons k l ih =>
    rw [List.foldl_cons, ih, unholdQueue, modQueue]
    split <;> rfl

theorem ctx?_modCtx_same (s : State) (c : Nat) (f : Ctx → Ctx) : ctx? (modCtx c f s) c = (ctx? s c).map f := by
  unfold modCtx
  cases h : ctx? s c with
  | none => exact h
  | some x => exact ctx?_setCtx_same ..

theorem releaseCtx_free {s : State} {c : Nat} {x : Ctx} (hx : ctx? s c = some x) (hh : x.held = true) :
    ∃ y, ctx? (releaseCtx c s) c = some y ∧ y.held = false := by
  rw [releaseCtx, hx]
  simp only [Option.elim_some, hh, if_true]
  obtain ⟨u, hu⟩ : ∃ u, u = modCtx c (fun x => { x with held := false }) s := ⟨_, rfl⟩
  rw [← hu]
  have h1 : ctx? u c = some { x with held := false } := by rw [hu, ctx?_modCtx_same, hx]; rfl
  have h2 := (Told.rfl (F := []).raiseC 0x0302 2 c 0 (t := (u.ctl.queues.filter (fun kq => kq.2.ctx == c)).foldl (fun s kq => unholdQueue kq.1 1 s) u)).ctxs c
  rw [ctx?, ctx?, foldl_unholdQueue_ctxs] at h2
  rw [ctx?] at h1
  rw [h1] at h2
  obtain ⟨y, hy, hyx⟩ := Option.map_eq_some_iff.mp h2
  exact ⟨y, hy, by have := congrArg Ctx.held hyx; exact this⟩

/-- Settles O26: what follows the takeover writes none of the fields that it set, and the release finds no micro-batch to run again. -/
theorem adminQueueAndControllers : Obligations.AdminQueueAndControllers := by
  refine ⟨adminQueue_part, fun s self c => ⟨fun h => ?_, fun h => ?_, fun h => mcTakeover_part self h, fun x hx hh hm => ?_⟩⟩
  · exact ⟨_, if_neg (by rw [h]; decide), rfl⟩
  · exact if_pos h
  · obtain ⟨y, hy, hyh⟩ := releaseCtx_free hx hh
    refine ⟨_, congrArg Host.Outcome.next (if_pos (by rw [hx]; exact hh)), y, ?_, hyh⟩
    rw [hm]
    exact hy

end Sys2Proof.Machine
end

section
/-! PROOFS. Context commands: a counterexample to what is said of CTX_DESTROY (R402). -/

namespace Sys2Proof.Machine

/-! ### A command that is answered by what the teardown lets go on

WINDOW_SET of the context still waits, so the teardown completes the outstanding transfer of an engine that names the context, though its run is of
another one. The engine goes on, its fetch lies outside the code, and its trap lets every run complete that is over. One of them was made for the
queue and sequence number of CTX_DESTROY itself: its reply is given to the record of CTX_DESTROY, which is not left waiting. -/

/-- CTX_DESTROY, in queue 0 at sequence number 0. -/
def destroyRef : CmdRef := ⟨0, 0, 0, 0⟩

/-- A sampled engine of context 1 and run 7, stalled in XWAIT on one transfer; its kernel has no code. -/
def strayEngine : Engine := ⟨1, 7, 0, 0, 0, 0, 0, [], 0, [], [], [], [], false, 0, [⟨true, 0, 0, 0⟩], [], [], [], [],
  some (.xwait ⟨0, 0, false⟩ ⟨0, 0, 0, 0, 0, 0⟩), [], true, 0, 0, false, false, none⟩

/-- A run of context 2, for the command of queue 0 at sequence number 0. -/
def strayRun (done : Bool) : Run := ⟨2, 0, 0, 0, 0, 0, 0, false, 0, 0, [], [], [], 0, 0, 0, none, done, false⟩

/-- Context 1 has C-die 0, a new window that is not in force yet, and the engine. -/
def strayState : State :=
  let s := setEng ⟨0, 0, false⟩ strayEngine (setCtx 1 ⟨0, 0, 0, 8, 1, [], some ([], []), [], none, 0, false, false, none⟩ State.reset)
  { s with ctl := { s.ctl with partitions := [(0, 1)] }, gr := ⟨[], [(0, strayRun true), (7, strayRun false)], 8, 0⟩ }

/-- The state after a command; the same state where the command stops. -/
def stateAfter (i : Instr) (s : State) : State :=
  match exec i s with
  | .next t => t
  | _ => s

theorem stateAfter_of_next {i : Instr} {s t : State} (h : exec i s = .next t) : stateAfter i s = t := by rw [stateAfter, h]

theorem strayState_answers : waitsOn destroyRef (.teardown 1) (stateAfter (.ctxDestroy destroyRef 1) strayState) = false := by decide +kernel

/-- Refutes O28: a run with the command's own queue and sequence number completes during the teardown and answers the command.
The statement does not leave out such a state, which no run of the module reaches. -/
theorem not_contextCommands : ¬ Obligations.ContextCommands := by
  intro hall
  obtain ⟨-, -, -, hdestroy, -⟩ := hall destroyRef strayState 1 0 0 0 0 rfl
  obtain ⟨t, ht, hw, -⟩ := hdestroy ⟨0, 0, 0, 8, 1, [], some ([], []), [], none, 0, false, false, none⟩ 0x02 .destroy (.ctxDestroy destroyRef 1)
    (by simp) (by decide +kernel) (by decide) (by decide +kernel) rfl (by decide +kernel)
  have hno := strayState_answers
  rw [stateAfter_of_next ht] at hno
  exact Bool.false_ne_true (hno.symm.trans hw)

end Sys2Proof.Machine
end

section
/-! PROOFS. Queue commands: a counterexample to what is said of QUEUE_DESTROY (R72). -/

namespace Sys2Proof.Machine

/-! ### A queue whose last command is completed while the queue is being drained

Queue 1 holds one command that is not completed: a QUEUE_DESTROY of queue 9, which is run again after its reply was delivered. When queue 1 is to be
destroyed, the queues are drained; nothing of queue 9 is left, so that command completes without a second reply. Queue 1 has then nothing left
and is removed at once, while its own QUEUE_DESTROY still waits. -/

/-- A QUEUE_DESTROY of queue 9 in queue 1, issued again: its reply was delivered before. -/
def replayedDrain : Rec := ⟨1, 5, 1, 0x05, 0, [], .issued, .queueDrain 9, 0, 0, none, some .completed⟩

/-- Queue 1 of context 1, with that record in the journal. -/
def drainingState : State :=
  setJournal [replayedDrain] (setQueue 1 ⟨1, 0, 0, false, false, 6, 6, 0, 0, 0, 0, 0, 0, .active, 0, false, false, []⟩ State.reset)

theorem drainingState_drops : queue? (stateAfter (.queueDestroy destroyRef 1) drainingState) 1 = none := by decide +kernel

/-- Refutes O29: the queue that QUEUE_DESTROY waits for is gone, where its last command was completed by the drain itself. The statement does
not leave out such a state, which no run of the module reaches. -/
theorem not_queueAndEventCommands : ¬ Obligations.QueueAndEventCommands := by
  rintro ⟨hall, -⟩
  obtain ⟨-, hdestroy, -⟩ := hall destroyRef drainingState 1 0 0 0 0 0 0 0 0 0 0
  obtain ⟨-, hbusy⟩ := hdestroy (by decide +kernel) (by decide +kernel) (by decide)
  obtain ⟨t, ht, -, -, y, hy, -⟩ := hbusy ⟨replayedDrain, List.mem_singleton.mpr rfl, rfl, by decide⟩
  have hno := drainingState_drops
  rw [stateAfter_of_next ht] at hno
  rw [show ((1 : BitVec 16).toNat) = 1 from rfl, hno] at hy
  cases hy

end Sys2Proof.Machine
end

section
/-! PROOFS. WINDOW_SET and CXL_MAP where no transfer of an engine is outstanding (R166, R168, R171). -/

namespace Sys2Proof.Machine

theorem eq_of_mem_svals {α : Type} {m : SMap α} {k : Nat} {v : α} (h : sget? m k = some v) : (k, v) ∈ m := by
  induction m with
  | nil => cases h
  | cons p m ih =>
    rw [sget?] at h
    split at h
    · next hk => cases h; rw [← hk]; exact List.mem_cons_self
    · exact List.mem_cons_of_mem _ (ih h)

/-- Without outstanding transfers there is nothing to drain. -/
theorem drainXfers_idle {s : State} (h : ∀ p ∈ s.eng, p.2.xfers = []) (c : Option Nat) (p : Xfer → Bool) : drainXfers c p s = s := by
  have hk : ∀ k n, drainEngine p k n s = s := by
    intro k n
    cases n with
    | zero => rfl
    | succ n =>
      rw [drainEngine]
      have : (sget? s.eng k).bind (readyXfer s p) = none := by
        cases hx : sget? s.eng k with
        | none => rfl
        | some x =>
          have hx0 : x.xfers = [] := h _ (eq_of_mem_svals hx)
          simp [readyXfer, hx0]
      rw [this]
  unfold drainXfers
  generalize List.map _ _ = l
  induction l with
  | nil => rfl
  | cons k l ih => rw [List.foldl_cons, hk, ih]

/-- A record that is not delivered stays the one of its command when the journal is changed record by record. -/
theorem findRec_changed {s t : State} {q n : Nat} {r : Rec} (g : Rec → Rec) (hj : t.ctl.journal = s.ctl.journal.map g)
    (h : findRec s q n = some r) (hg : ∀ y, (g y).q = y.q ∧ (g y).seq = y.seq ∧ (y.state = .completed → (g y).state = .completed))
    (hr : (g r).state ≠ .completed) : findRec t q n = some (g r) := by
  rw [findRec] at h ⊢
  rw [hj]
  generalize s.ctl.journal = l at h
  induction l with
  | nil => cases h
  | cons y l ih =>
    obtain ⟨hq, hs, hc⟩ := hg y
    rw [List.map_cons]
    by_cases hy : isRec q n y = true
    · rw [List.find?_cons_of_pos hy] at h
      cases h
      refine List.find?_cons_of_pos ?_
      simp only [isRec, Bool.and_eq_true, beq_iff_eq, bne_iff_ne] at hy ⊢
      exact ⟨by rw [hq, hs]; exact hy.1, hr⟩
    · rw [List.find?_cons_of_neg hy] at h
      rw [List.find?_cons_of_neg, ih h]
      simp only [isRec, Bool.and_eq_true, beq_iff_eq, bne_iff_ne] at hy ⊢
      rw [hq, hs]
      exact fun ⟨hqs, hn⟩ => hy ⟨hqs, fun e => hn (hc e)⟩

/-- The reply of an issued record that is run for the first time. -/
theorem replyOf_issued (s : State) (st det : Nat) {r : Rec} (hs : r.state = .issued) (ha : r.again = none) :
    replyOf s st det r =
      { r with state := .replyPending, wait := .none, reply := some ⟨st, r.replayed, (if r.step = 0 then stepNo s r.ctx else r.step), det % 2 ^ 64, 0⟩ } := by
  simp [replyOf, hs, ha]

theorem replyOf_ids (s : State) (st det : Nat) (r : Rec) : (replyOf s st det r).q = r.q ∧ (replyOf s st det r).seq = r.seq := by
  unfold replyOf
  split
  · split <;> exact ⟨rfl, rfl⟩
  · exact ⟨rfl, rfl⟩

/-- The record of a command that waits takes the reply that all records of its wait take. -/
theorem finishWaits_replied {op : Nat} {h : CmdRef} {s t : State} {l : List Rec} {w : Wait} {st : Nat} {det : Rec → Nat} {p : Rec → Bool} {d : Nat}
    (hm : mayRun op h s = true) (hl : started op h s = setJournal l s) (hj : t.ctl.journal = (waitFor h w (setJournal l s)).ctl.journal)
    (hp : ∀ y : Rec, y.state = .issued → y.wait = w → y.ctx = h.ctx → p y = true) (hd : ∀ y : Rec, y.wait = w → det y = d) :
    replied h st d (finishWaits p st det t) = true := by
  obtain ⟨r, hr, hst, -, hag, -, -, -, hctx, -⟩ := started_rec op h s hm
  rw [hl] at hr
  have hw := findRec_mapRecs (setJournal l s) h.q h.seq.toNat (fun r => if r.state = .issued then { r with wait := w } else r) r hr
    (by simp [hst]) (by simp [hst]) (by simp [hst])
  rw [if_pos hst] at hw
  obtain ⟨v, hv⟩ : ∃ v : Rec, v = { r with wait := w } := ⟨_, rfl⟩
  have hvw : v.wait = w := by rw [hv]
  have hvs : v.state = .issued := by rw [hv]; exact hst
  rw [← hv] at hw
  have hw' : findRec t h.q h.seq.toNat = some v := by rw [findRec, hj]; exact hw
  have hc : (decide (v.state = .issued) && p v) = true := by simp [hvs, hp v hvs hvw (by rw [hv]; exact hctx)]
  have hrep := replyOf_issued t st (det v) (r := v) hvs (by rw [hv]; exact hag)
  have hfin := findRec_changed (t := finishWaits p st det t) (fun r => if r.state = .issued && p r then replyOf t st (det r) r else r) rfl hw'
    (fun y => by
      split
      · next hi =>
        simp only [Bool.and_eq_true, decide_eq_true_eq] at hi
        obtain ⟨hq, hs⟩ := replyOf_ids t st (det y) y
        exact ⟨hq, hs, fun hc => absurd (hi.1.symm.trans hc) (by decide)⟩
      · exact ⟨rfl, rfl, id⟩)
    (by rw [if_pos hc, hrep]; exact RecSt.noConfusion)
  rw [if_pos hc, hrep, hd v hvw] at hfin
  rw [replied, hfin]
  simp

/-- What the checks of a window table ask of the state. -/
theorem winBad_congr {s t : State} (hr : t.regs = s.regs) (hs : t.sp = s.sp) (hc : t.ctl.ctxs = s.ctl.ctxs) (hq : t.ctl.queues = s.ctl.queues)
    (hp : t.ctl.partitions = s.ctl.partitions) (c : Nat) (rows : List (List Byte)) : winBad t c rows = winBad s c rows := by
  have hok : ∀ b, winOk t c b = winOk s c b := fun b => by
    simp [winOk, ownSlot, rget_eq, regionEnd, gddrBytes, ctxDies, partDies, ctx?, hr, hs, hc, hp]
  have hroom : winRoom t c = winRoom s c := by simp [winRoom, hc]
  have hring : ∀ w, ringsCovered t c w = ringsCovered s c w := fun w => by
    have hmap : SameMap (modCtx c (fun x => { x with window := w }) s) (modCtx c (fun x => { x with window := w }) t) := by
      simp only [modCtx, ctx?, hc]
      split
      · exact SameMap.of_eq hr hs (by simp [setCtx, hc])
      · exact SameMap.of_eq hr hs hc
    simp only [ringsCovered, ringIn, hq, inWindow_map hmap]
  simp only [winBad, hok, hroom, hring]

theorem ctx?_modCtx_ne (s : State) {c d : Nat} (f : Ctx → Ctx) (h : d ≠ c) : ctx? (modCtx c f s) d = ctx? s d := by
  unfold modCtx
  split
  · exact ctx?_setCtx_ne s c d _ h
  · rfl

theorem modCtx_eng (c : Nat) (f : Ctx → Ctx) (s : State) : (modCtx c f s).eng = s.eng := by unfold modCtx; split <;> rfl
theorem modCtx_vig (c : Nat) (f : Ctx → Ctx) (s : State) : (modCtx c f s).vig = s.vig := by unfold modCtx; split <;> rfl
theorem modCtx_mem (c : Nat) (f : Ctx → Ctx) (s : State) : (modCtx c f s).mem = s.mem := by unfold modCtx; split <;> rfl
theorem modCtx_journal (c : Nat) (f : Ctx → Ctx) (s : State) : (modCtx c f s).ctl.journal = s.ctl.journal := by unfold modCtx; split <;> rfl

/-- A new window waits for the context's accesses in flight. -/
theorem windowCheck_waits {c : Nat} {x : Ctx} {w : List WinEntry} {tags : List Nat} {s : State} (hc : ctx? s c = some x) (hn : x.newWin = some (w, tags))
    (ht : ∃ g ∈ tags, (sget? s.vig.remote g).isSome = true) : windowCheck c s = s := by
  have h : (ctx? s c).bind (·.newWin) = some (w, tags) := by rw [hc]; exact hn
  rw [windowCheck, h]
  exact if_pos (List.any_eq_true.2 ht)

/-- Without accesses in flight a new window is in force at once. -/
theorem windowCheck_acts {c : Nat} {x : Ctx} {w : List WinEntry} {s : State} (hc : ctx? s c = some x) (hn : x.newWin = some (w, []))
    (he : ∀ p ∈ s.eng, p.2.xfers = []) : windowCheck c s =
      finishWaits (fun r => r.wait == .windowDrain c) stOk (fun _ => 0) (modCtx c (fun x => { x with window := w, newWin := none }) s) := by
  have h : (ctx? s c).bind (·.newWin) = some (w, []) := by rw [hc]; exact hn
  rw [windowCheck, h]
  have hd := drainXfers_idle he (some c) (fun _ => true)
  simp only [hd, List.any_nil, Bool.false_eq_true, if_false]

section
variable {h : CmdRef} {s : State} {n : BitVec 8} {count : BitVec 16} {table : Word64} {x : Ctx} {k : Nat}

/-- WINDOW_SET of a table that can be read: what it comes to in the state after the read. -/
theorem windowSet_leadsTo {P : State → Prop} (hctx : h.ctx = 0) (hm : mayRun 0x13 h s = true) (hx : ctx? s n.toNat = some x) (hnew : x.newWin = none)
    (hp : plainAt s 0 false table.toNat (32 * count.toNat) k)
    (hP : ∀ l u, started 0x13 h s = setJournal l s → u.ctl = (setJournal l s).ctl → u.mem = s.mem → u.eng = s.eng → u.vig = s.vig →
      let rows := entries 32 count.toNat (sgetN 0 s.mem.bytes k (32 * count.toNat))
      (∀ i, winBad s n.toNat rows = some i → P (badParam h i u)) ∧
      (winBad s n.toNat rows = none → P (windowCheck n.toNat (waitFor h (.windowDrain n.toNat) (modCtx n.toNat (fun x =>
            { x with newWin := some (rows.map mkWin, (s.vig.remote.filter (fun x => x.2.ctx == n.toNat)).map Prod.fst) }) u))))) :
    leadsTo (.windowSet h n count table) s P := by
  refine leadsTo_runPriv rfl hm hctx fun l hl => ?_
  have hx' : ctx? (setJournal l s) n.toNat = some x := hx
  dsimp only
  rw [hx', Option.elim_some, hnew, if_neg (by simp), cmdRead_plain (by rw [hctx]; exact plainAt_setJournal l hp), chargeMem_eq]
  generalize hu : useFree { setJournal l s with pow := _ } = u
  have hw : winBad u n.toNat (entries 32 count.toNat (sgetN 0 s.mem.bytes k (32 * count.toNat))) =
      winBad s n.toNat (entries 32 count.toNat (sgetN 0 s.mem.bytes k (32 * count.toNat))) := by
    refine winBad_congr (t := u) ?_ ?_ ?_ ?_ ?_ _ _ <;> rw [← hu] <;> rfl
  have hv : u.vig = s.vig := by rw [← hu]; rfl
  obtain ⟨hbad, hgood⟩ := hP l u hl (by rw [← hu]; rfl) (by rw [← hu]; rfl) (by rw [← hu]; rfl) hv
  dsimp only [setJournal_mem] at hbad hgood ⊢
  rw [hw, hv]
  split
  · next i hi => exact hbad i hi
  · next hi => exact hgood hi

theorem windowSet_bad (hctx : h.ctx = 0) (hm : mayRun 0x13 h s = true) (hx : ctx? s n.toNat = some x) (hnew : x.newWin = none)
    (hp : plainAt s 0 false table.toNat (32 * count.toNat) k) (i : Nat)
    (hi : winBad s n.toNat (entries 32 count.toNat (sgetN 0 s.mem.bytes k (32 * count.toNat))) = some i) :
    leadsTo (.windowSet h n count table) s (fun t => replied h 0x0016 i t = true ∧ t.ctl.ctxs = s.ctl.ctxs ∧ t.mem = s.mem) :=
  windowSet_leadsTo hctx hm hx hnew hp fun l u hl hc hmem _ _ => by
    refine ⟨fun j hj => ?_, fun hn => absurd (hi.symm.trans hn) (by simp)⟩
    cases hi.symm.trans hj
    exact ⟨badParam_replied_of hm hl (by rw [hc]; rfl), congrArg (·.ctxs) hc, hmem⟩

theorem windowSet_acts (hctx : h.ctx = 0) (hm : mayRun 0x13 h s = true) (hx : ctx? s n.toNat = some x) (hnew : x.newWin = none)
    (hp : plainAt s 0 false table.toNat (32 * count.toNat) k) (he : ∀ p ∈ s.eng, p.2.xfers = []) (hr : ∀ p ∈ s.vig.remote, p.2.ctx ≠ n.toNat) :
    let rows := entries 32 count.toNat (sgetN 0 s.mem.bytes k (32 * count.toNat))
    winBad s n.toNat rows = none → leadsTo (.windowSet h n count table) s (fun t => replied h 0x0000 0 t = true ∧ t.mem = s.mem ∧
      (∀ d, d ≠ n.toNat → ctx? t d = ctx? s d) ∧ ctx? t n.toNat = some { x with window := rows.map mkWin }) := by
  intro rows hi
  refine windowSet_leadsTo hctx hm hx hnew hp fun l u hl hc hmem heng hvig => ⟨fun j hj => absurd (hi.symm.trans hj) (by simp), fun _ => ?_⟩
  have hf : s.vig.remote.filter (fun x => x.2.ctx == n.toNat) = [] := List.filter_eq_nil_iff.2 fun p hp => by simpa using hr p hp
  rw [hf, List.map_nil]
  have hxu : ∀ d, ctx? u d = ctx? s d := fun d => by rw [ctx?, hc]; rfl
  generalize hv : waitFor h (.windowDrain n.toNat) (modCtx n.toNat (fun x => { x with newWin := some (rows.map mkWin, []) }) u) = v
  have hxv : ctx? v n.toNat = some { x with newWin := some (rows.map mkWin, []) } := by
    rw [← hv]; exact (ctx?_modCtx_same ..).trans (by rw [hxu, hx]; rfl)
  have hev : v.eng = s.eng := by rw [← hv, waitFor_eng, modCtx_eng, heng]
  rw [windowCheck_acts hxv rfl (by rw [hev]; exact he)]
  refine ⟨finishWaits_replied (w := .windowDrain n.toNat) hm hl ?_ (fun y _ hy _ => by simp [hy]) (fun _ _ => rfl), ?_, fun d hd => ?_, ?_⟩
  · rw [modCtx_journal, ← hv, waitFor, mapRecs, modCtx_journal, hc]; rfl
  · rw [finishWaits_mem, modCtx_mem, ← hv, waitFor_mem, modCtx_mem, hmem]
  · refine (ctx?_modCtx_ne _ _ hd).trans ?_
    rw [← hv]
    exact (ctx?_modCtx_ne _ _ hd).trans (hxu d)
  · refine (ctx?_modCtx_same _ _ _).trans ?_
    rw [hxv, Option.map_some, ← hnew]

theorem windowSet_waits (hctx : h.ctx = 0) (hm : mayRun 0x13 h s = true) (hx : ctx? s n.toNat = some x) (hnew : x.newWin = none)
    (hp : plainAt s 0 false table.toNat (32 * count.toNat) k) (hr : ∃ p ∈ s.vig.remote, p.2.ctx = n.toNat)
    (hi : winBad s n.toNat (entries 32 count.toNat (sgetN 0 s.mem.bytes k (32 * count.toNat))) = none) :
    leadsTo (.windowSet h n count table) s (fun t => waitsOn h (.windowDrain n.toNat) t = true ∧ t.mem = s.mem ∧
      ∃ y, ctx? t n.toNat = some y ∧ y.window = x.window) := by
  refine windowSet_leadsTo hctx hm hx hnew hp fun l u hl hc hmem _ hvig => ⟨fun j hj => absurd (hi.symm.trans hj) (by simp), fun _ => ?_⟩
  obtain ⟨p, hpm, hpc⟩ := hr
  have hxu : ctx? u n.toNat = some x := by rw [ctx?, hc]; exact hx
  have hxv := (ctx?_modCtx_same u n.toNat (fun x =>
    { x with newWin := some ((entries 32 count.toNat (sgetN 0 s.mem.bytes k (32 * count.toNat))).map mkWin,
                             (s.vig.remote.filter (fun x => x.2.ctx == n.toNat)).map Prod.fst) })).trans (by rw [hxu, Option.map_some])
  rw [windowCheck_waits (by exact hxv) rfl
    ⟨p.1, List.mem_map.2 ⟨p, List.mem_filter.2 ⟨hpm, by simp [hpc]⟩, rfl⟩, by rw [waitFor_vig, modCtx_vig, hvig]; exact isSome_sget?_of_mem hpm⟩]
  refine ⟨waitFor_waits_of hm hl ?_, ?_, _, hxv, rfl⟩
  · rw [modCtx_journal, hc]; rfl
  · rw [waitFor_mem, modCtx_mem, hmem]

end

section
variable {h : CmdRef} {s : State} {port : BitVec 8} {base bytes : Word64}

theorem cxlMap_sets (hctx : h.ctx = 0) (he : ∀ p ∈ s.eng, p.2.xfers = []) (hm : mayRun 0x14 h s = true)
    (hok : cxlRangeOk s port.toNat base.toNat bytes.toNat = true) (hp : rget s .fdieCxlPort_present port.toNat = 1)
    (hb : bytes.toNat ≤ rget s .fdieCxlCapacity_bytes port.toNat) : leadsTo (.cxlMap h port base bytes) s (fun t => replied h 0x0000 0 t = true ∧
      t.mem = s.mem ∧ rget t .fdieCxlMapBase_offset port.toNat = base.toNat ∧ rget t .fdieCxlMapBytes_bytes port.toNat = bytes.toNat ∧
      sget 0 t.host.cxlMapped port.toNat = sget 0 s.host.cxlDev port.toNat ∧ ∀ j, j ≠ port.toNat →
        rget t .fdieCxlMapBase_offset j = rget s .fdieCxlMapBase_offset j ∧ rget t .fdieCxlMapBytes_bytes j = rget s .fdieCxlMapBytes_bytes j) := by
  have hport : port.toNat < 4 := by
    simp only [cxlRangeOk, Bool.and_eq_true, decide_eq_true_eq] at hok
    exact hok.1.1.1.1
  refine leadsTo_runPriv rfl hm hctx fun l hl => ?_
  have hok' : cxlRangeOk (setJournal l s) port.toNat base.toNat bytes.toNat = true := hok
  dsimp only
  have hok'' : (rget (setJournal l s) .fdieCxlPort_present port.toNat = 0 || rget (setJournal l s) .fdieCxlCapacity_bytes port.toNat < bytes.toNat) = false := by
    have hp' : rget (setJournal l s) .fdieCxlPort_present port.toNat = 1 := hp
    have hb' : ¬ rget (setJournal l s) .fdieCxlCapacity_bytes port.toNat < bytes.toNat := Nat.not_lt.2 hb
    simp [hp', hb']
  rw [hok', if_neg (by decide), hok'', if_neg (by decide), drainXfers_idle (s := setJournal l s) he]
  refine ⟨finishOk_replied_of hm hl ?_, ?_, ?_, ?_, ?_, fun j hj => ⟨?_, ?_⟩⟩
  · simp
  · simp
  · exact (regAt_rset_same _ _ hport).trans (Nat.mod_eq_of_lt base.isLt)
  · exact (regAt_rset_other _ _ _ _ (by decide)).trans ((regAt_rset_same _ _ hport).trans (Nat.mod_eq_of_lt bytes.isLt))
  · simp
  · exact (regAt_rset_elsewhere _ _ hj).trans (regAt_rset_other _ _ _ _ (by decide))
  · exact (regAt_rset_other _ _ _ _ (by decide)).trans (regAt_rset_elsewhere _ _ hj)

theorem cxlMap_tooLarge (hctx : h.ctx = 0) (hm : mayRun 0x14 h s = true) (hok : cxlRangeOk s port.toNat base.toNat bytes.toNat = true)
    (hb : rget s .fdieCxlCapacity_bytes port.toNat < bytes.toNat) :
    leadsTo (.cxlMap h port base bytes) s (fun t => replied h 0x0016 0x70 t = true ∧ onlyJournal s t) :=
  leadsTo_answered_priv rfl hm hctx fun l => by
    have hok' : cxlRangeOk (setJournal l s) port.toNat base.toNat bytes.toNat = true := hok
    dsimp only
    rw [hok', if_neg (by decide), if_pos (by simp only [Bool.or_eq_true, decide_eq_true_eq]; exact .inr hb)]
    rfl

theorem cxlMap_outOfRange (hctx : h.ctx = 0) (hm : mayRun 0x14 h s = true) (hok : cxlRangeOk s port.toNat base.toNat bytes.toNat = false) :
    leadsTo (.cxlMap h port base bytes) s (fun t => replied h 0x0016 0 t = true ∧ onlyJournal s t) :=
  leadsTo_answered_priv rfl hm hctx fun l => by
    have hok' : cxlRangeOk (setJournal l s) port.toNat base.toNat bytes.toNat = false := hok
    dsimp only
    rw [hok', if_pos (by decide)]
    rfl

end

/-- Settles O31: WINDOW_SET by its checks and the accesses outstanding, CXL_MAP by its range and the capacity. -/
theorem mappingCommands : Obligations.MappingCommands := by
  intro h s n port count table base bytes hctx he
  refine ⟨fun x k hm hx hnew hp => ⟨fun i hi => windowSet_bad hctx hm hx hnew hp i hi, fun hi hr => windowSet_acts hctx hm hx hnew hp he hr hi,
    fun hi hr => windowSet_waits hctx hm hx hnew hp hr hi⟩, fun hm hok hp hb => cxlMap_sets hctx he hm hok hp hb,
    fun hm hok hb => cxlMap_tooLarge hctx hm hok hb, fun hm hok => cxlMap_outOfRange hctx hm hok⟩

end Sys2Proof.Machine
end

section
/-! PROOFS. GRAPH_LOAD, GRAPH_UNLOAD and GRAPH_RUN (R41, R42, R46, R72). -/

namespace Sys2Proof.Machine

/-! ### What the load checks ask of the state -/

theorem locate_congr {s t : State} (hr : t.regs = s.regs) (hs : t.sp = s.sp) (hf : t.free = s.free) (a : Nat) : locate t a = locate s a := by
  simp only [locate, ownSlot, inExtent, gddrBytes, gridRows, cxlPortOf, rget_eq, hr, hs, hf]
  rfl

theorem rangeIn_congr {s t : State} (hr : t.regs = s.regs) (hs : t.sp = s.sp) (hc : t.ctl.ctxs = s.ctl.ctxs) (hf : t.free = s.free)
    (c : Nat) (wr : Bool) (a n : Nat) : rangeIn t c wr a n = rangeIn s c wr a n := by
  simp only [rangeIn, inWindow_map (SameMap.of_eq hr hs hc), locate_congr hr hs hf]

theorem loadCheck_congr {s t : State} (hr : t.regs = s.regs) (hs : t.sp = s.sp) (hc : t.ctl.ctxs = s.ctl.ctxs) (hp : t.ctl.partitions = s.ctl.partitions)
    (hg : t.gr = s.gr) (hf : t.free = s.free) (c n : Nat) (b : List Byte) : loadCheck t c n b = loadCheck s c n b := by
  have hds : ctxDies t c = ctxDies s c := by simp only [ctxDies, partDies, ctx?, hc, hp]
  have hgeo : ∀ ds, geoDigest t ds = geoDigest s ds := fun ds => by
    have h1 : chanCount t = chanCount s := by funext d; simp only [chanCount, hs]
    have h2 : gddrBytes t = gddrBytes s := by funext d; simp only [gddrBytes, hs]
    have h3 : gridRows t = gridRows s := by funext d; simp only [gridRows, hs]
    have h4 : gridY t ds = gridY s ds := by simp only [gridY, h3]
    have h5 : partTrimmed t ds = partTrimmed s ds := by simp only [partTrimmed, hs]
    simp only [geoDigest, geoFields, h1, h2, h4, h5, rget_eq, hr]
  have hreg : ∀ ds, regionOk t ds = regionOk s ds := fun ds => by
    funext raw
    have hy : gridY t ds = gridY s ds := by simp only [gridY, gridRows, hs]
    simp only [regionOk, hy]
  have hargs : argsOk t c = argsOk s c := by
    funext i x
    simp only [argsOk, rangeIn_congr hr hs hc hf]
  simp only [loadCheck, hds, hgeo, hreg, hargs, hg, hf]

/-- A range that leads to memory byte by byte lies in the window. -/
theorem rangeIn_of_plain {s : State} {c : Nat} {wr : Bool} {a n k : Nat} (hp : plainAt s c wr a n k) : rangeIn s c wr a n = true := by
  rw [rangeIn]
  refine linesOf_induction (P := fun a n l => ∀ k, plainAt s c wr a n k → l.all (fun p => inWindow s c wr p.1 && locate s p.1 != .unmapped) = true)
    (fun _ _ _ => rfl) (fun a m n l hm _ ih k hp => ?_) a n k hp
  obtain ⟨hw, hl, -⟩ := hp 0 (by omega)
  rw [Nat.add_zero] at hw hl
  rw [List.all_cons, hw, hl, ih (k + m) fun i hi => by
    obtain ⟨hw, hl, hb⟩ := hp (m + i) (by omega)
    exact ⟨by rw [Nat.add_assoc]; exact hw, by rw [Nat.add_assoc, Nat.add_assoc]; exact hl, by rw [Nat.add_assoc]; exact hb⟩]
  rfl

/-! ### GRAPH_LOAD -/

section
variable {h : CmdRef} {s : State} {object bytes : Word64} {k : Nat}

/-- GRAPH_LOAD of an object that can be read: what it comes to in the state after the read. -/
theorem graphLoad_leadsTo {P : State → Prop} (hm : mayRun 0x20 h s = true) (hp : plainAt s h.ctx false object.toNat bytes.toNat k)
    (hP : ∀ l u, started 0x20 h s = setJournal l s → u.ctl = (setJournal l s).ctl → u.mem = s.mem → u.gr = s.gr →
      let b := sgetN 0 s.mem.bytes k bytes.toNat
      (∀ code i, loadCheck (useFree s) h.ctx bytes.toNat b = some (code, i) → P (finish h stGraphRejected (code + i * 256) (useFree u))) ∧
      (loadCheck (useFree s) h.ctx bytes.toNat b = none →
        P (finish h stOk (fld b 8 2) { u with gr := { u.gr with graphs := sput u.gr.graphs (h.ctx * 65536 + fld b 8 2) (mkGraph b) } }))) :
    leadsTo (.graphLoad h object bytes) s P := by
  refine leadsTo_runCmd rfl hm fun l hl => ?_
  have hin : rangeIn (setJournal l s) h.ctx false object.toNat bytes.toNat = true := rangeIn_of_plain (plainAt_setJournal l hp)
  dsimp only
  rw [hin, if_neg (by decide), cmdRead_plain (plainAt_setJournal l hp), chargeMem_eq]
  generalize hu : useFree { setJournal l s with pow := _ } = u
  have hw : loadCheck u h.ctx bytes.toNat (sgetN 0 s.mem.bytes k bytes.toNat) =
      loadCheck (useFree s) h.ctx bytes.toNat (sgetN 0 s.mem.bytes k bytes.toNat) := by
    refine loadCheck_congr ?_ ?_ ?_ ?_ ?_ ?_ _ _ _ <;> rw [← hu] <;> rfl
  obtain ⟨hbad, hgood⟩ := hP l u hl (by rw [← hu]; rfl) (by rw [← hu]; rfl) (by rw [← hu]; rfl)
  dsimp only [setJournal_mem] at hbad hgood ⊢
  rw [hw]
  split
  · next code i hi => exact hbad code i hi
  · next hi => exact hgood hi

theorem graphLoad_rejects (hm : mayRun 0x20 h s = true) (hp : plainAt s h.ctx false object.toNat bytes.toNat k) (code i : Nat)
    (hc : loadCheck (useFree s) h.ctx bytes.toNat (sgetN 0 s.mem.bytes k bytes.toNat) = some (code, i)) :
    leadsTo (.graphLoad h object bytes) s (fun t => replied h 0x0020 (code + i * 256) t = true ∧ t.mem = s.mem ∧ t.gr = s.gr) :=
  graphLoad_leadsTo hm hp fun l u hl hctl hmem hgr => by
    refine ⟨fun code' i' hc' => ?_, fun hn => absurd (hc.symm.trans hn) (by simp)⟩
    cases hc.symm.trans hc'
    exact ⟨finish_replied_of hm hl (congrArg (·.journal) hctl), hmem, hgr⟩

theorem graphLoad_loads (hm : mayRun 0x20 h s = true) (hp : plainAt s h.ctx false object.toNat bytes.toNat k) :
    let b := sgetN 0 s.mem.bytes k bytes.toNat
    loadCheck (useFree s) h.ctx bytes.toNat b = none → leadsTo (.graphLoad h object bytes) s (fun t => replied h 0x0000 (fld b 8 2) t = true ∧
      t.mem = s.mem ∧ graph? t h.ctx (fld b 8 2) = some (mkGraph b) ∧
      ∀ j, j ≠ h.ctx * 65536 + fld b 8 2 → sget? t.gr.graphs j = sget? s.gr.graphs j) := by
  intro b hc
  refine graphLoad_leadsTo hm hp fun l u hl hctl hmem hgr => ⟨fun code i hi => absurd (hc.symm.trans hi) (by simp), fun _ => ?_⟩
  refine ⟨finish_replied_of hm hl (congrArg (·.journal) hctl), hmem, ?_, fun j hj => ?_⟩
  · simp [graph?, b]
  · simp only [finish_gr]
    rw [sget?_sput_ne _ _ hj, hgr]

/-- An object without the magic number fails check 0x01. -/
theorem loadCheck_of_noMagic (s : State) (c n : Nat) {b : List Byte} (hb : fld b 0 4 ≠ 0x48504746) : loadCheck s c n b = some (0x01, 0xFFFFFF) := by
  have hh : headerOk n b = false := by simp [headerOk, hb]
  simp [loadCheck, hh]

end

/-! ### GRAPH_UNLOAD -/

/-- A key that a filter takes away is not listed. -/
theorem sget?_filter_not {α : Type} {m : SMap α} {p : Nat × α → Bool} {k : Nat} (hp : ∀ x : Nat × α, x.1 = k → p x = false) :
    sget? (m.filter p) k = none := by
  cases h : sget? (m.filter p) k with
  | none => rfl
  | some v => exact absurd (List.mem_filter.1 (eq_of_mem_svals h)).2 (by rw [hp _ rfl]; decide)

section
variable {h : CmdRef} {s : State} {graph : BitVec 16}

/-- A wait for a graph's runs that is over. -/
def unloadOver (s : State) (r : Rec) : Bool :=
  match r.wait with
  | .unload g => r.state == .issued && !(svals s.gr.runs).any (fun x => x.ctx == r.ctx && x.graph == g)
  | _ => false

/-- Keys of the graphs whose unloading is over. -/
def unloadDone (s : State) : List Nat :=
  (s.ctl.journal.filter (unloadOver s)).filterMap (fun r => match r.wait with | .unload g => some (r.ctx * 65536 + g) | _ => none)

theorem unloadCheck_eq (s : State) : unloadCheck s = finishWaits (unloadOver s) stOk (fun _ => 0)
    { s with gr := { s.gr with graphs := s.gr.graphs.filter (fun x => !(unloadDone s).contains x.1) } } := (rfl)

theorem graphUnload_leadsTo {P : State → Prop} (hm : mayRun 0x21 h s = true) (hg : (graph? s h.ctx graph.toNat).isSome = true)
    (hP : ∀ l, started 0x21 h s = setJournal l s → P (unloadCheck (waitFor h (.unload graph.toNat) (setJournal l s)))) :
    leadsTo (.graphUnload h graph) s P := by
  refine leadsTo_runCmd rfl hm fun l hl => ?_
  have hg' : (graph? (setJournal l s) h.ctx graph.toNat).isNone = false := by
    have : (graph? (setJournal l s) h.ctx graph.toNat).isSome = true := hg
    cases hx : graph? (setJournal l s) h.ctx graph.toNat with
    | none => rw [hx] at this; cases this
    | some _ => rfl
  rw [hg', if_neg (by decide)]
  exact hP l hl

/-- The record of a command that waits, in the journal. -/
theorem findRec_waitFor {op : Nat} {l : List Rec} (w : Wait) (hm : mayRun op h s = true) (hl : started op h s = setJournal l s) :
    ∃ r, findRec (waitFor h w (setJournal l s)) h.q h.seq.toNat = some r ∧ r.state = .issued ∧ r.wait = w ∧ r.ctx = h.ctx := by
  obtain ⟨r, hr, hst, -, -, -, -, -, hctx, -⟩ := started_rec op h s hm
  rw [hl] at hr
  have hw := findRec_mapRecs (setJournal l s) h.q h.seq.toNat (fun r => if r.state = .issued then { r with wait := w } else r) r hr
    (by simp [hst]) (by simp [hst]) (by simp [hst])
  rw [if_pos hst] at hw
  exact ⟨_, hw, hst, rfl, hctx⟩

theorem graphUnload_unloads (hm : mayRun 0x21 h s = true) (hg : (graph? s h.ctx graph.toNat).isSome = true)
    (hr : ∀ r ∈ svals s.gr.runs, r.ctx = h.ctx → r.graph ≠ graph.toNat) :
    leadsTo (.graphUnload h graph) s (fun t => replied h 0x0000 0 t = true ∧ graph? t h.ctx graph.toNat = none) :=
  graphUnload_leadsTo hm hg fun l hl => by
    generalize hv : waitFor h (.unload graph.toNat) (setJournal l s) = v
    have hover : ∀ y : Rec, y.state = .issued → y.wait = .unload graph.toNat → y.ctx = h.ctx → unloadOver v y = true := fun y hs hw hc => by
      have hn : (svals v.gr.runs).any (fun x => x.ctx == y.ctx && x.graph == graph.toNat) = false :=
        List.any_eq_false.2 fun r hm => by
          rw [← hv] at hm
          simpa [hc] using hr r hm
      rw [unloadOver, hw]
      simp [hs, hn]
    obtain ⟨r, hfr, hst, hw, hc⟩ := findRec_waitFor (.unload graph.toNat) hm hl
    rw [hv] at hfr
    have hdone : h.ctx * 65536 + graph.toNat ∈ unloadDone v :=
      List.mem_filterMap.2 ⟨r, List.mem_filter.2 ⟨List.mem_of_find?_eq_some hfr, hover r hst hw hc⟩, by rw [hw, hc]⟩
    rw [unloadCheck_eq]
    refine ⟨finishWaits_replied hm hl (by rw [← hv]) hover (fun _ _ => rfl), ?_⟩
    rw [graph?, finishWaits_gr]
    exact sget?_filter_not fun y hy => by simpa [hy] using hdone

/-- A wait that is not over leaves the record of its command as it is. -/
theorem findRec_finishWaits {s t : State} {q n : Nat} {r : Rec} {p : Rec → Bool} {st : Nat} {det : Rec → Nat} (hj : t.ctl.journal = s.ctl.journal)
    (h : findRec s q n = some r) (hp : p r = false) (hr : r.state ≠ .completed) : findRec (finishWaits p st det t) q n = some r := by
  have hg : (if r.state = .issued && p r then replyOf t st (det r) r else r) = r := if_neg (by simp [hp])
  have := findRec_changed (t := finishWaits p st det t) (fun r => if r.state = .issued && p r then replyOf t st (det r) r else r)
    (congrArg _ hj) h (fun y => by
      split
      · next hi =>
        simp only [Bool.and_eq_true, decide_eq_true_eq] at hi
        obtain ⟨hq, hs⟩ := replyOf_ids t st (det y) y
        exact ⟨hq, hs, fun hc => absurd (hi.1.symm.trans hc) (by decide)⟩
      · exact ⟨rfl, rfl, id⟩) (by rw [hg]; exact hr)
  rwa [hg] at this

theorem graphUnload_waits (hm : mayRun 0x21 h s = true) (hg : (graph? s h.ctx graph.toNat).isSome = true)
    (hr : ∃ r ∈ svals s.gr.runs, r.ctx = h.ctx ∧ r.graph = graph.toNat) :
    leadsTo (.graphUnload h graph) s (fun t => waitsOn h (.unload graph.toNat) t = true) :=
  graphUnload_leadsTo hm hg fun l hl => by
    obtain ⟨r, hfr, hst, hw, hc⟩ := findRec_waitFor (.unload graph.toNat) hm hl
    generalize hv : waitFor h (.unload graph.toNat) (setJournal l s) = v at hfr
    have hnot : unloadOver v r = false := by
      have hn : (svals v.gr.runs).any (fun x => x.ctx == r.ctx && x.graph == graph.toNat) = true :=
        List.any_eq_true.2 (by
          obtain ⟨y, hy, hyc, hyg⟩ := hr
          exact ⟨y, by rw [← hv]; exact hy, by simp [hyc, hyg, hc]⟩)
      rw [unloadOver, hw]
      simp [hn]
    rw [unloadCheck_eq, waitsOn, findRec_finishWaits ?_ hfr hnot (by rw [hst]; decide)]
    · simp [hst, hw]
    · rfl

end

/-! ### GRAPH_RUN -/

/-- No task of a run ends by itself where none has been touched and the tallies count the edges. -/
theorem nextAuto_fresh {g : Graph} {r : Run} (hy : r.tally = [])
    (hg : ∀ (i : Nat) (T : Task), g.tasks[i]? = some T → T.inCount = (g.edges.filter (fun e => e.dst == i)).length ∧ (T.kind = 2 → T.inCount ≠ 0)) :
    nextAuto g r = none := by
  refine List.findSome?_eq_none_iff.2 fun x hx => ?_
  obtain ⟨hmem, hw⟩ := List.mem_filter.1 hx
  obtain ⟨T, i⟩ := x
  have hT : g.tasks[i]? = some T := by simpa using List.mem_zipIdx_iff_getElem?.1 hmem
  obtain ⟨hcount, hjoin⟩ := hg i T hT
  have h0 : T.inCount = 0 := by
    simp only [Bool.and_eq_true, beq_iff_eq, tallyOf, hy, sget_nil, hT, Option.elim_some] at hw
    exact hw.2
  have hin : inEdges g i = [] := by
    have he : g.edges.filter (fun e => e.dst == i) = [] := List.length_eq_zero_iff.1 (by rw [← hcount, h0])
    refine List.filter_eq_nil_iff.2 fun y hy hd => ?_
    have := List.filter_eq_nil_iff.1 he y.1 (List.fst_mem_of_mem_zipIdx hy)
    exact this hd
  simp only [if_neg (fun hk => hjoin hk h0), skippable, hin]
  rfl

/-- A run just admitted, of a graph with tasks, stays as it is. -/
theorem progress_fresh {s : State} {n : Nat} {r : Run} {g : Graph} (hr : run? s n = some r) (hg : runGraph s r = g) (hne : g.tasks ≠ [])
    (ht : r.tasks = []) (ha : nextAuto g r = none) : progress n s = s := by
  have hs : ∀ fuel, settle n fuel s = s := fun fuel => by
    cases fuel with
    | zero => rfl
    | succ _ => rw [settle, hr]; dsimp only; rw [hg, ha]
  have hall : (List.range g.tasks.length).all (fun t => taskEnded r t) = false := by
    refine List.all_eq_false.2 ⟨0, List.mem_range.2 (List.length_pos_iff.2 hne), ?_⟩
    simp [taskEnded, taskSt, ht]
  rw [progress, hs, runDoneCheck, hr]
  dsimp only
  rw [hg, hall, Bool.and_false, if_neg (by decide)]

section
variable {h : CmdRef} {s : State} {graph mb : BitVec 16} {arg : Word64} {G : Graph}

/-- What GRAPH_RUN does to the step machinery. -/
def graphRunStep (c m : Nat) (flag : Bool) (s : State) : State :=
  let s := if flag && sget 0 (stepOf s c).mbRuns m = 0 then beginMb c m s else s
  if flag then leaveReplay c s else s

theorem graphRunStep_frame (c m : Nat) (flag : Bool) (s : State) : (graphRunStep c m flag s).gr = s.gr ∧ (graphRunStep c m flag s).mem = s.mem ∧
    (graphRunStep c m flag s).ctl = s.ctl := by
  have hl : ∀ u : State, (leaveReplay c u).gr = u.gr ∧ (leaveReplay c u).mem = u.mem ∧ (leaveReplay c u).ctl = u.ctl := fun u => by
    unfold leaveReplay; split <;> simp
  unfold graphRunStep
  cases flag with
  | false => exact ⟨rfl, rfl, rfl⟩
  | true =>
    obtain ⟨h1, h2, h3⟩ := hl (if true && sget 0 (stepOf s c).mbRuns m = 0 then beginMb c m s else s)
    rw [if_pos rfl, h1, h2, h3]
    split <;> exact ⟨rfl, rfl, rfl⟩

theorem graphRun_admits (hm : mayRun 0x22 h s = true) (hg : graph? s h.ctx graph.toNat = some G) (hne : G.tasks ≠ [])
    (hG : ∀ (i : Nat) (T : Task), G.tasks[i]? = some T → T.inCount = (G.edges.filter (fun e => e.dst == i)).length ∧ (T.kind = 2 → T.inCount ≠ 0))
    (hmb : h.flags.getLsbD 2 = true → mb.toNat < (stepOf s h.ctx).mbs) :
    leadsTo (.graphRun h graph mb arg) s (fun t => t.mem = s.mem ∧ t.gr.nextRun = s.gr.nextRun + 1 ∧ t.gr.graphs = s.gr.graphs ∧
      (∀ j, j ≠ s.gr.nextRun → run? t j = run? s j) ∧ waitsOn h (.runEnd s.gr.nextRun) t = true ∧
      ∃ r, run? t s.gr.nextRun = some r ∧ r.ctx = h.ctx ∧ r.graph = graph.toNat ∧ r.mb = mb.toNat ∧ r.arg = arg.toNat ∧ r.q = h.q ∧
        r.seq = h.seq.toNat ∧ r.stepFlag = h.flags.getLsbD 2 ∧ r.fault = none ∧ r.done = false ∧ ∀ i, taskSt r i = .waiting) := by
  refine leadsTo_runCmd rfl hm fun l hl => ?_
  have hg' : graph? (setJournal l s) h.ctx graph.toNat = some G := hg
  have hmb' : (h.flags.toNat.testBit 2 && decide ((stepOf (setJournal l s) h.ctx).mbs ≤ mb.toNat)) = false := by
    cases hf : h.flags.toNat.testBit 2 with
    | false => rfl
    | true =>
      have : ¬ (stepOf (setJournal l s) h.ctx).mbs ≤ mb.toNat := Nat.not_le.2 (hmb hf)
      simp [this]
  rw [hg', Option.isNone_some, if_neg (by decide), hmb', if_neg (by decide)]
  obtain ⟨hgr, hmem, hctl⟩ := graphRunStep_frame h.ctx mb.toNat (h.flags.toNat.testBit 2) (setJournal l s)
  obtain ⟨r, hr, hrc, hrg, hrm, hra, hrq, hrs, hrf, hrt, hry, hrx, hrd⟩ : ∃ r : Run,
      admitRun h.ctx graph.toNat mb.toNat arg.toNat h (setJournal l s) =
        (let u := graphRunStep h.ctx mb.toNat (h.flags.toNat.testBit 2) (setJournal l s)
        progress u.gr.nextRun (waitFor h (.runEnd u.gr.nextRun) (setRun u.gr.nextRun r { u with gr := { u.gr with nextRun := u.gr.nextRun + 1 } }))) ∧
      r.ctx = h.ctx ∧ r.graph = graph.toNat ∧ r.mb = mb.toNat ∧ r.arg = arg.toNat ∧ r.q = h.q ∧ r.seq = h.seq.toNat ∧
      r.stepFlag = h.flags.getLsbD 2 ∧ r.tasks = [] ∧ r.tally = [] ∧ r.fault = none ∧ r.done = false :=
    ⟨_, rfl, rfl, rfl, rfl, rfl, rfl, rfl, rfl, rfl, rfl, rfl, rfl⟩
  rw [hr]
  generalize graphRunStep h.ctx mb.toNat (h.flags.toNat.testBit 2) (setJournal l s) = u at hgr hmem hctl
  have hn : u.gr.nextRun = s.gr.nextRun := congrArg (·.nextRun) hgr
  dsimp only
  rw [hn]
  generalize hv : waitFor h (.runEnd s.gr.nextRun) (setRun s.gr.nextRun r { u with gr := { u.gr with nextRun := s.gr.nextRun + 1 } }) = v
  have hvg : v.gr = { u.gr with nextRun := s.gr.nextRun + 1, runs := sput u.gr.runs s.gr.nextRun r } := by rw [← hv]; rfl
  have hvr : run? v s.gr.nextRun = some r := by rw [run?, hvg]; exact sget?_sput_same ..
  have hvG : runGraph v r = G := by
    have hG : graph? v h.ctx graph.toNat = some G := by rw [graph?, hvg, hgr]; exact hg
    rw [runGraph, hrc, hrg, hG]
    rfl
  rw [progress_fresh hvr hvG hne hrt (nextAuto_fresh hry hG)]
  refine ⟨?_, by rw [hvg], by rw [hvg, hgr]; rfl, fun j hj => ?_, ?_, r, hvr, hrc, hrg, hrm, hra, hrq, hrs, hrf, hrx, hrd, fun i => by simp [taskSt, hrt]⟩
  · rw [← hv]; exact hmem
  · rw [run?, hvg, hgr]; exact sget?_sput_ne _ _ hj
  · rw [← hv]
    exact waitFor_waits_of hm hl (congrArg (·.journal) hctl)

/-- A command on a graph that is not loaded is out of range. -/
theorem noGraph_refused (hg : graph? s h.ctx graph.toNat = none) :
    ∀ p ∈ [(0x21, Instr.graphUnload h graph), (0x22, .graphRun h graph mb arg)], mayRun p.1 h s = true →
      leadsTo p.2 s (fun t => replied h 0x0016 0 t = true ∧ onlyJournal s t) := by
  have hb : ∀ l, (graph? (setJournal l s) h.ctx graph.toNat).isNone = true := fun l => by
    have : graph? (setJournal l s) h.ctx graph.toNat = none := hg
    rw [this]; rfl
  intro p hp hm
  simp only [List.mem_cons, List.not_mem_nil, or_false] at hp
  obtain rfl | rfl := hp
  · exact leadsTo_answered rfl hm fun l => if_pos (hb l)
  · exact leadsTo_answered rfl hm fun l => if_pos (hb l)

end

/-- Settles O32: GRAPH_LOAD by its checks, GRAPH_UNLOAD by the runs that are left, GRAPH_RUN by the tallies of a fresh run. -/
theorem graphCommands : Obligations.GraphCommands := by
  intro h s object bytes arg graph mb
  refine ⟨fun k hm hp => ⟨fun hc => graphLoad_loads hm hp hc, fun code i hc => graphLoad_rejects hm hp code i hc, fun hb => ?_⟩,
    fun hm hg => ⟨fun hr => graphUnload_unloads hm hg hr, fun hr => graphUnload_waits hm hg hr⟩,
    fun G hm hg hne hG hmb => graphRun_admits hm hg hne hG hmb, fun p hp hm hg => noGraph_refused hg p hp hm⟩
  obtain ⟨t, ht, hrep, -, hgr⟩ := graphLoad_rejects hm hp _ _ (loadCheck_of_noMagic (useFree s) h.ctx bytes.toNat hb)
  exact ⟨t, ht, hrep, hgr⟩

end Sys2Proof.Machine
end

section
/-! PROOFS. STEP_OPEN, INPUT_RETAIN and MICROBATCH_END (R77, R230, R237, R239, R241). -/

namespace Sys2Proof.Machine

/-! ### What a read asks of the state -/

theorem peek_congr {s t : State} (hr : t.regs = s.regs) (hs : t.sp = s.sp) (hc : t.ctl.ctxs = s.ctl.ctxs) (hf : t.free = s.free)
    (hm : t.mem = s.mem) (hh : t.host = s.host) (c a n : Nat) : peek t c a n = peek s c a n := by
  have hp : readPiece t c = readPiece s c := by
    funext a n
    have hk : keyRead t = keyRead s := by funext k n a; simp only [keyRead, hm]
    have hu : cxlUp t = cxlUp s := by funext m; simp only [cxlUp, rget_eq, hr, hh]
    simp only [readPiece, inWindow_map (SameMap.of_eq hr hs hc), locate_congr hr hs hf, hk, hu, hf]
  simp only [peek, hp]

theorem readPlan_congr {s t : State} (hr : t.regs = s.regs) (hs : t.sp = s.sp) (hc : t.ctl.ctxs = s.ctl.ctxs) (hp : t.ctl.partitions = s.ctl.partitions)
    (hf : t.free = s.free) (hm : t.mem = s.mem) (hh : t.host = s.host) (c : Nat) : readPlan t c = readPlan s c := by
  have hds : ctxDies t c = ctxDies s c := by simp only [ctxDies, partDies, ctx?, hc, hp]
  have hdie : ∀ ds, dieAddrOk t ds = dieAddrOk s ds := fun ds => by
    funext i a
    simp only [dieAddrOk, ownSlot, inExtent, gddrBytes, gridRows, rget_eq, hr, hs]
    rfl
  have hboth : rangeBoth t c = rangeBoth s c := by
    funext a n
    simp only [rangeBoth, rangeIn_congr hr hs hc hf]
  have hfaults : planFaults t c = planFaults s c := by
    funext b
    simp only [planFaults, hds, hdie, hboth]
  simp only [readPlan, rget_eq, hr, peek_congr hr hs hc hf hm hh, hfaults]
  rfl

/-! ### STEP_OPEN -/

/-- A change of the elements before the first one that is looked for does not hide it. -/
theorem find?_map_takeWhile {α : Type} {p : α → Bool} {g : α → α} (hg : ∀ y, p y = false → p (g y) = false) (l : List α) :
    ((l.takeWhile (fun y => !p y)).map g ++ l.drop (l.takeWhile (fun y => !p y)).length).find? p = l.find? p := by
  induction l with
  | nil => rfl
  | cons y l ih =>
    cases hy : p y with
    | true => simp [hy]
    | false =>
      rw [List.takeWhile_cons_of_pos (by simp [hy]), List.map_cons, List.cons_append, List.find?_cons_of_neg (by rw [hg y hy]; decide),
        List.find?_cons_of_neg (by rw [hy]; decide), List.length_cons, List.drop_succ_cons, ih]

/-- The record of the command that abandons a step stays as it is. -/
theorem findRec_abandon (h : CmdRef) (s : State) : findRec (abandon h s) h.q h.seq.toNat = findRec s h.q h.seq.toNat := by
  refine find?_map_takeWhile (fun y hy => ?_) s.ctl.journal
  split
  · obtain ⟨hq, hs⟩ := replyOf_ids s stStepAbandoned 0 y
    by_cases hst : y.state = .accepted ∨ y.state = .issued
    · have hyq : (y.q == h.q && y.seq == h.seq.toNat) = false := by
        cases hb : (y.q == h.q && y.seq == h.seq.toNat) with
        | false => rfl
        | true =>
          have : isRec h.q h.seq.toNat y = true := by rw [isRec, hb]; obtain hst | hst := hst <;> rw [hst] <;> decide
          rw [this] at hy; cases hy
      rw [isRec, hq, hs, hyq, Bool.false_and]
    · rw [replyOf, if_neg (by simpa using hst)]
      exact hy
  · exact hy

section
variable {F : List Fld} {s t : State} (h : Told F s t)
include h

theorem Told.withFab (x : Fabric) : Told F s { t with fab := x } := h.of_eq (Eq.refl _) (Eq.refl _) (Eq.refl _) (Eq.refl _) (Eq.refl _)
theorem Told.withPow (x : Pow) : Told F s { t with pow := x } := h.of_eq (Eq.refl _) (Eq.refl _) (Eq.refl _) (Eq.refl _) (Eq.refl _)
theorem Told.modStep (c : Nat) (f : StepCtx → StepCtx) : Told F s (Machine.modStep c f t) :=
  h.of_eq (Eq.refl _) (Eq.refl _) (Eq.refl _) (Eq.refl _) (Eq.refl _)

end

/-- The fields of the step registers that STEP_OPEN leaves, or sets before what follows it. -/
def openFlds : List Fld := accessFlds ++ [.pwrState_state, .pwrBudget_budgetW]

theorem leaveIdle_told (s : State) : Told openFlds s (leaveIdle s) := by
  unfold leaveIdle setPwrState
  split
  · dsimp only
    split
    · exact Told.rfl
    · exact (Told.rfl.rset (.inr (by decide)) ..).raise0 ..
  · exact Told.rfl

theorem useShare_told (s : State) : Told openFlds s (useShare s) := by
  unfold useShare setBudget
  exact Told.rset (F := openFlds) (f := .pwrBudget_budgetW) (Told.withPow Told.rfl _) (.inr (by decide)) ..

/-- What follows the opening of a step: reports, the budget, backups. -/
structure Aside (s t : State) : Prop where
  told : Told openFlds s t
  mem : t.mem = s.mem
  st : t.st = s.st
  journal : t.ctl.journal = s.ctl.journal

theorem Aside.trans {s t u : State} (h : Aside s t) (k : Aside t u) : Aside s u :=
  ⟨h.told.trans k.told, k.mem.trans h.mem, k.st.trans h.st, k.journal.trans h.journal⟩

theorem leaveIdle_aside (s : State) : Aside s (leaveIdle s) := ⟨leaveIdle_told s, by simp, by simp, by simp⟩

theorem useShare_aside (s : State) : Aside s (useShare s) := ⟨useShare_told s, by simp [useShare, setBudget], by simp [useShare, setBudget], by simp [useShare, setBudget]⟩

theorem startBackups_aside (c : Nat) (s : State) : Aside s (startBackups c s) := by
  have hev : ∀ u v : State, Aside u v → ∀ a b d e, Aside u (backupEvent a b d e v) := fun u v h a b d e =>
    ⟨h.told.raiseBoth .., by simp [backupEvent, h.mem], by simp [backupEvent, h.st], by simp [backupEvent, h.journal]⟩
  unfold startBackups
  split
  · exact ⟨Told.rfl, rfl, rfl, rfl⟩
  · refine List.foldlRecOn _ _ (motive := Aside s) ⟨Told.rfl, rfl, rfl, rfl⟩ fun u hu w _ => ?_
    split
    · exact hu
    · split
      · refine hev _ _ ?_ ..
        exact ⟨(hu.told.withFab _).emit _, hu.mem, hu.st, hu.journal⟩
      · exact hev _ _ hu ..

/-- The scratch slots are cleared by writes of the context. -/
theorem clearSlots_aside (c : Nat) (s : State) : Told openFlds s (clearSlots c s) ∧ (clearSlots c s).work = s.work := by
  unfold clearSlots
  refine List.foldlRecOn _ _ (motive := fun t => Told openFlds s t ∧ t.work = s.work) ⟨Told.rfl, rfl⟩ fun u hu x _ => ?_
  exact ⟨hu.1.ctxWrite (by decide) .., (work_ctxWrite ..).trans hu.2⟩

theorem sget_sclear (m : SMap Byte) (k n j : Nat) : sget 0 (sclear m k n) j = if k ≤ j ∧ j < k + n then 0 else sget 0 m j := by
  induction m with
  | nil => simp [sclear]
  | cons x m ih =>
    rw [sclear] at ih ⊢
    rw [List.filter_cons]
    split
    · next hx =>
      rw [sget_cons, sget_cons, ih]
      by_cases hj : x.1 = j
      · subst hj; rw [if_pos rfl, if_neg, if_pos rfl]; simp at hx; omega
      · rw [if_neg hj, if_neg hj]
    · next hx =>
      rw [ih, sget_cons]
      by_cases hj : x.1 = j
      · subst hj; rw [if_pos, if_pos]; all_goals simpa using hx
      · rw [if_neg hj]

/-- Areas filled with +0 read as +0, and a byte that was +0 stays so. -/
theorem areasZero_reads (l : List Nat) (n : Nat) (s : State) : (∀ a ∈ l, a ≠ 0 → ∀ j, j < n → sget 0 (areasZero l n s).mem.bytes (areaKey a + j) = 0) ∧
    ∀ k, sget 0 s.mem.bytes k = 0 → sget 0 (areasZero l n s).mem.bytes k = 0 := by
  induction l generalizing s with
  | nil => exact ⟨fun a ha => absurd ha (List.not_mem_nil), fun _ h => h⟩
  | cons b l ih =>
    have hz : ∀ k, sget 0 s.mem.bytes k = 0 ∨ (b ≠ 0 ∧ areaKey b ≤ k ∧ k < areaKey b + n) →
        sget 0 (if b = 0 then s else areaZero b n s).mem.bytes k = 0 := fun k hk => by
      split
      · exact hk.resolve_right fun h => h.1 ‹_›
      · refine (sget_sclear s.mem.bytes (areaKey b) n k).trans ?_
        split
        · rfl
        · exact hk.resolve_right fun h => ‹¬ _› h.2
    obtain ⟨h1, h2⟩ := ih (if b = 0 then s else areaZero b n s)
    refine ⟨fun a ha h0 j hj => ?_, fun k hk => h2 k (hz k (.inl hk))⟩
    rcases List.mem_cons.1 ha with rfl | ha
    · exact h2 _ (hz _ (.inr ⟨h0, Nat.le_add_right .., by omega⟩))
    · exact h1 a ha h0 j hj

theorem areasZero_eq (l : List Nat) (n : Nat) (s : State) : ∃ m, areasZero l n s = { s with mem := m } := by
  induction l generalizing s with
  | nil => exact ⟨s.mem, rfl⟩
  | cons b l ih =>
    obtain ⟨m, hm⟩ := ih (if b = 0 then s else areaZero b n s)
    refine ⟨m, hm.trans ?_⟩
    split <;> rfl

/-- A step opened at a number that was not open before. -/
theorem openStep_new {s : State} {c n mbs : Nat} {p : Plan} (hc : c < 256) (hn : n < 2 ^ 64) (hne : n ≠ stepNo s c) :
    let t := openStep c n mbs p s
    stepSt t c = 1 ∧ stepNo t c = n ∧ rget t .stepCtxAttempt_attempt c = 0 ∧ rget t .stepCtxState_agreed c = 0 ∧
    rget t .stepCtxCommitted_step c = rget s .stepCtxCommitted_step c ∧ stepOf t c = openCtx p mbs false (stepOf s c) ∧
    t.ctl.journal = s.ctl.journal ∧ ∀ a ∈ accumArea s c p, a ≠ 0 → ∀ j, j < p.gradBytes → sget 0 t.mem.bytes (areaKey a + j) = 0 := by
  intro t
  obtain ⟨hslots, hwork⟩ := clearSlots_aside c s
  obtain ⟨-, -, hj, -, -, -, -, hst, -, -⟩ := work_eq_iff.1 hwork
  have hreg : ∀ f i, f.tally = false → f ∉ openFlds → rget (clearSlots c s) f i = rget s f i := fun f i => hslots.regs f i
  have hno : (n == stepNo s c) = false := by simpa using hne
  have ht : t = clearAccum c (rset .stepCtxAttempt_attempt c 0 (rset .stepCtxState_agreed c 0 (rset .stepCtxState_state c 1 (rset .stepCtxStep_step c n
      (modStep c (openCtx p mbs false) (clearSlots c s)))))) := by
    simp only [t, openStep, hno]
    rfl
  generalize hu : rset .stepCtxAttempt_attempt c 0 (rset .stepCtxState_agreed c 0 (rset .stepCtxState_state c 1 (rset .stepCtxStep_step c n
      (modStep c (openCtx p mbs false) (clearSlots c s))))) = u at ht
  have hst' : stepOf u c = openCtx p mbs false (stepOf s c) := by
    rw [← hu, stepOf]
    simp [modStep, stepOf, hst]
  have hrot : rget u .stepCtxState_rot c = rget s .stepCtxState_rot c := by
    rw [← hreg .stepCtxState_rot c rfl (by decide), ← hu]
    simp [rget_eq]
  have hclear : t = areasZero (accumArea s c p) p.gradBytes u := by
    rw [ht, clearAccum, hst']
    simp only [openCtx, accumArea, hrot]
  obtain ⟨m, hm⟩ := areasZero_eq (accumArea s c p) p.gradBytes u
  have hmem := (areasZero_reads (accumArea s c p) p.gradBytes u).1
  rw [← hclear] at hm hmem
  have hr : t.regs = u.regs := by rw [hm]
  have hc1 : c < fldCount .stepCtxState_state := hc
  have hc2 : c < fldCount .stepCtxStep_step := hc
  have hc3 : c < fldCount .stepCtxAttempt_attempt := hc
  have hc4 : c < fldCount .stepCtxState_agreed := hc
  have hcom : regAt (clearSlots c s).regs .stepCtxCommitted_step c = regAt s.regs .stepCtxCommitted_step c := hslots.regs _ _ rfl (by decide)
  refine ⟨?_, ?_, ?_, ?_, ?_, by rw [← hst', hm]; rfl, by rw [hm, ← hu]; simpa using hj, hmem⟩
  · rw [stepSt, rget_eq, hr, ← hu, regAt_rset_other _ _ _ _ (by decide), regAt_rset_other _ _ _ _ (by decide), regAt_rset_same _ _ hc1]; rfl
  · rw [stepNo, rget_eq, hr, ← hu, regAt_rset_other _ _ _ _ (by decide), regAt_rset_other _ _ _ _ (by decide),
      regAt_rset_other _ _ _ _ (by decide), regAt_rset_same _ _ hc2]
    exact Nat.mod_eq_of_lt hn
  · rw [rget_eq, hr, ← hu, regAt_rset_same _ _ hc3]; rfl
  · rw [rget_eq, hr, ← hu, regAt_rset_other _ _ _ _ (by decide), regAt_rset_same _ _ hc4]; rfl
  · rw [rget_eq, hr, ← hu, rget_eq, ← hcom]; simp

section
variable {h : CmdRef} {s : State} {step : Word64} {mbs : BitVec 16}

theorem stepOpen_noMicrobatch (hm : mayRun 0x30 h s = true) (ho : stepOpenSt s h.ctx = false) (hmb : mbs = 0) :
    leadsTo (.stepOpen h step mbs) s (fun t => replied h 0x0016 0 t = true ∧ onlyJournal s t) :=
  leadsTo_answered rfl hm fun l => by
    have ho' : stepOpenSt (setJournal l s) h.ctx = false := ho
    dsimp only
    rw [ho', if_neg (by decide), if_pos hmb]
    rfl

theorem stepOpen_old (hm : mayRun 0x30 h s = true) (ho : stepOpenSt s h.ctx = false) (hmb : mbs ≠ 0)
    (hn : step.toNat ≤ rget s .stepCtxCommitted_step h.ctx) :
    leadsTo (.stepOpen h step mbs) s (fun t => replied h 0x0030 0 t = true ∧ onlyJournal s t) :=
  leadsTo_answered rfl hm fun l => by
    have ho' : stepOpenSt (setJournal l s) h.ctx = false := ho
    have hn' : decide (step.toNat ≤ rget (setJournal l s) .stepCtxCommitted_step h.ctx) = true := decide_eq_true hn
    dsimp only
    rw [ho', if_neg (by decide), if_neg hmb, hn', Bool.true_or, Bool.true_or, if_pos rfl]
    rfl

/-- STEP_OPEN of a new number: the plan decides. -/
theorem stepOpen_leadsTo {P : State → Prop} (hm : mayRun 0x30 h s = true) (ho : stepOpenSt s h.ctx = false) (hmb : mbs ≠ 0)
    (hd : rget s .stepCtxCommitted_step h.ctx < step.toNat) (hn : stepNo s h.ctx < step.toNat)
    (hP : ∀ l, started 0x30 h s = setJournal l s → P (match readPlan s h.ctx with
      | .error d => badParam h d (setJournal l s)
      | .ok p => finish h stOk (rget s .stepCtxCommitted_step h.ctx) (startBackups h.ctx (useShare (leaveIdle (openStep h.ctx step.toNat mbs.toNat p
          (if stepSt s h.ctx = 5 then abandon h (setJournal l s) else setJournal l s))))))) :
    leadsTo (.stepOpen h step mbs) s P := by
  refine leadsTo_runCmd rfl hm fun l hl => ?_
  have ho' : stepOpenSt (setJournal l s) h.ctx = false := ho
  have h1 : decide (step.toNat ≤ rget (setJournal l s) .stepCtxCommitted_step h.ctx) = false := decide_eq_false (Nat.not_le.2 hd)
  have h2 : decide (step.toNat < stepNo (setJournal l s) h.ctx) = false := decide_eq_false (Nat.not_lt.2 (Nat.le_of_lt hn))
  have h3 : (step.toNat == stepNo (setJournal l s) h.ctx) = false := beq_eq_false_iff_ne.2 (Nat.ne_of_gt hn)
  have h4 : readPlan (setJournal l s) h.ctx = readPlan s h.ctx := readPlan_congr (s := s) (t := setJournal l s) rfl rfl rfl rfl rfl rfl rfl _
  have h5 : stepSt (setJournal l s) h.ctx = stepSt s h.ctx := rfl
  have hp := hP l hl
  dsimp only
  rw [ho', if_neg (by decide), if_neg hmb, h1, h2, h3, Bool.false_and, Bool.or_self, Bool.or_self, if_neg (by decide), if_neg (by decide), h4, h5]
  simp only [Bool.not_false, Bool.and_true, decide_eq_true_eq]
  cases hr : readPlan s h.ctx with
  | error d => rw [hr] at hp; exact hp
  | ok p => rw [hr] at hp; exact hp

theorem stepOpen_badPlan {d : Nat} (hm : mayRun 0x30 h s = true) (ho : stepOpenSt s h.ctx = false) (hmb : mbs ≠ 0)
    (hd : rget s .stepCtxCommitted_step h.ctx < step.toNat) (hn : stepNo s h.ctx < step.toNat) (hp : readPlan s h.ctx = .error d) :
    leadsTo (.stepOpen h step mbs) s (fun t => replied h 0x0016 d t = true ∧ onlyJournal s t) :=
  stepOpen_leadsTo hm ho hmb hd hn fun l hl => by
    rw [hp]
    exact ⟨badParam_replied_of hm hl rfl, onlyJournal_finish ..⟩

theorem stepOpen_opens {p : Plan} (hc : h.ctx < 256) (hm : mayRun 0x30 h s = true) (ho : stepOpenSt s h.ctx = false) (hmb : mbs ≠ 0)
    (hd : rget s .stepCtxCommitted_step h.ctx < step.toNat) (hn : stepNo s h.ctx < step.toNat) (hp : readPlan s h.ctx = .ok p) :
    leadsTo (.stepOpen h step mbs) s (fun t => replied h 0x0000 (rget s .stepCtxCommitted_step h.ctx) t = true ∧ stepSt t h.ctx = 1 ∧
      stepNo t h.ctx = step.toNat ∧ rget t .stepCtxAttempt_attempt h.ctx = 0 ∧ rget t .stepCtxState_agreed h.ctx = 0 ∧
      rget t .stepCtxCommitted_step h.ctx = rget s .stepCtxCommitted_step h.ctx ∧ (stepOf t h.ctx).plan = some p ∧ (stepOf t h.ctx).mbs = mbs.toNat ∧
      (stepOf t h.ctx).mbDone = [] ∧ (stepOf t h.ctx).retained = [] ∧
      ∀ a ∈ accumArea s h.ctx p, a ≠ 0 → ∀ j, j < p.gradBytes → sget 0 t.mem.bytes (areaKey a + j) = 0) :=
  stepOpen_leadsTo hm ho hmb hd hn fun l hl => by
    rw [hp]
    dsimp only
    generalize hv : (if stepSt s h.ctx = 5 then abandon h (setJournal l s) else setJournal l s) = v
    have hvj : findRec v h.q h.seq.toNat = findRec (setJournal l s) h.q h.seq.toNat := by
      rw [← hv]; split
      · exact findRec_abandon h (setJournal l s)
      · rfl
    have hvr : v.regs = s.regs := by rw [← hv]; split <;> rfl
    obtain ⟨h1, h2, h3, h4, h5, h6, h7, h8⟩ := openStep_new (s := v) (mbs := mbs.toNat) (p := p) hc step.isLt (by rw [stepNo, rget_eq, hvr]; exact Nat.ne_of_gt hn)
    have hside := ((leaveIdle_aside (openStep h.ctx step.toNat mbs.toNat p v)).trans (useShare_aside _)).trans (startBackups_aside h.ctx _)
    generalize startBackups h.ctx _ = u at hside
    have hreg : ∀ f, f.tally = false → f ∉ openFlds → rget u f h.ctx = rget (openStep h.ctx step.toNat mbs.toNat p v) f h.ctx := fun f ht hf =>
      hside.told.regs f _ ht hf
    have hst : stepOf u h.ctx = openCtx p mbs.toNat false (stepOf v h.ctx) := by rw [← h6, stepOf, hside.st]; rfl
    have hrot : accumArea v h.ctx p = accumArea s h.ctx p := by rw [accumArea, rget_eq, hvr]; rfl
    have hu : stepOf (finish h stOk (rget s .stepCtxCommitted_step h.ctx) u) h.ctx = stepOf u h.ctx := rfl
    obtain ⟨r, hr, hrs, -, hra, -, -, -, -, -⟩ := started_rec _ h s hm
    refine ⟨finish_replied h _ _ u r ?_ hrs hra, (hreg _ rfl (by decide)).trans h1, (hreg _ rfl (by decide)).trans h2, (hreg _ rfl (by decide)).trans h3,
      (hreg _ rfl (by decide)).trans h4, (hreg _ rfl (by decide)).trans (h5.trans ?_), ?_, ?_, ?_, ?_, ?_⟩
    · rw [hl] at hr
      rw [← hr, ← hvj, findRec, findRec, hside.journal, h7]
    · rw [rget_eq, hvr]; rfl
    · rw [hu, hst]; rfl
    · rw [hu, hst]; rfl
    · rw [hu, hst]; rfl
    · rw [hu, hst]; rfl
    · rw [finish_mem, hside.mem, ← hrot]; exact h8

end

/-! ### INPUT_RETAIN -/

section
variable {h : CmdRef} {s : State} {addr bytes : Word64} {mb : BitVec 16} {k : Nat}

/-- INPUT_RETAIN of a range that can be read: what it comes to in the state after the read. -/
theorem inputRetain_leadsTo {P : State → Prop} (hm : mayRun 0x31 h s = true) (hp : plainAt s h.ctx false addr.toNat bytes.toNat k)
    (hmb : stepOpenSt s h.ctx = true → mb.toNat < (stepOf s h.ctx).mbs)
    (hP : ∀ l u, started 0x31 h s = setJournal l s → u.ctl.journal = l → u.mem = s.mem → u.st = s.st →
      let b := sgetN 0 s.mem.bytes k bytes.toNat
      let d := runDigest b
      let v := modStep h.ctx (fun x => { x with retained := x.retained ++ [(addr.toNat, bytes.toNat, mb.toNat, false)] }) u
      P (if stepOpenSt s h.ctx = false then finish h stOk d u
        else if mirrored s h.ctx = true then waitFor h (.retain addr.toNat d) (toTwin h.ctx .input addr.toNat bytes.toNat mb.toNat b d v)
        else finish h stOk d v)) : leadsTo (.inputRetain h addr bytes mb) s P := by
  refine leadsTo_runCmd rfl hm fun l hl => ?_
  have h1 : (stepOpenSt (setJournal l s) h.ctx && decide ((stepOf (setJournal l s) h.ctx).mbs ≤ mb.toNat)) = false := by
    cases ho : stepOpenSt (setJournal l s) h.ctx with
    | false => rfl
    | true => exact decide_eq_false (Nat.not_le.2 (hmb ho))
  have ho : stepOpenSt (setJournal l s) h.ctx = stepOpenSt s h.ctx := rfl
  have hmi : mirrored (setJournal l s) h.ctx = mirrored s h.ctx := rfl
  have hp' := hP l (useFree (chargeMem h.ctx (tierBytes addr.toNat bytes.toNat) (setJournal l s))) hl (by simp [useFree]) (by simp) (by simp)
  dsimp only at hp' ⊢
  rw [h1, if_neg (by decide), cmdRead_plain (plainAt_setJournal l hp), ho, hmi]
  cases h0 : stepOpenSt s h.ctx with
  | false => rw [h0, if_pos rfl] at hp'; exact hp'
  | true => rw [h0, if_neg (by decide)] at hp'; exact hp'

theorem inputRetain_outside (hm : mayRun 0x31 h s = true) (hp : plainAt s h.ctx false addr.toNat bytes.toNat k) (ho : stepOpenSt s h.ctx = false) :
    leadsTo (.inputRetain h addr bytes mb) s (fun t => replied h 0x0000 (runDigest (sgetN 0 s.mem.bytes k bytes.toNat)) t = true ∧ t.mem = s.mem ∧
      stepOf t h.ctx = stepOf s h.ctx) :=
  inputRetain_leadsTo hm hp (fun h => absurd (ho.symm.trans h) (by decide)) fun l u hl hj hmem hst => by
    dsimp only
    rw [if_pos ho]
    exact ⟨finish_replied_of hm hl hj, hmem, by rw [stepOf, finish_st, hst]; rfl⟩

theorem stepOf_modStep_of {u : State} {c : Nat} {f : StepCtx → StepCtx} (hst : u.st = s.st) : stepOf (modStep c f u) c = f (stepOf s c) := by
  simp [stepOf, modStep, hst]

theorem inputRetain_alone (hm : mayRun 0x31 h s = true) (hp : plainAt s h.ctx false addr.toNat bytes.toNat k) (ho : stepOpenSt s h.ctx = true)
    (hmb : mb.toNat < (stepOf s h.ctx).mbs) (hmi : mirrored s h.ctx = false) :
    leadsTo (.inputRetain h addr bytes mb) s (fun t => replied h 0x0000 (runDigest (sgetN 0 s.mem.bytes k bytes.toNat)) t = true ∧ t.mem = s.mem ∧
      stepOf t h.ctx = { stepOf s h.ctx with retained := (stepOf s h.ctx).retained ++ [(addr.toNat, bytes.toNat, mb.toNat, false)] }) :=
  inputRetain_leadsTo hm hp (fun _ => hmb) fun l u hl hj hmem hst => by
    dsimp only
    rw [if_neg (by rw [ho]; decide), if_neg (by rw [hmi]; decide)]
    exact ⟨finish_replied_of hm hl hj, hmem, by rw [stepOf, finish_st]; exact stepOf_modStep_of hst⟩

theorem toTwin_aside {F : List Fld} (hF : .fdieMirrorBytes_units ∈ F) (c : Nat) (kd : MKind) (a n x : Nat) (b : List Byte) (d : Nat) (s : State) :
    Told F s (toTwin c kd a n x b d s) ∧ (toTwin c kd a n x b d s).mem = s.mem ∧ (toTwin c kd a n x b d s).st = s.st ∧
      (toTwin c kd a n x b d s).ctl.journal = s.ctl.journal := by
  unfold toTwin
  split
  · rw [chargeLink, charge_eq]
    exact ⟨((Told.rfl.activity hF ..).emit _).withPow _, by simp, by simp, by simp⟩
  · exact ⟨Told.rfl, rfl, rfl, rfl⟩

theorem inputRetain_mirrored (hm : mayRun 0x31 h s = true) (hp : plainAt s h.ctx false addr.toNat bytes.toNat k) (ho : stepOpenSt s h.ctx = true)
    (hmb : mb.toNat < (stepOf s h.ctx).mbs) (hmi : mirrored s h.ctx = true) :
    leadsTo (.inputRetain h addr bytes mb) s (fun t =>
      waitsOn h (.retain addr.toNat (runDigest (sgetN 0 s.mem.bytes k bytes.toNat))) t = true ∧ t.mem = s.mem ∧
      stepOf t h.ctx = { stepOf s h.ctx with retained := (stepOf s h.ctx).retained ++ [(addr.toNat, bytes.toNat, mb.toNat, false)] }) :=
  inputRetain_leadsTo hm hp (fun _ => hmb) fun l u hl hj hmem hst => by
    dsimp only
    rw [if_neg (by rw [ho]; decide), if_pos hmi]
    obtain ⟨-, h1, h2, h3⟩ := toTwin_aside (F := [.fdieMirrorBytes_units]) (by decide) h.ctx .input addr.toNat bytes.toNat mb.toNat
      (sgetN 0 s.mem.bytes k bytes.toNat) (runDigest (sgetN 0 s.mem.bytes k bytes.toNat))
      (modStep h.ctx (fun x => { x with retained := x.retained ++ [(addr.toNat, bytes.toNat, mb.toNat, false)] }) u)
    exact ⟨waitFor_waits_of hm hl (h3.trans hj), h1.trans hmem, by rw [stepOf, waitFor_st, h2]; exact stepOf_modStep_of hst⟩

end

/-! ### MICROBATCH_END -/

section
variable {h : CmdRef} {s : State} {mb : BitVec 16}

theorem microbatchEnd_notOpen (hm : mayRun 0x32 h s = true) (ho : stepOpenSt s h.ctx = false) :
    leadsTo (.microbatchEnd h mb) s (fun t => replied h 0x0031 0 t = true ∧ onlyJournal s t) :=
  leadsTo_answered rfl hm fun l => by
    have ho' : stepOpenSt (setJournal l s) h.ctx = false := ho
    dsimp only
    rw [ho']
    rfl

theorem microbatchEnd_outOfRange (hm : mayRun 0x32 h s = true) (ho : stepOpenSt s h.ctx = true) (hmb : (stepOf s h.ctx).mbs ≤ mb.toNat) :
    leadsTo (.microbatchEnd h mb) s (fun t => replied h 0x0016 0 t = true ∧ onlyJournal s t) :=
  leadsTo_answered rfl hm fun l => by
    have ho' : stepOpenSt (setJournal l s) h.ctx = true := ho
    have hmb' : (stepOf (setJournal l s) h.ctx).mbs ≤ mb.toNat := hmb
    dsimp only
    rw [ho', if_neg (by decide), if_pos hmb']
    rfl

theorem leaveReplay_setJournal (c : Nat) (l : List Rec) (s : State) : leaveReplay c (setJournal l s) = setJournal l (leaveReplay c s) := by
  unfold leaveReplay rset
  have : stepSt (setJournal l s) c = stepSt s c := rfl
  rw [this]
  split
  · split <;> rfl
  · rfl

/-- MICROBATCH_END of the next micro-batch: it waits, and is looked at once. -/
theorem microbatchEnd_leadsTo {P : State → Prop} (hm : mayRun 0x32 h s = true) (ho : stepOpenSt s h.ctx = true) (hmb : mb.toNat < (stepOf s h.ctx).mbs)
    (hprev : mb.toNat = 0 ∨ mb.toNat - 1 ∈ (stepOf s h.ctx).mbDone)
    (hP : ∀ l, started 0x32 h s = setJournal l s →
      P (mbCheck h.ctx mb.toNat (waitFor h (.microbatch mb.toNat) (setJournal l (leaveReplay h.ctx s))))) :
    leadsTo (.microbatchEnd h mb) s P := by
  refine leadsTo_runCmd rfl hm fun l hl => ?_
  have ho' : stepOpenSt (setJournal l s) h.ctx = true := ho
  have hmb' : ¬ (stepOf (setJournal l s) h.ctx).mbs ≤ mb.toNat := Nat.not_le.2 hmb
  have hp' : (decide (mb.toNat ≠ 0) && !(stepOf (setJournal l s) h.ctx).mbDone.contains (mb.toNat - 1)) = false := by
    obtain h0 | h1 := hprev
    · simp [h0]
    · have : (stepOf (setJournal l s) h.ctx).mbDone.contains (mb.toNat - 1) = true := List.elem_eq_true_of_mem h1
      rw [this]; simp
  dsimp only
  rw [ho', if_neg (by decide), if_neg hmb', hp', if_neg (by decide), leaveReplay_setJournal]
  exact hP l hl

/-- Whether a micro-batch is busy is the same for the record of its MICROBATCH_END and the wait of it. -/
theorem mbBusy_started {l : List Rec} {u : State} (hl : started 0x32 h s = setJournal l s) (w : Wait) (hu : u.gr = s.gr) (m : Nat) :
    mbBusy (waitFor h w (setJournal l u)) h.ctx m = mbBusy s h.ctx m := by
  have hj : ∀ p : Rec → Bool, (∀ r v, p { r with wait := v } = p r) → p (directRec s 0x32 h) = false →
      (waitFor h w (setJournal l u)).ctl.journal.any p = s.ctl.journal.any p := fun p hp hd => by
    have h1 : (waitFor h w (setJournal l u)).ctl.journal.any p = l.any p := by
      simp only [waitFor, mapRecs, setJournal_journal, List.any_map]
      congr 1
      funext r
      simp only [Function.comp_apply]
      split
      · split
        · exact hp ..
        · rfl
      · rfl
    rw [h1]
    have hl' : l = (started 0x32 h s).ctl.journal := by rw [hl]; rfl
    rw [hl', started]
    split
    · simp [hd]
    · rfl
  unfold mbBusy
  congr 1
  · rw [waitFor_gr, setJournal_gr, hu]
  · exact hj _ (fun _ _ => rfl) (by simp [directRec])

theorem leaveReplay_frame (c : Nat) (s : State) : (leaveReplay c s).gr = s.gr ∧ (leaveReplay c s).st = s.st := by
  unfold leaveReplay; split <;> simp

theorem microbatchEnd_waits (hm : mayRun 0x32 h s = true) (ho : stepOpenSt s h.ctx = true) (hmb : mb.toNat < (stepOf s h.ctx).mbs)
    (hprev : mb.toNat = 0 ∨ mb.toNat - 1 ∈ (stepOf s h.ctx).mbDone) (hb : mbBusy s h.ctx mb.toNat = true) :
    leadsTo (.microbatchEnd h mb) s (fun t => waitsOn h (.microbatch mb.toNat) t = true ∧ onlyJournal (leaveReplay h.ctx s) t) :=
  microbatchEnd_leadsTo hm ho hmb hprev fun l hl => by
    have hb' := (mbBusy_started hl (.microbatch mb.toNat) (leaveReplay_frame h.ctx s).1 mb.toNat).trans hb
    rw [mbCheck, hb', Bool.true_or, Bool.true_or, if_pos rfl]
    exact ⟨waitFor_waits_of hm hl rfl, onlyJournal_waitFor ..⟩

theorem takeSnap_frame (c : Nat) (s : State) : (takeSnap c s).regs = s.regs ∧ (takeSnap c s).ctl = s.ctl := by
  have hc : ∀ (d l : List Nat) (n : Nat) (u : State), (areasCopy d l n u).regs = u.regs ∧ (areasCopy d l n u).ctl = u.ctl := fun d l n u =>
    List.foldlRecOn _ _ (motive := fun t : State => t.regs = u.regs ∧ t.ctl = u.ctl) ⟨rfl, rfl⟩ fun t ht x _ => by
      split <;> exact ht
  unfold takeSnap
  split
  · exact hc ..
  · exact ⟨rfl, rfl⟩

theorem microbatchEnd_ends (hm : mayRun 0x32 h s = true) (ho : stepOpenSt s h.ctx = true) (hmb : mb.toNat < (stepOf s h.ctx).mbs)
    (hprev : mb.toNat = 0 ∨ mb.toNat - 1 ∈ (stepOf s h.ctx).mbDone) (hf : mb.toNat ∉ (stepOf s h.ctx).mbFault) (hb : mbBusy s h.ctx mb.toNat = false) :
    leadsTo (.microbatchEnd h mb) s (fun t => replied h 0x0000 (snapDigest t h.ctx) t = true ∧ mb.toNat ∈ (stepOf t h.ctx).mbDone ∧
      t.regs = (leaveReplay h.ctx s).regs) :=
  microbatchEnd_leadsTo hm ho hmb hprev fun l hl => by
    have hb' := (mbBusy_started hl (.microbatch mb.toNat) (leaveReplay_frame h.ctx s).1 mb.toNat).trans hb
    obtain ⟨r, hr, hrs, hrw, hrc⟩ := findRec_waitFor (.microbatch mb.toNat) hm hl
    generalize hv : waitFor h (.microbatch mb.toNat) (setJournal l (leaveReplay h.ctx s)) = v at hb'
    have hvs : (stepOf v h.ctx).mbFault = (stepOf s h.ctx).mbFault := by
      rw [← hv, stepOf, waitFor_st, setJournal_st, (leaveReplay_frame h.ctx s).2]; rfl
    have hvf : (stepOf v h.ctx).mbFault.contains mb.toNat = false := by rw [hvs]; simpa using hf
    have hvj : v.ctl.journal = (waitFor h (.microbatch mb.toNat) (setJournal l s)).ctl.journal := by rw [← hv]; rfl
    have hva : v.ctl.journal.any (fun r => r.ctx == h.ctx && r.state == .issued && r.wait == .microbatch mb.toNat) = true := by
      rw [hvj]
      exact List.any_eq_true.2 ⟨r, List.mem_of_find?_eq_some hr, by simp [hrs, hrw, hrc]⟩
    rw [mbCheck, hb', hvf, hva]
    dsimp only
    generalize hw : modStep h.ctx (fun x => { x with mbDone := if x.mbDone.contains mb.toNat then x.mbDone else x.mbDone ++ [mb.toNat] })
      (takeSnap h.ctx v) = w
    have hwj : w.ctl = v.ctl := by rw [← hw]; exact (takeSnap_frame h.ctx v).2
    refine ⟨?_, ?_, ?_⟩
    · exact finishWaits_replied (w := .microbatch mb.toNat) hm hl (by rw [hwj, hvj]) (fun y _ hy hc => by simp [hy, hc]) (fun _ _ => rfl)
    · have hwd : stepOf (finishWaits (fun r => r.ctx == h.ctx && r.wait == .microbatch mb.toNat) stOk (fun _ => snapDigest w h.ctx) w) h.ctx = stepOf w h.ctx := rfl
      simp only [Bool.or_self, Bool.not_true, Bool.false_eq_true, if_false]
      rw [hwd, ← hw, stepOf_modStep_of (s := takeSnap h.ctx v) rfl]
      dsimp only
      split
      · next hin => exact List.mem_of_elem_eq_true hin
      · exact List.mem_append_right _ List.mem_cons_self
    · exact (finishWaits_regs ..).trans (by rw [← hw, modStep_regs, (takeSnap_frame h.ctx v).1, ← hv]; rfl)

end

/-- Settles O33: STEP_OPEN by its number and its plan, INPUT_RETAIN by the step and the twin, MICROBATCH_END by the runs of the micro-batch. -/
theorem stepsAndMicrobatches : Obligations.StepsAndMicrobatches := by
  refine ⟨fun h s step mbs hm hc ho => ⟨stepOpen_noMicrobatch hm ho, stepOpen_old hm ho, fun hmb hd hn =>
    ⟨fun d hp => stepOpen_badPlan hm ho hmb hd hn hp, fun p hp => stepOpen_opens hc hm ho hmb hd hn hp⟩⟩, fun h s addr bytes mb => ?_⟩
  refine ⟨fun k hm hp => ⟨inputRetain_outside hm hp, inputRetain_alone hm hp, inputRetain_mirrored hm hp⟩, fun hm =>
    ⟨microbatchEnd_notOpen hm, microbatchEnd_outOfRange hm, fun ho hmb hprev hf =>
      ⟨microbatchEnd_ends hm ho hmb hprev hf, microbatchEnd_waits hm ho hmb hprev⟩⟩⟩

end Sys2Proof.Machine
end

section
/-! PROOFS. STEP_UPDATE, the ends of the passes, the comparison with the twin, NUMW_CTL (R187, R188, R201, R244). -/

namespace Sys2Proof.Machine

/-! ### Waits that are answered -/

/-- A record that waits takes the reply of its wait. -/
theorem answered_finishWaits {s t : State} {r : Rec} {p : Rec → Bool} {st : Nat} {det : Rec → Nat} (hj : t.ctl.journal = s.ctl.journal)
    (hr : r ∈ s.ctl.journal) (hs : r.state = .issued) (ha : r.again = none) (hp : p r = true) : answered (finishWaits p st det t) r st (det r) := by
  refine ⟨_, List.mem_map.2 ⟨r, by rw [hj]; exact hr, rfl⟩, ?_⟩
  rw [if_pos (by simp [hs, hp]), replyOf_issued t st (det r) hs ha]
  exact ⟨rfl, rfl, rfl, _, rfl, rfl, rfl⟩

/-- An answered record stays answered when other waits end. -/
theorem answered.finishWaits {t u : State} {r : Rec} {p : Rec → Bool} {st st' d : Nat} {det : Rec → Nat} (h : answered t r st d)
    (hj : u.ctl.journal = t.ctl.journal) : answered (finishWaits p st' det u) r st d := by
  obtain ⟨y, hy, hq, hs, hst, hrep⟩ := h
  exact ⟨y, List.mem_map.2 ⟨y, by rw [hj]; exact hy, if_neg (by simp [hst])⟩, hq, hs, hst, hrep⟩

theorem answered.of_journal {t u : State} {r : Rec} {st d : Nat} (h : answered t r st d) (hj : u.ctl.journal = t.ctl.journal) : answered u r st d := by
  obtain ⟨y, hy, hrest⟩ := h
  exact ⟨y, by rw [hj]; exact hy, hrest⟩

/-! ### The seal that may follow the end of an update -/

theorem sealNow_frame (c : Nat) (s : State) : (sealNow c s).mem = s.mem ∧ (∀ d, (stepOf (sealNow c s) d).own = (stepOf s d).own) ∧
    ∀ r st d, answered s r st d → answered (sealNow c s) r st d := by
  unfold sealNow
  refine ⟨?_, fun d => ?_, fun r st d h => h.finishWaits ?_⟩
  · split <;> simp
  · have key : ∀ u : State, u.st = (modStep c (fun x => { x with sealed := some (stepNo s c, rget s .stepCtxAttempt_attempt c,
        stateDigest (stepOf s c), b2n (!mirrored s c) + 2 * b2n (stepOf s c).own.isNone) }) s).st → (stepOf u d).own = (stepOf s d).own := fun u hu => by
      rw [stepOf, hu]
      by_cases hd : d = c
      · subst hd; simp [modStep, stepOf]
      · simp [modStep, stepOf, sget_sset_ne _ _ _ hd]
    exact key _ (by split <;> simp)
  · split <;> simp

theorem sealCheck_frame (c : Nat) (s : State) : (sealCheck c s).mem = s.mem ∧ (∀ d, (stepOf (sealCheck c s) d).own = (stepOf s d).own) ∧
    ∀ r st d, answered s r st d → answered (sealCheck c s) r st d := by
  unfold sealCheck
  split
  · exact sealNow_frame c s
  · exact ⟨rfl, fun _ => rfl, fun _ _ _ h => h⟩

/-- The detail of a STEP_UPDATE: the bank that was written, the mirror, the elements kept. -/
theorem updateDetail (bank kept m : Nat) (hm : m ≤ 1) :
    pack [(0, 1, bank), (1, 1, m), (16, 32, satTo 32 kept)] = bank % 2 + 2 * m + 65536 * satTo 32 kept := by
  have : satTo 32 kept < 2 ^ 32 := Nat.lt_of_le_of_lt (Nat.min_le_right ..) (by decide)
  simp only [pack, pf, List.map_cons, List.map_nil, List.sum_cons, List.sum_nil]
  omega

/-- The end of an update answers every STEP_UPDATE that waits. -/
theorem updateDone_spec {s : State} {c : Nat} {p : Pass} (hp : (stepOf s c).own = some p) :
    (updateDone c s).mem = s.mem ∧ (stepOf (updateDone c s) c).own = some p ∧
    ∀ r, waiting s c .update r → answered (updateDone c s) r 0x0000 (p.bank % 2 + 2 * b2n (mirrored s c) + 65536 * satTo 32 p.kept) := by
  have hb : b2n (mirrored s c) ≤ 1 := by unfold b2n; split <;> omega
  rw [updateDone, hp, ← updateDetail p.bank p.kept _ hb]
  obtain ⟨h1, h2, h3⟩ := sealCheck_frame c (finishWaits (fun r => r.ctx == c && r.wait == .update) stOk
    (fun _ => pack [(0, 1, p.bank), (1, 1, b2n (mirrored s c)), (16, 32, satTo 32 p.kept)]) s)
  refine ⟨h1, (h2 c).trans hp, fun r hr => h3 _ _ _ ?_⟩
  obtain ⟨hmem, hc, hs, hw, ha⟩ := hr
  exact answered_finishWaits rfl hmem hs ha (by simp [hc, hw])

/-! ### The end of a pass -/

theorem poisonRanges_eq (c : Nat) (l : List (Nat × Nat)) (s : State) : ∃ m, poisonRanges c l s = { s with mem := m } := by
  unfold poisonRanges
  refine List.foldlRecOn _ _ (motive := fun t => ∃ m, t = { s with mem := m }) ⟨s.mem, rfl⟩ fun t ht x _ => ?_
  refine List.foldlRecOn _ _ (motive := fun t => ∃ m, t = { s with mem := m }) ht fun t ht y _ => ?_
  obtain ⟨m, rfl⟩ := ht
  unfold poisonLine
  split
  · exact ⟨m, rfl⟩
  · split <;> exact ⟨_, rfl⟩

/-- A pass that met no bad line leaves the step machinery and the journal as they are. -/
theorem passApply_frame {o : PassOut} (h1 : o.badStd = []) (h2 : o.badOther = []) (c : Nat) (s : State) :
    Told accessFlds s (passApply c o s) ∧ (passApply c o s).work = s.work := by
  have hw : Told accessFlds s (o.writes.foldl (fun s w => ctxWrite c w.1 w.2 s) s) ∧ (o.writes.foldl (fun s w => ctxWrite c w.1 w.2 s) s).work = s.work :=
    List.foldlRecOn _ _ (motive := fun t : State => Told accessFlds s t ∧ t.work = s.work) ⟨Told.rfl, rfl⟩ fun t ht x _ =>
      ⟨ht.1.ctxWrite (fun _ h => h) .., (work_ctxWrite ..).trans ht.2⟩
  obtain ⟨m, hm⟩ := poisonRanges_eq c o.poison (o.writes.foldl (fun s w => ctxWrite c w.1 w.2 s) s)
  rw [passApply, h1, h2, hm]
  exact ⟨hw.1.withMem m, hw.2⟩

theorem chargeMem_answered {c n : Nat} {s : State} {r : Rec} {st d : Nat} (h : answered s r st d) : answered (chargeMem c n s) r st d :=
  h.of_journal (by rw [chargeMem_ctl])

theorem ownPassEnd_good {s : State} {c : Nat} {p : Pass} (h1 : (passRun s (ownEnv s c p) p.desc p.watch p.step).badStd = [])
    (h2 : (passRun s (ownEnv s c p) p.desc p.watch p.step).badOther = []) (hm : mirrored s c = false) :
    ownPassEnd c p s = updateDone c (modStep c (fun x => { x with own := some (p.done (passRun s (ownEnv s c p) p.desc p.watch p.step)) })
      (passApply c (passRun s (ownEnv s c p) p.desc p.watch p.step) s)) := by
  unfold ownPassEnd
  dsimp only
  rw [h1, h2, hm]
  rfl

theorem mirPassEnd_good {s : State} {c : Nat} {p : Pass} (h1 : (passRun s (mirEnv s c p) p.desc p.watch p.step).badStd = []) :
    mirPassEnd c p s = emit (.vc7 "PASS_REPORT" ((stepOf s c).twin.getD 0x3FFF) [c, ownRoster s, p.step, (passRun s (mirEnv s c p) p.desc p.watch p.step).digest,
        b2n (!(stepOf s c).mirBad && (passRun s (mirEnv s c p) p.desc p.watch p.step).badOther.isEmpty)])
      (modStep c (fun x => { x with mir := some (p.done (passRun s (mirEnv s c p) p.desc p.watch p.step)) })
        (passApply c (passRun s (mirEnv s c p) p.desc p.watch p.step) s)) := by
  unfold mirPassEnd
  dsimp only
  rw [h1]
  rfl

theorem updatePassEnd_eq {s : State} {c : Nat} {p : Pass} {mir : Bool} (hr : (stepOf s c).repairs = []) (he : p.ended = false)
    (hp : (if mir then (stepOf s c).mir else (stepOf s c).own) = some p) : exec (.updatePassEnd c mir) s =
      .next (chargeMem c (passBytes (stepOf s c)) (if mir then mirPassEnd c p s else ownPassEnd c p s)) := by
  show execUpdatePassEnd c mir s = _
  simp only [execUpdatePassEnd, hr, hp, he]
  rfl

theorem ownPassEnds {s : State} {c : Nat} {p : Pass} (hr : (stepOf s c).repairs = []) (he : p.ended = false) :
    let o := passRun s (ownEnv s c p) p.desc p.watch p.step
    (stepOf s c).own = some p → o.badStd = [] → o.badOther = [] → mirrored s c = false → leadsTo (.updatePassEnd c false) s (fun t =>
      (stepOf t c).own = some (p.done o) ∧ ∀ r, waiting s c .update r → answered t r 0x0000 (p.bank % 2 + 65536 * satTo 32 (svals o.kept).sum)) := by
  intro o hp h1 h2 hm
  obtain ⟨htold, hwork⟩ := passApply_frame h1 h2 c s
  obtain ⟨-, -, hj, -, -, -, -, hst, -, -⟩ := work_eq_iff.1 hwork
  generalize hv : modStep c (fun x => { x with own := some (p.done o) }) (passApply c o s) = v
  have hown : (stepOf v c).own = some (p.done o) := by rw [← hv, stepOf_modStep_of hst]
  have hmi : mirrored v c = false := by
    rw [← hm, ← hv]
    unfold mirrored
    rw [rget_eq, modStep_regs, htold.regs _ _ rfl (by decide)]
    rfl
  obtain ⟨-, h4, h5⟩ := updateDone_spec hown
  refine ⟨chargeMem c (passBytes (stepOf s c)) (updateDone c v), ?_, ?_, fun r hw => chargeMem_answered ?_⟩
  · rw [updatePassEnd_eq (mir := false) hr he hp, if_neg (by decide), ownPassEnd_good h1 h2 hm, hv]
  · rw [stepOf, chargeMem_st]; exact h4
  · have := h5 r ⟨by rw [← hv, modStep_ctl, hj]; exact hw.1, hw.2⟩
    rw [hmi] at this
    simpa [Pass.done, b2n] using this

theorem mirPassEnds {s : State} {c : Nat} {p : Pass} (hr : (stepOf s c).repairs = []) (he : p.ended = false) :
    let o := passRun s (mirEnv s c p) p.desc p.watch p.step
    (stepOf s c).mir = some p → o.badStd = [] → leadsTo (.updatePassEnd c true) s (fun t => (stepOf t c).mir = some (p.done o) ∧
      OutMsg.vc7 "PASS_REPORT" ((stepOf s c).twin.getD 0x3FFF)
        [c, ownRoster s, p.step, o.digest, b2n (!(stepOf s c).mirBad && o.badOther.isEmpty)] ∈ t.io.outbox) := by
  intro o hp h1
  refine ⟨_, (updatePassEnd_eq (mir := true) hr he hp).trans (by rw [if_pos rfl, mirPassEnd_good h1]), ?_, ?_⟩
  · rw [stepOf, chargeMem_st]
    simp [modStep, o, stepOf]
  · rw [chargeMem_io]
    simp [emit, o]

/-! ### The comparison with the twin -/

section
variable {s : State} {c : Nat} {p : Pass} {dig : Word64}

theorem mirrorPassReport_eq (ok : Bool) (hp : (stepOf s c).own = some p) (hm : mirrored s c = true) :
    exec (.mirrorPassReport c dig ok) s = .next (compareUpdate c (modStep c (fun x => { x with report := some (dig.toNat, ok) }) s)) := by
  show execMirrorPassReport c dig ok s = _
  simp only [execMirrorPassReport, hp, hm]
  rfl

theorem passReport_agrees (hp : (stepOf s c).own = some p) (he : p.ended = true) (hm : mirrored s c = true) (hd : dig.toNat = p.digest) :
    leadsTo (.mirrorPassReport c dig true) s (fun t => t.mem = s.mem ∧ (stepOf t c).own = some p ∧
      ∀ r, waiting s c .update r → answered t r 0x0000 (p.bank % 2 + 2 + 65536 * satTo 32 p.kept)) := by
  generalize hv : modStep c (fun x => { x with report := some (dig.toNat, true) }) s = v
  have hx : stepOf v c = { stepOf s c with report := some (dig.toNat, true) } := by rw [← hv, stepOf_modStep_of rfl]
  have hown : (stepOf v c).own = some p := by rw [hx]; exact hp
  have hrep : (stepOf v c).report = some (dig.toNat, true) := by rw [hx]
  have hmi : mirrored v c = true := by rw [← hv]; exact hm
  obtain ⟨h1, h2, h3⟩ := updateDone_spec hown
  refine ⟨updateDone c v, ?_, h1.trans (by rw [← hv]; rfl), h2, fun r hw => ?_⟩
  · rw [mirrorPassReport_eq true hp hm, hv, compareUpdate, hown, hrep]
    dsimp only
    rw [he, if_neg (by decide), if_pos (by simp [hd])]
  · have := h3 r ⟨by rw [← hv]; exact hw.1, hw.2⟩
    rw [hmi] at this
    simpa [b2n] using this

/-- The fields that the counting of the pools and the charge of a unit write. -/
def poolFlds : List Fld := [.almanacPool_cores, .almanacPool_clusters, .almanacPool_minIdle, .almanacPool_channels, .almanacPool_linkLanes,
  .almanacPool_bridgeLanes, .almanacPool_setAside, .almanacGrade_yTenths, .almanacGrade_grade, .almanacGrade_trimmed,
  .almanacRetireCount_count, .almanacStatus_retireSeen, .almanacSubstCount_count]

theorem almSeal_eq (fl : Nat) (s : State) : ∃ a, almSeal fl s = { s with alm := a } := by
  unfold almSeal startSealing
  split
  · exact ⟨_, rfl⟩
  · dsimp only
    split <;> exact ⟨_, rfl⟩

/-- What the records of the Almanac and the counting of the pools leave. -/
structure Noted (F : List Fld) (s t : State) : Prop where
  told : Told F s t
  work : t.work = s.work
  mem : t.mem = s.mem

theorem Noted.rfl {F : List Fld} {s : State} : Noted F s s := ⟨Told.rfl, Eq.refl _, Eq.refl _⟩

section
variable {F : List Fld} {s t : State} (h : Noted F s t)
include h

theorem Noted.almStage (r : AlmRec) : Noted F s (almStage r t) := by
  refine ⟨h.told.almStage r, ?_, ?_⟩ <;> rw [almStage_eq]
  · exact h.work
  · exact h.mem

theorem Noted.almSeal (fl : Nat) : Noted F s (almSeal fl t) := by
  obtain ⟨a, ha⟩ := almSeal_eq fl t
  rw [ha]
  exact ⟨h.told.of_eq (Eq.refl _) (Eq.refl _) (Eq.refl _) (Eq.refl _) (Eq.refl _), h.work, h.mem⟩

theorem Noted.raise0 (code src det : Nat) : Noted F s (raise0 code src det t) := ⟨h.told.raise0 .., (work_raise0 ..).trans h.work, by simp [h.mem]⟩

theorem Noted.raiseBoth (code src c det : Nat) : Noted F s (raiseBoth code src c det t) :=
  ⟨h.told.raiseBoth .., (work_raiseBoth ..).trans h.work, by simp [h.mem]⟩

theorem Noted.rset {f : Fld} (hf : f.tally = true ∨ f ∈ F) (i v : Nat) : Noted F s (rset f i v t) :=
  ⟨h.told.rset hf .., (work_rset ..).trans h.work, by simp [h.mem]⟩

theorem Noted.rflag {f : Fld} (hf : f.tally = true ∨ f ∈ F) (i : Nat) : Noted F s (rflag f i t) := h.rset hf i 1

theorem Noted.count1 {f : Fld} (hf : f.tally = true ∨ f ∈ F) (i : Nat) : Noted F s (count1 f i t) :=
  ⟨h.told.count1 hf .., (work_count1 ..).trans h.work, by simp [h.mem]⟩

theorem Noted.useFree : Noted F s (useFree t) := ⟨h.told.useFree, h.work, h.mem⟩

theorem Noted.withSp (x : Spares) : Noted F s { t with sp := x } :=
  ⟨h.told.of_eq (Eq.refl _) (Eq.refl _) (Eq.refl _) (Eq.refl _) (Eq.refl _), h.work, h.mem⟩

theorem Noted.substRec (hF : poolFlds ⊆ F) (k d r o l a b : Nat) : Noted F s (substRec k d r o l a b t) := by
  have h1 := (h.almStage ⟨0x6, 0xC, lcountOf t 0xC, rget t .stepCtxCommitted_step (topCtx t), commitSeq t (topCtx t), substBody k d r o l a b⟩).raise0
    0x0E01 0xC (leNat (substBody k d r o l a b))
  have h2 : ∀ x, Noted F s x → Noted F s (if o = 2 then retireEvent (substBody k d r o l a b) x else x) := fun x hx => by
    split
    · exact ((hx.rflag (.inr (hF (by decide))) 0).count1 (f := .almanacRetireCount_count) (.inr (hF (by decide))) 0).raise0 ..
    · exact hx
  unfold Machine.substRec
  dsimp only
  split
  · exact (h2 _ h1).almSeal 2
  · exact h2 _ h1

theorem Noted.refreshPools (hF : poolFlds ⊆ F) : Noted F s (refreshPools t) := by
  have hin : ∀ {f}, f ∈ poolFlds → f.tally = true ∨ f ∈ F := fun hf => .inr (hF hf)
  unfold Machine.refreshPools
  dsimp only
  split
  · iterate 8 refine Noted.rset ?_ (hin (by decide)) _ _
    exact h
  · refine Noted.raise0 (Noted.almSeal (Noted.almStage ?_ _) 2) ..
    iterate 10 refine Noted.rset ?_ (hin (by decide)) _ _
    exact h

theorem Noted.substDone (hF : poolFlds ⊆ F) (k d r o l a b : Nat) : Noted F s (substDone k d r o l a b t) :=
  ((h.substRec hF ..).count1 (.inr (hF (by decide))) 0).refreshPools hF

theorem Noted.chargeUnit (hF : poolFlds ⊆ F) (c : Nat) : Noted F s (chargeUnit c t) := by
  unfold Machine.chargeUnit
  dsimp only
  split
  · exact (h.withSp _).useFree
  · exact (((h.withSp _).useFree).withSp _).substDone hF ..

theorem Noted.healthLog (k n : Nat) : Noted F s (healthLog k n t) := h.withSp _

end

/-- The fields that an update-level fault writes. -/
def updFlds : List Fld := [.fdieMirrorBytes_units, .stepCtxState_state, .stepCtxReplays_mbLevel, .stepCtxState_level]

theorem Told.withSp {F : List Fld} {s t : State} (h : Told F s t) (x : Spares) : Told F s { t with sp := x } :=
  h.of_eq (Eq.refl _) (Eq.refl _) (Eq.refl _) (Eq.refl _) (Eq.refl _)

theorem Told.replayEvent {F : List Fld} {s t : State} (h : Told F s t) (hF : .stepCtxState_level ∈ F) (l c m o : Nat) : Told F s (replayEvent l c m o t) :=
  (h.useFree.rset (.inr hF) ..).raiseBoth ..

/-- An update-level fault in UPDATE, with the own pass ended: it starts again. -/
theorem updFault_ended (cause : Nat) (hc : c < 256) (hs : stepSt s c = 2) (hp : (stepOf s c).own = some p) (he : p.ended = true) :
    Told updFlds s (updFault c cause s) ∧ (stepOf (updFault c cause s) c).own = some p.restart ∧ stepSt (updFault c cause s) c = 2 := by
  have hc' : c < fldCount .stepCtxState_state := hc
  have hsm : smearPass (ownEnv s c p) p s = s := if_pos he
  unfold updFault
  rw [hs, if_neg (by decide), hp]
  dsimp only
  rw [hsm]
  generalize hu : modStep c (fun x => { x with own := x.own.map Pass.restart, report := none, sealed := none, updFaults := (stepOf s c).updFaults + 1 }) s = u
  have hut : Told updFlds s u := by rw [← hu]; exact Told.rfl.modStep ..
  have huo : (stepOf u c).own = some p.restart := by rw [← hu, stepOf_modStep_of rfl, hp]; rfl
  obtain ⟨h1, -, h3, -⟩ := toTwin_aside (F := updFlds) (by decide) c .again 0 0 cause [] 0 u
  generalize hv : replayEvent 2 c 0xFFFF (ownRoster s) (count1 .stepCtxReplays_mbLevel c (rset .stepCtxState_state c 2
    (redoUpdate c (toTwin c .again 0 0 cause [] 0 u)))) = v
  have hvt : Told updFlds s v := by
    rw [← hv]
    exact (((hut.trans h1).mapRecs ..).rset (.inr (by decide)) ..).count1 (.inr (by decide)) .. |>.replayEvent (by decide) ..
  have hvo : (stepOf v c).own = some p.restart := by
    rw [← huo, stepOf, stepOf, ← hv]
    simp [replayEvent, redoUpdate, h3]
  have hvs : stepSt v c = 2 := by
    have hkeep : ∀ x, Told [.stepCtxState_level] x (replayEvent 2 c 0xFFFF (ownRoster s) x) := fun x => Told.rfl.replayEvent (by decide) ..
    rw [stepSt, rget_eq, ← hv, (hkeep _).regs _ _ rfl (by decide)]
    exact (regAt_count1_other _ _ _ rfl (by decide)).trans (regAt_rset_same _ _ hc')
  split
  · exact ⟨(hvt.withSp _).emit _, hvo, hvs⟩
  · exact ⟨hvt.withSp _, hvo, hvs⟩

theorem passReport_differs {ok : Bool} (hc : c < 256) (hp : (stepOf s c).own = some p) (he : p.ended = true) (hm : mirrored s c = true)
    (hd : dig.toNat ≠ p.digest) (hs : stepSt s c = 2) : leadsTo (.mirrorPassReport c dig ok) s (fun t =>
      (stepOf t c).own = some p.restart ∧ stepSt t c = 2 ∧ (∃ ev ∈ t.io.events, ev.code = 0x0A03 ∧ ev.ctx = c)) := by
  generalize hv : modStep c (fun x => { x with report := some (dig.toNat, ok) }) s = v
  have hx : stepOf v c = { stepOf s c with report := some (dig.toNat, ok) } := by rw [← hv, stepOf_modStep_of rfl]
  have hown : (stepOf v c).own = some p := by rw [hx]; exact hp
  have hrep : (stepOf v c).report = some (dig.toNat, ok) := by rw [hx]
  generalize hw : raiseBoth 0x0A03 9 c (pack [(0, 64, p.digest), (64, 64, dig.toNat)]) v = w
  have hev : reported v w 0x0A03 c := by rw [← hw]; exact raiseBoth_reported ..
  have hn : Noted poolFlds w (healthLog 1 1 (chargeUnit c w)) := (Noted.rfl.chargeUnit (fun _ h => h) c).healthLog 1 1
  generalize hy : healthLog 1 1 (chargeUnit c w) = y at hn
  have hyst : y.st = v.st := by
    obtain ⟨-, -, -, -, -, -, -, h, -, -⟩ := work_eq_iff.1 hn.work
    rw [h, ← hw]; simp
  have hys : stepSt y c = 2 := by
    rw [← hs, stepSt, rget_eq, hn.told.regs _ _ rfl (by decide), ← hw, ((Told.rfl (F := [])).raiseBoth ..).regs _ _ rfl (by decide), ← hv]
    rfl
  obtain ⟨h1, h2, h3⟩ := updFault_ended (s := y) 0 hc hys (by rw [stepOf, hyst]; exact hown) he
  refine ⟨updFault c 0 y, ?_, h2, h3, ((hev.told hn.told).told h1).exists_mem⟩
  rw [mirrorPassReport_eq ok hp hm, hv, compareUpdate, hown, hrep]
  dsimp only
  rw [he, if_neg (by decide), if_neg (by simp [hd]), if_neg hd, hw, hy]

end

/-! ### NUMW_CTL -/

theorem numwCtl_turns {s : State} {c : Nat} {v : BitVec 32} (hc : c < 256) (hn : notServed s 0 = false) (he : rget s .numwCtl_enable c ≠ v.toNat % 2) :
    leadsTo (.numwCtl 0 c v) s (fun t => rget t .numwCtl_enable c = v.toNat % 2 ∧ t.mem = s.mem ∧
      (v.toNat / 65536 ≠ 0 → rget t .numwCtl_quietN c = v.toNat / 65536) ∧ (v.toNat / 65536 = 0 → rget t .numwCtl_quietN c = rget s .numwCtl_quietN c) ∧
      (∃ ev ∈ t.io.events, ev.code = 0x0804 ∧ ev.ctx = c)) := by
  have hc1 : c < fldCount .numwCtl_enable := hc
  have hc2 : c < fldCount .numwCtl_quietN := hc
  have hb : bits v.toNat 16 16 = v.toNat / 65536 := by
    have := v.isLt
    simp only [bits]
    omega
  generalize hu : (if bits v.toNat 16 16 = 0 then dropLatch 0 s else rset .numwCtl_quietN c (bits v.toNat 16 16) (dropLatch 0 s)) = u
  have hue : rget u .numwCtl_enable c = rget s .numwCtl_enable c := by
    rw [← hu]; split
    · rfl
    · exact regAt_rset_other _ _ _ _ (by decide)
  have huq : rget u .numwCtl_quietN c = if v.toNat / 65536 = 0 then rget s .numwCtl_quietN c else v.toNat / 65536 := by
    rw [← hu, hb]; split
    · rfl
    · refine (regAt_rset_same _ _ hc2).trans (Nat.mod_eq_of_lt ?_)
      have := v.isLt
      show v.toNat / 65536 < 2 ^ 16
      omega
  have hum : u.mem = s.mem := by rw [← hu]; split <;> simp
  generalize hw : (if v.toNat % 2 = 0 then rflag .numwStatus_offSeen 0 (rset .numwCtl_enable c (v.toNat % 2) u) else rset .numwCtl_enable c (v.toNat % 2) u) = w
  have hwe : rget w .numwCtl_enable c = v.toNat % 2 := by
    have key : regAt (rset .numwCtl_enable c (v.toNat % 2) u).regs .numwCtl_enable c = v.toNat % 2 :=
      (regAt_rset_same _ _ hc1).trans (Nat.mod_eq_of_lt (Nat.mod_lt _ (by decide)))
    rw [← hw]; split
    · exact (regAt_rflag_other _ _ _ (by decide)).trans key
    · exact key
  have hwq : rget w .numwCtl_quietN c = rget u .numwCtl_quietN c := by
    rw [← hw]; split
    · exact (regAt_rflag_other _ _ _ (by decide)).trans (regAt_rset_other _ _ _ _ (by decide))
    · exact regAt_rset_other _ _ _ _ (by decide)
  have hwm : w.mem = u.mem := by rw [← hw]; split <;> simp
  have hkeep : Told [] w (raiseBoth 0x0804 0xB c (pack [(0, 8, c), (8, 8, v.toNat % 2)]) w) := Told.rfl.raiseBoth ..
  refine ⟨raiseBoth 0x0804 0xB c (pack [(0, 8, c), (8, 8, v.toNat % 2)]) w, ?_, ?_, ?_, fun h => ?_, fun h => ?_, (raiseBoth_reported ..).exists_mem⟩
  · show execNumwCtl 0 c v s = _
    have hn' : notServed (dropLatch 0 s) 0 = false := hn
    have hd : (notServed (dropLatch 0 s) 0 || decide (256 ≤ c)) = false := by rw [hn']; exact decide_eq_false (Nat.not_le.2 hc)
    simp only [execNumwCtl]
    rw [hd, if_neg (by decide), hu, if_neg (by rw [hue]; exact he), hw]
  · exact (hkeep.regs _ _ rfl (by decide)).trans hwe
  · rw [raiseBoth_mem, hwm, hum]
  · exact (hkeep.regs _ _ rfl (by decide)).trans (hwq.trans (huq.trans (if_neg h)))
  · exact (hkeep.regs _ _ rfl (by decide)).trans (hwq.trans (huq.trans (if_pos h)))

/-! ### STEP_UPDATE -/

theorem readDesc_congr {s t : State} (hr : t.regs = s.regs) (hs : t.sp = s.sp) (hc : t.ctl.ctxs = s.ctl.ctxs) (hp : t.ctl.partitions = s.ctl.partitions)
    (hf : t.free = s.free) (hm : t.mem = s.mem) (hh : t.host = s.host) (hst : t.st = s.st) (c a : Nat) : readDesc t c a = readDesc s c a := by
  have hds : ctxDies t c = ctxDies s c := by simp only [ctxDies, partDies, ctx?, hc, hp]
  have hpeek : peek t c = peek s c := by funext a n; exact peek_congr hr hs hc hf hm hh c a n
  have hdie : ∀ ds, dieAddrOk t ds = dieAddrOk s ds := fun ds => by
    funext i a
    simp only [dieAddrOk, ownSlot, inExtent, gddrBytes, gridRows, rget_eq, hr, hs]
    rfl
  have hhead : ∀ ds b, updHeaderOk t ds b = updHeaderOk s ds b := fun ds b => by simp only [updHeaderOk, dieAddrsOk, hdie]
  have hfield : ∀ ds d, fieldIn t ds d = fieldIn s ds d := fun ds d => by funext x y z; simp only [fieldIn, gddrBytes, hs]; rfl
  have hten : ∀ ds d, tensorOk t ds d = tensorOk s ds d := fun ds d => by funext i b; simp only [tensorOk, hfield]
  have hrecs : ∀ d b, scaleRecs t c d b = scaleRecs s c d b := fun d b => by simp only [scaleRecs, hpeek]
  have hstep : stepOf t c = stepOf s c := by simp only [stepOf, hst]
  simp only [readDesc, hds, hpeek, hhead, hten, hrecs, hstep]

/-- What goes to the twin leaves memory, the journal, the registers of the step and the passes. -/
structure ToTwin (s t : State) : Prop where
  told : Told [.fdieMirrorBytes_units] s t
  mem : t.mem = s.mem
  journal : t.ctl.journal = s.ctl.journal
  own : ∀ d, (stepOf t d).own = (stepOf s d).own

theorem ToTwin.rfl {s : State} : ToTwin s s := ⟨Told.rfl, Eq.refl _, Eq.refl _, fun _ => Eq.refl _⟩

theorem ToTwin.trans {s t u : State} (h : ToTwin s t) (k : ToTwin t u) : ToTwin s u :=
  ⟨h.told.trans k.told, k.mem.trans h.mem, k.journal.trans h.journal, fun d => (k.own d).trans (h.own d)⟩

theorem toTwin_toTwin (c : Nat) (kd : MKind) (a n x : Nat) (b : List Byte) (d : Nat) (s : State) : ToTwin s (toTwin c kd a n x b d s) := by
  obtain ⟨h1, h2, h3, h4⟩ := toTwin_aside (F := [.fdieMirrorBytes_units]) (by decide) c kd a n x b d s
  exact ⟨h1, h2, h4, fun d => by rw [stepOf, h3]; rfl⟩

theorem modStep_toTwin (c : Nat) (f : StepCtx → StepCtx) (hf : ∀ x, (f x).own = x.own) (s : State) : ToTwin s (modStep c f s) := by
  refine ⟨Told.rfl.modStep .., rfl, rfl, fun d => ?_⟩
  by_cases hd : d = c
  · subst hd; rw [stepOf_modStep_of rfl]; exact hf _
  · simp [stepOf, modStep, sget_sset_ne _ _ _ hd]

theorem ToTwin.ite {s t u : State} {p : Prop} [Decidable p] (h : ToTwin s t) (k : ToTwin s u) : ToTwin s (if p then t else u) := by split <;> assumption

theorem sendUpdate_toTwin (c : Nat) (d : UDesc) (raw : List Byte) (p : Pass) (s : State) : ToTwin s (sendUpdate c d raw p s) := by
  have hseg : ToTwin s (sendSegments c d s) := by
    unfold sendSegments
    refine List.foldlRecOn _ _ (motive := ToTwin s) ToTwin.rfl fun u hu x _ => ?_
    exact hu.ite ((hu.trans (toTwin_toTwin ..)).trans (modStep_toTwin _ _ (by intro x; rfl) _))
  unfold sendUpdate
  split
  · exact ToTwin.rfl
  · dsimp only
    refine ToTwin.trans ?_ (toTwin_toTwin ..)
    exact hseg.ite ((hseg.trans (toTwin_toTwin ..)).trans (modStep_toTwin _ _ (by intro x; rfl) _))

section
variable {s : State} {h : CmdRef} {a : Word64}

theorem stepUpdate_badDescriptor (hm : mayRun 0x33 h s = true) (hf : h.flags.getLsbD 2 = true) (ho : stepOpenSt s h.ctx = true)
    (hs : stepSt s h.ctx ≠ 3) (hb : (readDesc s h.ctx a.toNat).bad = []) (hd : (readDesc s h.ctx a.toNat).detail ≠ 0) :
    leadsTo (.stepUpdate h a) s (fun t => replied h 0x0016 (readDesc s h.ctx a.toNat).detail t = true ∧ onlyJournal s t) :=
  leadsTo_answered rfl hm fun l => by
    have hf' : (!h.flags.toNat.testBit 2 || stepSt (setJournal l s) h.ctx == 3) = false := by
      have h1 : h.flags.toNat.testBit 2 = true := hf
      have h2 : (stepSt (setJournal l s) h.ctx == 3) = false := beq_eq_false_iff_ne.2 hs
      rw [h1, h2]; rfl
    have ho' : stepOpenSt (setJournal l s) h.ctx = true := ho
    have hr : readDesc (setJournal l s) h.ctx a.toNat = readDesc s h.ctx a.toNat :=
      readDesc_congr (s := s) (t := setJournal l s) rfl rfl rfl rfl rfl rfl rfl rfl _ _
    dsimp only
    rw [hf', if_neg (by decide), ho', if_neg (by decide), hr, hb, if_neg (by decide), if_pos hd]
    rfl

/-- The own pass that STEP_UPDATE starts. -/
def passOf (s : State) (c a : Nat) : Pass :=
  ⟨(readDesc s c a).desc, watchNow s c, stepNo s c, 1 - (stepOf s c).standOwn, 0, 0, 0, false⟩

theorem stepUpdate_starts {p : Plan} (hm : mayRun 0x33 h s = true) (hc : h.ctx < 256) (hf : h.flags.getLsbD 2 = true) (ho : stepOpenSt s h.ctx = true)
    (hs : stepSt s h.ctx ≠ 3) (hb : (readDesc s h.ctx a.toNat).bad = []) (hd : (readDesc s h.ctx a.toNat).detail = 0)
    (hp : (stepOf s h.ctx).plan = some p) (h0 : p.bank0 = (readDesc s h.ctx a.toNat).desc.bank0) (h1 : p.bank1 = (readDesc s h.ctx a.toNat).desc.bank1) :
    leadsTo (.stepUpdate h a) s (fun t => waitsOn h .update t = true ∧ t.mem = s.mem ∧ stepSt t h.ctx = 2 ∧
      (stepOf t h.ctx).own = some (passOf s h.ctx a.toNat)) := by
  refine leadsTo_runCmd rfl hm fun l hl => ?_
  have hf' : (!h.flags.toNat.testBit 2 || stepSt (setJournal l s) h.ctx == 3) = false := by
    have h1 : h.flags.toNat.testBit 2 = true := hf
    have h2 : (stepSt (setJournal l s) h.ctx == 3) = false := beq_eq_false_iff_ne.2 hs
    rw [h1, h2]; rfl
  have ho' : stepOpenSt (setJournal l s) h.ctx = true := ho
  have hr : readDesc (setJournal l s) h.ctx a.toNat = readDesc s h.ctx a.toNat :=
    readDesc_congr (s := s) (t := setJournal l s) rfl rfl rfl rfl rfl rfl rfl rfl _ _
  have hplan : ((stepOf (setJournal l s) h.ctx).plan.elim true (fun p => p.bank0 != (readDesc s h.ctx a.toNat).desc.bank0 ||
      p.bank1 != (readDesc s h.ctx a.toNat).desc.bank1)) = false := by
    have : (stepOf (setJournal l s) h.ctx).plan = some p := hp
    rw [this, Option.elim_some, h0, h1]
    simp
  have hrep : reportAll 2 h.ctx 0xFFFF 0xFFFF [] (setJournal l s) = setJournal l s := rfl
  dsimp only
  rw [hf', if_neg (by decide), ho', if_neg (by decide), hr, hb, if_neg (by decide), if_neg (by simp [hd]), hrep, hplan, if_neg (by decide)]
  generalize hu : modStep h.ctx _ (setJournal l s) = u
  have huo : (stepOf u h.ctx).own = some (passOf s h.ctx a.toNat) := by rw [← hu, stepOf_modStep_of rfl]; rfl
  have hum : u.mem = s.mem ∧ u.ctl.journal = l := by rw [← hu]; exact ⟨rfl, rfl⟩
  generalize hv : rset .stepCtxState_state h.ctx 2 (leaveIdle u) = v
  have hvo : stepOf v h.ctx = stepOf u h.ctx := by rw [← hv]; simp [stepOf]
  have hvs : stepSt v h.ctx = 2 := by
    rw [← hv]; exact regAt_rset_same _ _ (show h.ctx < fldCount .stepCtxState_state from hc)
  have hk := sendUpdate_toTwin h.ctx (readDesc s h.ctx a.toNat).desc (readDesc s h.ctx a.toNat).raw (passOf s h.ctx a.toNat) v
  refine ⟨waitFor_waits_of hm hl ?_, ?_, ?_, ?_⟩
  · exact hk.journal.trans (by rw [← hv, ← hum.2]; simp)
  · exact hk.mem.trans (by rw [← hv, ← hum.1]; simp)
  · exact (hk.told.regs _ _ rfl (by decide)).trans hvs
  · exact (hk.own _).trans (by rw [hvo, huo])

end

/-- Settles O34: STEP_UPDATE by the checks of its descriptor, the passes by what they met, the comparison by the twin's digest, NUMW_CTL by its fields. -/
theorem updatePasses : Obligations.UpdatePasses := by
  intro s
  refine ⟨?_, fun c p hr he => ⟨ownPassEnds hr he, mirPassEnds hr he⟩, ?_, fun c v hc hn he => numwCtl_turns hc hn he⟩
  · intro h a hm hc hf ho hs c d hb
    refine ⟨stepUpdate_badDescriptor hm hf ho hs hb, fun p hd hp h0 h1 => ?_⟩
    obtain ⟨t, ht, h2, h3, h4, h5⟩ := stepUpdate_starts hm hc hf ho hs hb hd hp h0 h1
    exact ⟨t, ht, h2, h3, h4, _, h5, rfl, rfl, rfl, rfl⟩
  · intro c p dig ok hp he hm hc
    refine ⟨fun hd hok => ?_, fun hd hs => passReport_differs hc hp he hm hd hs⟩
    subst hok
    exact passReport_agrees hp he hm hd

end Sys2Proof.Machine
end

section
/-! PROOFS. What the removal of engines and runs leaves: substitutions that waited take effect, and stages end (R31, R335 to R341, R374). -/

namespace Sys2Proof.Machine

/-- A context but for its hold and the index of its ring. -/
def Ctx.unheld (x : Ctx) : Ctx := { x.noRing with held := false }

/-- `t` is `s` after engines, runs or units were taken away: of the register fields only those of `F` and the tallies may differ, contexts only by
their hold and the index of their ring; memory, the step machinery, the links and the harvest are kept; records of events and messages were added. -/
structure Loose (F : List Fld) (s t : State) : Prop where
  regs : ∀ f i, f.tally = false → f ∉ F → regAt t.regs f i = regAt s.regs f i
  events : s.io.events <:+ t.io.events
  outbox : s.io.outbox <+: t.io.outbox
  ctxs : ∀ c, (ctx? t c).map Ctx.unheld = (ctx? s c).map Ctx.unheld
  mem : t.mem = s.mem
  st : t.st = s.st
  fab : t.fab = s.fab
  har : t.har = s.har
  boot : t.boot = s.boot

/-- Besides, the journal and the runs are kept. -/
structure Spared (F : List Fld) (s t : State) : Prop extends Loose F s t where
  journal : t.ctl.journal = s.ctl.journal
  gr : t.gr = s.gr

theorem Loose.rfl {F : List Fld} {s : State} : Loose F s s :=
  ⟨fun _ _ _ _ => Eq.refl _, List.suffix_rfl, List.prefix_rfl, fun _ => Eq.refl _, Eq.refl _, Eq.refl _, Eq.refl _, Eq.refl _, Eq.refl _⟩

theorem Loose.trans {F : List Fld} {s t u : State} (h : Loose F s t) (k : Loose F t u) : Loose F s u where
  regs f i hf hn := (k.regs f i hf hn).trans (h.regs f i hf hn)
  events := h.events.trans k.events
  outbox := h.outbox.trans k.outbox
  ctxs c := (k.ctxs c).trans (h.ctxs c)
  mem := k.mem.trans h.mem
  st := k.st.trans h.st
  fab := k.fab.trans h.fab
  har := k.har.trans h.har
  boot := k.boot.trans h.boot

theorem Loose.mono {F G : List Fld} {s t : State} (h : Loose F s t) (hg : ∀ f ∈ F, f ∈ G) : Loose G s t :=
  { h with regs := fun f i hf hn => h.regs f i hf fun hm => hn (hg f hm) }

theorem Told.ctxs_unheld {F : List Fld} {s t : State} (h : Told F s t) (c : Nat) : (ctx? t c).map Ctx.unheld = (ctx? s c).map Ctx.unheld := by
  have key : ∀ o : Option Ctx, o.map Ctx.unheld = (o.map Ctx.noRing).map (fun x => { x with held := false }) := fun o => by cases o <;> rfl
  rw [key, h.ctxs, ← key]

theorem Spared.rfl {F : List Fld} {s : State} : Spared F s s := ⟨Loose.rfl, Eq.refl _, Eq.refl _⟩

theorem Spared.trans {F : List Fld} {s t u : State} (h : Spared F s t) (k : Spared F t u) : Spared F s u :=
  ⟨h.toLoose.trans k.toLoose, k.journal.trans h.journal, k.gr.trans h.gr⟩

theorem Noted.spared {F : List Fld} {s t : State} (h : Noted F s t) : Spared F s t := by
  obtain ⟨-, -, hj, hgr, -, -, -, hst, hhar, hfab⟩ := work_eq_iff.1 h.work
  exact ⟨⟨h.told.regs, h.told.events, h.told.outbox, h.told.ctxs_unheld, h.mem, hst, hfab, hhar, h.told.boot⟩, hj, hgr⟩

section
variable {F : List Fld} {s t : State} (h : Spared F s t)
include h

/-- A further update of what the relation does not speak of. -/
theorem Spared.of_eq {u : State} (hr : u.regs = t.regs) (hi : u.io = t.io) (hc : u.ctl = t.ctl) (hm : u.mem = t.mem) (hs : u.st = t.st)
    (hf : u.fab = t.fab) (hh : u.har = t.har) (hb : u.boot = t.boot) (hg : u.gr = t.gr) : Spared F s u where
  regs f i hf hn := by rw [hr, h.regs f i hf hn]
  events := by rw [hi]; exact h.events
  outbox := by rw [hi]; exact h.outbox
  ctxs c := by rw [ctx?, hc]; exact h.ctxs c
  mem := hm.trans h.mem
  st := hs.trans h.st
  fab := hf.trans h.fab
  har := hh.trans h.har
  boot := hb.trans h.boot
  journal := by rw [hc, h.journal]
  gr := hg.trans h.gr

theorem Spared.withPow (x : Pow) : Spared F s { t with pow := x } :=
  h.of_eq (Eq.refl _) (Eq.refl _) (Eq.refl _) (Eq.refl _) (Eq.refl _) (Eq.refl _) (Eq.refl _) (Eq.refl _) (Eq.refl _)

theorem Spared.withSp (x : Spares) : Spared F s { t with sp := x } :=
  h.of_eq (Eq.refl _) (Eq.refl _) (Eq.refl _) (Eq.refl _) (Eq.refl _) (Eq.refl _) (Eq.refl _) (Eq.refl _) (Eq.refl _)

theorem Spared.withFree (n : Nat) : Spared F s { t with free := n } :=
  h.of_eq (Eq.refl _) (Eq.refl _) (Eq.refl _) (Eq.refl _) (Eq.refl _) (Eq.refl _) (Eq.refl _) (Eq.refl _) (Eq.refl _)

theorem Spared.withEngines (e : SMap Engine) (o : SMap Engine) (c : SMap Core) : Spared F s { t with eng := e, oct := o, core := c } :=
  h.of_eq (Eq.refl _) (Eq.refl _) (Eq.refl _) (Eq.refl _) (Eq.refl _) (Eq.refl _) (Eq.refl _) (Eq.refl _) (Eq.refl _)

/-! ### Stages -/

theorem Spared.aim (i : Nat) : Spared F s (aim i t) := by
  unfold Machine.aim setIsl
  dsimp only
  split
  · exact h
  · split
    · exact h.withPow _
    · split
      · exact h
      · exact h.withPow _

theorem Spared.foldl {α : Type} {f : State → α → State} (hf : ∀ t a, Spared F s t → Spared F s (f t a)) (l : List α) : Spared F s (l.foldl f t) :=
  List.foldlRecOn _ _ (motive := Spared F s) h fun t ht a _ => hf t a ht

theorem Spared.presetStage (d k : Nat) : Spared F s (presetStage d k t) := by
  unfold Machine.presetStage
  split
  · exact h
  · exact Spared.foldl (h.withPow _) (fun _ _ hu => hu.aim _) _

theorem Spared.cleanStages (l : List Nat) : Spared F s (cleanStages l t) :=
  Spared.foldl (Spared.foldl (h.withPow _) (fun _ _ hu => hu.aim _) _)
    (fun _ _ hu => Spared.foldl hu (fun _ _ hv => hv.presetStage ..) _) _

/-! ### Substitutions -/

theorem Spared.raiseC (code src c det : Nat) : Spared F s (raiseC code src c det t) := by
  have hk : Told F t (Machine.raiseC code src c det t) := Told.rfl.raiseC ..
  exact h.trans ⟨⟨hk.regs, hk.events, hk.outbox, hk.ctxs_unheld, by simp, by simp, by simp, by simp, hk.boot⟩, by simp, by simp⟩

theorem Spared.modQueue (q : Nat) (f : Queue → Queue) : Spared F s (modQueue q f t) := by
  refine h.trans ?_
  unfold Machine.modQueue
  split
  · exact ⟨⟨fun _ _ _ _ => Eq.refl _, List.suffix_rfl, List.prefix_rfl, fun _ => Eq.refl _, Eq.refl _, Eq.refl _, Eq.refl _, Eq.refl _, Eq.refl _⟩,
      Eq.refl _, Eq.refl _⟩
  · exact Spared.rfl

theorem Spared.holdCtx (c : Nat) : Spared F s (holdCtx c t) := by
  have hmod : Spared F t (modCtx c (fun x => { x with held := true }) t) := by
    unfold modCtx
    split
    · next x hx =>
      refine ⟨⟨fun _ _ _ _ => Eq.refl _, List.suffix_rfl, List.prefix_rfl, fun d => ?_, Eq.refl _, Eq.refl _, Eq.refl _, Eq.refl _, Eq.refl _⟩,
        Eq.refl _, Eq.refl _⟩
      by_cases hd : d = c
      · subst hd; rw [ctx?_setCtx_same, hx]; rfl
      · rw [ctx?_setCtx_ne _ _ _ _ hd]
    · exact Spared.rfl
  unfold Machine.holdCtx
  split
  · exact h
  · exact (Spared.foldl (h.trans hmod) (fun _ _ hu => hu.modQueue ..) _).raiseC ..

/-- The fields that a substitution writes. -/
def spareFlds : List Fld := poolFlds ++ [.cohortHealth_score, .cohortHealth_hard, .cdieVecOctaveSkipCount_count]

theorem Spared.noted {u : State} (k : Noted F t u) : Spared F s u := h.trans k.spared

theorem Spared.refreshPools (hF : spareFlds ⊆ F) : Spared F s (refreshPools t) :=
  h.noted (Noted.rfl.refreshPools fun _ hf => hF (List.mem_append_left _ hf))

theorem Spared.substRec (hF : spareFlds ⊆ F) (k d r o l a b : Nat) : Spared F s (substRec k d r o l a b t) :=
  h.noted (Noted.rfl.substRec (fun _ hf => hF (List.mem_append_left _ hf)) ..)

theorem Spared.substDone (hF : spareFlds ⊆ F) (k d r o l a b : Nat) : Spared F s (substDone k d r o l a b t) :=
  h.noted (Noted.rfl.substDone (fun _ hf => hF (List.mem_append_left _ hf)) ..)

theorem Spared.setHard (hF : spareFlds ⊆ F) : Spared F s (setHard t) :=
  h.noted ((Noted.rfl.rflag (f := .cohortHealth_hard) (.inr (hF (by decide))) 0).rset (f := .cohortHealth_score) (.inr (hF (by decide))) 0 0)

theorem Spared.setClState (d p g : Nat) : Spared F s (setClState d p g t) := h.withSp _

theorem Spared.setCoreState (d p q g : Nat) : Spared F s (setCoreState d p q g t) := h.withSp _

theorem Spared.clearMarks (p : Nat → Bool) : Spared F s (clearMarks p t) := h.withEngines t.eng t.oct _

theorem Spared.stopShadowOn (hF : spareFlds ⊆ F) (d p : Nat) : Spared F s (stopShadowOn d p t) := by
  unfold Machine.stopShadowOn
  split
  · exact h
  · exact (h.withEngines _ _ _).noted (Noted.rfl.count1 (f := .cdieVecOctaveSkipCount_count) (.inr (hF (by decide))) _)

theorem Spared.substCluster (hF : spareFlds ⊆ F) (d p r g : Nat) : Spared F s (substCluster d p r g t) := by
  unfold Machine.substCluster
  split
  · exact ((h.setClState ..).substRec hF ..).refreshPools hF
  · dsimp only
    split
    · exact (Spared.foldl ((h.setClState ..).refreshPools hF) (fun _ _ hu => hu.holdCtx _) _).setHard hF
    · exact (((((h.withFree _).stopShadowOn hF ..).withSp _).setClState ..).clearMarks _).substDone hF ..

theorem Spared.substCore (hF : spareFlds ⊆ F) (d p c r g : Nat) : Spared F s (substCore d p c r g t) := by
  unfold Machine.substCore
  dsimp only
  split
  · exact h.substCluster hF ..
  · refine Spared.substDone (Spared.clearMarks (Spared.setCoreState ?_ ..) _) hF ..
    exact (h.withFree (t.free + 1)).withSp _

theorem Spared.applySubs (hF : spareFlds ⊆ F) : Spared F s (applySubs t) := by
  unfold Machine.applySubs
  refine h.foldl (fun u x hu => ?_) _
  split
  · exact hu
  · dsimp only
    split
    · exact hu.withSp _
    · split
      · exact (hu.withSp _).substCluster hF ..
      · exact (hu.withSp _).substCore hF ..

theorem Spared.dropEngines (hF : spareFlds ⊆ F) (p : Nat → Engine → Bool) : Spared F s (dropEngines p t) :=
  ((h.withEngines _ t.oct _).cleanStages _).applySubs hF

end

end Sys2Proof.Machine
end

section
/-! PROOFS. STEP_SEAL, STEP_COMMIT_WAIT and STEP_ABORT (R246, R248, R251). -/

namespace Sys2Proof.Machine

/-! ### STEP_SEAL -/

/-- A command's record that waits in a given way is answered when that wait ends. -/
theorem finishWaits_replied_rec {h : CmdRef} {s t : State} {r : Rec} {p : Rec → Bool} {st : Nat} {det : Rec → Nat}
    (hf : findRec s h.q h.seq.toNat = some r) (hs : r.state = .issued) (ha : r.again = none) (hp : p r = true) (hj : t.ctl.journal = s.ctl.journal) :
    replied h st (det r) (finishWaits p st det t) = true := by
  have hc : (decide (r.state = .issued) && p r) = true := by simp [hs, hp]
  have hrep := replyOf_issued t st (det r) hs ha
  have hfin := findRec_changed (t := finishWaits p st det t) (fun r => if r.state = .issued && p r then replyOf t st (det r) r else r)
    (congrArg _ hj) hf (fun y => by
      split
      · next hi =>
        simp only [Bool.and_eq_true, decide_eq_true_eq] at hi
        obtain ⟨hq, hs⟩ := replyOf_ids t st (det y) y
        exact ⟨hq, hs, fun hc => absurd (hi.1.symm.trans hc) (by decide)⟩
      · exact ⟨rfl, rfl, id⟩)
    (by rw [if_pos hc, hrep]; exact RecSt.noConfusion)
  rw [if_pos hc, hrep] at hfin
  rw [replied, hfin]
  simp

section
variable {s : State} {h : CmdRef} {step : Word64}

/-- The flags of a seal: not mirrored, no update. -/
def sealFlags (s : State) (c : Nat) : Nat := b2n (!mirrored s c) + 2 * b2n (stepOf s c).own.isNone

/-- The state in which a seal has been recorded, before the waits for it end. -/
theorem sealNow_eq (c : Nat) (s : State) : ∃ u, sealNow c s = finishWaits (fun r => r.ctx == c && r.wait == .sealing) stOk (fun _ => stateDigest (stepOf s c)) u ∧
    u.ctl.journal = s.ctl.journal ∧ u.mem = s.mem ∧ (c < 256 → stepSt u c = 3) ∧
    (stepOf u c).sealed = some (stepNo s c, rget s .stepCtxAttempt_attempt c, stateDigest (stepOf s c), sealFlags s c) ∧
    .vc7 "SEAL" (mySteward s) [sliceId s, ownRoster s, c, stepNo s c, rget s .stepCtxAttempt_attempt c, stateDigest (stepOf s c), sealFlags s c] ∈ u.io.outbox := by
  refine ⟨_, rfl, ?_, ?_, fun hc => ?_, ?_, ?_⟩
  · split <;> simp
  · split <;> simp
  · exact regAt_rset_same _ _ (show c < fldCount .stepCtxState_state from hc)
  · simp only [stepOf, emit_st, rset_st]
    split <;> simp [modStep, stepOf, sealFlags]
  · simp [emit, sealFlags]

/-- The record of the command that asks for the seal, and the other waits of the journal. -/
theorem sealing_record {l : List Rec} (hm : mayRun 0x34 h s = true) (hl : started 0x34 h s = setJournal l s) {n : Nat} :
    let v := mapRecs (isRec h.q h.seq.toNat) (fun r => { r with step := n }) (waitFor h .sealing (setJournal l s))
    ∃ r, findRec v h.q h.seq.toNat = some r ∧ r.state = .issued ∧ r.again = none ∧ r.wait = .sealing ∧ r.ctx = h.ctx ∧
      ∀ y ∈ v.ctl.journal, y.wait = .update → ∃ x ∈ s.ctl.journal, x.ctx = y.ctx ∧ x.state = y.state ∧ x.wait = .update := by
  intro v
  obtain ⟨r, hr, hst, -, hag, -, -, -, hctx, -⟩ := started_rec _ h s hm
  rw [hl] at hr
  have hw := findRec_mapRecs (setJournal l s) h.q h.seq.toNat (fun r => if r.state = .issued then { r with wait := .sealing } else r) r hr
    (by simp [hst]) (by simp [hst]) (by simp [hst])
  rw [if_pos hst] at hw
  have hn := findRec_mapRecs (waitFor h .sealing (setJournal l s)) h.q h.seq.toNat (fun r => { r with step := n }) _ hw rfl rfl (by simp [hst])
  refine ⟨_, hn, hst, hag, rfl, hctx, fun y hy hyw => ?_⟩
  obtain ⟨z, hz, hyc, hys, hyz⟩ : ∃ z ∈ (waitFor h .sealing (setJournal l s)).ctl.journal, z.ctx = y.ctx ∧ z.state = y.state ∧ z.wait = y.wait := by
    obtain ⟨z, hz, rfl⟩ := List.mem_map.1 hy
    refine ⟨z, hz, ?_⟩
    split <;> exact ⟨rfl, rfl, rfl⟩
  obtain ⟨x, hx, hxc, hxs, hxw⟩ : ∃ x ∈ l, x.ctx = z.ctx ∧ x.state = z.state ∧ (z.wait = .update → x.wait = .update) := by
    obtain ⟨x, hx, rfl⟩ := List.mem_map.1 hz
    refine ⟨x, hx, ?_⟩
    split
    · dsimp only
      split
      · exact ⟨rfl, rfl, fun h => by simp at h⟩
      · exact ⟨rfl, rfl, id⟩
    · exact ⟨rfl, rfl, id⟩
  have hmem : x ∈ s.ctl.journal ∨ x = directRec s 0x34 h := by
    have : x ∈ (started 0x34 h s).ctl.journal := by rw [hl]; exact hx
    unfold started at this
    split at this
    · exact (List.mem_append.1 this).imp_right List.mem_singleton.1
    · exact .inl this
  have hxu := hxw (hyz.trans hyw)
  exact ⟨x, hmem.resolve_right fun he => by rw [he] at hxu; exact absurd hxu (by simp [directRec]), hxc.trans hyc, hxs.trans hys, hxu⟩

theorem stepSeal_seals (hc : h.ctx < 256) (hm : mayRun 0x34 h s = true) (ho : stepOpenSt s h.ctx = true) (hn : step.toNat = stepNo s h.ctx)
    (hs : stepSt s h.ctx ≠ 3) (hown : ∀ p, (stepOf s h.ctx).own = some p → p.ended = true)
    (hu : ∀ r ∈ s.ctl.journal, ¬(r.ctx = h.ctx ∧ r.state = .issued ∧ r.wait = .update)) (hp : shardPending s h.ctx = false) :
    leadsTo (.stepSeal h step) s (fun t => replied h 0x0000 (stateDigest (stepOf s h.ctx)) t = true ∧ stepSt t h.ctx = 3 ∧ t.mem = s.mem ∧
      (∃ fl, (stepOf t h.ctx).sealed = some (step.toNat, rget s .stepCtxAttempt_attempt h.ctx, stateDigest (stepOf s h.ctx), fl)) ∧
      ∃ m ∈ t.io.outbox, ∃ l, m = .vc7 "SEAL" (mySteward s) (sliceId s :: ownRoster s :: h.ctx :: step.toNat :: l)) := by
  refine leadsTo_runCmd rfl hm fun l hl => ?_
  have hrefuse : (!stepOpenSt (setJournal l s) h.ctx || decide (step.toNat ≠ stepNo (setJournal l s) h.ctx) || stepSt (setJournal l s) h.ctx == 3) = false := by
    have h1 : stepOpenSt (setJournal l s) h.ctx = true := ho
    have h2 : step.toNat = stepNo (setJournal l s) h.ctx := hn
    have h3 : (stepSt (setJournal l s) h.ctx == 3) = false := beq_eq_false_iff_ne.2 hs
    rw [h1, h3, ← h2]; simp
  obtain ⟨r, hr, hri, hra, hrw, hrc, hall⟩ := sealing_record hm hl
  dsimp only
  rw [hrefuse, if_neg (by decide)]
  generalize hv : mapRecs (isRec h.q h.seq.toNat) (fun r => { r with step := stepNo (setJournal l s) h.ctx }) (waitFor h .sealing (setJournal l s)) = v at hr hall
  have hvs : v.st = s.st ∧ v.regs = s.regs ∧ v.mem = s.mem ∧ v.fab = s.fab ∧ v.har = s.har := by rw [← hv]; exact ⟨rfl, rfl, rfl, rfl, rfl⟩
  obtain ⟨hvst, hvr, hvm, hvf, hvh⟩ := hvs
  have hx : stepOf v h.ctx = stepOf s h.ctx := by rw [stepOf, hvst]; rfl
  have hcheck : sealCheck h.ctx v = sealNow h.ctx v := by
    refine if_pos ?_
    have h1 : v.ctl.journal.any (fun r => r.ctx == h.ctx && r.state == .issued && r.wait == .sealing) = true :=
      List.any_eq_true.2 ⟨r, List.mem_of_find?_eq_some hr, by simp [hri, hrw, hrc]⟩
    have h2 : (stepOf v h.ctx).own.elim true (·.ended) = true := by
      rw [hx]
      cases he : (stepOf s h.ctx).own with
      | none => rfl
      | some p => exact hown p he
    have h3 : v.ctl.journal.any (fun r => r.ctx == h.ctx && r.state == .issued && r.wait == .update) = false :=
      List.any_eq_false.2 fun y hy hb => by
        simp only [Bool.and_eq_true, beq_iff_eq] at hb
        obtain ⟨x, hxm, hxc, hxs, hxw⟩ := hall y hy hb.2
        exact hu x hxm ⟨hxc.trans hb.1.1, hxs.trans hb.1.2, hxw⟩
    have h4 : shardPending v h.ctx = false := by rw [← hp, shardPending, hvh]; rfl
    rw [h1, h2, h3, h4]
    rfl
  obtain ⟨u, hsu, huj, hum, hust, huse, hout⟩ := sealNow_eq h.ctx v
  rw [hcheck, hsu]
  refine ⟨?_, (hust hc), hum.trans hvm, ⟨sealFlags v h.ctx, ?_⟩, _, hout, [rget v .stepCtxAttempt_attempt h.ctx, stateDigest (stepOf v h.ctx), sealFlags v h.ctx], ?_⟩
  · rw [← hx]
    exact finishWaits_replied_rec (det := fun _ => stateDigest (stepOf v h.ctx)) hr hri hra (by simp [hrw, hrc]) huj
  · rw [hn]
    refine huse.trans ?_
    rw [hx, stepNo, rget_eq, rget_eq, hvr]
    rfl
  · simp only [hn, mySteward, stewardOf, primaryOf, rosterList, sliceId, mySlice, ownRoster, stepNo, hasPosition, rget_eq, hvr, hvf]

end

section
variable {s : State} {h : CmdRef} {step : Word64}

/-! ### STEP_COMMIT_WAIT -/

theorem stepCommitWait_committed (hm : mayRun 0x35 h s = true) (hn : step.toNat ≤ rget s .stepCtxCommitted_step h.ctx) :
    leadsTo (.stepCommitWait h step) s (fun t => replied h 0x0000 (commitSeq s h.ctx) t = true ∧ onlyJournal s t) :=
  leadsTo_answered rfl hm fun l => if_pos hn

theorem stepCommitWait_abandoned (hm : mayRun 0x35 h s = true) (hd : rget s .stepCtxCommitted_step h.ctx < step.toNat) (hn : step.toNat < stepNo s h.ctx) :
    leadsTo (.stepCommitWait h step) s (fun t => replied h 0x0032 0 t = true ∧ onlyJournal s t) :=
  leadsTo_answered rfl hm fun l => (if_neg (Nat.not_le.2 hd)).trans (if_pos hn)

theorem stepCommitWait_waits (hm : mayRun 0x35 h s = true) (hd : rget s .stepCtxCommitted_step h.ctx < step.toNat) (hn : stepNo s h.ctx ≤ step.toNat) :
    leadsTo (.stepCommitWait h step) s (fun t => waitsOn h (.commitWait step.toNat) t = true ∧ onlyJournal s t) :=
  leadsTo_waiting rfl hm fun l => (if_neg (Nat.not_le.2 hd)).trans (if_neg (Nat.not_lt.2 hn))

/-! ### STEP_ABORT -/

/-- The journal is changed record by record: numbers, delivered records and the records for which `p` holds are kept. -/
def RecsMove (p : Rec → Prop) (s t : State) : Prop :=
  ∃ g : Rec → Rec, t.ctl.journal = s.ctl.journal.map g ∧
    ∀ y, (g y).q = y.q ∧ (g y).seq = y.seq ∧ (y.state = .completed → (g y).state = .completed) ∧ (p y → g y = y)

theorem RecsMove.of_eq {p : Rec → Prop} {s t : State} (h : t.ctl.journal = s.ctl.journal) : RecsMove p s t :=
  ⟨id, by rw [h, List.map_id], fun _ => ⟨rfl, rfl, id, fun _ => rfl⟩⟩

theorem RecsMove.trans {p : Rec → Prop} {s t u : State} (h : RecsMove p s t) (k : RecsMove p t u) : RecsMove p s u := by
  obtain ⟨g, hg, hg'⟩ := h
  obtain ⟨f, hf, hf'⟩ := k
  refine ⟨f ∘ g, by rw [hf, hg, List.map_map], fun y => ?_⟩
  obtain ⟨h1, h2, h3, h4⟩ := hg' y
  obtain ⟨k1, k2, k3, k4⟩ := hf' (g y)
  exact ⟨k1.trans h1, k2.trans h2, fun hc => k3 (h3 hc), fun hy => by
    rw [Function.comp_apply, k4 (by rw [h4 hy]; exact hy), h4 hy]⟩

theorem RecsMove.findRec {p : Rec → Prop} {s t : State} {q n : Nat} {r : Rec} (h : RecsMove p s t) (hr : findRec s q n = some r) (hp : p r)
    (hs : r.state ≠ .completed) : findRec t q n = some r := by
  obtain ⟨g, hg, hg'⟩ := h
  have hrr : g r = r := (hg' r).2.2.2 hp
  have := findRec_changed g hg hr (fun y => ⟨(hg' y).1, (hg' y).2.1, (hg' y).2.2.1⟩) (by rw [hrr]; exact hs)
  rwa [hrr] at this

/-- Records that are issued again, where no record that is kept is among them. -/
theorem RecsMove.reIssue {p : Rec → Prop} (s : State) (f : Rec → Bool) (hf : ∀ y, f y = true → y.state = .issued ∧ ¬ p y) :
    RecsMove p s (mapRecs f reIssue s) := by
  refine ⟨fun y => if f y then Machine.reIssue y else y, rfl, fun y => ?_⟩
  dsimp only
  split
  · next h =>
    obtain ⟨hs, hp⟩ := hf y h
    simp [Machine.reIssue, hs, hp]
  · exact ⟨rfl, rfl, id, fun _ => rfl⟩

theorem Loose.withRuns {F : List Fld} {s t : State} (h : Loose F s t) (g : Graphs) (o : SMap Engine) : Loose F s { t with gr := g, oct := o } :=
  ⟨h.regs, h.events, h.outbox, h.ctxs, h.mem, h.st, h.fab, h.har, h.boot⟩

/-- Runs taken back: their commands are issued again, engines and what waits for them end. -/
theorem removeRuns_frame {F : List Fld} (hF : spareFlds ⊆ F) (p : Run → Bool) (s : State) :
    Loose F s (removeRuns p s) ∧ RecsMove (fun r => r.wait = .none) s (removeRuns p s) := by
  refine List.foldlRecOn _ _ (motive := fun t => Loose F s t ∧ RecsMove (fun r => r.wait = .none) s t) ⟨Loose.rfl, .of_eq rfl⟩ fun t ht n _ => ?_
  have hd := (Spared.rfl (F := F) (s := { t with gr := { t.gr with runs := sdel t.gr.runs n }, oct := t.oct.filter (fun x => x.2.run != n) })).dropEngines hF
    (fun _ x => x.run == n)
  have hl : Loose F t (removeRun n t) := by
    have h1 := (Loose.rfl (F := F) (s := t)).withRuns { t.gr with runs := sdel t.gr.runs n } (t.oct.filter (fun x => x.2.run != n))
    have h2 := h1.trans hd.toLoose
    exact ⟨h2.regs, h2.events, h2.outbox, h2.ctxs, h2.mem, h2.st, h2.fab, h2.har, h2.boot⟩
  refine ⟨ht.1.trans hl, ht.2.trans ?_⟩
  refine RecsMove.trans (.of_eq hd.journal) (.reIssue _ _ fun y hy => ?_)
  simp only [Bool.and_eq_true, beq_iff_eq] at hy
  exact ⟨hy.1, by rw [hy.2]; exact Wait.noConfusion⟩

theorem stepAbort_refused (hm : mayRun 0x36 h s = true) (hn : step.toNat ≠ stepNo s h.ctx) :
    leadsTo (.stepAbort h step) s (fun t => replied h 0x0016 0 t = true ∧ onlyJournal s t) :=
  leadsTo_answered rfl hm fun l => if_pos (by
    have : step.toNat ≠ stepNo (setJournal l s) h.ctx := hn
    simp [this])

/-- A pass that is stopped leaves its pending ranges undefined, and nothing else. -/
theorem smearPass_eq (v : PassEnv) (p : Pass) (s : State) : ∃ m n, smearPass v p s = { s with mem := m, free := n } := by
  unfold smearPass
  split
  · exact ⟨s.mem, s.free, rfl⟩
  · refine List.foldlRecOn _ _ (motive := fun t : State => ∃ m n, t = { s with mem := m, free := n }) ⟨s.mem, s.free, rfl⟩ fun t ht x _ => ?_
    split
    · exact ht
    · refine List.foldlRecOn _ _ (motive := fun t : State => ∃ m n, t = { s with mem := m, free := n }) ht fun u hu y _ => ?_
      obtain ⟨m, n, rfl⟩ := hu
      exact ⟨_, _, rfl⟩

/-- The passes, the exchange and the seal of a step are given up; registers, messages and the journal are kept. -/
theorem discard_frame (c : Nat) (s : State) :
    let t := stopExchange c (discardMir c (discardOwn c s))
    t.regs = s.regs ∧ t.io = s.io ∧ t.ctl = s.ctl ∧ (stepOf t c).own = none ∧ (stepOf t c).xch = none ∧ (stepOf t c).sealed = none := by
  have hown : ∀ u : State, ∃ m n, discardOwn c u = modStep c (fun x => { x with own := none, report := none, sealed := none }) { u with mem := m, free := n } :=
    fun u => by
      unfold discardOwn
      split
      · next p _ => obtain ⟨m, n, hm⟩ := smearPass_eq (ownEnv u c p) p u; rw [hm]; exact ⟨m, n, rfl⟩
      · exact ⟨u.mem, u.free, rfl⟩
  have hmir : ∀ u : State, ∃ m n, discardMir c u = modStep c (fun x => { x with mir := none }) { u with mem := m, free := n } :=
    fun u => by
      unfold discardMir
      split
      · next p _ => obtain ⟨m, n, hm⟩ := smearPass_eq (mirEnv u c p) p u; rw [hm]; exact ⟨m, n, rfl⟩
      · exact ⟨u.mem, u.free, rfl⟩
  intro t
  obtain ⟨m1, n1, h1⟩ := hown s
  obtain ⟨m2, n2, h2⟩ := hmir (discardOwn c s)
  have h3 : stepOf (discardOwn c s) c = { stepOf s c with own := none, report := none, sealed := none } := by rw [h1]; exact stepOf_modStep_of rfl
  have h4 : stepOf (discardMir c (discardOwn c s)) c = { stepOf (discardOwn c s) c with mir := none } := by rw [h2]; exact stepOf_modStep_of rfl
  have h5 : ∃ a, stepOf t c = { stepOf (discardMir c (discardOwn c s)) c with xch := none, agreed := a } := ⟨_, stepOf_modStep_of rfl⟩
  obtain ⟨a, h5⟩ := h5
  have ht : t.regs = (discardMir c (discardOwn c s)).regs ∧ t.io = (discardMir c (discardOwn c s)).io ∧ t.ctl = (discardMir c (discardOwn c s)).ctl :=
    ⟨rfl, rfl, rfl⟩
  rw [h2, h1] at ht
  rw [h5, h4, h3]
  exact ⟨ht.1, ht.2.1, ht.2.2, rfl, rfl, rfl⟩

/-- R251: what the abort of the open step leaves. -/
theorem abort4_spec {c o : Nat} (hc : c < 256) (ho : stepOpenSt s c = true) :
    s.io.outbox <+: (abort4 c o s).io.outbox ∧ RecsMove (fun r => r.wait = .none ∧ (r.state ≠ .issued ∨ r.opcode = 0x36)) s (abort4 c o s) ∧
    stepSt (abort4 c o s) c = 5 ∧ rget (abort4 c o s) .stepCtxState_agreed c = 0 ∧
    (stepOf (abort4 c o s) c).own = none ∧ (stepOf (abort4 c o s) c).xch = none ∧ (stepOf (abort4 c o s) c).sealed = none := by
  obtain ⟨hloose, hmove⟩ := removeRuns_frame (F := spareFlds) (fun _ h => h) (fun r => r.ctx == c && r.stepFlag) s
  unfold abort4
  rw [ho, if_neg (by decide)]
  dsimp only
  generalize removeRuns (fun r => r.ctx == c && r.stepFlag) s = s1 at hloose hmove
  obtain ⟨hr, hio, hctl, hown, hxch, hseal⟩ := discard_frame c s1
  generalize stopExchange c (discardMir c (discardOwn c s1)) = s2 at hr hio hctl hown hxch hseal
  generalize hs3 : modStep c (fun x => { x with mbFault := [], repairs := [], mirBad := false }) s2 = s3
  have h3 : stepOf s3 c = { stepOf s2 c with mbFault := [], repairs := [], mirBad := false } := by rw [← hs3]; exact stepOf_modStep_of rfl
  have h3c : s3.ctl = s1.ctl ∧ s3.io = s1.io ∧ s3.regs = s1.regs := by rw [← hs3]; exact ⟨hctl, hio, hr⟩
  generalize hs4 : mapRecs (fun r => ofStep s c r && r.state == .issued && r.opcode != 0x36) reIssue s3 = s4
  have h4 : RecsMove (fun r => r.wait = .none ∧ (r.state ≠ .issued ∨ r.opcode = 0x36)) s3 s4 := by
    rw [← hs4]
    refine .reIssue _ _ fun y hy => ?_
    simp only [Bool.and_eq_true, beq_iff_eq, bne_iff_ne] at hy
    exact ⟨hy.1.2, fun h => h.2.elim (fun h => h hy.1.2) hy.2⟩
  have h4k : s4.st = s3.st ∧ s4.io = s3.io ∧ s4.regs = s3.regs := by rw [← hs4]; exact ⟨rfl, rfl, rfl⟩
  have hk : ∀ u : State, Told [.stepCtxState_level] u (replayEvent 4 c 0xFFFF o u) := fun u => Told.rfl.replayEvent (by decide) ..
  have hkst : ∀ u : State, (replayEvent 4 c 0xFFFF o u).st = u.st ∧ (replayEvent 4 c 0xFFFF o u).ctl.journal = u.ctl.journal := fun u => by
    simp [replayEvent]
  have hst : stepOf (replayEvent 4 c 0xFFFF o (rset .stepCtxState_agreed c 0 (rset .stepCtxState_state c 5 s4))) c = stepOf s3 c := by
    rw [stepOf, (hkst _).1, rset_st, rset_st, h4k.1]; rfl
  have hw : RecsMove (fun r => r.wait = .none ∧ (r.state ≠ .issued ∨ r.opcode = 0x36)) s s1 := by
    obtain ⟨g, hg, hg'⟩ := hmove
    exact ⟨g, hg, fun y => ⟨(hg' y).1, (hg' y).2.1, (hg' y).2.2.1, fun h => (hg' y).2.2.2 h.1⟩⟩
  refine ⟨?_, ?_, ?_, ?_, ?_, ?_, ?_⟩
  · refine hloose.outbox.trans ?_
    rw [← h3c.2.1, ← h4k.2.1]
    have hout := (hk (rset .stepCtxState_agreed c 0 (rset .stepCtxState_state c 5 s4))).outbox
    rwa [rset_io, rset_io] at hout
  · refine (hw.trans (.of_eq (by rw [h3c.1]))).trans (h4.trans (.of_eq ?_))
    rw [(hkst _).2]; simp
  · refine ((hk _).regs _ _ rfl (by decide)).trans ((regAt_rset_other _ _ _ _ (by decide)).trans ?_)
    exact regAt_rset_same _ _ (show c < fldCount .stepCtxState_state from hc)
  · refine ((hk _).regs _ _ rfl (by decide)).trans ?_
    exact regAt_rset_same _ _ (show c < fldCount .stepCtxState_agreed from hc)
  · rw [hst, h3]; exact hown
  · rw [hst, h3]; exact hxch
  · rw [hst, h3]; exact hseal

theorem stepAbort_aborts (hc : h.ctx < 256) (hm : mayRun 0x36 h s = true) (ho : stepOpenSt s h.ctx = true) (hn : step.toNat = stepNo s h.ctx) :
    leadsTo (.stepAbort h step) s (fun t => replied h 0x0000 0 t = true ∧ stepSt t h.ctx = 5 ∧ rget t .stepCtxState_agreed h.ctx = 0 ∧
      (stepOf t h.ctx).own = none ∧ (stepOf t h.ctx).xch = none ∧ (stepOf t h.ctx).sealed = none ∧
      .vc7 "STEP_ABORT" (mySteward s) [ownRoster s, h.ctx, step.toNat] ∈ t.io.outbox) := by
  refine leadsTo_runCmd rfl hm fun l hl => ?_
  obtain ⟨r, hr, hst, hrw, hag, -, -, hop, -, -⟩ := started_rec _ h s hm
  rw [hl] at hr
  have hgo : (!stepOpenSt (setJournal l s) h.ctx || decide (step.toNat ≠ stepNo (setJournal l s) h.ctx)) = false := by
    have h1 : stepOpenSt (setJournal l s) h.ctx = true := ho
    have h2 : step.toNat = stepNo (setJournal l s) h.ctx := hn
    rw [h1, ← h2]; simp
  rw [hgo, if_neg (by decide)]
  generalize hv : emit (.vc7 "STEP_ABORT" (mySteward (setJournal l s)) [ownRoster (setJournal l s), h.ctx, step.toNat]) (setJournal l s) = v
  have hvo : stepOpenSt v h.ctx = true := by rw [← hv]; exact ho
  have hvr : findRec v h.q h.seq.toNat = some r := by rw [← hv]; exact hr
  have hve : .vc7 "STEP_ABORT" (mySteward s) [ownRoster s, h.ctx, step.toNat] ∈ v.io.outbox := by
    rw [← hv]
    exact List.mem_append_right _ List.mem_cons_self
  obtain ⟨h1, h2, h3, h4, h5, h6, h7⟩ := abort4_spec (s := v) (o := ownRoster (setJournal l s)) hc hvo
  exact ⟨finish_replied h _ _ _ r (h2.findRec hvr ⟨hrw, .inr hop⟩ (by rw [hst]; decide)) hst hag, h3, h4, h5, h6, h7, h1.subset hve⟩

end

/-- Settles O35: STEP_SEAL by what has still to end, STEP_COMMIT_WAIT by the step's number, STEP_ABORT by what the abort leaves. -/
theorem sealWaitAbort : Obligations.SealWaitAbort := by
  intro h s step hc
  exact ⟨fun hm ho hn hs hown hu hp => stepSeal_seals hc hm ho hn hs hown hu hp,
    fun hm => ⟨stepCommitWait_committed hm, stepCommitWait_abandoned hm, stepCommitWait_waits hm⟩,
    fun hm => ⟨stepAbort_aborts hc hm, stepAbort_refused hm⟩⟩

end Sys2Proof.Machine
end

section
/-! PROOFS. The commit round: seals at the primary, COMMIT at a member, commit records and lateness reports at a steward
(R226, R247, R248). -/

namespace Sys2Proof.Machine

/-! ### What notes and messages leave -/

/-- `t` is `s` with more events and messages: of the register fields only those of `F` and the tallies may differ. -/
structure Said (F : List Fld) (s t : State) : Prop where
  regs : ∀ f i, f.tally = false → f ∉ F → regAt t.regs f i = regAt s.regs f i
  events : s.io.events <:+ t.io.events
  outbox : s.io.outbox <+: t.io.outbox

/-- Besides, memory, the step machinery and the journal are kept. -/
structure Kept (F : List Fld) (s t : State) : Prop extends Said F s t where
  mem : t.mem = s.mem
  st : t.st = s.st
  journal : t.ctl.journal = s.ctl.journal

theorem Told.said {F : List Fld} {s t : State} (h : Told F s t) : Said F s t := ⟨h.regs, h.events, h.outbox⟩

theorem Said.rfl {F : List Fld} {s : State} : Said F s s := Told.rfl.said

theorem Said.trans {F : List Fld} {s t u : State} (h : Said F s t) (k : Said F t u) : Said F s u :=
  ⟨fun f i hf hn => (k.regs f i hf hn).trans (h.regs f i hf hn), h.events.trans k.events, h.outbox.trans k.outbox⟩

theorem Said.mono {F G : List Fld} {s t : State} (h : Said F s t) (hg : F ⊆ G) : Said G s t :=
  { h with regs := fun f i hf hn => h.regs f i hf fun hm => hn (hg hm) }

theorem Kept.rfl {F : List Fld} {s : State} : Kept F s s := ⟨Said.rfl, Eq.refl _, Eq.refl _, Eq.refl _⟩

theorem Kept.trans {F : List Fld} {s t u : State} (h : Kept F s t) (k : Kept F t u) : Kept F s u :=
  ⟨h.toSaid.trans k.toSaid, k.mem.trans h.mem, k.st.trans h.st, k.journal.trans h.journal⟩

theorem Kept.mono {F G : List Fld} {s t : State} (h : Kept F s t) (hg : F ⊆ G) : Kept G s t := { h with toSaid := h.toSaid.mono hg }

theorem Said.reported {F : List Fld} {s t u : State} {code c : Nat} (k : Said F t u) (h : reported s t code c) : reported s u code c := by
  obtain ⟨l, hl, ev, hev, hc⟩ := h
  obtain ⟨m, hm⟩ := k.events
  exact ⟨m ++ l, by rw [← hm, hl, List.append_assoc], ev, by simp [hev], hc⟩

theorem Kept.answered {F : List Fld} {s t : State} {r : Rec} {st d : Nat} (k : Kept F s t) (h : answered s r st d) : answered t r st d :=
  h.of_journal k.journal

section
variable {F : List Fld} {s t : State} (h : Kept F s t)
include h

theorem Kept.rset {f : Fld} (hf : f.tally = true ∨ f ∈ F) (i v : Nat) : Kept F s (rset f i v t) :=
  h.trans ⟨(Told.rfl.rset hf ..).said, by simp, by simp, by simp⟩

theorem Kept.rflag {f : Fld} (hf : f ∈ F) (i : Nat) : Kept F s (rflag f i t) := h.rset (.inr hf) ..

theorem Kept.count {f : Fld} (hf : f ∈ F) (i n : Nat) : Kept F s (count f i n t) :=
  h.trans ⟨(Told.rfl.count (.inr hf) ..).said, by simp, by simp, by simp⟩

theorem Kept.count1 {f : Fld} (hf : f ∈ F) (i : Nat) : Kept F s (count1 f i t) := h.count hf ..

theorem Kept.raiseBoth (code src c det : Nat) : Kept F s (raiseBoth code src c det t) :=
  h.trans ⟨(Told.rfl.raiseBoth ..).said, by simp, by simp, by simp⟩

theorem Kept.raise0 (code src det : Nat) : Kept F s (raise0 code src det t) := h.trans ⟨(Told.rfl.raise0 ..).said, by simp, by simp, by simp⟩

theorem Kept.raiseC (code src c det : Nat) : Kept F s (raiseC code src c det t) := h.trans ⟨(Told.rfl.raiseC ..).said, by simp, by simp, by simp⟩

theorem Kept.emit (m : OutMsg) : Kept F s (emit m t) := h.trans ⟨(Told.rfl.emit _).said, Eq.refl _, Eq.refl _, Eq.refl _⟩

theorem Kept.ite {u : State} {p : Prop} [Decidable p] (k : Kept F s u) : Kept F s (if p then t else u) := by split <;> assumption

theorem Kept.foldl {α : Type} {f : State → α → State} (hf : ∀ t a, Kept F s t → Kept F s (f t a)) (l : List α) : Kept F s (l.foldl f t) :=
  List.foldlRecOn _ _ (motive := Kept F s) h fun t ht a _ => hf t a ht

/-- A further update of what the relation does not speak of. -/
theorem Kept.of_eq {u : State} (hr : u.regs = t.regs) (hi : u.io = t.io) (hm : u.mem = t.mem) (hs : u.st = t.st)
    (hj : u.ctl.journal = t.ctl.journal) : Kept F s u :=
  h.trans ⟨⟨fun _ _ _ _ => by rw [hr], by rw [hi], by rw [hi]⟩, hm, hs, hj⟩

end

theorem toTwin_kept (c : Nat) (kd : MKind) (a n x : Nat) (b : List Byte) (d : Nat) (s : State) :
    Kept [.fdieMirrorBytes_units] s (toTwin c kd a n x b d s) := by
  obtain ⟨h1, h2, h3, h4⟩ := toTwin_aside (F := [.fdieMirrorBytes_units]) (by decide) c kd a n x b d s
  exact ⟨h1.said, h2, h3, h4⟩

theorem modCtx_kept (c : Nat) (f : Ctx → Ctx) (s : State) : Kept [] s (modCtx c f s) := by
  unfold modCtx
  split
  · exact Kept.rfl.of_eq rfl rfl rfl rfl rfl
  · exact Kept.rfl

theorem modQueue_kept (q : Nat) (f : Queue → Queue) (s : State) : Kept [] s (modQueue q f s) := by
  unfold modQueue
  split
  · exact Kept.rfl.of_eq rfl rfl rfl rfl rfl
  · exact Kept.rfl

/-- R64: what the return of the twin's acknowledgements changes is contexts and queues. -/
theorem twinBack_kept (c : Nat) (s : State) : Kept [] s (twinBack c s) :=
  Kept.foldl (modCtx_kept ..) (fun _ _ hu => hu.trans (modQueue_kept ..)) _

/-! ### The end of a mirror binding -/

/-- The step machinery of a context whose binding with its twin has ended. -/
def unbound (x : StepCtx) : StepCtx :=
  { x with twin := none, peerBind := none, bankHeld := false, bankSent := false, mir := none, adopted := none, descSent := none, descGot := none,
           gradMap := [], gradOff := 0, inOff := 0, inMap := [], repairs := [] }

/-- The fields that say that a context is mirrored. -/
def mirFlds : List Fld := [.stepCtxState_mirrored, .stepCtxState_sameTray, .fdieMirrorBytes_units]

theorem mirrored_of_regs {s t : State} {c : Nat} (h : regAt t.regs .stepCtxState_mirrored c = regAt s.regs .stepCtxState_mirrored c) :
    mirrored t c = mirrored s c := by
  rw [mirrored, rget_eq, h]; rfl

/-- The binding taken apart: the step machinery of the context, and the partner's journal records that were kept for it. -/
def unboundState (c : Nat) (s : State) : State :=
  let s1 := modStep c unbound s
  { s1 with ctl := { s1.ctl with partner := s1.ctl.partner.filter (fun r => !(r.2.1 == c && (stepOf s c).twin == some r.1)) } }

theorem unbind_eq (c : Nat) (s : State) : unbind c s =
    if mirrored s c then
      twinBack c (raiseBoth 0x0A07 9 c (pack [(0, 1, 0), (16, 14, (stepOf s c).twin.getD 0)])
        (rset .stepCtxState_sameTray c 0 (rset .stepCtxState_mirrored c 0 (unboundState c s))))
    else twinBack c (unboundState c s) := (rfl)

theorem unboundState_frame (c : Nat) (s : State) : (unboundState c s).regs = s.regs ∧ (unboundState c s).io = s.io ∧
    (unboundState c s).mem = s.mem ∧ (unboundState c s).ctl.journal = s.ctl.journal ∧ stepOf (unboundState c s) c = unbound (stepOf s c) :=
  ⟨rfl, rfl, rfl, rfl, stepOf_modStep_of rfl⟩

theorem unbind_spec {c : Nat} (hc : c < 256) (s : State) : Said mirFlds s (unbind c s) ∧ (unbind c s).mem = s.mem ∧
    (unbind c s).ctl.journal = s.ctl.journal ∧ stepOf (unbind c s) c = unbound (stepOf s c) ∧ mirrored (unbind c s) c = false := by
  obtain ⟨hr, hi, hm, hj, hvs⟩ := unboundState_frame c s
  rw [unbind_eq]
  generalize unboundState c s = v at *
  suffices key : ∀ t, Kept mirFlds v t → mirrored t c = false → Said mirFlds s t ∧ t.mem = s.mem ∧
      t.ctl.journal = s.ctl.journal ∧ stepOf t c = unbound (stepOf s c) ∧ mirrored t c = false by
    have hback : ∀ u : State, regAt (twinBack c u).regs .stepCtxState_mirrored c = regAt u.regs .stepCtxState_mirrored c := fun u =>
      (twinBack_kept c u).regs _ _ rfl (by simp)
    split
    · refine key _ ((((Kept.rfl.rset (.inr (by decide)) ..).rset (.inr (by decide)) ..).raiseBoth ..).trans ((twinBack_kept ..).mono (by simp))) ?_
      rw [mirrored, rget_eq, hback, ((Told.rfl (F := [])).raiseBoth ..).regs _ _ rfl (by simp), regAt_rset_other _ _ _ _ (by decide),
        regAt_rset_same _ _ (show c < fldCount .stepCtxState_mirrored from hc)]
      rfl
    · next hmir =>
      refine key _ ((twinBack_kept ..).mono (by simp)) ?_
      rw [mirrored_of_regs (hback v), mirrored_of_regs (s := s) (by rw [hr])]
      simpa using hmir
  intro t hk hmir
  exact ⟨(Said.mk (fun _ _ _ _ => by rw [hr]) (by rw [hi]) (by rw [hi])).trans hk.toSaid, by rw [hk.mem, hm], by rw [hk.journal, hj],
    by rw [← hvs, stepOf, hk.st]; rfl, hmir⟩

/-- A waiting MIRROR_RELEASE ends the binding once no step is open, and nothing else does. -/
theorem releaseCheck_spec {c : Nat} (hc : c < 256) (s : State) : Said mirFlds s (releaseCheck c s) ∧ (releaseCheck c s).mem = s.mem ∧
    (stepOf (releaseCheck c s) c = stepOf s c ∨ stepOf (releaseCheck c s) c = unbound (stepOf s c)) ∧
    ∀ r st d, answered s r st d → answered (releaseCheck c s) r st d := by
  unfold releaseCheck
  split
  · exact ⟨.rfl, rfl, .inl rfl, fun _ _ _ h => h⟩
  · have hk := toTwin_kept c .release 0 0 0 [] 0 s
    obtain ⟨h1, h2, h3, h4, -⟩ := unbind_spec hc (toTwin c .release 0 0 0 [] 0 s)
    exact ⟨(hk.toSaid.mono (by simp [mirFlds])).trans (h1.trans ⟨fun _ _ _ _ => rfl, List.suffix_rfl, List.prefix_rfl⟩), h2.trans hk.mem,
      .inr (h4.trans (by rw [stepOf, hk.st]; rfl)), fun r st d h => h.finishWaits (h3.trans hk.journal)⟩

/-! ### The flip -/

/-- The fields of the numerics watch. -/
def watchFlds : List Fld := [.numwQuiet_firstGroup, .numwQuiet_reports, .numwStatus_quietSeen, .numwQuiet_seen, .numwStatus_offSeen,
  .numwNonfiniteCount_count, .numwPassCount_count]

theorem commitWatch_kept (c : Nat) (p : Pass) (fresh : Bool) (s : State) : Kept watchFlds s (commitWatch c p fresh s) := by
  have hgroup : ∀ u g, Kept watchFlds s u → Kept watchFlds s (quietGroup c p u g) := fun u g hu => by
    unfold quietGroup
    refine Kept.ite (Kept.raiseBoth (Kept.count1 (Kept.rflag (Kept.rflag (Kept.ite hu (hu.rset (.inr (by decide)) ..)) (by decide) _)
      (by decide) _) (by decide) _) ..) hu
  have hmode : ∀ u i, Kept watchFlds s u → Kept watchFlds s (modeChange c p fresh u i) := fun u i hu => by
    unfold modeChange
    exact Kept.ite (hu.raiseBoth ..) hu
  have h2 := Kept.foldl (Kept.foldl Kept.rfl hgroup (List.range p.desc.groups)) hmode (List.range p.desc.scales)
  unfold commitWatch
  dsimp only
  have h3 := h2.ite (p := p.watch.on = true) (h2.rflag (f := .numwStatus_offSeen) (by decide) 0)
  exact h3.ite ((h3.count (by decide) ..).raiseBoth ..)

/-- The fields that a flip writes. -/
def flipFlds : List Fld := watchFlds ++ mirFlds ++ [.stepCtxCommitted_step, .stepCommitSeq_seq, .stepCtxState_rot, .stepCtxState_state]

/-- What the numerics watch counts and reports of the passes that a flip commits. -/
def flipWatch (c : Nat) (x : StepCtx) (s : State) : State :=
  let passes := b2n (x.own.elim false (·.ended)) + b2n (x.mir.elim false (·.ended))
  let s3 := if passes = 0 then s else count .numwPassCount_count 0 passes s
  x.own.elim s3 (fun p => if p.ended then commitWatch c p x.fresh s3 else s3)

theorem flipWatch_kept (c : Nat) (x : StepCtx) (s : State) : Kept watchFlds s (flipWatch c x s) := by
  have h3 := Kept.rfl.ite (p := b2n (x.own.elim false (·.ended)) + b2n (x.mir.elim false (·.ended)) = 0) (Kept.rfl.count (F := watchFlds) (s := s)
    (f := .numwPassCount_count) (by decide) 0 (b2n (x.own.elim false (·.ended)) + b2n (x.mir.elim false (·.ended))))
  unfold flipWatch
  dsimp only
  generalize (if b2n (x.own.elim false (·.ended)) + b2n (x.mir.elim false (·.ended)) = 0 then s else _) = u at h3 ⊢
  cases x.own with
  | none => exact h3
  | some p => exact (h3.trans (commitWatch_kept ..)).ite h3

theorem flip_eq (c n : Nat) (s : State) : flip c n s = freeRecs (releaseCheck c (finishWaits (fun r => r.ctx == c && r.wait == .commitWait (stepNo s c)) stOk
    (fun _ => n) (raiseBoth 0x0A02 9 c (pack [(0, 32, rget s .stepCtxAttempt_attempt c), (32, 1, (stepOf s c).sealed.elim 0 (·.2.2.2) % 2),
      (33, 1, (stepOf s c).sealed.elim 0 (·.2.2.2) / 2)]) (flipWatch c (stepOf s c) (rset .stepCtxState_state c 0
      (rset .stepCtxCommitted_step c (stepNo s c) (rset .stepCommitSeq_seq c n (rset .stepCtxState_rot c (1 - rget s .stepCtxState_rot c)
        (modStep c flipCtx s))))))))) := by
  unfold flip flipWatch
  dsimp only
  cases (stepOf s c).own <;> rfl

/-- What a flip writes at once: the step machinery, the state, the committed step, the commit sequence number and the rotation. -/
theorem flipped {c n : Nat} {s s2 : State} (hc : c < 256) (hno : stepNo s c < 2 ^ 64) (hn : n < 2 ^ 64)
    (h : rset .stepCtxState_state c 0 (rset .stepCtxCommitted_step c (stepNo s c) (rset .stepCommitSeq_seq c n
      (rset .stepCtxState_rot c (1 - rget s .stepCtxState_rot c) (modStep c flipCtx s)))) = s2) :
    Said flipFlds s s2 ∧ stepOf s2 c = flipCtx (stepOf s c) ∧ s2.ctl.journal = s.ctl.journal ∧ regAt s2.regs .stepCtxState_state c = 0 ∧
    regAt s2.regs .stepCtxCommitted_step c = stepNo s c ∧ regAt s2.regs .stepCommitSeq_seq c = n ∧
    regAt s2.regs .stepCtxState_rot c = 1 - rget s .stepCtxState_rot c := by
  have h1 : c < fldCount .stepCtxState_state := hc
  have h2 : c < fldCount .stepCtxCommitted_step := hc
  have h3 : c < fldCount .stepCommitSeq_seq := hc
  have h4 : c < fldCount .stepCtxState_rot := hc
  subst h
  refine ⟨((((Told.rfl.modStep ..).rset (.inr (by decide)) ..).rset (.inr (by decide)) ..).rset (.inr (by decide)) ..).rset (.inr (by decide)) ..
    |>.said, ?_, by simp, ?_, ?_, ?_, ?_⟩
  · rw [← stepOf_modStep_of (s := s) (u := s) (c := c) (f := flipCtx) rfl]; simp [stepOf]
  · rw [regAt_rset_same _ _ h1]; rfl
  · rw [regAt_rset_other _ _ _ _ (by decide), regAt_rset_same _ _ h2]; exact Nat.mod_eq_of_lt hno
  · rw [regAt_rset_other _ _ _ _ (by decide), regAt_rset_other _ _ _ _ (by decide), regAt_rset_same _ _ h3]; exact Nat.mod_eq_of_lt hn
  · rw [regAt_rset_other _ _ _ _ (by decide), regAt_rset_other _ _ _ _ (by decide), regAt_rset_other _ _ _ _ (by decide), regAt_rset_same _ _ h4]
    exact Nat.mod_eq_of_lt (Nat.lt_of_le_of_lt (Nat.sub_le ..) (by decide))

theorem flip_spec {c n : Nat} (hc : c < 256) (s : State) (hno : stepNo s c < 2 ^ 64) (hn : n < 2 ^ 64) :
    Said flipFlds s (flip c n s) ∧ stepSt (flip c n s) c = 0 ∧ rget (flip c n s) .stepCtxCommitted_step c = stepNo s c ∧
    commitSeq (flip c n s) c = n ∧ rget (flip c n s) .stepCtxState_rot c = 1 - rget s .stepCtxState_rot c ∧
    (stepOf (flip c n s) c).sealed = none ∧ (stepOf (flip c n s) c).own = none ∧
    (stepOf (flip c n s) c).standOwn = (if (stepOf s c).own.elim false (·.ended) then 1 - (stepOf s c).standOwn else (stepOf s c).standOwn) ∧
    reported s (flip c n s) 0x0A02 c ∧ ∀ r, waiting s c (.commitWait (stepNo s c)) r → answered (flip c n s) r 0x0000 n := by
  rw [flip_eq]
  generalize hs2 : rset .stepCtxState_state c 0 (rset .stepCtxCommitted_step c (stepNo s c) (rset .stepCommitSeq_seq c n
    (rset .stepCtxState_rot c (1 - rget s .stepCtxState_rot c) (modStep c flipCtx s)))) = s2
  obtain ⟨hsaid, hst, hjr, h1, h2, h3, h4⟩ := flipped hc hno hn hs2
  have hk4 := flipWatch_kept c (stepOf s c) s2
  generalize flipWatch c (stepOf s c) s2 = s4 at hk4 ⊢
  generalize hd : pack _ = d
  have hk5 := hk4.raiseBoth 0x0A02 9 c d
  have hrep : reported s (raiseBoth 0x0A02 9 c d s4) 0x0A02 c := by
    obtain ⟨l, hl, ev, hev, hcode⟩ := raiseBoth_reported 0x0A02 9 c d s4
    obtain ⟨m, hm⟩ := (hsaid.trans (hk4.toSaid.mono (by simp [flipFlds]))).events
    exact ⟨l ++ m, by rw [hl, ← hm, List.append_assoc], ev, by simp [hev], hcode⟩
  generalize raiseBoth 0x0A02 9 c d s4 = s5 at hk5 hrep ⊢
  obtain ⟨k1, -, k3, k4⟩ := releaseCheck_spec hc (finishWaits (fun r => r.ctx == c && r.wait == .commitWait (stepNo s c)) stOk (fun _ => n) s5)
  generalize releaseCheck c _ = s7 at k1 k3 k4
  have k1 : Said mirFlds s5 s7 := ⟨k1.regs, k1.events, k1.outbox⟩
  have hs7 : Said (watchFlds ++ mirFlds) s2 s7 := (hk5.toSaid.mono (by simp)).trans (k1.mono (by simp))
  have hreg : ∀ f, f.tally = false → f ∉ watchFlds ++ mirFlds → regAt s7.regs f c = regAt s2.regs f c := fun f => hs7.regs f c
  have hstep : stepOf s7 c = flipCtx (stepOf s c) ∨ stepOf s7 c = unbound (flipCtx (stepOf s c)) := by
    have : stepOf (finishWaits (fun r => r.ctx == c && r.wait == .commitWait (stepNo s c)) stOk (fun _ => n) s5) c = flipCtx (stepOf s c) := by
      rw [← hst, stepOf, finishWaits_st, hk5.st]; rfl
    rwa [this] at k3
  have hpart : (stepOf s7 c).sealed = none ∧ (stepOf s7 c).own = none ∧ (stepOf s7 c).standOwn = (flipCtx (stepOf s c)).standOwn := by
    rcases hstep with h | h <;> rw [h] <;> exact ⟨rfl, rfl, rfl⟩
  have hall := hsaid.trans (hs7.mono (G := flipFlds) (by simp [flipFlds]))
  have hrep7 := k1.reported hrep
  refine ⟨⟨hall.regs, hall.events, hall.outbox⟩, (hreg _ rfl (by decide)).trans h1, (hreg _ rfl (by decide)).trans h2,
    (hreg _ rfl (by decide)).trans h3, (hreg _ rfl (by decide)).trans h4, hpart.1, hpart.2.1, hpart.2.2, hrep7, ?_⟩
  intro r ⟨hr, hrc, hrs, hrw, hra⟩
  obtain ⟨y, hy, hq, hs, hyst, hyr⟩ := k4 r _ _ (answered_finishWaits (det := fun _ => n) (st := 0) (hk5.journal.trans hjr) hr hrs hra (by simp [hrc, hrw]))
  exact ⟨y, mem_freeRecs hy (by rw [hyst]; decide), hq, hs, hyst, hyr⟩

/-- The fields that ageing of the Equinox share and the health score write (R302, R371). -/
def scoreFlds : List Fld := [.pwrBudget_shareW, .pwrBudget_budgetW, .cohortPenalty_pMargin, .cohortPenalty_pPool, .cohortPenalty_pSpare,
  .cohortPenalty_pRep, .cohortPenalty_pDet, .cohortPenalty_pErr, .cohortHealth_score]

theorem ageShare_kept (s : State) : Kept scoreFlds s (ageShare s) := by
  unfold ageShare
  dsimp only
  split
  · exact Kept.rfl.of_eq rfl rfl rfl rfl rfl
  · exact ((Kept.rfl.of_eq (F := scoreFlds) (s := s) (t := s) (u := { s with pow := { s.pow with share := 0, shareAge := s.pow.shareAge + 1 } })
      rfl rfl rfl rfl rfl).rset (.inr (by decide)) ..).rset (.inr (by decide)) ..

theorem scoreNow_kept (s : State) : Kept scoreFlds s (scoreNow s) :=
  ((((((Kept.rfl.rset (.inr (by decide)) ..).rset (.inr (by decide)) ..).rset (.inr (by decide)) ..).rset (.inr (by decide)) ..).rset (.inr (by decide)) ..).rset
    (.inr (by decide)) ..).rset (.inr (by decide)) ..

/-! ### COMMIT -/

section
variable {s : State} {c : Nat} {m : CommitMsg}

/-- R248: what a COMMIT for a later step comes to, at a module that is no steward: a flip or a hard fault. -/
theorem commit_eq (hseq : m.seq ≠ 0) (hl : m.late = none) (hm : m.mark = false) (hs : isSteward s = false) (ho : s.fab.out = false)
    (hx : (ctx? s c).isSome = true) (hd : rget s .stepCtxCommitted_step c < m.step) :
    exec (.commit c m) s = .next (if commitMatches s c m then scoreNow (ageShare (flip c m.seq s)) else hardFault c 3 s) := by
  show execCommit c m s = _
  have hsc : stewardCommit c m s = s := by unfold stewardCommit; rw [hs]; rfl
  have hsr : straggleRegs c m s = s := by unfold straggleRegs; rw [hl]
  have hgo : ((ctx? s c).isNone || s.fab.out || decide (m.step ≤ rget s .stepCtxCommitted_step c)) = false := by
    rw [ho, decide_eq_false (Nat.not_le.2 hd), Option.isNone_eq_false_iff.2 hx]; rfl
  unfold execCommit
  rw [if_neg hseq, hsc, hsr]
  dsimp only
  rw [hgo, hm]
  cases commitMatches s c m <;> rfl

theorem commit_flips (hc : c < 256) (hseq : m.seq ≠ 0) (hlt : m.seq < 2 ^ 64) (hl : m.late = none) (hm : m.mark = false) (hs : isSteward s = false)
    (ho : s.fab.out = false) (hno : stepNo s c < 2 ^ 64) (hx : (ctx? s c).isSome = true) (hd : rget s .stepCtxCommitted_step c < m.step)
    (hmatch : commitMatches s c m = true) :
    leadsTo (.commit c m) s (fun t => stepSt t c = 0 ∧ rget t .stepCtxCommitted_step c = stepNo s c ∧
      commitSeq t c = m.seq ∧ rget t .stepCtxState_rot c = 1 - rget s .stepCtxState_rot c ∧ (stepOf t c).sealed = none ∧ (stepOf t c).own = none ∧
      (stepOf t c).standOwn = (if (stepOf s c).own.elim false (·.ended) then 1 - (stepOf s c).standOwn else (stepOf s c).standOwn) ∧
      (∃ ev ∈ t.io.events, ev.code = 0x0A02 ∧ ev.ctx = c) ∧ ∀ r, waiting s c (.commitWait (stepNo s c)) r → answered t r 0x0000 m.seq) := by
  refine ⟨_, commit_eq hseq hl hm hs ho hx hd, ?_⟩
  rw [hmatch, if_pos rfl]
  obtain ⟨-, h1, h2, h3, h4, h5, h6, h7, h8, h9⟩ := flip_spec hc s hno hlt
  generalize flip c m.seq s = u at *
  have hk := (ageShare_kept u).trans (scoreNow_kept (ageShare u))
  generalize scoreNow (ageShare u) = t at hk
  have hreg : ∀ f, f.tally = false → f ∉ scoreFlds → rget t f c = rget u f c := fun f hf hn => hk.regs f c hf hn
  have hst : stepOf t c = stepOf u c := by rw [stepOf, hk.st]; rfl
  rw [hst]
  exact ⟨(hreg _ rfl (by decide)).trans h1, (hreg _ rfl (by decide)).trans h2, (hreg _ rfl (by decide)).trans h3, (hreg _ rfl (by decide)).trans h4,
    h5, h6, h7, (hk.toSaid.reported h8).exists_mem, fun r hr => hk.answered (h9 r hr)⟩

theorem commit_faults (hseq : m.seq ≠ 0) (hl : m.late = none) (hm : m.mark = false) (hs : isSteward s = false) (ho : s.fab.out = false)
    (hx : (ctx? s c).isSome = true) (hd : rget s .stepCtxCommitted_step c < m.step) (hmatch : commitMatches s c m = false) :
    leadsTo (.commit c m) s (fun t => { t with io := { t.io with outbox := s.io.outbox } } = s ∧
      .vc7 "HARD_FAULT" (mySteward s) [ownRoster s, c, stepNo s c, 3] ∈ t.io.outbox) :=
  ⟨hardFault c 3 s, (commit_eq hseq hl hm hs ho hx hd).trans (by rw [hmatch]; rfl), rfl, List.mem_append_right _ List.mem_cons_self⟩

end

/-! ### Seals, records and lateness -/

/-- One message sent for each member of a list. -/
theorem foldl_emit_frame {α : Type} (f : State → α → OutMsg) (l : List α) (s : State) :
    { l.foldl (fun s i => emit (f s i) s) s with io := s.io } = s ∧ s.io.outbox <+: (l.foldl (fun s i => emit (f s i) s) s).io.outbox := by
  induction l generalizing s with
  | nil => exact ⟨rfl, List.prefix_rfl⟩
  | cons i l ih =>
    obtain ⟨h1, h2⟩ := ih (emit (f s i) s)
    exact ⟨congrArg (fun t : State => { t with io := s.io }) h1, (List.prefix_append ..).trans h2⟩

theorem foldl_emit_sent {α : Type} {P : OutMsg → Prop} (f : State → α → OutMsg) {l : List α} (hl : l ≠ []) (s : State) (hP : ∀ u i, P (f u i)) :
    ∃ m ∈ (l.foldl (fun s i => emit (f s i) s) s).io.outbox, P m := by
  cases l with
  | nil => exact absurd rfl hl
  | cons i l =>
    have := (foldl_emit_frame f l (emit (f s i) s)).2
    exact ⟨f s i, this.subset (List.mem_append_right _ List.mem_cons_self), hP s i⟩

theorem setMark_frame (slice : Nat) (s : State) : (setMark slice s).mem = s.mem ∧ (setMark slice s).fab.sliceSeq = s.fab.sliceSeq ∧
    (setMark slice s).fab.seals = s.fab.seals := ⟨rfl, rfl, rfl⟩

theorem skipMark_frame (slice : Nat) (s : State) : (skipMark slice s).mem = s.mem ∧ (skipMark slice s).fab.sliceSeq = s.fab.sliceSeq ∧
    (skipMark slice s).fab.seals = s.fab.seals := by
  unfold skipMark
  dsimp only
  split
  · split <;> simp
  · exact ⟨rfl, rfl, rfl⟩

/-- R247: the primary numbers the COMMIT of a complete slice, forgets its seals and sends it. -/
theorem issueCommit_spec {slice : Nat} {m : SealMsg} {l : List Nat} (s : State) (hl : l ≠ []) :
    (issueCommit slice m l s).mem = s.mem ∧ sget? (issueCommit slice m l s).fab.sliceSeq slice = some (lastSeq s slice m.ctx + 1) ∧
    (∀ y ∈ (issueCommit slice m l s).fab.seals, ¬(y.1 = slice ∧ y.2.ctx = m.ctx)) ∧
    ∃ i e b, .vc7 "COMMIT" i [m.ctx, m.step, m.attempt, lastSeq s slice m.ctx + 1, e, b] ∈ (issueCommit slice m l s).io.outbox := by
  have hne : (l.map (fun i => if hasPosition s then stewardOf s (cohortOf s i) else i)).eraseDups ≠ [] := by
    cases l with
    | nil => exact absurd rfl hl
    | cons i l => simp [List.eraseDups_cons]
  unfold issueCommit
  dsimp only
  generalize hs1 : ({ s with fab := { s.fab with sliceSeq := sput s.fab.sliceSeq slice (lastSeq s slice m.ctx + 1), seals := _ } } : State) = s1
  generalize hs2 : (if (!markDue s slice m.step) = true then s1 else _) = s2
  have h2 : s2.mem = s1.mem ∧ s2.fab.sliceSeq = s1.fab.sliceSeq ∧ s2.fab.seals = s1.fab.seals := by
    rw [← hs2]
    split
    · exact ⟨rfl, rfl, rfl⟩
    · split
      · exact skipMark_frame ..
      · exact setMark_frame ..
  obtain ⟨hmem, hseq, hseals⟩ := h2
  generalize hf : (fun (u : State) (i : Nat) => OutMsg.vc7 "COMMIT" i
    [m.ctx, m.step, m.attempt, lastSeq s slice m.ctx + 1, rosterEpoch u, b2n (markDue s slice m.step && !s.fab.genBusy.contains slice)]) = f
  have hfr := (foldl_emit_frame f ((l.map (fun i => if hasPosition s then stewardOf s (cohortOf s i) else i)).eraseDups) s2).1
  obtain ⟨msg, hmsg, i, e, b, rfl⟩ := foldl_emit_sent (P := fun x => ∃ i e b, x = .vc7 "COMMIT" i [m.ctx, m.step, m.attempt, lastSeq s slice m.ctx + 1, e, b])
    f hne s2 (by rw [← hf]; exact fun u i => ⟨_, _, _, rfl⟩)
  have hfold : (fun (s_1 : State) (i : Nat) => emit (OutMsg.vc7 "COMMIT" i
    [m.ctx, m.step, m.attempt, lastSeq s slice m.ctx + 1, rosterEpoch s_1, b2n (markDue s slice m.step && !s.fab.genBusy.contains slice)]) s_1) =
    fun s i => emit (f s i) s := by rw [← hf]
  rw [hfold]
  generalize List.foldl _ s2 _ = u at hfr hmsg
  have hu : u.mem = s2.mem ∧ u.fab = s2.fab := by
    constructor <;> rw [← hfr]
  rw [hu.1, hu.2, hmem, hseq, hseals, ← hs1]
  refine ⟨rfl, sget?_sput_same .., fun y hy => ?_, i, e, b, hmsg⟩
  simpa [imp_iff_not_or] using (List.mem_filter.1 hy).2

section
variable {s : State} {slice : Nat} {m : SealMsg}

theorem sealRecord_eq (hp : isPrimary s = true) (hl : m.roster ∈ sliceSteppers s slice m.roster) : exec (.sealRecord slice m) s =
    .next (if allSealed (keepSeal slice m s) slice m (sliceSteppers s slice m.roster) then
      issueCommit slice m (sliceSteppers s slice m.roster) (keepSeal slice m s) else keepSeal slice m s) := by
  show execSealRecord slice m s = _
  unfold execSealRecord
  dsimp only
  rw [if_neg (by simp [hp, hl]), hp, Bool.true_or, if_pos rfl]
  split <;> rfl

theorem sealRecord_completes (hp : isPrimary s = true) (hl : m.roster ∈ sliceSteppers s slice m.roster)
    (ha : allSealed (keepSeal slice m s) slice m (sliceSteppers s slice m.roster) = true) : leadsTo (.sealRecord slice m) s (fun t => t.mem = s.mem ∧
      sget? t.fab.sliceSeq slice = some (lastSeq s slice m.ctx + 1) ∧ (∀ y ∈ t.fab.seals, ¬(y.1 = slice ∧ y.2.ctx = m.ctx)) ∧
      ∃ i e b, .vc7 "COMMIT" i [m.ctx, m.step, m.attempt, lastSeq s slice m.ctx + 1, e, b] ∈ t.io.outbox) :=
  ⟨_, sealRecord_eq hp hl, by rw [ha]; exact issueCommit_spec (keepSeal slice m s) (List.ne_nil_of_mem hl)⟩

theorem sealRecord_keeps (hp : isPrimary s = true) (hl : m.roster ∈ sliceSteppers s slice m.roster)
    (ha : allSealed (keepSeal slice m s) slice m (sliceSteppers s slice m.roster) = false) : leadsTo (.sealRecord slice m) s (fun t =>
      { t with fab := { t.fab with seals := s.fab.seals } } = s ∧ (slice, m) ∈ t.fab.seals) :=
  ⟨_, sealRecord_eq hp hl, by rw [ha]; exact ⟨rfl, List.mem_append_right _ List.mem_cons_self⟩⟩

theorem commitRecordRequest_answers (i c step att : Nat) : leadsTo (.commitRecordRequest i c step att) s (fun t =>
    { t with io := { t.io with outbox := s.io.outbox } } = s ∧ ∃ n, .vc7 "COMMIT" i [c, step, att, n, rosterEpoch s] ∈ t.io.outbox ∧
      (∀ x, s.fab.commits.find? (fun x => x.1 == c && x.2.1 == step && x.2.2.1 == att) = some x → n = x.2.2.2) ∧
      ((∀ x ∈ s.fab.commits, ¬(x.1 = c ∧ x.2.1 = step ∧ x.2.2.1 = att)) → n = 0)) := by
  refine ⟨_, rfl, rfl, _, List.mem_append_right _ List.mem_cons_self, fun x hx => by rw [hx]; rfl, fun h => ?_⟩
  rw [List.find?_eq_none.2 fun x hx => by simpa [and_assoc] using h x hx]
  rfl

theorem latenessReport_kept {m : LateMsg} (hs : isSteward s = true) (hc : cohortOf s m.roster = rget s .cohortSelf_cohort 0) :
    leadsTo (.latenessReport m) s (fun t => t = { s with fab := { s.fab with late := s.fab.late ++ [m] } }) :=
  ⟨_, if_neg (by simp [hs, hc]), rfl⟩

theorem latenessReport_dropped {m : LateMsg} (hc : cohortOf s m.roster ≠ rget s .cohortSelf_cohort 0) : noEffect (.latenessReport m) s :=
  if_pos (by simp [hc])

end

/-- Settles O36: a complete slice is answered with COMMIT, a COMMIT flips the step or is a hard fault, and stewards answer and keep reports. -/
theorem commitRound : Obligations.CommitRound := by
  intro s
  refine ⟨fun slice m hp hl => ⟨sealRecord_completes hp hl, sealRecord_keeps hp hl⟩,
    fun c m hc hseq hlt hl hm hs ho hno hx hd => ⟨commit_flips hc hseq hlt hl hm hs ho hno hx hd, commit_faults hseq hl hm hs ho hx hd⟩,
    fun i c step att => commitRecordRequest_answers i c step att, fun m hs => ⟨latenessReport_kept hs, latenessReport_dropped⟩⟩

end Sys2Proof.Machine
end

section
/-! PROOFS. Mirroring: the bind and its release, what the mirror engines exchange, and the repair of standing lines (R233 to R245, R255). -/

namespace Sys2Proof.Machine

/-! ### MIRROR_BIND, MIRROR_RELEASE, STRAGGLER_SET -/

/-- The step machinery of a context that waits for its twin's bind. -/
def binding (p : Plan) (w n : Nat) (x : StepCtx) : StepCtx :=
  { x with plan := some p, bind := some (w, n), twin := some w, bankHeld := false, bankSent := false }

section
variable {h : CmdRef} {s : State} {twin mib : BitVec 16} {p : Plan}

/-- R233: MIRROR_BIND of a plan with room for the twin's journal: the twin decides. -/
theorem mirrorBind_leadsTo {P : State → Prop} (hm : mayRun 0x41 h s = true) (ho : stepOpenSt s h.ctx = false) (hp : readPlan s h.ctx = .ok p)
    (hj : (ctx? s h.ctx).elim 0 (·.journalMib) ≤ mib.toNat)
    (hP : ∀ l, started 0x41 h s = setJournal l s → P (if !inRoster s twin.toNat || twin.toNat = ownRoster s then badParam h 0x05 (setJournal l s)
      else if !inSlice s twin.toNat then badParam h 0x04 (setJournal l s)
      else bindMeet h.ctx (toTwin h.ctx .bind p.bankBytes p.gradBytes (pack [(0, 8, (ctxDies s h.ctx).length), (8, 16, mib.toNat)]) [] 0
        (waitFor h .bind (modStep h.ctx (binding p twin.toNat mib.toNat) (setJournal l s)))))) : leadsTo (.mirrorBind h twin mib) s P := by
  refine leadsTo_runCmd rfl hm fun l hl => ?_
  have hpl : readPlan (setJournal l s) h.ctx = .ok p := (readPlan_congr (s := s) (t := setJournal l s) rfl rfl rfl rfl rfl rfl rfl _).trans hp
  have ho' : stepOpenSt (setJournal l s) h.ctx = false := ho
  have hj' : ¬ mib.toNat < (ctx? (setJournal l s) h.ctx).elim 0 (·.journalMib) := Nat.not_lt.2 hj
  have hp' := hP l hl
  dsimp only
  rw [ho', if_neg (by decide), hpl]
  dsimp only
  rw [if_neg hj']
  exact hp'

theorem mirrorBind_waits (hm : mayRun 0x41 h s = true) (ho : stepOpenSt s h.ctx = false) (hp : readPlan s h.ctx = .ok p)
    (hj : (ctx? s h.ctx).elim 0 (·.journalMib) ≤ mib.toNat) (hpb : (stepOf s h.ctx).peerBind = none) (hr : inRoster s twin.toNat = true)
    (hw : twin.toNat ≠ ownRoster s) (hs : inSlice s twin.toNat = true) :
    leadsTo (.mirrorBind h twin mib) s (fun t => waitsOn h .bind t = true ∧
      t.mem = s.mem ∧ (stepOf t h.ctx).bind = some (twin.toNat, mib.toNat) ∧ (stepOf t h.ctx).twin = some twin.toNat) := by
  refine mirrorBind_leadsTo hm ho hp hj fun l hl => ?_
  rw [if_neg (by simp [hr, hw]), if_neg (by simp [hs])]
  generalize hv : waitFor h .bind (modStep h.ctx _ (setJournal l s)) = v
  have hvw : waitsOn h .bind v = true := by rw [← hv]; exact waitFor_waits_of hm hl rfl
  have hvm : v.mem = s.mem := by rw [← hv]; rfl
  have hvs : stepOf v h.ctx = binding p twin.toNat mib.toNat (stepOf s h.ctx) := by
    rw [← hv]
    exact stepOf_modStep_of (s := s) (u := setJournal l s) (c := h.ctx) (f := binding p twin.toNat mib.toNat) rfl
  generalize pack _ = d
  have hk := toTwin_kept h.ctx .bind p.bankBytes p.gradBytes d [] 0 v
  generalize toTwin h.ctx .bind p.bankBytes p.gradBytes d [] 0 v = u at hk
  have hus : stepOf u h.ctx = stepOf v h.ctx := by rw [stepOf, hk.st]; rfl
  have hmeet : bindMeet h.ctx u = u := by
    unfold bindMeet
    dsimp only
    rw [hus, hvs, show (binding p twin.toNat mib.toNat (stepOf s h.ctx)).peerBind = none from hpb]
    rfl
  rw [hmeet, hus, hvs]
  refine ⟨?_, hk.mem.trans hvm, rfl, rfl⟩
  rw [waitsOn, findRec, hk.journal]
  exact hvw

theorem mirrorBind_noSlice (hm : mayRun 0x41 h s = true) (ho : stepOpenSt s h.ctx = false) (hp : readPlan s h.ctx = .ok p)
    (hj : (ctx? s h.ctx).elim 0 (·.journalMib) ≤ mib.toNat) (hr : inRoster s twin.toNat = true)
    (hw : twin.toNat ≠ ownRoster s) (hs : inSlice s twin.toNat = false) :
    leadsTo (.mirrorBind h twin mib) s (fun t => replied h 0x0016 0x04 t = true ∧ onlyJournal s t) :=
  mirrorBind_leadsTo hm ho hp hj fun l hl => by
    rw [if_neg (by simp [hr, hw]), if_pos (by simp [hs])]
    exact ⟨badParam_replied_of hm hl rfl, onlyJournal_finish ..⟩

theorem mirrorBind_noTwin (hm : mayRun 0x41 h s = true) (ho : stepOpenSt s h.ctx = false) (hp : readPlan s h.ctx = .ok p)
    (hj : (ctx? s h.ctx).elim 0 (·.journalMib) ≤ mib.toNat) (hr : inRoster s twin.toNat = false ∨ twin.toNat = ownRoster s) :
    leadsTo (.mirrorBind h twin mib) s (fun t => replied h 0x0016 0x05 t = true ∧ onlyJournal s t) :=
  mirrorBind_leadsTo hm ho hp hj fun l hl => by
    rw [if_pos (by simpa using hr)]
    exact ⟨badParam_replied_of hm hl rfl, onlyJournal_finish ..⟩

theorem mirrorRelease_releases (hm : mayRun 0x42 h s = true) (hc : h.ctx < 256) (ho : stepOpenSt s h.ctx = false) :
    leadsTo (.mirrorRelease h) s (fun t => replied h 0x0000 0 t = true ∧ mirrored t h.ctx = false ∧ (stepOf t h.ctx).twin = none ∧ t.mem = s.mem) := by
  refine leadsTo_runCmd rfl hm fun l hl => ?_
  obtain ⟨r, hr, hri, hrw, hrc⟩ := findRec_waitFor .release hm hl
  have hany : (waitFor h .release (setJournal l s)).ctl.journal.any (fun r => r.ctx == h.ctx && r.state == .issued && r.wait == .release) = true :=
    List.any_eq_true.2 ⟨r, List.mem_of_find?_eq_some hr, by simp [hrc, hri, hrw]⟩
  have ho' : stepOpenSt (waitFor h .release (setJournal l s)) h.ctx = false := ho
  rw [releaseCheck, ho', hany, if_neg (by decide)]
  have hk := toTwin_kept h.ctx .release 0 0 0 [] 0 (waitFor h .release (setJournal l s))
  obtain ⟨-, h2, h3, h4, h5⟩ := unbind_spec hc (toTwin h.ctx .release 0 0 0 [] 0 (waitFor h .release (setJournal l s)))
  refine ⟨finishWaits_replied hm hl (h3.trans hk.journal) (fun y _ hw hyc => by simp [hw, hyc]) (fun _ _ => rfl), h5, ?_, h2.trans hk.mem⟩
  exact congrArg StepCtx.twin h4

theorem mirrorRelease_waits (hm : mayRun 0x42 h s = true) (ho : stepOpenSt s h.ctx = true) :
    leadsTo (.mirrorRelease h) s (fun t => waitsOn h .release t = true ∧ onlyJournal s t) :=
  leadsTo_waiting rfl hm fun l => by
    have : stepOpenSt (waitFor h .release (setJournal l s)) h.ctx = true := ho
    rw [releaseCheck, this, Bool.true_or, if_pos rfl]

theorem stragglerSet_sets {pct : BitVec 8} {n : BitVec 16} (hm : mayRun 0x43 h s = true) : leadsTo (.stragglerSet h pct n) s (fun t =>
    replied h 0x0000 0 t = true ∧ t.mem = s.mem ∧ t.regs = s.regs ∧
    stepOf t h.ctx = { stepOf s h.ctx with pct := pct.toNat, runSteps := n.toNat } ∧
    .vc7 "STRAGGLER_SET" (mySteward s) [ownRoster s, h.ctx, pct.toNat, n.toNat] ∈ t.io.outbox) :=
  leadsTo_runCmd rfl hm fun l hl => ⟨finishOk_replied_of hm hl rfl, rfl, rfl,
    stepOf_modStep_of (s := s) (u := setJournal l s) (c := h.ctx) (f := fun x => { x with pct := pct.toNat, runSteps := n.toNat }) rfl,
    List.mem_append_right _ List.mem_cons_self⟩

end

/-! ### Transfers of the partner -/

theorem toTwin_sends {s : State} {c t : Nat} (k : MKind) (a n x : Nat) (b : List Byte) (d : Nat) (ht : (stepOf s c).twin = some t) :
    ∃ l, .data "MIRROR" t (c :: k.ctorIdx :: l) b ∈ (toTwin c k a n x b d s).io.outbox := by
  unfold toTwin
  rw [ht]
  dsimp only
  rw [chargeLink, charge_eq]
  exact ⟨_, List.mem_append_right _ List.mem_cons_self⟩

theorem ctxWrite_st (c a : Nat) (b : List Byte) (s : State) : (ctxWrite c a b s).st = s.st :=
  (work_eq_iff.1 (work_ctxWrite c a b s)).2.2.2.2.2.2.2.1

/-- An input of the partner taken into mirror_in. -/
def tookInput (m : MirrorMsg) (x : StepCtx) : StepCtx :=
  { x with inOff := (x.inOff + m.data.length + 63) / 64 * 64, inMap := x.inMap ++ [(m.addr, m.data.length, x.inOff, m.arg)] }

/-- An acknowledged input. -/
def ackedInput (a : Nat) (x : StepCtx) : StepCtx :=
  { x with retained := x.retained.map (fun r => if r.1 = a then (r.1, r.2.1, r.2.2.1, true) else r) }

/-- INPUT_RETAIN that waits for the acknowledgement of an address. -/
def Rec.retains (r : Rec) (a : Nat) : Bool := match r.wait with | .retain b _ => b == a | _ => false

/-- The digest with which a waiting INPUT_RETAIN is answered. -/
def Rec.retainDigest (r : Rec) : Nat := match r.wait with | .retain _ d => d | _ => 0

section
variable {s : State} {c : Nat} {m : MirrorMsg} (ht : (stepOf s c).twin = some m.sender)
include ht

theorem mirrorTransfer_eq (t : State) (hk : (m.kind = .input ∧ t = mirInput c m s) ∨
      (m.kind = .inputAck ∧ t = finishWaits (fun r => r.ctx == c && r.retains m.addr) stOk Rec.retainDigest (modStep c (ackedInput m.addr) s)) ∨
      (m.kind = .copied ∧ t = bindCheck c (takeEnd c (modStep c (fun x => { x with bankHeld := true, standMir := m.arg }) s))) ∨
      (m.kind = .release ∧ t = unbind c s)) : exec (.mirrorTransfer c m) s = .next t := by
  show execMirrorTransfer c m s = _
  unfold execMirrorTransfer
  dsimp only
  rw [if_neg (by simp [ht])]
  rcases hk with ⟨hk, rfl⟩ | ⟨hk, rfl⟩ | ⟨hk, rfl⟩ | ⟨hk, rfl⟩ <;> rw [hk] <;> rfl

/-- R235, R239: an input that fits is stored in mirror_in and acknowledged. -/
theorem mirrorInput_stored {p : Plan} {k : Nat} (hk : m.kind = .input) (hp : (stepOf s c).plan = some p)
    (hfit : (stepOf s c).inOff + m.data.length ≤ p.mirrorInBytes) (hpl : plainAt s c true (p.mirrorIn + (stepOf s c).inOff) m.data.length k) :
    leadsTo (.mirrorTransfer c m) s (fun t => storedAt s t k m.data ∧ (stepOf s c).inOff + m.data.length ≤ (stepOf t c).inOff ∧
      ∃ l, .data "MIRROR" m.sender (c :: MKind.inputAck.ctorIdx :: l) [] ∈ t.io.outbox) := by
  have hin : mirInput c m s = toTwin c .inputAck m.addr m.len 0 [] m.digest
      (modStep c (tookInput m) (ctxWrite c (p.mirrorIn + (stepOf s c).inOff) m.data s)) := by
    unfold mirInput planOr
    dsimp only
    rw [hp]
    exact if_neg (Nat.not_lt.2 hfit)
  refine ⟨_, mirrorTransfer_eq ht _ (.inl ⟨hk, rfl⟩), ?_⟩
  rw [hin]
  have hst := storedAt_ctxWrite (s := s) hpl rfl
  generalize hv : modStep c (tookInput m) (ctxWrite c (p.mirrorIn + (stepOf s c).inOff) m.data s) = v
  have hvs : stepOf v c = tookInput m (stepOf s c) := by rw [← hv]; exact stepOf_modStep_of (ctxWrite_st ..)
  have hvm : v.mem = (ctxWrite c (p.mirrorIn + (stepOf s c).inOff) m.data s).mem := by rw [← hv]; rfl
  have hkept := toTwin_kept c .inputAck m.addr m.len 0 [] m.digest v
  have hus : stepOf (toTwin c .inputAck m.addr m.len 0 [] m.digest v) c = tookInput m (stepOf s c) := by
    rw [← hvs, stepOf, hkept.st]
    rfl
  refine ⟨?_, ?_, toTwin_sends .inputAck _ _ _ _ _ (by rw [hvs]; exact ht)⟩
  · rw [storedAt, hkept.mem, hvm]
    exact hst
  · rw [hus, tookInput]
    dsimp only
    omega

/-- R239: an acknowledgement completes INPUT_RETAIN of its range. -/
theorem mirrorInputAck_completes (hk : m.kind = .inputAck) : leadsTo (.mirrorTransfer c m) s (fun t => t.mem = s.mem ∧
    ∀ r d, waiting s c (.retain m.addr d) r → answered t r 0x0000 d) := by
  refine ⟨_, mirrorTransfer_eq ht _ (.inr (.inl ⟨hk, rfl⟩)), rfl, fun r d ⟨hr, hrc, hrs, hrw, hra⟩ => ?_⟩
  have hd : r.retainDigest = d := by rw [Rec.retainDigest, hrw]
  rw [← hd]
  exact answered_finishWaits rfl hr hrs hra (by simp [Rec.retains, hrc, hrw])

/-- R233: with both copies the bind completes. -/
theorem mirrorCopied_binds {b : Nat × Nat} (hc : c < 256) (hk : m.kind = .copied) (hb : (stepOf s c).bind = some b)
    (hs : (stepOf s c).bankSent = true) : leadsTo (.mirrorTransfer c m) s (fun t => mirrored t c = true ∧
      (stepOf t c).bind = none ∧ (stepOf t c).standMir = m.arg ∧ ∀ r, waiting s c .bind r → answered t r 0x0000 0) := by
  refine ⟨_, mirrorTransfer_eq ht _ (.inr (.inr (.inl ⟨hk, rfl⟩))), ?_⟩
  generalize hv : modStep c (fun x => { x with bankHeld := true, standMir := m.arg }) s = v
  have hvs : stepOf v c = { stepOf s c with bankHeld := true, standMir := m.arg } := by
    rw [← hv]
    exact stepOf_modStep_of (s := s) (u := s) (c := c) (f := fun x => { x with bankHeld := true, standMir := m.arg }) rfl
  have hvj : v.ctl.journal = s.ctl.journal := by rw [← hv]; rfl
  have htake : takeEnd c v = v := by unfold takeEnd; rw [hvs, if_neg (by simp [hs])]
  rw [htake]
  unfold bindCheck
  dsimp only
  rw [hvs]
  dsimp only
  rw [hb]
  dsimp only
  rw [hs, Bool.true_and, if_pos rfl]
  generalize b2n _ = same
  generalize pack _ = d
  generalize hw : modStep c (fun x => { x with bind := none }) v = w
  have hws : stepOf w c = { stepOf v c with bind := none } := by
    rw [← hw]
    exact stepOf_modStep_of (s := v) (u := v) (c := c) (f := fun x => { x with bind := none }) rfl
  have hwj : w.ctl.journal = s.ctl.journal := by rw [← hw]; exact hvj
  have hk := ((Kept.rfl.rset (F := mirFlds) (s := w) (f := .stepCtxState_mirrored) (.inr (by decide)) c 1).rset (f := .stepCtxState_sameTray)
    (.inr (by decide)) c same).raiseBoth 0x0A07 9 c d |>.trans ((twinBack_kept c _).mono (by simp))
  have hmir : regAt (twinBack c (raiseBoth 0x0A07 9 c d (rset .stepCtxState_sameTray c same (rset .stepCtxState_mirrored c 1 w)))).regs
      .stepCtxState_mirrored c = 1 := by
    rw [(twinBack_kept c _).regs _ _ rfl (by simp), ((Told.rfl (F := [])).raiseBoth ..).regs _ _ rfl (by simp), regAt_rset_other _ _ _ _ (by decide),
      regAt_rset_same _ _ (show c < fldCount .stepCtxState_mirrored from hc)]
    rfl
  generalize twinBack c _ = u at hk hmir
  have hus : stepOf (finishWaits (fun r => r.ctx == c && r.wait == .bind) stOk (fun _ => 0) u) c = { stepOf v c with bind := none } := by
    rw [← hws, stepOf, finishWaits_st, hk.st]
    rfl
  refine ⟨by rw [mirrored, rget_eq, finishWaits_regs, hmir]; rfl, by rw [hus], by rw [hus, hvs], fun r ⟨hr, hrc, hrs, hrw, hra⟩ => ?_⟩
  exact answered_finishWaits (hk.journal.trans hwj) hr hrs hra (by simp [hrc, hrw])

/-- R234: the partner has released the binding. -/
theorem mirrorReleased (hc : c < 256) (hk : m.kind = .release) : leadsTo (.mirrorTransfer c m) s (fun t => mirrored t c = false ∧
    (stepOf t c).twin = none ∧ t.mem = s.mem) := by
  obtain ⟨-, h2, -, h4, h5⟩ := unbind_spec hc s
  exact ⟨_, mirrorTransfer_eq ht _ (.inr (.inr (.inr ⟨hk, rfl⟩))), h5, congrArg StepCtx.twin h4, h2⟩

end

/-! ### Repairs and the end of a bind -/

/-- A line that is asked for no more. -/
def repaired (a : Nat) (x : StepCtx) : StepCtx := { x with repairs := x.repairs.filter (fun y => y != a) }

section
variable {s : State} {c : Nat} {a : Word64} (ha : a.toNat ∈ (stepOf s c).repairs)
include ha

/-- R245: a line that the partner gives is stored. -/
theorem mirrorRepair_stored {b : List Byte} {k : Nat} (hpl : plainAt s c true (a.toNat / 64 * 64) b.length k) :
    leadsTo (.mirrorRepair c a (some b)) s (fun t => storedAt s t k b ∧ a.toNat ∉ (stepOf t c).repairs) := by
  refine ⟨ctxWrite c (a.toNat / 64 * 64) b (rflag .fdieMirrorStatus_repairSeen ((ctxDies s c).headD 0 / 2)
    (count1 .fdieMirrorRepairCount_count ((ctxDies s c).headD 0 / 2) (modStep c (repaired a.toNat) s))), if_neg (by simpa using ha), ?_⟩
  generalize hv : rflag .fdieMirrorStatus_repairSeen _ _ = v
  have htold : Told [.fdieMirrorStatus_repairSeen, .fdieMirrorRepairCount_count] s v := by
    rw [← hv]; exact ((Told.rfl.modStep ..).count1 (.inr (by decide)) _).rflag (by decide) _
  have hvm : v.mem = s.mem ∧ v.sp = s.sp ∧ v.st = (modStep c (repaired a.toNat) s).st := by
    rw [← hv]
    exact ⟨by simp, by simp, by simp⟩
  have hpl' : plainAt v c true (a.toNat / 64 * 64) b.length k :=
    plainAt_map (SameMap.of_told htold (by decide) (by rw [hvm.2.1])) (by rw [hvm.1]) hpl
  have hus : stepOf (ctxWrite c (a.toNat / 64 * 64) b v) c = repaired a.toNat (stepOf s c) := by
    rw [stepOf, ctxWrite_st, hvm.2.2]
    exact stepOf_modStep_of (s := s) (u := s) rfl
  refine ⟨storedAt_ctxWrite hpl' (by rw [hvm.1]), ?_⟩
  rw [hus]
  simp [repaired]

/-- R245: a line that the partner cannot give is WORK_LOST. -/
theorem mirrorRepair_lost : leadsTo (.mirrorRepair c a none) s (fun t => t.mem = s.mem ∧ a.toNat ∉ (stepOf t c).repairs ∧
    ∀ r, waiting s c .update r → answered t r 0x00E0 0) := by
  refine ⟨finishWaits (fun r => r.ctx == c && r.wait == .update) stWorkLost (fun _ => 0) (modStep c (repaired a.toNat) s),
    if_neg (by simpa using ha), rfl, ?_, fun r ⟨hr, hrc, hrs, hrw, hra⟩ => answered_finishWaits rfl hr hrs hra (by simp [hrc, hrw])⟩
  rw [show stepOf (finishWaits _ _ _ (modStep c (repaired a.toNat) s)) c = repaired a.toNat (stepOf s c) from
    stepOf_modStep_of (s := s) (u := s) rfl]
  simp [repaired]

end

/-- The step machinery of a context whose bind failed. -/
def bindFailed (x : StepCtx) : StepCtx := { x with bind := none, twin := none, peerBind := none, bankHeld := false, bankSent := false }

theorem mirrorBindTimeout_fails {s : State} {c : Nat} {b : Nat × Nat} (hb : (stepOf s c).bind = some b) :
    leadsTo (.mirrorBindTimeout c) s (fun t => (stepOf t c).bind = none ∧ (stepOf t c).twin = none ∧
      t.regs = s.regs ∧ ∀ r, waiting s c .bind r → answered t r 0x0016 0x05) := by
  have hst : stepOf (bindFail c 0x05 s) c = bindFailed (stepOf s c) := stepOf_modStep_of (s := s) (u := s) (c := c) (f := bindFailed) rfl
  exact ⟨_, if_pos (by rw [hb]; rfl), congrArg StepCtx.bind hst, congrArg StepCtx.twin hst, rfl,
    fun r ⟨hr, hrc, hrs, hrw, hra⟩ => answered_finishWaits (s := s) rfl hr hrs hra (by simp [hrc, hrw])⟩

/-- Settles O37: each transfer, command and answer of a mirrored pair by its kind. -/
theorem mirroring : Obligations.Mirroring := by
  intro s
  refine ⟨?_, ?_, ?_, ?_, ?_, ?_⟩
  · intro h twin mib p hm ho hp hj hpb c w
    exact ⟨mirrorBind_waits hm ho hp hj hpb, mirrorBind_noSlice hm ho hp hj, mirrorBind_noTwin hm ho hp hj⟩
  · exact fun h hm hc => ⟨mirrorRelease_releases hm hc, mirrorRelease_waits hm⟩
  · intro c m k hc ht x
    exact ⟨fun p hk hp => mirrorInput_stored ht hk hp, mirrorInputAck_completes ht, fun b hk => mirrorCopied_binds ht hc hk, mirrorReleased ht hc⟩
  · exact fun c a ha => ⟨fun b k => mirrorRepair_stored ha, mirrorRepair_lost ha⟩
  · exact fun c => ⟨fun hb => if_neg (by simp [hb]), fun b => mirrorBindTimeout_fails⟩
  · exact fun h pct n => stragglerSet_sets

end Sys2Proof.Machine
end

section
/-! PROOFS. The exchange: what its buckets keep, the opening and the closing round, and the start of EXCHANGE (R203 to R207, R223, R224). -/

namespace Sys2Proof.Machine

/-! ### Buckets -/

theorem bucket?_of_st {s t : State} (h : t.st = s.st) (c id : Nat) : bucket? t c id = bucket? s c id := by rw [bucket?, stepOf, h]; rfl

theorem bucket?_id {s : State} {c id : Nat} {b : Bucket} (h : bucket? s c id = some b) : b.id = id := by
  unfold bucket? at h
  cases hx : (stepOf s c).xch with
  | none => rw [hx] at h; cases h
  | some e =>
    rw [hx] at h
    have h' : e.buckets.find? (fun b => b.id == id) = some b := h
    simpa using List.find?_some h'

theorem stepOf_modXch (c : Nat) (f : Xch → Xch) (s : State) : stepOf (modXch c f s) c = { stepOf s c with xch := (stepOf s c).xch.map f } :=
  stepOf_modStep_of (s := s) (u := s) (f := fun x => { x with xch := x.xch.map f }) rfl

theorem modBucket_eq (c id : Nat) (f : Bucket → Bucket) (s : State) :
    modBucket c id f s = modXch c (fun e => { e with buckets := e.buckets.map (fun b => if b.id = id then f b else b) }) s := rfl

theorem bucket?_modXch {f : Xch → Xch} (hf : ∀ e, (f e).buckets = e.buckets) (s : State) (c id : Nat) :
    bucket? (modXch c f s) c id = bucket? s c id := by
  rw [bucket?, stepOf_modXch, bucket?]
  cases (stepOf s c).xch with
  | none => rfl
  | some e => exact congrArg (List.find? fun b : Bucket => b.id == id) (hf e)

theorem bucket?_modBucket {f : Bucket → Bucket} (hf : ∀ b, (f b).id = b.id) (s : State) (c id j : Nat) :
    bucket? (modBucket c j f s) c id = (bucket? s c id).map (fun b => if b.id = j then f b else b) := by
  rw [modBucket_eq, bucket?, stepOf_modXch, bucket?]
  cases (stepOf s c).xch with
  | none => rfl
  | some e =>
    show List.find? (fun b : Bucket => b.id == id) (e.buckets.map _) = Option.map _ (List.find? (fun b : Bucket => b.id == id) e.buckets)
    rw [List.find?_map]
    congr 2
    funext b
    show ((if b.id = j then f b else b).id == id) = (b.id == id)
    split
    · rw [hf]
    · rfl

theorem bucket?_modBucket_same {f : Bucket → Bucket} (hf : ∀ b, (f b).id = b.id) {s : State} {c id : Nat} {b : Bucket} (h : bucket? s c id = some b) :
    bucket? (modBucket c id f s) c id = some (f b) := by
  rw [bucket?_modBucket hf, h, Option.map_some, if_pos (bucket?_id h)]

/-- A bucket keeps whether it is opened and agreed, and what it got. -/
structure BucketKept (c id : Nat) (s t : State) : Prop where
  keep : ∀ y, bucket? s c id = some y → ∃ z, bucket? t c id = some z ∧ z.opened = y.opened ∧ z.agreed = y.agreed ∧ z.got = y.got

theorem BucketKept.of_st {c id : Nat} {s t : State} (h : t.st = s.st) : BucketKept c id s t :=
  ⟨fun y hy => ⟨y, by rw [bucket?_of_st h, hy], rfl, rfl, rfl⟩⟩

theorem BucketKept.trans {c id : Nat} {s t u : State} (h : BucketKept c id s t) (k : BucketKept c id t u) : BucketKept c id s u where
  keep y hy := by
    obtain ⟨z, hz, h1, h2, h3⟩ := h.keep y hy
    obtain ⟨w, hw, k1, k2, k3⟩ := k.keep z hz
    exact ⟨w, hw, k1.trans h1, k2.trans h2, k3.trans h3⟩

theorem BucketKept.modBucket {c id j : Nat} {f : Bucket → Bucket} (hf : ∀ b, (f b).id = b.id ∧ (f b).opened = b.opened ∧ (f b).agreed = b.agreed ∧ (f b).got = b.got)
    (s : State) : BucketKept c id s (modBucket c j f s) where
  keep y hy := by
    refine ⟨_, by rw [bucket?_modBucket (fun b => (hf b).1), hy]; rfl, ?_⟩
    dsimp only
    split
    · exact (hf y).2
    · exact ⟨rfl, rfl, rfl⟩

theorem BucketKept.modXch {c id : Nat} {f : Xch → Xch} (hf : ∀ e, (f e).buckets = e.buckets) (s : State) : BucketKept c id s (modXch c f s) :=
  ⟨fun y hy => ⟨y, by rw [bucket?_modXch hf, hy], rfl, rfl, rfl⟩⟩

theorem BucketKept.ite {c id : Nat} {s t u : State} {p : Prop} [Decidable p] (h : BucketKept c id s t) (k : BucketKept c id s u) :
    BucketKept c id s (if p then t else u) := by split <;> assumption

theorem BucketKept.foldl {α : Type} {c id : Nat} {s t : State} {f : State → α → State} (h : BucketKept c id s t)
    (hf : ∀ t a, BucketKept c id t (f t a)) (l : List α) : BucketKept c id s (l.foldl f t) :=
  List.foldlRecOn _ _ (motive := BucketKept c id s) h fun t ht a _ => ht.trans (hf t a)

theorem sendChunk_frame (c : Nat) (b : Bucket) (to_ part source index : Nat) (payload : List Byte) (s : State) :
    Said [.fdieCollBytes_units] s (sendChunk c b to_ part source index payload s) ∧ (sendChunk c b to_ part source index payload s).mem = s.mem ∧
    (sendChunk c b to_ part source index payload s).st = s.st := by
  unfold sendChunk
  dsimp only
  rw [chargeLink, charge_eq]
  exact ⟨(((((Told.rfl.useFree).emit _).activity (by decide) ..).withPow _).touch ..).said, by simp [touch]; split <;> simp, by simp [touch]; split <;> simp⟩

theorem sendPart_st (c : Nat) (b : Bucket) (to_ part source : Nat) (x : List Byte) (s : State) : (sendPart c b to_ part source x s).st = s.st :=
  List.foldlRecOn _ _ (motive := fun t : State => t.st = s.st) rfl fun _ ht _ _ => ((sendChunk_frame ..).2.2).trans ht

/-- A bucket in its closing round. -/
def Bucket.closed (d : Nat) (b : Bucket) : Bucket := { b with closing := true, digest := d }

/-- A bucket whose own part is summed. -/
def Bucket.asSummed (b : Bucket) : Bucket := { b with summed := true }

/-- A bucket that is open. -/
def Bucket.asOpened (b : Bucket) : Bucket := { b with opened := true }

/-- A bucket with one more chunk in its place. -/
def Bucket.plusChunk (m : ChunkMsg) (b : Bucket) : Bucket := { b with got := b.got ++ [(m.part, m.source, m.index, m.payload)] }

/-- An EXCHANGE with one more chunk that came twice. -/
def Xch.plusDup (e : Xch) : Xch := { e with dups := e.dups + 1 }

/-- What a closing round begins with. -/
def closingState (c op : Nat) (b : Bucket) (s : State) : State := modBucket c b.id (.closed (runDigest (peek s c b.dst (b.dstBytes op)).bytes)) s

theorem closeBucket_eq (c op : Nat) (b : Bucket) (s : State) : closeBucket c op b s =
    emit (.vc7 "CLOSING" 0x3FFF [c, stepNo s c, rget s .stepCtxAttempt_attempt c, b.id, ownRoster s, 0, runDigest (peek s c b.dst (b.dstBytes op)).bytes])
      (closingState c op b s) := (rfl)

theorem closeBucket_kept (c op id : Nat) (b : Bucket) (s : State) : BucketKept c id s (closeBucket c op b s) := by
  have h : BucketKept c id s (closingState c op b s) := .modBucket (f := .closed _) (fun _ => ⟨rfl, rfl, rfl, rfl⟩) s
  rw [closeBucket_eq]
  generalize closingState c op b s = t at h ⊢
  exact h.trans (.of_st rfl)

/-- The own part summed and written. -/
def summedState (c op : Nat) (b : Bucket) (ps : List (List Nat)) (s : State) : State :=
  modBucket c b.id .asSummed (ctxWrite c (b.ownDst s op).1 (wordsTo b.outFmt (b.sumPart (stepNo s c) (b.me s) ps)) s)

theorem sumBucket_eq (c op : Nat) (b : Bucket) (ps : List (List Nat)) (s : State) : sumBucket c op b ps s = if op = opAllReduce then
    (b.others s).foldl (fun t j => sendPart c b j (b.me t) (b.me t) (wordsTo b.outFmt (b.sumPart (stepNo s c) (b.me s) ps)) t) (summedState c op b ps s)
    else summedState c op b ps s := (rfl)

theorem sumBucket_kept (c op id : Nat) (b : Bucket) (ps : List (List Nat)) (s : State) : BucketKept c id s (sumBucket c op b ps s) := by
  have h : BucketKept c id s (summedState c op b ps s) := (BucketKept.of_st (ctxWrite_st ..)).trans (.modBucket (f := .asSummed) (fun _ => ⟨rfl, rfl, rfl, rfl⟩) _)
  rw [sumBucket_eq]
  generalize summedState c op b ps s = t at h ⊢
  exact BucketKept.ite (h.foldl (fun u j => .of_st (sendPart_st ..)) _) h

theorem gatherBucket_st (c op : Nat) (b : Bucket) (s : State) : (gatherBucket c op b s).st = s.st :=
  List.foldlRecOn _ _ (motive := fun t : State => t.st = s.st) rfl fun t ht j _ => by
    split
    · exact (ctxWrite_st ..).trans ht
    · exact ht

theorem stepBucket_kept (c op j id : Nat) (s : State) : BucketKept c id s (stepBucket c op j s) := by
  unfold stepBucket
  split
  · exact .of_st rfl
  · next b _ =>
    split
    · exact .of_st rfl
    · have h1 : BucketKept c id s (if (decide (op = opAllGather) || b.summed) = true then s else
          match b.leaves s c with | some ps => sumBucket c op b ps s | none => s) := by
        refine BucketKept.ite (.of_st rfl) ?_
        split
        · exact sumBucket_kept ..
        · exact .of_st rfl
      dsimp only
      generalize (if (decide (op = opAllGather) || b.summed) = true then s else _) = s1 at h1 ⊢
      split
      · exact h1
      · next b1 _ =>
        exact BucketKept.ite (BucketKept.ite (h1.trans (closeBucket_kept ..)) h1)
          (BucketKept.ite ((h1.trans (.of_st (gatherBucket_st ..))).trans (closeBucket_kept ..)) h1)

/-- A bucket of the EXCHANGE that runs is open. -/
def Opened (c id : Nat) (s : State) : Prop := ∃ y, bucket? s c id = some y ∧ y.opened = true

theorem Opened.kept {c id : Nat} {s t : State} (h : Opened c id s) (k : BucketKept c id s t) : Opened c id t := by
  obtain ⟨y, hy, ho⟩ := h
  obtain ⟨z, hz, h1, -⟩ := k.keep y hy
  exact ⟨z, hz, h1.trans ho⟩

theorem Opened.of_st {c id : Nat} {s t : State} (h : Opened c id s) (hs : t.st = s.st) : Opened c id t := h.kept (.of_st hs)

theorem Opened.takeChunk {c op id : Nat} {s : State} (h : Opened c id s) (m : ChunkMsg) : Opened c id (takeChunk c op m s) := by
  unfold Machine.takeChunk
  split
  · exact h
  · split
    · generalize hv : count1 .fdieCollDupDiscardCount_count _ _ = v
      have hk : BucketKept c id v (modXch c Xch.plusDup v) := .modXch (f := Xch.plusDup) (fun _ => Eq.refl _) v
      exact (h.of_st (by rw [← hv]; simp)).kept hk
    · refine Opened.kept ?_ (stepBucket_kept ..)
      obtain ⟨y, hy, ho⟩ := h
      refine ⟨if y.id = m.bucket then y.plusChunk m else y, ?_, by split <;> exact ho⟩
      exact (bucket?_modBucket (f := .plusChunk m) (fun _ => Eq.refl _) ..).trans (by rw [hy]; rfl)

theorem Opened.unstage {c op id : Nat} {s : State} (h : Opened c id s) (j : Nat) : Opened c id (unstage c op j s) := by
  refine List.foldlRecOn _ _ (motive := Opened c id) ?_ fun t ht m _ => ht.takeChunk m
  obtain ⟨y, hy, ho⟩ := h
  exact ⟨y, by rw [bucket?, stepOf_modStep_of (s := s) rfl]; exact hy, ho⟩

/-- An EXCHANGE that zeroed `n` more residuals. -/
def Xch.plusZeroed (n : Nat) (e : Xch) : Xch := { e with zeroed := e.zeroed + n }

/-- What an open bucket sends first: its part under ALL_GATHER, else its contributions with the new residuals. -/
def offered (c op : Nat) (b : Bucket) (s s1 : State) : State :=
  if op = opAllGather then
    (b.others s).foldl (fun t j => sendPart c b j (b.me t) (b.me t) (peek s c b.src (b.part * fmtBytes b.inFmt)).bytes t)
      (ctxWrite c (b.ownDst s op).1 (b.gathered op (peek s c b.src (b.part * fmtBytes b.inFmt)).bytes) s1)
  else
    let s2 := (b.others s).foldl (fun t j => sendPart c b j j (b.me t) (b.encode ((b.parts (b.offer s c)).getD j [])) t) s1
    if b.comp = 0 then s2
    else
      let r := b.residual (b.offer s c)
      let s3 := ctxWrite c b.residOut (wordsTo (b2n b.resid32) r.1) s2
      if r.2 = 0 then s3
      else modXch c (.plusZeroed r.2)
        (count .fdieCollNonfiniteCount_count (fdieOf s3 c) r.2 (rflag .fdieCollStatus_nonfiniteSeen (fdieOf s3 c) (useFree s3)))

theorem startBucket_eq {c op id : Nat} {s : State} {b : Bucket} (hb : bucket? s c id = some b) (hg : b.badLines s c op = []) :
    startBucket c op id s = unstage c op id (stepBucket c op id (offered c op b s (modBucket c id .asOpened s))) := by
  unfold startBucket
  rw [hb]
  dsimp only
  rw [hg]
  rfl

theorem Opened.offered {c op id : Nat} {s1 : State} (h : Opened c id s1) (b : Bucket) (s : State) : Opened c id (offered c op b s s1) := by
  have hfold : ∀ (l : List Nat) (f : State → Nat → State) (u : State), (∀ t j, (f t j).st = t.st) → (l.foldl f u).st = u.st := fun l f u hf =>
    List.foldlRecOn _ _ (motive := fun t : State => t.st = u.st) (Eq.refl _) fun t ht j _ => (hf t j).trans ht
  unfold Machine.offered
  split
  · exact h.of_st ((hfold _ _ _ fun _ _ => sendPart_st ..).trans (ctxWrite_st ..))
  · dsimp only
    have h2 := h.of_st (hfold (b.others s) (fun t j => sendPart c b j j (b.me t) (b.encode ((b.parts (b.offer s c)).getD j [])) t) s1
      fun _ _ => sendPart_st ..)
    generalize (b.others s).foldl _ s1 = s2 at h2
    split
    · exact h2
    · have h3 := h2.of_st (ctxWrite_st c b.residOut (wordsTo (b2n b.resid32) (b.residual (b.offer s c)).1) s2)
      generalize ctxWrite c b.residOut _ s2 = s3 at h3
      split
      · exact h3
      · generalize hv : count .fdieCollNonfiniteCount_count _ _ _ = v
        have hk : BucketKept c id v (modXch c (.plusZeroed (b.residual (b.offer s c)).2) v) := .modXch (f := .plusZeroed _) (fun _ => Eq.refl _) v
        exact (h3.of_st (by rw [← hv]; simp)).kept hk

/-- R223: a bucket whose shapes agree, with no bad line in what it offers, is open. -/
theorem startBucket_opens {c op id : Nat} {s : State} {b : Bucket} (hb : bucket? s c id = some b) (hg : b.badLines s c op = []) :
    Opened c id (startBucket c op id s) := by
  have h1 : Opened c id (modBucket c id .asOpened s) := ⟨_, bucket?_modBucket_same (f := .asOpened) (fun _ => rfl) hb, rfl⟩
  rw [startBucket_eq hb hg]
  exact ((h1.offered b s).kept (stepBucket_kept ..)).unstage _

/-! ### The two rounds -/

theorem stopExchange_xch (c : Nat) (s : State) : (stepOf (stopExchange c s) c).xch = none := by
  obtain ⟨a, h⟩ : ∃ a, stepOf (stopExchange c s) c = { stepOf s c with xch := none, agreed := a } := ⟨_, stepOf_modStep_of (s := s) (u := s) rfl⟩
  rw [h]

theorem finishAt_answered {q n st d : Nat} {s t : State} {r : Rec} (hj : t.ctl.journal = s.ctl.journal) (hr : r ∈ s.ctl.journal) (hq : r.q = q)
    (hn : r.seq = n) (hs : r.state = .issued) (ha : r.again = none) : answered (finishAt q n st d t) r st d := by
  have hp : isRec q n r = true := by simp [isRec, hq, hn, hs]
  have hy : replyOf t st d r ∈ (finishAt q n st d t).ctl.journal := List.mem_map.2 ⟨r, by rw [hj]; exact hr, if_pos hp⟩
  rw [replyOf_issued t st d hs ha] at hy
  exact ⟨_, hy, rfl, rfl, rfl, _, rfl, rfl, rfl⟩

section
variable {s : State} {c id : Nat} {e : Xch} {b : Bucket} (hx : (stepOf s c).xch = some e) (hb : bucket? s c id = some b) (hf : e.faulted = false)
  (ha : b.agreed = false)
include hx hb hf ha

theorem openingRound_opens {mn mx : Word64} {diff : Nat} (ho : b.opened = false) (hm : mn = mx) (hg : b.badLines s c e.op = []) :
    leadsTo (.openingRound c id mn mx diff) s (fun t => ∃ y, bucket? t c id = some y ∧ y.opened = true) := by
  refine ⟨startBucket c e.op id s, ?_, startBucket_opens hb hg⟩
  show execOpeningRound c id mn mx diff s = _
  unfold execOpeningRound
  rw [hx, hb]
  dsimp only
  rw [if_neg (by simp [ho, ha, hf]), if_pos hm]

theorem openingRound_ends {mn mx : Word64} {diff : Nat} (ho : b.opened = false) (hm : mn ≠ mx) :
    leadsTo (.openingRound c id mn mx diff) s (fun t => (stepOf t c).xch = none ∧ t.mem = s.mem ∧
      (∃ ev ∈ t.io.events, ev.code = 0x0902 ∧ ev.ctx = c) ∧
      ∀ r ∈ s.ctl.journal, r.q = e.q → r.seq = e.seq → r.state = .issued → r.again = none → answered t r 0x0016 0x05) := by
  refine ⟨finishAt e.q e.seq stBadParam 0x05 (stopExchange c (raiseBoth 0x0902 (0x18 + fdieOf s c) c (pack [(0, 16, id), (16, 14, diff)]) (useFree s))), ?_, ?_⟩
  · show execOpeningRound c id mn mx diff s = _
    unfold execOpeningRound
    rw [hx, hb]
    dsimp only
    rw [if_neg (by simp [ho, ha, hf]), if_neg hm]
  · have hrep := raiseBoth_reported 0x0902 (0x18 + fdieOf s c) c (pack [(0, 16, id), (16, 14, diff)]) (useFree s)
    have hv : (raiseBoth 0x0902 (0x18 + fdieOf s c) c (pack [(0, 16, id), (16, 14, diff)]) (useFree s)).ctl.journal = s.ctl.journal ∧
        (raiseBoth 0x0902 (0x18 + fdieOf s c) c (pack [(0, 16, id), (16, 14, diff)]) (useFree s)).mem = s.mem := by simp
    generalize raiseBoth 0x0902 _ c _ (useFree s) = v at hrep hv ⊢
    obtain ⟨hj, hmem⟩ := hv
    have hst := stopExchange_xch c v
    exact ⟨hst, hmem, hrep.exists_mem, fun r hr hq hn hs hag => finishAt_answered (s := s) (t := stopExchange c v) hj hr hq hn hs hag⟩

end

/-- An agreed bucket. -/
def Bucket.asAgreed (b : Bucket) : Bucket := { b with agreed := true, got := [] }

/-- An EXCHANGE after a change of the buckets of an identifier. -/
def Xch.onBucket (id : Nat) (f : Bucket → Bucket) (e : Xch) : Xch := { e with buckets := e.buckets.map (fun b => if b.id = id then f b else b) }

theorem xch_modBucket {s : State} {c id : Nat} {f : Bucket → Bucket} {e : Xch} {u : State} (hx : (stepOf s c).xch = some e) (hu : u.st = s.st) :
    (stepOf (modBucket c id f u) c).xch = some (e.onBucket id f) := by
  rw [show stepOf (modBucket c id f u) c = { stepOf s c with xch := (stepOf s c).xch.map (·.onBucket id f) } from stepOf_modStep_of
    (f := fun x => { x with xch := x.xch.map (·.onBucket id f) }) hu, hx]
  rfl

theorem xch_modStep {f : StepCtx → StepCtx} (hf : ∀ x, (f x).xch = x.xch) (c : Nat) (s : State) :
    (stepOf (modStep c f s) c).xch = (stepOf s c).xch := by
  rw [stepOf_modStep_of (s := s) rfl]
  exact hf _

/-- The digest written, and the bucket agreed. -/
def agreedState (c : Nat) (b : Bucket) (s : State) : State := modBucket c b.id .asAgreed (ctxWrite c (b.desc + 0x38) (leBytes 8 b.digest) s)

theorem modBucket_frame (c id : Nat) (f : Bucket → Bucket) (s : State) : (modBucket c id f s).mem = s.mem ∧ (modBucket c id f s).ctl = s.ctl := ⟨rfl, rfl⟩

theorem agreedState_stored {c k : Nat} {b : Bucket} {s : State} (hp : plainAt s c true (b.desc + 0x38) 8 k) :
    storedAt s (agreedState c b s) k (leBytes 8 b.digest) := by
  have hlen : (leBytes 8 b.digest).length = 8 := leBytes_length ..
  rw [storedAt, agreedState, (modBucket_frame ..).1]
  refine storedAt_ctxWrite (s := s) (t := s) ?_ rfl
  rw [hlen]
  exact hp

/-- A part that was sent to the twin. -/
def StepCtx.sentGrad (d : Nat × Nat) (x : StepCtx) : StepCtx := { x with gradSent := x.gradSent ++ [d] }

/-- The own part sent to the twin. -/
def partToTwin (c op : Nat) (b : Bucket) (s : State) : State :=
  if mirrored s c && op != opAllGather then
    modStep c (.sentGrad (b.ownDst s op))
      (toTwin c .grad (b.ownDst s op).1 (b.ownDst s op).2 0 (peek s c (b.ownDst s op).1 (b.ownDst s op).2).bytes
        (runDigest (peek s c (b.ownDst s op).1 (b.ownDst s op).2).bytes) s)
  else s

theorem agreeBucket_eq (c op : Nat) (b : Bucket) (s : State) : agreeBucket c op b s = endExchange c (partToTwin c op b (agreedState c b s)) := (rfl)

theorem partToTwin_frame (c op : Nat) (b : Bucket) (s : State) : (partToTwin c op b s).mem = s.mem ∧ (partToTwin c op b s).ctl.journal = s.ctl.journal ∧
    (stepOf (partToTwin c op b s) c).xch = (stepOf s c).xch := by
  unfold partToTwin
  split
  · have hk := toTwin_kept c .grad (b.ownDst s op).1 (b.ownDst s op).2 0 (peek s c (b.ownDst s op).1 (b.ownDst s op).2).bytes
      (runDigest (peek s c (b.ownDst s op).1 (b.ownDst s op).2).bytes) s
    exact ⟨hk.mem, hk.journal, (congrArg StepCtx.xch (stepOf_modStep_of (c := c) (f := .sentGrad (b.ownDst s op)) hk.st)).trans rfl⟩
  · exact ⟨rfl, rfl, rfl⟩

theorem endExchange_open {s : State} {c : Nat} {e : Xch} (hx : (stepOf s c).xch = some e) (h : e.buckets.all (·.agreed) = false) : endExchange c s = s := by
  unfold endExchange
  rw [hx]
  exact if_pos (by simp only [h, Bool.not_false, Bool.or_true])

theorem satTo_lt (w v : Nat) : satTo w v < 2 ^ w := by
  have h : satTo w v ≤ 2 ^ w - 1 := Nat.min_le_right ..
  have := Nat.two_pow_pos w
  omega

theorem pack_satTo (m n p w x y z : Nat) : pack [(0, m, satTo m x), (n, p, satTo p y), (w, w, satTo w z)] =
    satTo m x + 2 ^ n * satTo p y + 2 ^ w * satTo w z := by
  simp only [pack, pf, List.map_cons, List.map_nil, List.sum_cons, List.sum_nil, Nat.mod_eq_of_lt (satTo_lt ..)]
  ring

/-- R207: with its last bucket agreed an EXCHANGE is over, and is answered with what it counted. -/
theorem endExchange_ends {s : State} {c : Nat} {e : Xch} (hc : c < 256) (hx : (stepOf s c).xch = some e) (hf : e.faulted = false)
    (h : e.buckets.all (·.agreed) = true) : (endExchange c s).mem = s.mem ∧ (stepOf (endExchange c s) c).xch = none ∧
    rget (endExchange c s) .stepCtxState_agreed c = 1 ∧
    ∀ r ∈ s.ctl.journal, r.q = e.q → r.seq = e.seq → r.state = .issued → r.again = none →
      answered (endExchange c s) r 0x0000 (satTo 16 e.retries + 2 ^ 16 * satTo 16 e.dups + 2 ^ 32 * satTo 32 e.zeroed) := by
  have heq : endExchange c s = finishAt e.q e.seq stOk (pack [(0, 16, satTo 16 e.retries), (16, 16, satTo 16 e.dups), (32, 32, satTo 32 e.zeroed)])
      (sendLate c 0 (rset .stepCtxState_agreed c 1 (stopExchange c s))) := by
    unfold endExchange
    rw [hx]
    exact if_neg (by simp only [hf, h, Bool.not_true, Bool.or_false]; decide)
  have hd := pack_satTo 16 16 16 32 e.retries e.dups e.zeroed
  rw [heq, hd]
  have hst := stopExchange_xch c s
  generalize hu : stopExchange c s = u at hst
  have hum : u.mem = s.mem ∧ u.ctl = s.ctl := by rw [← hu]; exact ⟨rfl, rfl⟩
  have hus : stepOf (sendLate c 0 (rset .stepCtxState_agreed c 1 u)) c = stepOf u c := by
    show stepOf (rset .stepCtxState_agreed c 1 u) c = _
    rw [stepOf, rset_st]
    rfl
  refine ⟨?_, ?_, ?_, fun r hr hq hn hs ha => finishAt_answered (s := s) ?_ hr hq hn hs ha⟩
  · show (rset .stepCtxState_agreed c 1 u).mem = s.mem
    rw [rset_mem, hum.1]
  · rw [← hst, ← hus]
    rfl
  · exact regAt_rset_same _ u (show c < fldCount .stepCtxState_agreed from hc)
  · show (rset .stepCtxState_agreed c 1 u).ctl.journal = s.ctl.journal
    rw [rset_ctl, hum.2]

section
variable {s : State} {c id : Nat} {e : Xch} {b : Bucket} (hx : (stepOf s c).xch = some e) (hb : bucket? s c id = some b) (hf : e.faulted = false)
  (ha : b.agreed = false)
include hx hb hf ha

theorem closingRound_eq {m : CloseMsg} (h1 : b.closing = true) (h2 : m.members = b.group.length) (h3 : m.fault = false)
    (h4 : e.op = 0 ∨ m.minDigest = m.maxDigest) : exec (.closingRound c id m) s = .next (agreeBucket c e.op b s) := by
  show execClosingRound c id m s = _
  unfold execClosingRound
  rw [hx, hb]
  dsimp only
  rw [if_neg (by simp [ha, hf]), if_pos (by simpa [h1, h2, h3, opReduceScatter] using h4)]

theorem closingRound_agrees {m : CloseMsg} {k : Nat} (h1 : b.closing = true) (h2 : m.members = b.group.length) (h3 : m.fault = false)
    (h4 : e.op = 0 ∨ m.minDigest = m.maxDigest) (hp : plainAt s c true (b.desc + 0x38) 8 k) (hmore : ∃ y ∈ e.buckets, y.id ≠ id ∧ y.agreed = false) :
    leadsTo (.closingRound c id m) s (fun t => storedAt s t k (leBytes 8 b.digest) ∧ ∃ y, bucket? t c id = some y ∧ y.agreed = true) := by
  refine ⟨_, closingRound_eq hx hb hf ha h1 h2 h3 h4, ?_⟩
  obtain ⟨hmem, -, hxch⟩ := partToTwin_frame c e.op b (agreedState c b s)
  have hu : (stepOf (partToTwin c e.op b (agreedState c b s)) c).xch = some (e.onBucket b.id .asAgreed) := hxch.trans (xch_modBucket hx (ctxWrite_st ..))
  have hbu : bucket? (partToTwin c e.op b (agreedState c b s)) c id = some b.asAgreed := by
    rw [bucket?, hxch]
    exact bucket?_modBucket_same (f := .asAgreed) (fun _ => rfl) (by rw [bucket?_of_st (ctxWrite_st ..), bucket?_id hb, hb]) |> (bucket?_id hb ▸ ·)
  have hnot : (e.onBucket b.id .asAgreed).buckets.all (·.agreed) = false := by
    obtain ⟨y, hy, hne, hag⟩ := hmore
    refine List.all_eq_false.2 ⟨y, List.mem_map.2 ⟨y, hy, if_neg ?_⟩, by simp [hag]⟩
    rw [bucket?_id hb]
    exact hne
  rw [agreeBucket_eq, endExchange_open hu hnot]
  exact ⟨by rw [storedAt, hmem]; exact agreedState_stored hp, _, hbu, rfl⟩

theorem closingRound_last {m : CloseMsg} {k : Nat} (hc : c < 256) (h1 : b.closing = true) (h2 : m.members = b.group.length) (h3 : m.fault = false)
    (h4 : e.op = 0 ∨ m.minDigest = m.maxDigest) (hp : plainAt s c true (b.desc + 0x38) 8 k) (hall : ∀ y ∈ e.buckets, y.id ≠ id → y.agreed = true) :
    leadsTo (.closingRound c id m) s (fun t => storedAt s t k (leBytes 8 b.digest) ∧
      (stepOf t c).xch = none ∧ rget t .stepCtxState_agreed c = 1 ∧
      ∀ r ∈ s.ctl.journal, r.q = e.q → r.seq = e.seq → r.state = .issued → r.again = none →
        answered t r 0x0000 (satTo 16 e.retries + 2 ^ 16 * satTo 16 e.dups + 2 ^ 32 * satTo 32 e.zeroed)) := by
  refine ⟨_, closingRound_eq hx hb hf ha h1 h2 h3 h4, ?_⟩
  obtain ⟨hmem, hj, hxch⟩ := partToTwin_frame c e.op b (agreedState c b s)
  have hu : (stepOf (partToTwin c e.op b (agreedState c b s)) c).xch = some (e.onBucket b.id .asAgreed) := hxch.trans (xch_modBucket hx (ctxWrite_st ..))
  have hyes : (e.onBucket b.id .asAgreed).buckets.all (·.agreed) = true := by
    refine List.all_eq_true.2 fun y hy => ?_
    obtain ⟨z, hz, rfl⟩ := List.mem_map.1 hy
    split
    · rfl
    · next hne => exact hall z hz (bucket?_id hb ▸ hne)
  obtain ⟨e1, e2, e3, e4⟩ := endExchange_ends hc hu hf hyes
  rw [agreeBucket_eq]
  refine ⟨by rw [storedAt, e1, hmem]; exact agreedState_stored hp, e2, e3, fun r hr => e4 r ?_⟩
  rw [hj, agreedState, (modBucket_frame ..).2, ctxWrite_ctl_journal]
  exact hr

end

/-! ### An abort of the step attempt -/

/-- `t` is `s` but for memory and the step machinery. -/
def OnlySteps (s t : State) : Prop := ∃ m x, t = { s with mem := m, st := x }

theorem OnlySteps.rfl {s : State} : OnlySteps s s := ⟨s.mem, s.st, Eq.refl _⟩

theorem OnlySteps.trans {s t u : State} (h : OnlySteps s t) (k : OnlySteps t u) : OnlySteps s u := by
  obtain ⟨_, _, rfl⟩ := h
  obtain ⟨m, x, rfl⟩ := k
  exact ⟨m, x, Eq.refl _⟩

theorem OnlySteps.modStep (c : Nat) (f : StepCtx → StepCtx) (s : State) : OnlySteps s (modStep c f s) := ⟨s.mem, _, Eq.refl _⟩

theorem areasZero_mem (l : List Nat) (n : Nat) (s : State) : ∃ m, areasZero l n s = { s with mem := m } := by
  refine List.foldlRecOn _ _ (motive := fun t => ∃ m, t = { s with mem := m }) ⟨s.mem, rfl⟩ fun t ht a _ => ?_
  obtain ⟨m, rfl⟩ := ht
  split
  · exact ⟨m, rfl⟩
  · exact ⟨_, rfl⟩

theorem areasCopy_mem (d l : List Nat) (n : Nat) (s : State) : ∃ m, areasCopy d l n s = { s with mem := m } := by
  refine List.foldlRecOn _ _ (motive := fun t => ∃ m, t = { s with mem := m }) ⟨s.mem, rfl⟩ fun t ht a _ => ?_
  obtain ⟨m, rfl⟩ := ht
  split
  · exact ⟨m, rfl⟩
  · exact ⟨_, rfl⟩

theorem clearAccum_mem (c : Nat) (s : State) : ∃ m, clearAccum c s = { s with mem := m } := by
  unfold clearAccum
  split
  · exact areasZero_mem ..
  · exact ⟨s.mem, rfl⟩

theorem backToSnap_mem (c n : Nat) (s : State) : ∃ m, backToSnap c n s = { s with mem := m } := by
  unfold backToSnap
  split
  · exact clearAccum_mem ..
  · split
    · exact areasCopy_mem ..
    · exact ⟨s.mem, rfl⟩

theorem backToMbs_frame (c : Nat) (s : State) : OnlySteps s (backToMbs c s) ∧ (stepOf (backToMbs c s) c).xch = (stepOf s c).xch := by
  have key : ∀ (f : StepCtx → StepCtx) (u : State), (∀ x, (f x).xch = x.xch) → (∃ m, u = { modStep c f s with mem := m }) →
      OnlySteps s u ∧ (stepOf u c).xch = (stepOf s c).xch := fun f u hf ⟨m, hu⟩ => by
    subst hu
    refine ⟨⟨m, _, rfl⟩, ?_⟩
    show (stepOf (modStep c f s) c).xch = _
    rw [stepOf_modStep_of (s := s) rfl]
    exact hf _
  unfold backToMbs
  dsimp only
  split
  · exact key (fun x => { x with mbDone := [], mbFault := [] }) _ (fun _ => rfl) (clearAccum_mem ..)
  · split
    · exact key (fun x => { x with mbFault := [] }) _ (fun _ => rfl) ⟨s.mem, rfl⟩
    · exact key (fun x => { x with mbFault := [] }) _ (fun _ => rfl) (backToSnap_mem ..)

theorem countMbs_frame (c : Nat) (s : State) : OnlySteps s (countMbs c s) ∧ (stepOf (countMbs c s) c).xch = (stepOf s c).xch := by
  refine List.foldlRecOn _ _ (motive := fun t => OnlySteps s t ∧ (stepOf t c).xch = (stepOf s c).xch) ⟨.rfl, rfl⟩ fun t ht m _ => ?_
  refine ⟨ht.1.trans (.modStep ..), ?_⟩
  exact (xch_modStep (f := fun x => { x with mbRuns := sset 0 x.mbRuns m.1 (sget 0 x.mbRuns m.1 + 1) }) (fun _ => rfl) c t).trans ht.2

/-- The fields that an abort of the attempt writes. -/
def abortFlds : List Fld := spareFlds ++ [.stepCtxState_agreed, .stepCtxAttempt_attempt, .stepCtxState_state, .stepCtxReplays_stepLevel, .stepCtxState_level]

/-- R249, R250: what the abort of the attempt of the open step leaves. -/
theorem abort3_spec {s : State} {c o : Nat} (hc : c < 256) (ho : stepOpenSt s c = true) (ha : rget s .stepCtxAttempt_attempt c + 1 < 2 ^ 32) :
    Said abortFlds s (abort3 c o s) ∧ stepSt (abort3 c o s) c = 4 ∧
    rget (abort3 c o s) .stepCtxAttempt_attempt c = rget s .stepCtxAttempt_attempt c + 1 ∧ (stepOf (abort3 c o s) c).xch = none := by
  obtain ⟨hloose, -⟩ := removeRuns_frame (F := spareFlds) (fun _ h => h) (fun r => r.ctx == c && r.stepFlag) s
  unfold abort3
  rw [ho, if_neg (by decide)]
  dsimp only
  generalize removeRuns (fun r => r.ctx == c && r.stepFlag) s = s1 at hloose
  obtain ⟨hr, hio, -, -, hxch, -⟩ := discard_frame c s1
  generalize stopExchange c (discardMir c (discardOwn c s1)) = s2 at hr hio hxch
  obtain ⟨hb, hbx⟩ := backToMbs_frame c s2
  obtain ⟨hm, hmx⟩ := countMbs_frame c (backToMbs c s2)
  have h3 := hb.trans hm
  have h3x := hmx.trans (hbx.trans hxch)
  generalize countMbs c (backToMbs c s2) = s3 at h3 h3x
  obtain ⟨m, x, h3⟩ := h3
  generalize hs5 : mapRecs _ _ (resumeRecs c (modStep c _ s3)) = s5
  have h5 : s5.regs = s1.regs ∧ s5.io = s1.io ∧ (stepOf s5 c).xch = none := by
    rw [← hs5]
    refine ⟨?_, ?_, (xch_modStep (f := fun x => { x with aborts := x.aborts + 1, repairs := [], mirBad := false }) (fun _ => rfl) c s3).trans h3x⟩
    · show s3.regs = s1.regs
      rw [h3, ← hr]
    · show s3.io = s1.io
      rw [h3, ← hio]
  obtain ⟨h5r, h5i, h5x⟩ := h5
  have h1 : c < fldCount .stepCtxState_state := hc
  have h2 : c < fldCount .stepCtxAttempt_attempt := hc
  have hatt : rget s5 .stepCtxAttempt_attempt c = rget s .stepCtxAttempt_attempt c := by
    rw [rget_eq, h5r]
    exact hloose.regs _ _ rfl (by decide)
  generalize hs6 : rset .stepCtxState_agreed c 0 _ = s6
  have hk6 : Kept abortFlds s5 s6 ∧ regAt s6.regs .stepCtxState_state c = 4 ∧ regAt s6.regs .stepCtxAttempt_attempt c = rget s .stepCtxAttempt_attempt c + 1 := by
    rw [← hs6]
    refine ⟨((Kept.rfl.rset (.inr (by decide)) ..).rset (.inr (by decide)) ..).rset (.inr (by decide)) .., ?_, ?_⟩
    · rw [regAt_rset_other _ _ _ _ (by decide), regAt_rset_other _ _ _ _ (by decide), regAt_rset_same _ _ h1]
      rfl
    · rw [regAt_rset_other _ _ _ _ (by decide), regAt_rset_same _ _ h2, hatt]
      exact Nat.mod_eq_of_lt ha
  obtain ⟨hk6, hst6, hat6⟩ := hk6
  have ht7 : Told [.stepCtxReplays_stepLevel, .stepCtxState_level] s6 (replayEvent 3 c 0xFFFF o (count1 .stepCtxReplays_stepLevel c s6)) :=
    (Told.rfl.count1 (.inr (by decide)) _).replayEvent (by decide) ..
  have hst7 : (replayEvent 3 c 0xFFFF o (count1 .stepCtxReplays_stepLevel c s6)).st = s6.st := by simp [replayEvent]
  generalize replayEvent 3 c 0xFFFF o (count1 .stepCtxReplays_stepLevel c s6) = s7 at ht7 hst7
  have hval : regAt s7.regs .stepCtxState_state c = 4 ∧ regAt s7.regs .stepCtxAttempt_attempt c = rget s .stepCtxAttempt_attempt c + 1 :=
    ⟨(ht7.regs _ _ rfl (by decide)).trans hst6, (ht7.regs _ _ rfl (by decide)).trans hat6⟩
  have hsaid : Said abortFlds s s7 := ((Said.mk hloose.regs hloose.events hloose.outbox).mono (by simp [abortFlds])).trans
    ((Said.mk (fun _ _ _ _ => by rw [h5r]) (by rw [h5i]) (by rw [h5i])).trans (hk6.toSaid.trans (ht7.said.mono (by simp [abortFlds]))))
  have hx7 : (stepOf s7 c).xch = none := by rw [← h5x, stepOf, hst7, hk6.st]; rfl
  split
  · exact ⟨⟨hsaid.regs, hsaid.events, hsaid.outbox⟩, hval.1, hval.2, hx7⟩
  · exact ⟨hsaid, hval.1, hval.2, hx7⟩

/-- R224: what an exchange fault reports before the attempt is aborted. -/
def faultTold (c bkt part source cause peer : Nat) (s : State) : State :=
  let f := fdieOf s c
  let det := pack [(0, 16, bkt), (16, 16, part), (32, 16, source), (48, 8, f), (56, 8, cause), (64, 16, peer), (80, 16, Config.fdieTj s.free),
    (96, 16, Config.fdieMv s.free), (128, 64, rget s .stepCtxAttempt_attempt c), (192, 64, rosterEpoch s)]
  let s2 := count1 .fdieCollFaultCount_count f (rflag .fdieCollStatus_faultSeen f
    (almDetection 0x0901 (0x18 + f) c det (raiseBoth 0x0901 (0x18 + f) c det (useFree s))))
  sendLate c 2 (modXch c (fun e => { e with faulted := true })
    (emit (.vc7 "EXCHANGE_FAULT" (mySteward s) [ownRoster s, c, stepNo s c, rget s .stepCtxAttempt_attempt c, bkt, cause]) s2))

theorem exchangeFault_eq {s : State} {c : Nat} (ho : stepOpenSt s c = true) (bkt part source cause peer : Nat) :
    exchangeFault c bkt part source cause peer s = abort3 c (ownRoster s) (faultTold c bkt part source cause peer s) := by
  unfold exchangeFault
  rw [ho]
  rfl

theorem faultTold_said (c bkt part source cause peer : Nat) (s : State) :
    Said [.fdieCollStatus_faultSeen, .fdieCollFaultCount_count] s (faultTold c bkt part source cause peer s) ∧
    reported s (faultTold c bkt part source cause peer s) 0x0901 c := by
  unfold faultTold
  dsimp only
  generalize pack _ = det
  generalize 0x18 + fdieOf s c = src
  have hrep := raiseBoth_reported 0x0901 src c det (useFree s)
  have h1 : Told [.fdieCollStatus_faultSeen, .fdieCollFaultCount_count] s (raiseBoth 0x0901 src c det (useFree s)) := Told.rfl.useFree.raiseBoth ..
  generalize raiseBoth 0x0901 src c det (useFree s) = u at hrep h1
  have h2 : Told [.fdieCollStatus_faultSeen, .fdieCollFaultCount_count] u (count1 .fdieCollFaultCount_count (fdieOf s c)
      (rflag .fdieCollStatus_faultSeen (fdieOf s c) (almDetection 0x0901 src c det u))) :=
    ((Told.rfl.almDetection ..).rflag (by decide) _).count1 (.inr (by decide)) _
  generalize count1 .fdieCollFaultCount_count _ _ = v at h2
  have h3 : Told [.fdieCollStatus_faultSeen, .fdieCollFaultCount_count] v (sendLate c 2 (modXch c (fun e => { e with faulted := true })
      (emit (.vc7 "EXCHANGE_FAULT" (mySteward s) [ownRoster s, c, stepNo s c, rget s .stepCtxAttempt_attempt c, bkt, cause]) v))) :=
    (((Told.rfl.emit _).modStep ..).useFree).emit _
  have hall := h2.trans h3
  exact ⟨(h1.trans hall).said, Said.reported hall.said hrep⟩

/-- R224: an exchange fault of an open step is reported and aborts the attempt. -/
theorem exchangeFault_spec {s : State} {c : Nat} (hc : c < 256) (ho : stepOpenSt s c = true) (ha : rget s .stepCtxAttempt_attempt c + 1 < 2 ^ 32)
    (bkt part source cause peer : Nat) : let t := exchangeFault c bkt part source cause peer s
    stepSt t c = 4 ∧ rget t .stepCtxAttempt_attempt c = rget s .stepCtxAttempt_attempt c + 1 ∧ (stepOf t c).xch = none ∧
      ∃ ev ∈ t.io.events, ev.code = 0x0901 ∧ ev.ctx = c := by
  intro t
  obtain ⟨hs, hrep⟩ := faultTold_said c bkt part source cause peer s
  have ht : t = abort3 c (ownRoster s) (faultTold c bkt part source cause peer s) := exchangeFault_eq ho ..
  have hat : rget (faultTold c bkt part source cause peer s) .stepCtxAttempt_attempt c = rget s .stepCtxAttempt_attempt c := hs.regs _ _ rfl (by decide)
  have hst : stepSt (faultTold c bkt part source cause peer s) c = stepSt s c := hs.regs _ _ rfl (by decide)
  generalize faultTold c bkt part source cause peer s = u at *
  obtain ⟨h1, h2, h3, h4⟩ := abort3_spec (o := ownRoster s) hc (show stepOpenSt u c = true by rw [stepOpenSt, hst]; exact ho) (by rw [hat]; exact ha)
  rw [ht]
  exact ⟨h2, by rw [h3, hat], h4, (h1.reported hrep).exists_mem⟩

theorem closingRound_faults {s : State} {c id : Nat} {e : Xch} {b : Bucket} {m : CloseMsg} (hc : c < 256) (hx : (stepOf s c).xch = some e)
    (hb : bucket? s c id = some b) (hf : e.faulted = false) (ha : b.agreed = false) (hm : m.fault = true) (ho : stepOpenSt s c = true)
    (hat : rget s .stepCtxAttempt_attempt c + 1 < 2 ^ 32) : leadsTo (.closingRound c id m) s (fun t =>
      stepSt t c = 4 ∧ rget t .stepCtxAttempt_attempt c = rget s .stepCtxAttempt_attempt c + 1 ∧ (stepOf t c).xch = none ∧
      (∃ ev ∈ t.io.events, ev.code = 0x0901 ∧ ev.ctx = c)) := by
  refine ⟨_, ?_, exchangeFault_spec hc ho hat id 0xFFFF 0xFFFF 4 0xFFFF⟩
  show execClosingRound c id m s = _
  unfold execClosingRound
  rw [hx, hb]
  dsimp only
  rw [if_neg (by simp [ha, hf]), if_neg (by simp [hm]), if_neg (by simp [hm])]

/-! ### EXCHANGE -/

section
variable {h : CmdRef} {s : State} {a : Word64} {count : BitVec 32} {op : BitVec 8}

theorem exchange_badOp (hm : mayRun 0x40 h s = true) (ho : 2 < op.toNat) :
    leadsTo (.exchange h a count op) s (fun t => replied h 0x0016 0x03 t = true ∧ onlyJournal s t) :=
  leadsTo_answered rfl hm fun l => if_pos (by simp [ho])

theorem exchange_paramsOk (hfl : h.flags.getLsbD 2 = true) (hop : op.toNat ≤ 2) (hn : count.toNat ≠ 0) (hmax : count.toNat ≤ 65536)
    (hal : a.toNat % 64 = 0) :
    (!h.flags.toNat.testBit 2 || decide (2 < op.toNat) || decide (count = 0) || decide (65536 < count.toNat) || a.toNat % 64 != 0) = false := by
  have h1 : h.flags.toNat.testBit 2 = true := hfl
  have h2 : count ≠ 0 := fun h => hn (by rw [h]; rfl)
  rw [decide_eq_false h2]
  simp [h1, Nat.not_lt.2 hop, Nat.not_lt.2 hmax, hal]

theorem readGroup_setJournal (l : List Rec) (s : State) (c a : Nat) : readGroup (setJournal l s) c a = readGroup s c a := by
  have hp : ∀ x k, peek (setJournal l s) c x k = peek s c x k := fun x k => peek_congr (s := s) (t := setJournal l s) rfl rfl rfl rfl rfl rfl c x k
  have h1 : inRoster (setJournal l s) = inRoster s := rfl
  have h2 : inSlice (setJournal l s) = inSlice s := rfl
  have h3 : ownRoster (setJournal l s) = ownRoster s := rfl
  simp only [readGroup, hp, h1, h2, h3]

theorem readBuckets_setJournal (l : List Rec) (s : State) (c op a n i : Nat) (acc : List Bucket) :
    readBuckets (setJournal l s) c op a n i acc = readBuckets s c op a n i acc := by
  have hp : ∀ x k, peek (setJournal l s) c x k = peek s c x k := fun x k => peek_congr (s := s) (t := setJournal l s) rfl rfl rfl rfl rfl rfl c x k
  induction n generalizing i acc with
  | zero => rfl
  | succ n ih =>
    unfold readBuckets
    simp only [hp, readGroup_setJournal, ih]

theorem tableBad_setJournal (l : List Rec) (s : State) (c a n : Nat) : tableBad (setJournal l s) c a n = tableBad s c a n := by
  have hp : ∀ x k, peek (setJournal l s) c x k = peek s c x k := fun x k => peek_congr (s := s) (t := setJournal l s) rfl rfl rfl rfl rfl rfl c x k
  simp only [tableBad, hp]

section
variable (hm : mayRun 0x40 h s = true) (hfl : h.flags.getLsbD 2 = true) (hop : op.toNat ≤ 2) (hn : count.toNat ≠ 0) (hmax : count.toNat ≤ 65536)
  (hal : a.toNat % 64 = 0)
include hm hfl hop hn hmax hal

theorem exchange_noStep (ho : stepOpenSt s h.ctx = false) :
    leadsTo (.exchange h a count op) s (fun t => replied h 0x0031 0 t = true ∧ onlyJournal s t) :=
  leadsTo_answered rfl hm fun l => by
    have ho' : stepOpenSt (setJournal l s) h.ctx = false := ho
    dsimp only
    rw [exchange_paramsOk hfl hop hn hmax hal, if_neg (by decide), ho']
    rfl

/-- R203: EXCHANGE in an open step, with a good table: its descriptors decide. -/
theorem exchange_leadsTo {P : State → Prop} (ho : stepOpenSt s h.ctx = true) (hx : (stepOf s h.ctx).xch = none)
    (hb : tableBad s h.ctx a.toNat count.toNat = ([], []))
    (hP : ∀ l, started 0x40 h s = setJournal l s → (∀ d, readBuckets s h.ctx op.toNat a.toNat count.toNat 0 [] = .error d → P (badParam h d (setJournal l s))) ∧
      ∀ bs, readBuckets s h.ctx op.toNat a.toNat count.toNat 0 [] = .ok bs →
        P (startExchange h.ctx op.toNat h bs (leaveReplay h.ctx (leaveIdle (setJournal l s))))) : leadsTo (.exchange h a count op) s P := by
  refine leadsTo_runCmd rfl hm fun l hl => ?_
  have ho' : stepOpenSt (setJournal l s) h.ctx = true := ho
  have hx' : (stepOf (setJournal l s) h.ctx).xch.isSome = false := by show (stepOf s h.ctx).xch.isSome = false; rw [hx]; rfl
  obtain ⟨h1, h2⟩ := hP l hl
  dsimp only
  rw [exchange_paramsOk hfl hop hn hmax hal, if_neg (by decide), ho', if_neg (by decide), hx', if_neg (by decide), tableBad_setJournal, hb,
    if_neg (by decide), readBuckets_setJournal]
  cases hr : readBuckets s h.ctx op.toNat a.toNat count.toNat 0 [] with
  | error d => exact h1 d hr
  | ok bs => exact h2 bs hr

theorem exchange_badTable {d : Nat} (ho : stepOpenSt s h.ctx = true) (hx : (stepOf s h.ctx).xch = none)
    (hb : tableBad s h.ctx a.toNat count.toNat = ([], [])) (hr : readBuckets s h.ctx op.toNat a.toNat count.toNat 0 [] = .error d) :
    leadsTo (.exchange h a count op) s (fun t => replied h 0x0016 d t = true ∧ onlyJournal s t) :=
  exchange_leadsTo hm hfl hop hn hmax hal ho hx hb fun l hl => ⟨fun d' hr' => by
    obtain rfl : d = d' := Except.error.inj (hr.symm.trans hr')
    exact ⟨badParam_replied_of hm hl rfl, onlyJournal_finish ..⟩, fun bs hr' => by rw [hr] at hr'; cases hr'⟩

end

theorem leaveReplay_idle (c : Nat) (s : State) : Told (openFlds ++ [.stepCtxState_state]) s (leaveReplay c (leaveIdle s)) ∧
    (leaveReplay c (leaveIdle s)).mem = s.mem ∧ (leaveReplay c (leaveIdle s)).st = s.st ∧
    (leaveReplay c (leaveIdle s)).ctl.journal = s.ctl.journal := by
  have h := leaveIdle_aside s
  have ht : Told (openFlds ++ [.stepCtxState_state]) s (leaveIdle s) := h.told.mono fun f hf => List.mem_append_left _ hf
  unfold leaveReplay
  split
  · exact ⟨ht.rset (.inr (by decide)) .., by simp, by simp, by simp⟩
  · exact ⟨ht, h.mem, h.st, h.journal⟩

/-- Messages sent for each member of a list: the rest of the state is kept, and each one was sent from a state with the same registers. -/
theorem foldl_emit_all {α : Type} (f : State → α → OutMsg) (l : List α) (s : State) :
    l.foldl (fun s i => emit (f s i) s) s = { s with io := (l.foldl (fun s i => emit (f s i) s) s).io } ∧
    ∀ i ∈ l, ∃ v : State, v.regs = s.regs ∧ f v i ∈ (l.foldl (fun s i => emit (f s i) s) s).io.outbox := by
  induction l generalizing s with
  | nil => exact ⟨rfl, nofun⟩
  | cons i l ih =>
    obtain ⟨h1, h2⟩ := ih (emit (f s i) s)
    refine ⟨h1, fun j hj => ?_⟩
    rcases List.mem_cons.1 hj with rfl | hj
    · exact ⟨s, rfl, (foldl_emit_frame f l (emit (f s j) s)).2.subset (List.mem_append_right _ List.mem_cons_self)⟩
    · obtain ⟨v, hv, hm⟩ := h2 j hj
      exact ⟨v, hv, hm⟩

/-- The buckets that a table gives are new ones. -/
theorem readBuckets_fresh {s : State} {c op a n i : Nat} {acc bs : List Bucket} (hacc : ∀ b ∈ acc, b.agreed = false)
    (hr : readBuckets s c op a n i acc = .ok bs) : (∀ b ∈ bs, b.agreed = false) ∧ bs.length = acc.length + n := by
  induction n generalizing i acc with
  | zero => cases hr; exact ⟨hacc, rfl⟩
  | succ n ih =>
    unfold readBuckets at hr
    dsimp only at hr
    split at hr
    · cases hr
    · split at hr
      · cases hr
      · split at hr
        · cases hr
        · obtain ⟨h1, h2⟩ := ih (fun b hb => by
            rcases List.mem_append.1 hb with h | h
            · exact hacc b h
            · rw [List.mem_singleton.1 h]; rfl) hr
          exact ⟨h1, by rw [h2, List.length_append, List.length_singleton]; omega⟩

theorem exchange_starts {bs : List Bucket} (hm : mayRun 0x40 h s = true) (hfl : h.flags.getLsbD 2 = true) (hop : op.toNat ≤ 2) (hn : count.toNat ≠ 0)
    (hmax : count.toNat ≤ 65536) (hal : a.toNat % 64 = 0) (ho : stepOpenSt s h.ctx = true) (hx : (stepOf s h.ctx).xch = none)
    (hb : tableBad s h.ctx a.toNat count.toNat = ([], [])) (hag : (stepOf s h.ctx).agreed = [])
    (hr : readBuckets s h.ctx op.toNat a.toNat count.toNat 0 [] = .ok bs) : leadsTo (.exchange h a count op) s (fun t =>
      waitsOn h (.exchange 0) t = true ∧ t.mem = s.mem ∧ (stepOf t h.ctx).xch = some ⟨h.q, h.seq.toNat, op.toNat, bs, 0, 0, 0, false⟩ ∧
      ∀ b ∈ bs, .vc7 "OPENING" 0x3FFF [h.ctx, stepNo s h.ctx, rget s .stepCtxAttempt_attempt h.ctx, b.id, ownRoster s, b.shape] ∈ t.io.outbox) := by
  refine exchange_leadsTo hm hfl hop hn hmax hal ho hx hb fun l hl => ⟨fun d hr' => absurd (hr.symm.trans hr') nofun, fun bs' hr' => ?_⟩
  obtain rfl : bs = bs' := Except.ok.inj (hr.symm.trans hr')
  obtain ⟨hfresh, hlen⟩ := readBuckets_fresh (by simp) hr
  have hu := leaveReplay_idle h.ctx (setJournal l s)
  generalize hv : leaveReplay h.ctx (leaveIdle (setJournal l s)) = u at hu ⊢
  obtain ⟨ht, hmem, hst, hj⟩ := hu
  have hstep : stepNo u h.ctx = stepNo s h.ctx := ht.regs _ _ rfl (by decide)
  have hatt : rget u .stepCtxAttempt_attempt h.ctx = rget s .stepCtxAttempt_attempt h.ctx := ht.regs _ _ rfl (by decide)
  have hown : ownRoster u = ownRoster s := ht.regs _ _ rfl (by decide)
  have hold : (stepOf u h.ctx).agreed = [] := by rw [stepOf, hst]; exact hag
  have hbs : bs.map (fun b => if (stepOf u h.ctx).agreed.any (fun a => a.desc == b.desc && a.shape == b.shape && a.id == b.id) then
      { b with opened := true, closing := true, agreed := true } else b) = bs := by
    rw [hold]
    exact List.map_id _
  have hnew : bs.filter (fun b => !b.agreed) = bs := List.filter_eq_self.2 fun b hb => by simp [hfresh b hb]
  unfold startExchange
  dsimp only
  rw [hbs, hnew]
  generalize hw : modStep h.ctx _ (waitFor h (.exchange 0) u) = w
  have hwx : (stepOf w h.ctx).xch = some ⟨h.q, h.seq.toNat, op.toNat, bs, 0, 0, 0, false⟩ := by
    rw [← hw]
    exact congrArg StepCtx.xch (stepOf_modStep_of (s := u) (u := waitFor h (.exchange 0) u) (c := h.ctx)
      (f := fun x => { x with xch := some ⟨h.q, h.seq.toNat, op.toNat, bs, 0, 0, 0, false⟩, group := (bs.head?).elim [] (·.group) }) rfl)
  have hww : waitsOn h (.exchange 0) w = true := by rw [← hw]; exact waitFor_waits_of hm hl hj
  have hwm : w.mem = s.mem := by rw [← hw]; exact hmem
  have hwr : w.regs = u.regs := by rw [← hw]; rfl
  have hall : bs.all (·.agreed) = false := by
    cases bs with
    | nil => exact absurd hlen.symm (by simpa using hn)
    | cons b bs => simp [hfresh b List.mem_cons_self]
  obtain ⟨hf1, hf2⟩ := foldl_emit_all (fun (v : State) (b : Bucket) => OutMsg.vc7 "OPENING" 0x3FFF
    [h.ctx, stepNo v h.ctx, rget v .stepCtxAttempt_attempt h.ctx, b.id, ownRoster v, b.shape]) bs w
  generalize bs.foldl _ w = z at hf1 hf2 ⊢
  have hzx : (stepOf z h.ctx).xch = some ⟨h.q, h.seq.toNat, op.toNat, bs, 0, 0, 0, false⟩ := by rw [← hwx, hf1]; rfl
  rw [endExchange_open hzx hall]
  refine ⟨by rw [hf1]; exact hww, by rw [hf1]; exact hwm, hzx, fun b hb => ?_⟩
  obtain ⟨v, hv, hmsg⟩ := hf2 b hb
  have hr1 : stepNo v h.ctx = stepNo s h.ctx := by rw [← hstep, stepNo, rget_eq, hv, hwr]; rfl
  have hr2 : rget v .stepCtxAttempt_attempt h.ctx = rget s .stepCtxAttempt_attempt h.ctx := by rw [← hatt, rget_eq, hv, hwr]; rfl
  have hr3 : ownRoster v = ownRoster s := by rw [← hown, ownRoster, rget_eq, hv, hwr]; rfl
  rw [hr1, hr2, hr3] at hmsg
  exact hmsg

end

/-- Settles O38: EXCHANGE by its table, the opening round by its digests, the closing round by its result. -/
theorem exchangeRounds : Obligations.ExchangeRounds := by
  intro s
  refine ⟨?_, ?_, ?_⟩
  · intro h a count op hm c n
    exact ⟨exchange_badOp hm, fun hfl hop hn hmax hal => ⟨exchange_noStep hm hfl hop hn hmax hal, fun ho hx hb =>
      ⟨fun d => exchange_badTable hm hfl hop hn hmax hal ho hx hb, fun bs hag hr => exchange_starts hm hfl hop hn hmax hal ho hx hb hag hr⟩⟩⟩
  · exact fun c id diff mn mx e b hx hb hf ha ho => ⟨openingRound_opens hx hb hf ha ho, openingRound_ends hx hb hf ha ho⟩
  · exact fun c id k m e b hc hx hb hf ha => ⟨fun h1 h2 h3 h4 hp => ⟨closingRound_last hx hb hf ha hc h1 h2 h3 h4 hp,
      closingRound_agrees hx hb hf ha h1 h2 h3 h4 hp⟩, closingRound_faults hc hx hb hf ha⟩

end Sys2Proof.Machine
end

section
/-! PROOFS. Arrivals of an exchange: chunks discarded, asked for again, taken, kept and sent again (R218, R219, R221, R400). -/

namespace Sys2Proof.Machine

/-- A bucket that asked for a chunk again. -/
def Bucket.plusFailed (key : Nat × Nat × Nat) (b : Bucket) : Bucket := { b with failed := b.failed ++ [key] }

/-- An EXCHANGE that asked for a chunk again. -/
def Xch.plusRetry (e : Xch) : Xch := { e with retries := e.retries + 1 }

/-- A context with one more chunk that came early. -/
def StepCtx.plusStaged (m : ChunkMsg) (x : StepCtx) : StepCtx := { x with staged := x.staged ++ [m] }

theorem xch_modXch {s : State} {c : Nat} {f : Xch → Xch} {e : Xch} (hx : (stepOf s c).xch = some e) : (stepOf (modXch c f s) c).xch = some (f e) := by
  rw [stepOf_modXch, hx]
  rfl

/-- `t` reads memory as `s` does, with the same registers. -/
structure ReadsSame (s t : State) : Prop where
  regs : t.regs = s.regs
  sp : t.sp = s.sp
  ctxs : t.ctl.ctxs = s.ctl.ctxs
  free : t.free = s.free
  mem : t.mem = s.mem
  host : t.host = s.host

theorem ReadsSame.me {s t : State} (h : ReadsSame s t) (b : Bucket) : b.me t = b.me s := by
  rw [Bucket.me, ownRoster, rget_eq, h.regs]
  rfl

theorem ReadsSame.leaves {s t : State} (h : ReadsSame s t) (b : Bucket) (c : Nat) : b.leaves t c = b.leaves s c := by
  have hp : peek t c = peek s c := by funext a n; exact peek_congr h.regs h.sp h.ctxs h.free h.mem h.host c a n
  have ho : b.offer t c = b.offer s c := by simp only [Bucket.offer, hp]
  simp only [Bucket.leaves, Bucket.ownLeaf, ho, h.me]

/-- A bucket whose contributions are all there is summed, and its closing round begins. -/
theorem stepBucket_sums {c id : Nat} {s : State} {b : Bucket} {ps : List (List Nat)} (hb : bucket? s c id = some b) (ho : b.opened = true)
    (hc : b.closing = false) (hs : b.summed = false) (hl : b.leaves s c = some ps) :
    stepBucket c opReduceScatter id s = closeBucket c opReduceScatter b.asSummed (summedState c opReduceScatter b ps s) := by
  have hsum : sumBucket c opReduceScatter b ps s = summedState c opReduceScatter b ps s := (sumBucket_eq ..).trans (if_neg (by decide))
  have hb1 : bucket? (summedState c opReduceScatter b ps s) c id = some b.asSummed := by
    unfold summedState
    rw [bucket?_id hb]
    exact bucket?_modBucket_same (f := .asSummed) (fun _ => rfl) (by rw [bucket?_of_st (ctxWrite_st ..), hb])
  unfold stepBucket
  rw [hb]
  dsimp only
  rw [if_neg (by simp [ho, hc]), hs, if_neg (by decide), hl]
  simp only [hsum]
  generalize summedState c opReduceScatter b ps s = u at hb1 ⊢
  rw [hb1]
  rfl

section
variable {s : State} {m : ChunkMsg} {e : Xch} {b : Bucket} (hx : (stepOf s m.ctx).xch = some e) (hb : bucket? s m.ctx m.bucket = some b)

/-- A chunk of the generation that is expected changes at most the generations that were received. -/
theorem noteGen_frame (hg : genStale s m.sender m.ctx m.gen = false) :
    ∃ g, noteGen m.sender m.ctx m.gen s = { s with vig := { s.vig with recvGen := g } } := by
  unfold genStale at hg
  unfold noteGen
  cases h : sget? s.vig.recvGen (genKey m.sender m.ctx) with
  | none => exact ⟨_, rfl⟩
  | some g =>
    rw [h] at hg
    have : g = m.gen := by simpa using hg
    exact ⟨s.vig.recvGen, by simp [this]⟩

/-- R400: a chunk of another generation is counted and discarded. -/
theorem exchangeChunk_stale (hg : genStale s m.sender m.ctx m.gen = true) (f : Bool) :
    leadsTo (.exchangeChunk m f) s (fun t => t.st = s.st ∧ t.mem = s.mem ∧
      (rget s .vigilStaleDropCount_count 0 < 2 ^ 32 - 1 → rget t .vigilStaleDropCount_count 0 = rget s .vigilStaleDropCount_count 0 + 1)) := by
  have hn : noteGen m.sender m.ctx m.gen s = count1 .vigilStaleDropCount_count 0 s := by
    unfold genStale at hg
    unfold noteGen
    cases h : sget? s.vig.recvGen (genKey m.sender m.ctx) with
    | none => rw [h] at hg; cases hg
    | some g =>
      rw [h] at hg
      exact if_neg (by simpa using hg)
  refine ⟨count1 .vigilStaleDropCount_count 0 s, ?_, by simp, by simp, fun hlt => ?_⟩
  · show execExchangeChunk m f s = _
    rw [← hn]
    exact if_pos hg
  · exact regAt_count_same rfl (by decide) (by exact hlt)

/-- What becomes of a chunk of the generation that is expected. -/
theorem exchangeChunk_eq (hg : genStale s m.sender m.ctx m.gen = false) (f : Bool) : ∃ g, exec (.exchangeChunk m f) s =
    (let u : State := { s with vig := { s.vig with recvGen := g } }
    if BitVec.ofNat 64 (runDigest m.payload) ≠ m.digest then .next (badHop m u)
    else if m.epoch < rosterEpoch s || m.step < stepNo s m.ctx || (m.step == stepNo s m.ctx && decide (m.attempt < rget s .stepCtxAttempt_attempt m.ctx)) then
      .next (count1 .fdieCollStaleDiscardCount_count (fdieOf u m.ctx) (useFree u))
    else if stepNo s m.ctx < m.step || rget s .stepCtxAttempt_attempt m.ctx < m.attempt || !((bucket? s m.ctx m.bucket).elim false (·.opened)) then
      .next (modStep m.ctx (.plusStaged m) u)
    else if f then .next (exchangeFault m.ctx m.bucket m.part m.source 2 0xFFFF u)
    else .next (takeChunk m.ctx (xchOp s m.ctx) m u)) := by
  obtain ⟨g, hn⟩ := noteGen_frame hg
  refine ⟨g, ?_⟩
  show execExchangeChunk m f s = _
  unfold execExchangeChunk
  dsimp only
  rw [hg, if_neg (by decide), hn]
  rfl

/-- R400, R218: a chunk of an earlier epoch, step or attempt is discarded. -/
theorem exchangeChunk_late (hg : genStale s m.sender m.ctx m.gen = false) (hd : BitVec.ofNat 64 (runDigest m.payload) = m.digest)
    (hl : m.epoch < rosterEpoch s ∨ m.step < stepNo s m.ctx ∨ (m.step = stepNo s m.ctx ∧ m.attempt < rget s .stepCtxAttempt_attempt m.ctx)) (f : Bool) :
    leadsTo (.exchangeChunk m f) s (fun t => t.st = s.st ∧ t.mem = s.mem) := by
  obtain ⟨g, he⟩ := exchangeChunk_eq hg f
  dsimp only at he
  rw [if_neg (not_not_intro hd), if_pos (by simpa [or_assoc] using hl)] at he
  exact ⟨_, he, by simp, by simp⟩

theorem notLate (he : rosterEpoch s ≤ m.epoch) (hs : stepNo s m.ctx < m.step ∨ (m.step = stepNo s m.ctx ∧ rget s .stepCtxAttempt_attempt m.ctx ≤ m.attempt)) :
    (m.epoch < rosterEpoch s || m.step < stepNo s m.ctx || (m.step == stepNo s m.ctx && decide (m.attempt < rget s .stepCtxAttempt_attempt m.ctx))) = false := by
  simp only [Bool.or_eq_false_iff, Bool.and_eq_false_iff, decide_eq_false_iff_not, beq_eq_false_iff_ne]
  omega

include hb in
/-- R219: a chunk that comes early is kept. -/
theorem exchangeChunk_early (hg : genStale s m.sender m.ctx m.gen = false) (hd : BitVec.ofNat 64 (runDigest m.payload) = m.digest)
    (he : rosterEpoch s ≤ m.epoch) (hs : stepNo s m.ctx < m.step ∨ (m.step = stepNo s m.ctx ∧ rget s .stepCtxAttempt_attempt m.ctx < m.attempt) ∨
      (m.step = stepNo s m.ctx ∧ m.attempt = rget s .stepCtxAttempt_attempt m.ctx ∧ b.opened = false)) (f : Bool) :
    leadsTo (.exchangeChunk m f) s (fun t => t.mem = s.mem ∧ stepOf t m.ctx = { stepOf s m.ctx with staged := (stepOf s m.ctx).staged ++ [m] }) := by
  obtain ⟨g, hx⟩ := exchangeChunk_eq hg f
  dsimp only at hx
  rw [if_neg (not_not_intro hd), notLate he (by omega), if_neg (by decide), hb, if_pos] at hx
  · exact ⟨_, hx, rfl, stepOf_modStep_of (c := m.ctx) (f := .plusStaged m) rfl⟩
  · rcases hs with h | ⟨-, h⟩ | ⟨-, -, h⟩ <;> simp [h]

include hx hb in
/-- R221: a chunk whose digest does not match is asked for once more. -/
theorem exchangeChunk_retry (hg : genStale s m.sender m.ctx m.gen = false) (hd : BitVec.ofNat 64 (runDigest m.payload) ≠ m.digest)
    (hk : (m.part, m.source, m.index) ∉ b.failed) (f : Bool) : leadsTo (.exchangeChunk m f) s (fun t => t.mem = s.mem ∧
      (∃ y, (stepOf t m.ctx).xch = some y ∧ y.retries = e.retries + 1) ∧
      (∃ y, bucket? t m.ctx m.bucket = some y ∧ y.got = b.got ∧ (m.part, m.source, m.index) ∈ y.failed) ∧
      .vc7 "CHUNK_RESEND" m.sender [m.ctx, m.bucket, m.part, m.source, m.index] ∈ t.io.outbox) := by
  obtain ⟨g, he⟩ := exchangeChunk_eq hg f
  dsimp only at he
  rw [if_pos hd] at he
  have hbad : ∃ w : State, w.st = s.st ∧ w.mem = s.mem ∧ badHop m { s with vig := { s.vig with recvGen := g } } =
      emit (.vc7 "CHUNK_RESEND" m.sender [m.ctx, m.bucket, m.part, m.source, m.index])
        (modXch m.ctx .plusRetry (modBucket m.ctx m.bucket (.plusFailed (m.part, m.source, m.index)) w)) := by
    have hbu : bucket? { s with vig := { s.vig with recvGen := g } } m.ctx m.bucket = some b := hb
    unfold badHop
    dsimp only
    rw [hbu, if_neg (by simpa using hk)]
    exact ⟨_, by simp, by simp, rfl⟩
  obtain ⟨w, hws, hwm, hbad⟩ := hbad
  refine ⟨_, he, ?_⟩
  rw [hbad]
  have hwb : bucket? w m.ctx m.bucket = some b := by rw [bucket?_of_st hws, hb]
  have hb1 := bucket?_modBucket_same (f := .plusFailed (m.part, m.source, m.index)) (fun _ => rfl) hwb
  have hx1 := xch_modBucket (id := m.bucket) (f := .plusFailed (m.part, m.source, m.index)) hx hws
  generalize hv : modBucket m.ctx m.bucket (.plusFailed (m.part, m.source, m.index)) w = v at hb1 hx1
  have hvm : v.mem = w.mem := by rw [← hv]; exact (modBucket_frame ..).1
  exact ⟨hvm.trans hwm, ⟨_, xch_modXch (f := .plusRetry) hx1, rfl⟩,
    ⟨_, (bucket?_modXch (f := .plusRetry) (fun _ => rfl) ..).trans hb1, rfl, List.mem_append_right _ List.mem_cons_self⟩,
    List.mem_append_right _ List.mem_cons_self⟩

section
variable (hg : genStale s m.sender m.ctx m.gen = false) (hd : BitVec.ofNat 64 (runDigest m.payload) = m.digest) (he : rosterEpoch s ≤ m.epoch)
  (hs : m.step = stepNo s m.ctx) (ha : m.attempt = rget s .stepCtxAttempt_attempt m.ctx) (ho : b.opened = true)
include hb hg hd he hs ha ho

/-- R218: a chunk of an opened bucket, of the step and the attempt, is taken at its node. -/
theorem exchangeChunk_taken : ∃ g, exec (.exchangeChunk m false) s =
    .next (takeChunk m.ctx (xchOp s m.ctx) m { s with vig := { s.vig with recvGen := g } }) := by
  obtain ⟨g, hx⟩ := exchangeChunk_eq hg false
  refine ⟨g, ?_⟩
  dsimp only at hx
  rw [if_neg (not_not_intro hd), notLate he (by omega), if_neg (by decide), hb, if_neg, if_neg (by decide)] at hx
  · exact hx
  · simp [hs, ha, ho]

include hx in
/-- R218: a second chunk of the same key is counted and discarded. -/
theorem exchangeChunk_dup (hk : ∃ y ∈ b.got, (y.1, y.2.1, y.2.2.1) = (m.part, m.source, m.index)) :
    leadsTo (.exchangeChunk m false) s (fun t => t.mem = s.mem ∧ bucket? t m.ctx m.bucket = some b ∧
      ∃ y, (stepOf t m.ctx).xch = some y ∧ y.dups = e.dups + 1) := by
  obtain ⟨g, hex⟩ := exchangeChunk_taken hb hg hd he hs ha ho
  have hbu : bucket? { s with vig := { s.vig with recvGen := g } } m.ctx m.bucket = some b := hb
  have htake : ∃ w : State, w.st = s.st ∧ w.mem = s.mem ∧
      takeChunk m.ctx (xchOp s m.ctx) m { s with vig := { s.vig with recvGen := g } } = modXch m.ctx .plusDup w := by
    unfold takeChunk
    rw [hbu]
    dsimp only
    rw [if_pos]
    · exact ⟨_, by simp, by simp, rfl⟩
    · obtain ⟨y, hy, hkey⟩ := hk
      simp only [Prod.mk.injEq] at hkey
      obtain ⟨h1, h2, h3⟩ := hkey
      exact Bool.or_eq_true_iff.2 (.inl (List.any_eq_true.2 ⟨y, hy, by simp [h1, h2, h3]⟩))
  obtain ⟨w, hws, hwm, htake⟩ := htake
  refine ⟨_, hex, ?_⟩
  rw [htake]
  have hwx : (stepOf w m.ctx).xch = some e := by rw [stepOf, hws]; exact hx
  exact ⟨hwm, by rw [bucket?_modXch (f := .plusDup) (fun _ => rfl), bucket?_of_st hws, hb], _, xch_modXch (f := .plusDup) hwx, rfl⟩

/-- R218: the first chunk of a key takes its place. -/
theorem exchangeChunk_first (hk : ∀ y ∈ b.got, (y.1, y.2.1, y.2.2.1) ≠ (m.part, m.source, m.index)) (hag : b.agreed = false) :
    ∃ g, exec (.exchangeChunk m false) s = .next (stepBucket m.ctx (xchOp s m.ctx) m.bucket
      (modBucket m.ctx m.bucket (.plusChunk m) { s with vig := { s.vig with recvGen := g } })) := by
  obtain ⟨g, hex⟩ := exchangeChunk_taken hb hg hd he hs ha ho
  have hbu : bucket? { s with vig := { s.vig with recvGen := g } } m.ctx m.bucket = some b := hb
  refine ⟨g, hex.trans (congrArg _ ?_)⟩
  unfold takeChunk
  rw [hbu]
  dsimp only
  rw [if_neg]
  · rfl
  · rw [hag, Bool.or_false, Bool.not_eq_true]
    refine List.any_eq_false.2 fun y hy h => hk y hy ?_
    simp only [Bool.and_eq_true, beq_iff_eq] at h
    rw [h.1.1, h.1.2, h.2]

theorem exchangeChunk_placed (hk : ∀ y ∈ b.got, (y.1, y.2.1, y.2.2.1) ≠ (m.part, m.source, m.index)) (hag : b.agreed = false) :
    leadsTo (.exchangeChunk m false) s (fun t => ∃ y, bucket? t m.ctx m.bucket = some y ∧ y.got = b.got ++ [(m.part, m.source, m.index, m.payload)]) := by
  obtain ⟨g, hex⟩ := exchangeChunk_first hb hg hd he hs ha ho hk hag
  have hbu : bucket? (modBucket m.ctx m.bucket (.plusChunk m) { s with vig := { s.vig with recvGen := g } }) m.ctx m.bucket = some (b.plusChunk m) :=
    bucket?_modBucket_same (f := .plusChunk m) (fun _ => rfl) hb
  obtain ⟨z, hz, -, -, hgot⟩ := (stepBucket_kept m.ctx (xchOp s m.ctx) m.bucket m.bucket _).keep _ hbu
  exact ⟨_, hex, z, hz, hgot⟩

include hx in
/-- R209, R210: the last contribution to the own part sums it in the tree of the members and writes it. -/
theorem exchangeChunk_sums {ps : List (List Nat)} {k : Nat} (hk : ∀ y ∈ b.got, (y.1, y.2.1, y.2.2.1) ≠ (m.part, m.source, m.index))
    (hag : b.agreed = false) (hop : e.op = 0) (hcl : b.closing = false) (hsum : b.summed = false) (hps : (b.plusChunk m).leaves s m.ctx = some ps)
    (hp : plainAt s m.ctx true b.dst (wordsTo b.outFmt (b.sumPart (stepNo s m.ctx) (b.me s) ps)).length k) :
    leadsTo (.exchangeChunk m false) s (fun t => storedAt s t k (wordsTo b.outFmt (b.sumPart (stepNo s m.ctx) (b.me s) ps)) ∧
      ∃ y, bucket? t m.ctx m.bucket = some y ∧ y.summed = true ∧ y.closing = true) := by
  obtain ⟨g, hex⟩ := exchangeChunk_first hb hg hd he hs ha ho hk hag
  have hop' : xchOp s m.ctx = opReduceScatter := by rw [xchOp, hx]; exact hop
  rw [hop'] at hex
  have hbu : bucket? (modBucket m.ctx m.bucket (.plusChunk m) { s with vig := { s.vig with recvGen := g } }) m.ctx m.bucket = some (b.plusChunk m) :=
    bucket?_modBucket_same (f := .plusChunk m) (fun _ => rfl) hb
  have hmap : SameMap s (modBucket m.ctx m.bucket (.plusChunk m) { s with vig := { s.vig with recvGen := g } }) := .of_eq rfl rfl rfl
  have hsame : ReadsSame s (modBucket m.ctx m.bucket (.plusChunk m) { s with vig := { s.vig with recvGen := g } }) := ⟨rfl, rfl, rfl, rfl, rfl, rfl⟩
  generalize modBucket m.ctx m.bucket (.plusChunk m) { s with vig := { s.vig with recvGen := g } } = v at hex hbu hmap hsame
  refine ⟨_, hex, ?_⟩
  rw [stepBucket_sums hbu ho hcl hsum ((hsame.leaves ..).trans hps), closeBucket_eq]
  have hno : stepNo v m.ctx = stepNo s m.ctx := by rw [stepNo, rget_eq, hsame.regs]; rfl
  have hdst : ((b.plusChunk m).ownDst v opReduceScatter).1 = b.dst := by rw [Bucket.ownDst, if_pos rfl]; rfl
  have hpart : (b.plusChunk m).sumPart (stepNo v m.ctx) ((b.plusChunk m).me v) ps = b.sumPart (stepNo s m.ctx) (b.me s) ps := by
    rw [hno, hsame.me]
    rfl
  have hb1 : bucket? (summedState m.ctx opReduceScatter (b.plusChunk m) ps v) m.ctx m.bucket = some (b.plusChunk m).asSummed := by
    unfold summedState
    rw [bucket?_id hbu]
    exact bucket?_modBucket_same (f := .asSummed) (fun _ => rfl) (by rw [bucket?_of_st (ctxWrite_st ..), hbu])
  have hst : storedAt s (summedState m.ctx opReduceScatter (b.plusChunk m) ps v) k (wordsTo b.outFmt (b.sumPart (stepNo s m.ctx) (b.me s) ps)) := by
    rw [storedAt, summedState, (modBucket_frame ..).1, hdst, hpart]
    exact storedAt_ctxWrite (plainAt_map hmap (by rw [hsame.mem]) hp) (by rw [hsame.mem])
  generalize summedState m.ctx opReduceScatter (b.plusChunk m) ps v = u at hb1 hst ⊢
  have hid : (b.plusChunk m).asSummed.id = m.bucket := bucket?_id hb1
  generalize hd : runDigest (peek u m.ctx (b.plusChunk m).asSummed.dst ((b.plusChunk m).asSummed.dstBytes opReduceScatter)).bytes = d
  refine ⟨hst, (b.plusChunk m).asSummed.closed d, ?_, rfl, rfl⟩
  show bucket? (closingState m.ctx opReduceScatter (b.plusChunk m).asSummed u) m.ctx m.bucket = _
  rw [closingState, hid, hd]
  exact bucket?_modBucket_same (f := .closed d) (fun _ => rfl) hb1

end

end

/-! ### A chunk asked for again -/

theorem sendChunk_sends (c : Nat) (b : Bucket) (to_ part source index : Nat) (payload : List Byte) (s : State) :
    ∃ l, .data "CHUNK" (b.group.getD to_ 0) (c :: genOf s c :: l) payload ∈ (sendChunk c b to_ part source index payload s).io.outbox := by
  unfold sendChunk
  dsimp only
  generalize hv : emit _ (useFree s) = v
  have hk : Told [.fdieCollBytes_units] v (touch c (b.group.getD to_ 0) (chargeLink c payload.length (activity .fdieCollBytes_units (fdieOf s c) payload.length v))) := by
    rw [chargeLink, charge_eq]
    exact ((Told.rfl.activity (by decide) ..).withPow _).touch ..
  have hmem : ∃ l, .data "CHUNK" (b.group.getD to_ 0) (c :: genOf s c :: l) payload ∈ v.io.outbox := by
    rw [← hv]
    exact ⟨_, List.mem_append_right _ List.mem_cons_self⟩
  obtain ⟨l, hl⟩ := hmem
  exact ⟨l, hk.outbox.subset hl⟩

section
variable {s : State} {m : ChunkMsg} {e : Xch} {b : Bucket} (hx : (stepOf s m.ctx).xch = some e) (hb : bucket? s m.ctx m.bucket = some b)
include hx hb

/-- R221: a chunk of a contribution is sent once more. -/
theorem chunkResend_sends {j idx : Nat} (ho : b.opened = true) (hop : e.op ≠ 1) (hj : j ≠ b.me s) :
    let x := b.encode ((b.parts (b.offer s m.ctx)).getD j [])
    let piece := (chunksOf 65536 (x.length / 65536 + 1) x).getD idx []
    leadsTo (.chunkResendRequest m.ctx m.bucket j (b.me s) idx) s (fun t => t.mem = s.mem ∧ t.st = s.st ∧
      ∃ l, .data "CHUNK" (b.group.getD j 0) (m.ctx :: genOf s m.ctx :: l) piece ∈ t.io.outbox) := by
  intro x piece
  refine ⟨sendChunk m.ctx b j j (b.me s) idx piece s, ?_, (sendChunk_frame ..).2.1, (sendChunk_frame ..).2.2, sendChunk_sends ..⟩
  show execChunkResendRequest m.ctx m.bucket j (b.me s) idx s = _
  unfold execChunkResendRequest
  rw [hx, hb]
  dsimp only
  have hg : (j == b.me s) = false := beq_eq_false_iff_ne.2 hj
  have hop' : ¬ e.op = opAllGather := hop
  rw [if_neg (by simp [ho]), hg, if_neg hop', if_neg (by decide), if_neg (by decide)]
  rfl

theorem chunkResend_other {j idx src : Nat} (hs : src ≠ b.me s) : noEffect (.chunkResendRequest m.ctx m.bucket j src idx) s := by
  show execChunkResendRequest m.ctx m.bucket j src idx s = _
  unfold execChunkResendRequest
  rw [hx, hb]
  exact if_pos (by simp [hs])

end

/-- Settles O39: a chunk by its generation, its digest, its step and attempt, and its place; and a chunk that is asked for again. -/
theorem exchangeChunks : Obligations.ExchangeChunks := by
  intro s m e b hx hb c att key
  refine ⟨fun hg f => exchangeChunk_stale hg f, fun hg => ⟨fun hd hk f => exchangeChunk_retry hx hb hg hd hk f, fun hd => ⟨fun hl f =>
    exchangeChunk_late hg hd hl f, fun he hs f => exchangeChunk_early hb hg hd he hs f, fun he hs ha ho => ⟨exchangeChunk_dup hx hb hg hd he hs ha ho,
    fun hk hag => ⟨exchangeChunk_placed hb hg hd he hs ha ho hk hag, ?_⟩⟩⟩⟩, ?_, fun j idx src => chunkResend_other hx hb⟩
  · intro ps k hop hcl hsum hps r hp
    exact exchangeChunk_sums hx hb hg hd he hs ha ho hk hag hop hcl hsum hps hp
  · intro j idx ho hop hj
    exact chunkResend_sends hx hb ho hop hj

end Sys2Proof.Machine
end

section
/-! PROOFS. Ports and lanes: training, loss, beacons and outcomes, lanes taken out and returned (R267 to R275, R286, R335, R339). -/

namespace Sys2Proof.Machine

/-! ### Ports -/

theorem portOf_modPort_same {p : Nat} (hp : p < 32) (f : Port → Port) (s : State) : portOf (modPort p f s) p = f (portOf s p) := by
  simp [modPort, hp, portOf]

theorem portOf_modPort_ne {p q : Nat} (h : q ≠ p) (f : Port → Port) (s : State) : portOf (modPort p f s) q = portOf s q := by
  unfold modPort
  split
  · exact sget_sset_ne _ _ _ h
  · rfl

theorem portOf_of_fab {s t : State} (h : t.fab = s.fab) (q : Nat) : portOf t q = portOf s q := by rw [portOf, h]; rfl

theorem modPort_frame (p : Nat) (f : Port → Port) (s : State) : Told [] s (modPort p f s) ∧ (modPort p f s).fab.planned = s.fab.planned := by
  unfold modPort
  split
  · exact ⟨Told.rfl.withFab _, rfl⟩
  · exact ⟨Told.rfl, rfl⟩

theorem portUp_iff {s : State} {p : Nat} : portUp s p = true ↔ p < 32 ∧ regAt s.regs .linkPortState_state p = 2 := by
  simp [portUp, rget_eq]

theorem portUp_of_regs {s t : State} {p : Nat} (h : regAt t.regs .linkPortState_state p = regAt s.regs .linkPortState_state p) :
    portUp t p = portUp s p := by
  rw [portUp, rget_eq, h]
  rfl

/-- A port but for whether its peer is suspect. -/
def Port.unsuspect (x : Port) : Port := { x with suspect := false }

/-- `t` is `s` after notes about ports: of the register fields only those of `F` and the tallies may differ, ports only by whether their peers are
suspect. -/
structure Noticed (F : List Fld) (s t : State) : Prop extends Said F s t where
  ports : ∀ q, (portOf t q).unsuspect = (portOf s q).unsuspect
  planned : t.fab.planned = s.fab.planned

theorem Noticed.rfl {F : List Fld} {s : State} : Noticed F s s := ⟨Said.rfl, fun _ => Eq.refl _, Eq.refl _⟩

theorem Noticed.trans {F : List Fld} {s t u : State} (h : Noticed F s t) (k : Noticed F t u) : Noticed F s u :=
  ⟨h.toSaid.trans k.toSaid, fun q => (k.ports q).trans (h.ports q), k.planned.trans h.planned⟩

theorem Noticed.of_said {F : List Fld} {s t : State} (h : Said F s t) (hf : t.fab = s.fab) : Noticed F s t :=
  ⟨h, fun q => by rw [portOf_of_fab hf], by rw [hf]⟩

theorem Noticed.mono {F G : List Fld} {s t : State} (h : Noticed F s t) (hg : F ⊆ G) : Noticed G s t := { h with toSaid := h.toSaid.mono hg }

section
variable {F : List Fld} {s t : State} (h : Noticed F s t)
include h

theorem Noticed.rset {f : Fld} (hf : f.tally = true ∨ f ∈ F) (i v : Nat) : Noticed F s (rset f i v t) :=
  h.trans (.of_said (Told.rfl.rset hf ..).said (by simp))

theorem Noticed.raise0 (code src det : Nat) : Noticed F s (raise0 code src det t) := h.trans (.of_said (Told.rfl.raise0 ..).said (by simp))

theorem Noticed.emit (m : OutMsg) : Noticed F s (emit m t) := h.trans (.of_said (Told.rfl.emit _).said (Eq.refl _))

theorem Noticed.count1 {f : Fld} (hf : f ∈ F) (i : Nat) : Noticed F s (count1 f i t) := h.trans (.of_said (Told.rfl.count1 (.inr hf) _).said (by simp))

theorem Noticed.suspicions (l : List Suspicion) : Noticed F s { t with fab := { t.fab with suspicions := l } } :=
  h.trans ⟨(Told.rfl.withFab _).said, fun _ => Eq.refl _, Eq.refl _⟩

theorem Noticed.sendBeacon (p : Nat) : Noticed F s (sendBeacon p t) := by
  unfold Machine.sendBeacon
  split
  · exact h.emit _
  · exact h

theorem Noticed.takeReport (r i p cause : Nat) : Noticed F s (takeReport r i p cause t) := by
  unfold Machine.takeReport
  split
  · exact h.suspicions _
  · exact List.foldlRecOn _ _ (motive := Noticed F s) (h.suspicions _) fun _ hu _ _ => hu.emit _

theorem Noticed.suspectPeer (hF : [Fld.cohortStatus_suspectSeen, .cohortSuspectCount_count] ⊆ F) (p cause : Nat) :
    Noticed F s (suspectPeer p cause t) := by
  refine h.trans ?_
  unfold Machine.suspectPeer
  dsimp only
  split
  · exact Noticed.rfl
  · have h1 : Noticed F t (modPort p (fun x => { x with suspect := true }) t) := by
      obtain ⟨hk, hp⟩ := modPort_frame p (fun x => { x with suspect := true }) t
      refine ⟨(hk.said.mono (by simp)), fun q => ?_, hp⟩
      by_cases hq : q = p
      · subst hq
        by_cases h32 : q < 32
        · rw [portOf_modPort_same h32]
          exact Eq.refl _
        · rw [modPort, if_neg h32]
      · rw [portOf_modPort_ne hq]
    have h2 := ((h1.rset (f := .cohortStatus_suspectSeen) (.inr (hF (by decide))) 0 1).count1 (f := .cohortSuspectCount_count) (hF (by decide)) 0).raise0 0x0C01 8
      (pack [(0, 14, rget t .linkPortPeer_roster p), (16, 8, p), (24, 4, cause)])
    split
    · exact h2.takeReport ..
    · exact h2.emit _

end

/-! ### Events of a port -/

/-- An event of the module ring names the port in its low byte. -/
def PortEvent (p code : Nat) (t : State) : Prop := ∃ ev ∈ t.io.events, ev.code = code ∧ ev.ring = 0 ∧ ev.detail % 256 = p

theorem PortEvent.said {F : List Fld} {p code : Nat} {s t : State} (h : PortEvent p code s) (k : Said F s t) : PortEvent p code t := by
  obtain ⟨ev, hev, hrest⟩ := h
  exact ⟨ev, k.events.subset hev, hrest⟩

/-- The first field of a packed detail is its low byte. -/
theorem pack_byte {p : Nat} (hp : p < 256) (l : List (Nat × Nat × Nat)) (hl : ∀ x ∈ l, 8 ≤ x.1) : pack ((0, 8, p) :: l) % 2 ^ 256 % 256 = p := by
  have h8 : (256 : Nat) ∣ pack l := by
    refine List.dvd_sum fun y hy => ?_
    obtain ⟨x, hx, rfl⟩ := List.mem_map.1 hy
    exact Dvd.dvd.mul_left (pow_dvd_pow 2 (hl x hx)) _
  obtain ⟨k, hk⟩ := h8
  have hpack : pack ((0, 8, p) :: l) = p + 256 * k := by
    rw [← hk]
    show pf 0 8 p + pack l = _
    rw [pf, Nat.mod_eq_of_lt (show p < 2 ^ 8 from hp), Nat.pow_zero, Nat.mul_one]
  rw [hpack, Nat.mod_mod_of_dvd _ (show 256 ∣ 2 ^ 256 from pow_dvd_pow 2 (show 8 ≤ 256 by decide)), Nat.add_mul_mod_self_left]
  exact Nat.mod_eq_of_lt hp

theorem raise0_portEvent {p : Nat} (hp : p < 32) (code src : Nat) (l : List (Nat × Nat × Nat)) (hl : ∀ x ∈ l, 8 ≤ x.1) (s : State) :
    PortEvent p code (raise0 code src (pack ((0, 8, p) :: l)) s) := by
  obtain ⟨ev, hev, hc, -, hr, -, hd⟩ := raise0_event code src (pack ((0, 8, p) :: l)) s
  exact ⟨ev, hev, hc, hr, by rw [hd, pack_byte (by omega) l hl]⟩

theorem linkState_event {p : Nat} (hp : p < 32) (cause : Nat) (s : State) : PortEvent p 0x0B01 (linkState p cause s) :=
  raise0_portEvent hp _ _ _ (by simp) _

theorem linkState_noticed (p cause : Nat) (s : State) : Noticed [] s (linkState p cause s) := Noticed.rfl.raise0 ..

/-! ### Training and loss -/

theorem sendBeacon_sends {s : State} {p : Nat} (h : portUp s p = true) : ∃ l, .link p "BEACON" (1 :: 1 :: p :: l) ∈ (sendBeacon p s).io.outbox := by
  unfold sendBeacon
  rw [if_pos h]
  exact ⟨_, List.mem_append_right _ List.mem_cons_self⟩

/-- A port that has just trained. -/
def Port.trained (w : Nat) (x : Port) : Port :=
  { x with beacon := none, rx := 0, tx := 0, acked := 0, nakOut := false, naks := 0, credits := List.replicate 8 1024,
           badLanes := if w = 8 then [] else (List.range 9).drop w, trying := [], token := 0, suspect := false, out := [], unack := [], why := 0 }

theorem linkTrained_up {s : State} {p w : Nat} (hp : p < 32) (hw : w = 8 ∨ w = 4 ∨ w = 2) (hph : rget s .mcStatus_phase 0 = 1)
    (hup : portUp s p = false) (hh : rget s .linkPortCtl_holdDown p = 0) : leadsTo (.linkTrained p w) s (fun t =>
      portUp t p = true ∧ rget t .linkPortState_width p = w ∧ rget t .linkPortState_spared p = 15 ∧
        rget t .linkPortState_outcome p = 0 ∧ (∀ vc, vc < 8 → creditOf (portOf t p) vc = 1024) ∧ (portOf t p).beacon = none ∧ PortEvent p 0x0B01 t ∧
        (∀ q, q ≠ p → portOf t q = portOf s q) ∧ ∃ l, .link p "BEACON" (1 :: 1 :: p :: l) ∈ t.io.outbox) := by
  generalize hs2 : rset .linkPortState_state p 2 (rset .linkPortState_width p w (rset .linkPortState_spared p 15
      (rset .linkPortState_outcome p 0 (rset .linkPortState_epoch p 0 (modPort p (.trained w) s))))) = s2
  have hex : exec (.linkTrained p w) s = .next (sendBeacon p (linkState p 0 s2)) := by
    rw [← hs2]
    have hg : (decide (32 ≤ p) || decide (rget s .mcStatus_phase 0 ≠ 1) || portUp s p || decide (rget s .linkPortCtl_holdDown p = 1) ||
        !(w == 8 || w == 4 || w == 2)) = false := by
      rcases hw with rfl | rfl | rfl <;> simp [Nat.not_le.2 hp, hph, hup, hh]
    exact if_neg (by rw [hg]; decide)
  have h1 : p < fldCount .linkPortState_state := hp
  have h2 : p < fldCount .linkPortState_width := hp
  have h3 : p < fldCount .linkPortState_spared := hp
  have h4 : p < fldCount .linkPortState_outcome := hp
  have hv : regAt s2.regs .linkPortState_state p = 2 ∧ regAt s2.regs .linkPortState_width p = w ∧ regAt s2.regs .linkPortState_spared p = 15 ∧
      regAt s2.regs .linkPortState_outcome p = 0 ∧ s2.fab = (modPort p (.trained w) s).fab := by
    rw [← hs2]
    refine ⟨?_, ?_, ?_, ?_, by simp⟩
    · rw [regAt_rset_same _ _ h1]; rfl
    · rw [regAt_rset_other _ _ _ _ (by decide), regAt_rset_same _ _ h2]
      rcases hw with rfl | rfl | rfl <;> rfl
    · rw [regAt_rset_other _ _ _ _ (by decide), regAt_rset_other _ _ _ _ (by decide), regAt_rset_same _ _ h3]; rfl
    · rw [regAt_rset_other _ _ _ _ (by decide), regAt_rset_other _ _ _ _ (by decide), regAt_rset_other _ _ _ _ (by decide), regAt_rset_same _ _ h4]; rfl
  obtain ⟨v1, v2, v3, v4, v5⟩ := hv
  have hk : Noticed [] s2 (linkState p 0 s2) := linkState_noticed ..
  have hev := linkState_event hp 0 s2
  have hfab : (linkState p 0 s2).fab = s2.fab := by simp [linkState]
  generalize linkState p 0 s2 = s3 at hex hk hev hfab
  have hup3 : portUp s3 p = true := portUp_iff.2 ⟨hp, (hk.regs _ _ rfl (by simp)).trans v1⟩
  have hfab4 : (sendBeacon p s3).fab = s3.fab := by unfold sendBeacon; split <;> rfl
  have hk4 : Noticed [] s2 (sendBeacon p s3) := hk.sendBeacon p
  have hsend := sendBeacon_sends hup3
  have hev4 : PortEvent p 0x0B01 (sendBeacon p s3) := hev.said (Noticed.rfl.sendBeacon (F := []) p).toSaid
  generalize sendBeacon p s3 = t at hex hfab4 hk4 hsend hev4
  have hport : ∀ q, portOf t q = portOf (modPort p (.trained w) s) q := fun q => portOf_of_fab (hfab4.trans (hfab.trans v5)) q
  refine ⟨t, hex, portUp_iff.2 ⟨hp, (hk4.regs _ _ rfl (by simp)).trans v1⟩, (hk4.regs _ _ rfl (by simp)).trans v2, (hk4.regs _ _ rfl (by simp)).trans v3,
    (hk4.regs _ _ rfl (by simp)).trans v4, ?_, ?_, hev4, fun q hq => (hport q).trans (portOf_modPort_ne hq ..), hsend⟩
  · intro vc hvc
    rw [hport, portOf_modPort_same hp]
    show (List.replicate 8 1024).getD vc 0 = 1024
    rw [List.getD_eq_getElem _ _ (by simpa using hvc), List.getElem_replicate]
  · rw [hport, portOf_modPort_same hp]
    rfl

/-- A port that went down. -/
def Port.lost (x : Port) : Port :=
  { x with beacon := none, out := [], unack := [], credits := [], badLanes := [], trying := [], nakOut := false, naks := 0 }

/-- The fields that the loss of a link writes. -/
def lossFlds : List Fld := [.linkPortState_state, .linkPortState_width, .linkPortState_spared, .linkPortState_outcome, .cohortStatus_suspectSeen,
  .cohortSuspectCount_count]

/-- R267: a link that goes down. -/
theorem portDown_spec {s : State} {p : Nat} (hup : portUp s p = true) (cause : Nat) : let t := portDown p cause s
    Said lossFlds s t ∧ portUp t p = false ∧ rget t .linkPortState_outcome p = 8 ∧ rget t .linkPortState_width p = 0 ∧ (portOf t p).out = [] ∧
      (portOf t p).unack = [] ∧ PortEvent p 0x0B01 t ∧ rget t .linkPortState_state p = (if rget s .linkPortCtl_holdDown p = 1 then 0 else 1) := by
  intro t
  obtain ⟨hp, -⟩ := portUp_iff.1 hup
  generalize hs2 : rset .linkPortState_state p 0 (rset .linkPortState_width p 0 (rset .linkPortState_spared p 15
      (rset .linkPortState_outcome p 8 (modPort p .lost s)))) = s2
  have ht : t = if rget s .linkPortCtl_holdDown p = 1 then suspectPeer p 2 (linkState p cause s2)
      else rset .linkPortState_state p 1 (suspectPeer p 2 (linkState p cause s2)) := by
    rw [← hs2]
    exact if_neg (by rw [hup]; decide)
  have h1 : p < fldCount .linkPortState_state := hp
  have h2 : p < fldCount .linkPortState_width := hp
  have h4 : p < fldCount .linkPortState_outcome := hp
  have hv : Said lossFlds s s2 ∧ regAt s2.regs .linkPortState_state p = 0 ∧ regAt s2.regs .linkPortState_width p = 0 ∧
      regAt s2.regs .linkPortState_outcome p = 8 ∧ s2.fab = (modPort p .lost s).fab := by
    rw [← hs2]
    refine ⟨?_, ?_, ?_, ?_, by simp⟩
    · exact ((((((modPort_frame p .lost s).1.mono (by simp)).rset (.inr (by decide)) ..).rset (.inr (by decide)) ..).rset (.inr (by decide)) ..).rset
        (.inr (by decide)) ..).said
    · rw [regAt_rset_same _ _ h1]; rfl
    · rw [regAt_rset_other _ _ _ _ (by decide), regAt_rset_same _ _ h2]; rfl
    · rw [regAt_rset_other _ _ _ _ (by decide), regAt_rset_other _ _ _ _ (by decide), regAt_rset_other _ _ _ _ (by decide), regAt_rset_same _ _ h4]; rfl
  obtain ⟨v0, v1, v2, v4, v5⟩ := hv
  have hk : Noticed [.cohortStatus_suspectSeen, .cohortSuspectCount_count] s2 (suspectPeer p 2 (linkState p cause s2)) :=
    ((linkState_noticed p cause s2).mono (by simp)).suspectPeer (fun _ h => h) p 2
  have hev : PortEvent p 0x0B01 (suspectPeer p 2 (linkState p cause s2)) :=
    (linkState_event hp cause s2).said (Noticed.rfl.suspectPeer (F := [.cohortStatus_suspectSeen, .cohortSuspectCount_count]) (fun _ h => h) p 2).toSaid
  generalize suspectPeer p 2 (linkState p cause s2) = s3 at ht hk hev
  have hport : (portOf s3 p).unsuspect = (Port.lost (portOf s p)).unsuspect := by
    rw [hk.ports, portOf_of_fab v5, portOf_modPort_same hp]
  have hout : (portOf s3 p).out = [] := congrArg Port.out hport
  have hun : (portOf s3 p).unack = [] := congrArg Port.unack hport
  have hsaid : Said lossFlds s s3 := v0.trans (hk.toSaid.mono (by decide))
  have w1 : regAt s3.regs .linkPortState_state p = 0 := (hk.regs _ _ rfl (by decide)).trans v1
  have w2 : regAt s3.regs .linkPortState_width p = 0 := (hk.regs _ _ rfl (by decide)).trans v2
  have w4 : regAt s3.regs .linkPortState_outcome p = 8 := (hk.regs _ _ rfl (by decide)).trans v4
  rw [ht]
  split
  · exact ⟨hsaid, by rw [portUp, rget_eq, w1, Bool.and_eq_false_iff]; exact .inr rfl, w4, w2, hout, hun, hev, w1⟩
  · have x1 : regAt (rset .linkPortState_state p 1 s3).regs .linkPortState_state p = 1 := (regAt_rset_same _ _ h1).trans rfl
    have hfab : portOf (rset .linkPortState_state p 1 s3) p = portOf s3 p := portOf_of_fab (by simp) p
    have hk3 : Said lossFlds s3 (rset .linkPortState_state p 1 s3) := (Told.rfl.rset (.inr (by decide)) ..).said
    exact ⟨hsaid.trans hk3, by rw [portUp, rget_eq, x1, Bool.and_eq_false_iff]; exact .inr rfl, (regAt_rset_other _ _ _ _ (by decide)).trans w4,
      (regAt_rset_other _ _ _ _ (by decide)).trans w2, by rw [hfab, hout], by rw [hfab, hun], hev.said hk3, x1⟩

theorem linkDown_down {s : State} {p cause : Nat} (h1 : 1 ≤ cause) (h4 : cause ≤ 4) (hup : portUp s p = true) :
    leadsTo (.linkDown p cause) s (fun t => portUp t p = false ∧
      rget t .linkPortState_outcome p = 8 ∧ rget t .linkPortState_width p = 0 ∧ (portOf t p).out = [] ∧ (portOf t p).unack = [] ∧ PortEvent p 0x0B01 t ∧
      rget t .linkPortState_state p = (if rget s .linkPortCtl_holdDown p = 1 then 0 else 1)) := by
  obtain ⟨-, h⟩ := portDown_spec hup cause
  exact ⟨_, if_pos (by simp [h1, h4]), h⟩

theorem notUp_noEffect {s : State} {p : Nat} (h : portUp s p = false) :
    noEffect (.linkDown p 1) s ∧ noEffect (.beaconSend p) s ∧ ∀ b, noEffect (.identityBeacon p b) s := by
  refine ⟨?_, ?_, fun b => if_pos (by rw [h]; rfl)⟩
  · show execLinkDown p 1 s = _
    have : portDown p 1 s = s := if_pos (by rw [h]; rfl)
    rw [execLinkDown, this]
    rfl
  · show execBeaconSend p s = _
    rw [execBeaconSend, sendBeacon, if_neg (by rw [h]; decide)]

/-! ### Outcomes -/

/-- The fields that a decided outcome writes. -/
def outcomeFlds : List Fld := [.linkPortState_outcome, .linkStatus_mismatchSeen]

theorem setOutcome_spec {s : State} {p o : Nat} (hp : p < 32) (ho : o < 16) : Said outcomeFlds s (setOutcome p o s) ∧ (setOutcome p o s).fab = s.fab ∧
    rget (setOutcome p o s) .linkPortState_outcome p = o ∧ (rget s .linkPortState_outcome p ≠ o → PortEvent p 0x0B02 (setOutcome p o s)) := by
  have h4 : p < fldCount .linkPortState_outcome := hp
  unfold setOutcome
  dsimp only
  split
  · next h => exact ⟨.rfl, rfl, h, fun hne => absurd h hne⟩
  · next hne =>
    generalize hs2 : (if (decide (o = 3) || decide (o = 4) || decide (o = 7)) = true then rflag .linkStatus_mismatchSeen 0
      (rset .linkPortState_outcome p o s) else rset .linkPortState_outcome p o s) = s2
    have hv : Said outcomeFlds s s2 ∧ s2.fab = s.fab ∧ regAt s2.regs .linkPortState_outcome p = o := by
      rw [← hs2]
      split
      · refine ⟨((Told.rfl.rset (.inr (by decide)) ..).rflag (by decide) _).said, by simp, ?_⟩
        rw [regAt_rflag_other _ _ _ (by decide), regAt_rset_same _ _ h4]
        exact Nat.mod_eq_of_lt ho
      · refine ⟨(Told.rfl.rset (.inr (by decide)) ..).said, by simp, ?_⟩
        rw [regAt_rset_same _ _ h4]
        exact Nat.mod_eq_of_lt ho
    obtain ⟨v1, v2, v3⟩ := hv
    generalize hl : ([(8, 4, o), _, _, _, _, _, _, _] : List (Nat × Nat × Nat)) = l
    have hl8 : ∀ x ∈ l, 8 ≤ x.1 := by rw [← hl]; simp
    have hk := (Noticed.rfl (F := []) (s := s2)).raise0 0x0B02 6 (pack ((0, 8, p) :: l))
    have hev := raise0_portEvent hp 0x0B02 6 l hl8 s2
    have hfab : (raise0 0x0B02 6 (pack ((0, 8, p) :: l)) s2).fab = s2.fab := by simp
    generalize raise0 0x0B02 6 (pack ((0, 8, p) :: l)) s2 = s3 at hk hev hfab
    have hfab4 : (sendBeacon p s3).fab = s3.fab := by unfold sendBeacon; split <;> rfl
    have hk4 : Noticed [] s3 (sendBeacon p s3) := Noticed.rfl.sendBeacon p
    exact ⟨v1.trans ((hk.trans hk4).toSaid.mono (by simp)), hfab4.trans (hfab.trans v2), ((hk.trans hk4).regs _ _ rfl (by simp)).trans v3,
      fun _ => hev.said hk4.toSaid⟩

theorem portMissing_missing {s : State} {p : Nat} (hp : p < 32) (hpl : (portOf s p).planned = true) (hup : portUp s p = false) :
    leadsTo (.portMissing p) s (fun t => rget t .linkPortState_outcome p = 6 ∧ (rget s .linkPortState_outcome p ≠ 6 → PortEvent p 0x0B02 t)) := by
  obtain ⟨-, -, h1, h2⟩ := setOutcome_spec (s := s) hp (show 6 < 16 by decide)
  exact ⟨_, if_pos (by simp [hpl, hup, hp]), h1, h2⟩

theorem beaconSend_sends {s : State} {p : Nat} (hup : portUp s p = true) : leadsTo (.beaconSend p) s (fun t =>
    { t with io := { t.io with outbox := s.io.outbox } } = s ∧
    .link p "BEACON" [1, 1, p, 2, rget s .linkEpoch_min 0, rget s .linkEpoch_max 0, serialDigest, s.fab.trayId, ownStraps s, matchField s p,
      rosterField s, rget s .linkPlanDigest_digest 0, rget s .linkPlan_generation 0] ∈ t.io.outbox) := by
  refine ⟨sendBeacon p s, rfl, ?_⟩
  unfold sendBeacon
  rw [if_pos hup]
  exact ⟨rfl, List.mem_append_right _ List.mem_cons_self⟩

/-! ### Beacons -/

/-- What the outcome of a beacon depends on. -/
theorem outcomeFor_congr {s t : State} (h1 : rget t .linkEpoch_max 0 = rget s .linkEpoch_max 0) (h2 : rget t .linkEpoch_min 0 = rget s .linkEpoch_min 0)
    (h3 : rget t .linkPlan_acceptDiscovered 0 = rget s .linkPlan_acceptDiscovered 0) (h4 : t.fab.planned = s.fab.planned)
    (h5 : ∀ q, (portOf t q).planned = (portOf s q).planned ∧ (portOf t q).peerPort = (portOf s q).peerPort ∧
      ∀ b, peerMatches (portOf t q) b = peerMatches (portOf s q) b) (p : Nat) (b : Beacon) : outcomeFor t p b = outcomeFor s p b := by
  have hp : ∀ q, (portOf t q).planned = (portOf s q).planned := fun q => (h5 q).1
  have hq : ∀ q, (portOf t q).peerPort = (portOf s q).peerPort := fun q => (h5 q).2.1
  have hm : ∀ q, peerMatches (portOf t q) b = peerMatches (portOf s q) b := fun q => (h5 q).2.2 b
  simp only [outcomeFor, linkEpoch, h1, h2, h3, h4, hp, hq, hm]
  rfl

theorem outcomeFor_lt (s : State) (p : Nat) (b : Beacon) : outcomeFor s p b < 16 := by
  unfold outcomeFor
  dsimp only
  repeat' split
  all_goals decide

/-- The fields that a beacon fills. -/
def beaconFlds : List Fld := [.linkPortState_outcome, .linkPortState_epoch, .linkPortPeerSerial_digest, .linkPortPeer_trayId, .linkPortPeer_roster,
  .linkPortPeer_port, .linkPortPeer_straps, .cohortStatus_suspectSeen, .cohortSuspectCount_count]

theorem peerRegs_spec {s : State} {p : Nat} (hp : p < 32) (b : Beacon) : Noticed beaconFlds s (peerRegs p b s) ∧
    regAt (peerRegs p b s).regs .linkPortPeer_trayId p = b.trayId.toNat ∧ regAt (peerRegs p b s).regs .linkPortPeer_roster p = b.roster.toNat ∧
    regAt (peerRegs p b s).regs .linkPortPeer_straps p = b.straps.toNat ∧ regAt (peerRegs p b s).regs .linkPortPeerSerial_digest p = b.serialDigest.toNat := by
  have h1 : p < fldCount .linkPortPeer_trayId := hp
  have h2 : p < fldCount .linkPortPeer_roster := hp
  have h3 : p < fldCount .linkPortPeer_straps := hp
  have h4 : p < fldCount .linkPortPeerSerial_digest := hp
  unfold peerRegs
  refine ⟨?_, ?_, ?_, ?_, ?_⟩
  · exact (((((Noticed.rfl.rset (.inr (by decide)) ..).rset (.inr (by decide)) ..).rset (.inr (by decide)) ..).rset (.inr (by decide)) ..).rset
      (.inr (by decide)) ..).rset (.inr (by decide)) ..
  · rw [regAt_rset_other _ _ _ _ (by decide), regAt_rset_other _ _ _ _ (by decide), regAt_rset_same _ _ h1]
    exact Nat.mod_eq_of_lt b.trayId.isLt
  · rw [regAt_rset_other _ _ _ _ (by decide), regAt_rset_other _ _ _ _ (by decide), regAt_rset_other _ _ _ _ (by decide), regAt_rset_same _ _ h2]
    exact Nat.mod_eq_of_lt b.roster.isLt
  · rw [regAt_rset_other _ _ _ _ (by decide), regAt_rset_other _ _ _ _ (by decide), regAt_rset_other _ _ _ _ (by decide),
      regAt_rset_other _ _ _ _ (by decide), regAt_rset_other _ _ _ _ (by decide), regAt_rset_same _ _ h3]
    exact Nat.mod_eq_of_lt b.straps.isLt
  · rw [regAt_rset_other _ _ _ _ (by decide), regAt_rset_same _ _ h4]
    exact Nat.mod_eq_of_lt b.serialDigest.isLt

/-- A port that has a beacon. -/
def Port.heard (b : Beacon) (changed : Bool) (x : Port) : Port := { x with beacon := some b, suspect := if changed then false else x.suspect }

/-- R275: a beacon fills the peer's registers and decides the outcome. -/
theorem identityBeacon_decides {s : State} {p : Nat} (b : Beacon) (hup : portUp s p = true) : leadsTo (.identityBeacon p b) s (fun t =>
    rget t .linkPortState_outcome p = outcomeFor s p b ∧
    (portOf t p).beacon = some b ∧ rget t .linkPortPeer_trayId p = b.trayId.toNat ∧ rget t .linkPortPeer_roster p = b.roster.toNat ∧
    rget t .linkPortPeer_straps p = b.straps.toNat ∧ rget t .linkPortPeerSerial_digest p = b.serialDigest.toNat) := by
  obtain ⟨hp, hst⟩ := portUp_iff.1 hup
  generalize hch : (portOf s p).beacon.elim false (fun a => !sameIdentity a b) = changed
  generalize hs1 : (if changed = true then rset .linkPortState_outcome p 0 (suspectPeer p 3 s) else s) = s1
  have h1 : Noticed beaconFlds s s1 := by
    rw [← hs1]
    split
    · exact (Noticed.rfl.suspectPeer (by decide) p 3).rset (.inr (by decide)) ..
    · exact .rfl
  have hex : exec (.identityBeacon p b) s = .next (matchPort p (modPort p (.heard b changed) (peerRegs p b s1))) := by
    rw [← hs1, ← hch]
    exact if_neg (by rw [hup]; decide)
  obtain ⟨h2, r1, r2, r3, r4⟩ := peerRegs_spec (s := s1) hp b
  generalize peerRegs p b s1 = s2 at hex h2 r1 r2 r3 r4
  obtain ⟨h3, hpl⟩ := modPort_frame p (.heard b changed) s2
  have hsame : portOf (modPort p (.heard b changed) s2) p = (portOf s2 p).heard b changed := portOf_modPort_same hp ..
  have hother : ∀ q, q ≠ p → portOf (modPort p (.heard b changed) s2) q = portOf s2 q := fun q hq => portOf_modPort_ne hq ..
  generalize modPort p (.heard b changed) s2 = s3 at hex h3 hpl hsame hother
  have hall := h1.trans h2
  have hregs : ∀ f i, f.tally = false → f ∉ beaconFlds → regAt s3.regs f i = regAt s.regs f i := fun f i hf hn =>
    (h3.regs f i hf (by simp)).trans (hall.regs f i hf hn)
  have hup3 : portUp s3 p = true := portUp_iff.2 ⟨hp, (hregs _ _ rfl (by decide)).trans hst⟩
  have hports : ∀ q, (portOf s3 q).planned = (portOf s q).planned ∧ (portOf s3 q).peerPort = (portOf s q).peerPort ∧
      ∀ d, peerMatches (portOf s3 q) d = peerMatches (portOf s q) d := fun q => by
    have hun : ∃ x y : Port, x.unsuspect = (portOf s q).unsuspect ∧ (portOf s3 q).planned = x.planned ∧ (portOf s3 q).peerPort = x.peerPort ∧
        ∀ d, peerMatches (portOf s3 q) d = peerMatches x d := by
      refine ⟨portOf s2 q, portOf s2 q, hall.ports q, ?_⟩
      by_cases hq : q = p
      · subst hq; rw [hsame]; exact ⟨rfl, rfl, fun _ => rfl⟩
      · rw [hother q hq]; exact ⟨rfl, rfl, fun _ => rfl⟩
    obtain ⟨x, -, hx, e1, e2, e3⟩ := hun
    refine ⟨e1.trans (congrArg Port.planned hx :), e2.trans (congrArg Port.peerPort hx :), fun d => (e3 d).trans ?_⟩
    have : ∀ y : Port, peerMatches y d = peerMatches y.unsuspect d := fun y => rfl
    rw [this, hx, ← this]
  have hout : outcomeFor s3 p b = outcomeFor s p b := outcomeFor_congr (hregs _ _ rfl (by decide)) (hregs _ _ rfl (by decide)) (hregs _ _ rfl (by decide))
    (hpl.trans hall.planned) hports p b
  have hmatch : matchPort p s3 = setOutcome p (outcomeFor s p b) s3 := by
    unfold matchPort
    rw [hup3, if_neg (by decide), hsame, ← hout]
    rfl
  obtain ⟨k1, k2, k3, -⟩ := setOutcome_spec (s := s3) hp (outcomeFor_lt s p b)
  rw [hmatch] at hex
  have hreg : ∀ f, f.tally = false → f ∉ outcomeFlds → regAt (setOutcome p (outcomeFor s p b) s3).regs f p = regAt s2.regs f p := fun f hf hn =>
    (k1.regs f p hf hn).trans (h3.regs f p hf (by simp))
  refine ⟨_, hex, k3, ?_, (hreg _ rfl (by decide)).trans r1, (hreg _ rfl (by decide)).trans r2, (hreg _ rfl (by decide)).trans r3,
    (hreg _ rfl (by decide)).trans r4⟩
  rw [portOf_of_fab k2, hsame]
  rfl

/-! ### LINK_PORT_CTL -/

theorem linkPortCtl_holds {s : State} {p : Nat} {v : BitVec 32} (hp : p < 32) (hn : notServed s 0 = false) (hv : v.getLsbD 0 = true)
    (hh : rget s .linkPortCtl_holdDown p = 0) : leadsTo (.linkPortCtl 0 p v) s (fun t => rget t .linkPortCtl_holdDown p = 1 ∧
      portUp t p = false ∧ rget t .linkPortState_state p = 0 ∧ PortEvent p 0x0B01 t) := by
  have hv1 : v.toNat % 2 = 1 := by
    rw [← BitVec.testBit_toNat, Nat.testBit_zero] at hv
    exact of_decide_eq_true hv
  have hc : p < fldCount .linkPortCtl_holdDown := hp
  have hc2 : p < fldCount .linkPortState_state := hp
  generalize hs1 : rset .linkPortCtl_holdDown p 1 (dropLatch 0 s) = s1
  have hex : exec (.linkPortCtl 0 p v) s = .next (if portUp s p = true then portDown p 5 s1 else linkState p 5 (rset .linkPortState_state p 0 s1)) := by
    rw [← hs1]
    show execLinkPortCtl 0 p v s = _
    have hg : (notServed (dropLatch 0 s) 0 || decide (32 ≤ p) || decide (rget (dropLatch 0 s) .linkPortCtl_holdDown p = 1)) = false := by
      rw [show notServed (dropLatch 0 s) 0 = false from hn, show rget (dropLatch 0 s) .linkPortCtl_holdDown p = 0 from hh]
      simp [hp]
    unfold execLinkPortCtl
    dsimp only
    rw [hv1, if_neg (by rw [hg]; decide), if_neg (by decide)]
    split
    · next h => rw [if_pos (show portUp s p = true from h)]
    · next h => rw [if_neg (show ¬ portUp s p = true from h)]
  have hh1 : rget s1 .linkPortCtl_holdDown p = 1 := by rw [← hs1]; exact (regAt_rset_same _ _ hc).trans rfl
  have hst : regAt s1.regs .linkPortState_state p = regAt s.regs .linkPortState_state p := by
    rw [← hs1]; exact regAt_rset_other _ _ _ _ (by decide)
  rw [leadsTo, hex]
  by_cases hup : portUp s p = true
  · obtain ⟨h1, h2, -, -, -, -, h3, h4⟩ := portDown_spec (s := s1) (p := p) (by rw [portUp_of_regs hst, hup]) 5
    rw [if_pos hh1] at h4
    exact ⟨_, congrArg Host.Outcome.next (if_pos hup), (h1.regs _ _ rfl (by decide)).trans hh1, h2, h4, h3⟩
  · have hk := linkState_noticed p 5 (rset .linkPortState_state p 0 s1)
    have h0 : regAt (linkState p 5 (rset .linkPortState_state p 0 s1)).regs .linkPortState_state p = 0 :=
      (hk.regs _ _ rfl (by simp)).trans ((regAt_rset_same _ _ hc2).trans rfl)
    refine ⟨_, congrArg Host.Outcome.next (if_neg hup), (hk.regs _ _ rfl (by simp)).trans ((regAt_rset_other _ _ _ _ (by decide)).trans hh1), ?_, h0, linkState_event hp ..⟩
    rw [portUp, rget_eq, h0, Bool.and_eq_false_iff]
    exact .inr rfl

theorem linkPortCtl_frees {s : State} {p : Nat} {v : BitVec 32} (hp : p < 32) (hn : notServed s 0 = false) (hv : v.getLsbD 0 = false)
    (hh : rget s .linkPortCtl_holdDown p = 1) : leadsTo (.linkPortCtl 0 p v) s (fun t => rget t .linkPortCtl_holdDown p = 0 ∧
        rget t .linkPortState_state p = 1 ∧ t.io.events = s.io.events) := by
  have hv0 : v.toNat % 2 = 0 := by
    rw [← BitVec.testBit_toNat, Nat.testBit_zero] at hv
    have := of_decide_eq_false hv
    omega
  have hc : p < fldCount .linkPortCtl_holdDown := hp
  have hc2 : p < fldCount .linkPortState_state := hp
  have hex : exec (.linkPortCtl 0 p v) s = .next (rset .linkPortState_state p 1 (rset .linkPortCtl_holdDown p 0 (dropLatch 0 s))) := by
    show execLinkPortCtl 0 p v s = _
    have hg : (notServed (dropLatch 0 s) 0 || decide (32 ≤ p) || decide (rget (dropLatch 0 s) .linkPortCtl_holdDown p = 0)) = false := by
      rw [show notServed (dropLatch 0 s) 0 = false from hn, show rget (dropLatch 0 s) .linkPortCtl_holdDown p = 1 from hh]
      simp [hp]
    unfold execLinkPortCtl
    dsimp only
    rw [hv0, if_neg (by rw [hg]; decide), if_pos rfl]
  refine ⟨_, hex, (regAt_rset_other _ _ _ _ (by decide)).trans ((regAt_rset_same _ _ hc).trans rfl), (regAt_rset_same _ _ hc2).trans rfl, ?_⟩
  simp [dropLatch]

/-! ### Substitution records -/

theorem almMod_units (typ src : Nat) (body : List Byte) (s : State) : (almMod typ src body s).sp = s.sp ∧ (almMod typ src body s).fab = s.fab := by
  unfold almMod
  rw [almStage_eq]
  exact ⟨rfl, rfl⟩

theorem almSeal_units (fl : Nat) (s : State) : (almSeal fl s).sp = s.sp ∧ (almSeal fl s).fab = s.fab := by
  obtain ⟨a, ha⟩ := almSeal_eq fl s
  rw [ha]
  exact ⟨rfl, rfl⟩

/-- A substitution's record and its event leave the units and the ports. -/
theorem substRec_units (k d r o l a b : Nat) (s : State) :
    (substRec k d r o l a b s).sp = s.sp ∧ (substRec k d r o l a b s).fab = s.fab := by
  obtain ⟨h1, h2⟩ := almMod_units 0x6 0xC (substBody k d r o l a b) s
  have h3 : ∀ x : State, (if o = 2 then retireEvent (substBody k d r o l a b) x else x).sp = x.sp ∧
      (if o = 2 then retireEvent (substBody k d r o l a b) x else x).fab = x.fab := fun x => by
    split
    · simp [retireEvent, rflag]
    · exact ⟨rfl, rfl⟩
  unfold substRec
  dsimp only
  split
  · rw [(almSeal_units ..).1, (almSeal_units ..).2, (h3 _).1, (h3 _).2]
    simp [h1, h2]
  · rw [(h3 _).1, (h3 _).2]
    simp [h1, h2]

theorem refreshPools_units (s : State) : (refreshPools s).sp = s.sp ∧ (refreshPools s).fab = s.fab := by
  unfold refreshPools
  dsimp only
  split
  · simp
  · simp only [raise0_sp, raise0_fab, gradeRecord, (almSeal_units _ _).1, (almSeal_units _ _).2, (almMod_units _ _ _ _).1, (almMod_units _ _ _ _).2,
      rset_sp, rset_fab, and_self]

theorem substDone_units (k d r o l a b : Nat) (s : State) :
    (substDone k d r o l a b s).sp = s.sp ∧ (substDone k d r o l a b s).fab = s.fab := by
  obtain ⟨h1, h2⟩ := substRec_units k d r o l a b s
  unfold substDone
  rw [(refreshPools_units _).1, (refreshPools_units _).2, count1_sp, count1_fab]
  exact ⟨h1, h2⟩

theorem substRec_event (k d r o l a b : Nat) (s : State) : ∃ ev ∈ (substRec k d r o l a b s).io.events, ev.code = 0x0E01 := by
  obtain ⟨ev, hev, hc, -⟩ := raise0_event 0x0E01 0xC (leNat (substBody k d r o l a b)) (almMod 0x6 0xC (substBody k d r o l a b) s)
  generalize hs1 : raise0 0x0E01 0xC (leNat (substBody k d r o l a b)) (almMod 0x6 0xC (substBody k d r o l a b) s) = s1 at hev
  have h2 : Noted poolFlds s1 (if o = 2 then retireEvent (substBody k d r o l a b) s1 else s1) := by
    split
    · exact ((Noted.rfl.rflag (.inr (by decide)) 0).count1 (f := .almanacRetireCount_count) (.inr (by decide)) 0).raise0 ..
    · exact .rfl
  unfold substRec
  dsimp only
  rw [hs1]
  split
  · exact ⟨ev, (h2.almSeal 2).told.said.events.subset hev, hc⟩
  · exact ⟨ev, h2.told.said.events.subset hev, hc⟩

theorem substDone_event (k d r o l a b : Nat) (s : State) : ∃ ev ∈ (substDone k d r o l a b s).io.events, ev.code = 0x0E01 := by
  obtain ⟨ev, hev, hc⟩ := substRec_event k d r o l a b s
  exact ⟨ev, ((Noted.rfl.count1 (F := poolFlds) (.inr (by decide)) 0).refreshPools (fun _ h => h)).told.said.events.subset hev, hc⟩

/-! ### Lanes of a link -/

/-- A port with a lane more declared failing. -/
def Port.failing (lane cause : Nat) (x : Port) : Port := { x with badLanes := x.badLanes ++ [lane], why := cause }

theorem modPort_regs (p : Nat) (f : Port → Port) (s : State) : (modPort p f s).regs = s.regs := by
  unfold modPort
  split <;> rfl

theorem goodLanes_failing {s : State} {p : Nat} (hp : p < 32) (lane cause : Nat) :
    goodLanes (portOf (modPort p (.failing lane cause) s) p) = 9 - ((portOf s p).badLanes.length + 1) := by
  rw [goodLanes, portOf_modPort_same hp]
  show 9 - ((portOf s p).badLanes ++ [lane]).length = _
  rw [List.length_append]
  rfl

theorem laneFailing_exec {s : State} {p lane cause : Nat} (hp : p < 32) (hup : portUp s p = true) (hl : lane < 9) (hn : lane ∉ (portOf s p).badLanes)
    (hc : cause = 1 ∨ cause = 2) : let w := widthFor (9 - ((portOf s p).badLanes.length + 1))
    let s1 := modPort p (.failing lane cause) s
    exec (.laneFailing p lane cause) s = if w = 0 then .next (portDown p cause s1)
      else if w = rget s .linkPortState_width p && w = 8 && lane < 8 then .next (emit (.link p "SPARE" [lane]) s1)
      else if w = rget s .linkPortState_width p then .next s1 else .next (emit (.link p "WIDTH" [w]) s1) := by
  have hg : (!portUp s p || decide (9 ≤ lane) || (portOf s p).badLanes.contains lane || !(cause == 1 || cause == 2)) = false := by
    rcases hc with rfl | rfl <;> simp [hup, Nat.not_le.2 hl, hn]
  rw [← goodLanes_failing hp lane cause]
  exact if_neg (by rw [hg]; decide)

theorem laneFailing_lost {s : State} {p lane cause : Nat} (hp : p < 32) (hup : portUp s p = true) (hl : lane < 9) (hn : lane ∉ (portOf s p).badLanes)
    (hc : cause = 1 ∨ cause = 2) (hw : widthFor (9 - ((portOf s p).badLanes.length + 1)) = 0) :
    leadsTo (.laneFailing p lane cause) s (fun t => portUp t p = false) := by
  refine ⟨_, (laneFailing_exec hp hup hl hn hc).trans (if_pos hw), ?_⟩
  exact (portDown_spec ((portUp_of_regs (s := s) (by rw [modPort_regs])).trans hup) cause).2.1

theorem laneFailing_asks {s : State} {p lane cause w : Nat} (hp : p < 32) (hup : portUp s p = true) (hl : lane < 9) (hn : lane ∉ (portOf s p).badLanes)
    (hc : cause = 1 ∨ cause = 2) (hw : widthFor (9 - ((portOf s p).badLanes.length + 1)) = w) (hw0 : w ≠ 0) :
    leadsTo (.laneFailing p lane cause) s (fun t => (portOf t p).badLanes = (portOf s p).badLanes ++ [lane] ∧ t.regs = s.regs ∧
        (w = 8 → rget s .linkPortState_width p = 8 → lane < 8 → .link p "SPARE" [lane] ∈ t.io.outbox) ∧
        (w ≠ rget s .linkPortState_width p → .link p "WIDTH" [w] ∈ t.io.outbox)) := by
  have hb : (portOf (modPort p (.failing lane cause) s) p).badLanes = (portOf s p).badLanes ++ [lane] := by
    rw [portOf_modPort_same hp]
    rfl
  have hr := modPort_regs p (.failing lane cause) s
  rw [leadsTo, laneFailing_exec hp hup hl hn hc]
  rw [hw, if_neg hw0]
  split
  · next h =>
    have hwe : w = rget s .linkPortState_width p := by
      simp only [Bool.and_eq_true, decide_eq_true_eq] at h
      exact h.1.1
    exact ⟨_, rfl, hb, hr, fun _ _ _ => List.mem_append_right _ List.mem_cons_self, fun hne => absurd hwe hne⟩
  · next h =>
    split
    · next he => exact ⟨_, rfl, hb, hr, fun h8 h9 hl8 => absurd (by simp [← he, h8, hl8]) h, fun hne => absurd he hne⟩
    · next he => exact ⟨_, rfl, hb, hr, fun h8 h9 _ => absurd (h8.trans h9.symm) he, fun _ => List.mem_append_right _ List.mem_cons_self⟩

/-- A port with a lane served by the leap lane. -/
def Port.leapt (lane : Nat) (x : Port) : Port :=
  { x with badLanes := if x.badLanes.contains lane then x.badLanes else x.badLanes ++ [lane], why := 0 }

/-- What the record of a lane leaves, and that it is told. -/
theorem laneRecord_spec (p o a b : Nat) (s : State) : Noted poolFlds s (laneRecord p o a b s) ∧ (laneRecord p o a b s).fab = s.fab ∧
    ∃ ev ∈ (laneRecord p o a b s).io.events, ev.code = 0x0E01 :=
  ⟨Noted.rfl.substDone (fun _ h => h) .., (substDone_units ..).2, substDone_event ..⟩

theorem linkState_told {s : State} {p : Nat} (hp : p < 32) (cause : Nat) : Told [] s (linkState p cause s) ∧ (linkState p cause s).fab = s.fab ∧
    ∃ ev ∈ (linkState p cause s).io.events, ev.code = 0x0B01 := by
  obtain ⟨ev, hev, hc, -⟩ := linkState_event hp cause s
  exact ⟨Told.rfl.raise0 .., by simp [linkState], ev, hev, hc⟩

/-- A change of a link is raised and recorded. -/
theorem laneTold {s : State} {p : Nat} (hp : p < 32) (cause o a b : Nat) : let t := laneRecord p o a b (linkState p cause s)
    Told poolFlds s t ∧ t.fab = s.fab ∧ (∃ ev ∈ t.io.events, ev.code = 0x0B01) ∧ ∃ ev ∈ t.io.events, ev.code = 0x0E01 := by
  intro t
  obtain ⟨h1, h2, ev, hev, hc⟩ := linkState_told (s := s) hp cause
  obtain ⟨h3, h4, h5⟩ := laneRecord_spec p o a b (linkState p cause s)
  exact ⟨(h1.mono (by simp)).trans h3.told, h4.trans h2, ⟨ev, h3.told.said.events.subset hev, hc⟩, h5⟩

theorem spare_maps {s : State} {p lane : Nat} (hp : p < 32) (hup : portUp s p = true) (hl : lane < 8) (hs : rget s .linkPortState_spared p = 15)
    (h8 : 8 ∉ (portOf s p).badLanes) : leadsTo (.spare p lane) s (fun t => rget t .linkPortState_spared p = lane ∧
      lane ∈ (portOf t p).badLanes ∧ rget t .linkStatus_spareSeen 0 = 1 ∧ rget t .linkPortState_width p = rget s .linkPortState_width p ∧
      (∃ ev ∈ t.io.events, ev.code = 0x0B01) ∧ ∃ ev ∈ t.io.events, ev.code = 0x0E01) := by
  have hc : p < fldCount .linkPortState_spared := hp
  generalize hs2 : rset .linkPortState_spared p lane (rflag .linkStatus_spareSeen 0 (modPort p (.leapt lane) (useFree s))) = s2
  have hex : exec (.spare p lane) s = .next (laneRecord p 0 lane 8 (linkState p (laneWhy s p) s2)) := by
    rw [← hs2]
    have hg : (!portUp s p || decide (8 ≤ lane) || decide (rget s .linkPortState_spared p ≠ 15) || (portOf s p).badLanes.contains 8) = false := by
      simp [hup, Nat.not_le.2 hl, hs, h8]
    exact if_neg (by rw [hg]; decide)
  have hv : regAt s2.regs .linkPortState_spared p = lane ∧ regAt s2.regs .linkStatus_spareSeen 0 = 1 ∧
      regAt s2.regs .linkPortState_width p = regAt s.regs .linkPortState_width p ∧ s2.fab = (modPort p (.leapt lane) (useFree s)).fab := by
    rw [← hs2]
    refine ⟨?_, ?_, ?_, by simp⟩
    · rw [regAt_rset_same _ _ hc]
      exact Nat.mod_eq_of_lt (show lane < 16 by omega)
    · rw [regAt_rset_other _ _ _ _ (by decide), rflag, regAt_rset_same _ _ (by decide)]
      rfl
    · rw [regAt_rset_other _ _ _ _ (by decide), regAt_rflag_other _ _ _ (by decide), modPort_regs]
      rfl
  obtain ⟨v1, v2, v3, v4⟩ := hv
  obtain ⟨k1, k2, k3, k4⟩ := laneTold (s := s2) hp (laneWhy s p) 0 lane 8
  refine ⟨_, hex, (k1.said.regs _ _ rfl (by decide)).trans v1, ?_, (k1.said.regs _ _ rfl (by decide)).trans v2, (k1.said.regs _ _ rfl (by decide)).trans v3,
    k3, k4⟩
  rw [portOf_of_fab (k2.trans v4), portOf_modPort_same hp]
  show lane ∈ if (portOf s p).badLanes.contains lane = true then (portOf s p).badLanes else (portOf s p).badLanes ++ [lane]
  split
  · next h => exact List.contains_iff_mem.1 h
  · simp

/-- A port of which no lane's failure is open. -/
def Port.settled (x : Port) : Port := { x with why := 0 }

theorem width_changes {s : State} {p n : Nat} (hp : p < 32) (hup : portUp s p = true) (hn : n = 8 ∨ n = 4 ∨ n = 2)
    (hne : n ≠ rget s .linkPortState_width p) : leadsTo (.width p n) s (fun t => rget t .linkPortState_width p = n ∧
      (n < 8 → rget t .linkPortState_spared p = 15) ∧ (portOf t p).badLanes = (portOf s p).badLanes ∧ ∃ ev ∈ t.io.events, ev.code = 0x0B01) := by
  have hc : p < fldCount .linkPortState_spared := hp
  have hc2 : p < fldCount .linkPortState_width := hp
  generalize hlane : (if n = 8 then (portOf s p).badLanes.headD 15 else 15) = lane
  generalize hs1 : rset .linkPortState_width p n (rset .linkPortState_spared p (if lane = 8 then 15 else lane) (modPort p .settled (useFree s))) = s1
  generalize hs2 : (if n < rget s .linkPortState_width p then rflag .linkStatus_spareSeen 0 s1 else s1) = s2
  have hex : ∃ o a b why, exec (.width p n) s = .next (laneRecord p o a b (linkState p why s2)) := by
    rw [← hs2, ← hs1, ← hlane]
    have hg : (!portUp s p || n == rget s .linkPortState_width p || !(n == 8 || n == 4 || n == 2)) = false := by
      rcases hn with rfl | rfl | rfl <;> simp [hup, hne]
    exact ⟨_, _, _, _, if_neg (by rw [hg]; decide)⟩
  obtain ⟨o, a, b, why, hex⟩ := hex
  have hv1 : regAt s1.regs .linkPortState_width p = n ∧ (n < 8 → regAt s1.regs .linkPortState_spared p = 15) ∧
      s1.fab = (modPort p .settled (useFree s)).fab := by
    rw [← hs1]
    refine ⟨?_, fun h => ?_, by simp⟩
    · rw [regAt_rset_same _ _ hc2]
      rcases hn with rfl | rfl | rfl <;> rfl
    · rw [if_neg (by omega)] at hlane
      rw [regAt_rset_other _ _ _ _ (by decide), regAt_rset_same _ _ hc, ← hlane]
      rfl
  have hk : Told [.linkStatus_spareSeen] s1 s2 ∧ s2.fab = s1.fab := by
    rw [← hs2]
    split
    · exact ⟨Told.rfl.rflag (by decide) 0, by simp [rflag]⟩
    · exact ⟨Told.rfl, rfl⟩
  obtain ⟨v1, v2, v3⟩ := hv1
  obtain ⟨k1, k2, k3, -⟩ := laneTold (s := s2) hp why o a b
  have hreg : ∀ f : Fld, f.tally = false → f ∉ poolFlds → f ≠ .linkStatus_spareSeen →
      regAt (laneRecord p o a b (linkState p why s2)).regs f p = regAt s1.regs f p := fun f h1 h2 h3 =>
    (k1.said.regs _ _ h1 h2).trans (hk.1.said.regs _ _ h1 (by simpa using h3))
  refine ⟨_, hex, (hreg _ rfl (by decide) (by decide)).trans v1, fun h => (hreg _ rfl (by decide) (by decide)).trans (v2 h), ?_, k3⟩
  rw [portOf_of_fab (k2.trans (hk.2.trans v3)), portOf_modPort_same hp]
  rfl

/-- A port of which a lane is tried again. -/
def Port.tried (lane : Nat) (x : Port) : Port := { x with trying := if x.trying.contains lane then x.trying else x.trying ++ [lane] }

/-- A port of which a lane is good again. -/
def Port.mended (lane : Nat) (x : Port) : Port :=
  { x with trying := x.trying.filter (fun l => l != lane), badLanes := x.badLanes.filter (fun l => l != lane) }

theorem laneRetrain_tries {s : State} {p lane : Nat} (hp : p < 32) (hup : portUp s p = true) (hl : lane ∈ (portOf s p).badLanes) :
    leadsTo (.laneRetrain p lane false) s (fun t => lane ∈ (portOf t p).trying ∧ (portOf t p).badLanes = (portOf s p).badLanes ∧ t.regs = s.regs) := by
  have hex : exec (.laneRetrain p lane false) s = .next (modPort p (.tried lane) s) :=
    (if_neg (by simp [hup, hl])).trans (if_pos rfl)
  refine ⟨_, hex, ?_, ?_, modPort_regs ..⟩
  · rw [portOf_modPort_same hp]
    show lane ∈ if (portOf s p).trying.contains lane = true then (portOf s p).trying else (portOf s p).trying ++ [lane]
    split
    · next h => exact List.contains_iff_mem.1 h
    · simp
  · rw [portOf_modPort_same hp]
    rfl

theorem laneRetrain_returns {s : State} {p lane : Nat} (hp : p < 32) (hup : portUp s p = true) (hl : lane ∈ (portOf s p).badLanes)
    (ht : lane ∈ (portOf s p).trying) : leadsTo (.laneRetrain p lane true) s (fun t => lane ∉ (portOf t p).badLanes ∧
        (rget s .linkPortState_spared p = lane → rget t .linkPortState_spared p = 15)) := by
  have hc : p < fldCount .linkPortState_spared := hp
  generalize hs1 : modPort p (.mended lane) s = s1
  have hex : exec (.laneRetrain p lane true) s = if rget s .linkPortState_spared p = lane
      then .next (laneRecord p 3 lane 8 (linkState p 0 (rset .linkPortState_spared p 15 s1)))
      else if rget s .linkPortState_width p < widthFor (goodLanes (portOf s1 p)) then
        .next (emit (.link p "WIDTH" [widthFor (goodLanes (portOf s1 p))]) s1) else .next s1 := by
    rw [← hs1]
    exact (if_neg (by simp [hup, hl])).trans ((if_neg (by decide)).trans (if_neg (by simp [ht])))
  have hb : lane ∉ (portOf s1 p).badLanes := by
    rw [← hs1, portOf_modPort_same hp]
    simp [Port.mended]
  rw [leadsTo, hex]
  split
  · obtain ⟨k1, k2, -, -⟩ := laneTold (s := rset .linkPortState_spared p 15 s1) hp 0 3 lane 8
    refine ⟨_, rfl, ?_, fun _ => (k1.said.regs _ _ rfl (by decide)).trans ((regAt_rset_same _ _ hc).trans rfl)⟩
    rw [portOf_of_fab k2, portOf_of_fab (rset_fab ..)]
    exact hb
  · next h =>
    split
    · exact ⟨_, rfl, hb, fun e => absurd e h⟩
    · exact ⟨_, rfl, hb, fun e => absurd e h⟩

/-! ### Lanes of a die bridge -/

theorem bridgeLaneSpare_maps {s : State} {b lane : Nat} (hb : b < 32) (hl : lane < 128) (hg : sget? s.sp.bridgeLanes (groupKey b lane) = none)
    (ho : b * 128 + lane ∉ s.sp.bridgeOff) : leadsTo (.bridgeLaneSpare b lane) s (fun t =>
      sget? t.sp.bridgeLanes (groupKey b lane) = some lane ∧ t.sp.bridgeOff = s.sp.bridgeOff ∧ ∃ ev ∈ t.io.events, ev.code = 0x0E01) := by
  generalize hs1 : ({ s with sp := { s.sp with bridgeLanes := sput s.sp.bridgeLanes (groupKey b lane) lane } } : State) = s1
  have hex : exec (.bridgeLaneSpare b lane) s = .next (substDone kBridgeLane b 9 0 (groupKey b lane) lane 128 s1) := by
    rw [← hs1]
    exact (if_neg (by simp [hg, ho, Nat.not_le.2 hb, Nat.not_le.2 hl])).trans (if_pos (by simp [hg]))
  refine ⟨_, hex, ?_, ?_, substDone_event ..⟩
  · rw [(substDone_units ..).1, ← hs1]
    exact sget?_sput_same ..
  · rw [(substDone_units ..).1, ← hs1]

theorem bridgeLaneSpare_disables {s : State} {b lane o : Nat} (hb : b < 32) (hl : lane < 128) (hg : sget? s.sp.bridgeLanes (groupKey b lane) = some o)
    (hne : o ≠ lane) (ho : b * 128 + lane ∉ s.sp.bridgeOff) : leadsTo (.bridgeLaneSpare b lane) s (fun t =>
      t.sp.bridgeLanes = s.sp.bridgeLanes ∧ t.sp.bridgeOff = s.sp.bridgeOff ++ [b * 128 + lane] ∧ ∃ ev ∈ t.io.events, ev.code = 0x0E01) := by
  generalize hs1 : ({ s with sp := { s.sp with bridgeOff := s.sp.bridgeOff ++ [b * 128 + lane] } } : State) = s1
  have hex : exec (.bridgeLaneSpare b lane) s = .next (substDone kBridgeLane b 9 1 (groupKey b lane) lane lane s1) := by
    rw [← hs1]
    exact (if_neg (by simp [hg, ho, hne, Nat.not_le.2 hb, Nat.not_le.2 hl])).trans (if_neg (by simp [hg]))
  refine ⟨_, hex, ?_, ?_, substDone_event ..⟩ <;> rw [(substDone_units ..).1, ← hs1]

/-- The record of a bridge lane's return. -/
theorem bridgeReturn_spec (b k lane n : Nat) (s : State) : let t := refreshPools (substRec kBridgeLane b 9 3 k lane n s)
    t.sp = s.sp ∧ ∃ ev ∈ t.io.events, ev.code = 0x0E01 := by
  intro t
  obtain ⟨ev, hev, hc⟩ := substRec_event kBridgeLane b 9 3 k lane n s
  exact ⟨(refreshPools_units _).1.trans (substRec_units ..).1, ev, (Noted.rfl.refreshPools (F := poolFlds) (fun _ h => h)).told.said.events.subset hev, hc⟩

theorem bridgeLaneRetrain_frees {s : State} {b lane : Nat} (hl : lane < 128) (hg : sget? s.sp.bridgeLanes (groupKey b lane) = some lane) :
    leadsTo (.bridgeLaneRetrain b lane true) s (fun t => sget? t.sp.bridgeLanes (groupKey b lane) = none ∧
      ∃ ev ∈ t.io.events, ev.code = 0x0E01) := by
  generalize hs1 : ({ s with sp := { s.sp with bridgeLanes := sdel s.sp.bridgeLanes (groupKey b lane) } } : State) = s1
  have hex : exec (.bridgeLaneRetrain b lane true) s = .next (refreshPools (substRec kBridgeLane b 9 3 (groupKey b lane) lane 128 s1)) := by
    rw [← hs1]
    exact (if_neg (by simp [Nat.not_le.2 hl])).trans (if_pos hg)
  obtain ⟨h1, h2⟩ := bridgeReturn_spec b (groupKey b lane) lane 128 s1
  refine ⟨_, hex, ?_, h2⟩
  rw [h1, ← hs1]
  exact (sget?_sdel ..).trans (if_pos rfl)

theorem bridgeLaneRetrain_enables {s : State} {b lane : Nat} (hl : lane < 128) (hg : sget? s.sp.bridgeLanes (groupKey b lane) ≠ some lane)
    (ho : b * 128 + lane ∈ s.sp.bridgeOff) : leadsTo (.bridgeLaneRetrain b lane true) s (fun t => b * 128 + lane ∉ t.sp.bridgeOff) := by
  generalize hs1 : ({ s with sp := { s.sp with bridgeOff := s.sp.bridgeOff.filter (fun x => x != b * 128 + lane) } } : State) = s1
  have hex : exec (.bridgeLaneRetrain b lane true) s = .next (refreshPools (substRec kBridgeLane b 9 3 (groupKey b lane) lane lane s1)) := by
    rw [← hs1]
    exact (if_neg (by simp [Nat.not_le.2 hl])).trans ((if_neg hg).trans (if_pos (by simpa using ho)))
  obtain ⟨h1, -⟩ := bridgeReturn_spec b (groupKey b lane) lane lane s1
  refine ⟨_, hex, ?_⟩
  have hoff : b * 128 + lane ∉ s1.sp.bridgeOff := by rw [← hs1]; simp
  rwa [← h1] at hoff

/-- Settles O40: each change of a port or a lane by its own lemma, the notes that follow it by what they leave. -/
theorem linksAndLanes : Obligations.LinksAndLanes := by
  refine ⟨fun s p hp => ?_, fun s p lane hp hup => ?_, fun s b lane hb hl => ?_⟩
  · exact ⟨fun w hw hph hup hh => linkTrained_up hp hw hph hup hh, fun cause h1 h4 hup => linkDown_down h1 h4 hup, notUp_noEffect,
      portMissing_missing hp, beaconSend_sends, fun b hup => identityBeacon_decides b hup,
      fun v hn => ⟨linkPortCtl_holds hp hn, linkPortCtl_frees hp hn⟩⟩
  · exact ⟨fun cause hl hn hc => ⟨laneFailing_lost hp hup hl hn hc, laneFailing_asks hp hup hl hn hc rfl⟩, spare_maps hp hup,
      fun n => width_changes hp hup, fun hl => ⟨laneRetrain_tries hp hup hl, laneRetrain_returns hp hup hl⟩⟩
  · exact ⟨bridgeLaneSpare_maps hb hl, fun o => bridgeLaneSpare_disables hb hl, bridgeLaneRetrain_frees hl, bridgeLaneRetrain_enables hl⟩

end Sys2Proof.Machine
end

section
/-! PROOFS. Flits and packets: naks and acknowledgements, drops, deliveries and the queue of a candidate port (R265, R266, R282). -/

namespace Sys2Proof.Machine

/-! ### What routing leaves -/

/-- The fields that routing writes. -/
def routedFlds : List Fld := [.pwrState_state, .pwrState_target, .pwrFallowCount_count, .linkPortOtherDropCount_count, .linkPortFlits_units]

/-- `t` is `s` after packets were routed and sent: what a port has received is kept. -/
structure Routed (s t : State) : Prop extends Said routedFlds s t where
  rx : ∀ q, (portOf t q).rx = (portOf s q).rx
  nakOut : ∀ q, (portOf t q).nakOut = (portOf s q).nakOut

theorem Routed.rfl {s : State} : Routed s s := ⟨Said.rfl, fun _ => Eq.refl _, fun _ => Eq.refl _⟩

theorem Routed.trans {s t u : State} (h : Routed s t) (k : Routed t u) : Routed s u :=
  ⟨h.toSaid.trans k.toSaid, fun q => (k.rx q).trans (h.rx q), fun q => (k.nakOut q).trans (h.nakOut q)⟩

theorem Routed.of_said {s t : State} (h : Said routedFlds s t) (hf : t.fab = s.fab) : Routed s t :=
  ⟨h, fun q => by rw [portOf_of_fab hf], fun q => by rw [portOf_of_fab hf]⟩

theorem Routed.modPort {s t : State} (h : Routed s t) (p : Nat) {f : Port → Port} (h1 : ∀ x, (f x).rx = x.rx) (h2 : ∀ x, (f x).nakOut = x.nakOut) :
    Routed s (modPort p f t) := by
  refine h.trans ⟨(modPort_frame p f t).1.said.mono (by simp), fun q => ?_, fun q => ?_⟩ <;>
    by_cases hq : q = p
  · subst hq
    by_cases h32 : q < 32
    · rw [portOf_modPort_same h32, h1]
    · rw [Machine.modPort, if_neg h32]
  · rw [portOf_modPort_ne hq]
  · subst hq
    by_cases h32 : q < 32
    · rw [portOf_modPort_same h32, h2]
    · rw [Machine.modPort, if_neg h32]
  · rw [portOf_modPort_ne hq]

section
variable {s t : State} (h : Routed s t)
include h

theorem Routed.emit (m : OutMsg) : Routed s (emit m t) := h.trans (.of_said (Told.rfl.emit _).said (Eq.refl _))

theorem Routed.activity (p n : Nat) : Routed s (activity .linkPortFlits_units p n t) :=
  h.trans (.of_said (Told.rfl.activity (by decide) ..).said (by simp))

theorem Routed.dropOther (p : Nat) : Routed s (dropOther p t) := by
  unfold Machine.dropOther
  split
  · exact h.trans (.of_said (Told.rfl.count1 (.inr (by decide)) _).said (by simp))
  · exact h

theorem Routed.holdCtx (c : Nat) : Routed s (holdCtx c t) := by
  have k : Spared routedFlds t (Machine.holdCtx c t) := Spared.rfl.holdCtx c
  exact h.trans (.of_said ⟨k.regs, k.events, k.outbox⟩ k.fab)

theorem Routed.wakeUp (c : Nat) : Routed s (wakeUp c t) := by
  have hp : ∀ n x, Told routedFlds t x → Told routedFlds t (setPwrState n c x) := fun n x hx => by
    unfold setPwrState
    dsimp only
    split
    · exact hx
    · exact (hx.rset (.inr (by decide)) ..).raise0 ..
  refine h.trans (.of_said ?_ (by simp))
  unfold Machine.wakeUp
  split
  · exact ((hp 4 t .rfl).count1 (.inr (by decide)) 0).said
  · split
    · exact (((hp 1 t .rfl).rset (.inr (by decide)) ..).setJournal _).said
    · exact .rfl

theorem Routed.foldl {α : Type} {f : State → α → State} (hf : ∀ t a, Routed s t → Routed s (f t a)) (l : List α) : Routed s (l.foldl f t) :=
  List.foldlRecOn _ _ (motive := Routed s) h fun t ht a _ => hf t a ht

theorem Routed.sendVc (p vc n : Nat) : Routed s (sendVc p vc n t) := by
  unfold Machine.sendVc
  dsimp only
  split
  · exact h
  · split
    · exact h
    · split
      · refine Routed.emit (Routed.activity (h.modPort p (fun _ => ?_) fun _ => ?_) ..) _ <;> exact Eq.refl _
      · refine Routed.activity (h.modPort p (fun _ => ?_) fun _ => ?_) .. <;> exact Eq.refl _

theorem Routed.sendRound (p : Nat) : Routed s (sendRound p t) := h.foldl (fun _ _ hu => hu.foldl (fun _ _ hv => hv.sendVc ..) _) _

theorem Routed.drainPort (p : Nat) : Routed s (drainPort p t) := (h.foldl (fun _ _ hu => hu.sendVc ..) _).foldl (fun _ _ hu => hu.sendRound p) _

theorem Routed.withOrdered (l : List (Nat × Nat × RouteHdr × List Byte)) : Routed s { t with fab := { t.fab with ordered := l } } :=
  h.trans ⟨(Told.rfl.withFab _).said, fun _ => Eq.refl _, fun _ => Eq.refl _⟩

theorem Routed.routePacket (i vc : Nat) (hd : RouteHdr) (b : List Byte) : Routed s (routePacket i vc hd b t) := by
  unfold Machine.routePacket
  dsimp only
  split
  · split
    · exact (h.wakeUp 3).emit _
    · exact h.emit _
  · split
    · exact h.dropOther i
    · split
      · split
        · exact h.dropOther i
        · exact h.holdCtx _
      · split
        · exact h.withOrdered _
        · refine Routed.drainPort (h.modPort _ (fun _ => ?_) fun _ => ?_) _ <;> exact Eq.refl _

theorem Routed.retryOrdered : Routed s (retryOrdered t) := (h.withOrdered []).foldl (fun _ _ hu => hu.routePacket ..) _

end

/-! ### Flits -/

theorem sendNak_spec {s : State} {p : Nat} (hp : p < 32) : let t := sendNak p s
    (portOf t p).nakOut = true ∧ (portOf t p).rx = (portOf s p).rx ∧ t.regs = s.regs ∧
      ((portOf s p).nakOut = false → .link p "NAK" [((portOf s p).rx + 4095) % 4096] ∈ t.io.outbox) := by
  intro t
  by_cases h : (portOf s p).nakOut = true
  · have ht : t = s := if_pos h
    rw [ht]
    exact ⟨h, rfl, rfl, fun hf => absurd (h.symm.trans hf) (by decide)⟩
  · have ht : t = emit (.link p "NAK" [((portOf s p).rx + 4095) % 4096]) (modPort p (fun x => { x with nakOut := true }) s) := if_neg h
    have hport : portOf t p = { portOf s p with nakOut := true } := by
      rw [ht]
      exact portOf_modPort_same hp ..
    rw [hport]
    refine ⟨rfl, rfl, ?_, fun _ => ?_⟩
    · rw [ht]; exact modPort_regs ..
    · rw [ht]; exact List.mem_append_right _ List.mem_cons_self

theorem flitReceive_bad {s : State} {p : Nat} {flit : List Byte} (hup : portUp s p = true) (hf : flitOk flit = false) :
    exec (.flitReceive p flit 0 false) s = .next (sendNak p s) := by
  show execFlitReceive p flit 0 false s = _
  unfold execFlitReceive
  rw [if_neg (by rw [hup]; decide)]
  exact (if_neg (by decide)).trans (if_pos (by rw [hf]; rfl))

theorem flitReceive_uncorrected {s : State} {p : Nat} (flit : List Byte) (hp : p < 32) (hup : portUp s p = true)
    (hc : rget s .linkPortUncorrCount_count p < 2 ^ 32 - 1) : leadsTo (.flitReceive p flit 0 true) s (fun t => (portOf t p).nakOut = true ∧
      (portOf t p).rx = (portOf s p).rx ∧ rget t .linkPortUncorrCount_count p = rget s .linkPortUncorrCount_count p + 1) := by
  have hi : p < fldCount .linkPortUncorrCount_count := hp
  have hex : exec (.flitReceive p flit 0 true) s = .next (sendNak p (healthLog 0 1 (count1 .linkPortUncorrCount_count p s))) := by
    show execFlitReceive p flit 0 true s = _
    unfold execFlitReceive
    rw [if_neg (by rw [hup]; decide)]
    exact if_pos rfl
  obtain ⟨h1, h2, h3, -⟩ := sendNak_spec (s := healthLog 0 1 (count1 .linkPortUncorrCount_count p s)) hp
  refine ⟨_, hex, h1, ?_, ?_⟩
  · rw [h2, portOf_of_fab (t := healthLog 0 1 (count1 .linkPortUncorrCount_count p s)) (s := s) (by simp [healthLog])]
  · rw [rget_eq, h3]
    exact regAt_count_same (f := .linkPortUncorrCount_count) (i := p) (n := 1) rfl hi (Nat.lt_iff_add_one_le.1 hc)

/-- A port after an acknowledgement that says nothing new and the credits of a flit. -/
theorem takeFlit_start {s : State} {p hdr : Nat} (hp : p < 32) (hn : (portOf s p).naks < 8) (h29 : bit hdr 29 = false) (h30 : bit hdr 30 = false) :
    let s1 := takeCredit p hdr (takeAck p hdr s)
    s1.regs = s.regs ∧ (portOf s1 p).rx = (portOf s p).rx := by
  intro s1
  have hack : ∃ f : Port → Port, (∀ x, (f x).rx = x.rx) ∧ takeAck p hdr s = modPort p f s := by
    unfold takeAck
    simp only [h29, h30, Bool.false_and, Bool.false_eq_true, if_false]
    rw [if_neg (by simp; omega)]
    refine ⟨_, fun _ => ?_, rfl⟩
    rfl
  obtain ⟨f, hf, hack⟩ := hack
  have hs1 : s1 = takeCredit p hdr (modPort p f s) := by rw [← hack]
  unfold takeCredit at hs1
  rw [hs1]
  refine ⟨(modPort_regs ..).trans (modPort_regs ..), ?_⟩
  rw [portOf_modPort_same hp, portOf_modPort_same hp]
  exact hf _

theorem flitReceive_good {s : State} {p : Nat} {flit : List Byte} (hup : portUp s p = true) (hf : flitOk flit = true) :
    exec (.flitReceive p flit 0 false) s = .next (takeFlit p (leNat (flit.take 8)) s) := by
  show execFlitReceive p flit 0 false s = _
  unfold execFlitReceive
  rw [if_neg (by rw [hup]; decide)]
  exact (if_neg (by decide)).trans (if_neg (by rw [hf]; decide))

theorem flitReceive_inOrder {s : State} {p : Nat} {flit : List Byte} (hp : p < 32) (hup : portUp s p = true) (hf : flitOk flit = true)
    (hn : (portOf s p).naks < 8) (h29 : bit (leNat (flit.take 8)) 29 = false) (h30 : bit (leNat (flit.take 8)) 30 = false)
    (ht : bits (leNat (flit.take 8)) 60 4 ≠ 0) (hq : bits (leNat (flit.take 8)) 43 12 = (portOf s p).rx % 4096) :
    leadsTo (.flitReceive p flit 0 false) s (fun t => (portOf t p).rx = (portOf s p).rx + 1 ∧ (portOf t p).nakOut = false ∧
      .link p "ACK" [bits (leNat (flit.take 8)) 43 12, bits (leNat (flit.take 8)) 57 3, 1] ∈ t.io.outbox) := by
  rw [leadsTo, flitReceive_good hup hf]
  generalize leNat (flit.take 8) = hdr at *
  obtain ⟨hr, hx⟩ := takeFlit_start hp hn h29 h30
  unfold takeFlit
  generalize takeCredit p hdr (takeAck p hdr s) = s1 at hr hx
  have hup1 : portUp s1 p = true := (portUp_of_regs (by rw [hr])).trans hup
  generalize hs3 : emit (.link p "ACK" [bits hdr 43 12, bits hdr 57 3, 1]) (modPort p (fun x => { x with rx := x.rx + 1, nakOut := false }) s1) = s3
  have hport : portOf s3 p = { portOf s1 p with rx := (portOf s1 p).rx + 1, nakOut := false } := by
    rw [← hs3]
    exact portOf_modPort_same hp ..
  have hout : .link p "ACK" [bits hdr 43 12, bits hdr 57 3, 1] ∈ s3.io.outbox := by
    rw [← hs3]
    exact List.mem_append_right _ List.mem_cons_self
  dsimp only
  rw [if_neg (by rw [hup1]; decide), if_neg ht, if_neg (by rw [hx]; exact not_not.2 hq), hs3]
  generalize hs4 : (if (decide (bits hdr 60 4 = 1) && (decide (bits hdr 57 3 = 5) || decide (bits hdr 57 3 = 6))) = true then dropOther p s3 else s3) = s4
  have h4 : Routed s3 s4 := by
    rw [← hs4]
    split
    · exact Routed.rfl.dropOther p
    · exact .rfl
  have h5 : Routed s3 (retryOrdered (drainPort p s4)) := (h4.drainPort p).retryOrdered
  refine ⟨_, rfl, ?_, ?_, h5.outbox.subset hout⟩
  · rw [h5.rx, hport]
    exact congrArg (· + 1) hx
  · rw [h5.nakOut, hport]

theorem flitReceive_outOfOrder {s : State} {p : Nat} {flit : List Byte} (hp : p < 32) (hup : portUp s p = true) (hf : flitOk flit = true)
    (hn : (portOf s p).naks < 8) (h29 : bit (leNat (flit.take 8)) 29 = false) (h30 : bit (leNat (flit.take 8)) 30 = false)
    (ht : bits (leNat (flit.take 8)) 60 4 ≠ 0) (hq : bits (leNat (flit.take 8)) 43 12 ≠ (portOf s p).rx % 4096) :
    leadsTo (.flitReceive p flit 0 false) s (fun t => (portOf t p).rx = (portOf s p).rx ∧ (portOf t p).nakOut = true) := by
  rw [leadsTo, flitReceive_good hup hf]
  generalize leNat (flit.take 8) = hdr at *
  obtain ⟨hr, hx⟩ := takeFlit_start hp hn h29 h30
  unfold takeFlit
  generalize takeCredit p hdr (takeAck p hdr s) = s1 at hr hx
  have hup1 : portUp s1 p = true := (portUp_of_regs (by rw [hr])).trans hup
  dsimp only
  rw [if_neg (by rw [hup1]; decide), if_neg ht, if_pos (by rw [hx]; exact hq)]
  obtain ⟨k1, k2, -⟩ := sendNak_spec (s := s1) hp
  have h5 : Routed (sendNak p s1) (retryOrdered (drainPort p (sendNak p s1))) := (Routed.rfl.drainPort p).retryOrdered
  exact ⟨_, rfl, by rw [h5.rx, k2, hx], by rw [h5.nakOut, k1]⟩

/-! ### Packets -/

theorem packetForward_eq {s : State} {p vc : Nat} (h : RouteHdr) (b : List Byte) (hp : p < 32) (hup : portUp s p = true) (h8 : vc < 8) (h5 : vc ≠ 5)
    (h6 : vc ≠ 6) (hc : carries s p = true) : exec (.packetForward p vc h b) s =
      if permit s p h.slice = true then .next (routePacket p vc h b s) else .next (sliceDrop p h.slice h.src 1 s) := by
  show execPacketForward p vc h b s = _
  unfold execPacketForward
  rw [if_pos hp, if_neg (by rw [hup]; decide), if_neg (by simp [h5, h6, hc, h8])]
  cases permit s p h.slice <;> rfl

theorem sliceDrop_spec {s : State} {p : Nat} (hp : p < 32) (slice src : Nat) (hc : rget s .linkPortSliceDropCount_count p < 2 ^ 32 - 1) :
    let t := sliceDrop p slice src 1 s
    rget t .linkPortSliceDropCount_count p = rget s .linkPortSliceDropCount_count p + 1 ∧ t.fab = s.fab ∧ rget t .linkStatus_dropSeen 0 = 1 := by
  intro t
  have hi : p < fldCount .linkPortSliceDropCount_count := hp
  generalize hs1 : count .linkPortSliceDropCount_count p 1 (rflag .linkStatus_dropSeen 0 s) = s1
  have hsame : regAt (rflag .linkStatus_dropSeen 0 s).regs .linkPortSliceDropCount_count p = regAt s.regs .linkPortSliceDropCount_count p :=
    regAt_rflag_other _ _ _ (by decide)
  have hcount : regAt s1.regs .linkPortSliceDropCount_count p = regAt s.regs .linkPortSliceDropCount_count p + 1 := by
    rw [← hs1, regAt_count_same rfl hi (by rw [hsame]; exact Nat.lt_iff_add_one_le.1 hc), hsame]
  have hseen : regAt s1.regs .linkStatus_dropSeen 0 = 1 := by
    rw [← hs1, regAt_count_other _ _ _ _ rfl (by decide), rflag, regAt_rset_same _ _ (by decide)]
    rfl
  have hfab : s1.fab = s.fab := by rw [← hs1]; simp [rflag]
  have ht : Told [] s1 t ∧ t.fab = s1.fab := by
    show Told [] s1 (sliceDrop p slice src 1 s) ∧ (sliceDrop p slice src 1 s).fab = s1.fab
    unfold sliceDrop
    dsimp only
    rw [hs1]
    split
    · exact ⟨Told.rfl.raise0 .., by simp⟩
    · exact ⟨Told.rfl, rfl⟩
  exact ⟨(ht.1.regs _ _ rfl (by simp)).trans hcount, ht.2.trans hfab, (ht.1.regs _ _ rfl (by simp)).trans hseen⟩

theorem routePacket_delivers {s : State} (p vc : Nat) (h : RouteHdr) (b : List Byte) (hr : (routeOf s h.dest).testBit 1 = true) :
    (routePacket p vc h b s).fab = s.fab ∧
      .data "DELIVER" h.dest [vc, h.src, h.slice, h.ctx, h.gen, h.epoch, h.kind] b ∈ (routePacket p vc h b s).io.outbox := by
  unfold routePacket
  dsimp only
  rw [if_pos hr]
  refine ⟨?_, List.mem_append_right _ List.mem_cons_self⟩
  show State.fab (if vc ≤ 6 then wakeUp 3 s else s) = _
  split <;> simp

theorem routePacket_spent {s : State} {p : Nat} (hp : p < 32) (vc : Nat) (h : RouteHdr) (b : List Byte) (hr : (routeOf s h.dest).testBit 1 = false)
    (hh : h.hops = 0) (hc : rget s .linkPortOtherDropCount_count p < 2 ^ 32 - 1) :
    rget (routePacket p vc h b s) .linkPortOtherDropCount_count p = rget s .linkPortOtherDropCount_count p + 1 ∧ (routePacket p vc h b s).fab = s.fab := by
  have hi : p < fldCount .linkPortOtherDropCount_count := hp
  have heq : routePacket p vc h b s = count1 .linkPortOtherDropCount_count p s := by
    unfold routePacket
    dsimp only
    rw [if_neg (by rw [hr]; decide), if_pos (by simp [hh])]
    exact if_pos hp
  rw [heq]
  exact ⟨regAt_count_same (f := .linkPortOtherDropCount_count) rfl hi (Nat.lt_iff_add_one_le.1 hc), by simp⟩

theorem mostCredits_mem {s : State} {vc : Nat} {l : List Nat} (h : l ≠ []) : mostCredits s vc l ∈ l := by
  unfold mostCredits
  refine List.foldlRecOn _ _ (motive := (· ∈ l)) ?_ fun b hb a ha => ?_
  · cases l with
    | nil => exact absurd rfl h
    | cons a l => exact List.mem_cons_self
  · split
    · exact ha
    · exact hb

theorem choosePort_mem {s : State} {p vc : Nat} {h : RouteHdr} {l : List Nat} (hl : l ≠ []) (hv : orderedVc vc = false) : choosePort s p vc h l ∈ l := by
  unfold choosePort
  dsimp only
  rw [hv, if_neg (by decide)]
  split
  · exact mostCredits_mem hl
  · next hne => exact List.mem_of_mem_filter (mostCredits_mem fun he => hne (by rw [he]; rfl))

/-- A packet is queued on a port that has no credit for it. -/
def Stuck (e : Nat) (k : OutPkt) (s : State) : Prop := k ∈ (portOf s e).out ∧ creditOf (portOf s e) k.vc = 0

theorem creditOf_set {x y : Port} {a b n : Nat} (hy : y.credits = x.credits.set b n) (h : a ≠ b) : creditOf y a = creditOf x a := by
  unfold creditOf
  rw [hy]
  rw [List.getD_eq_getElem?_getD, List.getElem?_set_ne (Ne.symm h), ← List.getD_eq_getElem?_getD]

theorem Stuck.sendVc {e : Nat} {k : OutPkt} {s : State} (he : e < 32) (h : Stuck e k s) (vc n : Nat) : Stuck e k (sendVc e vc n s) := by
  obtain ⟨hk, hc⟩ := h
  unfold Machine.sendVc
  dsimp only
  split
  · exact ⟨hk, hc⟩
  · next y hy =>
    have hyv : y.vc = vc := by simpa using List.find?_some hy
    split
    · exact ⟨hk, hc⟩
    · next hm =>
      have hne : k.vc ≠ vc := fun heq => hm (by
        rw [← heq, hc]
        have := Nat.min_le_left 0 (4095 - ((portOf s e).tx - (portOf s e).acked))
        simp)
      have hky : k ≠ y := fun heq => hne (by rw [heq, hyv])
      have key : ∀ (f : Port → Port) (m : Nat), k ∈ (f (portOf s e)).out → creditOf (f (portOf s e)) k.vc = 0 →
          Stuck e k (activity .linkPortFlits_units e m (modPort e f s)) := fun f m h1 h2 => by
        have hp : portOf (activity .linkPortFlits_units e m (modPort e f s)) e = f (portOf s e) := by
          rw [portOf_of_fab (activity_fab ..), portOf_modPort_same he]
        exact ⟨by rw [hp]; exact h1, by rw [hp]; exact h2⟩
      have hmap : ∀ z : OutPkt → OutPkt, k ∈ (portOf s e).out.map (fun w => if w = y then z w else w) := fun z =>
        List.mem_map.2 ⟨k, hk, if_neg hky⟩
      split
      · exact key _ _ ((List.mem_erase_of_ne hky).2 hk) ((creditOf_set rfl hne).trans hc)
      · exact key _ _ (hmap _) ((creditOf_set rfl hne).trans hc)

theorem Stuck.foldl {α : Type} {e : Nat} {k : OutPkt} {s : State} {f : State → α → State} (h : Stuck e k s) (hf : ∀ t a, Stuck e k t → Stuck e k (f t a))
    (l : List α) : Stuck e k (l.foldl f s) := List.foldlRecOn _ _ (motive := Stuck e k) h fun t ht a _ => hf t a ht

theorem Stuck.drainPort {e : Nat} {k : OutPkt} {s : State} (he : e < 32) (h : Stuck e k s) : Stuck e k (drainPort e s) :=
  (h.foldl (fun _ _ hu => hu.sendVc he ..) _).foldl (fun _ _ hu => hu.foldl (fun _ _ hv => hv.foldl (fun _ _ hw => hw.sendVc he ..) _) _) _

theorem routePacket_queues {s : State} {p vc e : Nat} {h : RouteHdr} (b : List Byte) (hp : p < 32) (hv : orderedVc vc = false)
    (hr1 : (routeOf s h.dest).testBit 1 = false) (hr0 : (routeOf s h.dest).testBit 0 = true) (hh : h.hops ≠ 0)
    (hc : candidates s h.dest h.slice ≠ []) (he : choosePort s p vc h (candidates s h.dest h.slice) = e) (he32 : e < 32)
    (hcr : creditOf (portOf s e) vc = 0) :
    (⟨vc, { h with hops := h.hops - 1 }, b, h.flits⟩ : OutPkt) ∈ (portOf (routePacket p vc h b s) e).out := by
  generalize hk : (⟨vc, { h with hops := h.hops - 1 }, b, h.flits⟩ : OutPkt) = k
  have hkv : k.vc = vc := by rw [← hk]
  have heq : routePacket p vc h b s = drainPort e (modPort e (fun x => { x with out := x.out ++ [k] }) s) := by
    rw [← hk]
    unfold routePacket
    dsimp only
    rw [if_neg (by rw [hr1]; decide), if_neg (by simp [hh, hr0]), if_neg (by simpa using hc), he, hv, if_pos hp]
    exact if_neg (by simp)
  rw [heq]
  refine (Stuck.drainPort he32 ⟨?_, ?_⟩).1
  · rw [portOf_modPort_same he32]
    exact List.mem_append_right _ List.mem_cons_self
  · rw [portOf_modPort_same he32, hkv]
    exact hcr

theorem lt_of_candidate {s : State} {d sl e : Nat} (h : e ∈ candidates s d sl) : e < 32 := by
  unfold candidates maskPorts at h
  exact List.mem_range.1 (List.mem_of_mem_filter (List.mem_of_mem_filter h))

/-- Settles O41: a flit by the case of its check and its number, a packet by the step of R282 that decides it. -/
theorem flitsAndPackets : Obligations.FlitsAndPackets := by
  intro s p hp hup x
  refine ⟨fun flit hf hn => ?_, fun flit hn hf => ?_, fun flit hc => flitReceive_uncorrected flit hp hup hc, fun flit hf hn => ?_, fun vc h b h8 h5 h6 hc => ?_⟩
  · obtain ⟨h1, h2, h3, h4⟩ := sendNak_spec (s := s) hp
    exact ⟨_, flitReceive_bad hup hf, h1, h2, h3, h4 hn⟩
  · exact ⟨_, flitReceive_bad hup hf, if_pos hn⟩
  · intro hdr h29 h30 ht
    exact ⟨flitReceive_inOrder hp hup hf hn h29 h30 ht, flitReceive_outOfOrder hp hup hf hn h29 h30 ht⟩
  · have hex := packetForward_eq h b hp hup h8 h5 h6 hc
    refine ⟨fun hpm hd => ?_, fun hpm hr => ?_, fun hpm hr hh hd => ?_, fun hpm hr hr0 hh hv hcd => ?_⟩
    · exact ⟨_, hex.trans (if_neg (by rw [hpm]; decide)), sliceDrop_spec hp _ _ hd⟩
    · obtain ⟨h1, h2⟩ := routePacket_delivers p vc h b hr
      exact ⟨_, hex.trans (if_pos hpm), h1, _, h2, rfl⟩
    · exact ⟨_, hex.trans (if_pos hpm), routePacket_spent hp vc h b hr hh hd⟩
    · have ho : orderedVc vc = false := by rcases hv with rfl | rfl <;> rfl
      have hm := choosePort_mem (s := s) (p := p) (h := h) hcd ho
      exact ⟨hm, fun hcr => ⟨_, hex.trans (if_pos hpm), routePacket_queues b hp ho hr hr0 hh hcd rfl (lt_of_candidate hm) hcr⟩⟩

end Sys2Proof.Machine
end

section
/-! PROOFS. Plans, slice definitions and route tables put into force, by command and by the fabric manager (R274, R277, R279, R283, R284, R306). -/

namespace Sys2Proof.Machine

/-! ### A command that has read its table -/

/-- The state of a command of context 0 that has read its table. -/
def tableRead (a n : Nat) (l : List Rec) (s : State) : State := useFree (chargeMem 0 (tierBytes a n) (setJournal l s))

theorem tableRead_eq (a n : Nat) (l : List Rec) (s : State) : ∃ pw fr, tableRead a n l s = { setJournal l s with pow := pw, free := fr } := by
  unfold tableRead
  rw [chargeMem_eq]
  exact ⟨_, _, rfl⟩

theorem tableRead_frame (a n : Nat) (l : List Rec) (s : State) : let u := tableRead a n l s
    u.regs = s.regs ∧ u.fab = s.fab ∧ u.mem = s.mem ∧ u.ctl.journal = l := by
  obtain ⟨pw, fr, h⟩ := tableRead_eq a n l s
  rw [h]
  exact ⟨rfl, rfl, rfl, rfl⟩

theorem cmdRead_table {s : State} {a n k : Nat} (l : List Rec) (hp : plainAt s 0 false a n k) :
    cmdRead 0 a n (setJournal l s) = (⟨sgetN 0 s.mem.bytes k n, [], 0⟩, tableRead a n l s) := cmdRead_plain (plainAt_setJournal l hp)

/-! ### Plans -/

theorem leNat_lt (b : List Byte) : leNat b < 256 ^ b.length := by
  induction b with
  | nil => decide
  | cons x b ih =>
    have hx := x.isLt
    rw [leNat, List.length_cons, Nat.pow_succ]
    omega

theorem fld_lt (b : List Byte) (o n : Nat) : fld b o n < 256 ^ n := by
  refine lt_of_lt_of_le (leNat_lt _) (Nat.pow_le_pow_right (by decide) ?_)
  rw [List.length_take]
  exact Nat.min_le_left ..

theorem Kept.sendBeacon {F : List Fld} {s t : State} (h : Kept F s t) (p : Nat) : Kept F s (sendBeacon p t) := by
  unfold Machine.sendBeacon
  split
  · exact h.emit _
  · exact h

theorem sendBeacon_fab (p : Nat) (s : State) : (sendBeacon p s).fab = s.fab := by unfold sendBeacon; split <;> rfl

theorem setOutcome_kept (p o : Nat) (s : State) : Kept outcomeFlds s (setOutcome p o s) ∧ (setOutcome p o s).fab = s.fab := by
  unfold setOutcome
  dsimp only
  split
  · exact ⟨.rfl, rfl⟩
  · have h1 : Kept outcomeFlds s (rset .linkPortState_outcome p o s) := Kept.rfl.rset (.inr (by decide)) ..
    refine ⟨Kept.sendBeacon (Kept.raise0 ?_ ..) p, ?_⟩
    · split
      · exact h1.rflag (by decide) 0
      · exact h1
    · rw [sendBeacon_fab, raise0_fab]
      split <;> simp [rflag]

theorem matchPort_kept (p : Nat) (s : State) : Kept outcomeFlds s (matchPort p s) ∧ (matchPort p s).fab = s.fab := by
  unfold matchPort
  split
  · exact ⟨.rfl, rfl⟩
  · split
    · exact setOutcome_kept ..
    · exact ⟨.rfl, rfl⟩

theorem foldl_modPort (g : Nat → Port → Port) (s : State) (n : Nat) (hn : n ≤ 32) :
    let t := (List.range n).foldl (fun s p => modPort p (g p) s) s
    Kept [] s t ∧ t.fab.planned = s.fab.planned ∧ ∀ p, p < n → portOf t p = g p (portOf s p) := by
  induction n with
  | zero => exact ⟨.rfl, rfl, fun p hp => absurd hp (Nat.not_lt_zero p)⟩
  | succ n ih =>
    obtain ⟨h1, h2, h3⟩ := ih (by omega)
    rw [List.range_succ, List.foldl_append]
    have hlast : portOf ((List.range n).foldl (fun s p => modPort p (g p) s) s) n = portOf s n :=
      List.foldlRecOn _ _ (motive := fun t => portOf t n = portOf s n) rfl fun t ht a ha => by
        rw [portOf_modPort_ne (Nat.ne_of_gt (List.mem_range.1 ha)), ht]
    generalize (List.range n).foldl (fun s p => modPort p (g p) s) s = t at h1 h2 h3 hlast
    obtain ⟨k1, k2⟩ := modPort_frame n (g n) t
    have hk : Kept [] t (modPort n (g n) t) := ⟨k1.said, by unfold modPort; split <;> rfl, by unfold modPort; split <;> rfl, by unfold modPort; split <;> rfl⟩
    refine ⟨h1.trans hk, k2.trans h2, fun p hp => ?_⟩
    show portOf (modPort n (g n) t) p = _
    by_cases hpn : p = n
    · rw [hpn, portOf_modPort_same (by omega), hlast]
    · rw [portOf_modPort_ne hpn, h3 p (by omega)]

/-- The fields that a plan writes. -/
def planFlds : List Fld := [.linkPlan_generation, .linkPlan_acceptDiscovered, .linkPlanDigest_digest, .linkPortState_outcome, .linkStatus_mismatchSeen]

/-- R274: a plan in force. -/
theorem usePlan_spec (b : List Byte) (s : State) : let t := usePlan b s
    Kept planFlds s t ∧ rget t .linkPlan_generation 0 = fld b 8 4 ∧ rget t .linkPlanDigest_digest 0 = fld b 0x10 8 ∧ t.fab.planned = true ∧
      ∀ p, p < 32 → (portOf t p).planned = (fld b (0x40 + 16 * p) 1 == 1) ∧ (portOf t p).peerPort = fld b (0x41 + 16 * p) 1 := by
  intro t
  generalize hs1 : rset .linkPlan_generation 0 (fld b 8 4) (rset .linkPlan_acceptDiscovered 0 (fld b 6 2 % 2)
    (rset .linkPlanDigest_digest 0 (fld b 0x10 8) s)) = s1
  generalize hs1' : ({ s1 with fab := { s1.fab with planned := true } } : State) = s1'
  generalize hs2 : (List.range 32).foldl (fun s p => modPort p (planPort b p) s) s1' = s2
  generalize hs3 : (List.range 32).foldl (fun s p =>
    if portUp s p then matchPort p s
    else if rget s .linkPortState_outcome p = 6 && !(portOf s p).planned then rset .linkPortState_outcome p 8 s else s) s2 = s3
  have ht : t = beaconAll s3 := by rw [← hs3, ← hs2, ← hs1', ← hs1]; rfl
  have h1 : Kept planFlds s s1 ∧ regAt s1.regs .linkPlan_generation 0 = fld b 8 4 ∧ regAt s1.regs .linkPlanDigest_digest 0 = fld b 0x10 8 := by
    rw [← hs1]
    refine ⟨((Kept.rfl.rset (.inr (by decide)) ..).rset (.inr (by decide)) ..).rset (.inr (by decide)) .., ?_, ?_⟩
    · rw [regAt_rset_same _ _ (by decide)]
      exact Nat.mod_eq_of_lt (fld_lt b 8 4)
    · rw [regAt_rset_other _ _ _ _ (by decide), regAt_rset_other _ _ _ _ (by decide), regAt_rset_same _ _ (by decide)]
      exact Nat.mod_eq_of_lt (fld_lt b 0x10 8)
  obtain ⟨k1, g1, g2⟩ := h1
  have k1' : Kept planFlds s1 s1' := by
    rw [← hs1']
    exact Kept.rfl.of_eq rfl rfl rfl rfl rfl
  have hpl : s1'.fab.planned = true := by rw [← hs1']
  obtain ⟨k2, p2, q2⟩ := foldl_modPort (planPort b) s1' 32 (le_refl _)
  rw [hs2] at k2 p2 q2
  have h3 : Kept outcomeFlds s2 s3 ∧ s3.fab = s2.fab := by
    rw [← hs3]
    refine List.foldlRecOn _ _ (motive := fun t => Kept outcomeFlds s2 t ∧ t.fab = s2.fab) ⟨.rfl, rfl⟩ fun t ht p _ => ?_
    split
    · obtain ⟨m1, m2⟩ := matchPort_kept p t
      exact ⟨ht.1.trans m1, m2.trans ht.2⟩
    · split
      · exact ⟨ht.1.rset (.inr (by decide)) .., by simpa using ht.2⟩
      · exact ht
  have h4 : Kept [] s3 t ∧ t.fab = s3.fab := by
    rw [ht]
    refine List.foldlRecOn _ _ (motive := fun t => Kept [] s3 t ∧ t.fab = s3.fab) ⟨.rfl, rfl⟩ fun t ht p _ => ?_
    exact ⟨ht.1.sendBeacon p, (sendBeacon_fab p t).trans ht.2⟩
  have hall : Kept outcomeFlds s1' t := (k2.mono (by simp)).trans (h3.1.trans (h4.1.mono (by simp)))
  have hfab : t.fab = s2.fab := h4.2.trans h3.2
  have hreg : ∀ f, f.tally = false → f ∉ outcomeFlds → rget t f 0 = regAt s1.regs f 0 := fun f h1 h2 =>
    (hall.regs f 0 h1 h2).trans (by rw [← hs1'])
  refine ⟨(k1.trans k1').trans (hall.mono (by decide)), (hreg _ rfl (by decide)).trans g1, (hreg _ rfl (by decide)).trans g2, ?_, fun p hp => ?_⟩
  · rw [hfab, p2, hpl]
  · rw [portOf_of_fab hfab, q2 p hp]
    refine ⟨rfl, ?_⟩
    show fld b (0x40 + 16 * p + 1) 1 = _
    rw [Nat.add_right_comm]

section
variable {h : CmdRef} {n : BitVec 32} {a : Word64} {s : State} {k : Nat}

theorem planLoad_badSize (hm : mayRun 0x83 h s = true) (hc : h.ctx = 0) (hn : n.toNat ≠ 576) :
    leadsTo (.planLoad h n a) s (fun t => replied h 0x0016 0x20 t = true ∧ onlyJournal s t) :=
  leadsTo_answered_priv rfl hm hc fun _ => if_pos hn

theorem planBad_tableRead (a n : Nat) (l : List Rec) (s : State) (b : List Byte) : planBad (tableRead a n l s) b = planBad s b := by
  unfold planBad
  rw [rget_eq, (tableRead_frame a n l s).1]
  rfl

theorem planLoad_takes (hm : mayRun 0x83 h s = true) (hc : h.ctx = 0) (hn : n.toNat = 576) (hp : plainAt s 0 false a.toNat 576 k)
    (hb : planBad s (sgetN 0 s.mem.bytes k 576) = []) : let b := sgetN 0 s.mem.bytes k 576
    leadsTo (.planLoad h n a) s (fun t => replied h 0x0000 0 t = true ∧ t.mem = s.mem ∧
          rget t .linkPlan_generation 0 = fld b 8 4 ∧ rget t .linkPlanDigest_digest 0 = fld b 0x10 8 ∧ t.fab.planned = true ∧
          ∀ p, p < 32 → (portOf t p).planned = (fld b (0x40 + 16 * p) 1 == 1) ∧ (portOf t p).peerPort = fld b (0x41 + 16 * p) 1) := by
  intro b
  refine leadsTo_runPriv rfl hm hc fun l hl => ?_
  have ht : takePlan b (tableRead a.toNat 576 l s) = (usePlan b (tableRead a.toNat 576 l s), none) := by
    unfold takePlan
    rw [planBad_tableRead, hb, if_neg (by rw [length_sgetN]; decide)]
  rw [if_neg (by rw [hn]; decide), cmdRead_table l hp]
  dsimp only
  rw [ht]
  obtain ⟨-, -, hmem, hj⟩ := tableRead_frame a.toNat 576 l s
  obtain ⟨h1, h2, h3, h4, h5⟩ := usePlan_spec b (tableRead a.toNat 576 l s)
  dsimp only
  generalize usePlan b (tableRead a.toNat 576 l s) = v at h1 h2 h3 h4 h5
  exact ⟨finishOk_replied_of hm hl (h1.journal.trans hj), h1.mem.trans hmem, h2, h3, h4, h5⟩

theorem planLoad_faulty {o : Nat} {os : List Nat} (hm : mayRun 0x83 h s = true) (hc : h.ctx = 0) (hn : n.toNat = 576)
    (hp : plainAt s 0 false a.toNat 576 k) (hb : planBad s (sgetN 0 s.mem.bytes k 576) = o :: os) :
    leadsTo (.planLoad h n a) s (fun t => replied h 0x0016 (0x20 + 256 * os.foldl Nat.min o) t = true ∧ t.fab = s.fab ∧ t.regs = s.regs) := by
  refine leadsTo_runPriv rfl hm hc fun l hl => ?_
  have ht : takePlan (sgetN 0 s.mem.bytes k 576) (tableRead a.toNat 576 l s) = (tableRead a.toNat 576 l s, some (0x20 + 256 * os.foldl Nat.min o)) := by
    unfold takePlan
    rw [planBad_tableRead, hb, if_neg (by rw [length_sgetN]; decide)]
  rw [if_neg (by rw [hn]; decide), cmdRead_table l hp]
  dsimp only
  rw [ht]
  obtain ⟨hr, hf, -, hj⟩ := tableRead_frame a.toNat 576 l s
  exact ⟨badParam_replied_of hm hl hj, hf, hr⟩

end

/-! ### Slices -/

theorem fld_sgetN {k n m o w : Nat} (m' : SMap Byte) (hn : o + w ≤ n) (hm : o + w ≤ m) :
    fld (sgetN 0 m' k n) o w = fld (sgetN 0 m' k m) o w := by
  have hcut : ∀ j, o + w ≤ j → ((sgetN 0 m' k j).drop o).take w = sgetN 0 m' (k + o) w := fun j hj => by
    rw [show j = o + (w + (j - o - w)) by omega, sgetN_add, sgetN_add, List.drop_left' (length_sgetN ..), List.take_left' (length_sgetN ..)]
  unfold fld pktNat
  rw [hcut n hn, hcut m hm]

theorem plainAt_mono {s : State} {c : Nat} {wr : Bool} {a n m k : Nat} (hp : plainAt s c wr a n k) (hm : m ≤ n) : plainAt s c wr a m k :=
  fun i hi => hp i (by omega)

/-- What the forming of a slice looks at. -/
theorem reachable_congr {s t : State} (hr : t.regs = s.regs) (hf : t.fab = s.fab) (i : Nat) (d : SliceDef) (j : Nat) : reachable t i d j = reachable s i d j := by
  have h1 : routeOf t = routeOf s := by funext i; rw [routeOf, hf]; rfl
  have h2 : permit t = permit s := by funext i j; rw [permit, hf]; rfl
  have h3 : portOf t = portOf s := by funext i; rw [portOf, hf]; rfl
  have h4 : sliceEpoch t = sliceEpoch s := by funext i; rw [sliceEpoch, hf]; rfl
  simp only [reachable, candidates, carries, portUp, hasPosition, ownRoster, rosterEntry, rget_eq, hr, h1, h2, h3, h4]
  rfl

theorem formSlice_congr {s t : State} (hr : t.regs = s.regs) (hf : t.fab = s.fab) (i : Nat) (d : SliceDef) :
    (formSlice i d t).2 = (formSlice i d s).2 := by
  have h1 : routeOf t = routeOf s := by funext i; rw [routeOf, hf]; rfl
  have h3 : portOf t = portOf s := by funext i; rw [portOf, hf]; rfl
  simp only [formSlice, lostPorts, carries, portUp, hasPosition, ownRoster, rget_eq, hr, h1, h3, reachable_congr hr hf]

theorem formSlice_spec (i : Nat) (d : SliceDef) (s : State) : Kept [] s (formSlice i d s).1 ∧
    sget? (formSlice i d s).1.fab.slices i = some { d with formed := decide (d.minMembers ≤ (d.members.filter (fun j => reachable s i d j)).length) } := by
  unfold formSlice
  dsimp only
  generalize decide (d.minMembers ≤ (d.members.filter (fun j => reachable s i d j)).length) = fm
  have h1 : Kept [] s { s with fab := { s.fab with slices := sput s.fab.slices i { d with formed := fm } } } := Kept.rfl.of_eq rfl rfl rfl rfl rfl
  split
  · exact ⟨h1, sget?_sput_same ..⟩
  · refine ⟨h1.raise0 .., ?_⟩
    rw [raise0_fab]
    exact sget?_sput_same ..

section
variable {h : CmdRef} {id : BitVec 16} {a : Word64} {s : State} {k : Nat}

/-- The bytes of a definition. -/
def sliceBytes (s : State) (a k : Nat) : List Byte := sgetN 0 s.mem.bytes k ((16 + 2 * fld (peek s 0 a 16).bytes 8 2 + 63) / 64 * 64)

theorem sliceDefine_runs {P : State → Prop} (hm : mayRun 0x81 h s = true) (hc : h.ctx = 0)
    (hp : plainAt s 0 false a.toNat ((16 + 2 * fld (peek s 0 a.toNat 16).bytes 8 2 + 63) / 64 * 64) k)
    (hP : ∀ l n, started 0x81 h s = setJournal l s →
      ∀ v d, takeSlice id.toNat (sliceBytes s a.toNat k) (tableRead a.toNat n l s) = (v, d) →
        P (d.elim (badParam h 0x21 v) (fun d => finish h stOk d v))) :
    leadsTo (.sliceDefine h id a) s P := by
  refine leadsTo_runPriv rfl hm hc fun l hl => ?_
  dsimp only
  have hpk : peek (setJournal l s) 0 a.toNat 16 = peek s 0 a.toNat 16 := peek_congr rfl rfl rfl rfl rfl rfl ..
  rw [hpk, cmdRead_table l hp]
  generalize hn : (16 + 2 * fld (peek s 0 a.toNat 16).bytes 8 2 + 63) / 64 * 64 = n
  have := hP l n hl
  unfold sliceBytes at this
  rw [hn] at this
  cases htk : takeSlice id.toNat (sgetN 0 s.mem.bytes k n) (tableRead a.toNat n l s) with
  | mk v d =>
    cases d with
    | none => exact this v none htk
    | some d => exact this v (some d) htk

theorem sliceDefine_bad (hm : mayRun 0x81 h s = true) (hc : h.ctx = 0)
    (hp : plainAt s 0 false a.toNat ((16 + 2 * fld (peek s 0 a.toNat 16).bytes 8 2 + 63) / 64 * 64) k)
    (hb : sliceOk (sliceBytes s a.toNat k) = false ∨ fld (sliceBytes s a.toNat k) 0 2 ≠ id.toNat) :
    leadsTo (.sliceDefine h id a) s (fun t => replied h 0x0016 0x21 t = true ∧ t.fab = s.fab) := by
  refine sliceDefine_runs hm hc hp fun l n hl v d hv => ?_
  have ht : takeSlice id.toNat (sliceBytes s a.toNat k) (tableRead a.toNat n l s) = (tableRead a.toNat n l s, none) :=
    if_pos (by rcases hb with hb | hb <;> simp [hb])
  obtain ⟨rfl, rfl⟩ := Prod.mk.inj (ht.symm.trans hv)
  obtain ⟨-, hf, -, hj⟩ := tableRead_frame a.toNat n l s
  exact ⟨badParam_replied_of hm hl hj, hf⟩

theorem takeSlice_removes {i : Nat} {b : List Byte} (s : State) (ho : sliceOk b = true) (hi : fld b 0 2 = i) (h1 : fld b 3 1 = 1) :
    takeSlice i b s = ({ s with fab := { s.fab with slices := sdel s.fab.slices i } }, some 0) :=
  (if_neg (by simp [ho, hi])).trans (if_pos h1)

theorem sliceDefine_removes (hm : mayRun 0x81 h s = true) (hc : h.ctx = 0)
    (hp : plainAt s 0 false a.toNat ((16 + 2 * fld (peek s 0 a.toNat 16).bytes 8 2 + 63) / 64 * 64) k)
    (ho : sliceOk (sliceBytes s a.toNat k) = true) (hi : fld (sliceBytes s a.toNat k) 0 2 = id.toNat) (h1 : fld (sliceBytes s a.toNat k) 3 1 = 1) :
    leadsTo (.sliceDefine h id a) s (fun t => replied h 0x0000 0 t = true ∧ sget? t.fab.slices id.toNat = none) := by
  refine sliceDefine_runs hm hc hp fun l n hl v d hv => ?_
  obtain ⟨rfl, rfl⟩ := Prod.mk.inj ((takeSlice_removes _ ho hi h1).symm.trans hv)
  obtain ⟨-, hf, -, hj⟩ := tableRead_frame a.toNat n l s
  exact ⟨finish_replied_of hm hl hj, (sget?_sdel ..).trans (if_pos rfl)⟩

theorem sliceDefine_forms (hm : mayRun 0x81 h s = true) (hc : h.ctx = 0)
    (hp : plainAt s 0 false a.toNat ((16 + 2 * fld (peek s 0 a.toNat 16).bytes 8 2 + 63) / 64 * 64) k)
    (ho : sliceOk (sliceBytes s a.toNat k) = true) (hi : fld (sliceBytes s a.toNat k) 0 2 = id.toNat) (h1 : fld (sliceBytes s a.toNat k) 3 1 = 0)
    (hroom : s.fab.slices.length < 64 ∨ (sget? s.fab.slices id.toNat).isSome) :
    leadsTo (.sliceDefine h id a) s (fun t => let b := sliceBytes s a.toNat k
      replied h 0x0000 (formSlice id.toNat (mkSlice b) s).2 t = true ∧ ∃ d, sget? t.fab.slices id.toNat = some d ∧
          d.members = vals 2 ((b.drop 16).take (2 * fld (peek s 0 a.toNat 16).bytes 8 2)) ∧ d.minMembers = fld b 6 2 ∧ d.minEpoch = fld b 4 2 ∧
          (d.formed = true ↔ d.minMembers ≤ (d.members.filter (fun j => reachable s id.toNat (mkSlice b) j)).length)) := by
  refine sliceDefine_runs hm hc hp fun l n hl v d hv => ?_
  obtain ⟨hr, hf, -, hj⟩ := tableRead_frame a.toNat n l s
  have ht : takeSlice id.toNat (sliceBytes s a.toNat k) (tableRead a.toNat n l s) =
      ((formSlice id.toNat (mkSlice (sliceBytes s a.toNat k)) (tableRead a.toNat n l s)).1,
        some (formSlice id.toNat (mkSlice (sliceBytes s a.toNat k)) (tableRead a.toNat n l s)).2) := by
    refine (if_neg (by simp [ho, hi])).trans ((if_neg (by rw [h1]; decide)).trans (if_neg ?_))
    rw [hf]
    rcases hroom with hl | hs
    · simp [Nat.not_le.2 hl]
    · simp [Option.isSome_iff_ne_none.1 hs]
  rw [formSlice_congr hr hf] at ht
  obtain ⟨rfl, rfl⟩ := Prod.mk.inj (ht.symm.trans hv)
  obtain ⟨h2, h3⟩ := formSlice_spec id.toNat (mkSlice (sliceBytes s a.toNat k)) (tableRead a.toNat n l s)
  have hn : fld (peek s 0 a.toNat 16).bytes 8 2 = fld (sliceBytes s a.toNat k) 8 2 := by
    rw [peek_plain (plainAt_mono hp (by omega))]
    exact fld_sgetN _ (by omega) (by omega)
  refine ⟨finish_replied_of hm hl (h2.journal.trans hj), _, h3, ?_, rfl, rfl, ?_⟩
  · rw [hn]; rfl
  · simp only [reachable_congr hr hf, decide_eq_true_eq]

end

/-! ### Routes -/

/-- The fields that a revocation writes. -/
def revokeFlds : List Fld := [.linkPortSliceDropCount_count, .linkStatus_dropSeen]

/-- What the revocations of a table leave. -/
structure Revoked (s t : State) : Prop extends Kept revokeFlds s t where
  routes : t.fab.routes = s.fab.routes
  waiting : t.fab.waiting = s.fab.waiting

theorem Revoked.trans {s t u : State} (h : Revoked s t) (k : Revoked t u) : Revoked s u :=
  ⟨h.toKept.trans k.toKept, k.routes.trans h.routes, k.waiting.trans h.waiting⟩

theorem sliceDrop_revoked (p sl src n : Nat) (s : State) : Revoked s (sliceDrop p sl src n s) := by
  have h1 : Kept revokeFlds s (count .linkPortSliceDropCount_count p n (rflag .linkStatus_dropSeen 0 s)) :=
    (Kept.rfl.rflag (by decide) 0).count (by decide) ..
  have hf : (count .linkPortSliceDropCount_count p n (rflag .linkStatus_dropSeen 0 s)).fab = s.fab := by simp [rflag]
  unfold sliceDrop
  dsimp only
  split
  · exact ⟨h1.raise0 .., by rw [raise0_fab, hf], by rw [raise0_fab, hf]⟩
  · exact ⟨h1, by rw [hf], by rw [hf]⟩

theorem modPort_revoked (p : Nat) (f : Port → Port) (s : State) : Revoked s (modPort p f s) := by
  unfold modPort
  split
  · exact ⟨Kept.rfl.of_eq rfl rfl rfl rfl rfl, rfl, rfl⟩
  · exact ⟨.rfl, rfl, rfl⟩

theorem revoke_revoked (p sl : Nat) (s : State) : Revoked s (revoke p sl s) := by
  have h1 : Revoked s { s with fab := { s.fab with perms := sset false s.fab.perms (p * 4096 + sl) false } } :=
    ⟨Kept.rfl.of_eq rfl rfl rfl rfl rfl, rfl, rfl⟩
  unfold revoke
  dsimp only
  split
  · exact h1
  · exact h1.trans ((modPort_revoked ..).trans (sliceDrop_revoked ..))

theorem revokeAll_revoked (T : List (List Byte)) (s : State) : Revoked s (revokeAll T s) := by
  refine List.foldlRecOn _ _ (motive := Revoked s) ⟨.rfl, rfl, rfl⟩ fun t ht b _ => ?_
  split
  · exact ht.trans (revoke_revoked ..)
  · split
    · exact List.foldlRecOn _ _ (motive := Revoked s) ht fun u hu p _ => hu.trans (revoke_revoked ..)
    · exact ht

/-- A table that alone waits: granted at once where its epoch has come. -/
theorem takeRoutes_spec {q seq : Nat} {T : List (List Byte)} {s : State} (hw : s.fab.waiting = []) :
    ∃ u, Kept revokeFlds s u ∧ u.fab.routes = s.fab.routes ∧ takeRoutes q seq T s = if fld (T.headD []) 8 8 ≤ rosterEpoch s
      then { grant (mkGrants q seq T) u with fab := { (grant (mkGrants q seq T) u).fab with waiting := [] } }
      else { u with fab := { u.fab with waiting := [mkGrants q seq T] } } := by
  have h1 := revokeAll_revoked T s
  unfold takeRoutes
  dsimp only
  generalize revokeAll T s = s1 at h1
  rw [h1.waiting, hw]
  generalize hs2 : ({ s1 with fab := { s1.fab with waiting := [] ++ [mkGrants q seq T] } } : State) = s2
  have hep : rosterEpoch s2 = rosterEpoch s := by rw [← hs2]; exact h1.regs _ _ rfl (by decide)
  have hw2 : s2.fab.waiting = [mkGrants q seq T] := by rw [← hs2]; rfl
  have hk : Kept revokeFlds s s2 := by rw [← hs2]; exact h1.toKept.of_eq rfl rfl rfl rfl rfl
  refine ⟨s2, hk, ?_, ?_⟩
  · rw [← hs2]
    exact h1.routes
  · unfold grantWaiting
    rw [hw2, List.foldl_cons, List.foldl_nil, hep]
    show _ = if (mkGrants q seq T).epoch ≤ rosterEpoch s then _ else _
    by_cases he : (mkGrants q seq T).epoch ≤ rosterEpoch s
    · rw [if_pos he, if_pos (by simp [he])]
    · rw [if_neg he, if_neg (by simp [he])]
      rfl

section
variable {h : CmdRef} {n : BitVec 32} {a : Word64} {s : State} {k : Nat}

theorem routeBad_refused (hm : mayRun 0x82 h s = true) (hc : h.ctx = 0) (hp : plainAt s 0 false a.toNat (16 * n.toNat) k) {i : Nat}
    (hi : routeBad (entries 16 n.toNat (sgetN 0 s.mem.bytes k (16 * n.toNat))) = some i) :
    leadsTo (.routeWrite h n a) s (fun t => replied h 0x0016 (0x22 + 256 * i) t = true ∧ t.fab = s.fab) := by
  refine leadsTo_runPriv rfl hm hc fun l hl => ?_
  dsimp only
  rw [cmdRead_table l hp]
  dsimp only
  rw [hi]
  obtain ⟨-, hf, -, hj⟩ := tableRead_frame a.toNat (16 * n.toNat) l s
  exact ⟨badParam_replied_of hm hl hj, hf⟩

/-- A route table without a fault, taken by a command that waits for its epoch. -/
theorem routeWrite_takes {P : State → Prop} {T : List (List Byte)} (hm : mayRun 0x82 h s = true) (hc : h.ctx = 0)
    (hp : plainAt s 0 false a.toNat (16 * n.toNat) k) (hT : entries 16 n.toNat (sgetN 0 s.mem.bytes k (16 * n.toNat)) = T) (hb : routeBad T = none)
    (hw : s.fab.waiting = []) (hP : ∀ u r, findRec u h.q h.seq.toNat = some r → r.state = .issued → r.again = none → r.wait = .epoch (fld (T.headD []) 8 8) →
      u.mem = s.mem → u.fab.routes = s.fab.routes → P (if fld (T.headD []) 8 8 ≤ rosterEpoch s
        then { grant (mkGrants h.q h.seq.toNat T) u with fab := { (grant (mkGrants h.q h.seq.toNat T) u).fab with waiting := [] } }
        else { u with fab := { u.fab with waiting := [mkGrants h.q h.seq.toNat T] } })) : leadsTo (.routeWrite h n a) s P := by
  refine leadsTo_runPriv rfl hm hc fun l hl => ?_
  dsimp only
  rw [cmdRead_table l hp]
  dsimp only
  rw [hT, hb]
  dsimp only
  obtain ⟨hr, hf, hmm, hj⟩ := tableRead_frame a.toNat (16 * n.toNat) l s
  generalize tableRead a.toNat (16 * n.toNat) l s = v at hr hf hmm hj
  obtain ⟨r, hr1, hr2, -, hr3, -⟩ := started_rec 0x82 h s hm
  rw [hl] at hr1
  have hr1v : findRec v h.q h.seq.toNat = some r := by unfold findRec at *; rw [hj]; exact hr1
  have hrec : findRec (waitFor h (.epoch (fld (T.headD []) 8 8)) v) h.q h.seq.toNat = some { r with wait := .epoch (fld (T.headD []) 8 8) } := by
    have := findRec_mapRecs v h.q h.seq.toNat (fun r => if r.state = .issued then { r with wait := .epoch (fld (T.headD []) 8 8) } else r) r hr1v
      (by simp [hr2]) (by simp [hr2]) (by simp [hr2])
    rwa [if_pos hr2] at this
  generalize hw1 : waitFor h (.epoch (fld (T.headD []) 8 8)) v = w at hrec
  have hwf : w.fab = s.fab := by rw [← hw1]; exact hf
  obtain ⟨u, hu1, hu2, hu3⟩ := takeRoutes_spec (q := h.q) (seq := h.seq.toNat) (T := T) (s := w) (by rw [hwf, hw])
  have hep : rosterEpoch w = rosterEpoch s := by rw [← hw1, rosterEpoch, rosterEpoch, rget_eq, rget_eq]; exact congrArg (fun x => regAt x _ _) hr
  rw [hu3, hep]
  refine hP u { r with wait := .epoch (fld (T.headD []) 8 8) } ?_ hr2 hr3 rfl ?_ (by rw [hu2, hwf])
  · unfold findRec at *
    rw [hu1.journal]
    exact hrec
  · rw [hu1.mem, ← hw1]
    exact hmm

theorem routeWrite_grants {T : List (List Byte)} (hm : mayRun 0x82 h s = true) (hc : h.ctx = 0)
    (hp : plainAt s 0 false a.toNat (16 * n.toNat) k) (hT : entries 16 n.toNat (sgetN 0 s.mem.bytes k (16 * n.toNat)) = T) (hb : routeBad T = none)
    (hw : s.fab.waiting = []) (he : fld (T.headD []) 8 8 ≤ rosterEpoch s) : leadsTo (.routeWrite h n a) s (fun t => replied h 0x0000 0 t = true ∧
      t.fab.routes = (mkGrants h.q h.seq.toNat T).routes.foldl (fun m r => sset 0 m r.1 (r.2.2 + 4 * r.2.1)) s.fab.routes ∧ t.mem = s.mem) := by
  refine routeWrite_takes hm hc hp hT hb hw fun u r hr1 hr2 hr3 _ hmem hro => ?_
  rw [if_pos he]
  refine ⟨finish_replied h 0 0 { u with fab := _ } r hr1 hr2 hr3, ?_, hmem⟩
  rw [← hro]
  rfl

theorem routeWrite_waits {T : List (List Byte)} (hm : mayRun 0x82 h s = true) (hc : h.ctx = 0)
    (hp : plainAt s 0 false a.toNat (16 * n.toNat) k) (hT : entries 16 n.toNat (sgetN 0 s.mem.bytes k (16 * n.toNat)) = T) (hb : routeBad T = none)
    (hw : s.fab.waiting = []) (he : rosterEpoch s < fld (T.headD []) 8 8) : leadsTo (.routeWrite h n a) s (fun t =>
      waitsOn h (.epoch (fld (T.headD []) 8 8)) t = true ∧ t.fab.routes = s.fab.routes) := by
  refine routeWrite_takes hm hc hp hT hb hw fun u r hr1 hr2 hr3 hr4 hmem hro => ?_
  rw [if_neg (Nat.not_le.2 he)]
  refine ⟨?_, hro⟩
  have hr1' : findRec { u with fab := { u.fab with waiting := [mkGrants h.q h.seq.toNat T] } } h.q h.seq.toNat = some r := hr1
  rw [waitsOn, hr1']
  simp [hr2, hr4]

end

/-! ### The fabric manager -/

theorem planDelivery_takes {s : State} {b : List Byte} (hl : b.length = 576) (hb : planBad s b = []) :
    leadsTo (.fabricManagerDelivery 0 b 0) s (fun t => rget t .linkPlan_generation 0 = fld b 8 4 ∧ t.fab.planned = true) := by
  have ht : takePlan b s = (usePlan b s, none) := by
    unfold takePlan
    rw [hb, if_neg (by rw [hl]; decide)]
  obtain ⟨-, h2, -, h4, -⟩ := usePlan_spec b s
  refine ⟨usePlan b s, ?_, h2, h4⟩
  show execFabricManagerDelivery 0 b 0 s = _
  rw [execFabricManagerDelivery, if_pos rfl, ht]

theorem sliceDelivery_removes {s : State} {b : List Byte} {i : Nat} (ho : sliceOk b = true) (hi : fld b 0 2 = i) (h1 : fld b 3 1 = 1) :
    leadsTo (.fabricManagerDelivery 1 b i) s (fun t => sget? t.fab.slices i = none) := by
  refine ⟨{ s with fab := { s.fab with slices := sdel s.fab.slices i } }, ?_, (sget?_sdel ..).trans (if_pos rfl)⟩
  show execFabricManagerDelivery 1 b i s = _
  rw [execFabricManagerDelivery, if_neg (by decide), if_pos rfl, takeSlice_removes s ho hi h1]

theorem routeDelivery_refused {s : State} {b : List Byte} (hb : routeBad (entries 16 (b.length / 16) b) ≠ none) :
    noEffect (.fabricManagerDelivery 2 b 0) s := by
  show execFabricManagerDelivery 2 b 0 s = _
  rw [execFabricManagerDelivery, if_neg (by decide), if_neg (by decide), if_pos rfl]
  exact congrArg Host.Outcome.next (if_pos (Option.isSome_iff_ne_none.2 hb))

/-- Settles O42: each table by the check that it passes or fails, and what its taking puts into force. -/
theorem fabricTables : Obligations.FabricTables := by
  intro s
  refine ⟨fun h n a hm hc => ⟨planLoad_badSize hm hc, fun k hn hp => ⟨planLoad_takes hm hc hn hp, fun o l => planLoad_faulty hm hc hn hp⟩⟩,
    fun h id a k hm hc => ?_, fun h n a k hm hc hp => ?_,
    fun b => ⟨planDelivery_takes, fun i => sliceDelivery_removes, routeDelivery_refused⟩⟩
  · intro n len b i hp
    exact ⟨sliceDefine_bad hm hc hp, sliceDefine_removes hm hc hp, sliceDefine_forms hm hc hp⟩
  · intro T epoch routes
    exact ⟨fun i hi => routeBad_refused hm hc hp hi, routeWrite_grants hm hc hp rfl, routeWrite_waits hm hc hp rfl⟩

end Sys2Proof.Machine
end

section
/-! PROOFS. What every function of the model keeps: the queue of commands, the canonical form of both memories, what was reported and sent. -/

namespace Sys2Proof.Machine

/-! ### The roster's list after a write of another field -/

theorem filter_sdel {α : Type} {p : Nat × α → Bool} {k : Nat} (hp : ∀ v, p (k, v) = false) (m : SMap α) : (sdel m k).filter p = m.filter p := by
  induction m with
  | nil => rfl
  | cons x m ih =>
    obtain ⟨j, v⟩ := x
    unfold sdel
    split
    · next h => rw [ih, List.filter_cons_of_neg (by rw [h, hp]; decide)]
    · rw [List.filter_cons, List.filter_cons, ih]

theorem filter_sins {α : Type} {p : Nat × α → Bool} {k : Nat} {v : α} (hp : p (k, v) = false) (m : SMap α) : (sins k v m).filter p = m.filter p := by
  induction m with
  | nil => simp [sins, hp]
  | cons x m ih =>
    obtain ⟨j, w⟩ := x
    unfold sins
    split
    · rw [List.filter_cons_of_neg (by rw [hp]; decide)]
    · rw [List.filter_cons, List.filter_cons, ih]

theorem mem_of_mem_sdel {α : Type} {m : SMap α} {k : Nat} {x : Nat × α} (h : x ∈ sdel m k) : x ∈ m := by
  induction m with
  | nil => exact h
  | cons y m ih =>
    unfold sdel at h
    split at h
    · exact List.mem_cons_of_mem _ (ih h)
    · rcases List.mem_cons.1 h with rfl | h
      · exact List.mem_cons_self
      · exact List.mem_cons_of_mem _ (ih h)

theorem fldKey_div {f : Fld} {i : Nat} (h : i < fldCount f) : fldKey f i / 2 ^ 20 = f.ctorIdx := by
  have := fldCount_le f
  unfold fldKey
  omega

theorem rosterList_rset {f : Fld} (hf : f.ctorIdx ≠ Fld.cohortRoster_entry.ctorIdx) (i v : Nat) (s : State) : rosterList (rset f i v s) = rosterList s := by
  unfold rset
  split
  · next h =>
    have hp : ∀ w : Nat, ((fldKey f i, w).1 / 2 ^ 20 == Fld.cohortRoster_entry.ctorIdx) = false := fun w => by
      dsimp only
      rw [fldKey_div h, beq_eq_false_iff_ne]
      exact hf
    unfold rosterList sset
    dsimp only
    split
    · rw [filter_sdel hp]
    · rw [filter_sins (hp _), filter_sdel hp]
  · rfl

/-! ### The relation -/

/-- The fields of the roster: its epoch and its entries. -/
def Fld.ofRoster : Fld → Bool
  | .cohortEpoch_epoch | .cohortRoster_entry => true
  | _ => false

/-- The fields that say where the module stands: its own seat, whether it accepts, which controller leads, what was reset or hung. -/
def Fld.ofModule : Fld → Bool
  | .cohortSelf_roster | .cohortSelf_cohort | .cohortHold_holdMs | .mcStatus_ready | .mcStatus_controller | .vigilStatus_hangSeen
  | .vigilStatus_escalationSeen | .troubleLog_vigilHang | .troubleLog_repeatHang | .troubleLog_flr | .vigilResetCount_count | .troubleLastUnit_level
  | .troubleLastUnit_index | .pwrStatus_resetSeen | .hostifStatus_flrSeen | .hostifVf_enable | .hostifVf_numVfs => true
  | _ => false

/-- The fields that most functions leave. -/
def Fld.fixed (f : Fld) : Bool := f.ofRoster || f.ofModule

theorem fixed_of_ofRoster {f : Fld} (h : f.ofRoster = true) : f.fixed = true := by rw [Fld.fixed, h, Bool.true_or]

theorem fixed_of_ofModule {f : Fld} (h : f.ofModule = true) : f.fixed = true := by rw [Fld.fixed, h, Bool.or_true]

/-- A field that may be written while the relation of number `K` holds. -/
def Fld.free (K : Nat) (f : Fld) : Prop := (1 ≤ K → f.ofRoster = false) ∧ (2 ≤ K → f.ofModule = false)

theorem free_of_fixed {K : Nat} {f : Fld} (h : f.fixed = false) : f.free K := by
  simp only [Fld.fixed, Bool.or_eq_false_iff] at h
  exact ⟨fun _ => h.1, fun _ => h.2⟩

theorem free_zero (f : Fld) : f.free 0 := ⟨fun h => absurd h (by decide), fun h => absurd h (by decide)⟩

theorem free_of_roster {K : Nat} {f : Fld} (hK : K < 2) (h : f.ofRoster = false) : f.free K := ⟨fun _ => h, fun h => by omega⟩

/-- The fields of saturated counters are none of those. -/
theorem satInfo_fixed {f g : Fld} {i : Nat} {x : Nat × Nat × Nat} (h : satInfo f i = some (g, x)) : g.fixed = false := by
  have ht : g.tally = true := by simpa [h] using satInfo_tally f i
  have key : g.tally = true → g.fixed = false := by
    unfold Fld.tally
    split
    any_goals exact fun _ => rfl
    exact fun h => by cases h
  exact key ht

/-- What is said of the module as a whole, besides its registers: the list of the roster, the partitions, the resets that are in progress, the input. -/
structure Standing (s t : State) : Prop where
  regs : ∀ f i, f.ofModule = true → regAt t.regs f i = regAt s.regs f i
  list : rosterList t = rosterList s
  partitions : t.ctl.partitions = s.ctl.partitions
  resets : t.vig.resets = s.vig.resets
  under : t.pow.under = s.pow.under

theorem Standing.trans {s t u : State} (h : Standing s t) (k : Standing t u) : Standing s u :=
  ⟨fun f i hf => (k.regs f i hf).trans (h.regs f i hf), k.list.trans h.list, k.partitions.trans h.partitions, k.resets.trans h.resets,
    k.under.trans h.under⟩

/-- A queue in a later state: of the same context, and disabled where it was. -/
def Queue.leads (y x : Queue) : Prop := x.ctx = y.ctx ∧ (y.state = .disabled → x.state = .disabled)

/-- The queues of `t` are queues of `s`, of the same contexts, and a disabled one stays disabled; the resets and the disables of functions that are in
progress are the same. -/
structure Serving (s t : State) : Prop where
  queues : ∀ p ∈ t.ctl.queues, ∃ y, (p.1, y) ∈ s.ctl.queues ∧ y.leads p.2
  flr : t.host.flr = s.host.flr
  disabling : t.host.disabling = s.host.disabling

theorem Serving.trans {s t u : State} (h : Serving s t) (k : Serving t u) : Serving s u := by
  refine ⟨fun p hp => ?_, k.flr.trans h.flr, k.disabling.trans h.disabling⟩
  obtain ⟨y, hy, hc, hd⟩ := k.queues p hp
  obtain ⟨z, hz, hc', hd'⟩ := h.queues _ hy
  exact ⟨z, hz, hc.trans hc', hd ∘ hd'⟩

/-- `t` comes from `s` by functions of the model: the commands that wait are the same, the memories keep their canonical form, what was reported and
sent stays. From `K = 1` on the roster is the same too, from `K = 2` on where the module stands, from `K = 3` on what it serves. -/
structure Steady (K : Nat) (s t : State) : Prop where
  pending : t.pending = s.pending
  mem : Mem.wf s.mem → Mem.wf t.mem
  host : Io.wf s.io → Io.wf t.io
  events : s.io.events <:+ t.io.events
  outbox : s.io.outbox <+: t.io.outbox
  roster : 1 ≤ K → ∀ f i, f.ofRoster = true → regAt t.regs f i = regAt s.regs f i
  standing : 2 ≤ K → Standing s t
  serving : 3 ≤ K → Serving s t

theorem Steady.trans {K : Nat} {s t u : State} (h : Steady K s t) (k : Steady K t u) : Steady K s u :=
  ⟨k.pending.trans h.pending, fun hs => k.mem (h.mem hs), fun hs => k.host (h.host hs), h.events.trans k.events, h.outbox.trans k.outbox,
    fun hK f i hf => (k.roster hK f i hf).trans (h.roster hK f i hf), fun hK => (h.standing hK).trans (k.standing hK),
    fun hK => (h.serving hK).trans (k.serving hK)⟩

/-- A step that leaves registers and what the module serves, and does this to memory and to what was reported. -/
theorem Steady.of_eq {K : Nat} {s t : State} (hm : Mem.wf s.mem → Mem.wf t.mem) (hh : Io.wf s.io → Io.wf t.io) (he : s.io.events <:+ t.io.events)
    (ho : s.io.outbox <+: t.io.outbox) (hr : (t.pending, t.regs) = (s.pending, s.regs) := by rfl)
    (hu : (t.ctl.partitions, t.ctl.queues, t.vig.resets, t.pow.under, t.host.flr, t.host.disabling) =
      (s.ctl.partitions, s.ctl.queues, s.vig.resets, s.pow.under, s.host.flr, s.host.disabling) := by rfl) : Steady K s t := by
  simp only [Prod.mk.injEq] at hr hu
  obtain ⟨hp, hr⟩ := hr
  obtain ⟨h1, h2, h3, h4, h5, h6⟩ := hu
  exact ⟨hp, hm, hh, he, ho, fun _ _ _ _ => by rw [hr], fun _ => ⟨fun _ _ _ => by rw [hr], by rw [rosterList, hr]; rfl, h1, h3, h4⟩,
    fun _ => ⟨fun p hp => ⟨p.2, by rw [← h2]; exact hp, rfl, id⟩, h5, h6⟩⟩

theorem Steady.refl {K : Nat} {s : State} : Steady K s s := .of_eq id id List.suffix_rfl List.prefix_rfl

/-- The outcome is a next state that keeps this. -/
def Next (K : Nat) (s : State) (o : Out) : Prop := ∃ t, o = .next t ∧ Steady K s t

theorem Next.next {K : Nat} {s t : State} (h : Steady K s t) : Next K s (.next t) := ⟨t, rfl, h⟩

theorem Next.ite {K : Nat} {s : State} {p : Prop} [Decidable p] {a b : Out} (ha : Next K s a) (hb : Next K s b) : Next K s (if p then a else b) := by
  split <;> assumption

theorem Steady.ite {K : Nat} {s : State} {p : Prop} [Decidable p] {a b : State} (ha : Steady K s a) (hb : Steady K s b) :
    Steady K s (if p then a else b) := by
  split <;> assumption

section
variable {K : Nat} {σ τ : State} (hs : Steady K σ τ)
include hs

/-- An update of what the relation does not speak of. The parts of the new state are arguments, so that the state before is read off the new one. -/
theorem Steady.face {lcount lost remain : SMap Nat} {free : Nat} {io : Io} {ctl : Ctl} {mem : Mem} {gr : Graphs} {eng oct : SMap Engine}
    {core : SMap Core} {st : SMap StepCtx} {har : SMap Harv} {fab : Fabric} {sp : Spares} {pow : Pow} {alm : Alm} {vig : Vig} {boot : Boot}
    {host : HostIf} (hu : (mem.bytes, io.hostMem, io.events, io.outbox) = (τ.mem.bytes, τ.io.hostMem, τ.io.events, τ.io.outbox) := by rfl)
    (hv : (ctl.partitions, ctl.queues, vig.resets, pow.under, host.flr, host.disabling) =
      (τ.ctl.partitions, τ.ctl.queues, τ.vig.resets, τ.pow.under, τ.host.flr, τ.host.disabling) := by rfl) :
    Steady K σ ⟨τ.pending, τ.regs, lcount, free, lost, remain, io, ctl, mem, gr, eng, core, oct, st, har, fab, sp, pow, alm, vig, boot, host⟩ := by
  simp only [Prod.mk.injEq] at hu
  obtain ⟨hm, hh, he, ho⟩ := hu
  exact hs.trans (.of_eq (fun h => by rwa [Mem.wf, hm]) (fun h => by rwa [Io.wf, hh]) (he ▸ List.suffix_rfl) (ho ▸ List.prefix_rfl) rfl hv)

/-- The same where the queues change: none comes anew, and a disabled one stays disabled. -/
theorem Steady.queues {m : SMap Queue} (hm : 3 ≤ K → ∀ p ∈ m, ∃ y, (p.1, y) ∈ τ.ctl.queues ∧ y.leads p.2) :
    Steady K σ { τ with ctl := { τ.ctl with queues := m } } :=
  hs.trans ⟨rfl, id, id, List.suffix_rfl, List.prefix_rfl, fun _ _ _ _ => rfl, fun _ => ⟨fun _ _ _ => rfl, rfl, rfl, rfl, rfl⟩,
    fun hK => ⟨hm hK, rfl, rfl⟩⟩

/-- Up to `K = 2` the queues and what the host interface holds may change too. -/
theorem Steady.low (hK : K < 3) {lcount lost remain : SMap Nat} {free : Nat} {io : Io} {ctl : Ctl} {mem : Mem} {gr : Graphs} {eng oct : SMap Engine}
    {core : SMap Core} {st : SMap StepCtx} {har : SMap Harv} {fab : Fabric} {sp : Spares} {pow : Pow} {alm : Alm} {vig : Vig} {boot : Boot}
    {host : HostIf} (hu : (mem.bytes, io.hostMem, io.events, io.outbox) = (τ.mem.bytes, τ.io.hostMem, τ.io.events, τ.io.outbox) := by rfl)
    (hv : (ctl.partitions, vig.resets, pow.under) = (τ.ctl.partitions, τ.vig.resets, τ.pow.under) := by rfl) :
    Steady K σ ⟨τ.pending, τ.regs, lcount, free, lost, remain, io, ctl, mem, gr, eng, core, oct, st, har, fab, sp, pow, alm, vig, boot, host⟩ := by
  simp only [Prod.mk.injEq] at hu hv
  obtain ⟨hm, hh, he, ho⟩ := hu
  obtain ⟨hp, hr, hi⟩ := hv
  exact hs.trans ⟨rfl, fun h => by rwa [Mem.wf, hm], fun h => by rwa [Io.wf, hh], he ▸ List.suffix_rfl, ho ▸ List.prefix_rfl, fun _ _ _ _ => rfl,
    fun _ => ⟨fun _ _ _ => rfl, rfl, hp, hr, hi⟩, fun h => by omega⟩

/-- An update of memory that keeps its form. -/
theorem Steady.withMem {m : Mem} (hm : Mem.wf τ.mem → Mem.wf m) : Steady K σ { τ with mem := m } :=
  hs.trans (.of_eq hm id List.suffix_rfl List.prefix_rfl)

theorem Steady.foldl {α : Type} {f : State → α → State} (hf : ∀ u a, Steady K σ u → Steady K σ (f u a)) (l : List α) : Steady K σ (l.foldl f τ) :=
  List.foldlRecOn _ _ (motive := Steady K σ) hs fun u hu a _ => hf u a hu

theorem Steady.elim {α : Type} {o : Option α} {f : α → State} (hf : ∀ a, Steady K σ (f a)) : Steady K σ (o.elim τ f) := by
  cases o with
  | none => exact hs
  | some a => exact hf a

/-! ### The functions that write -/

theorem Steady.rset_of {f : Fld} (hf : f.free K) (i v : Nat) : Steady K σ (rset f i v τ) := by
  have key : ∀ g, g ≠ f → ∀ j, regAt (Machine.rset f i v τ).regs g j = regAt τ.regs g j := fun g hg j => regAt_rset_other _ _ _ _ hg
  refine hs.trans ⟨by simp, by simp, by simp, by simp, by simp, fun hK g j hg => key g (fun he => ?_) j, fun hK =>
    ⟨fun g j hg => key g (fun he => ?_) j, rosterList_rset (fun h => ?_) .., by simp, by simp, by simp⟩, fun _ => ⟨fun p hp => ?_, by simp, by simp⟩⟩
  · rw [he, hf.1 hK] at hg
    cases hg
  · rw [he, hf.2 hK] at hg
    cases hg
  · have hr := hf.1 (by omega)
    rw [← Fld.ofNat_ctorIdx f, h, Fld.ofNat_ctorIdx] at hr
    cases hr
  · rw [rset_ctl] at hp
    exact ⟨p.2, hp, rfl, id⟩

theorem Steady.rset {f : Fld} (hf : f.fixed = false) (i v : Nat) : Steady K σ (Machine.rset f i v τ) := hs.rset_of (free_of_fixed hf) ..

omit hs in
/-- Where nothing more is kept, the registers and every part but the memories and what was reported may change. -/
theorem Steady.loose (hs : Steady 0 σ τ) {regs lcount lost remain : SMap Nat} {free : Nat} {io : Io} {ctl : Ctl} {mem : Mem} {gr : Graphs}
    {eng oct : SMap Engine} {core : SMap Core} {st : SMap StepCtx} {har : SMap Harv} {fab : Fabric} {sp : Spares} {pow : Pow} {alm : Alm} {vig : Vig}
    {boot : Boot} {host : HostIf}
    (hu : (mem.bytes, io.hostMem, io.events, io.outbox) = (τ.mem.bytes, τ.io.hostMem, τ.io.events, τ.io.outbox) := by rfl) :
    Steady 0 σ ⟨τ.pending, regs, lcount, free, lost, remain, io, ctl, mem, gr, eng, core, oct, st, har, fab, sp, pow, alm, vig, boot, host⟩ := by
  simp only [Prod.mk.injEq] at hu
  obtain ⟨hm, hh, he, ho⟩ := hu
  exact hs.trans ⟨rfl, fun h => by rwa [Mem.wf, hm], fun h => by rwa [Io.wf, hh], he ▸ List.suffix_rfl, ho ▸ List.prefix_rfl,
    fun h => absurd h (by decide), fun h => absurd h (by decide), fun h => absurd h (by decide)⟩

omit hs in
theorem Steady.rsetAny (hs : Steady 0 σ τ) (f : Fld) (i v : Nat) : Steady 0 σ (Machine.rset f i v τ) := by
  unfold Machine.rset
  exact .ite hs.loose hs

theorem Steady.emit (m : OutMsg) : Steady K σ (emit m τ) :=
  hs.trans (.of_eq id id List.suffix_rfl (List.prefix_append ..))

theorem Steady.hostWrite (a : Nat) (b : List Byte) : Steady K σ (hostWrite a b τ) :=
  hs.trans (.of_eq id (hostWrite_wf a b τ) List.suffix_rfl List.prefix_rfl)

theorem Steady.logEvent (e : Event) : Steady K σ (logEvent e τ) :=
  hs.trans (.of_eq id id (List.suffix_cons ..) List.prefix_rfl)

theorem Steady.keyWrite (k : Nat) (b : List Byte) : Steady K σ (keyWrite k b τ) := by
  unfold Machine.keyWrite
  exact .ite (hs.withMem (swf_ssetN _ _ _ _)) (.ite (hs.withMem (swf_ssetN _ _ _ _)) (hs.withMem id))

theorem Steady.areaCopy (dst src n : Nat) : Steady K σ (areaCopy dst src n τ) := hs.withMem (swf_scopy _ _ _ _ _)

theorem Steady.areaZero (dst n : Nat) : Steady K σ (areaZero dst n τ) := hs.withMem (swf_sclear _ _ _ _)

theorem Steady.copyCluster (e : Eng) : Steady K σ (copyCluster e τ) := hs.withMem (swf_scopy _ _ _ _ _)

theorem Steady.clearCluster (d cl : Nat) : Steady K σ (clearCluster d cl τ) :=
  hs.trans (.of_eq (swf_sclear _ _ _ _) id List.suffix_rfl List.prefix_rfl)

theorem Steady.clearDie (d : Nat) : Steady K σ (clearDie d τ) :=
  hs.trans (.of_eq (swf_sclear _ _ _ _) id List.suffix_rfl List.prefix_rfl)

end

end Sys2Proof.Machine
end

section
/-! PROOFS. What every function of the model keeps (`Steady`), file by file: Ops, MemOps, Journal, StepBase, Spares, Clocks, Flags, Graph. -/

/- The lemmas are many and short: elaborated at once, each would hold a thread of its own while it waits for the ones before. -/
set_option Elab.async false

namespace Sys2Proof.Machine

section
variable {K : Nat} {σ τ : State} (hs : Steady K σ τ)
include hs

/-! ### Ops -/

theorem Steady.rflag_of {f : Fld} (hf : f.free K) (i : Nat) : Steady K σ (rflag f i τ) := by
  unfold Machine.rflag
  exact hs.rset_of hf ..

theorem Steady.rflag {f : Fld} (hf : f.fixed = false) (i : Nat) : Steady K σ (Machine.rflag f i τ) := hs.rflag_of (free_of_fixed hf) i

theorem Steady.ror_of {f : Fld} (hf : f.free K) (i m : Nat) : Steady K σ (ror f i m τ) := by
  unfold Machine.ror
  exact hs.rset_of hf ..

theorem Steady.ror {f : Fld} (hf : f.fixed = false) (i m : Nat) : Steady K σ (Machine.ror f i m τ) := hs.ror_of (free_of_fixed hf) i m

theorem Steady.useFree : Steady K σ (useFree τ) := by
  unfold Machine.useFree
  exact hs.face

theorem Steady.tickCount (blk : Nat) : Steady K σ (tickCount blk τ) := by
  unfold Machine.tickCount
  exact hs.face

theorem Steady.setCtx (c : Nat) (x : Ctx) : Steady K σ (setCtx c x τ) := by
  unfold Machine.setCtx
  dsimp only
  exact hs.face

theorem Steady.modCtx (c : Nat) (f : Ctx → Ctx) : Steady K σ (modCtx c f τ) := by
  unfold Machine.modCtx
  split
  · exact hs.setCtx ..
  · exact hs

theorem Steady.setQueue {q : Nat} {x y : Queue} (hy : queue? τ q = some y) (hx : Queue.leads y x) : Steady K σ (setQueue q x τ) := by
  refine hs.queues fun _ p hp => ?_
  rcases (sins_mem ..).1 hp with rfl | hp
  · exact ⟨y, eq_of_mem_svals hy, hx⟩
  · exact ⟨p.2, mem_of_mem_sdel hp, rfl, id⟩

/-- Any other state of a queue. -/
theorem Steady.setQueueAny (hK : K < 3) (q : Nat) (x : Queue) : Steady K σ (Machine.setQueue q x τ) := hs.low hK

theorem Steady.modQueue {f : Queue → Queue} (hf : ∀ y : Queue, y.leads (f y)) (q : Nat) : Steady K σ (modQueue q f τ) := by
  unfold Machine.modQueue
  split
  · next y hy => exact hs.setQueue hy (hf y)
  · exact hs

theorem Steady.modQueueAny (hK : K < 3) (q : Nat) (f : Queue → Queue) : Steady K σ (Machine.modQueue q f τ) := by
  unfold Machine.modQueue
  split
  · exact hs.setQueueAny hK ..
  · exact hs

theorem Steady.dropLatch (fn : Nat) : Steady K σ (dropLatch fn τ) := by
  unfold Machine.dropLatch
  dsimp only
  exact hs.face

theorem Steady.msix (fn vec : Nat) : Steady K σ (msix fn vec τ) := by
  unfold Machine.msix
  dsimp only
  exact .ite (hs.emit ..) hs.face

theorem Steady.urgent : Steady K σ (urgent τ) := by
  unfold Machine.urgent
  exact .ite (hs.msix ..) hs

theorem Steady.ringWrite (e : Event) : Steady K σ (ringWrite e τ).1 := by
  unfold Machine.ringWrite
  split
  · dsimp only
    exact hs
  · split
    · dsimp only
      exact hs
    · split
      · dsimp only
        exact hs.useFree
      · dsimp only
        exact ((hs.useFree.hostWrite ..).setCtx ..).msix ..

theorem Steady.countDrop (c : Nat) : Steady K σ (countDrop c τ) := by
  unfold Machine.countDrop
  dsimp only
  exact .ite (hs.rset (by decide) ..) (.ite hs (((hs.face.rflag (by decide) ..).logEvent ..).ringWrite ..))

theorem Steady.raiseTo (ring code src ctx queue detail : Nat) : Steady K σ (raiseTo ring code src ctx queue detail τ) := by
  unfold Machine.raiseTo
  dsimp only
  exact .ite (.ite (((hs.tickCount ..).logEvent ..).face) (((hs.tickCount ..).logEvent ..).countDrop ..)) (.ite ((((hs.tickCount ..).logEvent
      ..).ringWrite ..).countDrop ..) (((hs.tickCount ..).logEvent ..).ringWrite ..))

theorem Steady.raise0 (code src detail : Nat) : Steady K σ (raise0 code src detail τ) := by
  unfold Machine.raise0
  exact hs.raiseTo ..

theorem Steady.raiseC (code src ctx detail : Nat) : Steady K σ (raiseC code src ctx detail τ) := by
  unfold Machine.raiseC
  exact hs.raiseTo ..

theorem Steady.raiseBoth (code src ctx detail : Nat) : Steady K σ (raiseBoth code src ctx detail τ) := by
  unfold Machine.raiseBoth
  exact .ite (hs.raiseC ..) ((hs.raiseC ..).raiseTo ..)

theorem Steady.count_of {f : Fld} (hf : f.free K) (i n : Nat) : Steady K σ (count f i n τ) := by
  unfold Machine.count
  dsimp only
  refine .ite (hs.rset_of hf ..) ?_
  have h1 := hs.rset_of hf i (2 ^ (fldInfo f).width - 1)
  generalize Machine.rset f i (2 ^ (fldInfo f).width - 1) τ = u at h1
  refine .ite h1 ?_
  have h2 : Steady K σ { u with lost := sset 0 u.lost (fldKey f i) 1 } := h1.face
  split
  · exact h2
  · next g _ _ _ hg => exact (h2.rflag (satInfo_fixed hg) ..).raise0 ..

theorem Steady.count {f : Fld} (hf : f.fixed = false) (i n : Nat) : Steady K σ (Machine.count f i n τ) := hs.count_of (free_of_fixed hf) i n

theorem Steady.count1_of {f : Fld} (hf : f.free K) (i : Nat) : Steady K σ (count1 f i τ) := by
  unfold Machine.count1
  exact hs.count_of hf ..

theorem Steady.count1 {f : Fld} (hf : f.fixed = false) (i : Nat) : Steady K σ (Machine.count1 f i τ) := hs.count1_of (free_of_fixed hf) i

theorem Steady.activity {f : Fld} (hf : f.fixed = false) (i n : Nat) : Steady K σ (activity f i n τ) := by
  unfold Machine.activity
  dsimp only
  exact .ite hs.face (hs.face.count hf ..)

theorem Steady.trouble_of {f : Fld} (hf : f.free K) (m : Nat) : Steady K σ (trouble f m τ) := by
  unfold Machine.trouble
  dsimp only
  exact .rset (.ror_of (.ite (hs.rset (by decide) ..) hs) hf ..) (by decide) ..

theorem Steady.trouble {f : Fld} (hf : f.fixed = false) (m : Nat) : Steady K σ (Machine.trouble f m τ) := hs.trouble_of (free_of_fixed hf) m

theorem Steady.startSealing (l next : List AlmRec) (flags : Nat) : Steady K σ (startSealing l next flags τ) := by
  unfold Machine.startSealing
  dsimp only
  exact hs.face

theorem Steady.almSeal (flags : Nat) : Steady K σ (almSeal flags τ) := by
  unfold Machine.almSeal
  dsimp only
  exact .ite hs.face (.ite (hs.startSealing ..) (hs.face.startSealing ..))

theorem Steady.almStage (r : AlmRec) : Steady K σ (almStage r τ) := by
  unfold Machine.almStage
  dsimp only
  exact .ite hs (.ite (.ite (hs.startSealing ..) hs.face) hs.face)

theorem Steady.almCtx (typ src c : Nat) (body : List Byte) : Steady K σ (almCtx typ src c body τ) := by
  unfold Machine.almCtx
  exact hs.almStage ..

theorem Steady.almMod (typ src : Nat) (body : List Byte) : Steady K σ (almMod typ src body τ) := by
  unfold Machine.almMod
  exact hs.almStage ..

theorem Steady.almDetection (code src c detail : Nat) : Steady K σ (almDetection code src c detail τ) := by
  unfold Machine.almDetection
  exact hs.almCtx ..

theorem Steady.setJournal (l : List Rec) : Steady K σ (setJournal l τ) := by
  unfold Machine.setJournal
  dsimp only
  exact hs.face

theorem Steady.mapRecs (p : Rec → Bool) (f : Rec → Rec) : Steady K σ (mapRecs p f τ) := by
  unfold Machine.mapRecs
  exact hs.setJournal ..

theorem Steady.finishAt (q seq st det : Nat) : Steady K σ (finishAt q seq st det τ) := by
  unfold Machine.finishAt
  exact hs.mapRecs ..

theorem Steady.finish (h : CmdRef) (st det : Nat) : Steady K σ (finish h st det τ) := by
  unfold Machine.finish
  exact hs.finishAt ..

theorem Steady.finishOk (h : CmdRef) : Steady K σ (finishOk h τ) := by
  unfold Machine.finishOk
  exact hs.finish ..

theorem Steady.badParam (h : CmdRef) (det : Nat) : Steady K σ (badParam h det τ) := by
  unfold Machine.badParam
  exact hs.finish ..

theorem Steady.waitFor (h : CmdRef) (w : Wait) : Steady K σ (waitFor h w τ) := by
  unfold Machine.waitFor
  exact hs.mapRecs ..

theorem Steady.runCmd {body : State → State} (hb : ∀ u, Steady K σ u → Steady K σ (body u)) (op : Nat) (h : CmdRef) :
    Steady K σ (runCmd op h body τ) := by
  unfold Machine.runCmd
  split
  · exact .ite (hb _ hs) hs
  · exact hb _ (hs.setJournal ..)

theorem Steady.runPriv {body : State → State} (hb : ∀ u, Steady K σ u → Steady K σ (body u)) (op : Nat) (h : CmdRef) :
    Steady K σ (runPriv op h body τ) :=
  hs.runCmd (fun u hu => .ite (hb u hu) (hu.finish ..)) ..

theorem Steady.finishWaits (p : Rec → Bool) (st : Nat) (det : Rec → Nat) : Steady K σ (finishWaits p st det τ) := by
  unfold Machine.finishWaits
  exact hs.setJournal ..

theorem Steady.setPwrState (n cause : Nat) : Steady K σ (setPwrState n cause τ) := by
  unfold Machine.setPwrState
  dsimp only
  exact .ite hs ((hs.rset (by decide) ..).raise0 ..)

theorem Steady.leaveIdle : Steady K σ (leaveIdle τ) := by
  unfold Machine.leaveIdle
  exact .ite (hs.setPwrState ..) hs

theorem Steady.wakeUp (cause : Nat) : Steady K σ (wakeUp cause τ) := by
  unfold Machine.wakeUp
  exact .ite ((hs.setPwrState ..).count1 (by decide) ..) (.ite (((hs.setPwrState ..).rset (by decide) ..).finishWaits ..) hs)

theorem Steady.charge (c n : Nat) : Steady K σ (charge c n τ) := by
  unfold Machine.charge
  dsimp only
  exact .ite hs.face hs

theorem Steady.chargeMem (c n : Nat) : Steady K σ (chargeMem c n τ) := by
  unfold Machine.chargeMem
  exact hs.charge ..

theorem Steady.chargeLink (c n : Nat) : Steady K σ (chargeLink c n τ) := by
  unfold Machine.chargeLink
  exact hs.charge ..

/-! ### MemOps -/

theorem Steady.countViol (c n : Nat) : Steady K σ (countViol c n τ) := by
  unfold Machine.countViol
  exact .ite hs (hs.count (by decide) ..)

theorem Steady.cxlPoison (a : Nat) : Steady K σ (cxlPoison τ a) := by
  unfold Machine.cxlPoison
  split
  · exact (hs.count1 (by decide) ..).rflag (by decide) ..
  · exact hs

theorem Steady.ctxRead (c a n : Nat) : Steady K σ (ctxRead c a n τ).2 := by
  unfold Machine.ctxRead
  dsimp only
  exact ((hs.countViol ..).chargeMem ..).useFree

theorem Steady.touch (c roster : Nat) : Steady K σ (touch c roster τ) := by
  unfold Machine.touch
  dsimp only
  exact .ite hs hs.face

theorem Steady.sendRemote (c slot a : Nat) (write : Bool) (b : List Byte) (len : Nat) (use : RemoteUse) : Steady K σ (sendRemote c slot a write b len
    use τ) := by
  unfold Machine.sendRemote
  dsimp only
  exact (hs.face.emit ..).touch ..

theorem Steady.writePiece (c a : Nat) (b : List Byte) : Steady K σ (writePiece c a b τ) := by
  unfold Machine.writePiece
  refine .ite (hs.countViol ..) ?_
  split
  · exact hs.countViol ..
  · exact hs.keyWrite ..
  · exact .ite ((hs.keyWrite ..).activity (by decide) ..) hs
  · exact hs.countViol ..
  · exact hs.sendRemote ..

theorem Steady.writePieces (c : Nat) (ps : List (Nat × Nat)) (b : List Byte) : Steady K σ (writePieces c ps b τ) := by
  induction ps generalizing b τ with
  | nil => exact hs
  | cons p ps ih => exact ih (hs.writePiece ..) _

theorem Steady.ctxWrite (c a : Nat) (b : List Byte) : Steady K σ (ctxWrite c a b τ) := by
  unfold Machine.ctxWrite
  exact (hs.writePieces ..).chargeMem ..

theorem Steady.poisonLine (c a : Nat) : Steady K σ (poisonLine c a τ) := by
  unfold Machine.poisonLine
  dsimp only
  refine .ite hs ?_
  split
  · exact hs.face
  · exact hs.face
  · exact hs

theorem Steady.migTrigger (d ch : Nat) : Steady K σ (migTrigger d ch τ) := by
  unfold Machine.migTrigger
  dsimp only
  exact .ite (((hs.face.rset (by decide) ..).rset (by decide) ..).raise0 ..) (hs.raise0 ..)

theorem Steady.reportBad (reader c task mb a : Nat) : Steady K σ (reportBad reader c task mb a τ) := by
  unfold Machine.reportBad
  dsimp only
  split
  · exact .ite (.ite ((((hs.useFree.raiseBoth ..).almDetection ..).count1 (by decide) ..).rflag (by decide) ..) (((((hs.useFree.raiseBoth
        ..).almDetection ..).count1 (by decide) ..).rflag (by decide) ..).migTrigger ..)) (((hs.useFree.raiseBoth ..).almDetection ..).count1 (by
        decide) ..)
  · exact ((hs.useFree.raiseBoth ..).almDetection ..).cxlPoison ..
  · exact hs

theorem Steady.reportAll (reader c task mb : Nat) (l : List Nat) : Steady K σ (reportAll reader c task mb l τ) := by
  unfold Machine.reportAll
  exact .foldl hs (fun _ _ h1 => h1.reportBad ..) ..

theorem Steady.cmdRead (c a n : Nat) : Steady K σ (cmdRead c a n τ).2 := by
  unfold Machine.cmdRead
  dsimp only
  exact (hs.ctxRead ..).reportAll ..

/-! ### Journal -/

theorem Steady.holdQueue (q reason : Nat) : Steady K σ (holdQueue q reason τ) := by
  unfold Machine.holdQueue
  refine hs.modQueue (fun y => ?_) ..
  split
  · next h => exact ⟨rfl, fun hd => by simp [hd] at h⟩
  · exact ⟨rfl, id⟩

theorem Steady.unholdQueue (q reason : Nat) : Steady K σ (unholdQueue q reason τ) := by
  unfold Machine.unholdQueue
  refine hs.modQueue (fun y => ?_) ..
  split
  · next h => exact ⟨rfl, fun hd => by simp [hd] at h⟩
  · exact ⟨rfl, id⟩

theorem Steady.fetchLoop (q n : Nat) : Steady K σ (fetchLoop q n τ) := by
  induction n generalizing τ with
  | zero => exact hs
  | succ n ih =>
    unfold Machine.fetchLoop
    dsimp only
    split
    · exact hs
    · next y hy =>
      refine .ite hs (.ite hs ?_)
      split
      · exact (hs.reportBad ..).holdQueue ..
      · exact ih (.ite ((hs.setQueue hy (by exact ⟨rfl, id⟩)).emit _) (hs.setQueue hy (by exact ⟨rfl, id⟩)))

theorem Steady.hostStores (l : List (Nat × Byte)) : Steady K σ (hostStores l τ) := by
  unfold Machine.hostStores
  exact .foldl hs (fun _ _ h1 => h1.hostWrite ..) ..

theorem Steady.doorbell (q tail : Nat) : Steady K σ (doorbell q tail τ) := by
  unfold Machine.doorbell
  exact ((hs.modQueue (by exact fun _ => ⟨rfl, id⟩) ..).unholdQueue ..).fetchLoop ..

theorem Steady.execQueueDbSqTail (fn q : Nat) (tail : BitVec 16) (host : List (Nat × Byte)) : Next K σ (execQueueDbSqTail fn q tail host τ) := by
  unfold Machine.execQueueDbSqTail
  dsimp only
  exact .ite (.next ((hs.hostStores ..).dropLatch ..)) (.ite (.next (((hs.hostStores ..).dropLatch ..).count1 (by decide) ..)) (.ite (.next
      ((((hs.hostStores ..).dropLatch ..).wakeUp ..).face)) (.next ((((hs.hostStores ..).dropLatch ..).wakeUp ..).doorbell ..))))

theorem Steady.keptDoorbells : Steady K σ (keptDoorbells τ) := by
  unfold Machine.keptDoorbells
  dsimp only
  exact .ite hs (.foldl hs.face (fun _ _ h1 => .ite (h1.doorbell ..) h1) ..)

theorem Steady.twinLost (c : Nat) : Steady K σ (twinLost c τ) := by
  unfold Machine.twinLost
  dsimp only
  exact .ite hs (.foldl ((hs.raiseBoth ..).modCtx ..) (fun _ _ h1 => h1.holdQueue ..) ..)

theorem Steady.twinBack (c : Nat) : Steady K σ (twinBack c τ) := by
  unfold Machine.twinBack
  dsimp only
  exact .foldl (hs.modCtx ..) (fun _ _ h1 => h1.unholdQueue ..) ..

theorem Steady.acceptOne (q : Nat) : Steady K σ (acceptOne q τ) := by
  unfold Machine.acceptOne
  dsimp only
  split
  · exact hs
  · next hy =>
    split
    · exact hs
    · exact .ite hs (.ite (hs.holdQueue ..) (.ite (hs.holdQueue ..) (.ite (hs.holdQueue ..) (.ite hs ((hs.setJournal ..).setQueue hy (by
        exact ⟨rfl, fun h => by simp [h]⟩))))))

theorem Steady.execPacketAccept (q : Nat) : Next K σ (execPacketAccept q τ) := by
  unfold Machine.execPacketAccept
  exact .next (hs.acceptOne ..)

theorem Steady.execTwinJournalAck (q : Nat) (seq : BitVec 32) : Next K σ (execTwinJournalAck q seq τ) := by
  unfold Machine.execTwinJournalAck
  exact .next ((hs.modQueue (by exact fun _ => ⟨rfl, id⟩) ..).acceptOne ..)

theorem Steady.modStep (c : Nat) (f : StepCtx → StepCtx) : Steady K σ (modStep c f τ) := by
  unfold Machine.modStep
  exact hs.face

theorem Steady.issueOne (q : Nat) : Steady K σ (issueOne q τ) := by
  unfold Machine.issueOne
  split
  · exact hs
  · exact .ite hs (.ite (hs.finishAt ..) (.mapRecs (.ite (hs.rset (by decide) ..) hs) ..))

theorem Steady.execCommandIssue (q : Nat) : Next K σ (execCommandIssue q τ) := by
  unfold Machine.execCommandIssue
  exact .next (hs.issueOne ..)

theorem Steady.freeRecs : Steady K σ (freeRecs τ) := by
  unfold Machine.freeRecs
  exact hs.setJournal ..

theorem Steady.drainQueues : Steady K σ (drainQueues τ) := by
  unfold Machine.drainQueues
  dsimp only
  generalize List.map _ τ.ctl.journal = l
  exact (hs.setJournal l).queues fun _ p hp => ⟨p.2, (List.mem_filter.1 hp).1, rfl, id⟩

theorem Steady.replyOne (q : Nat) : Steady K σ (replyOne q τ) := by
  unfold Machine.replyOne
  dsimp only
  split
  · split
    · exact .ite hs (.drainQueues (.freeRecs (.ite (.msix (.mapRecs (.ite (hs.ctxWrite ..) (hs.hostWrite ..)) ..) ..) (.mapRecs (.ite (hs.ctxWrite
          ..) (hs.hostWrite ..)) ..))))
    · exact hs
  · exact hs

omit hs in
theorem Steady.execReplyWrite (hs : Steady 0 σ τ) (q : Nat) : Next 0 σ (Machine.execReplyWrite q τ) := by
  unfold Machine.execReplyWrite
  dsimp only
  split
  · exact .ite (.ite (.next ((hs.replyOne ..).setQueueAny (by decide) ..)) (.next ((hs.replyOne ..).setQueueAny (by decide) ..))) (.next (hs.replyOne ..))
  · exact .next (hs.replyOne ..)

theorem Steady.execQueueDbCqHead (fn q : Nat) (seq : BitVec 32) : Next K σ (execQueueDbCqHead fn q seq τ) := by
  unfold Machine.execQueueDbCqHead
  dsimp only
  exact .ite (.next (hs.dropLatch ..)) (.ite (.next ((hs.dropLatch ..).count1 (by decide) ..)) (.next (((((hs.dropLatch ..).modQueue
      (by exact fun _ => ⟨rfl, id⟩) ..).freeRecs).unholdQueue ..).unholdQueue ..)))

theorem Steady.adminCfgFields (v : Nat) : Steady K σ (adminCfgFields v τ) := by
  unfold Machine.adminCfgFields
  dsimp only
  exact .rset (.ite (.rset (.ite ((hs.rset (by decide) ..).rset (by decide) ..) (hs.rset (by decide) ..)) (by decide) ..) (.ite ((hs.rset (by decide)
      ..).rset (by decide) ..) (hs.rset (by decide) ..))) (by decide) ..

omit hs in
theorem Steady.adminSwitch (hs : Steady 0 σ τ) (on : Bool) : Steady 0 σ (Machine.adminSwitch on τ) := by
  unfold Machine.adminSwitch
  split
  · exact .ite (hs.setQueueAny (by decide) ..) hs
  · exact .ite (.ite ((hs.setJournal ..).setQueueAny (by decide) ..) hs) (.ite (hs.setQueueAny (by decide) ..) (.ite hs (hs.setQueueAny (by decide) ..)))

omit hs in
theorem Steady.execQueueAdminCfg (hs : Steady 0 σ τ) (fn : Nat) (value : BitVec 32) : Next 0 σ (Machine.execQueueAdminCfg fn value τ) := by
  unfold Machine.execQueueAdminCfg
  dsimp only
  exact .ite (.next (hs.dropLatch ..)) (.next (((hs.dropLatch ..).adminCfgFields ..).adminSwitch ..))

theorem Steady.execControllerHeartbeat : Next K σ (execControllerHeartbeat τ) := by
  unfold Machine.execControllerHeartbeat
  dsimp only
  exact .ite (.next hs) (.next hs.face)

theorem Steady.rewriteReplies : Steady K σ (rewriteReplies τ) := by
  unfold Machine.rewriteReplies
  exact .foldl hs (fun _ _ h1 => h1.replyOne ..) ..

omit hs in
theorem Steady.execMcTakeover (hs : Steady 0 σ τ) (selfReported : Bool) : Next 0 σ (Machine.execMcTakeover selfReported τ) := by
  unfold Machine.execMcTakeover
  dsimp only
  exact .ite (.next hs) (.next (((((((((hs.rflag (by decide) ..).rset_of (free_zero _) ..).face).count1 (by decide) ..).trouble (by decide) ..).raise0
      ..).urgent).rewriteReplies).keptDoorbells))

/-! ### StepBase -/

theorem Steady.areasCopy (dst src : List Nat) (n : Nat) : Steady K σ (areasCopy dst src n τ) := by
  unfold Machine.areasCopy
  exact .foldl hs (fun _ _ h1 => .ite h1 (h1.areaCopy ..)) ..

theorem Steady.areasZero (dst : List Nat) (n : Nat) : Steady K σ (areasZero dst n τ) := by
  unfold Machine.areasZero
  exact .foldl hs (fun _ _ h1 => .ite h1 (h1.areaZero ..)) ..

theorem Steady.clearAccum (c : Nat) : Steady K σ (clearAccum c τ) := by
  unfold Machine.clearAccum
  split
  · exact hs.areasZero ..
  · exact hs

theorem Steady.takeSnap (c : Nat) : Steady K σ (takeSnap c τ) := by
  unfold Machine.takeSnap
  split
  · exact (hs.areasCopy ..).modStep ..
  · exact hs

theorem Steady.backToSnap (c m : Nat) : Steady K σ (backToSnap c m τ) := by
  unfold Machine.backToSnap
  refine .ite (hs.clearAccum ..) ?_
  split
  · exact hs.areasCopy ..
  · exact hs

theorem Steady.beginMb (c m : Nat) : Steady K σ (beginMb c m τ) := by
  unfold Machine.beginMb
  exact hs.modStep ..

theorem Steady.mbCheck (c m : Nat) : Steady K σ (mbCheck c m τ) := by
  unfold Machine.mbCheck
  dsimp only
  exact .ite hs (((hs.takeSnap ..).modStep ..).finishWaits ..)

theorem Steady.mbCheckAll (c : Nat) : Steady K σ (mbCheckAll c τ) := by
  unfold Machine.mbCheckAll
  exact .foldl hs (fun _ _ h1 => h1.mbCheck ..) ..

theorem Steady.replayEvent (level c mb origin : Nat) : Steady K σ (replayEvent level c mb origin τ) := by
  unfold Machine.replayEvent
  exact (hs.useFree.rset (by decide) ..).raiseBoth ..

theorem Steady.hardFault (c cause : Nat) : Steady K σ (hardFault c cause τ) := by
  unfold Machine.hardFault
  exact hs.emit ..

/-! ### Spares -/

theorem Steady.setPlan (i : Nat) (p : IslPlan) : Steady K σ (setPlan i p τ) := by
  unfold Machine.setPlan
  dsimp only
  exact hs.face

theorem Steady.delayReading (i : Nat) (delay : Int) : Steady K σ (delayReading i delay τ) := by
  unfold Machine.delayReading
  dsimp only
  exact hs.face

theorem Steady.gradeRecord : Steady K σ (gradeRecord τ) := by
  unfold Machine.gradeRecord
  dsimp only
  exact (hs.almMod ..).almSeal ..

theorem Steady.refreshPools : Steady K σ (refreshPools τ) := by
  unfold Machine.refreshPools
  dsimp only
  exact .ite ((((((((hs.rset (by decide) ..).rset (by decide) ..).rset (by decide) ..).rset (by decide) ..).rset (by decide) ..).rset (by decide)
      ..).rset (by decide) ..).rset (by decide) ..) ((((((((((((hs.rset (by decide) ..).rset (by decide) ..).rset (by decide) ..).rset (by decide)
      ..).rset (by decide) ..).rset (by decide) ..).rset (by decide) ..).rset (by decide) ..).rset (by decide) ..).rset (by decide)
      ..).gradeRecord).raise0 ..)

theorem Steady.setHard : Steady K σ (setHard τ) := by
  unfold Machine.setHard
  exact (hs.rflag (by decide) ..).rset (by decide) ..

theorem Steady.holdCtx (c : Nat) : Steady K σ (holdCtx c τ) := by
  unfold Machine.holdCtx
  dsimp only
  exact .ite hs (.raiseC (.foldl (hs.modCtx ..) (fun _ _ h1 => h1.holdQueue ..) ..) ..)

theorem Steady.releaseCtx (c : Nat) : Steady K σ (releaseCtx c τ) := by
  unfold Machine.releaseCtx
  dsimp only
  exact .ite (.raiseC (.foldl (hs.modCtx ..) (fun _ _ h1 => h1.unholdQueue ..) ..) ..) hs

theorem Steady.retireEvent (body : List Byte) : Steady K σ (retireEvent body τ) := by
  unfold Machine.retireEvent
  exact ((hs.rflag (by decide) ..).count1 (by decide) ..).raise0 ..

theorem Steady.substRec (kind die reason outcome logical old new : Nat) : Steady K σ (substRec kind die reason outcome logical old new τ) := by
  unfold Machine.substRec
  dsimp only
  exact .ite (.almSeal (.ite (((hs.almMod ..).raise0 ..).retireEvent ..) ((hs.almMod ..).raise0 ..)) ..) (.ite (((hs.almMod ..).raise0
      ..).retireEvent ..) ((hs.almMod ..).raise0 ..))

theorem Steady.substDone (kind die reason outcome logical old new : Nat) : Steady K σ (substDone kind die reason outcome logical old new τ) := by
  unfold Machine.substDone
  exact ((hs.substRec ..).count1 (by decide) ..).refreshPools

theorem Steady.clearMarks (p : Nat → Bool) : Steady K σ (clearMarks p τ) := by
  unfold Machine.clearMarks
  dsimp only
  exact hs.face

theorem Steady.setClState (d p goes : Nat) : Steady K σ (setClState d p goes τ) := by
  unfold Machine.setClState
  dsimp only
  exact hs.face

theorem Steady.setCoreState (d p q goes : Nat) : Steady K σ (setCoreState d p q goes τ) := by
  unfold Machine.setCoreState
  dsimp only
  exact hs.face

theorem Steady.stopShadowOn (d p : Nat) : Steady K σ (stopShadowOn d p τ) := by
  unfold Machine.stopShadowOn
  dsimp only
  split
  · exact hs
  · exact hs.face.count1 (by decide) ..

theorem Steady.substCluster (d p reason goes : Nat) : Steady K σ (substCluster d p reason goes τ) := by
  unfold Machine.substCluster
  dsimp only
  split
  · exact ((hs.setClState ..).substRec ..).refreshPools
  · exact .ite (.setHard (.foldl ((hs.setClState ..).refreshPools) (fun _ _ h1 => h1.holdCtx ..) ..)) (((((hs.useFree.stopShadowOn
        ..).face).setClState ..).clearMarks ..).substDone ..)

theorem Steady.substCore (d p c reason goes : Nat) : Steady K σ (substCore d p c reason goes τ) := by
  unfold Machine.substCore
  dsimp only
  exact .ite (hs.substCluster ..) (((hs.face.setCoreState ..).clearMarks ..).substDone ..)

theorem Steady.applySubs : Steady K σ (applySubs τ) := by
  unfold Machine.applySubs
  dsimp only
  refine Steady.foldl hs ?_ ..
  intro _ _ h1
  refine .ite h1 ?_
  refine .ite h1.face ?_
  split
  · exact h1.face.substCluster ..
  · exact h1.face.substCore ..

theorem Steady.askSubst (x : Subst) : Steady K σ (askSubst x τ) := by
  unfold Machine.askSubst
  dsimp only
  exact .ite hs hs.face.applySubs

theorem Steady.spareRow (d p row reason : Nat) : Steady K σ (spareRow d p row reason τ) := by
  unfold Machine.spareRow
  dsimp only
  exact .ite (hs.askSubst ..) (.ite ((hs.face.substDone ..).askSubst ..) (hs.face.substDone ..))

theorem Steady.holdIsland (i : Nat) : Steady K σ (holdIsland i τ) := by
  unfold Machine.holdIsland
  dsimp only
  exact hs.face

theorem Steady.replan (i cnt : Nat) : Steady K σ (replan i cnt τ) := by
  unfold Machine.replan
  dsimp only
  exact .ite (hs.askSubst ..) ((((((((hs.holdIsland ..).setPlan ..).face).rflag (by decide) ..).count1 (by decide) ..).raise0 ..).almMod ..).almSeal
      ..)

theorem Steady.corrDetect (i : Nat) (r : CorrRec) : Steady K σ (corrDetect i r τ) := by
  unfold Machine.corrDetect
  dsimp only
  exact .ite (.ite (hs.face.askSubst ..) hs.face) (.ite (hs.face.replan ..) hs.face)

theorem Steady.bumpDets (i : Nat) : Steady K σ (bumpDets i τ) := by
  unfold Machine.bumpDets
  dsimp only
  exact hs.face

theorem Steady.healthLog (kind n : Nat) : Steady K σ (healthLog kind n τ) := by
  unfold Machine.healthLog
  dsimp only
  exact hs.face

theorem Steady.execReplanHoldEnd (die cluster : Nat) : Next K σ (execReplanHoldEnd die cluster τ) := by
  unfold Machine.execReplanHoldEnd
  dsimp only
  exact .next (.ite hs hs.face)

theorem Steady.execSetAsideTest (die cluster : Nat) (core : Option Nat) (pass : Bool) : Next K σ (execSetAsideTest die cluster core pass τ) := by
  unfold Machine.execSetAsideTest
  refine .next ?_
  split
  · exact .ite hs (.ite (((hs.setClState ..).substRec ..).refreshPools) (((hs.setClState ..).substRec ..).refreshPools))
  · exact .ite hs (.ite (((hs.setCoreState ..).substRec ..).refreshPools) (((hs.setCoreState ..).substRec ..).refreshPools))

theorem Steady.execPathDelayReading (die cluster : Nat) (delay : Int) : Next K σ (execPathDelayReading die cluster delay τ) := by
  unfold Machine.execPathDelayReading
  exact .next (.ite ((hs.delayReading ..).refreshPools) hs)

theorem Steady.execPowerStageFault (rail stage : Nat) : Next K σ (execPowerStageFault rail stage τ) := by
  unfold Machine.execPowerStageFault
  dsimp only
  exact .next (.ite hs (.ite ((hs.face.substDone ..).setHard) (hs.face.substDone ..)))

theorem Steady.programBlock (n : Nat) (l : List AlmRec) (tail : Bool) (flags : Nat) : Steady K σ (programBlock n l tail flags τ) := by
  unfold Machine.programBlock
  dsimp only
  exact .ite (((hs.face.rset (by decide) ..).face).almSeal ..) (hs.face.rset (by decide) ..)

theorem Steady.usePosition (programmed : Bool) : Steady K σ (usePosition programmed τ) := by
  unfold Machine.usePosition
  dsimp only
  exact .ite ((((hs.rset (by decide) ..).face).rset (by decide) ..).raise0 ..) (hs.rset (by decide) ..)

theorem Steady.blockDone (programmed : Bool) : Steady K σ (blockDone programmed τ) := by
  unfold Machine.blockDone
  dsimp only
  split
  · exact hs
  · exact .ite hs.face (.ite (((hs.usePosition ..).face).rflag (by decide) ..) ((hs.usePosition ..).programBlock ..))

theorem Steady.execBlockSealed (programmed : Bool) : Next K σ (execBlockSealed programmed τ) := by
  unfold Machine.execBlockSealed
  exact .next (hs.blockDone ..)

theorem Steady.sealRun (n : Nat) : Steady K σ (sealRun n τ) := by
  induction n generalizing τ with
  | zero => exact hs
  | succ n ih => exact .ite (ih (hs.blockDone ..)) hs

theorem Steady.sealAll : Steady K σ (sealAll τ) := by
  unfold Machine.sealAll
  dsimp only
  exact .ite (hs.sealRun ..) (((hs.sealRun ..).almSeal ..).sealRun ..)

theorem Steady.execAlmanacCtl (fn : Nat) (value : BitVec 32) : Next K σ (execAlmanacCtl fn value τ) := by
  unfold Machine.execAlmanacCtl
  dsimp only
  exact .next (.ite ((hs.dropLatch ..).almSeal ..) (hs.dropLatch ..))

theorem Steady.execAlmanacRead (h : CmdRef) (first cnt : BitVec 32) (dest : Word64) : Next K σ (execAlmanacRead h first cnt dest τ) := by
  unfold Machine.execAlmanacRead
  dsimp only
  exact .next (.runPriv hs (fun _ h1 => .finish (.foldl h1 (fun _ _ h2 => h2.ctxWrite ..) ..) ..) ..)

theorem Steady.execAlmanacNote (h : CmdRef) (record : Word64) : Next K σ (execAlmanacNote h record τ) := by
  unfold Machine.execAlmanacNote
  dsimp only
  exact .next (.runPriv hs (fun _ h1 => .ite ((h1.cmdRead ..).badParam ..) (.finishOk (.almSeal (.almMod (.ite ((h1.cmdRead ..).face) (h1.cmdRead
      ..)) ..) ..) ..)) ..)

theorem Steady.marginRecord (kind d : Nat) : Steady K σ (marginRecord kind d τ) := by
  unfold Machine.marginRecord
  dsimp only
  exact hs.almMod ..

theorem Steady.execPowerRecord (bands : List Nat) : Next K σ (execPowerRecord bands τ) := by
  unfold Machine.execPowerRecord
  dsimp only
  exact .next (.ite (.foldl (hs.face.almMod ..) (fun _ _ h1 => h1.marginRecord ..) ..) (hs.face.almMod ..))

/-! ### Clocks -/

theorem Steady.setIsl (i : Nat) (x : Isl) : Steady K σ (setIsl i x τ) := by
  unfold Machine.setIsl
  dsimp only
  exact hs.face

theorem Steady.aim (i : Nat) : Steady K σ (aim i τ) := by
  unfold Machine.aim
  dsimp only
  refine .ite hs ?_
  split
  · exact hs.setIsl ..
  · exact .ite hs (hs.setIsl ..)

theorem Steady.changePart (i : Nat) : Steady K σ (changePart i τ) := by
  unfold Machine.changePart
  dsimp only
  split
  · exact hs
  · refine .ite hs ?_
    refine .ite (hs.setIsl ..) ?_
    split
    · exact hs.setIsl ..
    · exact hs.setIsl ..

theorem Steady.execFrequencyChange (die cluster : Nat) : Next K σ (execFrequencyChange die cluster τ) := by
  unfold Machine.execFrequencyChange
  exact .next (hs.changePart ..)

theorem Steady.execDroop (die cluster : Nat) : Next K σ (execDroop die cluster τ) := by
  unfold Machine.execDroop
  dsimp only
  exact .next (.ite hs (.ite ((((hs.count1 (by decide) ..).setIsl ..).count1 (by decide) ..).rflag (by decide) ..) ((hs.count1 (by decide) ..).setIsl
      ..)))

theorem Steady.execDroopClear (die cluster : Nat) : Next K σ (execDroopClear die cluster τ) := by
  unfold Machine.execDroopClear
  dsimp only
  exact .next (.ite hs (hs.setIsl ..))

theorem Steady.execDroopLowering (die cluster : Nat) (up : Bool) : Next K σ (execDroopLowering die cluster up τ) := by
  unfold Machine.execDroopLowering
  dsimp only
  exact .next (.ite hs ((hs.setIsl ..).aim ..))

theorem Steady.presetStage (d key : Nat) : Steady K σ (presetStage d key τ) := by
  unfold Machine.presetStage
  dsimp only
  split
  · exact hs
  · exact .foldl hs.face (fun _ _ h1 => h1.aim ..) ..

theorem Steady.evalDie (d : Nat) : Steady K σ (evalDie d τ) := by
  unfold Machine.evalDie
  exact .foldl hs (fun _ _ h1 => h1.presetStage ..) ..

theorem Steady.stageStart (n t cls : Nat) : Steady K σ (stageStart n t cls τ) := by
  unfold Machine.stageStart
  dsimp only
  exact .foldl hs.face (fun _ _ h1 => h1.face.presetStage ..) ..

theorem Steady.learn (d : Nat) (g : Stage) : Steady K σ (learn d g τ) := by
  unfold Machine.learn
  dsimp only
  exact .ite hs (hs.rset (by decide) ..)

theorem Steady.stageDone (n t : Nat) : Steady K σ (stageDone n t τ) := by
  unfold Machine.stageDone
  dsimp only
  exact .foldl hs.face (fun _ _ h1 => h1.learn ..) ..

theorem Steady.cleanStages (isls : List Nat) : Steady K σ (cleanStages isls τ) := by
  unfold Machine.cleanStages
  dsimp only
  exact .foldl (.foldl hs.face (fun _ _ h1 => h1.aim ..) ..) (fun _ _ h1 => h1.evalDie ..) ..

theorem Steady.execEnergySplit (die energy : Nat) (cycles : List (Nat × Nat)) : Next K σ (execEnergySplit die energy cycles τ) := by
  unfold Machine.execEnergySplit
  dsimp only
  exact .next (.foldl hs (fun _ _ h1 => h1.face.charge ..) ..)

theorem Steady.setBudget : Steady K σ (setBudget τ) := by
  unfold Machine.setBudget
  exact hs.rset (by decide) ..

/-! ### Graph -/

theorem Steady.execGeometryRead (h : CmdRef) (dest : Word64) : Next K σ (execGeometryRead h dest τ) := by
  unfold Machine.execGeometryRead
  dsimp only
  exact .next (.runCmd hs (fun _ h1 => (h1.ctxWrite ..).finish ..) ..)

theorem Steady.execGraphLoad (h : CmdRef) (object bytes : Word64) : Next K σ (execGraphLoad h object bytes τ) := by
  unfold Machine.execGraphLoad
  dsimp only
  refine .next ?_
  refine Steady.runCmd hs ?_ ..
  intro _ h1
  refine .ite (h1.finish ..) ?_
  split
  · exact ((h1.cmdRead ..).useFree).finish ..
  · exact ((h1.cmdRead ..).face).finish ..

theorem Steady.setRun (n : Nat) (r : Run) : Steady K σ (setRun n r τ) := by
  unfold Machine.setRun
  dsimp only
  exact hs.face

theorem Steady.modRun (n : Nat) (f : Run → Run) : Steady K σ (modRun n f τ) := by
  unfold Machine.modRun
  split
  · exact hs.setRun ..
  · exact hs

theorem Steady.notifyTask (r : Run) (t : Nat) (skipped : Bool) : Steady K σ (notifyTask r t skipped τ) := by
  unfold Machine.notifyTask
  dsimp only
  exact .ite hs (hs.useFree.raiseC ..)

theorem Steady.settle (n fuel : Nat) : Steady K σ (settle n fuel τ) := by
  induction fuel generalizing τ with
  | zero => exact hs
  | succ fuel ih =>
    unfold Machine.settle
    dsimp only
    split
    · exact hs
    · split
      · exact hs
      · exact ih ((hs.setRun ..).notifyTask ..)

theorem Steady.setEng (e : Eng) (x : Engine) : Steady K σ (setEng e x τ) := by
  unfold Machine.setEng
  exact hs.face

theorem Steady.dropEngines (p : Nat → Engine → Bool) : Steady K σ (dropEngines p τ) := by
  unfold Machine.dropEngines
  dsimp only
  exact (hs.face.cleanStages ..).applySubs

theorem Steady.unloadCheck : Steady K σ (unloadCheck τ) := by
  unfold Machine.unloadCheck
  dsimp only
  exact hs.face.finishWaits ..

theorem Steady.replyRun (r : Run) : Steady K σ (replyRun r τ) := by
  unfold Machine.replyRun
  split
  · exact hs.finishAt ..
  · exact hs.finishAt ..

theorem Steady.endRun (n : Nat) (r : Run) : Steady K σ (endRun n r τ) := by
  unfold Machine.endRun
  dsimp only
  exact .ite (.setRun (.ite hs (hs.replyRun ..)) ..) (.mbCheckAll (.unloadCheck (.dropEngines (.face (.ite hs (hs.replyRun ..))) ..)) ..)

theorem Steady.sweepRuns (fuel : Nat) : Steady K σ (sweepRuns fuel τ) := by
  induction fuel generalizing τ with
  | zero => exact hs
  | succ fuel ih =>
    unfold Machine.sweepRuns
    split
    · exact hs
    · exact ih (hs.endRun ..)

theorem Steady.runDoneCheck (n : Nat) : Steady K σ (runDoneCheck n τ) := by
  unfold Machine.runDoneCheck
  dsimp only
  split
  · exact hs
  · exact .ite ((hs.setRun ..).sweepRuns ..) hs

theorem Steady.progress (n : Nat) : Steady K σ (progress n τ) := by
  unfold Machine.progress
  exact (hs.settle ..).runDoneCheck ..

theorem Steady.runFault (n code t : Nat) : Steady K σ (runFault n code t τ) := by
  unfold Machine.runFault
  dsimp only
  split
  · exact hs
  · exact .ite hs (((hs.setRun ..).dropEngines ..).sweepRuns ..)

theorem Steady.removeRun (n : Nat) : Steady K σ (removeRun n τ) := by
  unfold Machine.removeRun
  dsimp only
  exact (hs.face.dropEngines ..).mapRecs ..

theorem Steady.removeRuns (p : Run → Bool) : Steady K σ (removeRuns p τ) := by
  unfold Machine.removeRuns
  exact .foldl hs (fun _ _ h1 => h1.removeRun ..) ..

theorem Steady.stepFault (c m : Nat) : Steady K σ (stepFault c m τ) := by
  unfold Machine.stepFault
  dsimp only
  exact .ite hs (.ite (hs.modStep ..) (.ite ((((hs.removeRuns ..).modStep ..).setHard).hardFault ..) (((((((hs.removeRuns ..).backToSnap ..).beginMb
      ..).count1 (by decide) ..).replayEvent ..).mapRecs ..).mapRecs ..)))

theorem Steady.markBad (e : Eng) : Steady K σ (markBad e τ) := by
  unfold Machine.markBad
  dsimp only
  split
  · exact hs
  · split
    · exact hs.setEng ..
    · exact .ite ((hs.setEng ..).stepFault ..) (hs.setEng ..)

theorem Steady.leaveReplay (c : Nat) : Steady K σ (leaveReplay c τ) := by
  unfold Machine.leaveReplay
  exact .ite (hs.rset (by decide) ..) hs

theorem Steady.admitRun (c g mb arg : Nat) (h : CmdRef) : Steady K σ (admitRun c g mb arg h τ) := by
  unfold Machine.admitRun
  dsimp only
  exact .progress (.waitFor (.setRun (.face (.ite (.leaveReplay (.ite (hs.beginMb ..) hs) ..) (.ite (hs.beginMb ..) hs))) ..) ..) ..

theorem Steady.execGraphRun (h : CmdRef) (graph microbatch : BitVec 16) (runArg : Word64) : Next K σ (execGraphRun h graph microbatch runArg τ) := by
  unfold Machine.execGraphRun
  exact .next (.runCmd hs (fun _ h1 => .ite (h1.badParam ..) (.ite (h1.badParam ..) (h1.admitRun ..))) ..)

theorem Steady.execGraphUnload (h : CmdRef) (graph : BitVec 16) : Next K σ (execGraphUnload h graph τ) := by
  unfold Machine.execGraphUnload
  exact .next (.runCmd hs (fun _ h1 => .ite (h1.badParam ..) ((h1.waitFor ..).unloadCheck)) ..)

theorem Steady.freshCores (e : Eng) (num : Nat) : Steady K σ (freshCores e num τ) := by
  unfold Machine.freshCores
  exact hs.face

theorem Steady.startInstance (n : Nat) (r : Run) (t : Nat) (kn : Kernel) (args : List Byte) (x : Nat × Nat × Nat × Nat) : Steady K σ (startInstance n
    r t kn args τ x) := by
  unfold Machine.startInstance
  dsimp only
  exact .ite (((((((hs.useFree.setEng ..).freshCores ..).copyCluster ..).useFree).setEng ..).freshCores ..).count1 (by decide) ..) (.ite
      (((hs.useFree.setEng ..).freshCores ..).count1 (by decide) ..) ((hs.useFree.setEng ..).freshCores ..))

theorem Steady.startTask (n t : Nat) : Steady K σ (startTask n t τ) := by
  unfold Machine.startTask
  dsimp only
  split
  · exact hs
  · refine .ite hs ?_
    split
    · exact hs
    · exact .ite (.progress (.stageStart (.leaveIdle (.foldl ((((hs.ctxRead ..).ctxRead ..).reportAll ..).setRun ..) (fun _ _ h1 => h1.startInstance
          ..) ..)) ..) ..) (.stepFault (.progress (.stageStart (.leaveIdle (.foldl ((((hs.ctxRead ..).ctxRead ..).reportAll ..).setRun ..) (fun _ _
          h1 => h1.startInstance ..) ..)) ..) ..) ..)

theorem Steady.completeTask (n t : Nat) : Steady K σ (completeTask n t τ) := by
  unfold Machine.completeTask
  dsimp only
  split
  · exact hs
  · exact .ite hs ((((((hs.stageDone ..).face).dropEngines ..).setRun ..).notifyTask ..).progress ..)

end

end Sys2Proof.Machine
end

section
/-! PROOFS. What every function of the model keeps (`Steady`), file by file: Operands, Vector, Wide, Optimiser, Update, Aborts, Exchange, Steps, Links. -/

/- The lemmas are many and short: elaborated at once, each would hold a thread of its own while it waits for the ones before. -/
set_option Elab.async false

namespace Sys2Proof.Machine

section
variable {K : Nat} {σ τ : State} (hs : Steady K σ τ)
include hs

/-! ### Operands -/

theorem Steady.trapEng (e : Eng) (code : Nat) : Steady K σ (trapEng e code τ) := by
  unfold Machine.trapEng
  dsimp only
  split
  · exact hs
  · exact .ite (.ite ((hs.setEng ..).count1 (by decide) ..) (hs.setEng ..)) (.runFault (.ite ((hs.setEng ..).count1 (by decide) ..) (hs.setEng ..))
        ..)

/-- What an instruction does to the rest of the module keeps this. -/
def EStep.Keeps (K : Nat) : EStep → Prop
  | .next _ post | .stall _ post => ∀ σ τ, Steady K σ τ → Steady K σ (post τ)
  | _ => True

omit hs in
theorem EStep.Keeps.ite {p : Prop} [Decidable p] {a b : EStep} (ha : a.Keeps K) (hb : b.Keeps K) : (if p then a else b).Keeps K := by
  split <;> assumption

theorem Steady.engRunAs {body : Engine → State → EStep} (hb : ∀ x u, (body x u).Keeps K) (i : Option Instr) (e : Eng) :
    Steady K σ (engRunAs i e body τ) := by
  unfold Machine.engRunAs
  split
  · exact hs
  · next x _ =>
    refine .ite hs (.ite (hs.trapEng ..) ?_)
    have h := hb { x with stall := none } τ
    split
    · next y post hy =>
      rw [hy] at h
      exact h _ _ (hs.setEng ..)
    · exact hs.setEng ..
    · next y post hy =>
      rw [hy] at h
      exact h _ _ (hs.setEng ..)
    · exact hs.trapEng ..

theorem Steady.engRun {body : Engine → State → EStep} (hb : ∀ x u, (body x u).Keeps K) (i : Instr) (e : Eng) :
    Steady K σ (engRun i e body τ) := hs.engRunAs hb ..

theorem Steady.engPure (i : Instr) (e : Eng) (body : Engine → Option Engine) : Steady K σ (engPure i e body τ) := by
  refine hs.engRun (fun x _ => ?_) ..
  cases body x with
  | none => trivial
  | some y => exact fun _ _ h => h

theorem Steady.spareRows (e : Eng) (phys a n : Nat) : Steady K σ (spareRows e phys a n τ) := by
  unfold Machine.spareRows
  dsimp only
  exact .foldl hs (fun _ _ h1 => .ite (h1.face.spareRow ..) h1) ..

theorem Steady.clReport (reader : Nat) (e : Eng) (a n : Nat) : Steady K σ (clReport reader e a n τ) := by
  unfold Machine.clReport
  dsimp only
  refine .ite hs ?_
  split
  · exact hs
  · exact ((((hs.useFree.raiseBoth ..).almDetection ..).count1 (by decide) ..).spareRows ..).markBad ..

theorem Steady.trayReport (reader : Nat) (e : Eng) (r : Rd) : Steady K σ (trayReport reader e r τ) := by
  unfold Machine.trayReport
  dsimp only
  split
  · exact hs
  · exact .ite ((hs.countViol ..).reportAll ..) (((hs.countViol ..).reportAll ..).markBad ..)

theorem Steady.clWrite (e : Eng) (a : Nat) (b : List Byte) : Steady K σ (clWrite e a b τ) := by
  unfold Machine.clWrite
  exact .foldl hs (fun _ _ h1 => h1.keyWrite ..) ..

/-! ### Vector -/

theorem Steady.vArith2 (i : Instr) (e : Eng) (f : FmtV) (op : ElOp) : Steady K σ (vArith2 i e f op τ) := by
  unfold Machine.vArith2
  exact hs.engPure ..

theorem Steady.vArith3 (i : Instr) (e : Eng) (f : FmtV) (op : ElOp) : Steady K σ (vArith3 i e f op τ) := by
  unfold Machine.vArith3
  dsimp only
  exact hs.engPure ..

theorem Steady.vPick (i : Instr) (e : Eng) (f : FmtV) (op : ElOp) : Steady K σ (vPick i e f op τ) := by
  unfold Machine.vPick
  exact hs.engPure ..

theorem Steady.vUnary (i : Instr) (e : Eng) (f : FmtV) (op : ElOp) : Steady K σ (vUnary i e f op τ) := by
  unfold Machine.vUnary
  exact hs.engPure ..

theorem Steady.vBits (i : Instr) (e : Eng) (f : FmtV) (ty : Nat → Bool) (op : Word32 → Word32 → Word32) : Steady K σ (vBits i e f ty op τ) := by
  unfold Machine.vBits
  exact hs.engPure ..

theorem Steady.execVadd (e : Eng) (f : FmtV) : Next K σ (execVadd e f τ) := by
  unfold Machine.execVadd
  exact .next (hs.vArith2 ..)

theorem Steady.execVsub (e : Eng) (f : FmtV) : Next K σ (execVsub e f τ) := by
  unfold Machine.execVsub
  exact .next (hs.vArith2 ..)

theorem Steady.execVmul (e : Eng) (f : FmtV) : Next K σ (execVmul e f τ) := by
  unfold Machine.execVmul
  exact .next (hs.vArith2 ..)

theorem Steady.execVfma (e : Eng) (f : FmtV) : Next K σ (execVfma e f τ) := by
  unfold Machine.execVfma
  exact .next (hs.vArith3 ..)

theorem Steady.execVfms (e : Eng) (f : FmtV) : Next K σ (execVfms e f τ) := by
  unfold Machine.execVfms
  exact .next (hs.vArith3 ..)

theorem Steady.execVmin (e : Eng) (f : FmtV) : Next K σ (execVmin e f τ) := by
  unfold Machine.execVmin
  exact .next (hs.vPick ..)

theorem Steady.execVmax (e : Eng) (f : FmtV) : Next K σ (execVmax e f τ) := by
  unfold Machine.execVmax
  exact .next (hs.vPick ..)

theorem Steady.execVabs (e : Eng) (f : FmtV) : Next K σ (execVabs e f τ) := by
  unfold Machine.execVabs
  exact .next (hs.vUnary ..)

theorem Steady.execVneg (e : Eng) (f : FmtV) : Next K σ (execVneg e f τ) := by
  unfold Machine.execVneg
  exact .next (hs.vUnary ..)

theorem Steady.execVand (e : Eng) (f : FmtV) : Next K σ (execVand e f τ) := by
  unfold Machine.execVand
  exact .next (hs.vBits ..)

theorem Steady.execVor (e : Eng) (f : FmtV) : Next K σ (execVor e f τ) := by
  unfold Machine.execVor
  exact .next (hs.vBits ..)

theorem Steady.execVxor (e : Eng) (f : FmtV) : Next K σ (execVxor e f τ) := by
  unfold Machine.execVxor
  exact .next (hs.vBits ..)

theorem Steady.execVshl (e : Eng) (f : FmtV) : Next K σ (execVshl e f τ) := by
  unfold Machine.execVshl
  exact .next (hs.vBits ..)

theorem Steady.execVshr (e : Eng) (f : FmtV) : Next K σ (execVshr e f τ) := by
  unfold Machine.execVshr
  exact .next (hs.vBits ..)

theorem Steady.execVsar (e : Eng) (f : FmtV) : Next K σ (execVsar e f τ) := by
  unfold Machine.execVsar
  exact .next (hs.vBits ..)

theorem Steady.execVsel (e : Eng) (f : FmtV) : Next K σ (execVsel e f τ) := by
  unfold Machine.execVsel
  exact .next (hs.engPure ..)

theorem Steady.execVmov (e : Eng) (f : FmtV) : Next K σ (execVmov e f τ) := by
  unfold Machine.execVmov
  exact .next (hs.engPure ..)

theorem Steady.execVlane (e : Eng) (f : FmtV) : Next K σ (execVlane e f τ) := by
  unfold Machine.execVlane
  exact .next (hs.engPure ..)

theorem Steady.execVperm (e : Eng) (f : FmtV) : Next K σ (execVperm e f τ) := by
  unfold Machine.execVperm
  exact .next (hs.engPure ..)

theorem Steady.execVbcast (e : Eng) (f : FmtV) : Next K σ (execVbcast e f τ) := by
  unfold Machine.execVbcast
  exact .next (hs.engPure ..)

theorem Steady.execVget (e : Eng) (f : FmtV) : Next K σ (execVget e f τ) := by
  unfold Machine.execVget
  exact .next (hs.engPure ..)

theorem Steady.execVput (e : Eng) (f : FmtV) : Next K σ (execVput e f τ) := by
  unfold Machine.execVput
  exact .next (hs.engPure ..)

theorem Steady.vCmp (i : Instr) (e : Eng) (f : FmtV) (op : CmpOp) : Steady K σ (vCmp i e f op τ) := by
  unfold Machine.vCmp
  dsimp only
  exact hs.engPure ..

theorem Steady.execEq (e : Eng) (f : FmtV) : Next K σ (execEq e f τ) := by
  unfold Machine.execEq
  exact .next (hs.vCmp ..)

theorem Steady.execNe (e : Eng) (f : FmtV) : Next K σ (execNe e f τ) := by
  unfold Machine.execNe
  exact .next (hs.vCmp ..)

theorem Steady.execLt (e : Eng) (f : FmtV) : Next K σ (execLt e f τ) := by
  unfold Machine.execLt
  exact .next (hs.vCmp ..)

theorem Steady.execLe (e : Eng) (f : FmtV) : Next K σ (execLe e f τ) := by
  unfold Machine.execLe
  exact .next (hs.vCmp ..)

theorem Steady.execGt (e : Eng) (f : FmtV) : Next K σ (execGt e f τ) := by
  unfold Machine.execGt
  exact .next (hs.vCmp ..)

theorem Steady.execGe (e : Eng) (f : FmtV) : Next K σ (execGe e f τ) := by
  unfold Machine.execGe
  exact .next (hs.vCmp ..)

theorem Steady.execUn (e : Eng) (f : FmtV) : Next K σ (execUn e f τ) := by
  unfold Machine.execUn
  exact .next (hs.vCmp ..)

theorem Steady.vMask (i : Instr) (e : Eng) (f : FmtV) (u : UseV) (op : Engine → BitVec 64) : Steady K σ (vMask i e f u op τ) := by
  unfold Machine.vMask
  exact hs.engPure ..

theorem Steady.execMand (e : Eng) (f : FmtV) : Next K σ (execMand e f τ) := by
  unfold Machine.execMand
  exact .next (hs.vMask ..)

theorem Steady.execMor (e : Eng) (f : FmtV) : Next K σ (execMor e f τ) := by
  unfold Machine.execMor
  exact .next (hs.vMask ..)

theorem Steady.execMxor (e : Eng) (f : FmtV) : Next K σ (execMxor e f τ) := by
  unfold Machine.execMxor
  exact .next (hs.vMask ..)

theorem Steady.execMnot (e : Eng) (f : FmtV) : Next K σ (execMnot e f τ) := by
  unfold Machine.execMnot
  exact .next (hs.vMask ..)

theorem Steady.execMfroms (e : Eng) (f : FmtV) : Next K σ (execMfroms e f τ) := by
  unfold Machine.execMfroms
  exact .next (hs.vMask ..)

theorem Steady.execMtos (e : Eng) (f : FmtV) : Next K σ (execMtos e f τ) := by
  unfold Machine.execMtos
  exact .next (hs.engPure ..)

theorem Steady.vLoad (i : Instr) (e : Eng) (f : FmtV) (u : UseV) (off : Engine → Nat → Word64) : Steady K σ (vLoad i e f u off τ) := by
  unfold Machine.vLoad
  refine Steady.engRun hs ?_ ..
  intro _ _
  split
  · trivial
  · refine .ite ?_ (by trivial)
    intro _ _ h2
    dsimp only
    split
    · exact h2.clReport ..
    · exact h2

theorem Steady.vStore (i : Instr) (e : Eng) (f : FmtV) (u : UseV) (off : Engine → Nat → Word64) : Steady K σ (vStore i e f u off τ) := by
  unfold Machine.vStore
  refine Steady.engRun hs ?_ ..
  intro _ _
  split
  · trivial
  · exact .ite (fun _ _ h2 => .foldl h2 (fun _ _ h3 => h3.clWrite ..) ..) (by trivial)

theorem Steady.execVld (e : Eng) (f : FmtV) : Next K σ (execVld e f τ) := by
  unfold Machine.execVld
  exact .next (hs.vLoad ..)

theorem Steady.execVst (e : Eng) (f : FmtV) : Next K σ (execVst e f τ) := by
  unfold Machine.execVst
  exact .next (hs.vStore ..)

theorem Steady.execVlds (e : Eng) (f : FmtV) : Next K σ (execVlds e f τ) := by
  unfold Machine.execVlds
  exact .next (hs.vLoad ..)

theorem Steady.execVsts (e : Eng) (f : FmtV) : Next K σ (execVsts e f τ) := by
  unfold Machine.execVsts
  exact .next (hs.vStore ..)

theorem Steady.execVgath (e : Eng) (f : FmtV) : Next K σ (execVgath e f τ) := by
  unfold Machine.execVgath
  exact .next (hs.vLoad ..)

theorem Steady.execVscat (e : Eng) (f : FmtV) : Next K σ (execVscat e f τ) := by
  unfold Machine.execVscat
  exact .next (hs.vStore ..)

/-! ### Wide -/

theorem Steady.vFun (i : Instr) (e : Eng) (f : FmtV) (two : Bool) (fn : FVal → FVal → FunRes) : Steady K σ (vFun i e f two fn τ) := by
  unfold Machine.vFun
  dsimp only
  exact hs.engPure ..

theorem Steady.execVexp (e : Eng) (f : FmtV) : Next K σ (execVexp e f τ) := by
  unfold Machine.execVexp
  exact .next (hs.vFun ..)

theorem Steady.execVlog (e : Eng) (f : FmtV) : Next K σ (execVlog e f τ) := by
  unfold Machine.execVlog
  exact .next (hs.vFun ..)

theorem Steady.execVrsq (e : Eng) (f : FmtV) : Next K σ (execVrsq e f τ) := by
  unfold Machine.execVrsq
  exact .next (hs.vFun ..)

theorem Steady.execVdiv (e : Eng) (f : FmtV) : Next K σ (execVdiv e f τ) := by
  unfold Machine.execVdiv
  exact .next (hs.vFun ..)

theorem Steady.execVrcp (e : Eng) (f : FmtV) : Next K σ (execVrcp e f τ) := by
  unfold Machine.execVrcp
  exact .next (hs.vFun ..)

theorem Steady.vRed (i : Instr) (e : Eng) (f : FmtV) (op : RedOp) (arg : Bool) : Steady K σ (vRed i e f op arg τ) := by
  unfold Machine.vRed
  dsimp only
  exact hs.engPure ..

theorem Steady.execVredSum (e : Eng) (f : FmtV) : Next K σ (execVredSum e f τ) := by
  unfold Machine.execVredSum
  exact .next (hs.vRed ..)

theorem Steady.execVredMax (e : Eng) (f : FmtV) : Next K σ (execVredMax e f τ) := by
  unfold Machine.execVredMax
  exact .next (hs.vRed ..)

theorem Steady.execVredMin (e : Eng) (f : FmtV) : Next K σ (execVredMin e f τ) := by
  unfold Machine.execVredMin
  exact .next (hs.vRed ..)

theorem Steady.execArgmax (e : Eng) (f : FmtV) : Next K σ (execArgmax e f τ) := by
  unfold Machine.execArgmax
  exact .next (hs.vRed ..)

theorem Steady.execArgmin (e : Eng) (f : FmtV) : Next K σ (execArgmin e f τ) := by
  unfold Machine.execArgmin
  exact .next (hs.vRed ..)

theorem Steady.vWide (i : Instr) (e : Eng) (f : FmtV) (u : UseV) (g : Engine → Nat → FVal → FVal) : Steady K σ (vWide i e f u g τ) := by
  unfold Machine.vWide
  exact hs.engPure ..

theorem Steady.execWset (e : Eng) (f : FmtV) : Next K σ (execWset e f τ) := by
  unfold Machine.execWset
  exact .next (hs.vWide ..)

theorem Steady.execWadd (e : Eng) (f : FmtV) : Next K σ (execWadd e f τ) := by
  unfold Machine.execWadd
  exact .next (hs.vWide ..)

theorem Steady.execWmax (e : Eng) (f : FmtV) : Next K σ (execWmax e f τ) := by
  unfold Machine.execWmax
  exact .next (hs.vWide ..)

theorem Steady.execWmul (e : Eng) (f : FmtV) : Next K σ (execWmul e f τ) := by
  unfold Machine.execWmul
  exact .next (hs.vWide ..)

theorem Steady.execWexpadd (e : Eng) (f : FmtV) : Next K σ (execWexpadd e f τ) := by
  unfold Machine.execWexpadd
  exact .next (hs.vWide ..)

theorem Steady.execWfma (e : Eng) (f : FmtV) : Next K σ (execWfma e f τ) := by
  unfold Machine.execWfma
  exact .next (hs.vWide ..)

theorem Steady.execWget (e : Eng) (f : FmtV) : Next K σ (execWget e f τ) := by
  unfold Machine.execWget
  dsimp only
  exact .next (hs.engPure ..)

theorem Steady.execWred (e : Eng) (f : FmtV) : Next K σ (execWred e f τ) := by
  unfold Machine.execWred
  dsimp only
  exact .next (hs.engPure ..)

/-! ### Update -/

theorem Steady.poisonRanges (c : Nat) (l : List (Nat × Nat)) : Steady K σ (poisonRanges c l τ) := by
  unfold Machine.poisonRanges
  exact .foldl hs (fun _ _ h1 => .foldl h1 (fun _ _ h2 => h2.poisonLine ..) ..) ..

theorem Steady.passApply (c : Nat) (o : PassOut) : Steady K σ (passApply c o τ) := by
  unfold Machine.passApply
  dsimp only
  exact .reportAll (.poisonRanges (.foldl hs (fun _ _ h1 => h1.ctxWrite ..) ..) ..) ..

/-! ### Aborts -/

theorem Steady.noteGen (src c gen : Nat) : Steady K σ (noteGen src c gen τ) := by
  unfold Machine.noteGen
  dsimp only
  split
  · exact hs.face
  · exact .ite hs (hs.count1 (by decide) ..)

theorem Steady.toTwin (c : Nat) (k : MKind) (addr len arg : Nat) (b : List Byte) (dig : Nat) : Steady K σ (toTwin c k addr len arg b dig τ) := by
  unfold Machine.toTwin
  split
  · exact ((hs.activity (by decide) ..).emit ..).chargeLink ..
  · exact hs

theorem Steady.smearPass (v : PassEnv) (p : Pass) : Steady K σ (smearPass v p τ) := by
  unfold Machine.smearPass
  refine .ite hs (hs.foldl (fun u t hu => ?_) _)
  split
  · exact hu
  · exact hu.foldl (fun _ _ hv => (hv.withMem (swf_ssetN _ _ _ _)).useFree) _

theorem Steady.discardOwn (c : Nat) : Steady K σ (discardOwn c τ) := by
  unfold Machine.discardOwn
  dsimp only
  refine Steady.modStep ?_ ..
  split
  · exact hs.smearPass ..
  · exact hs

theorem Steady.discardMir (c : Nat) : Steady K σ (discardMir c τ) := by
  unfold Machine.discardMir
  dsimp only
  refine Steady.modStep ?_ ..
  split
  · exact hs.smearPass ..
  · exact hs

theorem Steady.redoUpdate (c : Nat) : Steady K σ (redoUpdate c τ) := by
  unfold Machine.redoUpdate
  exact hs.mapRecs ..

theorem Steady.updFault (c cause : Nat) : Steady K σ (updFault c cause τ) := by
  unfold Machine.updFault
  dsimp only
  refine .ite hs ?_
  refine .ite ?_ ?_
  · refine Steady.hardFault ?_ ..
    refine Steady.healthLog ?_ ..
    refine Steady.replayEvent ?_ ..
    refine Steady.count1 ?_ (by decide) ..
    refine Steady.rset ?_ (by decide) ..
    refine Steady.redoUpdate ?_ ..
    refine Steady.toTwin ?_ ..
    refine Steady.modStep ?_ ..
    split
    · exact hs.smearPass ..
    · exact hs
  · refine Steady.healthLog ?_ ..
    refine Steady.replayEvent ?_ ..
    refine Steady.count1 ?_ (by decide) ..
    refine Steady.rset ?_ (by decide) ..
    refine Steady.redoUpdate ?_ ..
    refine Steady.toTwin ?_ ..
    refine Steady.modStep ?_ ..
    split
    · exact hs.smearPass ..
    · exact hs

theorem Steady.stopExchange (c : Nat) : Steady K σ (stopExchange c τ) := by
  unfold Machine.stopExchange
  exact hs.modStep ..

theorem Steady.resumeRecs (c : Nat) : Steady K σ (resumeRecs c τ) := by
  unfold Machine.resumeRecs
  dsimp only
  exact hs.mapRecs ..

theorem Steady.backToMbs (c : Nat) : Steady K σ (backToMbs c τ) := by
  unfold Machine.backToMbs
  dsimp only
  exact .ite ((hs.modStep ..).clearAccum ..) (.ite (hs.modStep ..) ((hs.modStep ..).backToSnap ..))

theorem Steady.countMbs (c : Nat) : Steady K σ (countMbs c τ) := by
  unfold Machine.countMbs
  dsimp only
  exact .foldl hs (fun _ _ h1 => h1.beginMb ..) ..

theorem Steady.abort3 (c origin : Nat) : Steady K σ (abort3 c origin τ) := by
  unfold Machine.abort3
  dsimp only
  exact .ite hs (.ite (((((((((((((((hs.removeRuns ..).discardOwn ..).discardMir ..).stopExchange ..).backToMbs ..).countMbs ..).modStep
      ..).resumeRecs ..).mapRecs ..).rset (by decide) ..).rset (by decide) ..).rset (by decide) ..).count1 (by decide) ..).replayEvent ..).healthLog
      ..) ((((((((((((((hs.removeRuns ..).discardOwn ..).discardMir ..).stopExchange ..).backToMbs ..).countMbs ..).modStep ..).resumeRecs
      ..).mapRecs ..).rset (by decide) ..).rset (by decide) ..).rset (by decide) ..).count1 (by decide) ..).replayEvent ..))

theorem Steady.abort4 (c origin : Nat) : Steady K σ (abort4 c origin τ) := by
  unfold Machine.abort4
  dsimp only
  exact .ite hs (((((((((hs.removeRuns ..).discardOwn ..).discardMir ..).stopExchange ..).modStep ..).mapRecs ..).rset (by decide) ..).rset (by
      decide) ..).replayEvent ..)

theorem Steady.allSteps {f : Nat → State → State} (hf : ∀ u c, Steady K σ u → Steady K σ (f c u)) : Steady K σ (allSteps f τ) :=
  hs.foldl hf _

/-! ### Exchange -/

theorem Steady.modBucket (c id : Nat) (f : Bucket → Bucket) : Steady K σ (modBucket c id f τ) := by
  unfold Machine.modBucket
  exact hs.modStep ..

theorem Steady.modXch (c : Nat) (f : Xch → Xch) : Steady K σ (modXch c f τ) := by
  unfold Machine.modXch
  exact hs.modStep ..

theorem Steady.sendChunk (c : Nat) (b : Bucket) (to_ part source index : Nat) (payload : List Byte) : Steady K σ (sendChunk c b to_ part source index
    payload τ) := by
  unfold Machine.sendChunk
  dsimp only
  exact (((hs.useFree.emit ..).activity (by decide) ..).chargeLink ..).touch ..

theorem Steady.sendPart (c : Nat) (b : Bucket) (to_ part source : Nat) (x : List Byte) : Steady K σ (sendPart c b to_ part source x τ) := by
  unfold Machine.sendPart
  exact .foldl hs (fun _ _ h1 => h1.sendChunk ..) ..

theorem Steady.sendLate (c flags : Nat) : Steady K σ (sendLate c flags τ) := by
  unfold Machine.sendLate
  exact hs.useFree.emit ..

theorem Steady.exchangeFault (c bkt part source cause peer : Nat) : Steady K σ (exchangeFault c bkt part source cause peer τ) := by
  unfold Machine.exchangeFault
  dsimp only
  exact .ite hs ((((((((hs.useFree.raiseBoth ..).almDetection ..).rflag (by decide) ..).count1 (by decide) ..).emit ..).modXch ..).sendLate
      ..).abort3 ..)

theorem Steady.closeBucket (c op : Nat) (b : Bucket) : Steady K σ (closeBucket c op b τ) := by
  unfold Machine.closeBucket
  dsimp only
  exact (hs.modBucket ..).emit ..

theorem Steady.sumBucket (c op : Nat) (b : Bucket) (ps : List (List Nat)) : Steady K σ (sumBucket c op b ps τ) := by
  unfold Machine.sumBucket
  dsimp only
  exact .ite (.foldl ((hs.ctxWrite ..).modBucket ..) (fun _ _ h1 => h1.sendPart ..) ..) ((hs.ctxWrite ..).modBucket ..)

theorem Steady.gatherBucket (c op : Nat) (b : Bucket) : Steady K σ (gatherBucket c op b τ) := by
  unfold Machine.gatherBucket
  refine Steady.foldl hs ?_ ..
  intro _ _ h1
  split
  · exact h1.ctxWrite ..
  · exact h1

theorem Steady.stepBucket (c op id : Nat) : Steady K σ (stepBucket c op id τ) := by
  unfold Machine.stepBucket
  dsimp only
  split
  · exact hs
  · refine .ite hs ?_
    split
    · refine .ite hs ?_
      split
      · exact hs.sumBucket ..
      · exact hs
    · refine .ite ?_ ?_
      · refine .ite ?_ ?_
        · refine Steady.closeBucket ?_ ..
          refine .ite hs ?_
          split
          · exact hs.sumBucket ..
          · exact hs
        · refine .ite hs ?_
          split
          · exact hs.sumBucket ..
          · exact hs
      · refine .ite ?_ ?_
        · refine Steady.closeBucket ?_ ..
          refine Steady.gatherBucket ?_ ..
          refine .ite hs ?_
          split
          · exact hs.sumBucket ..
          · exact hs
        · refine .ite hs ?_
          split
          · exact hs.sumBucket ..
          · exact hs

theorem Steady.takeChunk (c op : Nat) (m : ChunkMsg) : Steady K σ (takeChunk c op m τ) := by
  unfold Machine.takeChunk
  split
  · exact hs
  · exact .ite ((hs.useFree.count1 (by decide) ..).modXch ..) ((hs.modBucket ..).stepBucket ..)

theorem Steady.unstage (c op id : Nat) : Steady K σ (unstage c op id τ) := by
  unfold Machine.unstage
  dsimp only
  exact .foldl (hs.modStep ..) (fun _ _ h1 => h1.takeChunk ..) ..

theorem Steady.startBucket (c op id : Nat) : Steady K σ (startBucket c op id τ) := by
  unfold Machine.startBucket
  dsimp only
  split
  · exact hs
  · split
    · exact (hs.reportAll ..).exchangeFault ..
    · exact .unstage (.stepBucket (.ite (.foldl ((hs.modBucket ..).ctxWrite ..) (fun _ _ h1 => h1.sendPart ..) ..) (.ite (.foldl (hs.modBucket ..)
          (fun _ _ h1 => h1.sendPart ..) ..) (.ite (.ctxWrite (.foldl (hs.modBucket ..) (fun _ _ h1 => h1.sendPart ..) ..) ..) (.modXch (.count
          (.rflag (.useFree (.ctxWrite (.foldl (hs.modBucket ..) (fun _ _ h1 => h1.sendPart ..) ..) ..)) (by decide) ..) (by decide) ..) ..)))) ..) ..

theorem Steady.execOpeningRound (ctx bucket : Nat) (minDigest maxDigest : Word64) (differing : Nat) : Next K σ (execOpeningRound ctx bucket minDigest
    maxDigest differing τ) := by
  unfold Machine.execOpeningRound
  dsimp only
  split
  · exact .ite (.next hs) (.ite (.next (hs.startBucket ..)) (.next (((hs.useFree.raiseBoth ..).stopExchange ..).finishAt ..)))
  · exact .next hs

theorem Steady.endExchange (c : Nat) : Steady K σ (endExchange c τ) := by
  unfold Machine.endExchange
  split
  · exact hs
  · exact .ite hs ((((hs.stopExchange ..).rset (by decide) ..).sendLate ..).finishAt ..)

theorem Steady.agreeBucket (c op : Nat) (b : Bucket) : Steady K σ (agreeBucket c op b τ) := by
  unfold Machine.agreeBucket
  dsimp only
  exact .endExchange (.ite ((((hs.ctxWrite ..).modBucket ..).toTwin ..).modStep ..) ((hs.ctxWrite ..).modBucket ..)) ..

theorem Steady.execClosingRound (ctx bucket : Nat) (m : CloseMsg) : Next K σ (execClosingRound ctx bucket m τ) := by
  unfold Machine.execClosingRound
  split
  · exact .ite (.next hs) (.ite (.next (hs.agreeBucket ..)) (.ite (.next hs) (.next (hs.exchangeFault ..))))
  · exact .next hs

theorem Steady.badHop (m : ChunkMsg) : Steady K σ (badHop m τ) := by
  unfold Machine.badHop
  dsimp only
  exact .ite (hs.exchangeFault ..) (((((hs.useFree.rflag (by decide) ..).count1 (by decide) ..).modBucket ..).modXch ..).emit ..)

theorem Steady.execExchangeChunk (m : ChunkMsg) (adderFault : Bool) : Next K σ (execExchangeChunk m adderFault τ) := by
  unfold Machine.execExchangeChunk
  dsimp only
  exact .ite (.next (hs.noteGen ..)) (.ite (.next ((hs.noteGen ..).badHop ..)) (.ite (.next (((hs.noteGen ..).useFree).count1 (by decide) ..)) (.ite
      (.next ((hs.noteGen ..).modStep ..)) (.ite (.next ((hs.noteGen ..).exchangeFault ..)) (.next ((hs.noteGen ..).takeChunk ..))))))

theorem Steady.execChunkResendRequest (ctx bkt part source index : Nat) : Next K σ (execChunkResendRequest ctx bkt part source index τ) := by
  unfold Machine.execChunkResendRequest
  dsimp only
  split
  · exact .ite (.next hs) (.next (.foldl hs (fun _ _ h1 => h1.sendChunk ..) ..))
  · exact .next hs

theorem Steady.startExchange (c op : Nat) (h : CmdRef) (bs : List Bucket) : Steady K σ (startExchange c op h bs τ) := by
  unfold Machine.startExchange
  dsimp only
  exact .endExchange (.foldl ((hs.waitFor ..).modStep ..) (fun _ _ h1 => h1.emit ..) ..) ..

theorem Steady.execExchange (h : CmdRef) (buckets : Word64) (count : BitVec 32) (op : BitVec 8) : Next K σ (execExchange h buckets count op τ) := by
  unfold Machine.execExchange
  dsimp only
  refine .next ?_
  refine Steady.runCmd hs ?_ ..
  intro _ h1
  refine .ite (h1.badParam ..) ?_
  refine .ite (h1.finish ..) ?_
  refine .ite h1 ?_
  refine .ite ((h1.reportAll ..).exchangeFault ..) ?_
  split
  · exact h1.badParam ..
  · exact (h1.leaveIdle.leaveReplay ..).startExchange ..

/-! ### Steps -/

theorem Steady.abandon (h : CmdRef) : Steady K σ (abandon h τ) := by
  unfold Machine.abandon
  dsimp only
  exact hs.setJournal ..

theorem Steady.clearSlots (c : Nat) : Steady K σ (clearSlots c τ) := by
  unfold Machine.clearSlots
  exact .foldl hs (fun _ _ h1 => h1.ctxWrite ..) ..

theorem Steady.openStep (c n mbs : Nat) (p : Plan) : Steady K σ (openStep c n mbs p τ) := by
  unfold Machine.openStep
  dsimp only
  exact .clearAccum (.rset (.rset (.rset (.rset (.modStep (.ite hs (hs.clearSlots ..)) ..) (by decide) ..) (by decide) ..) (by decide) ..) (by
      decide) ..) ..

theorem Steady.execInputRetain (h : CmdRef) (addr bytes : Word64) (microbatch : BitVec 16) : Next K σ (execInputRetain h addr bytes microbatch τ) :=
    by
  unfold Machine.execInputRetain
  dsimp only
  exact .next (.runCmd hs (fun _ h1 => .ite (h1.badParam ..) (.ite ((h1.cmdRead ..).finish ..) (.ite ((((h1.cmdRead ..).modStep ..).toTwin
      ..).waitFor ..) (((h1.cmdRead ..).modStep ..).finish ..)))) ..)

theorem Steady.execMicrobatchEnd (h : CmdRef) (microbatch : BitVec 16) : Next K σ (execMicrobatchEnd h microbatch τ) := by
  unfold Machine.execMicrobatchEnd
  dsimp only
  exact .next (.runCmd hs (fun _ h1 => .ite (h1.finish ..) (.ite (h1.badParam ..) (.ite h1 (((h1.leaveReplay ..).waitFor ..).mbCheck ..)))) ..)

theorem Steady.sendSegments (c : Nat) (d : UDesc) : Steady K σ (sendSegments c d τ) := by
  unfold Machine.sendSegments
  dsimp only
  exact .foldl hs (fun _ _ h1 => .ite h1 ((h1.toTwin ..).modStep ..)) ..

theorem Steady.sendUpdate (c : Nat) (d : UDesc) (raw : List Byte) (p : Pass) : Steady K σ (sendUpdate c d raw p τ) := by
  unfold Machine.sendUpdate
  dsimp only
  exact .ite hs (.toTwin (.ite (hs.sendSegments ..) (((hs.sendSegments ..).toTwin ..).modStep ..)) ..)

theorem Steady.execStepUpdate (h : CmdRef) (optimiser : Word64) : Next K σ (execStepUpdate h optimiser τ) := by
  unfold Machine.execStepUpdate
  dsimp only
  exact .next (.runCmd hs (fun _ h1 => .ite (h1.badParam ..) (.ite (h1.finish ..) (.ite (((h1.reportAll ..).rset (by decide) ..).updFault ..) (.ite
      ((h1.reportAll ..).badParam ..) (.ite ((h1.reportAll ..).badParam ..) ((((((h1.reportAll ..).modStep ..).leaveIdle).rset (by decide)
      ..).sendUpdate ..).waitFor ..)))))) ..)

theorem Steady.sealNow (c : Nat) : Steady K σ (sealNow c τ) := by
  unfold Machine.sealNow
  dsimp only
  exact .finishWaits (.emit (.rset (.ite (hs.modStep ..) ((hs.modStep ..).rflag (by decide) ..)) (by decide) ..) ..) ..

theorem Steady.sealCheck (c : Nat) : Steady K σ (sealCheck c τ) := by
  unfold Machine.sealCheck
  exact .ite (hs.sealNow ..) hs

theorem Steady.execStepSeal (h : CmdRef) (step : Word64) : Next K σ (execStepSeal h step τ) := by
  unfold Machine.execStepSeal
  dsimp only
  exact .next (.runCmd hs (fun _ h1 => .ite (h1.badParam ..) (((h1.waitFor ..).mapRecs ..).sealCheck ..)) ..)

theorem Steady.updateDone (c : Nat) : Steady K σ (updateDone c τ) := by
  unfold Machine.updateDone
  dsimp only
  split
  · exact hs
  · exact (hs.finishWaits ..).sealCheck ..

theorem Steady.chargeUnit (c : Nat) : Steady K σ (chargeUnit c τ) := by
  unfold Machine.chargeUnit
  dsimp only
  exact .ite hs.face.useFree (hs.face.useFree.face.substDone ..)

theorem Steady.compareUpdate (c : Nat) : Steady K σ (compareUpdate c τ) := by
  unfold Machine.compareUpdate
  dsimp only
  split
  · exact .ite hs (.ite (hs.updateDone ..) (.updFault (.healthLog (.ite hs ((hs.raiseBoth ..).chargeUnit ..)) ..) ..))
  · exact hs

theorem Steady.askRepair (c : Nat) (mir : Bool) (l : List Nat) : Steady K σ (askRepair c mir l τ) := by
  unfold Machine.askRepair
  refine Steady.foldl hs ?_ ..
  intro _ _ h1
  split
  · exact (h1.modStep ..).emit ..
  · exact h1

theorem Steady.ownPassEnd (c : Nat) (p : Pass) : Steady K σ (ownPassEnd c p τ) := by
  unfold Machine.ownPassEnd
  dsimp only
  exact .ite (((hs.passApply ..).modStep ..).abort3 ..) (.ite ((((hs.passApply ..).modStep ..).updFault ..).askRepair ..) (.ite (((hs.passApply
      ..).modStep ..).updFault ..) (.ite (((hs.passApply ..).modStep ..).compareUpdate ..) (((hs.passApply ..).modStep ..).updateDone ..))))

theorem Steady.mirPassEnd (c : Nat) (p : Pass) : Steady K σ (mirPassEnd c p τ) := by
  unfold Machine.mirPassEnd
  dsimp only
  exact .ite ((((hs.passApply ..).modStep ..).modStep ..).askRepair ..) (((hs.passApply ..).modStep ..).emit ..)

theorem Steady.execUpdatePassEnd (ctx : Nat) (mirror : Bool) : Next K σ (execUpdatePassEnd ctx mirror τ) := by
  unfold Machine.execUpdatePassEnd
  dsimp only
  refine .ite (.next hs) ?_
  split
  · exact .next hs
  · exact .ite (.next hs) (.next (.chargeMem (.ite (hs.mirPassEnd ..) (hs.ownPassEnd ..)) ..))

theorem Steady.execMirrorPassReport (ctx : Nat) (digest : Word64) (checksOk : Bool) : Next K σ (execMirrorPassReport ctx digest checksOk τ) := by
  unfold Machine.execMirrorPassReport
  exact .ite (.next hs) (.next ((hs.modStep ..).compareUpdate ..))

theorem Steady.execStepCommitWait (h : CmdRef) (step : Word64) : Next K σ (execStepCommitWait h step τ) := by
  unfold Machine.execStepCommitWait
  exact .next (.runCmd hs (fun _ h1 => .ite (h1.finish ..) (.ite (h1.finish ..) (h1.waitFor ..))) ..)

theorem Steady.execStepAbort (h : CmdRef) (step : Word64) : Next K σ (execStepAbort h step τ) := by
  unfold Machine.execStepAbort
  exact .next (.runCmd hs (fun _ h1 => .ite (h1.badParam ..) (((h1.emit ..).abort4 ..).finishOk ..)) ..)

theorem Steady.quietGroup (c : Nat) (p : Pass) (g : Nat) : Steady K σ (quietGroup c p τ g) := by
  unfold Machine.quietGroup
  dsimp only
  exact .ite (.raiseBoth (.count1 (.rflag (.rflag (.ite hs (hs.rset (by decide) ..)) (by decide) ..) (by decide) ..) (by decide) ..) ..) hs

theorem Steady.modeChange (c : Nat) (p : Pass) (fresh : Bool) (i : Nat) : Steady K σ (modeChange c p fresh τ i) := by
  unfold Machine.modeChange
  dsimp only
  exact .ite (hs.raiseBoth ..) hs

theorem Steady.commitWatch (c : Nat) (p : Pass) (fresh : Bool) : Steady K σ (commitWatch c p fresh τ) := by
  unfold Machine.commitWatch
  dsimp only
  exact .ite (.ite (.foldl (.foldl hs (fun _ _ h1 => h1.quietGroup ..) ..) (fun _ _ h1 => h1.modeChange ..) ..) (.rflag (.foldl (.foldl hs (fun _ _
      h1 => h1.quietGroup ..) ..) (fun _ _ h1 => h1.modeChange ..) ..) (by decide) ..)) (.raiseBoth (.count (.ite (.foldl (.foldl hs (fun _ _ h1 =>
      h1.quietGroup ..) ..) (fun _ _ h1 => h1.modeChange ..) ..) (.rflag (.foldl (.foldl hs (fun _ _ h1 => h1.quietGroup ..) ..) (fun _ _ h1 =>
      h1.modeChange ..) ..) (by decide) ..)) (by decide) ..) ..)

theorem Steady.unbind (c : Nat) : Steady K σ (unbind c τ) := by
  unfold Machine.unbind
  dsimp only
  exact .ite ((((((hs.modStep ..).face).rset (by decide) ..).rset (by decide) ..).raiseBoth ..).twinBack ..) (((hs.modStep ..).face).twinBack ..)

theorem Steady.releaseCheck (c : Nat) : Steady K σ (releaseCheck c τ) := by
  unfold Machine.releaseCheck
  exact .ite hs (((hs.toTwin ..).unbind ..).finishWaits ..)

theorem Steady.flip (c seq : Nat) : Steady K σ (flip c seq τ) := by
  unfold Machine.flip
  dsimp only
  refine Steady.freeRecs ?_
  refine Steady.releaseCheck ?_ ..
  refine Steady.finishWaits ?_ ..
  refine Steady.raiseBoth ?_ ..
  split
  · exact .ite (.commitWatch (.ite (((((hs.modStep ..).rset (by decide) ..).rset (by decide) ..).rset (by decide) ..).rset (by decide) ..)
        ((((((hs.modStep ..).rset (by decide) ..).rset (by decide) ..).rset (by decide) ..).rset (by decide) ..).count (by decide) ..)) ..) (.ite
        (((((hs.modStep ..).rset (by decide) ..).rset (by decide) ..).rset (by decide) ..).rset (by decide) ..) ((((((hs.modStep ..).rset (by decide)
        ..).rset (by decide) ..).rset (by decide) ..).rset (by decide) ..).count (by decide) ..))
  · exact .ite (((((hs.modStep ..).rset (by decide) ..).rset (by decide) ..).rset (by decide) ..).rset (by decide) ..) ((((((hs.modStep ..).rset (by
        decide) ..).rset (by decide) ..).rset (by decide) ..).rset (by decide) ..).count (by decide) ..)

theorem Steady.bindCheck (c : Nat) : Steady K σ (bindCheck c τ) := by
  unfold Machine.bindCheck
  dsimp only
  split
  · exact hs
  · exact .ite ((((((hs.modStep ..).rset (by decide) ..).rset (by decide) ..).raiseBoth ..).twinBack ..).finishWaits ..) hs

theorem Steady.bindFail (c det : Nat) : Steady K σ (bindFail c det τ) := by
  unfold Machine.bindFail
  exact (hs.modStep ..).finishWaits ..

theorem Steady.sendCopies (c : Nat) (p : Plan) : Steady K σ (sendCopies c p τ) := by
  unfold Machine.sendCopies
  dsimp only
  exact .modStep (.toTwin (.foldl (.foldl hs (fun _ _ h1 => h1.toTwin ..) ..) (fun _ _ h1 => h1.toTwin ..) ..) ..) ..

theorem Steady.bindMeet (c : Nat) : Steady K σ (bindMeet c τ) := by
  unfold Machine.bindMeet
  dsimp only
  split
  · exact .ite hs (.ite (hs.bindFail ..) ((hs.sendCopies ..).bindCheck ..))
  · exact hs

theorem Steady.execMirrorBind (h : CmdRef) (twin journalMib : BitVec 16) : Next K σ (execMirrorBind h twin journalMib τ) := by
  unfold Machine.execMirrorBind
  dsimp only
  refine .next ?_
  refine Steady.runCmd hs ?_ ..
  intro _ h1
  refine .ite (h1.badParam ..) ?_
  split
  · exact h1.badParam ..
  · exact .ite (h1.badParam ..) (.ite (h1.badParam ..) (.ite (h1.badParam ..) ((((h1.modStep ..).waitFor ..).toTwin ..).bindMeet ..)))

theorem Steady.execMirrorBindTimeout (ctx : Nat) : Next K σ (execMirrorBindTimeout ctx τ) := by
  unfold Machine.execMirrorBindTimeout
  exact .ite (.next (hs.bindFail ..)) (.next hs)

theorem Steady.execMirrorRelease (h : CmdRef) : Next K σ (execMirrorRelease h τ) := by
  unfold Machine.execMirrorRelease
  exact .next (.runCmd hs (fun _ h1 => (h1.waitFor ..).releaseCheck ..) ..)

theorem Steady.mirOverflow (c : Nat) : Steady K σ (mirOverflow c τ) := by
  unfold Machine.mirOverflow
  exact (hs.rflag (by decide) ..).modStep ..

theorem Steady.mirCheckFail (c : Nat) : Steady K σ (mirCheckFail c τ) := by
  unfold Machine.mirCheckFail
  exact (hs.count1 (by decide) ..).modStep ..

theorem Steady.mirInput (c : Nat) (m : MirrorMsg) : Steady K σ (mirInput c m τ) := by
  unfold Machine.mirInput
  dsimp only
  exact .ite (hs.mirOverflow ..) (((hs.ctxWrite ..).modStep ..).toTwin ..)

theorem Steady.mirGradient (c : Nat) (m : MirrorMsg) : Steady K σ (mirGradient c m τ) := by
  unfold Machine.mirGradient
  dsimp only
  exact .ite (hs.mirCheckFail ..) (.ite (hs.mirOverflow ..) ((hs.ctxWrite ..).modStep ..))

theorem Steady.mirTables (c : Nat) (m : MirrorMsg) : Steady K σ (mirTables c m τ) := by
  unfold Machine.mirTables
  dsimp only
  exact .ite (hs.mirOverflow ..) ((hs.ctxWrite ..).modStep ..)

theorem Steady.mirSlots (c : Nat) (m : MirrorMsg) : Steady K σ (mirSlots c m τ) := by
  unfold Machine.mirSlots
  dsimp only
  split
  · exact hs
  · exact .modStep (.ite (hs.mirOverflow ..) (hs.ctxWrite ..)) ..

theorem Steady.takeBegin (c : Nat) (m : MirrorMsg) : Steady K σ (takeBegin c m τ) := by
  unfold Machine.takeBegin
  dsimp only
  exact (((((hs.modStep ..).rset (by decide) ..).rset (by decide) ..).rset (by decide) ..).rset (by decide) ..).rset (by decide) ..

theorem Steady.takeRec (c : Nat) (m : MirrorMsg) : Steady K σ (takeRec c m τ) := by
  unfold Machine.takeRec
  dsimp only
  exact .setJournal (.ite (hs.modStep ..) hs) ..

theorem Steady.takeEnd (c : Nat) : Steady K σ (takeEnd c τ) := by
  unfold Machine.takeEnd
  exact .ite ((hs.modStep ..).toTwin ..) hs

theorem Steady.execMirrorTransfer (ctx : Nat) (m : MirrorMsg) : Next K σ (execMirrorTransfer ctx m τ) := by
  unfold Machine.execMirrorTransfer
  dsimp only
  refine .ite (.next hs) ?_
  split
  · exact .next ((hs.modStep ..).bindMeet ..)
  · exact .next (hs.ctxWrite ..)
  · exact .next hs.face
  · exact .next (((hs.modStep ..).takeEnd ..).bindCheck ..)
  · exact .next (hs.mirInput ..)
  · exact .next ((hs.modStep ..).finishWaits ..)
  · exact .next (hs.mirGradient ..)
  · exact .next (hs.mirTables ..)
  · exact .next (hs.mirSlots ..)
  · exact .next (hs.modStep ..)
  · exact .next (hs.unbind ..)
  · exact .next (.ite (hs.takeBegin ..) hs)
  · exact .next (hs.ctxWrite ..)
  · exact .next (hs.takeRec ..)
  · exact .next ((hs.ctxWrite ..).modStep ..)
  · exact .next (hs.ctxWrite ..)

theorem Steady.execMirrorRepair (ctx : Nat) (addr : Word64) (data : Option (List Byte)) : Next K σ (execMirrorRepair ctx addr data τ) := by
  unfold Machine.execMirrorRepair
  dsimp only
  refine .ite (.next hs) ?_
  split
  · exact .next ((((hs.modStep ..).count1 (by decide) ..).rflag (by decide) ..).ctxWrite ..)
  · exact .next ((hs.modStep ..).finishWaits ..)

theorem Steady.execStragglerSet (h : CmdRef) (thresholdPct : BitVec 8) (runSteps : BitVec 16) : Next K σ (execStragglerSet h thresholdPct runSteps τ)
    := by
  unfold Machine.execStragglerSet
  exact .next (.runCmd hs (fun _ h1 => ((h1.modStep ..).emit ..).finishOk ..) ..)

/-! ### Links -/

theorem Steady.modPort (p : Nat) (f : Port → Port) : Steady K σ (modPort p f τ) := by
  unfold Machine.modPort
  dsimp only
  exact .ite hs.face hs

theorem Steady.linkState (p cause : Nat) : Steady K σ (linkState p cause τ) := by
  unfold Machine.linkState
  exact hs.raise0 ..

theorem Steady.takeReport (reporter suspect port cause : Nat) : Steady K σ (takeReport reporter suspect port cause τ) := by
  unfold Machine.takeReport
  dsimp only
  exact .ite hs.face (.foldl hs.face (fun _ _ h1 => h1.emit ..) ..)

theorem Steady.suspectPeer (p cause : Nat) : Steady K σ (suspectPeer p cause τ) := by
  unfold Machine.suspectPeer
  dsimp only
  exact .ite hs (.ite (((((hs.modPort ..).rflag (by decide) ..).count1 (by decide) ..).raise0 ..).takeReport ..) (((((hs.modPort ..).rflag (by
      decide) ..).count1 (by decide) ..).raise0 ..).emit ..))

theorem Steady.sendBeacon (p : Nat) : Steady K σ (sendBeacon p τ) := by
  unfold Machine.sendBeacon
  exact .ite (hs.emit ..) hs

theorem Steady.beaconAll : Steady K σ (beaconAll τ) := by
  unfold Machine.beaconAll
  exact .foldl hs (fun _ _ h1 => h1.sendBeacon ..) ..

theorem Steady.execBeaconSend (port : Nat) : Next K σ (execBeaconSend port τ) := by
  unfold Machine.execBeaconSend
  exact .next (hs.sendBeacon ..)

theorem Steady.setOutcome (p o : Nat) : Steady K σ (setOutcome p o τ) := by
  unfold Machine.setOutcome
  dsimp only
  exact .ite hs (.sendBeacon (.raise0 (.ite ((hs.rset (by decide) ..).rflag (by decide) ..) (hs.rset (by decide) ..)) ..) ..)

theorem Steady.matchPort (p : Nat) : Steady K σ (matchPort p τ) := by
  unfold Machine.matchPort
  refine .ite hs ?_
  split
  · exact hs.setOutcome ..
  · exact hs

theorem Steady.peerRegs (p : Nat) (b : Beacon) : Steady K σ (peerRegs p b τ) := by
  unfold Machine.peerRegs
  exact (((((hs.rset (by decide) ..).rset (by decide) ..).rset (by decide) ..).rset (by decide) ..).rset (by decide) ..).rset (by decide) ..

theorem Steady.execIdentityBeacon (port : Nat) (b : Beacon) : Next K σ (execIdentityBeacon port b τ) := by
  unfold Machine.execIdentityBeacon
  dsimp only
  exact .ite (.next hs) (.next (.matchPort (.modPort (.peerRegs (.ite ((hs.suspectPeer ..).rset (by decide) ..) hs) ..) ..) ..))

theorem Steady.execLinkTrained (port w : Nat) : Next K σ (execLinkTrained port w τ) := by
  unfold Machine.execLinkTrained
  dsimp only
  exact .ite (.next hs) (.next ((((((((hs.modPort ..).rset (by decide) ..).rset (by decide) ..).rset (by decide) ..).rset (by decide) ..).rset (by
      decide) ..).linkState ..).sendBeacon ..))

theorem Steady.portDown (p cause : Nat) : Steady K σ (portDown p cause τ) := by
  unfold Machine.portDown
  dsimp only
  exact .ite hs (.ite (((((((hs.modPort ..).rset (by decide) ..).rset (by decide) ..).rset (by decide) ..).rset (by decide) ..).linkState
      ..).suspectPeer ..) ((((((((hs.modPort ..).rset (by decide) ..).rset (by decide) ..).rset (by decide) ..).rset (by decide) ..).linkState
      ..).suspectPeer ..).rset (by decide) ..))

theorem Steady.execLinkDown (port cause : Nat) : Next K σ (execLinkDown port cause τ) := by
  unfold Machine.execLinkDown
  exact .ite (.next (hs.portDown ..)) (.next hs)

theorem Steady.execPortMissing (port : Nat) : Next K σ (execPortMissing port τ) := by
  unfold Machine.execPortMissing
  exact .ite (.next (hs.setOutcome ..)) (.next hs)

theorem Steady.execLinkPortCtl (fn port : Nat) (value : BitVec 32) : Next K σ (execLinkPortCtl fn port value τ) := by
  unfold Machine.execLinkPortCtl
  dsimp only
  exact .ite (.next (hs.dropLatch ..)) (.ite (.next (((hs.dropLatch ..).rset (by decide) ..).rset (by decide) ..)) (.ite (.next (((hs.dropLatch
      ..).rset (by decide) ..).portDown ..)) (.next ((((hs.dropLatch ..).rset (by decide) ..).rset (by decide) ..).linkState ..))))

theorem Steady.laneRecord (p outcome old new : Nat) : Steady K σ (laneRecord p outcome old new τ) := by
  unfold Machine.laneRecord
  exact hs.substDone ..

theorem Steady.execLaneFailing (port lane cause : Nat) : Next K σ (execLaneFailing port lane cause τ) := by
  unfold Machine.execLaneFailing
  dsimp only
  exact .ite (.next hs) (.ite (.next ((hs.modPort ..).portDown ..)) (.ite (.next ((hs.modPort ..).emit ..)) (.ite (.next (hs.modPort ..)) (.next
      ((hs.modPort ..).emit ..)))))

theorem Steady.execSpare (port lane : Nat) : Next K σ (execSpare port lane τ) := by
  unfold Machine.execSpare
  dsimp only
  exact .ite (.next hs) (.next (((((hs.useFree.modPort ..).rflag (by decide) ..).rset (by decide) ..).linkState ..).laneRecord ..))

theorem Steady.execWidth (port w : Nat) : Next K σ (execWidth port w τ) := by
  unfold Machine.execWidth
  dsimp only
  exact .ite (.next hs) (.next (.laneRecord (.linkState (.ite ((((hs.useFree.modPort ..).rset (by decide) ..).rset (by decide) ..).rflag (by decide)
      ..) (((hs.useFree.modPort ..).rset (by decide) ..).rset (by decide) ..)) ..) ..))

theorem Steady.execLaneRetrain (port lane : Nat) (clean : Bool) : Next K σ (execLaneRetrain port lane clean τ) := by
  unfold Machine.execLaneRetrain
  dsimp only
  exact .ite (.next hs) (.ite (.next (hs.modPort ..)) (.ite (.next hs) (.ite (.next ((((hs.modPort ..).rset (by decide) ..).linkState ..).laneRecord
      ..)) (.ite (.next ((hs.modPort ..).emit ..)) (.next (hs.modPort ..))))))

theorem Steady.execBridgeLaneSpare (bridge lane : Nat) : Next K σ (execBridgeLaneSpare bridge lane τ) := by
  unfold Machine.execBridgeLaneSpare
  dsimp only
  exact .ite (.next hs) (.ite (.next (hs.face.substDone ..)) (.next (hs.face.substDone ..)))

theorem Steady.execBridgeLaneRetrain (bridge lane : Nat) (clean : Bool) : Next K σ (execBridgeLaneRetrain bridge lane clean τ) := by
  unfold Machine.execBridgeLaneRetrain
  dsimp only
  exact .ite (.next hs) (.ite (.next ((hs.face.substRec ..).refreshPools)) (.ite (.next ((hs.face.substRec ..).refreshPools)) (.next hs)))

theorem Steady.sendVc (p vc n : Nat) : Steady K σ (sendVc p vc n τ) := by
  unfold Machine.sendVc
  dsimp only
  split
  · exact hs
  · exact .ite hs (.ite (((hs.modPort ..).activity (by decide) ..).emit ..) ((hs.modPort ..).activity (by decide) ..))

theorem Steady.sendRound (p : Nat) : Steady K σ (sendRound p τ) := by
  unfold Machine.sendRound
  exact .foldl hs (fun _ _ h1 => .foldl h1 (fun _ _ h2 => h2.sendVc ..) ..) ..

theorem Steady.drainPort (p : Nat) : Steady K σ (drainPort p τ) := by
  unfold Machine.drainPort
  dsimp only
  exact .foldl (.foldl hs (fun _ _ h1 => h1.sendVc ..) ..) (fun _ _ h1 => h1.sendRound ..) ..

theorem Steady.dropOther (ingress : Nat) : Steady K σ (dropOther ingress τ) := by
  unfold Machine.dropOther
  exact .ite (hs.count1 (by decide) ..) hs

theorem Steady.sliceDrop (p slice src n : Nat) : Steady K σ (sliceDrop p slice src n τ) := by
  unfold Machine.sliceDrop
  dsimp only
  exact .ite (((hs.rflag (by decide) ..).count (by decide) ..).raise0 ..) ((hs.rflag (by decide) ..).count (by decide) ..)

theorem Steady.routePacket (ingress vc : Nat) (h : RouteHdr) (payload : List Byte) : Steady K σ (routePacket ingress vc h payload τ) := by
  unfold Machine.routePacket
  dsimp only
  exact .ite (.emit (.ite (hs.wakeUp ..) hs) ..) (.ite (hs.dropOther ..) (.ite (.ite (hs.dropOther ..) (hs.holdCtx ..)) (.ite hs.face ((hs.modPort
      ..).drainPort ..))))

theorem Steady.retryOrdered : Steady K σ (retryOrdered τ) := by
  unfold Machine.retryOrdered
  dsimp only
  exact .foldl hs.face (fun _ _ h1 => h1.routePacket ..) ..

theorem Steady.execPacketForward (port vc : Nat) (h : RouteHdr) (payload : List Byte) : Next K σ (execPacketForward port vc h payload τ) := by
  unfold Machine.execPacketForward
  exact .ite (.ite (.next hs) (.ite (.next (hs.dropOther ..)) (.ite (.next (hs.sliceDrop ..)) (.next (hs.routePacket ..))))) (.ite (.next hs) (.next
      (hs.routePacket ..)))

theorem Steady.sendNak (p : Nat) : Steady K σ (sendNak p τ) := by
  unfold Machine.sendNak
  dsimp only
  exact .ite hs ((hs.modPort ..).emit ..)

theorem Steady.takeAck (p : Nat) (hdr : Nat) : Steady K σ (takeAck p hdr τ) := by
  unfold Machine.takeAck
  dsimp only
  exact .ite (.portDown (.ite (((hs.modPort ..).count1 (by decide) ..).emit ..) (hs.modPort ..)) ..) (.ite (((hs.modPort ..).count1 (by decide)
      ..).emit ..) (hs.modPort ..))

theorem Steady.takeCredit (p : Nat) (hdr : Nat) : Steady K σ (takeCredit p hdr τ) := by
  unfold Machine.takeCredit
  dsimp only
  exact hs.modPort ..

theorem Steady.takeFlit (p hdr : Nat) : Steady K σ (takeFlit p hdr τ) := by
  unfold Machine.takeFlit
  dsimp only
  exact .ite ((hs.takeAck ..).takeCredit ..) (.retryOrdered (.drainPort (.ite ((hs.takeAck ..).takeCredit ..) (.ite (((hs.takeAck ..).takeCredit
      ..).sendNak ..) (.ite (((((hs.takeAck ..).takeCredit ..).modPort ..).emit ..).dropOther ..) ((((hs.takeAck ..).takeCredit ..).modPort ..).emit
      ..)))) ..))

theorem Steady.execFlitReceive (port : Nat) (flit : List Byte) (corrected : Nat) (uncorr : Bool) : Next K σ (execFlitReceive port flit corrected
    uncorr τ) := by
  unfold Machine.execFlitReceive
  dsimp only
  exact .ite (.next hs) (.ite (.next (.sendNak (.healthLog (.count1 (.ite hs (hs.count (by decide) ..)) (by decide) ..) ..) ..)) (.ite (.next
      (.sendNak (.ite hs (hs.count (by decide) ..)) ..)) (.next (.takeFlit (.ite hs (hs.count (by decide) ..)) ..))))

theorem Steady.usePlan (b : List Byte) : Steady K σ (usePlan b τ) := by
  unfold Machine.usePlan
  dsimp only
  exact .beaconAll (.foldl (.foldl ((((hs.rset (by decide) ..).rset (by decide) ..).rset (by decide) ..).face) (fun _ _ h1 => h1.modPort ..) ..) (fun
      _ _ h1 => .ite (h1.matchPort ..) (.ite (h1.rset (by decide) ..) h1)) ..)

theorem Steady.takePlan (b : List Byte) : Steady K σ (takePlan b τ).1 := by
  unfold Machine.takePlan
  split
  · dsimp only
    exact hs
  · split
    · dsimp only
      exact hs.usePlan ..
    · dsimp only
      exact hs

theorem Steady.execPlanLoad (h : CmdRef) (bytes : BitVec 32) (plan : Word64) : Next K σ (execPlanLoad h bytes plan τ) := by
  unfold Machine.execPlanLoad
  dsimp only
  refine .next ?_
  refine Steady.runPriv hs ?_ ..
  intro _ h1
  refine .ite (h1.badParam ..) ?_
  split
  · exact ((h1.cmdRead ..).takePlan ..).badParam ..
  · exact ((h1.cmdRead ..).takePlan ..).finishOk ..

theorem Steady.formSlice (id : Nat) (d : SliceDef) : Steady K σ (formSlice id d τ).1 := by
  unfold Machine.formSlice
  dsimp only
  exact .ite hs.face (hs.face.raise0 ..)

theorem Steady.takeSlice (slice : Nat) (b : List Byte) : Steady K σ (takeSlice slice b τ).1 := by
  unfold Machine.takeSlice
  dsimp only
  split
  · dsimp only
    exact hs
  · split
    · dsimp only
      exact hs.face
    · split
      · dsimp only
        exact hs
      · dsimp only
        exact hs.formSlice ..

theorem Steady.execSliceDefine (h : CmdRef) (slice : BitVec 16) (definition : Word64) : Next K σ (execSliceDefine h slice definition τ) := by
  unfold Machine.execSliceDefine
  dsimp only
  refine .next ?_
  refine Steady.runPriv hs ?_ ..
  intro _ h1
  split
  · exact ((h1.cmdRead ..).takeSlice ..).finish ..
  · exact ((h1.cmdRead ..).takeSlice ..).badParam ..

theorem Steady.reformSlices : Steady K σ (reformSlices τ) := by
  unfold Machine.reformSlices
  dsimp only
  exact .foldl hs (fun _ _ h1 => .ite h1.face h1) ..

theorem Steady.revoke (p slice : Nat) : Steady K σ (revoke p slice τ) := by
  unfold Machine.revoke
  dsimp only
  exact .ite hs.face ((hs.face.modPort ..).sliceDrop ..)

theorem Steady.revokeAll (t : List (List Byte)) : Steady K σ (revokeAll t τ) := by
  unfold Machine.revokeAll
  exact .foldl hs (fun _ _ h1 => .ite (h1.revoke ..) (.ite (.foldl h1 (fun _ _ h2 => h2.revoke ..) ..) h1)) ..

theorem Steady.grant (w : RouteWait) : Steady K σ (grant w τ) := by
  unfold Machine.grant
  dsimp only
  exact hs.face.finishAt ..

theorem Steady.foldl_fst {α β : Type} {x : β} {f : State × β → α → State × β} (hf : ∀ r a, Steady K σ r.1 → Steady K σ (f r a).1) (l : List α) :
    Steady K σ (l.foldl f (τ, x)).1 :=
  List.foldlRecOn _ _ (motive := fun r => Steady K σ r.1) hs fun r hr a _ => hf r a hr

theorem Steady.grantWaiting : Steady K σ (grantWaiting τ) := by
  unfold Machine.grantWaiting
  refine (hs.foldl_fst (fun r w hr => ?_) _).face
  split
  · exact hr.grant ..
  · exact hr

theorem Steady.takeRoutes (q seq : Nat) (t : List (List Byte)) : Steady K σ (takeRoutes q seq t τ) := by
  unfold Machine.takeRoutes
  dsimp only
  exact ((hs.revokeAll ..).face).grantWaiting

theorem Steady.execRouteWrite (h : CmdRef) (count : BitVec 32) (table : Word64) : Next K σ (execRouteWrite h count table τ) := by
  unfold Machine.execRouteWrite
  dsimp only
  refine .next ?_
  refine Steady.runPriv hs ?_ ..
  intro _ h1
  split
  · exact (h1.cmdRead ..).badParam ..
  · exact ((h1.cmdRead ..).waitFor ..).takeRoutes ..

end

end Sys2Proof.Machine
end

section
/-! PROOFS. What every function of the model keeps (`Steady`), file by file: Convert, Matrix, Words, Scalar, Streams, Octave, Teardown, Members,
      Harvest, Cohorts. -/

/- The lemmas are many and short: elaborated at once, each would hold a thread of its own while it waits for the ones before. -/
set_option Elab.async false

namespace Sys2Proof.Machine

section
variable {K : Nat} {σ τ : State} (hs : Steady K σ τ)
include hs

/-! ### Convert -/

theorem Steady.cvtRun (i : Instr) (e : Eng) (f : FmtC) (ts : Bool) : Steady K σ (cvtRun i e f ts τ) := by
  unfold Machine.cvtRun
  dsimp only
  refine Steady.engRun hs ?_ ..
  intro _ _
  split
  · exact .ite (fun _ _ h2 => h2) (by trivial)
  · trivial

theorem Steady.execCvt (e : Eng) (f : FmtC) : Next K σ (execCvt e f τ) := by
  unfold Machine.execCvt
  exact .next (hs.cvtRun ..)

theorem Steady.execCvtTs (e : Eng) (f : FmtC) : Next K σ (execCvtTs e f τ) := by
  unfold Machine.execCvtTs
  exact .next (hs.cvtRun ..)

theorem Steady.execCvtBp (e : Eng) (f : FmtC) : Next K σ (execCvtBp e f τ) := by
  unfold Machine.execCvtBp
  dsimp only
  refine .next ?_
  refine Steady.engRun hs ?_ ..
  intro _ _
  split
  · exact .ite (fun _ _ h2 => h2) (by trivial)
  · trivial

theorem Steady.execCvtBu (e : Eng) (f : FmtC) : Next K σ (execCvtBu e f τ) := by
  unfold Machine.execCvtBu
  dsimp only
  refine .next ?_
  refine Steady.engRun hs ?_ ..
  intro _ _
  split
  · exact .ite (fun _ _ h2 => h2) (by trivial)
  · trivial

/-! ### Matrix -/

theorem Steady.setCore (e : Eng) (c : Nat) (x : Core) : Steady K σ (setCore e c x τ) := by
  unfold Machine.setCore
  exact hs.face

theorem Steady.dropShadow (e : Eng) : Steady K σ (dropShadow e τ) := by
  unfold Machine.dropShadow
  dsimp only
  refine Steady.dropEngines ?_ ..
  refine Steady.face ?_
  split
  · exact hs.setEng ..
  · exact hs

theorem Steady.detect (e : Eng) (c checks fmts block : Nat) (cond : Cond) : Steady K σ (detect e c checks fmts block cond τ) := by
  unfold Machine.detect
  dsimp only
  split
  · exact hs
  · exact .ite (((((((hs.bumpDets ..).raiseBoth ..).almDetection ..).count1 (by decide) ..).rflag (by decide) ..).corrDetect ..).dropShadow ..)
        (.markBad (.ite (.healthLog (.ite ((((((hs.bumpDets ..).raiseBoth ..).almDetection ..).count1 (by decide) ..).rflag (by decide)
        ..).corrDetect ..) (((((((hs.bumpDets ..).raiseBoth ..).almDetection ..).count1 (by decide) ..).rflag (by decide) ..).corrDetect ..).askSubst
        ..)) ..) (.ite ((((((hs.bumpDets ..).raiseBoth ..).almDetection ..).count1 (by decide) ..).rflag (by decide) ..).corrDetect ..)
        (((((((hs.bumpDets ..).raiseBoth ..).almDetection ..).count1 (by decide) ..).rflag (by decide) ..).corrDetect ..).askSubst ..))) ..)

theorem Steady.runStore (e : Eng) (c : Nat) (acc : Bool) (addr : Nat) : Steady K σ (runStore e c acc addr τ) := by
  unfold Machine.runStore
  dsimp only
  exact .ite (.markBad (.ite ((((hs.clWrite ..).setCore ..).useFree).detect ..) (hs.clWrite ..)) ..) (.ite ((((hs.clWrite ..).setCore
      ..).useFree).detect ..) (hs.clWrite ..))

theorem Steady.runLoad (e : Eng) (c : Nat) (acc : Bool) (addr : Nat) : Steady K σ (runLoad e c acc addr τ) := by
  unfold Machine.runLoad
  dsimp only
  exact (hs.setCore ..).clReport ..

theorem Steady.runCsload (e : Eng) (c addr len dst : Nat) : Steady K σ (runCsload e c addr len dst τ) := by
  unfold Machine.runCsload
  exact (hs.setCore ..).clReport ..

theorem Steady.drainCore (e : Eng) (c n : Nat) : Steady K σ (drainCore e c n τ) := by
  induction n generalizing τ with
  | zero => exact hs
  | succ n ih =>
    unfold Machine.drainCore
    dsimp only
    split
    · exact ih ((hs.setCore ..).runStore ..)
    · exact ih ((hs.setCore ..).runLoad ..)
    · exact ih ((hs.setCore ..).runCsload ..)
    · exact hs

theorem Steady.mmaDone (e : Eng) (c : Nat) (d : Mma) (q : List CoreOp) (acc : List AccFault) (dup : List DupFault) (ups : List (Nat × Word32)) (cond
    : Cond) : Steady K σ (mmaDone e c d q acc dup ups cond τ) := by
  unfold Machine.mmaDone
  dsimp only
  exact .ite (.drainCore (.ite (.foldl (hs.setCore ..) (fun _ _ h1 => h1.clReport ..) ..) (.detect (.foldl (hs.setCore ..) (fun _ _ h1 => h1.clReport
      ..) ..) ..)) ..) (.ite (.foldl (hs.setCore ..) (fun _ _ h1 => h1.clReport ..) ..) (.detect (.foldl (hs.setCore ..) (fun _ _ h1 => h1.clReport
      ..) ..) ..))

theorem Steady.issueOps (e : Eng) (cs : List Nat) (op : Nat → CoreOp) : Steady K σ (issueOps e cs op τ) := by
  unfold Machine.issueOps
  exact hs.foldl (fun _ _ h => (h.setCore ..).drainCore ..) _

omit hs in
theorem EStep.Keeps.mtxIssue (x : Engine) (s : State) (e : Eng) (cs : List Nat) (op : Nat → CoreOp) : (mtxIssue x s e cs op).Keeps K := by
  unfold Machine.mtxIssue
  exact .ite (fun _ _ h => h.issueOps ..) (fun _ _ h => h)

theorem Steady.execMtxMma (e : Eng) (f : FmtM) : Next K σ (execMtxMma e f τ) := by
  unfold Machine.execMtxMma
  refine .next (hs.engRun (fun x u => ?_) ..)
  dsimp only
  refine .ite trivial (.ite trivial ?_)
  have h := EStep.Keeps.mtxIssue (K := K) x u e (mtxCores x f) fun c => .mma (mkMma (clPeek u e (mtxBase x f + f.imm.toNat) 64) c (f.acc == 1)
    (f.accum == 1) (rget u .cdieMtxCheckCtl_lanesOff e.die == 1))
  split
  · next y post hy =>
    rw [hy] at h
    exact fun _ _ ht => (h _ _ ht).clReport ..
  · exact h

theorem Steady.mtxTile (i : Instr) (e : Eng) (f : FmtM) (op : Nat → CoreOp) : Steady K σ (mtxTile i e f op τ) := by
  unfold Machine.mtxTile
  refine hs.engRun (fun _ _ => ?_) ..
  exact .ite trivial (.mtxIssue ..)

theorem Steady.execMtxStore (e : Eng) (f : FmtM) : Next K σ (execMtxStore e f τ) := by
  unfold Machine.execMtxStore
  exact .next (hs.mtxTile ..)

theorem Steady.execMtxLoad (e : Eng) (f : FmtM) : Next K σ (execMtxLoad e f τ) := by
  unfold Machine.execMtxLoad
  exact .next (hs.mtxTile ..)

theorem Steady.execMtxCsload (e : Eng) (f : FmtM) : Next K σ (execMtxCsload e f τ) := by
  unfold Machine.execMtxCsload
  refine .next (hs.engRun (fun _ _ => ?_) ..)
  exact .ite trivial (.mtxIssue ..)

theorem Steady.execMtxWait (e : Eng) (f : FmtM) : Next K σ (execMtxWait e f τ) := by
  unfold Machine.execMtxWait
  dsimp only
  exact .next (.engRun hs (fun _ _ => .ite (by trivial) (.ite (fun _ _ h2 => h2) (fun _ _ h2 => h2))) ..)

theorem Steady.execCdieMtxCheckCtl (fn die : Nat) (value : BitVec 32) : Next K σ (execCdieMtxCheckCtl fn die value τ) := by
  unfold Machine.execCdieMtxCheckCtl
  dsimp only
  exact .next (.ite (hs.dropLatch ..) (.raise0 (.ite (((hs.dropLatch ..).rset (by decide) ..).rflag (by decide) ..) ((hs.dropLatch ..).rset (by
      decide) ..)) ..))

/-! ### Scalar -/

theorem Steady.saluRun (i : Instr) (e : Eng) (f : FmtS) (op : Word64 → Word64 → Word64) : Steady K σ (saluRun i e f op τ) := by
  unfold Machine.saluRun
  exact hs.engPure ..

theorem Steady.saluiRun (i : Instr) (e : Eng) (f : FmtSI) (op : Word64 → Word64 → Word64) : Steady K σ (saluiRun i e f op τ) := by
  unfold Machine.saluiRun
  exact hs.engPure ..

theorem Steady.execAdd (e : Eng) (f : FmtS) : Next K σ (execAdd e f τ) := by
  unfold Machine.execAdd
  exact .next (hs.saluRun ..)

theorem Steady.execSub (e : Eng) (f : FmtS) : Next K σ (execSub e f τ) := by
  unfold Machine.execSub
  exact .next (hs.saluRun ..)

theorem Steady.execMul (e : Eng) (f : FmtS) : Next K σ (execMul e f τ) := by
  unfold Machine.execMul
  exact .next (hs.saluRun ..)

theorem Steady.execAnd (e : Eng) (f : FmtS) : Next K σ (execAnd e f τ) := by
  unfold Machine.execAnd
  exact .next (hs.saluRun ..)

theorem Steady.execOr (e : Eng) (f : FmtS) : Next K σ (execOr e f τ) := by
  unfold Machine.execOr
  exact .next (hs.saluRun ..)

theorem Steady.execXor (e : Eng) (f : FmtS) : Next K σ (execXor e f τ) := by
  unfold Machine.execXor
  exact .next (hs.saluRun ..)

theorem Steady.execShl (e : Eng) (f : FmtS) : Next K σ (execShl e f τ) := by
  unfold Machine.execShl
  exact .next (hs.saluRun ..)

theorem Steady.execShr (e : Eng) (f : FmtS) : Next K σ (execShr e f τ) := by
  unfold Machine.execShr
  exact .next (hs.saluRun ..)

theorem Steady.execSar (e : Eng) (f : FmtS) : Next K σ (execSar e f τ) := by
  unfold Machine.execSar
  exact .next (hs.saluRun ..)

theorem Steady.execSlt (e : Eng) (f : FmtS) : Next K σ (execSlt e f τ) := by
  unfold Machine.execSlt
  exact .next (hs.saluRun ..)

theorem Steady.execSltu (e : Eng) (f : FmtS) : Next K σ (execSltu e f τ) := by
  unfold Machine.execSltu
  exact .next (hs.saluRun ..)

theorem Steady.execMin (e : Eng) (f : FmtS) : Next K σ (execMin e f τ) := by
  unfold Machine.execMin
  exact .next (hs.saluRun ..)

theorem Steady.execMax (e : Eng) (f : FmtS) : Next K σ (execMax e f τ) := by
  unfold Machine.execMax
  exact .next (hs.saluRun ..)

theorem Steady.execMinu (e : Eng) (f : FmtS) : Next K σ (execMinu e f τ) := by
  unfold Machine.execMinu
  exact .next (hs.saluRun ..)

theorem Steady.execMaxu (e : Eng) (f : FmtS) : Next K σ (execMaxu e f τ) := by
  unfold Machine.execMaxu
  exact .next (hs.saluRun ..)

theorem Steady.execAddi (e : Eng) (f : FmtSI) : Next K σ (execAddi e f τ) := by
  unfold Machine.execAddi
  exact .next (hs.saluiRun ..)

theorem Steady.execMuli (e : Eng) (f : FmtSI) : Next K σ (execMuli e f τ) := by
  unfold Machine.execMuli
  exact .next (hs.saluiRun ..)

theorem Steady.execAndi (e : Eng) (f : FmtSI) : Next K σ (execAndi e f τ) := by
  unfold Machine.execAndi
  exact .next (hs.saluiRun ..)

theorem Steady.execOri (e : Eng) (f : FmtSI) : Next K σ (execOri e f τ) := by
  unfold Machine.execOri
  exact .next (hs.saluiRun ..)

theorem Steady.execXori (e : Eng) (f : FmtSI) : Next K σ (execXori e f τ) := by
  unfold Machine.execXori
  exact .next (hs.saluiRun ..)

theorem Steady.execShli (e : Eng) (f : FmtSI) : Next K σ (execShli e f τ) := by
  unfold Machine.execShli
  exact .next (hs.saluiRun ..)

theorem Steady.execShri (e : Eng) (f : FmtSI) : Next K σ (execShri e f τ) := by
  unfold Machine.execShri
  exact .next (hs.saluiRun ..)

theorem Steady.execSari (e : Eng) (f : FmtSI) : Next K σ (execSari e f τ) := by
  unfold Machine.execSari
  exact .next (hs.saluiRun ..)

theorem Steady.execSlti (e : Eng) (f : FmtSI) : Next K σ (execSlti e f τ) := by
  unfold Machine.execSlti
  exact .next (hs.saluiRun ..)

theorem Steady.execSltui (e : Eng) (f : FmtSI) : Next K σ (execSltui e f τ) := by
  unfold Machine.execSltui
  exact .next (hs.saluiRun ..)

theorem Steady.execLi (e : Eng) (f : FmtSI) : Next K σ (execLi e f τ) := by
  unfold Machine.execLi
  exact .next (hs.engPure ..)

theorem Steady.execLui (e : Eng) (f : FmtSI) : Next K σ (execLui e f τ) := by
  unfold Machine.execLui
  exact .next (hs.engPure ..)

theorem Steady.execSysNop (e : Eng) (f : FmtSI) : Next K σ (execSysNop e f τ) := by
  unfold Machine.execSysNop
  exact .next (hs.engPure ..)

theorem Steady.execCsrr (e : Eng) (f : FmtSI) : Next K σ (execCsrr e f τ) := by
  unfold Machine.execCsrr
  refine .next (hs.engRun (fun x u => ?_) ..)
  split
  · refine .ite (fun _ _ h => ?_) trivial
    split
    · exact h.tickCount _
    · exact h
  · trivial

theorem Steady.execCsrw (e : Eng) (f : FmtSI) : Next K σ (execCsrw e f τ) := by
  unfold Machine.execCsrw
  exact .next (hs.engPure ..)

theorem Steady.execSld (e : Eng) (f : FmtSM) : Next K σ (execSld e f τ) := by
  unfold Machine.execSld
  dsimp only
  refine .next ?_
  refine Steady.engRun hs ?_ ..
  intro _ _
  refine .ite (by trivial) ?_
  refine .ite (.ite (by trivial) (fun _ _ h2 => h2.clReport ..)) ?_
  refine .ite (.ite (by trivial) (fun _ _ h2 => h2)) ?_
  refine .ite ?_ (by trivial)
  refine .ite (by trivial) ?_
  split
  · split
    · exact fun _ _ h2 => h2
    · exact .ite (fun _ _ h2 => h2) (fun _ _ h2 => h2.sendRemote ..)
  · exact fun _ _ h2 => h2.useFree.trayReport ..

theorem Steady.execSst (e : Eng) (f : FmtSM) : Next K σ (execSst e f τ) := by
  unfold Machine.execSst
  refine .next (hs.engRun (fun x u => ?_) ..)
  dsimp only
  refine .ite trivial (.ite (.ite trivial fun _ _ h => h.clWrite ..) (.ite (.ite trivial ?_) trivial))
  split
  · exact fun _ _ h => h
  · split
    · exact fun _ _ h => h.sendRemote ..
    · exact fun _ _ h => h.ctxWrite ..

theorem Steady.brRun (i : Instr) (e : Eng) (f : FmtB) (cond : Word64 → Word64 → Bool) : Steady K σ (brRun i e f cond τ) := by
  unfold Machine.brRun
  dsimp only
  exact .engRun hs (fun _ _ => .ite (by trivial) (.ite (by trivial) (fun _ _ h2 => h2))) ..

theorem Steady.execBeq (e : Eng) (f : FmtB) : Next K σ (execBeq e f τ) := by
  unfold Machine.execBeq
  exact .next (hs.brRun ..)

theorem Steady.execBne (e : Eng) (f : FmtB) : Next K σ (execBne e f τ) := by
  unfold Machine.execBne
  exact .next (hs.brRun ..)

theorem Steady.execBlt (e : Eng) (f : FmtB) : Next K σ (execBlt e f τ) := by
  unfold Machine.execBlt
  exact .next (hs.brRun ..)

theorem Steady.execBge (e : Eng) (f : FmtB) : Next K σ (execBge e f τ) := by
  unfold Machine.execBge
  exact .next (hs.brRun ..)

theorem Steady.execBltu (e : Eng) (f : FmtB) : Next K σ (execBltu e f τ) := by
  unfold Machine.execBltu
  exact .next (hs.brRun ..)

theorem Steady.execBgeu (e : Eng) (f : FmtB) : Next K σ (execBgeu e f τ) := by
  unfold Machine.execBgeu
  exact .next (hs.brRun ..)

theorem Steady.execJmp (e : Eng) (f : FmtB) : Next K σ (execJmp e f τ) := by
  unfold Machine.execJmp
  exact .next (.ite (hs.brRun ..) (.engRun hs (fun _ _ => (by trivial)) ..))

theorem Steady.execIllegalInstruction (e : Eng) (word : Word64) : Next K σ (execIllegalInstruction e word τ) := by
  unfold Machine.execIllegalInstruction
  exact .next (.ite hs (.engRunAs hs (fun _ _ => (by trivial)) ..))

/-! ### Streams -/

theorem Steady.execXin (e : Eng) (f : FmtX) : Next K σ (execXin e f τ) := by
  unfold Machine.execXin
  dsimp only
  exact .next (.engRun hs (fun _ _ => .ite (by trivial) (.ite (fun _ _ h2 => h2) (fun _ _ h2 => .foldl h2 (fun _ _ h3 => h3.sendRemote ..) ..))) ..)

theorem Steady.execXout (e : Eng) (f : FmtX) : Next K σ (execXout e f τ) := by
  unfold Machine.execXout
  dsimp only
  exact .next (.engRun hs (fun _ _ => .ite (by trivial) (.ite (fun _ _ h2 => h2) (fun _ _ h2 => h2))) ..)

theorem Steady.execXwait (e : Eng) (f : FmtX) : Next K σ (execXwait e f τ) := by
  unfold Machine.execXwait
  exact .next (.engRun hs (fun _ _ => .ite (by trivial) (.ite (fun _ _ h2 => h2) (fun _ _ h2 => h2))) ..)

theorem Steady.xoutLine (e : Eng) (c loc tray : Nat) : Steady K σ (xoutLine e c loc tray τ) := by
  unfold Machine.xoutLine
  exact .ite (hs.poisonLine ..) (hs.ctxWrite ..)

theorem Steady.xferDone (e : Eng) (x : Engine) (t : Xfer) : Steady K σ (xferDone e x t τ) := by
  unfold Machine.xferDone
  dsimp only
  exact .ite (.clReport (.foldl hs (fun _ _ h1 => h1.xoutLine ..) ..) ..) (((hs.clWrite ..).useFree).trayReport ..)

theorem Steady.grantOne (n i c : Nat) : Steady K σ (grantOne n i c τ) := by
  unfold Machine.grantOne
  dsimp only
  split
  · exact hs
  · split
    · exact hs
    · exact .ite hs ((hs.setRun ..).useFree)

theorem Steady.askCredits (n i p : Nat) (dests : List Nat) : Steady K σ (askCredits n i p dests τ) := by
  unfold Machine.askCredits
  dsimp only
  exact .foldl (hs.modRun ..) (fun _ _ h1 => h1.grantOne ..) ..

theorem Steady.sendTile (n i p : Nat) (t : Tile) : Steady K σ (sendTile n i p t τ) := by
  unfold Machine.sendTile
  dsimp only
  split
  · exact hs
  · split
    · exact (hs.setRun ..).progress ..
    · exact hs

omit hs in
theorem EStep.Keeps.recvRun (e : Eng) (x : Engine) (s : State) (sd : BitVec 5) (es : List (Edge × Nat)) : (recvRun e x s sd es).Keeps K := by
  unfold Machine.recvRun
  split
  · exact fun _ _ h => h
  · dsimp only
    split
    · split
      · exact fun _ _ h => h.modRun ..
      · exact fun _ _ h => h
    · exact .ite (fun _ _ h => h) (fun _ _ h => h)

theorem Steady.recvOne (e : Eng) (f : FmtX) : Steady K σ (recvOne e f τ) := by
  unfold Machine.recvOne
  refine hs.engRun (fun x u => ?_) ..
  refine .ite trivial ?_
  split
  · trivial
  · exact .recvRun ..

theorem Steady.recvAny (e : Eng) (f : FmtX) : Steady K σ (recvAny e f τ) := by
  unfold Machine.recvAny
  refine hs.engRun (fun _ _ => ?_) ..
  exact .ite trivial (.recvRun ..)

theorem Steady.execTrecv (e : Eng) (f : FmtX) : Next K σ (execTrecv e f τ) := by
  unfold Machine.execTrecv
  exact .next (hs.recvOne ..)

theorem Steady.execTrecva (e : Eng) (f : FmtX) : Next K σ (execTrecva e f τ) := by
  unfold Machine.execTrecva
  exact .next (hs.recvAny ..)

theorem Steady.wakeRecv (n : Nat) : Steady K σ (wakeRecv n τ) := by
  unfold Machine.wakeRecv
  refine Steady.foldl hs ?_ ..
  intro _ _ h1
  refine .ite h1 ?_
  split
  · exact h1.recvOne ..
  · exact h1.recvAny ..
  · exact h1

theorem Steady.execTrel (e : Eng) (f : FmtX) : Next K σ (execTrel e f τ) := by
  unfold Machine.execTrel
  dsimp only
  refine .next ?_
  refine Steady.engRun hs ?_ ..
  intro _ _
  refine .ite (by trivial) ?_
  split
  · trivial
  · exact fun _ _ h2 => h2.modRun ..

omit hs in
theorem EStep.Keeps.sendRun (e : Eng) (x : Engine) (s : State) (where_ : Nat) (ed : Edge) (i src len sel : Nat) (close : Engine → Engine)
    {after : State → State} (ha : ∀ σ τ, Steady K σ τ → Steady K σ (after τ)) : (sendRun e x s where_ ed i src len sel close after).Keeps K := by
  unfold Machine.sendRun
  dsimp only
  split
  · trivial
  · refine .ite (fun _ _ h => h.clReport ..) ?_
    split
    · exact .ite (fun _ _ h => ha _ _ ((h.sendTile ..).clReport ..)) (fun _ _ h => h)
    · exact .ite (fun _ _ h => ha _ _ (((h.askCredits ..).sendTile ..).clReport ..)) (fun _ _ h => h.askCredits ..)

theorem Steady.execTsend (e : Eng) (f : FmtX) : Next K σ (execTsend e f τ) := by
  unfold Machine.execTsend
  refine .next (hs.engRun (fun x u => ?_) ..)
  refine .ite trivial ?_
  split
  · trivial
  · exact .ite trivial (.ite trivial (.sendRun _ _ _ _ _ _ _ _ _ _ fun _ _ h => h))

theorem Steady.closeEdge (n i k : Nat) : Steady K σ (closeEdge n i k τ) := by
  unfold Machine.closeEdge
  dsimp only
  split
  · exact hs
  · split
    · exact hs
    · exact (hs.setRun ..).progress ..

theorem Steady.doClose (e : Eng) (x : Engine) (l : List Nat) : Steady K σ (doClose e x l τ) := by
  unfold Machine.doClose
  refine .ite hs ?_
  refine Steady.wakeRecv ?_ ..
  refine Steady.foldl hs ?_ ..
  intro _ _ h1
  split
  · exact h1.closeEdge ..
  · exact h1

theorem Steady.execTrsend (e : Eng) (f : FmtX) : Next K σ (execTrsend e f τ) := by
  unfold Machine.execTrsend
  refine .next (hs.engRun (fun x u => ?_) ..)
  refine .ite trivial ?_
  split
  · trivial
  · refine .ite trivial (.ite trivial (.ite (fun _ _ h => Steady.doClose (.ite h (h.modRun ..)) ..) (.sendRun _ _ _ _ _ _ _ _ _ _ fun _ _ h => ?_)))
    exact h.doClose ..

theorem Steady.execTclose (e : Eng) (f : FmtX) : Next K σ (execTclose e f τ) := by
  unfold Machine.execTclose
  dsimp only
  exact .next (.engRun hs (fun _ _ => .ite (by trivial) (.ite (by trivial) (fun _ _ h2 => h2.doClose ..))) ..)

theorem Steady.endRun_ (e : Eng) (f : FmtSI) : Steady K σ (endRun_ e f τ) := by
  unfold Machine.endRun_
  dsimp only
  exact .engRun hs (fun _ _ => .ite (by trivial) (.ite (fun _ _ h2 => h2) (.ite (by trivial) (by trivial)))) ..

theorem Steady.endKernelRun (e : Eng) (f : FmtSI) : Steady K σ (endKernelRun e f τ) := by
  unfold Machine.endKernelRun
  dsimp only
  split
  · exact .ite ((hs.endRun_ ..).doClose ..) (hs.endRun_ ..)
  · exact hs.endRun_ ..

theorem Steady.execEndKernel (e : Eng) (f : FmtSI) : Next K σ (execEndKernel e f τ) := by
  unfold Machine.execEndKernel
  exact .next (hs.endKernelRun ..)

/-! ### Octave -/

omit hs in
theorem Next.nextOf {o : Out} (h : Next K σ o) (u : State) : Steady K σ (nextOf u o) := by
  obtain ⟨t, rfl, ht⟩ := h
  exact ht

theorem Steady.runStalled (i : Instr) : Steady K σ (runStalled i τ) := by
  unfold Machine.runStalled
  split
  · exact (hs.execMtxMma ..).nextOf ..
  · exact (hs.execMtxStore ..).nextOf ..
  · exact (hs.execMtxLoad ..).nextOf ..
  · exact (hs.execMtxCsload ..).nextOf ..
  · exact (hs.execMtxWait ..).nextOf ..
  · exact (hs.execXin ..).nextOf ..
  · exact (hs.execXout ..).nextOf ..
  · exact (hs.execXwait ..).nextOf ..
  · exact hs.recvOne ..
  · exact hs.recvAny ..
  · exact (hs.execTsend ..).nextOf ..
  · exact (hs.execTrsend ..).nextOf ..
  · exact hs.endKernelRun ..
  · exact (hs.execSld ..).nextOf ..
  · exact hs

theorem Steady.retry (e : Eng) : Steady K σ (retry e τ) := by
  unfold Machine.retry
  split
  · exact hs.runStalled ..
  · exact hs

theorem Steady.execTaskStart (ctx run task : Nat) : Next K σ (execTaskStart ctx run task τ) := by
  unfold Machine.execTaskStart
  exact .next (.ite ((hs.startTask ..).wakeRecv ..) hs)

theorem Steady.execTaskCompletion (ctx run task : Nat) : Next K σ (execTaskCompletion ctx run task τ) := by
  unfold Machine.execTaskCompletion
  exact .next (.ite ((hs.completeTask ..).wakeRecv ..) hs)

theorem Steady.tileIn (n tile : Nat) : Steady K σ (tileIn n tile τ) := by
  unfold Machine.tileIn
  dsimp only
  split
  · exact hs
  · split
    · exact hs
    · split
      · exact hs
      · split
        · exact .ite (hs.setRun ..) (.retry (.retry (.setRun (.face (.ite ((hs.clWrite ..).clWrite ..) (hs.clWrite ..))) ..) ..) ..)
        · exact hs
        · exact hs.setRun ..

theorem Steady.execTileArrival (ctx run tile : Nat) : Next K σ (execTileArrival ctx run tile τ) := by
  unfold Machine.execTileArrival
  exact .next (.ite (hs.tileIn ..) hs)

theorem Steady.creditIn (n i c : Nat) : Steady K σ (creditIn n i c τ) := by
  unfold Machine.creditIn
  dsimp only
  split
  · exact hs.grantOne ..
  · split
    · exact .elim (hs.grantOne ..) (fun _ => (hs.grantOne ..).retry ..)
    · exact hs.grantOne ..

theorem Steady.execCreditGrant (ctx run edge consumer : Nat) : Next K σ (execCreditGrant ctx run edge consumer τ) := by
  unfold Machine.execCreditGrant
  exact .next (.ite (hs.creditIn ..) hs)

theorem Steady.execMmaComplete (e : Eng) (core : Nat) (acc : List AccFault) (dup : List DupFault) (parity : List (Nat × Word32)) (cond : Cond) : Next
    K σ (execMmaComplete e core acc dup parity cond τ) := by
  unfold Machine.execMmaComplete
  refine .next ?_
  refine .ite hs ?_
  split
  · exact (hs.mmaDone ..).retry ..
  · exact hs

theorem Steady.execTransferComplete (e : Eng) (n : Nat) : Next K σ (execTransferComplete e n τ) := by
  unfold Machine.execTransferComplete
  dsimp only
  refine .next ?_
  split
  · exact hs
  · split
    · exact hs
    · exact .ite hs (((hs.setEng ..).xferDone ..).retry ..)

theorem Steady.octClose (e : Eng) : Steady K σ (octClose e τ) := by
  unfold Machine.octClose
  exact (hs.dropShadow ..).sweepRuns ..

theorem Steady.octFail (e : Eng) (x y : Engine) (cause : Nat) (a b : Cond) : Steady K σ (octFail e x y cause a b τ) := by
  unfold Machine.octFail
  dsimp only
  split
  · refine .ite ?_ ((((((((((((hs.bumpDets ..).bumpDets ..).raiseBoth ..).almDetection ..).count1 (by decide) ..).rflag (by decide) ..).healthLog
        ..).corrDetect ..).corrDetect ..).dropShadow ..).askSubst ..).sweepRuns ..)
    refine Steady.stepFault ?_ ..
    split
    · exact (((((((((((hs.bumpDets ..).bumpDets ..).raiseBoth ..).almDetection ..).count1 (by decide) ..).rflag (by decide) ..).healthLog
          ..).corrDetect ..).corrDetect ..).dropShadow ..).askSubst ..).setEng ..
    · exact ((((((((((hs.bumpDets ..).bumpDets ..).raiseBoth ..).almDetection ..).count1 (by decide) ..).rflag (by decide) ..).healthLog
          ..).corrDetect ..).corrDetect ..).dropShadow ..).askSubst ..
  · exact ((((((((((hs.bumpDets ..).bumpDets ..).raiseBoth ..).almDetection ..).count1 (by decide) ..).rflag (by decide) ..).healthLog ..).corrDetect
        ..).corrDetect ..).dropShadow ..).askSubst ..

theorem Steady.execOctaveCompare (e : Eng) (cond shadowCond : Cond) : Next K σ (execOctaveCompare e cond shadowCond τ) := by
  unfold Machine.execOctaveCompare
  dsimp only
  refine .next ?_
  refine .ite hs ?_
  split
  · exact .ite hs (.ite (hs.octClose ..) (hs.octFail ..))
  · exact hs

theorem Steady.execShadowTimeout (e : Eng) : Next K σ (execShadowTimeout e τ) := by
  unfold Machine.execShadowTimeout
  refine .next ?_
  refine .ite hs ?_
  split
  · exact .ite ((hs.count1 (by decide) ..).octClose ..) hs
  · exact hs

theorem Steady.execCdieVecOctaveCtl (fn die : Nat) (value : BitVec 32) : Next K σ (execCdieVecOctaveCtl fn die value τ) := by
  unfold Machine.execCdieVecOctaveCtl
  dsimp only
  exact .next (.ite (hs.dropLatch ..) (.raise0 (.ite (((hs.dropLatch ..).rset (by decide) ..).rflag (by decide) ..) ((hs.dropLatch ..).rset (by
      decide) ..)) ..))

/-! ### Teardown -/

theorem Steady.drainEngine (p : Xfer → Bool) (k n : Nat) : Steady K σ (drainEngine p k n τ) := by
  induction n generalizing τ with
  | zero => exact hs
  | succ n ih =>
    unfold Machine.drainEngine
    split
    · exact ih ((hs.execTransferComplete ..).nextOf _)
    · exact hs

theorem Steady.drainXfers (c : Option Nat) (p : Xfer → Bool) : Steady K σ (drainXfers c p τ) := by
  unfold Machine.drainXfers
  exact .foldl hs (fun _ _ h1 => h1.drainEngine ..) ..

theorem Steady.windowCheck (c : Nat) : Steady K σ (windowCheck c τ) := by
  unfold Machine.windowCheck
  dsimp only
  split
  · exact hs
  · exact .ite hs (((hs.drainXfers ..).modCtx ..).finishWaits ..)

theorem Steady.storeDone (tag : Nat) : Steady K σ (storeDone tag τ) := by
  unfold Machine.storeDone
  dsimp only
  exact hs.setJournal ..

theorem Steady.bumpGen (c : Nat) : Steady K σ (bumpGen c τ) := by
  unfold Machine.bumpGen
  dsimp only
  exact hs.face

theorem Steady.stopWork (c : Nat) : Steady K σ (stopWork c τ) := by
  unfold Machine.stopWork
  dsimp only
  exact (((hs.removeRuns ..).face).modStep ..).windowCheck ..

theorem Steady.sendTokens (c : Nat) : Steady K σ (sendTokens c τ) := by
  unfold Machine.sendTokens
  dsimp only
  exact .foldl hs.face (fun _ _ h1 => h1.face.emit ..) ..

theorem Steady.recover (big : Bool) (c : Nat) : Steady K σ (recover big c τ) := by
  unfold Machine.recover
  dsimp only
  exact .ite ((hs.mapRecs ..).mapRecs ..) (.ite (((hs.mapRecs ..).mapRecs ..).abort3 ..) (.ite (((hs.mapRecs ..).mapRecs ..).updFault ..) (.ite (.ite
      ((((hs.mapRecs ..).mapRecs ..).modStep ..).emit ..) ((hs.mapRecs ..).mapRecs ..)) (.ite ((hs.mapRecs ..).mapRecs ..) (((hs.mapRecs ..).mapRecs
      ..).stepFault ..)))))

theorem Steady.modQueues {f : Queue → Queue} (hf : ∀ y : Queue, y.leads (f y)) (c : Nat) : Steady K σ (modQueues c f τ) := by
  unfold Machine.modQueues
  exact .foldl hs (fun _ _ h1 => h1.modQueue hf ..) ..

theorem Steady.modQueuesAny (hK : K < 3) (c : Nat) (f : Queue → Queue) : Steady K σ (Machine.modQueues c f τ) := by
  unfold Machine.modQueues
  exact .foldl hs (fun _ _ h1 => h1.modQueueAny hK ..) ..

theorem Steady.flushReplies (c : Nat) : Steady K σ (flushReplies c τ) := by
  unfold Machine.flushReplies
  exact .foldl hs (fun _ _ h1 => h1.replyOne ..) ..

theorem Steady.abortRecs (c st : Nat) (p : Rec → Bool) : Steady K σ (abortRecs c st p τ) := by
  unfold Machine.abortRecs
  exact hs.setJournal ..

theorem Steady.dropStep (c : Nat) : Steady K σ (dropStep c τ) := by
  unfold Machine.dropStep
  exact .ite hs ((hs.emit ..).abort4 ..)

theorem Steady.foldl_rset {l : List Fld} (hl : ∀ f ∈ l, f.fixed = false) (i v : Nat) : Steady K σ (l.foldl (fun s f => Machine.rset f i v s) τ) :=
  List.foldlRecOn _ _ (motive := Steady K σ) hs fun _ hu f hf => hu.rset (hl f hf) ..

theorem Steady.dropCtx (hK : K < 3) (c : Nat) (quar : Bool) : Steady K σ (dropCtx c quar τ) := by
  unfold Machine.dropCtx
  refine Steady.foldl_rset ?_ ?_ _ _
  · exact hs.low hK
  · decide

theorem Steady.setQuar (c : Nat) (on : Bool) : Steady K σ (setQuar c on τ) := by
  unfold Machine.setQuar
  dsimp only
  exact hs.rset (by decide) ..

theorem Steady.endTeardown (hK : K < 3) (c : Nat) (quar : Bool) : Steady K σ (endTeardown c quar τ) := by
  unfold Machine.endTeardown
  dsimp only
  split
  · exact hs
  · exact .ite ((hs.dropCtx hK ..).finishWaits ..) (((hs.modCtx ..).modQueuesAny hK ..).finishWaits ..)

theorem Steady.tearCheck (hK : K < 3) (c : Nat) : Steady K σ (tearCheck c τ) := by
  unfold Machine.tearCheck
  exact .ite (hs.endTeardown hK ..) hs

theorem Steady.tearReplies (hK : K < 3) (c : Nat) : Steady K σ (tearReplies c τ) := by
  unfold Machine.tearReplies
  split
  · exact hs
  · exact .ite hs ((((hs.abortRecs ..).flushReplies ..).sendTokens ..).tearCheck hK ..)

omit hs in
theorem Steady.beginTeardown (hs : Steady 0 σ τ) (c : Nat) (kind : TearKind) (status : Nat) : Steady 0 σ (Machine.beginTeardown c kind status τ) := by
  unfold Machine.beginTeardown
  dsimp only
  exact .tearReplies (.modCtx (.loose (.stopWork (.bumpGen (.modQueuesAny (.ite (((hs.dropStep ..).toTwin ..).unbind ..) (hs.dropStep ..)) (by
      decide) ..) ..) ..) ..)
      ..) (by decide) ..

omit hs in
theorem Steady.execTeardownAck (hs : Steady 0 σ τ) (ctx engine : Nat) : Next 0 σ (Machine.execTeardownAck ctx engine τ) := by
  unfold Machine.execTeardownAck
  exact .ite (.next hs) (.next ((hs.modCtx ..).tearReplies (by decide) ..))

omit hs in
theorem Steady.tearCmd (hs : Steady 0 σ τ) (h : CmdRef) (c : Nat) (kind : TearKind) : Steady 0 σ (Machine.tearCmd h c kind τ) := by
  unfold Machine.tearCmd
  exact .ite (hs.badParam ..) (.ite (hs.badParam ..) ((hs.waitFor ..).beginTeardown ..))

omit hs in
theorem Steady.execCtxDestroy (hs : Steady 0 σ τ) (h : CmdRef) (ctx : BitVec 8) : Next 0 σ (Machine.execCtxDestroy h ctx τ) := by
  unfold Machine.execCtxDestroy
  exact .next (.runPriv hs (fun _ h1 => h1.tearCmd ..) ..)

omit hs in
theorem Steady.execCtxReset (hs : Steady 0 σ τ) (h : CmdRef) (ctx : BitVec 8) : Next 0 σ (Machine.execCtxReset h ctx τ) := by
  unfold Machine.execCtxReset
  exact .next (.runPriv hs (fun _ h1 => h1.tearCmd ..) ..)

theorem Steady.execSweepToken (source ctx gen : Nat) : Next K σ (execSweepToken source ctx gen τ) := by
  unfold Machine.execSweepToken
  dsimp only
  exact .next ((hs.face.modStep ..).emit ..)

theorem Steady.endQuar (c cause : Nat) : Steady K σ (endQuar c cause τ) := by
  unfold Machine.endQuar
  exact .ite hs (((hs.queues fun _ p hp => ⟨p.2, (List.mem_filter.1 hp).1, rfl, id⟩).setQuar ..).raise0 ..)

theorem Steady.dropToken (hK : K < 3) (peer c : Nat) (cause : Nat) : Steady K σ (dropToken peer c cause τ) := by
  unfold Machine.dropToken
  dsimp only
  exact (hs.face.endQuar ..).tearCheck hK ..

omit hs in
theorem Steady.execSweepTokenReturn (hs : Steady 0 σ τ) (peer ctx gen : Nat) : Next 0 σ (Machine.execSweepTokenReturn peer ctx gen τ) := by
  unfold Machine.execSweepTokenReturn
  exact .ite (.next (hs.dropToken (by decide) ..)) (.next hs)

omit hs in
theorem Steady.execSweepTokenTimeout (hs : Steady 0 σ τ) (peer ctx : Nat) : Next 0 σ (Machine.execSweepTokenTimeout peer ctx τ) := by
  unfold Machine.execSweepTokenTimeout
  dsimp only
  exact .ite (.next hs) (.ite (.next (((((((hs.trouble_of (free_zero _) ..).setQuar ..).rflag_of (free_zero _) ..).trouble_of (free_zero _) ..).raise0
      ..).loose).endTeardown (by decide) ..)) (.next (.ite (((hs.trouble_of (free_zero _) ..).emit ..).endTeardown (by decide) ..) ((hs.trouble_of
      (free_zero _) ..).emit ..))))

theorem Steady.resendTokens (peer : Nat) : Steady K σ (resendTokens peer τ) := by
  unfold Machine.resendTokens
  exact .foldl hs (fun _ _ h1 => h1.emit ..) ..

theorem Steady.peerGone (hK : K < 3) (peer : Nat) : Steady K σ (peerGone peer τ) := by
  unfold Machine.peerGone
  exact .foldl hs (fun _ _ h1 => h1.dropToken hK ..) ..

theorem Steady.disabledEvent (kind index n : Nat) (cs : List Nat) : Steady K σ (disabledEvent kind index n cs τ) := by
  unfold Machine.disabledEvent
  dsimp only
  exact .raise0 (.foldl hs (fun _ _ h1 => h1.raiseC ..) ..) ..

omit hs in
theorem Steady.disableCtxBut {r : State × Nat} (hr : Steady K σ r.1) (keep : Rec → Bool) (c : Nat) : Steady K σ (disableCtxBut keep r c).1 := by
  have h := (((((hr.dropStep c).bumpGen c).stopWork c).abortRecs c stAbortDisable (fun x => !keep x)).flushReplies c).modQueues
    (f := fun x => { x with state := .disabled, heldReason := 0, fetched := [] }) (fun _ => ⟨rfl, fun _ => rfl⟩) c
  exact .ite (h.sendTokens c) ((h.sendTokens c).trouble (by decide) 1)

omit hs in
theorem Steady.disableCtx {r : State × Nat} (hr : Steady K σ r.1) (c : Nat) : Steady K σ (disableCtx r c).1 := hr.disableCtxBut ..

theorem Steady.fenceEngine (kind index : Nat) : Steady K σ (fenceEngine kind index τ) := by
  unfold Machine.fenceEngine
  dsimp only
  exact .disabledEvent (.ite (.foldl (.ite (hs.ror (by decide) ..) hs.face) (fun _ _ h1 => .flushReplies (.abortRecs (.ite (h1.stopExchange ..) h1)
      ..) ..) ..) (.trouble (.foldl (.ite (hs.ror (by decide) ..) hs.face) (fun _ _ h1 => .flushReplies (.abortRecs (.ite (h1.stopExchange ..) h1)
      ..) ..) ..) (by decide) ..)) ..

theorem Steady.execVigilFence (fn : Nat) (value : BitVec 32) : Next K σ (execVigilFence fn value τ) := by
  unfold Machine.execVigilFence
  dsimp only
  exact .ite (.next (hs.dropLatch ..)) (.ite (.next ((hs.dropLatch ..).fenceEngine ..)) (.next (hs.dropLatch ..)))

omit hs in
theorem Steady.resetRW (hs : Steady 0 σ τ) (p : Fld → Nat → Bool) : Steady 0 σ (resetRW p τ) := hs.loose

theorem Steady.portReset (p : Nat) : Steady K σ (portReset p τ) := by
  unfold Machine.portReset
  dsimp only
  exact .ite (.ite ((((((hs.modPort ..).rset (by decide) ..).rset (by decide) ..).rset (by decide) ..).rset (by decide) ..).linkState ..)
      (((((hs.modPort ..).rset (by decide) ..).rset (by decide) ..).rset (by decide) ..).rset (by decide) ..)) (.rset (.ite ((((((hs.modPort ..).rset
      (by decide) ..).rset (by decide) ..).rset (by decide) ..).rset (by decide) ..).linkState ..) (((((hs.modPort ..).rset (by decide) ..).rset (by
      decide) ..).rset (by decide) ..).rset (by decide) ..)) (by decide) ..)

omit hs in
theorem Steady.resetConfig (hs : Steady 0 σ τ) : Steady 0 σ (Machine.resetConfig τ) := by
  unfold Machine.resetConfig
  dsimp only
  exact (hs.loose.rset_of (free_zero _) ..).rset_of (free_zero _) ..

omit hs in
theorem Steady.moduleDown (hs : Steady 0 σ τ) : Steady 0 σ (moduleDown τ) := by
  unfold Machine.moduleDown
  dsimp only
  have h1 := hs.emit (.vc7 "RESET_NOTICE" (mySteward τ) [ownRoster τ, rosterEpoch τ, rget τ .cohortHold_holdMs 0])
  generalize Machine.emit _ τ = u at h1 ⊢
  have h2 : Steady 0 σ { Machine.resetConfig u with fab := { u.fab with notice := true } } := h1.resetConfig.loose
  generalize ({ Machine.resetConfig u with fab := { u.fab with notice := true } } : State) = v at h2 ⊢
  have h3 := h2.rset_of (free_zero .mcStatus_ready) 0 0
  generalize Machine.rset .mcStatus_ready 0 0 v = w at h3 ⊢
  have h4 : Steady 0 σ { w with oct := [] } := h3.loose
  have h5 := (h4.foldl (f := fun s d => Machine.clearDie d s) (fun _ _ h => h.clearDie _) (List.range 8)).resetRW (fun f _ => !keptRW f)
  generalize Machine.resetRW _ _ = x at h5 ⊢
  have h6 := h5.foldl (f := fun s p => Machine.portReset p s) (fun _ _ h => h.portReset _) (List.range 32)
  generalize List.foldl _ x _ = y at h6 ⊢
  exact h6.loose

omit hs in
theorem Steady.startReset (hs : Steady 0 σ τ) (r : ResetInfo) : Steady 0 σ (startReset r τ) := by
  unfold Machine.startReset
  dsimp only
  have h1 := hs.foldl (f := fun s c => Machine.stopWork c (Machine.bumpGen c s)) (fun _ _ h => (h.bumpGen _).stopWork _) r.ctxs
  generalize List.foldl _ τ r.ctxs = u at h1 ⊢
  refine .ite (h1.foldl (fun _ _ h => ?_) _) (.ite (h1.foldl (fun _ _ h => (h.resetRW _).clearDie _) _) (.ite h1.moduleDown h1))
  split
  · exact (h.clearCluster ..).substCluster ..
  · exact h

omit hs in theorem Steady.beginReset (hs : Steady 0 σ τ) (r : ResetInfo) : Steady 0 σ (beginReset r τ) := by
  unfold Machine.beginReset
  dsimp only
  exact .ite hs (hs.loose.startReset ..)

omit hs in
theorem Steady.cyclePower (hs : Steady 0 σ τ) : Steady 0 σ (Machine.cyclePower τ) := by
  unfold Machine.cyclePower
  dsimp only
  exact (((hs.almSeal ..).trouble (by decide) ..).count1 (by decide) ..).face

omit hs in theorem Steady.execResetEscalated (hs : Steady 0 σ τ) (level unit : Nat) : Next 0 σ (execResetEscalated level unit τ) := by
  unfold Machine.execResetEscalated
  dsimp only
  split
  · exact .next hs
  · exact .ite (.next (.cyclePower (.loose (.ite (((((hs.rflag_of (free_zero _) ..).trouble_of (free_zero _) ..).raise0 ..).loose).urgent)
      ((((hs.rflag_of (free_zero _) ..).trouble_of (free_zero _) ..).raise0 ..).loose))))) (.next (.beginReset (.ite (((((hs.rflag_of (free_zero _)
      ..).trouble_of (free_zero _)
        ..).raise0 ..).loose).urgent) ((((hs.rflag_of (free_zero _) ..).trouble_of (free_zero _) ..).raise0 ..).loose)) ..))

theorem Steady.disableFn (hK : K < 3) (fn : Nat) : Steady K σ (disableFn fn τ) := by
  unfold Machine.disableFn
  dsimp only
  exact .ite (hs.low hK) (.low (.foldl_fst hs (fun _ _ h1 => h1.disableCtx ..) ..) hK)

theorem Steady.reportDisable (hK : K < 3) (fn : Nat) : Steady K σ (reportDisable fn τ) := by
  unfold Machine.reportDisable
  dsimp only
  split
  · exact .ite hs ((hs.low hK).disabledEvent ..)
  · exact hs

theorem Steady.lateDisables (hK : K < 3) : Steady K σ (lateDisables τ) := by
  unfold Machine.lateDisables
  exact .foldl hs (fun _ _ h1 => (h1.disableFn hK ..).reportDisable hK ..) ..

omit hs in
theorem Steady.moduleUp (hs : Steady 0 σ τ) : Steady 0 σ (Machine.moduleUp τ) := by
  unfold Machine.moduleUp
  dsimp only
  have h0 : Steady 0 σ { τ with fab := { τ.fab with notice := false }, ctl := { τ.ctl with f0Fenced := false, missed := 0 } } := hs.loose
  have h1 := (h0.rsetAny .mcStatus_ready 0 1).rsetAny .mcStatus_controller 0 0
  generalize Machine.rset .mcStatus_controller 0 0 _ = u at h1 ⊢
  have h2 := ((h1.count1 (f := .troubleModuleResets_count) (by decide) 0).lateDisables (by decide)).rewriteReplies.keptDoorbells
  generalize Machine.keptDoorbells _ = v at h2 ⊢
  have h3 : Steady 0 σ { v with pow := { v.pow with told := false } } := h2.loose
  exact .ite (h3.raise0 ..) h2

theorem Steady.ackReset (hK : K < 3) (c : Nat) : Steady K σ (ackReset c τ) := by
  unfold Machine.ackReset
  exact .ite ((hs.modCtx ..).tearReplies hK ..) hs

omit hs in
theorem Steady.execResetDone (hs : Steady 0 σ τ) (level unit us : Nat) : Next 0 σ (Machine.execResetDone level unit us τ) := by
  unfold Machine.execResetDone
  dsimp only
  split
  · exact .next hs
  · next r _ =>
    have h1 : Steady 0 σ { τ with vig := { τ.vig with resets := τ.vig.resets.filter (fun x => x != r) } } := hs.loose
    have h2 := (h1.count1_of (free_zero .vigilResetCount_count) level).trouble (f := .troubleLog_reset) (by decide) (2 ^ level)
    have h3 := (((h2.rsetAny .troubleLastUnit_index 0 unit).rset (f := .troubleLastUnit_kind) (by decide) 0 r.kind).rsetAny .troubleLastUnit_level
      0 level)
    generalize Machine.rset .troubleLastUnit_level 0 level _ = u at h3 ⊢
    refine .next (Steady.foldl (f := fun s c => Machine.ackReset c (Machine.recover (level == 4) c (Machine.sendTokens c s))) ?_
      (fun _ _ h => ((h.sendTokens ..).recover ..).ackReset (by decide) ..) _)
    exact .ite (.moduleUp (.ite (h3.raiseBoth ..) (h3.raise0 ..))) (.ite (h3.raiseBoth ..) (h3.raise0 ..))

omit hs in
theorem Steady.execVigilHang (hs : Steady 0 σ τ) (kind unit die ctx run : Nat) (tasks clusters : List Nat) :
    Next 0 σ (execVigilHang kind unit die ctx run tasks clusters τ) := by
  unfold Machine.execVigilHang
  dsimp only
  have h1 := ((hs.rflag_of (free_zero .vigilStatus_hangSeen) 0).count1 (f := .vigilHangCount_count) (by decide) 0).trouble_of
    (free_zero .troubleLog_vigilHang) 1
  generalize Machine.trouble .troubleLog_vigilHang 1 _ = u at h1 ⊢
  refine .ite (.next hs) (.ite (.next (.runFault (.trouble_of (.ite (h1.raiseBoth ..) (h1.raise0 ..)) (free_zero _) _) ..)) (.ite
    (Steady.execMcTakeover (.ite (h1.raiseBoth ..) (h1.raise0 ..)) _) (.next (Steady.beginReset (.ite ?_ (.ite (h1.raiseBoth ..) (h1.raise0 ..)))
        _))))
  exact (Steady.ite (h1.raiseBoth ..) (h1.raise0 ..)).loose

theorem Steady.execRemoteRequestResend (tag : Nat) : Next K σ (execRemoteRequestResend tag τ) := by
  unfold Machine.execRemoteRequestResend
  dsimp only
  split
  · exact .next hs
  · exact .ite (.next hs) (.next (hs.face.emit ..))

theorem Steady.remotePoison (r : Remote) : Steady K σ (remotePoison r τ) := by
  unfold Machine.remotePoison
  dsimp only
  split
  · exact hs
  · refine Steady.retry ?_ ..
    refine Steady.markBad ?_ ..
    refine .ite hs ?_
    split
    · exact hs.setEng ..
    · exact hs

theorem Steady.execVigilRemoteTimeout (tag : Nat) : Next K σ (execVigilRemoteTimeout tag τ) := by
  unfold Machine.execVigilRemoteTimeout
  dsimp only
  split
  · exact .next hs
  · exact .ite (.next hs) (.next ((((((hs.face.count1 (by decide) ..).trouble (by decide) ..).raiseBoth ..).remotePoison ..).storeDone
        ..).windowCheck ..))

/-! ### Harvest -/

theorem Steady.modHarv (c : Nat) (f : Harv → Harv) : Steady K σ (modHarv c f τ) := by
  unfold Machine.modHarv
  exact hs.face

theorem Steady.modGen (c : Nat) (f : HGen → HGen) : Steady K σ (modGen c f τ) := by
  unfold Machine.modGen
  exact hs.modHarv ..

theorem Steady.targetWrite (c : Nat) (t : Nat × Nat × Nat) (a : Nat) (b : List Byte) : Steady K σ (targetWrite c t a b τ) := by
  unfold Machine.targetWrite
  exact .ite (.ite hs (hs.hostWrite ..)) (hs.ctxWrite ..)

theorem Steady.targetZero (c : Nat) (t : Nat × Nat × Nat) (a n : Nat) : Steady K σ (targetZero c t a n τ) := by
  unfold Machine.targetZero
  refine .ite (.ite hs (hs.trans (.of_eq id (swf_sclear _ _ _ _) List.suffix_rfl List.prefix_rfl))) ?_
  split
  · exact hs.withMem (swf_sclear _ _ _ _)
  · exact hs

theorem Steady.execHarvestTarget (h : CmdRef) (target kind : BitVec 8) (base bytes : Word64) : Next K σ (execHarvestTarget h target kind base bytes
    τ) := by
  unfold Machine.execHarvestTarget
  dsimp only
  exact .next (.runCmd hs (fun _ h1 => .ite (h1.badParam ..) ((h1.modHarv ..).finishOk ..)) ..)

theorem Steady.genOver : Steady K σ (genOver τ) := by
  unfold Machine.genOver
  dsimp only
  exact hs.face

theorem Steady.failHere (c cause who : Nat) : Steady K σ (failHere c cause who τ) := by
  unfold Machine.failHere
  dsimp only
  split
  · exact hs
  · exact (((((((hs.modHarv ..).rflag (by decide) ..).count1 (by decide) ..).rset (by decide) ..).raiseBoth ..).finishWaits ..).genOver).sealCheck ..

theorem Steady.failGen (c cause : Nat) : Steady K σ (failGen c cause τ) := by
  unfold Machine.failGen
  split
  · exact hs
  · exact (hs.emit ..).failHere ..

theorem Steady.beginGen (c step seq epoch gen : Nat) : Steady K σ (beginGen c step seq epoch gen τ) := by
  unfold Machine.beginGen
  dsimp only
  exact .ite hs (.ite ((((hs.modHarv ..).rset (by decide) ..).leaveIdle).failGen ..) ((((hs.modHarv ..).rset (by decide) ..).leaveIdle).targetZero
      ..))

theorem Steady.beginTwinShard (c lost : Nat) : Steady K σ (beginTwinShard c lost τ) := by
  unfold Machine.beginTwinShard
  dsimp only
  split
  · exact hs
  · exact .ite hs (.ite (hs.failGen ..) (hs.modGen ..))

theorem Steady.markStep (c : Nat) (m : CommitMsg) (gen : Nat) : Steady K σ (markStep c m gen τ) := by
  unfold Machine.markStep
  exact .ite (hs.beginGen ..) hs

theorem Steady.execHarvestMark (ctx : Nat) (m : CommitMsg) (generation : Nat) : Next K σ (execHarvestMark ctx m generation τ) := by
  unfold Machine.execHarvestMark
  exact .next (hs.markStep ..)

theorem Steady.buildManifest (c : Nat) : Steady K σ (buildManifest c τ) := by
  unfold Machine.buildManifest
  dsimp only
  split
  · exact hs
  · exact .ite hs (hs.modGen ..)

theorem Steady.takeShardReport (c : Nat) (m : ShardMsg) : Steady K σ (takeShardReport c m τ) := by
  unfold Machine.takeShardReport
  exact (hs.modGen ..).buildManifest ..

theorem Steady.reportShard (c : Nat) (g : HGen) (h : HShard) (twin : Bool) : Steady K σ (reportShard c g h twin τ) := by
  unfold Machine.reportShard
  dsimp only
  exact .ite (.takeShardReport (.ite (hs.raiseBoth ..) hs) ..) (.modGen (.emit (.ite (hs.raiseBoth ..) hs) ..) ..)

theorem Steady.execShardReport (ctx : Nat) (m : ShardMsg) : Next K σ (execShardReport ctx m τ) := by
  unfold Machine.execShardReport
  exact .ite (.next (hs.failHere ..)) (.ite (.next (hs.takeShardReport ..)) (.next hs))

theorem Steady.chunkDone (c : Nat) (g : HGen) (h : HShard) (twin : Bool) (k : Nat) : Steady K σ (chunkDone c g h twin k τ) := by
  unfold Machine.chunkDone
  dsimp only
  exact .ite (.ite ((hs.reportAll ..).askRepair ..) ((hs.reportAll ..).failGen ..)) (.sealCheck (.ite (((hs.targetWrite ..).activity (by decide)
      ..).modGen ..) ((((hs.targetWrite ..).activity (by decide) ..).modGen ..).reportShard ..)) ..)

theorem Steady.execChunkWriteDone (ctx : Nat) (twin : Bool) (chunk : Nat) (ok : Bool) : Next K σ (execChunkWriteDone ctx twin chunk ok τ) := by
  unfold Machine.execChunkWriteDone
  dsimp only
  split
  · exact .next hs
  · split
    · exact .next hs
    · exact .ite (.next hs) (.ite (.next (hs.chunkDone ..)) (.next (.ite ((hs.modGen ..).failGen ..) (hs.modGen ..))))

theorem Steady.genWritten (c : Nat) (g : HGen) (b : List Byte) : Steady K σ (genWritten c g b τ) := by
  unfold Machine.genWritten
  dsimp only
  exact (((((((hs.targetWrite ..).modHarv ..).rset (by decide) ..).rset (by decide) ..).rset (by decide) ..).raiseBoth ..).finishWaits ..).genOver

theorem Steady.execHarvestWritten (ctx : Nat) : Next K σ (execHarvestWritten ctx τ) := by
  unfold Machine.execHarvestWritten
  split
  · exact .next hs
  · exact .ite (.next hs) (.next ((hs.emit ..).genWritten ..))

theorem Steady.execManifestCopy (ctx : Nat) (data : List Byte) : Next K σ (execManifestCopy ctx data τ) := by
  unfold Machine.execManifestCopy
  split
  · exact .next hs
  · exact .ite (.next (hs.genWritten ..)) (.next hs)

theorem Steady.resendReports (c : Nat) : Steady K σ (resendReports c τ) := by
  unfold Machine.resendReports
  split
  · exact hs
  · exact .ite (hs.buildManifest ..) (.foldl hs (fun _ _ h1 => h1.emit ..) ..)

theorem Steady.execHarvestPolicy (h : CmdRef) (everySteps timerS : BitVec 32) : Next K σ (execHarvestPolicy h everySteps timerS τ) := by
  unfold Machine.execHarvestPolicy
  exact .next (.runCmd hs (fun _ h1 => .finishOk (.ite (h1.emit ..) h1) ..) ..)

theorem Steady.execHarvestNow (h : CmdRef) : Next K σ (execHarvestNow h τ) := by
  unfold Machine.execHarvestNow
  dsimp only
  exact .next (.runCmd hs (fun _ h1 => (h1.waitFor ..).emit ..) ..)

theorem Steady.streamShard (c : Nat) (b : List Byte) : Steady K σ (streamShard c b τ) := by
  unfold Machine.streamShard
  dsimp only
  split
  · exact hs
  · exact .ite (.areasZero (.foldl (hs.modStep ..) (fun _ _ h1 => h1.ctxWrite ..) ..) ..) (.foldl (.foldl (hs.modStep ..) (fun _ _ h1 => h1.ctxWrite
        ..) ..) (fun _ _ h1 => h1.ctxWrite ..) ..)

theorem Steady.addVote (c who gen : Nat) (hash : List Byte) (pass : Bool) : Steady K σ (addVote c who gen hash pass τ) := by
  unfold Machine.addVote
  exact hs.modHarv ..

theorem Steady.refuseHere (c det : Nat) : Steady K σ (refuseHere c det τ) := by
  unfold Machine.refuseHere
  split
  · exact hs
  · exact (((hs.modHarv ..).rflag (by decide) ..).rset (by decide) ..).finishAt ..

theorem Steady.castVote (c : Nat) : Steady K σ (castVote c τ) := by
  unfold Machine.castVote
  split
  · exact hs
  · exact .ite (hs.addVote ..) (hs.emit ..)

theorem Steady.tryManifest (c : Nat) (m : Manifest) (bar : Option Nat) : Steady K σ (tryManifest c m bar τ) := by
  unfold Machine.tryManifest
  dsimp only
  exact .castVote (.modHarv (.ite (hs.streamShard ..) hs) ..) ..

theorem Steady.refused (c : Nat) : Steady K σ (refused c τ) := by
  unfold Machine.refused
  dsimp only
  split
  · exact hs
  · refine .ite ?_ (hs.refuseHere ..)
    split
    · exact (hs.modHarv ..).tryManifest ..
    · exact ((hs.modHarv ..).modHarv ..).castVote ..

theorem Steady.mirrorBank (c : Nat) : Steady K σ (mirrorBank c τ) := by
  unfold Machine.mirrorBank
  dsimp only
  split
  · exact hs
  · exact .toTwin (.foldl hs (fun _ _ h1 => h1.toTwin ..) ..) ..

theorem Steady.restored (c : Nat) (r : HRest) : Steady K σ (restored c r τ) := by
  unfold Machine.restored
  dsimp only
  exact .finishAt (.raiseBoth (.ite (.mirrorBank (.rset (.modHarv (.ite ((((((hs.areasCopy ..).modStep ..).rset (by decide) ..).rset (by decide)
      ..).rset (by decide) ..).rset (by decide) ..) (((((((((hs.areasCopy ..).modStep ..).rset (by decide) ..).rset (by decide) ..).rset (by decide)
      ..).rset (by decide) ..).rset (by decide) ..).rset (by decide) ..).rset (by decide) ..)) ..) (by decide) ..) ..) (.rset (.modHarv (.ite
      ((((((hs.areasCopy ..).modStep ..).rset (by decide) ..).rset (by decide) ..).rset (by decide) ..).rset (by decide) ..) (((((((((hs.areasCopy
      ..).modStep ..).rset (by decide) ..).rset (by decide) ..).rset (by decide) ..).rset (by decide) ..).rset (by decide) ..).rset (by decide)
      ..).rset (by decide) ..)) ..) (by decide) ..)) ..) ..

theorem Steady.decideN (c n : Nat) : Steady K σ (decideN c n τ) := by
  induction n generalizing τ with
  | zero => exact hs
  | succ n ih =>
    unfold Machine.decideN
    split
    · exact hs
    · exact .ite hs (.ite ((hs.emit _).restored ..) (ih ((hs.emit _).refused ..)))

theorem Steady.decideVotes (c : Nat) : Steady K σ (decideVotes c τ) := by
  unfold Machine.decideVotes
  exact hs.decideN ..

theorem Steady.beginRest (h : CmdRef) (imp : Bool) (rflags : Nat) (m : Manifest) (bar : Option Nat) : Steady K σ (beginRest h imp rflags m bar τ) :=
    by
  unfold Machine.beginRest
  dsimp only
  exact .ite ((hs.finish ..).rflag (by decide) ..) ((((((hs.waitFor ..).modHarv ..).rset (by decide) ..).leaveIdle).tryManifest ..).decideVotes ..)

theorem Steady.execRestore (h : CmdRef) (manifest : Word64) (rflags : BitVec 8) : Next K σ (execRestore h manifest rflags τ) := by
  unfold Machine.execRestore
  dsimp only
  exact .next (.runCmd hs (fun _ h1 => .ite h1 ((h1.cmdRead ..).beginRest ..)) ..)

theorem Steady.execRestoreVote (ctx roster generation : Nat) (hash : List Byte) (pass : Bool) : Next K σ (execRestoreVote ctx roster generation hash
    pass τ) := by
  unfold Machine.execRestoreVote
  exact .ite (.next ((hs.addVote ..).decideVotes ..)) (.next hs)

theorem Steady.execRestoreCommit (ctx : Nat) : Next K σ (execRestoreCommit ctx τ) := by
  unfold Machine.execRestoreCommit
  split
  · exact .ite (.next (hs.restored ..)) (.next hs)
  · exact .next hs

theorem Steady.execRestoreVoteTimeout (ctx : Nat) : Next K σ (execRestoreVoteTimeout ctx τ) := by
  unfold Machine.execRestoreVoteTimeout
  split
  · exact .next hs
  · exact .next (.decideVotes (.refused (.ite (hs.emit ..) hs) ..) ..)

theorem Steady.streamImport (c : Nat) (x : Import) : Steady K σ (streamImport c x τ) := by
  unfold Machine.streamImport
  dsimp only
  split
  · exact hs
  · refine Steady.areasZero ?_ ..
    refine Steady.foldl ?_ (fun _ _ h1 => h1.ctxWrite ..) ..
    refine Steady.ctxWrite ?_ ..
    refine Steady.foldl (hs.modStep ..) ?_ ..
    intro _ _ h1
    split
    · exact h1.ctxWrite ..
    · exact h1

theorem Steady.execImportA2 (h : CmdRef) (manifest : Word64) : Next K σ (execImportA2 h manifest τ) := by
  unfold Machine.execImportA2
  dsimp only
  exact .next (.runCmd hs (fun _ h1 => .ite h1 (.ite ((h1.finish ..).rflag (by decide) ..) (.decideVotes (.castVote (.ite (((((h1.waitFor ..).modHarv
      ..).rset (by decide) ..).leaveIdle).streamImport ..) (((h1.waitFor ..).modHarv ..).rset (by decide) ..)) ..) ..))) ..)

/-! ### Cohorts -/

theorem Steady.moveRoute (lost spare : Nat) : Steady K σ (moveRoute lost spare τ) := by
  unfold Machine.moveRoute
  dsimp only
  exact hs.face

theorem Steady.goOut : Steady K σ (goOut τ) := by
  unfold Machine.goOut
  dsimp only
  exact .setBudget (.face (.rset (.rset (.rset (.rset (.rset (.foldl hs (fun _ _ h1 => ((h1.removeRuns ..).modQueues (by exact fun _ => ⟨rfl, fun _
      => rfl⟩) ..).setJournal ..) ..) (by
      decide) ..) (by decide) ..) (by decide) ..) (by decide) ..) (by decide) ..))

theorem Steady.selfBits : Steady K σ (selfBits τ) := by
  unfold Machine.selfBits
  dsimp only
  exact ((hs.rset (by decide) ..).rset (by decide) ..).rset (by decide) ..

theorem Steady.takePosition (hK : K < 2) (i co role : Nat) : Steady K σ (takePosition i co role τ) := by
  unfold Machine.takePosition
  dsimp only
  exact (((hs.rset (by decide) ..).rset_of (free_of_roster hK rfl) ..).rset_of (free_of_roster hK rfl) ..).face

theorem Steady.ownPosition (hK : K < 2) (old : State) (m : RosterMsg) : Steady K σ (ownPosition old m τ) := by
  unfold Machine.ownPosition
  dsimp only
  split
  · exact .ite ((hs.takePosition hK ..).emit ..) hs
  · refine .ite hs.goOut ?_
    refine .ite hs ?_
    split
    · exact hs
    · exact .ite ((hs.face.takePosition hK ..).finishWaits ..) hs

theorem Steady.unmirror (c i : Nat) : Steady K σ (unmirror c i τ) := by
  unfold Machine.unmirror
  exact ((hs.rset (by decide) ..).rset (by decide) ..).raiseBoth ..

theorem Steady.passAlone (c : Nat) : Steady K σ (passAlone c τ) := by
  unfold Machine.passAlone
  exact .ite (hs.updateDone ..) hs

theorem Steady.feedSpare (c i : Nat) : Steady K σ (feedSpare c i τ) := by
  unfold Machine.feedSpare
  dsimp only
  split
  · exact hs
  · exact .sendCopies (.foldl (.foldl (.foldl (.foldl (hs.toTwin ..) (fun _ _ h1 => h1.toTwin ..) ..) (fun _ _ h1 => h1.toTwin ..) ..) (fun _ _ h1 =>
        h1.toTwin ..) ..) (fun _ _ h1 => h1.toTwin ..) ..) ..

theorem Steady.twinReplaced (i c : Nat) : Steady K σ (twinReplaced i c τ) := by
  unfold Machine.twinReplaced
  dsimp only
  exact (((((hs.unmirror ..).passAlone ..).twinLost ..).modStep ..).feedSpare ..).beginTwinShard ..

theorem Steady.adoptRecs (i c : Nat) : Steady K σ (adoptRecs i c τ) := by
  unfold Machine.adoptRecs
  dsimp only
  exact hs.face

theorem Steady.twinShrunk (i c : Nat) : Steady K σ (twinShrunk i c τ) := by
  unfold Machine.twinShrunk
  dsimp only
  exact ((((((hs.unmirror ..).passAlone ..).raiseBoth ..).modStep ..).adoptRecs ..).twinBack ..).beginTwinShard ..

theorem Steady.memberLost (i c : Nat) : Steady K σ (memberLost i c τ) := by
  unfold Machine.memberLost
  exact .ite (hs.exchangeFault ..) (hs.abort3 ..)

theorem Steady.rosterAborts (old : State) (m : RosterMsg) : Steady K σ (rosterAborts old m τ) := by
  unfold Machine.rosterAborts
  dsimp only
  exact .ite (.allSteps hs (fun _ _ h1 => h1.abort3 ..)) (.ite hs (.ite (.allSteps hs (fun _ _ h1 => (h1.raiseBoth ..).abort4 ..)) (.ite (.allSteps
      hs (fun _ _ h1 => h1.memberLost ..)) hs)))

theorem Steady.rosterTwins (old : State) (m : RosterMsg) : Steady K σ (rosterTwins old m τ) := by
  unfold Machine.rosterTwins
  dsimp only
  exact .foldl (.foldl (.foldl hs (fun _ _ h1 => .foldl h1 (fun _ _ h2 => h2.twinReplaced ..) ..) ..) (fun _ _ h1 => .foldl h1 (fun _ _ h2 =>
      h2.twinShrunk ..) ..) ..) (fun _ _ h1 => .ite (.foldl h1 (fun _ _ h2 => h2.twinLost ..) ..) (.ite (.foldl h1 (fun _ _ h2 => h2.twinBack ..) ..)
      h1)) ..

theorem Steady.rosterHarvest (old : State) (lost : List Nat) : Steady K σ (rosterHarvest old lost τ) := by
  unfold Machine.rosterHarvest
  dsimp only
  exact .foldl hs (fun _ _ h1 => .ite (.ite h1 (.ite (h1.failGen ..) (.ite (h1.failGen ..) h1))) (.resendReports (.ite h1 (.ite (h1.failGen ..) (.ite
      (h1.failGen ..) h1))) ..)) ..

theorem Steady.forget (hK : K < 3) (i : Nat) : Steady K σ (forget i τ) := by
  unfold Machine.forget
  dsimp only
  exact hs.face.peerGone hK ..

theorem Steady.stopBackups (i : Nat) : Steady K σ (stopBackups i τ) := by
  unfold Machine.stopBackups
  dsimp only
  exact .foldl hs.face (fun _ _ h1 => h1.raiseBoth ..) ..

theorem Steady.rosterEvents (m : RosterMsg) : Steady K σ (rosterEvents m τ) := by
  unfold Machine.rosterEvents
  dsimp only
  exact .ite (.raise0 (.rflag (.ite (.raise0 (.ite ((hs.raise0 ..).rflag (by decide) ..) (hs.raise0 ..)) ..) (.ite ((hs.raise0 ..).rflag (by decide)
      ..) (hs.raise0 ..))) (by decide) ..) ..) (.ite (.raise0 (.ite ((hs.raise0 ..).rflag (by decide) ..) (hs.raise0 ..)) ..) (.ite ((hs.raise0
      ..).rflag (by decide) ..) (hs.raise0 ..)))

theorem Steady.newSteward (old : State) : Steady K σ (newSteward old τ) := by
  unfold Machine.newSteward
  dsimp only
  exact .ite hs hs.face

/-- The roster's part of the state after a message: its entries and its epoch. -/
def rosterSet (m : RosterMsg) (s : State) : State :=
  Machine.rset .cohortEpoch_epoch 0 m.epoch (m.changes.foldl (fun s x => Machine.rset .cohortRoster_entry x.1 x.2.toNat s)
    (if m.full then { s with regs := s.regs.filter (fun x => x.1 / 2 ^ 20 != Fld.cohortRoster_entry.ctorIdx) } else s))

omit hs in
/-- All that follows on a roster leaves the roster as it was set. -/
theorem Steady.applyRosterRest (hK : K < 2) (m : RosterMsg) {s : State} (hs : Steady K σ (rosterSet m s)) : Steady K σ (applyRoster m s) := by
  unfold Machine.applyRoster
  change Steady K σ (rosterSet m s) at hs
  unfold rosterSet at hs
  dsimp only
  generalize Machine.rset .cohortEpoch_epoch 0 m.epoch _ = u at hs ⊢
  have h1 : Steady K σ { u with fab := { u.fab with force := some m.force, gap := false } } := hs.face
  have h2 := h1.foldl (f := fun s p => Machine.stopBackups p.2 (Machine.moveRoute p.1 p.2 s)) (fun _ _ h => (h.moveRoute ..).stopBackups _)
      (substitutions m)
  generalize List.foldl _ _ (substitutions m) = v at h2 ⊢
  have h3 := (((((h2.ownPosition hK s m).selfBits).newSteward s).rosterEvents m).rosterAborts s m).rosterTwins s m
  generalize Machine.rosterTwins s m _ = w at h3 ⊢
  have h4 := (h3.foldl (f := fun s i => Machine.forget i s) (fun _ _ h => h.forget (by omega) _) (leavers s m ++ (substitutions m).map Prod.fst))
  generalize List.foldl _ w _ = x at h4 ⊢
  have h5 := (h4.rosterHarvest s (leavers s m ++ (substitutions m).map Prod.fst)).grantWaiting.reformSlices
  exact .ite h5 h5.beaconAll

omit hs in
theorem Steady.rosterSet (hs : Steady 0 σ τ) (m : RosterMsg) : Steady 0 σ (rosterSet m τ) := by
  unfold Machine.rosterSet
  exact (Steady.foldl (.ite (hs.loose) hs) (fun _ _ h => h.rsetAny ..) _).rsetAny ..

omit hs in
theorem Steady.applyRoster (hs : Steady 0 σ τ) (m : RosterMsg) : Steady 0 σ (applyRoster m τ) := (hs.rosterSet m).applyRosterRest (by decide)

theorem Steady.askRoster : Steady K σ (askRoster τ) := by
  unfold Machine.askRoster
  dsimp only
  exact .ite hs (hs.face.emit ..)

omit hs in theorem Steady.execRoster (hs : Steady 0 σ τ) (m : RosterMsg) : Next 0 σ (execRoster m τ) := by
  unfold Machine.execRoster
  exact .ite (.next (hs.rosterAborts ..)) (.ite (.next hs) (.ite (.next (hs.applyRoster ..)) (.next hs.askRoster)))

omit hs in theorem Steady.issueRoster (hs : Steady 0 σ τ) (co decision : Nat) (ch : List (Nat × Nat)) (suspect : Bool) : Steady 0 σ
    (issueRoster co decision ch suspect τ) := by
  unfold Machine.issueRoster
  dsimp only
  exact .emit (.ite ((((hs.emit ..).applyRoster ..).emit ..).emit ..) (((hs.emit ..).applyRoster ..).emit ..)) ..

omit hs in theorem Steady.grantEpoch (hs : Steady 0 σ τ) (co decision : Nat) (l : List Nat) (suspect : Bool) : Steady 0 σ (grantEpoch co
    decision l suspect τ) := by
  unfold Machine.grantEpoch
  dsimp only
  exact .ite hs (.ite (.ite (hs.issueRoster ..) (.ite (.ite (((hs.issueRoster ..).rflag (by decide) ..).raise0 ..) (hs.issueRoster ..))
      (hs.issueRoster ..))) (.ite (hs.issueRoster ..) (.ite (hs.issueRoster ..) (.ite (hs.issueRoster ..) hs))))

omit hs in theorem Steady.decide' (hs : Steady 0 σ τ) (co decision : Nat) (l : List Nat) (suspect : Bool) : Steady 0 σ (decide' co decision l
    suspect τ) := by
  unfold Machine.decide'
  dsimp only
  exact .ite (.grantEpoch (.ite ((hs.count1 (by decide) ..).count (by decide) ..) (hs.count1 (by decide) ..)) ..) (.emit (.ite ((hs.count1 (by
      decide) ..).count (by decide) ..) (hs.count1 (by decide) ..)) ..)

omit hs in theorem Steady.execEpochRequest (hs : Steady 0 σ τ) (cohort decision : Nat) (suspects : List Nat) (wantSpare : Bool) : Next 0 σ
    (execEpochRequest cohort decision suspects wantSpare τ) := by
  unfold Machine.execEpochRequest
  exact .ite (.next (hs.grantEpoch ..)) (.next hs)

theorem Steady.execFullRosterRequest (index : Nat) : Next K σ (execFullRosterRequest index τ) := by
  unfold Machine.execFullRosterRequest
  exact .ite (.next (hs.emit ..)) (.next hs)

theorem Steady.floodJoin (a : Nat × Nat × Nat) : Steady K σ (floodJoin a τ) := by
  unfold Machine.floodJoin
  exact .foldl hs (fun _ _ h1 => .ite (h1.emit ..) h1) ..

theorem Steady.execRosterJoin (h : CmdRef) (roster : BitVec 16) (cohort role : BitVec 8) : Next K σ (execRosterJoin h roster cohort role τ) := by
  unfold Machine.execRosterJoin
  dsimp only
  exact .next (.runPriv hs (fun _ h1 => .ite (h1.badParam ..) (.ite (h1.badParam ..) (.ite (h1.badParam ..) (.ite (h1.badParam ..) ((h1.face.waitFor
      ..).floodJoin ..))))) ..)

omit hs in theorem Steady.execJoinAnnouncement (hs : Steady 0 σ τ) (index cohort role : Nat) : Next 0 σ (execJoinAnnouncement index cohort
    role τ) := by
  unfold Machine.execJoinAnnouncement
  dsimp only
  exact .ite (.next hs) (.ite (.ite (.next (hs.issueRoster ..)) (.next hs)) (.ite (.next hs) (.next (hs.face.floodJoin ..))))

omit hs in theorem Steady.execEpochOneIssue (hs : Steady 0 σ τ) : Next 0 σ (execEpochOneIssue τ) := by
  unfold Machine.execEpochOneIssue
  dsimp only
  split
  · exact .next hs
  · exact .ite (.next hs) (.next ((hs.face.emit ..).applyRoster ..))

theorem Steady.execLivenessTokenSend (port : Nat) : Next K σ (execLivenessTokenSend port τ) := by
  unfold Machine.execLivenessTokenSend
  dsimp only
  exact .ite (.next hs) (.next ((hs.modPort ..).emit ..))

omit hs in theorem Steady.heldBack (hs : Steady 0 σ τ) (i : Nat) : Steady 0 σ (heldBack i τ) := by
  unfold Machine.heldBack
  exact .ite (hs.decide' ..) hs

omit hs in theorem Steady.execLivenessToken (hs : Steady 0 σ τ) (port : Nat) (t : LiveToken) : Next 0 σ (execLivenessToken port t τ) := by
  unfold Machine.execLivenessToken
  dsimp only
  exact .ite (.next hs) (.ite (.next (hs.modPort ..)) (.next (.ite (.ite (((((hs.modPort ..).face).rset (by decide) ..).resendTokens ..).askRoster)
      ((((hs.modPort ..).face).rset (by decide) ..).resendTokens ..)) (.heldBack (.ite (((((hs.modPort ..).face).rset (by decide) ..).resendTokens
      ..).askRoster) ((((hs.modPort ..).face).rset (by decide) ..).resendTokens ..)) ..))))

theorem Steady.execTokenSilence (port : Nat) : Next K σ (execTokenSilence port τ) := by
  unfold Machine.execTokenSilence
  exact .ite (.next (hs.suspectPeer ..)) (.next hs)

theorem Steady.execSuspicionReport (reporter suspect port cause epoch : Nat) : Next K σ (execSuspicionReport reporter suspect port cause epoch τ) :=
    by
  unfold Machine.execSuspicionReport
  exact .ite (.next hs) (.next (hs.takeReport ..))

theorem Steady.execProbe (index : Nat) : Next K σ (execProbe index τ) := by
  unfold Machine.execProbe
  exact .next (hs.emit ..)

theorem Steady.execProbeAnswer (index : Nat) : Next K σ (execProbeAnswer index τ) := by
  unfold Machine.execProbeAnswer
  dsimp only
  exact .next hs.face

theorem Steady.execResetNotice (index epoch boundMs : Nat) : Next K σ (execResetNotice index epoch boundMs τ) := by
  unfold Machine.execResetNotice
  dsimp only
  exact .ite (.next hs) (.next hs.face)

theorem Steady.execResetNoticeExpiry (index : Nat) : Next K σ (execResetNoticeExpiry index τ) := by
  unfold Machine.execResetNoticeExpiry
  dsimp only
  exact .ite (.next hs) (.next (hs.face.takeReport ..))

theorem Steady.dropSuspicions (l : List Nat) : Steady K σ (dropSuspicions l τ) := by
  unfold Machine.dropSuspicions
  dsimp only
  exact hs.face

omit hs in theorem Steady.decideSuspect (hs : Steady 0 σ τ) (i : Nat) : Steady 0 σ (decideSuspect i τ) := by
  unfold Machine.decideSuspect
  dsimp only
  split
  · exact hs
  · exact .ite (hs.dropSuspicions ..) (.ite ((hs.dropSuspicions ..).decide' ..) ((hs.decide' ..).dropSuspicions ..))

omit hs in theorem Steady.considerOne (hs : Steady 0 σ τ) (i : Nat) : Steady 0 σ (considerOne i τ) := by
  unfold Machine.considerOne
  dsimp only
  exact .ite hs (.ite (.ite (hs.decide' ..) hs) (.ite (hs.decide' ..) (.ite (.ite hs (hs.decide' ..)) (.ite (hs.face.decide' ..) (.ite hs
      ((hs.face.count1 (by decide) ..).raise0 ..))))))

omit hs in theorem Steady.considerAll (hs : Steady 0 σ τ) (slice : Nat) : Steady 0 σ (considerAll slice τ) := by
  unfold Machine.considerAll
  dsimp only
  exact .ite hs (.foldl hs (fun _ _ h1 => h1.considerOne ..) ..)

theorem Steady.hardOn (i : Nat) : Steady K σ (hardOn i τ) := by
  unfold Machine.hardOn
  dsimp only
  exact .ite hs.setHard (hs.face.emit ..)

omit hs in theorem Steady.execStewardDecision (hs : Steady 0 σ τ) (suspect cause : Nat) : Next 0 σ (execStewardDecision suspect cause τ) := by
  unfold Machine.execStewardDecision
  exact .ite (.next hs) (.ite (.next (.allSteps ((hs.count1 (by decide) ..).emit ..) (fun _ _ h1 => h1.abort3 ..))) (.ite (.next (hs.decideSuspect
      ..)) (.ite (.next hs) (.ite (.next (hs.considerOne ..)) (.ite (.next ((hs.hardOn ..).decide' ..)) (.next hs))))))

omit hs in theorem Steady.execDepartureNotice (hs : Steady 0 σ τ) (index epoch : Nat) : Next 0 σ (execDepartureNotice index epoch τ) := by
  unfold Machine.execDepartureNotice
  exact .ite (.next hs) (.next ((hs.dropSuspicions ..).decide' ..))

omit hs in theorem Steady.execHardFaultReport (hs : Steady 0 σ τ) (index ctx cause : Nat) : Next 0 σ (execHardFaultReport index ctx cause τ)
    := by
  unfold Machine.execHardFaultReport
  dsimp only
  exact .ite (.next hs) (.next ((hs.hardOn ..).decide' ..))

omit hs in theorem Steady.execPrimaryTakeover (hs : Steady 0 σ τ) (reachable : Nat) : Next 0 σ (execPrimaryTakeover reachable τ) := by
  unfold Machine.execPrimaryTakeover
  dsimp only
  exact .ite (.next hs) (.ite (.next ((((hs.face.rset (by decide) ..).rsetAny ..).decide' ..).dropSuspicions ..)) (.ite (.next ((hs.rflag (by decide)
      ..).raise0 ..)) (.next hs)))

theorem Steady.scoreNow : Steady K σ (scoreNow τ) := by
  unfold Machine.scoreNow
  dsimp only
  exact ((((((hs.rset (by decide) ..).rset (by decide) ..).rset (by decide) ..).rset (by decide) ..).rset (by decide) ..).rset (by decide) ..).rset
      (by decide) ..

theorem Steady.execHealthScore : Next K σ (execHealthScore τ) := by
  unfold Machine.execHealthScore
  exact .next hs.scoreNow

theorem Steady.execFabricManagerDelivery (kind : Nat) (data : List Byte) (arg : Nat) : Next K σ (execFabricManagerDelivery kind data arg τ) := by
  unfold Machine.execFabricManagerDelivery
  dsimp only
  exact .ite (.next (hs.takePlan ..)) (.ite (.next (hs.takeSlice ..)) (.ite (.next (.ite hs (hs.takeRoutes ..))) (.next hs)))

theorem Steady.execRosterNotice (hang : Bool) (index epoch : Nat) : Next K σ (execRosterNotice hang index epoch τ) := by
  unfold Machine.execRosterNotice
  dsimp only
  exact .ite (.next (.askRoster (.ite hs.face hs))) (.next (.ite hs.face hs))

theorem Steady.execCommitRecordRequest (index ctx step attempt : Nat) : Next K σ (execCommitRecordRequest index ctx step attempt τ) := by
  unfold Machine.execCommitRecordRequest
  dsimp only
  exact .next (hs.emit ..)

end

end Sys2Proof.Machine
end

section
/-! PROOFS. What every function of the model keeps (`Steady`), file by file: Commit, Start, Power, Commands, Host, Registers. -/

/- The lemmas are many and short: elaborated at once, each would hold a thread of its own while it waits for the ones before. -/
set_option Elab.async false

namespace Sys2Proof.Machine

section
variable {K : Nat} {σ τ : State} (hs : Steady K σ τ)
include hs

/-! ### Commit -/

theorem Steady.execLatenessReport (m : LateMsg) : Next K σ (execLatenessReport m τ) := by
  unfold Machine.execLatenessReport
  dsimp only
  exact .ite (.next hs) (.next hs.face)

theorem Steady.straggleOne (c i : Nat) (lat : Int) : Steady K σ (straggleOne c i lat τ) := by
  unfold Machine.straggleOne
  dsimp only
  exact hs.face

theorem Steady.backupEvent (c member module what : Nat) : Steady K σ (backupEvent c member module what τ) := by
  unfold Machine.backupEvent
  exact hs.raiseBoth ..

theorem Steady.endBackups (c : Nat) : Steady K σ (endBackups c τ) := by
  unfold Machine.endBackups
  dsimp only
  exact .foldl hs.face (fun _ _ h1 => (h1.emit ..).backupEvent ..) ..

theorem Steady.startBackups (c : Nat) : Steady K σ (startBackups c τ) := by
  unfold Machine.startBackups
  dsimp only
  refine .ite hs ?_
  refine Steady.foldl hs ?_ ..
  intro _ _ h1
  refine .ite h1 ?_
  split
  · exact (h1.face.emit ..).backupEvent ..
  · exact h1.backupEvent ..

theorem Steady.useShare : Steady K σ (useShare τ) := by
  unfold Machine.useShare
  dsimp only
  exact hs.face.setBudget

theorem Steady.ageShare : Steady K σ (ageShare τ) := by
  unfold Machine.ageShare
  dsimp only
  exact .ite hs.face ((hs.face.rset (by decide) ..).setBudget)

theorem Steady.shareGroup (late : List (Nat × Int)) : Steady K σ (shareGroup late τ) := by
  unfold Machine.shareGroup
  dsimp only
  exact .foldl hs (fun _ _ h1 => h1.face.emit ..) ..

theorem Steady.shareAll (late : List (Nat × Int)) : Steady K σ (shareAll late τ) := by
  unfold Machine.shareAll
  dsimp only
  exact .foldl hs.useFree (fun _ _ h1 => h1.shareGroup ..) ..

theorem Steady.skipMark (slice : Nat) : Steady K σ (skipMark slice τ) := by
  unfold Machine.skipMark
  dsimp only
  split
  · exact .ite (hs.face.count1 (by decide) ..) (hs.face.emit ..)
  · exact hs.face

theorem Steady.setMark (slice : Nat) : Steady K σ (setMark slice τ) := by
  unfold Machine.setMark
  dsimp only
  exact hs.face

theorem Steady.issueCommit (slice : Nat) (m : SealMsg) (l : List Nat) : Steady K σ (issueCommit slice m l τ) := by
  unfold Machine.issueCommit
  dsimp only
  exact .foldl (.ite hs.face (.ite (hs.face.skipMark ..) (hs.face.setMark ..))) (fun _ _ h1 => h1.emit ..) ..

theorem Steady.keepSeal (slice : Nat) (m : SealMsg) : Steady K σ (keepSeal slice m τ) := by
  unfold Machine.keepSeal
  dsimp only
  exact hs.face

theorem Steady.execSealRecord (slice : Nat) (m : SealMsg) : Next K σ (execSealRecord slice m τ) := by
  unfold Machine.execSealRecord
  dsimp only
  exact .ite (.next hs) (.ite (.ite (.next ((hs.keepSeal ..).issueCommit ..)) (.next (hs.keepSeal ..))) (.ite (.next (.foldl (hs.keepSeal ..) (fun _
      _ h1 => h1.emit ..) ..)) (.next (hs.keepSeal ..))))

theorem Steady.execHarvestRequest (slice member : Nat) (policy : Option (Nat × Nat)) (closedEverywhere : Bool) : Next K σ (execHarvestRequest slice
    member policy closedEverywhere τ) := by
  unfold Machine.execHarvestRequest
  dsimp only
  refine .ite (.next hs) ?_
  split
  · exact .ite (.next hs.face) (.next hs)
  · exact .ite (.next ((hs.setMark ..).emit ..)) (.next hs.face)

omit hs in theorem Steady.stewardCommit (hs : Steady 0 σ τ) (c : Nat) (m : CommitMsg) : Steady 0 σ (stewardCommit c m τ) := by
  unfold Machine.stewardCommit
  dsimp only
  refine .ite hs ?_
  refine Steady.shareAll ?_ ..
  refine Steady.considerAll ?_ ..
  refine Steady.endBackups ?_ ..
  split
  · exact .rset (.rset (.rset (.foldl (.foldl hs.face (fun _ _ h1 => h1.straggleOne ..) ..) (fun _ _ h1 => h1.emit ..) ..) (by decide) ..) (by
        decide) ..) (by decide) ..
  · exact .foldl (.foldl hs.face (fun _ _ h1 => h1.straggleOne ..) ..) (fun _ _ h1 => h1.emit ..) ..

theorem Steady.straggleRegs (c : Nat) (m : CommitMsg) : Steady K σ (straggleRegs c m τ) := by
  unfold Machine.straggleRegs
  split
  · exact ((hs.rset (by decide) ..).rset (by decide) ..).rset (by decide) ..
  · exact hs

omit hs in theorem Steady.execCommit (hs : Steady 0 σ τ) (ctx : Nat) (m : CommitMsg) : Next 0 σ (execCommit ctx m τ) := by
  unfold Machine.execCommit
  dsimp only
  exact .ite (.next (hs.modStep ..)) (.ite (.next ((hs.stewardCommit ..).straggleRegs ..)) (.ite (.next (((hs.stewardCommit ..).straggleRegs
      ..).hardFault ..)) (.next (.ite ((((((hs.stewardCommit ..).straggleRegs ..).flip ..).ageShare).scoreNow).markStep ..) (((((hs.stewardCommit
      ..).straggleRegs ..).flip ..).ageShare).scoreNow)))))

theorem Steady.execStepOpen (h : CmdRef) (step : Word64) (microbatches : BitVec 16) : Next K σ (execStepOpen h step microbatches τ) := by
  unfold Machine.execStepOpen
  dsimp only
  refine .next ?_
  refine Steady.runCmd hs ?_ ..
  intro _ h1
  refine .ite h1 ?_
  refine .ite (h1.badParam ..) ?_
  refine .ite (h1.finish ..) ?_
  split
  · exact h1.badParam ..
  · exact .finish (.startBackups (.useShare (.leaveIdle (.openStep (.ite (h1.abandon ..) h1) ..))) ..) ..

/-! ### Start -/

theorem Steady.putSlot (b : Bool) (x : FwSlot) : Steady K σ (putSlot b x τ) := by
  unfold Machine.putSlot
  dsimp only
  exact hs.face

theorem Steady.execFwStage (h : CmdRef) (image bytes : Word64) : Next K σ (execFwStage h image bytes τ) := by
  unfold Machine.execFwStage
  dsimp only
  exact .next (.runPriv hs (fun _ h1 => .ite ((h1.cmdRead ..).finish ..) (((((h1.cmdRead ..).putSlot ..).rset (by decide) ..).raise0 ..).finishOk
      ..)) ..)

theorem Steady.execFwActivate (h : CmdRef) : Next K σ (execFwActivate h τ) := by
  unfold Machine.execFwActivate
  dsimp only
  exact .next (.runPriv hs (fun _ h1 => .ite (h1.finish ..) (h1.face.finishOk ..)) ..)

omit hs in
theorem Steady.stopAll (hs : Steady 0 σ τ) : Steady 0 σ (Machine.stopAll τ) := by
  unfold Machine.stopAll
  dsimp only
  exact hs.loose

omit hs in
theorem Steady.enterHeld (hs : Steady 0 σ τ) (reason : Nat) : Steady 0 σ (Machine.enterHeld reason τ) := by
  unfold Machine.enterHeld
  dsimp only
  have h1 := ((hs.stopAll.rset_of (free_zero .mcBootStatus_heldReason) 0 reason).rset_of (free_zero .mcStatus_phase) 0 3).rset_of
    (free_zero .mcStatus_ready) 0 0
  generalize Machine.rset .mcStatus_ready 0 0 _ = u at h1 ⊢
  have h2 := h1.setHard.foldl_rset (l := [.hostifLink_up, .hostifLink_width, .hostifLink_rate, .hostifLink_flit]) (by decide) 0 0
  generalize List.foldl _ (Machine.setHard u) _ = v at h2 ⊢
  have h3 : Steady 0 σ { v with boot := { v.boot with starting := false } } := h2.loose
  exact h3.foldl (fun _ _ h => (h.rset_of (free_zero _) ..).rset_of (free_zero _) ..) _

theorem Steady.setStraps (l : List Nat) : Steady K σ (setStraps l τ) := by
  unfold Machine.setStraps
  dsimp only
  exact ((((hs.rset (by decide) ..).rset (by decide) ..).rset (by decide) ..).rset (by decide) ..).rset (by decide) ..

theorem Steady.trainPorts : Steady K σ (trainPorts τ) := by
  unfold Machine.trainPorts
  exact .foldl hs (fun _ _ h1 => h1.rset (by decide) ..) ..

theorem Steady.runImage (b fallback : Bool) : Steady K σ (runImage b fallback τ) := by
  unfold Machine.runImage
  dsimp only
  exact ((((((((hs.rset (by decide) ..).rset (by decide) ..).rset (by decide) ..).rset (by decide) ..).rset (by decide) ..).face).trainPorts).rset
      (by decide) ..).rset (by decide) ..

omit hs in
theorem Steady.bootImage (hs : Steady 0 σ τ) : Steady 0 σ (Machine.bootImage τ) := by
  unfold Machine.bootImage
  dsimp only
  exact .ite (hs.runImage ..) (.ite (hs.runImage ..) (hs.enterHeld ..))

omit hs in
theorem Steady.execPowerGood (hs : Steady 0 σ τ) (straps : List (BitVec 2)) (otpOk fdieOk : Bool) : Next 0 σ (Machine.execPowerGood straps otpOk
      fdieOk τ) := by
  unfold Machine.execPowerGood
  dsimp only
  exact .next (.ite hs (.ite ((hs.face.setStraps ..).enterHeld ..) (.ite ((hs.face.setStraps ..).enterHeld ..) (.ite ((hs.face.setStraps
      ..).enterHeld ..) ((hs.face.setStraps ..).bootImage)))))

theorem Steady.loadSnap (x : AlmSnap) : Steady K σ (loadSnap x τ) := by
  unfold Machine.loadSnap
  dsimp only
  exact ((hs.face.rset (by decide) ..).rset (by decide) ..).rset (by decide) ..

theorem Steady.spareChannel (bad : List (Nat × Nat)) (d p : Nat) : Steady K σ (spareChannel bad d p τ) := by
  unfold Machine.spareChannel
  dsimp only
  split
  · exact hs
  · exact .ite hs (hs.face.substDone ..)

theorem Steady.applyFound (f : TestFound) : Steady K σ (applyFound f τ) := by
  unfold Machine.applyFound
  dsimp only
  have h1 := hs.foldl (f := fun s x => if sget 0 s.sp.clState (islKey x.1 x.2) = 0 then Machine.substCluster x.1 x.2 9 2 s else Machine.setClState
      x.1 x.2 2 s)
    (fun _ _ h => .ite (h.substCluster ..) (h.setClState ..)) f.clusters
  have h2 := h1.foldl (f := fun s x => Machine.spareChannel f.channels x.1 x.2 s) (fun _ _ h => h.spareChannel ..) f.channels
  refine Steady.foldl ?_ ?_ _
  · exact h2
  · exact fun u d h => h.trans (.of_eq id id List.suffix_rfl List.prefix_rfl)

theorem Steady.refurbish (f : TestFound) : Steady K σ (refurbish f τ) := by
  unfold Machine.refurbish
  dsimp only
  exact hs.face.rset (by decide) ..

theorem Steady.planIslands (cold : Bool) : Steady K σ (planIslands cold τ) := by
  unfold Machine.planIslands
  dsimp only
  exact .foldl hs (fun _ _ h1 => .ite (.substCluster (.ite (h1.setPlan ..) h1) ..) (.ite (h1.setPlan ..) h1)) ..

theorem Steady.startRecord (cold sealedBefore : Bool) (lastSeq : Nat) : Steady K σ (startRecord cold sealedBefore lastSeq τ) := by
  unfold Machine.startRecord
  exact hs.almMod ..

theorem Steady.startRecords (cold : Bool) (seconds : Nat) (f : TestFound) : Steady K σ (startRecords cold seconds f τ) := by
  unfold Machine.startRecords
  dsimp only
  exact .sealAll (.gradeRecord (.startRecord (.foldl (.ite ((hs.almMod ..).almSeal ..) hs) (fun _ _ h1 => h1.marginRecord ..) ..) ..))

omit hs in
theorem Steady.startDone (hs : Steady 0 σ τ) (cold was : Bool) (seconds : Nat) : Steady 0 σ (Machine.startDone cold was seconds τ) := by
  unfold Machine.startDone
  dsimp only
  have h1 := ((hs.rsetAny .mcBootStatus_emberCode 0 τ.alm.emberCode).rsetAny .mcBootStatus_startS 0 (satTo 8 seconds)).rsetAny .mcBootStatus_cold 0
    (b2n cold)
  generalize Machine.rset .mcBootStatus_cold 0 (b2n cold) _ = u at h1 ⊢
  have h2 : Steady 0 σ (if was then u else Machine.rflag .mcBootStatus_unsealedSeen 0 u) := .ite h1 (h1.rflag (by decide) 0)
  generalize (if was then u else Machine.rflag .mcBootStatus_unsealedSeen 0 u) = v at h2 ⊢
  have h3 := (h2.rsetAny .mcStatus_ready 0 1).rsetAny .mcStatus_cpPresent 0 ((liveDies τ).map (fun d => 2 ^ d)).sum
  generalize Machine.rset .mcStatus_cpPresent 0 _ _ = w at h3 ⊢
  split
  · exact .raise0 (.loose (.raise0 (.loose h3) ..)) ..
  · exact .raise0 (.loose h3) ..

omit hs in
theorem Steady.execStartComplete (hs : Steady 0 σ τ) (seconds : Nat) (fdieOk block0Ok : Bool) (lastValid : Option Nat) (found : TestFound) : Next 0 σ
      (Machine.execStartComplete
    seconds fdieOk block0Ok lastValid found τ) := by
  unfold Machine.execStartComplete
  dsimp only
  refine .next ?_
  refine .ite hs ?_
  split
  · refine Steady.enterHeld ?_ ..
    refine Steady.planIslands ?_ ..
    refine Steady.applyFound ?_ ..
    refine .ite ?_ ?_
    · refine Steady.refurbish ?_ ..
      split
      · exact hs.loadSnap ..
      · exact hs
    · split
      · exact hs.loadSnap ..
      · exact hs
  · refine Steady.startDone ?_ ..
    refine Steady.startRecords ?_ ..
    refine Steady.refreshPools ?_
    refine Steady.planIslands ?_ ..
    refine Steady.applyFound ?_ ..
    refine .ite ?_ ?_
    · refine Steady.refurbish ?_ ..
      split
      · exact hs.loadSnap ..
      · exact hs
    · split
      · exact hs.loadSnap ..
      · exact hs

theorem Steady.execAttest (h : CmdRef) (dest : Word64) (nonce : BitVec 256) : Next K σ (execAttest h dest nonce τ) := by
  unfold Machine.execAttest
  dsimp only
  exact .next (.runCmd hs (fun _ h1 => .ite (h1.badParam ..) ((h1.ctxWrite ..).finishOk ..)) ..)

theorem Steady.takeTrigger (n : Nat) : Steady K σ (takeTrigger n τ) := by
  unfold Machine.takeTrigger
  dsimp only
  exact .ite hs.face (hs.face.emit ..)

theorem Steady.execShutdown (h : CmdRef) : Next K σ (execShutdown h τ) := by
  unfold Machine.execShutdown
  dsimp only
  exact .next (.runPriv hs (fun _ h1 => (h1.face.waitFor ..).takeTrigger ..) ..)

omit hs in
theorem Steady.enterEmber (hs : Steady 0 σ τ) : Steady 0 σ (Machine.enterEmber τ) := by
  unfold Machine.enterEmber
  dsimp only
  have h1 := (hs.stopAll.rset_of (free_zero .mcStatus_ready) 0 0).rset_of (free_zero .mcStatus_phase) 0 2
  generalize Machine.rset .mcStatus_phase 0 2 _ = u at h1 ⊢
  refine h1.trans (.of_eq (fun h => ?_) id List.suffix_rfl List.prefix_rfl)
  exact swfFrom_filter _ _ h

omit hs in
theorem Steady.execShutdownReqN (hs : Steady 0 σ τ) : Next 0 σ (Machine.execShutdownReqN τ) := by
  unfold Machine.execShutdownReqN
  dsimp only
  exact .next (.ite hs (.ite hs.loose.enterEmber ((hs.wakeUp ..).takeTrigger ..)))

omit hs in
theorem Steady.quiesceCtx {r : State × Nat} (hr : Steady K σ r.1) (c : Nat) : Steady K σ (quiesceCtx r c).1 := by
  unfold Machine.quiesceCtx
  split
  · exact ((hr.stopWork ..).setJournal ..).flushReplies ..
  · exact hr.disableCtxBut ..

theorem Steady.quiesceFns : Steady K σ (quiesceFns τ) := by
  unfold Machine.quiesceFns
  dsimp only
  exact .foldl hs (fun _ _ h1 => .disabledEvent (.foldl_fst h1 (fun _ _ h2 => h2.quiesceCtx ..) ..) ..) ..

omit hs in
theorem Steady.quiesced (hs : Steady 0 σ τ) : Steady 0 σ (Machine.quiesced τ) := by
  unfold Machine.quiesced
  dsimp only
  exact (((((hs.almMod ..).almSeal ..).sealAll).finishWaits ..).flushReplies ..).enterEmber

omit hs in
theorem Steady.execQuiesceTimeout (hs : Steady 0 σ τ) : Next 0 σ (Machine.execQuiesceTimeout τ) := by
  unfold Machine.execQuiesceTimeout
  exact .next (.ite hs hs.quiesceFns.quiesced)

theorem Steady.driveResult (code : Nat) : Steady K σ (driveResult code τ) := by
  unfold Machine.driveResult
  dsimp only
  exact hs.face

theorem Steady.advanceCounter (code : Nat) : Steady K σ (advanceCounter code τ) := by
  unfold Machine.advanceCounter
  dsimp only
  exact .ite (hs.face.rset (by decide) ..) hs

theorem Steady.sealEmber (code ms : Nat) (f : TestFound) : Steady K σ (sealEmber code ms f τ) := by
  unfold Machine.sealEmber
  dsimp only
  exact .ite (hs.driveResult ..) (.driveResult (.rset (.sealAll (.almSeal (.almMod (.foldl (hs.advanceCounter ..) (fun _ _ h1 => h1.marginRecord ..)
      ..) ..) ..)) (by decide) ..) ..)

theorem Steady.execEmberDone (ms : Nat) (found : TestFound) : Next K σ (execEmberDone ms found τ) := by
  unfold Machine.execEmberDone
  dsimp only
  exact .next (.ite hs ((hs.applyFound ..).sealEmber ..))

theorem Steady.execEmberTimeout : Next K σ (execEmberTimeout τ) := by
  unfold Machine.execEmberTimeout
  exact .next (.ite hs (hs.sealEmber ..))

theorem Steady.execHeartbeat : Next K σ (execHeartbeat τ) := by
  unfold Machine.execHeartbeat
  dsimp only
  exact .next (.ite hs.face hs)

omit hs in
theorem Steady.unpowered (hs : Steady 0 σ τ) : Steady 0 σ (unpowered τ) := by
  unfold Machine.unpowered
  dsimp only
  generalize hu : ({ State.reset with pending := τ.pending, free := τ.free, io := _, mem := _, host := _, alm := _, boot := _ } : State) = u
  have h1 : Steady 0 τ u := by
    rw [← hu]
    exact ⟨rfl, fun h => swfFrom_filter _ _ h, id, List.suffix_rfl, List.prefix_rfl, fun h => absurd h (by decide), fun h => absurd h (by decide),
      fun h => absurd h (by decide)⟩
  exact ((((((hs.trans h1).rset (by decide) ..).rset (by decide) ..).rset (by decide) ..).rset (by decide) ..)).loadSnap _

omit hs in theorem Steady.execLossOfInput (hs : Steady 0 σ τ) : Next 0 σ (execLossOfInput τ) := by
  unfold Machine.execLossOfInput
  exact .next hs.unpowered

omit hs in theorem Steady.execOverVoltage (hs : Steady 0 σ τ) : Next 0 σ (execOverVoltage τ) := by
  unfold Machine.execOverVoltage
  exact .next hs.unpowered

/-! ### Power -/

theorem Steady.supplyEvent (kind voltage : Nat) : Steady K σ (supplyEvent kind voltage τ) := by
  unfold Machine.supplyEvent
  exact hs.raise0 ..

theorem Steady.execHighInput (above : Bool) (voltage : Nat) : Next K σ (execHighInput above voltage τ) := by
  unfold Machine.execHighInput
  dsimp only
  exact .next (.ite hs (hs.face.supplyEvent ..))

theorem Steady.execSupplyWarning (voltage : Nat) : Next K σ (execSupplyWarning voltage τ) := by
  unfold Machine.execSupplyWarning
  dsimp only
  exact .next (.ite hs (((((hs.face.rflag (by decide) ..).count1 (by decide) ..).setBudget).supplyEvent ..).urgent))

theorem Steady.execSupplyWarningRelease (voltage : Nat) : Next K σ (execSupplyWarningRelease voltage τ) := by
  unfold Machine.execSupplyWarningRelease
  dsimp only
  exact .next (.ite hs (hs.face.setBudget.supplyEvent ..))

theorem Steady.execThrottleN (low : Bool) (voltage : Nat) : Next K σ (execThrottleN low voltage τ) := by
  unfold Machine.execThrottleN
  dsimp only
  exact .next (.ite hs (.ite (((hs.face.setBudget.rflag (by decide) ..).count1 (by decide) ..).supplyEvent ..) (hs.face.setBudget.supplyEvent ..)))

omit hs in theorem Steady.execSupplyReset (hs : Steady 0 σ τ) (voltage : Nat) : Next 0 σ (execSupplyReset voltage τ) := by
  unfold Machine.execSupplyReset
  dsimp only
  exact .next (.ite hs (.ite ((((hs.loose.rset_of (free_zero _) ..).rflag_of (free_zero _) ..).trouble_of (free_zero _) ..).loose) (.ite
      (((hs.loose.rset_of (free_zero _)
      ..).rflag_of (free_zero _) ..).trouble_of (free_zero _) ..) ((((hs.loose.rset_of (free_zero _) ..).rflag_of (free_zero _) ..).trouble_of
      (free_zero _) ..).beginReset
      ..))))

omit hs in
theorem Steady.execSupplyResetRelease (hs : Steady 0 σ τ) : Next 0 σ (Machine.execSupplyResetRelease τ) := by
  unfold Machine.execSupplyResetRelease
  dsimp only
  exact .next hs.loose

theorem Steady.addEnergy (uj : Nat) : Steady K σ (addEnergy uj τ) := by
  unfold Machine.addEnergy
  dsimp only
  exact hs.face.count (by decide) ..

theorem Steady.execPeakLimiter (sample projected mean voltage power : Nat) (windowEnd : Bool) : Next K σ (execPeakLimiter sample projected mean
    voltage power windowEnd τ) := by
  unfold Machine.execPeakLimiter
  dsimp only
  exact .next (.ite (.raise0 (.rflag (.ite (((((hs.rset (by decide) ..).rset (by decide) ..).addEnergy ..).face).count1 (by decide) ..) ((((hs.rset
      (by decide) ..).rset (by decide) ..).addEnergy ..).face)) (by decide) ..) ..) (.ite (((((hs.rset (by decide) ..).rset (by decide) ..).addEnergy
      ..).face).count1 (by decide) ..) ((((hs.rset (by decide) ..).rset (by decide) ..).addEnergy ..).face)))

theorem Steady.execPowerPeakSet (h : CmdRef) (watts : BitVec 32) : Next K σ (execPowerPeakSet h watts τ) := by
  unfold Machine.execPowerPeakSet
  exact .next (.runPriv hs (fun _ h1 => .ite (h1.badParam ..) (((h1.rset (by decide) ..).setBudget).finishOk ..)) ..)

theorem Steady.setIn {f : Fld} (hf : f.fixed = false) (lo hi v : Nat) : Steady K σ (setIn f lo hi v τ) := by
  unfold Machine.setIn
  exact .ite (hs.rset hf ..) hs

theorem Steady.writeTray (v : Nat) : Steady K σ (writeTray v τ) := by
  unfold Machine.writeTray
  exact ((hs.setIn (by decide) ..).setIn (by decide) ..).setBudget

theorem Steady.execPwrTray (fn : Nat) (value : BitVec 32) : Next K σ (execPwrTray fn value τ) := by
  unfold Machine.execPwrTray
  dsimp only
  exact .next (.ite (hs.dropLatch ..) ((hs.dropLatch ..).writeTray ..))

theorem Steady.execDieCapUpdate (other : Int) (base draw : List Nat) : Next K σ (execDieCapUpdate other base draw τ) := by
  unfold Machine.execDieCapUpdate
  dsimp only
  exact .next (.foldl hs.face.setBudget (fun _ _ h1 => .ite (((h1.rset (by decide) ..).rset (by decide) ..).evalDie ..) ((h1.rset (by decide)
      ..).rset (by decide) ..)) ..)

theorem Steady.execEquinoxShare (share : Int) : Next K σ (execEquinoxShare share τ) := by
  unfold Machine.execEquinoxShare
  dsimp only
  exact .next (.ite hs (hs.face.rset (by decide) ..))

theorem Steady.dropShare : Steady K σ (dropShare τ) := by
  unfold Machine.dropShare
  dsimp only
  exact (hs.face.rset (by decide) ..).setBudget

theorem Steady.execPwrCtl (fn : Nat) (value : BitVec 32) : Next K σ (execPwrCtl fn value τ) := by
  unfold Machine.execPwrCtl
  dsimp only
  exact .next (.ite (hs.dropLatch ..) (.ite (.wakeUp (.ite (.dropShare (.rset (.ite (hs.dropLatch ..) ((hs.dropLatch ..).rset (by decide) ..)) (by
      decide) ..)) (.rset (.ite (hs.dropLatch ..) ((hs.dropLatch ..).rset (by decide) ..)) (by decide) ..)) ..) (.ite (.dropShare (.rset (.ite
      (hs.dropLatch ..) ((hs.dropLatch ..).rset (by decide) ..)) (by decide) ..)) (.rset (.ite (hs.dropLatch ..) ((hs.dropLatch ..).rset (by decide)
      ..)) (by decide) ..))))

theorem Steady.thermalRecord (kind die : Nat) (tj : Int) (ms : Nat) : Steady K σ (thermalRecord kind die tj ms τ) := by
  unfold Machine.thermalRecord
  exact (hs.almMod ..).count1 (by decide) ..

theorem Steady.thermEvent (code die cluster : Nat) (tj : Int) : Steady K σ (thermEvent code die cluster tj τ) := by
  unfold Machine.thermEvent
  exact hs.raise0 ..

theorem Steady.coolant (die : Nat) (tj inlet : Int) (flow : Nat) : Steady K σ (coolant die tj inlet flow τ) := by
  unfold Machine.coolant
  dsimp only
  exact .ite (((((hs.face.rset (by decide) ..).rset (by decide) ..).rflag (by decide) ..).raise0 ..).thermalRecord ..) ((hs.face.rset (by decide)
      ..).rset (by decide) ..)

theorem Steady.throttled (die cluster : Nat) (tj : Int) : Steady K σ (throttled die cluster tj τ) := by
  unfold Machine.throttled
  dsimp only
  exact .ite (((hs.rflag (by decide) ..).count1 (by decide) ..).thermEvent ..) ((hs.rflag (by decide) ..).count1 (by decide) ..)

theorem Steady.islandReading (die cluster : Nat) (tj : Int) (ms : Nat) : Steady K σ (islandReading die cluster tj ms τ) := by
  unfold Machine.islandReading
  dsimp only
  exact .ite (.rset (.rset (.ite (.thermalRecord (.ite (.thermalRecord (.urgent (.thermEvent (.rflag (.ite ((hs.setIsl ..).throttled ..) (hs.setIsl
      ..)) (by decide) ..) ..)) ..) (.ite ((hs.setIsl ..).throttled ..) (hs.setIsl ..))) ..) (.ite (.thermalRecord (.urgent (.thermEvent (.rflag
      (.ite ((hs.setIsl ..).throttled ..) (hs.setIsl ..)) (by decide) ..) ..)) ..) (.ite ((hs.setIsl ..).throttled ..) (hs.setIsl ..)))) (by decide)
      ..) (by decide) ..) (.evalDie (.aim (.rset (.rset (.ite (.thermalRecord (.ite (.thermalRecord (.urgent (.thermEvent (.rflag (.ite ((hs.setIsl
      ..).throttled ..) (hs.setIsl ..)) (by decide) ..) ..)) ..) (.ite ((hs.setIsl ..).throttled ..) (hs.setIsl ..))) ..) (.ite (.thermalRecord
      (.urgent (.thermEvent (.rflag (.ite ((hs.setIsl ..).throttled ..) (hs.setIsl ..)) (by decide) ..) ..)) ..) (.ite ((hs.setIsl ..).throttled ..)
      (hs.setIsl ..)))) (by decide) ..) (by decide) ..) ..) ..)

theorem Steady.execThermalReading (die cluster : Nat) (tj inlet : Int) (flow hotMs : Nat) : Next K σ (execThermalReading die cluster tj inlet flow
    hotMs τ) := by
  unfold Machine.execThermalReading
  dsimp only
  exact .next (.ite (hs.coolant ..) (.ite ((hs.coolant ..).rset (by decide) ..) ((hs.coolant ..).islandReading ..)))

omit hs in
theorem Steady.execThermalTrip (hs : Steady 0 σ τ) (die : Nat) : Next 0 σ (Machine.execThermalTrip die τ) := by
  unfold Machine.execThermalTrip
  dsimp only
  exact .next (.ite hs ((((((hs.rflag (by decide) ..).ror (by decide) ..).thermalRecord ..).almSeal ..).sealAll).enterHeld ..))

theorem Steady.execIdleEntry : Next K σ (execIdleEntry τ) := by
  unfold Machine.execIdleEntry
  exact .next (.ite hs (hs.setPwrState ..))

theorem Steady.execPowerState (h : CmdRef) (state : BitVec 8) : Next K σ (execPowerState h state τ) := by
  unfold Machine.execPowerState
  dsimp only
  exact .next (.runPriv hs (fun _ h1 => .ite (h1.badParam ..) (.ite (.finishOk (.ite ((h1.rset (by decide) ..).leaveIdle) (h1.rset (by decide) ..))
      ..) (.ite (h1.finish ..) (((h1.waitFor ..).rset (by decide) ..).setPwrState ..)))) ..)

theorem Steady.fallowWidth (p w : Nat) : Steady K σ (fallowWidth p w τ) := by
  unfold Machine.fallowWidth
  exact .ite hs ((hs.rset (by decide) ..).linkState ..)

theorem Steady.gateDies : Steady K σ (gateDies τ) := by
  refine hs.trans (.of_eq (fun h => ?_) id List.suffix_rfl List.prefix_rfl)
  exact swfFrom_filter _ _ h

theorem Steady.execFallowEntryDone : Next K σ (execFallowEntryDone τ) := by
  unfold Machine.execFallowEntryDone
  dsimp only
  exact .next (.ite hs (.setPwrState (.flushReplies (.finishWaits (.foldl hs.gateDies (fun _ _ h1 => h1.fallowWidth ..) ..) ..) ..) ..))

theorem Steady.execFallowExit (cause : Nat) : Next K σ (execFallowExit cause τ) := by
  unfold Machine.execFallowExit
  exact .next (hs.wakeUp ..)

theorem Steady.execFallowExitDone : Next K σ (execFallowExitDone τ) := by
  unfold Machine.execFallowExitDone
  dsimp only
  exact .next (.ite hs (.keptDoorbells (.setPwrState (.rset (.foldl hs (fun _ _ h1 => h1.fallowWidth ..) ..) (by decide) ..) ..)))

theorem Steady.execEnergyMode (h : CmdRef) (mode : BitVec 8) : Next K σ (execEnergyMode h mode τ) := by
  unfold Machine.execEnergyMode
  dsimp only
  exact .next (.runPriv hs (fun _ h1 => .ite (h1.badParam ..) ((h1.face.rset (by decide) ..).finishOk ..)) ..)

theorem Steady.execEnergyRead (h : CmdRef) (dest : Word64) (ctx : BitVec 8) : Next K σ (execEnergyRead h dest ctx τ) := by
  unfold Machine.execEnergyRead
  dsimp only
  exact .next (.runCmd hs (fun _ h1 => .ite (h1.badParam ..) (.ite (h1.badParam ..) ((h1.ctxWrite ..).finishOk ..))) ..)

/-! ### Commands -/

theorem Steady.execNop (h : CmdRef) : Next K σ (execNop h τ) := by
  unfold Machine.execNop
  exact .next (.runCmd hs (fun _ h1 => h1.finishOk ..) ..)

theorem Steady.execCtxCreate (h : CmdRef) (ctx function partition : BitVec 8) (queueQuota journalMib : BitVec 16) : Next K σ (execCtxCreate h ctx
    function partition queueQuota journalMib τ) := by
  unfold Machine.execCtxCreate
  dsimp only
  refine .next ?_
  refine Steady.runPriv hs ?_ ..
  intro _ h1
  split
  · exact h1.badParam ..
  · exact (h1.setCtx ..).finish ..

theorem Steady.execEventSignal (h : CmdRef) (event : BitVec 16) (value : Word64) : Next K σ (execEventSignal h event value τ) := by
  unfold Machine.execEventSignal
  dsimp only
  exact .next (.runCmd hs (fun _ h1 => .ite (h1.badParam ..) (((h1.modCtx ..).finishWaits ..).finishOk ..)) ..)

theorem Steady.execEventWait (h : CmdRef) (event : BitVec 16) (value : Word64) : Next K σ (execEventWait h event value τ) := by
  unfold Machine.execEventWait
  dsimp only
  exact .next (.runCmd hs (fun _ h1 => .ite (h1.badParam ..) (.ite (h1.finishOk ..) (h1.waitFor ..))) ..)

theorem Steady.flushWaiting : Steady K σ (flushWaiting τ) := by
  unfold Machine.flushWaiting
  dsimp only
  exact .foldl hs.face (fun _ _ h1 => .ite ((h1.ringWrite ..).countDrop ..) (h1.ringWrite ..)) ..

theorem Steady.execEventRing (h : CmdRef) (log2 : BitVec 8) (vec : BitVec 16) (ring : Word64) : Next K σ (execEventRing h log2 vec ring τ) := by
  unfold Machine.execEventRing
  dsimp only
  exact .next (.runCmd hs (fun _ h1 => .ite (h1.badParam ..) (.finishOk (.ite ((h1.modCtx ..).flushWaiting) (h1.modCtx ..)) ..)) ..)

omit hs in
theorem Steady.resumeQueue (hs : Steady 0 σ τ) (q consumed : Nat) (x : Queue) : Steady 0 σ (Machine.resumeQueue q consumed x τ) := by
  unfold Machine.resumeQueue
  dsimp only
  exact (hs.setJournal ..).setQueueAny (by decide) ..

theorem Steady.flushQueue (q : Nat) : Steady K σ (flushQueue q τ) := by
  unfold Machine.flushQueue
  exact .foldl hs (fun _ _ h1 => h1.replyOne ..) ..

omit hs in
theorem Steady.execQueueCreate (hs : Steady 0 σ τ) (h : CmdRef) (queue : BitVec 16) (ctx qflags : BitVec 8) (sqBase cqBase : Word64) (sqLog2 cqLog2 :
      BitVec 8) (vec :
    BitVec 16) (startSeq cqConsumed : BitVec 32) : Next 0 σ (Machine.execQueueCreate h queue ctx qflags sqBase cqBase sqLog2 cqLog2 vec startSeq
        cqConsumed
    τ) := by
  unfold Machine.execQueueCreate
  dsimp only
  exact .next (.runCmd hs (fun _ h1 => .ite (h1.badParam ..) (.ite (((((h1.resumeQueue ..).finishOk ..).freeRecs).flushQueue ..).fetchLoop ..)
      ((h1.setQueueAny (by decide) ..).finishOk ..))) ..)

theorem Steady.execQueueDestroy (h : CmdRef) (queue : BitVec 16) : Next K σ (execQueueDestroy h queue τ) := by
  unfold Machine.execQueueDestroy
  dsimp only
  refine .next (.runCmd hs (fun _ h1 => .ite (.badParam (h1.modQueue (fun y => ?_) _) ..) (((h1.modQueue (by exact fun _ => ⟨rfl, id⟩)
    _).waitFor ..).drainQueues)) ..)
  split
  · exact ⟨rfl, id⟩
  · exact ⟨rfl, id⟩

theorem Steady.finishStores (h : CmdRef) (before : State) : Steady K σ (finishStores h before τ) := by
  unfold Machine.finishStores
  dsimp only
  exact .ite (hs.finishOk ..) (hs.waitFor ..)

theorem Steady.copyPoison (c dst src : Nat) (bad : List Nat) (bytes : Nat) : Steady K σ (copyPoison c dst src bad bytes τ) := by
  unfold Machine.copyPoison
  exact .foldl hs (fun _ _ h1 => .foldl h1 (fun _ _ h2 => h2.poisonLine ..) ..) ..

theorem Steady.execMemCopy (h : CmdRef) (dst src bytes : Word64) : Next K σ (execMemCopy h dst src bytes τ) := by
  unfold Machine.execMemCopy
  dsimp only
  exact .next (.runCmd hs (fun _ h1 => (((h1.cmdRead ..).ctxWrite ..).copyPoison ..).finishStores ..) ..)

theorem Steady.execMemFill (h : CmdRef) (dst bytes pattern : Word64) : Next K σ (execMemFill h dst bytes pattern τ) := by
  unfold Machine.execMemFill
  dsimp only
  exact .next (.runCmd hs (fun _ h1 => (h1.ctxWrite ..).finishStores ..) ..)

theorem Steady.execMemDigest (h : CmdRef) (addr bytes : Word64) : Next K σ (execMemDigest h addr bytes τ) := by
  unfold Machine.execMemDigest
  dsimp only
  exact .next (.runCmd hs (fun _ h1 => (h1.cmdRead ..).finish ..) ..)

theorem Steady.execWindowSet (h : CmdRef) (ctx : BitVec 8) (count : BitVec 16) (table : Word64) : Next K σ (execWindowSet h ctx count table τ) := by
  unfold Machine.execWindowSet
  dsimp only
  refine .next ?_
  refine Steady.runPriv hs ?_ ..
  intro _ h1
  refine .ite (h1.badParam ..) ?_
  split
  · exact (h1.cmdRead ..).badParam ..
  · exact (((h1.cmdRead ..).modCtx ..).waitFor ..).windowCheck ..

theorem Steady.execCxlMap (h : CmdRef) (port : BitVec 8) (base bytes : Word64) : Next K σ (execCxlMap h port base bytes τ) := by
  unfold Machine.execCxlMap
  dsimp only
  exact .next (.runPriv hs (fun _ h1 => .ite (h1.badParam ..) (.ite (h1.badParam ..) (((((h1.drainXfers ..).rset (by decide) ..).rset (by decide)
      ..).face).finishOk ..))) ..)

theorem Steady.execDiagRun (h : CmdRef) (test target : BitVec 16) : Next K σ (execDiagRun h test target τ) := by
  unfold Machine.execDiagRun
  exact .next (.runPriv hs (fun _ h1 => h1.useFree.finish ..) ..)

theorem Steady.execTroubleRead (h : CmdRef) (dest : Word64) : Next K σ (execTroubleRead h dest τ) := by
  unfold Machine.execTroubleRead
  exact .next (.runPriv hs (fun _ h1 => (h1.ctxWrite ..).finishOk ..) ..)

omit hs in
theorem Steady.execPartitionSet (hs : Steady 0 σ τ) (h : CmdRef) (partition dieMask : BitVec 8) : Next 0 σ (Machine.execPartitionSet h partition
      dieMask τ) := by
  unfold Machine.execPartitionSet
  dsimp only
  exact .next (.runPriv hs (fun _ h1 => .ite (h1.badParam ..) (.ite (h1.loose.finishOk ..) (.finishOk (.disabledEvent (.loose (.foldl_fst h1 (fun _ _
      h2 => h2.disableCtx ..) ..)) ..) ..))) ..)

theorem Steady.execHoldReleased (c : Nat) : Next K σ (execHoldReleased c τ) := by
  unfold Machine.execHoldReleased
  dsimp only
  exact .next (.ite (.foldl ((hs.releaseCtx ..).modStep ..) (fun _ _ h1 => h1.stepFault ..) ..) hs)

theorem Steady.trigPhys (d p : Nat) : Steady K σ (trigPhys d p τ) := by
  unfold Machine.trigPhys
  exact .elim hs (fun _ => hs.migTrigger ..)

theorem Steady.patrolFixed (d p line : Nat) (data : List Byte) : Steady K σ (patrolFixed d p line data τ) := by
  unfold Machine.patrolFixed
  dsimp only
  exact .ite (.trigPhys (.elim ((hs.count1 (by decide) ..).healthLog ..) (fun _ => ((hs.count1 (by decide) ..).healthLog ..).keyWrite ..)) ..) (.elim
      ((hs.count1 (by decide) ..).healthLog ..) (fun _ => ((hs.count1 (by decide) ..).healthLog ..).keyWrite ..))

theorem Steady.pendingBad (k : Nat) : Steady K σ (pendingBad k τ) := by
  unfold Machine.pendingBad
  dsimp only
  refine Steady.foldl hs ?_ ..
  intro _ _ h1
  refine .ite h1 ?_
  refine .ite (h1.updFault ..) ?_
  split
  · exact .ite (h1.emit ..) h1
  · exact h1

theorem Steady.patrolBad (d p line kind : Nat) : Steady K σ (patrolBad d p line kind τ) := by
  unfold Machine.patrolBad
  dsimp only
  exact .trigPhys (.elim ((((hs.useFree.raise0 ..).almDetection ..).count1 (by decide) ..).rflag (by decide) ..) (fun _ => (((((hs.useFree.raise0
      ..).almDetection ..).count1 (by decide) ..).rflag (by decide) ..).face).pendingBad ..)) ..

theorem Steady.execPatrolRead (die channel line : Nat) (data check : List Byte) : Next K σ (execPatrolRead die channel line data check τ) := by
  unfold Machine.execPatrolRead
  refine .next ?_
  refine .ite hs ?_
  split
  · exact hs
  · exact hs
  · exact hs.patrolFixed ..
  · exact hs.patrolBad ..
  · exact hs.patrolBad ..

theorem Steady.execCdieMemMigrate (fn die : Nat) (value : BitVec 32) : Next K σ (execCdieMemMigrate fn die value τ) := by
  unfold Machine.execCdieMemMigrate
  dsimp only
  exact .next (.ite (hs.dropLatch ..) ((hs.dropLatch ..).migTrigger ..))

theorem Steady.migDone (d : Nat) : Steady K σ (migDone d τ) := by
  unfold Machine.migDone
  dsimp only
  exact (((((hs.face.rset (by decide) ..).rset (by decide) ..).rset (by decide) ..).rflag (by decide) ..).raise0 ..).substDone ..

theorem Steady.execMemMigrationDone (die : Nat) : Next K σ (execMemMigrationDone die τ) := by
  unfold Machine.execMemMigrationDone
  exact .next (.ite hs (hs.migDone ..))

theorem Steady.poisonFrom (d ch copied : Nat) : Steady K σ (poisonFrom d ch copied τ) := by
  unfold Machine.poisonFrom
  dsimp only
  exact hs.face

theorem Steady.execChannelStopsAnswering (die copied : Nat) : Next K σ (execChannelStopsAnswering die copied τ) := by
  unfold Machine.execChannelStopsAnswering
  exact .next (.ite hs ((hs.poisonFrom ..).migDone ..))

theorem Steady.remoteReply (r : RemoteReq) (bad : Bool) (b : List Byte) : Steady K σ (remoteReply r bad b τ) := by
  unfold Machine.remoteReply
  exact hs.emit ..

theorem Steady.remoteWrite (r : RemoteReq) (c : Nat) : Steady K σ (remoteWrite r c τ) := by
  unfold Machine.remoteWrite
  dsimp only
  exact (hs.ctxWrite ..).face

theorem Steady.execRemoteTrayRequest (r : RemoteReq) : Next K σ (execRemoteTrayRequest r τ) := by
  unfold Machine.execRemoteTrayRequest
  dsimp only
  refine .next ?_
  refine .ite hs ?_
  refine .ite (hs.noteGen ..) ?_
  refine .ite (((hs.noteGen ..).wakeUp ..).remoteReply ..) ?_
  split
  · exact (((hs.noteGen ..).wakeUp ..).count1 (by decide) ..).remoteReply ..
  · exact .ite ((((hs.noteGen ..).wakeUp ..).remoteWrite ..).remoteReply ..) ((((hs.noteGen ..).wakeUp ..).ctxRead ..).remoteReply ..)

theorem Steady.execRemoteTrayResponse (tag : Nat) (data : List Byte) (gen : Nat) (poison : Bool) : Next K σ (execRemoteTrayResponse tag data gen
    poison τ) := by
  unfold Machine.execRemoteTrayResponse
  dsimp only
  split
  · exact .next hs
  · refine .ite (.next (hs.count1 (by decide) ..)) ?_
    refine .next ?_
    refine Steady.windowCheck ?_ ..
    refine Steady.storeDone ?_ ..
    split
    · exact hs.face
    · refine .ite (hs.face.remotePoison ..) ?_
      refine Steady.retry ?_ ..
      split
      · exact .ite hs.face (hs.face.setEng ..)
      · exact hs.face

theorem Steady.execNumwCtl (fn ctx : Nat) (value : BitVec 32) : Next K σ (execNumwCtl fn ctx value τ) := by
  unfold Machine.execNumwCtl
  dsimp only
  exact .next (.ite (hs.dropLatch ..) (.ite (.ite (hs.dropLatch ..) ((hs.dropLatch ..).rset (by decide) ..)) (.raiseBoth (.ite (.rflag (.rset (.ite
      (hs.dropLatch ..) ((hs.dropLatch ..).rset (by decide) ..)) (by decide) ..) (by decide) ..) (.rset (.ite (hs.dropLatch ..) ((hs.dropLatch
      ..).rset (by decide) ..)) (by decide) ..)) ..)))

theorem Steady.execTwinJournalRecord (peer ctx q : Nat) (seq : BitVec 32) (data : List Byte) : Next K σ (execTwinJournalRecord peer ctx q seq data τ)
    := by
  unfold Machine.execTwinJournalRecord
  dsimp only
  exact .next (.ite hs (((hs.wakeUp ..).face).emit ..))

theorem Steady.execCommandProcessorHeartbeat (die : Nat) : Next K σ (execCommandProcessorHeartbeat die τ) := by
  unfold Machine.execCommandProcessorHeartbeat
  exact .next (.ite (hs.ror (by decide) ..) hs)

/-! ### Host -/

theorem Steady.sendPending (fn : Nat) : Steady K σ (sendPending fn τ) := by
  unfold Machine.sendPending
  dsimp only
  exact .ite hs (.foldl hs (fun _ _ h1 => h1.face.emit ..) ..)

theorem Steady.resumeFn (fn : Nat) : Steady K σ (resumeFn fn τ) := by
  unfold Machine.resumeFn
  exact .ite hs (.foldl (hs.sendPending ..) (fun _ _ h1 => (h1.flushQueue ..).fetchLoop ..) ..)

theorem Steady.setDmaBit (fn b : Nat) (on : Bool) : Steady K σ (setDmaBit fn b on τ) := by
  unfold Machine.setDmaBit
  dsimp only
  exact hs.face

theorem Steady.execBusMasterEnableClear (fn : Nat) : Next K σ (execBusMasterEnableClear fn τ) := by
  unfold Machine.execBusMasterEnableClear
  exact .next (.ite (hs.setDmaBit ..) hs)

theorem Steady.execBusMasterEnableSet (fn : Nat) : Next K σ (execBusMasterEnableSet fn τ) := by
  unfold Machine.execBusMasterEnableSet
  exact .next (.ite ((hs.setDmaBit ..).resumeFn ..) hs)

theorem Steady.execD3hot (fn : Nat) : Next K σ (execD3hot fn τ) := by
  unfold Machine.execD3hot
  exact .next (.ite (hs.setDmaBit ..) hs)

theorem Steady.execD0Entry (fn : Nat) : Next K σ (execD0Entry fn τ) := by
  unfold Machine.execD0Entry
  exact .next (.ite ((hs.setDmaBit ..).resumeFn ..) hs)

theorem Steady.fnConfigReset (fn : Nat) : Steady K σ (fnConfigReset fn τ) := by
  unfold Machine.fnConfigReset
  dsimp only
  exact .ite hs.face hs.face

omit hs in
theorem Steady.dropVfs (hs : Steady 0 σ τ) : Steady 0 σ (Machine.dropVfs τ) := by
  unfold Machine.dropVfs
  dsimp only
  exact .foldl (hs.loose.rset_of (free_zero _) ..) (fun _ _ h1 => (h1.fnConfigReset ..).disableFn (by decide) ..) ..

omit hs in
theorem Steady.execVfEnableClear (hs : Steady 0 σ τ) : Next 0 σ (Machine.execVfEnableClear τ) := by
  unfold Machine.execVfEnableClear
  exact .next (.ite hs (.foldl hs.dropVfs (fun _ _ h1 => h1.reportDisable (by decide) ..) ..))

omit hs in
theorem Steady.execVfEnableSet (hs : Steady 0 σ τ) (numVfs : Nat) : Next 0 σ (Machine.execVfEnableSet numVfs τ) := by
  unfold Machine.execVfEnableSet
  exact .next (.ite hs ((hs.rset_of (free_zero _) ..).rset_of (free_zero _) ..))

omit hs in
theorem Steady.flrBegin (hs : Steady 0 σ τ) (fn : Nat) : Steady 0 σ (Machine.flrBegin fn τ) := by
  unfold Machine.flrBegin
  dsimp only
  have h0 : Steady 0 σ { τ with host := { τ.host with flr := τ.host.flr ++ [fn] } } := hs.loose
  have h1 := (h0.rflag_of (free_zero .hostifStatus_flrSeen) 0).trouble_of (free_zero .troubleLog_flr) 1
  generalize Machine.trouble .troubleLog_flr 1 _ = u at h1 ⊢
  refine .ite ?_ (h1.disableFn (by decide) _)
  have hl : ∀ f ∈ adminFields, f.fixed = false := by decide
  exact List.foldlRecOn _ _ (motive := Steady 0 σ) (h1.dropVfs.disableFn (by decide) 0) fun _ hu f hf => hu.rset (hl f hf) ..

omit hs in
theorem Steady.execFunctionLevelReset (hs : Steady 0 σ τ) (fn : Nat) : Next 0 σ (Machine.execFunctionLevelReset fn τ) := by
  unfold Machine.execFunctionLevelReset
  exact .next (.ite (hs.flrBegin ..) hs)

omit hs in
theorem Steady.execFunctionLevelResetDone (hs : Steady 0 σ τ) (fn : Nat) : Next 0 σ (Machine.execFunctionLevelResetDone fn τ) := by
  unfold Machine.execFunctionLevelResetDone
  dsimp only
  exact .next (.ite hs (.ite (.foldl (hs.loose.fnConfigReset ..) (fun _ _ h1 => h1.reportDisable (by decide) ..) ..) ((hs.loose.fnConfigReset
      ..).reportDisable (by decide)
      ..)))

theorem Steady.hostLinkEvent (hot : Bool) : Steady K σ (hostLinkEvent hot τ) := by
  unfold Machine.hostLinkEvent
  exact hs.raise0 ..

omit hs in
theorem Steady.execHotReset (hs : Steady 0 σ τ) : Next 0 σ (Machine.execHotReset τ) := by
  unfold Machine.execHotReset
  exact .next (.hostLinkEvent (.ite (hs.flrBegin ..) (hs.rflag_of (free_zero _) ..)) ..)

theorem Steady.setHostLink (up w r fl : Nat) : Steady K σ (setHostLink up w r fl τ) := by
  unfold Machine.setHostLink
  exact (((hs.rset (by decide) ..).rset (by decide) ..).rset (by decide) ..).rset (by decide) ..

theorem Steady.execPcieLinkDown : Next K σ (execPcieLinkDown τ) := by
  unfold Machine.execPcieLinkDown
  exact .next (.ite hs (((hs.setHostLink ..).rflag (by decide) ..).hostLinkEvent ..))

theorem Steady.execPcieLinkUp (w r : Nat) (flit : Bool) : Next K σ (execPcieLinkUp w r flit τ) := by
  unfold Machine.execPcieLinkUp
  exact .next (.ite hs (.foldl ((hs.setHostLink ..).hostLinkEvent ..) (fun _ _ h1 => h1.resumeFn ..) ..))

theorem Steady.openVector (fn vector : Nat) : Steady K σ (openVector fn vector τ) := by
  unfold Machine.openVector
  dsimp only
  exact hs.face.sendPending ..

theorem Steady.execMsixUnmask (fn vector : Nat) : Next K σ (execMsixUnmask fn vector τ) := by
  unfold Machine.execMsixUnmask
  dsimp only
  exact .next (.ite ((hs.dropLatch ..).openVector ..) (hs.dropLatch ..))

omit hs in
theorem Steady.execBar4Resize (hs : Steady 0 σ τ) (fn sizeLog2 : Nat) : Next 0 σ (Machine.execBar4Resize fn sizeLog2 τ) := by
  unfold Machine.execBar4Resize
  dsimp only
  exact .next (.ite hs hs.loose)

theorem Steady.hostReply (fn : Nat) (ur : Bool) (b : List Byte) : Steady K σ (hostReply fn ur b τ) := by
  unfold Machine.hostReply
  dsimp only
  exact hs.face.emit ..

theorem Steady.execBar4Access (fn off size : Nat) (write : Bool) (data : List Byte) : Next K σ (execBar4Access fn off size write data τ) := by
  unfold Machine.execBar4Access
  dsimp only
  exact .next (.ite ((hs.dropLatch ..).hostReply ..) (.ite (.ite (hs.dropLatch ..) ((hs.dropLatch ..).hostReply ..)) (.ite ((hs.dropLatch
      ..).ctxWrite ..) (((hs.dropLatch ..).cmdRead ..).hostReply ..))))

theorem Steady.reply (name : String) (fields : List Nat) (b : List Byte) : Steady K σ (reply name fields b τ) := by
  unfold Machine.reply
  exact hs.emit ..

theorem Steady.vendor {body : State → State} (hb : ∀ u, Steady K σ u → Steady K σ (body u)) (pcie : Bool) (cmd : Nat) (name : String) :
    Next K σ (vendor pcie cmd name body τ) := by
  unfold Machine.vendor
  refine .next ?_
  split
  · exact hb _ hs
  · exact hs.reply ..
  · exact hs.reply ..
  · exact hs

theorem Steady.typed {body : State → State} (hb : ∀ u, Steady K σ u → Steady K σ (body u)) (pcie : Bool) (t : Nat) : Next K σ (typed pcie t body τ)
      := by
  unfold Machine.typed
  refine .next ?_
  split
  · exact hb _ hs
  · exact hs.reply ..
  · exact hs

theorem Steady.execTraySet (pcie : Bool) (grant peak : BitVec 16) : Next K σ (execTraySet pcie grant peak τ) := by
  unfold Machine.execTraySet
  dsimp only
  exact Steady.vendor hs (fun _ h1 => .ite (h1.reply ..) ((h1.writeTray ..).reply ..)) ..

theorem Steady.execTrayIdSet (pcie : Bool) (trayId : BitVec 32) : Next K σ (execTrayIdSet pcie trayId τ) := by
  unfold Machine.execTrayIdSet
  dsimp only
  exact Steady.vendor hs (fun _ h1 => .ite (h1.reply ..) (h1.face.reply ..)) ..

theorem Steady.execAlmanacGet (pcie : Bool) (seq : Word64) (offset : BitVec 32) (length : BitVec 16) : Next K σ (execAlmanacGet pcie seq offset
    length τ) := by
  unfold Machine.execAlmanacGet
  exact Steady.vendor hs (fun _ h1 => .ite (h1.reply ..) (h1.reply ..)) ..

theorem Steady.newNonce : Steady K σ (newNonce τ) := by
  unfold Machine.newNonce
  dsimp only
  exact hs.face

theorem Steady.execUnlockNonce (pcie : Bool) : Next K σ (execUnlockNonce pcie τ) := by
  unfold Machine.execUnlockNonce
  dsimp only
  exact Steady.vendor hs (fun _ h1 => .reply (.ite h1 h1.newNonce) ..) ..

theorem Steady.execUnlock (pcie : Bool) (ed mldsa : List Byte) : Next K σ (execUnlock pcie ed mldsa τ) := by
  unfold Machine.execUnlock
  dsimp only
  exact Steady.vendor hs (fun _ h1 => .ite (h1.reply ..) (.ite (h1.face.reply ..) (h1.face.newNonce.reply ..))) ..

theorem Steady.execStatusGet (pcie : Bool) : Next K σ (execStatusGet pcie τ) := by
  unfold Machine.execStatusGet
  exact Steady.vendor hs (fun _ h1 => h1.reply ..) ..

theorem Steady.execSetEndpointId (pcie : Bool) (eid : BitVec 8) : Next K σ (execSetEndpointId pcie eid τ) := by
  unfold Machine.execSetEndpointId
  dsimp only
  exact Steady.typed hs (fun _ h1 => .ite (h1.reply ..) (h1.face.reply ..)) ..

theorem Steady.execSetdasa (static dynamic : BitVec 7) : Next K σ (execSetdasa static dynamic τ) := by
  unfold Machine.execSetdasa
  dsimp only
  exact .next (.ite hs.face hs)

theorem Steady.spdmReply (name : String) (b : List Byte) : Steady K σ (spdmReply name b τ) := by
  unfold Machine.spdmReply
  dsimp only
  exact .ite (hs.reply ..) (hs.face.reply ..)

theorem Steady.spdmNote (req : List Byte) (resp : List Byte) : Steady K σ (spdmNote req resp τ) := by
  unfold Machine.spdmNote
  dsimp only
  exact hs.face

theorem Steady.spdmError (code : Nat) : Steady K σ (spdmError code τ) := by
  unfold Machine.spdmError
  dsimp only
  exact hs.face.reply ..

theorem Steady.execGetVersion (pcie : Bool) : Next K σ (execGetVersion pcie τ) := by
  unfold Machine.execGetVersion
  dsimp only
  exact Steady.typed hs (fun _ h1 => (h1.face.spdmNote ..).spdmReply ..) ..

theorem Steady.execGetCapabilities (pcie : Bool) : Next K σ (execGetCapabilities pcie τ) := by
  unfold Machine.execGetCapabilities
  exact Steady.typed hs (fun _ h1 => .ite (h1.spdmError ..) ((h1.spdmNote ..).spdmReply ..)) ..

theorem Steady.execNegotiateAlgorithms (pcie : Bool) (ed25519 sha : Bool) : Next K σ (execNegotiateAlgorithms pcie ed25519 sha τ) := by
  unfold Machine.execNegotiateAlgorithms
  dsimp only
  exact Steady.typed hs (fun _ h1 => .ite (h1.spdmError ..) (.ite (h1.spdmError ..) ((h1.face.spdmNote ..).spdmReply ..))) ..

theorem Steady.spdmReq {body : State → State} (hb : ∀ u, Steady K σ u → Steady K σ (body u)) (pcie : Bool) : Next K σ (spdmReq pcie body τ) :=
  hs.typed (fun u hu => .ite (hb u hu) (hu.spdmError ..)) ..

theorem Steady.execGetDigests (pcie : Bool) : Next K σ (execGetDigests pcie τ) := by
  unfold Machine.execGetDigests
  dsimp only
  exact Steady.spdmReq hs (fun _ h1 => (h1.spdmNote ..).spdmReply ..) ..

theorem Steady.execGetCertificate (pcie : Bool) (slot : BitVec 8) (offset length : BitVec 16) : Next K σ (execGetCertificate pcie slot offset length
    τ) := by
  unfold Machine.execGetCertificate
  dsimp only
  exact Steady.spdmReq hs (fun _ h1 => .ite (h1.spdmError ..) ((h1.spdmNote ..).spdmReply ..)) ..

theorem Steady.spdmSigned (name : String) (req resp : List Byte) : Steady K σ (spdmSigned name req resp τ) := by
  unfold Machine.spdmSigned
  dsimp only
  exact hs.face.spdmReply ..

theorem Steady.execChallenge (pcie : Bool) (slot : BitVec 8) (nonce : List Byte) : Next K σ (execChallenge pcie slot nonce τ) := by
  unfold Machine.execChallenge
  exact Steady.spdmReq hs (fun _ h1 => .ite (h1.spdmError ..) (h1.useFree.spdmSigned ..)) ..

theorem Steady.execGetMeasurements (pcie : Bool) (index : BitVec 8) (sign : Bool) (nonce : List Byte) : Next K σ (execGetMeasurements pcie index sign
    nonce τ) := by
  unfold Machine.execGetMeasurements
  dsimp only
  refine Steady.spdmReq hs ?_ ..
  intro _ h1
  split
  · exact h1.spdmError ..
  · exact .ite (h1.useFree.spdmSigned ..) ((h1.useFree.spdmNote ..).spdmReply ..)

theorem Steady.execChunkGet (pcie : Bool) (handle : BitVec 8) (index : BitVec 16) : Next K σ (execChunkGet pcie handle index τ) := by
  unfold Machine.execChunkGet
  dsimp only
  exact Steady.typed hs (fun _ h1 => .ite (h1.reply ..) (h1.reply ..)) ..

theorem Steady.execGetPqSignature (pcie : Bool) : Next K σ (execGetPqSignature pcie τ) := by
  unfold Machine.execGetPqSignature
  dsimp only
  refine Steady.typed hs ?_ ..
  intro _ h1
  split
  · exact h1.spdmError ..
  · exact h1.face.spdmReply ..

theorem Steady.execGetPqKey (pcie : Bool) : Next K σ (execGetPqKey pcie τ) := by
  unfold Machine.execGetPqKey
  dsimp only
  exact Steady.typed hs (fun _ h1 => h1.face.spdmReply ..) ..

theorem Steady.reportSensors : Steady K σ (reportSensors τ) := by
  unfold Machine.reportSensors
  dsimp only
  split
  · exact .face (.foldl hs (fun _ _ h1 => h1.face.reply ..) ..)
  · exact hs.face

theorem Steady.execGetSensorReading (pcie : Bool) (sensor : BitVec 16) : Next K σ (execGetSensorReading pcie sensor τ) := by
  unfold Machine.execGetSensorReading
  dsimp only
  exact Steady.typed hs (fun _ h1 => .ite (h1.reply ..) (h1.reply ..)) ..

theorem Steady.execGetStateSensorReadings (pcie : Bool) (sensor : BitVec 16) : Next K σ (execGetStateSensorReadings pcie sensor τ) := by
  unfold Machine.execGetStateSensorReadings
  dsimp only
  exact Steady.typed hs (fun _ h1 => .ite (h1.reply ..) (h1.reply ..)) ..

theorem Steady.execSetEventReceiver (pcie : Bool) (receiver : BitVec 8) : Next K σ (execSetEventReceiver pcie receiver τ) := by
  unfold Machine.execSetEventReceiver
  dsimp only
  exact Steady.typed hs (fun _ h1 => (h1.face.reply ..).reportSensors) ..

theorem Steady.execPldmSensorUpdate : Next K σ (execPldmSensorUpdate τ) := by
  unfold Machine.execPldmSensorUpdate
  exact .next (.ite hs hs.reportSensors)

theorem Steady.cxlEvent (m : Nat) : Steady K σ (cxlEvent m τ) := by
  unfold Machine.cxlEvent
  exact hs.raise0 ..

theorem Steady.execCxlPortChanged (m : Nat) (up present : Bool) (w r : Nat) (ser cap : Word64) : Next K σ (execCxlPortChanged m up present w r ser
    cap τ) := by
  unfold Machine.execCxlPortChanged
  dsimp only
  exact .next (.ite hs (.cxlEvent (.ite (.rset (.rset (.ite (.rflag (.ite ((((((hs.rset (by decide) ..).rset (by decide) ..).rset (by decide)
      ..).rset (by decide) ..).face).rset (by decide) ..) ((((hs.rset (by decide) ..).rset (by decide) ..).rset (by decide) ..).rset (by decide) ..))
      (by decide) ..) (.ite ((((((hs.rset (by decide) ..).rset (by decide) ..).rset (by decide) ..).rset (by decide) ..).face).rset (by decide) ..)
      ((((hs.rset (by decide) ..).rset (by decide) ..).rset (by decide) ..).rset (by decide) ..))) (by decide) ..) (by decide) ..) (.ite (.rflag
      (.ite ((((((hs.rset (by decide) ..).rset (by decide) ..).rset (by decide) ..).rset (by decide) ..).face).rset (by decide) ..) ((((hs.rset (by
      decide) ..).rset (by decide) ..).rset (by decide) ..).rset (by decide) ..)) (by decide) ..) (.ite ((((((hs.rset (by decide) ..).rset (by
      decide) ..).rset (by decide) ..).rset (by decide) ..).face).rset (by decide) ..) ((((hs.rset (by decide) ..).rset (by decide) ..).rset (by
      decide) ..).rset (by decide) ..)))) ..))

/-! ### Registers -/

theorem Steady.execHalfReadLatch (fn off : Nat) : Next K σ (execHalfReadLatch fn off τ) := by
  unfold Machine.execHalfReadLatch
  dsimp only
  exact .next (.ite (hs.hostReply ..) (.ite ((hs.dropLatch ..).hostReply ..) (.ite (hs.face.hostReply ..) ((hs.dropLatch ..).hostReply ..))))

omit hs in
theorem Next.own {o : Out} (h : Next K σ o) {s u : State} (hu : some (Machine.nextOf s o) = some u) : Steady K σ u := by
  obtain ⟨t, rfl, ht⟩ := h
  cases hu
  exact ht

omit hs in
theorem Steady.ownRow (hs : Steady 0 σ τ) (off v : Nat) {u : State} (hu : ownRow off v τ = some u) : Steady 0 σ u := by
  unfold Machine.ownRow at hu
  dsimp only at hu
  split at hu
  · exact (hs.execQueueAdminCfg ..).own hu
  split at hu
  · exact (hs.execPwrTray ..).own hu
  split at hu
  · exact (hs.execPwrCtl ..).own hu
  split at hu
  · exact (hs.execVigilFence ..).own hu
  split at hu
  · exact (hs.execAlmanacCtl ..).own hu
  split at hu
  · exact (hs.execCdieMtxCheckCtl ..).own hu
  · exact (hs.execCdieVecOctaveCtl ..).own hu
  · exact (hs.execCdieMemMigrate ..).own hu
  · exact (hs.execNumwCtl ..).own hu
  · exact (hs.execLinkPortCtl ..).own hu
  · cases hu

omit hs in
theorem Steady.writeField (hs : Steady 0 σ τ) (w v m : Nat) (x : Fld × Nat) : Steady 0 σ (Machine.writeField w v m x τ) := by
  unfold Machine.writeField
  dsimp only
  split
  · exact .ite (hs.rsetAny ..) hs
  · exact hs.rsetAny ..
  · have h1 : Steady 0 σ { τ with lost := sset 0 τ.lost (fldKey x.1 x.2) 0, remain := sset 0 τ.remain (fldKey x.1 x.2) 0 } := hs.face
    exact .ite (h1.rsetAny ..) hs
  · exact hs

theorem Steady.msixWriteWord (fn k v : Nat) : Steady K σ (msixWriteWord fn k v τ) := by
  unfold Machine.msixWriteWord
  dsimp only
  exact .ite hs.face (.ite (hs.openVector ..) hs.face)

theorem Steady.msixWrite (fn off size v : Nat) : Steady K σ (msixWrite fn off size v τ) := by
  unfold Machine.msixWrite
  exact .ite hs (.ite ((hs.msixWriteWord ..).msixWriteWord ..) (hs.msixWriteWord ..))

theorem Steady.pageWrite (fn off v : Nat) : Steady K σ (pageWrite fn off v τ) := by
  unfold Machine.pageWrite
  exact .ite ((hs.execQueueDbSqTail ..).nextOf ..) (.ite ((hs.execQueueDbCqHead ..).nextOf ..) (.ite hs (hs.count1 (by decide) ..)))

omit hs in
theorem Steady.blockWrite (hs : Steady 0 σ τ) (off size v : Nat) : Steady 0 σ (Machine.blockWrite off size v τ) := by
  unfold Machine.blockWrite
  dsimp only
  split
  · next h =>
    split at h
    · exact hs.ownRow _ _ h
    · cases h
  · exact .ite (Steady.setBudget (hs.foldl (fun _ _ h => h.writeField ..) _)) hs

omit hs in
theorem Steady.regWrite (hs : Steady 0 σ τ) (fn off size v : Nat) : Steady 0 σ (Machine.regWrite fn off size v τ) := by
  unfold Machine.regWrite
  dsimp only
  exact .ite (hs.dropLatch ..) (.ite ((hs.dropLatch ..).pageWrite ..) (.ite (.ite ((hs.dropLatch ..).msixWrite ..) (hs.dropLatch ..)) (.ite
      ((hs.dropLatch ..).msixWrite ..) (.ite (hs.dropLatch ..) ((hs.dropLatch ..).blockWrite ..)))))

omit hs in
theorem Steady.execSatClear (hs : Steady 0 σ τ) (fn off size : Nat) (value : Word64) : Next 0 σ (Machine.execSatClear fn off size value τ) := by
  unfold Machine.execSatClear
  exact .next (hs.regWrite ..)

omit hs in
theorem Steady.execStClear (hs : Steady 0 σ τ) (fn off size : Nat) (value : Word64) : Next 0 σ (Machine.execStClear fn off size value τ) := by
  unfold Machine.execStClear
  exact .next (hs.regWrite ..)

omit hs in
theorem Steady.execRegisterWrite (hs : Steady 0 σ τ) (fn off size : Nat) (value : Word64) : Next 0 σ (Machine.execRegisterWrite fn off size value τ)
      := by
  unfold Machine.execRegisterWrite
  exact .next (hs.regWrite ..)

end

end Sys2Proof.Machine
end

section
/-! PROOFS. Every command answers a next state that keeps the queue and the form of memory (O4, O5). -/

/- The lemmas are many and short: elaborated at once, each would hold a thread of its own while it waits for the ones before. -/
set_option Elab.async false

namespace Sys2Proof.Machine

theorem exec_next (i : Instr) (s : State) : Next 0 s (exec i s) := by
  cases i with
  | nop => exact Steady.refl.execNop ..
  | ctxCreate => exact Steady.refl.execCtxCreate ..
  | ctxDestroy => exact Steady.refl.execCtxDestroy ..
  | ctxReset => exact Steady.refl.execCtxReset ..
  | queueCreate => exact Steady.refl.execQueueCreate ..
  | queueDestroy => exact Steady.refl.execQueueDestroy ..
  | geometryRead => exact Steady.refl.execGeometryRead ..
  | memCopy => exact Steady.refl.execMemCopy ..
  | memFill => exact Steady.refl.execMemFill ..
  | memDigest => exact Steady.refl.execMemDigest ..
  | windowSet => exact Steady.refl.execWindowSet ..
  | cxlMap => exact Steady.refl.execCxlMap ..
  | graphLoad => exact Steady.refl.execGraphLoad ..
  | graphUnload => exact Steady.refl.execGraphUnload ..
  | graphRun => exact Steady.refl.execGraphRun ..
  | eventSignal => exact Steady.refl.execEventSignal ..
  | eventWait => exact Steady.refl.execEventWait ..
  | eventRing => exact Steady.refl.execEventRing ..
  | stepOpen => exact Steady.refl.execStepOpen ..
  | inputRetain => exact Steady.refl.execInputRetain ..
  | microbatchEnd => exact Steady.refl.execMicrobatchEnd ..
  | stepUpdate => exact Steady.refl.execStepUpdate ..
  | stepSeal => exact Steady.refl.execStepSeal ..
  | stepCommitWait => exact Steady.refl.execStepCommitWait ..
  | stepAbort => exact Steady.refl.execStepAbort ..
  | exchange => exact Steady.refl.execExchange ..
  | mirrorBind => exact Steady.refl.execMirrorBind ..
  | mirrorRelease => exact Steady.refl.execMirrorRelease ..
  | stragglerSet => exact Steady.refl.execStragglerSet ..
  | harvestTarget => exact Steady.refl.execHarvestTarget ..
  | harvestPolicy => exact Steady.refl.execHarvestPolicy ..
  | harvestNow => exact Steady.refl.execHarvestNow ..
  | restore => exact Steady.refl.execRestore ..
  | importA2 => exact Steady.refl.execImportA2 ..
  | powerPeakSet => exact Steady.refl.execPowerPeakSet ..
  | powerState => exact Steady.refl.execPowerState ..
  | energyMode => exact Steady.refl.execEnergyMode ..
  | energyRead => exact Steady.refl.execEnergyRead ..
  | almanacRead => exact Steady.refl.execAlmanacRead ..
  | attest => exact Steady.refl.execAttest ..
  | diagRun => exact Steady.refl.execDiagRun ..
  | troubleRead => exact Steady.refl.execTroubleRead ..
  | almanacNote => exact Steady.refl.execAlmanacNote ..
  | partitionSet => exact Steady.refl.execPartitionSet ..
  | sliceDefine => exact Steady.refl.execSliceDefine ..
  | routeWrite => exact Steady.refl.execRouteWrite ..
  | planLoad => exact Steady.refl.execPlanLoad ..
  | rosterJoin => exact Steady.refl.execRosterJoin ..
  | fwStage => exact Steady.refl.execFwStage ..
  | fwActivate => exact Steady.refl.execFwActivate ..
  | shutdown => exact Steady.refl.execShutdown ..
  | queueDbSqTail => exact Steady.refl.execQueueDbSqTail ..
  | packetAccept => exact Steady.refl.execPacketAccept ..
  | commandIssue => exact Steady.refl.execCommandIssue ..
  | replyWrite => exact Steady.refl.execReplyWrite ..
  | queueDbCqHead => exact Steady.refl.execQueueDbCqHead ..
  | queueAdminCfg => exact Steady.refl.execQueueAdminCfg ..
  | twinJournalAck => exact Steady.refl.execTwinJournalAck ..
  | holdReleased => exact Steady.refl.execHoldReleased ..
  | controllerHeartbeat => exact Steady.refl.execControllerHeartbeat ..
  | mcTakeover => exact Steady.refl.execMcTakeover ..
  | taskStart => exact Steady.refl.execTaskStart ..
  | taskCompletion => exact Steady.refl.execTaskCompletion ..
  | tileArrival => exact Steady.refl.execTileArrival ..
  | creditGrant => exact Steady.refl.execCreditGrant ..
  | mtxMma => exact Steady.refl.execMtxMma ..
  | mtxStore => exact Steady.refl.execMtxStore ..
  | mtxLoad => exact Steady.refl.execMtxLoad ..
  | mtxCsload => exact Steady.refl.execMtxCsload ..
  | mtxWait => exact Steady.refl.execMtxWait ..
  | mmaComplete => exact Steady.refl.execMmaComplete ..
  | cdieMtxCheckCtl => exact Steady.refl.execCdieMtxCheckCtl ..
  | sysNop => exact Steady.refl.execSysNop ..
  | endKernel => exact Steady.refl.execEndKernel ..
  | csrr => exact Steady.refl.execCsrr ..
  | csrw => exact Steady.refl.execCsrw ..
  | add => exact Steady.refl.execAdd ..
  | sub => exact Steady.refl.execSub ..
  | mul => exact Steady.refl.execMul ..
  | and => exact Steady.refl.execAnd ..
  | or => exact Steady.refl.execOr ..
  | xor => exact Steady.refl.execXor ..
  | shl => exact Steady.refl.execShl ..
  | shr => exact Steady.refl.execShr ..
  | sar => exact Steady.refl.execSar ..
  | slt => exact Steady.refl.execSlt ..
  | sltu => exact Steady.refl.execSltu ..
  | min => exact Steady.refl.execMin ..
  | max => exact Steady.refl.execMax ..
  | minu => exact Steady.refl.execMinu ..
  | maxu => exact Steady.refl.execMaxu ..
  | addi => exact Steady.refl.execAddi ..
  | muli => exact Steady.refl.execMuli ..
  | andi => exact Steady.refl.execAndi ..
  | ori => exact Steady.refl.execOri ..
  | xori => exact Steady.refl.execXori ..
  | shli => exact Steady.refl.execShli ..
  | shri => exact Steady.refl.execShri ..
  | sari => exact Steady.refl.execSari ..
  | slti => exact Steady.refl.execSlti ..
  | sltui => exact Steady.refl.execSltui ..
  | li => exact Steady.refl.execLi ..
  | lui => exact Steady.refl.execLui ..
  | sld => exact Steady.refl.execSld ..
  | sst => exact Steady.refl.execSst ..
  | beq => exact Steady.refl.execBeq ..
  | bne => exact Steady.refl.execBne ..
  | blt => exact Steady.refl.execBlt ..
  | bge => exact Steady.refl.execBge ..
  | bltu => exact Steady.refl.execBltu ..
  | bgeu => exact Steady.refl.execBgeu ..
  | jmp => exact Steady.refl.execJmp ..
  | vadd => exact Steady.refl.execVadd ..
  | vsub => exact Steady.refl.execVsub ..
  | vmul => exact Steady.refl.execVmul ..
  | vfma => exact Steady.refl.execVfma ..
  | vfms => exact Steady.refl.execVfms ..
  | vmin => exact Steady.refl.execVmin ..
  | vmax => exact Steady.refl.execVmax ..
  | vabs => exact Steady.refl.execVabs ..
  | vneg => exact Steady.refl.execVneg ..
  | vand => exact Steady.refl.execVand ..
  | vor => exact Steady.refl.execVor ..
  | vxor => exact Steady.refl.execVxor ..
  | vshl => exact Steady.refl.execVshl ..
  | vshr => exact Steady.refl.execVshr ..
  | vsar => exact Steady.refl.execVsar ..
  | vsel => exact Steady.refl.execVsel ..
  | vmov => exact Steady.refl.execVmov ..
  | vlane => exact Steady.refl.execVlane ..
  | vperm => exact Steady.refl.execVperm ..
  | vbcast => exact Steady.refl.execVbcast ..
  | vget => exact Steady.refl.execVget ..
  | vput => exact Steady.refl.execVput ..
  | eq => exact Steady.refl.execEq ..
  | ne => exact Steady.refl.execNe ..
  | lt => exact Steady.refl.execLt ..
  | le => exact Steady.refl.execLe ..
  | gt => exact Steady.refl.execGt ..
  | ge => exact Steady.refl.execGe ..
  | un => exact Steady.refl.execUn ..
  | mand => exact Steady.refl.execMand ..
  | mor => exact Steady.refl.execMor ..
  | mxor => exact Steady.refl.execMxor ..
  | mnot => exact Steady.refl.execMnot ..
  | mfroms => exact Steady.refl.execMfroms ..
  | mtos => exact Steady.refl.execMtos ..
  | vld => exact Steady.refl.execVld ..
  | vst => exact Steady.refl.execVst ..
  | vlds => exact Steady.refl.execVlds ..
  | vsts => exact Steady.refl.execVsts ..
  | vgath => exact Steady.refl.execVgath ..
  | vscat => exact Steady.refl.execVscat ..
  | vexp => exact Steady.refl.execVexp ..
  | vlog => exact Steady.refl.execVlog ..
  | vrsq => exact Steady.refl.execVrsq ..
  | vdiv => exact Steady.refl.execVdiv ..
  | vrcp => exact Steady.refl.execVrcp ..
  | vredSum => exact Steady.refl.execVredSum ..
  | vredMax => exact Steady.refl.execVredMax ..
  | vredMin => exact Steady.refl.execVredMin ..
  | argmax => exact Steady.refl.execArgmax ..
  | argmin => exact Steady.refl.execArgmin ..
  | wset => exact Steady.refl.execWset ..
  | wadd => exact Steady.refl.execWadd ..
  | wmax => exact Steady.refl.execWmax ..
  | wmul => exact Steady.refl.execWmul ..
  | wexpadd => exact Steady.refl.execWexpadd ..
  | wfma => exact Steady.refl.execWfma ..
  | wget => exact Steady.refl.execWget ..
  | wred => exact Steady.refl.execWred ..
  | cvt => exact Steady.refl.execCvt ..
  | cvtTs => exact Steady.refl.execCvtTs ..
  | cvtBp => exact Steady.refl.execCvtBp ..
  | cvtBu => exact Steady.refl.execCvtBu ..
  | xin => exact Steady.refl.execXin ..
  | xout => exact Steady.refl.execXout ..
  | xwait => exact Steady.refl.execXwait ..
  | transferComplete => exact Steady.refl.execTransferComplete ..
  | trecv => exact Steady.refl.execTrecv ..
  | trecva => exact Steady.refl.execTrecva ..
  | trel => exact Steady.refl.execTrel ..
  | tsend => exact Steady.refl.execTsend ..
  | trsend => exact Steady.refl.execTrsend ..
  | tclose => exact Steady.refl.execTclose ..
  | octaveCompare => exact Steady.refl.execOctaveCompare ..
  | shadowTimeout => exact Steady.refl.execShadowTimeout ..
  | cdieVecOctaveCtl => exact Steady.refl.execCdieVecOctaveCtl ..
  | patrolRead => exact Steady.refl.execPatrolRead ..
  | cdieMemMigrate => exact Steady.refl.execCdieMemMigrate ..
  | memMigrationDone => exact Steady.refl.execMemMigrationDone ..
  | channelStopsAnswering => exact Steady.refl.execChannelStopsAnswering ..
  | remoteTrayRequest => exact Steady.refl.execRemoteTrayRequest ..
  | remoteTrayResponse => exact Steady.refl.execRemoteTrayResponse ..
  | bar4Access => exact Steady.refl.execBar4Access ..
  | updatePassEnd => exact Steady.refl.execUpdatePassEnd ..
  | mirrorPassReport => exact Steady.refl.execMirrorPassReport ..
  | numwCtl => exact Steady.refl.execNumwCtl ..
  | exchangeChunk => exact Steady.refl.execExchangeChunk ..
  | openingRound => exact Steady.refl.execOpeningRound ..
  | closingRound => exact Steady.refl.execClosingRound ..
  | latenessReport => exact Steady.refl.execLatenessReport ..
  | mirrorTransfer => exact Steady.refl.execMirrorTransfer ..
  | mirrorRepair => exact Steady.refl.execMirrorRepair ..
  | mirrorBindTimeout => exact Steady.refl.execMirrorBindTimeout ..
  | sealRecord => exact Steady.refl.execSealRecord ..
  | commit => exact Steady.refl.execCommit ..
  | linkTrained => exact Steady.refl.execLinkTrained ..
  | identityBeacon => exact Steady.refl.execIdentityBeacon ..
  | beaconSend => exact Steady.refl.execBeaconSend ..
  | portMissing => exact Steady.refl.execPortMissing ..
  | flitReceive => exact Steady.refl.execFlitReceive ..
  | linkDown => exact Steady.refl.execLinkDown ..
  | laneFailing => exact Steady.refl.execLaneFailing ..
  | spare => exact Steady.refl.execSpare ..
  | width => exact Steady.refl.execWidth ..
  | laneRetrain => exact Steady.refl.execLaneRetrain ..
  | packetForward => exact Steady.refl.execPacketForward ..
  | linkPortCtl => exact Steady.refl.execLinkPortCtl ..
  | bridgeLaneSpare => exact Steady.refl.execBridgeLaneSpare ..
  | bridgeLaneRetrain => exact Steady.refl.execBridgeLaneRetrain ..
  | livenessTokenSend => exact Steady.refl.execLivenessTokenSend ..
  | livenessToken => exact Steady.refl.execLivenessToken ..
  | tokenSilence => exact Steady.refl.execTokenSilence ..
  | suspicionReport => exact Steady.refl.execSuspicionReport ..
  | stewardDecision => exact Steady.refl.execStewardDecision ..
  | roster => exact Steady.refl.execRoster ..
  | joinAnnouncement => exact Steady.refl.execJoinAnnouncement ..
  | epochOneIssue => exact Steady.refl.execEpochOneIssue ..
  | resetNotice => exact Steady.refl.execResetNotice ..
  | resetNoticeExpiry => exact Steady.refl.execResetNoticeExpiry ..
  | departureNotice => exact Steady.refl.execDepartureNotice ..
  | primaryTakeover => exact Steady.refl.execPrimaryTakeover ..
  | healthScore => exact Steady.refl.execHealthScore ..
  | fabricManagerDelivery => exact Steady.refl.execFabricManagerDelivery ..
  | rosterNotice => exact Steady.refl.execRosterNotice ..
  | harvestMark => exact Steady.refl.execHarvestMark ..
  | chunkWriteDone => exact Steady.refl.execChunkWriteDone ..
  | shardReport => exact Steady.refl.execShardReport ..
  | harvestWritten => exact Steady.refl.execHarvestWritten ..
  | manifestCopy => exact Steady.refl.execManifestCopy ..
  | restoreVote => exact Steady.refl.execRestoreVote ..
  | restoreCommit => exact Steady.refl.execRestoreCommit ..
  | restoreVoteTimeout => exact Steady.refl.execRestoreVoteTimeout ..
  | setAsideTest => exact Steady.refl.execSetAsideTest ..
  | pathDelayReading => exact Steady.refl.execPathDelayReading ..
  | replanHoldEnd => exact Steady.refl.execReplanHoldEnd ..
  | powerStageFault => exact Steady.refl.execPowerStageFault ..
  | almanacCtl => exact Steady.refl.execAlmanacCtl ..
  | blockSealed => exact Steady.refl.execBlockSealed ..
  | powerRecord => exact Steady.refl.execPowerRecord ..
  | overVoltage => exact Steady.refl.execOverVoltage ..
  | highInput => exact Steady.refl.execHighInput ..
  | supplyWarning => exact Steady.refl.execSupplyWarning ..
  | supplyWarningRelease => exact Steady.refl.execSupplyWarningRelease ..
  | throttleN => exact Steady.refl.execThrottleN ..
  | supplyReset => exact Steady.refl.execSupplyReset ..
  | lossOfInput => exact Steady.refl.execLossOfInput ..
  | peakLimiter => exact Steady.refl.execPeakLimiter ..
  | dieCapUpdate => exact Steady.refl.execDieCapUpdate ..
  | pwrTray => exact Steady.refl.execPwrTray ..
  | equinoxShare => exact Steady.refl.execEquinoxShare ..
  | energySplit => exact Steady.refl.execEnergySplit ..
  | droop => exact Steady.refl.execDroop ..
  | droopClear => exact Steady.refl.execDroopClear ..
  | frequencyChange => exact Steady.refl.execFrequencyChange ..
  | droopLowering => exact Steady.refl.execDroopLowering ..
  | thermalReading => exact Steady.refl.execThermalReading ..
  | thermalTrip => exact Steady.refl.execThermalTrip ..
  | idleEntry => exact Steady.refl.execIdleEntry ..
  | fallowExit => exact Steady.refl.execFallowExit ..
  | fallowExitDone => exact Steady.refl.execFallowExitDone ..
  | pwrCtl => exact Steady.refl.execPwrCtl ..
  | vigilHang => exact Steady.refl.execVigilHang ..
  | resetEscalated => exact Steady.refl.execResetEscalated ..
  | resetDone => exact Steady.refl.execResetDone ..
  | remoteRequestResend => exact Steady.refl.execRemoteRequestResend ..
  | vigilRemoteTimeout => exact Steady.refl.execVigilRemoteTimeout ..
  | teardownAck => exact Steady.refl.execTeardownAck ..
  | sweepToken => exact Steady.refl.execSweepToken ..
  | sweepTokenReturn => exact Steady.refl.execSweepTokenReturn ..
  | sweepTokenTimeout => exact Steady.refl.execSweepTokenTimeout ..
  | vigilFence => exact Steady.refl.execVigilFence ..
  | powerGood => exact Steady.refl.execPowerGood ..
  | startComplete => exact Steady.refl.execStartComplete ..
  | shutdownReqN => exact Steady.refl.execShutdownReqN ..
  | emberDone => exact Steady.refl.execEmberDone ..
  | emberTimeout => exact Steady.refl.execEmberTimeout ..
  | heartbeat => exact Steady.refl.execHeartbeat ..
  | hotReset => exact Steady.refl.execHotReset ..
  | pcieLinkDown => exact Steady.refl.execPcieLinkDown ..
  | functionLevelReset => exact Steady.refl.execFunctionLevelReset ..
  | busMasterEnableClear => exact Steady.refl.execBusMasterEnableClear ..
  | d3hot => exact Steady.refl.execD3hot ..
  | vfEnableClear => exact Steady.refl.execVfEnableClear ..
  | msixUnmask => exact Steady.refl.execMsixUnmask ..
  | traySet => exact Steady.refl.execTraySet ..
  | trayIdSet => exact Steady.refl.execTrayIdSet ..
  | almanacGet => exact Steady.refl.execAlmanacGet ..
  | unlockNonce => exact Steady.refl.execUnlockNonce ..
  | unlock => exact Steady.refl.execUnlock ..
  | statusGet => exact Steady.refl.execStatusGet ..
  | setEndpointId => exact Steady.refl.execSetEndpointId ..
  | setdasa => exact Steady.refl.execSetdasa ..
  | getVersion => exact Steady.refl.execGetVersion ..
  | getCapabilities => exact Steady.refl.execGetCapabilities ..
  | negotiateAlgorithms => exact Steady.refl.execNegotiateAlgorithms ..
  | getDigests => exact Steady.refl.execGetDigests ..
  | getCertificate => exact Steady.refl.execGetCertificate ..
  | challenge => exact Steady.refl.execChallenge ..
  | getMeasurements => exact Steady.refl.execGetMeasurements ..
  | chunkGet => exact Steady.refl.execChunkGet ..
  | getPqSignature => exact Steady.refl.execGetPqSignature ..
  | getPqKey => exact Steady.refl.execGetPqKey ..
  | getSensorReading => exact Steady.refl.execGetSensorReading ..
  | getStateSensorReadings => exact Steady.refl.execGetStateSensorReadings ..
  | setEventReceiver => exact Steady.refl.execSetEventReceiver ..
  | pldmSensorUpdate => exact Steady.refl.execPldmSensorUpdate ..
  | cxlPortChanged => exact Steady.refl.execCxlPortChanged ..
  | satClear => exact Steady.refl.execSatClear ..
  | stClear => exact Steady.refl.execStClear ..
  | halfReadLatch => exact Steady.refl.execHalfReadLatch ..
  | registerWrite => exact Steady.refl.execRegisterWrite ..
  | supplyResetRelease => exact Steady.refl.execSupplyResetRelease ..
  | quiesceTimeout => exact Steady.refl.execQuiesceTimeout ..
  | fallowEntryDone => exact Steady.refl.execFallowEntryDone ..
  | pcieLinkUp => exact Steady.refl.execPcieLinkUp ..
  | busMasterEnableSet => exact Steady.refl.execBusMasterEnableSet ..
  | d0Entry => exact Steady.refl.execD0Entry ..
  | vfEnableSet => exact Steady.refl.execVfEnableSet ..
  | functionLevelResetDone => exact Steady.refl.execFunctionLevelResetDone ..
  | bar4Resize => exact Steady.refl.execBar4Resize ..
  | twinJournalRecord => exact Steady.refl.execTwinJournalRecord ..
  | probe => exact Steady.refl.execProbe ..
  | probeAnswer => exact Steady.refl.execProbeAnswer ..
  | fullRosterRequest => exact Steady.refl.execFullRosterRequest ..
  | commitRecordRequest => exact Steady.refl.execCommitRecordRequest ..
  | epochRequest => exact Steady.refl.execEpochRequest ..
  | harvestRequest => exact Steady.refl.execHarvestRequest ..
  | hardFaultReport => exact Steady.refl.execHardFaultReport ..
  | chunkResendRequest => exact Steady.refl.execChunkResendRequest ..
  | commandProcessorHeartbeat => exact Steady.refl.execCommandProcessorHeartbeat ..
  | illegalInstruction => exact Steady.refl.execIllegalInstruction ..

theorem step_next (s : State) : ∃ t, step s = .next t ∧ t.pending = s.pending.tail ∧ (Mem.wf s.mem → Mem.wf t.mem) ∧
    (Io.wf s.io → Io.wf t.io) := by
  unfold step
  cases hp : s.pending with
  | nil =>
    have h := (Steady.refl (K := 0) (s := s)).tickCount 0
    exact ⟨_, rfl, by rw [h.pending, hp]; rfl, h.mem, h.host⟩
  | cons c rest =>
    obtain ⟨t, ht, h⟩ := exec_next c { s with pending := rest }
    exact ⟨t, ht, h.pending, h.mem, h.host⟩

/-- Settles O5: every function of the model leaves the queue of commands alone, and every command answers a next state. -/
theorem stepTakesOneCommand : Obligations.StepTakesOneCommand := by
  unfold Obligations.StepTakesOneCommand
  intro s
  obtain ⟨t, ht, hp, -⟩ := step_next s
  exact ⟨t, ht, hp⟩

/-- Settles O4: every function of the model writes memory through operations on sorted maps that list no default. -/
theorem memoryKeepsItsForm : Obligations.MemoryKeepsItsForm := by
  unfold Obligations.MemoryKeepsItsForm
  intro s t hm hh hst
  obtain ⟨u, hu, -, km, kh⟩ := step_next s
  cases hu.symm.trans hst
  exact ⟨km hm, kh hh⟩

end Sys2Proof.Machine
end

section
/-! PROOFS. The roster and joining (O43). -/

namespace Sys2Proof.Machine

/-! ### The roster's registers -/

theorem rosterEntry_eq (s : State) (i : Nat) : rosterEntry s i = regAt s.regs .cohortRoster_entry i := rfl

theorem rosterEpoch_eq (s : State) : rosterEpoch s = regAt s.regs .cohortEpoch_epoch 0 := rfl

theorem Steady.rosterEntry {s t : State} (h : Steady 1 s t) (i : Nat) : rosterEntry t i = rosterEntry s i := h.roster (by decide) _ i rfl

theorem Steady.rosterEpoch {s t : State} (h : Steady 1 s t) : rosterEpoch t = rosterEpoch s := h.roster (by decide) _ 0 rfl

/-- Entries written one after another. -/
def putEntries (l : List (Nat × BitVec 32)) (s : State) : State := l.foldl (fun s x => rset .cohortRoster_entry x.1 x.2.toNat s) s

theorem putEntries_cons (x : Nat × BitVec 32) (l : List (Nat × BitVec 32)) (s : State) :
    putEntries (x :: l) s = putEntries l (rset .cohortRoster_entry x.1 x.2.toNat s) := rfl

theorem putEntries_unlisted {l : List (Nat × BitVec 32)} {i : Nat} (h : ∀ y ∈ l, y.1 ≠ i) (s : State) :
    rosterEntry (putEntries l s) i = rosterEntry s i := by
  induction l generalizing s with
  | nil => rfl
  | cons x l ih =>
    rw [putEntries_cons, ih (fun y hy => h y (List.mem_cons_of_mem _ hy))]
    exact regAt_rset_elsewhere _ _ fun he => h x List.mem_cons_self he.symm

theorem putEntries_head (x : Nat × BitVec 32) {l : List (Nat × BitVec 32)} (h : ∀ y ∈ l, y.1 ≠ x.1) (hx : x.1 < 16384) (s : State) :
    rosterEntry (putEntries (x :: l) s) x.1 = x.2.toNat := by
  rw [putEntries_cons, putEntries_unlisted h]
  exact (regAt_rset_same _ _ hx).trans (Nat.mod_eq_of_lt x.2.isLt)

theorem putEntries_listed {l : List (Nat × BitVec 32)} (hl : (l.map Prod.fst).Nodup) {c : Nat × BitVec 32} (hc : c ∈ l) (h : c.1 < 16384) (s : State) :
    rosterEntry (putEntries l s) c.1 = c.2.toNat := by
  induction l generalizing s with
  | nil => cases hc
  | cons x l ih =>
    obtain ⟨hx, hl⟩ := List.nodup_cons.1 hl
    rcases List.mem_cons.1 hc with rfl | hc
    · exact putEntries_head c (fun y hy he => hx (he ▸ List.mem_map_of_mem hy)) h s
    · rw [putEntries_cons]
      exact ih hl hc _

theorem rosterEpoch_putEntries (l : List (Nat × BitVec 32)) (s : State) (v : Nat) :
    rosterEpoch (rset .cohortEpoch_epoch 0 v (putEntries l s)) = v % 2 ^ 64 := regAt_rset_same v _ (by decide)

theorem rosterEntry_rset_epoch (v i : Nat) (s : State) : rosterEntry (rset .cohortEpoch_epoch 0 v s) i = rosterEntry s i :=
  regAt_rset_other _ _ _ _ (by decide)

theorem rosterSet_eq (m : RosterMsg) (s : State) : rosterSet m s = rset .cohortEpoch_epoch 0 m.epoch (putEntries m.changes
    (if m.full then { s with regs := s.regs.filter (fun x => x.1 / 2 ^ 20 != Fld.cohortRoster_entry.ctorIdx) } else s)) := rfl

theorem sget_of_no_key {α : Type} {d : α} {m : SMap α} {k : Nat} (h : ∀ x ∈ m, x.1 ≠ k) : sget d m k = d := by
  induction m with
  | nil => rfl
  | cons x m ih =>
    rw [sget_cons, if_neg (h x List.mem_cons_self), ih fun y hy => h y (List.mem_cons_of_mem _ hy)]

/-- No entry is listed, so every entry reads as 0. -/
theorem rosterEntry_zero {s : State} (h : ∀ x ∈ s.regs, x.1 / 2 ^ 20 ≠ Fld.cohortRoster_entry.ctorIdx) (i : Nat) : rosterEntry s i = 0 := by
  rw [rosterEntry_eq]
  unfold regAt
  split
  · next hi =>
    refine sget_of_no_key fun x hx he => h x hx ?_
    have hi' : i < 16384 := hi
    rw [he, fldKey]
    omega
  · rfl

theorem rosterEntry_of_empty {s : State} (h : rosterList s = []) (i : Nat) : rosterEntry s i = 0 := by
  refine rosterEntry_zero (fun x hx he => ?_) i
  have := List.map_eq_nil_iff.1 h
  exact List.filter_eq_nil_iff.1 this x hx (by simpa using he)

theorem rosterSet_unlisted {m : RosterMsg} {i : Nat} (h : ∀ y ∈ m.changes, y.1 ≠ i) (s : State) :
    rosterEntry (rosterSet m s) i = if m.full = true then 0 else rosterEntry s i := by
  rw [rosterSet_eq, rosterEntry_rset_epoch, putEntries_unlisted h]
  split
  · refine rosterEntry_zero (fun x hx => ?_) i
    simpa using (List.mem_filter.1 hx).2
  · rfl

theorem rosterSet_listed {m : RosterMsg} (hl : (m.changes.map Prod.fst).Nodup) {c : Nat × BitVec 32} (hc : c ∈ m.changes) (h : c.1 < 16384) (s : State) :
    rosterEntry (rosterSet m s) c.1 = c.2.toNat := by
  rw [rosterSet_eq, rosterEntry_rset_epoch, putEntries_listed hl hc h]

theorem rosterSet_head {m : RosterMsg} {x : Nat × BitVec 32} {l : List (Nat × BitVec 32)} (hm : m.changes = x :: l) (h : ∀ y ∈ l, y.1 ≠ x.1)
    (hx : x.1 < 16384) (s : State) : rosterEntry (rosterSet m s) x.1 = x.2.toNat := by
  rw [rosterSet_eq, rosterEntry_rset_epoch, hm, putEntries_head x h hx]

theorem rosterSet_epoch (m : RosterMsg) (s : State) : rosterEpoch (rosterSet m s) = m.epoch % 2 ^ 64 := rosterEpoch_putEntries ..

/-! ### A roster applied -/

theorem applyRoster_roster (m : RosterMsg) (s : State) : Steady 1 (rosterSet m s) (applyRoster m s) := Steady.refl.applyRosterRest (by decide) m

theorem rosterEvents_reported (m : RosterMsg) (s : State) : ∃ ev ∈ (rosterEvents m s).io.events, ev.code = 0x0C02 ∧ ev.ring = 0 := by
  unfold rosterEvents
  dsimp only
  obtain ⟨ev, hev, hc⟩ := raise0_event 0x0C02 8 (pack [(0, 64, m.epoch), (64, 8, m.decision), (72, 16, m.changes.length),
    (88, 14, (m.changes.headD (0, 0)).1)]) s
  generalize raise0 0x0C02 8 _ s = u at hev ⊢
  have h1 : Steady 0 u u := .refl
  refine ⟨ev, List.IsSuffix.subset (Steady.events (K := 0) ?_) hev, hc.1, hc.2.2.1⟩
  have h2 : Steady 0 u (if m.decision = 6 && (hasPosition s && (m.changes.headD (0, 0)).1 == ownRoster s) then rflag .cohortStatus_probationSeen 0 u else u) :=
    .ite (h1.rflag rfl _) h1
  refine .ite (.raise0 (.rflag ?_ rfl _) ..) ?_ <;> exact .ite (h2.raise0 ..) h2

/-- The event of an applied roster is formed, and what follows on it keeps it. -/
theorem applyRoster_reported (m : RosterMsg) (s : State) : ∃ ev ∈ (applyRoster m s).io.events, ev.code = 0x0C02 ∧ ev.ring = 0 := by
  unfold applyRoster
  dsimp only
  generalize newSteward s _ = u
  obtain ⟨ev, hev, hc, hr⟩ := rosterEvents_reported m u
  refine ⟨ev, List.IsSuffix.subset (Steady.events (K := 0) ?_) hev, hc, hr⟩
  have h1 : Steady 0 (rosterEvents m u) (rosterEvents m u) := .refl
  have h2 : Steady 0 (rosterEvents m u) _ := .foldl (f := fun s i => forget i s) ((h1.rosterAborts s m).rosterTwins s m) (fun _ _ h => h.forget (by decide) _)
    (leavers s m ++ (substitutions m).map Prod.fst)
  have h3 := (h2.rosterHarvest s (leavers s m ++ (substitutions m).map Prod.fst)).grantWaiting.reformSlices
  exact .ite h3 h3.beaconAll

theorem exec_roster {m : RosterMsg} {s : State} (hd : m.decision ≠ 1) : exec (.roster m) s =
    if m.epoch ≤ rosterEpoch s then .next s else if m.full || m.prev = rosterEpoch s then .next (applyRoster m s) else .next (askRoster s) := by
  show execRoster m s = _
  unfold execRoster
  rw [if_neg (by simp [hd])]

theorem exec_roster_applied {m : RosterMsg} {s : State} (hd : m.decision ≠ 1) (he : rosterEpoch s < m.epoch)
    (hf : m.full = true ∨ m.prev = rosterEpoch s) : exec (.roster m) s = .next (applyRoster m s) := by
  rw [exec_roster hd, if_neg (by omega), if_pos (by simpa using hf)]

/-- A gap in the epochs: the full roster is asked for. -/
theorem askRoster_spec {s : State} (hg : s.fab.gap = false) : (askRoster s).regs = s.regs ∧ (askRoster s).fab.gap = true ∧
    .vc7 "FULL_ROSTER_REQUEST" (mySteward s) [rosterField s, rosterEpoch s] ∈ (askRoster s).io.outbox := by
  unfold askRoster
  rw [if_neg (by simp [hg])]
  exact ⟨rfl, rfl, List.mem_append_right _ List.mem_cons_self⟩

/-! ### Entries of an issued roster -/

theorem electBits_le (s : State) (l : List (Nat × Nat)) (x : Nat × Nat) : electBits s l x ≤ 14 ∧ electBits s l x % 2 = 0 := by
  have h : ∀ b, b2n b ≤ 1 := fun b => by cases b <;> decide
  unfold electBits
  dsimp only
  have h1 := h (least (healthyOf s l (entryCohort x.2)) == some x.1)
  have h2 := h (least ((healthyOf s l (entryCohort x.2)).filter (fun i => least (healthyOf s l (entryCohort x.2)) != some i)) == some x.1)
  have h3 := h (least (healthyOf s l (entryCohort x.2)) == some x.1 && least (ledCohorts s l) == some (entryCohort x.2))
  omega

theorem pack_three (a b c : Nat × Nat × Nat) : pack [a, b, c] = pf a.1 a.2.1 a.2.2 + (pf b.1 b.2.1 b.2.2 + pf c.1 c.2.1 c.2.2) := by
  rw [pack, List.map_cons, List.map_cons, List.map_cons, List.map_nil, List.sum_cons, List.sum_cons, List.sum_cons, List.sum_nil, Nat.add_zero]

theorem mkEntry_eq (st co health : Nat) : mkEntry st co health = st % 2 ^ 4 * 2 ^ 28 + (co % 2 ^ 8 * 2 ^ 20 + health % 2 ^ 10 * 2 ^ 10) := by
  rw [mkEntry, pack_three, pf, pf, pf]

/-- The state of an entry with elected bits. -/
theorem entrySt_mkEntry {st co health b : Nat} (hb : b ≤ 14) (hs : st < 16) : entrySt ((mkEntry st co health + b) % 2 ^ 32) = st := by
  rw [entrySt, bits, Nat.shiftRight_eq_div_pow, mkEntry_eq]
  omega

theorem entryCohort_mkEntry {st co health b : Nat} (hb : b ≤ 14) (hc : co < 256) : entryCohort ((mkEntry st co health + b) % 2 ^ 32) = co := by
  rw [entryCohort, bits, Nat.shiftRight_eq_div_pow, mkEntry_eq]
  omega

/-- The changes of a decision stand first, and no other change is of the first one's module. -/
theorem rosterChanges_head (s : State) (x : Nat × Nat) {ch : List (Nat × Nat)} (h : ∀ y ∈ ch, y.1 ≠ x.1) :
    ∃ b l, rosterChanges s (x :: ch) = (x.1, x.2 + b) :: l ∧ b ≤ 14 ∧ ∀ y ∈ l, y.1 ≠ x.1 := by
  refine ⟨electBits s (changed s (x :: ch)) x, _, rfl, (electBits_le ..).1, fun y hy he => ?_⟩
  rcases List.mem_append.1 hy with hy | hy
  · obtain ⟨z, hz, rfl⟩ := List.mem_map.1 hy
    exact h z hz he
  · obtain ⟨z, hz, rfl⟩ := List.mem_map.1 (List.mem_filter.1 hy).1
    have hn := (List.mem_filter.1 hz).2
    simp only [List.any_cons, Bool.not_eq_true', Bool.or_eq_false_iff] at hn
    exact absurd he.symm (by simpa using hn.1)

/-- The entry of the first module of an issued roster. -/
theorem rosterSet_issued {m : RosterMsg} {s u : State} {x : Nat × Nat} {ch : List (Nat × Nat)} (h : ∀ y ∈ ch, y.1 ≠ x.1) (hx : x.1 < 16384)
    (hm : m.changes = (rosterChanges u (x :: ch)).map (fun x => (x.1, BitVec.ofNat 32 x.2))) :
    ∃ b, b ≤ 14 ∧ rosterEntry (rosterSet m s) x.1 = (x.2 + b) % 2 ^ 32 := by
  obtain ⟨b, l, hl, hb, hn⟩ := rosterChanges_head u x h
  refine ⟨b, hb, ?_⟩
  rw [hl] at hm
  rw [rosterSet_head hm (fun y hy => ?_) hx]
  · rfl
  · obtain ⟨z, hz, rfl⟩ := List.mem_map.1 hy
    exact hn z hz

/-- What follows the roster's own message keeps the roster. -/
theorem issueRoster_roster (co d : Nat) (ch : List (Nat × Nat)) (w : Bool) (s : State) : ∃ m : RosterMsg, m.epoch = rosterEpoch s + 1 ∧
    m.changes = (rosterChanges s ch).map (fun x => (x.1, BitVec.ofNat 32 x.2)) ∧
    Steady 1 (rosterSet m (emit (.vc7 "ROSTER" 0x3FFF (rosterFields m)) s)) (issueRoster co d ch w s) := by
  let m : RosterMsg := ⟨rosterEpoch s + 1, rosterEpoch s, ownRoster s, co, d, (rosterChanges s ch).map (fun x => (x.1, BitVec.ofNat 32 x.2)), false, ownForce s⟩
  refine ⟨m, rfl, rfl, ?_⟩
  have h1 := (applyRoster_roster m (emit (.vc7 "ROSTER" 0x3FFF (rosterFields m)) s)).emit (.vc7 "ROSTER_NOTICE" 0x3FFF (m.epoch :: ch.map Prod.fst))
  unfold issueRoster
  exact (Steady.ite (h1.emit _) h1).emit _

theorem issueRoster_epoch (co d : Nat) (ch : List (Nat × Nat)) (w : Bool) {s : State} (h : rosterEpoch s + 1 < 2 ^ 64) :
    rosterEpoch (issueRoster co d ch w s) = rosterEpoch s + 1 := by
  obtain ⟨m, he, -, hs⟩ := issueRoster_roster co d ch w s
  rw [hs.rosterEpoch, rosterSet_epoch, he, Nat.mod_eq_of_lt h]

theorem issueRoster_entry {co d st c health : Nat} (i : Nat) {w : Bool} {s : State} (hi : i < 16384) (hst : st < 16) (hc : c < 256) :
    entrySt (rosterEntry (issueRoster co d [(i, mkEntry st c health)] w s) i) = st ∧
    cohortOf (issueRoster co d [(i, mkEntry st c health)] w s) i = c := by
  obtain ⟨m, -, hm, hs⟩ := issueRoster_roster co d [(i, mkEntry st c health)] w s
  obtain ⟨b, hb, he⟩ := rosterSet_issued (s := emit (.vc7 "ROSTER" 0x3FFF (rosterFields m)) s) (x := (i, mkEntry st c health)) (ch := []) (by simp) hi hm
  rw [cohortOf, hs.rosterEntry, he]
  exact ⟨entrySt_mkEntry hb hst, entryCohort_mkEntry hb hc⟩

/-! ### A roster that only admits -/

/-- Nobody is substituted, nobody leaves, and no state of Table 12.3 but 1 and 2 is given. -/
structure Admits (m : RosterMsg) (s : State) : Prop where
  decision : m.decision = 8
  full : m.full = false
  states : ∀ x ∈ m.changes, entrySt x.2.toNat = 1 ∨ entrySt x.2.toNat = 2
  fresh : ∀ x ∈ m.changes, rosterEntry s x.1 = 0

theorem Admits.substitutions {m : RosterMsg} {s : State} (h : Admits m s) : substitutions m = [] := by
  unfold Machine.substitutions
  rw [List.filter_eq_nil_iff.2 fun x _ => by simp [h.decision]]
  rfl

theorem Admits.leavers {m : RosterMsg} {s : State} (h : Admits m s) : leavers s m = [] := by
  unfold Machine.leavers unlisted
  have hn : m.changes.filter (fun x => (entrySt x.2.toNat == 6 || entrySt x.2.toNat == 0) && inRoster s x.1) = [] :=
    List.filter_eq_nil_iff.2 fun x hx => by rcases h.states x hx with he | he <;> simp [he]
  rw [h.full, if_neg (by decide), hn]
  rfl

theorem Admits.aborts {m : RosterMsg} {s : State} (h : Admits m s) (t : State) : rosterAborts s m t = t := by
  unfold rosterAborts
  rw [h.substitutions, h.leavers, h.decision]
  dsimp only
  rw [if_neg (by decide)]
  split <;> rfl

theorem Admits.twins {m : RosterMsg} {s : State} (h : Admits m s) (t : State) : rosterTwins s m t = t := by
  unfold rosterTwins
  rw [h.substitutions, h.leavers]
  dsimp only [List.foldl_nil]
  refine List.foldlRecOn _ _ (motive := (· = t)) rfl fun u hu x hx => ?_
  rw [h.fresh x hx, if_neg (by rcases h.states x hx with he | he <;> simp [he]), if_neg (by simp [entrySt, bits])]
  exact hu

/-- The state after a roster that only admits has been set. -/
def admitted (m : RosterMsg) (s : State) : State := { rosterSet m s with fab := { s.fab with force := some m.force, gap := false } }

theorem rosterSet_kept (m : RosterMsg) (s : State) : (rosterSet m s).fab = s.fab ∧ (rosterSet m s).ctl = s.ctl := by
  have hp : ∀ (l : List (Nat × BitVec 32)) (u : State), (putEntries l u).fab = u.fab ∧ (putEntries l u).ctl = u.ctl := by
    intro l
    induction l with
    | nil => exact fun u => ⟨rfl, rfl⟩
    | cons x l ih => exact fun u => ⟨(ih _).1.trans (by simp), (ih _).2.trans (by simp)⟩
  rw [rosterSet_eq]
  obtain ⟨h1, h2⟩ := hp m.changes (if m.full then { s with regs := s.regs.filter (fun x => x.1 / 2 ^ 20 != Fld.cohortRoster_entry.ctorIdx) } else s)
  rw [rset_fab, rset_ctl, h1, h2]
  split <;> exact ⟨rfl, rfl⟩

/-- What follows on a roster that only admits, before the beacons. -/
def afterAdmitted (m : RosterMsg) (s : State) : State :=
  reformSlices (grantWaiting (rosterHarvest s [] (rosterEvents m (newSteward s (selfBits (ownPosition s m (admitted m s)))))))

theorem applyRoster_admits {m : RosterMsg} {s : State} (h : Admits m s) :
    applyRoster m s = afterAdmitted m s ∨ applyRoster m s = beaconAll (afterAdmitted m s) := by
  have ha : ∀ u, u = rosterSet m s → ({ u with fab := { u.fab with force := some m.force, gap := false } } : State) = admitted m s := by
    intro u hu
    rw [hu, admitted, (rosterSet_kept m s).1]
  unfold applyRoster afterAdmitted
  rw [h.substitutions, h.leavers]
  dsimp only [List.foldl_nil]
  generalize hu : rset .cohortEpoch_epoch 0 m.epoch _ = u
  rw [h.aborts, h.twins, ha u hu.symm, List.map_nil, List.append_nil, List.foldl_nil]
  generalize reformSlices _ = q
  change (if _ then q else beaconAll q) = _ ∨ (if _ then q else beaconAll q) = _
  split
  · exact .inl rfl
  · exact .inr rfl

/-! ### A position that is kept -/

/-- The module's own position, that it does not join, and the answered commands are kept. -/
structure Seated (s t : State) : Prop where
  roster : ownRoster t = ownRoster s
  role : rget t .cohortSelf_role 0 = rget s .cohortSelf_role 0
  joining : t.fab.joining = s.fab.joining
  answers : ∀ r st d, answered s r st d → answered t r st d

theorem Seated.rfl {s : State} : Seated s s := ⟨Eq.refl _, Eq.refl _, Eq.refl _, fun _ _ _ h => h⟩

theorem Seated.of_eq {s t u : State} (h : Seated s t) (hr : u.regs = t.regs) (hf : u.fab.joining = t.fab.joining) (hj : u.ctl.journal = t.ctl.journal) :
    Seated s u :=
  ⟨by rw [ownRoster, rget_eq, hr]; exact h.roster, by rw [rget_eq, hr]; exact h.role, hf.trans h.joining,
    fun r st d ha => by have := h.answers r st d ha; unfold answered at this ⊢; rwa [hj]⟩

theorem Seated.rset {s t : State} (h : Seated s t) {f : Fld} (h1 : Fld.cohortSelf_roster ≠ f) (h2 : Fld.cohortSelf_role ≠ f) (i v : Nat) :
    Seated s (rset f i v t) :=
  ⟨(regAt_rset_other _ _ _ _ h1).trans h.roster, (regAt_rset_other _ _ _ _ h2).trans h.role, by rw [rset_fab]; exact h.joining,
    fun r st d ha => by have := h.answers r st d ha; unfold answered at this ⊢; rwa [rset_ctl]⟩

theorem Seated.raise0 {s t : State} (h : Seated s t) (code src detail : Nat) : Seated s (raise0 code src detail t) :=
  ⟨(regAt_raise0 _ _ _ _ _ (by decide)).trans h.roster, (regAt_raise0 _ _ _ _ _ (by decide)).trans h.role, by rw [raise0_fab]; exact h.joining,
    fun r st d ha => by have := h.answers r st d ha; unfold answered at this ⊢; rwa [raise0_ctl_journal]⟩

theorem Seated.ite {s : State} {p : Prop} [Decidable p] {a b : State} (ha : Seated s a) (hb : Seated s b) : Seated s (if p then a else b) := by
  split <;> assumption

theorem Seated.foldl {α : Type} {s t : State} {f : State → α → State} (h : Seated s t) (hf : ∀ u a, Seated s u → Seated s (f u a)) (l : List α) :
    Seated s (l.foldl f t) := List.foldlRecOn _ _ (motive := Seated s) h fun u hu a _ => hf u a hu

theorem Seated.emit {s t : State} (h : Seated s t) (m : OutMsg) : Seated s (emit m t) := h.of_eq (Eq.refl _) (Eq.refl _) (Eq.refl _)

/-- A reply to a record that is issued leaves the answered ones as they are. -/
theorem Seated.finishAt {s t : State} (h : Seated s t) (q n st d : Nat) : Seated s (finishAt q n st d t) := by
  refine ⟨h.roster, h.role, h.joining, fun r st' d' ha => ?_⟩
  obtain ⟨y, hy, hq, hs, hst, hp⟩ := h.answers r st' d' ha
  have hk : (if isRec q n y then replyOf t st d y else y) = y := by simp [replyOf, hst]
  exact ⟨y, List.mem_map.2 ⟨y, hy, hk⟩, hq, hs, hst, hp⟩

theorem Seated.selfBits {s t : State} (h : Seated s t) : Seated s (selfBits t) := by
  unfold Machine.selfBits
  exact ((h.rset (by decide) (by decide) ..).rset (by decide) (by decide) ..).rset (by decide) (by decide) ..

theorem Seated.newSteward {s t : State} (h : Seated s t) (old : State) : Seated s (newSteward old t) := by
  unfold Machine.newSteward
  exact .ite h (h.of_eq (Eq.refl _) (Eq.refl _) (Eq.refl _))

theorem Seated.rosterEvents {s t : State} (h : Seated s t) (m : RosterMsg) : Seated s (rosterEvents m t) := by
  unfold Machine.rosterEvents
  dsimp only
  have h1 := h.raise0 0x0C02 8 (pack [(0, 64, m.epoch), (64, 8, m.decision), (72, 16, m.changes.length), (88, 14, (m.changes.headD (0, 0)).1)])
  generalize Machine.raise0 0x0C02 8 _ t = u at h1 ⊢
  refine .ite (.raise0 (.rset (f := .cohortStatus_noQuorumSeen) ?_ (by decide) (by decide) _ _) ..) ?_ <;>
    exact .ite (.raise0 (.ite (h1.rset (by decide) (by decide) ..) h1) ..) (.ite (h1.rset (by decide) (by decide) ..) h1)

theorem Seated.resendReports {s t : State} (h : Seated s t) (c : Nat) : Seated s (resendReports c t) := by
  unfold Machine.resendReports
  split
  · exact h
  · refine .ite ?_ (h.foldl (fun _ _ hu => hu.emit _) _)
    unfold buildManifest
    split
    · exact h
    · dsimp only
      exact .ite h (h.of_eq (Eq.refl _) (Eq.refl _) (Eq.refl _))

theorem Seated.rosterHarvest {s t : State} (h : Seated s t) (old : State) : Seated s (rosterHarvest old [] t) := by
  unfold Machine.rosterHarvest
  refine h.foldl (fun u c hu => ?_) _
  dsimp only
  have hg : ((harvOf u c).gen.elim [] fun g => ([] : List Nat).filter fun i => g.members.contains i && !g.reports.any fun r => r.roster == i) = [] := by
    cases (harvOf u c).gen <;> rfl
  rw [hg, if_neg (show ¬ pairLost [] = true by decide), if_neg (show ¬ ([] : List Nat).any Config.memberUnmirrored = true by simp)]
  exact .ite (.ite hu hu) (Seated.resendReports (.ite hu hu) c)

theorem Seated.grant {s t : State} (h : Seated s t) (w : RouteWait) : Seated s (grant w t) := by
  unfold Machine.grant
  dsimp only
  refine Seated.finishAt ?_ ..
  exact (h.of_eq (Eq.refl _) (Eq.refl _) (Eq.refl _))

theorem Seated.grantWaiting {s t : State} (h : Seated s t) : Seated s (grantWaiting t) := by
  unfold Machine.grantWaiting
  have hf : Seated s (t.fab.waiting.foldl (fun (r : State × List RouteWait) w =>
      if w.epoch ≤ rosterEpoch t && !r.2.any (fun y => y.q == w.q) then (Machine.grant w r.1, r.2) else (r.1, r.2 ++ [w])) (t, [])).1 := by
    refine List.foldlRecOn _ _ (motive := fun (r : State × List RouteWait) => Seated s r.1) h fun r hr w _ => ?_
    split
    · exact hr.grant w
    · exact hr
  exact hf.of_eq (Eq.refl _) (Eq.refl _) (Eq.refl _)

theorem Seated.reformSlices {s t : State} (h : Seated s t) : Seated s (reformSlices t) := by
  unfold Machine.reformSlices
  refine h.foldl (fun _ _ hu => ?_) _
  exact .ite (hu.of_eq (Eq.refl _) (Eq.refl _) (Eq.refl _)) hu

theorem Seated.beaconAll {s t : State} (h : Seated s t) : Seated s (beaconAll t) := by
  unfold Machine.beaconAll
  refine h.foldl (fun _ p hu => ?_) _
  unfold sendBeacon
  exact .ite (hu.emit _) hu


/-! ### Joining -/

theorem floodJoin_spec (a : Nat × Nat × Nat) (s : State) : ∃ o, floodJoin a s = { s with io := { s.io with outbox := o } } ∧
    ∀ p, portUp s p = true → .link p "JOIN" [a.1, a.2.1, a.2.2] ∈ o := by
  have h : ∀ (l : List Nat) (o : List OutMsg), ∃ o', l.foldl (fun s p => if portUp s p then emit (.link p "JOIN" [a.1, a.2.1, a.2.2]) s else s)
      { s with io := { s.io with outbox := o } } = { s with io := { s.io with outbox := o' } } ∧ o <+: o' ∧
      ∀ p ∈ l, portUp s p = true → .link p "JOIN" [a.1, a.2.1, a.2.2] ∈ o' := by
    intro l
    induction l with
    | nil => exact fun o => ⟨o, rfl, List.prefix_rfl, nofun⟩
    | cons q l ih =>
      intro o
      have hq : portUp { s with io := { s.io with outbox := o } } q = portUp s q := rfl
      rw [List.foldl_cons, hq]
      split
      · obtain ⟨o', h1, h2, h3⟩ := ih (o ++ [.link q "JOIN" [a.1, a.2.1, a.2.2]])
        refine ⟨o', h1, (List.prefix_append ..).trans h2, fun p hp hu => ?_⟩
        rcases List.mem_cons.1 hp with rfl | hp
        · exact h2.subset (List.mem_append_right _ List.mem_cons_self)
        · exact h3 p hp hu
      · next hn =>
        obtain ⟨o', h1, h2, h3⟩ := ih o
        refine ⟨o', h1, h2, fun p hp hu => ?_⟩
        rcases List.mem_cons.1 hp with rfl | hp
        · exact absurd hu hn
        · exact h3 p hp hu
  obtain ⟨o', h1, -, h3⟩ := h (List.range 32) s.io.outbox
  exact ⟨o', h1, fun p hu => h3 p (List.mem_range.2 (portUp_iff.1 hu).1) hu⟩

/-- The position of a module that the roster now lists as it announced itself. -/
theorem ownPosition_joined {m : RosterMsg} {s t : State} {i co role : Nat} (hm : Admits m s) (hp : hasPosition s = false)
    (hj : t.fab.joining = some (i, co, role)) (hst : entrySt (rosterEntry t i) = role + 1) (hco : entryCohort (rosterEntry t i) = co) :
    ownPosition s m t = finishWaits (fun r => r.wait == .joined) stOk (fun _ => m.epoch)
      (takePosition i co (role + 1) { t with fab := { t.fab with joining := none } }) := by
  unfold ownPosition
  rw [hm.substitutions]
  dsimp only [List.find?_nil]
  rw [hp, hj, if_neg (by simp), if_neg (by simp)]
  exact if_pos (by simp [hst, hco])

theorem takePosition_spec {i role : Nat} (co : Nat) (s : State) (hi : i < 16384) (hr : role < 4) :
    ownRoster (takePosition i co role s) = i ∧ rget (takePosition i co role s) .cohortSelf_role 0 = role ∧
    (takePosition i co role s).fab.joining = s.fab.joining ∧ (takePosition i co role s).ctl = s.ctl := by
  refine ⟨(regAt_rset_same _ _ (by decide)).trans (Nat.mod_eq_of_lt hi), ?_, (rfl), ?_⟩
  · refine (regAt_rset_other _ _ _ _ (by decide)).trans ((regAt_rset_other _ _ _ _ (by decide)).trans ?_)
    exact (regAt_rset_same _ _ (by decide)).trans (Nat.mod_eq_of_lt hr)
  · unfold takePosition
    rw [rset_ctl, rset_ctl, rset_ctl]

theorem epochOne_seated {m : RosterMsg} {s : State} {i co role : Nat} (hm : Admits m s) (hp : hasPosition s = false) (hi : i < 16384) (hr : role ≤ 1)
    (hj : s.fab.joining = some (i, co, role)) (hst : entrySt (rosterEntry (rosterSet m s) i) = role + 1)
    (hco : entryCohort (rosterEntry (rosterSet m s) i) = co) (he : m.epoch = 1) :
    ownRoster (applyRoster m s) = i ∧ hasPosition (applyRoster m s) = true ∧ (applyRoster m s).fab.joining = none ∧
    ∀ r ∈ s.ctl.journal, r.state = .issued → r.wait = .joined → r.again = none → answered (applyRoster m s) r 0x0000 1 := by
  have hown := ownPosition_joined (t := admitted m s) hm hp hj hst hco
  have hseat : Seated (ownPosition s m (admitted m s)) (applyRoster m s) := by
    have h := (((((Seated.rfl (s := ownPosition s m (admitted m s))).selfBits.newSteward s).rosterEvents m).rosterHarvest s).grantWaiting).reformSlices
    rcases applyRoster_admits hm with ha | ha <;> rw [ha]
    · exact h
    · exact h.beaconAll
  have hctl : (admitted m s).ctl = s.ctl := (rosterSet_kept m s).2
  generalize admitted m s = a at hown hctl hseat
  obtain ⟨h1, h2, h3, h4⟩ := takePosition_spec co { a with fab := { a.fab with joining := none } } hi (show role + 1 < 4 by omega)
  generalize takePosition i co (role + 1) _ = b at hown h1 h2 h3 h4
  rw [hown] at hseat
  refine ⟨hseat.roster.trans h1, ?_, hseat.joining.trans h3, fun r hr' hs hw ha => hseat.answers _ _ _ ?_⟩
  · rw [hasPosition, hseat.role]
    show (rget b .cohortSelf_role 0 != 0) = true
    rw [h2]
    simp
  · rw [← he]
    exact answered_finishWaits (s := s) (det := fun _ => m.epoch) (by rw [h4]; exact congrArg Ctl.journal hctl) hr' hs ha (by simp [hw])

/-! ### Epochs granted -/

theorem grantEpoch_epoch {co d : Nat} {l : List Nat} {w : Bool} {s : State} (hd : d = 2 ∨ d = 3) (hl : ∃ i ∈ l, inRoster s i = true)
    (h : rosterEpoch s + 1 < 2 ^ 64) : rosterEpoch (grantEpoch co d l w s) = rosterEpoch s + 1 := by
  have hne : (l.filter (fun i => inRoster s i)).isEmpty = false := by
    obtain ⟨i, hi, hr⟩ := hl
    rw [List.isEmpty_eq_false_iff]
    exact List.ne_nil_of_mem (List.mem_filter.2 ⟨hi, hr⟩)
  unfold grantEpoch
  dsimp only
  rw [hne, if_neg (by decide)]
  split
  · split
    · exact issueRoster_epoch _ _ _ _ h
    · split
      · split
        · exact ((Steady.refl.rflag (f := .cohortStatus_noQuorumSeen) rfl 0).raise0 ..).rosterEpoch.trans (issueRoster_epoch _ _ _ _ h)
        · exact issueRoster_epoch _ _ _ _ h
      · exact issueRoster_epoch _ _ _ _ h
  · next hn =>
    rw [if_pos (hd.resolve_right fun h3 => hn (by simp [h3]))]
    exact issueRoster_epoch _ _ _ _ h

theorem grantEpoch_held {co i : Nat} {w : Bool} {s : State} (hr : inRoster s i = true) :
    grantEpoch co 2 [i] w s = issueRoster co 2 [(i, entryIn s i 5)] w s := by
  unfold grantEpoch
  dsimp only
  rw [List.filter_cons_of_pos hr, List.filter_nil, if_neg (by simp), if_neg (by decide), if_pos rfl]
  rfl

/-- The counters of decisions leave the roster as it is. -/
theorem decide_epoch {co : Nat} {l : List Nat} {w : Bool} {s : State} (hp : isPrimary s = true) (hl : ∃ i ∈ l, inRoster s i = true)
    (h : rosterEpoch s + 1 < 2 ^ 64) : rosterEpoch (decide' co 3 l w s) = rosterEpoch s + 1 := by
  have hk : Steady 1 s (count1 .cohortDecisionCount_count 0 s) := Steady.refl.count1 rfl 0
  unfold decide'
  dsimp only
  rw [if_pos hp, if_neg (by decide), grantEpoch_epoch (.inr rfl) ?_ (by rwa [hk.rosterEpoch]), hk.rosterEpoch]
  obtain ⟨i, hi, hr⟩ := hl
  exact ⟨i, hi, by rw [inRoster, hk.rosterEntry]; exact hr⟩

/-- An entry that loses its primary bit keeps its state. -/
theorem entrySt_unprimary {e : Nat} (h : e.testBit 3 = true) : entrySt ((e - 8) % 2 ^ 32) = entrySt e := by
  rw [Nat.testBit_eq_decide_div_mod_eq, decide_eq_true_eq] at h
  rw [entrySt, entrySt, bits, bits, Nat.shiftRight_eq_div_pow, Nat.shiftRight_eq_div_pow]
  omega

/-- The primary's role taken by this module. -/
def primaryTaken (s : State) : State :=
  rset .cohortRoster_entry (primaryOf s) (rosterEntry s (primaryOf s) - 8) (rset .cohortSelf_primary 0 1
    { s with fab := { s.fab with evictions := [], shares := [], markedAt := [],
                                 policy := s.fab.policy.map (fun y => (y.1, (y.2.1, y.2.2.1, lcountOf s 8))) } })

theorem primaryTaken_spec {s : State} (ht : (rosterEntry s (primaryOf s)).testBit 3 = true) (hr : inRoster s (primaryOf s) = true) :
    rosterEpoch (primaryTaken s) = rosterEpoch s ∧ isPrimary (primaryTaken s) = true ∧ inRoster (primaryTaken s) (primaryOf s) = true := by
  have hi : primaryOf s < 16384 := by
    by_contra hn
    have : rosterEntry s (primaryOf s) = 0 := regAt_of_le _ (by show 16384 ≤ _; omega)
    rw [inRoster, this] at hr
    cases hr
  refine ⟨(regAt_rset_other _ _ _ _ (by decide)).trans (regAt_rset_other _ _ _ _ (by decide)), ?_, ?_⟩
  · have : rget (primaryTaken s) .cohortSelf_primary 0 = 1 := (regAt_rset_other _ _ _ _ (by decide)).trans (regAt_rset_same _ _ (by decide))
    rw [isPrimary, this]
    rfl
  · have : rosterEntry (primaryTaken s) (primaryOf s) = (rosterEntry s (primaryOf s) - 8) % 2 ^ 32 := regAt_rset_same _ _ hi
    rw [inRoster, this, entrySt_unprimary ht]
    exact hr

/-! ### The obligation -/

/-- The changes of epoch 1: the module itself and those that announced themselves. -/
def epochOneChanges (s : State) (a : Nat × Nat × Nat) : List (Nat × Nat) :=
  (a :: s.fab.announced.filter (fun b => b.1 != a.1)).map (fun b =>
    (b.1, mkEntry (b.2.2 + 1) b.2.1 (if b.1 = a.1 then rget s .cohortHealth_score 0 else 1000)))

/-- The roster of epoch 1. -/
def epochOne (s : State) (a : Nat × Nat × Nat) : RosterMsg :=
  ⟨1, 0, a.1, a.2.1, 8, (rosterChanges s (epochOneChanges s a)).map (fun x => (x.1, BitVec.ofNat 32 x.2)), false, ownForce s⟩

theorem exec_epochOneIssue {s : State} {a : Nat × Nat × Nat} (hj : s.fab.joining = some a) (he : rosterEpoch s = 0)
    (hb : ∀ b ∈ s.fab.announced, ranksLower b a = false) : exec .epochOneIssue s = .next (applyRoster (epochOne s a)
      (emit (.vc7 "ROSTER" 0x3FFF (rosterFields (epochOne s a))) { s with fab := { s.fab with announced := [] } })) := by
  show execEpochOneIssue s = _
  unfold execEpochOneIssue
  rw [hj]
  dsimp only
  rw [he, if_neg (by simpa using hb)]
  rfl

/-- With an empty roster the changes are those of the decision. -/
theorem rosterChanges_of_empty {s : State} (h : rosterList s = []) (ch : List (Nat × Nat)) :
    rosterChanges s ch = ch.map (fun x => (x.1, x.2 + electBits s ch x)) := by
  have hc : changed s ch = ch := by rw [changed, h]; rfl
  unfold rosterChanges
  rw [hc]
  dsimp only
  have hn : ch.filter (fun x => !ch.any (fun c => c.1 == x.1)) = [] := List.filter_eq_nil_iff.2 fun x hx => by
    have : ch.any (fun c => c.1 == x.1) = true := List.any_eq_true.2 ⟨x, hx, beq_self_eq_true _⟩
    simp [this]
  rw [hn]
  simp

theorem epochOne_admits {s t : State} {a : Nat × Nat × Nat} (hl : rosterList s = []) (hr : t.regs = s.regs) (ha : a.2.2 ≤ 1)
    (hb : ∀ b ∈ s.fab.announced, b.2.2 ≤ 1) : Admits (epochOne s a) t := by
  refine ⟨rfl, rfl, fun x hx => ?_, fun x _ => ?_⟩
  · obtain ⟨y, hy, rfl⟩ := List.mem_map.1 hx
    rw [rosterChanges_of_empty hl] at hy
    obtain ⟨z, hz, rfl⟩ := List.mem_map.1 hy
    obtain ⟨b, hb', rfl⟩ := List.mem_map.1 hz
    have hle : b.2.2 ≤ 1 := by
      rcases List.mem_cons.1 hb' with rfl | hb'
      · exact ha
      · exact hb b (List.mem_filter.1 hb').1
    rw [BitVec.toNat_ofNat, entrySt_mkEntry (electBits_le ..).1 (by omega)]
    omega
  · rw [rosterEntry_eq, hr]
    exact rosterEntry_of_empty hl _

theorem epochOne_entry {s t : State} {i co role : Nat} (hi : i < 16384) (hc : co < 256) (hr : role ≤ 1) :
    entrySt (rosterEntry (rosterSet (epochOne s (i, co, role)) t) i) = role + 1 ∧
    entryCohort (rosterEntry (rosterSet (epochOne s (i, co, role)) t) i) = co := by
  let ch := (s.fab.announced.filter (fun b => b.1 != i)).map (fun b =>
    (b.1, mkEntry (b.2.2 + 1) b.2.1 (if b.1 = i then rget s .cohortHealth_score 0 else 1000)))
  have hm : epochOneChanges s (i, co, role) = (i, mkEntry (role + 1) co (if i = i then rget s .cohortHealth_score 0 else 1000)) :: ch :=
    List.map_cons
  have hn : ∀ y ∈ ch, y.1 ≠ i := fun y hy => by
    obtain ⟨z, hz, rfl⟩ := List.mem_map.1 hy
    simpa using (List.mem_filter.1 hz).2
  obtain ⟨b, hb, he⟩ := rosterSet_issued (m := epochOne s (i, co, role)) (s := t) hn hi (by rw [← hm]; rfl)
  dsimp only at he
  rw [he]
  exact ⟨entrySt_mkEntry hb (by omega), entryCohort_mkEntry hb hc⟩

theorem exec_joinAnnouncement {s : State} {i co role : Nat} (hr : role ≤ 1) (hi : i < 16384) (hc : co < 256) :
    exec (.joinAnnouncement i co role) s =
      if isPrimary s then
        (if joinFree s i co then .next (issueRoster co 8 [(i, mkEntry (role + 1) co ((sget? s.fab.scores i).getD 1000))] false s) else .next s)
      else if s.fab.announced.contains (i, co, role) || inRoster s i then .next s
      else .next (floodJoin (i, co, role) { s with fab := { s.fab with announced := s.fab.announced ++ [(i, co, role)] } }) := by
  show execJoinAnnouncement i co role s = _
  unfold execJoinAnnouncement
  rw [if_neg (by simp; omega)]

theorem exec_rosterNotice (i epoch : Nat) (s : State) :
    exec (.rosterNotice false i epoch) s = if hasPosition s && rosterEpoch s < epoch then .next (askRoster s) else .next s := by
  show execRosterNotice false i epoch s = _
  unfold execRosterNotice
  dsimp only
  rw [if_neg Bool.false_ne_true]

theorem exec_primaryTakeover {s : State} {n : Nat} (hp : hasPosition s = true) (ho : primaryOf s ≠ ownRoster s) (hf : primaryOf s ≠ 0x3FFF)
    (hs : suspects s (primaryOf s) = true) : exec (.primaryTakeover n) s =
      if deputyOf s (cohortOf s (primaryOf s)) = ownRoster s && stewards s < 2 * n then
        .next (dropSuspicions (primaryOf s :: (together (primaryTaken s) (primaryOf s)).filter (fun j => j != primaryOf s))
          (decide' (cohortOf s (primaryOf s)) 3 (primaryOf s :: (together (primaryTaken s) (primaryOf s)).filter (fun j => j != primaryOf s)) true
            (primaryTaken s)))
      else if isSteward s || deputyOf s (cohortOf s (primaryOf s)) = ownRoster s then
        .next (raise0 0x0C06 8 (pack [(0, 14, primaryOf s), (64, 64, rosterEpoch s)]) (rflag .cohortStatus_primaryLostSeen 0 s))
      else .next s := by
  show execPrimaryTakeover n s = _
  unfold execPrimaryTakeover
  rw [if_neg (by simp [hp, ho, hf, hs])]
  rfl

theorem exec_epochRequest (co i : Nat) (w : Bool) (s : State) :
    exec (.epochRequest co 2 [i] w) s = if isPrimary s then .next (grantEpoch co 2 [i] true s) else .next s := by
  show execEpochRequest co 2 [i] w s = _
  unfold execEpochRequest
  cases isPrimary s <;> cases w <;> rfl

/-- ROSTER_JOIN of a free position. -/
theorem rosterJoin_waits {s : State} {h : CmdRef} {r : BitVec 16} {co role : BitVec 8} (hm : mayRun 0x84 h s = true) (hc : h.ctx = 0)
    (hi : r.toNat < 16384) (hn : inRoster s r.toNat = false)
    (hco : ((rosterList s).filter (fun x => inRoster s x.1 && entryCohort x.2 == co.toNat)).length < 64) (hr : role.toNat ≤ 1)
    (hp : hasPosition s = false) (hj : s.fab.joining = none) : leadsTo (.rosterJoin h r co role) s (fun t => waitsOn h .joined t = true ∧
      t.regs = s.regs ∧ t.fab.joining = some (r.toNat, co.toNat, role.toNat) ∧
      ∀ p, portUp s p = true → .link p "JOIN" [r.toNat, co.toNat, role.toNat] ∈ t.io.outbox) := by
  refine leadsTo_runPriv (op := 0x84) (h := h) rfl hm hc fun l hl => ?_
  generalize hu : setJournal l s = u at hl ⊢
  have hk : u.regs = s.regs ∧ u.fab = s.fab ∧ u.io = s.io ∧ u.ctl.journal = l := by rw [← hu]; exact ⟨rfl, rfl, rfl, rfl⟩
  obtain ⟨hkr, hkf, hkio, hkj⟩ := hk
  have hn' : inRoster u r.toNat = false := by rw [inRoster, rosterEntry_eq, hkr]; exact hn
  have hp' : hasPosition u = false := by rw [hasPosition, rget_eq, hkr]; exact hp
  have hco' : ((rosterList u).filter (fun x => inRoster u x.1 && entryCohort x.2 == co.toNat)).length < 64 := by
    have : inRoster u = inRoster s := by funext j; rw [inRoster, inRoster, rosterEntry_eq, rosterEntry_eq, hkr]
    rw [this, rosterList, hkr]
    exact hco
  have hi' : decide (16384 ≤ r.toNat) = false := decide_eq_false (by omega)
  dsimp only
  rw [hn', hi', hp', hkf, hj, if_neg (by simp), if_neg (by exact Nat.not_le.2 hco'), if_neg (by omega), if_neg (by decide)]
  obtain ⟨o, ho, hs⟩ := floodJoin_spec (r.toNat, co.toNat, role.toNat)
    (waitFor h .joined { u with fab := { s.fab with joining := some (r.toNat, co.toNat, role.toNat) } })
  rw [ho]
  refine ⟨waitFor_waits_of (t := { u with fab := { s.fab with joining := some (r.toNat, co.toNat, role.toNat) } }) hm (hl.trans hu.symm) hkj, hkr, rfl, fun p hpu => hs p ?_⟩
  have hup : portUp u p = true := (portUp_of_regs (by rw [hkr])).trans hpu
  exact hup

/-- Settles O43: what follows on a roster keeps its registers (`Steady`), and an epoch that only admits keeps the module's position (`Seated`). -/
theorem rostersAndJoining : Obligations.RostersAndJoining := by
  unfold Obligations.RostersAndJoining
  intro s
  refine ⟨fun m hm hd => ⟨fun he => ?_, fun he hf hl => ?_, fun he hf hp hg => ?_⟩, fun h r co role hm hc => ⟨?_, fun hi => ?_⟩, ?_, fun hj => ?_, ?_, ?_, ?_, ?_, ?_, ?_⟩
  · exact (exec_roster hd).trans (if_pos he)
  · have hs := applyRoster_roster m s
    refine ⟨_, exec_roster_applied hd he hf, ?_, fun c hc hi => ?_, fun i _ hn => ?_, applyRoster_reported m s⟩
    · rw [hs.rosterEpoch, rosterSet_epoch, Nat.mod_eq_of_lt hm]
    · rw [hs.rosterEntry, rosterSet_listed hl hc hi]
    · rw [hs.rosterEntry, rosterSet_unlisted fun y hy he => hn (by rw [← he]; exact List.mem_map_of_mem hy)]
  · refine ⟨_, ((exec_roster hd).trans (if_neg (by omega))).trans (if_neg (by simp [hf, hp])), askRoster_spec hg⟩
  · exact fun hi hn hco hr hp hj => rosterJoin_waits hm hc hi hn hco hr hp hj
  · refine leadsTo_runPriv (op := 0x84) (h := h) rfl hm hc fun l hl => ?_
    have hb : (decide (16384 ≤ r.toNat) || (inRoster s r.toNat && !(hasPosition s && r.toNat == ownRoster s))) = true := by
      rw [decide_eq_true hi, Bool.true_or]
    refine (if_pos hb) ▸ ?_
    exact ⟨badParam_replied_of hm hl rfl, onlyJournal_finish ..⟩
  · intro i co role hj hi hc hr he hl hp hb
    have hlow := exec_epochOneIssue hj he fun b h => (hb b h).1
    generalize hu : emit (.vc7 "ROSTER" 0x3FFF (rosterFields (epochOne s (i, co, role)))) { s with fab := { s.fab with announced := [] } } = u at hlow
    have hk : u.regs = s.regs ∧ u.ctl = s.ctl ∧ u.fab.joining = some (i, co, role) := by rw [← hu]; exact ⟨rfl, rfl, hj⟩
    have ha := epochOne_admits (t := u) (a := (i, co, role)) hl hk.1 hr fun b h => (hb b h).2.2
    obtain ⟨hst, hco⟩ := epochOne_entry (s := s) (t := u) hi hc hr
    have hs := applyRoster_roster (epochOne s (i, co, role)) u
    obtain ⟨h1, h2, h3, h4⟩ := epochOne_seated ha (by rw [hasPosition, rget_eq, hk.1]; exact hp) hi hr hk.2.2 hst hco rfl
    refine ⟨_, hlow, ?_, ?_, ?_, h1, h2, h3, fun r hr => h4 r (by rw [hk.2.1]; exact hr)⟩
    · rw [hs.rosterEpoch, rosterSet_epoch]
      rfl
    · rw [hs.rosterEntry, hst]
    · rw [cohortOf, hs.rosterEntry, hco]
  · show execEpochOneIssue s = _
    rw [execEpochOneIssue, hj]
  · refine fun i co role hr hi hc => ⟨fun hp hf he => ?_, fun hp hn ha => ?_⟩
    · refine ⟨_, ((exec_joinAnnouncement hr hi hc).trans (if_pos hp)).trans (if_pos hf), issueRoster_epoch _ _ _ _ he, ?_⟩
      exact issueRoster_entry i hi (by omega) hc
    · have hb : (s.fab.announced.contains (i, co, role) || inRoster s i) = false := by
        rw [hn, Bool.or_false, List.contains_eq_mem, decide_eq_false ha]
      refine ⟨_, ((exec_joinAnnouncement hr hi hc).trans (if_neg (by simp [hp]))).trans (if_neg (by rw [hb]; decide)), ?_⟩
      obtain ⟨o, ho, hs⟩ := floodJoin_spec (i, co, role) { s with fab := { s.fab with announced := s.fab.announced ++ [(i, co, role)] } }
      rw [ho]
      exact ⟨rfl, hs⟩
  · intro i epoch hp he hg
    obtain ⟨-, h⟩ := askRoster_spec hg
    exact ⟨_, (exec_rosterNotice i epoch s).trans (if_pos (by simp [hp, he])), h⟩
  · intro i epoch he
    exact (exec_rosterNotice i epoch s).trans (if_neg (by simp; omega))
  · refine fun i => ⟨fun h => ⟨_, if_pos h, rfl, List.mem_append_right _ List.mem_cons_self⟩, fun h => if_neg (by rw [h]; decide)⟩
  · refine fun co i w => ⟨fun h => (exec_epochRequest co i w s).trans (if_neg (by rw [h]; decide)), fun h hr hi he => ?_⟩
    refine ⟨_, (exec_epochRequest co i w s).trans (if_pos h), ?_⟩
    rw [grantEpoch_held hr]
    exact ⟨issueRoster_epoch _ _ _ _ he, (issueRoster_entry i hi (by omega) (Nat.mod_lt _ (by decide))).1⟩
  · intro n p hp ho hf hs ht
    refine ⟨fun hd hn hr he => ?_, fun hw hd => ?_⟩
    · obtain ⟨h1, h2, h3⟩ := primaryTaken_spec ht hr
      refine ⟨_, (exec_primaryTakeover hp ho hf hs).trans (if_pos (by rw [Bool.and_eq_true, decide_eq_true_iff, decide_eq_true_iff]; exact ⟨hd, hn⟩)), ?_⟩
      refine (decide_epoch h2 ⟨_, List.mem_cons_self, h3⟩ (by rw [h1]; exact he)).trans ?_
      rw [h1]
    · refine ⟨_, ((exec_primaryTakeover hp ho hf hs).trans (if_neg ?_)).trans (if_pos ?_), ?_⟩
      · rw [Bool.and_eq_true, decide_eq_true_iff]
        exact fun h => hd h.1
      · rw [hw, Bool.true_or]
      · obtain ⟨ev, hev, h1, -, h2, -⟩ := raise0_event 0x0C06 8 (pack [(0, 14, primaryOf s), (64, 64, rosterEpoch s)]) (rflag .cohortStatus_primaryLostSeen 0 s)
        refine ⟨by simp, ?_, ev, hev, h1, h2⟩
        rw [rget_eq, regAt_raise0 _ _ _ _ _ (by decide)]
        exact regAt_rset_same _ _ (by decide)

end Sys2Proof.Machine
end

section
/-! PROOFS. Liveness, suspicion and decisions (O44). -/

namespace Sys2Proof.Machine

/-! ### The roster's list -/

theorem primaryOf_of_list {s t : State} (h : rosterList t = rosterList s) : primaryOf t = primaryOf s := by rw [primaryOf, h]; rfl

/-! ### Reports and decisions -/

theorem foldl_emit_fields {α : Type} (f : State → α → OutMsg) (l : List α) (s : State) : (l.foldl (fun s i => emit (f s i) s) s).regs = s.regs ∧
    (l.foldl (fun s i => emit (f s i) s) s).fab = s.fab := by
  induction l generalizing s with
  | nil => exact ⟨rfl, rfl⟩
  | cons i l ih => exact ih (emit (f s i) s)

theorem takeReport_spec (r i p cause : Nat) (s : State) : (takeReport r i p cause s).regs = s.regs ∧
    (takeReport r i p cause s).fab = { s.fab with suspicions := (takeReport r i p cause s).fab.suspicions } ∧
    ∃ x ∈ (takeReport r i p cause s).fab.suspicions, x.suspect = i ∧ (r, p) ∈ x.reports := by
  unfold takeReport
  split
  · next h =>
    obtain ⟨y, hy, hi⟩ := List.any_eq_true.1 h
    have hi : y.suspect = i := by simpa using hi
    exact ⟨rfl, rfl, _, List.mem_map.2 ⟨y, hy, if_pos hi⟩, hi, List.mem_append_right _ List.mem_cons_self⟩
  · obtain ⟨hr, hf⟩ := foldl_emit_fields (fun _ p => .link p "PROBE" [i]) (maskPorts (routeOf s i / 4))
      { s with fab := { s.fab with suspicions := s.fab.suspicions ++ [⟨i, cause, [(r, p)], false⟩] } }
    generalize List.foldl _ _ _ = t at hr hf ⊢
    refine ⟨hr, by rw [hf], ⟨i, cause, [(r, p)], false⟩, ?_, rfl, List.mem_cons_self⟩
    rw [hf]
    exact List.mem_append_right _ List.mem_cons_self

theorem decide_fab_of_asked {co d : Nat} {l : List Nat} {w : Bool} {s : State} (hp : isPrimary s = false) : (decide' co d l w s).fab = s.fab ∧
    .vc7 "EPOCH_REQUEST" (primaryOf s) ([co, d, b2n (d == 3 || d == 4)] ++ l) ∈ (decide' co d l w s).io.outbox ∧
    (∀ f i, f.tally = false → f ∉ [Fld.cohortDecisionCount_count, .cohortEvictCount_count] →
      regAt (decide' co d l w s).regs f i = regAt s.regs f i) := by
  unfold decide'
  dsimp only
  rw [if_neg (by rw [hp]; decide)]
  refine ⟨?_, List.mem_append_right _ List.mem_cons_self, fun f i hf hn => ?_⟩
  · show (if d = 4 then _ else _ : State).fab = _
    split <;> simp
  · show regAt (if d = 4 then _ else _ : State).regs f i = _
    obtain ⟨h1, h2⟩ : f ≠ .cohortDecisionCount_count ∧ f ≠ .cohortEvictCount_count := by simpa using hn
    split
    · rw [regAt_count_other _ _ _ _ hf h2, count1, regAt_count_other _ _ _ _ hf h1]
    · rw [count1, regAt_count_other _ _ _ _ hf h1]

theorem exec_livenessTokenSend (p : Nat) (s : State) : exec (.livenessTokenSend p) s =
    if !portUp s p || rget s .mcStatus_ready 0 = 0 then .next s
    else .next (emit (.link p "TOKEN" [2, 1, pack [(0, 1, b2n s.fab.notice),
      (1, 1, b2n (hasPosition s && entrySt (rosterEntry s (ownRoster s)) == 4)), (3, 1, b2n s.fab.out)], rget s .cohortSelf_cohort 0, rosterField s,
      rget s .cohortHealth_score 0, rosterEpoch s, (portOf s p).sent % 2 ^ 32]) (modPort p (fun x => { x with sent := x.sent + 1 }) s)) := rfl

/-- What a token tells of its sender. -/
def tokenTold (p : Nat) (k : LiveToken) (s : State) : State :=
  let s1 := modPort p (fun x => { x with token := k.seq.toNat, suspect := false }) s
  { s1 with fab := { s1.fab with scores := sput s1.fab.scores k.roster.toNat k.health,
                                 suspicions := s1.fab.suspicions.map (fun x => if x.suspect = k.roster.toNat then { x with answered := true } else x),
                                 notices := if k.flags.getLsbD 0 then s1.fab.notices else s1.fab.notices.filter (fun x => x.1 != k.roster.toNat) } }

theorem tokenTold_spec {p : Nat} (hp : p < 32) (k : LiveToken) (s : State) : (tokenTold p k s).regs = s.regs ∧
    portOf (tokenTold p k s) p = { portOf s p with token := k.seq.toNat, suspect := false } ∧
    sget? (tokenTold p k s).fab.scores k.roster.toNat = some k.health ∧
    ∀ x ∈ (tokenTold p k s).fab.suspicions, x.suspect = k.roster.toNat → x.answered = true := by
  refine ⟨modPort_regs .., ?_, sget?_sput_same .., fun x hx he => ?_⟩
  · exact portOf_modPort_same hp _ s
  · obtain ⟨y, -, rfl⟩ := List.mem_map.1 hx
    split at he
    · next h => rw [if_pos h]
    · next h => exact absurd he h

theorem resendTokens_spec (i : Nat) (s : State) : (resendTokens i s).regs = s.regs ∧ (resendTokens i s).fab = s.fab :=
  foldl_emit_fields (α := Nat × Nat × Nat × Bool) (fun s t => .vc7 "SWEEP" i [ownRoster s, t.2.1, t.2.2.1]) _ s

theorem askRoster_fab (s : State) : (askRoster s).regs = s.regs ∧ (askRoster s).fab = { s.fab with gap := true } := by
  unfold askRoster
  split
  · next h => exact ⟨rfl, by rw [← h]⟩
  · exact ⟨rfl, rfl⟩

theorem exec_livenessToken {p : Nat} {k : LiveToken} {s : State} (hp : portUp s p = true) (hi : k.roster.toNat < 16384) :
    exec (.livenessToken p k) s = .next (
      let s3 := resendTokens k.roster.toNat (rset .linkPortPeer_roster p k.roster.toNat (tokenTold p k s))
      let s4 := if rosterEpoch s3 < k.epoch && !(k.flags.getLsbD 3) then askRoster s3 else s3
      if k.flags.getLsbD 0 || k.flags.getLsbD 3 then s4 else heldBack k.roster.toNat s4) := by
  show execLivenessToken p k s = _
  unfold execLivenessToken
  rw [if_neg (by simp [hp])]
  dsimp only
  rw [if_neg (by omega)]
  rfl

theorem livenessToken_spec {p : Nat} {k : LiveToken} {s : State} (hp : portUp s p = true) (hi : k.roster.toNat < 16384)
    (hh : k.flags.getLsbD 0 = true ∨ entrySt (rosterEntry s k.roster.toNat) ≠ 5) :
    leadsTo (.livenessToken p k) s (fun t => (portOf t p).suspect = false ∧ (portOf t p).token = k.seq.toNat ∧
      rget t .linkPortPeer_roster p = k.roster.toNat ∧ sget? t.fab.scores k.roster.toNat = some k.health ∧
      (∀ x ∈ t.fab.suspicions, x.suspect = k.roster.toNat → x.answered = true) ∧
      (rosterEpoch s < k.epoch → k.flags.getLsbD 3 = false → t.fab.gap = true)) := by
  refine ⟨_, exec_livenessToken hp hi, ?_⟩
  have h32 : p < 32 := (portUp_iff.1 hp).1
  obtain ⟨h1, h2, h3, h4⟩ := tokenTold_spec h32 k s
  generalize tokenTold p k s = u at h1 h2 h3 h4
  have hpeer : rget (rset .linkPortPeer_roster p k.roster.toNat u) .linkPortPeer_roster p = k.roster.toNat :=
    (regAt_rset_same _ _ h32).trans (Nat.mod_eq_of_lt (by show k.roster.toNat < 2 ^ 16; omega))
  have hent : rosterEntry (rset .linkPortPeer_roster p k.roster.toNat u) k.roster.toNat = rosterEntry s k.roster.toNat := by
    rw [rosterEntry_eq, regAt_rset_other _ _ _ _ (by decide), h1]; rfl
  have hepo : rosterEpoch (rset .linkPortPeer_roster p k.roster.toNat u) = rosterEpoch s := by
    rw [rosterEpoch_eq, regAt_rset_other _ _ _ _ (by decide), h1]; rfl
  have hfab : (rset .linkPortPeer_roster p k.roster.toNat u).fab = u.fab := rset_fab ..
  generalize rset .linkPortPeer_roster p k.roster.toNat u = v at hpeer hent hepo hfab
  obtain ⟨r1, r2⟩ := resendTokens_spec k.roster.toNat v
  generalize resendTokens k.roster.toNat v = w at r1 r2
  dsimp only
  have hasked : (if rosterEpoch w < k.epoch && !(k.flags.getLsbD 3) then askRoster w else w).regs = v.regs ∧
      (if rosterEpoch w < k.epoch && !(k.flags.getLsbD 3) then askRoster w else w).fab = { u.fab with
        gap := if rosterEpoch s < k.epoch && !(k.flags.getLsbD 3) then true else u.fab.gap } := by
    have he : rosterEpoch w = rosterEpoch s := by rw [rosterEpoch_eq, r1]; exact hepo
    rw [he]
    split
    · obtain ⟨a1, a2⟩ := askRoster_fab w
      exact ⟨a1.trans r1, by rw [a2, r2, hfab]⟩
    · exact ⟨r1, r2.trans hfab⟩
  generalize (if rosterEpoch w < k.epoch && !(k.flags.getLsbD 3) then askRoster w else w) = x at hasked
  obtain ⟨x1, x2⟩ := hasked
  have hx : (if k.flags.getLsbD 0 || k.flags.getLsbD 3 then x else heldBack k.roster.toNat x) = x := by
    split
    · rfl
    · next hn =>
      have hne : entrySt (rosterEntry x k.roster.toNat) ≠ 5 := by
        rw [rosterEntry_eq, x1]
        exact fun he => (hh.resolve_left fun h0 => hn (by rw [h0]; rfl)) (by rw [← hent]; exact he)
      exact if_neg (by simp [hne])
  rw [hx]
  have hport : portOf x p = portOf u p := by rw [portOf, x2]; rfl
  refine ⟨by rw [hport, h2], by rw [hport, h2], by rw [rget_eq, x1]; exact hpeer, by rw [x2]; exact h3, by rw [x2]; exact h4, fun he h0 => ?_⟩
  rw [x2]
  exact if_pos (by rw [h0, decide_eq_true he]; rfl)

theorem tokenSilence_spec {p : Nat} {s : State} (hp : portUp s p = true) (hs : (portOf s p).suspect = false) (hh : hasPosition s = true)
    (hr : inRoster s (rget s .linkPortPeer_roster p) = true) : leadsTo (.tokenSilence p) s (fun t => (portOf t p).suspect = true ∧
      (∃ ev ∈ t.io.events, ev.code = 0x0C01 ∧ ev.ring = 0) ∧ (suspicionTo s (rget s .linkPortPeer_roster p) ≠ ownRoster s →
      .vc7 "SUSPICION" (suspicionTo s (rget s .linkPortPeer_roster p)) [ownRoster s, rget s .linkPortPeer_roster p, p, 1, rosterEpoch s] ∈ t.io.outbox)) := by
  refine ⟨suspectPeer p 1 s, if_pos hp, ?_⟩
  generalize hi : rget s .linkPortPeer_roster p = i at hr
  unfold suspectPeer
  dsimp only
  rw [hi, hs, hh, hr, if_neg (by decide)]
  have h32 : p < 32 := (portUp_iff.1 hp).1
  have hport : (portOf (modPort p (fun x => { x with suspect := true }) s) p).suspect = true := by rw [portOf_modPort_same h32]
  obtain ⟨ev, hev, h1, -, h2, -⟩ := raise0_event 0x0C01 8 (pack [(0, 14, i), (16, 8, p), (24, 4, 1)])
    (count1 .cohortSuspectCount_count 0 (rflag .cohortStatus_suspectSeen 0 (modPort p (fun x => { x with suspect := true }) s)))
  have hfab : (raise0 0x0C01 8 (pack [(0, 14, i), (16, 8, p), (24, 4, 1)]) (count1 .cohortSuspectCount_count 0
      (rflag .cohortStatus_suspectSeen 0 (modPort p (fun x => { x with suspect := true }) s)))).fab = (modPort p (fun x => { x with suspect := true }) s).fab := by
    simp
  generalize raise0 0x0C01 8 _ _ = t at hev hfab ⊢
  split
  · next hd =>
    obtain ⟨-, hf, -⟩ := takeReport_spec (ownRoster s) i p 1 t
    refine ⟨?_, ⟨ev, (Steady.refl (K := 1)).takeReport (ownRoster s) i p 1 |>.events.subset hev, h1, h2⟩, fun h => absurd hd h⟩
    have : portOf (takeReport (ownRoster s) i p 1 t) p = portOf (modPort p (fun x => { x with suspect := true }) s) p := by
      rw [portOf, hf, portOf, hfab]
    rw [this, hport]
  · exact ⟨by rw [portOf_of_fab (t := emit _ t) (hfab : (emit _ t).fab = _), hport], ⟨ev, hev, h1, h2⟩, fun _ => List.mem_append_right _ List.mem_cons_self⟩

theorem exec_suspicionReport {r i p cause epoch : Nat} {s : State} (hp : hasPosition s = true) (ht : suspicionTo s i = ownRoster s)
    (hr : inRoster s i = true) (h1 : 1 ≤ cause) (h3 : cause ≤ 3) : exec (.suspicionReport r i p cause epoch) s =
    if rosterEpoch s < epoch then .next s else .next (takeReport r i p cause s) := by
  show execSuspicionReport r i p cause epoch s = _
  unfold execSuspicionReport
  simp [hp, ht, hr, h1, h3]

theorem exec_stewardDecision {i cause : Nat} {s : State} (hp : hasPosition s = true) (h1 : 1 ≤ cause) (h3 : cause ≤ 3) :
    exec (.stewardDecision i cause) s = .next (decideSuspect i s) := by
  show execStewardDecision i cause s = _
  unfold execStewardDecision
  rw [if_neg (by simp [hp]), if_neg (by omega), if_pos h3]

theorem not_mem_dropSuspicions {l : List Nat} {i : Nat} (hi : i ∈ l) (s : State) : ∀ y ∈ (dropSuspicions l s).fab.suspicions, y.suspect ≠ i := by
  intro y hy he
  have := (List.mem_filter.1 hy).2
  rw [he] at this
  simp [hi] at this

theorem resetNoticeExpiry_spec {i : Nat} {s : State} (h : noticed s i = true) : leadsTo (.resetNoticeExpiry i) s (fun t => noticed t i = false ∧
    ∃ x ∈ t.fab.suspicions, x.suspect = i) := by
  refine ⟨_, if_neg (by simp [h]), ?_⟩
  obtain ⟨-, hf, x, hx, hi, -⟩ := takeReport_spec (ownRoster s) i 0xFF 1 { s with fab := { s.fab with notices := s.fab.notices.filter (fun x => x.1 != i) } }
  generalize takeReport _ _ _ _ _ = t at hf hx
  refine ⟨?_, x, hx, hi⟩
  rw [noticed, hf]
  simp

theorem hardFaultReport_spec {i c : Nat} {s : State} (hs : isSteward s = true) (hr : inRoster s i = true) (hp : isPrimary s = false) :
    leadsTo (.hardFaultReport i c 1) s (fun t => .vc7 "EPOCH_REQUEST" (primaryOf s) [cohortOf s i, 4, 1, i] ∈ t.io.outbox ∧
      (hasPosition s = true → i = ownRoster s → rget t .cohortHealth_hard 0 = 1 ∧ rget t .cohortHealth_score 0 = 0)) := by
  refine ⟨decide' (cohortOf s i) 4 [i] false (hardOn i s), ?_, ?_⟩
  · show execHardFaultReport i c 1 s = _
    unfold execHardFaultReport
    rw [if_neg (by simp [hs, hr])]
    rfl
  · have hl : rosterList (hardOn i s) = rosterList s := by
      unfold hardOn
      split
      · unfold setHard rflag
        rw [rosterList_rset (by decide), rosterList_rset (by decide)]
      · rfl
    have hp' : isPrimary (hardOn i s) = false := by
      rw [← hp, isPrimary, isPrimary]
      unfold hardOn
      split
      · unfold setHard
        rw [rget_eq, regAt_rset_other _ _ _ _ (by decide), regAt_rflag_other _ _ _ (by decide)]
        rfl
      · rfl
    obtain ⟨-, h2, h3⟩ := decide_fab_of_asked (co := cohortOf s i) (d := 4) (l := [i]) (w := false) hp'
    rw [primaryOf_of_list hl] at h2
    refine ⟨h2, fun hh ho => ?_⟩
    have hh' : hardOn i s = setHard s := if_pos (by simp [hh, ho])
    rw [rget_eq, rget_eq, h3 _ _ (by decide) (by decide), h3 _ _ (by decide) (by decide), hh']
    unfold setHard
    refine ⟨?_, regAt_rset_same _ _ (by decide)⟩
    rw [regAt_rset_other _ _ _ _ (by decide)]
    exact regAt_rset_same _ _ (by decide)

/-- Settles O44: reports and tokens act on the suspicions and the ports alone, and a decision elsewhere than at the primary is a request to it. -/
theorem livenessAndDecisions : Obligations.LivenessAndDecisions := by
  unfold Obligations.LivenessAndDecisions
  intro s
  refine ⟨fun p hp hr => ?_, fun p k hp hi hh => livenessToken_spec hp hi hh, fun p hp hs hh hr => tokenSilence_spec hp hs hh hr, fun p hp => ⟨?_, ?_⟩,
    fun r i p cause epoch hp ht hr h1 h3 => ⟨fun he => ?_, fun he => ?_⟩, fun i => ⟨⟨_, rfl, rfl, List.mem_append_right _ List.mem_cons_self⟩, ?_⟩,
    fun i epoch ms hr he => ?_, fun i => ⟨resetNoticeExpiry_spec, fun h => if_pos (by simp [h])⟩, fun i cause x hp h1 h3 hx => ⟨fun ha => ?_, fun ha hr hn hpr => ?_⟩,
    fun i epoch hp ht hr he hpr => ?_, fun i c hs hr hp => hardFaultReport_spec hs hr hp, ?_⟩
  · refine ⟨_, (exec_livenessTokenSend p s).trans (if_neg (by simp [hp, hr])), modPort_regs .., ?_, _, List.mem_append_right _ List.mem_cons_self⟩
    exact congrArg Port.sent (portOf_modPort_same (portUp_iff.1 hp).1 _ s)
  · exact if_neg (by simp [hp])
  · exact (exec_livenessTokenSend p s).trans (if_pos (by simp [hp]))
  · obtain ⟨h4, -, h5⟩ := takeReport_spec r i p cause s
    exact ⟨_, (exec_suspicionReport hp ht hr h1 h3).trans (if_neg (by omega)), h4, h5⟩
  · exact (exec_suspicionReport hp ht hr h1 h3).trans (if_pos he)
  · refine ⟨_, rfl, rfl, fun x hx hi => ?_⟩
    obtain ⟨y, -, rfl⟩ := List.mem_map.1 hx
    split at hi
    · next h => rw [if_pos h]
    · next h => exact absurd hi h
  · exact ⟨_, if_neg (by simp [hr]; omega), List.mem_append_right _ List.mem_cons_self, rfl⟩
  · have hd : decideSuspect i s = dropSuspicions [i] s := by
      unfold decideSuspect
      rw [hx]
      exact if_pos (by rw [ha]; rfl)
    rw [leadsTo, exec_stewardDecision hp h1 h3, hd]
    exact ⟨_, rfl, rfl, rfl, not_mem_dropSuspicions List.mem_cons_self s⟩
  · have hd : decideSuspect i s = dropSuspicions (i :: (together s i).filter (fun j => j != i))
        (decide' (cohortOf s i) 3 (i :: (together s i).filter (fun j => j != i)) true s) := by
      unfold decideSuspect
      rw [hx]
      dsimp only
      rw [if_neg (by simp [ha, hr]), if_neg (by simp [hn])]
    rw [leadsTo, exec_stewardDecision hp h1 h3, hd]
    exact ⟨_, rfl, not_mem_dropSuspicions List.mem_cons_self _, _, (decide_fab_of_asked hpr).2.1⟩
  · refine ⟨decide' (cohortOf s i) 3 [i] false (dropSuspicions [i] s), if_neg (by simp [hp, ht, hr]; omega), ?_⟩
    exact (decide_fab_of_asked (s := dropSuspicions [i] s) hpr).2.1
  · refine ⟨_, rfl, (scoreNow_kept s).mem, rfl, ?_⟩
    refine (regAt_rset_same _ _ (by decide)).trans (Nat.mod_eq_of_lt ?_)
    split
    · decide
    · exact Nat.lt_of_le_of_lt (Nat.sub_le ..) (by decide : 1000 < 2 ^ 10)

end Sys2Proof.Machine
end

section
/-! PROOFS. Targets, generations and manifests of the harvest (O45). -/

namespace Sys2Proof.Machine

/-! ### Targets in their order -/

theorem sdel_above {α : Type} {m : SMap α} {k t n : Nat} (h : m.map Prod.fst = List.range' k n) (ht : t < k) : sdel m t = m := by
  induction m generalizing k n with
  | nil => rfl
  | cons x m ih =>
    obtain ⟨j, v⟩ := x
    cases n with
    | zero => cases h
    | succ n =>
      rw [List.range'_succ, List.map_cons, List.cons.injEq] at h
      obtain ⟨rfl, h⟩ := h
      dsimp only at *
      unfold sdel
      rw [if_neg (by omega), ih h (by omega)]

/-- A key of the row, or the one behind it, is put in its place. -/
theorem sput_row {α : Type} {m : SMap α} {k t : Nat} (v : α) (h : m.map Prod.fst = List.range' k m.length) (hk : k ≤ t) (ht : t ≤ k + m.length) :
    (sput m t v).map Prod.fst = List.range' k (sput m t v).length := by
  induction m generalizing k with
  | nil =>
    have : t = k := by simp at ht; omega
    subst this
    rfl
  | cons x m ih =>
    obtain ⟨j, w⟩ := x
    rw [List.length_cons, List.range'_succ, List.map_cons, List.cons.injEq] at h
    obtain ⟨rfl, h⟩ := h
    dsimp only at *
    rw [List.length_cons] at ht
    unfold sput sdel
    split
    · next he =>
      subst he
      rw [sdel_above h (by omega)]
      have hs : sins j v m = (j, v) :: m := by
        cases m with
        | nil => rfl
        | cons y m =>
          have : y.1 = j + 1 := by simpa [List.range'_succ] using (List.cons.inj (by simpa [List.range'_succ] using h)).1
          obtain ⟨i, u⟩ := y
          dsimp only at this
          unfold sins
          rw [if_pos (by omega)]
      rw [hs, List.map_cons, List.length_cons, List.range'_succ, h]
    · unfold sins
      rw [if_neg (by omega), List.map_cons, List.length_cons, List.range'_succ]
      exact congrArg (j :: ·) (ih h (by omega) (by omega))

/-- The last key of the row is taken off. -/
theorem sdel_row {α : Type} {m : SMap α} {k t : Nat} (h : m.map Prod.fst = List.range' k m.length) (ht : k + m.length ≤ t + 1) :
    (sdel m t).map Prod.fst = List.range' k (sdel m t).length := by
  induction m generalizing k with
  | nil => rfl
  | cons x m ih =>
    obtain ⟨j, w⟩ := x
    rw [List.length_cons, List.range'_succ, List.map_cons, List.cons.injEq] at h
    obtain ⟨rfl, h⟩ := h
    dsimp only at *
    rw [List.length_cons] at ht
    unfold sdel
    split
    · have : m = [] := List.length_eq_zero_iff.1 (by omega)
      subst this
      rfl
    · rw [List.map_cons, List.length_cons, List.range'_succ, ih h (by omega)]

theorem harvOf_modHarv_same (c : Nat) (f : Harv → Harv) (s : State) : harvOf (modHarv c f s) c = f (harvOf s c) := sget_sset_same ..

theorem harvOf_of_har {s t : State} (h : t.har = s.har) (c : Nat) : harvOf t c = harvOf s c := by rw [harvOf, h]; rfl

theorem harvOf_modGen_same {s : State} {c : Nat} {g : HGen} (hg : (harvOf s c).gen = some g) (f : HGen → HGen) :
    (harvOf (modGen c f s) c).gen = some (f g) := by
  rw [modGen, harvOf_modHarv_same, hg]; rfl

/-- HARVEST_TARGET: a registration that keeps the row, and one that does not. -/
theorem harvestTarget_taken {s : State} {h : CmdRef} {tg kind : BitVec 8} {base bytes : Word64} {m' : SMap (Nat × Nat × Nat)} (hm : mayRun 0x50 h s = true)
    (h3 : tg.toNat ≤ 3) (hk : kind = 0) (hb : base.toNat % 4096 = 0) (hn : bytes.toNat % 4096 = 0)
    (hs : bytes.toNat = 0 ∨ 260 * 2 ^ 20 ≤ bytes.toNat)
    (hm' : (if bytes = 0 then sdel (harvOf s h.ctx).targets tg.toNat else sput (harvOf s h.ctx).targets tg.toNat (kind.toNat, base.toNat, bytes.toNat)) = m')
    (hrow : m'.map Prod.fst = List.range m'.length) : leadsTo (.harvestTarget h tg kind base bytes) s (fun t => replied h 0x0000 0 t = true ∧
      { t with ctl := s.ctl, har := s.har } = s ∧ { harvOf t h.ctx with targets := (harvOf s h.ctx).targets } = harvOf s h.ctx ∧
      (harvOf t h.ctx).targets = m') := by
  refine leadsTo_runCmd (op := 0x50) (h := h) rfl hm fun l hl => ?_
  have hok : targetOk (setJournal l s) h.ctx kind.toNat base.toNat bytes.toNat = true := by
    unfold targetOk
    rcases hs with hz | hz
    · simp [hk, hb, hz]
    · simp [hk, hb, hn]; omega
  have hm2 : (if bytes = 0 then sdel (harvOf (setJournal l s) h.ctx).targets tg.toNat
      else sput (harvOf (setJournal l s) h.ctx).targets tg.toNat (kind.toNat, base.toNat, bytes.toNat)) = m' := hm'
  dsimp only
  rw [hm2, hok, hrow, if_neg (by simp; omega)]
  refine ⟨finishOk_replied_of hm hl rfl, rfl, ?_, ?_⟩
  · have : harvOf (finishOk h (modHarv h.ctx (fun x => { x with targets := m' }) (setJournal l s))) h.ctx = { harvOf s h.ctx with targets := m' } :=
      harvOf_modHarv_same h.ctx (fun x => { x with targets := m' }) (setJournal l s)
    rw [this]
  · exact congrArg Harv.targets (harvOf_modHarv_same h.ctx (fun x => { x with targets := m' }) (setJournal l s))

theorem harvestTarget_refused {s : State} {h : CmdRef} {tg kind : BitVec 8} {base bytes : Word64} (hm : mayRun 0x50 h s = true)
    (hb : 3 < tg.toNat ∨ 1 < kind.toNat ∨ base.toNat % 4096 ≠ 0 ∨ bytes.toNat % 4096 ≠ 0 ∨ (bytes.toNat ≠ 0 ∧ bytes.toNat < 260 * 2 ^ 20)) :
    leadsTo (.harvestTarget h tg kind base bytes) s (fun t => replied h 0x0016 0x40 t = true ∧ onlyJournal s t) := by
  refine leadsTo_runCmd (op := 0x50) (h := h) rfl hm fun l hl => ?_
  have hbad : (decide (3 < tg.toNat) || !targetOk (setJournal l s) h.ctx kind.toNat base.toNat bytes.toNat) = true := by
    by_contra hn
    rw [Bool.not_eq_true, Bool.or_eq_false_iff, decide_eq_false_iff_not, Bool.not_eq_false'] at hn
    obtain ⟨h3, hok⟩ := hn
    unfold targetOk at hok
    simp only [Bool.and_eq_true, Bool.or_eq_true, decide_eq_true_eq, beq_iff_eq] at hok
    omega
  dsimp only
  rw [hbad, Bool.true_or, if_pos rfl]
  exact ⟨badParam_replied_of hm hl rfl, onlyJournal_finish ..⟩

/-! ### The seal that may follow, and a generation that fails -/

theorem reported.suffix {s t u : State} {code c : Nat} (h : reported s t code c) (k : t.io.events <:+ u.io.events) : reported s u code c := by
  obtain ⟨l, hl, ev, hev, hc⟩ := h
  obtain ⟨m, hm⟩ := k
  exact ⟨m ++ l, by rw [← hm, hl, List.append_assoc], ev, List.mem_append_right _ hev, hc⟩

theorem reported.prior {s t u : State} {code c : Nat} (h : reported t u code c) (k : s.io.events <:+ t.io.events) : reported s u code c := by
  obtain ⟨l, hl, ev, hev, hc⟩ := h
  obtain ⟨m, hm⟩ := k
  exact ⟨l ++ m, by rw [hl, ← hm, List.append_assoc], ev, List.mem_append_left _ hev, hc⟩

/-- The fields that a seal writes. -/
def sealFlds : List Fld := [.stepCtxState_state, .stepStatus_unmirroredSeen]

theorem sealCheck_kept (c : Nat) (s : State) : (sealCheck c s).har = s.har ∧
    ∀ f i, f.tally = false → f ∉ sealFlds → regAt (sealCheck c s).regs f i = regAt s.regs f i := by
  unfold sealCheck
  split
  · unfold sealNow
    refine ⟨?_, fun f i ht hf => ?_⟩
    · rw [finishWaits_har]
      show (rset _ _ _ _).har = _
      rw [rset_har]
      split <;> simp
    · obtain ⟨h1, h2⟩ : f ≠ .stepCtxState_state ∧ f ≠ .stepStatus_unmirroredSeen := by simpa [sealFlds] using hf
      show regAt (rset .stepCtxState_state c 3 _).regs f i = _
      rw [regAt_rset_other _ _ _ _ h1]
      split
      · rfl
      · exact regAt_rflag_other _ _ _ h2
  · exact ⟨rfl, fun _ _ _ _ => rfl⟩

theorem sealCheck_events (c : Nat) (s : State) : s.io.events <:+ (sealCheck c s).io.events :=
  ((Steady.refl (K := 1) (s := s)).sealCheck c).events

/-- A generation that fails is over: its flag stands and its event was formed. -/
theorem failHere_spec {s : State} {c : Nat} (cause who : Nat) {g : HGen} (hg : (harvOf s c).gen = some g) :
    (harvOf (failHere c cause who s) c).gen = none ∧ rget (failHere c cause who s) .harvestStatus_failedSeen 0 = 1 ∧
    reported s (failHere c cause who s) 0x0D02 c := by
  unfold failHere
  rw [hg]
  dsimp only
  generalize hu : rset .harvestCtxState_busy c 0 (count1 .harvestFailCount_count 0 (rflag .harvestStatus_failedSeen 0
    (modHarv c (fun x => { x with gen := none }) s))) = u
  have h1 : (harvOf u c).gen = none := by
    rw [← hu, harvOf_of_har (s := modHarv c (fun x => { x with gen := none }) s) (by rw [rset_har, count1_har, rflag_har]) c, harvOf_modHarv_same]
  have h2 : regAt u.regs .harvestStatus_failedSeen 0 = 1 := by
    rw [← hu, regAt_rset_other _ _ _ _ (by decide), count1, regAt_count_other _ _ _ _ (by decide) (by decide)]
    exact regAt_rset_same _ _ (by decide)
  have h3 : s.io.events <:+ u.io.events := by
    rw [← hu]
    exact ((((Steady.refl (K := 0) (s := s)).modHarv c (fun x => { x with gen := none })).rflag rfl 0).count1 rfl 0 |>.rset rfl c 0).events
  have h4 := raiseBoth_reported 0x0D02 0xA c (pack [(0, 64, g.gen), (64, 14, who), (80, 8, cause)]) u
  have h5 := (Kept.rfl (F := []) (s := u)).raiseBoth 0x0D02 0xA c (pack [(0, 64, g.gen), (64, 14, who), (80, 8, cause)])
  have h6 : (raiseBoth 0x0D02 0xA c (pack [(0, 64, g.gen), (64, 14, who), (80, 8, cause)]) u).har = u.har := raiseBoth_har ..
  generalize raiseBoth 0x0D02 0xA c _ u = v at h4 h5 h6
  generalize hw : genOver (finishWaits _ _ _ v) = w
  have hk : w.har = v.har ∧ w.regs = v.regs ∧ w.io = v.io := by rw [← hw]; exact ⟨rfl, rfl, rfl⟩
  obtain ⟨k1, k2⟩ := sealCheck_kept c w
  refine ⟨?_, ?_, ((h4.suffix (by rw [hk.2.2])).suffix (sealCheck_events c w)).prior h3⟩
  · rw [harvOf_of_har (k1.trans (hk.1.trans h6)), h1]
  · rw [rget_eq, k2 _ _ (by decide) (by decide), hk.2.1, h5.regs _ _ (by decide) (by decide), h2]

theorem failGen_spec {s : State} {c : Nat} (cause : Nat) {g : HGen} (hg : (harvOf s c).gen = some g) :
    (harvOf (failGen c cause s) c).gen = none ∧ rget (failGen c cause s) .harvestStatus_failedSeen 0 = 1 ∧
    reported s (failGen c cause s) 0x0D02 c := by
  unfold failGen
  rw [hg]
  exact failHere_spec (s := emit _ s) cause _ hg

/-! ### A generation begun -/

/-- The generation that a mark begins. -/
def newGen (c : Nat) (m : CommitMsg) (gen : Nat) (s : State) : HGen :=
  ⟨gen, m.step, m.seq, m.epoch, stepMembers s, svals (harvOf s c).targets, rget s .harvestCtxCtl_noScale c == 1,
    ⟨ownRoster s, memberIdx s c (ownRoster s), ownMarks s c m.step, chunkCount (fullSize s c (ownMarks s c m.step).length), [], []⟩, none, [], []⟩

/-- The state in which it has begun. -/
def genBegun (c : Nat) (m : CommitMsg) (gen : Nat) (s : State) : State :=
  leaveIdle (rset .harvestCtxState_busy c 1 (modHarv c (fun x => { x with gen := some (newGen c m gen s) }) s))

theorem genBegun_spec (c : Nat) (m : CommitMsg) (gen : Nat) (s : State) (hc : c < 256) : (harvOf (genBegun c m gen s) c).gen = some (newGen c m gen s) ∧
    rget (genBegun c m gen s) .harvestCtxState_busy c = 1 ∧ s.io.events <:+ (genBegun c m gen s).io.events := by
  refine ⟨?_, ?_, ?_⟩
  · rw [genBegun, harvOf_of_har (s := modHarv c (fun x => { x with gen := some (newGen c m gen s) }) s) (by rw [leaveIdle_har, rset_har]) c, harvOf_modHarv_same]
  · rw [genBegun, rget_eq, (leaveIdle_told _).regs _ _ (by decide) (by decide)]
    exact regAt_rset_same _ _ hc
  · exact (((Steady.refl (K := 0) (s := s)).modHarv c _).rset rfl c 1).leaveIdle.events

theorem exec_harvestMark {c gen : Nat} {m : CommitMsg} {s : State} (hs : m.step = rget s .stepCtxCommitted_step c) (hg : (harvOf s c).gen = none) :
    exec (.harvestMark c m gen) s = .next (
      if !targetsHold (svals (harvOf s c).targets) (chunkCount (fullSize s c (ownMarks s c m.step).length)) then failGen c 5 (genBegun c m gen s)
      else targetZero c ((svals (harvOf s c).targets).getD 0 (0, 0, 0)) (slotBase ((svals (harvOf s c).targets).getD 0 (0, 0, 0)) gen) 2097152
        (genBegun c m gen s)) := by
  show execHarvestMark c m gen s = _
  unfold execHarvestMark markStep
  rw [if_pos hs]
  unfold beginGen
  rw [if_neg (by simp [hg])]
  rfl

theorem targetZero_kept (c : Nat) (t : Nat × Nat × Nat) (a n : Nat) (s : State) : (targetZero c t a n s).har = s.har ∧ (targetZero c t a n s).regs = s.regs := by
  unfold targetZero
  split
  · split <;> exact ⟨rfl, rfl⟩
  · split <;> exact ⟨rfl, rfl⟩

/-! ### Chunks -/

theorem exec_chunkWriteDone {c k : Nat} {ok : Bool} {s : State} {g : HGen} (hg : (harvOf s c).gen = some g) :
    exec (.chunkWriteDone c false k ok) s =
      if g.own.chunks ≤ k || (sget? g.own.wrote k).isSome then .next s
      else if ok then .next (chunkDone c g g.own false k s)
      else .next (if 4 ≤ sget 0 g.own.fails k + 1 then
          failGen c 2 (modGen c (fun y => { y with own := { g.own with fails := sset 0 g.own.fails k (sget 0 g.own.fails k + 1) } }) s)
        else modGen c (fun y => { y with own := { g.own with fails := sset 0 g.own.fails k (sget 0 g.own.fails k + 1) } }) s) := by
  show execChunkWriteDone c false k ok s = _
  unfold execChunkWriteDone
  rw [hg]
  rfl

/-- Context 0 has no event ring. -/
abbrev ringless (s : State) : Prop := (ctx? s 0).elim true (fun x => x.ring.isNone) = true

theorem ringWrite_ringless {e : Event} {s : State} (he : e.ring = 0) (h : ringless s) : ringWrite e s = (s, true) := by
  unfold ringless at h
  unfold ringWrite
  rw [he]
  cases hx : ctx? s 0 with
  | none => rfl
  | some x =>
    rw [hx] at h
    have hn : x.ring = none := Option.isNone_iff_eq_none.1 h
    dsimp only
    rw [hn]

theorem countDrop_ringless {c : Nat} {s : State} (h : ringless s) : (countDrop c s).io.hostMem = s.io.hostMem := by
  unfold countDrop
  split
  · rw [rset_io]
  · split
    · rfl
    · dsimp only
      have h1 : ringless (rflag .queueStatus_saturated 0 { s with lost := sset 0 s.lost (fldKey .queueEvtDrop_count c) 1 }) := by
        unfold ringless ctx?
        rw [rflag, rset_ctl]
        exact h
      rw [ringWrite_ringless rfl (by exact h1)]
      show (rflag _ _ _).io.hostMem = _
      rw [rflag, rset_io]

/-- An event of context 0 without a ring writes no host memory. -/
theorem raise0_ringless {code src detail : Nat} {s : State} (h : ringless s) : (raise0 code src detail s).io.hostMem = s.io.hostMem := by
  unfold raise0 raiseTo
  dsimp only
  have h1 : ringless (logEvent (mkEvent (tickCount src s) 0 code src 0 0xFFFF detail) (tickCount src s)) := h
  split
  · split
    · rfl
    · exact countDrop_ringless h1
  · rw [ringWrite_ringless rfl h1, if_pos rfl]
    exact countDrop_ringless h1

theorem count_ringless {f : Fld} {i n : Nat} {s : State} (h : ringless s) : (count f i n s).io.hostMem = s.io.hostMem := by
  have hr : ∀ (g : Fld) (j v : Nat) (u : State), ringless u → ringless (rset g j v u) := fun g j v u hu => by
    unfold ringless ctx?
    rw [rset_ctl]
    exact hu
  unfold count
  dsimp only
  split
  · rw [rset_io]
  · split
    · rw [rset_io]
    · have h1 := hr f i (2 ^ (fldInfo f).width - 1) s h
      have h2 : (rset f i (2 ^ (fldInfo f).width - 1) s).io = s.io := rset_io ..
      generalize rset f i (2 ^ (fldInfo f).width - 1) s = u at h1 h2 ⊢
      split
      · exact congrArg Io.hostMem h2
      · rw [raise0_ringless (by rw [rflag]; exact hr _ _ _ _ h1), rflag, rset_io]
        exact congrArg Io.hostMem h2

theorem activity_ringless {f : Fld} {i n : Nat} {s : State} (h : ringless s) : (activity f i n s).io.hostMem = s.io.hostMem := by
  unfold activity
  dsimp only
  split
  · rfl
  · exact count_ringless h

/-- A generation's report at the lead, or one sent to it. -/
theorem reportOwn_spec {c : Nat} {m : ShardMsg} {o : OutMsg} {g : HGen} {s : State} (hg : (harvOf s c).gen = some g) :
    let t := if isLead s then takeShardReport c m s
      else modGen c (fun g => { g with reports := g.reports.filter (fun r => r.roster != m.roster) ++ [m] }) (emit o s)
    t.io.hostMem = s.io.hostMem ∧ t.ctl = s.ctl ∧ ∃ y, (harvOf t c).gen = some y ∧ y.gen = g.gen ∧ y.own = g.own := by
  intro t
  change (fun t : State => t.io.hostMem = s.io.hostMem ∧ t.ctl = s.ctl ∧ ∃ y, (harvOf t c).gen = some y ∧ y.gen = g.gen ∧ y.own = g.own) t
  have hm := harvOf_modGen_same hg (fun g => { g with reports := g.reports.filter (fun r => r.roster != m.roster) ++ [m] })
  by_cases hl : isLead s = true
  · have ht : t = takeShardReport c m s := if_pos hl
    rw [ht]
    unfold takeShardReport buildManifest
    rw [hm]
    dsimp only
    split
    · exact ⟨rfl, rfl, _, hm, rfl, rfl⟩
    · exact ⟨rfl, rfl, _, harvOf_modGen_same hm _, rfl, rfl⟩
  · have ht : t = _ := if_neg hl
    rw [ht]
    exact ⟨rfl, rfl, _, harvOf_modGen_same (s := emit o s) hg _, rfl, rfl⟩

theorem reportShard_spec {c : Nat} {g g' : HGen} {h : HShard} {s : State} (hg : (harvOf s c).gen = some g') :
    (reportShard c g h false s).io.hostMem = s.io.hostMem ∧ (reportShard c g h false s).ctl = s.ctl ∧
    ∃ y, (harvOf (reportShard c g h false s) c).gen = some y ∧ y.gen = g'.gen ∧ y.own = g'.own := by
  exact reportOwn_spec hg

theorem sealCheck_quiet {c : Nat} {s : State} (h : ∀ x ∈ s.ctl.journal, x.wait ≠ .sealing) : sealCheck c s = s := by
  unfold sealCheck
  have hn : s.ctl.journal.any (fun r => r.ctx == c && r.state == .issued && r.wait == .sealing) = false :=
    List.any_eq_false.2 fun x hx => by simp [h x hx]
  rw [if_neg (by rw [hn]; simp)]

/-- A chunk that becomes durable. -/
theorem chunkDone_spec {c k : Nat} {g : HGen} {s : State} {r : Rd} {at' : (Nat × Nat × Nat) × Nat} (hg : (harvOf s c).gen = some g)
    (hrd : segsRead s c (shardSegs s c g g.own false) (k * mib64) mib64 = r) (hat : chunkAt g.targets g.gen k false = at') (hb : r.bad = [])
    (ht : at'.1.1 = 0) (hd : noDma s (fnOf s c) = false) (hr : ringless s) (hw : ∀ x ∈ s.ctl.journal, x.wait ≠ .sealing) :
    hostRead (chunkDone c g g.own false k s) at'.2 r.bytes.length = r.bytes ∧
    ∃ y, (harvOf (chunkDone c g g.own false k s) c).gen = some y ∧ y.gen = g.gen ∧ sget? y.own.wrote k = some (sha256 r.bytes) := by
  unfold chunkDone
  rw [hrd, hat]
  dsimp only
  rw [hb, if_neg (by decide)]
  have hwrite : targetWrite c at'.1 at'.2 r.bytes s = hostWrite at'.2 r.bytes s := by
    unfold targetWrite
    rw [if_pos ht, if_neg (by rw [hd]; decide)]
  rw [hwrite]
  have hr' : ringless (hostWrite at'.2 r.bytes s) := hr
  have hmem := activity_ringless (f := .harvestBytes_units) (i := 0) (n := r.bytes.length) hr'
  have hhar : (activity .harvestBytes_units 0 r.bytes.length (hostWrite at'.2 r.bytes s)).har = s.har := activity_har ..
  have hjn : (activity .harvestBytes_units 0 r.bytes.length (hostWrite at'.2 r.bytes s)).ctl.journal = s.ctl.journal :=
    activity_ctl_journal ..
  generalize activity .harvestBytes_units 0 _ _ = u at hmem hhar hjn ⊢
  have hread : ∀ t : State, t.io.hostMem = u.io.hostMem → hostRead t at'.2 r.bytes.length = r.bytes := fun t h => by
    rw [hostRead, h, hmem]
    exact sgetN_ssetN ..
  have hu : (harvOf u c).gen = some g := by rw [harvOf_of_har hhar]; exact hg
  generalize hv : modGen c _ u = v
  have hvio : v.io = u.io := by rw [← hv]; rfl
  have hvctl : v.ctl = u.ctl := by rw [← hv]; rfl
  have hvg : (harvOf v c).gen = some { g with own := { g.own with wrote := sput g.own.wrote k (sha256 r.bytes) } } := by
    rw [← hv, harvOf_modGen_same hu]
    rfl
  have hmod : ∀ t : State, t.ctl = v.ctl → sealCheck c t = t := fun t h => sealCheck_quiet (by rw [h, hvctl, hjn]; exact hw)
  split
  · rw [hmod _ rfl]
    exact ⟨hread _ (congrArg Io.hostMem hvio), _, hvg, rfl, sget?_sput_same ..⟩
  · obtain ⟨h1, h2, y, h3, h4, h5⟩ := reportShard_spec (g := g) (h := { g.own with wrote := sput g.own.wrote k (sha256 r.bytes) }) hvg
    rw [hmod _ h2]
    exact ⟨hread _ (h1.trans (congrArg Io.hostMem hvio)), y, h3, h4, by rw [h5]; exact sget?_sput_same ..⟩

/-! ### Reports and manifests -/

theorem manifestMsg_ne (s : State) (c : Nat) (g : HGen) (rs : List ShardMsg) (b : List Byte) : manifestMsg s c g rs ++ b ≠ [] := by
  unfold manifestMsg
  simp [padTo, leBytes]

/-- A report at the lead: it is kept, and the manifest is built when every member has one. -/
theorem takeShardReport_spec {c : Nat} {m : ShardMsg} {g : HGen} {s : State} (hg : (harvOf s c).gen = some g) (hl : isLead s = true) (hm : g.manifest = []) :
    { takeShardReport c m s with har := s.har } = s ∧ ∃ y, (harvOf (takeShardReport c m s) c).gen = some y ∧ m ∈ y.reports ∧
      (y.manifest = [] ↔ ∃ i ∈ g.members, i ≠ m.roster ∧ ∀ x ∈ g.reports, x.roster ≠ i) := by
  have hk := harvOf_modGen_same hg (fun g => { g with reports := g.reports.filter (fun r => r.roster != m.roster) ++ [m] })
  have hmem : m ∈ g.reports.filter (fun r => r.roster != m.roster) ++ [m] := List.mem_append_right _ List.mem_cons_self
  have hall : (g.members.all fun i => (g.reports.filter (fun r => r.roster != m.roster) ++ [m]).any fun r => r.roster == i) = false ↔
      ∃ i ∈ g.members, i ≠ m.roster ∧ ∀ x ∈ g.reports, x.roster ≠ i := by
    rw [List.all_eq_false]
    refine exists_congr fun i => and_congr_right fun _ => ?_
    simp only [List.any_append, List.any_cons, List.any_nil, Bool.or_false, Bool.or_eq_true, List.any_eq_true, List.mem_filter, beq_iff_eq, bne_iff_ne,
      not_or, not_exists, not_and]
    refine ⟨fun ⟨h1, h2⟩ => ⟨Ne.symm h2, fun x hx he => h1 x ⟨hx, fun h => h2 (h.symm.trans he)⟩ he⟩, fun ⟨h1, h2⟩ => ⟨fun x hx => h2 x hx.1, Ne.symm h1⟩⟩
  unfold takeShardReport buildManifest
  rw [hk]
  dsimp only
  have hlead : isLead (modGen c (fun g => { g with reports := g.reports.filter (fun r => r.roster != m.roster) ++ [m] }) s) = true := hl
  rw [hlead, hm]
  cases ha : g.members.all fun i => (g.reports.filter (fun r => r.roster != m.roster) ++ [m]).any fun r => r.roster == i with
  | false =>
    rw [if_pos (by simp)]
    exact ⟨rfl, _, hk, hmem, ⟨fun _ => hall.1 ha, fun _ => hm⟩⟩
  | true =>
    rw [if_neg (by simp)]
    refine ⟨rfl, _, harvOf_modGen_same hk _, hmem, ⟨fun h => (manifestMsg_ne _ _ _ _ _ h).elim, fun h => ?_⟩⟩
    rw [hall.2 h] at ha
    cases ha

theorem targetWrite_kept (c : Nat) (t : Nat × Nat × Nat) (a : Nat) (b : List Byte) (s : State) : Told accessFlds s (targetWrite c t a b s) ∧
    (targetWrite c t a b s).har = s.har ∧ (targetWrite c t a b s).ctl.journal = s.ctl.journal := by
  unfold targetWrite
  split
  · split
    · exact ⟨.rfl, rfl, rfl⟩
    · exact ⟨Told.rfl.hostWrite .., rfl, rfl⟩
  · exact ⟨Told.rfl.ctxWrite (fun _ h => h) .., (work_eq_iff.1 (work_ctxWrite c _ b s)).2.2.2.2.2.2.2.2.1, by simp⟩

/-- The generation is written: it is over, and every HARVEST_NOW that waited for one before it is answered. -/
def GenEnded (s t : State) (c : Nat) (g : HGen) : Prop :=
  (harvOf t c).gen = none ∧ rget t .harvestCtxState_busy c = 0 ∧ rget t .harvestCtxGen_generation c = g.gen ∧
  rget t .harvestCtxStep_step c = g.step ∧ reported s t 0x0D01 c ∧ ∀ n r, waiting s c (.harvest n) r → n < g.gen → answered t r 0x0000 g.step

theorem genWritten_ended {c : Nat} {g : HGen} {s : State} (b : List Byte) (hc : c < 256) (h1 : g.gen < 2 ^ 64) (h2 : g.step < 2 ^ 64) :
    GenEnded s (genWritten c g b s) c g := by
  unfold genWritten
  dsimp only
  obtain ⟨t1, t2, t3⟩ := targetWrite_kept c (g.targets.getD 0 (0, 0, 0)) (slotBase (g.targets.getD 0 (0, 0, 0)) g.gen) b s
  generalize targetWrite c _ _ b s = u at t1 t2 t3
  generalize hv : rset .harvestCtxState_busy c 0 (rset .harvestCtxStep_step c g.step (rset .harvestCtxGen_generation c g.gen
    (modHarv c (fun x => { x with gen := none, imported := false }) u))) = v
  have v1 : (harvOf v c).gen = none := by
    rw [← hv, harvOf_of_har (s := modHarv c (fun x => { x with gen := none, imported := false }) u) (by rw [rset_har, rset_har, rset_har]) c, harvOf_modHarv_same]
  have v2 : regAt v.regs .harvestCtxState_busy c = 0 := by rw [← hv]; exact regAt_rset_same _ _ hc
  have v3 : regAt v.regs .harvestCtxStep_step c = g.step := by
    rw [← hv, regAt_rset_other _ _ _ _ (by decide)]
    exact (regAt_rset_same _ _ hc).trans (Nat.mod_eq_of_lt h2)
  have v4 : regAt v.regs .harvestCtxGen_generation c = g.gen := by
    rw [← hv, regAt_rset_other _ _ _ _ (by decide), regAt_rset_other _ _ _ _ (by decide)]
    exact (regAt_rset_same _ _ hc).trans (Nat.mod_eq_of_lt h1)
  have v5 : v.io = u.io := by rw [← hv, rset_io, rset_io, rset_io]; rfl
  have v6 : v.ctl.journal = s.ctl.journal := by rw [← hv, rset_ctl, rset_ctl, rset_ctl]; exact t3
  have w1 := raiseBoth_reported 0x0D01 0xA c (pack [(0, 64, g.gen), (64, 64, g.step)]) v
  have w2 := (Kept.rfl (F := []) (s := v)).raiseBoth 0x0D01 0xA c (pack [(0, 64, g.gen), (64, 64, g.step)])
  have w3 : (raiseBoth 0x0D01 0xA c (pack [(0, 64, g.gen), (64, 64, g.step)]) v).har = v.har := raiseBoth_har ..
  generalize raiseBoth 0x0D01 0xA c _ v = w at w1 w2 w3
  generalize hx : genOver _ = x
  have x1 : x.har = w.har ∧ x.regs = w.regs ∧ x.io = w.io := by rw [← hx]; exact ⟨rfl, rfl, rfl⟩
  refine ⟨by rw [harvOf_of_har (x1.1.trans w3), v1], ?_, ?_, ?_, ?_, fun n r hr hn => ?_⟩
  · rw [rget_eq, x1.2.1, w2.regs _ _ (by decide) (by decide), v2]
  · rw [rget_eq, x1.2.1, w2.regs _ _ (by decide) (by decide), v4]
  · rw [rget_eq, x1.2.1, w2.regs _ _ (by decide) (by decide), v3]
  · exact (w1.suffix (by rw [x1.2.2])).prior (by rw [v5]; exact t1.events)
  · obtain ⟨r1, r2, r3, r4, r5⟩ := hr
    have ha := answered_finishWaits (s := s) (t := w) (r := r) (p := fun r => r.ctx == c && (match r.wait with | .harvest n => decide (n < g.gen) | _ => false))
      (st := stOk) (det := fun _ => g.step) (w2.journal.trans v6) r1 r3 r5 (by simp [r2, r4, hn])
    rw [← hx]
    exact ha.of_journal rfl

/-! ### Requests -/

theorem exec_harvestRequest_none {sl member : Nat} {cl : Bool} {s : State} (h : isPrimary s = true ∨ hasPosition s = false) :
    exec (.harvestRequest sl member none cl) s =
      if cl && !s.fab.genBusy.contains sl then .next (emit (.vc7 "HARVEST_MARK" 0x3FFF [sl]) (setMark sl s))
      else .next { s with fab := { s.fab with markNext := if s.fab.markNext.contains sl then s.fab.markNext else s.fab.markNext ++ [sl] } } := by
  show execHarvestRequest sl member none cl s = _
  unfold execHarvestRequest
  rw [if_neg (by rcases h with h | h <;> simp [h])]

theorem exec_harvestRequest_some {sl member e tm : Nat} {cl : Bool} {s : State} (h : isPrimary s = true ∨ hasPosition s = false) :
    exec (.harvestRequest sl member (some (e, tm)) cl) s =
      if leadOf s sl = some member then .next { s with fab := { s.fab with policy := sput s.fab.policy sl (e, tm, lcountOf s 8) } } else .next s := by
  show execHarvestRequest sl member (some (e, tm)) cl s = _
  unfold execHarvestRequest
  rw [if_neg (by rcases h with h | h <;> simp [h])]

/-- HARVEST_POLICY. -/
theorem harvestPolicy_spec {s : State} {h : CmdRef} (e tm : BitVec 32) (hm : mayRun 0x51 h s = true) :
    leadsTo (.harvestPolicy h e tm) s (fun t => replied h 0x0000 0 t = true ∧
      { t with ctl := s.ctl, io := s.io } = s ∧ (isLead s = false → t.io = s.io) ∧
      (isLead s = true → .vc7 "HARVEST_REQUEST" (primaryOf s) [sliceId s, ownRoster s, 1, e.toNat, tm.toNat] ∈ t.io.outbox)) := by
  refine leadsTo_runCmd (op := 0x51) (h := h) rfl hm fun l hl => ?_
  have hlead : isLead (setJournal l s) = isLead s := rfl
  rw [hlead]
  cases isLead s with
  | false => exact ⟨finishOk_replied_of hm hl rfl, rfl, fun _ => rfl, nofun⟩
  | true => exact ⟨finishOk_replied_of hm hl rfl, rfl, nofun, fun _ => List.mem_append_right _ List.mem_cons_self⟩

/-- HARVEST_NOW. -/
theorem harvestNow_spec {s : State} {h : CmdRef} (hm : mayRun 0x52 h s = true) : leadsTo (.harvestNow h) s (fun t =>
    { t with ctl := s.ctl, io := s.io } = s ∧
    waitsOn h (.harvest ((harvOf s h.ctx).gen.elim (rget s .harvestCtxGen_generation h.ctx) (·.gen))) t = true ∧
    .vc7 "HARVEST_REQUEST" (primaryOf s) [sliceId s, ownRoster s, 0, h.ctx] ∈ t.io.outbox) := by
  refine leadsTo_runCmd (op := 0x52) (h := h) rfl hm fun l hl => ?_
  exact ⟨rfl, waitFor_waits_of hm hl rfl, List.mem_append_right _ List.mem_cons_self⟩

/-- Settles O45: a generation lives in `har`, and no event, reply or seal that follows on it writes there. -/
theorem harvestGenerations : Obligations.HarvestGenerations := by
  unfold Obligations.HarvestGenerations
  intro s
  refine ⟨fun h tg kind base bytes hm => ⟨fun h3 hk hb hn hrow => ⟨fun hs ht => ?_, fun hz ht => ?_⟩, harvestTarget_refused hm⟩,
    fun h e tm hm => harvestPolicy_spec e tm hm, fun h hm => harvestNow_spec hm,
    fun sl member e tm cl => ⟨fun hp hh p => if_pos (by simp [hp, hh]), fun hp => ⟨fun hl => ?_, fun hl => ?_, fun hb => ?_, fun hb => ?_⟩⟩,
    fun c gen m hc => ⟨fun h => ?_, fun hs hg => ⟨fun ht => ?_, fun ht => ?_⟩⟩,
    fun c k g hg => ⟨fun h ok => ?_, fun hk hw => ⟨fun hb ht hd hr hj => ?_, fun hf => ?_, fun hf => ?_⟩⟩,
    fun c m g hg => ⟨fun ht => ?_, fun ht hl => ?_, fun ht hl hm => ?_⟩,
    fun c g hc hg h1 h2 => ⟨fun hm => ?_, fun hm => ?_, fun d hd => ?_, fun d hd => ?_⟩⟩
  · have hb0 : bytes ≠ 0 := fun he => by rw [he] at hs; simp at hs
    have hr : (sput (harvOf s h.ctx).targets tg.toNat (kind.toNat, base.toNat, bytes.toNat)).map Prod.fst =
        List.range (sput (harvOf s h.ctx).targets tg.toNat (kind.toNat, base.toNat, bytes.toNat)).length := by
      rw [List.range_eq_range'] at hrow ⊢
      exact sput_row _ hrow (Nat.zero_le _) (by omega)
    obtain ⟨t, ht, q1, q2, q3, q4⟩ := harvestTarget_taken hm h3 hk hb hn (.inr hs) (if_neg hb0) hr
    refine ⟨t, ht, q1, q2, q3, fun j => ?_⟩
    rw [q4, sget?_sput, hk]
    rfl
  · have hb0 : bytes = 0 := BitVec.eq_of_toNat_eq hz
    have hr : (sdel (harvOf s h.ctx).targets tg.toNat).map Prod.fst = List.range (sdel (harvOf s h.ctx).targets tg.toNat).length := by
      rw [List.range_eq_range'] at hrow ⊢
      exact sdel_row hrow (by omega)
    obtain ⟨t, ht, q1, q2, -, q4⟩ := harvestTarget_taken hm h3 hk hb hn (.inl hz) (if_pos hb0) hr
    refine ⟨t, ht, q1, q2, fun j => ?_⟩
    rw [q4, sget?_sdel]
  · exact ⟨_, (exec_harvestRequest_some hp).trans (if_pos hl), rfl, fun j => sget?_sput ..⟩
  · exact (exec_harvestRequest_some hp).trans (if_neg hl)
  · refine ⟨_, (exec_harvestRequest_none hp).trans (if_pos (by simp [hb])), List.mem_append_right _ List.mem_cons_self, ?_,
      List.mem_append_right _ List.mem_cons_self⟩
    intro hn
    simpa using (List.mem_filter.1 hn).2
  · refine ⟨_, (exec_harvestRequest_none hp).trans (if_neg (by rcases hb with hb | hb <;> simp [hb])), ?_, rfl⟩
    show sl ∈ (if s.fab.markNext.contains sl then s.fab.markNext else s.fab.markNext ++ [sl])
    split
    · next h => simpa using h
    · exact List.mem_append_right _ List.mem_cons_self
  · show execHarvestMark c m gen s = _
    unfold execHarvestMark markStep
    split
    · next he =>
      unfold beginGen
      rw [if_pos (h.resolve_left fun hn => hn he)]
    · rfl
  · obtain ⟨b1, b2, -⟩ := genBegun_spec c m gen s hc
    obtain ⟨z1, z2⟩ := targetZero_kept c ((svals (harvOf s c).targets).getD 0 (0, 0, 0)) (slotBase ((svals (harvOf s c).targets).getD 0 (0, 0, 0)) gen) 2097152
      (genBegun c m gen s)
    refine ⟨_, (exec_harvestMark hs hg).trans (congrArg _ (if_neg (by rw [ht]; decide))), by rw [rget_eq, z2]; exact b2, _,
      by rw [harvOf_of_har z1]; exact b1, rfl, rfl, rfl, rfl, rfl, rfl, rfl, rfl, rfl⟩
  · obtain ⟨b1, b2, b3⟩ := genBegun_spec c m gen s hc
    obtain ⟨f1, f2, f3⟩ := failGen_spec 5 b1
    exact ⟨_, (exec_harvestMark hs hg).trans (congrArg _ (if_pos (by rw [ht]; decide))), f1, f2, f3.prior b3⟩
  · exact (exec_chunkWriteDone hg).trans (if_pos (by rcases h with h | h <;> simp [h]))
  · have hno : ¬ (decide (g.own.chunks ≤ k) || (sget? g.own.wrote k).isSome) = true := by simp [hw]; omega
    exact ⟨_, ((exec_chunkWriteDone hg).trans (if_neg hno)).trans (if_pos rfl), chunkDone_spec hg rfl rfl hb ht hd hr hj⟩
  · have hno : ¬ (decide (g.own.chunks ≤ k) || (sget? g.own.wrote k).isSome) = true := by simp [hw]; omega
    refine ⟨_, (((exec_chunkWriteDone hg).trans (if_neg hno)).trans (if_neg (by decide))).trans (congrArg _ (if_neg (by omega))), rfl, _,
      harvOf_modGen_same hg _, sget_sset_same 0 (sget 0 g.own.fails k + 1) g.own.fails k, rfl⟩
  · have hno : ¬ (decide (g.own.chunks ≤ k) || (sget? g.own.wrote k).isSome) = true := by simp [hw]; omega
    obtain ⟨f1, -, f3⟩ := failGen_spec 2 (harvOf_modGen_same hg
      (fun y => { y with own := { g.own with fails := sset 0 g.own.fails k (sget 0 g.own.fails k + 1) } }))
    exact ⟨_, (((exec_chunkWriteDone hg).trans (if_neg hno)).trans (if_neg (by decide))).trans (congrArg _ (if_pos (by omega))), f1, f3⟩
  · obtain ⟨f1, -, f3⟩ := failHere_spec m.flags m.roster hg
    exact ⟨_, if_pos ht, f1, f3⟩
  · exact (if_neg ht).trans (if_neg (by rw [hl]; decide))
  · exact ⟨_, (if_neg ht).trans (if_pos hl), takeShardReport_spec hg hl hm⟩
  · have he : exec (.harvestWritten c) s = .next (genWritten c g g.manifest (emit (.data "MANIFEST" 0x3FFF [c, g.gen] g.manifest) s)) := by
      show execHarvestWritten c s = _
      unfold execHarvestWritten
      rw [hg]
      exact if_neg (by simpa using hm)
    refine ⟨_, he, genWritten_ended (s := emit _ s) g.manifest hc h1 h2, ?_⟩
    exact ((Steady.refl (K := 0)).genWritten c g g.manifest).outbox.subset (List.mem_append_right _ List.mem_cons_self)
  · show execHarvestWritten c s = _
    unfold execHarvestWritten
    rw [hg]
    exact if_pos (by simp [hm])
  · have he : exec (.manifestCopy c d) s = .next (genWritten c g d s) := by
      show execManifestCopy c d s = _
      unfold execManifestCopy
      rw [hg]
      exact if_pos hd
    exact ⟨_, he, genWritten_ended d hc h1 h2⟩
  · show execManifestCopy c d s = _
    unfold execManifestCopy
    rw [hg]
    exact if_neg hd

end Sys2Proof.Machine
end


section
/-! PROOFS. SPDM: every response is sent whole or held for CHUNK_GET, and what a signature covers is what was noted. -/

namespace Sys2Proof.Machine

/-- A response of `b`: sent at once, or held under the new handle where it is longer than DataTransferSize. -/
def SpdmSent (t : State) (name : String) (b : List Byte) : Prop :=
  (b.length ≤ 4096 → .mctp name [0x13] b ∈ t.io.outbox) ∧
  (4096 < b.length → t.host.chunk = b ∧ .mctp "LARGE_RESPONSE" [0x13, t.host.chunkNo] [] ∈ t.io.outbox)

/-- A request refused with an SPDM error code. -/
def SpdmErrs (s t : State) (n : Nat) : Prop := .mctp "ERROR" [0x13, n] [] ∈ t.io.outbox ∧ t.host = { s.host with spdmLast := none }

theorem reply_sent (name : String) (l : List Nat) (b : List Byte) (s : State) : .mctp name l b ∈ (reply name l b s).io.outbox :=
  List.mem_append_right _ List.mem_cons_self

theorem spdmReply_sent (name : String) (b : List Byte) (s : State) : SpdmSent (spdmReply name b s) name b := by
  unfold spdmReply
  split
  · next h => exact ⟨fun _ => reply_sent .., fun hl => absurd hl (by omega)⟩
  · next h => exact ⟨fun hl => absurd hl h, fun _ => ⟨rfl, reply_sent ..⟩⟩

theorem spdmReply_negotiated (name : String) (b : List Byte) (s : State) : (spdmReply name b s).host.negotiated = s.host.negotiated := by
  unfold spdmReply; split <;> rfl

theorem spdmReply_transcript (name : String) (b : List Byte) (s : State) : (spdmReply name b s).host.transcript = s.host.transcript := by
  unfold spdmReply; split <;> rfl

theorem spdmReply_spdmLast (name : String) (b : List Byte) (s : State) : (spdmReply name b s).host.spdmLast = s.host.spdmLast := by
  unfold spdmReply; split <;> rfl

/-- A response after its request was noted: sent, and both are in the transcript. -/
theorem spdmReply_spdmNote (name : String) (b rq rs : List Byte) (s : State) :
    SpdmSent (spdmReply name b (spdmNote rq rs s)) name b ∧
    (spdmReply name b (spdmNote rq rs s)).host.transcript = s.host.transcript ++ rq ++ rs ∧
    (spdmReply name b (spdmNote rq rs s)).host.spdmLast = none :=
  ⟨spdmReply_sent .., spdmReply_transcript .., spdmReply_spdmLast ..⟩

theorem spdmSigned_spec (name : String) (rq rs : List Byte) (s : State) :
    SpdmSent (spdmSigned name rq rs s) name (rs ++ signEd "attestation" (s.host.transcript ++ rq ++ rs)) ∧
    (spdmSigned name rq rs s).host.spdmLast = some (s.host.transcript ++ rq ++ rs) :=
  ⟨spdmReply_sent .., spdmReply_spdmLast ..⟩

theorem spdmError_spec (n : Nat) (s : State) : SpdmErrs s (spdmError n s) n := ⟨reply_sent .., rfl⟩

/-- A request of a served type is answered by its body. -/
theorem typed_served {s : State} {pcie : Bool} {ty : Nat} (h : serveType s pcie ty = .served) (f : State → State) : typed pcie ty f s = .next (f s) := by
  unfold typed; rw [h]

theorem spdmReq_negotiated {s : State} {pcie : Bool} (h : serveType s pcie 5 = .served) (hn : s.host.negotiated = true) (f : State → State) :
    spdmReq pcie f s = .next (f s) :=
  (typed_served h _).trans (by rw [if_pos hn])

theorem spdmReq_early {s : State} {pcie : Bool} (h : serveType s pcie 5 = .served) (hn : s.host.negotiated = false) (f : State → State) :
    spdmReq pcie f s = .next (spdmError 4 s) :=
  (typed_served h _).trans (by rw [if_neg (by simp [hn])]; rfl)

section
variable {s : State} {pcie : Bool} (h : serveType s pcie 5 = .served)
include h

theorem getCapabilities_spec : (s.host.transcript = [] → exec (.getCapabilities pcie) s = .next (spdmError 4 s)) ∧
    (s.host.transcript ≠ [] → exec (.getCapabilities pcie) s =
      .next (spdmReply "CAPABILITIES" spdmCaps (spdmNote (spdmMsg "GET_CAPABILITIES" []) (spdmMsg "CAPABILITIES" spdmCaps) s))) :=
  ⟨fun he => show execGetCapabilities pcie s = _ by rw [execGetCapabilities, typed_served h, if_pos (by simp [he]), unexpectedRequest],
    fun he => show execGetCapabilities pcie s = _ by rw [execGetCapabilities, typed_served h, if_neg (by simpa using he)]⟩

theorem negotiateAlgorithms_eq (a b : Bool) : exec (.negotiateAlgorithms pcie a b) s = .next
    (if s.host.transcript.isEmpty then spdmError 4 s else if !a || !b then spdmError 1 s else
      spdmReply "ALGORITHMS" [0x01, 0x01] (spdmNote (spdmMsg "NEGOTIATE_ALGORITHMS" [0x01, 0x01]) (spdmMsg "ALGORITHMS" [0x01, 0x01])
        { s with host := { s.host with negotiated := true } })) := by
  show execNegotiateAlgorithms pcie a b s = _
  rw [execNegotiateAlgorithms, typed_served h]; rfl

theorem getPqSignature_none (hl : s.host.spdmLast = none) : exec (.getPqSignature pcie) s = .next (spdmError 4 s) :=
  show execGetPqSignature pcie s = _ by rw [execGetPqSignature, typed_served h, hl, unexpectedRequest]

theorem getPqSignature_some {m : List Byte} (hl : s.host.spdmLast = some m) : exec (.getPqSignature pcie) s =
    .next (spdmReply "PQ_SIGNATURE" (signMl "attestation" "Decperon SPDM v1" m) { s with host := { s.host with spdmLast := none } }) :=
  show execGetPqSignature pcie s = _ by rw [execGetPqSignature, typed_served h, hl]

end

section
variable {s : State} {pcie : Bool} (h : serveType s pcie 5 = .served) (hn : s.host.negotiated = true)
include h hn

theorem getCertificate_eq (slot : BitVec 8) (o l : BitVec 16) : exec (.getCertificate pcie slot o l) s = .next
    (if slot ≠ 0 ∨ chain.length ≤ o.toNat then spdmError 1 s else
      spdmReply "CERTIFICATE" ((chain.drop o.toNat).take l.toNat)
        (spdmNote (spdmMsg "GET_CERTIFICATE" ([slot] ++ leBytes 2 o.toNat ++ leBytes 2 l.toNat))
          (spdmMsg "CERTIFICATE" ((chain.drop o.toNat).take l.toNat)) s)) :=
  show execGetCertificate pcie slot o l s = _ by rw [execGetCertificate, spdmReq_negotiated h hn]; simp only [Bool.or_eq_true, decide_eq_true_eq, invalidRequest]

theorem challenge_eq (slot : BitVec 8) (n : List Byte) : exec (.challenge pcie slot n) s = .next
    (if slot ≠ 0 then spdmError 1 s else
      spdmSigned "CHALLENGE_AUTH" (spdmMsg "CHALLENGE" ([slot] ++ n)) (sha256 chain ++ spdmNonceOf s) (useFree s)) :=
  show execChallenge pcie slot n s = _ by rw [execChallenge, spdmReq_negotiated h hn, invalidRequest]

theorem getMeasurements_none {i : BitVec 8} (hm : measured i.toNat = none) (sg : Bool) (n : List Byte) :
    exec (.getMeasurements pcie i sg n) s = .next (spdmError 1 s) :=
  show execGetMeasurements pcie i sg n s = _ by rw [execGetMeasurements, spdmReq_negotiated h hn, hm, invalidRequest]

/-- The blocks of a list of measurements, with the responder's nonce. -/
def measuredBytes (s : State) (k : List Nat) : List Byte :=
  (if k.isEmpty = true then [5#8] else k.flatMap (fun i => leBytes 1 i ++ leBytes 2 (measurement s i).length ++ measurement s i)) ++ spdmNonceOf s

theorem getMeasurements_some {i : BitVec 8} {k : List Nat} (hm : measured i.toNat = some k) (sg : Bool) (n : List Byte) :
    exec (.getMeasurements pcie i sg n) s = .next
      (if sg then spdmSigned "MEASUREMENTS" (spdmMsg "GET_MEASUREMENTS" ([i, BitVec.ofNat 8 (b2n sg)] ++ n)) (measuredBytes s k) (useFree s)
       else spdmReply "MEASUREMENTS" (measuredBytes s k) (spdmNote (spdmMsg "GET_MEASUREMENTS" ([i, BitVec.ofNat 8 (b2n sg)] ++ n))
        (spdmMsg "MEASUREMENTS" (measuredBytes s k)) (useFree s))) :=
  show execGetMeasurements pcie i sg n s = _ by rw [execGetMeasurements, spdmReq_negotiated h hn, hm]; rfl

end

theorem getVersion_eq {s : State} {pcie : Bool} (h : serveType s pcie 5 = .served) : exec (.getVersion pcie) s = .next
    (spdmReply "VERSION" [0x13] (spdmNote (spdmMsg "GET_VERSION" []) (spdmMsg "VERSION" [0x13])
      { s with host := { s.host with transcript := [], negotiated := false } })) :=
  show execGetVersion pcie s = _ by rw [execGetVersion, typed_served h]

theorem getPqKey_eq {s : State} {pcie : Bool} (h : serveType s pcie 5 = .served) : exec (.getPqKey pcie) s = .next
    (spdmReply "PQ_KEY" (mlKey "attestation" ++ deviceCert) { s with host := { s.host with spdmLast := none } }) :=
  show execGetPqKey pcie s = _ by rw [execGetPqKey, typed_served h]

theorem getDigests_eq {s : State} {pcie : Bool} (h : serveType s pcie 5 = .served) (hn : s.host.negotiated = true) : exec (.getDigests pcie) s = .next
    (spdmReply "DIGESTS" ([0x01] ++ sha256 chain) (spdmNote (spdmMsg "GET_DIGESTS" []) (spdmMsg "DIGESTS" ([0x01] ++ sha256 chain)) s)) :=
  show execGetDigests pcie s = _ by rw [execGetDigests, spdmReq_negotiated h hn]

/-- Before the algorithms are negotiated, what the attestation key signs is out of turn. -/
theorem early_refused {s : State} {pcie : Bool} (h : serveType s pcie 5 = .served) (hn : s.host.negotiated = false) (slot idx : BitVec 8) (o l : BitVec 16)
    (n : List Byte) (sg : Bool) :
    ∀ i ∈ [Instr.getDigests pcie, .getCertificate pcie slot o l, .challenge pcie slot n, .getMeasurements pcie idx sg n],
      exec i s = .next (spdmError 4 s) := by
  intro i hi
  simp only [List.mem_cons, List.not_mem_nil, or_false] at hi
  obtain rfl | rfl | rfl | rfl := hi
  · exact show execGetDigests pcie s = _ by rw [execGetDigests, spdmReq_early h hn]
  · exact show execGetCertificate pcie slot o l s = _ by rw [execGetCertificate, spdmReq_early h hn]
  · exact show execChallenge pcie slot n s = _ by rw [execChallenge, spdmReq_early h hn]
  · exact show execGetMeasurements pcie idx sg n s = _ by rw [execGetMeasurements, spdmReq_early h hn]

theorem chunkGet_eq {s : State} {pcie : Bool} (h : serveType s pcie 5 = .served) (hd : BitVec 8) (i : BitVec 16) : exec (.chunkGet pcie hd i) s = .next
    (if hd.toNat ≠ s.host.chunkNo ∨ (s.host.chunk.drop (4096 * i.toNat)).take 4096 = [] then reply "ERROR" [0x13, 1] [] s else
      reply "CHUNK_RESPONSE" [0x13, hd.toNat, i.toNat] ((s.host.chunk.drop (4096 * i.toNat)).take 4096) s) :=
  show execChunkGet pcie hd i s = _ by
    rw [execChunkGet, typed_served h]
    simp only [Bool.or_eq_true, decide_eq_true_eq, List.isEmpty_iff, invalidRequest]

/-- Settles O60: in a served phase each request is its body's answer. -/
theorem deviceAttestation : Obligations.DeviceAttestation := by
  unfold Obligations.DeviceAttestation
  intro s pcie h
  refine ⟨?_, fun he => ⟨?_, fun a b => ?_⟩, fun he => ⟨?_, fun a b hab => ?_, ?_⟩, fun hn slot idx o l n sg i hi => ?_,
    fun hn slot idx o l n => ⟨?_, fun hs => ?_, fun ho => ?_, fun hs => ?_, ?_, fun hm sg => ?_, fun k hm => ⟨?_, ?_⟩⟩,
    fun hl => ?_, fun m hl => ?_, ?_, fun hd i => ⟨fun he hb => ?_, fun hb => ?_⟩⟩
  · obtain ⟨q1, q2, -⟩ := spdmReply_spdmNote "VERSION" [0x13] (spdmMsg "GET_VERSION" []) (spdmMsg "VERSION" [0x13])
      { s with host := { s.host with transcript := [], negotiated := false } }
    exact ⟨_, getVersion_eq h, q1, spdmReply_negotiated .., q2⟩
  · exact ⟨_, (getCapabilities_spec h).1 he, spdmError_spec ..⟩
  · exact ⟨_, (negotiateAlgorithms_eq h a b).trans (by rw [if_pos (by simp [he])]), spdmError_spec ..⟩
  · exact ⟨_, (getCapabilities_spec h).2 he, spdmReply_spdmNote ..⟩
  · exact ⟨_, (negotiateAlgorithms_eq h a b).trans (by rw [if_neg (by simpa using he), if_pos (by simpa using hab)]), spdmError_spec ..⟩
  · exact ⟨_, (negotiateAlgorithms_eq h true true).trans (by rw [if_neg (by simpa using he)]; rfl), spdmReply_sent .., spdmReply_negotiated ..⟩
  · exact ⟨_, early_refused h hn slot idx o l n sg i hi, spdmError_spec ..⟩
  · exact ⟨_, getDigests_eq h hn, spdmReply_spdmNote ..⟩
  · exact ⟨_, (getCertificate_eq h hn slot o l).trans (by rw [if_pos hs]), spdmError_spec ..⟩
  · exact ⟨_, (getCertificate_eq h hn 0 o l).trans (by rw [if_neg (by simpa using ho)]), spdmReply_sent ..⟩
  · exact ⟨_, (challenge_eq h hn slot n).trans (by rw [if_pos hs]), spdmError_spec ..⟩
  · exact ⟨_, (challenge_eq h hn 0 n).trans (congrArg _ (if_neg (by simp))), spdmSigned_spec _ _ _ (useFree s)⟩
  · exact ⟨_, getMeasurements_none h hn hm sg n, spdmError_spec ..⟩
  · exact ⟨_, getMeasurements_some h hn hm false n, spdmReply_sent .., spdmReply_spdmLast ..⟩
  · exact ⟨_, (getMeasurements_some h hn hm true n).trans (congrArg _ (if_pos rfl)), spdmSigned_spec _ _ _ (useFree s)⟩
  · exact ⟨_, getPqSignature_none h hl, spdmError_spec ..⟩
  · exact ⟨_, getPqSignature_some h hl, spdmReply_sent .., spdmReply_spdmLast ..⟩
  · exact ⟨_, getPqKey_eq h, spdmReply_sent ..⟩
  · exact ⟨_, (chunkGet_eq h hd i).trans (congrArg _ (if_neg (by simp [he, hb]))), rfl, reply_sent ..⟩
  · exact ⟨_, (chunkGet_eq h hd i).trans (congrArg _ (if_pos hb)), rfl, reply_sent ..⟩

end Sys2Proof.Machine
end


section
/-! PROOFS. Register accesses: what the half-read latch answers, which writes are dropped, and what one field takes of a write. -/

namespace Sys2Proof.Machine

theorem dropLatch_idem (fn : Nat) (s : State) : sget? (dropLatch fn s).io.latch fn = none := by
  show sget? (sdel s.io.latch fn) fn = none
  rw [sget?_sdel, if_pos rfl]

/-- The latch after it was released once more: the same state. -/
theorem hostReply_spec (fn : Nat) (ur : Bool) (b : List Byte) (s : State) : (hostReply fn ur b s).regs = s.regs ∧ (hostReply fn ur b s).mem = s.mem ∧
    (hostReply fn ur b s).io.readData = b ∧ .pcie fn ur b ∈ (hostReply fn ur b s).io.outbox ∧ (hostReply fn ur b s).io.latch = s.io.latch :=
  ⟨rfl, rfl, rfl, List.mem_append_right _ List.mem_cons_self, rfl⟩

/-! ### Half reads -/

/-- The answer of a read of four bytes, and the latch of the function that it leaves. -/
def halfRead (s : State) (fn off : Nat) : List Byte × State :=
  if off % 4 ≠ 0 then ([0, 0, 0, 0], dropLatch fn s)
  else if off % 8 = 0 then
    (leBytes 4 (regRead s fn off % 2 ^ 32), { s with io := { s.io with latch := sput s.io.latch fn (off + 4, regRead s fn off / 2 ^ 32) } })
  else (leBytes 4 (match sget? s.io.latch fn with
    | some (o, h) => if o = off then h else regRead s fn (off - 4) / 2 ^ 32
    | none => regRead s fn (off - 4) / 2 ^ 32), dropLatch fn s)

theorem exec_halfReadLatch (fn off : Nat) (s : State) : exec (.halfReadLatch fn off) s =
    .next (if fnUp s fn then hostReply fn false (halfRead s fn off).1 (halfRead s fn off).2 else hostReply fn true [] s) := by
  show execHalfReadLatch fn off s = _
  unfold execHalfReadLatch halfRead
  cases fnUp s fn with
  | false => rfl
  | true =>
    refine congrArg _ ?_
    rw [if_neg (by decide), if_pos rfl]
    split
    · rfl
    · split <;> rfl

/-- A read that is answered with `b`. -/
def HalfAnswers (fn off : Nat) (b : List Byte) (s : State) : Prop :=
  leadsTo (.halfReadLatch fn off) s (fun t => t.regs = s.regs ∧ t.mem = s.mem ∧ t.io.readData = b ∧
    .pcie fn false b ∈ t.io.outbox ∧ (off % 8 ≠ 0 → sget? t.io.latch fn = none))

theorem halfAnswers_of {fn off : Nat} {s : State} (hup : fnUp s fn = true) : HalfAnswers fn off (halfRead s fn off).1 s := by
  refine ⟨_, (exec_halfReadLatch fn off s).trans (congrArg _ (if_pos hup)), ?_⟩
  obtain ⟨h1, h2, h3, h4, h5⟩ := hostReply_spec fn false (halfRead s fn off).1 (halfRead s fn off).2
  have hk : (halfRead s fn off).2.regs = s.regs ∧ (halfRead s fn off).2.mem = s.mem ∧ (off % 8 ≠ 0 → sget? (halfRead s fn off).2.io.latch fn = none) := by
    unfold halfRead
    split
    · exact ⟨rfl, rfl, fun _ => dropLatch_idem ..⟩
    · split
      · next h => exact ⟨rfl, rfl, fun hn => absurd h hn⟩
      · exact ⟨rfl, rfl, fun _ => dropLatch_idem ..⟩
  exact ⟨h1.trans hk.1, h2.trans hk.2.1, h3, h4, fun hn => by rw [h5]; exact hk.2.2 hn⟩

theorem halfRead_odd {s : State} {fn off : Nat} (h : off % 4 ≠ 0) : (halfRead s fn off).1 = [0, 0, 0, 0] := by
  unfold halfRead; rw [if_pos h]

theorem halfRead_low {s : State} {fn off : Nat} (h : off % 8 = 0) : halfRead s fn off =
    (leBytes 4 (regRead s fn off % 2 ^ 32), { s with io := { s.io with latch := sput s.io.latch fn (off + 4, regRead s fn off / 2 ^ 32) } }) := by
  unfold halfRead; rw [if_neg (by omega), if_pos h]

theorem halfRead_high_latched {s : State} {fn off hi : Nat} (h : off % 8 = 4) (hl : sget? s.io.latch fn = some (off, hi)) :
    (halfRead s fn off).1 = leBytes 4 hi := by
  unfold halfRead; rw [if_neg (by omega), if_neg (by omega), hl]
  exact congrArg (leBytes 4) (if_pos rfl)

theorem halfRead_high {s : State} {fn off : Nat} (h : off % 8 = 4) (hl : ∀ hi, sget? s.io.latch fn ≠ some (off, hi)) :
    (halfRead s fn off).1 = leBytes 4 (regRead s fn (off - 4) / 2 ^ 32) := by
  unfold halfRead; rw [if_neg (by omega), if_neg (by omega)]
  refine congrArg (leBytes 4) ?_
  split
  · next o hi he => exact if_neg fun ho => hl hi (by rw [he, ho])
  · rfl

/-! ### Writes that are dropped -/

/-- The three commands of a register write are one. -/
theorem exec_regWrite {fn off n : Nat} {v : Word64} {s : State} :
    ∀ i ∈ [Instr.registerWrite fn off n v, .satClear fn off n v, .stClear fn off n v], exec i s = .next (regWrite fn off n v.toNat s) := by
  intro i hi
  simp only [List.mem_cons, List.not_mem_nil, or_false] at hi
  obtain rfl | rfl | rfl := hi
  · exact show execRegisterWrite fn off n v s = _ from rfl
  · exact show execSatClear fn off n v s = _ from rfl
  · exact show execStClear fn off n v s = _ from rfl

/-- An access that writes nothing at all: no function answers, of another width or not aligned; of another function; or held by a reset. -/
theorem regWrite_dropped {fn off n v : Nat} {s : State} (h : fnUp s fn = false ∨ (n ≠ 4 ∧ n ≠ 8) ∨ off % n ≠ 0 ∨ (fn ≠ 0 ∧ 0x8000 ≤ off ∧ off < 0x10000000) ∨
    (fn = 0 ∧ off < 0x10000000 ∧ ¬ (0x110000 ≤ off ∧ off < 0x118100) ∧ rget s .mcStatus_ready 0 = 0 ∧ 1 < blockOf off)) :
    regWrite fn off n v s = dropLatch fn s := by
  unfold regWrite
  dsimp only
  split
  · rfl
  next hn =>
  simp only [Bool.or_eq_true, Bool.not_eq_true', Bool.or_eq_false_iff, beq_eq_false_iff_ne, decide_eq_true_eq, not_or, not_and_or, ne_eq, Decidable.not_not] at hn
  obtain ⟨⟨hup, hw⟩, ha⟩ := hn
  have hup' : ¬ fnUp s fn = false := hup
  rcases h with h | h | h | ⟨h1, h2, h3⟩ | ⟨h1, h2, h3, h4, h5⟩
  · exact absurd h hup'
  · exact absurd h (by omega)
  · exact absurd ha h
  · rw [if_neg (by omega), if_pos h1, if_neg (by omega)]
  · rw [if_neg (by omega), if_neg (by omega), if_neg (by simpa using h3), if_pos (by rw [rget_eq, dropLatch_regs, ← rget_eq, h4]; simpa using h5)]

/-! ### One field of a write -/

theorem writeField_rw {w v m i : Nat} {f : Fld} {s : State} (h : (fldInfo f).acc = .rw) (hm : m / 2 ^ (fldInfo f).lsb % 2 ^ (fldInfo f).width ≠ 0) :
    writeField w v m (f, i) s = if rwOk s f i (w / 2 ^ (fldInfo f).lsb % 2 ^ (fldInfo f).width) then
      rset f i (w / 2 ^ (fldInfo f).lsb % 2 ^ (fldInfo f).width) s else s := by
  unfold writeField
  dsimp only
  rw [h]
  simp only [ne_eq, hm, not_false_eq_true, decide_true, Bool.true_and]

theorem writeField_st {w v m i : Nat} {f : Fld} {s : State} (h : (fldInfo f).acc = .st) :
    writeField w v m (f, i) s = rset f i (rget s f i - (rget s f i &&& (v / 2 ^ (fldInfo f).lsb % 2 ^ (fldInfo f).width))) s := by
  unfold writeField
  dsimp only
  rw [h]

/-- A one clears an ST bit, a zero keeps it. -/
theorem rget_writeField_st {w v m i : Nat} {f : Fld} {s : State} (h : (fldInfo f).acc = .st) (h1 : (fldInfo f).width = 1) (hi : i < fldCount f)
    (hs : rget s f i ≤ 1) : rget (writeField w v m (f, i) s) f i = if v / 2 ^ (fldInfo f).lsb % 2 = 1 then 0 else rget s f i := by
  rw [writeField_st h, rget_rset_same _ _ _ _ hi, h1]
  rcases Nat.mod_two_eq_zero_or_one (v / 2 ^ (fldInfo f).lsb) with hv | hv
  · rw [pow_one, hv, if_neg (by decide), Nat.and_zero]; omega
  · rw [pow_one, hv, if_pos rfl, Nat.and_one_is_mod]; omega

theorem writeField_sat {w v m i : Nat} {f : Fld} {s : State} (h : (fldInfo f).acc = .sat) : writeField w v m (f, i) s =
    if m / 2 ^ (fldInfo f).lsb % 2 ^ (fldInfo f).width = 2 ^ (fldInfo f).width - 1 ∧ v / 2 ^ (fldInfo f).lsb % 2 ^ (fldInfo f).width = 0 then
      rset f i 0 { s with lost := sset 0 s.lost (fldKey f i) 0, remain := sset 0 s.remain (fldKey f i) 0 }
    else s := by
  unfold writeField
  dsimp only
  rw [h]
  simp only [Bool.and_eq_true, decide_eq_true_eq]

/-- A SAT field is cleared by a write of zero that covers it. -/
theorem rget_writeField_sat {w v m i : Nat} {f : Fld} {s : State} (h : (fldInfo f).acc = .sat) (hi : i < fldCount f) :
    rget (writeField w v m (f, i) s) f i =
      if m / 2 ^ (fldInfo f).lsb % 2 ^ (fldInfo f).width = 2 ^ (fldInfo f).width - 1 ∧ v / 2 ^ (fldInfo f).lsb % 2 ^ (fldInfo f).width = 0 then 0
      else rget s f i := by
  rw [writeField_sat h]
  split
  · rw [rget_rset_same _ _ _ _ hi, Nat.zero_mod]
  · rfl

/-- A write of a field leaves every other field, and everything that is no register. -/
theorem writeField_frame (w v m : Nat) (f : Fld) (i : Nat) (s : State) : (writeField w v m (f, i) s).mem = s.mem ∧
    (writeField w v m (f, i) s).ctl = s.ctl ∧ ∀ g j, g ≠ f → rget (writeField w v m (f, i) s) g j = rget s g j := by
  unfold writeField
  dsimp only
  split
  · split
    · exact ⟨rset_mem .., rset_ctl .., fun g j hg => regAt_rset_other _ _ _ _ hg⟩
    · exact ⟨rfl, rfl, fun _ _ _ => rfl⟩
  · exact ⟨rset_mem .., rset_ctl .., fun g j hg => regAt_rset_other _ _ _ _ hg⟩
  · split
    · exact ⟨rset_mem .., rset_ctl .., fun g j hg => regAt_rset_other _ _ _ _ hg⟩
    · exact ⟨rfl, rfl, fun _ _ _ => rfl⟩
  · exact ⟨rfl, rfl, fun _ _ _ => rfl⟩

/-! ### A register of PF 0 -/

theorem regWrite_block {off n v : Nat} {s : State} (hup : fnUp s 0 = true) (hr : rget s .mcStatus_ready 0 ≠ 0) (hn : n ∈ [4, 8]) (ha : off % n = 0)
    (ho : off < 0x110000 ∨ (0x118100 ≤ off ∧ off < 0x10000000)) : regWrite 0 off n v s = blockWrite off n v (dropLatch 0 s) := by
  simp only [List.mem_cons, List.not_mem_nil, or_false] at hn
  have hr' : ¬ rget (dropLatch 0 s) .mcStatus_ready 0 = 0 := hr
  unfold regWrite
  dsimp only
  rw [if_neg (by rw [fnUp_dropLatch, hup, ha]; rcases hn with rfl | rfl <;> decide), if_neg (by omega), if_neg (by decide),
    if_neg (by simp; omega), if_neg (by rw [decide_eq_false hr']; simp)]

/-- A register without a command of its own: its fields one after another, and the budget that follows its inputs. -/
theorem blockWrite_fields {off n v : Nat} {s : State} (h8 : off % 8 = 0) (hown : ownRow off v s = none) (ht : fldOff .cohortThresh_evict 0 ≠ off) :
    blockWrite off n v s = setBudget ((fieldsAt off).foldl (fun s' x => writeField
      (regRead s 0 off - (regRead s 0 off &&& (2 ^ (8 * n) - 1)) + v % 2 ^ (8 * n)) (v % 2 ^ (8 * n)) (2 ^ (8 * n) - 1) x s') s) := by
  have hreg : off / 8 * 8 = off := by omega
  unfold blockWrite
  dsimp only
  rw [hreg, if_pos h8, if_pos rfl, hown, Nat.pow_zero, Nat.mul_one, Nat.mul_one]
  have hth : ∀ w, threshOk off w = true := fun w => by simp [threshOk, ht.symm]
  exact if_pos (hth _)

/-- The low bits of a register that is written whole are those written. -/
theorem written_low {r v k : Nat} (hv : v < 2 ^ 64) (hk : k ≤ 64) : (r - (r &&& (2 ^ 64 - 1)) + v % 2 ^ 64) % 2 ^ k = v % 2 ^ k := by
  rw [Nat.and_two_pow_sub_one_eq_mod, Nat.mod_eq_of_lt hv]
  have hr : r - r % 2 ^ 64 = 2 ^ k * (2 ^ (64 - k) * (r / 2 ^ 64)) := by
    have h64 : (2 : Nat) ^ 64 = 2 ^ k * 2 ^ (64 - k) := by rw [← Nat.pow_add]; congr 1; omega
    rw [← Nat.mul_assoc, ← h64]
    have := Nat.div_add_mod r (2 ^ 64)
    omega
  rw [hr, Nat.mul_add_mod]

theorem rget_setBudget {f : Fld} (hf : f ≠ .pwrBudget_budgetW) (i : Nat) (s : State) : rget (setBudget s) f i = rget s f i :=
  regAt_rset_other _ _ _ _ hf

theorem fieldsAt_vigilCtl : fieldsAt 0x00D00008 = [(.vigilCtl_hangMs, 0)] := by decide +kernel
theorem fieldsAt_mcBootCtl : fieldsAt 0x48 = [(.mcBootCtl_forceCold, 0)] := by decide +kernel
theorem fieldsAt_vigilHangCount : fieldsAt 0x00D00010 = [(.vigilHangCount_count, 0)] := by decide +kernel
theorem fieldsAt_pwrEnergy : fieldsAt 0x00400040 = [(.pwrEnergy_mj, 0)] := by decide +kernel

/-- A register of one field. -/
theorem regWrite_one {off n v : Nat} {f : Fld} {s : State} (hup : fnUp s 0 = true) (hr : rget s .mcStatus_ready 0 ≠ 0) (hn : n ∈ [4, 8]) (ha : off % n = 0)
    (ho : off < 0x110000 ∨ (0x118100 ≤ off ∧ off < 0x10000000)) (h8 : off % 8 = 0) (hown : ownRow off v (dropLatch 0 s) = none)
    (ht : fldOff .cohortThresh_evict 0 ≠ off) (hf : fieldsAt off = [(f, 0)]) : ∃ r, regWrite 0 off n v s = setBudget (writeField
      (r - (r &&& (2 ^ (8 * n) - 1)) + v % 2 ^ (8 * n)) (v % 2 ^ (8 * n)) (2 ^ (8 * n) - 1) (f, 0) (dropLatch 0 s)) :=
  ⟨_, (regWrite_block hup hr hn ha ho).trans ((blockWrite_fields h8 hown ht).trans (by rw [hf]; rfl))⟩

/-- A register with a command of its own. -/
theorem regWrite_own {off n v : Nat} {s t : State} (hup : fnUp s 0 = true) (hr : rget s .mcStatus_ready 0 ≠ 0) (hn : n ∈ [4, 8]) (ha : off % n = 0)
    (ho : off < 0x110000 ∨ (0x118100 ≤ off ∧ off < 0x10000000)) (h8 : off % 8 = 0) (hown : ownRow off v (dropLatch 0 s) = some t) :
    regWrite 0 off n v s = t := by
  have hreg : off / 8 * 8 = off := by omega
  rw [regWrite_block hup hr hn ha ho]
  unfold blockWrite
  dsimp only
  rw [hreg, if_pos h8, if_pos rfl, hown]

section
variable {s : State} (hup : fnUp s 0 = true) (hr : rget s .mcStatus_ready 0 ≠ 0) (v : Nat)
include hup hr

theorem write_vigilCtl (hv : v < 2 ^ 64) : (regWrite 0 0x00D00008 8 v s).mem = s.mem ∧ (regWrite 0 0x00D00008 8 v s).ctl = s.ctl ∧
    rget (regWrite 0 0x00D00008 8 v s) .vigilCtl_hangMs 0 =
      if 10 ≤ v % 2 ^ 16 ∧ v % 2 ^ 16 ≤ 10000 then v % 2 ^ 16 else rget s .vigilCtl_hangMs 0 := by
  obtain ⟨r, he⟩ := regWrite_one (v := v) hup hr (by decide : 8 ∈ [4, 8]) (by decide) (.inr (by decide)) (by decide) rfl (by decide) fieldsAt_vigilCtl
  rw [he]
  obtain ⟨f1, f2, -⟩ := writeField_frame (r - (r &&& (2 ^ (8 * 8) - 1)) + v % 2 ^ (8 * 8)) (v % 2 ^ (8 * 8)) (2 ^ (8 * 8) - 1) .vigilCtl_hangMs 0 (dropLatch 0 s)
  refine ⟨(rset_mem ..).trans f1, (rset_ctl ..).trans f2, ?_⟩
  have hlow : (r - (r &&& (2 ^ (8 * 8) - 1)) + v % 2 ^ (8 * 8)) / 2 ^ (fldInfo .vigilCtl_hangMs).lsb % 2 ^ (fldInfo .vigilCtl_hangMs).width = v % 2 ^ 16 :=
    (congrArg (· % 2 ^ 16) (Nat.div_one _)).trans (written_low hv (by decide))
  rw [rget_setBudget (by decide), writeField_rw rfl (by decide), hlow]
  have hok : rwOk (dropLatch 0 s) .vigilCtl_hangMs 0 (v % 2 ^ 16) = (decide (10 ≤ v % 2 ^ 16) && decide (v % 2 ^ 16 ≤ 10000)) := rfl
  rw [hok]
  by_cases hb : 10 ≤ v % 2 ^ 16 ∧ v % 2 ^ 16 ≤ 10000
  · rw [if_pos (by simpa using hb), if_pos hb, rget_rset_same _ _ _ _ (by decide)]
    exact Nat.mod_mod _ _
  · rw [if_neg (by simpa using hb), if_neg hb]
    rfl

theorem write_mcBootCtl (hv : v < 2 ^ 64) : (regWrite 0 0x48 8 v s).mem = s.mem ∧ rget (regWrite 0 0x48 8 v s) .mcBootCtl_forceCold 0 = v % 2 := by
  obtain ⟨r, he⟩ := regWrite_one (v := v) hup hr (by decide : 8 ∈ [4, 8]) (by decide) (.inl (by decide)) (by decide) rfl (by decide) fieldsAt_mcBootCtl
  rw [he]
  refine ⟨(rset_mem ..).trans (writeField_frame ..).1, ?_⟩
  have hlow : (r - (r &&& (2 ^ (8 * 8) - 1)) + v % 2 ^ (8 * 8)) / 2 ^ (fldInfo .mcBootCtl_forceCold).lsb % 2 ^ (fldInfo .mcBootCtl_forceCold).width = v % 2 ^ 1 :=
    (congrArg (· % 2 ^ 1) (Nat.div_one _)).trans (written_low hv (by decide))
  rw [rget_setBudget (by decide), writeField_rw rfl (by decide), hlow, if_pos (show rwOk (dropLatch 0 s) .mcBootCtl_forceCold 0 (v % 2 ^ 1) = true from rfl),
    rget_rset_same _ _ _ _ (by decide)]
  exact Nat.mod_mod _ _

theorem clear_vigilHangCount {n : Nat} (hn : n ∈ [4, 8]) : (regWrite 0 0x00D00010 n v s).mem = s.mem ∧
    rget (regWrite 0 0x00D00010 n v s) .vigilHangCount_count 0 = if v % 2 ^ 32 = 0 then 0 else rget s .vigilHangCount_count 0 := by
  have h84 : n = 4 ∨ n = 8 := by simpa using hn
  obtain ⟨r, he⟩ := regWrite_one (v := v) (off := 0x00D00010) hup hr hn (by rcases h84 with rfl | rfl <;> rfl) (.inr (by decide)) (by decide) rfl (by decide)
    fieldsAt_vigilHangCount
  rw [he]
  refine ⟨(rset_mem ..).trans (writeField_frame ..).1, ?_⟩
  rw [rget_setBudget (by decide), rget_writeField_sat rfl (by decide)]
  have hm : (2 ^ (8 * n) - 1) / 2 ^ (fldInfo .vigilHangCount_count).lsb % 2 ^ (fldInfo .vigilHangCount_count).width =
      2 ^ (fldInfo .vigilHangCount_count).width - 1 := by rcases h84 with rfl | rfl <;> decide
  have hvn : v % 2 ^ (8 * n) / 2 ^ (fldInfo .vigilHangCount_count).lsb % 2 ^ (fldInfo .vigilHangCount_count).width = v % 2 ^ 32 := by
    rcases h84 with rfl | rfl <;> exact (congrArg (· % 2 ^ 32) (Nat.div_one _)).trans (Nat.mod_mod_of_dvd _ (by decide))
  rw [hm, hvn]
  simp only [true_and]
  rfl

theorem clear_pwrEnergy_half : rget (regWrite 0 0x00400040 4 v s) .pwrEnergy_mj 0 = rget s .pwrEnergy_mj 0 := by
  obtain ⟨r, he⟩ := regWrite_one (v := v) (off := 0x00400040) hup hr (by decide : 4 ∈ [4, 8]) rfl (.inr (by decide)) (by decide) rfl (by decide) fieldsAt_pwrEnergy
  rw [he, rget_setBudget (by decide), rget_writeField_sat rfl (by decide), if_neg fun h => absurd h.1 (by decide)]
  rfl

theorem clear_pwrEnergy (hv : v = 0) : rget (regWrite 0 0x00400040 8 v s) .pwrEnergy_mj 0 = 0 := by
  subst hv
  obtain ⟨r, he⟩ := regWrite_one (v := 0) (off := 0x00400040) hup hr (by decide : 8 ∈ [4, 8]) rfl (.inr (by decide)) (by decide) rfl (by decide) fieldsAt_pwrEnergy
  rw [he, rget_setBudget (by decide), rget_writeField_sat rfl (by decide), if_pos (by decide)]

end

/-! ### VIGIL_STATUS -/

theorem fieldsAt_vigilStatus : fieldsAt 0x00D00000 =
    [(.vigilStatus_quarantineSeen, 0), (.vigilStatus_escalationSeen, 0), (.vigilStatus_hangSeen, 0), (.vigilStatus_saturated, 0)] := by decide +kernel

/-- A write of the four sticky bits of VIGIL_STATUS, one after another. -/
def clearVigil (w v m : Nat) (s : State) : State :=
  writeField w v m (.vigilStatus_saturated, 0) (writeField w v m (.vigilStatus_hangSeen, 0)
    (writeField w v m (.vigilStatus_escalationSeen, 0) (writeField w v m (.vigilStatus_quarantineSeen, 0) s)))

theorem clearVigil_spec (w v m : Nat) (s : State) : (clearVigil w v m s).mem = s.mem ∧
    (rget s .vigilStatus_hangSeen 0 ≤ 1 → rget (clearVigil w v m s) .vigilStatus_hangSeen 0 =
      if v / 2 ^ 1 % 2 = 1 then 0 else rget s .vigilStatus_hangSeen 0) ∧
    (rget s .vigilStatus_escalationSeen 0 ≤ 1 → rget (clearVigil w v m s) .vigilStatus_escalationSeen 0 =
      if v / 2 ^ 2 % 2 = 1 then 0 else rget s .vigilStatus_escalationSeen 0) := by
  obtain ⟨a1, -, a3⟩ := writeField_frame w v m .vigilStatus_quarantineSeen 0 s
  obtain ⟨b1, -, b3⟩ := writeField_frame w v m .vigilStatus_escalationSeen 0 (writeField w v m (.vigilStatus_quarantineSeen, 0) s)
  obtain ⟨c1, -, c3⟩ := writeField_frame w v m .vigilStatus_hangSeen 0
    (writeField w v m (.vigilStatus_escalationSeen, 0) (writeField w v m (.vigilStatus_quarantineSeen, 0) s))
  obtain ⟨d1, -, d3⟩ := writeField_frame w v m .vigilStatus_saturated 0 (writeField w v m (.vigilStatus_hangSeen, 0)
    (writeField w v m (.vigilStatus_escalationSeen, 0) (writeField w v m (.vigilStatus_quarantineSeen, 0) s)))
  refine ⟨d1.trans (c1.trans (b1.trans a1)), fun h => ?_, fun h => ?_⟩
  · have hs : rget (writeField w v m (.vigilStatus_escalationSeen, 0) (writeField w v m (.vigilStatus_quarantineSeen, 0) s)) .vigilStatus_hangSeen 0 =
        rget s .vigilStatus_hangSeen 0 := (b3 _ _ (by decide)).trans (a3 _ _ (by decide))
    refine (d3 _ _ (by decide)).trans ((rget_writeField_st rfl rfl (by decide) (by rw [hs]; exact h)).trans ?_)
    rw [hs]
    rfl
  · have hs : rget (writeField w v m (.vigilStatus_quarantineSeen, 0) s) .vigilStatus_escalationSeen 0 = rget s .vigilStatus_escalationSeen 0 := a3 _ _ (by decide)
    refine (d3 _ _ (by decide)).trans ((c3 _ _ (by decide)).trans ((rget_writeField_st rfl rfl (by decide) (by rw [hs]; exact h)).trans ?_))
    rw [hs]
    rfl

theorem clear_vigilStatus {s : State} (hup : fnUp s 0 = true) (hr : rget s .mcStatus_ready 0 ≠ 0) (v : Nat) :
    ∃ w, regWrite 0 0x00D00000 8 v s = setBudget (clearVigil w (v % 2 ^ 64) (2 ^ 64 - 1) (dropLatch 0 s)) :=
  ⟨_, (regWrite_block hup hr (by decide) rfl (.inr (by decide))).trans ((blockWrite_fields (by decide) rfl (by decide)).trans (by
    rw [fieldsAt_vigilStatus]; rfl))⟩

/-! ### The MSI-X table -/

theorem regWrite_msix {fn k j v : Nat} {s : State} (hfn : fn ≠ 0) (hup : fnUp s fn = true) (hk : k < 2048) (hj : j < 4) :
    regWrite fn (16 * k + 4 * j) 4 v s = msixWriteWord fn (4 * k + j) v (dropLatch fn s) := by
  unfold regWrite msixWrite
  dsimp only
  rw [if_neg (by rw [fnUp_dropLatch, hup]; simp; omega), if_neg (by omega), if_pos hfn, if_pos (by omega), if_neg (by omega), if_neg (by decide)]
  congr 1
  omega

theorem foldl_host {α : Type} (f : State → α → State) (hf : ∀ s a, (f s a).host.msixOpen = s.host.msixOpen) (l : List α) (s : State) :
    (l.foldl f s).host.msixOpen = s.host.msixOpen := by
  induction l generalizing s with
  | nil => rfl
  | cons a l ih => exact (ih _).trans (hf ..)

theorem sendPending_msixOpen (fn : Nat) (s : State) : (sendPending fn s).host.msixOpen = s.host.msixOpen := by
  unfold sendPending
  split
  · rfl
  · exact foldl_host (f := fun s k => emit (.msix fn (k % 2048)) { s with host := { s.host with msixPend := sset false s.host.msixPend k false } })
      (fun _ _ => rfl) _ s

theorem openVector_open (fn k : Nat) (s : State) : sget false (openVector fn k s).host.msixOpen (fn * 2048 + k) = true := by
  unfold openVector
  rw [sendPending_msixOpen]
  exact sget_sset_same false true s.host.msixOpen _

/-! ### Doorbell pages -/

theorem regWrite_page {fn off v : Nat} {s : State} (hup : fnUp s fn = true) (ha : off % 4 = 0) :
    regWrite fn (0x10000000 + off) 4 v s = pageWrite fn off v (dropLatch fn s) := by
  unfold regWrite
  dsimp only
  rw [if_neg (by rw [fnUp_dropLatch, hup]; simp; omega), if_pos (by omega), Nat.add_sub_cancel_left]

/-- A write to a command's own register is that command, where the command answers a state. -/
theorem next_nextOf {s : State} {o : Out} (h : ∃ t, o = .next t) : .next (nextOf s o) = o := by
  obtain ⟨t, rfl⟩ := h; rfl

theorem execQueueDbSqTail_next (fn q : Nat) (tail : BitVec 16) (s : State) : ∃ t, execQueueDbSqTail fn q tail [] s = .next t := by
  unfold execQueueDbSqTail
  dsimp only
  split
  · exact ⟨_, rfl⟩
  · split
    · exact ⟨_, rfl⟩
    · split <;> exact ⟨_, rfl⟩

theorem execQueueDbCqHead_next (fn q : Nat) (seq : BitVec 32) (s : State) : ∃ t, execQueueDbCqHead fn q seq s = .next t := by
  unfold execQueueDbCqHead
  dsimp only
  split
  · exact ⟨_, rfl⟩
  · split <;> exact ⟨_, rfl⟩

theorem execQueueAdminCfg_next (fn : Nat) (w : BitVec 32) (s : State) : ∃ t, execQueueAdminCfg fn w s = .next t := by
  unfold execQueueAdminCfg
  dsimp only
  split <;> exact ⟨_, rfl⟩

theorem execPwrTray_next (fn : Nat) (w : BitVec 32) (s : State) : ∃ t, execPwrTray fn w s = .next t := ⟨_, rfl⟩

section
variable {s : State} (hup : fnUp s 0 = true) (hr : rget s .mcStatus_ready 0 ≠ 0) (v : Nat)
include hup hr

theorem write_queueAdminCfg {n : Nat} (hn : n ∈ [4, 8]) :
    regWrite 0 0x00200010 n v s = nextOf (dropLatch 0 s) (execQueueAdminCfg 0 (BitVec.ofNat 32 v) (dropLatch 0 s)) := by
  refine regWrite_own hup hr hn ?_ (.inr (by decide)) (by decide) (by unfold ownRow; exact if_pos rfl)
  simp only [List.mem_cons, List.not_mem_nil, or_false] at hn
  rcases hn with rfl | rfl <;> decide

theorem write_pwrTray {n : Nat} (hn : n ∈ [4, 8]) :
    regWrite 0 0x00400018 n v s = nextOf (dropLatch 0 s) (execPwrTray 0 (BitVec.ofNat 32 v) (dropLatch 0 s)) := by
  refine regWrite_own hup hr hn ?_ (.inr (by decide)) (by decide) (by unfold ownRow; exact (if_neg (by decide)).trans (if_pos rfl))
  simp only [List.mem_cons, List.not_mem_nil, or_false] at hn
  rcases hn with rfl | rfl <;> decide

end

/-- Settles O58: the access kinds field by field, and the two kinds of write that are commands of their own. -/
theorem registerAccesses : Obligations.RegisterAccesses := by
  unfold Obligations.RegisterAccesses
  intro s
  refine ⟨fun fn off => ⟨fun hup => ?_, fun hup => ⟨fun h => ?_, fun h => ⟨?_, ?_⟩, fun h => ⟨fun hi hl => ?_, fun hl => ?_⟩⟩⟩,
    fun fn off n v i hi h => ⟨_, exec_regWrite i hi, regWrite_dropped h⟩,
    fun v hup hr => ⟨?_, ?_, ?_, fun n hn => ?_, ?_, ?_, fun n hn => ⟨?_, ?_⟩⟩, fun fn k j v hfn hup hk => ⟨fun hj => ?_, fun hb => ?_, fun hb => ?_⟩,
    fun fn q v hup => ⟨?_, ?_⟩⟩
  · exact ⟨_, (exec_halfReadLatch fn off s).trans (congrArg _ (if_neg (by simp [hup]))), rfl, (hostReply_spec ..).2.2.2.1⟩
  · have h' := halfAnswers_of (off := off) hup
    rw [halfRead_odd h] at h'
    exact h'
  · have h' := halfAnswers_of (off := off) hup
    rw [halfRead_low h] at h'
    exact h'
  · refine ⟨_, (exec_halfReadLatch fn off s).trans (congrArg _ (if_pos hup)), ?_⟩
    dsimp only
    rw [(hostReply_spec ..).2.2.2.2, halfRead_low h]
    exact sget?_sput_same ..
  · have h' := halfAnswers_of (off := off) hup
    rw [halfRead_high_latched h hl] at h'
    exact h'
  · have h' := halfAnswers_of (off := off) hup
    rw [halfRead_high h hl] at h'
    exact h'
  · obtain ⟨q1, q2, q3⟩ := write_vigilCtl hup hr v.toNat v.isLt
    exact ⟨_, exec_regWrite _ (.head _), q1, q2, q3⟩
  · obtain ⟨q1, q2⟩ := write_mcBootCtl hup hr v.toNat v.isLt
    exact ⟨_, exec_regWrite _ (.head _), q1, q2⟩
  · obtain ⟨w, he⟩ := clear_vigilStatus hup hr v.toNat
    obtain ⟨q1, q2, q3⟩ := clearVigil_spec w (v.toNat % 2 ^ 64) (2 ^ 64 - 1) (dropLatch 0 s)
    have hb : ∀ i, (v.toNat % 2 ^ 64 / 2 ^ i % 2 = 1) = (v.getLsbD i = true) := fun i => by
      rw [Nat.mod_eq_of_lt v.isLt, BitVec.getLsbD, Nat.testBit_eq_decide_div_mod_eq, decide_eq_true_eq]
    refine ⟨_, (exec_regWrite _ (by simp)).trans (congrArg _ he), (rset_mem ..).trans q1, fun h => ?_, fun h => ?_⟩
    · rw [rget_setBudget (by decide), q2 h]
      simp only [hb]
      rfl
    · rw [rget_setBudget (by decide), q3 h]
      simp only [hb]
      rfl
  · obtain ⟨q1, q2⟩ := clear_vigilHangCount hup hr v.toNat hn
    exact ⟨_, exec_regWrite _ (by simp), q1, q2⟩
  · exact ⟨_, exec_regWrite (v := 0) _ (by simp), clear_pwrEnergy_half hup hr _⟩
  · exact ⟨_, exec_regWrite (v := 0) _ (by simp), clear_pwrEnergy hup hr _ (by decide)⟩
  · rw [exec_regWrite _ (.head _), write_queueAdminCfg hup hr v.toNat hn]
    exact next_nextOf (execQueueAdminCfg_next ..)
  · rw [exec_regWrite _ (.head _), write_pwrTray hup hr v.toNat hn]
    exact next_nextOf (execPwrTray_next ..)
  · refine ⟨_, (exec_regWrite _ (.head _)).trans (congrArg _ (regWrite_msix hfn hup hk (by omega))), ?_⟩
    rw [msixWriteWord, if_pos (by omega)]
    exact ⟨rfl, rfl, (congrArg (sget 0 _) (Nat.add_assoc ..)).trans (sget_sset_same 0 _ s.host.msixTab _)⟩
  · have hv : ¬ v.toNat % 2 = 0 := by
      rw [BitVec.getLsbD, Nat.testBit_zero, decide_eq_true_eq] at hb
      omega
    refine ⟨_, (exec_regWrite _ (.head _)).trans (congrArg _ (regWrite_msix (j := 3) hfn hup hk (by decide))), ?_⟩
    rw [msixWriteWord, if_neg (by omega), if_neg hv, show (4 * k + 3) / 4 = k by omega]
    exact ⟨rfl, rfl, sget_sset_same false false s.host.msixOpen _⟩
  · have hv : v.toNat % 2 = 0 := by
      rw [BitVec.getLsbD, Nat.testBit_zero, decide_eq_false_iff_not] at hb
      omega
    refine ⟨_, (exec_regWrite _ (.head _)).trans (congrArg _ (regWrite_msix (j := 3) hfn hup hk (by decide))), ?_⟩
    rw [msixWriteWord, if_neg (by omega), if_pos hv, show (4 * k + 3) / 4 = k by omega]
    exact openVector_open ..
  · refine ((exec_regWrite _ (.head _)).trans (congrArg _ (regWrite_page hup (by omega)))).trans ?_
    rw [pageWrite, if_pos (by omega), Nat.mul_div_cancel_left _ (by decide)]
    exact next_nextOf (execQueueDbSqTail_next ..)
  · refine ((exec_regWrite _ (.head _)).trans (congrArg _ ((congrArg (regWrite fn · 4 v.toNat s)
      (show 0x10000010 + 4096 * q = 0x10000000 + (0x10 + 4096 * q) by omega)).trans (regWrite_page hup (by omega))))).trans ?_
    rw [pageWrite, if_neg (by omega), if_pos (by omega), show (0x10 + 4096 * q) / 4096 = q by omega]
    exact next_nextOf (execQueueDbCqHead_next ..)

end Sys2Proof.Machine
end


section
/-! PROOFS. The management interface: what a request answers in the phase it is served in, and the sensors that it reports. -/

namespace Sys2Proof.Machine

/-! ### Requests by how they are taken -/

section
variable {s : State} {pcie : Bool} {n : Nat} {name : String}

theorem vendor_dropped (h : reachable? s pcie = false) (f : State → State) : vendor pcie n name f s = .next s := by
  have hd : serveVendor s pcie n = .dropped := by
    unfold serveVendor; rw [h]; rfl
  unfold vendor; rw [hd]

theorem vendor_refused (h : serveVendor s pcie n = .refused) (f : State → State) : vendor pcie n name f s = .next (reply name [0x01] [] s) := by
  unfold vendor; rw [h]

theorem vendor_served (h : serveVendor s pcie n = .served) (f : State → State) : vendor pcie n name f s = .next (f s) := by
  unfold vendor; rw [h]

end

/-- The vendor commands with their numbers and names. -/
theorem exec_vendor {pcie : Bool} {s : State} (g p : BitVec 16) (id : BitVec 32) (seq : Word64) (off : BitVec 32) (len : BitVec 16) (ed ml : List Byte) :
    ∀ x ∈ [(1, "TRAY_SET", Instr.traySet pcie g p), (2, "TRAY_ID_SET", .trayIdSet pcie id), (3, "ALMANAC_GET", .almanacGet pcie seq off len),
      (4, "UNLOCK_NONCE", .unlockNonce pcie), (5, "UNLOCK", .unlock pcie ed ml), (6, "STATUS_GET", .statusGet pcie)],
      ∃ f, exec x.2.2 s = vendor pcie x.1 x.2.1 f s := by
  intro x hx
  simp only [List.mem_cons, List.not_mem_nil, or_false] at hx
  obtain rfl | rfl | rfl | rfl | rfl | rfl := hx
  · exact ⟨_, show execTraySet pcie g p s = _ from rfl⟩
  · exact ⟨_, show execTrayIdSet pcie id s = _ from rfl⟩
  · exact ⟨_, show execAlmanacGet pcie seq off len s = _ from rfl⟩
  · exact ⟨_, show execUnlockNonce pcie s = _ from rfl⟩
  · exact ⟨_, show execUnlock pcie ed ml s = _ from rfl⟩
  · exact ⟨_, show execStatusGet pcie s = _ from rfl⟩

/-- A reply and nothing else. -/
theorem reply_told (name : String) (l : List Nat) (b : List Byte) (s : State) :
    { reply name l b s with io := { (reply name l b s).io with outbox := s.io.outbox } } = s := rfl

/-! ### TRAY_SET -/

theorem rset_regsOnly (f : Fld) (i v : Nat) (s : State) : rset f i v s = { s with regs := (rset f i v s).regs } := by
  unfold rset; split <;> rfl

theorem exec_traySet {s : State} {pcie : Bool} (h : serveVendor s pcie 1 = .served) (g p : BitVec 16) : exec (.traySet pcie g p) s = .next
    (if g.toNat < 4000 ∨ 7200 < g.toNat ∨ p.toNat < 4000 ∨ 8000 < p.toNat then reply "TRAY_SET" [0x02] [] s
     else reply "TRAY_SET" [0x00] [] (writeTray (g.toNat + 65536 * p.toNat) s)) := by
  show execTraySet pcie g p s = _
  unfold execTraySet
  rw [vendor_served h]
  simp only [Bool.or_eq_true, decide_eq_true_eq, or_assoc]

theorem rget_setIn {f g : Fld} (hf : g ≠ f) (lo hi v i : Nat) (s : State) : rget (setIn f lo hi v s) g i = rget s g i := by
  unfold setIn
  split
  · exact regAt_rset_other _ _ _ _ hf
  · rfl

theorem rget_setIn_same {f : Fld} {lo hi v : Nat} (s : State) (hi0 : 0 < fldCount f) (hw : hi < 2 ^ (fldInfo f).width) :
    rget (setIn f lo hi v s) f 0 = if lo ≤ v ∧ v ≤ hi then v else rget s f 0 := by
  unfold setIn
  by_cases h : lo ≤ v ∧ v ≤ hi
  · rw [if_pos (by simpa using h), if_pos h, rget_rset_same _ _ _ _ hi0, Nat.mod_eq_of_lt (by omega)]
  · rw [if_neg (by simpa using h), if_neg h]

theorem setIn_regs (f : Fld) (lo hi v : Nat) (s : State) : setIn f lo hi v s = { s with regs := (setIn f lo hi v s).regs } := by
  unfold setIn; split
  · exact rset_regsOnly ..
  · rfl

/-- The budget is the one that its inputs give. -/
theorem setBudget_spec (s : State) : rget (setBudget s) .pwrBudget_budgetW 0 = (budgetOf (setBudget s)).toNat % 2 ^ 16 := by
  have hb : budgetOf (setBudget s) = budgetOf s := by
    unfold budgetOf clamped effPeak
    simp only [rget_setBudget (f := .pwrTray_grantW) (by decide), rget_setBudget (f := .pwrPeakLimit_peakW) (by decide),
      rget_setBudget (f := .pwrTray_trayPeakW) (by decide), rget_setBudget (f := .pwrThrottle_levelW) (by decide)]
    simp only [setBudget, rset_pow]
  rw [hb]
  exact rget_rset_same _ _ _ _ (by decide)

/-- A write of PWR_TRAY: each field takes a value of its range, the budget follows, and nothing that is no register changes. -/
theorem writeTray_spec (v : Nat) (s : State) : { writeTray v s with regs := s.regs } = s ∧
    rget (writeTray v s) .pwrBudget_budgetW 0 = (budgetOf (writeTray v s)).toNat % 2 ^ 16 ∧
    rget (writeTray v s) .pwrTray_grantW 0 = (if 4000 ≤ bits v 0 16 ∧ bits v 0 16 ≤ 7200 then bits v 0 16 else rget s .pwrTray_grantW 0) ∧
    rget (writeTray v s) .pwrTray_trayPeakW 0 = (if 4000 ≤ bits v 16 16 ∧ bits v 16 16 ≤ 8000 then bits v 16 16 else rget s .pwrTray_trayPeakW 0) := by
  refine ⟨?_, setBudget_spec _, ?_, ?_⟩
  · unfold writeTray setBudget
    rw [rset_regsOnly, setIn_regs, setIn_regs .pwrTray_trayPeakW]
  · rw [writeTray, rget_setBudget (by decide), rget_setIn_same _ (by decide) (by decide), rget_setIn (by decide)]
  · rw [writeTray, rget_setBudget (by decide), rget_setIn (by decide), rget_setIn_same _ (by decide) (by decide)]

/-! ### The other vendor commands -/

section
variable {s : State} {pcie : Bool}

theorem exec_trayIdSet (h : serveVendor s pcie 2 = .served) (id : BitVec 32) : exec (.trayIdSet pcie id) s = .next
    (if rget s .mcStatus_ready 0 = 1 then reply "TRAY_ID_SET" [0x01] [] s
     else reply "TRAY_ID_SET" [0x00] [] { s with fab := { s.fab with trayId := id.toNat } }) := by
  show execTrayIdSet pcie id s = _
  unfold execTrayIdSet
  rw [vendor_served h]

theorem exec_almanacGet (h : serveVendor s pcie 3 = .served) (seq : Word64) (off : BitVec 32) (len : BitVec 16) :
    exec (.almanacGet pcie seq off len) s = .next
    (if rget s .almanacSeq_seq 0 < seq.toNat ∨ 1024 < len.toNat ∨ 65536 < off.toNat + len.toNat then reply "ALMANAC_GET" [0x02] [] s
     else reply "ALMANAC_GET" [0x00] (((blockBytes s seq.toNat).drop off.toNat).take len.toNat) s) := by
  show execAlmanacGet pcie seq off len s = _
  unfold execAlmanacGet
  rw [vendor_served h]
  simp only [Bool.or_eq_true, decide_eq_true_eq, or_assoc]

theorem exec_unlockNonce_some (h : serveVendor s pcie 4 = .served) {n : List Byte} (hn : s.boot.nonce = some n) :
    exec (.unlockNonce pcie) s = .next (reply "UNLOCK_NONCE" [0x00] n s) := by
  show execUnlockNonce pcie s = _
  unfold execUnlockNonce
  rw [vendor_served h]
  dsimp only
  rw [if_pos (by rw [hn]; rfl), hn, Option.getD_some]

theorem exec_unlockNonce_none (h : serveVendor s pcie 4 = .served) (hn : s.boot.nonce = none) : exec (.unlockNonce pcie) s = .next
    (reply "UNLOCK_NONCE" [0x00] ((List.range 32).map (Config.nonceByte s.boot.nonceNo)) (newNonce s)) := by
  show execUnlockNonce pcie s = _
  unfold execUnlockNonce
  rw [vendor_served h]
  dsimp only
  rw [if_neg (by simp [hn])]
  rfl

theorem exec_unlock (h : serveVendor s pcie 5 = .served) (ed ml : List Byte) : exec (.unlock pcie ed ml) s = .next
    (if s.boot.unlockAt.elim false (fun t => decide (lcountOf s 0 < t + 10000000000)) = true then reply "UNLOCK" [0x01] [] s
     else if unlockOk s ed ml then
      reply "UNLOCK" [0x00] [] { s with boot := { s.boot with unlockAt := some (lcountOf s 0), tapOpen := true, nonce := none } }
     else reply "UNLOCK" [0x02] [] (newNonce { s with boot := { s.boot with unlockAt := some (lcountOf s 0) } })) := by
  show execUnlock pcie ed ml s = _
  unfold execUnlock
  rw [vendor_served h]

theorem exec_statusGet (h : serveVendor s pcie 6 = .served) : exec (.statusGet pcie) s = .next (reply "STATUS_GET" [0x00] (statusBytes s) s) := by
  show execStatusGet pcie s = _
  unfold execStatusGet
  rw [vendor_served h]

theorem exec_setEndpointId (h : serveType s pcie 0 = .served) (e : BitVec 8) : exec (.setEndpointId pcie e) s = .next
    (if e.toNat < 8 ∨ e.toNat = 255 then reply "SET_ENDPOINT_ID" [0x02] [] s
     else reply "SET_ENDPOINT_ID" [0x00, e.toNat] [] { s with host := { s.host with eid := e.toNat } }) := by
  show execSetEndpointId pcie e s = _
  unfold execSetEndpointId
  rw [typed_served h]
  simp only [Bool.or_eq_true, decide_eq_true_eq]

theorem exec_setdasa (a d : BitVec 7) (s : State) : exec (.setdasa a d) s = .next
    (if s.boot.powered = true ∧ a.toNat = 0x30 + ownSlot s then { s with host := { s.host with dynAddr := d.toNat } } else s) := by
  show execSetdasa a d s = _
  unfold execSetdasa
  simp only [Bool.and_eq_true, beq_iff_eq]

/-! ### Sensors -/

theorem exec_getSensorReading (h : serveType s pcie 1 = .served) (i : BitVec 16) : exec (.getSensorReading pcie i) s = .next
    (if i.toNat ∈ numericSensors then
      reply "SENSOR_READING" [0x00, i.toNat, thresholdState s i.toNat] (leBytes 8 (sensorValue s i.toNat % 2 ^ 64).toNat) s
     else reply "SENSOR_READING" [0x80] [] s) := by
  show execGetSensorReading pcie i s = _
  unfold execGetSensorReading
  rw [typed_served h]
  by_cases hi : i.toNat ∈ numericSensors <;> simp only [List.contains_eq_mem, hi, decide_true, decide_false, Bool.not_true, Bool.not_false, if_true,
    if_false, Bool.false_eq_true]

theorem exec_getStateSensorReadings (h : serveType s pcie 1 = .served) (i : BitVec 16) : exec (.getStateSensorReadings pcie i) s = .next
    (if i.toNat ∈ stateSensors then reply "STATE_SENSOR_READINGS" [0x00, i.toNat, stateValue s i.toNat] [] s
     else reply "STATE_SENSOR_READINGS" [0x80] [] s) := by
  show execGetStateSensorReadings pcie i s = _
  unfold execGetStateSensorReadings
  rw [typed_served h]
  by_cases hi : i.toNat ∈ stateSensors <;> simp only [List.contains_eq_mem, hi, decide_true, decide_false, Bool.not_true, Bool.not_false, if_true,
    if_false, Bool.false_eq_true]

theorem exec_setEventReceiver (h : serveType s pcie 1 = .served) (e : BitVec 8) : exec (.setEventReceiver pcie e) s = .next
    (reportSensors (reply "SET_EVENT_RECEIVER" [0x00] [] { s with host := { s.host with eventReceiver := some e.toNat } })) := by
  show execSetEventReceiver pcie e s = _
  unfold execSetEventReceiver
  rw [typed_served h]

theorem exec_pldmSensorUpdate (s : State) : exec .pldmSensorUpdate s =
    .next (if phase s = 0 ∨ inModuleReset s = true then s else reportSensors s) := by
  show execPldmSensorUpdate s = _
  unfold execPldmSensorUpdate
  simp only [Bool.or_eq_true, decide_eq_true_eq]

end

/-- What a sensor reports is read from the registers alone. -/
theorem sensorState_of_regs {s t : State} (h : t.regs = s.regs) (i : Nat) : sensorState t i = sensorState s i := by
  have hv : sensorValue t i = sensorValue s i := by
    unfold sensorValue
    simp only [rget_eq, h]
  have hs : stateValue t i = stateValue s i := by
    unfold stateValue phase
    simp only [rget_eq, h]
  unfold sensorState thresholdState
  rw [hv, hs]

/-- One event sent and noted. -/
def reportOne (e : Nat) (s : State) (i : Nat) : State :=
  reply "PLATFORM_EVENT" [e, i, sensorState s i] [] { s with host := { s.host with sensors := sset 0 s.host.sensors i (sensorState s i) } }

/-- Events sent to a receiver: each is in the outbox, and its sensor is noted. -/
theorem foldl_reportOne (e : Nat) (l : List Nat) (s : State) : (l.foldl (reportOne e) s).regs = s.regs ∧
    s.io.outbox ⊆ (l.foldl (reportOne e) s).io.outbox ∧ (l.foldl (reportOne e) s).host.eventReceiver = s.host.eventReceiver ∧
    (∀ j, sget 0 (l.foldl (reportOne e) s).host.sensors j = if j ∈ l then sensorState s j else sget 0 s.host.sensors j) ∧
    ∀ j ∈ l, .mctp "PLATFORM_EVENT" [e, j, sensorState s j] [] ∈ (l.foldl (reportOne e) s).io.outbox := by
  induction l generalizing s with
  | nil => exact ⟨rfl, fun _ h => h, rfl, fun j => by simp, nofun⟩
  | cons i l ih =>
    obtain ⟨h1, h2, h3, h4, h5⟩ := ih (reportOne e s i)
    have hs : ∀ j, sensorState (reportOne e s i) j = sensorState s j := sensorState_of_regs rfl
    refine ⟨h1, fun x hx => h2 (List.mem_append_left _ hx), h3, fun j => ?_, fun j hj => ?_⟩
    · rw [List.foldl_cons, h4, hs]
      by_cases hl : j ∈ l
      · rw [if_pos hl, if_pos (List.mem_cons_of_mem _ hl)]
      · rw [if_neg hl]
        show sget 0 (sset 0 s.host.sensors i (sensorState s i)) j = _
        by_cases hi : j = i
        · subst hi
          rw [sget_sset_same, if_pos List.mem_cons_self]
        · rw [sget_sset_ne _ _ _ hi, if_neg (by simp [hi, hl])]
    · rcases List.mem_cons.1 hj with rfl | hj
      · exact h2 (List.mem_append_right _ List.mem_cons_self)
      · rw [List.foldl_cons, ← hs j]
        exact h5 j hj

/-- With a receiver, every changed sensor is reported to it. -/
theorem reportSensors_some {s : State} {e : Nat} (h : s.host.eventReceiver = some e) : (reportSensors s).boot.alertN = true ∧
    (reportSensors s).regs = s.regs ∧ s.io.outbox ⊆ (reportSensors s).io.outbox ∧ (reportSensors s).host.eventReceiver = some e ∧
    ∀ j ∈ changedSensors s, .mctp "PLATFORM_EVENT" [e, j, sensorState s j] [] ∈ (reportSensors s).io.outbox ∧
      sget 0 (reportSensors s).host.sensors j = sensorState s j := by
  have he : reportSensors s = { (changedSensors s).foldl (reportOne e) s with boot := { ((changedSensors s).foldl (reportOne e) s).boot with alertN := true } } := by
    unfold reportSensors
    rw [h]
    rfl
  rw [he]
  obtain ⟨h1, h2, h3, h4, h5⟩ := foldl_reportOne e (changedSensors s) s
  exact ⟨rfl, h1, h2, h3.trans h, fun j hj => ⟨h5 j hj, (h4 j).trans (if_pos hj)⟩⟩

theorem reportSensors_none {s : State} (h : s.host.eventReceiver = none) :
    reportSensors s = { s with boot := { s.boot with alertN := (changedSensors s).isEmpty } } := by
  unfold reportSensors; rw [h]

/-- Settles O59: every request is answered by its body where it is served, and the sensors are read from the registers alone. -/
theorem managementMessages : Obligations.ManagementMessages := by
  unfold Obligations.ManagementMessages
  intro s pcie
  refine ⟨fun g p id seq off len ed ml x hx => ⟨fun hr => ?_, fun hr => ?_⟩, fun g p hs => ⟨fun h1 h2 h3 h4 => ?_, fun hb => ?_⟩,
    fun id hs => ⟨fun hr => ?_, fun hr => ?_⟩, fun seq off len hs => ⟨fun hb => ?_, fun hb => ?_⟩, fun hs => ⟨fun n hn => ?_, fun hn => ?_⟩,
    fun ed ml hs => ⟨fun he => ?_, fun he ho => ?_, fun he ho => ?_⟩, fun hs => ?_, fun e hs => ⟨fun h8 hf => ?_, fun hb => ?_⟩,
    fun a d => ⟨fun hm => ?_, fun hm => ?_⟩, fun i hs => ⟨fun hi => ?_, fun hi => ?_, fun hi => ?_, fun hi => ?_, fun e => ?_⟩,
    fun h => ?_, fun hp hm => ⟨fun hn => ?_, fun e he => ?_⟩⟩
  · obtain ⟨f, hf⟩ := exec_vendor (s := s) (pcie := pcie) g p id seq off len ed ml x hx
    exact hf.trans (vendor_dropped hr f)
  · obtain ⟨f, hf⟩ := exec_vendor (s := s) (pcie := pcie) g p id seq off len ed ml x hx
    exact ⟨_, hf.trans (vendor_refused hr f), reply_told .., reply_sent ..⟩
  · have hg : bits (g.toNat + 65536 * p.toNat) 0 16 = g.toNat := by simp [bits]; omega
    have hp : bits (g.toNat + 65536 * p.toNat) 16 16 = p.toNat := by simp [bits, Nat.shiftRight_eq_div_pow]; omega
    obtain ⟨q1, q2, q3, q4⟩ := writeTray_spec (g.toNat + 65536 * p.toNat) s
    have q5 := congrArg State.mem q1
    rw [hg, if_pos ⟨h1, h2⟩] at q3
    rw [hp, if_pos ⟨h3, h4⟩] at q4
    exact ⟨_, (exec_traySet hs g p).trans (congrArg _ (if_neg (by omega))), reply_sent .., q3, q4, q2, q5⟩
  · exact ⟨_, (exec_traySet hs g p).trans (congrArg _ (if_pos hb)), reply_told .., reply_sent ..⟩
  · exact ⟨_, (exec_trayIdSet hs id).trans (congrArg _ (if_pos hr)), reply_told .., reply_sent ..⟩
  · exact ⟨_, (exec_trayIdSet hs id).trans (congrArg _ (if_neg hr)), rfl, rfl, reply_sent ..⟩
  · exact ⟨_, (exec_almanacGet hs seq off len).trans (congrArg _ (if_pos hb)), reply_told .., reply_sent ..⟩
  · exact ⟨_, (exec_almanacGet hs seq off len).trans (congrArg _ (if_neg hb)), reply_told .., reply_sent ..⟩
  · exact ⟨_, exec_unlockNonce_some hs hn, reply_told .., reply_sent ..⟩
  · exact ⟨_, exec_unlockNonce_none hs hn, (List.range 32).map (Config.nonceByte s.boot.nonceNo), rfl, by simp, reply_sent ..⟩
  · exact ⟨_, (exec_unlock hs ed ml).trans (congrArg _ (if_pos he)), reply_told .., reply_sent ..⟩
  · exact ⟨_, (exec_unlock hs ed ml).trans (congrArg _ ((if_neg he).trans (if_pos ho))), reply_sent .., rfl, rfl, rfl, rfl⟩
  · exact ⟨_, (exec_unlock hs ed ml).trans (congrArg _ ((if_neg he).trans (if_neg (by simp [ho])))), reply_sent .., rfl, rfl, rfl⟩
  · exact ⟨_, exec_statusGet hs, reply_told .., reply_sent ..⟩
  · exact ⟨_, (exec_setEndpointId hs e).trans (congrArg _ (if_neg (by omega))), rfl, rfl, reply_sent ..⟩
  · exact ⟨_, (exec_setEndpointId hs e).trans (congrArg _ (if_pos hb)), reply_told .., reply_sent ..⟩
  · exact ⟨_, (exec_setdasa a d s).trans (congrArg _ (if_pos hm)), rfl⟩
  · exact (exec_setdasa a d s).trans (congrArg _ (if_neg hm))
  · exact ⟨_, (exec_getSensorReading hs i).trans (congrArg _ (if_pos hi)), reply_told .., reply_sent ..⟩
  · exact ⟨_, (exec_getSensorReading hs i).trans (congrArg _ (if_neg hi)), reply_told .., reply_sent ..⟩
  · exact ⟨_, (exec_getStateSensorReadings hs i).trans (congrArg _ (if_pos hi)), reply_told .., reply_sent ..⟩
  · exact ⟨_, (exec_getStateSensorReadings hs i).trans (congrArg _ (if_neg hi)), reply_told .., reply_sent ..⟩
  · obtain ⟨q1, -, q3, q4, q5⟩ := reportSensors_some (e := e.toNat)
      (s := reply "SET_EVENT_RECEIVER" [0x00] [] { s with host := { s.host with eventReceiver := some e.toNat } }) rfl
    refine ⟨_, exec_setEventReceiver hs e, q3 (reply_sent ..), q4, q1, fun j hj => ?_⟩
    have hst : ∀ j, sensorState (reply "SET_EVENT_RECEIVER" [0x00] [] { s with host := { s.host with eventReceiver := some e.toNat } }) j = sensorState s j :=
      sensorState_of_regs rfl
    have hch : changedSensors (reply "SET_EVENT_RECEIVER" [0x00] [] { s with host := { s.host with eventReceiver := some e.toNat } }) = changedSensors s := by
      unfold changedSensors
      simp only [hst]
      rfl
    rw [← hst j]
    exact (q5 j (by rw [hch]; exact hj)).1
  · exact (exec_pldmSensorUpdate s).trans (congrArg _ (if_pos h))
  · exact ⟨_, (exec_pldmSensorUpdate s).trans (congrArg _ (if_neg (by simp [hp, hm]))), reportSensors_none hn⟩
  · obtain ⟨q1, q2, -, -, q5⟩ := reportSensors_some he
    exact ⟨_, (exec_pldmSensorUpdate s).trans (congrArg _ (if_neg (by simp [hp, hm]))), q1, q2, q5⟩

end Sys2Proof.Machine
end


section
/-! PROOFS. Units that are set aside, power stages, and the blocks of the Almanac. -/

namespace Sys2Proof.Machine

/-! ### Substitution records and pools -/

/-- A substitution record is reported to context 0. -/
theorem substRec_reported (k d r o l a b : Nat) (s : State) : reported s (substRec k d r o l a b s) 0x0E01 0 := by
  have h0 : Told poolFlds s (almMod 0x6 0xC (substBody k d r o l a b) s) := Told.rfl.almStage _
  have h1 : reported s (raise0 0x0E01 0xC (leNat (substBody k d r o l a b)) (almMod 0x6 0xC (substBody k d r o l a b) s)) 0x0E01 0 :=
    .since h0 (raiseC_reported 0x0E01 0xC 0 _ _)
  generalize hs1 : raise0 0x0E01 0xC (leNat (substBody k d r o l a b)) (almMod 0x6 0xC (substBody k d r o l a b) s) = s1 at h1
  have h2 : Noted poolFlds s1 (if o = 2 then retireEvent (substBody k d r o l a b) s1 else s1) := by
    split
    · exact ((Noted.rfl.rflag (.inr (by decide)) 0).count1 (f := .almanacRetireCount_count) (.inr (by decide)) 0).raise0 ..
    · exact .rfl
  unfold substRec
  dsimp only
  rw [hs1]
  split
  · exact h1.told (h2.almSeal 2).told
  · exact h1.told h2.told

/-- A record of a substitution on a state of the units, and the pools after it. -/
theorem recorded_spec (k d r o l a b : Nat) (s : State) : (refreshPools (substRec k d r o l a b s)).mem = s.mem ∧
    reported s (refreshPools (substRec k d r o l a b s)) 0x0E01 0 ∧ (refreshPools (substRec k d r o l a b s)).sp = s.sp := by
  have hn : Noted poolFlds (substRec k d r o l a b s) (refreshPools (substRec k d r o l a b s)) := Noted.rfl.refreshPools fun _ h => h
  exact ⟨hn.mem.trans (Noted.rfl.substRec (F := poolFlds) (fun _ h => h) ..).mem, (substRec_reported ..).told hn.told,
    (refreshPools_units _).1.trans (substRec_units ..).1⟩

/-! ### Units that are set aside (R336) -/

theorem setAsideTest_cluster {d p : Nat} {s : State} (h : sget 0 s.sp.clState (islKey d p) = 1) (ok : Bool) :
    leadsTo (.setAsideTest d p none ok) s (fun t => t.mem = s.mem ∧ reported s t 0x0E01 0 ∧
      ∀ j, sget 0 t.sp.clState j = if j = islKey d p then (if ok = true then 0 else 2) else sget 0 s.sp.clState j) := by
  have he : exec (.setAsideTest d p none ok) s = .next (refreshPools (substRec kCluster d (if ok then 8 else 6) (if ok then 3 else 2) noUnit p p
      (setClState d p (if ok then 0 else 2) s))) := by
    show execSetAsideTest d p none ok s = _
    unfold execSetAsideTest
    dsimp only
    rw [if_neg (by simp [h])]
    cases ok with
    | false => exact congrArg _ (if_neg (by decide))
    | true => exact congrArg _ (if_pos rfl)
  obtain ⟨h1, h2, h3⟩ := recorded_spec kCluster d (if ok then 8 else 6) (if ok then 3 else 2) noUnit p p (setClState d p (if ok then 0 else 2) s)
  refine ⟨_, he, h1, h2, fun j => ?_⟩
  rw [h3]
  exact sget_sset ..

theorem setAsideTest_core {d p c : Nat} {s : State} (hc : c < 68) (hb : clBusy s d p = false) (h : sget 0 s.sp.coreState (islKey d p * 68 + c) = 1) (ok : Bool) :
    leadsTo (.setAsideTest d p (some c) ok) s (fun t => t.mem = s.mem ∧ reported s t 0x0E01 0 ∧
      ∀ j, sget 0 t.sp.coreState j = if j = islKey d p * 68 + c then (if ok = true then 0 else 2) else sget 0 s.sp.coreState j) := by
  have he : exec (.setAsideTest d p (some c) ok) s = .next (refreshPools (substRec kCore d (if ok then 8 else 6) (if ok then 3 else 2) noUnit c c
      (setCoreState d p c (if ok then 0 else 2) s))) := by
    show execSetAsideTest d p (some c) ok s = _
    unfold execSetAsideTest
    dsimp only
    rw [if_neg (by simp [h, hb]; omega)]
    cases ok with
    | false => exact congrArg _ (if_neg (by decide))
    | true => exact congrArg _ (if_pos rfl)
  obtain ⟨h1, h2, h3⟩ := recorded_spec kCore d (if ok then 8 else 6) (if ok then 3 else 2) noUnit c c (setCoreState d p c (if ok then 0 else 2) s)
  refine ⟨_, he, h1, h2, fun j => ?_⟩
  rw [h3]
  exact sget_sset ..

/-! ### Readings and holds (R342, R347) -/

theorem pathDelayReading_spec {d p : Nat} (hd : d < 8) (hp : p < 2112) (x : Int) (s : State) : leadsTo (.pathDelayReading d p x) s (fun t => t.mem = s.mem ∧
    sget 0 t.sp.delta (islKey d p) = x - Config.delayMade (islKey d p) ∧ ∀ j, j ≠ islKey d p → sget 0 t.sp.delta j = sget 0 s.sp.delta j) := by
  have hsp := (refreshPools_units (delayReading (islKey d p) x s)).1
  refine ⟨_, congrArg Host.Outcome.next (if_pos (by simp [hd, hp])),
    (Noted.rfl.refreshPools (F := poolFlds) (s := delayReading (islKey d p) x s) fun _ h => h).mem, ?_, fun j hj => ?_⟩
  · rw [hsp]
    exact sget_sset_same ..
  · rw [hsp]
    exact sget_sset_ne _ _ _ hj

theorem replanHoldEnd_spec {d p : Nat} {s : State} (h : islKey d p ∈ s.sp.held) : leadsTo (.replanHoldEnd d p) s (fun t => t.regs = s.regs ∧ t.mem = s.mem ∧
    t.sp.held = s.sp.held.erase (islKey d p) ∧ (islOf t (islKey d p)).mhz = Min.min (islOf s (islKey d p)).mhz (ceiling s (islKey d p)) ∧
    ∀ j, j ≠ islKey d p → islOf t j = islOf s j) := by
  refine ⟨_, congrArg Host.Outcome.next (if_neg (by simpa using h)), rfl, rfl, rfl, ?_, fun j hj => sget_sset_ne _ _ _ hj⟩
  exact (congrArg Isl.mhz (sget_sset_same ..)).trans rfl

/-! ### Power stages (R335, R340) -/

theorem powerStageFault_spec {rail n : Nat} {s : State} (hnew : rail * 64 + n ∉ s.sp.stagesOff) (hn : n < 64) :
    leadsTo (.powerStageFault rail n) s (fun t => t.mem = s.mem ∧
      t.sp.stagesOff = s.sp.stagesOff ++ [rail * 64 + n] ∧ reported s t 0x0E01 0 ∧ t.alm.sealing.isSome = true ∧
      (2 < failedStages t rail → rget t .cohortHealth_hard 0 = 1 ∧ rget t .cohortHealth_score 0 = 0)) := by
  obtain ⟨t, ht, r, -, -, l, fl, hl, -⟩ := powerStageFaultsAreSealed s rail n hnew hn
  have he : exec (.powerStageFault rail n) s = .next (
      let s1 := substDone kStage 0xFF 7 2 rail n n { s with sp := { s.sp with stagesOff := s.sp.stagesOff ++ [rail * 64 + n] } }
      if decide (2 < failedStages s1 rail) then setHard s1 else s1) := by
    show execPowerStageFault rail n s = _
    unfold execPowerStageFault
    rw [if_neg (by simp [hnew, hn])]
  refine ⟨t, ht, ?_⟩
  have hn' : Noted poolFlds (substRec kStage 0xFF 7 2 rail n n { s with sp := { s.sp with stagesOff := s.sp.stagesOff ++ [rail * 64 + n] } })
      (substDone kStage 0xFF 7 2 rail n n { s with sp := { s.sp with stagesOff := s.sp.stagesOff ++ [rail * 64 + n] } }) :=
    (Noted.rfl.count1 (.inr (by decide)) 0).refreshPools fun _ h => h
  have hrep := (substRec_reported kStage 0xFF 7 2 rail n n { s with sp := { s.sp with stagesOff := s.sp.stagesOff ++ [rail * 64 + n] } }).told hn'.told
  have hmem := (Noted.rfl.substDone (F := poolFlds) (fun _ h => h) kStage 0xFF 7 2 rail n n
    (s := { s with sp := { s.sp with stagesOff := s.sp.stagesOff ++ [rail * 64 + n] } })).mem
  have hsp := (substDone_units kStage 0xFF 7 2 rail n n { s with sp := { s.sp with stagesOff := s.sp.stagesOff ++ [rail * 64 + n] } }).1
  dsimp only at he
  generalize substDone kStage 0xFF 7 2 rail n n { s with sp := { s.sp with stagesOff := s.sp.stagesOff ++ [rail * 64 + n] } } = u at he hrep hmem hsp
  have htu := Host.Outcome.next.inj (ht.symm.trans he)
  have hu : t.mem = u.mem ∧ t.sp = u.sp ∧ t.io = u.io := by
    rw [htu]
    split
    · simp [setHard, rflag]
    · exact ⟨rfl, rfl, rfl⟩
  obtain ⟨u1, u2, u3⟩ := hu
  refine ⟨u1.trans hmem, by rw [u2, hsp], ?_, by rw [hl]; rfl, fun hf => ?_⟩
  · obtain ⟨l, hl, hev⟩ := hrep
    exact ⟨l, by rw [u3]; exact hl, hev⟩
  · have hf' : 2 < failedStages u rail := by
      unfold failedStages at hf ⊢
      rwa [u2] at hf
    rw [htu, if_pos (by simpa using hf')]
    exact ⟨(regAt_rset_other _ _ _ _ (by decide)).trans (regAt_rset_same _ _ (by decide)), regAt_rset_same _ _ (by decide)⟩

/-! ### Blocks (R348, R350, R353) -/

theorem blockPart_all : ∀ (l : List AlmRec) (n : Nat), recsBytes l ≤ n → blockPart l n = (l, [])
  | [], _, _ => rfl
  | r :: l, n, h => by
    have h' : recBytes r + recsBytes l ≤ n := by simpa [recsBytes] using h
    rw [blockPart, if_pos (by omega), blockPart_all l _ (by omega)]

/-- The open block starts to be sealed where none is being sealed and it fits. -/
theorem almSeal_start {s : State} (fl : Nat) (h : s.alm.sealing = none) (hr : recsBytes s.alm.staged ≤ 61952) :
    almSeal fl s = startSealing s.alm.staged [] fl s := by
  unfold almSeal
  rw [h, if_neg (by decide), blockPart_all _ _ hr]
  rfl

theorem almSeal_next {s : State} (fl : Nat) (h : s.alm.sealing.isSome = true) : almSeal fl s = { s with alm := { s.alm with sealNext := true } } := by
  unfold almSeal
  rw [if_pos h]

theorem almSeal_blocks (fl : Nat) (s : State) : (almSeal fl s).alm.blocks = s.alm.blocks ∧ (almSeal fl s).alm.skipped = s.alm.skipped ∧
    (almSeal fl s).regs = s.regs := by
  unfold almSeal startSealing
  split
  · exact ⟨rfl, rfl, rfl⟩
  · dsimp only
    split <;> exact ⟨rfl, rfl, rfl⟩

/-- A flush by PF 0: with something staged, the open block is sealed. -/
theorem exec_almanacCtl {s : State} (h : notServed s 0 = false) (v : BitVec 32) : exec (.almanacCtl 0 v) s =
    .next (if v.getLsbD 0 = true ∧ s.alm.staged ≠ [] then almSeal 2 (dropLatch 0 s) else dropLatch 0 s) := by
  have h' : notServed (dropLatch 0 s) 0 = false := h
  show execAlmanacCtl 0 v s = _
  unfold execAlmanacCtl
  dsimp only
  rw [h', dropLatch_alm]
  simp only [Bool.not_false, Bool.true_and, Bool.and_eq_true, Bool.not_eq_true', List.isEmpty_eq_false_iff, BitVec.getLsbD]

/-- One more position used: of the Almanac only whether its end was told. -/
theorem usePosition_spec (ok : Bool) (s : State) : rget (usePosition ok s) .almanacUsed_blocks 0 = (rget s .almanacUsed_blocks 0 + 1) % 2 ^ 32 ∧
    rget (usePosition ok s) .almanacSeq_seq 0 = rget s .almanacSeq_seq 0 ∧
    ∃ f, (usePosition ok s).alm = { s.alm with fullRaised := f } := by
  unfold usePosition
  dsimp only
  split
  · simp only [rget_eq]
    refine ⟨?_, ?_, true, by simp⟩
    · rw [regAt_raise0 _ _ _ _ _ (by decide), regAt_rset_other _ _ _ _ (by decide)]
      exact regAt_rset_same _ _ (by decide)
    · rw [regAt_raise0 _ _ _ _ _ (by decide), regAt_rset_other _ _ _ _ (by decide)]
      exact regAt_rset_other _ _ _ _ (by decide)
  · exact ⟨rget_rset_same _ _ _ _ (by decide), regAt_rset_other _ _ _ _ (by decide), s.alm.fullRaised, by simp⟩

theorem sget_eq_getD {α : Type} (d : α) (k : Nat) : ∀ m : SMap α, sget d m k = (sget? m k).getD d
  | [] => rfl
  | (j, v) :: m => by
    unfold sget sget?
    split
    · rfl
    · exact sget_eq_getD d k m

theorem sget_sput {α : Type} (d v : α) (m : SMap α) (k j : Nat) : sget d (sput m k v) j = if j = k then v else sget d m j := by
  rw [sget_eq_getD, sget_eq_getD, sget?_sput]
  split <;> rfl

/-- The flags of a block that is programmed. -/
def blockFlags (tail skipped : Bool) (flags : Nat) : Nat := pack [(0, 1, b2n tail), (1, 1, flags / 2), (2, 1, b2n skipped)]

/-- A block as it is programmed in position `n`. -/
def blockOfRecords (n : Nat) (l : List AlmRec) (tail : Bool) (flags : Nat) (s : State) : List Byte :=
  blockSigned (blockHead (blockFlags tail s.alm.skipped flags) n (sha256 (blockBytes s (n - 1))) l)

/-- The Almanac with a block more. -/
def Alm.programmed (n : Nat) (b : List Byte) (l : List AlmRec) (a : Alm) : Alm :=
  sealedFacts l { a with blocks := sput a.blocks n b, skipped := false, sealing := none, saves := sput a.saves n (a.taking.getD AlmSnap.made), taking := none }

theorem rset_withAlm (f : Fld) (i v : Nat) (a : Alm) (s : State) : rset f i v { s with alm := a } = { rset f i v s with alm := a } := by
  unfold rset; split <;> rfl

theorem programBlock_eq (n : Nat) (l : List AlmRec) (tail : Bool) (flags : Nat) (s : State) : programBlock n l tail flags s =
    if s.alm.sealNext = true then
      almSeal 2 { rset .almanacSeq_seq 0 n s with alm := { s.alm.programmed n (blockOfRecords n l tail flags s) l with sealNext := false } }
    else { rset .almanacSeq_seq 0 n s with alm := s.alm.programmed n (blockOfRecords n l tail flags s) l } := by
  unfold programBlock
  dsimp only
  rw [rset_withAlm]
  rfl

theorem programBlock_spec (n : Nat) (l : List AlmRec) (tail : Bool) (flags : Nat) (s : State) :
    (programBlock n l tail flags s).alm.blocks = sput s.alm.blocks n (blockOfRecords n l tail flags s) ∧
    (programBlock n l tail flags s).alm.skipped = false ∧ (s.alm.sealNext = false → (programBlock n l tail flags s).alm.sealing = none) ∧
    (programBlock n l tail flags s).regs = (rset .almanacSeq_seq 0 n s).regs := by
  rw [programBlock_eq]
  split
  · next hn =>
    obtain ⟨h1, h2, h3⟩ := almSeal_blocks 2
      { rset .almanacSeq_seq 0 n s with alm := { s.alm.programmed n (blockOfRecords n l tail flags s) l with sealNext := false } }
    exact ⟨h1, h2, fun hf => absurd hn (by rw [hf]; decide), h3⟩
  · exact ⟨rfl, rfl, fun _ => rfl, rfl⟩

/-- The end of a seal, by what is being sealed and the positions that are left. -/
theorem exec_blockSealed_some {s : State} {l : List AlmRec} {fl : Nat} (h : s.alm.sealing = some (l, fl)) (ok : Bool) : exec (.blockSealed ok) s =
    .next (if 4096 ≤ rget s .almanacUsed_blocks 0 then { s with alm := { s.alm with sealing := none, sealNext := false, taking := none } }
      else if ok = false then rflag .almanacStatus_skipSeen 0 { usePosition ok s with alm := { (usePosition ok s).alm with skipped := true } }
      else programBlock (rget s .almanacSeq_seq 0 + 1) l (decide (3840 ≤ rget s .almanacUsed_blocks 0)) fl (usePosition ok s)) := by
  show execBlockSealed ok s = _
  unfold execBlockSealed blockDone
  rw [h]
  cases ok <;> rfl

theorem blockSealed_skipped {s : State} {l : List AlmRec} {fl : Nat} (h : s.alm.sealing = some (l, fl)) (hu : rget s .almanacUsed_blocks 0 < 4096) :
    leadsTo (.blockSealed false) s (fun t => rget t .almanacUsed_blocks 0 = rget s .almanacUsed_blocks 0 + 1 ∧
      rget t .almanacSeq_seq 0 = rget s .almanacSeq_seq 0 ∧ rget t .almanacStatus_skipSeen 0 = 1 ∧ t.alm.skipped = true ∧ t.alm.sealing = s.alm.sealing ∧
      t.alm.blocks = s.alm.blocks) := by
  obtain ⟨q1, q2, f, q3⟩ := usePosition_spec false s
  refine ⟨_, (exec_blockSealed_some h false).trans (congrArg _ ((if_neg (by omega)).trans (if_pos rfl))), ?_, ?_, regAt_rset_same _ _ (by decide), ?_, ?_, ?_⟩
  · exact (regAt_rset_other _ _ _ _ (by decide)).trans (q1.trans (Nat.mod_eq_of_lt (by omega)))
  · exact (regAt_rset_other _ _ _ _ (by decide)).trans q2
  · rw [rflag_alm]
  · rw [rflag_alm]
    dsimp only
    rw [q3]
  · rw [rflag_alm]
    dsimp only
    rw [q3]

theorem blockSealed_programmed {s : State} {l : List AlmRec} {fl : Nat} (h : s.alm.sealing = some (l, fl)) (hu : rget s .almanacUsed_blocks 0 < 4096)
    (hn : rget s .almanacSeq_seq 0 + 1 < 2 ^ 64) : leadsTo (.blockSealed true) s (fun t =>
      rget t .almanacUsed_blocks 0 = rget s .almanacUsed_blocks 0 + 1 ∧ rget t .almanacSeq_seq 0 = rget s .almanacSeq_seq 0 + 1 ∧
      blockBytes t (rget s .almanacSeq_seq 0 + 1) = blockSigned (blockHead (blockFlags (decide (3840 ≤ rget s .almanacUsed_blocks 0)) s.alm.skipped fl)
        (rget s .almanacSeq_seq 0 + 1) (sha256 (blockBytes s (rget s .almanacSeq_seq 0))) l) ∧
      (∀ j, j ≠ rget s .almanacSeq_seq 0 + 1 → blockBytes t j = blockBytes s j) ∧ t.alm.skipped = false ∧
      (s.alm.sealNext = false → t.alm.sealing = none)) := by
  obtain ⟨q1, q2, f, q3⟩ := usePosition_spec true s
  have hb : ∀ n, blockBytes (usePosition true s) n = blockBytes s n := fun n => by
    unfold blockBytes
    rw [q3]
  obtain ⟨p1, p2, p3, p4⟩ := programBlock_spec (rget s .almanacSeq_seq 0 + 1) l (decide (3840 ≤ rget s .almanacUsed_blocks 0)) fl (usePosition true s)
  refine ⟨_, (exec_blockSealed_some h true).trans (congrArg _ ((if_neg (by omega)).trans (if_neg (by decide)))), ?_, ?_, ?_, fun j hj => ?_, p2, fun hs => ?_⟩
  · rw [rget_eq, p4]
    exact (regAt_rset_other _ _ _ _ (by decide)).trans (q1.trans (Nat.mod_eq_of_lt (by omega)))
  · rw [rget_eq, p4]
    exact (regAt_rset_same _ _ (by decide)).trans (Nat.mod_eq_of_lt hn)
  · rw [blockBytes, if_neg (by omega), p1, sget_sput, if_pos rfl, blockOfRecords, Nat.add_sub_cancel, hb, q3]
  · unfold blockBytes
    rw [p1, sget_sput, if_neg hj, q3]
  · exact p3 (by rw [q3]; exact hs)

/-! ### The hourly record (R352) -/

/-- The body of a POWER record. -/
def powerBody (bands : List Nat) : List Byte :=
  (List.range 9).flatMap (fun i => leBytes 4 (satTo 32 (bands.getD i 0))) ++ leBytes 8 (satTo 64 (bands.getD 9 0))

theorem powerRecord_spec {bands : List Nat} {s : State} (hh : (s.alm.hours + 1) % 168 ≠ 0) (ht : rget s .almanacStatus_tail 0 ≠ 1)
    (hr : recsBytes s.alm.staged + 80 ≤ 61952) : leadsTo (.powerRecord bands) s (fun t => t.regs = s.regs ∧ t.mem = s.mem ∧
      t.alm.hours = s.alm.hours + 1 ∧ ∃ r, t.alm.staged = s.alm.staged ++ [r] ∧ r.typ = 2 ∧ r.body = powerBody bands) := by
  have hlen : (powerBody bands).length = 44 := by simp [powerBody, List.length_flatMap]
  generalize hs1 : ({ s with alm := { s.alm with hours := s.alm.hours + 1 } } : State) = s1
  have hst : s1.alm.staged = s.alm.staged := by rw [← hs1]
  have hta : rget s1 .almanacStatus_tail 0 ≠ 1 := by rw [← hs1]; exact ht
  have hm : almMod 0x2 0xC (powerBody bands) s1 = { s1 with alm := { s1.alm with staged := s1.alm.staged ++
      [⟨0x2, 0xC, lcountOf s1 0xC, rget s1 .stepCtxCommitted_step (topCtx s1), commitSeq s1 (topCtx s1), powerBody bands⟩] } } := by
    unfold almMod almStage
    rw [if_neg (by simp [hta]), if_neg (by rw [hst, recBytes, hlen]; omega)]
  have he : exec (.powerRecord bands) s = .next (almMod 0x2 0xC (powerBody bands) s1) := by
    show execPowerRecord bands s = _
    unfold execPowerRecord
    dsimp only
    rw [hs1, show (List.range 9).flatMap (fun i => leBytes 4 (satTo 32 (bands.getD i 0))) ++ leBytes 8 (satTo 64 (bands.getD 9 0)) = powerBody bands from rfl,
      if_neg (by rw [hm, ← hs1]; exact hh)]
  refine ⟨_, he.trans (congrArg _ hm), ?_⟩
  rw [← hs1]
  exact ⟨rfl, rfl, rfl, _, rfl, rfl, rfl⟩

/-- Settles O49: the units are set by the test itself, and a block is programmed on the state that its position leaves. -/
theorem sparesAndBlocks : Obligations.SparesAndBlocks := by
  unfold Obligations.SparesAndBlocks
  intro s
  refine ⟨fun d p => ⟨fun h ok => ?_, fun h ok => setAsideTest_cluster h ok, fun c hc hb h ok => setAsideTest_core hc hb h ok, fun c h ok => ?_,
      fun x hd hp => pathDelayReading_spec hd hp x s, fun x h => ?_, fun h => ?_, fun h => replanHoldEnd_spec h⟩,
    fun rail n => ⟨fun h => ?_, fun hn h => powerStageFault_spec hn h⟩,
    fun v hs => ⟨fun h => ?_, fun hv hl hr hn => ?_, fun hv hl hn => ?_⟩, fun h ok => ?_,
    fun l fl h => ⟨fun hu ok => ?_, fun hu => blockSealed_skipped h hu, fun hu hn => blockSealed_programmed h hu hn⟩,
    fun bands hh ht hr => powerRecord_spec hh ht hr⟩
  · exact congrArg Host.Outcome.next (if_pos h)
  · exact congrArg Host.Outcome.next (if_pos (by rcases h with h | h <;> simp [h]))
  · exact congrArg Host.Outcome.next (if_neg (by simp; omega))
  · exact congrArg Host.Outcome.next (if_pos (by simpa using h))
  · exact congrArg Host.Outcome.next (if_pos (by rcases h with h | h <;> simp [h]))
  · refine ⟨_, (exec_almanacCtl hs v).trans (congrArg _ (if_neg ?_)), rfl⟩
    rintro ⟨hv, hl⟩
    rcases h with h | h
    · rw [h] at hv; cases hv
    · exact hl h
  · refine ⟨_, (exec_almanacCtl hs v).trans (congrArg _ ((if_pos ⟨hv, hl⟩).trans (almSeal_start 2 hn hr))), rfl, rfl, rfl, rfl⟩
  · exact ⟨_, (exec_almanacCtl hs v).trans (congrArg _ ((if_pos ⟨hv, hl⟩).trans (almSeal_next 2 hn))), rfl, rfl, rfl⟩
  · show execBlockSealed ok s = _
    unfold execBlockSealed blockDone
    rw [h]
  · exact ⟨_, (exec_blockSealed_some h ok).trans (congrArg _ (if_pos hu)), rfl, rfl, rfl⟩

end Sys2Proof.Machine
end


section
/-! PROOFS. The patrol of memory and the migration onto the leap channel. -/

namespace Sys2Proof.Machine

/-! ### A migration trigger (R175) -/

/-- The leap channel of a die is idle. -/
def leapIdle (s : State) (d : Nat) : Prop := rget s .cdieMemStatus_migrating d = 15 ∧ rget s .cdieMemStatus_leapTarget d = 15

theorem migTrigger_idle {s : State} {d : Nat} (h : leapIdle s d) (ch : Nat) : migTrigger d ch s =
    raise0 0x0702 (0x10 + d) (pack [(0, 8, d), (8, 8, ch), (16, 8, physChan s d ch)])
      (rset .cdieMemCopyPtr_line d 0 (rset .cdieMemStatus_migrating d ch { s with mem := { s.mem with migOld := sset 0 s.mem.migOld d (physChan s d ch) } })) := by
  obtain ⟨h1, h2⟩ := h
  unfold migTrigger
  rw [h1, h2]
  rfl

theorem migTrigger_busy {s : State} {d : Nat} (h : ¬ leapIdle s d) (ch : Nat) :
    migTrigger d ch s = raise0 0x0704 (0x10 + d) (pack [(0, 8, d), (8, 8, ch)]) s := by
  unfold migTrigger
  exact if_neg (by simpa [leapIdle] using h)

/-- The fields of a migration that begins. -/
def copyFlds : List Fld := [.cdieMemCopyPtr_line, .cdieMemStatus_migrating]

/-- A trigger leaves the stored bytes and the bad lines. -/
theorem migTrigger_kept (d ch : Nat) (s : State) : Told copyFlds s (migTrigger d ch s) ∧ (migTrigger d ch s).mem.bytes = s.mem.bytes ∧
    (migTrigger d ch s).mem.bad = s.mem.bad := by
  by_cases h : leapIdle s d
  · rw [migTrigger_idle h]
    refine ⟨(((Told.rfl.withMem _).rset (.inr (by decide)) ..).rset (.inr (by decide)) ..).raise0 .., ?_, ?_⟩ <;> simp
  · rw [migTrigger_busy h]
    exact ⟨Told.rfl.raise0 .., by simp, by simp⟩

/-- Where the leap channel is idle the trigger starts a migration. -/
theorem migTrigger_starts {s : State} {d ch : Nat} (hd : d < 8) (hch : ch < 16) (h : leapIdle s d) :
    rget (migTrigger d ch s) .cdieMemStatus_migrating d = ch ∧ rget (migTrigger d ch s) .cdieMemCopyPtr_line d = 0 ∧
    reported s (migTrigger d ch s) 0x0702 0 := by
  rw [migTrigger_idle h]
  refine ⟨?_, ?_, .since (F := copyFlds) (((Told.rfl.withMem _).rset (.inr (by decide)) ..).rset (.inr (by decide)) ..) (raiseC_reported 0x0702 _ 0 _ _)⟩
  · rw [rget_eq, regAt_raise0 _ _ _ _ _ (by decide), regAt_rset_other _ _ _ _ (by decide)]
    exact (regAt_rset_same _ _ hd).trans (Nat.mod_eq_of_lt hch)
  · rw [rget_eq, regAt_raise0 _ _ _ _ _ (by decide)]
    exact (regAt_rset_same _ _ hd).trans (Nat.zero_mod _)

theorem logicalOf_lt {s : State} {d p ch : Nat} (h : logicalOf s d p = some ch) : ch < 16 := by
  have := List.mem_of_find?_eq_some h
  have hc : chanCount s d ≤ 13 := by unfold chanCount; split <;> decide
  have := List.mem_range.1 this
  omega

theorem trigPhys_kept (d p : Nat) (s : State) : Told copyFlds s (trigPhys d p s) ∧ (trigPhys d p s).mem.bytes = s.mem.bytes ∧
    (trigPhys d p s).mem.bad = s.mem.bad := by
  unfold trigPhys
  cases logicalOf s d p with
  | none => exact ⟨.rfl, rfl, rfl⟩
  | some ch => exact migTrigger_kept d ch s

/-! ### A corrected line (R172) -/

/-- The state after a correction was counted, and the line written back where it serves. -/
def lineFixed (d p line : Nat) (b : List Byte) (s : State) : State :=
  (lineKey s d p line).elim (healthLog 0 1 (count1 .cdieMemCorrCount_count (d * 14 + p) s))
    (fun k => keyWrite k b (healthLog 0 1 (count1 .cdieMemCorrCount_count (d * 14 + p) s)))

theorem patrolFixed_eq (d p line : Nat) (b : List Byte) (s : State) : patrolFixed d p line b s =
    if rget s .cdieMemCorrCount_count (d * 14 + p) < 16 * rget s .cdieMemMigrateThresh_corr d ∧
      16 * rget s .cdieMemMigrateThresh_corr d ≤ rget s .cdieMemCorrCount_count (d * 14 + p) + 1 then trigPhys d p (lineFixed d p line b s)
    else lineFixed d p line b s := by
  unfold patrolFixed
  simp only [Bool.and_eq_true, decide_eq_true_eq]
  rfl

/-- What a correction leaves: all but its count, the channels as they were, and the line in its place. -/
theorem lineFixed_spec (d p line : Nat) (b : List Byte) (s : State) : Told [.cdieMemCorrCount_count] s (lineFixed d p line b s) ∧
    (lineFixed d p line b s).mem.chanMap = s.mem.chanMap ∧ (lineFixed d p line b s).sp.dieTrim = s.sp.dieTrim ∧
    (lineFixed d p line b s).regs = (count1 .cdieMemCorrCount_count (d * 14 + p) s).regs ∧
    ∀ k, lineKey s d p line = some k → sget 0 s.mem.bad (k / 64) = 0 → storedAt s (lineFixed d p line b s) k b := by
  have h1 : Told [.cdieMemCorrCount_count] s (healthLog 0 1 (count1 .cdieMemCorrCount_count (d * 14 + p) s)) :=
    (Told.rfl.count1 (.inr (by decide)) _).withSp _
  have hm : (healthLog 0 1 (count1 .cdieMemCorrCount_count (d * 14 + p) s)).mem = s.mem := count1_mem ..
  have hsp : (healthLog 0 1 (count1 .cdieMemCorrCount_count (d * 14 + p) s)).sp.dieTrim = s.sp.dieTrim :=
    (show (count1 .cdieMemCorrCount_count (d * 14 + p) s).sp.dieTrim = _ by rw [count1_sp])
  have hr : (healthLog 0 1 (count1 .cdieMemCorrCount_count (d * 14 + p) s)).regs = (count1 .cdieMemCorrCount_count (d * 14 + p) s).regs := rfl
  unfold lineFixed
  generalize healthLog 0 1 (count1 .cdieMemCorrCount_count (d * 14 + p) s) = u at h1 hm hsp hr
  cases lineKey s d p line with
  | none => exact ⟨h1, by rw [Option.elim_none, hm], hsp, hr, nofun⟩
  | some k =>
    have hk : (keyWrite k b u).mem.chanMap = u.mem.chanMap ∧ (keyWrite k b u).sp = u.sp ∧ (keyWrite k b u).regs = u.regs := by
      unfold keyWrite
      split
      · exact ⟨rfl, rfl, rfl⟩
      · split <;> exact ⟨rfl, rfl, rfl⟩
    obtain ⟨k1, k2, k3⟩ := hk
    refine ⟨h1.keyWrite .., k1.trans (by rw [hm]), (congrArg Spares.dieTrim k2).trans hsp, k3.trans hr, fun j hj hb => ?_⟩
    cases hj
    rw [Option.elim_some, keyWrite_of_good _ (by rw [hm]; exact hb)]
    refine ⟨sgetN_ssetN .., fun j hj => (sget_ssetN_out _ _ _ hj).trans (by rw [hm])⟩

theorem logicalOf_congr {s t : State} (h1 : t.mem.chanMap = s.mem.chanMap) (h2 : t.sp.dieTrim = s.sp.dieTrim) (d p : Nat) :
    logicalOf t d p = logicalOf s d p := by
  unfold logicalOf chanCount physChan
  rw [h1, h2]

theorem patrolFixed_spec {d p : Nat} (hd : d < 8) (hp : p < 14) (line : Nat) (b : List Byte) (s : State) :
    (rget s .cdieMemCorrCount_count (d * 14 + p) < 2 ^ 32 - 1 → rget (patrolFixed d p line b s) .cdieMemCorrCount_count (d * 14 + p) =
      rget s .cdieMemCorrCount_count (d * 14 + p) + 1) ∧
    (∀ k, lineKey s d p line = some k → sget 0 s.mem.bad (k / 64) = 0 → storedAt s (patrolFixed d p line b s) k b) ∧
    (∀ ch, rget s .cdieMemCorrCount_count (d * 14 + p) < 16 * rget s .cdieMemMigrateThresh_corr d →
      16 * rget s .cdieMemMigrateThresh_corr d ≤ rget s .cdieMemCorrCount_count (d * 14 + p) + 1 → logicalOf s d p = some ch → leapIdle s d →
      rget (patrolFixed d p line b s) .cdieMemStatus_migrating d = ch ∧ reported s (patrolFixed d p line b s) 0x0702 0) := by
  obtain ⟨f1, f2, f3, f4, f5⟩ := lineFixed_spec d p line b s
  have hidx : d * 14 + p < fldCount .cdieMemCorrCount_count := by
    show d * 14 + p < 112
    omega
  have hcount : rget s .cdieMemCorrCount_count (d * 14 + p) < 2 ^ 32 - 1 →
      rget (lineFixed d p line b s) .cdieMemCorrCount_count (d * 14 + p) = rget s .cdieMemCorrCount_count (d * 14 + p) + 1 := fun hn => by
    rw [rget_eq, f4]
    exact regAt_count_same rfl hidx (show rget s .cdieMemCorrCount_count (d * 14 + p) + 1 ≤ 2 ^ 32 - 1 by omega)
  rw [patrolFixed_eq]
  generalize lineFixed d p line b s = u at f1 f2 f3 f5 hcount
  obtain ⟨t1, t2, t3⟩ := trigPhys_kept d p u
  refine ⟨fun hn => ?_, fun k hk hb => ?_, fun ch h1 h2 hch hi => ?_⟩
  · split
    · exact (t1.regs _ _ rfl (by decide)).trans (hcount hn)
    · exact hcount hn
  · obtain ⟨g1, g2⟩ := f5 k hk hb
    split
    · exact ⟨by rw [t2]; exact g1, fun j hj => by rw [t2]; exact g2 j hj⟩
    · exact ⟨g1, g2⟩
  · rw [if_pos ⟨h1, h2⟩, trigPhys, logicalOf_congr f2 f3, hch, Option.elim_some]
    obtain ⟨m1, -, m3⟩ := migTrigger_starts (s := u) hd (logicalOf_lt hch)
      ⟨(f1.regs _ _ rfl (by decide)).trans hi.1, (f1.regs _ _ rfl (by decide)).trans hi.2⟩
    exact ⟨m1, .since f1 m3⟩

/-! ### A line that cannot be corrected (R173) -/

/-- An update-level fault of a pass that has ended smears nothing. -/
theorem updFault_kept {c : Nat} {s : State} (h : (stepOf s c).own.elim false (·.ended) = true) :
    Told updFlds s (updFault c 0 s) ∧ (updFault c 0 s).mem = s.mem := by
  obtain ⟨p, hp, he⟩ : ∃ p, (stepOf s c).own = some p ∧ p.ended = true := by
    cases ho : (stepOf s c).own with
    | none => rw [ho] at h; cases h
    | some p => rw [ho] at h; exact ⟨p, rfl, h⟩
  have hsm : smearPass (ownEnv s c p) p s = s := if_pos he
  unfold updFault
  split
  · exact ⟨.rfl, rfl⟩
  rw [hp]
  dsimp only
  rw [hsm]
  generalize hu : modStep c (fun x => { x with own := x.own.map Pass.restart, report := none, sealed := none, updFaults := (stepOf s c).updFaults + 1 }) s = u
  have hut : Told updFlds s u := by rw [← hu]; exact Told.rfl.modStep ..
  have hum : u.mem = s.mem := by rw [← hu]; rfl
  obtain ⟨h1, h2, -⟩ := toTwin_aside (F := updFlds) (by decide) c .again 0 0 0 [] 0 u
  generalize hv : replayEvent 2 c 0xFFFF (ownRoster s) (count1 .stepCtxReplays_mbLevel c (rset .stepCtxState_state c 2
    (redoUpdate c (toTwin c .again 0 0 0 [] 0 u)))) = v
  have hvt : Told updFlds s v := by
    rw [← hv]
    exact (((hut.trans h1).mapRecs ..).rset (.inr (by decide)) ..).count1 (.inr (by decide)) .. |>.replayEvent (by decide) ..
  have hvm : v.mem = s.mem := by
    rw [← hum, ← h2, ← hv]
    simp [replayEvent, redoUpdate]
  split
  · exact ⟨(hvt.withSp _).emit _, hvm⟩
  · exact ⟨hvt.withSp _, hvm⟩

theorem pendingBad_kept (k : Nat) (s : State) : Told updFlds s (pendingBad k s) ∧ (pendingBad k s).mem = s.mem := by
  unfold pendingBad
  refine List.foldlRecOn _ _ (motive := fun t => Told updFlds s t ∧ t.mem = s.mem) ⟨.rfl, rfl⟩ fun u hu c _ => ?_
  dsimp only
  split
  · exact hu
  split
  · next ho =>
    have he : (stepOf u c).own.elim false (·.ended) = true := by
      cases hp : (stepOf u c).own with
      | none => rw [hp] at ho; cases ho
      | some p => rw [hp] at ho; simpa using (Bool.and_eq_true_iff.1 ho).1
    obtain ⟨h1, h2⟩ := updFault_kept he
    exact ⟨hu.1.trans h1, h2.trans hu.2⟩
  · split
    · split
      · exact ⟨hu.1.emit _, hu.2⟩
      · exact hu
    · exact hu

/-- The state after the detection was reported and counted. -/
def lineTold (d p line : Nat) (s : State) : State :=
  let det := uncorrDetail 2 4 d p 0xFFFF 0xFF 7 (64 * line) 0xFFFF 0xFFFF (Config.tjNow s.free)
  rflag .cdieMemStatus_uncorrSeen d (count1 .cdieMemUncorrCount_count (d * 14 + p)
    (almDetection 0x0701 (0x10 + d) 0 det (raise0 0x0701 (0x10 + d) det (useFree s))))

theorem lineTold_spec {d p : Nat} (hd : d < 8) (hp : p < 14) (line : Nat) (s : State) : (lineTold d p line s).mem = s.mem ∧
    reported s (lineTold d p line s) 0x0701 0 ∧ rget (lineTold d p line s) .cdieMemStatus_uncorrSeen d = 1 ∧
    (rget s .cdieMemUncorrCount_count (d * 14 + p) < 2 ^ 32 - 1 →
      rget (lineTold d p line s) .cdieMemUncorrCount_count (d * 14 + p) = rget s .cdieMemUncorrCount_count (d * 14 + p) + 1) := by
  have hidx : d * 14 + p < fldCount .cdieMemUncorrCount_count := by
    show d * 14 + p < 112
    omega
  unfold lineTold
  dsimp only
  generalize uncorrDetail 2 4 d p 0xFFFF 0xFF 7 (64 * line) 0xFFFF 0xFFFF (Config.tjNow s.free) = det
  have hrep : reported s (raise0 0x0701 (0x10 + d) det (useFree s)) 0x0701 0 := .since (F := []) Told.rfl.useFree (raiseC_reported 0x0701 _ 0 _ _)
  have hreg : regAt (raise0 0x0701 (0x10 + d) det (useFree s)).regs .cdieMemUncorrCount_count (d * 14 + p) = rget s .cdieMemUncorrCount_count (d * 14 + p) :=
    regAt_raise0 _ _ _ _ _ rfl
  have hmem : (raise0 0x0701 (0x10 + d) det (useFree s)).mem = s.mem := raise0_mem ..
  generalize raise0 0x0701 (0x10 + d) det (useFree s) = u at hrep hreg hmem
  have ha : Noted [] u (almDetection 0x0701 (0x10 + d) 0 det u) := Noted.rfl.almStage _
  generalize almDetection 0x0701 (0x10 + d) 0 det u = v at ha
  have hc : Noted [.cdieMemStatus_uncorrSeen, .cdieMemUncorrCount_count] v
      (rflag .cdieMemStatus_uncorrSeen d (count1 .cdieMemUncorrCount_count (d * 14 + p) v)) :=
    (Noted.rfl.count1 (.inr (by decide)) _).rflag (.inr (by decide)) _
  refine ⟨hc.mem.trans (ha.mem.trans hmem), (hrep.told ha.told).told hc.told, regAt_rset_same _ _ hd, fun hn => ?_⟩
  have hv : regAt v.regs .cdieMemUncorrCount_count (d * 14 + p) = rget s .cdieMemUncorrCount_count (d * 14 + p) :=
    (ha.told.regs _ _ rfl (by decide)).trans hreg
  rw [rget_eq, regAt_rflag_other _ _ _ (by decide), ← hv]
  exact regAt_count_same rfl hidx (show regAt v.regs .cdieMemUncorrCount_count (d * 14 + p) + 1 ≤ 2 ^ 32 - 1 by omega)

theorem patrolBad_eq (d p line kind : Nat) (s : State) : patrolBad d p line kind s = trigPhys d p ((lineKey s d p line).elim (lineTold d p line s)
    (fun k => pendingBad k { lineTold d p line s with mem := { (lineTold d p line s).mem with bad := sset 0 (lineTold d p line s).mem.bad (k / 64) kind } })) := rfl

theorem patrolBad_spec {d p : Nat} (hd : d < 8) (hp : p < 14) (line kind : Nat) (s : State) : (patrolBad d p line kind s).mem.bytes = s.mem.bytes ∧
    reported s (patrolBad d p line kind s) 0x0701 0 ∧ rget (patrolBad d p line kind s) .cdieMemStatus_uncorrSeen d = 1 ∧
    (rget s .cdieMemUncorrCount_count (d * 14 + p) < 2 ^ 32 - 1 →
      rget (patrolBad d p line kind s) .cdieMemUncorrCount_count (d * 14 + p) = rget s .cdieMemUncorrCount_count (d * 14 + p) + 1) ∧
    ∀ k, lineKey s d p line = some k → sget 0 (patrolBad d p line kind s).mem.bad (k / 64) = kind := by
  obtain ⟨u1, u2, u3, u4⟩ := lineTold_spec hd hp line s
  rw [patrolBad_eq]
  generalize lineTold d p line s = u at u1 u2 u3 u4
  generalize hv : (lineKey s d p line).elim u (fun k => pendingBad k { u with mem := { u.mem with bad := sset 0 u.mem.bad (k / 64) kind } }) = v
  have hvs : Told updFlds u v ∧ v.mem.bytes = s.mem.bytes ∧ ∀ k, lineKey s d p line = some k → sget 0 v.mem.bad (k / 64) = kind := by
    rw [← hv]
    cases lineKey s d p line with
    | none => exact ⟨.rfl, by rw [Option.elim_none, u1], nofun⟩
    | some k =>
      obtain ⟨p1, p2⟩ := pendingBad_kept k { u with mem := { u.mem with bad := sset 0 u.mem.bad (k / 64) kind } }
      refine ⟨(Told.rfl.withMem _).trans p1, ?_, fun j hj => ?_⟩
      · rw [Option.elim_some, p2, ← u1]
      · cases hj
        rw [Option.elim_some, p2]
        exact sget_sset_same ..
  obtain ⟨v1, v2, v3⟩ := hvs
  obtain ⟨t1, t2, t3⟩ := trigPhys_kept d p v
  refine ⟨t2.trans v2, (u2.told v1).told t1, (t1.regs _ _ rfl (by decide)).trans ((v1.regs _ _ rfl (by decide)).trans u3), fun hn => ?_, fun k hk => ?_⟩
  · exact (t1.regs _ _ rfl (by decide)).trans ((v1.regs _ _ rfl (by decide)).trans (u4 hn))
  · rw [t3]
    exact v3 k hk

/-! ### The end of a migration (R176, R177, Table 7.5) -/

theorem mem_keys_sset {m : SMap Nat} {j k : Nat} (h : k ∈ m.map Prod.fst) : k ∈ (sset 0 m j 1).map Prod.fst := by
  obtain ⟨⟨k', v⟩, hx, rfl⟩ := List.mem_map.1 h
  show k' ∈ (sins j 1 (sdel m j)).map Prod.fst
  by_cases hj : k' = j
  · exact List.mem_map.2 ⟨(j, 1), (sins_mem ..).2 (.inl rfl), hj.symm⟩
  · refine List.mem_map.2 ⟨(k', v), (sins_mem ..).2 (.inr ?_), rfl⟩
    clear h
    induction m with
    | nil => cases hx
    | cons y m ih =>
      obtain ⟨y, w⟩ := y
      unfold sdel
      rcases List.mem_cons.1 hx with hx | hx
      · cases hx
        rw [if_neg hj]
        exact List.mem_cons_self
      · split
        · exact ih hx
        · exact List.mem_cons_of_mem _ (ih hx)

/-- The bad lines `g x` of a list are poison, and what was listed stays listed. -/
theorem foldl_poison (g : Nat → Nat) (l : List Nat) (m : SMap Nat) :
    (∀ k, (∃ x ∈ l, g x = k) ∨ sget 0 m k = 1 → sget 0 (l.foldl (fun m x => sset 0 m (g x) 1) m) k = 1) ∧
    ∀ k ∈ m.map Prod.fst, k ∈ (l.foldl (fun m x => sset 0 m (g x) 1) m).map Prod.fst := by
  induction l generalizing m with
  | nil => exact ⟨fun k h => h.elim (fun ⟨_, hx, _⟩ => nomatch hx) id, fun k h => h⟩
  | cons x l ih =>
    obtain ⟨h1, h2⟩ := ih (sset 0 m (g x) 1)
    refine ⟨fun k h => h1 k ?_, fun k h => h2 k (mem_keys_sset h)⟩
    rw [sget_sset]
    rcases h with ⟨y, hy, rfl⟩ | h
    · rcases List.mem_cons.1 hy with rfl | hy
      · exact .inr (if_pos rfl)
      · exact .inl ⟨y, hy, rfl⟩
    · by_cases hk : k = g x
      · exact .inr (if_pos hk)
      · exact .inr ((if_neg hk).trans h)

/-- The lines that a copy of a channel has not reached. -/
def uncopied (s : State) (d ch copied i : Nat) : Nat :=
  gddrKey d (((copied + i) * 64 / 4096 * chanCount s d + ch) * 4096 + (copied + i) * 64 % 4096) / 64

theorem poisonFrom_eq (d ch copied : Nat) (s : State) : poisonFrom d ch copied s = { s with
    mem := { s.mem with
      bad := (List.range (7656 * 2 ^ 20 / 64 - copied)).foldl (fun m i => sset 0 m (uncopied s d ch copied i) 1) s.mem.bad } } := (rfl)

theorem poisonFrom_spec (d ch copied : Nat) (s : State) : (∃ m, poisonFrom d ch copied s = { s with mem := { s.mem with bad := m } }) ∧
    (∀ k ∈ s.mem.bad.map Prod.fst, k ∈ (poisonFrom d ch copied s).mem.bad.map Prod.fst) ∧
    ∀ l, copied ≤ l → l < 7656 * 2 ^ 20 / 64 → sget 0 (poisonFrom d ch copied s).mem.bad (uncopied s d ch 0 l) = 1 := by
  rw [poisonFrom_eq]
  refine ⟨⟨_, rfl⟩, fun k hk => (foldl_poison ..).2 k hk, fun l h1 h2 => ?_⟩
  generalize 7656 * 2 ^ 20 / 64 = n at h2
  refine (foldl_poison ..).1 _ (.inl ⟨l - copied, List.mem_range.2 (by omega), ?_⟩)
  unfold uncopied
  rw [Nat.add_sub_cancel' h1, Nat.zero_add]

/-- The fields of the end of a migration. -/
def swapFlds : List Fld := .cdieMemStatus_migrated :: .cdieMemStatus_leapTarget :: .cdieMemStatus_migrating :: .cdieMemCopyPtr_line :: poolFlds

/-- The memory after the leap channel took over: poison where a bad line was. -/
def swapMem (d : Nat) (s : State) : Mem :=
  { s.mem with bad := (badLines s d (rget s .cdieMemStatus_migrating d)).foldl (fun m k => sset 0 m k 1) s.mem.bad,
               chanMap := sset (rget s .cdieMemStatus_migrating d) s.mem.chanMap (d * 13 + rget s .cdieMemStatus_migrating d) 13,
               migOld := sset 0 s.mem.migOld d 0 }

/-- The registers after the leap channel took over. -/
def swapRegs (d : Nat) (s : State) : State :=
  rflag .cdieMemStatus_migrated d (rset .cdieMemStatus_leapTarget d (rget s .cdieMemStatus_migrating d) (rset .cdieMemStatus_migrating d 15
    (rset .cdieMemCopyPtr_line d 125829120 { s with mem := swapMem d s })))

theorem migDone_eq (d : Nat) (s : State) : migDone d s = substDone kChannel d 11 2 (rget s .cdieMemStatus_migrating d) (sget 0 s.mem.migOld d) 13
    (raise0 0x0703 (0x10 + d) (pack [(0, 8, d), (8, 8, rget s .cdieMemStatus_migrating d), (16, 8, sget 0 s.mem.migOld d),
      (24, 8, satTo 8 (badLines s d (rget s .cdieMemStatus_migrating d)).length)]) (swapRegs d s)) := (rfl)

theorem migDone_spec {d ch : Nat} (hd : d < 8) (hch : ch < 13) {s : State} (h : rget s .cdieMemStatus_migrating d = ch) :
    (migDone d s).mem = swapMem d s ∧ rget (migDone d s) .cdieMemStatus_migrating d = 15 ∧ rget (migDone d s) .cdieMemStatus_leapTarget d = ch ∧
    physChan (migDone d s) d ch = 13 ∧ (∀ c, c < 13 → c ≠ ch → physChan (migDone d s) d c = physChan s d c) ∧ reported s (migDone d s) 0x0703 0 := by
  have hr : Told swapFlds s (swapRegs d s) :=
    ((((Told.rfl.withMem _).rset (.inr (by decide)) ..).rset (.inr (by decide)) ..).rset (.inr (by decide)) ..).rset (.inr (by decide)) ..
  have h15 : rget (swapRegs d s) .cdieMemStatus_migrating d = 15 := by
    rw [rget_eq, swapRegs, regAt_rflag_other _ _ _ (by decide), regAt_rset_other _ _ _ _ (by decide)]
    exact (regAt_rset_same _ _ hd).trans rfl
  have hto : rget (swapRegs d s) .cdieMemStatus_leapTarget d = ch := by
    rw [rget_eq, swapRegs, regAt_rflag_other _ _ _ (by decide), h]
    exact (regAt_rset_same _ _ hd).trans (Nat.mod_eq_of_lt (Nat.lt_trans hch (by decide)))
  have hm : (swapRegs d s).mem = swapMem d s := by simp [swapRegs]
  rw [migDone_eq]
  generalize pack _ = det
  generalize swapRegs d s = u at hr h15 hto hm
  have hmem : (substDone kChannel d 11 2 (rget s .cdieMemStatus_migrating d) (sget 0 s.mem.migOld d) 13 (raise0 0x0703 (0x10 + d) det u)).mem = swapMem d s :=
    (((Noted.rfl (s := u)).raise0 ..).substDone (F := poolFlds) (fun _ h => h) ..).mem.trans hm
  have hn : Noted poolFlds (raise0 0x0703 (0x10 + d) det u)
      (substDone kChannel d 11 2 (rget s .cdieMemStatus_migrating d) (sget 0 s.mem.migOld d) 13 (raise0 0x0703 (0x10 + d) det u)) :=
    Noted.rfl.substDone (fun _ h => h) ..
  have hf : ∀ f, f.tally = false → f ∉ poolFlds → rget (substDone kChannel d 11 2 (rget s .cdieMemStatus_migrating d) (sget 0 s.mem.migOld d) 13
      (raise0 0x0703 (0x10 + d) det u)) f d = rget u f d := fun f h1 h2 => (hn.told.regs f d h1 h2).trans (regAt_raise0 _ _ _ _ _ h1)
  refine ⟨hmem, (hf _ rfl (by decide)).trans h15, (hf _ rfl (by decide)).trans hto, ?_, fun c hc hne => ?_,
    .since hr ((raiseC_reported 0x0703 _ 0 _ _).told hn.told)⟩
  · rw [physChan, hmem]
    show sget ch (sset (rget s .cdieMemStatus_migrating d) s.mem.chanMap (d * 13 + rget s .cdieMemStatus_migrating d) 13) (d * 13 + ch) = 13
    rw [h, sget_sset_same]
  · rw [physChan, hmem]
    show sget c (sset (rget s .cdieMemStatus_migrating d) s.mem.chanMap (d * 13 + rget s .cdieMemStatus_migrating d) 13) (d * 13 + c) = _
    rw [h]
    exact sget_sset_other _ _ _ _ (by omega)

/-- A line is poison after the switch where it was poison, or bad in the channel. -/
theorem swapMem_bad {s : State} {d ch k : Nat} (h : rget s .cdieMemStatus_migrating d = ch) (hk : k ∈ badLines s d ch ∨ sget 0 s.mem.bad k = 1) :
    sget 0 (swapMem d s).bad k = 1 := by
  subst h
  exact (foldl_poison id ..).1 k (hk.imp (fun h => ⟨k, h, rfl⟩) id)

/-! ### The commands -/

theorem exec_patrolRead {d p line : Nat} {data check : List Byte} (hd : d < 8) (hp : p < 14) (h1 : data.length = 64) (h2 : check.length = 4) (s : State) :
    exec (.patrolRead d p line data check) s = .next (match eccDecode line data check with
      | .clean => s
      | .poison => s
      | .corrected b => patrolFixed d p line b s
      | .addrErr => patrolBad d p line 3 s
      | .uncorr => patrolBad d p line 2 s) := by
  show execPatrolRead d p line data check s = _
  unfold execPatrolRead
  exact congrArg Host.Outcome.next (if_neg (by simp only [Bool.or_eq_true, decide_eq_true_eq, not_or]; omega))

theorem exec_patrolRead_absent {d p line : Nat} {data check : List Byte} (h : 8 ≤ d ∨ 14 ≤ p) (s : State) :
    exec (.patrolRead d p line data check) s = .next s := by
  show execPatrolRead d p line data check s = _
  unfold execPatrolRead
  rw [if_pos (by simp only [Bool.or_eq_true, decide_eq_true_eq]; exact .inl (.inl h))]

theorem exec_memMigrate (d : Nat) (v : BitVec 32) (s : State) : exec (.cdieMemMigrate 0 d v) s =
    .next (if notServed s 0 || 8 ≤ d || !v.getLsbD 0 || chanCount s d ≤ bits v.toNat 1 4 then dropLatch 0 s
      else migTrigger d (bits v.toNat 1 4) (dropLatch 0 s)) := (rfl)

theorem exec_migrationDone {d : Nat} (hd : d < 8) (s : State) : exec (.memMigrationDone d) s =
    .next (if rget s .cdieMemStatus_migrating d = 15 ∨ passOn s d = true then s else migDone d s) := by
  show execMemMigrationDone d s = _
  unfold execMemMigrationDone
  simp only [Bool.or_eq_true, decide_eq_true_eq, Nat.not_le.2 hd, false_or]

theorem exec_channelStops {d : Nat} (hd : d < 8) (copied : Nat) (s : State) : exec (.channelStopsAnswering d copied) s =
    .next (if rget s .cdieMemStatus_migrating d = 15 then s else migDone d (poisonFrom d (rget s .cdieMemStatus_migrating d) copied s)) := by
  show execChannelStopsAnswering d copied s = _
  unfold execChannelStopsAnswering
  simp only [Bool.or_eq_true, decide_eq_true_eq, Nat.not_le.2 hd, false_or]

/-- Settles O47. The patrol, the trigger and the end of a migration each by the lemma of its state. -/
theorem patrolAndMigration : Obligations.PatrolAndMigration := by
  unfold Obligations.PatrolAndMigration
  intro s
  refine ⟨fun d p line data check => ⟨fun h => exec_patrolRead_absent h s, fun hd hp h1 h2 => ?_⟩, fun d v hs hd => ?_,
    fun d copied ch hd hch => ⟨fun h => ?_, fun hlt => ?_⟩⟩
  · have he := exec_patrolRead (line := line) hd hp h1 h2 s
    refine ⟨fun h => ?_, fun b h => ⟨_, he, ?_⟩, fun e hmem h => ?_⟩
    · rcases h with h | h <;> rw [h] at he <;> exact he
    · rw [h]
      obtain ⟨f1, f2, f3⟩ := patrolFixed_spec hd hp line b s
      exact ⟨f1, f2, fun ch ha hb hc hm hl => f3 ch ha hb hc ⟨hm, hl⟩⟩
    · rcases List.mem_cons.1 hmem with rfl | hmem
      · rw [h] at he
        exact ⟨_, he, patrolBad_spec hd hp line 3 s⟩
      · cases List.mem_singleton.1 hmem
        rw [h] at he
        exact ⟨_, he, patrolBad_spec hd hp line 2 s⟩
  · have he := exec_memMigrate d v s
    refine ⟨fun h => ⟨_, he, if_pos ?_⟩, fun h0 hch => ?_⟩
    · rcases h with h | h
      · rw [h, Bool.not_false, Bool.or_true, Bool.true_or]
      · rw [decide_eq_true h, Bool.or_true]
    · rw [if_neg (by simp [hs, h0, Nat.not_le.2 hd, Nat.not_le.2 hch])] at he
      have ht : Told [] s (dropLatch 0 s) := ⟨fun _ _ _ _ => rfl, List.suffix_rfl, List.prefix_rfl, fun _ => rfl, rfl, rfl, rfl⟩
      have hc : bits v.toNat 1 4 < 16 := Nat.mod_lt _ (by decide)
      refine ⟨fun hm hl => ⟨_, he, ?_⟩, fun hb => ⟨_, he, ?_⟩⟩
      · obtain ⟨m1, m2, m3⟩ := migTrigger_starts (s := dropLatch 0 s) hd hc ⟨hm, hl⟩
        exact ⟨(migTrigger_kept d _ (dropLatch 0 s)).2.1, m1, m2, .since ht m3⟩
      · rw [migTrigger_busy (s := dropLatch 0 s) (fun hi => hb.elim (· hi.1) (· hi.2))]
        exact ⟨raise0_mem .., .since ht (raiseC_reported 0x0704 _ 0 _ _)⟩
  · exact ⟨(exec_migrationDone hd s).trans (congrArg _ (if_pos (.inl (hch.trans h)))), (exec_channelStops hd copied s).trans (congrArg _ (if_pos (hch.trans h)))⟩
  · have hne : rget s .cdieMemStatus_migrating d ≠ 15 := by rw [hch]; exact Nat.ne_of_lt (Nat.lt_trans hlt (by decide))
    refine ⟨fun hp => (exec_migrationDone hd s).trans (congrArg _ (if_pos (.inr hp))), fun hp => ⟨_, (exec_migrationDone hd s).trans
      (congrArg _ (if_neg (by rw [hp]; exact fun h => h.elim hne nofun))), ?_⟩, ⟨_, (exec_channelStops hd copied s).trans (congrArg _ (if_neg hne)), ?_⟩⟩
    · obtain ⟨m1, m2, m3, m4, m5, m6⟩ := migDone_spec hd hlt hch
      exact ⟨by rw [m1]; rfl, m2, m3, m4, m5, m6, fun k hk => by rw [m1]; exact swapMem_bad hch (.inl hk)⟩
    · rw [hch]
      obtain ⟨⟨m, hm⟩, hkeys, hpois⟩ := poisonFrom_spec d ch copied s
      generalize poisonFrom d ch copied s = u at hm hkeys hpois
      have hu : rget u .cdieMemStatus_migrating d = ch := by rw [hm]; exact hch
      have hfil : ∀ k ∈ badLines s d ch, k ∈ badLines u d ch := fun k hk => by
        obtain ⟨h1, h2⟩ := List.mem_filter.1 hk
        refine List.mem_filter.2 ⟨hkeys k h1, ?_⟩
        rw [hm]
        exact h2
      obtain ⟨m1, m2, m3, m4, m5, m6⟩ := migDone_spec hd hlt hu
      have ht : Told [] s u := by rw [hm]; exact Told.rfl.withMem _
      refine ⟨⟨?_, m2, m3, m4, fun c hc hn => (m5 c hc hn).trans ?_, .since ht m6, fun k hk => ?_⟩, fun l h1 h2 => ?_⟩
      · rw [m1, hm]
        rfl
      · rw [hm]
        rfl
      · rw [m1]
        exact swapMem_bad hu (.inl (hfil k hk))
      · have := hpois l h1 h2
        rw [uncopied, Nat.zero_add] at this
        rw [m1]
        exact swapMem_bad hu (.inr this)

end Sys2Proof.Machine
end


section
/-! PROOFS. Remote accesses, BAR 4 and the twin's journal. -/

namespace Sys2Proof.Machine

/-! ### Requests of other slots -/

/-- The state in which the generation of a request is noted. -/
def tagged (g : SMap Nat) (s : State) : State := { s with vig := { s.vig with recvGen := g } }

/-- What a request notes of a generation: nothing but the generation it receives, and a count where it is stale. -/
theorem noteGen_fresh {s : State} {src c gen : Nat} (h : genStale s src c gen = false) :
    ∃ g, noteGen src c gen s = tagged g s := by
  unfold genStale at h
  unfold noteGen
  cases hg : sget? s.vig.recvGen (genKey src c) with
  | none => exact ⟨_, rfl⟩
  | some g =>
    rw [hg] at h
    exact ⟨s.vig.recvGen, if_pos (by simpa using h)⟩

theorem noteGen_stale {s : State} {src c gen : Nat} (h : genStale s src c gen = true) : noteGen src c gen s = count1 .vigilStaleDropCount_count 0 s := by
  unfold genStale at h
  unfold noteGen
  cases hg : sget? s.vig.recvGen (genKey src c) with
  | none => rw [hg] at h; cases h
  | some g =>
    rw [hg] at h
    exact if_neg (by simpa using h)

theorem wakeUp_awake {s : State} (h : rget s .pwrState_state 0 < 2) (n : Nat) : wakeUp n s = s := by
  unfold wakeUp
  rw [if_neg (by omega), if_neg (by omega)]

/-- The number of bytes that a request covers. -/
def reqBytes (r : RemoteReq) : Nat := if r.write = true then r.data.length else r.len

theorem exec_remoteRequest_stale {r : RemoteReq} {s : State} (hr : rget s .mcStatus_ready 0 ≠ 0) (h : genStale s (slotSource s r.slot) r.ctx r.gen = true) :
    exec (.remoteTrayRequest r) s = .next (count1 .vigilStaleDropCount_count 0 s) := by
  show execRemoteTrayRequest r s = _
  unfold execRemoteTrayRequest
  dsimp only
  rw [if_neg hr, if_pos h, noteGen_stale h]

theorem exec_remoteRequest_fresh {r : RemoteReq} {s : State} (hr : rget s .mcStatus_ready 0 ≠ 0) (hp : rget s .pwrState_state 0 < 2)
    (h : genStale s (slotSource s r.slot) r.ctx r.gen = false) : ∃ g, exec (.remoteTrayRequest r) s = .next (
      if r.write && (sget [] s.vig.applied (tagKey r)).contains r.tag then remoteReply r false [] (tagged g s)
      else (exporter s r.slice r.write r.addr.toNat (reqBytes r)).elim
        (remoteReply r false (if r.write then [] else List.replicate (reqBytes r) 0) (count1 .mcWinRemoteViol_count 0 (tagged g s)))
        (fun c => if r.write then remoteReply r false [] (remoteWrite r c (tagged g s))
          else remoteReply r (!(ctxRead c r.addr.toNat (reqBytes r) (tagged g s)).1.bad.isEmpty) (ctxRead c r.addr.toNat (reqBytes r) (tagged g s)).1.bytes
            (ctxRead c r.addr.toNat (reqBytes r) (tagged g s)).2)) := by
  obtain ⟨g, hg⟩ := noteGen_fresh h
  refine ⟨g, ?_⟩
  show execRemoteTrayRequest r s = _
  unfold execRemoteTrayRequest
  dsimp only
  rw [if_neg hr, if_neg (by rw [h]; nofun), hg, wakeUp_awake (s := tagged g s) hp]
  refine congrArg Host.Outcome.next ?_
  by_cases hw : (r.write && (sget [] s.vig.applied (tagKey r)).contains r.tag) = true
  · rw [if_pos hw]
    exact if_pos hw
  · rw [if_neg hw]
    refine (if_neg hw).trans ?_
    show (match exporter s r.slice r.write r.addr.toNat (reqBytes r) with | none => _ | some c => _) = _
    cases exporter s r.slice r.write r.addr.toNat (reqBytes r) <;> rfl

theorem remoteReply_sent (r : RemoteReq) (b : List Byte) (s : State) : (remoteReply r false b s).mem = s.mem ∧ (remoteReply r false b s).vig = s.vig ∧
    (remoteReply r false b s).regs = s.regs ∧
    .data (if r.write = true then "STORE_ACK" else "LOAD_DATA") r.slot [r.ctx, r.gen, r.tag, 0] b ∈ (remoteReply r false b s).io.outbox :=
  ⟨rfl, rfl, rfl, List.mem_append_right _ List.mem_cons_self⟩

theorem mem_last64 {l : List Nat} {t : Nat} : t ∈ ((l ++ [t]).reverse.take 64).reverse := by
  rw [List.reverse_append, List.reverse_singleton]
  exact List.mem_reverse.2 List.mem_cons_self

theorem remoteWrite_plain {r : RemoteReq} {c k : Nat} {s : State} (hp : plainAt s c true r.addr.toNat r.data.length k) :
    storedAt s (remoteWrite r c s) k r.data ∧ r.tag ∈ sget [] (remoteWrite r c s).vig.applied (tagKey r) := by
  obtain ⟨h1, h2⟩ := storedAt_ctxWrite (s := s) hp rfl
  refine ⟨⟨h1, h2⟩, ?_⟩
  show r.tag ∈ sget [] (sput _ (tagKey r) _) (tagKey r)
  rw [sget_sput, if_pos rfl]
  exact mem_last64

theorem tagged_sameMap (g : SMap Nat) (s : State) : SameMap s (tagged g s) := SameMap.of_eq rfl rfl rfl

/-- A count of 32 bits that is not full moves on by one. -/
theorem rget_count1_next {f : Fld} {s : State} {i : Nat} (hf : f.tally = false) (hi : i < fldCount f) (hw : (fldInfo f).width = 32)
    (hn : rget s f i < 2 ^ 32 - 1) : rget (count1 f i s) f i = rget s f i + 1 :=
  regAt_count_same hf hi (by rw [hw]; exact hn)

theorem remoteTrayRequest_served (s : State) (r : RemoteReq) (hr : rget s .mcStatus_ready 0 ≠ 0) (hp : rget s .pwrState_state 0 < 2) :
    let src := slotSource s r.slot
    let n := if r.write = true then r.data.length else r.len
    let again := r.write = true ∧ r.tag ∈ sget [] s.vig.applied (tagKey r)
    let ans := fun (b : List Byte) => OutMsg.data (if r.write = true then "STORE_ACK" else "LOAD_DATA") r.slot [r.ctx, r.gen, r.tag, 0] b
    (genStale s src r.ctx r.gen = true → leadsTo (.remoteTrayRequest r) s (fun t => t.mem = s.mem ∧ t.vig = s.vig ∧
      (rget s .vigilStaleDropCount_count 0 < 2 ^ 32 - 1 → rget t .vigilStaleDropCount_count 0 = rget s .vigilStaleDropCount_count 0 + 1))) ∧
    (genStale s src r.ctx r.gen = false →
      (again → leadsTo (.remoteTrayRequest r) s (fun t => t.mem = s.mem ∧ ans [] ∈ t.io.outbox)) ∧
      (¬ again → exporter s r.slice r.write r.addr.toNat n = none → leadsTo (.remoteTrayRequest r) s (fun t => t.mem = s.mem ∧
        ans (if r.write = true then [] else List.replicate n 0) ∈ t.io.outbox ∧
        (rget s .mcWinRemoteViol_count 0 < 2 ^ 32 - 1 → rget t .mcWinRemoteViol_count 0 = rget s .mcWinRemoteViol_count 0 + 1))) ∧
      (∀ c k, ¬ again → exporter s r.slice r.write r.addr.toNat n = some c → plainAt s c r.write r.addr.toNat n k →
        (r.write = true → leadsTo (.remoteTrayRequest r) s (fun t => storedAt s t k r.data ∧ ans [] ∈ t.io.outbox ∧
          r.tag ∈ sget [] t.vig.applied (tagKey r))) ∧
        (r.write = false → leadsTo (.remoteTrayRequest r) s (fun t => t.mem = s.mem ∧ ans (sgetN 0 s.mem.bytes k n) ∈ t.io.outbox)))) := by
  intro src n again ans
  refine ⟨fun h => ⟨_, exec_remoteRequest_stale hr h, count1_mem .., count1_vig .., rget_count1_next rfl (by decide) rfl⟩,
    fun h => ?_⟩
  obtain ⟨g, he⟩ := exec_remoteRequest_fresh hr hp h
  have hag : again ↔ (r.write && (sget [] s.vig.applied (tagKey r)).contains r.tag) = true := by
    rw [Bool.and_eq_true, List.contains_iff_mem]
  refine ⟨fun ha => ?_, fun ha hx => ?_, fun c k ha hx hpl => ⟨fun hw => ?_, fun hw => ?_⟩⟩
  · rw [if_pos (hag.1 ha)] at he
    obtain ⟨h1, -, -, h4⟩ := remoteReply_sent r [] (tagged g s)
    exact ⟨_, he, h1, h4⟩
  · rw [if_neg (fun h => ha (hag.2 h)), show exporter s r.slice r.write r.addr.toNat (reqBytes r) = none from hx] at he
    obtain ⟨h1, -, h3, h4⟩ := remoteReply_sent r (if r.write then [] else List.replicate (reqBytes r) 0) (count1 .mcWinRemoteViol_count 0 (tagged g s))
    refine ⟨_, he, h1.trans (count1_mem ..), h4, fun hn => ?_⟩
    rw [rget_eq, Option.elim_none, h3]
    exact rget_count1_next (s := tagged g s) rfl (by decide) rfl hn
  · rw [if_neg (fun h => ha (hag.2 h)), show exporter s r.slice r.write r.addr.toNat (reqBytes r) = some c from hx, Option.elim_some, if_pos hw] at he
    have hn : n = r.data.length := if_pos hw
    rw [hn, hw] at hpl
    obtain ⟨⟨w1, w2⟩, w3⟩ := remoteWrite_plain (plainAt_map (tagged_sameMap g s) rfl hpl)
    obtain ⟨h1, h2, -, h4⟩ := remoteReply_sent r [] (remoteWrite r c (tagged g s))
    exact ⟨_, he, ⟨by rw [h1]; exact w1, by rw [h1]; exact w2⟩, h4, by rw [h2]; exact w3⟩
  · rw [if_neg (fun h => ha (hag.2 h)), show exporter s r.slice r.write r.addr.toNat (reqBytes r) = some c from hx, Option.elim_some,
      if_neg (by rw [hw]; nofun), ctxRead_plain (k := k) (plainAt_map (tagged_sameMap g s) rfl (hw ▸ hpl))] at he
    refine ⟨_, he, ?_, ?_⟩
    · show (useFree (chargeMem c _ (tagged g s))).mem = s.mem
      simp [tagged]
    · exact (remoteReply_sent r _ _).2.2.2

/-! ### Answers to requests of this module -/

/-- No window of the context is about to be replaced. -/
def windowQuiet (s : State) (c : Nat) : Prop := (ctx? s c).elim true (fun x => x.newWin.isNone) = true

theorem windowCheck_quiet {c : Nat} {s : State} (h : windowQuiet s c) : windowCheck c s = s := by
  unfold windowQuiet at h
  unfold windowCheck
  cases hc : ctx? s c with
  | none => rfl
  | some x =>
    rw [hc, Option.elim_some, Option.isNone_iff_eq_none] at h
    rw [Option.bind_some, h]

theorem windowQuiet.told {F : List Fld} {s t : State} {c : Nat} (h : windowQuiet s c) (k : Told F s t) : windowQuiet t c := by
  have key : ∀ o : Option Ctx, o.elim true (fun x => x.newWin.isNone) = (o.map Ctx.noRing).elim true (fun x => x.newWin.isNone) := fun o => by cases o <;> rfl
  unfold windowQuiet at h ⊢
  rw [key, k.ctxs, ← key]
  exact h

theorem storeDone_eq (tag : Nat) (s : State) : ∃ l, storeDone tag s = setJournal l s := ⟨_, rfl⟩

theorem storeDone_quiet {t : State} {c tag : Nat} (h : windowQuiet t c) : windowQuiet (storeDone tag t) c := h

/-- A command that waited for the stores `tag` only is answered. -/
theorem storeDone_answered {tag : Nat} {l : List Nat} {s t : State} {r : Rec} (hj : t.ctl.journal = s.ctl.journal) (hl : ∀ y ∈ l, y = tag) {c : Nat}
    (hr : waiting s c (.stores l) r) : answered (storeDone tag t) r 0x0000 0 := by
  obtain ⟨hmem, -, hs, hw, ha⟩ := hr
  have he : (l.filter (fun t => t != tag)).isEmpty = true := by
    rw [List.isEmpty_iff, List.filter_eq_nil_iff]
    intro y hy
    simp [hl y hy]
  refine ⟨_, List.mem_map.2 ⟨r, by rw [hj]; exact hmem, rfl⟩, ?_⟩
  dsimp only
  rw [hw]
  dsimp only
  rw [if_neg (not_not.2 hs), if_pos he, replyOf_issued t stOk 0 hs ha]
  exact ⟨rfl, rfl, rfl, _, rfl, rfl, rfl⟩

/-- The state in which a request is not outstanding any more. -/
def withoutReq (tag : Nat) (s : State) : State := { s with vig := { s.vig with remote := sdel s.vig.remote tag } }

theorem withoutReq_remote (tag : Nat) (s : State) : sget? (withoutReq tag s).vig.remote tag = none := by
  rw [withoutReq, sget?_sdel, if_pos rfl]

section
variable {s : State} {tag : Nat} {r : Remote}

theorem exec_response_stale (h : sget? s.vig.remote tag = some r) {g : Nat} (hg : g ≠ r.gen) (b : List Byte) (p : Bool) :
    exec (.remoteTrayResponse tag b g p) s = .next (count1 .vigilStaleDropCount_count 0 s) := by
  show execRemoteTrayResponse tag b g p s = _
  unfold execRemoteTrayResponse
  rw [h]
  exact if_pos hg

theorem exec_response_other (h : sget? s.vig.remote tag = some r) (hu : r.use = .other) (b : List Byte) (p : Bool) :
    exec (.remoteTrayResponse tag b r.gen p) s = .next (windowCheck r.ctx (storeDone tag (withoutReq tag s))) := by
  show execRemoteTrayResponse tag b r.gen p s = _
  unfold execRemoteTrayResponse
  rw [h]
  dsimp only
  rw [if_neg (not_not.2 rfl), hu]
  rfl

theorem exec_response_engine {e : Eng} {x : Engine} (h : sget? s.vig.remote tag = some r) (hu : r.use = .engine (engKey e))
    (he : engOfKey (engKey e) = e) (hx : eng? s e = some x) (hs : x.stall = none) (hw : r.write = false) (b : List Byte) :
    exec (.remoteTrayResponse tag b r.gen false) s =
      .next (windowCheck r.ctx (storeDone tag (setEng e { x with answers := x.answers ++ [(r.addr, b)] } (withoutReq tag s)))) := by
  show execRemoteTrayResponse tag b r.gen false s = _
  unfold execRemoteTrayResponse
  rw [h]
  dsimp only
  rw [if_neg (not_not.2 rfl), hu]
  dsimp only
  rw [he, if_neg Bool.false_ne_true, show sget? s.eng (engKey e) = some x from hx]
  dsimp only
  rw [if_neg (by rw [hw]; exact Bool.false_ne_true)]
  refine congrArg (fun y => Host.Outcome.next (windowCheck r.ctx (storeDone tag y))) ?_
  unfold retry
  rw [show eng? (setEng e { x with answers := x.answers ++ [(r.addr, b)] } _) e = some { x with answers := x.answers ++ [(r.addr, b)] } from
    (sget?_sput ..).trans (if_pos rfl), Option.bind_some]
  dsimp only
  rw [hs]
  rfl

/-- The state after a request that was given up was counted and reported. -/
def givenUp (r : Remote) (tag : Nat) (s : State) : State :=
  raiseBoth 0x1007 0xD r.ctx (pack [(0, 64, r.addr), (64, 1, b2n r.write), (72, 8, r.ctx)])
    (trouble .troubleLog_remoteTimeout 1 (count1 .vigilRemoteTimeoutCount_count 0 (withoutReq tag s)))

theorem exec_remoteTimeout (h : sget? s.vig.remote tag = some r) (hr : r.resent = true) (hu : r.use = .other) :
    exec (.vigilRemoteTimeout tag) s = .next (windowCheck r.ctx (storeDone tag (givenUp r tag s))) := by
  show execVigilRemoteTimeout tag s = _
  unfold execVigilRemoteTimeout
  rw [h]
  dsimp only
  rw [hr, Bool.not_true, if_neg Bool.false_ne_true, remotePoison, hu]
  rfl

/-- The fields of the report of a request that was given up. -/
def giveUpFlds : List Fld := [.troubleLog_remoteTimeout, .troubleFirst_lcount, .troubleLast_lcount]

theorem givenUp_spec (r : Remote) (tag : Nat) (s : State) : Told (.vigilRemoteTimeoutCount_count :: giveUpFlds) s (givenUp r tag s) ∧
    (givenUp r tag s).ctl.journal = s.ctl.journal ∧ (givenUp r tag s).vig = (withoutReq tag s).vig ∧ reported s (givenUp r tag s) 0x1007 r.ctx ∧
    (rget s .vigilRemoteTimeoutCount_count 0 < 2 ^ 32 - 1 →
      rget (givenUp r tag s) .vigilRemoteTimeoutCount_count 0 = rget s .vigilRemoteTimeoutCount_count 0 + 1) := by
  unfold givenUp
  generalize pack _ = det
  have h1 : Told [.vigilRemoteTimeoutCount_count] s (count1 .vigilRemoteTimeoutCount_count 0 (withoutReq tag s)) :=
    (Told.rfl.withVig _).count1 (.inr (by decide)) _
  have hc : rget s .vigilRemoteTimeoutCount_count 0 < 2 ^ 32 - 1 → rget (count1 .vigilRemoteTimeoutCount_count 0 (withoutReq tag s))
      .vigilRemoteTimeoutCount_count 0 = rget s .vigilRemoteTimeoutCount_count 0 + 1 :=
    rget_count1_next (s := withoutReq tag s) rfl (by decide) rfl
  have hv : (count1 .vigilRemoteTimeoutCount_count 0 (withoutReq tag s)).vig = (withoutReq tag s).vig := count1_vig ..
  have hj : (count1 .vigilRemoteTimeoutCount_count 0 (withoutReq tag s)).ctl.journal = s.ctl.journal := by simp [withoutReq]
  generalize count1 .vigilRemoteTimeoutCount_count 0 (withoutReq tag s) = u at h1 hc hv hj
  have h2 : Told giveUpFlds u (trouble .troubleLog_remoteTimeout 1 u) := Told.rfl.trouble (by decide) (by decide) (by decide) 1
  have h3 : Told giveUpFlds u (raiseBoth 0x1007 0xD r.ctx det (trouble .troubleLog_remoteTimeout 1 u)) := h2.raiseBoth ..
  refine ⟨(h1.mono (by simp)).trans (h3.mono (by simp +contextual)), ?_, ?_, .since h1 (.since h2 (raiseBoth_reported ..)), fun hn => ?_⟩
  · simp [hj]
  · simp [hv]
  · exact (h3.regs _ _ rfl (by decide)).trans (hc hn)

theorem exec_remoteResend (h : sget? s.vig.remote tag = some r) (hr : r.resent = false) : exec (.remoteRequestResend tag) s =
    .next (emit (.data (if r.write then "STORE" else "LOAD") r.slot [r.ctx, r.gen, tag, r.addr, r.len] r.data)
      { s with vig := { s.vig with remote := sput s.vig.remote tag { r with resent := true } } }) := by
  show execRemoteRequestResend tag s = _
  unfold execRemoteRequestResend
  rw [h]
  exact if_neg (by rw [hr]; exact Bool.false_ne_true)

theorem remoteAnswers (tag : Nat) (r : Remote) (b : List Byte) (p : Bool) (hrem : sget? s.vig.remote tag = some r) :
    let quiet := (ctx? s r.ctx).elim true (fun x => x.newWin.isNone) = true
    (∀ g, g ≠ r.gen → leadsTo (.remoteTrayResponse tag b g p) s (fun t => t.vig = s.vig ∧ t.mem = s.mem ∧ t.eng = s.eng ∧
      (rget s .vigilStaleDropCount_count 0 < 2 ^ 32 - 1 → rget t .vigilStaleDropCount_count 0 = rget s .vigilStaleDropCount_count 0 + 1))) ∧
    (r.use = .other → quiet → leadsTo (.remoteTrayResponse tag b r.gen p) s (fun t => sget? t.vig.remote tag = none ∧
      ∀ c x l, waiting s c (.stores l) x → (∀ y ∈ l, y = tag) → answered t x 0x0000 0)) ∧
    (∀ e x, r.use = .engine (engKey e) → engOfKey (engKey e) = e → eng? s e = some x → quiet → x.stall = none → r.write = false → p = false →
      leadsTo (.remoteTrayResponse tag b r.gen p) s (fun t => sget? t.vig.remote tag = none ∧ eng? t e = some { x with answers := x.answers ++ [(r.addr, b)] })) ∧
    (r.resent = false → leadsTo (.remoteRequestResend tag) s (fun t => sget? t.vig.remote tag = some { r with resent := true } ∧ t.mem = s.mem ∧
      .data (if r.write = true then "STORE" else "LOAD") r.slot [r.ctx, r.gen, tag, r.addr, r.len] r.data ∈ t.io.outbox)) ∧
    (r.resent = true → noEffect (.remoteRequestResend tag) s) ∧
    (r.resent = false → noEffect (.vigilRemoteTimeout tag) s) ∧
    (r.resent = true → r.use = .other → quiet → leadsTo (.vigilRemoteTimeout tag) s (fun t => sget? t.vig.remote tag = none ∧ reported s t 0x1007 r.ctx ∧
      (rget s .vigilRemoteTimeoutCount_count 0 < 2 ^ 32 - 1 → rget t .vigilRemoteTimeoutCount_count 0 = rget s .vigilRemoteTimeoutCount_count 0 + 1) ∧
      ∀ c x l, waiting s c (.stores l) x → (∀ y ∈ l, y = tag) → answered t x 0x0000 0)) := by
  intro quiet
  refine ⟨fun g hg => ⟨_, exec_response_stale hrem hg b p, count1_vig .., count1_mem .., count1_eng .., rget_count1_next rfl (by decide) rfl⟩,
    fun hu hq => ?_, fun e x hu he hx hq hs hw hp => ?_, fun hr => ⟨_, exec_remoteResend hrem hr, ?_⟩, fun hr => ?_, fun hr => ?_, fun hr hu hq => ?_⟩
  · refine ⟨_, exec_response_other hrem hu b p, ?_⟩
    rw [windowCheck_quiet (storeDone_quiet (t := withoutReq tag s) hq)]
    exact ⟨withoutReq_remote tag s, fun c x l hx hl => storeDone_answered rfl hl hx⟩
  · subst hp
    refine ⟨_, exec_response_engine hrem hu he hx hs hw b, ?_⟩
    rw [windowCheck_quiet (storeDone_quiet (t := setEng e _ (withoutReq tag s)) hq)]
    exact ⟨withoutReq_remote tag s, (sget?_sput ..).trans (if_pos rfl)⟩
  · exact ⟨(sget?_sput ..).trans (if_pos rfl), rfl, List.mem_append_right _ List.mem_cons_self⟩
  · show execRemoteRequestResend tag s = _
    unfold execRemoteRequestResend
    rw [hrem]
    exact if_pos hr
  · show execVigilRemoteTimeout tag s = _
    unfold execVigilRemoteTimeout
    rw [hrem]
    exact if_pos (by rw [hr]; rfl)
  · obtain ⟨g1, g2, g3, g4, g5⟩ := givenUp_spec r tag s
    obtain ⟨l, hl⟩ := storeDone_eq tag (givenUp r tag s)
    refine ⟨_, exec_remoteTimeout hrem hr hu, ?_⟩
    rw [windowCheck_quiet (storeDone_quiet (windowQuiet.told hq g1))]
    refine ⟨?_, ?_, ?_, fun c x l hx hl => storeDone_answered g2 hl hx⟩
    · rw [hl]
      show sget? (givenUp r tag s).vig.remote tag = none
      rw [g3]
      exact withoutReq_remote tag s
    · rw [hl]
      exact g4
    · rw [hl]
      exact g5

end

/-! ### The twin's journal and BAR 4 -/

theorem exec_twinJournal_dropped {s : State} {peer c : Nat} (h : rget s .mcStatus_ready 0 = 0 ∨ partnerIs s c peer = false) (q : Nat) (seq : BitVec 32)
    (b : List Byte) : exec (.twinJournalRecord peer c q seq b) s = .next s := by
  show execTwinJournalRecord peer c q seq b s = _
  unfold execTwinJournalRecord
  rw [if_pos (by rcases h with h | h <;> simp [h])]

theorem exec_twinJournal {s : State} {peer c : Nat} (h1 : rget s .mcStatus_ready 0 ≠ 0) (h2 : partnerIs s c peer = true) (q : Nat) (seq : BitVec 32)
    (b : List Byte) : exec (.twinJournalRecord peer c q seq b) s = .next (emit (.vc7 "JOURNAL_ACK" peer [c, q, seq.toNat])
      { wakeUp 3 s with ctl := { (wakeUp 3 s).ctl with
          partner := (wakeUp 3 s).ctl.partner.filter (fun r => !(r.1 == peer && r.2.1 == c && r.2.2.1 == q && r.2.2.2.1 == seq.toNat)) ++
            [(peer, c, q, seq.toNat, b)] } }) := by
  show execTwinJournalRecord peer c q seq b s = _
  unfold execTwinJournalRecord
  rw [if_neg (by simp [h1, h2])]

/-- A partner's record that is kept is in the table of the partners' records, and acknowledged. -/
theorem twinJournal_kept {s : State} {peer c : Nat} (h1 : rget s .mcStatus_ready 0 ≠ 0) (h2 : partnerIs s c peer = true) (q : Nat) (seq : BitVec 32)
    (b : List Byte) : leadsTo (.twinJournalRecord peer c q seq b) s (fun t =>
      (peer, c, q, seq.toNat, b) ∈ t.ctl.partner ∧ .vc7 "JOURNAL_ACK" peer [c, q, seq.toNat] ∈ t.io.outbox) :=
  ⟨_, exec_twinJournal h1 h2 q seq b, List.mem_append_right _ List.mem_cons_self, List.mem_append_right _ List.mem_cons_self⟩

/-- An access through BAR 4 is answered as an unsupported request. -/
def bar4Refused (s : State) (fn off size : Nat) : Prop := fnUp s fn = false ∨ 2 ^ bar4Log s fn < off + size

section
variable {s : State} {fn off size : Nat}

theorem exec_bar4_refused (h : bar4Refused s fn off size) (w : Bool) (b : List Byte) :
    exec (.bar4Access fn off size w b) s = .next (hostReply fn true [] (dropLatch fn s)) := by
  show execBar4Access fn off size w b s = _
  unfold execBar4Access
  dsimp only
  rw [if_pos]
  rcases h with h | h
  · rw [fnUp_dropLatch, h]
    rfl
  · exact Bool.or_eq_true_iff.2 (.inr (decide_eq_true h))

theorem exec_bar4 (h1 : fnUp s fn = true) (h2 : off + size ≤ 2 ^ bar4Log s fn) (w : Bool) (b : List Byte) : exec (.bar4Access fn off size w b) s = .next (
    if rget s .hostifFnBar4_ctx fn = 0xFF then (if w then dropLatch fn s else hostReply fn false (List.replicate size 0) (dropLatch fn s))
    else if w then ctxWrite (rget s .hostifFnBar4_ctx fn) (rget s .hostifFnBar4_base fn * 4096 + off) (b.take size) (dropLatch fn s)
    else hostReply fn false (cmdRead (rget s .hostifFnBar4_ctx fn) (rget s .hostifFnBar4_base fn * 4096 + off) size (dropLatch fn s)).1.bytes
      (cmdRead (rget s .hostifFnBar4_ctx fn) (rget s .hostifFnBar4_base fn * 4096 + off) size (dropLatch fn s)).2) := by
  show execBar4Access fn off size w b s = _
  unfold execBar4Access
  dsimp only
  rw [if_neg]
  · rfl
  · rw [fnUp_dropLatch, h1]
    exact fun h => absurd (of_decide_eq_true h) (Nat.not_lt.2 h2)

theorem dropLatch_sameMap (n : Nat) (s : State) : SameMap s (dropLatch n s) := SameMap.of_eq rfl rfl rfl

theorem bar4Accesses (fn off size : Nat) (w : Bool) (b : List Byte) (s : State) :
    let c := rget s .hostifFnBar4_ctx fn
    let a := rget s .hostifFnBar4_base fn * 4096 + off
    (fnUp s fn = false ∨ 2 ^ bar4Log s fn < off + size → leadsTo (.bar4Access fn off size w b) s (fun t => t.mem = s.mem ∧
      .pcie fn true [] ∈ t.io.outbox)) ∧
    (fnUp s fn = true → off + size ≤ 2 ^ bar4Log s fn →
      (c = 0xFF → leadsTo (.bar4Access fn off size true b) s (fun t => t = dropLatch fn s) ∧
        leadsTo (.bar4Access fn off size false b) s (fun t => t.mem = s.mem ∧ .pcie fn false (List.replicate size 0) ∈ t.io.outbox)) ∧
      (∀ k, c ≠ 0xFF →
        (b.length = size → plainAt s c true a size k → leadsTo (.bar4Access fn off size true b) s (fun t => storedAt s t k b)) ∧
        (plainAt s c false a size k → leadsTo (.bar4Access fn off size false b) s (fun t => t.mem = s.mem ∧
          t.io.readData = sgetN 0 s.mem.bytes k size ∧ .pcie fn false (sgetN 0 s.mem.bytes k size) ∈ t.io.outbox)))) := by
  intro c a
  refine ⟨fun h => ⟨_, exec_bar4_refused h w b, ?_⟩, fun h1 h2 => ⟨fun hc => ⟨⟨_, (exec_bar4 h1 h2 true b).trans (congrArg _ (if_pos hc)), rfl⟩,
    ⟨_, (exec_bar4 h1 h2 false b).trans (congrArg _ (if_pos hc)), ?_⟩⟩, fun k hc => ⟨fun hb hp => ⟨_, (exec_bar4 h1 h2 true b).trans
      (congrArg _ (if_neg hc)), ?_⟩, fun hp => ⟨_, (exec_bar4 h1 h2 false b).trans (congrArg _ (if_neg hc)), ?_⟩⟩⟩⟩
  · obtain ⟨-, hm, -, ho, -⟩ := hostReply_spec fn true [] (dropLatch fn s)
    exact ⟨hm, ho⟩
  · obtain ⟨-, hm, -, ho, -⟩ := hostReply_spec fn false (List.replicate size 0) (dropLatch fn s)
    exact ⟨hm, ho⟩
  · subst hb
    rw [if_pos rfl, List.take_length]
    exact storedAt_ctxWrite (plainAt_map (dropLatch_sameMap fn s) rfl hp) rfl
  · rw [if_neg Bool.false_ne_true, cmdRead_plain (plainAt_map (dropLatch_sameMap fn s) rfl hp)]
    obtain ⟨-, hm, hr, ho, -⟩ := hostReply_spec fn false (sgetN 0 s.mem.bytes k size) (useFree (chargeMem c (tierBytes a size) (dropLatch fn s)))
    exact ⟨hm.trans (by simp), hr, ho⟩

end

/-- Settles O48, part by part. -/
theorem remoteAccesses : Obligations.RemoteAccesses := by
  unfold Obligations.RemoteAccesses
  intro s
  refine ⟨fun r hr hp => remoteTrayRequest_served s r hr hp, fun tag h => ⟨fun b g p => ?_, ?_, ?_⟩, fun tag r b p h => remoteAnswers tag r b p h,
    fun peer c q seq b => ⟨fun h => exec_twinJournal_dropped h q seq b, fun h1 h2 => twinJournal_kept h1 h2 q seq b⟩,
    fun fn off size w b => bar4Accesses fn off size w b s⟩
  · show execRemoteTrayResponse tag b g p s = _
    unfold execRemoteTrayResponse
    rw [h]
  · show execRemoteRequestResend tag s = _
    unfold execRemoteRequestResend
    rw [h]
  · show execVigilRemoteTimeout tag s = _
    unfold execVigilRemoteTimeout
    rw [h]

end Sys2Proof.Machine
end


section
/-! PROOFS. RESTORE and IMPORT_A2: the vote, its decision and the commit of a restore. -/

namespace Sys2Proof.Machine

/-! ### What a check of a manifest asks of the state -/

/-- `t` is read as `s` is: all that a read, a plan, a partition or a trusted key depends on is the same. -/
structure Peeks (s t : State) : Prop where
  regs : ∀ f, f ≠ .harvestCtxState_restoring → ∀ i, rget t f i = rget s f i
  sp : t.sp = s.sp
  ctxs : t.ctl.ctxs = s.ctl.ctxs
  parts : t.ctl.partitions = s.ctl.partitions
  free : t.free = s.free
  mem : t.mem = s.mem
  host : t.host = s.host
  hostMem : t.io.hostMem = s.io.hostMem

section
variable {s t : State} (h : Peeks s t)
include h

theorem Peeks.sameMap : SameMap s t :=
  ⟨fun f hf i => h.regs f (by rintro rfl; revert hf; decide) i, by rw [h.sp], fun c => by rw [ctx?, h.ctxs]; rfl⟩

theorem Peeks.locate : locate t = locate s := by
  funext a
  simp only [Machine.locate, ownSlot_map h.sameMap, inExtent_map h.sameMap, cxlPortOf_map h.sameMap, h.regs .fdieCxlMapBase_offset (by decide), h.free]

theorem Peeks.peek : peek t = peek s := by
  have hk : keyRead t = keyRead s := by funext k n a; simp only [keyRead, h.mem]
  have hu : cxlUp t = cxlUp s := by
    funext m
    simp only [cxlUp, h.regs .fdieCxlPort_up (by decide), h.regs .fdieCxlPort_present (by decide), h.host]
  have hp : readPiece t = readPiece s := by
    funext c a n
    simp only [readPiece, inWindow_map h.sameMap, h.locate, hk, hu, h.free]
  funext c a n
  simp only [Machine.peek, hp]

theorem Peeks.ctxDies (c : Nat) : ctxDies t c = ctxDies s c := by simp only [Machine.ctxDies, partDies, ctx?, h.ctxs, h.parts]

theorem Peeks.gddrBytes : gddrBytes t = gddrBytes s := by funext d; simp only [Machine.gddrBytes, h.sp]

theorem Peeks.gridRows : gridRows t = gridRows s := by funext d; simp only [Machine.gridRows, h.sp]

theorem Peeks.readPlan (c : Nat) : readPlan t c = readPlan s c := by
  have hdie : ∀ ds, dieAddrOk t ds = dieAddrOk s ds := fun ds => by
    funext i a
    simp only [dieAddrOk, ownSlot_map h.sameMap, inExtent_map h.sameMap]
  have hboth : rangeBoth t c = rangeBoth s c := by
    funext a n
    simp only [rangeBoth, rangeIn, inWindow_map h.sameMap, h.locate]
  have hf : planFaults t c = planFaults s c := by
    funext b
    simp only [planFaults, h.ctxDies, hdie, hboth]
  simp only [Machine.readPlan, h.regs .stepCtxPlan_addr (by decide), h.peek, hf]

theorem Peeks.geoDigest (ds : List Nat) : geoDigest t ds = geoDigest s ds := by
  have h1 : chanCount t = chanCount s := by funext d; simp only [chanCount, h.sp]
  have h2 : gridY t ds = gridY s ds := by simp only [gridY, h.gridRows]
  have h3 : partTrimmed t ds = partTrimmed s ds := by simp only [partTrimmed, h.sp]
  simp only [Machine.geoDigest, geoFields, h1, h2, h3, h.gddrBytes, h.regs .fdieCxlMapBytes_bytes (by decide)]

theorem Peeks.trusted (b : List Byte) : trusted t b = trusted s b := by
  simp only [Machine.trusted, h.regs .harvestTrust_addr (by decide), h.regs .harvestTrustCount_count (by decide), h.peek]

theorem Peeks.targetRead (c : Nat) : targetRead t c = targetRead s c := by
  have hup : ∀ fn, fnUp t fn = fnUp s fn := fun fn => by
    simp only [fnUp, h.regs .hostifVf_enable (by decide), h.regs .hostifVf_numVfs (by decide), h.host]
  funext x a n
  simp only [Machine.targetRead, noDma, fnOf, ctx?, h.host, h.ctxs, h.regs .hostifLink_up (by decide), hup, hostRead, h.hostMem, h.peek]
  rfl

theorem Peeks.myEntry (m : Manifest) : myEntry t m = myEntry s m := by
  simp only [Machine.myEntry, ownRoster, h.regs .cohortSelf_roster (by decide)]

/-- The checks of Table 13.4 give the same result where the targets are the same too. -/
theorem Peeks.restoreCheck {c : Nat} (ht : (harvOf t c).targets = (harvOf s c).targets) (m : Manifest) : restoreCheck t c m = restoreCheck s c m := by
  have hr : readShard t c m = readShard s c m := by
    funext i
    simp only [readShard, ht, h.targetRead]
  have hp : planAgrees t c = planAgrees s c := by
    funext b
    simp only [planAgrees, h.readPlan, h.ctxDies]
  simp only [Machine.restoreCheck, h.myEntry, hr, h.trusted, h.geoDigest, h.ctxDies, hp]

end

/-! ### The restore lead -/

/-- The fields by which the members of the slice are known and their lead is chosen. -/
def leadFlds : List Fld := [.cohortSelf_roster, .cohortSelf_role, .cohortSelf_primary, .cohortRoster_entry, .cohortHealth_score, .linkPortPeer_roster,
  .cohortThresh_evict, .cohortThresh_floor, .cohortQuota_perInterval, .cohortQuota_intervalMin, .cohortHold_holdMs]

/-- Besides, the field that says whether a restore is in progress. -/
def pollFlds : List Fld := .harvestCtxState_restoring :: leadFlds

/-- `t` is `s` for the votes on a restore: its members and its lead are known alike, its harvest state and its journal are the same. -/
structure Polled (s t : State) : Prop where
  regs : ∀ f ∈ pollFlds, ∀ i, rget t f i = rget s f i
  fab : t.fab = s.fab
  har : t.har = s.har
  journal : t.ctl.journal = s.ctl.journal

theorem Polled.of_said {F : List Fld} {s t : State} (h : Said F s t) (hF : ∀ f ∈ pollFlds, f.tally = false ∧ f ∉ F) (hf : t.fab = s.fab)
    (hh : t.har = s.har) (hj : t.ctl.journal = s.ctl.journal) : Polled s t :=
  ⟨fun f hm i => h.regs f i (hF f hm).1 (hF f hm).2, hf, hh, hj⟩

theorem Polled.rfl {s : State} : Polled s s := ⟨fun _ _ _ => Eq.refl _, Eq.refl _, Eq.refl _, Eq.refl _⟩

theorem Polled.trans {s t u : State} (h : Polled s t) (k : Polled t u) : Polled s u :=
  ⟨fun f hm i => (k.regs f hm i).trans (h.regs f hm i), k.fab.trans h.fab, k.har.trans h.har, k.journal.trans h.journal⟩

section
variable {s t : State} (hr : ∀ f ∈ leadFlds, ∀ i, rget t f i = rget s f i) (hf : t.fab = s.fab)
include hr

theorem ownRoster_of_lead : ownRoster t = ownRoster s := hr _ (by decide) 0

include hf

theorem stepMembers_of_lead : stepMembers t = stepMembers s := by
  simp only [stepMembers, mySlice, hf, ownRoster_of_lead hr, hasPosition, hr .cohortSelf_role (by decide), rosterEntry, hr .cohortRoster_entry (by decide)]

theorem harvestLead_of_lead : harvestLead t = harvestLead s := by
  have hp : ∀ p, portOf t p = portOf s p := fun p => by rw [portOf, hf]; rfl
  have hs : suspects t = suspects s := by
    funext i
    simp only [suspects, hp, hr .linkPortPeer_roster (by decide), hf]
  have hn : noticed t = noticed s := by funext i; simp only [noticed, hf]
  have hi : inForce t = inForce s := by
    simp only [inForce, isPrimary, ownForce, hf, hr .cohortSelf_primary (by decide), hr .cohortThresh_evict (by decide), hr .cohortThresh_floor (by decide),
      hr .cohortQuota_perInterval (by decide), hr .cohortQuota_intervalMin (by decide), hr .cohortHold_holdMs (by decide)]
    rfl
  have hh : healthy t = healthy s := by
    funext x
    simp only [healthy, hs, hn, hi, scoreOf, hf, hasPosition, ownRoster_of_lead hr, rosterEntry, hr .cohortSelf_role (by decide),
      hr .cohortHealth_score (by decide), hr .cohortRoster_entry (by decide)]
    rfl
  simp only [harvestLead, stepMembers_of_lead hr hf, hh, ownRoster_of_lead hr, rosterEntry, hr .cohortRoster_entry (by decide)]

theorem isLead_of_lead : isLead t = isLead s := by rw [isLead, isLead, harvestLead_of_lead hr hf, ownRoster_of_lead hr]

end

/-! ### A restore commit (R326) -/

/-- The step state after a restore: the bank that was streamed stands. -/
def StepCtx.turned (x : StepCtx) : StepCtx := { x with standOwn := 1 - x.standOwn, fresh := true, own := none, mir := none, sealed := none }

/-- The state after the restored bank stands. -/
def bankTurned (c : Nat) (s : State) : State :=
  modStep c StepCtx.turned (areasCopy ((planOr (stepOf s c)).gradB.take (ctxDies s c).length) ((planOr (stepOf s c)).snap.take (ctxDies s c).length)
    (planOr (stepOf s c)).gradBytes s)

/-- The registers of the step that is restored. -/
def stepRestored (c : Nat) (r : HRest) (s : State) : State :=
  rset .stepCtxCommitted_step c r.step (rset .stepCtxStep_step c r.step (rset .stepCtxAttempt_attempt c 0 (rset .stepCtxState_rot c 0 s)))

/-- The registers of the generation that is restored. -/
def genRestored (c : Nat) (r : HRest) (s : State) : State :=
  if r.imp then s else rset .harvestCtxStep_step c r.step (rset .harvestCtxGen_generation c r.gen (rset .stepCommitSeq_seq c r.commit s))

/-- The harvest state after a restore. -/
def Harv.afterRest (r : HRest) (x : Harv) : Harv := { x with rest := none, imported := x.imported || r.imp }

/-- The state in which no restore is in progress any more. -/
def restEnded (c : Nat) (r : HRest) (s : State) : State := rset .harvestCtxState_restoring c 0 (modHarv c (Harv.afterRest r) s)

theorem restored_eq (c : Nat) (r : HRest) (s : State) : restored c r s = finishAt r.q r.seq stOk r.step
    (raiseBoth 0x0D04 0xA c (pack [(0, 64, if r.imp then 0 else r.gen), (64, 64, r.step), (128, 1, b2n r.fallback)])
      (if mirrored (restEnded c r (genRestored c r (stepRestored c r (bankTurned c s)))) c
        then mirrorBank c (restEnded c r (genRestored c r (stepRestored c r (bankTurned c s))))
        else restEnded c r (genRestored c r (stepRestored c r (bankTurned c s))))) := (rfl)

theorem toTwin_har (c : Nat) (k : MKind) (a n x : Nat) (b : List Byte) (d : Nat) (s : State) : (toTwin c k a n x b d s).har = s.har := by
  unfold toTwin
  split
  · rw [chargeLink, charge_eq]
    simp
  · rfl

/-- The twin's copy of a bank leaves the module's own state. -/
theorem mirrorBank_kept (c : Nat) (s : State) : Kept [.fdieMirrorBytes_units] s (mirrorBank c s) ∧ (mirrorBank c s).har = s.har := by
  unfold mirrorBank
  cases (stepOf s c).plan with
  | none => exact ⟨.rfl, rfl⟩
  | some p =>
    dsimp only
    have hfold := List.foldlRecOn (((if (stepOf s c).standOwn = 0 then p.bank0 else p.bank1).take (ctxDies s c).length).zipIdx)
      (fun u x => toTwin c .bank 0 p.bankBytes (2 * x.2 + (stepOf s c).standOwn) (peek u c x.1 p.bankBytes).bytes (runDigest (peek u c x.1 p.bankBytes).bytes) u)
      (motive := fun t => Kept [.fdieMirrorBytes_units] s t ∧ t.har = s.har) (b := s) ⟨.rfl, rfl⟩
      (fun t ht x _ => ⟨ht.1.trans (toTwin_kept ..), (toTwin_har ..).trans ht.2⟩)
    exact ⟨hfold.1.trans (toTwin_kept ..), (toTwin_har ..).trans hfold.2⟩

theorem bankTurned_spec (c : Nat) (s : State) : (∃ m x, bankTurned c s = { s with mem := m, st := x }) ∧
    (stepOf (bankTurned c s) c).standOwn = 1 - (stepOf s c).standOwn := by
  obtain ⟨m, hm⟩ := areasCopy_mem ((planOr (stepOf s c)).gradB.take (ctxDies s c).length) ((planOr (stepOf s c)).snap.take (ctxDies s c).length)
    (planOr (stepOf s c)).gradBytes s
  unfold bankTurned
  rw [hm]
  exact ⟨⟨m, _, rfl⟩, congrArg StepCtx.standOwn (stepOf_modStep_same { s with mem := m } c StepCtx.turned)⟩

/-- A restored step is the last committed one, and the command is answered. -/
def RestDone (s t : State) (c : Nat) (r : HRest) : Prop :=
  (harvOf t c).rest = none ∧ rget t .harvestCtxState_restoring c = 0 ∧ stepNo t c = r.step ∧
  rget t .stepCtxCommitted_step c = r.step ∧ (stepOf t c).standOwn = 1 - (stepOf s c).standOwn ∧ reported s t 0x0D04 c ∧
  ∀ x ∈ s.ctl.journal, x.q = r.q → x.seq = r.seq → x.state = .issued → x.again = none → answered t x 0x0000 r.step

/-- What the state before the report has: all of a restore but the answer. -/
theorem restEnded_spec {c : Nat} (hc : c < 256) {r : HRest} (hs : r.step < 2 ^ 64) (s : State) (u : State)
    (hu : u = restEnded c r (genRestored c r (stepRestored c r (bankTurned c s)))) :
    (harvOf u c).rest = none ∧ rget u .harvestCtxState_restoring c = 0 ∧ stepNo u c = r.step ∧ rget u .stepCtxCommitted_step c = r.step ∧
    (stepOf u c).standOwn = 1 - (stepOf s c).standOwn ∧ u.io = s.io ∧ u.ctl.journal = s.ctl.journal := by
  obtain ⟨⟨m, y, hb⟩, hst⟩ := bankTurned_spec c s
  generalize bankTurned c s = v at hb hst hu
  have h1 : rget (stepRestored c r v) .stepCtxStep_step c = r.step ∧ rget (stepRestored c r v) .stepCtxCommitted_step c = r.step := by
    refine ⟨?_, (regAt_rset_same _ _ (show c < 256 from hc)).trans (Nat.mod_eq_of_lt hs)⟩
    rw [rget_eq, stepRestored, regAt_rset_other _ _ _ _ (by decide)]
    exact (regAt_rset_same _ _ (show c < 256 from hc)).trans (Nat.mod_eq_of_lt hs)
  have h2 : Kept [.harvestCtxStep_step, .harvestCtxGen_generation, .stepCommitSeq_seq] (stepRestored c r v) (genRestored c r (stepRestored c r v)) := by
    unfold genRestored
    split
    · exact .rfl
    · exact ((Kept.rfl.rset (.inr (by decide)) ..).rset (.inr (by decide)) ..).rset (.inr (by decide)) ..
  have h2i : (genRestored c r (stepRestored c r v)).io = s.io := by
    unfold genRestored
    split <;> simp [stepRestored, hb]
  have hv : (stepRestored c r v).st = v.st ∧ (stepRestored c r v).ctl.journal = s.ctl.journal :=
    ⟨by simp [stepRestored], by simp [stepRestored, hb]⟩
  generalize genRestored c r (stepRestored c r v) = w at h2 h2i hu
  subst hu
  refine ⟨?_, (regAt_rset_same _ _ (show c < 256 from hc)).trans rfl, ?_, ?_, ?_, by simp [restEnded, h2i],
    by simp [restEnded, h2.journal, hv.2]⟩
  · rw [restEnded, harvOf_of_har (s := modHarv c (Harv.afterRest r) w) (rset_har ..), harvOf_modHarv_same]
    rfl
  · rw [stepNo, rget_eq, restEnded, regAt_rset_other _ _ _ _ (by decide)]
    exact (h2.regs _ _ rfl (by decide)).trans h1.1
  · rw [rget_eq, restEnded, regAt_rset_other _ _ _ _ (by decide)]
    exact (h2.regs _ _ rfl (by decide)).trans h1.2
  · rw [← hst, stepOf, stepOf, show (restEnded c r w).st = v.st by simp [restEnded, h2.st, hv.1]]

theorem restored_done {c : Nat} (hc : c < 256) {r : HRest} (hs : r.step < 2 ^ 64) (s : State) : RestDone s (restored c r s) c r ∧
    s.io.outbox <+: (restored c r s).io.outbox := by
  rw [restored_eq]
  generalize pack _ = det
  obtain ⟨h1, h2, h3, h4, h5, h6, h7⟩ := restEnded_spec hc hs s _ rfl
  generalize restEnded c r (genRestored c r (stepRestored c r (bankTurned c s))) = u at h1 h2 h3 h4 h5 h6 h7
  have hk : Kept [.fdieMirrorBytes_units] u (if mirrored u c then mirrorBank c u else u) ∧ (if mirrored u c then mirrorBank c u else u).har = u.har := by
    split
    · exact mirrorBank_kept c u
    · exact ⟨.rfl, rfl⟩
  generalize (if mirrored u c then mirrorBank c u else u) = v at hk
  obtain ⟨hk, hh⟩ := hk
  have hw : Kept [] v (raiseBoth 0x0D04 0xA c det v) := Kept.rfl.raiseBoth ..
  have hwh : (raiseBoth 0x0D04 0xA c det v).har = v.har := by simp
  have hrep := raiseBoth_reported 0x0D04 0xA c det v
  generalize raiseBoth 0x0D04 0xA c det v = w at hw hwh hrep
  have hreg : ∀ f, f.tally = false → f ≠ .fdieMirrorBytes_units → rget w f c = rget u f c := fun f hf hn =>
    (hw.regs f c hf (by simp)).trans (hk.regs f c hf (by simpa using hn))
  refine ⟨⟨?_, (hreg _ rfl (by decide)).trans h2, (hreg _ rfl (by decide)).trans h3, (hreg _ rfl (by decide)).trans h4, ?_, ?_, fun x hx hq hn hi ha => ?_⟩, ?_⟩
  · exact (congrArg Harv.rest (harvOf_of_har (t := w) (hwh.trans hh) c)).trans h1
  · rw [← h5, stepOf, stepOf]
    exact congrArg (fun x : SMap StepCtx => (sget _ x c).standOwn) (hw.st.trans hk.st)
  · exact hrep.prior (by rw [← h6]; exact hk.events)
  · exact finishAt_answered (hw.journal.trans (hk.journal.trans h7)) hx hq hn hi ha
  · rw [← h6]
    exact hk.outbox.trans hw.outbox

/-! ### Votes and their decision (R326) -/

/-- A restore with a vote, the one before it of the same module replaced. -/
def HRest.voted (v : Nat × Nat × List Byte × Bool) (r : HRest) : HRest := { r with votes := r.votes.filter (fun x => x.1 != v.1) ++ [v] }

theorem rest_addVote {s : State} {c : Nat} {r : HRest} (h : (harvOf s c).rest = some r) (who gen : Nat) (hash : List Byte) (pass : Bool) :
    (harvOf (addVote c who gen hash pass s) c).rest = some (r.voted (who, gen, hash, pass)) := by
  rw [addVote, harvOf_modHarv_same, h]
  rfl

/-- The votes are not all there, or this module does not decide. -/
def undecided (s : State) (r : HRest) : Prop := isLead s = false ∨ ∃ i ∈ stepMembers s, ∀ v ∈ r.votes, v.1 ≠ i

theorem decideVotes_undecided {s : State} {c : Nat} {r : HRest} (h : (harvOf s c).rest = some r) (hu : undecided s r) : decideVotes c s = s := by
  unfold decideVotes decideN
  rw [h]
  refine if_pos ?_
  rcases hu with hu | ⟨i, hi, hv⟩
  · rw [hu]
    rfl
  · have : (stepMembers s).all (fun i => r.votes.any (fun v => v.1 == i)) = false := by
      rw [List.all_eq_false]
      refine ⟨i, hi, fun hx => ?_⟩
      obtain ⟨v, hm, he⟩ := List.any_eq_true.1 hx
      exact hv v hm (by simpa using he)
    rw [this]
    exact Bool.or_true _

theorem decideVotes_none {s : State} {c : Nat} (h : (harvOf s c).rest = none) : decideVotes c s = s := by
  unfold decideVotes decideN
  rw [h]

theorem decideVotes_commit {s : State} {c : Nat} {r : HRest} (h : (harvOf s c).rest = some r) (hl : isLead s = true)
    (ha : ∀ i ∈ stepMembers s, ∃ v ∈ r.votes, v.1 = i) (hv : ∀ v ∈ r.votes, v.2 = (r.gen, r.hash, true)) :
    decideVotes c s = restored c r (emit (.vc7 "RESTORE_COMMIT" 0x3FFF [c, r.gen]) s) := by
  unfold decideVotes decideN
  rw [h]
  dsimp only
  rw [if_neg, if_pos]
  · rw [List.all_eq_true]
    intro v hm
    rw [hv v hm]
    simp
  · have : (stepMembers s).all (fun i => r.votes.any (fun v => v.1 == i)) = true := by
      rw [List.all_eq_true]
      intro i hi
      obtain ⟨v, hm, he⟩ := ha i hi
      exact List.any_eq_true.2 ⟨v, hm, by simp [he]⟩
    rw [hl, this]
    decide

theorem exec_restoreVote {s : State} {who : Nat} (h : who ∈ stepMembers s) (c gen : Nat) (hash : List Byte) (pass : Bool) :
    exec (.restoreVote c who gen hash pass) s = .next (decideVotes c (addVote c who gen hash pass s)) :=
  if_pos (List.contains_iff_mem.2 h)

theorem exec_restoreVote_other {s : State} {who : Nat} (h : who ∉ stepMembers s) (c gen : Nat) (hash : List Byte) (pass : Bool) :
    exec (.restoreVote c who gen hash pass) s = .next s :=
  if_neg (fun hc => h (List.contains_iff_mem.1 hc))

/-- A vote that leaves the votes of others missing is kept. -/
theorem restoreVote_kept {s : State} {c who : Nat} {r : HRest} (h : (harvOf s c).rest = some r) (hw : who ∈ stepMembers s) (gen : Nat) (hash : List Byte)
    (pass : Bool) (hm : ∃ i ∈ stepMembers s, i ≠ who ∧ ∀ v ∈ r.votes, v.1 ≠ i) : leadsTo (.restoreVote c who gen hash pass) s (fun t =>
      { t with har := s.har } = s ∧ ∃ y, (harvOf t c).rest = some y ∧ (who, gen, hash, pass) ∈ y.votes) := by
  refine ⟨_, exec_restoreVote hw c gen hash pass, ?_⟩
  have hr := rest_addVote h who gen hash pass
  obtain ⟨i, hi, hne, hv⟩ := hm
  have hu : undecided (addVote c who gen hash pass s) (r.voted (who, gen, hash, pass)) := by
    refine .inr ⟨i, hi, fun v hm => ?_⟩
    rcases List.mem_append.1 hm with hm | hm
    · exact hv v (List.mem_of_mem_filter hm)
    · rw [List.mem_singleton.1 hm]
      exact hne.symm
  rw [decideVotes_undecided hr hu]
  exact ⟨rfl, _, hr, List.mem_append_right _ List.mem_cons_self⟩

theorem RestDone.since {s u t : State} {c : Nat} {r r' : HRest} (h : RestDone u t c r') (hst : u.st = s.st) (hi : s.io.events <:+ u.io.events)
    (hj : u.ctl.journal = s.ctl.journal) (hq : r'.q = r.q) (hn : r'.seq = r.seq) (hs : r'.step = r.step) : RestDone s t c r := by
  obtain ⟨h1, h2, h3, h4, h5, h6, h7⟩ := h
  rw [hs] at h3 h4 h7
  refine ⟨h1, h2, h3, h4, ?_, h6.prior hi, fun x hx a b hs ha => h7 x (hj ▸ hx) (a.trans hq.symm) (b.trans hn.symm) hs ha⟩
  rw [h5, stepOf, stepOf, hst]

/-- The last vote, alike with all others, commits the restore. -/
theorem restoreVote_commits {s : State} {c who : Nat} {r : HRest} (hc : c < 256) (h : (harvOf s c).rest = some r) (hl : isLead s = true)
    (hw : who ∈ stepMembers s) (hs : r.step < 2 ^ 64) (ha : ∀ i ∈ stepMembers s, i ≠ who → ∃ v ∈ r.votes, v.1 = i)
    (hv : ∀ v ∈ r.votes, v.1 ≠ who → v.2 = (r.gen, r.hash, true)) : leadsTo (.restoreVote c who r.gen r.hash true) s (fun t =>
      RestDone s t c r ∧ .vc7 "RESTORE_COMMIT" 0x3FFF [c, r.gen] ∈ t.io.outbox) := by
  refine ⟨_, exec_restoreVote hw c r.gen r.hash true, ?_⟩
  have hr := rest_addVote h who r.gen r.hash true
  have hlead : isLead (addVote c who r.gen r.hash true s) = true :=
    (isLead_of_lead (s := s) (t := addVote c who r.gen r.hash true s) (fun _ _ _ => rfl) rfl).trans hl
  rw [decideVotes_commit hr hlead]
  · obtain ⟨hd, ho⟩ := restored_done (r := r.voted (who, r.gen, r.hash, true)) hc hs
      (emit (.vc7 "RESTORE_COMMIT" 0x3FFF [c, r.gen]) (addVote c who r.gen r.hash true s))
    exact ⟨hd.since rfl List.suffix_rfl rfl rfl rfl rfl, ho.subset (List.mem_append_right _ List.mem_cons_self)⟩
  · intro i hi
    by_cases he : i = who
    · exact ⟨_, List.mem_append_right _ List.mem_cons_self, he.symm⟩
    · obtain ⟨v, hm, hvi⟩ := ha i hi he
      exact ⟨v, List.mem_append_left _ (List.mem_filter.2 ⟨hm, by simpa [hvi] using he⟩), hvi⟩
  · intro v hm
    rcases List.mem_append.1 hm with hm | hm
    · obtain ⟨h1, h2⟩ := List.mem_filter.1 hm
      exact hv v h1 (by simpa using h2)
    · rw [List.mem_singleton.1 hm]
      rfl

/-- A restore that is refused without another manifest to try. -/
theorem restoreVoteTimeout_refuses {s : State} {c : Nat} {r : HRest} (hc : c < 256) (h : (harvOf s c).rest = some r)
    (hf : r.rflags % 2 = 0 ∨ r.fallback = true ∨ r.imp = true) : leadsTo (.restoreVoteTimeout c) s (fun t => (harvOf t c).rest = none ∧
      rget t .harvestCtxState_restoring c = 0 ∧ rget t .harvestStatus_refusedSeen 0 = 1 ∧ t.mem = s.mem ∧
      ∀ x ∈ s.ctl.journal, x.q = r.q → x.seq = r.seq → x.state = .issued → x.again = none →
        answered t x 0x0050 (if r.fallback = true then 0x0E else r.refusal.getD 0x0C)) := by
  refine ⟨decideVotes c (refused c (if isLead s then emit (.vc7 "RESTORE_REFUSED" 0x3FFF [c, r.gen]) s else s)), ?_, ?_⟩
  · show execRestoreVoteTimeout c s = _
    unfold execRestoreVoteTimeout
    rw [h]
  obtain ⟨v, hv, hh, hj, hm⟩ : ∃ v, (if isLead s then emit (.vc7 "RESTORE_REFUSED" 0x3FFF [c, r.gen]) s else s) = v ∧ v.har = s.har ∧
      v.ctl.journal = s.ctl.journal ∧ v.mem = s.mem := ⟨_, rfl, by split <;> rfl, by split <;> rfl, by split <;> rfl⟩
  rw [hv]
  have hr : (harvOf v c).rest = some r := (congrArg Harv.rest (harvOf_of_har hh c)).trans h
  have hu : refused c v = finishAt r.q r.seq stRestoreRefused (if r.fallback = true then 0x0E else r.refusal.getD 0x0C)
      (rset .harvestCtxState_restoring c 0 (rflag .harvestStatus_refusedSeen 0 (modHarv c (fun x => { x with rest := none }) v))) := by
    unfold refused refuseHere
    rw [hr]
    refine if_neg ?_
    rcases hf with hf | hf | hf <;> rw [hf] <;> simp
  have hnone : (harvOf (refused c v) c).rest = none := by
    rw [hu, harvOf_of_har (s := modHarv c (fun x => { x with rest := none }) v) (by simp), harvOf_modHarv_same]
  rw [decideVotes_none hnone]
  refine ⟨hnone, ?_, ?_, ?_, fun x hx hq hn hs ha => ?_⟩
  · rw [hu]
    exact (regAt_rset_same _ _ (show c < 256 from hc)).trans rfl
  · rw [hu, rget_eq, finishAt_regs, regAt_rset_other _ _ _ _ (by decide)]
    exact (regAt_rset_same _ _ (by decide)).trans rfl
  · rw [hu]
    simp [hm]
  · rw [hu]
    exact finishAt_answered (by simp [hj]) hx hq hn hs ha

/-! ### RESTORE (R325) -/

section
variable {s : State} {h : CmdRef} {a : Word64} {rf : BitVec 8}

/-- What RESTORE does once its record is there. -/
def restoreBody (h : CmdRef) (a : Word64) (rf : BitVec 8) (s : State) : State :=
  if (harvOf s h.ctx).gen.isSome || (harvOf s h.ctx).rest.isSome then s
  else beginRest h false rf.toNat (mkManifest (cmdRead h.ctx a.toNat (manifestLen (peek s h.ctx a.toNat 256).bytes) s).1.bytes)
    (if (cmdRead h.ctx a.toNat (manifestLen (peek s h.ctx a.toNat 256).bytes) s).1.bad.isEmpty then none else some 1)
    (cmdRead h.ctx a.toNat (manifestLen (peek s h.ctx a.toNat 256).bytes) s).2

theorem exec_restore : exec (.restore h a rf) s = .next (runCmd 0x53 h (restoreBody h a rf) s) := (rfl)

/-- The restore that IMPORT_A2 begins. -/
def importRest (h : CmdRef) (a : Word64) (s : State) : HRest :=
  ⟨h.q, h.seq.toNat, true, 0, false, 0, (readImport s h.ctx a.toNat).step, 0, sha256 (readImport s h.ctx a.toNat).man,
    importCheck s h.ctx a.toNat (readImport s h.ctx a.toNat), []⟩

theorem importRest_fields (s : State) (h : CmdRef) (a : Word64) : (importRest h a s).q = h.q ∧ (importRest h a s).seq = h.seq.toNat ∧
    (importRest h a s).gen = 0 ∧ (importRest h a s).step = (readImport s h.ctx a.toNat).step ∧
    (importRest h a s).hash = sha256 (readImport s h.ctx a.toNat).man ∧
    (importRest h a s).refusal = importCheck s h.ctx a.toNat (readImport s h.ctx a.toNat) ∧ (importRest h a s).imp = true := by
  unfold importRest
  exact ⟨rfl, rfl, rfl, rfl, rfl, rfl, rfl⟩

/-- A restore begins to be voted on: the command waits. -/
def voting (h : CmdRef) (r : HRest) (s : State) : State :=
  rset .harvestCtxState_restoring h.ctx 1 (modHarv h.ctx (fun x => { x with rest := some r }) (waitFor h .vote s))

/-- What IMPORT_A2 does once its record is there. -/
def importBody (h : CmdRef) (a : Word64) (s : State) : State :=
  if (harvOf s h.ctx).gen.isSome || (harvOf s h.ctx).rest.isSome then s
  else if stepSt s h.ctx ≠ 0 then rflag .harvestStatus_refusedSeen 0 (finish h stRestoreRefused 0xD s)
  else decideVotes h.ctx (castVote h.ctx (if (importRest h a s).refusal.isNone
    then streamImport h.ctx (readImport s h.ctx a.toNat) (leaveIdle (voting h (importRest h a s) s)) else voting h (importRest h a s) s))

theorem exec_importA2 : exec (.importA2 h a) s = .next (runCmd 0x54 h (importBody h a) s) := (rfl)

theorem restore_held (hm : mayRun 0x53 h s = true) (hb : (harvOf s h.ctx).gen.isSome = true ∨ (harvOf s h.ctx).rest.isSome = true) :
    leadsTo (.restore h a rf) s (fun t => t = started 0x53 h s) :=
  leadsTo_runCmd exec_restore hm fun _ hl => (if_pos (Bool.or_eq_true_iff.2 hb)).trans hl.symm

theorem importA2_held (hm : mayRun 0x54 h s = true) (hb : (harvOf s h.ctx).gen.isSome = true ∨ (harvOf s h.ctx).rest.isSome = true) :
    leadsTo (.importA2 h a) s (fun t => t = started 0x54 h s) :=
  leadsTo_runCmd exec_importA2 hm fun _ hl => (if_pos (Bool.or_eq_true_iff.2 hb)).trans hl.symm

theorem notBusy {x : Harv} (hg : x.gen = none) (hr : x.rest = none) : ¬ (x.gen.isSome || x.rest.isSome) = true := by
  rw [hg, hr]
  decide

theorem almDetection_mem (code src c detail : Nat) (s : State) : (almDetection code src c detail s).mem = s.mem := by rw [almDetection_eq]

theorem cxlPoison_mem (s : State) (a : Nat) : (cxlPoison s a).mem = s.mem := by
  unfold cxlPoison
  split <;> simp

theorem reportBad_bytes (reader c task mb a : Nat) (s : State) : (reportBad reader c task mb a s).mem.bytes = s.mem.bytes := by
  unfold reportBad
  cases locate s a with
  | mem k =>
    dsimp only
    split
    · split
      · simp [almDetection_mem]
      · rw [(migTrigger_kept ..).2.1]
        simp [almDetection_mem]
    · simp [almDetection_mem]
  | cxl m k => simp [almDetection_mem, cxlPoison_mem]
  | _ => rfl

/-- A read of a command leaves the journal, the harvest state and the stored bytes. -/
theorem cmdRead_frame (c a n : Nat) (s : State) : (cmdRead c a n s).2.ctl.journal = s.ctl.journal ∧ (cmdRead c a n s).2.har = s.har ∧
    (cmdRead c a n s).2.mem.bytes = s.mem.bytes ∧ Told (accessFlds ++ poisonFlds) s (cmdRead c a n s).2 := by
  have hread : (ctxRead c a n s).2.work = s.work ∧ (ctxRead c a n s).2.mem = s.mem ∧ Told (accessFlds ++ poisonFlds) s (ctxRead c a n s).2 :=
    ⟨by simp [ctxRead], by simp [ctxRead], ((Told.rfl.countViol (by decide) ..).chargeMem ..).useFree⟩
  have hall : ∀ l u, (reportAll 6 c 0xFFFF 0xFFFF l u).work = u.work ∧ (reportAll 6 c 0xFFFF 0xFFFF l u).mem.bytes = u.mem.bytes ∧
      Told (accessFlds ++ poisonFlds) u (reportAll 6 c 0xFFFF 0xFFFF l u) := fun l u =>
    List.foldlRecOn l _ (motive := fun v => v.work = u.work ∧ v.mem.bytes = u.mem.bytes ∧ Told (accessFlds ++ poisonFlds) u v) ⟨rfl, rfl, .rfl⟩
      fun v ⟨h1, h2, h3⟩ b _ => ⟨(work_reportBad ..).trans h1, (reportBad_bytes ..).trans h2, h3.reportBad (by decide) ..⟩
  obtain ⟨h1, h2, h3⟩ := hread
  obtain ⟨k1, k2, k3⟩ := hall (ctxRead c a n s).1.bad (ctxRead c a n s).2
  obtain ⟨-, -, hj, -, -, -, -, -, hh, -⟩ := work_eq_iff.1 (k1.trans h1)
  exact ⟨hj, hh, k2.trans (congrArg Mem.bytes h2), h3.trans k3⟩

theorem restore_open (hm : mayRun 0x53 h s = true) (hg : (harvOf s h.ctx).gen = none) (hr : (harvOf s h.ctx).rest = none) (hs : stepSt s h.ctx ≠ 0) :
    leadsTo (.restore h a rf) s (fun t => replied h 0x0050 0x0D t = true ∧ t.har = s.har ∧ t.mem.bytes = s.mem.bytes) := by
  refine leadsTo_runCmd exec_restore hm fun l hl => ?_
  unfold restoreBody
  rw [if_neg (notBusy (x := harvOf (setJournal l s) h.ctx) hg hr)]
  generalize manifestLen (peek (setJournal l s) h.ctx a.toNat 256).bytes = n
  obtain ⟨h1, h2, h3, h4⟩ := cmdRead_frame h.ctx a.toNat n (setJournal l s)
  generalize cmdRead h.ctx a.toNat n (setJournal l s) = r at h1 h2 h3 h4
  unfold beginRest
  rw [if_pos (show stepSt r.2 h.ctx ≠ 0 by rw [stepSt, rget_eq, h4.regs _ _ rfl (by decide)]; exact hs)]
  refine ⟨?_, by simpa using h2, by simpa using h3⟩
  exact (finish_replied_of hm hl (t := r.2) h1)

theorem importA2_open (hm : mayRun 0x54 h s = true) (hg : (harvOf s h.ctx).gen = none) (hr : (harvOf s h.ctx).rest = none) (hs : stepSt s h.ctx ≠ 0) :
    leadsTo (.importA2 h a) s (fun t => replied h 0x0050 0x0D t = true ∧ t.har = s.har ∧ t.mem.bytes = s.mem.bytes) := by
  refine leadsTo_runCmd exec_importA2 hm fun l hl => ?_
  unfold importBody
  rw [if_neg (notBusy (x := harvOf (setJournal l s) h.ctx) hg hr), if_pos (show stepSt (setJournal l s) h.ctx ≠ 0 from hs)]
  exact ⟨finish_replied_of hm hl rfl, by simp, by simp⟩

end

/-! ### The vote of this module -/

theorem ctxWrite_polled (c a : Nat) (b : List Byte) (s : State) : Polled s (ctxWrite c a b s) := by
  obtain ⟨-, -, hj, -, -, -, -, -, hh, hf⟩ := work_eq_iff.1 (work_ctxWrite c a b s)
  exact .of_said (F := accessFlds) (Told.rfl.ctxWrite (by decide) ..).said (by decide) hf hh hj

theorem areasZero_polled (l : List Nat) (n : Nat) (s : State) : Polled s (areasZero l n s) := by
  obtain ⟨m, hm⟩ := areasZero_mem l n s
  rw [hm]
  exact ⟨fun _ _ _ => rfl, rfl, rfl, rfl⟩

theorem modStep_polled (c : Nat) (f : StepCtx → StepCtx) (s : State) : Polled s (modStep c f s) := ⟨fun _ _ _ => rfl, rfl, rfl, rfl⟩

theorem foldl_polled {α : Type} {f : State → α → State} (hf : ∀ t a, Polled t (f t a)) (l : List α) (s : State) : Polled s (l.foldl f s) :=
  List.foldlRecOn l f (motive := Polled s) .rfl fun _ h a _ => h.trans (hf _ a)

theorem streamShard_polled (c : Nat) (b : List Byte) (s : State) : Polled s (streamShard c b s) := by
  unfold streamShard
  split
  · exact .rfl
  · dsimp only
    split
    · exact ((modStep_polled ..).trans (foldl_polled (fun _ _ => ctxWrite_polled ..) ..)).trans (areasZero_polled ..)
    · exact ((modStep_polled ..).trans (foldl_polled (fun _ _ => ctxWrite_polled ..) ..)).trans (foldl_polled (fun _ _ => ctxWrite_polled ..) ..)

theorem streamImport_polled (c : Nat) (x : Import) (s : State) : Polled s (streamImport c x s) := by
  unfold streamImport
  split
  · exact .rfl
  · dsimp only
    refine (((modStep_polled ..).trans (foldl_polled (fun t e => ?_) ..)).trans (ctxWrite_polled ..)).trans
      ((foldl_polled (fun _ _ => ctxWrite_polled ..) ..).trans (areasZero_polled ..))
    split
    · exact ctxWrite_polled ..
    · exact .rfl

/-- A member that is not the lead sends its vote, and the lead's decision is awaited. -/
theorem castVote_sends {s t : State} {c : Nat} {r : HRest} (ht : (harvOf t c).rest = some r) (hl : isLead s = false)
    (hr : ∀ f ∈ leadFlds, ∀ i, rget t f i = rget s f i) (hf : t.fab = s.fab) : decideVotes c (castVote c t) =
      emit (.data "RESTORE_VOTE" (harvestLead s) [c, ownRoster s, r.gen, b2n r.refusal.isNone] r.hash) t := by
  have hcast : castVote c t = emit (.data "RESTORE_VOTE" (harvestLead s) [c, ownRoster s, r.gen, b2n r.refusal.isNone] r.hash) t := by
    unfold castVote
    rw [ht]
    dsimp only
    rw [if_neg (by rw [isLead_of_lead hr hf, hl]; exact Bool.false_ne_true), harvestLead_of_lead hr hf, ownRoster_of_lead hr]
  rw [hcast]
  exact decideVotes_undecided (r := r) ht (.inl ((isLead_of_lead (t := emit _ t) hr hf).trans hl))

/-- The state in which a restore is voted on, as far as the vote goes. -/
theorem voting_spec (h : CmdRef) (r : HRest) (s : State) : (harvOf (voting h r s) h.ctx).rest = some r ∧
    (harvOf (voting h r s) h.ctx).targets = (harvOf s h.ctx).targets ∧ (voting h r s).fab = s.fab ∧
    (∀ f ∈ leadFlds, ∀ i, rget (voting h r s) f i = rget s f i) ∧ (voting h r s).ctl = (waitFor h .vote s).ctl ∧
    (h.ctx < 256 → rget (voting h r s) .harvestCtxState_restoring h.ctx = 1) := by
  have hv : harvOf (voting h r s) h.ctx = { harvOf s h.ctx with rest := some r } := by
    rw [voting, harvOf_of_har (s := modHarv h.ctx (fun x => { x with rest := some r }) (waitFor h .vote s)) (rset_har ..), harvOf_modHarv_same]
    rfl
  refine ⟨by rw [hv], by rw [hv], by simp [voting], fun f hf i => ?_, by simp [voting], fun hc => (regAt_rset_same _ _ (show h.ctx < 256 from hc)).trans rfl⟩
  have hne : f ≠ .harvestCtxState_restoring := by rintro rfl; revert hf; decide
  rw [rget_eq, voting, regAt_rset_other _ _ _ _ hne]
  rfl

theorem waitsOn_of_journal {s t : State} (hj : t.ctl.journal = s.ctl.journal) (h : CmdRef) (w : Wait) : waitsOn h w t = waitsOn h w s := by
  simp only [waitsOn, findRec, hj]

theorem leaveIdle_polled (s : State) : Polled s (leaveIdle s) :=
  .of_said (F := openFlds) (leaveIdle_told s).said (by decide) (by simp) (by simp) (by simp)

/-- A restore after its manifest was checked. -/
def HRest.checked (m : Manifest) (d : Option Nat) (r : HRest) : HRest :=
  { r with gen := m.gen, step := m.step, commit := m.commit, hash := sha256 m.msg, refusal := d, votes := [] }

theorem HRest.checked_fields (m : Manifest) (d : Option Nat) (r : HRest) : (r.checked m d).q = r.q ∧ (r.checked m d).seq = r.seq ∧
    (r.checked m d).gen = m.gen ∧ (r.checked m d).step = m.step ∧ (r.checked m d).commit = m.commit ∧ (r.checked m d).hash = sha256 m.msg ∧
    (r.checked m d).refusal = d ∧ (r.checked m d).imp = r.imp := ⟨rfl, rfl, rfl, rfl, rfl, rfl, rfl, rfl⟩

/-- The state in which the vote is cast: the shard streamed where it may be. -/
def shardTried (c : Nat) (m : Manifest) (d : Option Nat) (s : State) : State :=
  modHarv c (fun x => { x with rest := x.rest.map (HRest.checked m d) })
    (if d.isNone || d == some (9 + 256 * (myEntry s m).getD 0) then streamShard c (readShard s c m ((myEntry s m).getD 0)).bytes s else s)

theorem tryManifest_eq (c : Nat) (m : Manifest) (s : State) : tryManifest c m none s = castVote c (shardTried c m (restoreCheck s c m) s) := (rfl)

theorem shardTried_spec {s : State} {c : Nat} {m : Manifest} {d : Option Nat} {r : HRest} (h : (harvOf s c).rest = some r) :
    (harvOf (shardTried c m d s) c).rest = some (r.checked m d) ∧ (∀ f ∈ pollFlds, ∀ i, rget (shardTried c m d s) f i = rget s f i) ∧
    (shardTried c m d s).fab = s.fab ∧ (shardTried c m d s).ctl.journal = s.ctl.journal := by
  unfold shardTried
  generalize hu : (if d.isNone || d == some (9 + 256 * (myEntry s m).getD 0) then streamShard c (readShard s c m ((myEntry s m).getD 0)).bytes s else s) = u
  have hp : Polled s u := by
    rw [← hu]
    split
    · exact streamShard_polled ..
    · exact .rfl
  refine ⟨?_, hp.regs, hp.fab, hp.journal⟩
  rw [harvOf_modHarv_same, harvOf_of_har hp.har, h]
  rfl

theorem mem_pollFlds {f : Fld} (h : f ∈ leadFlds) : f ∈ pollFlds := List.mem_cons_of_mem _ h

section
variable {s : State} {h : CmdRef}

/-- The vote after a RESTORE of which the manifest was read whole. -/
theorem beginRest_votes (hc : h.ctx < 256) (hs : stepSt s h.ctx = 0) (hl : isLead s = false) (hp : rget s .pwrState_state 0 ≠ 1) {u : State}
    (hu : Peeks (useFree s) u) (hreg : ∀ f i, rget u f i = rget s f i) (hh : u.har = s.har) (hf : u.fab = s.fab) (n : Nat) (m : Manifest) :
    ∃ v, beginRest h false n m none u = emit (.data "RESTORE_VOTE" (harvestLead s)
      [h.ctx, ownRoster s, m.gen, b2n (restoreCheck (useFree s) h.ctx m).isNone] (sha256 m.msg)) v ∧
      v.ctl.journal = (waitFor h .vote u).ctl.journal ∧ rget v .harvestCtxState_restoring h.ctx = 1 ∧
      (harvOf v h.ctx).rest = some (HRest.checked m (restoreCheck (useFree s) h.ctx m) ⟨h.q, h.seq.toNat, false, n, false, m.gen, m.step, m.commit, [], none, []⟩) := by
  generalize hr0 : (⟨h.q, h.seq.toNat, false, n, false, m.gen, m.step, m.commit, [], none, []⟩ : HRest) = r0
  have he : beginRest h false n m none u = decideVotes h.ctx (tryManifest h.ctx m none (leaveIdle (voting h r0 u))) := by
    rw [← hr0]
    exact if_neg (by rw [stepSt, hreg]; exact not_not.2 hs)
  obtain ⟨v1, v2, v3, v4, v5, v6⟩ := voting_spec h r0 u
  have hi : leaveIdle (voting h r0 u) = voting h r0 u := by
    refine if_neg ?_
    rw [rget_eq, voting, regAt_rset_other _ _ _ _ (by decide)]
    exact fun hx => hp ((hreg ..).symm.trans hx)
  have hpk : Peeks (useFree s) (voting h r0 u) := by
    refine ⟨fun f hne i => ?_, ?_, ?_, ?_, ?_, ?_, ?_, ?_⟩
    · rw [rget_eq, voting, regAt_rset_other _ _ _ _ hne]
      exact hu.regs f hne i
    · simpa [voting] using hu.sp
    · simpa [voting] using hu.ctxs
    · simpa [voting] using hu.parts
    · simpa [voting] using hu.free
    · simpa [voting] using hu.mem
    · simpa [voting] using hu.host
    · simpa [voting] using hu.hostMem
  have hd : restoreCheck (voting h r0 u) h.ctx m = restoreCheck (useFree s) h.ctx m :=
    hpk.restoreCheck (v2.trans (congrArg Harv.targets (harvOf_of_har (s := useFree s) hh h.ctx))) m
  rw [he, hi, tryManifest_eq, hd]
  obtain ⟨w1, w2, w3, w4⟩ := shardTried_spec (m := m) (d := restoreCheck (useFree s) h.ctx m) v1
  generalize shardTried h.ctx m (restoreCheck (useFree s) h.ctx m) (voting h r0 u) = w at w1 w2 w3 w4
  refine ⟨w, castVote_sends w1 hl (fun f hf i => ((w2 f (mem_pollFlds hf) i).trans (v4 f hf i)).trans (hreg f i)) (w3.trans (v3.trans hf)), ?_, ?_, w1⟩
  · rw [w4, v5]
  · exact (w2 _ (by decide) _).trans (v6 hc)

end

section
variable {s : State} {h : CmdRef} {a : Word64} {rf : BitVec 8}

/-- RESTORE of a manifest that lies in plain memory begins with what that memory holds. -/
theorem restoreBody_plain {l : List Rec} {k : Nat} (hg : (harvOf s h.ctx).gen = none) (hr : (harvOf s h.ctx).rest = none)
    (hpl : plainAt s h.ctx false a.toNat (manifestLen (sgetN 0 s.mem.bytes k 256)) k) : restoreBody h a rf (setJournal l s) =
      beginRest h false rf.toNat (mkManifest (sgetN 0 s.mem.bytes k (manifestLen (sgetN 0 s.mem.bytes k 256)))) none
        (useFree (chargeMem h.ctx (tierBytes a.toNat (manifestLen (sgetN 0 s.mem.bytes k 256))) (setJournal l s))) := by
  have hhead : plainAt (setJournal l s) h.ctx false a.toNat 256 k :=
    plainAt_setJournal l fun i hi => hpl i (by unfold manifestLen; omega)
  unfold restoreBody
  rw [if_neg (notBusy (x := harvOf (setJournal l s) h.ctx) hg hr), peek_plain hhead, setJournal_mem]
  dsimp only
  rw [cmdRead_plain (plainAt_setJournal l hpl)]
  rfl

theorem restore_votes (hc : h.ctx < 256) (hg : (harvOf s h.ctx).gen = none) (hr : (harvOf s h.ctx).rest = none) (hs : stepSt s h.ctx = 0)
    (hl : isLead s = false) {k : Nat} (hm : mayRun 0x53 h s = true) (hp : rget s .pwrState_state 0 ≠ 1)
    (hpl : plainAt s h.ctx false a.toNat (manifestLen (sgetN 0 s.mem.bytes k 256)) k) :
    let m := mkManifest (sgetN 0 s.mem.bytes k (manifestLen (sgetN 0 s.mem.bytes k 256)))
    let d := restoreCheck (useFree s) h.ctx m
    leadsTo (.restore h a rf) s (fun t => waitsOn h .vote t = true ∧ rget t .harvestCtxState_restoring h.ctx = 1 ∧
      (∃ r, (harvOf t h.ctx).rest = some r ∧ r.q = h.q ∧ r.seq = h.seq.toNat ∧ r.gen = m.gen ∧ r.step = m.step ∧ r.commit = m.commit ∧
        r.hash = sha256 m.msg ∧ r.refusal = d ∧ r.imp = false) ∧
      .data "RESTORE_VOTE" (harvestLead s) [h.ctx, ownRoster s, m.gen, b2n d.isNone] (sha256 m.msg) ∈ t.io.outbox) := by
  intro m d
  refine leadsTo_runCmd exec_restore hm fun l hlj => ?_
  rw [restoreBody_plain hg hr hpl]
  generalize hu : useFree (chargeMem h.ctx (tierBytes a.toNat (manifestLen (sgetN 0 s.mem.bytes k 256))) (setJournal l s)) = u
  have hue : u = { useFree s with ctl := u.ctl, pow := u.pow } ∧ u.ctl = { s.ctl with journal := l } := by
    rw [← hu, chargeMem_eq]
    exact ⟨rfl, rfl⟩
  obtain ⟨hue, huc⟩ := hue
  have hpk : Peeks (useFree s) u := by
    refine ⟨fun f _ i => ?_, ?_, ?_, ?_, ?_, ?_, ?_, ?_⟩
    · rw [hue]; rfl
    · rw [hue]
    · rw [huc]; rfl
    · rw [huc]; rfl
    · rw [hue]
    · rw [hue]
    · rw [hue]
    · rw [hue]
  obtain ⟨v, he, hj, hres, hrest⟩ := beginRest_votes (n := rf.toNat) (m := m) hc hs hl hp hpk (fun f i => by rw [hue]; rfl) (by rw [hue]; rfl) (by rw [hue]; rfl)
  change beginRest h false rf.toNat m none u = emit (.data _ _ [h.ctx, ownRoster s, m.gen, b2n d.isNone] _) v at he
  change (harvOf v h.ctx).rest = some (HRest.checked m d _) at hrest
  clear_value d
  rw [he]
  obtain ⟨f1, f2, f3, f4, f5, f6, f7, f8⟩ := HRest.checked_fields m d
    ⟨h.q, h.seq.toNat, false, rf.toNat, false, m.gen, m.step, m.commit, [], none, []⟩
  refine ⟨?_, hres, ⟨_, hrest, f1, f2, f3, f4, f5, f6, f7, f8⟩, List.mem_append_right _ List.mem_cons_self⟩
  exact (waitsOn_of_journal (s := waitFor h .vote u) (t := emit _ v) hj h .vote).trans (waitFor_waits_of hm hlj (by rw [huc]))

theorem setJournal_peeks (l : List Rec) (s : State) : Peeks s (setJournal l s) := ⟨fun _ _ _ => rfl, rfl, rfl, rfl, rfl, rfl, rfl, rfl⟩

theorem importRest_setJournal (l : List Rec) : importRest h a (setJournal l s) = importRest h a s := by
  have hp := (setJournal_peeks l s).peek
  have hi : readImport (setJournal l s) h.ctx a.toNat = readImport s h.ctx a.toNat := by
    unfold readImport
    have hd : ∀ b, readDesc (setJournal l s) h.ctx b = readDesc s h.ctx b := fun b =>
      readDesc_congr (s := s) (t := setJournal l s) rfl rfl rfl rfl rfl rfl rfl rfl h.ctx b
    simp only [hp, hd]
  have hc : importCheck (setJournal l s) h.ctx a.toNat = importCheck s h.ctx a.toNat := by
    funext x
    unfold importCheck
    simp only [hp, (setJournal_peeks l s).trusted]
  rw [importRest, importRest, hi, hc]

theorem importA2_votes (hc : h.ctx < 256) (hg : (harvOf s h.ctx).gen = none) (hr : (harvOf s h.ctx).rest = none) (hs : stepSt s h.ctx = 0)
    (hl : isLead s = false) (hm : mayRun 0x54 h s = true) :
    let x := readImport s h.ctx a.toNat
    let d := importCheck s h.ctx a.toNat x
    leadsTo (.importA2 h a) s (fun t => waitsOn h .vote t = true ∧ rget t .harvestCtxState_restoring h.ctx = 1 ∧
      (∃ r, (harvOf t h.ctx).rest = some r ∧ r.q = h.q ∧ r.seq = h.seq.toNat ∧ r.step = x.step ∧ r.refusal = d ∧ r.imp = true) ∧
      .data "RESTORE_VOTE" (harvestLead s) [h.ctx, ownRoster s, 0, b2n d.isNone] (sha256 x.man) ∈ t.io.outbox) := by
  intro x d
  refine leadsTo_runCmd exec_importA2 hm fun l hlj => ?_
  unfold importBody
  rw [if_neg (notBusy (x := harvOf (setJournal l s) h.ctx) hg hr), if_neg (show ¬ stepSt (setJournal l s) h.ctx ≠ 0 from not_not.2 hs), importRest_setJournal]
  obtain ⟨v1, -, v3, v4, v5, v6⟩ := voting_spec h (importRest h a s) (setJournal l s)
  generalize voting h (importRest h a s) (setJournal l s) = v at v1 v3 v4 v5 v6
  generalize hw : (if (importRest h a s).refusal.isNone then streamImport h.ctx (readImport (setJournal l s) h.ctx a.toNat) (leaveIdle v) else v) = w
  have hp : Polled v w := by
    rw [← hw]
    split
    · exact (leaveIdle_polled v).trans (streamImport_polled ..)
    · exact .rfl
  have hrest : (harvOf w h.ctx).rest = some (importRest h a s) := (congrArg Harv.rest (harvOf_of_har hp.har h.ctx)).trans v1
  rw [castVote_sends hrest hl (fun f hf i => (hp.regs f (mem_pollFlds hf) i).trans (v4 f hf i)) (hp.fab.trans v3)]
  obtain ⟨f1, f2, f3, f4, f5, f6, f7⟩ := importRest_fields s h a
  generalize importRest h a s = r at hrest f1 f2 f3 f4 f5 f6 f7
  rw [f3, f5, f6]
  refine ⟨?_, (hp.regs _ (by decide) _).trans (v6 hc), ⟨r, hrest, f1, f2, f4, f6, f7⟩, List.mem_append_right _ List.mem_cons_self⟩
  exact (waitsOn_of_journal (s := waitFor h .vote (setJournal l s)) (t := emit _ w) (hp.journal.trans (congrArg Ctl.journal v5)) h .vote).trans
    (waitFor_waits_of hm hlj rfl)

end

theorem restoreCommit_done {s : State} {c : Nat} {r : HRest} (hc : c < 256) (h : (harvOf s c).rest = some r) (hs : r.step < 2 ^ 64)
    (hr : r.refusal = none) : leadsTo (.restoreCommit c) s (fun t => RestDone s t c r) := by
  refine ⟨restored c r s, ?_, (restored_done hc hs s).1⟩
  show execRestoreCommit c s = _
  unfold execRestoreCommit
  rw [h]
  exact if_pos (by rw [hr]; rfl)

theorem restoreCommit_refused {s : State} {c : Nat} {r : HRest} (h : (harvOf s c).rest = some r) (hr : r.refusal ≠ none) : noEffect (.restoreCommit c) s := by
  show execRestoreCommit c s = _
  unfold execRestoreCommit
  rw [h]
  exact if_neg (by simpa using hr)

/-- Settles O46: each command and message by its lemma. -/
theorem restoreAndImport : Obligations.RestoreAndImport := by
  unfold Obligations.RestoreAndImport
  intro s
  refine ⟨fun h a rf => ⟨fun p hp hm => ?_, fun hc hg hr hs hl => ⟨fun k hm hpw hpl => restore_votes hc hg hr hs hl hm hpw hpl,
    fun hm => importA2_votes hc hg hr hs hl hm⟩⟩, fun c r hc hr => ⟨restoreCommit_done hc hr, restoreCommit_refused hr,
    fun who gen hash pass hl hw => ⟨restoreVote_kept hr hw gen hash pass, fun hs ha hv => restoreVote_commits hc hr hl hw hs ha hv⟩,
    fun who gen hash pass hw => exec_restoreVote_other hw c gen hash pass, restoreVoteTimeout_refuses hc hr⟩⟩
  rcases List.mem_cons.1 hp with rfl | hp
  · exact ⟨restore_held hm, restore_open hm⟩
  · cases List.mem_singleton.1 hp
    exact ⟨importA2_held hm, importA2_open hm⟩

end Sys2Proof.Machine
end


section
/-! PROOFS. Teardowns, sweep tokens, quarantines and fences. -/

namespace Sys2Proof.Machine

/-! ### What a write leaves of the units -/

theorem writePiece_sp (c a : Nat) (b : List Byte) (s : State) : (writePiece c a b s).sp = s.sp := by
  have hk : ∀ k, (keyWrite k b s).sp = s.sp := fun k => by
    unfold keyWrite
    split
    · rfl
    · split <;> rfl
  have hv : (countViol c 1 s).sp = s.sp := count_sp ..
  have ht : ∀ n u, (touch c n u).sp = u.sp := fun n u => by
    unfold touch
    dsimp only
    split <;> rfl
  unfold writePiece
  split
  · exact hv
  split
  · exact hv
  · exact hk _
  · split
    · simp [hk]
    · rfl
  · exact hv
  · exact ht _ _

theorem writePieces_sp (c : Nat) (l : List (Nat × Nat)) (b : List Byte) (s : State) : (writePieces c l b s).sp = s.sp := by
  induction l generalizing b s with
  | nil => rfl
  | cons p l ih => exact (ih ..).trans (writePiece_sp ..)

theorem ctxWrite_sp (c a : Nat) (b : List Byte) (s : State) : (ctxWrite c a b s).sp = s.sp := by
  rw [ctxWrite, chargeMem_eq]
  exact writePieces_sp ..

theorem replyOne_sp (q : Nat) (s : State) : (replyOne q s).sp = s.sp := by
  unfold replyOne
  split
  · split
    · split
      · rfl
      · dsimp only
        have hw : ∀ c a b (m : Bool), (if m then ctxWrite c a b s else hostWrite a b s).sp = s.sp := fun c a b m => by
          cases m
          · rfl
          · exact ctxWrite_sp ..
        show State.sp (if _ then _ else _) = s.sp
        split
        · exact (msix_sp ..).trans (hw ..)
        · exact hw ..
    · rfl
  · rfl

/-! ### Acknowledgements (R402, R403) -/

/-- A teardown without an engine that has acknowledged. -/
def Teardown.acked (e : Nat) (k : Teardown) : Teardown := { k with acks := k.acks.filter (fun a => a != e) }

/-- The context once an engine has acknowledged. -/
def Ctx.acked (e : Nat) (x : Ctx) : Ctx := { x with teardown := x.teardown.map (Teardown.acked e) }

section
variable {s : State} {c e : Nat} {x : Ctx} {k : Teardown}

theorem exec_teardownAck_none (h : (ctx? s c).elim true (fun x => x.teardown.elim true (fun k => !k.acks.contains e)) = true) :
    exec (.teardownAck c e) s = .next s := if_pos h

theorem exec_teardownAck (hx : ctx? s c = some x) (hk : x.teardown = some k) (he : e ∈ k.acks) :
    exec (.teardownAck c e) s = .next (tearReplies c (modCtx c (Ctx.acked e) s)) := by
  refine if_neg ?_
  rw [hx, Option.elim_some, hk, Option.elim_some, List.contains_iff_mem.2 he]
  decide

theorem ctx?_acked (hx : ctx? s c = some x) (hk : x.teardown = some k) :
    ctx? (modCtx c (Ctx.acked e) s) c = some { x with teardown := some (k.acked e) } := by
  rw [ctx?_modCtx_same, hx, Option.map_some, Ctx.acked, hk]
  rfl

theorem teardownAck_waits (hx : ctx? s c = some x) (hk : x.teardown = some k) (he : e ∈ k.acks) (ho : ∃ a ∈ k.acks, a ≠ e) :
    leadsTo (.teardownAck c e) s (fun t => onlyCtl s t ∧ t.ctl.journal = s.ctl.journal ∧
      ctx? t c = some { x with teardown := some { k with acks := k.acks.filter (fun a => a != e) } }) := by
  refine ⟨_, exec_teardownAck hx hk he, ?_⟩
  have hc := ctx?_acked (e := e) hx hk
  have hm : modCtx c (Ctx.acked e) s = setCtx c (Ctx.acked e x) s := by
    unfold modCtx
    rw [hx]
  have hne : (k.acked e).acks.isEmpty = false := by
    obtain ⟨a, ha, hne⟩ := ho
    have : a ∈ (k.acked e).acks := List.mem_filter.2 ⟨ha, by simpa using hne⟩
    cases hl : (k.acked e).acks with
    | nil => rw [hl] at this; cases this
    | cons _ _ => rfl
  have ht : tearReplies c (modCtx c (Ctx.acked e) s) = modCtx c (Ctx.acked e) s := by
    unfold tearReplies
    rw [hc, Option.bind_some]
    exact if_pos (by rw [hne]; rfl)
  rw [ht]
  refine ⟨?_, ?_, hc⟩ <;> rw [hm] <;> rfl

/-- The last acknowledgement of a context of which no token is out and no command is listed: the teardown ends at once. -/
theorem tearReplies_ends (hx : ctx? s c = some x) (hk : x.teardown = some k) (ha : k.acks = []) (ht : tokensOf s c = []) (htouch : sget [] s.vig.touch c = [])
    (hj : ∀ r ∈ s.ctl.journal, r.ctx ≠ c) : ∃ v, tearReplies c s = endTeardown c false { s with vig := v } := by
  have h1 : abortRecs c k.status (fun _ => true) s = s := by
    have : s.ctl.journal.map (fun r => if r.ctx = c && (fun _ => true) r then replyOf s k.status 0 r else r) = s.ctl.journal := by
      rw [List.map_congr_left (g := id), List.map_id]
      intro r hr
      exact if_neg (by simpa using hj r hr)
    unfold abortRecs
    rw [this]
    rfl
  have h2 : flushReplies c s = s := by
    unfold flushReplies
    rw [List.filter_eq_nil_iff.2 (fun r hr => by simpa using hj r hr)]
    rfl
  have h3 : sendTokens c s = { s with vig := { s.vig with touch := sset [] s.vig.touch c [] } } := by
    unfold sendTokens
    rw [htouch]
    rfl
  refine ⟨{ s.vig with touch := sset [] s.vig.touch c [] }, ?_⟩
  unfold tearReplies
  rw [hx, Option.bind_some, hk]
  dsimp only
  rw [ha, h1, h2, h3]
  refine (if_neg (by decide)).trans (if_pos ?_)
  show ((ctx? s c).elim false (fun x => x.teardown.elim false (fun t => t.acks.isEmpty)) && (tokensOf s c).isEmpty) = true
  rw [hx, Option.elim_some, hk, Option.elim_some, ha, ht]
  rfl

end

/-! ### The end of a teardown (Table 16.3, step 7) -/

/-- The fields that end with a context. -/
def ctxFlds : List Fld := [.stepCtxState_level, .stepCtxState_sameTray, .stepCtxState_mirrored, .stepCtxState_agreed, .stepCtxState_rot, .stepCtxState_state,
  .stepCtxStep_step, .stepCommitSeq_seq, .stepCtxCommitted_step, .stepCtxAttempt_attempt]

theorem foldl_rset_frame (l : List Fld) (i v : Nat) (s : State) : (∃ r, l.foldl (fun s f => rset f i v s) s = { s with regs := r }) ∧
    ∀ f j, f ∉ l → rget (l.foldl (fun s f => rset f i v s) s) f j = rget s f j := by
  induction l generalizing s with
  | nil => exact ⟨⟨s.regs, rfl⟩, fun _ _ _ => rfl⟩
  | cons g l ih =>
    obtain ⟨⟨r, hr⟩, h2⟩ := ih (rset g i v s)
    obtain ⟨q, hq⟩ : ∃ q, rset g i v s = { s with regs := q } := ⟨(rset g i v s).regs, rset_regsOnly ..⟩
    refine ⟨⟨r, ?_⟩, fun f j hf => ?_⟩
    · rw [List.foldl_cons, hr, hq]
    · rw [List.foldl_cons, h2 f j (fun h => hf (List.mem_cons_of_mem _ h)), rget_eq, regAt_rset_other _ _ _ _ (fun h => hf (by rw [h]; exact List.mem_cons_self))]
      rfl

/-- The state of a context's end before its registers are cleared. -/
def ctxGone (c : Nat) (quar : Bool) (s : State) : State :=
  { s with ctl := { s.ctl with ctxs := sdel s.ctl.ctxs c, journal := s.ctl.journal.filter (fun r => r.ctx != c),
                               queues := if quar then s.ctl.queues.map (fun x => if x.2.ctx = c then (x.1, { x.2 with state := .quarantined, fetched := [] }) else x)
                                 else s.ctl.queues.filter (fun x => x.2.ctx != c) },
           gr := { s.gr with graphs := s.gr.graphs.filter (fun x => x.1 / 65536 != c) }, st := sdel s.st c, har := sdel s.har c,
           pow := { s.pow with gone := s.pow.gone + sget 0 s.pow.charge c, charge := sdel s.pow.charge c } }

theorem dropCtx_eq (c : Nat) (quar : Bool) (s : State) : dropCtx c quar s = ctxFlds.foldl (fun s f => rset f c 0 s) (ctxGone c quar s) := (rfl)

theorem dropCtx_spec (c : Nat) (quar : Bool) (s : State) : ctx? (dropCtx c quar s) c = none ∧ (dropCtx c quar s).io = s.io ∧
    (dropCtx c quar s).vig = s.vig ∧ (dropCtx c quar s).ctl.gens = s.ctl.gens ∧ (dropCtx c quar s).ctl.journal = s.ctl.journal.filter (fun r => r.ctx != c) ∧
    (quar = false → ∀ q ∈ (dropCtx c quar s).ctl.queues, q.2.ctx ≠ c) ∧ ∀ f j, f ∉ ctxFlds → rget (dropCtx c quar s) f j = rget s f j := by
  obtain ⟨⟨r, hr⟩, hf⟩ := foldl_rset_frame ctxFlds c 0 (ctxGone c quar s)
  rw [← dropCtx_eq] at hr
  refine ⟨?_, ?_, ?_, ?_, ?_, fun hq q hm => ?_, hf⟩
  · rw [hr]
    exact (sget?_sdel ..).trans (if_pos rfl)
  · rw [hr]; rfl
  · rw [hr]; rfl
  · rw [hr]; rfl
  · rw [hr]; rfl
  · rw [hr, hq] at hm
    simpa using (List.mem_filter.1 hm).2

theorem pack_pair (g : Nat) (b : Bool) : pack [(0, 8, g), (8, 1, b2n b)] = g % 256 + 256 * b2n b := by
  simp only [pack, pf, List.map_cons, List.map_nil, List.sum_cons, List.sum_nil]
  cases b
  · show g % 2 ^ 8 * 2 ^ 0 + (0 % 2 ^ 1 * 2 ^ 8 + 0) = g % 256 + 256 * 0
    omega
  · show g % 2 ^ 8 * 2 ^ 0 + (1 % 2 ^ 1 * 2 ^ 8 + 0) = g % 256 + 256 * 1
    omega

theorem endTeardown_destroys {s : State} {c : Nat} {k : Teardown} (hk : (ctx? s c).bind (·.teardown) = some k) (hd : k.kind = .destroy) (quar : Bool) :
    endTeardown c quar s = finishWaits (fun r => r.wait == .teardown c) stOk (fun _ => pack [(0, 8, genOf s c), (8, 1, b2n quar)]) (dropCtx c quar s) := by
  unfold endTeardown
  rw [hk]
  exact if_pos hd

/-- A record of another context that waited for the end of a destroyed one is answered. -/
theorem destroyed_answered {s : State} {c d : Nat} {quar : Bool} {r : Rec} (hr : r ∈ s.ctl.journal) (hc : r.ctx ≠ c) (hw : r.wait = .teardown c)
    (hs : r.state = .issued) (ha : r.again = none) : answered (finishWaits (fun r => r.wait == .teardown c) stOk (fun _ => d) (dropCtx c quar s)) r 0x0000 d := by
  have hm : r ∈ (dropCtx c quar s).ctl.journal := by
    rw [(dropCtx_spec c quar s).2.2.2.2.1]
    exact List.mem_filter.2 ⟨hr, by simpa using hc⟩
  exact answered_finishWaits (s := dropCtx c quar s) (det := fun _ => d) rfl hm hs ha (by simp [hw])

/-- The context after a reset. -/
def Ctx.renewed (x : Ctx) : Ctx := { x with teardown := none, held := false }

/-- A queue after the reset of its context. -/
def Queue.renewed (x : Queue) : Queue := { x with state := .active, heldReason := 0 }

theorem endTeardown_resets {s : State} {c : Nat} {k : Teardown} (hk : (ctx? s c).bind (·.teardown) = some k) (hd : k.kind = .reset) (quar : Bool) :
    endTeardown c quar s = finishWaits (fun r => r.wait == .teardown c) stOk (fun _ => 0) (modQueues c Queue.renewed (modCtx c Ctx.renewed s)) := by
  unfold endTeardown
  rw [hk]
  exact if_neg (by rw [hd]; nofun)

theorem modQueue_frame (q : Nat) (f : Queue → Queue) (s : State) : (modQueue q f s).ctl.ctxs = s.ctl.ctxs ∧ (modQueue q f s).ctl.journal = s.ctl.journal := by
  unfold modQueue
  split <;> exact ⟨rfl, rfl⟩

theorem foldl_modQueue_frame (l : List Nat) (f : Queue → Queue) (s : State) : (l.foldl (fun s q => modQueue q f s) s).ctl.ctxs = s.ctl.ctxs ∧
    (l.foldl (fun s q => modQueue q f s) s).ctl.journal = s.ctl.journal :=
  List.foldlRecOn l _ (motive := fun t => t.ctl.ctxs = s.ctl.ctxs ∧ t.ctl.journal = s.ctl.journal) ⟨rfl, rfl⟩ fun t ⟨h1, h2⟩ q _ =>
    ⟨(modQueue_frame q f t).1.trans h1, (modQueue_frame q f t).2.trans h2⟩

theorem queue?_modQueue_ne (s : State) {p q : Nat} (f : Queue → Queue) (h : p ≠ q) : queue? (modQueue q f s) p = queue? s p := by
  unfold modQueue
  split
  · exact queue?_setQueue_ne s q p _ h
  · rfl

/-- A change of listed queues that no second change undoes reaches each of them. -/
theorem queue?_foldl_modQueue {f : Queue → Queue} (hf : ∀ x, f (f x) = f x) (p : Nat) : ∀ (l : List Nat) (s : State),
    queue? (l.foldl (fun s q => modQueue q f s) s) p = if p ∈ l then (queue? s p).map f else queue? s p
  | [], s => by rw [if_neg List.not_mem_nil]; rfl
  | q :: l, s => by
    rw [List.foldl_cons, queue?_foldl_modQueue hf p l]
    by_cases hq : p = q
    · subst hq
      rw [queue?_modQueue_same, if_pos (List.mem_cons_self ..)]
      split
      · cases queue? s p with
        | none => rfl
        | some x => exact congrArg some (hf x)
      · rfl
    · rw [queue?_modQueue_ne s f hq]
      simp only [List.mem_cons, hq, false_or]

/-- Every queue of a context is changed. -/
theorem modQueues_ctx {c : Nat} {f : Queue → Queue} (hf : ∀ x, f (f x) = f x) (hc : ∀ x, (f x).ctx = x.ctx) {s : State} {q : Nat} {y : Queue}
    (h : queue? (modQueues c f s) q = some y) (hy : y.ctx = c) : ∃ x, queue? s q = some x ∧ x.ctx = c ∧ y = f x := by
  rw [modQueues, queue?_foldl_modQueue hf] at h
  split at h
  · obtain ⟨x, hx, rfl⟩ := Option.map_eq_some_iff.1 h
    exact ⟨x, hx, (hc x).symm.trans hy, rfl⟩
  · next hn =>
    refine absurd ?_ hn
    have hm : (q, y) ∈ s.ctl.queues := eq_of_mem_svals h
    exact List.mem_map.2 ⟨(q, y), List.mem_filter.2 ⟨hm, by simpa using hy⟩, rfl⟩

section
variable {s : State} {c e : Nat} {x : Ctx} {k : Teardown}

/-- The state in which the last engine has acknowledged, and that of the teardown's end. -/
theorem teardownAck_last (hx : ctx? s c = some x) (hk : x.teardown = some k) (he : e ∈ k.acks) (hall : ∀ a ∈ k.acks, a = e) (ht : tokensOf s c = [])
    (htouch : sget [] s.vig.touch c = []) (hj : ∀ r ∈ s.ctl.journal, r.ctx ≠ c) : ∃ u, exec (.teardownAck c e) s = .next (endTeardown c false u) ∧
      ctx? u c = some { x with teardown := some (k.acked e) } ∧ u.ctl.journal = s.ctl.journal ∧ u.ctl.queues = s.ctl.queues ∧ u.ctl.gens = s.ctl.gens := by
  have hc := ctx?_acked (e := e) hx hk
  have hm : modCtx c (Ctx.acked e) s = setCtx c (Ctx.acked e x) s := by
    unfold modCtx
    rw [hx]
  have ha : (k.acked e).acks = [] := List.filter_eq_nil_iff.2 fun a h => by simp [hall a h]
  have he' := exec_teardownAck hx hk he
  rw [hm] at hc he'
  obtain ⟨v, hv⟩ := tearReplies_ends (s := setCtx c (Ctx.acked e x) s) hc rfl ha ht htouch hj
  rw [hv] at he'
  exact ⟨_, he', hc, rfl, rfl, rfl⟩

theorem teardownAck_destroys (hx : ctx? s c = some x) (hk : x.teardown = some k) (he : e ∈ k.acks) (hall : ∀ a ∈ k.acks, a = e) (ht : tokensOf s c = [])
    (htouch : sget [] s.vig.touch c = []) (hj : ∀ r ∈ s.ctl.journal, r.ctx ≠ c) (hd : k.kind = .destroy) :
    leadsTo (.teardownAck c e) s (fun t => ctx? t c = none ∧ (∀ q ∈ t.ctl.queues, q.2.ctx ≠ c) ∧ genOf t c = genOf s c ∧
      ∀ r ∈ s.ctl.journal, r.wait = .teardown c → r.state = .issued → r.again = none → answered t r 0x0000 (genOf s c % 256)) := by
  obtain ⟨u, hu, hc, hjr, -, hg⟩ := teardownAck_last hx hk he hall ht htouch hj
  have hgen : genOf u c = genOf s c := congrArg (sget 0 · c) hg
  rw [endTeardown_destroys (k := k.acked e) (by rw [hc]; rfl) hd, hgen, pack_pair] at hu
  obtain ⟨d1, -, -, d4, -, d6, -⟩ := dropCtx_spec c false u
  refine ⟨_, hu, d1, d6 rfl, (congrArg (sget 0 · c) d4).trans hgen, fun r hr hw hs ha => ?_⟩
  exact destroyed_answered (d := genOf s c % 256) (hjr ▸ hr) (hj r hr) hw hs ha

theorem teardownAck_resets (hx : ctx? s c = some x) (hk : x.teardown = some k) (he : e ∈ k.acks) (hall : ∀ a ∈ k.acks, a = e) (ht : tokensOf s c = [])
    (htouch : sget [] s.vig.touch c = []) (hj : ∀ r ∈ s.ctl.journal, r.ctx ≠ c) (hd : k.kind = .reset) :
    leadsTo (.teardownAck c e) s (fun t => ctx? t c = some { x with teardown := none, held := false } ∧
      (∀ q y, queue? t q = some y → y.ctx = c → y.state = .active) ∧
      ∀ r ∈ s.ctl.journal, r.wait = .teardown c → r.state = .issued → r.again = none → answered t r 0x0000 0) := by
  obtain ⟨u, hu, hc, hjr, -, -⟩ := teardownAck_last hx hk he hall ht htouch hj
  rw [endTeardown_resets (k := k.acked e) (by rw [hc]; rfl) hd] at hu
  obtain ⟨f1, f2⟩ := foldl_modQueue_frame (ctxQueues (modCtx c Ctx.renewed u) c) Queue.renewed (modCtx c Ctx.renewed u)
  refine ⟨_, hu, ?_, fun q y hq hy => ?_, fun r hr hw hs ha => ?_⟩
  · refine (congrArg (sget? · c) f1).trans ((ctx?_modCtx_same ..).trans ?_)
    rw [hc]
    rfl
  · obtain ⟨z, -, -, rfl⟩ := modQueues_ctx (f := Queue.renewed) (fun _ => rfl) (fun _ => rfl) hq hy
    rfl
  · exact answered_finishWaits (s := u) (det := fun _ => 0) (f2.trans (modCtx_journal ..)) (hjr ▸ hr) hs ha (by simp [hw])

end

/-! ### Sweep tokens and quarantines (R400, R402, R404) -/

/-- A context's early chunks without those of a source. -/
def StepCtx.swept (src : Nat) (x : StepCtx) : StepCtx := { x with staged := x.staged.filter (fun m => m.sender != src) }

theorem sweepToken_returned (src c gen : Nat) (s : State) : leadsTo (.sweepToken src c gen) s (fun t => sget? t.vig.recvGen (genKey src c) = some gen ∧
    t.mem = s.mem ∧ (∀ m ∈ (stepOf t c).staged, m.sender ≠ src) ∧ .vc7 "SWEEP_RETURN" src [ownRoster s, c, gen] ∈ t.io.outbox) := by
  refine ⟨emit (.vc7 "SWEEP_RETURN" src [ownRoster s, c, gen]) (modStep c (StepCtx.swept src)
    { s with vig := { s.vig with recvGen := sput s.vig.recvGen (genKey src c) gen } }), rfl, (sget?_sput ..).trans (if_pos rfl), rfl, fun m hm => ?_,
    List.mem_append_right _ List.mem_cons_self⟩
  have hs : stepOf (modStep c (StepCtx.swept src) { s with vig := { s.vig with recvGen := sput s.vig.recvGen (genKey src c) gen } }) c =
      StepCtx.swept src (stepOf s c) := stepOf_modStep_same ..
  have hm' : m ∈ (StepCtx.swept src (stepOf s c)).staged := hs ▸ hm
  simpa using (List.mem_filter.1 hm').2

/-- A context's number is quarantined. -/
def quarantined (s : State) (c : Nat) : Bool := (rget s .vigilQuarantine_ctx (c / 64)).testBit (c % 64)

theorem quarantined_set {c : Nat} (hc : c < 256) (s : State) : quarantined (setQuar c true s) c = true := by
  have hi : c / 64 < fldCount .vigilQuarantine_ctx := by
    show c / 64 < 4
    omega
  rw [quarantined, setQuar, rget_eq, regAt_rset_same _ _ hi]
  show ((_ : Nat) % 2 ^ 64).testBit (c % 64) = true
  rw [Nat.testBit_mod_two_pow, if_pos rfl, Nat.testBit_or, Nat.testBit_two_pow_self, Bool.or_true, Bool.and_true]
  exact decide_eq_true (Nat.mod_lt _ (by decide))

theorem testBit_sub_and (v k : Nat) : (v - (v &&& 2 ^ k)).testBit k = false := by
  by_cases h : v.testBit k = true
  · have ha : v &&& 2 ^ k = 2 ^ k := by rw [Nat.and_two_pow, h]; simp
    rw [ha]
    have := Nat.testBit_two_pow_add_eq (v - 2 ^ k) k
    rw [Nat.add_sub_cancel' (Nat.ge_two_pow_of_testBit h), h] at this
    simpa using this.symm
  · have hf : v.testBit k = false := by simpa using h
    rw [Nat.and_two_pow, hf]
    simpa using hf

theorem quarantined_clear {c : Nat} (hc : c < 256) (s : State) : quarantined (setQuar c false s) c = false := by
  have hi : c / 64 < fldCount .vigilQuarantine_ctx := by
    show c / 64 < 4
    omega
  rw [quarantined, setQuar, rget_eq, regAt_rset_same _ _ hi, if_neg Bool.false_ne_true]
  show ((_ : Nat) % 2 ^ 64).testBit (c % 64) = false
  rw [Nat.testBit_mod_two_pow, testBit_sub_and, Bool.and_false]

/-- What the end of a teardown leaves. -/
theorem endTeardown_kept (c : Nat) (quar : Bool) (s : State) : (endTeardown c quar s).vig = s.vig ∧ (endTeardown c quar s).io = s.io ∧
    ∀ f j, f ∉ ctxFlds → rget (endTeardown c quar s) f j = rget s f j := by
  cases hk : (ctx? s c).bind (·.teardown) with
  | none =>
    unfold endTeardown
    rw [hk]
    exact ⟨rfl, rfl, fun _ _ _ => rfl⟩
  | some k =>
    by_cases hd : k.kind = .destroy
    · rw [endTeardown_destroys hk hd]
      obtain ⟨-, d2, d3, -, -, -, d7⟩ := dropCtx_spec c quar s
      exact ⟨d3, d2, d7⟩
    · unfold endTeardown
      rw [hk]
      dsimp only
      rw [if_neg hd]
      have hm : ∀ (f : Ctx → Ctx), (modCtx c f s).vig = s.vig ∧ (modCtx c f s).io = s.io ∧ (modCtx c f s).regs = s.regs := fun f => by
        unfold modCtx
        split <;> exact ⟨rfl, rfl, rfl⟩
      have hq : ∀ (f : Queue → Queue) u, (modQueues c f u).vig = u.vig ∧ (modQueues c f u).io = u.io ∧ (modQueues c f u).regs = u.regs := fun f u =>
        List.foldlRecOn (ctxQueues u c) _ (motive := fun v : State => v.vig = u.vig ∧ v.io = u.io ∧ v.regs = u.regs) ⟨rfl, rfl, rfl⟩ fun v hv q _ => by
          unfold modQueue
          split <;> exact hv
      obtain ⟨m1, m2, m3⟩ := hm fun x => { x with teardown := none, held := false }
      obtain ⟨q1, q2, q3⟩ := hq (fun x => { x with state := .active, heldReason := 0 }) (modCtx c (fun x => { x with teardown := none, held := false }) s)
      exact ⟨q1.trans m1, q2.trans m2, fun f j _ => by rw [rget_eq, finishWaits_regs, q3, m3]; rfl⟩

theorem tearCheck_kept (c : Nat) (s : State) : (tearCheck c s).vig = s.vig ∧ (tearCheck c s).io = s.io ∧
    ∀ f j, f ∉ ctxFlds → rget (tearCheck c s) f j = rget s f j := by
  unfold tearCheck
  split
  · exact endTeardown_kept ..
  · exact ⟨rfl, rfl, fun _ _ _ => rfl⟩

/-- The state in which a peer's token of a context is out no longer. -/
def tokenBack (peer c : Nat) (s : State) : State :=
  { s with vig := { s.vig with tokens := s.vig.tokens.filter (fun t => !(t.1 == peer && t.2.1 == c)) } }

theorem exec_sweepTokenReturn {s : State} {peer c gen : Nat} (h : ∃ x ∈ s.vig.tokens, x.1 = peer ∧ x.2.1 = c ∧ x.2.2.1 = gen) :
    exec (.sweepTokenReturn peer c gen) s = .next (tearCheck c (endQuar c 0 (tokenBack peer c s))) := by
  refine if_pos ?_
  obtain ⟨x, hx, h1, h2, h3⟩ := h
  exact List.any_eq_true.2 ⟨x, hx, by simp [h1, h2, h3]⟩

theorem exec_sweepTokenReturn_other {s : State} {peer c gen : Nat} (h : ∀ x ∈ s.vig.tokens, ¬ (x.1 = peer ∧ x.2.1 = c ∧ x.2.2.1 = gen)) :
    exec (.sweepTokenReturn peer c gen) s = .next s := by
  refine if_neg fun hx => ?_
  obtain ⟨x, hm, hp⟩ := List.any_eq_true.1 hx
  exact h x hm (by simpa [and_assoc] using hp)

theorem endQuar_vig (c cause : Nat) (s : State) : (endQuar c cause s).vig = s.vig := by
  unfold endQuar setQuar
  split
  · rfl
  · simp

/-- A quarantine without a token out ends, and is reported. -/
theorem endQuar_ends {s : State} {c : Nat} (hc : c < 256) (cause : Nat) (hq : quarantined s c = true) (ht : tokensOf s c = []) :
    quarantined (endQuar c cause s) c = false ∧ reported s (endQuar c cause s) 0x1005 0 := by
  have he : endQuar c cause s = raise0 0x1005 0xD (pack [(0, 8, c), (8, 8, cause)])
      (setQuar c false { s with ctl := { s.ctl with queues := s.ctl.queues.filter (fun x => !(x.2.ctx == c && x.2.state == .quarantined)) } }) := by
    refine if_neg ?_
    rw [show (rget s .vigilQuarantine_ctx (c / 64)).testBit (c % 64) = true from hq, ht]
    decide
  rw [he]
  refine ⟨?_, .since (F := [.vigilQuarantine_ctx]) ((Told.rfl.setQueues _).rset (.inr (by decide)) ..) (raiseC_reported 0x1005 0xD 0 _ _)⟩
  rw [quarantined, rget_eq, regAt_raise0 _ _ _ _ _ rfl]
  exact quarantined_clear hc _

theorem sweepTokenReturn_spec {s : State} {peer c gen : Nat} (hc : c < 256) (h : ∃ x ∈ s.vig.tokens, x.1 = peer ∧ x.2.1 = c ∧ x.2.2.1 = gen) :
    leadsTo (.sweepTokenReturn peer c gen) s (fun t => t.vig.tokens = s.vig.tokens.filter (fun x => !(x.1 == peer && x.2.1 == c)) ∧
      ((∀ x ∈ s.vig.tokens, x.2.1 = c → x.1 = peer) → quarantined s c = true → quarantined t c = false ∧ reported s t 0x1005 0)) := by
  obtain ⟨k1, k2, k3⟩ := tearCheck_kept c (endQuar c 0 (tokenBack peer c s))
  refine ⟨_, exec_sweepTokenReturn h, ?_, fun hall hq => ?_⟩
  · rw [k1, endQuar_vig]
    rfl
  · have ht : tokensOf (tokenBack peer c s) c = [] := by
      refine List.filter_eq_nil_iff.2 fun x hx hxc => ?_
      obtain ⟨h1, h2⟩ := List.mem_filter.1 hx
      have hxc' : x.2.1 = c := by simpa using hxc
      simp [hall x h1 hxc', hxc'] at h2
    obtain ⟨q1, q2⟩ := endQuar_ends (s := tokenBack peer c s) hc 0 hq ht
    refine ⟨?_, q2.suffix (by rw [k2])⟩
    rw [quarantined, k3 _ _ (by decide)]
    exact q1

/-- A peer's token of a context is out. -/
def tokenOut (s : State) (peer c : Nat) : Bool := s.vig.tokens.any (fun x => x.1 == peer && x.2.1 == c)

theorem exec_sweepTokenTimeout_none {s : State} {peer c : Nat} (h : tokenOut s peer c = false) : exec (.sweepTokenTimeout peer c) s = .next s :=
  if_pos (by rw [show s.vig.tokens.any (fun x => x.1 == peer && x.2.1 == c) = false from h]; rfl)

theorem exec_sweepTokenTimeout_running {s : State} {peer c : Nat} (h : tokenOut s peer c = true) (ht : (ctx? s c).bind (·.teardown) = none) :
    exec (.sweepTokenTimeout peer c) s = .next (emit (.vc7 "SWEEP" peer [ownRoster s, c, genOf s c]) (trouble .troubleLog_sweepLate 1 s)) := by
  show execSweepTokenTimeout peer c s = _
  unfold execSweepTokenTimeout
  rw [if_neg (by rw [show s.vig.tokens.any (fun x => x.1 == peer && x.2.1 == c) = true from h]; decide), ht]
  exact (if_neg (by decide)).trans (congrArg Host.Outcome.next (if_neg (by decide)))

/-- The number of a context marked as quarantined and reported. -/
def quarTold (c : Nat) (s : State) : State :=
  raise0 0x1004 0xD (pack [(0, 8, c), (8, 8, (genOf (trouble .troubleLog_sweepLate 1 s) c + 255) % 256),
      (16, 14, ((tokensOf (trouble .troubleLog_sweepLate 1 s) c).head?).elim 0 (·.1)), (32, 16, (tokensOf (trouble .troubleLog_sweepLate 1 s) c).length)])
    (trouble .troubleLog_quarantine 1 (rflag .vigilStatus_quarantineSeen 0 (setQuar c true (trouble .troubleLog_sweepLate 1 s))))

/-- The tokens of a context marked as late. -/
def tokensLate (c : Nat) (s : State) : State :=
  { s with vig := { s.vig with tokens := s.vig.tokens.map (fun t => if t.2.1 = c then (t.1, t.2.1, t.2.2.1, true) else t) } }

theorem exec_sweepTokenTimeout_destroyed {s : State} {peer c : Nat} {k : Teardown} (h : tokenOut s peer c = true)
    (ht : (ctx? s c).bind (·.teardown) = some k) (hd : k.kind = .destroy) (ha : k.acks = []) :
    exec (.sweepTokenTimeout peer c) s = .next (endTeardown c true (tokensLate c (quarTold c s))) := by
  show execSweepTokenTimeout peer c s = _
  unfold execSweepTokenTimeout
  rw [if_neg (by rw [show s.vig.tokens.any (fun x => x.1 == peer && x.2.1 == c) = true from h]; decide), ht]
  exact if_pos (by rw [Option.elim_some, hd, ha]; rfl)

/-- The fields of a late token. -/
def lateFlds : List Fld := [.troubleLog_sweepLate, .troubleFirst_lcount, .troubleLast_lcount]

/-- The fields of a quarantine. -/
def quarFlds : List Fld := .vigilQuarantine_ctx :: .vigilStatus_quarantineSeen :: .troubleLog_quarantine :: lateFlds

theorem quarTold_spec {c : Nat} (hc : c < 256) (s : State) : Told quarFlds s (quarTold c s) ∧ (quarTold c s).ctl.journal = s.ctl.journal ∧
    quarantined (quarTold c s) c = true ∧ rget (quarTold c s) .vigilStatus_quarantineSeen 0 = 1 ∧ reported s (quarTold c s) 0x1004 0 := by
  unfold quarTold
  generalize pack _ = det
  have h1 : Told lateFlds s (trouble .troubleLog_sweepLate 1 s) := Told.rfl.trouble (by decide) (by decide) (by decide) 1
  have hj : (trouble .troubleLog_sweepLate 1 s).ctl.journal = s.ctl.journal := by simp
  generalize trouble .troubleLog_sweepLate 1 s = u at h1 hj
  have h2 : Told [.vigilQuarantine_ctx, .vigilStatus_quarantineSeen] u (rflag .vigilStatus_quarantineSeen 0 (setQuar c true u)) :=
    (Told.rfl.rset (.inr (by decide)) ..).rflag (by decide) 0
  have hq : quarantined (rflag .vigilStatus_quarantineSeen 0 (setQuar c true u)) c = true := by
    rw [quarantined, rget_eq, regAt_rflag_other _ _ _ (by decide)]
    exact quarantined_set hc u
  have hs : rget (rflag .vigilStatus_quarantineSeen 0 (setQuar c true u)) .vigilStatus_quarantineSeen 0 = 1 := regAt_rset_same _ _ (by decide)
  have hv : (rflag .vigilStatus_quarantineSeen 0 (setQuar c true u)).ctl.journal = u.ctl.journal := by simp [setQuar]
  generalize rflag .vigilStatus_quarantineSeen 0 (setQuar c true u) = v at h2 hq hs hv
  have h3 : Told [.troubleLog_quarantine, .troubleFirst_lcount, .troubleLast_lcount] v (trouble .troubleLog_quarantine 1 v) :=
    Told.rfl.trouble (by decide) (by decide) (by decide) 1
  have hw : (trouble .troubleLog_quarantine 1 v).ctl.journal = v.ctl.journal := by simp
  generalize trouble .troubleLog_quarantine 1 v = w at h3 hw
  have hto : Told quarFlds s w := ((h1.mono (by decide)).trans (h2.mono (by decide))).trans (h3.mono (by decide))
  refine ⟨hto.raise0 .., ?_, ?_, ?_, .since hto (raiseC_reported 0x1004 0xD 0 _ _)⟩
  · simp [hw, hv, hj]
  · rw [quarantined, rget_eq, regAt_raise0 _ _ _ _ _ rfl, h3.regs _ _ rfl (by decide)]
    exact hq
  · rw [rget_eq, regAt_raise0 _ _ _ _ _ rfl, h3.regs _ _ rfl (by decide)]
    exact hs

theorem Told.genOf {F : List Fld} {s t : State} (h : Told F s t) (c : Nat) : genOf t c = genOf s c := by
  have hg := congrArg Ctl.gens h.ctl
  exact congrArg (sget 0 · c) hg

theorem Told.teardown {F : List Fld} {s t : State} (h : Told F s t) (c : Nat) : (ctx? t c).bind (·.teardown) = (ctx? s c).bind (·.teardown) := by
  have key : ∀ o : Option Ctx, o.bind (·.teardown) = (o.map Ctx.noRing).bind (·.teardown) := fun o => by cases o <;> rfl
  rw [key, h.ctxs, ← key]

theorem sweepTokenTimeout_quarantines {s : State} {peer c : Nat} {k : Teardown} (hc : c < 256) (h : tokenOut s peer c = true)
    (ht : (ctx? s c).bind (·.teardown) = some k) (hd : k.kind = .destroy) (ha : k.acks = []) :
    leadsTo (.sweepTokenTimeout peer c) s (fun t =>
      quarantined t c = true ∧ ctx? t c = none ∧ rget t .vigilStatus_quarantineSeen 0 = 1 ∧ reported s t 0x1004 0 ∧
      ∀ r ∈ s.ctl.journal, r.ctx ≠ c → r.wait = .teardown c → r.state = .issued → r.again = none → answered t r 0x0000 (genOf s c % 256 + 256)) := by
  obtain ⟨q1, q2, q3, q4, q5⟩ := quarTold_spec hc s
  have he := exec_sweepTokenTimeout_destroyed h ht hd ha
  generalize quarTold c s = u at q1 q2 q3 q4 q5 he
  have hk : (ctx? (tokensLate c u) c).bind (·.teardown) = some k := (q1.teardown c).trans ht
  obtain ⟨e1, e2, e3⟩ := endTeardown_kept c true (tokensLate c u)
  refine ⟨_, he, ?_, ?_, (e3 _ _ (by decide)).trans q4, q5.suffix (by rw [e2]; exact List.suffix_rfl), fun r hr hrc hw hs hag => ?_⟩
  · rw [quarantined, e3 _ _ (by decide)]
    exact q3
  · rw [endTeardown_destroys hk hd]
    exact (dropCtx_spec c true (tokensLate c u)).1
  · rw [endTeardown_destroys hk hd, pack_pair, show genOf (tokensLate c u) c = genOf s c from q1.genOf c]
    exact destroyed_answered (s := tokensLate c u) (d := genOf s c % 256 + 256) (q2 ▸ hr) hrc hw hs hag

/-- What a mark in the trouble log adds. -/
theorem rget_trouble {f : Fld} (h1 : f ≠ .troubleFirst_lcount) (h2 : f ≠ .troubleLast_lcount) (hf : 0 < fldCount f) (m : Nat) (s : State) :
    rget (trouble f m s) f 0 = (rget s f 0 ||| m) % 2 ^ (fldInfo f).width := by
  unfold trouble
  dsimp only
  rw [rget_eq, regAt_rset_other _ _ _ _ h2, ror, regAt_rset_same _ _ hf]
  split
  · rw [rget_eq, regAt_rset_other _ _ _ _ h1, rget_eq]
  · rfl

theorem or_one_mod_two (v : Nat) : (v ||| 1) % 2 ^ 1 = 1 := by
  rw [pow_one, Nat.or_mod_two_eq_one]
  exact .inr rfl

theorem sweepTokenTimeout_resends {s : State} {peer c : Nat} (h : tokenOut s peer c = true) (ht : (ctx? s c).bind (·.teardown) = none) :
    leadsTo (.sweepTokenTimeout peer c) s (fun t => t.vig = s.vig ∧ rget t .troubleLog_sweepLate 0 = 1 ∧
      .vc7 "SWEEP" peer [ownRoster s, c, genOf s c] ∈ t.io.outbox) := by
  refine ⟨_, exec_sweepTokenTimeout_running h ht, by simp, ?_, List.mem_append_right _ List.mem_cons_self⟩
  exact (rget_trouble (by decide) (by decide) (by decide) 1 s).trans (or_one_mod_two _)

/-! ### Fences (R405) -/

theorem exec_vigilFence {s : State} (h : notServed s 0 = false) (v : BitVec 32) : exec (.vigilFence 0 v) s = .next (
    if v.getLsbD 31 = true ∧ ((bits v.toNat 28 3 < 3 ∧ bits v.toNat 0 8 < 4) ∨ (bits v.toNat 28 3 = 3 ∧ bits v.toNat 0 8 < 112)) then
      fenceEngine (bits v.toNat 28 3) (bits v.toNat 0 8) (dropLatch 0 s) else dropLatch 0 s) := by
  show execVigilFence 0 v s = _
  unfold execVigilFence
  dsimp only
  rw [show notServed (dropLatch 0 s) 0 = false from h]
  show (if (false || !v.getLsbD 31) = true then _ else _) = _
  cases v.getLsbD 31 with
  | false => rfl
  | true =>
    rw [if_neg (by decide)]
    simp only [true_and, Bool.or_eq_true, Bool.and_eq_true, decide_eq_true_eq]
    split <;> rfl

/-- The state in which the fence is set. -/
def fenceSet (kind index : Nat) (s : State) : State :=
  if kind < 3 then ror .vigilFenced_engines 0 (2 ^ (4 * kind + index)) s
  else { s with sp := { s.sp with unitsOff := if s.sp.unitsOff.contains index then s.sp.unitsOff else s.sp.unitsOff ++ [index] } }

/-- The commands of a context that no engine takes any more are completed. -/
def cutCtx (kind c : Nat) (s : State) : State :=
  flushReplies c (abortRecs c stAbortDisable (needsEngine kind) (if kind = 0 then stopExchange c s else s))

theorem fenceEngine_eq (kind index : Nat) (s : State) : ∃ cs n, fenceEngine kind index s = disabledEvent 2 (16 * kind + index) n cs
    (if n = 0 then cs.foldl (fun s c => cutCtx kind c s) (fenceSet kind index s)
      else trouble .troubleLog_disableInflight 1 (cs.foldl (fun s c => cutCtx kind c s) (fenceSet kind index s))) := ⟨_, _, rfl⟩

/-- The fields that the end of a context's commands and its report write. -/
def cutFlds : List Fld := .troubleLog_disableInflight :: .troubleFirst_lcount :: .troubleLast_lcount :: accessFlds

theorem flushReplies_kept (c : Nat) (s : State) : Told accessFlds s (flushReplies c s) ∧ (flushReplies c s).sp = s.sp := by
  unfold flushReplies
  exact List.foldlRecOn _ _ (motive := fun t : State => Told accessFlds s t ∧ t.sp = s.sp) ⟨.rfl, rfl⟩
    fun _ h r _ => ⟨h.1.replyOne (fun _ h => h) _, (replyOne_sp ..).trans h.2⟩

theorem cutCtx_kept (kind c : Nat) (s : State) : Told accessFlds s (cutCtx kind c s) ∧ (cutCtx kind c s).sp = s.sp := by
  unfold cutCtx
  have h : Told accessFlds s (if kind = 0 then stopExchange c s else s) ∧ (if kind = 0 then stopExchange c s else s).sp = s.sp := by
    split
    · exact ⟨Told.rfl.modStep .., rfl⟩
    · exact ⟨.rfl, rfl⟩
  generalize (if kind = 0 then stopExchange c s else s) = u at h
  obtain ⟨k1, k2⟩ := flushReplies_kept c (abortRecs c stAbortDisable (needsEngine kind) u)
  exact ⟨(h.1.setJournal _).trans k1, k2.trans h.2⟩

theorem disabledEvent_reported (kind index n : Nat) (cs : List Nat) (s : State) : Told [] s (disabledEvent kind index n cs s) ∧
    (disabledEvent kind index n cs s).sp = s.sp ∧ reported s (disabledEvent kind index n cs s) 0x1006 0 := by
  unfold disabledEvent
  dsimp only
  generalize pack _ = det
  have h := List.foldlRecOn (cs.filter (fun c => c != 0)) (fun s c => raiseC 0x1006 0xD c det s) (motive := fun t : State => Told [] s t ∧ t.sp = s.sp)
    ⟨.rfl, rfl⟩ fun _ h c _ => ⟨h.1.raiseC .., (raiseC_sp ..).trans h.2⟩
  generalize (cs.filter (fun c => c != 0)).foldl (fun s c => raiseC 0x1006 0xD c det s) s = u at h
  exact ⟨h.1.raise0 .., (raise0_sp ..).trans h.2, .since h.1 (raiseC_reported 0x1006 0xD 0 _ _)⟩

theorem fenceEngine_kept (kind index : Nat) (s : State) : Told cutFlds (fenceSet kind index s) (fenceEngine kind index s) ∧
    (fenceEngine kind index s).sp = (fenceSet kind index s).sp ∧ reported (fenceSet kind index s) (fenceEngine kind index s) 0x1006 0 := by
  obtain ⟨cs, n, he⟩ := fenceEngine_eq kind index s
  rw [he]
  generalize fenceSet kind index s = u
  have h := List.foldlRecOn cs (fun s c => cutCtx kind c s) (motive := fun t : State => Told accessFlds u t ∧ t.sp = u.sp) ⟨.rfl, rfl⟩
    fun v h c _ => ⟨h.1.trans (cutCtx_kept kind c v).1, (cutCtx_kept kind c v).2.trans h.2⟩
  generalize cs.foldl (fun s c => cutCtx kind c s) u = v at h
  have hw : Told cutFlds u (if n = 0 then v else trouble .troubleLog_disableInflight 1 v) ∧
      (if n = 0 then v else trouble .troubleLog_disableInflight 1 v).sp = u.sp := by
    split
    · exact ⟨h.1.mono (by decide), h.2⟩
    · exact ⟨(h.1.mono (by decide)).trouble (by decide) (by decide) (by decide) 1, by rw [trouble_sp, h.2]⟩
  generalize (if n = 0 then v else trouble .troubleLog_disableInflight 1 v) = w at hw
  obtain ⟨d1, d2, d3⟩ := disabledEvent_reported 2 (16 * kind + index) n cs w
  exact ⟨hw.1.trans (d1.mono nofun), d2.trans hw.2, .since hw.1 d3⟩

theorem told_dropLatch {F : List Fld} (n : Nat) (s : State) : Told F s (dropLatch n s) :=
  ⟨fun _ _ _ _ => rfl, List.suffix_rfl, List.prefix_rfl, fun _ => rfl, rfl, rfl, rfl⟩

theorem fenceSet_said (kind index : Nat) (s : State) : Told [.vigilFenced_engines] s (fenceSet kind index s) := by
  unfold fenceSet
  split
  · exact Told.rfl.ror (by decide) ..
  · exact Told.rfl.withSp _

theorem vigilFence_engine {s : State} (h : notServed s 0 = false) {v : BitVec 32} (hv : v.getLsbD 31 = true) (hk : bits v.toNat 28 3 < 3)
    (hi : bits v.toNat 0 8 < 4) : leadsTo (.vigilFence 0 v) s (fun t =>
      (rget t .vigilFenced_engines 0).testBit (4 * bits v.toNat 28 3 + bits v.toNat 0 8) = true ∧ reported s t 0x1006 0) := by
  refine ⟨_, (exec_vigilFence h v).trans (congrArg _ (if_pos ⟨hv, .inl ⟨hk, hi⟩⟩)), ?_⟩
  generalize bits v.toNat 28 3 = kind at hk
  generalize bits v.toNat 0 8 = index at hi
  obtain ⟨f1, -, f3⟩ := fenceEngine_kept kind index (dropLatch 0 s)
  have hs : Told [.vigilFenced_engines] s (fenceSet kind index (dropLatch 0 s)) :=
    (told_dropLatch 0 s).trans (fenceSet_said ..)
  refine ⟨?_, .since hs f3⟩
  rw [rget_eq, f1.regs _ _ rfl (by decide), fenceSet, if_pos hk, ror, regAt_rset_same _ _ (by decide)]
  show (_ % 2 ^ 12).testBit _ = true
  rw [Nat.testBit_mod_two_pow, Nat.testBit_or, Nat.testBit_two_pow_self, Bool.or_true, Bool.and_true]
  exact decide_eq_true (by omega)

theorem vigilFence_unit {s : State} (h : notServed s 0 = false) {v : BitVec 32} (hv : v.getLsbD 31 = true) (hk : bits v.toNat 28 3 = 3)
    (hi : bits v.toNat 0 8 < 112) : leadsTo (.vigilFence 0 v) s (fun t => bits v.toNat 0 8 ∈ t.sp.unitsOff ∧ reported s t 0x1006 0) := by
  refine ⟨_, (exec_vigilFence h v).trans (congrArg _ (if_pos ⟨hv, .inr ⟨hk, hi⟩⟩)), ?_⟩
  rw [hk]
  generalize bits v.toNat 0 8 = index
  obtain ⟨-, f2, f3⟩ := fenceEngine_kept 3 index (dropLatch 0 s)
  have hs : Told [.vigilFenced_engines] s (fenceSet 3 index (dropLatch 0 s)) :=
    (told_dropLatch 0 s).trans (fenceSet_said ..)
  refine ⟨?_, .since hs f3⟩
  rw [f2]
  show index ∈ if s.sp.unitsOff.contains index then s.sp.unitsOff else s.sp.unitsOff ++ [index]
  split
  · next hc => exact List.contains_iff_mem.1 hc
  · exact List.mem_append_right _ List.mem_cons_self

/-- Settles O54: acknowledgements, tokens, late tokens and fences, each by its lemma. -/
theorem teardownsAndFences : Obligations.TeardownsAndFences := by
  unfold Obligations.TeardownsAndFences
  intro s
  refine ⟨fun c e => ⟨exec_teardownAck_none, fun x k hx hk he => ⟨teardownAck_waits hx hk he, fun hall ht htouch hj =>
      ⟨teardownAck_destroys hx hk he hall ht htouch hj, teardownAck_resets hx hk he hall ht htouch hj⟩⟩⟩,
    fun src c gen => sweepToken_returned src c gen s,
    fun peer c gen hc => ⟨exec_sweepTokenReturn_other, sweepTokenReturn_spec hc, exec_sweepTokenTimeout_none, sweepTokenTimeout_resends,
      fun k ho ht hd ha => sweepTokenTimeout_quarantines hc ho ht hd ha⟩,
    fun v h => ⟨fun hn => ⟨_, exec_vigilFence h v, if_neg ?_⟩, vigilFence_engine h, vigilFence_unit h⟩⟩
  rintro ⟨hv, hki⟩
  rcases hn with hn | hn
  · rw [hn] at hv
    cases hv
  · omega

end Sys2Proof.Machine
end

section
/-! PROOFS. Island clocks and temperature: what a droop, a frequency change and a reading of a sensor change (R375 to R380). -/

namespace Sys2Proof.Machine

/-! ### One island's clock -/

@[simp] theorem islOf_setIsl_same (i : Nat) (x : Isl) (s : State) : islOf (setIsl i x s) i = x := sget_sset_same ..

theorem islOf_setIsl_ne {i j : Nat} (h : j ≠ i) (x : Isl) (s : State) : islOf (setIsl i x s) j = islOf s j := sget_sset_ne _ _ _ h

/-- A clock without the change that is in progress. -/
def Isl.settled (x : Isl) : Isl := { x with chg := none, next := none }

/-- `t` is `s` but for the clocks: on each island at most a change began or took a new target. -/
structure Aimed (s t : State) : Prop where
  rest : { t with pow := s.pow } = s
  isl : ∀ j, (islOf t j).settled = (islOf s j).settled

theorem Aimed.rfl {s : State} : Aimed s s := ⟨Eq.refl _, fun _ => Eq.refl _⟩

theorem Aimed.trans {s t u : State} (h : Aimed s t) (k : Aimed t u) : Aimed s u where
  rest := by rw [← h.rest, ← k.rest]
  isl j := (k.isl j).trans (h.isl j)

theorem Aimed.eq {s t : State} (h : Aimed s t) : t = { s with pow := t.pow } := by
  rw [← h.rest]

theorem Aimed.told {F : List Fld} {s t : State} (h : Aimed s t) : Told F s t := by
  rw [h.eq]
  exact Told.rfl.withPow _

/-- What `aim` makes of an island's clock, where it changes it. -/
theorem aim_cases (i : Nat) (s : State) : aim i s = s ∨ ∃ x, aim i s = setIsl i x s ∧ x.settled = (islOf s i).settled := by
  unfold aim
  dsimp only
  split
  · exact .inl rfl
  · split
    · exact .inr ⟨_, rfl, rfl⟩
    · split
      · exact .inl rfl
      · exact .inr ⟨_, rfl, rfl⟩

theorem aim_aimed (i : Nat) (s : State) : Aimed s (aim i s) ∧ ∀ j, j ≠ i → islOf (aim i s) j = islOf s j := by
  obtain h | ⟨x, h, hx⟩ := aim_cases i s <;> rw [h]
  · exact ⟨.rfl, fun _ _ => rfl⟩
  · refine ⟨⟨rfl, fun j => ?_⟩, fun j hj => islOf_setIsl_ne hj ..⟩
    by_cases hj : j = i
    · rw [hj, islOf_setIsl_same, hx]
    · rw [islOf_setIsl_ne hj]

theorem presetStage_aimed (d key : Nat) (s : State) : Aimed s (presetStage d key s) := by
  unfold presetStage
  split
  · exact .rfl
  · next g _ =>
    exact List.foldlRecOn _ _ (motive := fun t : State => Aimed s t) ⟨rfl, fun _ => rfl⟩ fun t h i _ => h.trans (aim_aimed i t).1

theorem evalDie_aimed (d : Nat) (s : State) : Aimed s (evalDie d s) := by
  unfold evalDie
  exact List.foldlRecOn _ _ (motive := fun t : State => Aimed s t) .rfl fun t h x _ => h.trans (presetStage_aimed d x.1 t)

/-! ### Droop and frequency changes (R375 to R377) -/

theorem exec_droop (d p : Nat) (s : State) : exec (.droop d p) s = .next (
    if s.sp.held.contains (islKey d p) || (islOf s (islKey d p)).droop || 8 ≤ d || 2112 ≤ p then s
    else if (islOf s (islKey d p)).chg.isSome then rflag .pwrStatus_pauseSeen 0 (count1 .pwrDiePauseCount_count d (setIsl (islKey d p)
      { islOf s (islKey d p) with droop := true, paused := (islOf s (islKey d p)).chg.isSome } (count1 .pwrDieDroopCount_count d s)))
    else setIsl (islKey d p) { islOf s (islKey d p) with droop := true, paused := (islOf s (islKey d p)).chg.isSome }
      (count1 .pwrDieDroopCount_count d s)) := rfl

theorem islOf_of_pow {s t : State} (h : t.pow = s.pow) (j : Nat) : islOf t j = islOf s j := congrArg (fun p : Pow => sget Isl.parked p.isl j) h

theorem droop_pauses {d p : Nat} {s : State} (hd : d < 8) (hp : p < 2112) (hh : islKey d p ∉ s.sp.held) (hx : (islOf s (islKey d p)).droop = false) :
    leadsTo (.droop d p) s (fun t => t.mem = s.mem ∧
      islOf t (islKey d p) = { islOf s (islKey d p) with droop := true, paused := (islOf s (islKey d p)).chg.isSome } ∧
      (∀ j, j ≠ islKey d p → islOf t j = islOf s j) ∧
      (rget s .pwrDieDroopCount_count d < 2 ^ 32 - 1 → rget t .pwrDieDroopCount_count d = rget s .pwrDieDroopCount_count d + 1) ∧
      ((islOf s (islKey d p)).chg.isSome = true → rget t .pwrStatus_pauseSeen 0 = 1)) := by
  have hc : rget s .pwrDieDroopCount_count d < 2 ^ 32 - 1 →
      regAt (count1 .pwrDieDroopCount_count d s).regs .pwrDieDroopCount_count d = rget s .pwrDieDroopCount_count d + 1 := fun h =>
    regAt_count_same rfl hd (by rw [← rget_eq]; exact h)
  have hcp : (count1 .pwrDieDroopCount_count d s).pow = s.pow := count1_pow ..
  have hcm : (count1 .pwrDieDroopCount_count d s).mem = s.mem := count1_mem ..
  refine ⟨_, (exec_droop d p s).trans (congrArg _ (if_neg (by simp [hh, hx]; omega))), ?_⟩
  generalize count1 .pwrDieDroopCount_count d s = u at hc hcp hcm
  generalize ({ islOf s (islKey d p) with droop := true, paused := (islOf s (islKey d p)).chg.isSome } : Isl) = y
  have hne : ∀ j, j ≠ islKey d p → islOf (setIsl (islKey d p) y u) j = islOf s j := fun j hj => (islOf_setIsl_ne hj ..).trans (islOf_of_pow hcp j)
  split
  · next hs =>
    have hpow : (rflag .pwrStatus_pauseSeen 0 (count1 .pwrDiePauseCount_count d (setIsl (islKey d p) y u))).pow = (setIsl (islKey d p) y u).pow :=
      (rset_pow ..).trans (count1_pow ..)
    refine ⟨(rset_mem ..).trans ((count1_mem ..).trans hcm), (islOf_of_pow hpow _).trans (islOf_setIsl_same ..),
      fun j hj => (islOf_of_pow hpow _).trans (hne j hj), fun h => ?_, fun _ => regAt_rset_same _ _ (by decide)⟩
    exact (regAt_rset_other _ _ _ _ (by decide)).trans ((regAt_count1_other _ _ _ rfl (by decide)).trans (hc h))
  · next hs => exact ⟨hcm, islOf_setIsl_same .., hne, hc, fun h => absurd h hs⟩

theorem droop_clears {d p : Nat} {s : State} (hh : islKey d p ∉ s.sp.held) (hx : (islOf s (islKey d p)).droop = true) :
    leadsTo (.droopClear d p) s (fun t => { t with pow := s.pow } = s ∧
      islOf t (islKey d p) = { islOf s (islKey d p) with droop := false, paused := false } ∧ ∀ j, j ≠ islKey d p → islOf t j = islOf s j) :=
  ⟨_, congrArg Host.Outcome.next (if_neg (by simp [hh, hx])), rfl, islOf_setIsl_same .., fun _ hj => islOf_setIsl_ne hj ..⟩

theorem noEffect_droopClear {d p : Nat} {s : State} (h : islKey d p ∈ s.sp.held ∨ (islOf s (islKey d p)).droop = false) : noEffect (.droopClear d p) s :=
  congrArg Host.Outcome.next (if_pos (by simpa using h))

theorem exec_frequencyChange (d p : Nat) (s : State) : exec (.frequencyChange d p) s = .next (changePart (islKey d p) s) := rfl

theorem changePart_of_none {i : Nat} {s : State} (h : (islOf s i).chg = none) : changePart i s = s := by
  unfold changePart
  dsimp only
  rw [h]

/-- A change in progress, by its part and by what follows it. -/
theorem changePart_of_some {i f : Nat} {b : Bool} {s : State} (h : (islOf s i).chg = some (f, b)) : changePart i s =
    if (islOf s i).paused || s.sp.held.contains i then s
    else if b = false then setIsl i { islOf s i with
        chg := some (f, true)
        mv := if decide ((islOf s i).mhz < f) = true then islVolt s i f else (islOf s i).mv
        mhz := if decide ((islOf s i).mhz < f) = true then (islOf s i).mhz else f } s
    else (islOf s i).next.elim (setIsl i { islOf s i with chg := none, mhz := f, mv := islVolt s i f, next := none } s) fun g =>
      setIsl i (if g = f then { islOf s i with chg := none, mhz := f, mv := islVolt s i f, next := none }
        else { islOf s i with chg := some (g, false), mhz := f, mv := islVolt s i f, next := none }) s := by
  unfold changePart
  dsimp only
  rw [h]
  dsimp only
  refine congrArg _ ?_
  cases b
  · simp
  · rw [if_neg (by decide), if_neg (by decide)]
    cases (islOf s i).next <;> rfl

theorem noEffect_frequencyChange {d p : Nat} {s : State} (h : (islOf s (islKey d p)).chg = none ∨ (islOf s (islKey d p)).paused = true ∨
    islKey d p ∈ s.sp.held) : noEffect (.frequencyChange d p) s := by
  refine (exec_frequencyChange d p s).trans (congrArg _ ?_)
  cases hc : (islOf s (islKey d p)).chg with
  | none => exact changePart_of_none hc
  | some y => exact (changePart_of_some (f := y.1) (b := y.2) hc).trans (if_pos (by simpa [hc] using h))

section
variable {d p f : Nat} {s : State} (hh : islKey d p ∉ s.sp.held) (hx : (islOf s (islKey d p)).paused = false)
include hh hx

theorem frequencyChange_first (hc : (islOf s (islKey d p)).chg = some (f, false)) : leadsTo (.frequencyChange d p) s (fun t =>
    { t with pow := s.pow } = s ∧ (∀ j, j ≠ islKey d p → islOf t j = islOf s j) ∧
    islOf t (islKey d p) = if (islOf s (islKey d p)).mhz < f then { islOf s (islKey d p) with chg := some (f, true), mv := islVolt s (islKey d p) f }
      else { islOf s (islKey d p) with chg := some (f, true), mhz := f }) := by
  refine ⟨_, (exec_frequencyChange d p s).trans (congrArg _ ((changePart_of_some hc).trans ((if_neg (by simp [hh, hx])).trans (if_pos rfl)))), rfl,
    fun j hj => islOf_setIsl_ne hj .., (islOf_setIsl_same ..).trans ?_⟩
  by_cases h : (islOf s (islKey d p)).mhz < f <;> simp [h]

theorem frequencyChange_second (hc : (islOf s (islKey d p)).chg = some (f, true)) : leadsTo (.frequencyChange d p) s (fun t =>
    { t with pow := s.pow } = s ∧ (∀ j, j ≠ islKey d p → islOf t j = islOf s j) ∧
    ((islOf s (islKey d p)).next = none →
      islOf t (islKey d p) = { islOf s (islKey d p) with chg := none, mhz := f, mv := islVolt s (islKey d p) f }) ∧
    ∀ g, (islOf s (islKey d p)).next = some g → g ≠ f →
      islOf t (islKey d p) = { islOf s (islKey d p) with chg := some (g, false), mhz := f, mv := islVolt s (islKey d p) f, next := none }) := by
  refine ⟨_, (exec_frequencyChange d p s).trans (congrArg _ ((changePart_of_some hc).trans ((if_neg (by simp [hh, hx])).trans (if_neg (by decide))))), ?_⟩
  cases hn : (islOf s (islKey d p)).next with
  | none =>
    refine ⟨rfl, fun j hj => islOf_setIsl_ne hj .., fun _ => (islOf_setIsl_same ..).trans ?_, fun g hg => by cases hg⟩
    rw [← hn]
  | some g =>
    refine ⟨rfl, fun j hj => islOf_setIsl_ne hj .., fun h => by (cases h), fun g' hg hf => ?_⟩
    obtain rfl := Option.some.inj hg
    exact (islOf_setIsl_same ..).trans (if_neg hf)

end

theorem droopLowering_spec {d p : Nat} (up : Bool) {s : State} (hd : d < 8) (hp : p < 2112) : leadsTo (.droopLowering d p up) s (fun t =>
    { t with pow := s.pow } = s ∧ (∀ j, j ≠ islKey d p → islOf t j = islOf s j) ∧
    (islOf t (islKey d p)).low = (if up = true then (islOf s (islKey d p)).low - 1 else (islOf s (islKey d p)).low + 1) ∧
    (islOf t (islKey d p)).mhz = (islOf s (islKey d p)).mhz) := by
  refine ⟨_, congrArg Host.Outcome.next (if_neg (by simp; omega)), ?_⟩
  generalize hy : ({ islOf s (islKey d p) with
    low := if up then (islOf s (islKey d p)).low - 1 else (islOf s (islKey d p)).low + 1 } : Isl) = y
  obtain ⟨h1, h2⟩ := aim_aimed (islKey d p) (setIsl (islKey d p) y s)
  have h := h1.isl (islKey d p)
  rw [islOf_setIsl_same] at h
  refine ⟨?_, fun j hj => (h2 j hj).trans (islOf_setIsl_ne hj ..), ?_, ?_⟩
  · rw [h1.eq]
    rfl
  · exact (congrArg Isl.low h).trans (by rw [← hy]; rfl)
  · exact (congrArg Isl.mhz h).trans (by rw [← hy]; rfl)

/-! ### Readings of the sensors (R378, R380) -/

/-- What telling of a temperature leaves: memory, the clocks and the units. -/
structure Metered (F : List Fld) (s t : State) : Prop where
  told : Told F s t
  mem : t.mem = s.mem
  isl : t.pow.isl = s.pow.isl
  sp : t.sp = s.sp

theorem Metered.rfl {F : List Fld} {s : State} : Metered F s s := ⟨Told.rfl, Eq.refl _, Eq.refl _, Eq.refl _⟩

theorem Metered.islOf {F : List Fld} {s t : State} (h : Metered F s t) (j : Nat) : islOf t j = islOf s j :=
  congrArg (fun m => sget Isl.parked m j) h.isl

theorem Metered.trans {F : List Fld} {s t u : State} (h : Metered F s t) (k : Metered F t u) : Metered F s u :=
  ⟨h.told.trans k.told, k.mem.trans h.mem, k.isl.trans h.isl, k.sp.trans h.sp⟩

theorem Metered.mono {F G : List Fld} {s t : State} (h : Metered F s t) (hg : ∀ f ∈ F, f ∈ G) : Metered G s t := { h with told := h.told.mono hg }

section
variable {F : List Fld} {s t : State} (h : Metered F s t)
include h

theorem Metered.rset {f : Fld} (hf : f ∈ F) (i v : Nat) : Metered F s (rset f i v t) :=
  ⟨h.told.rset (.inr hf) .., by simp [h.mem], by simp [h.isl], by simp [h.sp]⟩

theorem Metered.count1 {f : Fld} (hf : f ∈ F) (i : Nat) : Metered F s (count1 f i t) :=
  ⟨h.told.count1 (.inr hf) .., by simp [h.mem], by simp [h.isl], by simp [h.sp]⟩

theorem Metered.raise0 (code src det : Nat) : Metered F s (raise0 code src det t) :=
  ⟨h.told.raise0 .., by simp [h.mem], by simp [h.isl], by simp [h.sp]⟩

theorem Metered.urgent : Metered F s (urgent t) := ⟨h.told.urgent, by simp [h.mem], by simp [h.isl], by simp [h.sp]⟩

theorem Metered.thermalRecord (hf : .thermExcursionCount_count ∈ F) (kind die : Nat) (tj : Int) (ms : Nat) :
    Metered F s (thermalRecord kind die tj ms t) := by
  unfold Machine.thermalRecord almMod
  refine Metered.count1 ?_ hf _
  generalize AlmRec.mk _ _ _ _ _ _ = r
  refine ⟨h.told.almStage r, ?_, ?_, ?_⟩ <;> rw [almStage_eq]
  · exact h.mem
  · exact h.isl
  · exact h.sp

end

theorem ceiling_eq (s : State) (i : Nat) : ceiling s i = ceiling { State.reset with sp := s.sp } i := rfl

theorem ceiling_congr {s t : State} (h : t.sp = s.sp) (i : Nat) : ceiling t i = ceiling s i := by
  rw [ceiling_eq t, h, ← ceiling_eq]

theorem thermLimit_congr {s t : State} {i : Nat} (hi : islOf t i = islOf s i) (hp : t.sp = s.sp) : thermLimit t i = thermLimit s i := by
  rw [thermLimit, thermLimit, hi, ceiling_congr hp]

theorem limitAfter_congr {s t : State} {i : Nat} (hi : islOf t i = islOf s i) (hp : t.sp = s.sp) (tj : Int) : limitAfter t i tj = limitAfter s i tj := by
  rw [limitAfter, limitAfter, thermLimit_congr hi hp, hi, ceiling_congr hp]

/-- The coolant's readings, kept; leaving the limits is reported. -/
theorem coolant_spec (d : Nat) (tj inlet : Int) (flow : Nat) (s : State) : let t := coolant d tj inlet flow s
    Metered [.thermCoolant_inlet, .thermCoolant_flow, .thermStatus_coolantSeen, .thermExcursionCount_count] s t ∧
    rget t .thermCoolant_inlet 0 = s16 inlet ∧ rget t .thermCoolant_flow 0 = satTo 16 flow ∧
    (320 < inlet ∨ flow < 120 → s.pow.coolBad = false → rget t .thermStatus_coolantSeen 0 = 1 ∧ reported s t 0x0F06 0) := by
  intro t
  generalize hu : rset .thermCoolant_inlet 0 (s16 inlet) (rset .thermCoolant_flow 0 (satTo 16 flow)
    { s with pow := { s.pow with coolBad := decide (320 < inlet) || decide (flow < 120) } }) = u
  have hm : Metered [.thermCoolant_inlet, .thermCoolant_flow, .thermStatus_coolantSeen, .thermExcursionCount_count] s u := by
    rw [← hu]
    have h0 : Metered [.thermCoolant_inlet, .thermCoolant_flow, .thermStatus_coolantSeen, .thermExcursionCount_count] s
        { s with pow := { s.pow with coolBad := decide (320 < inlet) || decide (flow < 120) } } := ⟨Told.rfl.withPow _, rfl, rfl, rfl⟩
    exact (h0.rset (by decide) ..).rset (by decide) ..
  have hi : rget u .thermCoolant_inlet 0 = s16 inlet := by
    rw [← hu]
    exact (regAt_rset_same _ _ (by decide)).trans (Nat.mod_eq_of_lt (BitVec.isLt _))
  have hf : rget u .thermCoolant_flow 0 = satTo 16 flow := by
    rw [← hu]
    exact (regAt_rset_other _ _ _ _ (by decide)).trans ((regAt_rset_same _ _ (by decide)).trans (Nat.mod_eq_of_lt (satTo_lt 16 flow)))
  have ht : t = if (decide (320 < inlet) || decide (flow < 120)) && !s.pow.coolBad then
      thermalRecord 3 d tj 0 (raise0 0x0F06 5 (pack [(0, 16, s16 inlet), (16, 16, satTo 16 flow)]) (rflag .thermStatus_coolantSeen 0 u)) else u := by
    rw [← hu]; rfl
  rw [ht]
  split
  · generalize hv : rflag .thermStatus_coolantSeen 0 u = v
    have h1 : Metered [.thermStatus_coolantSeen] u v := by rw [← hv]; exact Metered.rfl.rset (by decide) ..
    have hr := raiseC_reported 0x0F06 5 0 (pack [(0, 16, s16 inlet), (16, 16, satTo 16 flow)]) v
    have h2 : Metered [.thermExcursionCount_count] v (raise0 0x0F06 5 (pack [(0, 16, s16 inlet), (16, 16, satTo 16 flow)]) v) := Metered.rfl.raise0 ..
    have h3 := (Metered.rfl (s := raise0 0x0F06 5 (pack [(0, 16, s16 inlet), (16, 16, satTo 16 flow)]) v)).thermalRecord
      (F := [.thermExcursionCount_count]) (by decide) 3 d tj 0
    have h4 := h2.trans h3
    have h5 : Metered [.thermStatus_coolantSeen, .thermExcursionCount_count] u _ := (h1.mono (by simp)).trans (h4.mono (by simp))
    refine ⟨hm.trans (h5.mono (by simp)), (h5.told.regs _ 0 rfl (by decide)).trans hi, (h5.told.regs _ 0 rfl (by decide)).trans hf, fun _ _ => ⟨?_, ?_⟩⟩
    · refine (h4.told.regs _ 0 rfl (by decide)).trans ?_
      rw [← hv]
      exact regAt_rset_same _ _ (by decide)
    · exact .since (hm.told.trans (h1.told.mono (by simp))) (hr.told h3.told)
  · next hn => exact ⟨hm, hi, hf, fun h hb => absurd (by simpa [hb] using h) hn⟩

/-- The fields in which a reading of an island is counted and kept. -/
def readFlds : List Fld := [.thermThrottleCount_count, .thermExcursionCount_count, .thermDie_tjMax, .thermDie_throttled]

theorem throttled_spec (d p : Nat) (tj : Int) (s : State) : Metered (.thermStatus_throttleSeen :: readFlds) s (throttled d p tj s) ∧
    rget (throttled d p tj s) .thermStatus_throttleSeen 0 = 1 := by
  unfold throttled
  generalize hu : rflag .thermStatus_throttleSeen 0 s = u
  have h0 : Metered [.thermStatus_throttleSeen] s u := by rw [← hu]; exact Metered.rfl.rset (by decide) ..
  have h1 : rget u .thermStatus_throttleSeen 0 = 1 := by rw [← hu]; exact regAt_rset_same _ _ (by decide)
  have h2 : Metered readFlds u (if rget s .thermStatus_throttleSeen 0 = 0 then thermEvent 0x0F04 d p tj (count1 .thermThrottleCount_count 0 u)
      else count1 .thermThrottleCount_count 0 u) := by
    have hc : Metered readFlds u (count1 .thermThrottleCount_count 0 u) := Metered.rfl.count1 (by decide) 0
    split
    · exact hc.raise0 ..
    · exact hc
  exact ⟨(h0.mono (by decide)).trans (h2.mono (by decide)), (h2.told.regs _ 0 rfl (by decide)).trans h1⟩

/-- An alarm, told and recorded. -/
def alarmed (d p : Nat) (tj : Int) (ms : Nat) (s : State) : State :=
  thermalRecord 1 d tj ms (urgent (thermEvent 0x0F05 d p tj (rflag .thermStatus_alarmSeen 0 s)))

theorem alarmed_spec (d p : Nat) (tj : Int) (ms : Nat) (s : State) : Metered (.thermStatus_alarmSeen :: readFlds) s (alarmed d p tj ms s) ∧
    rget (alarmed d p tj ms s) .thermStatus_alarmSeen 0 = 1 ∧ reported s (alarmed d p tj ms s) 0x0F05 0 := by
  unfold alarmed
  generalize hu : rflag .thermStatus_alarmSeen 0 s = u
  have h0 : Metered [.thermStatus_alarmSeen] s u := by rw [← hu]; exact Metered.rfl.rset (by decide) ..
  have h1 : rget u .thermStatus_alarmSeen 0 = 1 := by rw [← hu]; exact regAt_rset_same _ _ (by decide)
  generalize hv : thermEvent 0x0F05 d p tj u = v
  have h2 : Metered readFlds u v := by rw [← hv]; exact Metered.rfl.raise0 ..
  have hr : reported u v 0x0F05 0 := by rw [← hv]; exact raiseC_reported ..
  have h3 : Metered readFlds v (thermalRecord 1 d tj ms (urgent v)) := Metered.rfl.urgent.thermalRecord (by decide) ..
  exact ⟨(h0.mono (by decide)).trans ((h2.trans h3).mono (by decide)), ((h2.trans h3).told.regs _ 0 rfl (by decide)).trans h1,
    .since h0.told (hr.told h3.told)⟩

/-- The clock of an island after a reading. -/
def Isl.read (s : State) (i : Nat) (tj : Int) (ms : Nat) : Isl :=
  { islOf s i with tj := some tj, thermal := limitAfter s i tj, alarm := decide (limitAfter s i tj = 1200) && decide (880 ≤ tj),
                   hot := decide (800 < tj) && decide (1000 ≤ ms) }

/-- What a reading of an island's sensor sets, tells and leaves. -/
theorem islandReading_spec (d p : Nat) (tj : Int) (ms : Nat) (s : State) : let t := islandReading d p tj ms s; let i := islKey d p
    Told (.thermStatus_throttleSeen :: .thermStatus_alarmSeen :: readFlds) s t ∧ t.mem = s.mem ∧ (islOf t i).settled = (Isl.read s i tj ms).settled ∧
    (800 ≤ tj → limitAfter s i tj < thermLimit s i → rget t .thermStatus_throttleSeen 0 = 1) ∧
    (limitAfter s i tj = 1200 → 880 ≤ tj → (islOf s i).alarm = false → rget t .thermStatus_alarmSeen 0 = 1 ∧ reported s t 0x0F05 0) := by
  intro t i
  generalize h1 : setIsl i (Isl.read s i tj ms) s = s1
  have k1 : Told [] s s1 := by rw [← h1]; exact Told.rfl.withPow _
  have m1 : s1.mem = s.mem := by rw [← h1]; rfl
  have i1 : islOf s1 i = Isl.read s i tj ms := by rw [← h1]; exact islOf_setIsl_same ..
  generalize h2 : (if decide (800 ≤ tj) && decide (limitAfter s i tj < thermLimit s i) then throttled d p tj s1 else s1) = s2
  have k2 : Metered (.thermStatus_throttleSeen :: readFlds) s1 s2 ∧
      (800 ≤ tj → limitAfter s i tj < thermLimit s i → rget s2 .thermStatus_throttleSeen 0 = 1) := by
    rw [← h2]
    split
    · exact ⟨(throttled_spec ..).1, fun _ _ => (throttled_spec ..).2⟩
    · next hn => exact ⟨.rfl, fun ha hb => absurd (by simp [ha, hb]) hn⟩
  generalize h3 : (if (Isl.read s i tj ms).alarm && !(islOf s i).alarm then alarmed d p tj ms s2 else s2) = s3
  have k3 : Metered (.thermStatus_alarmSeen :: readFlds) s2 s3 ∧
      (limitAfter s i tj = 1200 → 880 ≤ tj → (islOf s i).alarm = false → rget s3 .thermStatus_alarmSeen 0 = 1 ∧ reported s2 s3 0x0F05 0) := by
    rw [← h3]
    split
    · exact ⟨(alarmed_spec ..).1, fun _ _ _ => (alarmed_spec ..).2⟩
    · next hn => exact ⟨.rfl, fun ha hb hc => absurd (by simp [Isl.read, ha, hb, hc]) hn⟩
  generalize h4 : (if (Isl.read s i tj ms).hot && !(islOf s i).hot then thermalRecord 0 d tj ms s3 else s3) = s4
  have k4 : Metered readFlds s3 s4 := by
    rw [← h4]
    split
    · exact Metered.rfl.thermalRecord (by decide) ..
    · exact .rfl
  generalize h5 : rset .thermDie_tjMax d (s16 (hottestOf s4 d)) (rset .thermDie_throttled d (throttledOf s4 d) s4) = s5
  have k5 : Metered readFlds s3 s5 := by
    rw [← h5]
    exact (k4.rset (by decide) ..).rset (by decide) ..
  have ht : t = if limitAfter s i tj = thermLimit s i then s5 else evalDie d (aim i s5) := by
    rw [← h5, ← h4, ← h3, ← h2, ← h1]
    rfl
  have k6 : Aimed s5 t := by
    rw [ht]
    split
    · exact .rfl
    · exact (aim_aimed i s5).1.trans (evalDie_aimed ..)
  have kt : Told readFlds s3 t := k5.told.trans k6.told
  refine ⟨((k1.mono (by simp)).trans (k2.1.told.mono (by decide))).trans ((k3.1.told.mono (by decide)).trans (kt.mono (by decide))), ?_, ?_, ?_, ?_⟩
  · rw [k6.eq]
    exact k5.mem.trans (k3.1.mem.trans (k2.1.mem.trans m1))
  · exact (k6.isl i).trans (congrArg _ ((k5.islOf i).trans ((k3.1.islOf i).trans ((k2.1.islOf i).trans i1))))
  · exact fun ha hb => (kt.regs _ 0 rfl (by decide)).trans ((k3.1.told.regs _ 0 rfl (by decide)).trans (k2.2 ha hb))
  · intro ha hb hc
    obtain ⟨r1, r2⟩ := k3.2 ha hb hc
    exact ⟨(kt.regs _ 0 rfl (by decide)).trans r1, .since k1 (.since k2.1.told (r2.told kt))⟩

theorem exec_thermalReading (d p : Nat) (tj inlet : Int) (flow ms : Nat) (s : State) : exec (.thermalReading d p tj inlet flow ms) s = .next (
    if 12 ≤ d || (d < 8 && 2112 ≤ p) then coolant d tj inlet flow s
    else if 8 ≤ d then rset .thermDie_tjMax d (s16 tj) (coolant d tj inlet flow s)
    else islandReading d p tj ms (coolant d tj inlet flow s)) := rfl

theorem limitAfter_hot {s : State} {i : Nat} {tj : Int} (h : 800 ≤ tj) : limitAfter s i tj = Max.max 1200 (thermLimit s i - 25) := if_pos h

theorem limitAfter_between {s : State} {i : Nat} {tj : Int} (h : 784 < tj) (h' : tj < 800) : limitAfter s i tj = (islOf s i).thermal :=
  (if_neg (by omega)).trans (if_neg (by omega))

theorem limitAfter_cool {s : State} {i : Nat} {tj : Int} (h : tj ≤ 784) :
    limitAfter s i tj = if ceiling s i ≤ thermLimit s i + 25 then 2600 else thermLimit s i + 25 :=
  (if_neg (by omega)).trans (if_pos h)

theorem thermalReading_spec (d p : Nat) (tj inlet : Int) (flow ms : Nat) (s : State) : let i := islKey d p
    leadsTo (.thermalReading d p tj inlet flow ms) s (fun t => t.mem = s.mem ∧ rget t .thermCoolant_inlet 0 = s16 inlet ∧
      rget t .thermCoolant_flow 0 = satTo 16 flow ∧
      (320 < inlet ∨ flow < 120 → s.pow.coolBad = false → rget t .thermStatus_coolantSeen 0 = 1 ∧ reported s t 0x0F06 0) ∧
      (8 ≤ d → d < 12 → rget t .thermDie_tjMax d = s16 tj) ∧
      (d < 8 → p < 2112 → (islOf t i).tj = some tj ∧
        (800 ≤ tj → (islOf t i).thermal = Max.max 1200 (thermLimit s i - 25)) ∧
        (800 ≤ tj → 1200 < thermLimit s i → rget t .thermStatus_throttleSeen 0 = 1) ∧
        (784 < tj → tj < 800 → (islOf t i).thermal = (islOf s i).thermal) ∧
        (tj ≤ 784 → (islOf t i).thermal = if ceiling s i ≤ thermLimit s i + 25 then 2600 else thermLimit s i + 25) ∧
        (880 ≤ tj → thermLimit s i ≤ 1225 → (islOf s i).alarm = false → rget t .thermStatus_alarmSeen 0 = 1 ∧ reported s t 0x0F05 0))) := by
  intro i
  obtain ⟨hm, hin, hfl, hco⟩ := coolant_spec d tj inlet flow s
  have later : ∀ {F : List Fld} {v : State}, Told F (coolant d tj inlet flow s) v → v.mem = (coolant d tj inlet flow s).mem →
      (∀ f ∈ F, f ∉ [.thermCoolant_inlet, .thermCoolant_flow, .thermStatus_coolantSeen]) → v.mem = s.mem ∧ rget v .thermCoolant_inlet 0 = s16 inlet ∧
      rget v .thermCoolant_flow 0 = satTo 16 flow ∧
      (320 < inlet ∨ flow < 120 → s.pow.coolBad = false → rget v .thermStatus_coolantSeen 0 = 1 ∧ reported s v 0x0F06 0) := fun hv hvm hF =>
    ⟨hvm.trans hm.mem, (hv.regs _ 0 rfl fun h => hF _ h (by decide)).trans hin, (hv.regs _ 0 rfl fun h => hF _ h (by decide)).trans hfl,
      fun ha hb => ⟨(hv.regs _ 0 rfl fun h => hF _ h (by decide)).trans (hco ha hb).1, (hco ha hb).2.told hv⟩⟩
  have hx := exec_thermalReading d p tj inlet flow ms s
  by_cases h8 : d < 8
  · by_cases hp : p < 2112
    · refine ⟨_, hx.trans (congrArg _ ((if_neg (by simp; omega)).trans (if_neg (by omega)))), ?_⟩
      obtain ⟨t1, t2, t3, t4, t5⟩ := islandReading_spec d p tj ms (coolant d tj inlet flow s)
      have hi := hm.islOf i
      have hl := limitAfter_congr hi hm.sp tj
      have hth := thermLimit_congr hi hm.sp
      have hread := congrArg Isl.thermal t3
      have hread' : (islOf (islandReading d p tj ms (coolant d tj inlet flow s)) i).thermal = limitAfter s i tj := hread.trans hl
      obtain ⟨a, b, c, e⟩ := later t1 t2 (by decide)
      refine ⟨a, b, c, e, by omega, fun _ _ => ⟨congrArg Isl.tj t3, fun h => hread'.trans (limitAfter_hot h), fun h h' => t4 h ?_,
        fun h h' => hread'.trans (limitAfter_between h h'), fun h => hread'.trans (limitAfter_cool h), fun h h' ha => ?_⟩⟩
      · show limitAfter _ i tj < thermLimit _ i
        rw [hl, hth, limitAfter_hot h]
        omega
      · obtain ⟨r1, r2⟩ := t5 (hl.trans ((limitAfter_hot (by omega)).trans (by omega))) h ((congrArg Isl.alarm hi).trans ha)
        exact ⟨r1, .since hm.told r2⟩
    · refine ⟨_, hx.trans (congrArg _ (if_pos (by simp; omega))), ?_⟩
      obtain ⟨a, b, c, e⟩ := later (F := []) .rfl rfl (by simp)
      exact ⟨a, b, c, e, by omega, fun _ h => absurd h hp⟩
  · by_cases h12 : d < 12
    · refine ⟨_, hx.trans (congrArg _ ((if_neg (by simp; omega)).trans (if_pos (by omega)))), ?_⟩
      obtain ⟨a, b, c, e⟩ := later (F := [.thermDie_tjMax]) (Told.rfl.rset (f := .thermDie_tjMax) (.inr (by decide)) d (s16 tj)) (rset_mem ..) (by decide)
      exact ⟨a, b, c, e, fun _ _ => (regAt_rset_same _ _ h12).trans (Nat.mod_eq_of_lt (BitVec.isLt _)), fun h => absurd h h8⟩
    · refine ⟨_, hx.trans (congrArg _ (if_pos (by simp; omega))), ?_⟩
      obtain ⟨a, b, c, e⟩ := later (F := []) .rfl rfl (by simp)
      exact ⟨a, b, c, e, by omega, fun h => absurd h h8⟩

end Sys2Proof.Machine
end

section
/-! PROOFS. Trips, Idle and Fallow (R379, R382 to R384). -/

namespace Sys2Proof.Machine

/-! ### Blocks that are sealed, and HELD -/

/-- The fields that the sealing of blocks writes. -/
def blockFlds : List Fld := [.almanacSeq_seq, .almanacUsed_blocks, .almanacStatus_tail, .almanacStatus_skipSeen]

section
variable {F : List Fld} {s t : State} (h : Told F s t)
include h

theorem Told.withAlm (a : Alm) : Told F s { t with alm := a } := h.of_eq (Eq.refl _) (Eq.refl _) (Eq.refl _) (Eq.refl _) (Eq.refl _)

theorem Told.almSeal (flags : Nat) : Told F s (almSeal flags t) := by
  obtain ⟨a, ha⟩ := almSeal_eq flags t
  rw [ha]
  exact h.withAlm a

theorem Told.almMod (typ src : Nat) (body : List Byte) : Told F s (almMod typ src body t) := h.almStage _

theorem Told.usePosition (hF : blockFlds ⊆ F) (ok : Bool) : Told F s (usePosition ok t) := by
  unfold Machine.usePosition
  have h1 := h.rset (f := .almanacUsed_blocks) (.inr (hF (by decide))) 0 (rget t .almanacUsed_blocks 0 + 1)
  dsimp only
  split
  · exact ((h1.withAlm _).rset (.inr (hF (by decide))) ..).raise0 ..
  · exact h1

theorem Told.programBlock (hF : blockFlds ⊆ F) (n : Nat) (l : List AlmRec) (tail : Bool) (flags : Nat) : Told F s (programBlock n l tail flags t) := by
  unfold Machine.programBlock
  dsimp only
  generalize sealedFacts _ _ = a
  have h1 : Told F s (Machine.rset .almanacSeq_seq 0 n { t with alm := a }) := (h.withAlm a).rset (f := .almanacSeq_seq) (.inr (hF (by decide))) ..
  split
  · exact (h1.withAlm _).almSeal 2
  · exact h1

theorem Told.blockDone (hF : blockFlds ⊆ F) (ok : Bool) : Told F s (blockDone ok t) := by
  unfold Machine.blockDone
  split
  · exact h
  · dsimp only
    split
    · exact h.withAlm _
    · split
      · exact ((h.usePosition hF ok).withAlm _).rflag (hF (by decide)) 0
      · exact (h.usePosition hF ok).programBlock hF ..

theorem Told.sealRun (hF : blockFlds ⊆ F) (n : Nat) : Told F s (sealRun n t) := by
  induction n generalizing t with
  | zero => exact h
  | succ n ih =>
    unfold Machine.sealRun
    split
    · exact ih (h.blockDone hF true)
    · exact h

theorem Told.sealAll (hF : blockFlds ⊆ F) : Told F s (sealAll t) := by
  unfold Machine.sealAll
  dsimp only
  split
  · exact h.sealRun hF _
  · exact ((h.sealRun hF _).almSeal 2).sealRun hF _

end

/-- The fields that the entry into HELD writes. -/
def heldFlds : List Fld := [.mcBootStatus_heldReason, .mcStatus_phase, .mcStatus_ready, .cohortHealth_hard, .cohortHealth_score,
  .hostifLink_up, .hostifLink_width, .hostifLink_rate, .hostifLink_flit, .linkPortState_state, .linkPortState_width]

/-- The registers and the hard flag of a module that is held, before its links go down. -/
def heldState (reason : Nat) (s : State) : State :=
  setHard (rset .mcStatus_ready 0 0 (rset .mcStatus_phase 0 3 (rset .mcBootStatus_heldReason 0 reason (stopAll s))))

theorem rset_withRegs {s t : State} (h : ∃ r, t = { s with regs := r }) (f : Fld) (i v : Nat) : ∃ r, rset f i v t = { s with regs := r } := by
  obtain ⟨r, rfl⟩ := h
  exact ⟨_, rset_regsOnly ..⟩

theorem heldState_fields (reason : Nat) (s : State) : let t := heldState reason s
    (∃ r, t = { stopAll s with regs := r }) ∧ (∀ g j, g ∉ heldFlds → rget t g j = rget s g j) ∧
    rget t .mcStatus_phase 0 = 3 ∧ rget t .mcBootStatus_heldReason 0 = reason % 2 ^ 4 ∧ rget t .mcStatus_ready 0 = 0 ∧ rget t .cohortHealth_hard 0 = 1 := by
  intro t
  have ht : t = rset .cohortHealth_score 0 0 (rset .cohortHealth_hard 0 1 (rset .mcStatus_ready 0 0 (rset .mcStatus_phase 0 3
    (rset .mcBootStatus_heldReason 0 reason (stopAll s))))) := rfl
  clear_value t
  subst ht
  simp only [rget_eq]
  have hs : (stopAll s).regs = s.regs := rfl
  generalize stopAll s = u at hs
  have h0 : ∃ r, u = { u with regs := r } := ⟨_, rfl⟩
  have h1 := rset_withRegs h0 .mcBootStatus_heldReason 0 reason
  have h2 := rset_withRegs (rset_withRegs h1 .mcStatus_phase 0 3) .mcStatus_ready 0 0
  refine ⟨rset_withRegs (rset_withRegs h2 .cohortHealth_hard 0 1) .cohortHealth_score 0 0, fun g j hg => ?_, ?_, ?_, ?_, ?_⟩
  · simp only [heldFlds, List.mem_cons, List.not_mem_nil, or_false, not_or] at hg
    obtain ⟨g1, g2, g3, g4, g5, -⟩ := hg
    rw [regAt_rset_other _ _ _ _ g5, regAt_rset_other _ _ _ _ g4, regAt_rset_other _ _ _ _ g3, regAt_rset_other _ _ _ _ g2, regAt_rset_other _ _ _ _ g1, hs]
  · rw [regAt_rset_other _ _ _ _ (by decide), regAt_rset_other _ _ _ _ (by decide), regAt_rset_other _ _ _ _ (by decide), regAt_rset_same _ _ (by decide)]
    exact rfl
  · rw [regAt_rset_other _ _ _ _ (by decide), regAt_rset_other _ _ _ _ (by decide), regAt_rset_other _ _ _ _ (by decide),
      regAt_rset_other _ _ _ _ (by decide), regAt_rset_same _ _ (by decide)]
    exact rfl
  · rw [regAt_rset_other _ _ _ _ (by decide), regAt_rset_other _ _ _ _ (by decide), regAt_rset_same _ _ (by decide)]
    exact rfl
  · rw [regAt_rset_other _ _ _ _ (by decide), regAt_rset_same _ _ (by decide)]
    exact rfl

/-- A link of the host taken down, a field at a time, and a port. -/
def portDark (s : State) (p : Nat) : State := rset .linkPortState_state p 0 (rset .linkPortState_width p 0 s)

/-- The links to the host taken down. -/
def hostDark (s : State) : State := [Fld.hostifLink_up, .hostifLink_width, .hostifLink_rate, .hostifLink_flit].foldl (fun s f => rset f 0 0 s) s

theorem enterHeld_eq (reason : Nat) (s : State) : enterHeld reason s = (List.range 32).foldl portDark
    { hostDark (heldState reason s) with boot := { (hostDark (heldState reason s)).boot with starting := false } } := rfl

theorem portsDark_spec (s : State) : (∃ r, (List.range 32).foldl portDark s = { s with regs := r }) ∧
    ∀ g j, g ≠ .linkPortState_state → g ≠ .linkPortState_width → rget ((List.range 32).foldl portDark s) g j = rget s g j := by
  refine List.foldlRecOn _ _ (motive := fun t : State => (∃ r, t = { s with regs := r }) ∧
    ∀ g j, g ≠ .linkPortState_state → g ≠ .linkPortState_width → rget t g j = rget s g j) ⟨⟨s.regs, rfl⟩, fun _ _ _ _ => rfl⟩ ?_
  rintro t ⟨⟨r, hr⟩, h⟩ p _
  refine ⟨⟨(portDark t p).regs, ?_⟩, fun g j h1 h2 => ?_⟩
  · rw [portDark, rset_regsOnly, rset_regsOnly .linkPortState_width, hr]
  · exact (regAt_rset_other _ _ _ _ h1).trans ((regAt_rset_other _ _ _ _ h2).trans (h g j h1 h2))

/-- HELD: what it sets, and that it leaves the other fields and, but for what was running, the rest. -/
theorem enterHeld_spec (reason : Nat) (s : State) : let t := enterHeld reason s
    (∃ r, t = { stopAll s with regs := r, boot := { s.boot with starting := false } }) ∧ (∀ g j, g ∉ heldFlds → rget t g j = rget s g j) ∧
    phase t = 3 ∧ rget t .mcBootStatus_heldReason 0 = reason % 2 ^ 4 ∧ rget t .mcStatus_ready 0 = 0 ∧ rget t .cohortHealth_hard 0 = 1 := by
  intro t
  have ht : t = _ := enterHeld_eq reason s
  clear_value t
  generalize hA : heldState reason s = A at ht
  obtain ⟨⟨r0, hr0⟩, kA, a1, a2, a3, a4⟩ : (∃ r, A = { stopAll s with regs := r }) ∧ (∀ g j, g ∉ heldFlds → rget A g j = rget s g j) ∧
      rget A .mcStatus_phase 0 = 3 ∧ rget A .mcBootStatus_heldReason 0 = reason % 2 ^ 4 ∧ rget A .mcStatus_ready 0 = 0 ∧ rget A .cohortHealth_hard 0 = 1 := by
    rw [← hA]
    exact heldState_fields reason s
  obtain ⟨⟨r1, hB⟩, kB⟩ := foldl_rset_frame [Fld.hostifLink_up, .hostifLink_width, .hostifLink_rate, .hostifLink_flit] 0 0 A
  change hostDark A = _ at hB
  change ∀ f j, _ → rget (hostDark A) f j = _ at kB
  generalize hostDark A = B at hB kB ht
  obtain ⟨⟨r2, hC⟩, kC⟩ := portsDark_spec { B with boot := { B.boot with starting := false } }
  rw [← ht] at hC kC
  have keep : ∀ g j, g ≠ .linkPortState_state → g ≠ .linkPortState_width →
      g ∉ [Fld.hostifLink_up, .hostifLink_width, .hostifLink_rate, .hostifLink_flit] → rget t g j = rget A g j := fun g j h1 h2 h3 =>
    (kC g j h1 h2).trans (kB g j h3)
  refine ⟨⟨r2, hC.trans (by rw [hB, hr0]; rfl)⟩, fun g j hg => (keep g j ?_ ?_ fun hm => hg ?_).trans (kA g j hg),
    (keep _ _ (by decide) (by decide) (by decide)).trans a1, (keep _ _ (by decide) (by decide) (by decide)).trans a2,
    (keep _ _ (by decide) (by decide) (by decide)).trans a3, (keep _ _ (by decide) (by decide) (by decide)).trans a4⟩
  · rintro rfl
    exact hg (by decide)
  · rintro rfl
    exact hg (by decide)
  · exact (show [Fld.hostifLink_up, .hostifLink_width, .hostifLink_rate, .hostifLink_flit] ⊆ heldFlds by decide) hm

/-! ### The trip of a die (R379) -/

/-- The fields that a trip writes before the module is held. -/
def tripFlds : List Fld := .thermExcursionCount_count :: blockFlds

theorem exec_thermalTrip (d : Nat) (s : State) : exec (.thermalTrip d) s = .next (if 12 ≤ d || !s.boot.powered || phase s == 3 then s
    else enterHeld 1 (sealAll (almSeal 2 (thermalRecord 2 d
      (rget (ror .thermTripDie_dies 0 (2 ^ d) (rflag .thermStatus_trip 0 s)) .thermDie_tjMax d) 0
      (ror .thermTripDie_dies 0 (2 ^ d) (rflag .thermStatus_trip 0 s)))))) := by
  show execThermalTrip d s = _
  simp only [execThermalTrip, rget_eq]
  rw [regAt_ror_other _ _ _ _ (by decide), regAt_rflag_other _ _ _ (by decide)]

theorem trips {d : Nat} {s : State} (hd : d < 12) (hp : s.boot.powered = true) (h3 : phase s ≠ 3) : leadsTo (.thermalTrip d) s (fun t =>
    phase t = 3 ∧ rget t .mcBootStatus_heldReason 0 = 1 ∧ rget t .thermStatus_trip 0 = 1 ∧ (rget t .thermTripDie_dies 0).testBit d = true ∧
    rget t .cohortHealth_hard 0 = 1 ∧ t.eng = [] ∧ rget t .mcStatus_ready 0 = 0) := by
  refine ⟨_, (exec_thermalTrip d s).trans (congrArg _ (if_neg (by simp [hp, h3]; omega))), ?_⟩
  generalize hu : ror .thermTripDie_dies 0 (2 ^ d) (rflag .thermStatus_trip 0 s) = u
  have u1 : rget u .thermStatus_trip 0 = 1 := by
    rw [← hu]
    exact (regAt_ror_other _ _ _ _ (by decide)).trans (regAt_rset_same _ _ (by decide))
  have u2 : (rget u .thermTripDie_dies 0).testBit d = true := by
    rw [← hu]
    show (regAt (rset .thermTripDie_dies 0 (rget (rflag .thermStatus_trip 0 s) .thermTripDie_dies 0 ||| 2 ^ d) (rflag .thermStatus_trip 0 s)).regs _ 0).testBit d = true
    rw [regAt_rset_same _ _ (by decide), Nat.testBit_mod_two_pow, Nat.testBit_or, Nat.testBit_two_pow_self, Bool.or_true, Bool.and_true]
    exact decide_eq_true hd
  have hv : Told tripFlds u (sealAll (almSeal 2 (thermalRecord 2 d (rget u .thermDie_tjMax d) 0 u))) :=
    ((((Told.rfl.almMod ..).count1 (.inr (by decide)) 0).almSeal 2).sealAll (by decide))
  generalize sealAll (almSeal 2 (thermalRecord 2 d (rget u .thermDie_tjMax d) 0 u)) = v at hv
  obtain ⟨⟨r, hr⟩, hk, k1, k2, k3, k4⟩ := enterHeld_spec 1 v
  exact ⟨k1, k2, (hk _ 0 (by decide)).trans ((hv.regs _ 0 rfl (by decide)).trans u1),
    by rw [hk _ 0 (by decide), rget_eq, hv.regs _ 0 rfl (by decide)]; exact u2, k4, by rw [hr]; rfl, k3⟩

/-! ### The state of the module's power (R382) -/

theorem setPwrState_same {n : Nat} {s : State} (h : rget s .pwrState_state 0 = n) (c : Nat) : setPwrState n c s = s := if_pos h

/-- A change of the state is kept and reported. -/
theorem setPwrState_spec {n : Nat} (hn : n < 2 ^ 4) (c : Nat) (s : State) : Told [.pwrState_state] s (setPwrState n c s) ∧
    rget (setPwrState n c s) .pwrState_state 0 = n ∧ (rget s .pwrState_state 0 ≠ n → reported s (setPwrState n c s) 0x0F03 0) := by
  by_cases h : rget s .pwrState_state 0 = n
  · rw [setPwrState_same h]
    exact ⟨.rfl, h, fun hne => absurd h hne⟩
  · have he : setPwrState n c s = raise0 0x0F03 4 (pack [(0, 4, n), (4, 4, rget s .pwrState_state 0), (8, 8, c)]) (rset .pwrState_state 0 n s) := if_neg h
    rw [he]
    have h1 : Told [.pwrState_state] s (rset .pwrState_state 0 n s) := Told.rfl.rset (.inr (by decide)) ..
    exact ⟨h1.raise0 .., (regAt_raise0 _ _ _ _ _ rfl).trans ((regAt_rset_same _ _ (by decide)).trans (Nat.mod_eq_of_lt hn)),
      fun _ => .since h1 (raiseC_reported 0x0F03 _ 0 _ _)⟩

theorem idleEntered {s : State} (h1 : rget s .mcStatus_ready 0 ≠ 0) (h2 : rget s .pwrState_target 0 = 1) (h3 : rget s .pwrState_state 0 = 0)
    (h4 : working s = false) : leadsTo .idleEntry s (fun t => rget t .pwrState_state 0 = 1 ∧ reported s t 0x0F03 0 ∧ t.mem = s.mem) := by
  obtain ⟨-, k1, k2⟩ := setPwrState_spec (n := 1) (by decide) 1 s
  exact ⟨_, congrArg Host.Outcome.next (if_neg (by simp [h1, h2, h3, h4])), k1, k2 (by rw [h3]; decide), setPwrState_mem ..⟩

theorem noEffect_idleEntry {s : State} (h : rget s .mcStatus_ready 0 = 0 ∨ rget s .pwrState_target 0 ≠ 1 ∨ rget s .pwrState_state 0 ≠ 0 ∨ working s = true) :
    noEffect .idleEntry s :=
  congrArg Host.Outcome.next (if_pos (by rcases h with h | h | h | h <;> simp [h]))

/-! ### POWER_STATE (R382, R383) -/

/-- The effect of POWER_STATE. -/
def powerBody' (h : CmdRef) (n : Nat) (s : State) : State :=
  if 2 < n then badParam h 0 s
  else if n < 2 then finishOk h (if n = 0 then leaveIdle (rset .pwrState_target 0 n s) else rset .pwrState_target 0 n s)
  else if fallowRefused s h ≠ 0 then finish h stPowerRefused (fallowRefused s h) s
  else setPwrState 3 0 (rset .pwrState_target 0 2 (waitFor h .fallow s))

theorem exec_powerState (h : CmdRef) (n : BitVec 8) (s : State) : exec (.powerState h n) s = .next (runPriv 0x61 h (powerBody' h n.toNat) s) := rfl

theorem fallowRefused_started (op : Nat) (h : CmdRef) (s : State) : fallowRefused (started op h s) h = fallowRefused s h := by
  unfold started
  split
  · have hj : (setJournal (s.ctl.journal ++ [directRec s op h]) s).ctl.journal.any (fun r => openRec r && !(r.q == h.q && r.seq == h.seq.toNat)) =
        s.ctl.journal.any (fun r => openRec r && !(r.q == h.q && r.seq == h.seq.toNat)) := by
      simp [setJournal, directRec]
    unfold fallowRefused
    rw [hj]
    rfl
  · rfl

section
variable {h : CmdRef} {n : BitVec 8} {s : State} (hm : mayRun 0x61 h s = true) (hc : h.ctx = 0)
include hm hc

theorem powerState_outOfRange (hn : 2 < n.toNat) : leadsTo (.powerState h n) s (fun t => replied h 0x0016 0 t = true ∧ onlyJournal s t) :=
  leadsTo_answered_priv (exec_powerState h n s) hm hc fun _ => if_pos hn

theorem powerState_awake (hn : n.toNat < 2) : leadsTo (.powerState h n) s (fun t => replied h 0x0000 0 t = true ∧ rget t .pwrState_target 0 = n.toNat ∧
    (n = 0 → rget t .pwrState_state 0 ≠ 1)) := by
  refine leadsTo_runPriv (exec_powerState h n s) hm hc fun l hl => ?_
  have hb : powerBody' h n.toNat (setJournal l s) = finishOk h (if n.toNat = 0 then leaveIdle (rset .pwrState_target 0 n.toNat (setJournal l s))
      else rset .pwrState_target 0 n.toNat (setJournal l s)) := (if_neg (by omega)).trans (if_pos hn)
  rw [hb]
  generalize hu : rset .pwrState_target 0 n.toNat (setJournal l s) = u
  have uj : u.ctl.journal = l := by rw [← hu, rset_ctl]; rfl
  have ut : rget u .pwrState_target 0 = n.toNat := by
    rw [← hu]
    exact (regAt_rset_same _ _ (by decide)).trans (Nat.mod_eq_of_lt (by show n.toNat < 2 ^ 2; omega))
  by_cases h0 : n.toNat = 0
  · rw [if_pos h0]
    refine ⟨finishOk_replied_of hm hl (by rw [leaveIdle_ctl_journal, uj]), ((leaveIdle_told u).regs _ 0 rfl (by decide)).trans ut, fun _ => ?_⟩
    show rget (leaveIdle u) .pwrState_state 0 ≠ 1
    unfold leaveIdle
    split
    · rw [(setPwrState_spec (n := 0) (by decide) 0 u).2.1]
      decide
    · assumption
  · rw [if_neg h0]
    exact ⟨finishOk_replied_of hm hl uj, ut, fun hn0 => absurd (by rw [hn0]; rfl) h0⟩

theorem powerState_refused (hn : n = 2) (hf : fallowRefused s h ≠ 0) : leadsTo (.powerState h n) s (fun t =>
    replied h 0x0060 (fallowRefused s h) t = true ∧ onlyJournal s t) := by
  subst hn
  refine leadsTo_runPriv (exec_powerState h 2 s) hm hc fun l hl => ?_
  have hr : fallowRefused (setJournal l s) h = fallowRefused s h := by rw [← hl, fallowRefused_started]
  have hb : powerBody' h (2 : BitVec 8).toNat (setJournal l s) = finish h stPowerRefused (fallowRefused s h) (setJournal l s) := by
    unfold powerBody'
    rw [if_neg (by decide), if_neg (by decide), hr, if_pos hf]
  rw [hb]
  exact ⟨finish_replied_of hm hl rfl, onlyJournal_finish ..⟩

theorem powerState_fallow (hn : n = 2) (hf : fallowRefused s h = 0) : leadsTo (.powerState h n) s (fun t => waitsOn h .fallow t = true ∧
    rget t .pwrState_target 0 = 2 ∧ rget t .pwrState_state 0 = 3) := by
  subst hn
  refine leadsTo_runPriv (exec_powerState h 2 s) hm hc fun l hl => ?_
  have hr : fallowRefused (setJournal l s) h = 0 := by rw [← hl, fallowRefused_started, hf]
  have hb : powerBody' h (2 : BitVec 8).toNat (setJournal l s) = setPwrState 3 0 (rset .pwrState_target 0 2 (waitFor h .fallow (setJournal l s))) := by
    unfold powerBody'
    rw [if_neg (by decide), if_neg (by decide), hr, if_neg (fun h => h rfl)]
  rw [hb]
  have hw : waitsOn h .fallow (waitFor h .fallow (setJournal l s)) = true := waitFor_waits_of hm hl rfl
  generalize waitFor h .fallow (setJournal l s) = w at hw
  obtain ⟨k1, k2, -⟩ := setPwrState_spec (n := 3) (by decide) 0 (rset .pwrState_target 0 2 w)
  refine ⟨?_, (k1.regs _ 0 rfl (by decide)).trans (regAt_rset_same _ _ (by decide)), k2⟩
  unfold waitsOn findRec
  rw [setPwrState_ctl_journal, rset_ctl]
  exact hw

end

/-! ### Replies that are written (R66) -/

theorem writePiece_pow (c a : Nat) (b : List Byte) (s : State) : (writePiece c a b s).pow = s.pow := by
  have hk : ∀ k, (keyWrite k b s).pow = s.pow := fun k => by
    unfold keyWrite
    split
    · rfl
    · split <;> rfl
  have hv : (countViol c 1 s).pow = s.pow := count_pow ..
  have ht : ∀ n u, (touch c n u).pow = u.pow := fun n u => by
    unfold touch
    dsimp only
    split <;> rfl
  unfold writePiece
  split
  · exact hv
  split
  · exact hv
  · exact hk _
  · split
    · simp [hk]
    · rfl
  · exact hv
  · exact ht _ _

theorem writePieces_pow (c : Nat) (l : List (Nat × Nat)) (b : List Byte) (s : State) : (writePieces c l b s).pow = s.pow := by
  induction l generalizing b s with
  | nil => rfl
  | cons p l ih => exact (ih ..).trans (writePiece_pow ..)

theorem charge_isl (c n : Nat) (s : State) : (charge c n s).pow.isl = s.pow.isl := by
  unfold charge
  split <;> rfl

theorem chargeMem_isl (c n : Nat) (s : State) : (chargeMem c n s).pow.isl = s.pow.isl := charge_isl ..

/-- No command waits in a given way. -/
def NoWait (w : Wait) (s : State) : Prop := ∀ r ∈ s.ctl.journal, r.state = .issued → r.wait ≠ w

theorem replyOf_wait {w : Wait} (hw : w ≠ .none) (s : State) (st det : Nat) {r : Rec} (h : r.state = .issued → r.wait ≠ w) :
    (replyOf s st det r).state = .issued → (replyOf s st det r).wait ≠ w := by
  unfold replyOf
  split
  · split
    · exact fun _ => hw.symm
    · exact fun h => by cases h
  · exact h

theorem noWait_finishWaits {w : Wait} (hw : w ≠ .none) {p : Rec → Bool} (hp : ∀ r, r.wait = w → p r = true) (st : Nat) (det : Rec → Nat) (s : State) :
    NoWait w (finishWaits p st det s) := by
  intro r hr hi
  obtain ⟨x, hx, rfl⟩ := List.mem_map.1 hr
  by_cases hc : x.state = .issued ∧ p x = true
  · rw [if_pos (by simp [hc])] at hi ⊢
    revert hi
    unfold replyOf
    rw [if_pos (by simp [hc])]
    split
    · exact fun _ => hw.symm
    · exact fun h => by cases h
  · rw [if_neg (by simpa using hc)] at hi ⊢
    exact fun h => hc ⟨hi, hp x h⟩

theorem NoWait.drainQueues {w : Wait} (hw : w ≠ .none) {s : State} (h : NoWait w s) : NoWait w (drainQueues s) := by
  intro r hr
  obtain ⟨x, hx, rfl⟩ := List.mem_map.1 hr
  split
  · split
    · exact replyOf_wait hw s _ _ (h x hx)
    · exact h x hx
  · exact h x hx

/-- What the writing of a reply leaves. -/
structure Flushed (w : Wait) (s t : State) : Prop where
  told : Told accessFlds s t
  core : t.core = s.core
  isl : t.pow.isl = s.pow.isl
  wait : NoWait w s → NoWait w t

/-- A reply is written or not; one that is written drains the queues after it. -/
theorem replyOne_delivers (q : Nat) (s : State) : replyOne q s = s ∨ ∃ u, replyOne q s = drainQueues (freeRecs u) ∧ u.core = s.core ∧
    u.pow.isl = s.pow.isl ∧ ∀ w, NoWait w s → NoWait w u := by
  unfold replyOne
  split
  · next x r hx hr =>
    split
    · next p _ _ =>
      split
      · exact .inl rfl
      · dsimp only
        generalize replyBytes r.seq x.cqLog2 _ = b
        have hw : ∀ c a (m : Bool), (if m then ctxWrite c a b s else hostWrite a b s).core = s.core ∧
            (if m then ctxWrite c a b s else hostWrite a b s).pow.isl = s.pow.isl ∧
            (if m then ctxWrite c a b s else hostWrite a b s).ctl.journal = s.ctl.journal := fun c a m => by
          cases m
          · exact ⟨rfl, rfl, rfl⟩
          · obtain ⟨-, -, hj, -, -, hc, -⟩ := work_eq_iff.1 (work_ctxWrite c a b s)
            exact ⟨hc, (chargeMem_isl ..).trans (congrArg Pow.isl (writePieces_pow ..)), hj⟩
        obtain ⟨h1, h2, h3⟩ := hw x.ctx (x.cqBase + 32 * (r.seq % 2 ^ x.cqLog2)) x.cqMod
        generalize (if x.cqMod then ctxWrite x.ctx _ b s else hostWrite _ b s) = v at h1 h2 h3
        have h4 : ∀ w, NoWait w s → NoWait w (mapRecs (isRec q r.seq)
            (fun r => { r with state := .completed, reply := some { p with commit := commitSeq s r.ctx } }) v) := fun w hn y hy => by
          obtain ⟨z, hz, rfl⟩ := List.mem_map.1 hy
          split
          · exact fun h => by cases h
          · exact hn z (h3 ▸ hz)
        refine .inr ⟨_, rfl, ?_, ?_, ?_⟩
        · split
          · exact (msix_core ..).trans h1
          · exact h1
        · split
          · exact (congrArg Pow.isl (msix_pow ..)).trans h2
          · exact h2
        · split
          · unfold NoWait
            rw [msix_ctl]
            exact h4
          · exact h4
    · exact .inl rfl
  · exact .inl rfl

theorem replyOne_flushed {w : Wait} (hw : w ≠ .none) (q : Nat) (s : State) : Flushed w s (replyOne q s) := by
  have ht : Told accessFlds s (replyOne q s) := Told.rfl.replyOne (fun _ h => h) q
  obtain h | ⟨u, h, h1, h2, h3⟩ := replyOne_delivers q s
  · rw [h]
    exact ⟨.rfl, rfl, rfl, id⟩
  · rw [h] at ht ⊢
    refine ⟨ht, h1, h2, fun hn => NoWait.drainQueues hw fun r hr => h3 w hn r (of_mem_freeRecs hr)⟩

theorem flushReplies_flushed {w : Wait} (hw : w ≠ .none) (c : Nat) (s : State) : Flushed w s (flushReplies c s) := by
  unfold flushReplies
  refine List.foldlRecOn _ _ (motive := fun t : State => Flushed w s t) ⟨.rfl, rfl, rfl, id⟩ fun t h r _ => ?_
  have k := replyOne_flushed hw r.q t
  exact ⟨h.told.trans k.told, k.core.trans h.core, k.isl.trans h.isl, k.wait ∘ h.wait⟩

/-! ### Fallow (R383, R384) -/

theorem fallowWidth_kept (p n : Nat) (s : State) : Told [.linkPortState_width] s (fallowWidth p n s) ∧ (fallowWidth p n s).core = s.core ∧
    (fallowWidth p n s).pow = s.pow := by
  unfold fallowWidth
  split
  · exact ⟨.rfl, rfl, rfl⟩
  · exact ⟨(Told.rset (f := .linkPortState_width) .rfl (.inr (by decide)) ..).raise0 .., by simp [linkState], by simp [linkState]⟩

theorem fallowWidths_kept (f : State → Nat → Nat) (s : State) : let t := (List.range 32).foldl (fun s p => fallowWidth p (f s p) s) s
    Told [.linkPortState_width] s t ∧ t.core = s.core ∧ t.pow = s.pow := by
  refine List.foldlRecOn _ _ (motive := fun t : State => Told [.linkPortState_width] s t ∧ t.core = s.core ∧ t.pow = s.pow) ⟨.rfl, rfl, rfl⟩ fun t h p _ => ?_
  obtain ⟨k1, k2, k3⟩ := fallowWidth_kept p (f t p) t
  exact ⟨h.1.trans k1, k2.trans h.2.1, k3.trans h.2.2⟩

theorem exec_fallowEntryDone (s : State) : exec .fallowEntryDone s = .next (if rget s .pwrState_state 0 ≠ 3 then s
    else setPwrState 2 0 (flushReplies 0 (finishWaits (fun r => r.wait == .fallow) stOk (fun _ => 2)
      ((List.range 32).foldl (fun s p => fallowWidth p 2 s) (gateDies s))))) := rfl

theorem fallowEntered {s : State} (h : rget s .pwrState_state 0 = 3) : leadsTo .fallowEntryDone s (fun t => rget t .pwrState_state 0 = 2 ∧
    reported s t 0x0F03 0 ∧ t.core = [] ∧ t.pow.isl = [] ∧ (∀ r ∈ t.ctl.journal, r.state = .issued → r.wait ≠ .fallow)) := by
  refine ⟨_, (exec_fallowEntryDone s).trans (congrArg _ (if_neg (by rw [h]; decide))), ?_⟩
  obtain ⟨k1, k2, k3⟩ := fallowWidths_kept (fun _ _ => 2) (gateDies s)
  generalize (List.range 32).foldl (fun s p => fallowWidth p 2 s) (gateDies s) = u at k1 k2 k3
  have hg : Told [] s (gateDies s) := Told.rfl.of_eq rfl rfl rfl rfl rfl
  generalize hv : finishWaits (fun r => r.wait == .fallow) stOk (fun _ => 2) u = v
  have v1 : NoWait .fallow v := by
    rw [← hv]
    exact noWait_finishWaits (w := .fallow) (by decide) (p := fun r => r.wait == .fallow) (fun r hr => by simp [hr]) _ _ _
  have v2 : Told [.linkPortState_width] u v := by rw [← hv]; exact Told.rfl.setJournal _
  have v3 : v.core = [] := by rw [← hv]; exact k2
  have v4 : v.pow.isl = [] := by rw [← hv]; exact congrArg Pow.isl k3
  obtain ⟨w1, w2, w3, w4⟩ := flushReplies_flushed (w := .fallow) (by decide) 0 v
  generalize flushReplies 0 v = w at w1 w2 w3 w4
  have hw : Told (.linkPortState_width :: accessFlds) s w :=
    (hg.mono (by simp)).trans (((k1.trans v2).mono (by simp)).trans (w1.mono fun f hf => List.mem_cons_of_mem _ hf))
  obtain ⟨-, t1, t2⟩ := setPwrState_spec (n := 2) (by decide) 0 w
  refine ⟨t1, .since hw (t2 ?_), (setPwrState_core ..).trans (w2.trans v3), (congrArg Pow.isl (setPwrState_pow ..)).trans (w3.trans v4), ?_⟩
  · rw [rget_eq, hw.regs _ 0 rfl (by decide), ← rget_eq, h]
    decide
  · rw [setPwrState_ctl_journal]
    exact w4 v1

theorem exec_fallowExit (cause : Nat) (s : State) : exec (.fallowExit cause) s = .next (wakeUp cause s) := rfl

theorem fallowExit_starts (cause : Nat) {s : State} (h : rget s .pwrState_state 0 = 2) : leadsTo (.fallowExit cause) s (fun t =>
    rget t .pwrState_state 0 = 4 ∧ reported s t 0x0F03 0 ∧ t.mem = s.mem ∧
    (rget s .pwrFallowCount_count 0 < 2 ^ 32 - 1 → rget t .pwrFallowCount_count 0 = rget s .pwrFallowCount_count 0 + 1)) := by
  refine ⟨_, (exec_fallowExit cause s).trans (congrArg _ (if_pos h)), ?_⟩
  obtain ⟨k1, k2, k3⟩ := setPwrState_spec (n := 4) (by decide) cause s
  have km : (setPwrState 4 cause s).mem = s.mem := setPwrState_mem ..
  generalize setPwrState 4 cause s = u at k1 k2 k3 km
  have hc : Told [.pwrFallowCount_count] u (count1 .pwrFallowCount_count 0 u) := Told.rfl.count1 (.inr (by decide)) 0
  have hu : rget u .pwrFallowCount_count 0 = rget s .pwrFallowCount_count 0 := k1.regs _ 0 rfl (by decide)
  refine ⟨(hc.regs _ 0 rfl (by decide)).trans k2, (k3 (by rw [h]; decide)).told hc, (count1_mem ..).trans km, fun hlt => ?_⟩
  rw [← hu] at hlt ⊢
  exact rget_count1_next rfl (by decide) rfl hlt

theorem fallowExit_abandons (cause : Nat) {s : State} (h : rget s .pwrState_state 0 = 3) : leadsTo (.fallowExit cause) s (fun t =>
    rget t .pwrState_state 0 = 1 ∧ rget t .pwrState_target 0 = 1 ∧ reported s t 0x0F03 0 ∧
    ∀ c r, waiting s c .fallow r → answered t r 0x0000 1) := by
  refine ⟨_, (exec_fallowExit cause s).trans (congrArg _ ((if_neg (by rw [h]; decide)).trans (if_pos h))), ?_⟩
  obtain ⟨-, k2, k3⟩ := setPwrState_spec (n := 1) (by decide) cause s
  have kj : (setPwrState 1 cause s).ctl.journal = s.ctl.journal := setPwrState_ctl_journal ..
  generalize setPwrState 1 cause s = u at k2 k3 kj
  have hc : Told [.pwrState_target] u (rset .pwrState_target 0 1 u) := Told.rset (f := .pwrState_target) .rfl (.inr (by decide)) ..
  have ht : rget (rset .pwrState_target 0 1 u) .pwrState_target 0 = 1 := regAt_rset_same _ _ (by decide)
  refine ⟨(hc.regs _ 0 rfl (by decide)).trans k2, ht, ((k3 (by rw [h]; decide)).told hc).told (Told.rfl.setJournal (F := []) _),
    fun c r ⟨hr, _, hi, hw, ha⟩ => ?_⟩
  exact answered_finishWaits (s := s) (by rw [rset_ctl, kj]) hr hi ha (by rw [hw]; rfl)

theorem noEffect_fallowExit (cause : Nat) {s : State} (h2 : rget s .pwrState_state 0 ≠ 2) (h3 : rget s .pwrState_state 0 ≠ 3) :
    noEffect (.fallowExit cause) s :=
  (exec_fallowExit cause s).trans (congrArg _ ((if_neg h2).trans (if_neg h3)))

theorem Told.keptDoorbells {F : List Fld} (hF : poisonFlds ⊆ F) {s : State} : (∀ f i, f.tally = false → f ∉ F → rget (keptDoorbells s) f i = rget s f i) ∧
    s.io.events <:+ (keptDoorbells s).io.events := by
  unfold Machine.keptDoorbells
  split
  · exact ⟨fun _ _ _ _ => Eq.refl _, List.suffix_rfl⟩
  · have h := (Told.rfl (F := F) (s := { s with ctl := { s.ctl with doorbells := [] } })).foldl_doorbell hF s.ctl.doorbells
    exact ⟨h.regs, h.events⟩

theorem exec_fallowExitDone (s : State) : exec .fallowExitDone s = .next (if rget s .pwrState_state 0 ≠ 4 then s
    else keptDoorbells (setPwrState 1 0 (rset .pwrState_target 0 1
      ((List.range 32).foldl (fun s p => fallowWidth p (widthFor (goodLanes (portOf s p))) s) s)))) := rfl

theorem fallowLeft {s : State} (h : rget s .pwrState_state 0 = 4) : leadsTo .fallowExitDone s (fun t => rget t .pwrState_state 0 = 1 ∧
    rget t .pwrState_target 0 = 1 ∧ reported s t 0x0F03 0) := by
  refine ⟨_, (exec_fallowExitDone s).trans (congrArg _ (if_neg (by rw [h]; decide))), ?_⟩
  obtain ⟨k1, -, -⟩ := fallowWidths_kept (fun s p => widthFor (goodLanes (portOf s p))) s
  generalize (List.range 32).foldl (fun s p => fallowWidth p (widthFor (goodLanes (portOf s p))) s) s = u at k1
  have hu : Told [.linkPortState_width, .pwrState_target] s (rset .pwrState_target 0 1 u) := (k1.mono (by simp)).rset (.inr (by decide)) ..
  have ht : rget (rset .pwrState_target 0 1 u) .pwrState_target 0 = 1 := regAt_rset_same _ _ (by decide)
  generalize rset .pwrState_target 0 1 u = v at hu ht
  obtain ⟨w1, w2, w3⟩ := setPwrState_spec (n := 1) (by decide) 0 v
  generalize setPwrState 1 0 v = w at w1 w2 w3
  obtain ⟨d1, d2⟩ := Told.keptDoorbells (F := poisonFlds) (fun _ h => h) (s := w)
  refine ⟨(d1 _ 0 rfl (by decide)).trans w2, (d1 _ 0 rfl (by decide)).trans ((w1.regs _ 0 rfl (by decide)).trans ht), .since hu ((w3 ?_).suffix d2)⟩
  rw [rget_eq, hu.regs _ 0 rfl (by decide), ← rget_eq, h]
  decide

/-- Settles O53: droop, changes and readings island by island, the trip by the entry into HELD, Idle and Fallow by the state of the module's power. -/
theorem clocksAndTemperature : Obligations.ClocksAndTemperature := by
  intro s st
  refine ⟨fun d p => ?_, fun d => ⟨fun h => ?_, trips⟩, idleEntered, noEffect_idleEntry, fun h n hm hc => ⟨powerState_outOfRange hm hc,
    powerState_awake hm hc, powerState_refused hm hc, powerState_fallow hm hc⟩, ?_⟩
  · intro i x
    refine ⟨droop_pauses, fun h => ?_, droop_clears, noEffect_droopClear, noEffect_frequencyChange, fun f hh hp => ⟨frequencyChange_first hh hp,
      fun hc hn => ?_, fun g hc hn hg => ?_⟩, fun up => droopLowering_spec up, fun up h => congrArg Host.Outcome.next (if_pos (by simpa using h)),
      fun tj inlet flow ms => thermalReading_spec d p tj inlet flow ms s⟩
    · refine (exec_droop d p s).trans (congrArg _ (if_pos ?_))
      simp only [Bool.or_eq_true, decide_eq_true_eq, List.contains_iff_mem]
      tauto
    · obtain ⟨t, ht, h1, h2, h3, -⟩ := frequencyChange_second hh hp hc
      exact ⟨t, ht, h1, h2, h3 hn⟩
    · obtain ⟨t, ht, h1, h2, -, h3⟩ := frequencyChange_second hh hp hc
      exact ⟨t, ht, h1, h2, h3 g hn hg⟩
  · exact (exec_thermalTrip d s).trans (congrArg _ (if_pos (by rcases h with h | h | h <;> simp [h])))
  · exact ⟨fun h => congrArg Host.Outcome.next (if_pos h), fallowEntered, fun cause => noEffect_fallowExit cause, fun cause => fallowExit_starts cause,
      fun cause => fallowExit_abandons cause, fun h => congrArg Host.Outcome.next (if_pos h), fallowLeft⟩

end Sys2Proof.Machine
end

section
/-! PROOFS. Power-good and the end of the start, quiescing and the Ember test (ch. 17, 19). -/

namespace Sys2Proof.Machine

/-! ### Power-good (R418, R470) -/

theorem slotCheck_withRegs (s : State) (r : SMap Nat) (b : Bool) : slotCheck { s with regs := r, boot := { s.boot with powered := true } } b = slotCheck s b := by
  unfold slotCheck imageCheck
  rfl

theorem trainPorts_spec (s : State) : (∃ r, trainPorts s = { s with regs := r }) ∧ (∀ g j, g ≠ .linkPortState_state → rget (trainPorts s) g j = rget s g j) ∧
    ∀ p, p < 32 → rget (trainPorts s) .linkPortState_state p = 1 := by
  have key : ∀ l : List Nat, let t := l.foldl (fun s p => rset .linkPortState_state p 1 s) s
      (∃ r, t = { s with regs := r }) ∧ (∀ g j, g ≠ .linkPortState_state → rget t g j = rget s g j) ∧
      ∀ p ∈ l, p < 32 → rget t .linkPortState_state p = 1 := by
    intro l
    induction l using List.reverseRecOn with
    | nil => exact ⟨⟨s.regs, rfl⟩, fun _ _ _ => rfl, fun _ h => by cases h⟩
    | append_singleton l q ih =>
      obtain ⟨h1, h2, h3⟩ := ih
      simp only [List.foldl_append, List.foldl_cons, List.foldl_nil]
      generalize l.foldl (fun s p => rset .linkPortState_state p 1 s) s = t at h1 h2 h3
      refine ⟨rset_withRegs h1 .., fun g j hg => (regAt_rset_other _ _ _ _ hg).trans (h2 g j hg), fun p hp h32 => ?_⟩
      by_cases hq : p = q
      · subst hq
        exact regAt_rset_same _ _ h32
      · exact (regAt_rset_elsewhere _ _ hq).trans (h3 p ((List.mem_append.1 hp).resolve_right fun h => hq (List.mem_singleton.1 h)) h32)
  obtain ⟨h1, h2, h3⟩ := key (List.range 32)
  exact ⟨h1, h2, fun p hp => h3 p (List.mem_range.2 hp) hp⟩

/-- An image that runs: its slot, and the ports that train. -/
theorem runImage_spec (b fb : Bool) (s : State) : let t := runImage b fb s
    t.boot = { s.boot with starting := true } ∧ phase t = 1 ∧ rget t .mcBootStatus_slot 0 = b2n b ∧ rget t .mcBootStatus_fallback 0 = b2n fb ∧
    rget t .mcStraps_slot 0 = rget s .mcStraps_slot 0 ∧ ∀ p, p < 32 → rget t .linkPortState_state p = 1 := by
  intro t
  have hb : ∀ c : Bool, b2n c % 2 ^ 1 = b2n c := by decide
  generalize h1 : rset .mcBootStatus_fallback 0 (b2n fb) (rset .mcBootStatus_slot 0 (b2n b) s) = s1
  have a1 : ∃ r, s1 = { s with regs := r } := by
    rw [← h1]
    exact rset_withRegs (rset_withRegs ⟨_, rfl⟩ ..) ..
  have a2 : rget s1 .mcBootStatus_slot 0 = b2n b := by
    rw [← h1]
    exact (regAt_rset_other _ _ _ _ (by decide)).trans ((regAt_rset_same _ _ (by decide)).trans (hb b))
  have a3 : rget s1 .mcBootStatus_fallback 0 = b2n fb := by
    rw [← h1]
    exact (regAt_rset_same _ _ (by decide)).trans (hb fb)
  have a4 : rget s1 .mcStraps_slot 0 = rget s .mcStraps_slot 0 := by
    rw [← h1]
    exact (regAt_rset_other _ _ _ _ (by decide)).trans (regAt_rset_other _ _ _ _ (by decide))
  generalize h2 : rset .mcFwVersion_running 0 (pktNat (runHeader s1) 8 8) (rset .mcFwSvn_image 0 (pktNat (runHeader s1) 0x10 2)
    (rset .mcFwSvn_counter 0 s.boot.counter s1)) = s2
  have b1 : ∃ r, s2 = { s1 with regs := r } := by
    rw [← h2]
    exact rset_withRegs (rset_withRegs (rset_withRegs ⟨_, rfl⟩ ..) ..) ..
  have b2 : ∀ g, g ∉ [Fld.mcFwVersion_running, .mcFwSvn_image, .mcFwSvn_counter] → rget s2 g 0 = rget s1 g 0 := fun g hg => by
    simp only [List.mem_cons, List.not_mem_nil, or_false, not_or] at hg
    rw [← h2]
    exact (regAt_rset_other _ _ _ _ hg.1).trans ((regAt_rset_other _ _ _ _ hg.2.1).trans (regAt_rset_other _ _ _ _ hg.2.2))
  obtain ⟨⟨r, c1⟩, c2, c3⟩ := trainPorts_spec { s2 with boot := { s2.boot with starting := true } }
  have ht : t = rset .mcFwStaged_version 0 (slotVersion s (!b)) (rset .mcStatus_phase 0 1 (trainPorts { s2 with boot := { s2.boot with starting := true } })) := by
    rw [← h2, ← h1]
    rfl
  clear_value t
  subst ht
  generalize trainPorts { s2 with boot := { s2.boot with starting := true } } = u at c1 c2 c3
  have keep : ∀ g, g ∉ [Fld.mcFwStaged_version, .mcStatus_phase, .linkPortState_state, .mcFwVersion_running, .mcFwSvn_image, .mcFwSvn_counter] →
      rget (rset .mcFwStaged_version 0 (slotVersion s (!b)) (rset .mcStatus_phase 0 1 u)) g 0 = rget s1 g 0 := fun g hg => by
    simp only [List.mem_cons, List.not_mem_nil, or_false, not_or] at hg
    refine (regAt_rset_other _ _ _ _ hg.1).trans ((regAt_rset_other _ _ _ _ hg.2.1).trans ((c2 g 0 hg.2.2.1).trans (b2 g ?_)))
    simpa using hg.2.2.2
  refine ⟨?_, ?_, (keep _ (by decide)).trans a2, (keep _ (by decide)).trans a3, (keep _ (by decide)).trans a4, fun p hp => ?_⟩
  · obtain ⟨r1, a1⟩ := a1
    obtain ⟨r2, b1⟩ := b1
    rw [rset_boot, rset_boot, c1, b1, a1]
  · exact (regAt_rset_other _ _ _ _ (by decide)).trans (regAt_rset_same _ _ (by decide))
  · exact (regAt_rset_other _ _ _ _ (by decide)).trans ((regAt_rset_other _ _ _ _ (by decide)).trans (c3 p hp))

/-- The state in which the straps are sampled. -/
def strapped (l : List Nat) (s : State) : State := setStraps l { s with boot := { s.boot with powered := true } }

theorem exec_powerGood (l : List (BitVec 2)) (otp fd : Bool) (s : State) : exec (.powerGood l otp fd) s = .next (if s.boot.powered then s
    else if (strapDecode (l.map (·.toNat))).isNone then enterHeld 0xA (strapped (l.map (·.toNat)) s)
    else if !otp then enterHeld 4 (strapped (l.map (·.toNat)) s)
    else if !fd then enterHeld 5 (strapped (l.map (·.toNat)) s)
    else bootImage (strapped (l.map (·.toNat)) s)) := rfl

theorem strapDecode_slot (l : List Nat) : ((strapDecode l).getD (0, 0, 0)).1 < 8 := by
  have key : ∀ (c : Bool) (a : Nat × Nat × Nat), (c = true → a.1 < 8) → ((if c then some a else none).getD (0, 0, 0)).1 < 8 := fun c a h => by
    cases c
    · exact (by decide : 0 < 8)
    · exact h rfl
  unfold strapDecode
  refine key _ _ fun h => ?_
  have top : ∀ x : Nat, (if x = 0 then 3 else if x = 1 then 7 else 0) ≤ 7 := fun x => by split <;> [decide; split <;> decide]
  simp only [Bool.and_eq_true, decide_eq_true_eq] at h
  exact Nat.lt_succ_of_le (h.1.1.1.2.trans (top _))

theorem strapped_spec (l : List Nat) (s : State) : (∃ r, strapped l s = { s with regs := r, boot := { s.boot with powered := true } }) ∧
    rget (strapped l s) .mcStraps_slot 0 = ((strapDecode l).getD (0, 0, 0)).1 := by
  have hlt := strapDecode_slot l
  unfold strapped setStraps
  dsimp only
  generalize hu : ({ s with boot := { s.boot with powered := true } } : State) = u
  refine ⟨?_, ?_⟩
  · obtain ⟨r, hr⟩ := rset_withRegs (s := u) (rset_withRegs (rset_withRegs (rset_withRegs (rset_withRegs ⟨_, rfl⟩ .mcStraps_assigned 0 _) .mcStraps_planClass 0 _)
      .mcStraps_trayType 0 _) .mcStraps_slot 0 _) .mcStraps_levels 0 _
    exact ⟨r, hr.trans (by rw [← hu])⟩
  · exact (regAt_rset_other _ _ _ _ (by decide)).trans ((regAt_rset_same _ _ (by decide)).trans (Nat.mod_eq_of_lt hlt))

section
variable {l : List (BitVec 2)} {otp fd : Bool} {s : State}

theorem powerGood_held {n : Nat} (hn : n < 2 ^ 4) (h : exec (.powerGood l otp fd) s = .next (enterHeld n (strapped (l.map (·.toNat)) s))) :
    leadsTo (.powerGood l otp fd) s (fun t => phase t = 3 ∧ rget t .mcBootStatus_heldReason 0 = n ∧ t.boot.powered = true ∧ rget t .mcStatus_ready 0 = 0) := by
  obtain ⟨⟨r, hr⟩, -, h1, h2, h3, -⟩ := enterHeld_spec n (strapped (l.map (·.toNat)) s)
  obtain ⟨⟨q, hq⟩, -⟩ := strapped_spec (l.map (·.toNat)) s
  exact ⟨_, h, h1, h2.trans (Nat.mod_eq_of_lt hn), by rw [hr, hq], h3⟩

theorem powerGood_runs {b fb : Bool} (h : exec (.powerGood l otp fd) s = .next (runImage b fb (strapped (l.map (·.toNat)) s))) :
    leadsTo (.powerGood l otp fd) s (fun t => phase t = 1 ∧ t.boot.powered = true ∧ t.boot.starting = true ∧ rget t .mcBootStatus_slot 0 = b2n b ∧
      rget t .mcBootStatus_fallback 0 = b2n fb ∧ rget t .mcStraps_slot 0 = ((strapDecode (l.map (·.toNat))).getD (0, 0, 0)).1 ∧
      ∀ p, p < 32 → rget t .linkPortState_state p = 1) := by
  obtain ⟨h1, h2, h3, h4, h5, h6⟩ := runImage_spec b fb (strapped (l.map (·.toNat)) s)
  obtain ⟨⟨q, hq⟩, h7⟩ := strapped_spec (l.map (·.toNat)) s
  exact ⟨_, h, h2, by rw [h1, hq], by rw [h1], h3, h4, h5.trans h7, h6⟩

theorem exec_powerGood_boots (hp : s.boot.powered = false) (hd : strapDecode (l.map (·.toNat)) ≠ none) (ho : otp = true) (hf : fd = true) : exec (.powerGood l otp fd) s = .next (
    if slotCheck s s.boot.prefB = 0 then runImage s.boot.prefB false (strapped (l.map (·.toNat)) s)
    else if slotCheck s (!s.boot.prefB) = 0 then runImage (!s.boot.prefB) true (strapped (l.map (·.toNat)) s)
    else enterHeld (if slotCheck s s.boot.prefB = 5 && slotCheck s (!s.boot.prefB) = 5 then 3 else 2) (strapped (l.map (·.toNat)) s)) := by
  rw [exec_powerGood, if_neg (by simp [hp]), if_neg (by simp [hd]), if_neg (by simp [ho]), if_neg (by simp [hf])]
  obtain ⟨⟨q, hq⟩, -⟩ := strapped_spec (l.map (·.toNat)) s
  have hc : ∀ b, slotCheck (strapped (l.map (·.toNat)) s) b = slotCheck s b := fun b => by rw [hq, slotCheck_withRegs]
  have hb : (strapped (l.map (·.toNat)) s).boot.prefB = s.boot.prefB := by rw [hq]
  unfold bootImage
  simp only [hc, hb]

end

/-! ### What a start does before it ends (R418 to R421) -/

/-- `t` is `s` with more events: of the register fields only those of `F` and the tallies may differ, and what stands in flash and fuses is kept. -/
structure Bare (F : List Fld) (s t : State) : Prop where
  regs : ∀ f i, f.tally = false → f ∉ F → regAt t.regs f i = regAt s.regs f i
  events : s.io.events <:+ t.io.events
  boot : t.boot = s.boot

theorem Bare.rfl {F : List Fld} {s : State} : Bare F s s := ⟨fun _ _ _ _ => Eq.refl _, List.suffix_rfl, Eq.refl _⟩

theorem Bare.trans {F : List Fld} {s t u : State} (h : Bare F s t) (k : Bare F t u) : Bare F s u :=
  ⟨fun f i hf hn => (k.regs f i hf hn).trans (h.regs f i hf hn), h.events.trans k.events, k.boot.trans h.boot⟩

theorem Bare.mono {F G : List Fld} {s t : State} (h : Bare F s t) (hg : F ⊆ G) : Bare G s t :=
  { h with regs := fun f i hf hn => h.regs f i hf fun hm => hn (hg hm) }

theorem Told.bare {F : List Fld} {s t : State} (h : Told F s t) : Bare F s t := ⟨h.regs, h.events, h.boot⟩

theorem Spared.bare {F : List Fld} {s t : State} (h : Spared F s t) : Bare F s t := ⟨h.regs, h.events, h.boot⟩

/-- The fields that a start, or a test, writes before it ends. -/
def startFlds : List Fld := .almanacGrade_leaseTerm :: spareFlds ++ blockFlds

theorem spareFlds_start : spareFlds ⊆ startFlds := fun _ h => List.mem_cons_of_mem _ (List.mem_append_left _ h)

theorem poolFlds_start : poolFlds ⊆ startFlds := fun _ h => spareFlds_start (List.mem_append_left _ h)

theorem blockFlds_start : blockFlds ⊆ startFlds := fun _ h => List.mem_cons_of_mem _ (List.mem_append_right _ h)

theorem Bare.foldl {α : Type} {F : List Fld} {f : State → α → State} (hf : ∀ t a, Bare F t (f t a)) (l : List α) (s : State) : Bare F s (l.foldl f s) :=
  List.foldlRecOn _ _ (motive := fun t : State => Bare F s t) .rfl fun t h a _ => h.trans (hf t a)

theorem spareChannel_bare (bad : List (Nat × Nat)) (d p : Nat) (s : State) : Bare spareFlds s (spareChannel bad d p s) := by
  unfold spareChannel
  split
  · exact .rfl
  · split
    · exact .rfl
    · next ch _ _ =>
      generalize hu : ({ s with mem := { s.mem with chanMap := sset ch s.mem.chanMap (d * 13 + ch) 13 } } : State) = u
      have h : Bare spareFlds s u := by
        rw [← hu]
        exact ⟨fun _ _ _ _ => rfl, List.suffix_rfl, rfl⟩
      exact h.trans (Spared.rfl.substDone (fun _ h => h) ..).bare

/-- What a whole-module test found, put into force. -/
theorem applyFound_bare (f : TestFound) (s : State) : Bare spareFlds s (applyFound f s) := by
  unfold applyFound
  dsimp only
  refine (Bare.foldl (fun u x => ?_) f.clusters s).trans ((Bare.foldl (fun u x => spareChannel_bare ..) f.channels _).trans
    (Bare.foldl (fun u d => (Spared.rfl.withSp _).bare) _ _))
  split
  · exact (Spared.rfl.substCluster (fun _ h => h) ..).bare
  · exact (Spared.rfl.setClState ..).bare

theorem planIslands_bare (cold : Bool) (s : State) : Bare startFlds s (planIslands cold s) := by
  unfold planIslands
  refine Bare.foldl (fun u i => ?_) _ _
  have h : Spared startFlds u (if cold || (planOf u i).d ≠ planDelta u i then setPlan i { planOf u i with d := planDelta u i } u else u) := by
    split
    · exact Spared.rfl.withSp _
    · exact .rfl
  dsimp only
  generalize (if cold || (planOf u i).d ≠ planDelta u i then setPlan i { planOf u i with d := planDelta u i } u else u) = v at h
  split
  · exact (h.substCluster spareFlds_start ..).bare
  · exact h.bare

theorem loadSnap_bare (x : AlmSnap) (s : State) : Bare startFlds s (loadSnap x s) := by
  unfold loadSnap
  dsimp only
  generalize hu : ({ s with sp := { x.sp with rowHits := [], held := [], waiting := [] }, mem := { s.mem with chanMap := x.chanMap },
                            alm := { s.alm with hours := x.hours, refurb := x.refurb, note := x.note } } : State) = u
  have h : Bare startFlds s u := by
    rw [← hu]
    exact ⟨fun _ _ _ _ => rfl, List.suffix_rfl, rfl⟩
  have k : Told startFlds u (rset .almanacGrade_leaseTerm 0 x.lease (rset .almanacGrade_grade 0 (gradeOf u) (rset .almanacGrade_trimmed 0 (b2n (anyTrim u)) u))) :=
    (((Told.rfl.rset (f := .almanacGrade_trimmed) (.inr (by decide)) ..).rset (f := .almanacGrade_grade) (.inr (by decide)) ..).rset
      (f := .almanacGrade_leaseTerm) (.inr (by decide)) ..)
  exact h.trans k.bare

theorem refurbish_bare (f : TestFound) (s : State) : Bare startFlds s (refurbish f s) := by
  unfold refurbish
  dsimp only
  generalize hu : State.mk _ _ _ _ _ _ _ _ _ _ _ _ _ _ _ _ _ _ _ _ _ _ = u
  have h : Bare startFlds s u := by
    rw [← hu]
    exact ⟨fun _ _ _ _ => rfl, List.suffix_rfl, rfl⟩
  exact h.trans (Told.rset (f := .almanacGrade_leaseTerm) .rfl (.inr (by decide)) ..).bare

theorem startRecords_bare (cold : Bool) (sec : Nat) (f : TestFound) (s : State) : Bare startFlds s (startRecords cold sec f s) := by
  have hm : ∀ (typ src : Nat) (b : List Byte) (u : State), Told startFlds u (almMod typ src b u) := fun _ _ _ _ => Told.rfl.almMod ..
  unfold startRecords
  dsimp only
  generalize hu : (if cold then almSeal 2 (almMod 0x9 0xC (emberBody (resultCode s f) 1 (1000 * sec) f) s) else s) = u
  have h1 : Bare startFlds s u := by
    rw [← hu]
    split
    · exact ((hm ..).almSeal 2).bare
    · exact .rfl
  have h2 : Bare startFlds u ((List.range 8).foldl (fun s d => marginRecord 2 d s) u) := Bare.foldl (fun v d => (hm ..).bare) (List.range 8) u
  generalize (List.range 8).foldl (fun s d => marginRecord 2 d s) u = v at h2
  have h3 : ∀ a b, Told startFlds v (gradeRecord (startRecord cold a b v)) := fun a b => Told.almSeal (Told.trans (hm ..) (hm ..)) 2
  exact h1.trans (h2.trans (Told.sealAll (h3 _ _) blockFlds_start).bare)

/-! ### The end of the start -/

/-- The state of a start before its records: the leap maps loaded, the note obeyed, the findings and the tables in force. -/
def startFound (cold : Bool) (lv : Option Nat) (f : TestFound) (s : State) : State :=
  let s1 := lv.elim s (fun n => loadSnap (snapAt s n) s)
  planIslands cold (applyFound f (if cold && s1.alm.refurb then refurbish f s1 else s1))

theorem startFound_bare (cold : Bool) (lv : Option Nat) (f : TestFound) (s : State) : Bare startFlds s (startFound cold lv f s) := by
  unfold startFound
  dsimp only
  generalize hu : lv.elim s (fun n => loadSnap (snapAt s n) s) = u
  have h1 : Bare startFlds s u := by
    rw [← hu]
    cases lv
    · exact .rfl
    · exact loadSnap_bare ..
  refine h1.trans (Bare.trans ?_ (((applyFound_bare ..).mono spareFlds_start).trans (planIslands_bare ..)))
  split
  · exact refurbish_bare ..
  · exact .rfl

theorem exec_startComplete (sec : Nat) (fd b0 : Bool) (lv : Option Nat) (f : TestFound) (s : State) : exec (.startComplete sec fd b0 lv f) s = .next (
    if phase s ≠ 1 || !s.boot.starting then s
    else (startHeld (startFound (!quickStart s lv.isNone) lv f s) (!quickStart s lv.isNone) fd b0 f).elim
      (startDone (!quickStart s lv.isNone) s.alm.lastEmber.isSome sec
        (startRecords (!quickStart s lv.isNone) sec f (refreshPools (startFound (!quickStart s lv.isNone) lv f s))))
      (fun r => enterHeld r (startFound (!quickStart s lv.isNone) lv f s))) := by
  show execStartComplete sec fd b0 lv f s = _
  unfold execStartComplete startFound
  have key : ∀ (o : Option Nat) (a : State) (g : Nat → State), (match o with | some r => g r | none => a) = o.elim a g := fun o _ _ => by cases o <;> rfl
  refine congrArg Host.Outcome.next (congrArg _ ?_)
  cases lv <;> exact key ..

/-- The registers and the event of a completed start. -/
theorem startDone_spec (cold was : Bool) (sec : Nat) (s : State) : let t := startDone cold was sec s
    phase t = phase s ∧ rget t .mcStatus_ready 0 = 1 ∧ t.boot.starting = false ∧ rget t .mcBootStatus_cold 0 = b2n cold ∧
    rget t .mcBootStatus_startS 0 = satTo 8 sec ∧ reported s t 0x1101 0 := by
  intro t
  generalize h1 : rset .mcBootStatus_cold 0 (b2n cold) (rset .mcBootStatus_startS 0 (satTo 8 sec) (rset .mcBootStatus_emberCode 0 s.alm.emberCode s)) = s1
  have a0 : Told [.mcBootStatus_cold, .mcBootStatus_startS, .mcBootStatus_emberCode] s s1 := by
    rw [← h1]
    exact (((Told.rfl.rset (f := .mcBootStatus_emberCode) (.inr (by decide)) ..).rset (f := .mcBootStatus_startS) (.inr (by decide)) ..).rset
      (f := .mcBootStatus_cold) (.inr (by decide)) ..)
  have a1 : rget s1 .mcBootStatus_cold 0 = b2n cold := by
    rw [← h1]
    exact (regAt_rset_same _ _ (by decide)).trans (by cases cold <;> rfl)
  have a2 : rget s1 .mcBootStatus_startS 0 = satTo 8 sec := by
    rw [← h1]
    exact (regAt_rset_other _ _ _ _ (by decide)).trans ((regAt_rset_same _ _ (by decide)).trans (Nat.mod_eq_of_lt (satTo_lt 8 sec)))
  generalize h2 : (if was then s1 else rflag .mcBootStatus_unsealedSeen 0 s1) = s2
  have b0 : Told [.mcBootStatus_unsealedSeen] s1 s2 := by
    rw [← h2]
    split
    · exact .rfl
    · exact Told.rfl.rflag (by decide) 0
  generalize h3 : rset .mcStatus_cpPresent 0 ((liveDies s).map (fun d => 2 ^ d)).sum (rset .mcStatus_ready 0 1 s2) = s3
  have c0 : Told [.mcStatus_cpPresent, .mcStatus_ready] s2 s3 := by
    rw [← h3]
    exact (Told.rfl.rset (f := .mcStatus_ready) (.inr (by decide)) ..).rset (f := .mcStatus_cpPresent) (.inr (by decide)) ..
  have c1 : rget s3 .mcStatus_ready 0 = 1 := by
    rw [← h3]
    exact (regAt_rset_other _ _ _ _ (by decide)).trans (regAt_rset_same _ _ (by decide))
  obtain ⟨det, hdet⟩ : ∃ n, n = pack [(0, 1, b2n cold), (1, 1, rget s .mcBootStatus_fallback 0), (2, 1, b2n was), (4, 4, s.alm.emberCode),
    (8, 8, satTo 8 sec), (16, 48, rget s .mcFwVersion_running 0)] := ⟨_, rfl⟩
  have hs3 : Told [.mcBootStatus_cold, .mcBootStatus_startS, .mcBootStatus_emberCode, .mcBootStatus_unsealedSeen, .mcStatus_cpPresent, .mcStatus_ready] s s3 :=
    (a0.mono (by decide)).trans ((b0.mono (by decide)).trans (c0.mono (by decide)))
  have d0 : Told [] { s3 with boot := { s3.boot with starting := false, cold := cold } }
    (raise0 0x1101 0 det { s3 with boot := { s3.boot with starting := false, cold := cold } }) := Told.rfl.raise0 ..
  have d1 : reported s3 (raise0 0x1101 0 det { s3 with boot := { s3.boot with starting := false, cold := cold } }) 0x1101 0 :=
    raiseC_reported 0x1101 0 0 det { s3 with boot := { s3.boot with starting := false, cold := cold } }
  have d2 : (raise0 0x1101 0 det { s3 with boot := { s3.boot with starting := false, cold := cold } }).boot.starting = false := by
    rw [d0.boot]
  have key : ∀ (o : Option Nat) (a : State) (g : Nat → State), (match o with | some r => g r | none => a) = o.elim a g := fun o _ _ => by cases o <;> rfl
  obtain ⟨g, hg⟩ : ∃ g : State → Nat → State, g = fun u c => raise0 0x1103 0 (pack [(0, 16, u.boot.counter), (16, 16, c)])
    { u with boot := { u.boot with counterWas := none } } := ⟨_, rfl⟩
  have ht : t = (raise0 0x1101 0 det { s3 with boot := { s3.boot with starting := false, cold := cold } }).boot.counterWas.elim
      (raise0 0x1101 0 det { s3 with boot := { s3.boot with starting := false, cold := cold } })
      (g (raise0 0x1101 0 det { s3 with boot := { s3.boot with starting := false, cold := cold } })) := by
    rw [hg, hdet, ← h3, ← h2, ← h1]
    exact key ..
  generalize raise0 0x1101 0 det { s3 with boot := { s3.boot with starting := false, cold := cold } } = s4 at d0 d1 d2 ht
  have k : ∀ u : State, (∀ f, f.tally = false → rget u f 0 = rget s4 f 0) → u.boot.starting = s4.boot.starting → s4.io.events <:+ u.io.events →
      phase u = phase s ∧ rget u .mcStatus_ready 0 = 1 ∧ u.boot.starting = false ∧ rget u .mcBootStatus_cold 0 = b2n cold ∧
      rget u .mcBootStatus_startS 0 = satTo 8 sec ∧ reported s u 0x1101 0 := fun u hr hb he => by
    have h3 : ∀ f, f.tally = false → rget u f 0 = rget s3 f 0 := fun f hf => (hr f hf).trans (d0.regs f 0 hf (by simp))
    exact ⟨(h3 _ rfl).trans (hs3.regs _ 0 rfl (by decide)), (h3 _ rfl).trans c1, hb.trans d2,
      (h3 _ rfl).trans ((c0.regs _ 0 rfl (by decide)).trans ((b0.regs _ 0 rfl (by decide)).trans a1)),
      (h3 _ rfl).trans ((c0.regs _ 0 rfl (by decide)).trans ((b0.regs _ 0 rfl (by decide)).trans a2)), .since hs3 (d1.suffix he)⟩
  rw [ht]
  cases s4.boot.counterWas with
  | none => exact k s4 (fun _ _ => rfl) rfl List.suffix_rfl
  | some c =>
    generalize hv : ({ s4 with boot := { s4.boot with counterWas := none } } : State) = v
    have hr : Told [] v (g s4 c) := by
      rw [hg, ← hv]
      exact Told.rfl.raise0 ..
    refine k (g s4 c) (fun f hf => (hr.regs f 0 hf (by simp)).trans (by rw [← hv]; rfl)) (by rw [hr.boot, ← hv]) ?_
    have := hr.events
    rw [← hv] at this
    exact this

section
variable {sec : Nat} {fd b0 : Bool} {lv : Option Nat} {f : TestFound} {s : State} (hp : phase s = 1) (hs : s.boot.starting = true)
include hp hs

theorem startComplete_held {n : Nat} (hn : startHeld (startFound (!quickStart s lv.isNone) lv f s) (!quickStart s lv.isNone) fd b0 f = some n) :
    leadsTo (.startComplete sec fd b0 lv f) s (fun t => phase t = 3 ∧ rget t .mcBootStatus_heldReason 0 = n ∧ rget t .mcStatus_ready 0 = 0) := by
  have hlt : n < 2 ^ 4 := by
    revert hn
    unfold startHeld
    repeat' split
    all_goals
      intro h
      cases h
    all_goals decide
  have he := exec_startComplete sec fd b0 lv f s
  rw [if_neg (by simp [hp, hs]), hn, Option.elim_some] at he
  generalize startFound (!quickStart s lv.isNone) lv f s = u at he
  obtain ⟨-, -, h1, h2, h3, -⟩ := enterHeld_spec n u
  exact ⟨_, he, h1, h2.trans (Nat.mod_eq_of_lt hlt), h3⟩

theorem startComplete_ready (hn : startHeld (startFound (!quickStart s lv.isNone) lv f s) (!quickStart s lv.isNone) fd b0 f = none) :
    leadsTo (.startComplete sec fd b0 lv f) s (fun t => phase t = 1 ∧ rget t .mcStatus_ready 0 = 1 ∧ t.boot.starting = false ∧
      rget t .mcBootStatus_cold 0 = b2n (!quickStart s lv.isNone) ∧ rget t .mcBootStatus_startS 0 = satTo 8 sec ∧ reported s t 0x1101 0) := by
  have he := exec_startComplete sec fd b0 lv f s
  rw [if_neg (by simp [hp, hs]), hn, Option.elim_none] at he
  refine ⟨_, he, ?_⟩
  have hb := ((startFound_bare (!quickStart s lv.isNone) lv f s).trans (Noted.rfl.refreshPools poolFlds_start).told.bare).trans
    (startRecords_bare (!quickStart s lv.isNone) sec f _)
  generalize startRecords (!quickStart s lv.isNone) sec f (refreshPools (startFound (!quickStart s lv.isNone) lv f s)) = u at hb
  obtain ⟨h1, h2, h3, h4, h5, h6⟩ := startDone_spec (!quickStart s lv.isNone) s.alm.lastEmber.isSome sec u
  exact ⟨h1.trans ((hb.regs _ 0 rfl (by decide)).trans hp), h2, h3, h4, h5, h6.prior hb.events⟩

end

/-! ### The request to stop, and the end of quiescing (R422, R424, R425) -/

/-- The Ember test begins: nothing runs, and what memory held is gone but for the devices' on the CXL ports. -/
theorem enterEmber_spec (s : State) : let t := enterEmber s
    phase t = 2 ∧ rget t .mcStatus_ready 0 = 0 ∧ t.boot.emberDone = false ∧ t.eng = [] ∧ t.gr.runs = [] ∧ t.ctl = s.ctl ∧
    ∀ k, ¬ (16 * 2 ^ 50 ≤ k ∧ k < 20 * 2 ^ 50) → sget 0 t.mem.bytes k = 0 := by
  intro t
  generalize h1 : rset .mcStatus_phase 0 2 (rset .mcStatus_ready 0 0 (stopAll s)) = s1
  have a1 : ∃ r, s1 = { stopAll s with regs := r } := by
    rw [← h1]
    exact rset_withRegs (s := stopAll s) (rset_withRegs ⟨(stopAll s).regs, rfl⟩ .mcStatus_ready 0 0) .mcStatus_phase 0 2
  have a2 : rget s1 .mcStatus_phase 0 = 2 := by
    rw [← h1]
    exact regAt_rset_same _ _ (by decide)
  have a3 : rget s1 .mcStatus_ready 0 = 0 := by
    rw [← h1]
    exact (regAt_rset_other _ _ _ _ (by decide)).trans (regAt_rset_same _ _ (by decide))
  obtain ⟨r, a1⟩ := a1
  have ht : t = { s1 with mem := { s1.mem with bytes := s1.mem.bytes.filter (fun x => decide (16 * 2 ^ 50 / 1 ≤ x.1) && decide (x.1 < 20 * 2 ^ 50 / 1)),
                                               bad := s1.mem.bad.filter (fun x => decide (16 * 2 ^ 50 / 64 ≤ x.1) && decide (x.1 < 20 * 2 ^ 50 / 64)) }
                          boot := { s1.boot with starting := false, emberDone := false, result := 15 } } := by
    rw [← h1]
    rfl
  rw [ht]
  refine ⟨a2, a3, rfl, by rw [a1]; rfl, by rw [a1]; rfl, by rw [a1]; rfl, fun k hk => ?_⟩
  dsimp only
  rw [sget_eq_getD, sget?_filter_not fun x hx => ?_]
  · rfl
  · rw [hx, Nat.div_one, Nat.div_one]
    simpa using fun h => Nat.le_of_not_lt fun h' => hk ⟨h, h'⟩

theorem exec_shutdownReqN (s : State) : exec .shutdownReqN s = .next (if phase s ≠ 1 || s.boot.trigger ≥ 2 then s
    else if s.boot.starting then enterEmber { s with boot := { s.boot with trigger := 2 } } else takeTrigger 2 (wakeUp 4 s)) := rfl

theorem shutdownReqN_starting {s : State} (hp : phase s = 1) (ht : s.boot.trigger < 2) (hs : s.boot.starting = true) :
    leadsTo .shutdownReqN s (fun t => phase t = 2 ∧ rget t .mcStatus_ready 0 = 0 ∧ t.boot.emberDone = false) := by
  obtain ⟨h1, h2, h3, -⟩ := enterEmber_spec { s with boot := { s.boot with trigger := 2 } }
  exact ⟨_, (exec_shutdownReqN s).trans (congrArg _ ((if_neg (by simp [hp]; omega)).trans (if_pos hs))), h1, h2, h3⟩

/-- A trigger changes only its own bits; a departure is told. -/
theorem takeTrigger_spec (n : Nat) (s : State) : (takeTrigger n s).boot = { s.boot with trigger := s.boot.trigger ||| n } ∧
    (takeTrigger n s).regs = s.regs ∧ (takeTrigger n s).mem = s.mem ∧ (takeTrigger n s).ctl = s.ctl := by
  unfold takeTrigger
  dsimp only
  split <;> exact ⟨rfl, rfl, rfl, rfl⟩

theorem wakeUp_phase (n : Nat) (s : State) : phase (wakeUp n s) = phase s := by
  unfold wakeUp
  split
  · have h := (setPwrState_spec (n := 4) (by decide) n s).1
    exact (regAt_count1_other _ _ _ rfl (by decide)).trans (h.regs _ 0 rfl (by decide))
  · split
    · have h := (setPwrState_spec (n := 1) (by decide) n s).1
      exact (regAt_rset_other _ _ _ _ (by decide)).trans (h.regs _ 0 rfl (by decide))
    · rfl

theorem wakeUp_fallow (n : Nat) {s : State} (h : rget s .pwrState_state 0 = 2) : rget (wakeUp n s) .pwrState_state 0 = 4 := by
  unfold wakeUp
  rw [if_pos h]
  exact (regAt_count1_other _ _ _ rfl (by decide)).trans (setPwrState_spec (n := 4) (by decide) n s).2.1

theorem shutdownReqN_running {s : State} (hp : phase s = 1) (ht : s.boot.trigger < 2) (hs : s.boot.starting = false) :
    leadsTo .shutdownReqN s (fun t => t.boot = { s.boot with trigger := s.boot.trigger ||| 2 } ∧ phase t = 1 ∧
      (rget s .pwrState_state 0 = 2 → rget t .pwrState_state 0 = 4)) := by
  obtain ⟨h1, h2, -⟩ := takeTrigger_spec 2 (wakeUp 4 s)
  refine ⟨_, (exec_shutdownReqN s).trans (congrArg _ ((if_neg (by simp [hp]; omega)).trans (if_neg (by simp [hs])))), ?_, ?_, fun h => ?_⟩
  · rw [h1, wakeUp_boot]
  · show regAt (takeTrigger 2 (wakeUp 4 s)).regs _ 0 = 1
    rw [h2]
    exact (wakeUp_phase 4 s).trans hp
  · rw [rget_eq, h2]
    exact wakeUp_fallow 4 h

theorem exec_quiesceTimeout (s : State) : exec .quiesceTimeout s = .next (if phase s ≠ 1 || s.boot.trigger = 0 || rget s .pwrState_state 0 = 4 then s
    else quiesced (quiesceFns s)) := rfl

theorem quiesceTimeout_ends {s : State} (hp : phase s = 1) (ht : s.boot.trigger ≠ 0) (h4 : rget s .pwrState_state 0 ≠ 4) :
    leadsTo .quiesceTimeout s (fun t => phase t = 2 ∧ rget t .mcStatus_ready 0 = 0 ∧ t.eng = [] ∧ t.gr.runs = [] ∧
      (∀ r ∈ t.ctl.journal, r.state = .issued → r.wait ≠ .quiesce) ∧ ∀ k, ¬ (16 * 2 ^ 50 ≤ k ∧ k < 20 * 2 ^ 50) → sget 0 t.mem.bytes k = 0) := by
  refine ⟨_, (exec_quiesceTimeout s).trans (congrArg _ (if_neg (by simp [hp, ht, h4]))), ?_⟩
  unfold quiesced
  dsimp only
  generalize sealAll _ = u
  have hw : NoWait .quiesce (finishWaits isShut stOk (fun _ => 0) u) :=
    noWait_finishWaits (w := .quiesce) (by decide) (p := isShut) (fun r hr => by simp [isShut, hr]) _ _ _
  have hf := (flushReplies_flushed (w := .quiesce) (by decide) 0 (finishWaits isShut stOk (fun _ => 0) u)).wait hw
  generalize flushReplies 0 (finishWaits isShut stOk (fun _ => 0) u) = v at hf
  obtain ⟨h1, h2, -, h3, h5, h6, h7⟩ := enterEmber_spec v
  exact ⟨h1, h2, h3, h5, by rw [h6]; exact hf, h7⟩

/-! ### The Ember test (R417, R427, R428) -/

theorem advanceCounter_spec (code : Nat) (s : State) : Bare [.mcFwSvn_counter] { s with boot := (advanceCounter code s).boot } (advanceCounter code s) ∧
    (advanceCounter code s).boot.counter = if code ≤ 2 then Max.max s.boot.counter (rget s .mcFwSvn_image 0) else s.boot.counter := by
  unfold advanceCounter
  dsimp only
  split
  · next h =>
    simp only [Bool.and_eq_true, decide_eq_true_eq] at h
    refine ⟨⟨fun g i hg hn => regAt_rset_other _ _ _ _ (by simpa using hn), by simp, rfl⟩, ?_⟩
    rw [if_pos h.1, rset_boot]
    exact (Nat.max_eq_right h.2.le).symm
  · next h =>
    simp only [Bool.and_eq_true, decide_eq_true_eq, not_and, not_lt] at h
    refine ⟨.rfl, ?_⟩
    split
    · next hc => exact (Nat.max_eq_left (h hc)).symm
    · rfl

/-- The state in which the EMBER record is sealed and its result driven; `u` is the state with the fuses blown. -/
def sealedResult (code ms : Nat) (f : TestFound) (u s : State) : State :=
  let w := sealAll (almSeal 2 (almMod 0x9 0xC (emberBody code (if rget s .mcBootCtl_forceCold 0 = 1 then 2 else 0) ms f)
    ((List.range 8).foldl (fun s d => marginRecord 1 d s) u)))
  driveResult code (rset .mcBootStatus_emberCode 0 w.alm.emberCode w)

/-- The result that is driven, by the positions that are left. -/
theorem sealEmber_spec (code ms : Nat) (f : TestFound) (s : State) : let t := sealEmber code ms f s
    t.boot.emberDone = true ∧ t.boot.off = true ∧ phase t = phase s ∧
    t.boot.result = (if rget s .almanacUsed_blocks 0 < 4096 then code else 5) ∧
    t.boot.counter = (if rget s .almanacUsed_blocks 0 < 4096 ∧ code ≤ 2 then Max.max s.boot.counter (rget s .mcFwSvn_image 0) else s.boot.counter) := by
  intro t
  by_cases hu : rget s .almanacUsed_blocks 0 < 4096
  · obtain ⟨k1, k2⟩ := advanceCounter_spec code s
    have hm : ∀ (typ src : Nat) (b : List Byte) (u : State), Told startFlds u (almMod typ src b u) := fun _ _ _ _ => Told.rfl.almMod ..
    have ht : t = sealedResult code ms f (advanceCounter code s) s := if_neg (by omega)
    generalize advanceCounter code s = u at k1 k2 ht
    have h1 : Bare startFlds u ((List.range 8).foldl (fun s d => marginRecord 1 d s) u) := Bare.foldl (fun v d => (hm ..).bare) (List.range 8) u
    have ht' := ht
    unfold sealedResult at ht'
    generalize (List.range 8).foldl (fun s d => marginRecord 1 d s) u = v at h1 ht'
    generalize (if rget s .mcBootCtl_forceCold 0 = 1 then 2 else 0) = kind at ht'
    have h2 : Told startFlds v (sealAll (almSeal 2 (almMod 0x9 0xC (emberBody code kind ms f) v))) := ((hm ..).almSeal 2).sealAll blockFlds_start
    generalize sealAll (almSeal 2 (almMod 0x9 0xC (emberBody code kind ms f) v)) = w at h2 ht'
    have hb : w.boot = u.boot := h2.boot.trans h1.boot
    rw [ht', if_pos hu]
    refine ⟨rfl, rfl, ?_, rfl, ?_⟩
    · exact (regAt_rset_other _ _ _ _ (by decide)).trans ((h2.regs _ 0 rfl (by decide)).trans ((h1.regs _ 0 rfl (by decide)).trans
        (k1.regs _ 0 rfl (by decide))))
    · show (rset .mcBootStatus_emberCode 0 w.alm.emberCode w).boot.counter = _
      rw [rset_boot, hb, k2]
      simp only [hu, true_and]
  · have ht : t = driveResult 5 s := if_pos (by omega)
    rw [ht, if_neg hu, if_neg (fun h => hu h.1)]
    exact ⟨rfl, rfl, rfl, rfl, rfl⟩

theorem exec_emberDone (ms : Nat) (f : TestFound) (s : State) : exec (.emberDone ms f) s = .next (if phase s ≠ 2 || s.boot.off then s
    else sealEmber (resultCode (applyFound f s) f) ms f (applyFound f s)) := rfl

theorem exec_emberTimeout (s : State) : exec .emberTimeout s = .next (if phase s ≠ 2 || s.boot.off then s
    else sealEmber 4 60000 ⟨[], [], 0, 0, false⟩ s) := rfl

section
variable {s : State} (hp : phase s = 2) (ho : s.boot.off = false)
include hp ho

theorem emberDone_drives (ms : Nat) (f : TestFound) : leadsTo (.emberDone ms f) s (fun t => t.boot.emberDone = true ∧ t.boot.off = true ∧ phase t = 2 ∧
    t.boot.result = (if rget s .almanacUsed_blocks 0 < 4096 then resultCode (applyFound f s) f else 5) ∧
    t.boot.counter = (if rget s .almanacUsed_blocks 0 < 4096 ∧ resultCode (applyFound f s) f ≤ 2 then Max.max s.boot.counter (rget s .mcFwSvn_image 0)
      else s.boot.counter)) := by
  refine ⟨_, (exec_emberDone ms f s).trans (congrArg _ (if_neg (by simp [hp, ho]))), ?_⟩
  generalize resultCode (applyFound f s) f = code
  have hb := applyFound_bare f s
  generalize applyFound f s = u at hb
  obtain ⟨h1, h2, h3, h4, h5⟩ := sealEmber_spec code ms f u
  have hu : rget u .almanacUsed_blocks 0 = rget s .almanacUsed_blocks 0 := hb.regs _ 0 rfl (by decide)
  have hi : rget u .mcFwSvn_image 0 = rget s .mcFwSvn_image 0 := hb.regs _ 0 rfl (by decide)
  rw [hu] at h4 h5
  rw [hi, hb.boot] at h5
  exact ⟨h1, h2, h3.trans ((hb.regs _ 0 rfl (by decide)).trans hp), h4, h5⟩

theorem emberTimeout_drives : leadsTo .emberTimeout s (fun t => t.boot.emberDone = true ∧ t.boot.off = true ∧ phase t = 2 ∧
    t.boot.result = (if rget s .almanacUsed_blocks 0 < 4096 then 4 else 5) ∧
    t.boot.counter = (if rget s .almanacUsed_blocks 0 < 4096 ∧ 4 ≤ 2 then Max.max s.boot.counter (rget s .mcFwSvn_image 0) else s.boot.counter)) := by
  obtain ⟨h1, h2, h3, h4, h5⟩ := sealEmber_spec 4 60000 ⟨[], [], 0, 0, false⟩ s
  exact ⟨_, (exec_emberTimeout s).trans (congrArg _ (if_neg (by simp [hp, ho]))), h1, h2, h3.trans hp, h4, h5⟩

end

/-- Settles O56: power-good by the straps and the slots, the end of the start by what it finds, quiescing and the Ember test by the entry into EMBER
and by the result that is driven. -/
theorem startsAndShutdowns : Obligations.StartsAndShutdowns := by
  intro s
  refine ⟨fun l otp fd => ?_, fun sec fd b0 lv f => ?_, fun h => (exec_shutdownReqN s).trans (congrArg _ (if_pos (by simpa using h))),
    shutdownReqN_starting, shutdownReqN_running, fun h => (exec_quiesceTimeout s).trans (congrArg _ (if_pos ?_)), quiesceTimeout_ends, fun ms f => ?_,
    fun h => ⟨_, congrArg Host.Outcome.next (if_pos h), rfl⟩, fun h => congrArg Host.Outcome.next (if_neg h)⟩
  · intro go d b heldAs runs
    refine ⟨fun h => (exec_powerGood l otp fd s).trans (congrArg _ (if_pos h)), fun hp => ⟨fun hd => ?_, fun hd => ⟨fun ho => ?_, fun ho hf => ?_,
      fun ho hf => ⟨fun h0 => ?_, fun h0 h1 => ?_, fun h0 h1 => ?_⟩⟩⟩⟩
    · exact powerGood_held (by decide) ((exec_powerGood l otp fd s).trans (congrArg _ ((if_neg (by simp [hp])).trans (if_pos (by simp [d] at hd; simp [hd])))))
    · refine powerGood_held (by decide) ((exec_powerGood l otp fd s).trans (congrArg _ ((if_neg (by simp [hp])).trans ((if_neg ?_).trans (if_pos ?_)))))
      · simpa using hd
      · simp [ho]
    · refine powerGood_held (by decide) ((exec_powerGood l otp fd s).trans (congrArg _ ((if_neg (by simp [hp])).trans ((if_neg ?_).trans
        ((if_neg ?_).trans (if_pos ?_))))))
      · simpa using hd
      · simp [ho]
      · simp [hf]
    · exact powerGood_runs ((exec_powerGood_boots hp hd ho hf).trans (congrArg _ (if_pos h0)))
    · exact powerGood_runs ((exec_powerGood_boots hp hd ho hf).trans (congrArg _ ((if_neg h0).trans (if_pos h1))))
    · have hc : (if slotCheck s b = 5 ∧ slotCheck s (!b) = 5 then 3 else 2) = if slotCheck s b = 5 && slotCheck s (!b) = 5 then 3 else 2 := by
        simp only [Bool.and_eq_true, decide_eq_true_eq]
      show leadsTo go s _
      rw [hc]
      refine powerGood_held (by split <;> decide) ((exec_powerGood_boots hp hd ho hf).trans (congrArg _ ((if_neg h0).trans (if_neg h1))))
  · intro cold s1 s2 held
    have hs2 : held = startHeld (startFound cold lv f s) cold fd b0 f := by
      simp only [held, startFound, s2, s1, Bool.and_eq_true]
    rw [hs2]
    exact ⟨fun h => (exec_startComplete ..).trans (congrArg _ (if_pos (by simpa using h))), fun hp hs => ⟨fun n => startComplete_held hp hs,
      startComplete_ready hp hs⟩⟩
  · simp only [Bool.or_eq_true, decide_eq_true_eq]
    tauto
  · intro drives
    exact ⟨fun h => ⟨(exec_emberDone ..).trans (congrArg _ (if_pos (by simpa using h))), (exec_emberTimeout s).trans (congrArg _ (if_pos (by simpa using h)))⟩,
      fun hp ho => ⟨emberDone_drives hp ho ms f, emberTimeout_drives hp ho⟩⟩

end Sys2Proof.Machine
end

section
/-! PROOFS. Almanac, attestation, diagnosis, partition, firmware and shutdown commands (O50). -/

namespace Sys2Proof.Machine

theorem setPartition_get (m : SMap Nat) (p v j : Nat) : sget 0 (sset 0 m p v) j = if j = p then v else sget 0 m j := by
  split
  · next h => rw [h, sget_sset_same]
  · next h => rw [sget_sset_other _ _ _ _ h]

/-- Contexts that are disabled leave the partitions, and what was reported stays. -/
theorem disableAll_partitions (cs : List Nat) (s : State) : (cs.foldl disableCtx (s, 0)).1.ctl.partitions = s.ctl.partitions ∧
    s.io.events <:+ (cs.foldl disableCtx (s, 0)).1.io.events := by
  have h : Steady 2 s (cs.foldl disableCtx (s, 0)).1 := Steady.refl.foldl_fst (fun _ c h => h.disableCtx c) _
  exact ⟨(h.standing (by decide)).partitions, h.events⟩

/-- What a seal leaves of the Almanac and of the rest. -/
theorem almSeal_spec (fl : Nat) (s : State) : (almSeal fl s).alm.sealing.isSome = true ∧ (almSeal fl s).alm.refurb = s.alm.refurb ∧
    (almSeal fl s).mem = s.mem ∧ (almSeal fl s).ctl = s.ctl := by
  unfold almSeal
  dsimp only
  split
  · exact ⟨by assumption, rfl, rfl, rfl⟩
  · split <;> exact ⟨rfl, rfl, rfl, rfl⟩

theorem almMod_spec (typ src : Nat) (b : List Byte) (s : State) : (almMod typ src b s).alm.refurb = s.alm.refurb ∧ (almMod typ src b s).mem = s.mem ∧
    (almMod typ src b s).ctl = s.ctl := by
  unfold almMod almStage
  split
  · exact ⟨rfl, rfl, rfl⟩
  · split
    · split <;> exact ⟨rfl, rfl, rfl⟩
    · exact ⟨rfl, rfl, rfl⟩

theorem noteOk_congr {s t : State} (b : List Byte) (h : rget t .almanacSeq_seq 0 = rget s .almanacSeq_seq 0) : noteOk t b = noteOk s b := by
  unfold noteOk
  rw [h]

theorem storedAt_finishOk {s t : State} {k : Nat} {b : List Byte} (h : CmdRef) (hs : storedAt s t k b) : storedAt s (finishOk h t) k b := hs

section
variable {h : CmdRef} {s : State}

theorem almanacRead_replies (first n : BitVec 32) (dest : Word64) (hm : mayRun 0x70 h s = true) (hc : h.ctx = 0) :
    let last := rget s .almanacSeq_seq 0
    leadsTo (.almanacRead h first n dest) s (fun t => replied h 0x0000 (Min.min n.toNat (last + 1 - first.toNat)) t = true ∧
      ∀ k, n = 1 → first.toNat ≤ last → plainAt s 0 true dest.toNat (blockBytes s first.toNat).length k → storedAt s t k (blockBytes s first.toNat))
      := by
  refine leadsTo_runPriv rfl hm hc fun l hl => ⟨finish_replied_of hm hl ?_, fun k hn hf hp => ?_⟩
  · refine List.foldlRecOn _ _ (motive := fun t : State => t.ctl.journal = l) rfl fun t ht i _ => ?_
    rw [ctxWrite_ctl_journal, ht]
  · have h1 : Nat.min n.toNat (rget (setJournal l s) .almanacSeq_seq 0 + 1 - first.toNat) = 1 := by
      change Nat.min n.toNat (rget s .almanacSeq_seq 0 + 1 - first.toNat) = 1
      rw [hn]
      exact Nat.min_eq_left (by simp; omega)
    dsimp only
    rw [h1]
    exact storedAt_ctxWrite (s := s) (plainAt_setJournal l hp) rfl

theorem attest_writes (dest : Word64) (nonce : BitVec 256) (hm : mayRun 0x71 h s = true) :
    let m := attestMsg s h.ctx (leBytes 32 nonce.toNat)
    let b := m ++ sigBlock "attestation" "Decperon attest v1" m
    (dest.toNat % 64 ≠ 0 ∨ rangeIn s h.ctx true dest.toNat 5632 = false → leadsTo (.attest h dest nonce) s (fun t =>
      replied h 0x0016 0 t = true ∧ onlyJournal s t)) ∧
    (∀ k, dest.toNat % 64 = 0 → rangeIn s h.ctx true dest.toNat 5632 = true → plainAt s h.ctx true dest.toNat b.length k →
      leadsTo (.attest h dest nonce) s (fun t => replied h 0x0000 0 t = true ∧ storedAt s t k b)) := by
  have hr : ∀ l, rangeIn (setJournal l s) h.ctx true dest.toNat 5632 = rangeIn s h.ctx true dest.toNat 5632 := fun _ => rfl
  have hb : ∀ l, attestMsg (setJournal l s) h.ctx (leBytes 32 nonce.toNat) = attestMsg s h.ctx (leBytes 32 nonce.toNat) := fun _ => rfl
  refine ⟨fun hd => leadsTo_answered rfl hm fun l => if_pos (by simpa [hr] using hd), fun k hd hin hp => leadsTo_runCmd rfl hm fun l hl => ?_⟩
  dsimp only
  rw [if_neg (by simp [hd, hr, hin]), hb]
  generalize attestMsg s h.ctx (leBytes 32 nonce.toNat) ++ sigBlock "attestation" "Decperon attest v1" (attestMsg s h.ctx (leBytes 32 nonce.toNat)) =
      b
    at hp ⊢
  exact ⟨finishOk_replied_of hm hl (ctxWrite_ctl_journal ..), storedAt_finishOk h (storedAt_ctxWrite (plainAt_setJournal l hp) rfl)⟩

theorem troubleRead_writes (dest : Word64) (k : Nat) (hm : mayRun 0x73 h s = true) (hc : h.ctx = 0) (hp : plainAt s 0 true dest.toNat 64 k) :
    leadsTo (.troubleRead h dest) s (fun t => replied h 0x0000 0 t = true ∧ storedAt s t k (troubleBytes s)) := by
  refine leadsTo_runPriv rfl hm hc fun l hl => ?_
  have hb : troubleBytes (setJournal l s) = troubleBytes s := rfl
  have hlen : (troubleBytes s).length = 64 := by simp [troubleBytes]
  replace hp : plainAt s 0 true dest.toNat (troubleBytes s).length k := by rwa [hlen]
  rw [hb, hc]
  generalize troubleBytes s = b at hp ⊢
  exact ⟨finishOk_replied_of hm hl (ctxWrite_ctl_journal ..), storedAt_finishOk h (storedAt_ctxWrite (plainAt_setJournal l hp) rfl)⟩

theorem almanacNote_ok (a : Word64) (k : Nat) (hm : mayRun 0x74 h s = true) (hc : h.ctx = 0) (hp : plainAt s 0 false a.toNat 4096 k) :
    let b := sgetN 0 s.mem.bytes k 4096
    let ok := fld b 0 4 = 0x45544F4E ∧ fld b 4 2 = 1 ∧ (fld b 6 1 = 1 ∨ (fld b 6 1 = 2 ∧ noteOk s b = true))
    (ok → leadsTo (.almanacNote h a) s (fun t => replied h 0x0000 0 t = true ∧ t.alm.sealing.isSome = true ∧ t.mem = s.mem ∧
      (fld b 6 1 = 2 → t.alm.refurb = true))) ∧
    (¬ ok → leadsTo (.almanacNote h a) s (fun t => replied h 0x0016 0x50 t = true ∧ t.alm = s.alm ∧ t.mem = s.mem)) := by
  intro b ok
  have hread : ∀ l, ∃ u, cmdRead h.ctx a.toNat 4096 (setJournal l s) = (⟨b, [], 0⟩, u) ∧ u.ctl.journal = l ∧ u.alm = s.alm ∧ u.mem = s.mem ∧
      noteOk u b = noteOk s b := fun l =>
    ⟨_, cmdRead_plain (plainAt_setJournal l (hc ▸ hp)), by simp, by rw [chargeMem_eq]; rfl, by simp, noteOk_congr b (by simp [rget])⟩
  have hcond : (decide (pktNat b 0 4 ≠ 0x45544F4E) || decide (pktNat b 4 2 ≠ 1) || !(pktNat b 6 1 == 1 || (pktNat b 6 1 == 2 && noteOk s b))) = true ↔
      ¬ ok := by
    change _ ↔ ¬ (pktNat b 0 4 = 0x45544F4E ∧ pktNat b 4 2 = 1 ∧ (pktNat b 6 1 = 1 ∨ (pktNat b 6 1 = 2 ∧ noteOk s b = true)))
    simp only [Bool.or_eq_true, decide_eq_true_eq, Bool.not_eq_true', ← Bool.not_eq_true, beq_iff_eq, Bool.and_eq_true]
    tauto
  have hkind : pktNat b 6 1 = fld b 6 1 := rfl
  clear_value b ok
  refine ⟨fun hk => leadsTo_runPriv rfl hm hc fun l hl => ?_, fun hk => leadsTo_runPriv rfl hm hc fun l hl => ?_⟩
  · obtain ⟨u, hu, hj, ha, hmem, hn⟩ := hread l
    dsimp only
    rw [hu]
    dsimp only
    rw [hn, if_neg (fun h => hcond.1 h hk), hkind]
    generalize hv : (if fld b 6 1 = 2 then _ else u : State) = v
    have hv' : v.ctl.journal = l ∧ v.mem = s.mem ∧ (fld b 6 1 = 2 → v.alm.refurb = true) := by
      subst hv
      split
      · exact ⟨hj, hmem, fun _ => rfl⟩
      · next h2 => exact ⟨hj, hmem, fun h => absurd h h2⟩
    obtain ⟨hvj, hvm, hvr⟩ := hv'
    obtain ⟨ha1, ha2, ha3⟩ := almMod_spec 0xB 0xC b v
    obtain ⟨hs1, hs2, hs3, hs4⟩ := almSeal_spec 2 (almMod 0xB 0xC b v)
    exact ⟨finishOk_replied_of hm hl (by rw [hs4, ha3, hvj]), hs1, hs3.trans (ha2.trans hvm), fun h2 => hs2.trans (ha1.trans (hvr h2))⟩
  · obtain ⟨u, hu, hj, ha, hmem, hn⟩ := hread l
    dsimp only
    rw [hu]
    dsimp only
    rw [hn, if_pos (hcond.2 hk)]
    exact ⟨badParam_replied_of hm hl hj, ha, hmem⟩

theorem partitionSet_sets (part mask : BitVec 8) (hm : mayRun 0x80 h s = true) (hc : h.ctx = 0) :
    let p := part.toNat
    let old := sget 0 s.ctl.partitions p
    let set_ := fun (t : State) => ∀ j, sget 0 t.ctl.partitions j = if j = p then mask.toNat else sget 0 s.ctl.partitions j
    (maskOk s p mask.toNat = false → leadsTo (.partitionSet h part mask) s (fun t => replied h 0x0016 0 t = true ∧ onlyJournal s t)) ∧
    (maskOk s p mask.toNat = true → (old &&& mask.toNat = old ∨ partCtxs s p = []) → leadsTo (.partitionSet h part mask) s (fun t =>
      replied h 0x0000 0 t = true ∧ onlyCtl s t ∧ set_ t)) ∧
    (maskOk s p mask.toNat = true → old &&& mask.toNat ≠ old → partCtxs s p ≠ [] → leadsTo (.partitionSet h part mask) s (fun t =>
      set_ t ∧ reported s t 0x1006 0)) := by
  intro p old set_
  have hk : ∀ l, maskOk (setJournal l s) p mask.toNat = maskOk s p mask.toNat := fun _ => rfl
  refine ⟨fun ho => leadsTo_answered_priv rfl hm hc fun l => if_pos (by rw [hk, ho]; rfl), fun ho hq => ?_, fun ho hq hn => ?_⟩
  · refine leadsTo_runPriv rfl hm hc fun l hl => ?_
    dsimp only
    rw [if_neg (by rw [hk, ho]; decide), if_pos]
    · exact ⟨finishOk_replied_of hm hl rfl, rfl, setPartition_get _ _ _⟩
    · rw [Bool.or_eq_true, decide_eq_true_eq, List.isEmpty_iff]
      exact hq
  · refine leadsTo_runPriv rfl hm hc fun l hl => ?_
    dsimp only
    obtain ⟨hp, he⟩ := disableAll_partitions (partCtxs (setJournal l s) p) (setJournal l s)
    rw [if_neg (by rw [hk, ho]; decide), if_neg]
    · generalize (List.foldl disableCtx (setJournal l s, 0) (partCtxs (setJournal l s) p)) = r at hp he ⊢
      have hd := (Steady.refl (K := 2) (s := { r.1 with ctl := { r.1.ctl with partitions := sset 0 r.1.ctl.partitions p mask.toNat }
      })).disabledEvent 1 p r.2
        (partCtxs (setJournal l s) p)
      refine ⟨fun j => ?_, .prior ((disabledEvent_reported 1 p r.2 (partCtxs (setJournal l s) p) _).2.2) he⟩
      exact (congrArg (sget 0 · j) (hd.standing (by decide)).partitions).trans (by rw [hp]; exact setPartition_get _ _ _ _)
    · rw [Bool.or_eq_true, decide_eq_true_eq, List.isEmpty_iff]
      exact not_or.2 ⟨hq, hn⟩

theorem fwStage_stages (a n : Word64) (k : Nat) (hm : mayRun 0xF0 h s = true) (hc : h.ctx = 0) (hp : plainAt s 0 false a.toNat n.toNat k) :
    let b := sgetN 0 s.mem.bytes k n.toNat
    let x : FwSlot := ⟨b.take 4096, (b.drop 4096).take (n.toNat - 9472), b.drop (4096 + (n.toNat - 9472))⟩
    (imageCheck s x ≠ 0 → leadsTo (.fwStage h a n) s (fun t => replied h 0x0070 (imageCheck s x) t = true ∧ t.boot = s.boot)) ∧
    (imageCheck s x = 0 → leadsTo (.fwStage h a n) s (fun t => replied h 0x0000 0 t = true ∧ reported s t 0x1102 0 ∧
      (if runSlot s = true then t.boot.slotA else t.boot.slotB) = some x ∧ (if runSlot s = true then t.boot.slotB else t.boot.slotA) =
        (if runSlot s = true then s.boot.slotB else s.boot.slotA) ∧ t.boot.prefB = s.boot.prefB ∧ rget t .mcFwStaged_version 0 = fld x.header 8 8))
        := by
  intro b x
  have hread : ∀ l, ∃ u, cmdRead h.ctx a.toNat n.toNat (setJournal l s) = (⟨b, [], 0⟩, u) ∧ u.ctl.journal = l ∧ u.boot = s.boot ∧ u.regs = s.regs ∧
      u.io.events = s.io.events := fun l =>
    ⟨_, cmdRead_plain (plainAt_setJournal l (hc ▸ hp)), by simp, by rw [chargeMem_eq]; rfl, by simp, by simp⟩
  have hcheck : ∀ u : State, u.boot = s.boot → imageCheck u x = imageCheck s x := fun u hu => by
    unfold imageCheck
    rw [hu]
  refine ⟨fun hk => leadsTo_runPriv rfl hm hc fun l hl => ?_, fun hk => leadsTo_runPriv rfl hm hc fun l hl => ?_⟩
  · obtain ⟨u, hu, hj, hb, hr, -⟩ := hread l
    dsimp only
    rw [hu]
    have he := hcheck u hb
    exact (congrArg (fun t : State => replied h 0x0070 (imageCheck s x) t = true ∧ t.boot = s.boot) (if_pos (by rw [he]; exact hk))).mpr
      ⟨by rw [he]; exact finish_replied_of hm hl hj, hb⟩
  · obtain ⟨u, hu, hj, hb, hr, hev⟩ := hread l
    dsimp only
    rw [hu]
    have he := hcheck u hb
    have hrun : runSlot u = runSlot s := by rw [runSlot, runSlot, rget, rget, hr]
    have hv : pktNat x.header 8 8 = fld x.header 8 8 := rfl
    have hlt : fld x.header 8 8 < 2 ^ 64 := fld_lt ..
    dsimp only
    rw [if_neg (by rw [he]; exact fun h => h hk), hrun, hv]
    generalize hw : putSlot (!runSlot s) x u = w
    obtain ⟨hwj, hwb, hwe⟩ : w.ctl.journal = l ∧ w.boot = (putSlot (!runSlot s) x s).boot ∧ w.io.events = s.io.events := by
      subst hw
      exact ⟨hj, by rw [putSlot, putSlot, hb], hev⟩
    generalize hy : rset .mcFwStaged_version 0 (fld x.header 8 8) w = y
    have hyr : rget y .mcFwStaged_version 0 = fld x.header 8 8 := by
      subst hy
      rw [rget_rset_same _ _ _ _ (by decide)]
      exact Nat.mod_eq_of_lt hlt
    have hyb : y.boot = (putSlot (!runSlot s) x s).boot := by subst hy; simpa using hwb
    have hyj : y.ctl.journal = l := by subst hy; simpa using hwj
    have hye : y.io.events = s.io.events := by subst hy; simpa using hwe
    clear_value x
    obtain ⟨hz1, hz2⟩ : (raise0 0x1102 0 (fld x.header 8 8) y).boot = y.boot ∧ (raise0 0x1102 0 (fld x.header 8 8) y).ctl.journal = l := ⟨by simp, by
        simpa using hyj⟩
    have hzt : Told [] y (raise0 0x1102 0 (fld x.header 8 8) y) := Told.rfl.raise0 ..
    have hzr : reported y (raise0 0x1102 0 (fld x.header 8 8) y) 0x1102 0 := raiseC_reported 0x1102 0 0 _ y
    have hz3 : rget (raise0 0x1102 0 (fld x.header 8 8) y) .mcFwStaged_version 0 = rget y .mcFwStaged_version 0 := hzt.regs .mcFwStaged_version 0 rfl
        (by decide)
    generalize raise0 0x1102 0 (fld x.header 8 8) y = z at hz1 hz2 hz3 hzr ⊢
    have hzb : (finishOk h z).boot = (putSlot (!runSlot s) x s).boot := hz1.trans hyb
    refine ⟨finishOk_replied_of hm hl hz2, hzr.prior (hye ▸ List.suffix_rfl), ?_, ?_, ?_, hz3.trans hyr⟩
    all_goals rw [hzb]; unfold putSlot
    · cases runSlot s <;> rfl
    · cases runSlot s <;> rfl
    · cases runSlot s <;> rfl

end

theorem takeTrigger_departs (n : Nat) (s : State) (ht : s.boot.trigger = 0) (hp : hasPosition s = true) :
    .vc7 "DEPARTURE" (mySteward s) [ownRoster s, rosterEpoch s] ∈ (takeTrigger n s).io.outbox := by
  unfold takeTrigger
  dsimp only
  rw [if_neg (by simp [ht, hp])]
  exact List.mem_append_right _ (List.mem_singleton.2 rfl)

theorem exec_cpHeartbeat (d : Nat) (s : State) : exec (.commandProcessorHeartbeat d) s =
    .next (if phase s = 1 && (liveDies s).contains d then ror .mcStatus_cpPresent 0 (2 ^ d) s else s) := rfl

theorem heartbeat_sets (s : State) (d : Nat) :
    (phase s = 1 → d ∈ liveDies s → leadsTo (.commandProcessorHeartbeat d) s (fun t => (rget t .mcStatus_cpPresent 0).testBit d = true ∧
      t.mem = s.mem ∧ ∀ j, j < 8 → j ≠ d → (rget t .mcStatus_cpPresent 0).testBit j = (rget s .mcStatus_cpPresent 0).testBit j)) ∧
    ((phase s ≠ 1 ∨ d ∉ liveDies s) → noEffect (.commandProcessorHeartbeat d) s) := by
  refine ⟨fun hp hd => ⟨_, (exec_cpHeartbeat d s).trans (congrArg _ (if_pos (by simp [hp, hd]))), ?_⟩, fun hd =>
    (exec_cpHeartbeat d s).trans (congrArg _ (if_neg fun h => ?_))⟩
  · have hd8 : d < 8 := List.mem_range.1 (List.mem_filter.1 hd).1
    have hr : rget (ror .mcStatus_cpPresent 0 (2 ^ d) s) .mcStatus_cpPresent 0 = (rget s .mcStatus_cpPresent 0 ||| 2 ^ d) % 2 ^ 8 :=
      rget_rset_same _ _ _ _ (by decide)
    dsimp only
    rw [hr]
    refine ⟨?_, by simp [ror], fun j hj hne => ?_⟩
    · rw [Nat.testBit_mod_two_pow, Nat.testBit_or]
      simp [hd8]
    · rw [Nat.testBit_mod_two_pow, Nat.testBit_or, Nat.testBit_two_pow_of_ne (Ne.symm hne)]
      simp [hj]
  · simp only [Bool.and_eq_true, decide_eq_true_eq, List.contains_iff_mem] at h
    exact hd.elim (fun k => k h.1) (fun k => k h.2)

/-- Settles O50: each command runs from the state that differs by its record only; where contexts are disabled, the partitions stay (`Steady`). -/
theorem serviceCommands : Obligations.ServiceCommands := by
  intro h s
  refine ⟨fun first n dest hm hc => almanacRead_replies first n dest hm hc, fun a k hm hc hp => almanacNote_ok a k hm hc hp,
    fun dest nonce hm => attest_writes dest nonce hm, fun test target hm hc => leadsTo_runPriv rfl hm hc fun l hl => ⟨finish_replied_of hm hl rfl,
        rfl⟩,
    fun dest k hm hc hp => troubleRead_writes dest k hm hc hp, fun part mask hm hc => partitionSet_sets part mask hm hc,
    fun a n k hm hc hp => fwStage_stages a n k hm hc hp, fun hm hc => ?_, fun hm hc => ?_, fun d => ?_⟩
  case refine_1 =>
    refine ⟨fun he => leadsTo_answered_priv rfl hm hc fun l => if_pos he, fun he => leadsTo_runPriv rfl hm hc fun l hl => ?_⟩
    have he' : ¬ slotCheck (setJournal l s) (!runSlot (setJournal l s)) ≠ 0 := fun h => h he
    dsimp only
    rw [if_neg he']
    exact ⟨finishOk_replied_of hm hl rfl, rfl, rfl⟩
  case refine_2 =>
    refine leadsTo_runPriv rfl hm hc fun l hl => ?_
    generalize hu : waitFor h .quiesce ({ setJournal l s with boot := { (setJournal l s).boot with shutCmd := some (h.q, h.seq.toNat) } } : State) = u
    have hw : waitsOn h .quiesce u = true := by
      subst hu
      exact waitFor_waits_of hm hl rfl
    obtain ⟨hb, hr, hmem, hctl⟩ := takeTrigger_spec 1 u
    have hj : (takeTrigger 1 u).ctl.journal = u.ctl.journal := by rw [hctl]
    have hq := (waitsOn_of_journal hj h .quiesce).trans hw
    subst hu
    exact ⟨hq, hr, hmem, hb, fun ht hp => takeTrigger_departs 1 _ ht hp⟩
  case refine_3 => exact heartbeat_sets s d

end Sys2Proof.Machine
end

section
/-! PROOFS. What the resets keep: the trouble that was logged, the resets in progress, what was reported and sent (ch. 16). -/

namespace Sys2Proof.Machine

/-- What a reset of any level keeps; the fields `F` may change. -/
structure Restarted (F : List Fld) (s t : State) : Prop where
  regs : ∀ f i, f.ofModule = true → (fldInfo f).acc ≠ .rw → f ∉ F → regAt t.regs f i = regAt s.regs f i
  resets : t.vig.resets = s.vig.resets
  under : t.pow.under = s.pow.under
  events : s.io.events <:+ t.io.events
  outbox : s.io.outbox <+: t.io.outbox

theorem Restarted.rfl {F : List Fld} {s : State} : Restarted F s s :=
  ⟨fun _ _ _ _ _ => Eq.refl _, Eq.refl _, Eq.refl _, List.suffix_rfl, List.prefix_rfl⟩

theorem Restarted.trans {F : List Fld} {s t u : State} (h : Restarted F s t) (k : Restarted F t u) : Restarted F s u :=
  ⟨fun f i hf ha hn => (k.regs f i hf ha hn).trans (h.regs f i hf ha hn), k.resets.trans h.resets, k.under.trans h.under, h.events.trans k.events,
    h.outbox.trans k.outbox⟩

theorem Steady.restarted {F : List Fld} {s t : State} (h : Steady 2 s t) : Restarted F s t :=
  have k := h.standing (by decide)
  ⟨fun f i hf _ _ => k.regs f i hf, k.resets, k.under, h.events, h.outbox⟩

theorem Restarted.mono {F G : List Fld} {s t : State} (h : Restarted F s t) (hg : ∀ f ∈ F, f ∈ G) : Restarted G s t :=
  { h with regs := fun f i hf ha hn => h.regs f i hf ha fun hm => hn (hg f hm) }

/-- A field that the reset does not speak of, or one of `F`, is written. -/
theorem Restarted.rset {F : List Fld} {s t : State} {f : Fld} (h : Restarted F s t) (hf : f ∈ F) (i v : Nat) : Restarted F s (Machine.rset f i v t) :=
  h.trans ⟨fun g j _ _ hn => regAt_rset_other _ _ _ _ fun he => hn (he ▸ hf), by simp, by simp, by simp, by simp⟩

theorem sget_filter_keys {α : Type} {p : Nat × α → Bool} {k : Nat} (d : α) (hp : ∀ v, p (k, v) = true) (m : SMap α) :
    sget d (m.filter p) k = sget d m k := by
  induction m with
  | nil => rfl
  | cons x m ih =>
    obtain ⟨j, v⟩ := x
    by_cases hj : j = k
    · subst hj
      rw [List.filter_cons_of_pos (hp v)]
      simp [sget]
    · by_cases hx : p (j, v) = true
      · rw [List.filter_cons_of_pos hx]
        simpa [sget, hj] using ih
      · rw [List.filter_cons_of_neg hx]
        simpa [sget, hj] using ih

theorem sget_filter_none {α : Type} {p : Nat × α → Bool} {k : Nat} (d : α) (hp : ∀ v, p (k, v) = false) (m : SMap α) : sget d (m.filter p) k = d := by
  rw [sget_eq_getD, sget?_filter_not (fun x hx => by obtain ⟨j, v⟩ := x; subst hx; exact hp v)]
  rfl

/-- Only fields that are written by the host return to their reset values. -/
theorem regAt_resetRW {p : Fld → Nat → Bool} {f : Fld} (hf : (fldInfo f).acc ≠ .rw) (i : Nat) (s : State) :
    regAt (resetRW p s).regs f i = regAt s.regs f i := by
  unfold regAt resetRW
  split
  · next hi =>
    refine sget_filter_keys _ (fun v => ?_) _
    rw [Bool.not_eq_true', List.any_eq_false]
    intro g _ hg
    simp only [Bool.and_eq_true, beq_iff_eq, fldKey_div hi] at hg
    obtain ⟨⟨hgf, ha⟩, -⟩ := hg
    rw [← Fld.ofNat_ctorIdx g, hgf, Fld.ofNat_ctorIdx] at ha
    exact hf ha
  · rfl

theorem Restarted.resetRW {F : List Fld} {s t : State} (h : Restarted F s t) (p : Fld → Nat → Bool) : Restarted F s (Machine.resetRW p t) :=
  h.trans ⟨fun _ i _ ha _ => regAt_resetRW ha i t, Eq.refl _, Eq.refl _, List.suffix_rfl, List.prefix_rfl⟩

/-- Another state with the same registers, resets, input and reports. -/
theorem Restarted.of_eq {F : List Fld} {s t u : State} (h : Restarted F s t)
    (hu : (u.regs, u.vig.resets, u.pow.under, u.io.events, u.io.outbox) = (t.regs, t.vig.resets, t.pow.under, t.io.events, t.io.outbox) := by rfl) :
    Restarted F s u := by
  simp only [Prod.mk.injEq] at hu
  obtain ⟨h1, h2, h3, h4, h5⟩ := hu
  exact h.trans ⟨fun _ _ _ _ _ => by rw [h1], h2, h3, h4 ▸ List.suffix_rfl, h5 ▸ List.prefix_rfl⟩

theorem Restarted.foldl {F : List Fld} {s t : State} {α : Type} {f : State → α → State} (h : Restarted F s t)
    (hf : ∀ u a, Restarted F s u → Restarted F s (f u a)) (l : List α) : Restarted F s (l.foldl f t) :=
  List.foldlRecOn _ _ (motive := Restarted F s) h fun u hu a _ => hf u a hu

/-- The fields that a module reset sets. -/
def downFlds : List Fld := [.hostifVf_enable, .hostifVf_numVfs, .mcStatus_ready]

/-- The notice with which a module reset begins. -/
def resetNotice (s : State) : OutMsg := .vc7 "RESET_NOTICE" (mySteward s) [ownRoster s, rosterEpoch s, rget s .cohortHold_holdMs 0]

theorem moduleDown_spec (s : State) : Restarted downFlds s (moduleDown s) ∧ rget (moduleDown s) .mcStatus_ready 0 = 0 ∧
    resetNotice s ∈ (moduleDown s).io.outbox := by
  unfold moduleDown
  dsimp only
  have hm : resetNotice s ∈ (emit (resetNotice s) s).io.outbox := List.mem_append_right _ (List.mem_singleton.2 rfl)
  have h1 : Restarted downFlds s (emit (resetNotice s) s) := (Steady.refl.emit _).restarted
  change Restarted downFlds s (emit (.vc7 "RESET_NOTICE" (mySteward s) [ownRoster s, rosterEpoch s, rget s .cohortHold_holdMs 0]) s) at h1
  change _ ∈ (emit (.vc7 "RESET_NOTICE" (mySteward s) [ownRoster s, rosterEpoch s, rget s .cohortHold_holdMs 0]) s).io.outbox at hm
  generalize emit (.vc7 "RESET_NOTICE" (mySteward s) [ownRoster s, rosterEpoch s, rget s .cohortHold_holdMs 0]) s = u at h1 hm ⊢
  have h2 : Restarted downFlds u (resetConfig u) := by
    unfold resetConfig
    exact ((Restarted.rfl.of_eq).rset (by decide) ..).rset (by decide) ..
  generalize hv : rset .mcStatus_ready 0 0 ({ resetConfig u with fab := { u.fab with notice := true } } : State) = v
  have h3 : Restarted downFlds u v := by
    subst hv
    exact (h2.of_eq).rset (by decide) ..
  have hr : rget v .mcStatus_ready 0 = 0 := by
    subst hv
    exact rget_rset_same _ _ _ _ (by decide)
  have h4 : Steady 2 v ((List.range 8).foldl (fun s d => clearDie d s) { v with oct := [] }) :=
    Steady.foldl (Steady.face .refl) (fun _ _ h => h.clearDie ..) _
  generalize (List.range 8).foldl (fun s d => clearDie d s) { v with oct := [] } = w at h4 ⊢
  have h5 : Steady 2 (resetRW (fun f _ => !keptRW f) w) ((List.range 32).foldl (fun s p => portReset p s) (resetRW (fun f _ => !keptRW f) w)) :=
    Steady.refl.foldl (fun _ _ h => h.portReset ..) _
  have h6 : Restarted [] v ((List.range 32).foldl (fun s p => portReset p s) (resetRW (fun f _ => !keptRW f) w)) :=
    (h4.restarted.resetRW _).trans h5.restarted
  generalize (List.range 32).foldl (fun s p => portReset p s) (resetRW (fun f _ => !keptRW f) w) = x at h6 ⊢
  have h7 : Restarted downFlds u x := h3.trans (h6.mono fun _ h => absurd h List.not_mem_nil)
  exact ⟨(h1.trans h7).of_eq, (h6.regs .mcStatus_ready 0 rfl (by decide) List.not_mem_nil).trans hr, h7.outbox.subset hm⟩

theorem resetNotice_steady {s t : State} (h : Steady 2 s t) : resetNotice t = resetNotice s := by
  have hs := h.standing (by decide)
  have hst : stewardOf t = stewardOf s := funext fun c => by rw [stewardOf, stewardOf, hs.list, primaryOf_of_list hs.list]
  have hro : ownRoster t = ownRoster s := hs.regs .cohortSelf_roster 0 rfl
  have hep : rosterEpoch t = rosterEpoch s := h.roster (by decide) .cohortEpoch_epoch 0 rfl
  have hho : rget t .cohortHold_holdMs 0 = rget s .cohortHold_holdMs 0 := hs.regs .cohortHold_holdMs 0 rfl
  have hco : rget t .cohortSelf_cohort 0 = rget s .cohortSelf_cohort 0 := hs.regs .cohortSelf_cohort 0 rfl
  rw [resetNotice, mySteward, hst, hro, hep, hho, hco]
  rfl

/-- What begins with a reset of a level: a module reset takes the module out of service. -/
theorem startReset_spec (r : ResetInfo) (s : State) : Restarted downFlds s (startReset r s) ∧ (r.level ≠ 4 → Restarted [] s (startReset r s)) ∧
    (r.level = 4 → rget (startReset r s) .mcStatus_ready 0 = 0 ∧ resetNotice s ∈ (startReset r s).io.outbox) := by
  have h1 : Steady 2 s (r.ctxs.foldl (fun s c => stopWork c (bumpGen c s)) s) := Steady.refl.foldl (fun _ _ h => (h.bumpGen ..).stopWork ..) _
  by_cases h4 : r.level = 4
  · have he : startReset r s = moduleDown (r.ctxs.foldl (fun s c => stopWork c (bumpGen c s)) s) := by
      unfold startReset
      dsimp only
      rw [if_neg (by omega), if_neg (by omega), if_pos h4]
    obtain ⟨hd, hr, hn⟩ := moduleDown_spec (r.ctxs.foldl (fun s c => stopWork c (bumpGen c s)) s)
    rw [he]
    exact ⟨h1.restarted.trans hd, fun h => absurd h4 h, fun _ => ⟨hr, resetNotice_steady h1 ▸ hn⟩⟩
  · have key : Restarted [] s (startReset r s) := by
      unfold startReset
      dsimp only
      generalize r.ctxs.foldl (fun s c => stopWork c (bumpGen c s)) s = u at h1 ⊢
      split
      · refine (h1.foldl (fun v p h => ?_) _).restarted
        split
        · exact (h.clearCluster ..).substCluster ..
        · exact h
      · split
        · exact h1.restarted.foldl (fun v d h => (h.resetRW _).trans (Steady.refl.clearDie d).restarted) _
        · exact h1.restarted
    exact ⟨key.mono fun _ h => absurd h List.not_mem_nil, fun _ => key, fun h => absurd h h4⟩

/-- A reset that nothing covers begins: it joins the ones in progress that it does not cover. -/
theorem beginReset_of_uncovered {r : ResetInfo} {s : State} (h : s.vig.resets.any (fun x => covers x r) = false) :
    beginReset r s = startReset r { s with vig := { s.vig with resets := s.vig.resets.filter (fun x => !covers r x) ++ [r] } } :=
  if_neg (by rw [h]; decide)

end Sys2Proof.Machine
end

section
/-! PROOFS. The input, the limiter, budgets, caps and energy (O52). -/

namespace Sys2Proof.Machine

/-! ### The budget -/

/-- The fields that the budget is made of, and the budget. -/
def budgetFlds : List Fld := [.pwrBudget_budgetW, .pwrTray_grantW, .pwrPeakLimit_peakW, .pwrTray_trayPeakW, .pwrThrottle_levelW]

/-- The budget's register holds what its inputs give. -/
def Budgeted (t : State) : Prop := rget t .pwrBudget_budgetW 0 = (budgetOf t).toNat % 2 ^ 16

/-- The same inputs give the same budget. -/
theorem budgetOf_congr {s t : State} (hr : ∀ f ∈ budgetFlds, f ≠ .pwrBudget_budgetW → rget t f 0 = rget s f 0)
    (hp : (t.pow.share, t.pow.warn, t.pow.throttle) = (s.pow.share, s.pow.warn, s.pow.throttle)) : budgetOf t = budgetOf s := by
  simp only [Prod.mk.injEq] at hp
  obtain ⟨h1, h2, h3⟩ := hp
  unfold budgetOf clamped effPeak
  rw [hr .pwrTray_grantW (by decide) (by decide), hr .pwrPeakLimit_peakW (by decide) (by decide), hr .pwrTray_trayPeakW (by decide) (by decide),
    hr .pwrThrottle_levelW (by decide) (by decide), h1, h2, h3]

/-- What reports keep of the budget and its inputs. -/
theorem Told.budgetOf {F : List Fld} {s t : State} (h : Told F s t) (hp : t.pow = s.pow) (hF : ∀ f ∈ budgetFlds, f ∉ F := by decide) :
    Machine.budgetOf t = Machine.budgetOf s :=
  budgetOf_congr (fun f hf _ => h.regs f 0 (by revert f; decide) (hF f hf)) (by rw [hp])

theorem Told.budgeted {F : List Fld} {s t : State} (h : Told F s t) (hs : Budgeted s) (hp : t.pow = s.pow)
    (hF : ∀ f ∈ budgetFlds, f ∉ F := by decide) : Budgeted t :=
  (h.regs .pwrBudget_budgetW 0 (by decide) (hF _ (by decide))).trans (hs.trans (by rw [h.budgetOf hp hF]))

/-- Under a warning or THROTTLE_N the budget stays within the throttle level. -/
theorem budgetOf_clamped {s : State} (h : clamped s = true) : budgetOf s ≤ rget s .pwrThrottle_levelW 0 := by
  unfold budgetOf
  rw [if_pos h]
  have := Nat.min_le_right (effPeak s) (rget s .pwrThrottle_levelW 0)
  omega

theorem setBudget_budgeted (s : State) : Budgeted (setBudget s) := setBudget_spec s

theorem setBudget_pow (s : State) : (setBudget s).pow = s.pow := rset_pow ..

theorem setBudget_told (s : State) : Told [.pwrBudget_budgetW] s (setBudget s) := Told.rfl.rset (f := .pwrBudget_budgetW) (.inr (by decide)) ..

theorem budgetOf_setBudget (s : State) : budgetOf (setBudget s) = budgetOf s :=
  budgetOf_congr (fun _ _ h => rget_setBudget h 0 s) (by rw [setBudget_pow])

/-! ### The input (R363 to R365) -/

section
variable {s : State}

theorem exec_highInput (up : Bool) (v : Nat) (s : State) : exec (.highInput up v) s = .next
    (if !awake s || s.pow.high == up then s else supplyEvent (if up then 2 else 3) v { s with pow := { s.pow with high := up } }) := rfl

theorem supplyEvent_spec (k v : Nat) (s : State) : (supplyEvent k v s).pow = s.pow ∧ Told [] s (supplyEvent k v s) ∧
    reported s (supplyEvent k v s) 0x0F01 0 := by
  unfold supplyEvent
  exact ⟨raise0_pow .., Told.rfl.raise0 .., raiseC_reported 0x0F01 _ 0 _ s⟩

theorem highInput_spec (up : Bool) (v : Nat) :
    (awake s = true → s.pow.high ≠ up → leadsTo (.highInput up v) s (fun t => t.pow = { s.pow with high := up } ∧ reported s t 0x0F01 0)) ∧
    ((awake s = false ∨ s.pow.high = up) → noEffect (.highInput up v) s) := by
  refine ⟨fun ha hu => ⟨_, (exec_highInput up v s).trans (congrArg _ (if_neg (by simp [ha, hu]))), ?_⟩, fun h =>
    (exec_highInput up v s).trans (congrArg _ (if_pos (by simpa using h)))⟩
  obtain ⟨hp, -, hr⟩ := supplyEvent_spec (if up then 2 else 3) v { s with pow := { s.pow with high := up } }
  exact ⟨hp, hr⟩

theorem exec_supplyWarning (v : Nat) (s : State) : exec (.supplyWarning v) s = .next (if !awake s || s.pow.warn then s
    else urgent (supplyEvent 0 v (setBudget (count1 .pwrWarnCount_count 0 (rflag .pwrStatus_warnSeen 0
      { s with pow := { s.pow with warn := true }, boot := { s.boot with warnN := false } }))))) := rfl

theorem supplyWarning_spec (v : Nat) (ha : awake s = true) (hw : s.pow.warn = false) : leadsTo (.supplyWarning v) s (fun t =>
    t.pow = { s.pow with warn := true } ∧ t.boot.warnN = false ∧ rget t .pwrStatus_warnSeen 0 = 1 ∧ Budgeted t ∧
    budgetOf t ≤ rget s .pwrThrottle_levelW 0 ∧ reported s t 0x0F01 0 ∧
    (rget s .pwrWarnCount_count 0 < 2 ^ 32 - 1 → rget t .pwrWarnCount_count 0 = rget s .pwrWarnCount_count 0 + 1)) := by
  refine ⟨_, (exec_supplyWarning v s).trans (congrArg _ (if_neg (by simp [ha, hw]))), ?_⟩
  generalize hu : ({ s with pow := { s.pow with warn := true }, boot := { s.boot with warnN := false } } : State) = u
  have hup : u.pow = { s.pow with warn := true } := by subst hu; rfl
  have hub : u.boot.warnN = false := by subst hu; rfl
  have hur : u.regs = s.regs := by subst hu; rfl
  have hue : u.io.events = s.io.events := by subst hu; rfl
  generalize hu2 : count1 .pwrWarnCount_count 0 (rflag .pwrStatus_warnSeen 0 u) = u2
  have h2 : Told [.pwrStatus_warnSeen, .pwrWarnCount_count] u u2 := by
    subst hu2
    exact (Told.rfl.rflag (f := .pwrStatus_warnSeen) (by decide) 0).count1 (f := .pwrWarnCount_count) (.inr (by decide)) 0
  have h2p : u2.pow = u.pow := by subst hu2; simp
  have h2s : rget u2 .pwrStatus_warnSeen 0 = 1 := by
    subst hu2
    exact (regAt_count1_other _ _ _ rfl (by decide)).trans (rget_rset_same _ _ _ _ (by decide))
  have h2c : rget s .pwrWarnCount_count 0 < 2 ^ 32 - 1 → rget u2 .pwrWarnCount_count 0 = rget s .pwrWarnCount_count 0 + 1 := fun hn => by
    subst hu2
    have hs : rget (rflag .pwrStatus_warnSeen 0 u) .pwrWarnCount_count 0 = rget s .pwrWarnCount_count 0 :=
      (regAt_rflag_other _ _ _ (by decide)).trans (by rw [hur]; rfl)
    exact (rget_count1_next rfl (by decide) rfl (by rw [hs]; exact hn)).trans (by rw [hs])
  obtain ⟨h3p, h3t, h3r⟩ := supplyEvent_spec 0 v (setBudget u2)
  generalize supplyEvent 0 v (setBudget u2) = u3 at h3p h3t h3r ⊢
  have h4 : Told [] (setBudget u2) (urgent u3) := h3t.urgent
  have h4p : (urgent u3).pow = (setBudget u2).pow := (by simp : (urgent u3).pow = u3.pow).trans h3p
  have hb := setBudget_told u2
  have hbud : budgetOf (urgent u3) = budgetOf u2 := (h4.budgetOf h4p).trans (budgetOf_setBudget u2)
  have hthr : rget u2 .pwrThrottle_levelW 0 = rget s .pwrThrottle_levelW 0 := (h2.regs _ 0 rfl (by decide)).trans (by rw [hur]; rfl)
  refine ⟨h4p.trans ((setBudget_pow u2).trans (h2p.trans hup)), ?_, ?_, h4.budgeted (setBudget_budgeted u2) h4p, ?_, ?_, fun hn => ?_⟩
  · rw [h4.boot, hb.boot, h2.boot, hub]
  · exact (h4.regs .pwrStatus_warnSeen 0 rfl (by decide)).trans ((hb.regs _ 0 rfl (by decide)).trans h2s)
  · rw [hbud, ← hthr]
    exact budgetOf_clamped (by rw [clamped, h2p, hup]; rfl)
  · exact (h3r.told (Told.rfl (F := []).urgent)).prior (hue ▸ h2.events.trans hb.events)
  · exact (h4.regs .pwrWarnCount_count 0 rfl (by decide)).trans ((hb.regs _ 0 rfl (by decide)).trans (h2c hn))

theorem exec_supplyWarningRelease (v : Nat) (s : State) : exec (.supplyWarningRelease v) s = .next (if !s.pow.warn then s
    else supplyEvent 1 v (setBudget { s with pow := { s.pow with warn := false }, boot := { s.boot with warnN := true } })) := rfl

theorem supplyWarningRelease_spec (v : Nat) (hw : s.pow.warn = true) : leadsTo (.supplyWarningRelease v) s (fun t =>
    t.pow = { s.pow with warn := false } ∧ t.boot.warnN = true ∧ Budgeted t ∧ reported s t 0x0F01 0) := by
  refine ⟨_, (exec_supplyWarningRelease v s).trans (congrArg _ (if_neg (by simp [hw]))), ?_⟩
  generalize hu : ({ s with pow := { s.pow with warn := false }, boot := { s.boot with warnN := true } } : State) = u
  obtain ⟨h3p, h3t, h3r⟩ := supplyEvent_spec 1 v (setBudget u)
  have hb := setBudget_told u
  refine ⟨h3p.trans ((setBudget_pow u).trans (by subst hu; rfl)), ?_, h3t.budgeted (setBudget_budgeted u) h3p, h3r.prior ?_⟩
  · rw [h3t.boot, hb.boot, ← hu]
  · have := hb.events
    rwa [← hu] at this ⊢

theorem exec_throttleN (low : Bool) (v : Nat) (s : State) : exec (.throttleN low v) s = .next (if phase s ≠ 1 || s.pow.throttle == low then s
    else if low then supplyEvent 4 v (count1 .pwrWarnCount_count 0 (rflag .pwrStatus_throttleSeen 0
      (setBudget { s with pow := { s.pow with throttle := low } })))
    else supplyEvent 5 v (setBudget { s with pow := { s.pow with throttle := low } })) := rfl

theorem throttleN_spec (low : Bool) (v : Nat) (hp : phase s = 1) (hl : s.pow.throttle ≠ low) : leadsTo (.throttleN low v) s (fun t =>
    t.pow = { s.pow with throttle := low } ∧ Budgeted t ∧ reported s t 0x0F01 0 ∧
    (low = true → rget t .pwrStatus_throttleSeen 0 = 1 ∧ budgetOf t ≤ rget s .pwrThrottle_levelW 0)) := by
  refine ⟨_, (exec_throttleN low v s).trans (congrArg _ (if_neg (by simp [hp, hl]))), ?_⟩
  generalize hu : ({ s with pow := { s.pow with throttle := low } } : State) = u
  have hup : u.pow = { s.pow with throttle := low } := by subst hu; rfl
  have hur : u.regs = s.regs := by subst hu; rfl
  have hue : u.io.events = s.io.events := by subst hu; rfl
  have hb := setBudget_told u
  have hbp := setBudget_pow u
  have hthr : rget (setBudget u) .pwrThrottle_levelW 0 = rget s .pwrThrottle_levelW 0 := (hb.regs _ 0 rfl (by decide)).trans (by rw [hur]; rfl)
  have hbud := setBudget_budgeted u
  generalize setBudget u = b at *
  cases low with
  | true =>
    rw [if_pos rfl]
    generalize hc : count1 .pwrWarnCount_count 0 (rflag .pwrStatus_throttleSeen 0 b) = c
    have hct : Told [.pwrStatus_throttleSeen, .pwrWarnCount_count] b c := by
      subst hc
      exact (Told.rfl.rflag (f := .pwrStatus_throttleSeen) (by decide) 0).count1 (f := .pwrWarnCount_count) (.inr (by decide)) 0
    have hcp : c.pow = b.pow := by subst hc; simp
    have hcs : rget c .pwrStatus_throttleSeen 0 = 1 := by
      subst hc
      exact (regAt_count1_other _ _ _ rfl (by decide)).trans (rget_rset_same _ _ _ _ (by decide))
    obtain ⟨hep, het, her⟩ := supplyEvent_spec 4 v c
    refine ⟨hep.trans (hcp.trans (hbp.trans hup)), het.budgeted (hct.budgeted hbud hcp) hep, her.prior (hue ▸ hb.events.trans hct.events), fun _ =>
      ⟨(het.regs .pwrStatus_throttleSeen 0 rfl (by decide)).trans hcs, ?_⟩⟩
    rw [het.budgetOf hep, hct.budgetOf hcp, ← hthr]
    exact budgetOf_clamped (by rw [clamped, hbp, hup, Bool.or_true])
  | false =>
    rw [if_neg (by decide)]
    obtain ⟨hep, het, her⟩ := supplyEvent_spec 5 v b
    exact ⟨hep.trans (hbp.trans hup), het.budgeted hbud hep, her.prior (hue ▸ hb.events), fun h => absurd h (by decide)⟩

theorem noEffect_throttleN (low : Bool) (v : Nat) (h : phase s ≠ 1 ∨ s.pow.throttle = low) : noEffect (.throttleN low v) s :=
  (exec_throttleN low v s).trans (congrArg _ (if_pos (by simpa using h)))

theorem resetNotice_rset {f : Fld} (hf : f ∉ [.cohortRoster_entry, .cohortSelf_cohort, .cohortSelf_roster, .cohortEpoch_epoch, .cohortHold_holdMs])
    (i v : Nat) (s : State) : resetNotice (rset f i v s) = resetNotice s := by
  simp only [List.mem_cons, List.not_mem_nil, or_false, not_or] at hf
  obtain ⟨h1, h2, h3, h4, h5⟩ := hf
  have hl : rosterList (rset f i v s) = rosterList s := rosterList_rset (fun h => h1 (by rw [← Fld.ofNat_ctorIdx f, h, Fld.ofNat_ctorIdx])) i v s
  have hst : stewardOf (rset f i v s) = stewardOf s := funext fun c => by rw [stewardOf, stewardOf, hl, primaryOf_of_list hl]
  have key : ∀ g, f ≠ g → rget (rset f i v s) g 0 = rget s g 0 := fun g hg => regAt_rset_other _ _ _ _ (Ne.symm hg)
  rw [resetNotice, mySteward, hst, ownRoster, rosterEpoch, key _ h2, key _ h3, key _ h4, key _ h5]
  rfl

/-- What a supply reset logs before it acts. -/
def supplyLogged (v : Nat) (s : State) : State :=
  trouble .troubleLog_supplyReset 1 (rflag .pwrStatus_resetSeen 0 (rset .pwrInput_voltage 0 v { s with pow := { s.pow with under := true, told := true } }))

theorem exec_supplyReset (v : Nat) (s : State) : exec (.supplyReset v) s = .next (if !awake s || s.pow.under then s
    else if phase s = 2 then { supplyLogged v s with boot := { (supplyLogged v s).boot with off := true } }
    else if s.boot.starting then supplyLogged v s else beginReset (moduleReset 8 0 0xFF (supplyLogged v s)) (supplyLogged v s)) := rfl

theorem supplyLogged_spec (v : Nat) (s : State) : (supplyLogged v s).pow.under = true ∧ rget (supplyLogged v s) .pwrStatus_resetSeen 0 = 1 ∧
    (supplyLogged v s).vig = s.vig ∧ resetNotice (supplyLogged v s) = resetNotice s := by
  unfold supplyLogged
  generalize hu : ({ s with pow := { s.pow with under := true, told := true } } : State) = u
  have hur : u.regs = s.regs := by subst hu; rfl
  have huv : u.vig = s.vig := by subst hu; rfl
  have hup : u.pow.under = true := by subst hu; rfl
  have hseen : rget (rflag .pwrStatus_resetSeen 0 (rset .pwrInput_voltage 0 v u)) .pwrStatus_resetSeen 0 = 1 := rget_rset_same _ _ _ _ (by decide)
  have hT : Told [.troubleLog_supplyReset, .troubleFirst_lcount, .troubleLast_lcount] (rflag .pwrStatus_resetSeen 0 (rset .pwrInput_voltage 0 v u))
      (trouble .troubleLog_supplyReset 1 (rflag .pwrStatus_resetSeen 0 (rset .pwrInput_voltage 0 v u))) :=
    Told.rfl.trouble (by decide) (by decide) (by decide) 1
  refine ⟨?_, (hT.regs .pwrStatus_resetSeen 0 rfl (by decide)).trans hseen, ?_, ?_⟩
  · simpa using hup
  · simpa using huv
  · have hu' : resetNotice u = resetNotice s := by subst hu; rfl
    rw [← hu']
    unfold trouble ror rflag
    dsimp only
    rw [resetNotice_rset (by decide), resetNotice_rset (by decide)]
    split
    · rw [resetNotice_rset (by decide), resetNotice_rset (by decide), resetNotice_rset (by decide)]
    · rw [resetNotice_rset (by decide), resetNotice_rset (by decide)]

theorem supplyReset_module (v : Nat) (hu : s.pow.under = false) (hp : phase s = 1) (hs : s.boot.starting = false)
    (hr : ∀ x ∈ s.vig.resets, x.level ≠ 4) : leadsTo (.supplyReset v) s (fun t => t.pow.under = true ∧ rget t .mcStatus_ready 0 = 0 ∧
      rget t .pwrStatus_resetSeen 0 = 1 ∧ (∃ x ∈ t.vig.resets, x.level = 4 ∧ x.kind = 8) ∧
      .vc7 "RESET_NOTICE" (mySteward s) [ownRoster s, rosterEpoch s, rget s .cohortHold_holdMs 0] ∈ t.io.outbox) := by
  have hw : ¬ (!awake s || s.pow.under) = true := by simp [awake, hp, hu]
  refine ⟨_, (exec_supplyReset v s).trans (congrArg _ ((if_neg hw).trans ((if_neg (by omega)).trans (if_neg (by simp [hs]))))), ?_⟩
  obtain ⟨h1, h2, h3, h4⟩ := supplyLogged_spec v s
  generalize supplyLogged v s = u at h1 h2 h3 h4 ⊢
  have hc : u.vig.resets.any (fun x => covers x (moduleReset 8 0 0xFF u)) = false := by
    rw [List.any_eq_false, h3]
    intro x hx
    simp [covers, moduleReset, hr x hx]
  rw [beginReset_of_uncovered hc]
  generalize hw : ({ u with vig := { u.vig with resets := u.vig.resets.filter (fun x => !covers (moduleReset 8 0 0xFF u) x) ++ [moduleReset 8 0 0xFF u] } } : State) = w
  obtain ⟨hR, -, hD⟩ := startReset_spec (moduleReset 8 0 0xFF u) w
  obtain ⟨hready, hnote⟩ := hD rfl
  have hwn : resetNotice w = resetNotice s := by subst hw; exact h4
  refine ⟨hR.under.trans (by subst hw; exact h1), hready, (hR.regs .pwrStatus_resetSeen 0 rfl (by decide) (by decide)).trans (by subst hw; exact h2),
    ⟨moduleReset 8 0 0xFF u, ?_, rfl, rfl⟩, by rw [hwn] at hnote; exact hnote⟩
  rw [hR.resets, ← hw]
  exact List.mem_append_right _ (List.mem_singleton.2 rfl)

theorem supplyReset_ember (v : Nat) (hu : s.pow.under = false) (hp : phase s = 2) : leadsTo (.supplyReset v) s (fun t =>
    t.pow.under = true ∧ t.boot.off = true ∧ rget t .pwrStatus_resetSeen 0 = 1) := by
  have hw : ¬ (!awake s || s.pow.under) = true := by simp [awake, hp, hu]
  obtain ⟨h1, h2, -, -⟩ := supplyLogged_spec v s
  exact ⟨_, (exec_supplyReset v s).trans (congrArg _ ((if_neg hw).trans (if_pos hp))), h1, rfl, h2⟩

theorem noEffect_supplyReset (v : Nat) (h : awake s = false ∨ s.pow.under = true) : noEffect (.supplyReset v) s :=
  (exec_supplyReset v s).trans (congrArg _ (if_pos (by simpa using h)))

/-- What is left of the state where the supply is gone, but for the registers. -/
def deadState (s : State) : State :=
  let r := State.reset
  let cxl := fun (k u : Nat) => decide (16 * 2 ^ 50 / u ≤ k) && decide (k < 20 * 2 ^ 50 / u)
  { r with
    pending := s.pending
    free := s.free
    io := { r.io with hostMem := s.io.hostMem, outbox := s.io.outbox, events := s.io.events }
    mem := { r.mem with bytes := s.mem.bytes.filter (fun x => cxl x.1 1), bad := s.mem.bad.filter (fun x => cxl x.1 64) }
    host := { r.host with cxlDev := s.host.cxlDev }
    alm := { s.alm with staged := [], sealing := none, sealNext := false, taking := none }
    boot := { r.boot with slotA := s.boot.slotA, slotB := s.boot.slotB, prefB := s.boot.prefB, counter := s.boot.counter, counterWas := s.boot.counterWas,
                          nonceNo := s.boot.nonceNo } }

theorem loadSnap_rest (x : AlmSnap) (s : State) : (loadSnap x s).ctl = s.ctl ∧ (loadSnap x s).eng = s.eng ∧ (loadSnap x s).boot = s.boot ∧
    (loadSnap x s).alm.blocks = s.alm.blocks ∧ (loadSnap x s).mem.bytes = s.mem.bytes := by
  unfold loadSnap
  dsimp only
  refine ⟨?_, ?_, ?_, ?_, ?_⟩ <;> simp only [rset_ctl, rset_eng, rset_boot, rset_alm, rset_mem]

theorem unpowered_spec (s : State) : phase (unpowered s) = 0 ∧ (unpowered s).ctl.journal = [] ∧ (unpowered s).eng = [] ∧
    (unpowered s).boot = (deadState s).boot ∧ (unpowered s).alm.blocks = s.alm.blocks ∧ (unpowered s).mem.bytes = (deadState s).mem.bytes := by
  unfold unpowered
  dsimp only
  generalize hu : rset .almanacSeq_seq 0 _ _ = u
  have hT : Told [.almanacSeq_seq, .almanacUsed_blocks, .almanacStatus_tail, .mcBootStatus_emberCode] (deadState s) u := by
    subst hu
    exact (((Told.rfl.rset (f := .mcBootStatus_emberCode) (.inr (by decide)) ..).rset (f := .almanacStatus_tail) (.inr (by decide)) ..).rset
      (f := .almanacUsed_blocks) (.inr (by decide)) ..).rset (f := .almanacSeq_seq) (.inr (by decide)) ..
  have hc : u.ctl.journal = [] ∧ u.eng = [] ∧ u.boot = (deadState s).boot ∧ u.alm.blocks = s.alm.blocks ∧ u.mem.bytes = (deadState s).mem.bytes := by
    subst hu
    refine ⟨?_, ?_, ?_, ?_, ?_⟩
    · iterate 4 rw [rset_ctl]
      rfl
    · iterate 4 rw [rset_eng]
      rfl
    · iterate 4 rw [rset_boot]
      rfl
    · iterate 4 rw [rset_alm]
    · iterate 4 rw [rset_mem]
      rfl
  obtain ⟨h1, h2, h3, h4, h5⟩ := hc
  obtain ⟨k1, k2, k3, k4, k5⟩ := loadSnap_rest (snapAt s (rget s .almanacSeq_seq 0)) u
  have hB := loadSnap_bare (snapAt s (rget s .almanacSeq_seq 0)) u
  refine ⟨(hB.regs .mcStatus_phase 0 rfl (by decide)).trans ((hT.regs _ 0 rfl (by decide)).trans rfl), by rw [k1, h1], k2.trans h2, k3.trans h3, k4.trans h4,
    k5.trans h5⟩

theorem unpowered_dead {i : Instr} (hi : exec i s = .next (unpowered s)) : leadsTo i s (fun t => phase t = 0 ∧ t.boot.powered = false ∧
    t.ctl.journal = [] ∧ t.eng = [] ∧ t.alm.blocks = s.alm.blocks ∧ t.boot.slotA = s.boot.slotA ∧ t.boot.slotB = s.boot.slotB ∧
    t.boot.counter = s.boot.counter ∧ ∀ k, sget 0 t.mem.bytes k = if 16 * 2 ^ 50 ≤ k ∧ k < 20 * 2 ^ 50 then sget 0 s.mem.bytes k else 0) := by
  obtain ⟨h1, h2, h3, h4, h5, h6⟩ := unpowered_spec s
  refine ⟨_, hi, h1, by rw [h4]; rfl, h2, h3, h5, by rw [h4]; rfl, by rw [h4]; rfl, by rw [h4]; rfl, fun k => ?_⟩
  rw [h6]
  change sget 0 (s.mem.bytes.filter (fun x => decide (16 * 2 ^ 50 / 1 ≤ x.1) && decide (x.1 < 20 * 2 ^ 50 / 1))) k = _
  rw [Nat.div_one, Nat.div_one]
  split
  · next hk => exact sget_filter_keys _ (fun _ => by simp only [hk.1, hk.2, decide_true, Bool.and_true]) _
  · next hk => exact sget_filter_none _ (fun _ => by rw [← Bool.not_eq_true, Bool.and_eq_true, decide_eq_true_eq, decide_eq_true_eq]; exact hk) _

/-! ### The limiter (R366 to R369) -/

theorem addEnergy_spec (uj : Nat) (s : State) : (addEnergy uj s).pow = { s.pow with uj := s.pow.uj + uj } ∧ Told [.pwrEnergy_mj] s (addEnergy uj s) := by
  unfold addEnergy
  exact ⟨by simp, (Told.rfl.withPow _).count (f := .pwrEnergy_mj) (.inr (by decide)) ..⟩

/-- The state after a sample of the meter, before what is counted and reported. -/
def metered (uj proj v w : Nat) (s : State) : State :=
  let s1 := addEnergy uj (rset .pwrInput_voltage 0 (satTo 16 v) (rset .pwrInput_powerW 0 (satTo 16 w) s))
  { s1 with pow := { s1.pow with stretch := limitStep s proj, calm := if limitCalm s proj then (s.pow.calm + 1) % 20 else 0 } }

theorem exec_peakLimiter (uj proj mean v w : Nat) (e : Bool) (s : State) : exec (.peakLimiter uj proj mean v w e) s = .next (
    if e && decide (effPeak s < mean) then
      raise0 0x0F02 4 (pack [(0, 16, satTo 16 mean), (16, 16, effPeak s)]) (rflag .pwrStatus_limitMissed 0
        (if s.pow.stretch = 0 && limitStep s proj != 0 then count1 .pwrLimitCount_count 0 (metered uj proj v w s) else metered uj proj v w s))
    else if s.pow.stretch = 0 && limitStep s proj != 0 then count1 .pwrLimitCount_count 0 (metered uj proj v w s) else metered uj proj v w s) := rfl

theorem metered_spec (uj proj v w : Nat) (s : State) : (metered uj proj v w s).pow.stretch = limitStep s proj ∧
    (metered uj proj v w s).pow.uj = s.pow.uj + uj ∧ rget (metered uj proj v w s) .pwrInput_voltage 0 = satTo 16 v ∧
    rget (metered uj proj v w s) .pwrInput_powerW 0 = satTo 16 w ∧
    Told [.pwrEnergy_mj, .pwrInput_voltage, .pwrInput_powerW] s (metered uj proj v w s) := by
  have hv : satTo 16 v < 2 ^ 16 := satTo_lt ..
  have hw : satTo 16 w < 2 ^ 16 := satTo_lt ..
  unfold metered
  dsimp only
  generalize hu : rset .pwrInput_voltage 0 (satTo 16 v) (rset .pwrInput_powerW 0 (satTo 16 w) s) = u
  have h1 : Told [.pwrEnergy_mj, .pwrInput_voltage, .pwrInput_powerW] s u := by
    subst hu
    exact (Told.rfl.rset (f := .pwrInput_powerW) (.inr (by decide)) ..).rset (f := .pwrInput_voltage) (.inr (by decide)) ..
  have h2 : rget u .pwrInput_voltage 0 = satTo 16 v := by
    subst hu
    exact (rget_rset_same _ _ _ _ (by decide)).trans (Nat.mod_eq_of_lt hv)
  have h3 : rget u .pwrInput_powerW 0 = satTo 16 w := by
    subst hu
    exact (regAt_rset_other _ _ _ _ (by decide)).trans ((rget_rset_same _ _ _ _ (by decide)).trans (Nat.mod_eq_of_lt hw))
  have h4 : u.pow = s.pow := by subst hu; simp
  obtain ⟨hp, hT⟩ := addEnergy_spec uj u
  generalize addEnergy uj u = x at hp hT ⊢
  refine ⟨rfl, by rw [hp, h4], (hT.regs .pwrInput_voltage 0 rfl (by decide)).trans h2, (hT.regs .pwrInput_powerW 0 rfl (by decide)).trans h3, ?_⟩
  exact (h1.trans (hT.mono (by decide))).withPow _

theorem peakLimiter_spec (uj proj mean v w : Nat) (e : Bool) : leadsTo (.peakLimiter uj proj mean v w e) s (fun t =>
    t.pow.stretch = limitStep s proj ∧ t.pow.uj = s.pow.uj + uj ∧ rget t .pwrInput_voltage 0 = satTo 16 v ∧ rget t .pwrInput_powerW 0 = satTo 16 w ∧
    (s.pow.stretch = 0 → limitStep s proj ≠ 0 → rget s .pwrLimitCount_count 0 < 2 ^ 32 - 1 →
      rget t .pwrLimitCount_count 0 = rget s .pwrLimitCount_count 0 + 1) ∧
    (e = true → effPeak s < mean → rget t .pwrStatus_limitMissed 0 = 1 ∧ reported s t 0x0F02 0)) := by
  refine ⟨_, exec_peakLimiter uj proj mean v w e s, ?_⟩
  obtain ⟨h1, h2, h3, h4, h5⟩ := metered_spec uj proj v w s
  generalize metered uj proj v w s = u at h1 h2 h3 h4 h5 ⊢
  have hlc : rget u .pwrLimitCount_count 0 = rget s .pwrLimitCount_count 0 := h5.regs _ 0 rfl (by decide)
  generalize hx : (if s.pow.stretch = 0 && limitStep s proj != 0 then count1 .pwrLimitCount_count 0 u else u) = x
  obtain ⟨hxp, hxt, hxc⟩ : x.pow = u.pow ∧ Told [.pwrLimitCount_count] u x ∧ (s.pow.stretch = 0 → limitStep s proj ≠ 0 →
      rget s .pwrLimitCount_count 0 < 2 ^ 32 - 1 → rget x .pwrLimitCount_count 0 = rget s .pwrLimitCount_count 0 + 1) := by
    subst hx
    split
    · exact ⟨by simp, Told.rfl.count1 (f := .pwrLimitCount_count) (.inr (by decide)) 0, fun _ _ hn =>
        (rget_count1_next rfl (by decide) rfl (by rw [hlc]; exact hn)).trans (by rw [hlc])⟩
    · next h => exact ⟨rfl, .rfl, fun ha hb => absurd (by simp [ha, hb]) h⟩
  clear hx
  have hxv := (hxt.regs .pwrInput_voltage 0 rfl (by decide)).trans h3
  have hxw := (hxt.regs .pwrInput_powerW 0 rfl (by decide)).trans h4
  split
  · next he =>
    generalize hy : rflag .pwrStatus_limitMissed 0 x = y
    have hyt : Told [.pwrStatus_limitMissed] x y := by subst hy; exact Told.rfl.rflag (by decide) 0
    have hyp : y.pow = x.pow := by subst hy; simp
    have hym : rget y .pwrStatus_limitMissed 0 = 1 := by subst hy; exact rget_rset_same _ _ _ _ (by decide)
    have hzt : Told [] y (raise0 0x0F02 4 (pack [(0, 16, satTo 16 mean), (16, 16, effPeak s)]) y) := Told.rfl.raise0 ..
    have hzp : (raise0 0x0F02 4 (pack [(0, 16, satTo 16 mean), (16, 16, effPeak s)]) y).pow = y.pow := raise0_pow ..
    have hzr : reported y (raise0 0x0F02 4 (pack [(0, 16, satTo 16 mean), (16, 16, effPeak s)]) y) 0x0F02 0 := raiseC_reported 0x0F02 4 0 _ y
    generalize raise0 0x0F02 4 (pack [(0, 16, satTo 16 mean), (16, 16, effPeak s)]) y = z at hzt hzp hzr ⊢
    have hz : Told [.pwrStatus_limitMissed] x z := hyt.trans (hzt.mono (by decide))
    refine ⟨?_, ?_, (hz.regs _ 0 rfl (by decide)).trans hxv, (hz.regs _ 0 rfl (by decide)).trans hxw, fun ha hb hn =>
      (hz.regs _ 0 rfl (by decide)).trans (hxc ha hb hn), fun _ _ => ⟨(hzt.regs _ 0 rfl (by decide)).trans hym,
      hzr.prior (h5.events.trans (hxt.events.trans hyt.events))⟩⟩
    · rw [hzp, hyp, hxp, h1]
    · rw [hzp, hyp, hxp, h2]
  · next he =>
    refine ⟨by rw [hxp, h1], by rw [hxp, h2], hxv, hxw, hxc, fun h1 h2 => absurd ?_ he⟩
    simp [h1, h2]

/-! ### Commands of the budget (R368, R370, R384, R388) -/

theorem powerPeakSet_spec (h : CmdRef) (w : BitVec 32) (hm : mayRun 0x60 h s = true) (hc : h.ctx = 0) :
    (4000 ≤ w.toNat → w.toNat ≤ 8000 → leadsTo (.powerPeakSet h w) s (fun t => replied h 0x0000 0 t = true ∧ rget t .pwrPeakLimit_peakW 0 = w.toNat ∧
      Budgeted t ∧ { t with ctl := s.ctl, regs := s.regs } = s)) ∧
    (w.toNat < 4000 ∨ 8000 < w.toNat → leadsTo (.powerPeakSet h w) s (fun t => replied h 0x0016 0 t = true ∧ onlyJournal s t)) := by
  refine ⟨fun hl hu => leadsTo_runPriv rfl hm hc fun l hl' => ?_, fun hw => leadsTo_answered_priv rfl hm hc fun l => if_pos (by simpa using hw)⟩
  rw [if_neg (by simp; omega)]
  have hone : ∃ r, rset .pwrPeakLimit_peakW 0 w.toNat (setJournal l s) = { setJournal l s with regs := r } := ⟨_, rset_regsOnly ..⟩
  obtain ⟨r, hr⟩ : ∃ r, setBudget (rset .pwrPeakLimit_peakW 0 w.toNat (setJournal l s)) = { setJournal l s with regs := r } := rset_withRegs hone ..
  have hp : rget (setBudget (rset .pwrPeakLimit_peakW 0 w.toNat (setJournal l s))) .pwrPeakLimit_peakW 0 = w.toNat :=
    (rget_setBudget (by decide) ..).trans ((rget_rset_same _ _ _ _ (by decide)).trans (Nat.mod_eq_of_lt (show w.toNat < 2 ^ 16 by omega)))
  have hb := setBudget_budgeted (rset .pwrPeakLimit_peakW 0 w.toNat (setJournal l s))
  generalize setBudget (rset .pwrPeakLimit_peakW 0 w.toNat (setJournal l s)) = t at hr hp hb ⊢
  subst hr
  exact ⟨finishOk_replied_of hm hl' rfl, hp, hb, rfl⟩

theorem notServed_dropLatch (n fn : Nat) (s : State) : notServed (dropLatch n s) fn = notServed s fn := rfl

theorem pwrTray_spec (v : BitVec 32) (hn : notServed s 0 = false) : let g := bits v.toNat 0 16; let p := bits v.toNat 16 16
    leadsTo (.pwrTray 0 v) s (fun t => { t with regs := s.regs } = dropLatch 0 s ∧ Budgeted t ∧
      rget t .pwrTray_grantW 0 = (if 4000 ≤ g ∧ g ≤ 7200 then g else rget s .pwrTray_grantW 0) ∧
      rget t .pwrTray_trayPeakW 0 = (if 4000 ≤ p ∧ p ≤ 8000 then p else rget s .pwrTray_trayPeakW 0)) := by
  have he : exec (.pwrTray 0 v) s = .next (if notServed (dropLatch 0 s) 0 then dropLatch 0 s else writeTray v.toNat (dropLatch 0 s)) := rfl
  refine ⟨_, he.trans (congrArg _ (if_neg (by rw [notServed_dropLatch, hn]; decide))), ?_⟩
  exact writeTray_spec v.toNat (dropLatch 0 s)

/-- What PWR_CTL sets at once. -/
def pwrCtlSet (v : Nat) (s : State) : State :=
  rset .pwrCtl_equinoxOff 0 (bits v 16 1) (if bits v 0 16 = 0 then s else rset .pwrCtl_idleMs 0 (bits v 0 16) s)

/-- The same with the share that it drops. -/
def pwrCtlShare (v : Nat) (s : State) : State := if v.testBit 16 then dropShare (pwrCtlSet v s) else pwrCtlSet v s

theorem exec_pwrCtl (fn : Nat) (v : BitVec 32) (s : State) : exec (.pwrCtl fn v) s = .next (if notServed (dropLatch fn s) fn then dropLatch fn s
    else if v.toNat.testBit 18 then wakeUp 5 (pwrCtlShare v.toNat (dropLatch fn s)) else pwrCtlShare v.toNat (dropLatch fn s)) := rfl

theorem exec_pwrTray (fn : Nat) (v : BitVec 32) (s : State) : exec (.pwrTray fn v) s = .next (if notServed (dropLatch fn s) fn then dropLatch fn s
    else writeTray v.toNat (dropLatch fn s)) := rfl

theorem pwr_dropped {fn : Nat} (v : BitVec 32) (hn : notServed s fn = true) : ∀ i ∈ [Instr.pwrTray fn v, .pwrCtl fn v],
    leadsTo i s (fun t => t = dropLatch fn s) := by
  intro i hi
  have hn' : notServed (dropLatch fn s) fn = true := hn
  simp only [List.mem_cons, List.not_mem_nil, or_false] at hi
  rcases hi with rfl | rfl
  · exact ⟨_, (exec_pwrTray fn v s).trans (congrArg _ (if_pos hn')), rfl⟩
  · exact ⟨_, (exec_pwrCtl fn v s).trans (congrArg _ (if_pos hn')), rfl⟩

theorem wakeUp_told (c : Nat) (s : State) : Told [.pwrState_state, .pwrState_target, .pwrFallowCount_count] s (wakeUp c s) ∧
    (wakeUp c s).pow = s.pow := by
  unfold wakeUp
  split
  · have h := (setPwrState_spec (n := 4) (by decide) c s).1
    exact ⟨(h.mono (by decide)).count1 (f := .pwrFallowCount_count) (.inr (by decide)) 0, by simp⟩
  · split
    · have h := (setPwrState_spec (n := 1) (by decide) c s).1
      exact ⟨((h.mono (by decide)).rset (f := .pwrState_target) (.inr (by decide)) ..).setJournal _, by simp⟩
    · exact ⟨.rfl, rfl⟩

theorem pwrCtlSet_spec (v : Nat) (s : State) : rget (pwrCtlSet v s) .pwrCtl_equinoxOff 0 = bits v 16 1 ∧
    rget (pwrCtlSet v s) .pwrCtl_idleMs 0 = (if bits v 0 16 = 0 then rget s .pwrCtl_idleMs 0 else bits v 0 16) ∧
    Told [.pwrCtl_equinoxOff, .pwrCtl_idleMs] s (pwrCtlSet v s) := by
  have h1 : bits v 16 1 < 2 ^ 1 := Nat.mod_lt _ (by decide)
  have h2 : bits v 0 16 < 2 ^ 16 := Nat.mod_lt _ (by decide)
  unfold pwrCtlSet
  refine ⟨(rget_rset_same _ _ _ _ (by decide)).trans (Nat.mod_eq_of_lt h1), (regAt_rset_other _ _ _ _ (by decide)).trans ?_, ?_⟩
  · split
    · rfl
    · exact (rget_rset_same _ _ _ _ (by decide)).trans (Nat.mod_eq_of_lt h2)
  · refine Told.rset (f := .pwrCtl_equinoxOff) ?_ (.inr (by decide)) ..
    split
    · exact .rfl
    · exact Told.rfl.rset (f := .pwrCtl_idleMs) (.inr (by decide)) ..

theorem dropShare_spec (s : State) : rget (dropShare s) .pwrBudget_shareW 0 = 0 ∧ (dropShare s).pow.share = 0 ∧
    Told [.pwrBudget_shareW, .pwrBudget_budgetW] s (dropShare s) := by
  unfold dropShare
  refine ⟨(rget_setBudget (by decide) ..).trans (rget_rset_same _ _ _ _ (by decide)), by rw [setBudget_pow, rset_pow], ?_⟩
  exact (((Told.rfl.withPow _).rset (f := .pwrBudget_shareW) (.inr (by decide)) ..)).trans ((setBudget_told _).mono (by decide))

theorem pwrCtl_spec (v : BitVec 32) (hn : notServed s 0 = false) : leadsTo (.pwrCtl 0 v) s (fun t =>
    rget t .pwrCtl_equinoxOff 0 = bits v.toNat 16 1 ∧
    rget t .pwrCtl_idleMs 0 = (if bits v.toNat 0 16 = 0 then rget s .pwrCtl_idleMs 0 else bits v.toNat 0 16) ∧
    (v.getLsbD 16 = true → rget t .pwrBudget_shareW 0 = 0 ∧ t.pow.share = 0) ∧
    (v.getLsbD 18 = true → rget s .pwrState_state 0 = 2 → rget t .pwrState_state 0 = 4) ∧
    (v.getLsbD 18 = false → rget t .pwrState_state 0 = rget s .pwrState_state 0)) := by
  have hn' : ¬ notServed (dropLatch 0 s) 0 = true := by rw [notServed_dropLatch, hn]; decide
  refine ⟨_, (exec_pwrCtl 0 v s).trans (congrArg _ (if_neg hn')), ?_⟩
  obtain ⟨h1, h2, h3⟩ := pwrCtlSet_spec v.toNat (dropLatch 0 s)
  have hst : rget (pwrCtlSet v.toNat (dropLatch 0 s)) .pwrState_state 0 = rget s .pwrState_state 0 := h3.regs _ 0 rfl (by decide)
  obtain ⟨hx1, hx2, hx3, hx4⟩ : rget (pwrCtlShare v.toNat (dropLatch 0 s)) .pwrCtl_equinoxOff 0 = bits v.toNat 16 1 ∧
      rget (pwrCtlShare v.toNat (dropLatch 0 s)) .pwrCtl_idleMs 0 = (if bits v.toNat 0 16 = 0 then rget s .pwrCtl_idleMs 0 else bits v.toNat 0 16) ∧
      (v.getLsbD 16 = true → rget (pwrCtlShare v.toNat (dropLatch 0 s)) .pwrBudget_shareW 0 = 0 ∧ (pwrCtlShare v.toNat (dropLatch 0 s)).pow.share = 0) ∧
      rget (pwrCtlShare v.toNat (dropLatch 0 s)) .pwrState_state 0 = rget s .pwrState_state 0 := by
    unfold pwrCtlShare
    obtain ⟨k1, k2, k3⟩ := dropShare_spec (pwrCtlSet v.toNat (dropLatch 0 s))
    split
    · exact ⟨(k3.regs _ 0 rfl (by decide)).trans h1, (k3.regs _ 0 rfl (by decide)).trans h2, fun _ => ⟨k1, k2⟩, (k3.regs _ 0 rfl (by decide)).trans hst⟩
    · next h => exact ⟨h1, h2, fun h16 => absurd h16 h, hst⟩
  generalize pwrCtlShare v.toNat (dropLatch 0 s) = x at hx1 hx2 hx3 hx4 ⊢
  split
  · next h =>
    obtain ⟨hw, hwp⟩ := wakeUp_told 5 x
    refine ⟨(hw.regs _ 0 rfl (by decide)).trans hx1, (hw.regs _ 0 rfl (by decide)).trans hx2, fun h16 => ?_, fun _ h2 => ?_, fun h18 => ?_⟩
    · exact ⟨(hw.regs _ 0 rfl (by decide)).trans (hx3 h16).1, by rw [hwp]; exact (hx3 h16).2⟩
    · exact wakeUp_fallow 5 (hx4.trans h2)
    · exact absurd h (by rw [BitVec.getLsbD] at h18; rw [h18]; decide)
  · next h => exact ⟨hx1, hx2, hx3, fun h18 => absurd h18 h, fun _ => hx4⟩

/-! ### Caps, the share and energy (R370, R372, R373, R385, R386) -/

/-- The demand of a die depends on its stages, its islands' plans and the classes' energies. -/
theorem demandOf_congr {s t : State} (hr : ∀ i, rget t .pwrClassEnergy_e i = rget s .pwrClassEnergy_e i) (hp : t.pow.stages = s.pow.stages)
    (he : t.eng = s.eng) (hs : t.sp = s.sp) (d : Nat) : demandOf t d = demandOf s d := by
  have hd : dieStages t d = dieStages s d := by rw [dieStages, hp]; rfl
  have hi : ∀ g, stageIsls t d g = stageIsls s d g := fun g => by rw [stageIsls, he]; rfl
  have hc : ∀ i, ceiling t i = ceiling s i := ceiling_congr hs
  have hv : ∀ l f, sumV2 t l f = sumV2 s l f := fun l f => by
    have : ∀ i, islVolt t i f = islVolt s i f := fun i => by rw [islVolt, islVolt, voltAt, voltAt, planOf, planOf, hs]
    simp only [sumV2, this]
  have hw : ∀ g f, stagePower t d g f = stagePower s d g f := fun g f => by rw [stagePower, stagePower, classE, classE, hr, hi, hv]
  simp only [demandOf, hd, hi, hc, hw]

/-- What the points of clocks leave of the power's state. -/
def Pow.budgetPart (p : Pow) : SMap Nat × Int × Bool × Bool := (p.base, p.share, p.warn, p.throttle)

theorem aim_budgetPart (i : Nat) (s : State) : (aim i s).pow.budgetPart = s.pow.budgetPart := by
  obtain h | ⟨x, h, -⟩ := aim_cases i s <;> rw [h]
  rfl

theorem evalDie_budgetPart (d : Nat) (s : State) : (evalDie d s).pow.budgetPart = s.pow.budgetPart := by
  unfold evalDie
  refine List.foldlRecOn _ _ (motive := fun t : State => t.pow.budgetPart = s.pow.budgetPart) rfl fun t h x _ => ?_
  unfold presetStage
  split
  · exact h
  · exact List.foldlRecOn _ _ (motive := fun t : State => t.pow.budgetPart = s.pow.budgetPart) h fun u hu i _ => (aim_budgetPart i u).trans hu

/-- The cap and the draw of a die, written. -/
def capStep (cap draw : Nat → Nat) (s : State) (d : Nat) : State :=
  let s2 := rset .pwrDieCap_capW d (satTo 16 (cap d)) (rset .pwrDieCap_drawW d (satTo 16 (draw d)) s)
  if decide (rget s .pwrDieCap_capW d ≠ satTo 16 (cap d)) then evalDie d s2 else s2

/-- What the caps of the dies in `l` change. -/
structure Capped (cap draw : Nat → Nat) (l : List Nat) (s t : State) : Prop where
  told : Told [.pwrDieCap_capW, .pwrDieCap_drawW] s t
  mem : t.mem = s.mem
  pow : t.pow.budgetPart = s.pow.budgetPart
  set : ∀ d ∈ l, rget t .pwrDieCap_capW d = satTo 16 (cap d) ∧ rget t .pwrDieCap_drawW d = satTo 16 (draw d)
  rest : ∀ d, d ∉ l → rget t .pwrDieCap_capW d = rget s .pwrDieCap_capW d ∧ rget t .pwrDieCap_drawW d = rget s .pwrDieCap_drawW d

theorem capStep_capped (cap draw : Nat → Nat) {d : Nat} (hd : d < 8) (s : State) : Capped cap draw [d] s (capStep cap draw s d) := by
  have hsat : ∀ n, satTo 16 n % 2 ^ 16 = satTo 16 n := fun n => Nat.mod_eq_of_lt (satTo_lt ..)
  unfold capStep
  dsimp only
  generalize hu : rset .pwrDieCap_capW d (satTo 16 (cap d)) (rset .pwrDieCap_drawW d (satTo 16 (draw d)) s) = u
  have hU : Capped cap draw [d] s u := by
    subst hu
    refine ⟨(Told.rfl.rset (f := .pwrDieCap_drawW) (.inr (by decide)) ..).rset (f := .pwrDieCap_capW) (.inr (by decide)) .., by simp, by simp, fun e he => ?_,
      fun e he => ?_⟩
    · rw [List.mem_singleton] at he
      subst he
      exact ⟨(rget_rset_same _ _ _ _ hd).trans (hsat _), (regAt_rset_other _ _ _ _ (by decide)).trans ((rget_rset_same _ _ _ _ hd).trans (hsat _))⟩
    · rw [List.mem_singleton] at he
      exact ⟨(regAt_rset_elsewhere _ _ he).trans (regAt_rset_other _ _ _ _ (by decide)), (regAt_rset_other _ _ _ _ (by decide)).trans
        (regAt_rset_elsewhere _ _ he)⟩
  split
  · have hA := evalDie_aimed d u
    have hr : ∀ f i, rget (evalDie d u) f i = rget u f i := fun f i => by rw [hA.eq]; rfl
    exact ⟨hU.told.trans hA.told, (by rw [hA.eq] : (evalDie d u).mem = u.mem).trans hU.mem, (evalDie_budgetPart d u).trans hU.pow, fun e he => by
      rw [hr, hr]; exact hU.set e he, fun e he => by rw [hr, hr]; exact hU.rest e he⟩
  · exact hU

theorem capFold_capped (cap draw : Nat → Nat) (l : List Nat) (hl : ∀ d ∈ l, d < 8) (hn : l.Nodup) (s : State) :
    Capped cap draw l s (l.foldl (capStep cap draw) s) := by
  induction l generalizing s with
  | nil => exact ⟨.rfl, rfl, rfl, fun d hd => absurd hd List.not_mem_nil, fun d _ => ⟨rfl, rfl⟩⟩
  | cons d l ih =>
    have h1 := capStep_capped cap draw (hl d List.mem_cons_self) s
    have h2 := ih (fun e he => hl e (List.mem_cons_of_mem _ he)) (List.nodup_cons.1 hn).2 (capStep cap draw s d)
    refine ⟨h1.told.trans h2.told, h2.mem.trans h1.mem, h2.pow.trans h1.pow, fun e he => ?_, fun e he => ?_⟩
    · rcases List.mem_cons.1 he with rfl | he
      · have h := h2.rest e (List.nodup_cons.1 hn).1
        have k := h1.set e (List.mem_singleton.2 rfl)
        exact ⟨h.1.trans k.1, h.2.trans k.2⟩
      · exact h2.set e he
    · rw [List.mem_cons, not_or] at he
      have h := h2.rest e he.2
      have k := h1.rest e (by rw [List.mem_singleton]; exact he.1)
      exact ⟨h.1.trans k.1, h.2.trans k.2⟩

theorem sget_foldl_sset (f : Nat → Nat) (l : List Nat) (m : SMap Nat) (k : Nat) :
    sget 0 (l.foldl (fun m d => sset 0 m d (f d)) m) k = if k ∈ l then f k else sget 0 m k := by
  induction l generalizing m with
  | nil => simp
  | cons d l ih =>
    rw [List.foldl_cons, ih]
    by_cases hk : k ∈ l
    · rw [if_pos hk, if_pos (List.mem_cons_of_mem _ hk)]
    · by_cases hd : k = d
      · subst hd
        rw [if_neg hk, sget_sset_same, if_pos List.mem_cons_self]
      · rw [if_neg hk, sget_sset_other _ _ _ _ hd, if_neg (by simp [hk, hd])]

/-- The readings of the rails as eight values. -/
def rails (base : List Nat) : List Nat := (List.range 8).map (fun d => base.getD d 0)

/-- The state before the caps are written: the rails and the budget are in force. -/
def capBase (base : List Nat) (s : State) : State :=
  setBudget { s with pow := { s.pow with base := (List.range 8).foldl (fun m d => sset 0 m d ((rails base).getD d 0)) s.pow.base } }

theorem exec_dieCapUpdate (other : Int) (base draw : List Nat) (s : State) : exec (.dieCapUpdate other base draw) s = .next (
    (List.range 8).foldl (capStep (fun d => ((List.range 8).map (capOf (capBase base s) (budgetOf (capBase base s) - other) (rails base))).getD d 0)
      (fun d => draw.getD d 0)) (capBase base s)) := rfl

theorem capBase_spec (base : List Nat) (s : State) : Told [.pwrBudget_budgetW] s (capBase base s) ∧ Budgeted (capBase base s) ∧
    (capBase base s).mem = s.mem ∧ budgetOf (capBase base s) = budgetOf s ∧ (∀ d, d < 8 → sget 0 (capBase base s).pow.base d = base.getD d 0) ∧
    ∀ c b d, capOf (capBase base s) c b d = capOf s c b d := by
  unfold capBase
  generalize hu : ({ s with pow := { s.pow with base := (List.range 8).foldl (fun m d => sset 0 m d ((rails base).getD d 0)) s.pow.base } } : State) = u
  have hT : Told [.pwrBudget_budgetW] s u := by subst hu; exact Told.rfl.withPow _
  have hd : ∀ d, demandOf (setBudget u) d = demandOf s d := fun d =>
    demandOf_congr (fun i => (rget_setBudget (by decide) i u).trans (by subst hu; rfl)) (by rw [setBudget_pow]; subst hu; rfl)
      ((rset_eng ..).trans (by subst hu; rfl)) ((rset_sp ..).trans (by subst hu; rfl)) d
  refine ⟨hT.trans (setBudget_told u), setBudget_budgeted u, (rset_mem ..).trans (by subst hu; rfl), (budgetOf_setBudget u).trans (by subst hu; rfl), fun d hd => ?_,
    fun c b d => ?_⟩
  · rw [setBudget_pow, ← hu]
    change sget 0 ((List.range 8).foldl (fun m d => sset 0 m d ((rails base).getD d 0)) s.pow.base) d = _
    rw [sget_foldl_sset, if_pos (List.mem_range.2 hd), rails]
    simp [List.getD_eq_getElem?_getD, hd]
  · rw [capOf, capOf]
    have : (List.range 8).map (demandOf (setBudget u)) = (List.range 8).map (demandOf s) := List.map_congr_left fun d _ => hd d
    rw [this]

theorem dieCapUpdate_spec (other : Int) (base draw : List Nat) : leadsTo (.dieCapUpdate other base draw) s (fun t => t.mem = s.mem ∧ Budgeted t ∧
    ∀ d, d < 8 → sget 0 t.pow.base d = base.getD d 0 ∧ rget t .pwrDieCap_drawW d = satTo 16 (draw.getD d 0) ∧
      rget t .pwrDieCap_capW d = satTo 16 (capOf s (budgetOf s - other) ((List.range 8).map (fun d => base.getD d 0)) d)) := by
  refine ⟨_, exec_dieCapUpdate other base draw s, ?_⟩
  obtain ⟨hT, hB, hM, hb, hp, hc⟩ := capBase_spec base s
  generalize capBase base s = u at hT hB hM hb hp hc ⊢
  have hF := capFold_capped (fun d => ((List.range 8).map (capOf u (budgetOf u - other) (rails base))).getD d 0) (fun d => draw.getD d 0) (List.range 8)
    (fun d hd => List.mem_range.1 hd) List.nodup_range u
  generalize (List.range 8).foldl _ u = t at hF ⊢
  have hpow := hF.pow
  simp only [Pow.budgetPart, Prod.mk.injEq] at hpow
  obtain ⟨hbase, hsh, hwarn, hthr⟩ := hpow
  have hbt : budgetOf t = budgetOf u := budgetOf_congr (fun f hf _ => hF.told.regs f 0 (by revert f; decide) (by revert f; decide)) (by rw [hsh, hwarn, hthr])
  refine ⟨hF.mem.trans hM, (hF.told.regs .pwrBudget_budgetW 0 (by decide) (by decide)).trans (hB.trans (by rw [hbt])), fun d hd => ?_⟩
  obtain ⟨h1, h2⟩ := hF.set d (List.mem_range.2 hd)
  refine ⟨by rw [hbase]; exact hp d hd, h2, h1.trans ?_⟩
  rw [← hc, ← hb]
  simp [List.getD_eq_getElem?_getD, hd, rails]

theorem exec_equinoxShare (w : Int) (s : State) : exec (.equinoxShare w) s = .next (
    if s.fab.out || rget s .pwrCtl_equinoxOff 0 = 1 || rget s .cohortSelf_role 0 = 2 then s
    else rset .pwrBudget_shareW 0 (w % 65536).toNat { s with pow := { s.pow with shareAge := 0 } }) := rfl

theorem equinoxShare_spec (w : Int) :
    (s.fab.out = false → rget s .pwrCtl_equinoxOff 0 ≠ 1 → rget s .cohortSelf_role 0 ≠ 2 → leadsTo (.equinoxShare w) s (fun t =>
      rget t .pwrBudget_shareW 0 = (w % 65536).toNat ∧ t.pow = { s.pow with shareAge := 0 } ∧ { t with regs := s.regs, pow := s.pow } = s)) ∧
    (s.fab.out = true ∨ rget s .pwrCtl_equinoxOff 0 = 1 ∨ rget s .cohortSelf_role 0 = 2 → noEffect (.equinoxShare w) s) := by
  refine ⟨fun h1 h2 h3 => ⟨_, (exec_equinoxShare w s).trans (congrArg _ (if_neg (by simp [h1, h2, h3]))), ?_⟩, fun h =>
    (exec_equinoxShare w s).trans (congrArg _ (if_pos (by simpa [or_assoc] using h)))⟩
  have hw : (w % 65536).toNat < 2 ^ 16 := by omega
  refine ⟨(rget_rset_same _ _ _ _ (by decide)).trans (Nat.mod_eq_of_lt hw), rset_pow .., ?_⟩
  rw [rset_regsOnly]

/-- A stage that got the energy of its die. -/
def grown (s : State) (d uj : Nat) (cy : List (Nat × Nat)) (g : Stage) : Stage :=
  let v2 := Nat.max 1 (sumV2 s (stageIsls s d g) g.preset / Nat.max 1 (stageIsls s d g).length)
  { g with energy := g.energy + uj * 640000 * 640000 / v2, cycles := g.cycles + cyclesOf cy g }

theorem charge_stages (c n : Nat) (s : State) : (charge c n s).regs = s.regs ∧ (charge c n s).pow.stages = s.pow.stages := by
  unfold charge
  split <;> exact ⟨rfl, rfl⟩

/-- The energy of a share given to a stage. -/
def splitOne (die energy total : Nat) (cycles : List (Nat × Nat)) (s : State) (x : Nat × Stage) : State :=
  let g := x.2
  let w := splitWeight s die cycles g
  let isls := stageIsls s die g
  let v2 := Nat.max 1 (sumV2 s isls g.preset / Nat.max 1 isls.length)
  let share := if total = 0 then 0 else energy * w / total
  let g1 : Stage := { g with energy := g.energy + share * 640000 * 640000 / v2, cycles := g.cycles + cyclesOf cycles g }
  let s1 := { s with pow := { s.pow with stages := sput s.pow.stages x.1 g1 } }
  charge ((sget? s.gr.runs g.run).elim 0xFFFF (·.ctx)) w s1

theorem exec_energySplit (d uj : Nat) (cy : List (Nat × Nat)) (s : State) : exec (.energySplit d uj cy) s = .next (
    (dieStages s d).foldl (splitOne d uj ((dieStages s d).map (fun x => splitWeight s d cy x.2)).sum cy) s) := rfl

theorem energySplit_spec (d uj : Nat) (cy : List (Nat × Nat)) : (dieStages s d = [] → noEffect (.energySplit d uj cy) s) ∧
    (∀ key g, dieStages s d = [(key, g)] → splitWeight s d cy g ≠ 0 →
      let v2 := Max.max 1 (sumV2 s (stageIsls s d g) g.preset / Max.max 1 (stageIsls s d g).length)
      leadsTo (.energySplit d uj cy) s (fun t => t.regs = s.regs ∧
        sget? t.pow.stages key = some { g with energy := g.energy + uj * 640000 * 640000 / v2, cycles := g.cycles + cyclesOf cy g })) := by
  refine ⟨fun h => ?_, fun key g h hw => ?_⟩
  · rw [noEffect, exec_energySplit, h]
    rfl
  · refine ⟨_, exec_energySplit d uj cy s, ?_⟩
    rw [h]
    simp only [List.map_cons, List.map_nil, List.sum_cons, List.sum_nil, Nat.add_zero, List.foldl_cons, List.foldl_nil, splitOne, if_neg hw]
    rw [Nat.mul_div_cancel _ (Nat.pos_of_ne_zero hw)]
    obtain ⟨hr, hst⟩ := charge_stages ((sget? s.gr.runs g.run).elim 0xFFFF (·.ctx)) (splitWeight s d cy g)
      { s with pow := { s.pow with stages := sput s.pow.stages key (grown s d uj cy g) } }
    exact ⟨hr, (congrArg (sget? · key) hst).trans (sget?_sput_same ..)⟩

theorem energyMode_spec (h : CmdRef) (m : BitVec 8) (hm : mayRun 0x62 h s = true) (hc : h.ctx = 0) :
    (m.toNat ≤ 1 → leadsTo (.energyMode h m) s (fun t => replied h 0x0000 0 t = true ∧ rget t .pwrCtl_energyMode 0 = m.toNat ∧
      t.pow = { s.pow with charge := [], gone := 0, ujBase := s.pow.uj } ∧ t.mem = s.mem)) ∧
    (1 < m.toNat → leadsTo (.energyMode h m) s (fun t => replied h 0x0016 0 t = true ∧ onlyJournal s t)) := by
  refine ⟨fun h1 => leadsTo_runPriv rfl hm hc fun l hl => ?_, fun h1 => leadsTo_answered_priv rfl hm hc fun l => if_pos h1⟩
  rw [if_neg (by omega)]
  exact ⟨finishOk_replied_of hm hl (by rw [rset_ctl]; rfl), (rget_rset_same _ _ _ _ (by decide)).trans (Nat.mod_eq_of_lt (show m.toNat < 2 ^ 1 by omega)),
    rset_pow .., rset_mem ..⟩

theorem energyRead_spec (h : CmdRef) (dest : Word64) (c : BitVec 8) (hm : mayRun 0x63 h s = true) :
    (h.ctx ≠ 0 → c.toNat ≠ h.ctx → leadsTo (.energyRead h dest c) s (fun t => replied h 0x0016 1 t = true ∧ onlyJournal s t)) ∧
    (h.ctx = 0 ∨ c.toNat = h.ctx →
      (ctx? s c.toNat = none → leadsTo (.energyRead h dest c) s (fun t => replied h 0x0016 2 t = true ∧ onlyJournal s t)) ∧
      (∀ k, (ctx? s c.toNat).isSome = true → plainAt s h.ctx true dest.toNat 64 k → leadsTo (.energyRead h dest c) s (fun t =>
        replied h 0x0000 0 t = true ∧ storedAt s t k (energyBytes s c.toNat)))) := by
  have hctx : ∀ l, ctx? (setJournal l s) c.toNat = ctx? s c.toNat := fun _ => rfl
  refine ⟨fun h0 h1 => leadsTo_answered rfl hm fun l => if_pos (by simp [h0, h1]), fun ho => ?_⟩
  have hok : ¬ (decide (h.ctx ≠ 0) && decide (c.toNat ≠ h.ctx)) = true := by
    rw [Bool.and_eq_true, decide_eq_true_eq, decide_eq_true_eq]
    exact fun hn => ho.elim hn.1 hn.2
  refine ⟨fun hx => leadsTo_answered rfl hm fun l => (if_neg hok).trans (if_pos (by rw [hctx, hx]; rfl)), fun k hx hp => ?_⟩
  refine leadsTo_runCmd rfl hm fun l hl => ?_
  have hb : energyBytes (setJournal l s) c.toNat = energyBytes s c.toNat := rfl
  have hlen : (energyBytes s c.toNat).length = 64 := by simp [energyBytes]
  replace hp : plainAt s h.ctx true dest.toNat (energyBytes s c.toNat).length k := by rwa [hlen]
  dsimp only
  rw [if_neg hok, if_neg (by rw [hctx, Option.isNone_iff_eq_none]; exact Option.ne_none_iff_isSome.2 hx), hb]
  generalize energyBytes s c.toNat = b at hp ⊢
  exact ⟨finishOk_replied_of hm hl (ctxWrite_ctl_journal ..), storedAt_finishOk h (storedAt_ctxWrite (plainAt_setJournal l hp) rfl)⟩

end

/-- Settles O52: each event of the input, sample, command and reading, with what it counts, reports and sets of the budget. -/
theorem supplyAndBudget : Obligations.SupplyAndBudget := by
  intro s
  refine ⟨fun up v => highInput_spec up v, fun v => ⟨fun ha hw => supplyWarning_spec v ha hw, fun h => ?_, fun hw => supplyWarningRelease_spec v hw,
    fun hw => ?_, fun low hp hl => throttleN_spec low v hp hl, fun low h => noEffect_throttleN low v h, fun h => noEffect_supplyReset v h,
    fun hu hp hs hr => supplyReset_module v hu hp hs hr, fun hu hp => supplyReset_ember v hu hp⟩, ⟨_, rfl, rfl⟩, fun i hi => unpowered_dead ?_,
    fun uj proj mean v w e => peakLimiter_spec uj proj mean v w e, fun h w hm hc => powerPeakSet_spec h w hm hc,
    fun v => ⟨fun hn => pwrTray_spec v hn, fun fn hn => pwr_dropped v hn, fun hn => pwrCtl_spec v hn⟩,
    fun other base draw => dieCapUpdate_spec other base draw, fun w => equinoxShare_spec w, fun d uj cy => energySplit_spec d uj cy,
    fun h m hm hc => energyMode_spec h m hm hc, fun h dest c hm => energyRead_spec h dest c hm⟩
  · exact (exec_supplyWarning v s).trans (congrArg _ (if_pos (by simpa using h)))
  · exact (exec_supplyWarningRelease v s).trans (congrArg _ (if_pos (by simpa using hw)))
  · simp only [List.mem_cons, List.not_mem_nil, or_false] at hi
    rcases hi with rfl | rfl
    · rfl
    · rfl

end Sys2Proof.Machine
end

section
/-! PROOFS. Hangs and resets (O55). -/

namespace Sys2Proof.Machine

section
variable {s : State}

theorem exec_vigilHang (kind unit die c run : Nat) (tasks cls : List Nat) (s : State) :
    exec (.vigilHang kind unit die c run tasks cls) s = execVigilHang kind unit die c run tasks cls s := rfl

theorem exec_resetEscalated (level unit : Nat) (s : State) : exec (.resetEscalated level unit) s = execResetEscalated level unit s := rfl

theorem exec_resetDone (level unit us : Nat) (s : State) : exec (.resetDone level unit us) s = execResetDone level unit us s := rfl

theorem noEffect_reset {level unit : Nat} (h : s.pow.under = true ∨ resetAt s level unit = none) :
    noEffect (.resetEscalated level unit) s ∧ ∀ us, noEffect (.resetDone level unit us) s := by
  have hn : (if s.pow.under then none else resetAt s level unit) = none := by
    split
    · rfl
    · next hu => exact h.resolve_left hu
  refine ⟨?_, fun us => ?_⟩
  · rw [noEffect, exec_resetEscalated, execResetEscalated, hn]
  · rw [noEffect, exec_resetDone, execResetDone, hn]

/-- What is logged and reported of a hang. -/
def hangLogged (kind c det : Nat) (s : State) : State :=
  let s1 := trouble .troubleLog_vigilHang 1 (count1 .vigilHangCount_count 0 (rflag .vigilStatus_hangSeen 0 s))
  if kind < 6 then raiseBoth 0x1001 0xD c det s1 else raise0 0x1001 0xD det s1

theorem hangLogged_spec (kind c det : Nat) (s : State) : rget (hangLogged kind c det s) .vigilStatus_hangSeen 0 = 1 ∧
    rget (hangLogged kind c det s) .troubleLog_vigilHang 0 = 1 ∧ reported s (hangLogged kind c det s) 0x1001 (if kind < 6 then c else 0) ∧
    (hangLogged kind c det s).vig = s.vig := by
  unfold hangLogged
  dsimp only
  generalize hu : count1 .vigilHangCount_count 0 (rflag .vigilStatus_hangSeen 0 s) = u
  have hus : rget u .vigilStatus_hangSeen 0 = 1 := by
    subst hu
    exact (regAt_count1_other _ _ _ rfl (by decide)).trans (rget_rset_same _ _ _ _ (by decide))
  have hue : s.io.events <:+ u.io.events := by
    subst hu
    exact ((Told.rfl (F := [.vigilStatus_hangSeen, .vigilHangCount_count])).rflag (f := .vigilStatus_hangSeen) (by decide) 0).count1
      (f := .vigilHangCount_count) (.inr (by decide)) 0 |>.events
  have huv : u.vig = s.vig := by subst hu; simp
  generalize hw : trouble .troubleLog_vigilHang 1 u = w
  have hwT : Told [.troubleLog_vigilHang, .troubleFirst_lcount, .troubleLast_lcount] u w := by
    subst hw
    exact Told.rfl.trouble (by decide) (by decide) (by decide) 1
  have hwl : rget w .troubleLog_vigilHang 0 = 1 := by
    subst hw
    exact (rget_trouble (by decide) (by decide) (by decide) 1 u).trans (or_one_mod_two _)
  have hwv : w.vig = s.vig := by subst hw; simpa using huv
  have hwe : s.io.events <:+ w.io.events := hue.trans hwT.events
  have hws : rget w .vigilStatus_hangSeen 0 = 1 := (hwT.regs _ 0 rfl (by decide)).trans hus
  clear hw
  split
  · have hT : Told [] w (raiseBoth 0x1001 0xD c det w) := Told.rfl.raiseBoth ..
    exact ⟨(hT.regs _ 0 rfl (by decide)).trans hws, (hT.regs _ 0 rfl (by decide)).trans hwl, (raiseBoth_reported 0x1001 0xD c det w).prior hwe,
      (by simp : (raiseBoth 0x1001 0xD c det w).vig = w.vig).trans hwv⟩
  · have hT : Told [] w (raise0 0x1001 0xD det w) := Told.rfl.raise0 ..
    exact ⟨(hT.regs _ 0 rfl (by decide)).trans hws, (hT.regs _ 0 rfl (by decide)).trans hwl, (raiseC_reported 0x1001 0xD 0 det w).prior hwe,
      (raise0_vig ..).trans hwv⟩

/-- The details with which a hang is reported. -/
def hangDetail (kind unit die c run : Nat) (tasks cls : List Nat) (s : State) : Nat :=
  let lowest := fun (l : List Nat) => l.foldl Nat.min (l.headD 0)
  let first := if kind = 8 then 0 else (firstReset kind unit die c cls s).level
  pack [(0, 4, kind), (4, 4, first), (8, 8, die), (16, 16, unit), (32, 16, (run? s run).elim 0 (·.graph)), (48, 16, lowest tasks)]

/-- The state in which the first reset of a hang begins. -/
def hangMarked (kind run : Nat) (tasks : List Nat) (s u : State) : State :=
  if kind = 0 then { u with vig := { u.vig with hung := u.vig.hung ++ (run? s run).elim [] (fun r => tasks.map (fun t => (r.q, r.seq, t))) } } else u

/-- The tasks that hang again. -/
def hangAgain (kind run : Nat) (tasks : List Nat) (s : State) : List Nat := if kind = 0 then hungBefore s run tasks else []

theorem execVigilHang_eq (kind unit die c run : Nat) (tasks cls : List Nat) (s : State) : execVigilHang kind unit die c run tasks cls s =
    if notHung kind die c run s || 8 < kind then .next s
    else if !(hangAgain kind run tasks s).isEmpty then
      .next (runFault run 0x26 ((hangAgain kind run tasks s).foldl Nat.min ((hangAgain kind run tasks s).headD 0)) (trouble .troubleLog_repeatHang 1
        (hangLogged kind c (hangDetail kind unit die c run tasks cls s) s)))
    else if kind = 8 then execMcTakeover false (hangLogged kind c (hangDetail kind unit die c run tasks cls s) s)
    else .next (beginReset (firstReset kind unit die c cls s) (hangMarked kind run tasks s (hangLogged kind c (hangDetail kind unit die c run tasks
        cls s) s))) :=
  rfl

/-- A takeover leaves F1 in charge, and keeps what was logged of the hang. -/
theorem mcTakeover_spec (b : Bool) (s : State) : ∃ t, execMcTakeover b s = .next t ∧ rget t .mcStatus_controller 0 ≠ 0 ∧
    rget t .vigilStatus_hangSeen 0 = rget s .vigilStatus_hangSeen 0 ∧ rget t .troubleLog_vigilHang 0 = rget s .troubleLog_vigilHang 0 ∧
    s.io.events <:+ t.io.events := by
  unfold execMcTakeover
  split
  · next h => exact ⟨s, rfl, by omega, rfl, rfl, List.suffix_rfl⟩
  · dsimp only
    generalize hu : rset .mcStatus_controller 0 1 (rflag .mcFlags_takeoverSeen 0 s) = u
    have huc : rget u .mcStatus_controller 0 = 1 := by subst hu; exact rget_rset_same _ _ _ _ (by decide)
    have huT : Told [.mcStatus_controller, .mcFlags_takeoverSeen] s u := by
      subst hu
      exact (Told.rfl.rflag (f := .mcFlags_takeoverSeen) (by decide) 0).rset (f := .mcStatus_controller) (.inr (by decide)) ..
    generalize hv : ({ u with ctl := { u.ctl with f0Fenced := true, missed := if b then u.ctl.missed else 5 }, io := { u.io with latch := [] } } :
        State) = v
    have hvS : Steady 2 u v := by subst hv; exact Steady.refl.face
    have hw := (hvS.count1 (f := .mcStatus_takeoverCount) (by decide) 0).trouble (f := .troubleLog_takeover) (by decide) 1
    generalize trouble .troubleLog_takeover 1 (count1 .mcStatus_takeoverCount 0 v) = w at hw ⊢
    have ht := (hw.raise0 0x0101 0 (pf 0 1 1 + pf 8 8 (rget w .mcStatus_takeoverCount 0))).urgent.rewriteReplies.keptDoorbells
    have hr := (ht.standing (by decide)).regs
    exact ⟨_, rfl, by rw [rget_eq, hr _ 0 rfl, ← rget_eq, huc]; decide, (hr .vigilStatus_hangSeen 0 rfl).trans (huT.regs _ 0 rfl (by decide)),
      (hr .troubleLog_vigilHang 0 rfl).trans (huT.regs _ 0 rfl (by decide)), huT.events.trans ht.events⟩

/-- A reset that begins keeps what was logged; where no other is in progress, it is the one that is. -/
theorem beginReset_kept (r : ResetInfo) (s : State) : Restarted downFlds s { beginReset r s with vig := s.vig } ∧
    (s.vig.resets = [] → (beginReset r s).vig.resets = [r] ∧ (r.level = 4 → rget (beginReset r s) .mcStatus_ready 0 = 0)) := by
  cases hc : s.vig.resets.any (fun x => covers x r) with
  | true =>
    have he : beginReset r s = s := if_pos hc
    rw [he]
    refine ⟨.rfl, fun h => ?_⟩
    rw [h] at hc
    cases hc
  | false =>
    rw [beginReset_of_uncovered hc]
    generalize hu : ({ s with vig := { s.vig with resets := s.vig.resets.filter (fun x => !covers r x) ++ [r] } } : State) = u
    obtain ⟨h1, -, h3⟩ := startReset_spec r u
    refine ⟨?_, fun h => ⟨h1.resets.trans ?_, fun h4 => (h3 h4).1⟩⟩
    · subst hu
      exact ⟨h1.regs, rfl, h1.under, h1.events, h1.outbox⟩
    · subst hu
      simp [h]

/-- A hang that is declared goes on in one of three ways. -/
theorem vigilHang_declared {kind die c run : Nat} (unit : Nat) (tasks cls : List Nat) (hn : notHung kind die c run s = false) (hk : kind ≤ 8) :
    leadsTo (.vigilHang kind unit die c run tasks cls) s (fun t => rget t .vigilStatus_hangSeen 0 = 1 ∧
      rget t .troubleLog_vigilHang 0 = 1 ∧ reported s t 0x1001 (if kind < 6 then c else 0) ∧
      (kind = 8 → rget t .mcStatus_controller 0 ≠ 0) ∧
      (kind = 0 → hungBefore s run tasks ≠ [] → rget t .troubleLog_repeatHang 0 = 1) ∧
      (kind ≠ 8 → (kind = 0 → hungBefore s run tasks = []) → s.vig.resets = [] → t.vig.resets = [firstReset kind unit die c cls s])) := by
  obtain ⟨h1, h2, h3, h4⟩ := hangLogged_spec kind c (hangDetail kind unit die c run tasks cls s) s
  have hcond : ¬ (notHung kind die c run s || decide (8 < kind)) = true := by simp [hn, hk]
  have he := (exec_vigilHang kind unit die c run tasks cls s).trans ((execVigilHang_eq ..).trans (if_neg hcond))
  generalize hangLogged kind c (hangDetail kind unit die c run tasks cls s) s = u at h1 h2 h3 h4 he
  by_cases ha : hangAgain kind run tasks s = []
  · have hkb : kind = 0 → hungBefore s run tasks = [] := fun hk0 => by rwa [hangAgain, if_pos hk0] at ha
    replace he := he.trans (if_neg (by rw [ha]; decide))
    by_cases h8 : kind = 8
    · obtain ⟨t, ht, k1, k2, k3, k4⟩ := mcTakeover_spec false u
      exact ⟨t, he.trans ((if_pos h8).trans ht), k2.trans h1, k3.trans h2, h3.suffix k4, fun _ => k1, fun h0 => absurd (h0.symm.trans h8) (by decide),
        fun h => absurd h8 h⟩
    · replace he := he.trans (if_neg h8)
      have hm : Steady 2 u (hangMarked kind run tasks s u) := by
        unfold hangMarked
        split
        · exact Steady.refl.face
        · exact .refl
      have hmr := (hm.standing (by decide)).resets
      have hme := hm.events
      have hm1 := ((hm.standing (by decide)).regs .vigilStatus_hangSeen 0 rfl).trans h1
      have hm2 := ((hm.standing (by decide)).regs .troubleLog_vigilHang 0 rfl).trans h2
      generalize hangMarked kind run tasks s u = v at he hmr hme hm1 hm2
      obtain ⟨hR, hone⟩ := beginReset_kept (firstReset kind unit die c cls s) v
      refine ⟨_, he, (hR.regs _ 0 rfl (by decide) (by decide)).trans hm1, (hR.regs _ 0 rfl (by decide) (by decide)).trans hm2,
        h3.suffix (hme.trans hR.events), fun h => absurd h h8, fun h0 hne => absurd (hkb h0) hne, fun _ _ hr => (hone ?_).1⟩
      rw [hmr, h4, hr]
  · have hk0 : kind = 0 := by
      by_contra h
      exact ha (if_neg h)
    have hne : hungBefore s run tasks ≠ [] := fun h => ha (by rw [hangAgain, if_pos hk0, h])
    replace he := he.trans (if_pos (by simpa using ha))
    generalize hw : trouble .troubleLog_repeatHang 1 u = w at he
    have hwT : Told [.troubleLog_repeatHang, .troubleFirst_lcount, .troubleLast_lcount] u w := by
      subst hw
      exact Told.rfl.trouble (by decide) (by decide) (by decide) 1
    have hwr : rget w .troubleLog_repeatHang 0 = 1 := by
      subst hw
      exact (rget_trouble (by decide) (by decide) (by decide) 1 u).trans (or_one_mod_two _)
    have hS := (Steady.refl (K := 2) (s := w)).runFault run 0x26 ((hangAgain kind run tasks s).foldl Nat.min ((hangAgain kind run tasks s).headD 0))
    have hr := (hS.standing (by decide)).regs
    exact ⟨_, he, (hr .vigilStatus_hangSeen 0 rfl).trans ((hwT.regs _ 0 rfl (by decide)).trans h1),
      (hr .troubleLog_vigilHang 0 rfl).trans ((hwT.regs _ 0 rfl (by decide)).trans h2), h3.suffix (hwT.events.trans hS.events),
      fun h8 => absurd (hk0.symm.trans h8) (by decide), fun _ _ => (hr .troubleLog_repeatHang 0 rfl).trans hwr, fun _ h _ => absurd (h hk0) hne⟩

/-- The first reset of Table 16.1. -/
theorem firstReset_level {kind : Nat} (unit die c : Nat) (cls : List Nat) (hk : kind ≤ 8) (h8 : kind ≠ 8) (s : State) :
    let r := firstReset kind unit die c cls s
    (kind < 6 → r.level ≤ 1 ∧ (0 < kind → r.level = 0) ∧ r.ctx = some c) ∧ (6 ≤ kind → r.level = 3) := by
  unfold firstReset
  dsimp only
  split
  · next h =>
    refine ⟨fun _ => ⟨?_, fun h0 => absurd h (by omega), by split <;> rfl⟩, fun h6 => absurd h (by omega)⟩
    split
    · exact Nat.le_refl 1
    · exact Nat.zero_le 1
  · split
    · next h =>
      rw [Bool.or_eq_true, decide_eq_true_eq, decide_eq_true_eq] at h
      exact ⟨fun h6 => absurd h (by omega), fun _ => rfl⟩
    · next h =>
      rw [Bool.or_eq_true, decide_eq_true_eq, decide_eq_true_eq] at h
      exact ⟨fun _ => ⟨Nat.zero_le _, fun _ => rfl, rfl⟩, fun h6 => absurd h (by omega)⟩

/-- The next level of Table 16.2 depends on the reset alone, and names the same unit. -/
theorem nextReset_level (r : ResetInfo) (s t : State) : (nextReset r t).level = (nextReset r s).level ∧ (nextReset r t).unit = r.unit ∧
    (nextReset r t).die = r.die := by
  unfold nextReset
  dsimp only
  split
  · split <;> exact ⟨rfl, rfl, rfl⟩
  · split <;> exact ⟨rfl, rfl, rfl⟩

theorem nextReset_above {r : ResetInfo} (h : r.level < 4) (s : State) : r.level < (nextReset r s).level ∧ (nextReset r s).level ≤ 4 := by
  unfold nextReset
  dsimp only
  split
  · next h0 =>
    rw [h0]
    split
    · exact ⟨Nat.zero_lt_two, show 2 ≤ 4 by decide⟩
    · exact ⟨Nat.zero_lt_one, show 1 ≤ 4 by decide⟩
  · split
    · next h1 =>
      simp only [Bool.or_eq_true, Bool.and_eq_true, decide_eq_true_eq] at h1
      exact ⟨show r.level < 3 by omega, show 3 ≤ 4 by decide⟩
    · exact ⟨h, le_refl 4⟩

/-- The reset in progress is found by its level and unit. -/
theorem resetAt_only {r : ResetInfo} (hr : s.vig.resets = [r]) : resetAt s r.level r.unit = some r := by
  rw [resetAt, hr]
  simp

/-- What is logged and reported of a missed deadline. -/
def escLogged (r : ResetInfo) (n : Nat) (s : State) : State :=
  raise0 0x1003 0xD (pack [(0, 4, r.level), (4, 4, n), (8, 8, resetDie r), (16, 16, r.unit)])
    (trouble .troubleLog_esc (2 ^ r.level) (rflag .vigilStatus_escalationSeen 0 s))

theorem escLogged_spec (r : ResetInfo) (n : Nat) (s : State) : rget (escLogged r n s) .vigilStatus_escalationSeen 0 = 1 ∧
    reported s (escLogged r n s) 0x1003 0 ∧ (escLogged r n s).vig = s.vig ∧
    Told [.vigilStatus_escalationSeen, .troubleLog_esc, .troubleFirst_lcount, .troubleLast_lcount] s (escLogged r n s) := by
  unfold escLogged
  generalize hu : trouble .troubleLog_esc (2 ^ r.level) (rflag .vigilStatus_escalationSeen 0 s) = u
  have hT : Told [.vigilStatus_escalationSeen, .troubleLog_esc, .troubleFirst_lcount, .troubleLast_lcount] s u := by
    subst hu
    exact (Told.rfl.rflag (f := .vigilStatus_escalationSeen) (by decide) 0).trouble (by decide) (by decide) (by decide) _
  have hs : rget u .vigilStatus_escalationSeen 0 = 1 := by
    subst hu
    have k : Told [.troubleLog_esc, .troubleFirst_lcount, .troubleLast_lcount] (rflag .vigilStatus_escalationSeen 0 s)
        (trouble .troubleLog_esc (2 ^ r.level) (rflag .vigilStatus_escalationSeen 0 s)) := Told.rfl.trouble (by decide) (by decide) (by decide) _
    exact (k.regs _ 0 rfl (by decide)).trans (rget_rset_same _ _ _ _ (by decide))
  have hv : u.vig = s.vig := by subst hu; simp
  have hz : Told [] u (raise0 0x1003 0xD (pack [(0, 4, r.level), (4, 4, n), (8, 8, resetDie r), (16, 16, r.unit)]) u) := Told.rfl.raise0 ..
  exact ⟨(hz.regs _ 0 rfl (by decide)).trans hs, (raiseC_reported 0x1003 0xD 0 _ u).prior hT.events, (raise0_vig ..).trans hv, hT.trans (hz.mono (by
      decide))⟩

/-- The state in which the next level begins: the one that missed its deadline is over. -/
def escNext (r : ResetInfo) (n : Nat) (s : State) : State :=
  let s1 := escLogged r n s
  let s2 := { s1 with vig := { s1.vig with resets := s1.vig.resets.filter (fun x => x != r) } }
  if n = 4 then urgent s2 else s2

/-- The level after a missed deadline as it is reported. -/
def escLevel (r : ResetInfo) (s : State) : Nat := if r.level = 4 then 5 else (nextReset r s).level

theorem execResetEscalated_eq {r : ResetInfo} (hu : s.pow.under = false) (hr : s.vig.resets = [r]) : execResetEscalated r.level r.unit s =
    if r.level = 4 then .next (cyclePower { escNext r (escLevel r s) s with
      vig := { (escNext r (escLevel r s) s).vig with resets := (escLogged r (escLevel r s) s).vig.resets } })
    else .next (beginReset (nextReset r (escNext r (escLevel r s) s)) (escNext r (escLevel r s) s)) := by
  unfold execResetEscalated
  rw [hu, resetAt_only hr]
  rfl

theorem execResetEscalated_below {r : ResetInfo} (hu : s.pow.under = false) (hr : s.vig.resets = [r]) (hl : r.level < 4) :
    execResetEscalated r.level r.unit s = .next (beginReset (nextReset r (escNext r (nextReset r s).level s)) (escNext r (nextReset r s).level s)) :=
        by
  have hn : escLevel r s = (nextReset r s).level := if_neg (by omega)
  rw [execResetEscalated_eq hu hr, if_neg (by omega), hn]

theorem escNext_spec {r : ResetInfo} (n : Nat) (hr : s.vig.resets = [r]) : (escNext r n s).vig.resets = [] ∧
    rget (escNext r n s) .vigilStatus_escalationSeen 0 = 1 ∧ reported s (escNext r n s) 0x1003 0 := by
  obtain ⟨h1, h2, h3, -⟩ := escLogged_spec r n s
  unfold escNext
  dsimp only
  generalize hu : ({ escLogged r n s with vig := { (escLogged r n s).vig with resets := (escLogged r n s).vig.resets.filter (fun x => x != r) } } :
      State) = u
  have hv : u.vig.resets = [] := by subst hu; simp [h3, hr]
  have hs : rget u .vigilStatus_escalationSeen 0 = 1 := by subst hu; exact h1
  have he : reported s u 0x1003 0 := by subst hu; exact h2
  have hT : Told [] u (urgent u) := Told.rfl.urgent
  split
  · exact ⟨by simpa using hv, (hT.regs _ 0 rfl (by decide)).trans hs, he.suffix hT.events⟩
  · exact ⟨hv, hs, he⟩

theorem resetEscalated_below {r : ResetInfo} (hu : s.pow.under = false) (hr : s.vig.resets = [r]) (hl : r.level < 4) :
    leadsTo (.resetEscalated r.level r.unit) s (fun t => rget t .vigilStatus_escalationSeen 0 = 1 ∧
      (∃ x, t.vig.resets = [x] ∧ x.level = (nextReset r s).level ∧ x.unit = r.unit ∧ x.die = r.die) ∧
      r.level < (nextReset r s).level ∧ (nextReset r s).level ≤ 4 ∧ ((nextReset r s).level = 4 → rget t .mcStatus_ready 0 = 0) ∧
      reported s t 0x1003 0) := by
  refine ⟨_, (exec_resetEscalated ..).trans (execResetEscalated_below hu hr hl), ?_⟩
  obtain ⟨h1, h2, h3⟩ := escNext_spec (nextReset r s).level hr
  generalize escNext r (nextReset r s).level s = u at h1 h2 h3 ⊢
  obtain ⟨k1, k2, k3⟩ := nextReset_level r s u
  obtain ⟨hR, hone⟩ := beginReset_kept (nextReset r u) u
  obtain ⟨hres, hready⟩ := hone h1
  obtain ⟨ha, hb⟩ := nextReset_above hl s
  exact ⟨(hR.regs .vigilStatus_escalationSeen 0 rfl (by decide) (by decide)).trans h2, ⟨_, hres, k1, k2, k3⟩, ha, hb, fun h4 => hready (k1.trans h4),
    h3.suffix hR.events⟩

theorem cyclePower_spec (s : State) : (cyclePower s).boot.cycleReq = true ∧ rget (cyclePower s) .troubleLog_cycleReq 0 = 1 ∧
    (cyclePower s).vig = s.vig ∧ s.io.events <:+ (cyclePower s).io.events ∧
    (rget s .troubleCycles_count 0 < 2 ^ 32 - 1 → rget (cyclePower s) .troubleCycles_count 0 = rget s .troubleCycles_count 0 + 1) := by
  unfold cyclePower
  dsimp only
  have hA : Told [] s (almSeal 2 s) := Told.rfl.almSeal 2
  have hAv : (almSeal 2 s).vig = s.vig := by
    unfold almSeal
    dsimp only
    split
    · rfl
    · split <;> rfl
  generalize almSeal 2 s = u at hA hAv ⊢
  generalize hw : trouble .troubleLog_cycleReq 1 u = w
  have hwT : Told [.troubleLog_cycleReq, .troubleFirst_lcount, .troubleLast_lcount] u w := by
    subst hw
    exact Told.rfl.trouble (by decide) (by decide) (by decide) 1
  have hwl : rget w .troubleLog_cycleReq 0 = 1 := by
    subst hw
    exact (rget_trouble (by decide) (by decide) (by decide) 1 u).trans (or_one_mod_two _)
  have hwv : w.vig = u.vig := by subst hw; simp
  have hwc : rget w .troubleCycles_count 0 = rget s .troubleCycles_count 0 := (hwT.regs _ 0 rfl (by decide)).trans (hA.regs _ 0 rfl (by decide))
  clear hw
  have hc : Told [.troubleCycles_count] w (count1 .troubleCycles_count 0 w) := Told.rfl.count1 (f := .troubleCycles_count) (.inr (by decide)) 0
  refine ⟨rfl, (hc.regs .troubleLog_cycleReq 0 rfl (by decide)).trans hwl, ?_, hA.events.trans (hwT.events.trans hc.events), fun hn => ?_⟩
  · exact (by simp : (count1 .troubleCycles_count 0 w).vig = w.vig).trans (hwv.trans hAv)
  · exact (rget_count1_next rfl (by decide) rfl (by rw [hwc]; exact hn)).trans (by rw [hwc])

theorem resetEscalated_last {r : ResetInfo} (hu : s.pow.under = false) (hr : s.vig.resets = [r]) (hl : r.level = 4) :
    leadsTo (.resetEscalated 4 r.unit) s (fun t => t.boot.cycleReq = true ∧ rget t .troubleLog_cycleReq 0 = 1 ∧ reported s t 0x1003 0 ∧
      t.vig.resets = [r] ∧ (rget s .troubleCycles_count 0 < 2 ^ 32 - 1 → rget t .troubleCycles_count 0 = rget s .troubleCycles_count 0 + 1)) := by
  have he := (exec_resetEscalated r.level r.unit s).trans ((execResetEscalated_eq hu hr).trans (if_pos hl))
  rw [hl] at he
  refine ⟨_, he, ?_⟩
  have h5 : escLevel r s = 5 := if_pos hl
  rw [h5]
  obtain ⟨h1, h2, h3, h4⟩ := escLogged_spec r 5 s
  have hx : escNext r 5 s = { escLogged r 5 s with vig := { (escLogged r 5 s).vig with resets := (escLogged r 5 s).vig.resets.filter (fun x => x !=
      r) } } :=
    by
      unfold escNext
      exact if_neg (by decide)
  generalize hy : ({ escNext r 5 s with vig := { (escNext r 5 s).vig with resets := (escLogged r 5 s).vig.resets } } : State) = y
  have hyr : y.regs = (escLogged r 5 s).regs := by subst hy; rw [hx]
  have hyv : y.vig.resets = [r] := by subst hy; exact (congrArg Vig.resets h3).trans hr
  have hye : reported s y 0x1003 0 := by subst hy; rw [hx]; exact h2
  have hyc : rget y .troubleCycles_count 0 = rget s .troubleCycles_count 0 := (by rw [rget_eq, hyr] : rget y .troubleCycles_count 0 = _).trans
    (h4.regs .troubleCycles_count 0 rfl (by decide))
  obtain ⟨k1, k2, k3, k4, k5⟩ := cyclePower_spec y
  exact ⟨k1, k2, hye.suffix k4, (congrArg Vig.resets k3).trans hyv, fun hn => (k5 (by rw [hyc]; exact hn)).trans (by rw [hyc])⟩

/-- What is logged and reported of a completed reset. -/
def resetLogged (r : ResetInfo) (us : Nat) (s : State) : State :=
  let s1 := { s with vig := { s.vig with resets := s.vig.resets.filter (fun x => x != r) } }
  let s2 := trouble .troubleLog_reset (2 ^ r.level) (count1 .vigilResetCount_count r.level s1)
  let s3 := rset .troubleLastUnit_level 0 r.level (rset .troubleLastUnit_kind 0 r.kind (rset .troubleLastUnit_index 0 r.unit s2))
  let det := pack [(0, 4, r.level), (8, 8, resetDie r), (16, 16, r.unit), (32, 8, if 3 ≤ r.level then 0xFF else r.ctx.getD 0xFF), (40, 24, satTo 24
      us)]
  if r.level = 0 then raiseBoth 0x1002 0xD (r.ctx.getD 0) det s3 else raise0 0x1002 0xD det s3

theorem execResetDone_eq {r : ResetInfo} (us : Nat) (hu : s.pow.under = false) (hr : s.vig.resets = [r]) : execResetDone r.level r.unit us s =
    .next (r.ctxs.foldl (fun s c => ackReset c (recover (r.level == 4) c (sendTokens c s)))
      (if r.level = 4 then moduleUp (resetLogged r us s) else resetLogged r us s)) := by
  unfold execResetDone
  rw [hu, resetAt_only hr]
  rfl

theorem resetLogged_spec {r : ResetInfo} (us : Nat) (hr : s.vig.resets = [r]) (hl : r.level ≤ 4) (hn : r.unit < 65536) :
    (resetLogged r us s).vig.resets = [] ∧ rget (resetLogged r us s) .troubleLastUnit_level 0 = r.level ∧
    rget (resetLogged r us s) .troubleLastUnit_index 0 = r.unit ∧ reported s (resetLogged r us s) 0x1002 (if r.level = 0 then r.ctx.getD 0 else 0) ∧
    (rget s .vigilResetCount_count r.level < 2 ^ 32 - 1 →
      rget (resetLogged r us s) .vigilResetCount_count r.level = rget s .vigilResetCount_count r.level + 1) := by
  unfold resetLogged
  dsimp only
  generalize h1 : ({ s with vig := { s.vig with resets := s.vig.resets.filter (fun x => x != r) } } : State) = s1
  have hc : rget s .vigilResetCount_count r.level < 2 ^ 32 - 1 →
      rget (count1 .vigilResetCount_count r.level s1) .vigilResetCount_count r.level = rget s .vigilResetCount_count r.level + 1 := fun h => by
    subst h1
    exact rget_count1_next rfl (show r.level < fldCount .vigilResetCount_count from Nat.lt_of_le_of_lt hl (by decide)) rfl h
  have hv1 : s1.vig.resets = [] := by subst h1; simp [hr]
  have he1 : s1.io.events = s.io.events := by subst h1; rfl
  have hk : Told [.vigilResetCount_count] s1 (count1 .vigilResetCount_count r.level s1) := Told.rfl.count1 (f := .vigilResetCount_count) (.inr (by
      decide)) _
  have hkv : (count1 .vigilResetCount_count r.level s1).vig = s1.vig := by simp
  generalize count1 .vigilResetCount_count r.level s1 = u at hc hk hkv ⊢
  have hw : Told [.troubleLog_reset, .troubleFirst_lcount, .troubleLast_lcount] u (trouble .troubleLog_reset (2 ^ r.level) u) :=
    Told.rfl.trouble (by decide) (by decide) (by decide) _
  have hwv : (trouble .troubleLog_reset (2 ^ r.level) u).vig = u.vig := by simp
  generalize trouble .troubleLog_reset (2 ^ r.level) u = w at hw hwv ⊢
  generalize hx : rset .troubleLastUnit_level 0 r.level (rset .troubleLastUnit_kind 0 r.kind (rset .troubleLastUnit_index 0 r.unit w)) = x
  have hxl : rget x .troubleLastUnit_level 0 = r.level := by
    subst hx
    exact (rget_rset_same _ _ _ _ (by decide)).trans (Nat.mod_eq_of_lt (show r.level < 2 ^ 4 by omega))
  have hxi : rget x .troubleLastUnit_index 0 = r.unit := by
    subst hx
    rw [rget_eq, regAt_rset_other _ _ _ _ (by decide), regAt_rset_other _ _ _ _ (by decide), regAt_rset_same _ _ (by decide)]
    exact Nat.mod_eq_of_lt hn
  have hxc : rget x .vigilResetCount_count r.level = rget u .vigilResetCount_count r.level := by
    subst hx
    rw [rget_eq, regAt_rset_other _ _ _ _ (by decide), regAt_rset_other _ _ _ _ (by decide), regAt_rset_other _ _ _ _ (by decide)]
    exact hw.regs _ _ rfl (by decide)
  have hxv : x.vig.resets = [] := by subst hx; exact (congrArg Vig.resets (hwv.trans hkv)).trans hv1
  have hxe : s.io.events <:+ x.io.events := by
    subst hx
    exact (he1 ▸ List.suffix_rfl : s.io.events <:+ s1.io.events).trans (hk.events.trans hw.events)
  clear hx
  split
  · generalize hd : pack _ = d
    have hT : Told [] x (raiseBoth 0x1002 0xD (r.ctx.getD 0) d x) := Told.rfl.raiseBoth ..
    exact ⟨(congrArg Vig.resets (raiseBoth_vig ..)).trans hxv, (hT.regs _ 0 rfl (by decide)).trans hxl, (hT.regs _ 0 rfl (by decide)).trans hxi,
      (raiseBoth_reported ..).prior hxe, fun h => ((hT.regs _ _ rfl (by decide)).trans hxc).trans (hc h)⟩
  · generalize hd : pack _ = d
    have hT : Told [] x (raise0 0x1002 0xD d x) := Told.rfl.raise0 ..
    exact ⟨(congrArg Vig.resets (raise0_vig ..)).trans hxv, (hT.regs _ 0 rfl (by decide)).trans hxl, (hT.regs _ 0 rfl (by decide)).trans hxi,
      (raiseC_reported 0x1002 0xD 0 _ x).prior hxe, fun h => ((hT.regs _ _ rfl (by decide)).trans hxc).trans (hc h)⟩

/-- The module accepts again after its reset: its state and role are set, and what else follows keeps them. -/
theorem moduleUp_spec (s : State) : rget (moduleUp s) .mcStatus_ready 0 = 1 ∧ rget (moduleUp s) .mcStatus_controller 0 = 0 ∧
    Restarted [.mcStatus_ready, .mcStatus_controller] s (moduleUp s) := by
  unfold moduleUp
  dsimp only
  generalize hu : rset .mcStatus_controller 0 0 (rset .mcStatus_ready 0 1
    { s with fab := { s.fab with notice := false }, ctl := { s.ctl with f0Fenced := false, missed := 0 } }) = u
  have hur : rget u .mcStatus_ready 0 = 1 := by
    subst hu
    exact (regAt_rset_other _ _ _ _ (by decide)).trans (rget_rset_same _ _ _ _ (by decide))
  have huc : rget u .mcStatus_controller 0 = 0 := by
    subst hu
    exact rget_rset_same _ _ _ _ (by decide)
  have huR : Restarted [.mcStatus_ready, .mcStatus_controller] s u := by
    subst hu
    exact ((Restarted.rfl.of_eq).rset (by decide) ..).rset (by decide) ..
  clear hu
  have h2 : Steady 2 u (keptDoorbells (rewriteReplies (lateDisables (count1 .troubleModuleResets_count 0 u)))) :=
    ((Steady.refl.count1 (f := .troubleModuleResets_count) (by decide) 0).lateDisables (by decide)).rewriteReplies.keptDoorbells
  generalize keptDoorbells (rewriteReplies (lateDisables (count1 .troubleModuleResets_count 0 u))) = v at h2 ⊢
  have hw : Steady 2 u (if v.pow.told then raise0 0x0F01 4 (6 + pf 8 16 (rget v .pwrInput_voltage 0)) { v with pow := { v.pow with told := false } }
      else v) :=
    .ite (Steady.raise0 h2.face ..) h2
  have hg := (hw.standing (by decide)).regs
  exact ⟨(hg .mcStatus_ready 0 rfl).trans hur, (hg .mcStatus_controller 0 rfl).trans huc, huR.trans hw.restarted⟩

theorem resetDone_leads {r : ResetInfo} (us : Nat) (hu : s.pow.under = false) (hr : s.vig.resets = [r]) (hl : r.level ≤ 4) (hn : r.unit < 65536) :
    leadsTo (.resetDone r.level r.unit us) s (fun t => t.vig.resets = [] ∧ rget t .troubleLastUnit_level 0 = r.level ∧
      rget t .troubleLastUnit_index 0 = r.unit ∧ reported s t 0x1002 (if r.level = 0 then r.ctx.getD 0 else 0) ∧
      (rget s .vigilResetCount_count r.level < 2 ^ 32 - 1 → rget t .vigilResetCount_count r.level = rget s .vigilResetCount_count r.level + 1) ∧
      (r.level = 4 → rget t .mcStatus_ready 0 = 1 ∧ rget t .mcStatus_controller 0 = 0)) := by
  refine ⟨_, (exec_resetDone ..).trans (execResetDone_eq us hu hr), ?_⟩
  obtain ⟨h1, h2, h3, h4, h5⟩ := resetLogged_spec us hr hl hn
  generalize resetLogged r us s = u at h1 h2 h3 h4 h5 ⊢
  have hup : Restarted [.mcStatus_ready, .mcStatus_controller] u (if r.level = 4 then moduleUp u else u) := by
    split
    · exact (moduleUp_spec u).2.2
    · exact .rfl
  have hus : r.level = 4 → rget (if r.level = 4 then moduleUp u else u) .mcStatus_ready 0 = 1 ∧
      rget (if r.level = 4 then moduleUp u else u) .mcStatus_controller 0 = 0 := fun h => by
    rw [if_pos h]
    exact ⟨(moduleUp_spec u).1, (moduleUp_spec u).2.1⟩
  generalize (if r.level = 4 then moduleUp u else u) = v at hup hus ⊢
  have hf : Steady 2 v (r.ctxs.foldl (fun s c => ackReset c (recover (r.level == 4) c (sendTokens c s))) v) :=
    Steady.foldl (f := fun s c => ackReset c (recover (r.level == 4) c (sendTokens c s))) .refl
      (fun _ _ h => ((h.sendTokens ..).recover ..).ackReset (by decide) ..) _
  have hR := hup.trans hf.restarted
  have hg := (hf.standing (by decide)).regs
  exact ⟨hR.resets.trans h1, (hR.regs .troubleLastUnit_level 0 rfl (by decide) (by decide)).trans h2,
    (hR.regs .troubleLastUnit_index 0 rfl (by decide) (by decide)).trans h3, h4.suffix hR.events,
    fun h => (hR.regs .vigilResetCount_count r.level rfl (by decide) (by decide)).trans (h5 h),
    fun h => ⟨(hg .mcStatus_ready 0 rfl).trans (hus h).1, (hg .mcStatus_controller 0 rfl).trans (hus h).2⟩⟩

end

/-- Settles O55. -/
theorem hangsAndResets : Obligations.HangsAndResets := by
  unfold Obligations.HangsAndResets
  intro s
  refine ⟨fun kind unit die c run tasks cls => ⟨fun h => ?_, fun hn hk => ?_⟩, fun level unit h => noEffect_reset h, fun r unit hu hr he => ?_⟩
  · exact (exec_vigilHang kind unit die c run tasks cls s).trans ((execVigilHang_eq ..).trans (if_pos (by simpa using h)))
  · obtain ⟨t, ht, h1, h2, h3, h4, h5, h6⟩ := vigilHang_declared unit tasks cls hn hk
    exact ⟨t, ht, h1, h2, h3, h4, h5, fun h8 ha hr => ⟨h6 h8 ha hr, firstReset_level unit die c cls hk h8 s⟩⟩
  · subst he
    exact ⟨fun hl => resetEscalated_below hu hr hl, fun hl => resetEscalated_last hu hr hl, fun us hl hn => resetDone_leads us hu hr hl hn⟩


end Sys2Proof.Machine
end

section
/-! PROOFS. The functions of the host interface (O57). -/

namespace Sys2Proof.Machine

section
variable {s : State} {fn : Nat}

/-! ### Bus mastering -/

theorem exec_busMasterEnableClear (fn : Nat) (s : State) : exec (.busMasterEnableClear fn) s =
    .next (if fnUp s fn then setDmaBit fn 1 true s else s) := rfl

theorem exec_busMasterEnableSet (fn : Nat) (s : State) : exec (.busMasterEnableSet fn) s =
    .next (if fnUp s fn then resumeFn fn (setDmaBit fn 1 false s) else s) := rfl

theorem exec_d3hot (fn : Nat) (s : State) : exec (.d3hot fn) s =
    .next (if fnUp s fn then setDmaBit fn 2 true s else s) := rfl

theorem exec_d0Entry (fn : Nat) (s : State) : exec (.d0Entry fn) s =
    .next (if fnUp s fn then resumeFn fn (setDmaBit fn 2 false s) else s) := rfl

theorem exec_functionLevelReset (fn : Nat) (s : State) : exec (.functionLevelReset fn) s =
    .next (if fnUp s fn then flrBegin fn s else s) := rfl

theorem exec_functionLevelResetDone (fn : Nat) (s : State) : exec (.functionLevelResetDone fn) s =
    .next (if !s.host.flr.contains fn then s else
      if fn = 0 then
        ((fnConfigReset fn { s with host := { s.host with flr := s.host.flr.filter (fun n => n != fn) } }).host.disabling.map Prod.fst).foldl
          (fun s n => reportDisable n s) (fnConfigReset fn { s with host := { s.host with flr := s.host.flr.filter (fun n => n != fn) } })
      else reportDisable fn (fnConfigReset fn { s with host := { s.host with flr := s.host.flr.filter (fun n => n != fn) } })) := rfl

theorem exec_vfEnableSet (n : Nat) (s : State) : exec (.vfEnableSet n) s =
    .next (if 63 < n || !fnUp s 0 || rget s .hostifVf_enable 0 = 1 then s else rset .hostifVf_enable 0 1 (rset .hostifVf_numVfs 0 n s)) := rfl

theorem exec_vfEnableClear (s : State) : exec .vfEnableClear s =
    .next (if rget s .hostifVf_enable 0 = 0 || !fnUp s 0 then s else (vfsOf s).foldl (fun s n => reportDisable n s) (dropVfs s)) := rfl

theorem exec_hotReset (s : State) : exec .hotReset s =
    .next (hostLinkEvent true (if fnUp s 0 then flrBegin 0 s else rflag .hostifStatus_flrSeen 0 s)) := rfl

theorem exec_pcieLinkDown (s : State) : exec .pcieLinkDown s =
    .next (if rget s .hostifLink_up 0 = 0 then s else hostLinkEvent false (rflag .hostifStatus_linkDownSeen 0 (setHostLink 0 0 0 0 s))) := rfl

theorem exec_pcieLinkUp (w r : Nat) (fl : Bool) (s : State) : exec (.pcieLinkUp w r fl) s =
    .next (if !([16, 8, 4].contains w) || r = 0 || 6 < r || phase s = 0 || phase s = 3 ||
        (rget s .hostifLink_up 0 == 1 && rget s .hostifLink_width 0 == w && rget s .hostifLink_rate 0 == r) then s
      else (List.range 64).foldl (fun s fn => resumeFn fn s) (hostLinkEvent false (setHostLink 1 w r (b2n fl) s))) := rfl

theorem exec_msixUnmask (fn k : Nat) (s : State) : exec (.msixUnmask fn k) s =
    .next (if fnUp (dropLatch fn s) fn && decide (k < 2048) then openVector fn k (dropLatch fn s) else dropLatch fn s) := rfl
theorem exec_bar4Resize (fn n : Nat) (s : State) : exec (.bar4Resize fn n) s = .next (if n < 30 || 40 < n || 63 < fn then s
    else { s with host := if fn = 0 then { s.host with bar4Pf := n } else { s.host with bar4Vf := n } }) := rfl
/-- A pending message sent. -/
def sendOne (fn : Nat) (s : State) (k : Nat) : State :=
  emit (.msix fn (k % 2048)) { s with host := { s.host with msixPend := sset false s.host.msixPend k false } }

theorem sendPending_eq (fn : Nat) (s : State) : sendPending fn s = if noDma s fn then s else
    ((s.host.msixPend.map Prod.fst).filter (fun k => k / 2048 == fn && sget false s.host.msixOpen k)).foldl (sendOne fn) s := rfl

theorem Told.foldl_sendOne {F : List Fld} {t : State} (h : Told F s t) (l : List Nat) : Told F s (l.foldl (sendOne fn) t) :=
  List.foldlRecOn _ _ (motive := Told F s) h fun u hu k _ =>
    have hp : Told F u { u with host := { u.host with msixPend := sset false u.host.msixPend k false } } :=
      ⟨fun _ _ _ _ => Eq.refl _, List.suffix_rfl, List.prefix_rfl, fun _ => Eq.refl _, Eq.refl _, Eq.refl _, Eq.refl _⟩
    (hu.trans hp).emit _

theorem Told.sendPending {F : List Fld} {t : State} (h : Told F s t) (fn : Nat) : Told F s (sendPending fn t) := by
  rw [sendPending_eq]
  split
  · exact h
  · exact h.foldl_sendOne _

theorem pend_foldl_sendOne (k : Nat) (l : List Nat) (s : State) :
    sget false (l.foldl (sendOne fn) s).host.msixPend k = if k ∈ l then false else sget false s.host.msixPend k := by
  induction l generalizing s with
  | nil => rfl
  | cons a l ih =>
    rw [List.foldl_cons, ih, show (sendOne fn s a).host.msixPend = sset false s.host.msixPend a false from rfl, sget_sset]
    by_cases hk : k ∈ l
    · rw [if_pos hk, if_pos (List.mem_cons_of_mem _ hk)]
    · by_cases ha : k = a <;> simp [hk, ha]

theorem msix_mem_foldl_sendOne {k : Nat} {l : List Nat} (h : k ∈ l) (s : State) : OutMsg.msix fn (k % 2048) ∈ (l.foldl (sendOne fn) s).io.outbox := by
  obtain ⟨a, b, rfl⟩ := List.append_of_mem h
  rw [List.foldl_append, List.foldl_cons]
  exact (Told.rfl.foldl_sendOne (F := []) b).outbox.subset (List.mem_append_right _ (List.mem_singleton.2 rfl))

/-- A pending message of an open vector of a function that may send is sent. -/
theorem sendPending_sends {k : Nat} (hd : noDma s fn = false) (hk : k < 2048) (hp : sget false s.host.msixPend (fn * 2048 + k) = true)
    (ho : sget false s.host.msixOpen (fn * 2048 + k) = true) :
    .msix fn k ∈ (sendPending fn s).io.outbox ∧ sget false (sendPending fn s).host.msixPend (fn * 2048 + k) = false := by
  rw [sendPending_eq, hd, if_neg (by decide)]
  have hm : fn * 2048 + k ∈ s.host.msixPend.map Prod.fst := by
    rw [sget_eq_getD] at hp
    cases hv : sget? s.host.msixPend (fn * 2048 + k) with
    | none => rw [hv] at hp; cases hp
    | some v => exact List.mem_map_of_mem (eq_of_mem_svals hv)
  have hl : fn * 2048 + k ∈ (s.host.msixPend.map Prod.fst).filter (fun k => k / 2048 == fn && sget false s.host.msixOpen k) := by
    refine List.mem_filter.2 ⟨hm, ?_⟩
    rw [ho, Bool.and_true, beq_iff_eq]
    omega
  have hr : (fn * 2048 + k) % 2048 = k := by omega
  exact ⟨by simpa only [hr] using msix_mem_foldl_sendOne (fn := fn) hl s, (pend_foldl_sendOne ..).trans (if_pos hl)⟩

theorem Told.flushQueue {F : List Fld} {t : State} (h : Told F s t) (hF : accessFlds ⊆ F) (q : Nat) : Told F s (flushQueue q t) :=
  List.foldlRecOn _ _ (motive := Told F s) h fun _ hu _ _ => hu.replyOne hF q

/-- The fields that delivering replies and fetching packets may change. -/
def resumeFlds : List Fld := poisonFlds ++ accessFlds

theorem Told.resumeFn {t : State} (h : Told resumeFlds s t) (fn : Nat) : Told resumeFlds s (resumeFn fn t) := by
  unfold Machine.resumeFn
  split
  · exact h
  · exact List.foldlRecOn _ _ (motive := Told resumeFlds s) (h.sendPending fn) fun _ hu q _ =>
      (hu.flushQueue (List.subset_append_right ..) q).fetchLoop (List.subset_append_left ..) q _

theorem resumeFn_sends {k : Nat} (hd : noDma s fn = false) (hk : k < 2048) (hp : sget false s.host.msixPend (fn * 2048 + k) = true)
    (ho : sget false s.host.msixOpen (fn * 2048 + k) = true) : .msix fn k ∈ (resumeFn fn s).io.outbox := by
  unfold resumeFn
  rw [hd, if_neg (by decide)]
  have h : Told resumeFlds (sendPending fn s) ((fnQueues s fn).foldl (fun s q => fetchLoop q 32768 (flushQueue q s)) (sendPending fn s)) :=
    List.foldlRecOn _ _ (motive := Told resumeFlds (sendPending fn s)) .rfl fun _ hu q _ =>
      (hu.flushQueue (List.subset_append_right ..) q).fetchLoop (List.subset_append_left ..) q _
  exact h.outbox.subset (sendPending_sends hd hk hp ho).1

theorem dmaStops {b : Nat} {i : Instr} (hi : exec i s = .next (setDmaBit fn b true s)) :
    leadsTo i s (fun t => { t with host := { t.host with noDma := s.host.noDma } } = s ∧
      ∀ j, sget 1 t.host.noDma j = if j = fn then sget 1 s.host.noDma fn ||| b else sget 1 s.host.noDma j) :=
  ⟨_, hi, rfl, fun j => sget_sset 1 (sget 1 s.host.noDma fn ||| b) s.host.noDma fn j⟩

theorem dmaGoesOn {b : Nat} {i : Instr} (hi : exec i s = .next (resumeFn fn (setDmaBit fn b false s))) (hup : fnUp s fn = true) :
    leadsTo i s (fun t => sget 1 t.host.noDma fn = sget 1 s.host.noDma fn - (sget 1 s.host.noDma fn &&& b) ∧
      (sget 1 s.host.noDma fn = b → rget s .hostifLink_up 0 ≠ 0 → ∀ k, k < 2048 → sget false s.host.msixPend (fn * 2048 + k) = true →
        sget false s.host.msixOpen (fn * 2048 + k) = true → .msix fn k ∈ t.io.outbox)) := by
  refine ⟨_, hi, ?_, fun hv hl k hk hp ho => ?_⟩
  · have h : Told resumeFlds (setDmaBit fn b false s) (resumeFn fn (setDmaBit fn b false s)) := Told.rfl.resumeFn fn
    exact (congrArg (fun x => sget 1 x.noDma fn) h.host).trans (sget_sset_same 1 _ s.host.noDma fn)
  · refine resumeFn_sends (s := setDmaBit fn b false s) ?_ hk hp ho
    have hz : sget 1 (setDmaBit fn b false s).host.noDma fn = 0 := by
      refine (sget_sset_same 1 (sget 1 s.host.noDma fn - (sget 1 s.host.noDma fn &&& b)) s.host.noDma fn).trans ?_
      rw [hv, Nat.and_self, Nat.sub_self]
    have hup' : fnUp (setDmaBit fn b false s) fn = true := hup
    have hl' : rget (setDmaBit fn b false s) .hostifLink_up 0 ≠ 0 := hl
    simp [noDma, hz, hup', hl']

/-! ### Vectors and BAR 4 -/

theorem msixUnmask_sends {k : Nat} (hup : fnUp s fn = true) (hk : k < 2048) :
    leadsTo (.msixUnmask fn k) s (fun t => sget false t.host.msixOpen (fn * 2048 + k) = true ∧ t.mem = s.mem ∧
      (sget false s.host.msixPend (fn * 2048 + k) = true → noDma s fn = false → sget false t.host.msixPend (fn * 2048 + k) = false ∧
        .msix fn k ∈ t.io.outbox)) := by
  have hc : (fnUp (dropLatch fn s) fn && decide (k < 2048)) = true := by rw [fnUp_dropLatch, hup, decide_eq_true hk]; rfl
  refine ⟨_, (exec_msixUnmask fn k s).trans (congrArg _ (if_pos hc)), openVector_open .., ?_, fun hp hd => ?_⟩
  · unfold openVector
    rw [sendPending_eq]
    split
    · rfl
    · exact List.foldlRecOn _ _ (motive := fun t : State => t.mem = s.mem) rfl fun _ h _ _ => h
  · exact (sendPending_sends (s := { dropLatch fn s with host := { s.host with msixOpen := sset false s.host.msixOpen (fn * 2048 + k) true } })
      hd hk hp (sget_sset_same false true s.host.msixOpen (fn * 2048 + k))).symm

theorem msixUnmask_dropped {k : Nat} (h : fnUp s fn = false ∨ 2048 ≤ k) : leadsTo (.msixUnmask fn k) s (fun t => t = dropLatch fn s) := by
  refine ⟨_, (exec_msixUnmask fn k s).trans (congrArg _ (if_neg ?_)), rfl⟩
  rw [fnUp_dropLatch, Bool.and_eq_true, decide_eq_true_eq]
  rintro ⟨h1, h2⟩
  rcases h with h | h
  · rw [h] at h1; cases h1
  · omega

theorem bar4Resize_none {n : Nat} (h : n < 30 ∨ 40 < n ∨ 63 < fn) : noEffect (.bar4Resize fn n) s :=
  (exec_bar4Resize fn n s).trans (congrArg _ (if_pos (by simpa [or_assoc] using h)))

theorem bar4Resize_sets {n : Nat} (h1 : 30 ≤ n) (h2 : n ≤ 40) (h3 : fn ≤ 63) :
    leadsTo (.bar4Resize fn n) s (fun t => bar4Log t fn = n ∧ t.regs = s.regs ∧ t.mem = s.mem) := by
  refine ⟨_, (exec_bar4Resize fn n s).trans (congrArg _ (if_neg (by simp; omega))), ?_, rfl, rfl⟩
  unfold bar4Log
  by_cases h : fn = 0 <;> simp [h]

/-! ### Queues of a context that is disabled -/

theorem ne_of_mem_sdel {α : Type} {m : SMap α} {k : Nat} {p : Nat × α} (h : p ∈ sdel m k) : p.1 ≠ k := fun he => by
  have hs := isSome_sget?_of_mem h
  rw [he, sget?_sdel, if_pos rfl] at hs
  cases hs

theorem mem_modQueue {q : Nat} {f : Queue → Queue} {p : Nat × Queue} (h : p ∈ (modQueue q f s).ctl.queues) :
    (∃ x, p = (q, f x)) ∨ (p.1 ≠ q ∧ p ∈ s.ctl.queues) := by
  unfold modQueue at h
  split at h
  · next x _ => exact ((sins_mem ..).1 h).imp (fun h => ⟨x, h⟩) fun h => ⟨ne_of_mem_sdel h, mem_of_mem_sdel h⟩
  · next hn =>
    refine .inr ⟨fun he => ?_, h⟩
    have hs := isSome_sget?_of_mem h
    rw [he] at hs
    exact absurd (hs.symm.trans (congrArg Option.isSome hn)) (by decide)

theorem mem_foldl_modQueue {f : Queue → Queue} {p : Nat × Queue} (l : List Nat) (h : p ∈ (l.foldl (fun s q => modQueue q f s) s).ctl.queues) :
    (∃ x, p.2 = f x) ∨ (p.1 ∉ l ∧ p ∈ s.ctl.queues) := by
  induction l generalizing s with
  | nil => exact .inr ⟨List.not_mem_nil, h⟩
  | cons q l ih =>
    rcases ih h with h | ⟨h1, h2⟩
    · exact .inl h
    · rcases mem_modQueue h2 with ⟨x, rfl⟩ | ⟨h3, h4⟩
      · exact .inl ⟨x, rfl⟩
      · exact .inr ⟨fun hm => (List.mem_cons.1 hm).elim h3 h1, h4⟩

/-- Every queue of a context that is changed is one that the change made. -/
theorem mem_modQueues {c : Nat} {f : Queue → Queue} {p : Nat × Queue} (h : p ∈ (modQueues c f s).ctl.queues) (hc : p.2.ctx = c) : ∃ x, p.2 = f x :=
  (mem_foldl_modQueue _ h).resolve_right fun ⟨h1, h2⟩ =>
    h1 (List.mem_map.2 ⟨p, List.mem_filter.2 ⟨h2, beq_iff_eq.2 hc⟩, rfl⟩)

/-- Once a context is disabled its queues read state 4, and go on reading it. -/
theorem disableCtx_disables (r : State × Nat) (c : Nat) : ∀ p ∈ (disableCtx r c).1.ctl.queues, p.2.ctx = c → p.2.state = .disabled := by
  intro p hp hc
  unfold disableCtx disableCtxBut at hp
  dsimp only at hp
  generalize flushReplies c _ = u at hp
  have hm : ∀ p ∈ (modQueues c (fun x => { x with state := .disabled, heldReason := 0, fetched := [] }) u).ctl.queues, p.2.ctx = c → p.2.state =
      .disabled :=
    fun p hp hc => by
      obtain ⟨x, hx⟩ := mem_modQueues hp hc
      rw [hx]
  generalize modQueues c (fun x => { x with state := .disabled, heldReason := 0, fetched := [] }) u = v at hm hp
  have hS : Steady 3 v (if openCount r.1 c (fun x => !(fun _ => false) x) = 0 then sendTokens c v else trouble .troubleLog_disableInflight 1
      (sendTokens c v)) :=
    .ite (Steady.refl.sendTokens c) ((Steady.refl.sendTokens c).trouble (by decide) 1)
  obtain ⟨y, hy, h1, h2⟩ := (hS.serving (by decide)).queues p hp
  exact h2 (hm _ hy (h1.symm.trans hc))

theorem foldl_disableCtx_disables (l : List Nat) (r : State × Nat) {c : Nat} (hc : c ∈ l) :
    ∀ p ∈ (l.foldl disableCtx r).1.ctl.queues, p.2.ctx = c → p.2.state = .disabled := by
  intro p hp hpc
  obtain ⟨a, b, rfl⟩ := List.append_of_mem hc
  rw [List.foldl_append, List.foldl_cons] at hp
  generalize a.foldl disableCtx r = v at hp
  have hS : Steady 3 (disableCtx v c).1 (b.foldl disableCtx (disableCtx v c)).1 := Steady.refl.foldl_fst (fun _ c h => h.disableCtx c) _
  obtain ⟨y, hy, h1, h2⟩ := (hS.serving (by decide)).queues p hp
  exact h2 (disableCtx_disables v c _ hy (h1.symm.trans hpc))

/-! ### A function disabled -/

theorem disableFn_flr (fn : Nat) (s : State) : (disableFn fn s).host.flr = s.host.flr := by
  unfold disableFn
  dsimp only
  split
  · rfl
  · exact ((Steady.refl.foldl_fst (fun _ c h => h.disableCtx c) _ : Steady 3 s _).serving (by decide)).flr

/-- The disable of a function is noted, with the number of commands that it cut short where the module was ready. -/
theorem disableFn_disabling (fn : Nat) (s : State) : ∃ o, (disableFn fn s).host.disabling = s.host.disabling.filter (fun x => x.1 != fn) ++ [(fn, o)]
      ∧
    (rget s .mcStatus_ready 0 ≠ 0 → ∃ n, o = some n) := by
  unfold disableFn
  dsimp only
  split
  · next h => exact ⟨none, rfl, fun hn => absurd h hn⟩
  · have h := ((Steady.refl.foldl_fst (fun _ c h => h.disableCtx c) _ : Steady 3 s ((fnCtxs s fn).foldl disableCtx (s, 0)).1).serving (by
      decide)).disabling
    exact ⟨_, congrArg (fun l : List (Nat × Option Nat) => l.filter (fun x => x.1 != fn) ++ _) h, fun _ => ⟨_, rfl⟩⟩

theorem disableFn_queues {q : Nat} {z : Queue} (hr : rget s .mcStatus_ready 0 ≠ 0) (hz : queue? (disableFn fn s) q = some z)
    (hc : (ctx? s z.ctx).isSome = true) (hf : fnOf s z.ctx = fn) : z.state = .disabled := by
  obtain ⟨x, hx⟩ := Option.isSome_iff_exists.1 hc
  have hm : z.ctx ∈ fnCtxs s fn := by
    refine List.mem_map.2 ⟨(z.ctx, x), List.mem_filter.2 ⟨eq_of_mem_svals hx, beq_iff_eq.2 ?_⟩, rfl⟩
    rw [← hf, fnOf, hx]
    rfl
  have hz' : (q, z) ∈ (disableFn fn s).ctl.queues := eq_of_mem_svals hz
  unfold disableFn at hz'
  dsimp only at hz'
  rw [if_neg hr] at hz'
  exact foldl_disableCtx_disables _ _ hm _ hz' rfl

/-! ### VFs disabled -/

theorem fnConfigReset_flr (fn : Nat) (s : State) : (fnConfigReset fn s).host.flr = s.host.flr := by
  unfold fnConfigReset
  dsimp only
  split <;> rfl

theorem fnConfigReset_disabling (fn : Nat) (s : State) : (fnConfigReset fn s).host.disabling = s.host.disabling := by
  unfold fnConfigReset
  dsimp only
  split <;> rfl

theorem fnConfigReset_noDma (fn : Nat) (s : State) : sget 1 (fnConfigReset fn s).host.noDma fn = 1 := by
  unfold fnConfigReset
  dsimp only
  split <;> exact sget_sset_same 1 1 s.host.noDma fn

/-- The VFs disabled one after the other. -/
theorem foldl_disableFn_kept (l : List Nat) (s : State) :
    Steady 2 s (l.foldl (fun s n => disableFn n (fnConfigReset n s)) s) ∧
      (l.foldl (fun s n => disableFn n (fnConfigReset n s)) s).host.flr = s.host.flr :=
  List.foldlRecOn _ _ (motive := fun t : State => Steady 2 s t ∧ t.host.flr = s.host.flr) ⟨.refl, rfl⟩ fun u hu n _ =>
    ⟨(hu.1.fnConfigReset n).disableFn (by decide) n, (disableFn_flr ..).trans ((fnConfigReset_flr n u).trans hu.2)⟩

/-- The disable of a function is noted, and will be reported. -/
def DisableNoted (n : Nat) (s : State) : Prop := ∃ k, s.host.disabling.find? (fun x => x.1 == n) = some (n, some k)

theorem disableNoted_disableFn {n : Nat} {t : State} (hr : rget t .mcStatus_ready 0 ≠ 0) : DisableNoted n (disableFn n t) := by
  obtain ⟨o, ho, hs⟩ := disableFn_disabling n t
  obtain ⟨k, rfl⟩ := hs hr
  refine ⟨k, ?_⟩
  rw [ho, List.find?_append, List.find?_eq_none.2 fun x hx => by simpa using (List.mem_filter.1 hx).2]
  simp

theorem DisableNoted.disableFn {n m : Nat} {t : State} (h : DisableNoted n t) (hm : n ≠ m) : DisableNoted n (disableFn m t) := by
  obtain ⟨k, hk⟩ := h
  obtain ⟨o, ho, -⟩ := disableFn_disabling m t
  refine ⟨k, ?_⟩
  have hf : (t.host.disabling.filter (fun x => x.1 != m)).find? (fun x => x.1 == n) = some (n, some k) := by
    rw [List.find?_filter, ← hk]
    refine congrArg (fun p => t.host.disabling.find? p) (funext fun x => ?_)
    by_cases hx : x.1 = n
    · simp [hx, hm]
    · simp [hx]
  rw [ho, List.find?_append, hf]
  rfl

theorem disableNoted_foldl_disableFn {n : Nat} (l : List Nat) {s : State} (hr : rget s .mcStatus_ready 0 ≠ 0) (hn : n ∈ l ∨ DisableNoted n s) :
    DisableNoted n (l.foldl (fun s n => disableFn n (fnConfigReset n s)) s) := by
  induction l generalizing s with
  | nil => exact hn.resolve_left List.not_mem_nil
  | cons m l ih =>
    have hS : Steady 2 s (fnConfigReset m s) := Steady.refl.fnConfigReset m
    have hr1 : rget (fnConfigReset m s) .mcStatus_ready 0 ≠ 0 := fun h => hr (((hS.standing (by decide)).regs .mcStatus_ready 0 rfl).symm.trans h)
    have hS2 : Steady 2 s (disableFn m (fnConfigReset m s)) := hS.disableFn (by decide) m
    refine ih (fun h => hr (((hS2.standing (by decide)).regs .mcStatus_ready 0 rfl).symm.trans h)) ?_
    by_cases hm : n = m
    · subst hm
      exact .inr (disableNoted_disableFn hr1)
    · rcases hn with h | ⟨k, hk⟩
      · exact .inl ((List.mem_cons.1 h).resolve_left hm)
      · exact .inr (DisableNoted.disableFn ⟨k, (congrArg (fun l : List (Nat × Option Nat) => l.find? (fun x => x.1 == n)) (fnConfigReset_disabling m
      s)).trans hk⟩ hm)

theorem dropVfs_spec (s : State) : rget (dropVfs s) .hostifVf_enable 0 = 0 ∧ (dropVfs s).host.flr = s.host.flr.filter (fun n => n == 0) ∧
    (∀ f i, f.ofModule = true → f ≠ .hostifVf_enable → regAt (dropVfs s).regs f i = regAt s.regs f i) ∧ s.io.events <:+ (dropVfs s).io.events ∧
    (rget s .mcStatus_ready 0 ≠ 0 → ∀ n ∈ vfsOf s, DisableNoted n (dropVfs s)) := by
  unfold dropVfs
  dsimp only
  generalize hw : rset .hostifVf_enable 0 0 { s with host := { s.host with flr := s.host.flr.filter (fun n => n == 0) } } = w
  have h0 : rget w .hostifVf_enable 0 = 0 := by
    subst hw
    exact rget_rset_same _ _ _ _ (by decide)
  have hf : w.host.flr = s.host.flr.filter (fun n => n == 0) := by subst hw; simp
  have hr : ∀ f i, f ≠ .hostifVf_enable → regAt w.regs f i = regAt s.regs f i := fun f i hn => by
    subst hw
    exact regAt_rset_other _ _ _ _ hn
  have he : s.io.events <:+ w.io.events := by subst hw; simp
  clear hw
  obtain ⟨hS, hg⟩ := foldl_disableFn_kept (vfsOf s) w
  have hk := (hS.standing (by decide)).regs
  exact ⟨(hk _ 0 rfl).trans h0, hg.trans hf, fun f i hm hn => (hk f i hm).trans (hr f i hn), he.trans hS.events, fun hz n hn =>
    disableNoted_foldl_disableFn _ (fun h => hz ((hr _ 0 (by decide)).symm.trans h)) (.inl hn)⟩

/-! ### What was disabled is reported -/

/-- `t` is `s` after reports of disables. -/
structure Reports (s t : State) : Prop where
  regs : ∀ f i, f.tally = false → regAt t.regs f i = regAt s.regs f i
  events : s.io.events <:+ t.io.events
  host : { t.host with msixPend := s.host.msixPend, disabling := s.host.disabling } = s.host

theorem Reports.trans {s t u : State} (h : Reports s t) (k : Reports t u) : Reports s u :=
  ⟨fun f i hf => (k.regs f i hf).trans (h.regs f i hf), h.events.trans k.events, by rw [← h.host, ← k.host]⟩

theorem reportDisable_reports (fn : Nat) (s : State) : Reports s (reportDisable fn s) := by
  unfold reportDisable
  split
  · next n _ =>
    split
    · exact ⟨fun _ _ _ => rfl, List.suffix_rfl, rfl⟩
    · have h := (disabledEvent_reported 0 fn n (fnCtxs s fn)
        { s with host := { s.host with disabling := s.host.disabling.filter (fun x => x.1 != fn) } }).1
      exact ⟨fun f i hf => h.regs f i hf List.not_mem_nil, h.events,
        congrArg (fun x : HostIf => { x with disabling := s.host.disabling }) h.host⟩
  · exact ⟨fun _ _ _ => rfl, List.suffix_rfl, rfl⟩

theorem foldl_reportDisable_reports (l : List Nat) (s : State) : Reports s (l.foldl (fun s n => reportDisable n s) s) :=
  List.foldlRecOn _ _ (motive := Reports s) ⟨fun _ _ _ => rfl, List.suffix_rfl, rfl⟩ fun _ hu n _ => hu.trans (reportDisable_reports n _)

theorem reportDisable_reported {n k : Nat} (h : s.host.disabling.find? (fun x => x.1 == n) = some (n, some k)) (hf : n ∉ s.host.flr) :
    reported s (reportDisable n s) 0x1006 0 := by
  unfold reportDisable
  rw [h]
  dsimp only
  rw [if_neg (by simpa using hf)]
  exact (disabledEvent_reported 0 n k (fnCtxs s n) { s with host := { s.host with disabling := s.host.disabling.filter (fun x => x.1 != n) } }).2.2

theorem vfEnableClear_leads (hv : rget s .hostifVf_enable 0 ≠ 0) (hup : fnUp s 0 = true) :
    leadsTo .vfEnableClear s (fun t => rget t .hostifVf_enable 0 = 0 ∧ (∀ n, n ≠ 0 → fnUp t n = false) ∧
      (rget s .mcStatus_ready 0 ≠ 0 → vfsOf s ≠ [] → reported s t 0x1006 0)) := by
  refine ⟨_, (exec_vfEnableClear s).trans (congrArg _ (if_neg (by simp [hv, hup]))), ?_⟩
  obtain ⟨h1, h2, -, h4, h5⟩ := dropVfs_spec s
  have h0 : ∀ n ∈ vfsOf s, n ≠ 0 := fun n hn => by
    have := (List.mem_filter.1 hn).2
    rw [Bool.and_eq_true, bne_iff_ne] at this
    exact this.1
  generalize vfsOf s = l at h0 h5 ⊢
  generalize dropVfs s = u at h1 h2 h4 h5 ⊢
  have hR := foldl_reportDisable_reports l u
  have he := (hR.regs .hostifVf_enable 0 rfl).trans h1
  refine ⟨he, fun n hn => ?_, fun hr hl => ?_⟩
  · rw [fnUp, show rget _ .hostifVf_enable 0 = 0 from he]
    simp [hn]
  · obtain ⟨n, l, rfl⟩ := List.exists_cons_of_ne_nil hl
    obtain ⟨k, hk⟩ := h5 hr n (List.mem_cons_self ..)
    have hnf : n ∉ u.host.flr := fun hm => h0 n (List.mem_cons_self ..) (by rw [h2] at hm; simpa using (List.mem_filter.1 hm).2)
    exact ((reportDisable_reported hk hnf).prior h4).suffix (foldl_reportDisable_reports l _).events

theorem vfEnableSet_none {n : Nat} (h : 63 < n ∨ fnUp s 0 = false ∨ rget s .hostifVf_enable 0 = 1) : noEffect (.vfEnableSet n) s :=
  (exec_vfEnableSet n s).trans (congrArg _ (if_pos (by simpa [or_assoc] using h)))

theorem vfEnableSet_leads {n : Nat} (hn : n ≤ 63) (hup : fnUp s 0 = true) (hv : rget s .hostifVf_enable 0 ≠ 1) :
    leadsTo (.vfEnableSet n) s (fun t => { t with regs := s.regs } = s ∧ rget t .hostifVf_enable 0 = 1 ∧ rget t .hostifVf_numVfs 0 = n) :=
  ⟨_, (exec_vfEnableSet n s).trans (congrArg _ (if_neg (by simp [hup, hv]; omega))), rfl, rget_rset_same _ _ _ _ (by decide),
    (regAt_rset_other _ _ _ _ (by decide)).trans ((regAt_rset_same _ _ (by decide)).trans (Nat.mod_eq_of_lt (show n < 2 ^ 8 by omega)))⟩

/-! ### Function-level resets -/

/-- What a function-level reset marks before anything is disabled. -/
def flrMarked (fn : Nat) (s : State) : State :=
  trouble .troubleLog_flr 1 (rflag .hostifStatus_flrSeen 0 { s with host := { s.host with flr := s.host.flr ++ [fn] } })

theorem flrMarked_spec (fn : Nat) (s : State) : (flrMarked fn s).host.flr = s.host.flr ++ [fn] ∧ rget (flrMarked fn s) .hostifStatus_flrSeen 0 = 1 ∧
    rget (flrMarked fn s) .troubleLog_flr 0 = 1 ∧ rget (flrMarked fn s) .mcStatus_ready 0 = rget s .mcStatus_ready 0 ∧
    (flrMarked fn s).ctl = s.ctl ∧ s.io.events <:+ (flrMarked fn s).io.events := by
  unfold flrMarked
  generalize hu : rflag .hostifStatus_flrSeen 0 { s with host := { s.host with flr := s.host.flr ++ [fn] } } = u
  have hT : Told [.troubleLog_flr, .troubleFirst_lcount, .troubleLast_lcount] u (trouble .troubleLog_flr 1 u) :=
    Told.rfl.trouble (by decide) (by decide) (by decide) 1
  have hc : (trouble .troubleLog_flr 1 u).ctl = u.ctl := by
    unfold trouble
    dsimp only
    split <;> rfl
  refine ⟨(congrArg HostIf.flr hT.host).trans ?_, (hT.regs _ 0 rfl (by decide)).trans ?_,
    (rget_trouble (by decide) (by decide) (by decide) 1 u).trans (or_one_mod_two _), (hT.regs _ 0 rfl (by decide)).trans ?_, hc.trans ?_,
    List.IsSuffix.trans ?_ hT.events⟩ <;> subst hu
  · simp
  · exact rget_rset_same _ _ _ _ (by decide)
  · exact regAt_rflag_other _ _ _ (by decide)
  · rfl
  · simp

theorem flrBegin_eq (fn : Nat) (s : State) : flrBegin fn s =
    if fn = 0 then adminFields.foldl (fun s f => rset f 0 (fldReset f 0) s) (disableFn 0 (dropVfs (flrMarked fn s))) else disableFn fn (flrMarked fn
        s) := rfl

theorem foldl_adminFields (l : List Fld) (s : State) : (∀ f i, f ∉ l → regAt (l.foldl (fun s f => rset f 0 (fldReset f 0) s) s).regs f i = regAt
      s.regs f i) ∧
    (l.foldl (fun s f => rset f 0 (fldReset f 0) s) s).host = s.host ∧ (l.foldl (fun s f => rset f 0 (fldReset f 0) s) s).io = s.io := by
  induction l generalizing s with
  | nil => exact ⟨fun _ _ _ => rfl, rfl, rfl⟩
  | cons g l ih =>
    obtain ⟨h1, h2, h3⟩ := ih (rset g 0 (fldReset g 0) s)
    exact ⟨fun f i hf => (h1 f i fun hm => hf (List.mem_cons_of_mem _ hm)).trans (regAt_rset_other _ _ _ _ fun he => hf (he ▸ List.mem_cons_self ..)),
      h2.trans (rset_host ..), h3.trans (rset_io ..)⟩

theorem adminReset_disables (s : State) : rget (adminFields.foldl (fun s f => rset f 0 (fldReset f 0) s) s) .queueAdminCfg_enable 0 = 0 := by
  rw [show adminFields = [.queueAdminSqBase_addr, .queueAdminCqBase_addr, .queueAdminCfg_msix, .queueAdminCfg_cqLog2, .queueAdminCfg_sqLog2] ++
    [.queueAdminCfg_enable] from rfl, List.foldl_append]
  exact rget_rset_same _ _ _ _ (by decide)

theorem flrBegin_spec (fn : Nat) (s : State) : fn ∈ (flrBegin fn s).host.flr ∧ rget (flrBegin fn s) .hostifStatus_flrSeen 0 = 1 ∧
    rget (flrBegin fn s) .troubleLog_flr 0 = 1 ∧ s.io.events <:+ (flrBegin fn s).io.events ∧
    (fn = 0 → rget (flrBegin fn s) .queueAdminCfg_enable 0 = 0 ∧ rget (flrBegin fn s) .hostifVf_enable 0 = 0) := by
  rw [flrBegin_eq]
  obtain ⟨h1, h2, h3, -, -, h6⟩ := flrMarked_spec fn s
  generalize flrMarked fn s = u at h1 h2 h3 h6 ⊢
  have hm : fn ∈ u.host.flr := h1 ▸ List.mem_append_right _ (List.mem_singleton.2 rfl)
  split
  · next h0 =>
    obtain ⟨k1, k2, k3, k4, -⟩ := dropVfs_spec u
    generalize dropVfs u = v at k1 k2 k3 k4 ⊢
    have hS : Steady 2 v (disableFn 0 v) := Steady.refl.disableFn (by decide) 0
    have hg := (hS.standing (by decide)).regs
    have hl := disableFn_flr 0 v
    generalize disableFn 0 v = w at hS hg hl ⊢
    obtain ⟨a1, a2, a3⟩ := foldl_adminFields adminFields w
    refine ⟨?_, (a1 _ 0 (by decide)).trans ((hg _ 0 rfl).trans ((k3 _ 0 rfl (by decide)).trans h2)),
      (a1 _ 0 (by decide)).trans ((hg _ 0 rfl).trans ((k3 _ 0 rfl (by decide)).trans h3)), ?_, fun _ => ⟨adminReset_disables w,
      (a1 _ 0 (by decide)).trans ((hg _ 0 rfl).trans k1)⟩⟩
    · rw [a2, hl, k2]
      exact List.mem_filter.2 ⟨hm, beq_iff_eq.2 h0⟩
    · rw [a3]
      exact h6.trans (k4.trans hS.events)
  · next h0 =>
    have hS : Steady 2 u (disableFn fn u) := Steady.refl.disableFn (by decide) fn
    have hg := (hS.standing (by decide)).regs
    exact ⟨(disableFn_flr fn u).symm ▸ hm, (hg _ 0 rfl).trans h2, (hg _ 0 rfl).trans h3, h6.trans hS.events, fun h => absurd h h0⟩

theorem fnUp_of_flr (h : fn ∈ s.host.flr) : fnUp s fn = false := by
  rw [fnUp, List.contains_iff_mem.2 h]
  simp

theorem functionLevelReset_leads (hup : fnUp s fn = true) : leadsTo (.functionLevelReset fn) s (fun t => fn ∈ t.host.flr ∧ fnUp t fn = false ∧
    rget t .hostifStatus_flrSeen 0 = 1 ∧ rget t .troubleLog_flr 0 = 1 ∧
    (fn = 0 → rget t .queueAdminCfg_enable 0 = 0 ∧ rget t .hostifVf_enable 0 = 0) ∧
    (fn ≠ 0 → rget s .mcStatus_ready 0 ≠ 0 → ∀ q z, queue? t q = some z → (ctx? s z.ctx).isSome = true → fnOf s z.ctx = fn → z.state = .disabled)) :=
        by
  refine ⟨_, (exec_functionLevelReset fn s).trans (congrArg _ (if_pos hup)), ?_⟩
  obtain ⟨h1, h2, h3, -, h5⟩ := flrBegin_spec fn s
  refine ⟨h1, fnUp_of_flr h1, h2, h3, h5, fun h0 hr q z hz hc hf => ?_⟩
  obtain ⟨-, -, -, m1, m2, -⟩ := flrMarked_spec fn s
  rw [flrBegin_eq, if_neg h0] at hz
  refine disableFn_queues (by rw [m1]; exact hr) hz ?_ ?_
  · rw [ctx?, m2]; exact hc
  · rw [fnOf, ctx?, m2]; exact hf

theorem functionLevelResetDone_leads (hm : fn ∈ s.host.flr) : leadsTo (.functionLevelResetDone fn) s (fun t => fn ∉ t.host.flr ∧
    sget 1 t.host.noDma fn = 1 ∧ (fn = 0 → t.host.bar4Pf = 34 ∧ t.host.bar4Vf = 34) ∧
    (∀ n, fn ≠ 0 → s.host.disabling.find? (fun x => x.1 == fn) = some (fn, some n) → reported s t 0x1006 0)) := by
  refine ⟨_, (exec_functionLevelResetDone fn s).trans (congrArg _ (if_neg (by simpa using hm))), ?_⟩
  have hflr := fnConfigReset_flr fn { s with host := { s.host with flr := s.host.flr.filter (fun n => n != fn) } }
  have hdis := fnConfigReset_disabling fn { s with host := { s.host with flr := s.host.flr.filter (fun n => n != fn) } }
  have hdma := fnConfigReset_noDma fn { s with host := { s.host with flr := s.host.flr.filter (fun n => n != fn) } }
  have hbar : fn = 0 → (fnConfigReset fn { s with host := { s.host with flr := s.host.flr.filter (fun n => n != fn) } }).host.bar4Pf = 34 ∧
      (fnConfigReset fn { s with host := { s.host with flr := s.host.flr.filter (fun n => n != fn) } }).host.bar4Vf = 34 := fun h => by
    subst h
    exact ⟨rfl, rfl⟩
  have he : s.io.events <:+ (fnConfigReset fn { s with host := { s.host with flr := s.host.flr.filter (fun n => n != fn) } }).io.events :=
    (Steady.refl.fnConfigReset fn : Steady 0 { s with host := { s.host with flr := s.host.flr.filter (fun n => n != fn) } } _).events
  generalize fnConfigReset fn { s with host := { s.host with flr := s.host.flr.filter (fun n => n != fn) } } = u at hflr hdis hdma hbar he ⊢
  have hnf : fn ∉ u.host.flr := fun h => by
    rw [hflr] at h
    simpa using (List.mem_filter.1 h).2
  have hR : Reports u (if fn = 0 then (u.host.disabling.map Prod.fst).foldl (fun s n => reportDisable n s) u else reportDisable fn u) := by
    split
    · exact foldl_reportDisable_reports _ u
    · exact reportDisable_reports fn u
  have hh := hR.host
  refine ⟨?_, ?_, fun h0 => ?_, fun n h0 hn => ?_⟩
  · rw [show _ = u.host.flr from congrArg HostIf.flr hh]
    exact hnf
  · rw [show _ = u.host.noDma from congrArg HostIf.noDma hh]
    exact hdma
  · exact ⟨(congrArg HostIf.bar4Pf hh).trans (hbar h0).1, (congrArg HostIf.bar4Vf hh).trans (hbar h0).2⟩
  · rw [if_neg h0]
    exact (reportDisable_reported (by rw [hdis]; exact hn) hnf).prior he

/-! ### The link -/

theorem hostLinkEvent_told (hot : Bool) (s : State) : Told [] s (hostLinkEvent hot s) ∧ reported s (hostLinkEvent hot s) 0x1201 0 ∧
    (hostLinkEvent hot s).mem = s.mem := by
  unfold hostLinkEvent
  exact ⟨Told.rfl.raise0 .., raiseC_reported 0x1201 1 0 _ s, raise0_mem ..⟩

theorem hotReset_leads (s : State) :
    leadsTo .hotReset s (fun t => rget t .hostifStatus_flrSeen 0 = 1 ∧ reported s t 0x1201 0 ∧ (fnUp s 0 = true → 0 ∈ t.host.flr)) := by
  refine ⟨_, exec_hotReset s, ?_⟩
  obtain ⟨h1, h2, -, h4, -⟩ := flrBegin_spec 0 s
  have hs : rget (if fnUp s 0 then flrBegin 0 s else rflag .hostifStatus_flrSeen 0 s) .hostifStatus_flrSeen 0 = 1 := by
    split
    · exact h2
    · exact rget_rset_same _ _ _ _ (by decide)
  have he : s.io.events <:+ (if fnUp s 0 then flrBegin 0 s else rflag .hostifStatus_flrSeen 0 s).io.events := by
    split
    · exact h4
    · simp
  have hf : fnUp s 0 = true → 0 ∈ (if fnUp s 0 then flrBegin 0 s else rflag .hostifStatus_flrSeen 0 s).host.flr := fun h => by
    rw [if_pos h]
    exact h1
  generalize (if fnUp s 0 then flrBegin 0 s else rflag .hostifStatus_flrSeen 0 s) = u at hs he hf ⊢
  obtain ⟨hT, hr, -⟩ := hostLinkEvent_told true u
  exact ⟨(hT.regs _ 0 rfl (by decide)).trans hs, hr.prior he, fun h => (congrArg HostIf.flr hT.host).symm ▸ hf h⟩

theorem setHostLink_spec (up w r fl : Nat) (s : State) : rget (setHostLink up w r fl s) .hostifLink_up 0 = up % 2 ∧
    rget (setHostLink up w r fl s) .hostifLink_width 0 = w % 32 ∧ rget (setHostLink up w r fl s) .hostifLink_rate 0 = r % 8 ∧
    rget (setHostLink up w r fl s) .hostifLink_flit 0 = fl % 2 ∧ (setHostLink up w r fl s).mem = s.mem ∧ (setHostLink up w r fl s).io = s.io := by
  unfold setHostLink
  refine ⟨rget_rset_same _ _ _ _ (by decide), ?_, ?_, ?_, by simp, by simp⟩
  · rw [rget_eq, regAt_rset_other _ _ _ _ (by decide)]
    exact regAt_rset_same _ _ (by decide)
  · rw [rget_eq, regAt_rset_other _ _ _ _ (by decide), regAt_rset_other _ _ _ _ (by decide)]
    exact regAt_rset_same _ _ (by decide)
  · rw [rget_eq, regAt_rset_other _ _ _ _ (by decide), regAt_rset_other _ _ _ _ (by decide), regAt_rset_other _ _ _ _ (by decide)]
    exact regAt_rset_same _ _ (by decide)

theorem pcieLinkDown_leads (h : rget s .hostifLink_up 0 ≠ 0) : leadsTo .pcieLinkDown s (fun t => rget t .hostifLink_up 0 = 0 ∧
    rget t .hostifStatus_linkDownSeen 0 = 1 ∧ (∀ fn, noDma t fn = true) ∧ reported s t 0x1201 0 ∧ t.mem = s.mem) := by
  refine ⟨_, (exec_pcieLinkDown s).trans (congrArg _ (if_neg h)), ?_⟩
  obtain ⟨h1, -, -, -, h5, h6⟩ := setHostLink_spec 0 0 0 0 s
  generalize setHostLink 0 0 0 0 s = u at h1 h5 h6 ⊢
  obtain ⟨hT, hr, hm⟩ := hostLinkEvent_told false (rflag .hostifStatus_linkDownSeen 0 u)
  have hl := (hT.regs .hostifLink_up 0 rfl (by decide)).trans ((regAt_rflag_other _ _ _ (by decide)).trans h1)
  refine ⟨hl, (hT.regs _ 0 rfl (by decide)).trans (rget_rset_same _ _ _ _ (by decide)), fun fn => ?_, hr.prior ?_, hm.trans ?_⟩
  · rw [noDma, show rget _ .hostifLink_up 0 = 0 from hl]
    simp
  · simp [h6]
  · simpa using h5

theorem pcieLinkUp_none {w r : Nat} {fl : Bool} (h : w ∉ [16, 8, 4] ∨ r = 0 ∨ 6 < r ∨ phase s = 0 ∨ phase s = 3 ∨
    (rget s .hostifLink_up 0 = 1 ∧ rget s .hostifLink_width 0 = w ∧ rget s .hostifLink_rate 0 = r)) : noEffect (.pcieLinkUp w r fl) s := by
  refine (exec_pcieLinkUp w r fl s).trans (congrArg _ (if_pos ?_))
  simp only [Bool.or_eq_true, Bool.and_eq_true, decide_eq_true_eq, beq_iff_eq, Bool.not_eq_true', or_assoc, and_assoc, List.contains_eq_mem,
    decide_eq_false_iff_not]
  exact h

theorem pcieLinkUp_leads {w r : Nat} {fl : Bool} (hw : w ∈ [16, 8, 4]) (h1 : 1 ≤ r) (h6 : r ≤ 6) (hp0 : phase s ≠ 0) (hp3 : phase s ≠ 3)
    (hs : ¬ (rget s .hostifLink_up 0 = 1 ∧ rget s .hostifLink_width 0 = w ∧ rget s .hostifLink_rate 0 = r)) :
    leadsTo (.pcieLinkUp w r fl) s (fun t => rget t .hostifLink_up 0 = 1 ∧ rget t .hostifLink_width 0 = w ∧ rget t .hostifLink_rate 0 = r ∧
      rget t .hostifLink_flit 0 = b2n fl ∧ reported s t 0x1201 0) := by
  have hc : ¬ (!([16, 8, 4].contains w) || decide (r = 0) || decide (6 < r) || decide (phase s = 0) || decide (phase s = 3) ||
      (rget s .hostifLink_up 0 == 1 && rget s .hostifLink_width 0 == w && rget s .hostifLink_rate 0 == r)) = true := by
    simp only [Bool.or_eq_true, Bool.and_eq_true, decide_eq_true_eq, beq_iff_eq, Bool.not_eq_true', or_assoc, and_assoc, List.contains_eq_mem,
      decide_eq_false_iff_not]
    rintro (h | h | h | h | h | h)
    · exact h hw
    · omega
    · omega
    · exact hp0 h
    · exact hp3 h
    · exact hs h
  refine ⟨_, (exec_pcieLinkUp w r fl s).trans (congrArg _ (if_neg hc)), ?_⟩
  obtain ⟨k1, k2, k3, k4, -, k6⟩ := setHostLink_spec 1 w r (b2n fl) s
  generalize setHostLink 1 w r (b2n fl) s = u at k1 k2 k3 k4 k6 ⊢
  obtain ⟨hT, hr, -⟩ := hostLinkEvent_told false u
  generalize hostLinkEvent false u = v at hT hr ⊢
  have hR : Told resumeFlds v ((List.range 64).foldl (fun s fn => resumeFn fn s) v) :=
    List.foldlRecOn _ _ (motive := Told resumeFlds v) .rfl fun _ hu n _ => hu.resumeFn n
  have hg : ∀ f, f.tally = false → f ∉ resumeFlds → rget ((List.range 64).foldl (fun s fn => resumeFn fn s) v) f 0 = rget u f 0 :=
    fun f hf hn => (hR.regs f 0 hf hn).trans (hT.regs f 0 hf List.not_mem_nil)
  have hw32 : w < 32 := by
    simp at hw
    omega
  exact ⟨(hg _ rfl (by decide)).trans k1, (hg _ rfl (by decide)).trans (k2.trans (Nat.mod_eq_of_lt hw32)),
    (hg _ rfl (by decide)).trans (k3.trans (Nat.mod_eq_of_lt (by omega))), (hg _ rfl (by decide)).trans (k4.trans (by cases fl <;> rfl)),
    (hr.prior (by simp [k6])).suffix hR.events⟩

/-! ### CXL ports -/

/-- The fields of CXL_PORT. -/
def setCxlPort (m up pres w r : Nat) (s : State) : State :=
  rset .fdieCxlPort_up m up (rset .fdieCxlPort_present m pres (rset .fdieCxlPort_width m w (rset .fdieCxlPort_rate m r s)))

/-- A device answers at the port. -/
def setCxlDev (m : Nat) (dev : Bool) (ser cap : Word64) (s : State) : State :=
  if dev then rset .fdieCxlCapacity_bytes m cap.toNat { s with host := { s.host with cxlDev := sset 0 s.host.cxlDev m ser.toNat } } else s

/-- A device that is not the one whose range is mapped leaves no range mapped. -/
def unmapCxl (m : Nat) (dev : Bool) (ser : Word64) (s : State) : State :=
  if dev && sget 0 s.host.cxlMapped m != ser.toNat then rset .fdieCxlMapBytes_bytes m 0 (rset .fdieCxlMapBase_offset m 0 s) else s

theorem exec_cxlPortChanged (m : Nat) (up pres : Bool) (w r : Nat) (ser cap : Word64) (s : State) : exec (.cxlPortChanged m up pres w r ser cap) s =
    .next (if 4 ≤ m then s else cxlEvent m (unmapCxl m (up && pres) ser
      (if rget s .fdieCxlPort_up m = 1 && !up then
        rflag .fdieCxlStatus_downSeen m (setCxlDev m (up && pres) ser cap (setCxlPort m (b2n up) (b2n pres) (if up then w else 0) r s))
      else setCxlDev m (up && pres) ser cap (setCxlPort m (b2n up) (b2n pres) (if up then w else 0) r s)))) := rfl

section
variable {m : Nat} (hm : m < 4)
include hm

theorem setCxlPort_spec (up pres w r : Nat) (s : State) : rget (setCxlPort m up pres w r s) .fdieCxlPort_up m = up % 2 ∧
    rget (setCxlPort m up pres w r s) .fdieCxlPort_present m = pres % 2 ∧ rget (setCxlPort m up pres w r s) .fdieCxlPort_width m = w % 32 ∧
    rget (setCxlPort m up pres w r s) .fdieCxlPort_rate m = r % 8 ∧
    rget (setCxlPort m up pres w r s) .fdieCxlMapBytes_bytes m = rget s .fdieCxlMapBytes_bytes m ∧
    (setCxlPort m up pres w r s).host = s.host ∧ (setCxlPort m up pres w r s).mem = s.mem ∧ (setCxlPort m up pres w r s).io = s.io := by
  unfold setCxlPort
  refine ⟨rget_rset_same _ _ _ _ hm, ?_, ?_, ?_, ?_, by simp, by simp, by simp⟩
  · rw [rget_eq, regAt_rset_other _ _ _ _ (by decide)]
    exact regAt_rset_same _ _ hm
  · rw [rget_eq, regAt_rset_other _ _ _ _ (by decide), regAt_rset_other _ _ _ _ (by decide)]
    exact regAt_rset_same _ _ hm
  · rw [rget_eq, regAt_rset_other _ _ _ _ (by decide), regAt_rset_other _ _ _ _ (by decide), regAt_rset_other _ _ _ _ (by decide)]
    exact regAt_rset_same _ _ hm
  · rw [rget_eq, regAt_rset_other _ _ _ _ (by decide), regAt_rset_other _ _ _ _ (by decide), regAt_rset_other _ _ _ _ (by decide),
      regAt_rset_other _ _ _ _ (by decide)]
    rfl

theorem setCxlDev_spec (dev : Bool) (ser cap : Word64) (s : State) :
    (∀ f i, f ≠ .fdieCxlCapacity_bytes → regAt (setCxlDev m dev ser cap s).regs f i = regAt s.regs f i) ∧
    (setCxlDev m dev ser cap s).host.cxlMapped = s.host.cxlMapped ∧ (setCxlDev m dev ser cap s).mem = s.mem ∧
    (setCxlDev m dev ser cap s).io = s.io ∧ (dev = true → rget (setCxlDev m dev ser cap s) .fdieCxlCapacity_bytes m = cap.toNat ∧
      sget 0 (setCxlDev m dev ser cap s).host.cxlDev m = ser.toNat) := by
  unfold setCxlDev
  cases dev
  · exact ⟨fun _ _ _ => rfl, rfl, rfl, rfl, fun h => Bool.noConfusion h⟩
  · refine ⟨fun f i hf => regAt_rset_other _ _ _ _ hf, by simp, by simp, by simp, fun _ =>
      ⟨(rget_rset_same _ _ _ _ hm).trans (Nat.mod_eq_of_lt cap.isLt), ?_⟩⟩
    exact (congrArg (fun h : HostIf => sget 0 h.cxlDev m) (rset_host ..)).trans (sget_sset_same 0 ser.toNat s.host.cxlDev m)

theorem unmapCxl_spec (dev : Bool) (ser : Word64) (s : State) :
    (∀ f i, f ≠ .fdieCxlMapBytes_bytes → f ≠ .fdieCxlMapBase_offset → regAt (unmapCxl m dev ser s).regs f i = regAt s.regs f i) ∧
    (unmapCxl m dev ser s).host = s.host ∧ (unmapCxl m dev ser s).mem = s.mem ∧ (unmapCxl m dev ser s).io = s.io ∧
    (dev = true → sget 0 s.host.cxlMapped m ≠ ser.toNat →
      rget (unmapCxl m dev ser s) .fdieCxlMapBytes_bytes m = 0 ∧ rget (unmapCxl m dev ser s) .fdieCxlMapBase_offset m = 0) ∧
    (sget 0 s.host.cxlMapped m = ser.toNat → unmapCxl m dev ser s = s) := by
  unfold unmapCxl
  split
  · next h =>
    rw [Bool.and_eq_true, bne_iff_ne] at h
    exact ⟨fun f i h1 h2 => (regAt_rset_other _ _ _ _ h1).trans (regAt_rset_other _ _ _ _ h2), by simp, by simp, by simp,
      fun _ _ => ⟨rget_rset_same _ _ _ _ hm, (regAt_rset_other _ _ _ _ (by decide)).trans (rget_rset_same _ _ _ _ hm)⟩, fun he => absurd he h.2⟩
  · next h =>
    rw [Bool.and_eq_true, bne_iff_ne] at h
    exact ⟨fun _ _ _ _ => rfl, rfl, rfl, rfl, fun h1 h2 => absurd ⟨h1, h2⟩ h, fun _ => rfl⟩

theorem cxlPortChanged_leads {w r : Nat} (up pres : Bool) (ser cap : Word64) (hw : w < 32) (hr : r < 8) :
    leadsTo (.cxlPortChanged m up pres w r ser cap) s (fun t => rget t .fdieCxlPort_up m = b2n up ∧
      rget t .fdieCxlPort_present m = b2n pres ∧ rget t .fdieCxlPort_width m = (if up = true then w else 0) ∧ rget t .fdieCxlPort_rate m = r ∧
      reported s t 0x1202 0 ∧ t.mem = s.mem ∧ (rget s .fdieCxlPort_up m = 1 → up = false → rget t .fdieCxlStatus_downSeen m = 1) ∧
      (up = true → pres = true → rget t .fdieCxlCapacity_bytes m = cap.toNat ∧ sget 0 t.host.cxlDev m = ser.toNat ∧
        (sget 0 s.host.cxlMapped m ≠ ser.toNat → rget t .fdieCxlMapBytes_bytes m = 0 ∧ rget t .fdieCxlMapBase_offset m = 0) ∧
        (sget 0 s.host.cxlMapped m = ser.toNat → rget t .fdieCxlMapBytes_bytes m = rget s .fdieCxlMapBytes_bytes m))) := by
  refine ⟨_, (exec_cxlPortChanged m up pres w r ser cap s).trans (congrArg _ (if_neg (by omega))), ?_⟩
  obtain ⟨a1, a2, a3, a4, a5, a6, a7, a8⟩ := setCxlPort_spec hm (b2n up) (b2n pres) (if up then w else 0) r s
  generalize setCxlPort m (b2n up) (b2n pres) (if up then w else 0) r s = u at a1 a2 a3 a4 a5 a6 a7 a8 ⊢
  obtain ⟨b1, b2, b3, b4, b5⟩ := setCxlDev_spec hm (up && pres) ser cap u
  generalize setCxlDev m (up && pres) ser cap u = v at b1 b2 b3 b4 b5 ⊢
  generalize hx : (if rget s .fdieCxlPort_up m = 1 && !up then rflag .fdieCxlStatus_downSeen m v else v) = x
  have c1 : ∀ f i, f ≠ .fdieCxlStatus_downSeen → regAt x.regs f i = regAt v.regs f i := fun f i hf => by
    subst hx
    split
    · exact regAt_rflag_other _ _ _ hf
    · rfl
  have c2 : x.host = v.host ∧ x.mem = v.mem ∧ x.io = v.io := by
    subst hx
    split
    · exact ⟨by simp, by simp, by simp⟩
    · exact ⟨rfl, rfl, rfl⟩
  have c3 : rget s .fdieCxlPort_up m = 1 → up = false → rget x .fdieCxlStatus_downSeen m = 1 := fun h1 h2 => by
    subst hx
    rw [h1, h2]
    exact rget_rset_same _ _ _ _ hm
  clear hx
  obtain ⟨c2h, c2m, c2i⟩ := c2
  obtain ⟨d1, d2, d3, d4, d5, d6⟩ := unmapCxl_spec hm (up && pres) ser x
  generalize unmapCxl m (up && pres) ser x = y at d1 d2 d3 d4 d5 d6 ⊢
  have hT : Told [] y (cxlEvent m y) := by
    unfold cxlEvent
    exact Told.rfl.raise0 ..
  have hrep : reported y (cxlEvent m y) 0x1202 0 := by
    unfold cxlEvent
    exact raiseC_reported 0x1202 _ 0 _ y
  have hmem : (cxlEvent m y).mem = y.mem := by
    unfold cxlEvent
    exact raise0_mem ..
  have hio : y.io = s.io := d4.trans (c2i.trans (b4.trans a8))
  have hmap : x.host.cxlMapped = s.host.cxlMapped := (congrArg HostIf.cxlMapped c2h).trans (b2.trans (congrArg HostIf.cxlMapped a6))
  have hy : ∀ f, f.tally = false → f ≠ .fdieCxlMapBytes_bytes → f ≠ .fdieCxlMapBase_offset → rget (cxlEvent m y) f m = rget x f m :=
    fun f h1 h2 h3 => (hT.regs f m h1 List.not_mem_nil).trans (d1 f m h2 h3)
  have hu : ∀ f, f.tally = false → f ≠ .fdieCxlMapBytes_bytes → f ≠ .fdieCxlMapBase_offset → f ≠ .fdieCxlStatus_downSeen →
      f ≠ .fdieCxlCapacity_bytes → rget (cxlEvent m y) f m = rget u f m :=
    fun f h1 h2 h3 h4 h5 => (hy f h1 h2 h3).trans ((c1 f m h4).trans (b1 f m h5))
  refine ⟨(hu _ rfl (by decide) (by decide) (by decide) (by decide)).trans (a1.trans (by cases up <;> rfl)),
    (hu _ rfl (by decide) (by decide) (by decide) (by decide)).trans (a2.trans (by cases pres <;> rfl)),
    (hu _ rfl (by decide) (by decide) (by decide) (by decide)).trans (a3.trans (Nat.mod_eq_of_lt (by split <;> omega))),
    (hu _ rfl (by decide) (by decide) (by decide) (by decide)).trans (a4.trans (Nat.mod_eq_of_lt hr)), hrep.prior (by rw [hio]),
    hmem.trans (d3.trans (c2m.trans (b3.trans a7))), fun h1 h2 => (hy _ rfl (by decide) (by decide)).trans (c3 h1 h2), fun h1 h2 => ?_⟩
  have hd : (up && pres) = true := by rw [h1, h2]; rfl
  obtain ⟨e1, e2⟩ := b5 hd
  refine ⟨(hy _ rfl (by decide) (by decide)).trans ((c1 _ m (by decide)).trans e1), ?_, fun hne => ?_, fun heq => ?_⟩
  · rw [show _ = y.host.cxlDev from congrArg HostIf.cxlDev hT.host, d2, c2h]
    exact e2
  · obtain ⟨f1, f2⟩ := d5 hd (by rw [hmap]; exact hne)
    exact ⟨(hT.regs _ m rfl List.not_mem_nil).trans f1, (hT.regs _ m rfl List.not_mem_nil).trans f2⟩
  · rw [d6 (by rw [hmap]; exact heq)] at hT ⊢
    exact (hT.regs _ m rfl List.not_mem_nil).trans ((c1 _ m (by decide)).trans ((b1 _ m (by decide)).trans a5))

end

theorem noEffect_of_down {i : Instr} (h : fnUp s fn = false)
    (hi : i ∈ [Instr.busMasterEnableClear fn, .busMasterEnableSet fn, .d3hot fn, .d0Entry fn, .functionLevelReset fn]) : noEffect i s := by
  have hn : ¬ fnUp s fn = true := by rw [h]; decide
  simp only [List.mem_cons, List.not_mem_nil, or_false] at hi
  rcases hi with rfl | rfl | rfl | rfl | rfl
  · exact (exec_busMasterEnableClear fn s).trans (congrArg _ (if_neg hn))
  · exact (exec_busMasterEnableSet fn s).trans (congrArg _ (if_neg hn))
  · exact (exec_d3hot fn s).trans (congrArg _ (if_neg hn))
  · exact (exec_d0Entry fn s).trans (congrArg _ (if_neg hn))
  · exact (exec_functionLevelReset fn s).trans (congrArg _ (if_neg hn))

end

/-- Settles O57. -/
theorem hostFunctions : Obligations.HostFunctions := by
  unfold Obligations.HostFunctions
  intro s
  refine ⟨fun fn => ⟨fun h i hi => noEffect_of_down h hi, fun hup => ⟨fun p hp => ?_, fun p hp => ?_, functionLevelReset_leads hup⟩, fun h => ?_,
      functionLevelResetDone_leads, fun k h => msixUnmask_dropped h, fun k hup hk => msixUnmask_sends hup hk, fun n h => bar4Resize_none h,
      fun n h1 h2 h3 => bar4Resize_sets h1 h2 h3⟩,
    fun n => ⟨vfEnableSet_none, vfEnableSet_leads⟩, fun h => ?_, vfEnableClear_leads, hotReset_leads s, fun h => ?_, pcieLinkDown_leads,
    fun w r fl => ⟨pcieLinkUp_none, pcieLinkUp_leads⟩, fun m w r up pres ser cap => ⟨fun h => ?_, fun hm hw hr => cxlPortChanged_leads hm up pres ser
        cap hw hr⟩⟩
  · simp only [List.mem_cons, List.not_mem_nil, or_false] at hp
    rcases hp with rfl | rfl
    · exact dmaStops ((exec_busMasterEnableClear fn s).trans (congrArg _ (if_pos hup)))
    · exact dmaStops ((exec_d3hot fn s).trans (congrArg _ (if_pos hup)))
  · simp only [List.mem_cons, List.not_mem_nil, or_false] at hp
    rcases hp with rfl | rfl
    · exact dmaGoesOn ((exec_busMasterEnableSet fn s).trans (congrArg _ (if_pos hup))) hup
    · exact dmaGoesOn ((exec_d0Entry fn s).trans (congrArg _ (if_pos hup))) hup
  · exact (exec_functionLevelResetDone fn s).trans (congrArg _ (if_pos (by simpa using h)))
  · exact (exec_vfEnableClear s).trans (congrArg _ (if_pos (by simpa using h)))
  · exact (exec_pcieLinkDown s).trans (congrArg _ (if_pos h))
  · exact (exec_cxlPortChanged m up pres w r ser cap s).trans (congrArg _ (if_pos h))

end Sys2Proof.Machine
end
